-- ==== Sys2Proof/Word.lean ====
section
/-! DEFINITION. The word types of the register window and of the stores, and the shape of a sparse table. -/
namespace Sys2Proof

/-- A register of the window is 32 bits (R4). -/
abbrev Word := BitVec 32

/-- A byte of a store, a mailbox area or a frame. -/
abbrev Byte := BitVec 8

/-- A sparse table: (key, value) pairs, keys strictly rising, no entry equal to what an unlisted key reads as. -/
abbrev Tab (α : Type) := List (Nat × α)

end Sys2Proof
end

