-- ==== Sys2Proof/Syntax.lean ====
section
/-! DEFINITION. The commands of the block: one constructor a row of the command table, with the operands that say which instance,
which address and which data the outside gives it. -/
namespace Sys2Proof

/-- The path by which a write reaches the window: the PCIe host, the I2C target or the SPI target (R73, R111). -/
inductive Path where
  | pcie
  | i2c
  | spi
  deriving DecidableEq, Repr

/-- Which execution of a class C or D mailbox command is meant: the request accepted in mailbox `m`, or the running one that
completion record `r` names (R103, R104). -/
inductive Exec where
  | mailbox (m : Nat)
  | record (r : Nat)
  deriving DecidableEq, Repr


/-- The commands: one constructor a row of spec/opcode_table.json. -/
inductive Instr where
  /-- VDD_AON_POWER_ON (R57): The VDD_AON power-on detector releases and starts the Clearing House, the watch oscillator and the ERROR_N logic. -/
  | vddAonPowerOn
  /-- VDD_AON_POWER_LOSS (R82): VDD_AON falls below its power-on threshold, which erases the island, clears the Fault-Hold latch and resets the whole part. -/
  | vddAonPowerLoss
  /-- RAIL_OUT_OF_RANGE (R605): A supply rail stays outside its good window for 1 us, clears its GOOD bit and raises PWR_RAIL_ABSENT with the reaction that depends on the rail. -/
  | railOutOfRange (r : Nat)
  /-- RAIL_IN_RANGE (R58): A supply rail stays within its good window for 1 us, which sets its GOOD bit and can let the part leave Reset. -/
  | railInRange (r : Nat)
  /-- RESET_N_ASSERT (R51): A filtered low on RESET_N resets the part into Reset, or resets only PCIe and the Teller in Fault-Hold. -/
  | resetNAssert
  /-- PERST_N_ASSERT (R62): A filtered low on PERST_N resets the whole part when PERST_SCOPE is 0, or otherwise stops DMA, revokes grants and holds the PCIe interface in reset. -/
  | perstNAssert
  /-- RESET_RELEASE (R51): With RESET_N and PERST_N both released, all rails good and REFCLK_CORE qualified, the part starts its way from Reset to Loader. -/
  | resetRelease (resetN : Bool) (perstN : Bool)
  /-- PERST_N_RELEASE (R612): The release of PERST_N under PERST_SCOPE 1 makes the PCIe link train again. -/
  | perstNRelease
  /-- LOADER_READY (R60): PLL lock, qualification, self-test and PCIe training complete, and GLB_MODE reads 1 with BOOT_STATUS.READY set. -/
  | loaderReady (addr : Nat)
  /-- PCIE_LINK_UP (R612): The PCIe link finishes training and accesses complete from then on. -/
  | pcieLinkUp (speed : Nat) (width : Nat) (mps : Nat) (flit : Bool)
  /-- PCIE_LINK_DOWN (R492): The PCIe link leaves L0, which sets LINK_DOWN and stops channels that need a write-back. -/
  | pcieLinkDown
  /-- BUS_MASTER_ENABLE_CHANGE (R461): A change of Bus Master Enable holds every channel at its burst boundary or lets it continue. -/
  | busMasterEnableChange (on : Bool)
  /-- BOOT_BUFFER_WRITE (R70): A write to a boot page buffer stores data, or is rejected and counted when the buffer is not free or another path owns the download. -/
  | bootBufferWrite (off : Nat) (bs : List Byte)
  /-- BOOT_PAGE_GO (R68): Setting GO in BOOT_PAGE_CTL hands the buffer to the Loader for its CRC check. -/
  | bootPageGo (b : Nat) (index : Nat)
  /-- BOOT_PAGE_CHECK_DONE (R68): The Loader finishes a page check and either stores the page and counts it in PAGES_ACCEPTED or rejects it, then frees the buffer. -/
  | bootPageCheckDone (b : Nat)
  /-- BOOT_START (R71): Setting BOOT_CTL.START begins verification of the downloaded image. -/
  | bootStart
  /-- BOOT_VERIFY_DONE (R71): Verification ends and either moves the part on to Standby or records the first failing check and discards the image. -/
  | bootVerifyDone (unc : Bool)
  /-- BOOT_ABORT (R72): Setting BOOT_CTL.ABORT discards every accepted page and returns the boot window to its state at Loader ready. -/
  | bootAbort
  /-- SPI_WRITE (R73): SPI command 0x02 writes data on a single line to the boot window or MBX_0. -/
  | spiWrite (addr : Nat) (bs : List Byte)
  /-- SPI_QUAD_WRITE (R73): SPI command 0x32 writes data on quad lines to the boot window or MBX_0. -/
  | spiQuadWrite (addr : Nat) (bs : List Byte)
  /-- SPI_READ (R73): SPI command 0x0B reads the boot window or MBX_0 on a single line after 8 dummy clocks. -/
  | spiRead (addr : Nat) (n : Nat)
  /-- SPI_QUAD_READ (R73): SPI command 0x6B reads the boot window or MBX_0 on quad lines after 8 dummy clocks. -/
  | spiQuadRead (addr : Nat) (n : Nat)
  /-- MBX_DOORBELL (R87): A doorbell write is accepted, which sets BUSY, clears RESP_VALID and starts the deadline clock, or is dropped and counted. -/
  | mbxDoorbell (m : Nat) (seq : Nat)
  /-- MBX_AREA_WRITE (R88): A write to a mailbox request or response area is stored, or is ignored and counted while BUSY or when it targets the response area. -/
  | mbxAreaWrite (off : Nat) (bs : List Byte)
  /-- I2C_WRITE (R111): An I2C write transfer to the MBX_6 areas or controls takes effect, with a doorbell acting at the stop condition. -/
  | i2cWrite (addr : Nat) (off : Nat) (bs : List Byte)
  /-- I2C_READ (R110): An I2C read transfer returns MBX_6 areas, controls or the identity registers. -/
  | i2cRead (addr : Nat) (off : Nat) (n : Nat)
  /-- I2C_SCL_TIMEOUT (R614): SCL held low for 35 ms makes the target release SDA and end the transfer without effect. -/
  | i2cSclTimeout
  /-- TELLER_WATCHDOG (R102): The dispatcher reaches no scheduling point for 1 ms, and TLR_WATCHDOG is raised. -/
  | tellerWatchdog
  /-- GRANT_LEASE_EXPIRE (R115): A grant lease runs out, and the Teller revokes the grant and raises TLR_GRANT_EXPIRED. -/
  | grantLeaseExpire (u : Nat)
  /-- PATCH_INSTALL (R76): Once no command is executing, the Teller installs a checked patch, suspending command scheduling for at most 20 us. -/
  | patchInstall
  /-- TELLER_TRAP (R566): The Teller takes a non-maskable Clearing House trap at its next scheduling point. -/
  | tellerTrap
  /-- NOP (R118): Command 0x0100 returns its parameter bytes unchanged. -/
  | nop (m : Nat)
  /-- IDENTIFY (R118): Command 0x0101 returns the chip identity, versions, session, reset cause and mode. -/
  | identify (m : Nat)
  /-- MODE_REQUEST (R51): Command 0x0102 performs a requested mode transition and reports the mode reached in its completion record. -/
  | modeRequest (x : Exec)
  /-- ASYNC_RESULT (R105): Command 0x0104 returns a completion record and frees it unless KEEP is set. -/
  | asyncResult (m : Nat)
  /-- ABORT_COMMAND (R121): Command 0x0105 ends a named running command at its next scheduling point with ABORTED. -/
  | abortCommand (m : Nat)
  /-- HISTORY_READ (R116): Command 0x0110 returns entries of the mailbox history ring. -/
  | historyRead (m : Nat)
  /-- GRANT (R112): Command 0x0120 releases one grant unit to host writes in BAR2, with an optional lease. -/
  | grant (m : Nat)
  /-- REVOKE (R114): Command 0x0121 ends a grant after the host writes accepted before it and adopts the unit's registers. -/
  | revoke (m : Nat)
  /-- PATCH_LOAD (R75): Command 0x0140 fetches a patch by DMA, checks it, and queues it for installation. -/
  | patchLoad (x : Exec)
  /-- RESET_CONFIG (R77): Command 0x0141 sets PERST_SCOPE and the sticky SPI, patch and reload locks. -/
  | resetConfig (m : Nat)
  /-- CLOCK_CONFIG (R155): Command 0x0201 sets the qualification tolerance, disagreement count, fallback and auto-revert. -/
  | clockConfig (m : Nat)
  /-- CLOCK_SELECT (R156): Command 0x0202 switches a core or Teller domain to its primary or fallback source. -/
  | clockSelect (m : Nat)
  /-- WATCH_TRIM (R133): Command 0x0203 sets the watch oscillator trim mode, PPS pin and code. -/
  | watchTrim (m : Nat)
  /-- QUAL_INTERVAL_END (R126): A monitor's measurement interval of 2,048 slower-source cycles ends and is judged pass or fail. -/
  | qualIntervalEnd (i : Nat) (j : Nat) (count : Nat)
  /-- REF_LOSS (R129): A qualified source shows no edge in 64 comparison cycles and loses its qualification. -/
  | refLoss (i : Nat)
  /-- PLL_UNLOCK (R137): A PLL loses lock, sets UNLOCK and moves its domain to the fallback when enabled. -/
  | pllUnlock (k : Nat)
  /-- DOMAIN_SWITCH_DONE (R136): A domain switch restarts the domain 16 cycles of the new source after its 4-cycle stop. -/
  | domainSwitchDone (d : Nat)
  /-- WATCH_TRIM_ADJUST (R132): After 1,024 intervals, or a PPS interval, whose error exceeds 50 ppm, the watch trim code moves one step. -/
  | watchTrimAdjust (ppm : Int) (hz : Nat)
  /-- TOGGLE_ACK (R145): A toggle crossing's acknowledge arrives at the source and launches the next pending pulse. -/
  | toggleAck (d : Nat) (k : Nat) (pulses : Nat) (same : Bool)
  /-- BUNDLE_ACK (R148): A bundle crossing's acknowledge arrives and launches the waiting value. -/
  | bundleAck (d : Nat) (k : Nat) (vs : List Nat)
  /-- XING_RESET_TOKEN (R153): The reset-complete token of a crossing reaches the live side, which resumes normal operation. -/
  | xingResetToken (x : Nat) (offered : Nat)
  /-- CKG_SELECT_WRITE (R138): A granted write of CKG_DOMAIN_CFG.SELECT switches a domain as CLOCK_SELECT does. -/
  | ckgSelectWrite (d : Nat) (v : Nat)
  /-- LANE_CONFIG (R195): Command 0x0301 sets a lane's enable, rate, coding, squelch and equalisation overrides. -/
  | laneConfig (m : Nat)
  /-- EQ_TABLE_LOAD (R196): Command 0x0302 fetches and checks a board table and sets new equalisation targets. -/
  | eqTableLoad (x : Exec)
  /-- LANE_TEST (R191): Command 0x0303 sets pattern generators, checkers, injection and loopback in Test. -/
  | laneTest (m : Nat)
  /-- LANE_MARGIN_SCAN (R194): Command 0x0304 runs a margin scan over phase and offset points and writes the counts to host memory. -/
  | laneMarginScan (x : Exec)
  /-- STITCH_CONFIG (R188): Command 0x0305 sets a Stitch lane's replay limit and NAK timeout and may start a retrain. -/
  | stitchConfig (m : Nat)
  /-- LANE_TX_PLL_LOCK (R161): An enabled lane's transmit PLL locks, its codes load and its transmitter is unsquelched. -/
  | laneTxPllLock (n : Nat)
  /-- LANE_CDR_LOCK (R161): Clock and data recovery of a lane locks to a valid signal at the receiver. -/
  | laneCdrLock (n : Nat)
  /-- LANE_SIGNAL_LOSS (R161): A lane loses its signal for 1 us, or its clock recovery loses lock, setting LOS or CDR_UNLOCK. -/
  | laneSignalLoss (n : Nat) (cdr : Bool)
  /-- LANE_TEMP_REFRESH (R163): Every 1 us a quire's temperature is refreshed from its 16 nearest sensors. -/
  | laneTempRefresh (q : Nat)
  /-- LANE_BAND_EVAL (R164): Every 10 us each lane re-evaluates its temperature band with hysteresis and sets new targets. -/
  | laneBandEval (n : Nat)
  /-- LANE_EQ_STEP (R165): Every 10 us each equalisation code that differs from its target moves one code towards it. -/
  | laneEqStep (n : Nat)
  /-- LANE_INJ_FIRE (R192): Setting FIRE in LANE_INJ_CFG starts a single or burst error injection. -/
  | laneInjFire (n : Nat)
  /-- MARGIN_POINT_DONE (R194): A margin scan's dwell at one point ends, its count is written and the scan moves on or completes. -/
  | marginPointDone (n : Nat) (errs : Nat)
  /-- PCS_ALIGNMENT (R173): The Ethernet PCS gains or loses alignment-marker lock and deskew on a port. -/
  | pcsAlignment (p : Nat) (am : Nat) (skews : List Nat) (deskewed : Bool)
  /-- FEC_WINDOW_END (R175): A window of 2^WINDOW_LOG2 codewords ends and DEGRADED is set or cleared against THRESHOLD. -/
  | fecWindowEnd (p : Nat) (syms : Nat) (cor : Nat) (unc : Nat)
  /-- STITCH_BLOCK_RX (R178): A Stitch block arrives and drives the hunt for, gain of or loss of block lock. -/
  | stitchBlockRx (n : Nat) (valid : Bool) (stuff : Nat)
  /-- STITCH_CONTROL_BLOCK_RX (R183): A Stitch control block arrives and gives signature lock, ACKs, NAKs, retrain requests or training progress. -/
  | stitchControlBlockRx (n : Nat) (line : List Byte) (c : List Byte)
  /-- STITCH_SIGNATURE_RX (R182): A received signature completes its CRC check and either passes or starts a NAK. -/
  | stitchSignatureRx (n : Nat) (line : List Byte) (c : List Byte)
  /-- STITCH_SIGNATURE_TX (R186): A Stitch transmitter begins its next signature, numbered, replayed, idle or training. -/
  | stitchSignatureTx (n : Nat)
  /-- STITCH_NAK_TIMEOUT (R185): A replayed signature fails to arrive within NAK_TIMEOUT, which raises NAK_COUNT or starts a retrain. -/
  | stitchNakTimeout (n : Nat)
  /-- STCH_RETRAIN_WRITE (R188): Setting STCH_CTL.RETRAIN starts a retrain of the Stitch lane. -/
  | stchRetrainWrite (n : Nat)
  /-- PORT_CONFIG (R226): Command 0x0401 creates a port or changes its administrative state and limits. -/
  | portConfig (m : Nat)
  /-- PORT_DELETE (R202): Command 0x0402 takes a port down, discards its queues, disables its lanes and clears its MAC. -/
  | portDelete (m : Nat)
  /-- PFC_CONFIG (R227): Command 0x0403 sets PFC enables, quanta, storm watchdog, queue maps and source address. -/
  | pfcConfig (m : Nat)
  /-- PREEMPT_CONFIG (R228): Command 0x0404 sets frame preemption and its verify parameters and starts verification. -/
  | preemptConfig (m : Nat)
  /-- MAC_RX_FRAME (R624): A receive MAC takes in a frame, checks it, counts it and passes it on or discards it. -/
  | macRxFrame (p : Nat) (sfd : Bool) (code : Bool) (frags : Nat) (broken : Bool) (deskew : Nat) (bytes : List Byte)
  /-- PFC_FRAME_RX (R215): A valid PFC frame loads the pause timers of its enabled priorities. -/
  | pfcFrameRx (p : Nat) (vec : Nat) (times : List Nat)
  /-- PREEMPT_VERIFY_RX (R222): A verify or respond frame arrives, and a respond makes preemption active. -/
  | preemptVerifyRx (p : Nat) (respond : Bool)
  /-- FAULT_SIGNAL_RX (R205): Local or remote fault signalling is received, the port goes down and the MAC answers with remote fault or idle. -/
  | faultSignalRx (p : Nat) (loc : Bool) (rem : Bool)
  /-- PORT_LINK_LOSS (R206): A condition of OPER_UP other than ADMIN_UP is lost and the port goes down within 100 ns. -/
  | portLinkLoss (p : Nat)
  /-- PORT_UP_HOLD_EXPIRE (R203): The conditions of R203 have held for UP_HOLD_US and OPER_UP rises. -/
  | portUpHoldExpire (p : Nat)
  /-- PORT_ADMIN_DOWN_DONE (R208): After ADMIN_UP falls to 0, the frame in transmission ends and OPER_UP falls. -/
  | portAdminDownDone (p : Nat)
  /-- PFC_TIMER_EXPIRE (R215): A PFC pause timer runs out and its queues become eligible again. -/
  | pfcTimerExpire (p : Nat) (q : Nat)
  /-- PFC_XOFF_CHANGE (R217): A pool's XOFF request or release reaches a MAC, which sends a PFC frame with TX_QUANTA or pause time 0. -/
  | pfcXoffChange (p : Nat) (q : Nat)
  /-- PFC_REFRESH_TIMER (R217): While XOFF holds, the MAC sends its PFC frame again every TX_QUANTA ÷ 2 quanta. -/
  | pfcRefreshTimer (p : Nat) (q : Nat)
  /-- PFC_STORM_DETECT (R218): A priority paused without a break for STORM_DETECT_MS is declared a storm. -/
  | pfcStormDetect (p : Nat) (q : Nat)
  /-- PFC_STORM_RECOVER (R219): No non-zero PFC for STORM_RECOVER_MS ends a storm and PFC is honoured again. -/
  | pfcStormRecover (p : Nat) (q : Nat)
  /-- PREEMPT_VERIFY_TIMER (R222): The verify interval ends, and the MAC sends another verify frame or declares verification failed. -/
  | preemptVerifyTimer (p : Nat)
  /-- PARSER_TABLE_LOAD (R256): Command 0x0501 loads a checked parser table image into shadow banks and may swap. -/
  | parserTableLoad (x : Exec)
  /-- PARSER_CONFIG (R257): Command 0x0502 sets parse depth and length reactions and may swap banks. -/
  | parserConfig (m : Nat)
  /-- PARSER_PORT (R258): Command 0x0503 sets a port's fall-back flat profile and start state. -/
  | parserPort (m : Nat)
  /-- FLAT_PROFILE_SET (R245): Command 0x0504 writes a 64-byte flat profile mask. -/
  | flatProfileSet (m : Nat)
  /-- EXPRESS_FILTER_SET (R259): Command 0x0505 writes an express selection entry. -/
  | expressFilterSet (m : Nat)
  /-- PUNT_CONFIG (R249): Command 0x0506 sets a punt reason's rate, burst and host queue and refills its bucket. -/
  | puntConfig (m : Nat)
  /-- PRS_BANK_SWAP (R253): Setting PRS_PIPE_CFG.SWAP swaps the active and shadow parser banks for frames accepted after it. -/
  | prsBankSwap (i : Nat)
  /-- PRS_TRACE_ARM (R242): Setting PRS_TRACE_CTL.ARM captures the parse record of the next matching frame. -/
  | prsTraceArm (i : Nat) (portEn : Bool) (port : Nat)
  /-- PARSE_FRAME (R235): The parser front end runs the ladder and flat path over a frame and sends its parse record. -/
  | parseFrame (i : Nat) (perr : Option Nat) (ended : Bool)
  /-- PARSE_FRAME_END (R241): A frame ends after its parse record left and pending_end beyond it makes a late length error. -/
  | parseFrameEnd (id : Nat)
  /-- PARSER_PARITY_REWRITE (R255): The Teller rewrites a parser table entry found with a parity error from its copy. -/
  | parserParityRewrite (i : Nat)
  /-- PUNT_REFILL (R248): Every 1 us each punt bucket gains its rate's share of frames, up to BURST. -/
  | puntRefill
  /-- CLS_TABLE_CONFIG (R288): Command 0x0601 defines a hash table or the ternary array. -/
  | clsTableConfig (m : Nat)
  /-- RULE_STAGE (R289): Command 0x0602 applies change records as staged adds, deletes and replaces for the next posting. -/
  | ruleStage (x : Exec)
  /-- POST (R280): Command 0x0603 schedules the posting switch at T and completes once both dies switch. -/
  | post (m : Nat)
  /-- STAGE_CANCEL (R290): Command 0x0604 undoes every change staged for the next posting. -/
  | stageCancel (x : Exec)
  /-- METER_CONFIG (R291): Command 0x0605 configures a two-rate three-colour meter and its token fill. -/
  | meterConfig (m : Nat)
  /-- CLS_PORT_CONFIG (R270): Command 0x0606 sets a port's default class and Stitch class use. -/
  | clsPortConfig (m : Nat)
  /-- POSTING_CONFIG (R287): Command 0x0607 sets DRAIN_WARN_US. -/
  | postingConfig (m : Nat)
  /-- CLASSIFY_FRAME (R270): A frame enters step 5, takes its posting, is matched and combined, metered, looked up and forwarded, dropped or punted. -/
  | classifyFrame (i : Nat) (bad : List Nat) (meterErr : Bool)
  /-- POSTING_SWITCH (R280): A die's local time reaches T and CURRENT rises by 1. -/
  | postingSwitch (d : Nat)
  /-- POSTING_DRAINED (R282): The oldest posting's in-flight counts reach 0 on both dies and OLDEST advances. -/
  | postingDrained
  /-- CLERK_POSTING_WORK (R283): The Clerks clear BORN_PENDING and VALID in rules born or retired at the posting OLDEST reached. -/
  | clerkPostingWork (d : Nat)
  /-- DRAIN_STALL (R287): A posting stays undrained for DRAIN_WARN_US and CLS_DRAIN_STALL is raised. -/
  | drainStall
  /-- LEDGER_CONFIG (R326): Command 0x0701 defines a ledger. -/
  | ledgerConfig (m : Nat)
  /-- LEDGER_GLOBAL (R304): Command 0x0702 sets the ageing period, learning enable and ECMP seed. -/
  | ledgerGlobal (m : Nat)
  /-- LOOKUP_PROFILE (R327): Command 0x0703 defines a lookup profile and reports its slots and reads. -/
  | lookupProfile (m : Nat)
  /-- LDG_PORT_CONFIG (R301): Command 0x0704 sets a port's lookup profiles. -/
  | ldgPortConfig (m : Nat)
  /-- ENTRY_WRITE (R328): Command 0x0705 adds, replaces or deletes one ledger entry through the Clerk. -/
  | entryWrite (m : Nat)
  /-- ENTRY_FIND (R296): Command 0x0706 finds a key and reports its copies across replicas. -/
  | entryFind (m : Nat)
  /-- ENTRY_BATCH (R328): Command 0x0707 applies a batch of entry records in order. -/
  | entryBatch (x : Exec)
  /-- GROUP_SET (R329): Command 0x0708 rewrites a next-hop group bucket in one replicated write. -/
  | groupSet (m : Nat)
  /-- LEDGER_FLUSH (R321): Command 0x0709 parks every Clerk urgently and erases entries of a ledger. -/
  | ledgerFlush (x : Exec)
  /-- AUDIT_CONFIG (R316): Command 0x070A sets audit passes of a privileged ledger against its host shadow. -/
  | auditConfig (m : Nat)
  /-- CLERK_CONTROL (R330): Command 0x070B resumes, discards or reloads a Clerk and sets HOLD_PARKED. -/
  | clerkControl (m : Nat)
  /-- EXPRESS_LOOKUP (R303): An express frame's one lookup in the express ledger gives its egress or drops it. -/
  | expressLookup (i : Nat)
  /-- EXPRESS_TX_START (R379): An express-path frame starts at the express MAC when the port allows and debits the purse at COST_0. -/
  | expressTxStart (p : Nat)
  /-- LEARN_RELEASE (R304): A frame accepted whole releases its learn or station-move record into the ward Clerk's queue. -/
  | learnRelease (i : Nat)
  /-- CLERK_WORK_START (R310): An idle Clerk starts its next routine by the priority order of urgent, scrub, host and posting, learning, sweep and audit. -/
  | clerkWorkStart (w : Nat)
  /-- AGE_SWEEP_BUCKET (R309): The sweep scheduler's pace comes due and it starts AGE_SWEEP on the next bucket. -/
  | ageSweepBucket (w : Nat)
  /-- AGE_SWEEP_PERIOD (R310): A sweep period ends and an unfinished sweep raises LDG_SWEEP_OVERRUN. -/
  | ageSweepPeriod (w : Nat)
  /-- AUDIT_PASS_START (R316): PASS_MS after the last start, an audit pass fetches the shadow and compares the ledger. -/
  | auditPassStart (k : Nat)
  /-- CLERK_PARK (R321): A Clerk with an urgent request reaches a commit point and parks. -/
  | clerkPark (w : Nat)
  /-- CLERK_RESUME (R322): A parked Clerk resumes its cursor, or from the first commit point when stale. -/
  | clerkResume (w : Nat)
  /-- CLRK_WRITE_COMPLETE (R298): All eight replicas acknowledge a replicated Clerk write. -/
  | clrkWriteComplete (w : Nat)
  /-- CLRK_HALT_WRITE (R320): Setting CLRK_CTL.HALT halts the Clerk at its next commit point. -/
  | clrkHaltWrite (w : Nat)
  /-- CLRK_ILLEGAL (R323): An illegal opcode or control-store parity error halts the Clerk and raises CLRK_FAULT. -/
  | clrkIllegal (w : Nat) (perr : Bool)
  /-- CLRK_NOP (R317): Microword NOP does nothing. -/
  | clrkNop (w : Nat)
  /-- CLRK_ADD (R317): Microword ADD sets RD to RA plus the second operand. -/
  | clrkAdd (w : Nat)
  /-- CLRK_SUB (R317): Microword SUB sets RD to RA minus the second operand. -/
  | clrkSub (w : Nat)
  /-- CLRK_AND (R317): Microword AND sets RD to RA and the second operand. -/
  | clrkAnd (w : Nat)
  /-- CLRK_OR (R317): Microword OR sets RD to RA or the second operand. -/
  | clrkOr (w : Nat)
  /-- CLRK_XOR (R317): Microword XOR sets RD to RA xor the second operand. -/
  | clrkXor (w : Nat)
  /-- CLRK_SHR (R317): Microword SHR shifts RA right by the second operand into RD. -/
  | clrkShr (w : Nat)
  /-- CLRK_SHL (R317): Microword SHL shifts RA left by the second operand into RD. -/
  | clrkShl (w : Nat)
  /-- CLRK_DEC (R317): Microword DEC sets RD to RA − 1 and LOOPZ when RA was 0. -/
  | clrkDec (w : Nat)
  /-- CLRK_BCLR (R317): Microword BCLR clears bit G[RB] of RA into RD. -/
  | clrkBclr (w : Nat)
  /-- CLRK_FFS (R317): Microword FFS sets RD to the index of the lowest 1 of RA. -/
  | clrkFfs (w : Nat)
  /-- CLRK_RND (R317): Microword RND sets RD to the next LFSR value. -/
  | clrkRnd (w : Nat)
  /-- CLRK_LDP (R317): Microword LDP loads a word of the work record into RD. -/
  | clrkLdp (w : Nat)
  /-- CLRK_LDK (R317): Microword LDK loads KR from the work record. -/
  | clrkLdk (w : Nat)
  /-- CLRK_HASH (R294): Microword HASH sets G1 and G2 to KR's candidate buckets. -/
  | clrkHash (w : Nat)
  /-- CLRK_RDB (R300): Microword RDB reads a bucket of the reference replica into an image, waiting for a bank read. -/
  | clrkRdb (w : Nat)
  /-- CLRK_SCAN (R317): Microword SCAN searches images for KR's key, free space, a victim or an eviction candidate. -/
  | clrkScan (w : Nat)
  /-- CLRK_ALT (R317): Microword ALT gives the other candidate bucket of an entry in an image. -/
  | clrkAlt (w : Nat)
  /-- CLRK_SCNA (R317): Microword SCNA gives the mask of ageable head entries of an image. -/
  | clrkScna (w : Nat)
  /-- CLRK_AGEP (R317): Microword AGEP gives AGE + 1 of an entry and sets EQ at the limit. -/
  | clrkAgep (w : Nat)
  /-- CLRK_PATHW (R317): Microword PATHW writes an entry of path memory. -/
  | clrkPathw (w : Nat)
  /-- CLRK_PATHR (R317): Microword PATHR reads an entry of path memory into two registers. -/
  | clrkPathr (w : Nat)
  /-- CLRK_WRR (R319): Microword WRR posts a replicated write of KR's entry. -/
  | clrkWrr (w : Nat)
  /-- CLRK_UPD (R305): Microword UPD posts a station move, or writes nothing and sets EQ. -/
  | clrkUpd (w : Nat)
  /-- CLRK_DUP (R324): Microword DUP copies an entry to the next path position in every replica and waits. -/
  | clrkDup (w : Nat)
  /-- CLRK_ERS (R324): Microword ERS erases a path position, merging HIT into its copy, and waits. -/
  | clrkErs (w : Nat)
  /-- CLRK_ERSB (R317): Microword ERSB erases an entry in every replica and waits. -/
  | clrkErsb (w : Nat)
  /-- CLRK_HITS (R309): Microword HITS gathers HIT of an entry from all replicas. -/
  | clrkHits (w : Nat)
  /-- CLRK_AGEW (R309): Microword AGEW writes AGE of an entry, posted or waiting. -/
  | clrkAgew (w : Nat)
  /-- CLRK_REFRESH (R309): Microword REFRESH posts HIT 0 and AGE 0 for an entry. -/
  | clrkRefresh (w : Nat)
  /-- CLRK_CDOOM (R325): Microword CDOOM issues a conditional doom to every replica and waits for acceptance or refusal. -/
  | clrkCdoom (w : Nat)
  /-- CLRK_UNDOOM (R309): Microword UNDOOM clears DOOMED in every replica and waits. -/
  | clrkUndoom (w : Nat)
  /-- CLRK_MBR (R318): Microword MBR branches by selected flags, linking when LINK is set. -/
  | clrkMbr (w : Nat)
  /-- CLRK_JR (R317): Microword JR jumps to the address in a register. -/
  | clrkJr (w : Nat)
  /-- CLRK_CMT (R321): Microword CMT marks a commit point at which a Clerk may park or halt. -/
  | clrkCmt (w : Nat)
  /-- CLRK_RPT (R317): Microword RPT reports an eviction or an aged entry. -/
  | clrkRpt (w : Nat)
  /-- CLRK_DONE (R319): Microword DONE ends the routine and reports its outcome once all writes have completed. -/
  | clrkDone (w : Nat)
  /-- VAULT_CONFIG (R344): Command 0x0801 sets the host pool and descriptor floor. -/
  | vaultConfig (m : Nat)
  /-- POOL_CONFIG (R354): Command 0x0802 configures a vault pool. -/
  | poolConfig (m : Nat)
  /-- POOL_MAP_SET (R355): Command 0x0803 sets a port's class-to-pool map. -/
  | poolMapSet (m : Nat)
  /-- POOL_READ (R356): Command 0x0804 returns a pool's counts and state on each die. -/
  | poolRead (m : Nat)
  /-- FRAME_ENQUEUE (R340): A forwarded frame is admitted to its egress queue and pool, written to the vault or cut through, or dropped. -/
  | frameEnqueue (i : Nat)
  /-- FOLIO_FREE (R349): A free request for a folio decrements its count, frees it to its pool, or is rejected as double or foreign. -/
  | folioFree (who : Nat) (f : Nat) (pool : Nat) (unit : Nat)
  /-- QUEUE_CONFIG (R384): Command 0x0901 configures an egress queue's tier, weight, shaper, limits and energy class. -/
  | queueConfig (m : Nat)
  /-- PORT_SCHED_CONFIG (R385): Command 0x0902 sets express queues, port shaper and express policer. -/
  | portSchedConfig (m : Nat)
  /-- ENERGY_CONFIG (R386): Command 0x0903 sets energy costs, replication surcharge and purse multiple. -/
  | energyConfig (m : Nat)
  /-- QUEUE_READ (R387): Command 0x0904 returns a queue's depth, tokens, tags and status sampled together. -/
  | queueRead (m : Nat)
  /-- SAMPLE_CONFIG (R381): Command 0x0905 sets the queue sampling interval. -/
  | sampleConfig (m : Nat)
  /-- PORT_SELECT (R362): A port's scheduler selects its next frame and charges tags, shaper tokens and purse. -/
  | portSelect (p : Nat) (perr : List Nat)
  /-- FRAME_TX_END (R361): A frame copy finishes transmission, frees its descriptor and folio references and lets the next frame follow. -/
  | frameTxEnd (p : Nat)
  /-- PREEMPT_RESUME (R374): The remainder of a preempted frame resumes when the express MAC is free or its gate reopens. -/
  | preemptResume (p : Nat)
  /-- LAUNCH_WAIT_END (R410): 256 ns before a launch time, the queue of the waiting launch frame becomes eligible. -/
  | launchWaitEnd (p : Nat) (k : Nat)
  /-- LAUNCH_RELEASE (R411): The MAC releases a launch frame's stamp point at its launch time. -/
  | launchRelease (p : Nat)
  /-- STAMP_POINT_TX (R400): A frame's stamp point passes the transmit MAC, taking PTP corrections, one-step times and two-step stamp records. -/
  | stampPointTx (p : Nat)
  /-- QUEUE_SAMPLE (R381): A sampling interval ends and every sampled queue's state goes to its die's sample ring. -/
  | queueSample (d : Nat) (fit : Nat)
  /-- TIME_CONFIG (R423): Command 0x0A01 chooses the time source and its lock parameters. -/
  | timeConfig (m : Nat)
  /-- TIME_ADJUST (R424): Command 0x0A02 applies a frequency offset, a step or slew, and a lock assertion or clear. -/
  | timeAdjust (m : Nat)
  /-- TIME_RING_CONFIG (R404): Command 0x0A03 configures the time ring and writes a pair record when enabled. -/
  | timeRingConfig (m : Nat)
  /-- TIME_PIN_CONFIG (R425): Command 0x0A04 configures a TIME pin's mode, edges and output timing. -/
  | timePinConfig (m : Nat)
  /-- PORT_TIME_CONFIG (R406): Command 0x0A05 sets a port's PTP mode, launch horizon and board delays. -/
  | portTimeConfig (m : Nat)
  /-- LAUNCH_CONFIG (R409): Command 0x0A06 sets a queue's launch mode and offset. -/
  | launchConfig (m : Nat)
  /-- GATE_LIST_SET (R426): Command 0x0A07 loads a gate list, cancels a pending change or ends gating. -/
  | gateListSet (x : Exec)
  /-- TIM_GATE_CHANGE_WRITE (R427): A granted write of TIM_GATE_CFG.CHANGE arms a changeover of the pending bank. -/
  | timGateChangeWrite (p : Nat)
  /-- TIME_SYNC_WORD (R43): Every 1 us the central time base sends its synchronising word to every local time copy. -/
  | timeSyncWord (dies : Nat)
  /-- TIME_COPY_STALE (R44): A local copy without a valid synchronising word for 4 us reports TIM_LOCAL_STALE. -/
  | timeCopyStale (d : Nat)
  /-- PPS_MARK (R392): A PPS mark is captured, its error judged and slewed out, counted or stepped. -/
  | ppsMark
  /-- PPS_MISSING (R392): No PPS mark arrives for 1.5 s, PPS_MISS is set and lock is lost. -/
  | ppsMissing
  /-- LOCK_LEASE_EXPIRE (R390): No lock assertion arrives within LOCK_LEASE_MS in source 1 and lock is lost. -/
  | lockLeaseExpire
  /-- HOLDOVER_ENTRY (R51): Network time loses lock and the part moves from Service to Holdover within 1 us. -/
  | holdoverEntry
  /-- HOLDOVER_EXIT (R51): Network time regains lock and the part moves from Holdover to Service within 1 us. -/
  | holdoverExit
  /-- TIME_DOMAIN_RETURN (R393): TMPLL relocks and the time domain switches back from BPLL_W ÷ 5. -/
  | timeDomainReturn
  /-- SLEW_DONE (R396): A slew's offset is consumed and its frequency addition ends. -/
  | slewDone
  /-- TIME_PAIR_PERIOD (R404): Every PAIR_PERIOD_MS the time base writes a kind 1 pair to the time ring. -/
  | timePairPeriod
  /-- TIM_PAIR_CAPTURE (R403): A read of TIM_PAIR_STAMP captures a time pair into the pair registers. -/
  | timPairCapture
  /-- TIME_PIN_CAPTURE (R413): An input edge on a TIME pin is captured, corrected and written as a kind 4 record. -/
  | timePinCapture (k : Nat) (falling : Bool)
  /-- TIME_PIN_EDGE (R414): A TIME output pin's programmed edge comes due and drives the ball. -/
  | timePinEdge (k : Nat)
  /-- GATE_ENTRY_START (R416): A gate list entry comes into force, changing gate bits, cutting frames and sending its phase. -/
  | gateEntryStart (p : Nat)
  /-- GATE_CHANGEOVER (R417): At T_c the pending gate list becomes active, or gating ends. -/
  | gateChangeover (p : Nat)
  /-- CTH_CONFIG (R453): Command 0x0B01 sets the Counting House addresses, slots and pools. -/
  | cthConfig (m : Nat)
  /-- SYNDICATE_CREATE (R454): Command 0x0B02 allocates a disabled syndicate on its home die. -/
  | syndicateCreate (m : Nat)
  /-- MEMBER_LOAD (R455): Command 0x0B03 loads member records and may enable the syndicate. -/
  | memberLoad (x : Exec)
  /-- SYNDICATE_DELETE (R456): Command 0x0B04 ends open chunks, drops the intake queue and frees the syndicate. -/
  | syndicateDelete (m : Nat)
  /-- SYNDICATE_READ (R582): Command 0x0B05 returns a syndicate's registers sampled together. -/
  | syndicateRead (m : Nat)
  /-- CTH_INTAKE (R433): A counting frame arrives whole at an intake queue or is discarded or dropped. -/
  | cthIntake (i : Nat)
  /-- CTH_CONTRIBUTION (R436): The contribution at the head of an intake queue is checked and accepted, resent or answered with an error. -/
  | cthContribution (d : Nat) (y : Nat)
  /-- CTH_ACCUMULATED (R437): An accepted contribution's last element is accumulated and its member bit set, possibly completing the chunk. -/
  | cthAccumulated (y : Nat) (ecc : Nat)
  /-- CTH_RESULT_READY (R445): A completed chunk's result is rounded and written to the vault as one copy per member. -/
  | cthResultReady (y : Nat) (b : Nat) (ecc : Nat)
  /-- CTH_RESULT_RETRY (R446): A result refused by the vault is offered again after 1 us. -/
  | cthResultRetry (y : Nat) (b : Nat)
  /-- CTH_STRAGGLER_TIMER (R448): An open chunk not complete STRAGGLER_US after its first contribution raises CTH_STRAGGLER. -/
  | cthStragglerTimer (y : Nat) (b : Nat)
  /-- CTH_ABORT_TIMER (R449): An open chunk not complete ABORT_US after its first contribution is abandoned. -/
  | cthAbortTimer (y : Nat) (b : Nat)
  /-- DMA_CHANNEL_CONFIG (R490): Command 0x0C01 configures a DMA channel's role, ring and rates. -/
  | dmaChannelConfig (m : Nat)
  /-- DMA_CHANNEL_CONTROL (R491): Command 0x0C02 starts, aborts or resets a DMA channel. -/
  | dmaChannelControl (m : Nat)
  /-- HOSTQ_CONFIG (R480): Command 0x0C03 sets a host queue's channel and depth limit. -/
  | hostqConfig (m : Nat)
  /-- DMA_GLOBAL_CONFIG (R475): Command 0x0C04 sets the completion timeout. -/
  | dmaGlobalConfig (m : Nat)
  /-- DMA_DOORBELL (R464): A write of POSTED hands descriptors to a channel, or is ignored with DB_ERR. -/
  | dmaDoorbell (c : Nat) (v : Nat)
  /-- DMA_START (R478): Setting DMA_CH_CMD.START resumes a stopped channel at HEAD. -/
  | dmaStart (c : Nat)
  /-- DMA_ABORT (R472): Setting DMA_CH_CMD.ABORT stops a channel after its burst and writes back the descriptor in hand. -/
  | dmaAbort (c : Nat)
  /-- DMA_COPY_TO_HOST (R466): A COPY_TO_HOST descriptor copies a device range to host memory and is written back. -/
  | dmaCopyToHost (c : Nat) (whole : Bool)
  /-- DMA_COPY_FROM_HOST (R466): A COPY_FROM_HOST descriptor copies host memory to a device range or carries an injected frame. -/
  | dmaCopyFromHost (c : Nat) (whole : Bool)
  /-- DMA_FILL (R466): A FILL descriptor writes a pattern to host memory. -/
  | dmaFill (c : Nat) (whole : Bool)
  /-- DMA_COMPARE (R466): A COMPARE descriptor compares a host range with a device range. -/
  | dmaCompare (c : Nat) (whole : Bool)
  /-- DMA_LINK (R474): A LINK descriptor sends the channel to another ring address, stopping with LOOP after 64 in a row. -/
  | dmaLink (c : Nat)
  /-- DMA_OWN_RETRY (R464): A channel in OWN_WAIT fetches its descriptor again after 1 us. -/
  | dmaOwnRetry (c : Nat)
  /-- DMA_BURST_GRANT (R468): A read or write arbiter grants one burst to a channel by level and round robin. -/
  | dmaBurstGrant (wr : Bool) (unc : Bool)
  /-- DMA_READ_COMPLETION (R477): A read completion arrives with data, or with an error that ends its descriptor with BEAT_ERR. -/
  | dmaReadCompletion (c : Nat) (k : Nat) (n : Nat) (fails : Bool) (unc : Bool)
  /-- DMA_CPL_TIMEOUT (R475): A read completion fails to arrive within CPL_TIMEOUT_US and the channel stops with HOST_TIMEOUT. -/
  | dmaCplTimeout (c : Nat)
  /-- DMA_IRQ_HOLDOFF_END (R471): A channel's interrupt holdoff ends and merged completions send one message. -/
  | dmaIrqHoldoffEnd (c : Nat)
  /-- PUNT_FRAME_DELIVER (R481): A punt channel delivers a whole frame from its host queues into fetched descriptors. -/
  | puntFrameDeliver (c : Nat)
  /-- INJECT_FRAME_START (R487): An inject channel starts a frame once its tokens are 0 or more and enqueues or parses it. -/
  | injectFrameStart (c : Nat)
  /-- TALLY_SELECT (R515): Command 0x0D01 sets a block counter's event, mode and enable or clears it. -/
  | tallySelect (m : Nat)
  /-- BOOK_CONFIG (R516): Command 0x0D02 sets book sections and host buffers. -/
  | bookConfig (m : Nat)
  /-- BOOK_SCHEDULE (R517): Command 0x0D03 opens a book for an instant T. -/
  | bookSchedule (m : Nat)
  /-- BOOK_CANCEL (R518): Command 0x0D04 cancels an open book whose T has not arrived. -/
  | bookCancel (m : Nat)
  /-- MARGINALIA_CONFIG (R509): Command 0x0D05 sets global marginalia selection, IOAM slot and node ID. -/
  | marginaliaConfig (m : Nat)
  /-- MARGINALIA_PORT (R512): Command 0x0D06 sets a port's marginalia selection, form, recognition and stripping. -/
  | marginaliaPort (m : Nat)
  /-- MARGINALIA_RULES (R519): Command 0x0D07 sets or clears rule statistics bits that select marginalia. -/
  | marginaliaRules (m : Nat)
  /-- TALLY_CNT_CLEAR (R496): Setting TLY_CNT_SEL.CLEAR sets a block counter and its SAT bit to 0. -/
  | tallyCntClear (u : Nat) (k : Nat)
  /-- BOOK_CAPTURE (R503): At the first cycle at or after T, each unit copies its counters to its shadows and sends an epoch marker. -/
  | bookCapture
  /-- TALLY_STORE_UPDATE (R504): A counter update with its epoch reaches the tally store and applies to the live counter and shadow. -/
  | tallyStoreUpdate (k : Nat) (unc : Bool)
  /-- BOOK_MARKERS_DONE (R504): All epoch markers have reached the tally store and the reader starts draining the book. -/
  | bookMarkersDone
  /-- BOOK_CLOSE (R505): Channel 29 writes a book's SEQ word and TLY_BOOK_CLOSED is raised. -/
  | bookClose
  /-- GOV_CAP_CONFIG (R549): Command 0x0E01 sets the power cap and its controller. -/
  | govCapConfig (m : Nat)
  /-- GOV_PROFILE_SET (R544): Command 0x0E02 sets a phase profile's point and allowance. -/
  | govProfileSet (m : Nat)
  /-- GOV_PROFILE_SELECT (R544): Command 0x0E03 chooses a die's host profile. -/
  | govProfileSelect (m : Nat)
  /-- GOV_ZONE_CONFIG (R550): Command 0x0E04 sets thermal zone limits and timers. -/
  | govZoneConfig (m : Nat)
  /-- GOV_DROOP_CONFIG (R528): Command 0x0E05 sets droop threshold, stretch, hold and step count. -/
  | govDroopConfig (m : Nat)
  /-- GOV_PMBUS_CONFIG (R539): Command 0x0E06 configures PMBus telemetry. -/
  | govPmbusConfig (m : Nat)
  /-- GOV_READ (R582): Command 0x0E07 returns a die's governor state from one control period. -/
  | govRead (m : Nat)
  /-- GOVERNOR_PERIOD (R544): Every 100 ns the central governor gathers agent reports, resolves targets and sends steps and allowances. -/
  | governorPeriod (total : Nat) (dies : List Nat)
  /-- OP_STEP_START (R526): A die begins a one-point step towards its target, waiting for 64 ns without droop. -/
  | opStepStart (d : Nat) (quiet : Bool)
  /-- OP_SUPPLY_SETTLED (R526): A spine die's regulator settles a raised supply and the frequency step follows. -/
  | opSupplySettled (d : Nat) (quiet : Bool)
  /-- OP_STEP_DONE (R530): A divider step's 4 atomic cycles end and the die runs at its new point. -/
  | opStepDone (d : Nat)
  /-- DROOP_DETECT (R528): A droop detector reports droop and the die stretches its clock cycles. -/
  | droopDetect (d : Nat) (cycles : Nat) (detected : Bool)
  /-- DROOP_WINDOW (R532): A 10 us droop window ends and the droop limit may move slower, or faster after 1 ms quiet. -/
  | droopWindow (d : Nat)
  /-- SENSOR_SAMPLE (R533): Every 1 us each thermal sensor is sampled, faults judged and zone limits crossed. -/
  | sensorSample (temps : List Int)
  /-- THERM_STEP_TIMER (R535): STEP_US passes with a zone still at THROTTLE and the thermal limit moves one point slower. -/
  | thermStepTimer (d : Nat)
  /-- THERM_RELEASE_TIMER (R535): RELEASE_US passes with every zone below THROTTLE − HYST and the limit moves one point faster or TRIP_PENDING ends. -/
  | thermReleaseTimer (d : Nat) (trip : Bool)
  /-- CAP_TICK (R540): Every 10 us the cap controller raises or lowers its level against CAP_W. -/
  | capTick
  /-- CAP_UNREACHABLE_TIMER (R542): At maximum level with power above the cap for 1 ms, UNREACHABLE is set. -/
  | capUnreachableTimer
  /-- PMBUS_POLL (R539): Every 1 ms the governor reads the configured regulators and corrects its gains. -/
  | pmbusPoll (reads : List (Option (Nat × Nat)))
  /-- PMBUS_ALERT (R615): A falling PMBUS_ALERT_N starts a read of every configured regulator. -/
  | pmbusAlert (reads : List (Option (Nat × Nat)))
  /-- THERMTRIP (R537): A trip comparator passes 135 °C, asserts THERMTRIP_N and raises the Grave GOV_THERMTRIP. -/
  | thermtrip (sensor : Nat)
  /-- TRIP_RELEASE_SAMPLE (R538): Every 1 ms the Clearing House samples the release comparators and advances or resets COOL_MS. -/
  | tripReleaseSample (below : Bool)
  /-- FAULT_HOLD_RESTART (R81): COOL_MS reaches 1,000 and the Teller and PCIe clocks restart for restricted service. -/
  | faultHoldRestart (addr : Nat)
  /-- FAULT_CONFIG (R574): Command 0x0F01 sets a source's class, escalation and reactions. -/
  | faultConfig (m : Nat)
  /-- CLASS_CONFIG (R564): Command 0x0F02 sets a class's reactions, escalation and acknowledgement timeout. -/
  | classConfig (m : Nat)
  /-- EVENT_ROUTE (R572): Command 0x0F03 sets an event group's vector, holdoff, mask and Teller routing. -/
  | eventRoute (m : Nat)
  /-- FAULT_READ (R558): Command 0x0F04 returns fault records. -/
  | faultRead (m : Nat)
  /-- FAULT_ACK (R575): Command 0x0F05 acknowledges fault records. -/
  | faultAck (m : Nat)
  /-- ERRN_CONTROL (R570): Command 0x0F06 sets the ERROR_N pulse and mode, forces it or releases HOLD. -/
  | errnControl (m : Nat)
  /-- FAULT_INJECT (R576): Command 0x0F07 drives a source's rails to raise it or break them. -/
  | faultInject (m : Nat)
  /-- FAULT_RAISE (R557): The Clearing House handles a source's raise: records, escalates and takes its reactions. -/
  | faultRaise
  /-- BLOCK_RESET_END (R567): A unit leaves its 1 us block reset and the Teller begins rewriting its configuration. -/
  | blockResetEnd (u : Nat)
  /-- BLOCK_RESTORED (R567): The Teller finishes rewriting a reset unit and raises CLH_BLOCK_RESTORED. -/
  | blockRestored (u : Nat)
  /-- RAIL_BREAK (R555): A source's rails read equal for 4 samples and a rail break is declared. -/
  | railBreak (src : Nat) (high : Bool)
  /-- RAIL_BREAK_CLEAR (R555): The rails read complementary for 1,024 samples after acknowledgement and BROKEN clears. -/
  | railBreakClear (src : Nat)
  /-- COLLECTOR_FRAME (R556): A collector frame of raises reaches the central Clearing House or is sent again. -/
  | collectorFrame (d : Nat) (good : Bool)
  /-- COLLECTOR_LOST (R556): Three consecutive collector frames are missing or bad and CLH_COLLECTOR_LOST is recorded. -/
  | collectorLost (d : Nat)
  /-- ERRN_PULSE_END (R570): The ERROR_N pulse timer runs out. -/
  | errnPulseEnd
  /-- FAULT_ACK_TIMEOUT (R563): A record is acknowledged ACK_TIMEOUT_MS after it was written. -/
  | faultAckTimeout (n : Nat)
  /-- EVENT_HOLDOFF_END (R572): A group's MSI holdoff ends and merged raises send one message. -/
  | eventHoldoffEnd (g : Nat)
  /-- EVT_PEND_WRITE (R572): A write to CLH_EVT_PEND clears bits and resends the vector if an enabled bit stays pending. -/
  | evtPendWrite (g : Nat) (hi : Bool) (v : Nat)
  /-- REGISTER_WRITE (R579): A BAR2 write to a register without its own row sets its fields in a granted unit, or is ignored and counted. -/
  | registerWrite (a : Nat) (n : Nat) (v : Nat)
  /-- LO_READ_LATCH (R581): A read of a LO word captures the whole value into the requester's latch for HI. -/
  | loReadLatch (a : Nat) (n : Nat)
  /-- RC_READ (R3): A read of an rc field returns its value and clears it to 0. -/
  | rcRead (a : Nat) (n : Nat)
  /-- RAW_READ (R587): A raw window read returns stored data and records an uncorrectable error in GLB_WINDOW_STATUS. -/
  | rawRead (a : Nat) (n : Nat) (unc : Bool)
  /-- RAW_WRITE (R588): A raw window write updates one word of a granted store and regenerates its check bits. -/
  | rawWrite (a : Nat) (n : Nat) (v : Nat) (unc : Bool)
  /-- PLL_LOCK (R138): A PLL gains lock, so that a domain on its fallback may revert to its primary source and its LOCKED bit reads 1. -/
  | pllLock (k : Nat)
  /-- PRBS_CHECKER_LOCK (R191): The pattern checker declares lock after 64 error-free symbols, or loses lock after 32 errored symbols within 64 and seeds again, setting LOCK_LOST. -/
  | prbsCheckerLock (n : Nat) (errs : List Nat)
  /-- PERIODIC_INJECTION (R192): In PERIODIC mode, one transmitted symbol in every 2^PERIOD_LOG2 is moved to the adjacent level. -/
  | periodicInjection (n : Nat)
  /-- MIRROR_REFRESH (R499): The tally reader brings one block counter per East core cycle over the collection ring into the mirror and advances MIRROR_PASSES. -/
  | mirrorRefresh
  /-- JTAG_TCK_EDGE (R617): An edge of JTAG_TCK advances the IEEE 1149.1 test access port, sampling TMS and TDI and driving TDO. -/
  | jtagTckEdge (rise : Bool) (tms : Bool) (tdi : Bool) (trst : Bool)
  /-- JTAG_TRST_N_ASSERT (R617): A low on JTAG_TRST_N holds the test access port in Test-Logic-Reset. -/
  | jtagTrstNAssert
  /-- MBX_CTL_WRITE (R111): A write to a mailbox's MBX_CTL in BAR0 sets IRQ_EN and VECTOR, and on MBX_6 changes PCIE_WRITE only when it comes by I2C, with a PCIe write there counted in REQ_WRITE_DROPS. -/
  | mbxCtlWrite (m : Nat) (v : Nat)
  deriving DecidableEq, Repr

end Sys2Proof
end

