-- ==== Sys2Proof/Decode.lean ====
section
/-! DEFINITION. The commands that words spell by the opcode table's bits. The table gives no row any bits: no word spells a command. -/
namespace Sys2Proof

/-- The command that a word of `nbits` bits spells; the opcode table gives its rows no bits, so there is none. -/
def decodeTableWord (_nbits _w : Nat) : Option Instr := none

end Sys2Proof
end

