-- ==== Sys2Proof/Machine/Tab.lean ====
section
/-! DEFINITION. Sparse tables in one canonical form, bit fields of naturals and the byte orders of the manual. -/
namespace Sys2Proof.Machine

/-- The entry a table lists for a key. -/
def Tab.find? {α : Type} : Tab α → Nat → Option α
  | [], _ => none
  | (j, v) :: t, k => if j = k then some v else Tab.find? t k

/-- What a key reads as: its entry, or `d` where none is listed. -/
def Tab.get {α : Type} (d : α) (t : Tab α) (k : Nat) : α := (Tab.find? t k).getD d

/-- `t` without an entry for `k`. -/
def Tab.erase {α : Type} (t : Tab α) (k : Nat) : Tab α := t.filter fun p => decide (p.1 ≠ k)

/-- `t` with the entry (k, v), keeping the keys rising. -/
def Tab.insert {α : Type} : Tab α → Nat → α → Tab α
  | [], k, v => [(k, v)]
  | (j, w) :: t, k, v =>
    if k < j then (k, v) :: (j, w) :: t else if j = k then (k, v) :: t else (j, w) :: Tab.insert t k v

/-- Writes `v` at `k`; writing what an unlisted key reads as removes the entry. -/
def Tab.set {α : Type} [DecidableEq α] (d : α) (t : Tab α) (k : Nat) (v : α) : Tab α :=
  if v = d then Tab.erase t k else Tab.insert t k v

/-- Keys strictly rising. -/
def Tab.sorted {α : Type} : Tab α → Bool
  | [] => true
  | [_] => true
  | p :: q :: t => decide (p.1 < q.1) && Tab.sorted (q :: t)

/-- The canonical form: keys strictly rising and no entry equal to what an unlisted key reads as. -/
def Tab.wf {α : Type} [DecidableEq α] (d : α) (t : Tab α) : Bool :=
  Tab.sorted t && t.all fun p => decide (p.2 ≠ d)

/-- Writes the values of a list at rising keys from `k`. -/
def Tab.setList {α : Type} [DecidableEq α] (d : α) (t : Tab α) (k : Nat) : List α → Tab α
  | [] => t
  | v :: vs => Tab.setList d (Tab.set d t k v) (k + 1) vs

/-- The values at `n` keys from `k`. -/
def Tab.getList {α : Type} (d : α) (t : Tab α) (k n : Nat) : List α := (List.range n).map fun i => Tab.get d t (k + i)

/-- Bits [lo + wd − 1 : lo] of a natural. -/
def bits (v lo wd : Nat) : Nat := (v >>> lo) % 2 ^ wd

/-- Bit `i` of a natural. -/
def bit (v i : Nat) : Bool := v.testBit i

/-- `v` with `x` in its bits [lo + wd − 1 : lo]. -/
def putBits (v lo wd x : Nat) : Nat := v % 2 ^ lo + (x % 2 ^ wd) <<< lo + (v >>> (lo + wd)) <<< (lo + wd)

/-- 1 for true, 0 for false. -/
def b2n (b : Bool) : Nat := if b then 1 else 0

/-- A two's complement field of `wd` bits as an integer. -/
def toSigned (wd v : Nat) : Int := if v < 2 ^ (wd - 1) then (v : Int) else (v : Int) - (2 ^ wd : Nat)

/-- An integer as a two's complement field of `wd` bits. -/
def ofSigned (wd : Nat) (x : Int) : Nat := (x % (2 ^ wd : Nat)).toNat

/-- The smaller of a value and the largest a field of `wd` bits holds: a count that saturates. -/
def satBits (wd v : Nat) : Nat := min v (2 ^ wd - 1)

/-- `v` held within [lo, hi]. -/
def clamp (lo hi v : Nat) : Nat := max lo (min hi v)

/-- The ceiling of a quotient. -/
def ceilDiv (a b : Nat) : Nat := (a + b - 1) / b

/-- Little-endian bytes as a natural. -/
def leNat : List Byte → Nat
  | [] => 0
  | b :: bs => b.toNat + 256 * leNat bs

/-- Big-endian bytes as a natural. -/
def beNat (l : List Byte) : Nat := l.foldl (fun a b => a * 256 + b.toNat) 0

/-- A natural as `n` little-endian bytes. -/
def leBytes : Nat → Nat → List Byte
  | 0, _ => []
  | n + 1, v => BitVec.ofNat 8 v :: leBytes n (v / 256)

/-- A natural as `n` big-endian bytes. -/
def beBytes (n v : Nat) : List Byte := (leBytes n v).reverse

/-- A 32-bit word as four little-endian bytes. -/
def w32 (v : Nat) : List Byte := leBytes 4 v

/-- Byte `i` of a list, 0 past its end. -/
def byteAt (l : List Byte) (i : Nat) : Nat := (l.getD i 0).toNat

/-- Big-endian value of `n` bytes of a list from `i`; bytes past the end read 0. -/
def beAt (l : List Byte) (i n : Nat) : Nat := (List.range n).foldl (fun a k => a * 256 + byteAt l (i + k)) 0

/-- Little-endian value of `n` bytes of a list from `i`; bytes past the end read 0. -/
def leAt (l : List Byte) (i n : Nat) : Nat := (List.range n).foldl (fun a k => a + byteAt l (i + k) * 256 ^ k) 0

/-- Replaces the bytes of `l` from `i` by `bs`, within the length of `l`. -/
def patch (l : List Byte) (i : Nat) (bs : List Byte) : List Byte :=
  l.take i ++ (bs.take (l.length - i)) ++ l.drop (i + bs.length)

/-- Element `i` of a list replaced. -/
def setAt {α : Type} (l : List α) (i : Nat) (v : α) : List α := l.set i v

/-- The indices below `n` at which a predicate holds, rising. -/
def idxs (n : Nat) (p : Nat → Bool) : List Nat := (List.range n).filter p

/-- The lowest index below `n` at which a predicate holds. -/
def lowest (n : Nat) (p : Nat → Bool) : Option Nat := (List.range n).find? p

/-- A mask with the bits at which a predicate holds. -/
def maskOf (n : Nat) (p : Nat → Bool) : Nat := (idxs n p).foldl (fun a i => a + 2 ^ i) 0

/-- The number of one bits among the lowest `n` of a natural. -/
def popCount (n v : Nat) : Nat := (idxs n fun i => v.testBit i).length

end Sys2Proof.Machine
end

