-- ==== Sys2Proof/Machine/CmdSpec.lean ====
section
/-! DEFINITION. The mailbox commands' numbers, deadline classes, modes and parameter fields, one `Cmd` a command and one `Arg` a request
field, as the chapters' command tables give them (R94, R97, R106). -/
namespace Sys2Proof.Machine

/-- A request field: byte offset of its word, lowest bit in that word, width, and whether it belongs to the expert form only (R106). -/
structure Arg where
  off : Nat
  lo : Nat
  wd : Nat
  expert : Bool

/-- A command: opcode, deadline class (0 A to 3 D, R97), mask of accepted modes (R96), its request fields, basic and full request
length in bytes (R106), and the length of its own response fields (R107). -/
structure Cmd where
  op : Nat
  cls : Nat
  modes : Nat
  args : List Arg
  basic : Nat
  full : Nat
  resp : Nat

def A.PATCH_LOAD_HOST_ADDR_LO : Arg := ⟨0, 0, 32, false⟩
def A.PATCH_LOAD_HOST_ADDR_HI : Arg := ⟨4, 0, 32, false⟩
def A.PATCH_LOAD_LENGTH : Arg := ⟨8, 0, 32, false⟩
def A.PATCH_LOAD_PATCH_CRC : Arg := ⟨12, 0, 32, false⟩
def A.PATCH_LOAD_EXPECT_LEVEL : Arg := ⟨16, 0, 16, true⟩
def A.PATCH_LOAD_DRY_RUN : Arg := ⟨16, 31, 1, true⟩
def C.PATCH_LOAD : Cmd := ⟨0x140, 2, 0x7c, [A.PATCH_LOAD_HOST_ADDR_LO, A.PATCH_LOAD_HOST_ADDR_HI, A.PATCH_LOAD_LENGTH, A.PATCH_LOAD_PATCH_CRC, A.PATCH_LOAD_EXPECT_LEVEL, A.PATCH_LOAD_DRY_RUN], 16, 20, 8⟩
def A.RESET_CONFIG_PERST_SCOPE : Arg := ⟨0, 0, 1, false⟩
def A.RESET_CONFIG_SPI_LOCK : Arg := ⟨0, 1, 1, false⟩
def A.RESET_CONFIG_PATCH_LOCK : Arg := ⟨0, 2, 1, false⟩
def A.RESET_CONFIG_RELOAD_LOCK : Arg := ⟨0, 3, 1, true⟩
def C.RESET_CONFIG : Cmd := ⟨0x141, 0, 0x7c, [A.RESET_CONFIG_PERST_SCOPE, A.RESET_CONFIG_SPI_LOCK, A.RESET_CONFIG_PATCH_LOCK, A.RESET_CONFIG_RELOAD_LOCK], 4, 4, 4⟩
def C.NOP : Cmd := ⟨0x100, 0, 0xfe, [⟨0, 0, 16256, false⟩], 0, 2032, 0⟩
def C.IDENTIFY : Cmd := ⟨0x101, 0, 0xfe, [], 0, 0, 40⟩
def A.MODE_REQUEST_TARGET_MODE : Arg := ⟨0, 0, 4, false⟩
def A.MODE_REQUEST_LOCK_WAIT_MS : Arg := ⟨0, 16, 16, true⟩
def C.MODE_REQUEST : Cmd := ⟨0x102, 3, 0x7c, [A.MODE_REQUEST_TARGET_MODE, A.MODE_REQUEST_LOCK_WAIT_MS], 4, 4, 4⟩
def A.ASYNC_RESULT_RECORD : Arg := ⟨0, 0, 6, false⟩
def A.ASYNC_RESULT_KEEP : Arg := ⟨0, 8, 1, true⟩
def C.ASYNC_RESULT : Cmd := ⟨0x104, 0, 0x7c, [A.ASYNC_RESULT_RECORD, A.ASYNC_RESULT_KEEP], 4, 4, 24⟩
def A.ABORT_COMMAND_SEQ : Arg := ⟨0, 0, 16, false⟩
def A.ABORT_COMMAND_MAILBOX : Arg := ⟨0, 16, 3, false⟩
def C.ABORT_COMMAND : Cmd := ⟨0x105, 0, 0x7c, [A.ABORT_COMMAND_SEQ, A.ABORT_COMMAND_MAILBOX], 4, 4, 4⟩
def A.HISTORY_READ_COUNT : Arg := ⟨0, 0, 5, false⟩
def A.HISTORY_READ_FIRST : Arg := ⟨4, 0, 32, true⟩
def C.HISTORY_READ : Cmd := ⟨0x110, 1, 0xfe, [A.HISTORY_READ_COUNT, A.HISTORY_READ_FIRST], 4, 8, 8⟩
def A.GRANT_LEASE_MS : Arg := ⟨0, 0, 16, true⟩
def C.GRANT : Cmd := ⟨0x120, 1, 0x7c, [A.GRANT_LEASE_MS], 0, 4, 4⟩
def C.REVOKE : Cmd := ⟨0x121, 1, 0x7c, [], 0, 0, 4⟩
def A.CLOCK_CONFIG_TOL_PPM : Arg := ⟨0, 0, 12, false⟩
def A.CLOCK_CONFIG_DISAGREE_INTERVALS : Arg := ⟨0, 16, 4, true⟩
def A.CLOCK_CONFIG_FALLBACK_EN : Arg := ⟨4, 0, 3, false⟩
def A.CLOCK_CONFIG_AUTO_REVERT : Arg := ⟨4, 8, 3, true⟩
def C.CLOCK_CONFIG : Cmd := ⟨0x201, 1, 0x7c, [A.CLOCK_CONFIG_TOL_PPM, A.CLOCK_CONFIG_DISAGREE_INTERVALS, A.CLOCK_CONFIG_FALLBACK_EN, A.CLOCK_CONFIG_AUTO_REVERT], 8, 8, 8⟩
def A.CLOCK_SELECT_SOURCE : Arg := ⟨0, 0, 1, false⟩
def C.CLOCK_SELECT : Cmd := ⟨0x202, 1, 0x7c, [A.CLOCK_SELECT_SOURCE], 4, 4, 8⟩
def A.WATCH_TRIM_MODE : Arg := ⟨0, 0, 2, false⟩
def A.WATCH_TRIM_PPS_PIN : Arg := ⟨0, 4, 2, false⟩
def A.WATCH_TRIM_CODE : Arg := ⟨0, 16, 10, true⟩
def C.WATCH_TRIM : Cmd := ⟨0x203, 0, 0x7c, [A.WATCH_TRIM_MODE, A.WATCH_TRIM_PPS_PIN, A.WATCH_TRIM_CODE], 4, 4, 8⟩
def A.LANE_CONFIG_ENABLE : Arg := ⟨0, 0, 1, false⟩
def A.LANE_CONFIG_RATE : Arg := ⟨0, 1, 1, false⟩
def A.LANE_CONFIG_CODING : Arg := ⟨0, 2, 1, false⟩
def A.LANE_CONFIG_TX_SQUELCH : Arg := ⟨0, 3, 1, false⟩
def A.LANE_CONFIG_INVERT : Arg := ⟨0, 4, 2, true⟩
def A.LANE_CONFIG_EQ_MODE : Arg := ⟨0, 8, 1, true⟩
def A.LANE_CONFIG_BAND_FORCE_EN : Arg := ⟨0, 9, 1, true⟩
def A.LANE_CONFIG_BAND_FORCE : Arg := ⟨0, 10, 3, true⟩
def C.LANE_CONFIG : Cmd := ⟨0x301, 1, 0x7c, [A.LANE_CONFIG_ENABLE, A.LANE_CONFIG_RATE, A.LANE_CONFIG_CODING, A.LANE_CONFIG_TX_SQUELCH, A.LANE_CONFIG_INVERT, A.LANE_CONFIG_EQ_MODE, A.LANE_CONFIG_BAND_FORCE_EN, A.LANE_CONFIG_BAND_FORCE], 4, 4, 8⟩
def A.EQ_TABLE_LOAD_HOST_ADDR_LO : Arg := ⟨0, 0, 32, false⟩
def A.EQ_TABLE_LOAD_HOST_ADDR_HI : Arg := ⟨4, 0, 32, false⟩
def A.EQ_TABLE_LOAD_TABLE_CRC : Arg := ⟨8, 0, 32, false⟩
def C.EQ_TABLE_LOAD : Cmd := ⟨0x302, 2, 0x7c, [A.EQ_TABLE_LOAD_HOST_ADDR_LO, A.EQ_TABLE_LOAD_HOST_ADDR_HI, A.EQ_TABLE_LOAD_TABLE_CRC], 12, 12, 8⟩
def A.LANE_TEST_GEN_PATTERN : Arg := ⟨0, 0, 3, false⟩
def A.LANE_TEST_GEN_EN : Arg := ⟨0, 3, 1, false⟩
def A.LANE_TEST_CHK_PATTERN : Arg := ⟨0, 4, 3, false⟩
def A.LANE_TEST_CHK_EN : Arg := ⟨0, 7, 1, false⟩
def A.LANE_TEST_LOOPBACK : Arg := ⟨0, 8, 3, false⟩
def A.LANE_TEST_CLEAR : Arg := ⟨0, 11, 1, false⟩
def A.LANE_TEST_INJ_MODE : Arg := ⟨4, 0, 2, false⟩
def A.LANE_TEST_FIRE : Arg := ⟨4, 2, 1, false⟩
def A.LANE_TEST_BURST_LEN : Arg := ⟨4, 8, 8, false⟩
def A.LANE_TEST_PERIOD_LOG2 : Arg := ⟨4, 16, 5, false⟩
def A.LANE_TEST_THRESHOLD_LOG2 : Arg := ⟨4, 24, 5, true⟩
def C.LANE_TEST : Cmd := ⟨0x303, 0, 0x40, [A.LANE_TEST_GEN_PATTERN, A.LANE_TEST_GEN_EN, A.LANE_TEST_CHK_PATTERN, A.LANE_TEST_CHK_EN, A.LANE_TEST_LOOPBACK, A.LANE_TEST_CLEAR, A.LANE_TEST_INJ_MODE, A.LANE_TEST_FIRE, A.LANE_TEST_BURST_LEN, A.LANE_TEST_PERIOD_LOG2, A.LANE_TEST_THRESHOLD_LOG2], 8, 8, 4⟩
def A.LANE_MARGIN_SCAN_HOST_ADDR_LO : Arg := ⟨0, 0, 32, false⟩
def A.LANE_MARGIN_SCAN_HOST_ADDR_HI : Arg := ⟨4, 0, 32, false⟩
def A.LANE_MARGIN_SCAN_DWELL_LOG2 : Arg := ⟨8, 0, 6, true⟩
def C.LANE_MARGIN_SCAN : Cmd := ⟨0x304, 3, 0x78, [A.LANE_MARGIN_SCAN_HOST_ADDR_LO, A.LANE_MARGIN_SCAN_HOST_ADDR_HI, A.LANE_MARGIN_SCAN_DWELL_LOG2], 8, 12, 8⟩
def A.STITCH_CONFIG_RETRAIN : Arg := ⟨0, 0, 1, false⟩
def A.STITCH_CONFIG_REPLAY_LIMIT : Arg := ⟨0, 4, 4, true⟩
def A.STITCH_CONFIG_NAK_TIMEOUT : Arg := ⟨0, 8, 8, true⟩
def C.STITCH_CONFIG : Cmd := ⟨0x305, 1, 0x78, [A.STITCH_CONFIG_RETRAIN, A.STITCH_CONFIG_REPLAY_LIMIT, A.STITCH_CONFIG_NAK_TIMEOUT], 4, 4, 4⟩
def A.PORT_CONFIG_SPEED : Arg := ⟨0, 0, 3, false⟩
def A.PORT_CONFIG_ADMIN_UP : Arg := ⟨0, 4, 1, false⟩
def A.PORT_CONFIG_CLEAR_STATS : Arg := ⟨0, 5, 1, false⟩
def A.PORT_CONFIG_MAX_FRAME : Arg := ⟨4, 0, 14, true⟩
def A.PORT_CONFIG_LEN_OVERHEAD : Arg := ⟨4, 16, 7, true⟩
def A.PORT_CONFIG_UP_HOLD_US : Arg := ⟨8, 0, 16, true⟩
def A.PORT_CONFIG_FLAP_LIMIT : Arg := ⟨8, 16, 4, true⟩
def C.PORT_CONFIG : Cmd := ⟨0x401, 1, 0x7c, [A.PORT_CONFIG_SPEED, A.PORT_CONFIG_ADMIN_UP, A.PORT_CONFIG_CLEAR_STATS, A.PORT_CONFIG_MAX_FRAME, A.PORT_CONFIG_LEN_OVERHEAD, A.PORT_CONFIG_UP_HOLD_US, A.PORT_CONFIG_FLAP_LIMIT], 4, 12, 8⟩
def C.PORT_DELETE : Cmd := ⟨0x402, 1, 0x7c, [], 0, 0, 4⟩
def A.PFC_CONFIG_RX_EN : Arg := ⟨0, 0, 8, false⟩
def A.PFC_CONFIG_TX_EN : Arg := ⟨0, 8, 8, false⟩
def A.PFC_CONFIG_TX_QUANTA : Arg := ⟨4, 0, 16, true⟩
def A.PFC_CONFIG_STORM_DETECT_MS : Arg := ⟨8, 0, 14, true⟩
def A.PFC_CONFIG_STORM_ACTION : Arg := ⟨8, 14, 1, true⟩
def A.PFC_CONFIG_STORM_RECOVER_MS : Arg := ⟨12, 0, 14, true⟩
def A.PFC_CONFIG_QMAP (w : Nat) : Arg := ⟨16 + 4 * w, 0, 32, true⟩
def A.PFC_CONFIG_MAC_SA_LO : Arg := ⟨32, 0, 32, true⟩
def A.PFC_CONFIG_MAC_SA_HI : Arg := ⟨36, 0, 16, true⟩
def C.PFC_CONFIG : Cmd := ⟨0x403, 0, 0x7c, [A.PFC_CONFIG_RX_EN, A.PFC_CONFIG_TX_EN, A.PFC_CONFIG_TX_QUANTA, A.PFC_CONFIG_STORM_DETECT_MS, A.PFC_CONFIG_STORM_ACTION, A.PFC_CONFIG_STORM_RECOVER_MS] ++ (List.range 4).map A.PFC_CONFIG_QMAP ++ [A.PFC_CONFIG_MAC_SA_LO, A.PFC_CONFIG_MAC_SA_HI], 4, 40, 8⟩
def A.PREEMPT_CONFIG_ENABLE : Arg := ⟨0, 0, 1, false⟩
def A.PREEMPT_CONFIG_VERIFY_DISABLE : Arg := ⟨0, 1, 1, true⟩
def A.PREEMPT_CONFIG_ADD_FRAG_SIZE : Arg := ⟨0, 2, 2, true⟩
def A.PREEMPT_CONFIG_VERIFY_MS : Arg := ⟨0, 4, 8, true⟩
def A.PREEMPT_CONFIG_VERIFY_LIMIT : Arg := ⟨0, 12, 4, true⟩
def A.PREEMPT_CONFIG_EXPRESS_QMASK : Arg := ⟨4, 0, 16, true⟩
def C.PREEMPT_CONFIG : Cmd := ⟨0x404, 0, 0x7c, [A.PREEMPT_CONFIG_ENABLE, A.PREEMPT_CONFIG_VERIFY_DISABLE, A.PREEMPT_CONFIG_ADD_FRAG_SIZE, A.PREEMPT_CONFIG_VERIFY_MS, A.PREEMPT_CONFIG_VERIFY_LIMIT, A.PREEMPT_CONFIG_EXPRESS_QMASK], 4, 8, 4⟩
def A.PARSER_TABLE_LOAD_HOST_ADDR_LO : Arg := ⟨0, 0, 32, false⟩
def A.PARSER_TABLE_LOAD_HOST_ADDR_HI : Arg := ⟨4, 0, 32, false⟩
def A.PARSER_TABLE_LOAD_IMAGE_CRC : Arg := ⟨8, 0, 32, false⟩
def A.PARSER_TABLE_LOAD_SWAP : Arg := ⟨12, 0, 1, true⟩
def C.PARSER_TABLE_LOAD : Cmd := ⟨0x501, 2, 0x7c, [A.PARSER_TABLE_LOAD_HOST_ADDR_LO, A.PARSER_TABLE_LOAD_HOST_ADDR_HI, A.PARSER_TABLE_LOAD_IMAGE_CRC, A.PARSER_TABLE_LOAD_SWAP], 12, 16, 12⟩
def A.PARSER_CONFIG_DEPTH : Arg := ⟨0, 0, 9, false⟩
def A.PARSER_CONFIG_REACT_1 : Arg := ⟨0, 16, 2, true⟩
def A.PARSER_CONFIG_REACT_2 : Arg := ⟨0, 18, 2, true⟩
def A.PARSER_CONFIG_REACT_3 : Arg := ⟨0, 20, 2, true⟩
def A.PARSER_CONFIG_REACT_4 : Arg := ⟨0, 22, 2, true⟩
def A.PARSER_CONFIG_SWAP : Arg := ⟨0, 24, 1, true⟩
def C.PARSER_CONFIG : Cmd := ⟨0x502, 0, 0x7c, [A.PARSER_CONFIG_DEPTH, A.PARSER_CONFIG_REACT_1, A.PARSER_CONFIG_REACT_2, A.PARSER_CONFIG_REACT_3, A.PARSER_CONFIG_REACT_4, A.PARSER_CONFIG_SWAP], 4, 4, 4⟩
def A.PARSER_PORT_FALLBACK_PROFILE : Arg := ⟨0, 0, 4, false⟩
def A.PARSER_PORT_START_STATE : Arg := ⟨0, 8, 8, true⟩
def C.PARSER_PORT : Cmd := ⟨0x503, 0, 0x7c, [A.PARSER_PORT_FALLBACK_PROFILE, A.PARSER_PORT_START_STATE], 4, 4, 4⟩
def A.FLAT_PROFILE_SET_PROFILE : Arg := ⟨0, 0, 4, false⟩
def A.FLAT_PROFILE_SET_MASK : Arg := ⟨4, 0, 512, false⟩
def C.FLAT_PROFILE_SET : Cmd := ⟨0x504, 0, 0x7c, [A.FLAT_PROFILE_SET_PROFILE, A.FLAT_PROFILE_SET_MASK], 68, 68, 0⟩
def A.EXPRESS_FILTER_SET_ENTRY : Arg := ⟨0, 0, 4, false⟩
def A.EXPRESS_FILTER_SET_ENABLE : Arg := ⟨0, 4, 1, false⟩
def A.EXPRESS_FILTER_SET_PROFILE : Arg := ⟨0, 8, 4, false⟩
def A.EXPRESS_FILTER_SET_PORT_MASK : Arg := ⟨4, 0, 32, false⟩
def A.EXPRESS_FILTER_SET_VALUE : Arg := ⟨8, 0, 512, false⟩
def A.EXPRESS_FILTER_SET_MASK : Arg := ⟨72, 0, 512, false⟩
def C.EXPRESS_FILTER_SET : Cmd := ⟨0x505, 0, 0x7c, [A.EXPRESS_FILTER_SET_ENTRY, A.EXPRESS_FILTER_SET_ENABLE, A.EXPRESS_FILTER_SET_PROFILE, A.EXPRESS_FILTER_SET_PORT_MASK, A.EXPRESS_FILTER_SET_VALUE, A.EXPRESS_FILTER_SET_MASK], 136, 136, 4⟩
def A.PUNT_CONFIG_RATE : Arg := ⟨0, 0, 24, false⟩
def A.PUNT_CONFIG_BURST : Arg := ⟨4, 0, 16, false⟩
def A.PUNT_CONFIG_HOST_QUEUE : Arg := ⟨4, 16, 6, true⟩
def C.PUNT_CONFIG : Cmd := ⟨0x506, 0, 0x7c, [A.PUNT_CONFIG_RATE, A.PUNT_CONFIG_BURST, A.PUNT_CONFIG_HOST_QUEUE], 8, 8, 8⟩
def A.CLS_TABLE_CONFIG_ENABLE : Arg := ⟨0, 0, 1, false⟩
def A.CLS_TABLE_CONFIG_KEY_SOURCE : Arg := ⟨0, 1, 1, false⟩
def A.CLS_TABLE_CONFIG_WIDTH : Arg := ⟨0, 2, 1, true⟩
def A.CLS_TABLE_CONFIG_BUCKETS_LOG2 : Arg := ⟨0, 4, 4, false⟩
def A.CLS_TABLE_CONFIG_PRIORITY : Arg := ⟨0, 8, 8, false⟩
def A.CLS_TABLE_CONFIG_BASE : Arg := ⟨4, 0, 15, false⟩
def A.CLS_TABLE_CONFIG_SEED : Arg := ⟨8, 0, 32, true⟩
def A.CLS_TABLE_CONFIG_MASK : Arg := ⟨12, 0, 640, false⟩
def C.CLS_TABLE_CONFIG : Cmd := ⟨0x601, 1, 0x78, [A.CLS_TABLE_CONFIG_ENABLE, A.CLS_TABLE_CONFIG_KEY_SOURCE, A.CLS_TABLE_CONFIG_WIDTH, A.CLS_TABLE_CONFIG_BUCKETS_LOG2, A.CLS_TABLE_CONFIG_PRIORITY, A.CLS_TABLE_CONFIG_BASE, A.CLS_TABLE_CONFIG_SEED, A.CLS_TABLE_CONFIG_MASK], 92, 92, 8⟩
def A.RULE_STAGE_HOST_ADDR_LO : Arg := ⟨0, 0, 32, false⟩
def A.RULE_STAGE_HOST_ADDR_HI : Arg := ⟨4, 0, 32, false⟩
def A.RULE_STAGE_COUNT : Arg := ⟨8, 0, 17, false⟩
def A.RULE_STAGE_CONTINUE : Arg := ⟨12, 0, 1, true⟩
def C.RULE_STAGE : Cmd := ⟨0x602, 3, 0x78, [A.RULE_STAGE_HOST_ADDR_LO, A.RULE_STAGE_HOST_ADDR_HI, A.RULE_STAGE_COUNT, A.RULE_STAGE_CONTINUE], 12, 16, 12⟩
def A.POST_LEAD_NS : Arg := ⟨0, 0, 17, true⟩
def C.POST : Cmd := ⟨0x603, 1, 0x78, [A.POST_LEAD_NS], 0, 4, 12⟩
def C.STAGE_CANCEL : Cmd := ⟨0x604, 2, 0x78, [], 0, 0, 4⟩
def A.METER_CONFIG_CIR : Arg := ⟨0, 0, 28, false⟩
def A.METER_CONFIG_EIR : Arg := ⟨4, 0, 28, false⟩
def A.METER_CONFIG_CBS : Arg := ⟨8, 0, 24, false⟩
def A.METER_CONFIG_EBS : Arg := ⟨12, 0, 24, false⟩
def A.METER_CONFIG_ENABLE : Arg := ⟨16, 0, 1, false⟩
def A.METER_CONFIG_MODE : Arg := ⟨16, 1, 1, false⟩
def A.METER_CONFIG_COLOUR_AWARE : Arg := ⟨16, 2, 1, false⟩
def A.METER_CONFIG_RED_DROP : Arg := ⟨16, 3, 1, false⟩
def A.METER_CONFIG_LEN_ADJ : Arg := ⟨16, 8, 7, true⟩
def A.METER_CONFIG_FILL : Arg := ⟨16, 16, 2, true⟩
def C.METER_CONFIG : Cmd := ⟨0x605, 0, 0x78, [A.METER_CONFIG_CIR, A.METER_CONFIG_EIR, A.METER_CONFIG_CBS, A.METER_CONFIG_EBS, A.METER_CONFIG_ENABLE, A.METER_CONFIG_MODE, A.METER_CONFIG_COLOUR_AWARE, A.METER_CONFIG_RED_DROP, A.METER_CONFIG_LEN_ADJ, A.METER_CONFIG_FILL], 20, 20, 8⟩
def A.CLS_PORT_CONFIG_DEFAULT_CLASS : Arg := ⟨0, 0, 4, false⟩
def A.CLS_PORT_CONFIG_STITCH_CLASS : Arg := ⟨0, 4, 1, true⟩
def C.CLS_PORT_CONFIG : Cmd := ⟨0x606, 0, 0x78, [A.CLS_PORT_CONFIG_DEFAULT_CLASS, A.CLS_PORT_CONFIG_STITCH_CLASS], 4, 4, 4⟩
def A.POSTING_CONFIG_DRAIN_WARN_US : Arg := ⟨0, 0, 16, false⟩
def C.POSTING_CONFIG : Cmd := ⟨0x607, 0, 0x78, [A.POSTING_CONFIG_DRAIN_WARN_US], 4, 4, 4⟩
def A.LEDGER_CONFIG_ENABLE : Arg := ⟨0, 0, 1, false⟩
def A.LEDGER_CONFIG_TYPE : Arg := ⟨0, 1, 2, false⟩
def A.LEDGER_CONFIG_SPAN : Arg := ⟨0, 4, 2, false⟩
def A.LEDGER_CONFIG_KEY_BYTES : Arg := ⟨0, 8, 6, false⟩
def A.LEDGER_CONFIG_EVICT : Arg := ⟨0, 16, 2, true⟩
def A.LEDGER_CONFIG_AGE_EN : Arg := ⟨0, 20, 1, false⟩
def A.LEDGER_CONFIG_AGE_LIMIT : Arg := ⟨0, 24, 4, true⟩
def A.LEDGER_CONFIG_PRIVILEGED : Arg := ⟨0, 28, 1, true⟩
def A.LEDGER_CONFIG_MAX_ENTRIES : Arg := ⟨4, 0, 21, true⟩
def A.LEDGER_CONFIG_SEED0 : Arg := ⟨8, 0, 32, true⟩
def A.LEDGER_CONFIG_SEED1 : Arg := ⟨12, 0, 32, true⟩
def A.LEDGER_CONFIG_LEARN_RESULT : Arg := ⟨16, 0, 32, true⟩
def A.LEDGER_CONFIG_SELECT : Arg := ⟨20, 0, 152, true⟩
def C.LEDGER_CONFIG : Cmd := ⟨0x701, 1, 0x78, [A.LEDGER_CONFIG_ENABLE, A.LEDGER_CONFIG_TYPE, A.LEDGER_CONFIG_SPAN, A.LEDGER_CONFIG_KEY_BYTES, A.LEDGER_CONFIG_EVICT, A.LEDGER_CONFIG_AGE_EN, A.LEDGER_CONFIG_AGE_LIMIT, A.LEDGER_CONFIG_PRIVILEGED, A.LEDGER_CONFIG_MAX_ENTRIES, A.LEDGER_CONFIG_SEED0, A.LEDGER_CONFIG_SEED1, A.LEDGER_CONFIG_LEARN_RESULT, A.LEDGER_CONFIG_SELECT], 4, 40, 8⟩
def A.LEDGER_GLOBAL_AGE_PERIOD_MS : Arg := ⟨0, 0, 16, false⟩
def A.LEDGER_GLOBAL_LEARN_EN : Arg := ⟨0, 16, 1, false⟩
def A.LEDGER_GLOBAL_ECMP_SEED : Arg := ⟨4, 0, 32, true⟩
def C.LEDGER_GLOBAL : Cmd := ⟨0x702, 0, 0x78, [A.LEDGER_GLOBAL_AGE_PERIOD_MS, A.LEDGER_GLOBAL_LEARN_EN, A.LEDGER_GLOBAL_ECMP_SEED], 4, 8, 4⟩
def A.LOOKUP_PROFILE_MISS_ACTION : Arg := ⟨0, 0, 2, false⟩
def A.LOOKUP_PROFILE_MISS_REASON : Arg := ⟨0, 8, 6, false⟩
def A.LOOKUP_PROFILE_GROUP_EN : Arg := ⟨0, 16, 1, true⟩
def A.LOOKUP_PROFILE_MISS_RESULT : Arg := ⟨4, 0, 32, true⟩
def A.LOOKUP_PROFILE_ENABLE (k : Nat) : Arg := ⟨8 + 48 * k, 0, 1, false⟩
def A.LOOKUP_PROFILE_ROLE (k : Nat) : Arg := ⟨8 + 48 * k, 1, 2, false⟩
def A.LOOKUP_PROFILE_LEDGER (k : Nat) : Arg := ⟨8 + 48 * k, 4, 4, false⟩
def A.LOOKUP_PROFILE_SELECT (k : Nat) : Arg := ⟨12 + 48 * k, 0, 352, false⟩
def C.LOOKUP_PROFILE : Cmd := ⟨0x703, 0, 0x78, [A.LOOKUP_PROFILE_MISS_ACTION, A.LOOKUP_PROFILE_MISS_REASON, A.LOOKUP_PROFILE_GROUP_EN, A.LOOKUP_PROFILE_MISS_RESULT] ++ (List.range 4).map A.LOOKUP_PROFILE_ENABLE ++ (List.range 4).map A.LOOKUP_PROFILE_ROLE ++ (List.range 4).map A.LOOKUP_PROFILE_LEDGER ++ (List.range 4).map A.LOOKUP_PROFILE_SELECT, 200, 200, 4⟩
def A.LDG_PORT_CONFIG_PROFILE : Arg := ⟨0, 0, 4, false⟩
def A.LDG_PORT_CONFIG_FLAT_PROFILE : Arg := ⟨0, 4, 4, true⟩
def C.LDG_PORT_CONFIG : Cmd := ⟨0x704, 0, 0x78, [A.LDG_PORT_CONFIG_PROFILE, A.LDG_PORT_CONFIG_FLAT_PROFILE], 4, 4, 4⟩
def A.ENTRY_WRITE_OP : Arg := ⟨0, 0, 2, false⟩
def A.ENTRY_WRITE_STATIC : Arg := ⟨0, 4, 1, false⟩
def A.ENTRY_WRITE_RESULT : Arg := ⟨4, 0, 32, false⟩
def A.ENTRY_WRITE_KEY : Arg := ⟨8, 0, 352, false⟩
def C.ENTRY_WRITE : Cmd := ⟨0x705, 0, 0x78, [A.ENTRY_WRITE_OP, A.ENTRY_WRITE_STATIC, A.ENTRY_WRITE_RESULT, A.ENTRY_WRITE_KEY], 52, 52, 8⟩
def A.ENTRY_FIND_KEY : Arg := ⟨0, 0, 352, false⟩
def C.ENTRY_FIND : Cmd := ⟨0x706, 0, 0x78, [A.ENTRY_FIND_KEY], 44, 44, 20⟩
def A.ENTRY_BATCH_HOST_ADDR_LO : Arg := ⟨0, 0, 32, false⟩
def A.ENTRY_BATCH_HOST_ADDR_HI : Arg := ⟨4, 0, 32, false⟩
def A.ENTRY_BATCH_COUNT : Arg := ⟨8, 0, 17, false⟩
def A.ENTRY_BATCH_CONTINUE : Arg := ⟨12, 0, 1, true⟩
def C.ENTRY_BATCH : Cmd := ⟨0x707, 3, 0x78, [A.ENTRY_BATCH_HOST_ADDR_LO, A.ENTRY_BATCH_HOST_ADDR_HI, A.ENTRY_BATCH_COUNT, A.ENTRY_BATCH_CONTINUE], 12, 16, 12⟩
def A.GROUP_SET_MODE : Arg := ⟨0, 0, 2, false⟩
def A.GROUP_SET_COUNT : Arg := ⟨0, 4, 5, false⟩
def A.GROUP_SET_EMPTY_ACTION : Arg := ⟨0, 12, 1, false⟩
def A.GROUP_SET_EMPTY_REASON : Arg := ⟨0, 16, 6, false⟩
def A.GROUP_SET_EDIT_BASE : Arg := ⟨4, 0, 16, false⟩
def A.GROUP_SET_MEMBERS (w : Nat) : Arg := ⟨8 + 4 * w, 0, 32, false⟩
def C.GROUP_SET : Cmd := ⟨0x708, 0, 0x78, [A.GROUP_SET_MODE, A.GROUP_SET_COUNT, A.GROUP_SET_EMPTY_ACTION, A.GROUP_SET_EMPTY_REASON, A.GROUP_SET_EDIT_BASE] ++ (List.range 8).map A.GROUP_SET_MEMBERS, 40, 40, 4⟩
def A.LEDGER_FLUSH_STATIC_TOO : Arg := ⟨0, 0, 1, true⟩
def A.LEDGER_FLUSH_PORT_EN : Arg := ⟨0, 1, 1, true⟩
def A.LEDGER_FLUSH_PORT : Arg := ⟨0, 16, 10, true⟩
def C.LEDGER_FLUSH : Cmd := ⟨0x709, 3, 0x78, [A.LEDGER_FLUSH_STATIC_TOO, A.LEDGER_FLUSH_PORT_EN, A.LEDGER_FLUSH_PORT], 0, 4, 4⟩
def A.AUDIT_CONFIG_ENABLE : Arg := ⟨0, 0, 1, false⟩
def A.AUDIT_CONFIG_ACTION : Arg := ⟨0, 1, 1, true⟩
def A.AUDIT_CONFIG_HOST_ADDR_LO : Arg := ⟨4, 0, 32, false⟩
def A.AUDIT_CONFIG_HOST_ADDR_HI : Arg := ⟨8, 0, 32, false⟩
def A.AUDIT_CONFIG_PASS_MS : Arg := ⟨12, 0, 16, true⟩
def C.AUDIT_CONFIG : Cmd := ⟨0x70a, 1, 0x78, [A.AUDIT_CONFIG_ENABLE, A.AUDIT_CONFIG_ACTION, A.AUDIT_CONFIG_HOST_ADDR_LO, A.AUDIT_CONFIG_HOST_ADDR_HI, A.AUDIT_CONFIG_PASS_MS], 12, 16, 4⟩
def A.CLERK_CONTROL_ACTION : Arg := ⟨0, 0, 2, false⟩
def A.CLERK_CONTROL_HOLD_PARKED : Arg := ⟨0, 4, 1, false⟩
def C.CLERK_CONTROL : Cmd := ⟨0x70b, 0, 0x78, [A.CLERK_CONTROL_ACTION, A.CLERK_CONTROL_HOLD_PARKED], 4, 4, 4⟩
def A.VAULT_CONFIG_HOST_POOL : Arg := ⟨0, 0, 5, false⟩
def A.VAULT_CONFIG_DESC_FLOOR : Arg := ⟨0, 8, 17, true⟩
def C.VAULT_CONFIG : Cmd := ⟨0x801, 0, 0x78, [A.VAULT_CONFIG_HOST_POOL, A.VAULT_CONFIG_DESC_FLOOR], 4, 4, 4⟩
def A.POOL_CONFIG_ENABLE : Arg := ⟨0, 0, 1, false⟩
def A.POOL_CONFIG_LOSSLESS : Arg := ⟨0, 1, 1, false⟩
def A.POOL_CONFIG_SHARE_MODE : Arg := ⟨0, 2, 1, true⟩
def A.POOL_CONFIG_PFC_PRI : Arg := ⟨0, 4, 3, false⟩
def A.POOL_CONFIG_ALPHA_LOG2 : Arg := ⟨0, 8, 4, true⟩
def A.POOL_CONFIG_XON_GAP : Arg := ⟨0, 16, 16, true⟩
def A.POOL_CONFIG_RESERVE : Arg := ⟨4, 0, 20, false⟩
def A.POOL_CONFIG_CAP : Arg := ⟨8, 0, 20, true⟩
def A.POOL_CONFIG_SHARE : Arg := ⟨12, 0, 20, true⟩
def A.POOL_CONFIG_HEADROOM : Arg := ⟨16, 0, 20, false⟩
def C.POOL_CONFIG : Cmd := ⟨0x802, 1, 0x78, [A.POOL_CONFIG_ENABLE, A.POOL_CONFIG_LOSSLESS, A.POOL_CONFIG_SHARE_MODE, A.POOL_CONFIG_PFC_PRI, A.POOL_CONFIG_ALPHA_LOG2, A.POOL_CONFIG_XON_GAP, A.POOL_CONFIG_RESERVE, A.POOL_CONFIG_CAP, A.POOL_CONFIG_SHARE, A.POOL_CONFIG_HEADROOM], 20, 20, 8⟩
def A.POOL_MAP_SET_POOL (c : Nat) : Arg := ⟨c, 0, 8, false⟩
def C.POOL_MAP_SET : Cmd := ⟨0x803, 0, 0x78, (List.range 16).map A.POOL_MAP_SET_POOL, 16, 16, 16⟩
def C.POOL_READ : Cmd := ⟨0x804, 0, 0x78, [], 0, 0, 32⟩
def A.QUEUE_CONFIG_TIER : Arg := ⟨0, 0, 2, false⟩
def A.QUEUE_CONFIG_ENERGY_CLASS : Arg := ⟨0, 4, 2, true⟩
def A.QUEUE_CONFIG_ESSENTIAL_MODE : Arg := ⟨0, 6, 2, true⟩
def A.QUEUE_CONFIG_SAMPLE_EN : Arg := ⟨0, 8, 1, true⟩
def A.QUEUE_CONFIG_WEIGHT : Arg := ⟨0, 16, 16, false⟩
def A.QUEUE_CONFIG_SHAPER_EN : Arg := ⟨4, 0, 1, false⟩
def A.QUEUE_CONFIG_TOKEN_RESET : Arg := ⟨4, 1, 1, true⟩
def A.QUEUE_CONFIG_RATE : Arg := ⟨8, 0, 28, false⟩
def A.QUEUE_CONFIG_BURST : Arg := ⟨12, 0, 24, true⟩
def A.QUEUE_CONFIG_CAP : Arg := ⟨16, 0, 16, true⟩
def A.QUEUE_CONFIG_YELLOW : Arg := ⟨16, 16, 16, true⟩
def A.QUEUE_CONFIG_RED : Arg := ⟨20, 0, 16, true⟩
def A.QUEUE_CONFIG_ECN : Arg := ⟨20, 16, 16, true⟩
def C.QUEUE_CONFIG : Cmd := ⟨0x901, 0, 0x78, [A.QUEUE_CONFIG_TIER, A.QUEUE_CONFIG_ENERGY_CLASS, A.QUEUE_CONFIG_ESSENTIAL_MODE, A.QUEUE_CONFIG_SAMPLE_EN, A.QUEUE_CONFIG_WEIGHT, A.QUEUE_CONFIG_SHAPER_EN, A.QUEUE_CONFIG_TOKEN_RESET, A.QUEUE_CONFIG_RATE, A.QUEUE_CONFIG_BURST, A.QUEUE_CONFIG_CAP, A.QUEUE_CONFIG_YELLOW, A.QUEUE_CONFIG_RED, A.QUEUE_CONFIG_ECN], 12, 24, 16⟩
def A.PORT_SCHED_CONFIG_EXPRESS_Q : Arg := ⟨0, 0, 2, false⟩
def A.PORT_SCHED_CONFIG_PORT_SHAPER_EN : Arg := ⟨0, 4, 1, false⟩
def A.PORT_SCHED_CONFIG_TOKEN_RESET : Arg := ⟨0, 5, 1, true⟩
def A.PORT_SCHED_CONFIG_EXP_SHARE : Arg := ⟨0, 8, 8, true⟩
def A.PORT_SCHED_CONFIG_RATE : Arg := ⟨4, 0, 28, false⟩
def A.PORT_SCHED_CONFIG_BURST : Arg := ⟨8, 0, 24, true⟩
def A.PORT_SCHED_CONFIG_EXP_BURST : Arg := ⟨12, 0, 24, true⟩
def C.PORT_SCHED_CONFIG : Cmd := ⟨0x902, 0, 0x78, [A.PORT_SCHED_CONFIG_EXPRESS_Q, A.PORT_SCHED_CONFIG_PORT_SHAPER_EN, A.PORT_SCHED_CONFIG_TOKEN_RESET, A.PORT_SCHED_CONFIG_EXP_SHARE, A.PORT_SCHED_CONFIG_RATE, A.PORT_SCHED_CONFIG_BURST, A.PORT_SCHED_CONFIG_EXP_BURST], 8, 16, 8⟩
def A.ENERGY_CONFIG_COST_0 : Arg := ⟨0, 0, 10, false⟩
def A.ENERGY_CONFIG_COST_1 : Arg := ⟨0, 16, 10, false⟩
def A.ENERGY_CONFIG_COST_2 : Arg := ⟨4, 0, 10, false⟩
def A.ENERGY_CONFIG_COST_3 : Arg := ⟨4, 16, 10, false⟩
def A.ENERGY_CONFIG_REPL_SURCHARGE : Arg := ⟨8, 0, 8, false⟩
def A.ENERGY_CONFIG_PURSE_MAX_MULT : Arg := ⟨8, 16, 4, true⟩
def C.ENERGY_CONFIG : Cmd := ⟨0x903, 0, 0x78, [A.ENERGY_CONFIG_COST_0, A.ENERGY_CONFIG_COST_1, A.ENERGY_CONFIG_COST_2, A.ENERGY_CONFIG_COST_3, A.ENERGY_CONFIG_REPL_SURCHARGE, A.ENERGY_CONFIG_PURSE_MAX_MULT], 12, 12, 8⟩
def C.QUEUE_READ : Cmd := ⟨0x904, 0, 0x78, [], 0, 0, 36⟩
def A.SAMPLE_CONFIG_INTERVAL_NS : Arg := ⟨0, 0, 20, false⟩
def C.SAMPLE_CONFIG : Cmd := ⟨0x905, 0, 0x78, [A.SAMPLE_CONFIG_INTERVAL_NS], 4, 4, 4⟩
def A.TIME_CONFIG_SOURCE : Arg := ⟨0, 0, 2, false⟩
def A.TIME_CONFIG_REF_SEL : Arg := ⟨0, 2, 1, false⟩
def A.TIME_CONFIG_TIME_REF_MHZ : Arg := ⟨0, 3, 1, false⟩
def A.TIME_CONFIG_PPS_PIN : Arg := ⟨0, 4, 2, false⟩
def A.TIME_CONFIG_LOCK_LEASE_MS : Arg := ⟨0, 16, 16, true⟩
def A.TIME_CONFIG_PPS_WINDOW_NS : Arg := ⟨4, 0, 10, true⟩
def A.TIME_CONFIG_PPS_LOCK_COUNT : Arg := ⟨4, 12, 4, true⟩
def A.TIME_CONFIG_SLEW_PPM : Arg := ⟨4, 16, 9, true⟩
def C.TIME_CONFIG : Cmd := ⟨0xa01, 1, 0x7c, [A.TIME_CONFIG_SOURCE, A.TIME_CONFIG_REF_SEL, A.TIME_CONFIG_TIME_REF_MHZ, A.TIME_CONFIG_PPS_PIN, A.TIME_CONFIG_LOCK_LEASE_MS, A.TIME_CONFIG_PPS_WINDOW_NS, A.TIME_CONFIG_PPS_LOCK_COUNT, A.TIME_CONFIG_SLEW_PPM], 4, 8, 8⟩
def A.TIME_ADJUST_OP : Arg := ⟨0, 0, 2, false⟩
def A.TIME_ADJUST_LOCK : Arg := ⟨0, 4, 2, false⟩
def A.TIME_ADJUST_FREQ_EN : Arg := ⟨0, 8, 1, false⟩
def A.TIME_ADJUST_FREQ_ADJ : Arg := ⟨4, 0, 32, false⟩
def A.TIME_ADJUST_OFFSET_FRAC : Arg := ⟨8, 0, 16, false⟩
def A.TIME_ADJUST_OFFSET_NS_LO : Arg := ⟨12, 0, 32, false⟩
def A.TIME_ADJUST_OFFSET_NS_HI : Arg := ⟨16, 0, 32, false⟩
def C.TIME_ADJUST : Cmd := ⟨0xa02, 0, 0x7c, [A.TIME_ADJUST_OP, A.TIME_ADJUST_LOCK, A.TIME_ADJUST_FREQ_EN, A.TIME_ADJUST_FREQ_ADJ, A.TIME_ADJUST_OFFSET_FRAC, A.TIME_ADJUST_OFFSET_NS_LO, A.TIME_ADJUST_OFFSET_NS_HI], 20, 20, 20⟩
def A.TIME_RING_CONFIG_ENABLE : Arg := ⟨0, 0, 1, false⟩
def A.TIME_RING_CONFIG_SIZE_LOG2 : Arg := ⟨0, 8, 5, false⟩
def A.TIME_RING_CONFIG_PAIR_PERIOD_MS : Arg := ⟨0, 16, 16, true⟩
def A.TIME_RING_CONFIG_HOST_ADDR_LO : Arg := ⟨4, 0, 32, false⟩
def A.TIME_RING_CONFIG_HOST_ADDR_HI : Arg := ⟨8, 0, 32, false⟩
def C.TIME_RING_CONFIG : Cmd := ⟨0xa03, 1, 0x7c, [A.TIME_RING_CONFIG_ENABLE, A.TIME_RING_CONFIG_SIZE_LOG2, A.TIME_RING_CONFIG_PAIR_PERIOD_MS, A.TIME_RING_CONFIG_HOST_ADDR_LO, A.TIME_RING_CONFIG_HOST_ADDR_HI], 12, 12, 4⟩
def A.TIME_PIN_CONFIG_MODE : Arg := ⟨0, 0, 3, false⟩
def A.TIME_PIN_CONFIG_POLARITY : Arg := ⟨0, 4, 1, false⟩
def A.TIME_PIN_CONFIG_SQUELCH : Arg := ⟨0, 5, 1, true⟩
def A.TIME_PIN_CONFIG_EDGES : Arg := ⟨0, 6, 2, false⟩
def A.TIME_PIN_CONFIG_START_SEC_LO : Arg := ⟨4, 0, 32, false⟩
def A.TIME_PIN_CONFIG_START_SEC_HI : Arg := ⟨8, 0, 16, false⟩
def A.TIME_PIN_CONFIG_START_NS : Arg := ⟨12, 0, 32, false⟩
def A.TIME_PIN_CONFIG_PERIOD : Arg := ⟨16, 0, 32, false⟩
def A.TIME_PIN_CONFIG_WIDTH : Arg := ⟨20, 0, 32, false⟩
def C.TIME_PIN_CONFIG : Cmd := ⟨0xa04, 0, 0x7c, [A.TIME_PIN_CONFIG_MODE, A.TIME_PIN_CONFIG_POLARITY, A.TIME_PIN_CONFIG_SQUELCH, A.TIME_PIN_CONFIG_EDGES, A.TIME_PIN_CONFIG_START_SEC_LO, A.TIME_PIN_CONFIG_START_SEC_HI, A.TIME_PIN_CONFIG_START_NS, A.TIME_PIN_CONFIG_PERIOD, A.TIME_PIN_CONFIG_WIDTH], 24, 24, 4⟩
def A.PORT_TIME_CONFIG_PTP_MODE : Arg := ⟨0, 0, 2, false⟩
def A.PORT_TIME_CONFIG_ETH_EN : Arg := ⟨0, 2, 1, false⟩
def A.PORT_TIME_CONFIG_UDP4_EN : Arg := ⟨0, 3, 1, false⟩
def A.PORT_TIME_CONFIG_UDP6_EN : Arg := ⟨0, 4, 1, false⟩
def A.PORT_TIME_CONFIG_STITCH_STAMP : Arg := ⟨0, 5, 1, false⟩
def A.PORT_TIME_CONFIG_LATE_ACTION : Arg := ⟨0, 6, 1, true⟩
def A.PORT_TIME_CONFIG_LAUNCH_HORIZON_MS : Arg := ⟨0, 16, 16, true⟩
def A.PORT_TIME_CONFIG_BOARD_RX : Arg := ⟨4, 0, 16, true⟩
def A.PORT_TIME_CONFIG_BOARD_TX : Arg := ⟨4, 16, 16, true⟩
def A.PORT_TIME_CONFIG_PEER_DELAY : Arg := ⟨8, 0, 32, false⟩
def C.PORT_TIME_CONFIG : Cmd := ⟨0xa05, 0, 0x78, [A.PORT_TIME_CONFIG_PTP_MODE, A.PORT_TIME_CONFIG_ETH_EN, A.PORT_TIME_CONFIG_UDP4_EN, A.PORT_TIME_CONFIG_UDP6_EN, A.PORT_TIME_CONFIG_STITCH_STAMP, A.PORT_TIME_CONFIG_LATE_ACTION, A.PORT_TIME_CONFIG_LAUNCH_HORIZON_MS, A.PORT_TIME_CONFIG_BOARD_RX, A.PORT_TIME_CONFIG_BOARD_TX, A.PORT_TIME_CONFIG_PEER_DELAY], 12, 12, 4⟩
def A.LAUNCH_CONFIG_MODE : Arg := ⟨0, 0, 2, false⟩
def A.LAUNCH_CONFIG_OFFSET_NS : Arg := ⟨0, 2, 30, false⟩
def C.LAUNCH_CONFIG : Cmd := ⟨0xa06, 0, 0x78, [A.LAUNCH_CONFIG_MODE, A.LAUNCH_CONFIG_OFFSET_NS], 4, 4, 4⟩
def A.GATE_LIST_SET_OP : Arg := ⟨0, 0, 2, false⟩
def A.GATE_LIST_SET_PHASE_EN : Arg := ⟨0, 4, 1, false⟩
def A.GATE_LIST_SET_ADMIN_GATES : Arg := ⟨0, 16, 16, true⟩
def A.GATE_LIST_SET_COUNT : Arg := ⟨4, 0, 9, false⟩
def A.GATE_LIST_SET_CYCLE_NS : Arg := ⟨8, 0, 32, false⟩
def A.GATE_LIST_SET_BASE_SEC_LO : Arg := ⟨12, 0, 32, false⟩
def A.GATE_LIST_SET_BASE_SEC_HI : Arg := ⟨16, 0, 16, false⟩
def A.GATE_LIST_SET_BASE_NS : Arg := ⟨20, 0, 32, false⟩
def A.GATE_LIST_SET_HOST_ADDR_LO : Arg := ⟨24, 0, 32, false⟩
def A.GATE_LIST_SET_HOST_ADDR_HI : Arg := ⟨28, 0, 32, false⟩
def C.GATE_LIST_SET : Cmd := ⟨0xa07, 2, 0x78, [A.GATE_LIST_SET_OP, A.GATE_LIST_SET_PHASE_EN, A.GATE_LIST_SET_ADMIN_GATES, A.GATE_LIST_SET_COUNT, A.GATE_LIST_SET_CYCLE_NS, A.GATE_LIST_SET_BASE_SEC_LO, A.GATE_LIST_SET_BASE_SEC_HI, A.GATE_LIST_SET_BASE_NS, A.GATE_LIST_SET_HOST_ADDR_LO, A.GATE_LIST_SET_HOST_ADDR_HI], 32, 32, 16⟩
def A.CTH_CONFIG_UDP_PORT : Arg := ⟨0, 0, 16, false⟩
def A.CTH_CONFIG_IP_SLOT : Arg := ⟨0, 16, 4, false⟩
def A.CTH_CONFIG_UDP_SLOT : Arg := ⟨0, 20, 4, false⟩
def A.CTH_CONFIG_RESULT_POOL : Arg := ⟨0, 24, 5, false⟩
def A.CTH_CONFIG_ADDR4 : Arg := ⟨4, 0, 32, false⟩
def A.CTH_CONFIG_ADDR6 : Arg := ⟨8, 0, 128, false⟩
def A.CTH_CONFIG_MAC_LO : Arg := ⟨24, 0, 32, false⟩
def A.CTH_CONFIG_MAC_HI : Arg := ⟨28, 0, 16, false⟩
def A.CTH_CONFIG_ERROR_QUEUE : Arg := ⟨32, 0, 4, true⟩
def C.CTH_CONFIG : Cmd := ⟨0xb01, 1, 0x78, [A.CTH_CONFIG_UDP_PORT, A.CTH_CONFIG_IP_SLOT, A.CTH_CONFIG_UDP_SLOT, A.CTH_CONFIG_RESULT_POOL, A.CTH_CONFIG_ADDR4, A.CTH_CONFIG_ADDR6, A.CTH_CONFIG_MAC_LO, A.CTH_CONFIG_MAC_HI, A.CTH_CONFIG_ERROR_QUEUE], 32, 36, 4⟩
def A.SYNDICATE_CREATE_ETYPE : Arg := ⟨0, 0, 4, false⟩
def A.SYNDICATE_CREATE_OP : Arg := ⟨0, 4, 2, false⟩
def A.SYNDICATE_CREATE_WIDEN : Arg := ⟨0, 8, 1, false⟩
def A.SYNDICATE_CREATE_HOME : Arg := ⟨0, 12, 1, false⟩
def A.SYNDICATE_CREATE_LOCKSTEP : Arg := ⟨0, 16, 1, true⟩
def A.SYNDICATE_CREATE_PROFILE : Arg := ⟨0, 20, 4, true⟩
def A.SYNDICATE_CREATE_CHECK_SOURCE : Arg := ⟨0, 24, 1, true⟩
def A.SYNDICATE_CREATE_ABORT_EN : Arg := ⟨0, 25, 1, true⟩
def A.SYNDICATE_CREATE_MEMBERS : Arg := ⟨4, 0, 11, false⟩
def A.SYNDICATE_CREATE_WINDOW : Arg := ⟨4, 16, 7, true⟩
def A.SYNDICATE_CREATE_MAX_COUNT : Arg := ⟨8, 0, 13, true⟩
def A.SYNDICATE_CREATE_UNITS : Arg := ⟨8, 16, 10, true⟩
def A.SYNDICATE_CREATE_STRAGGLER_US : Arg := ⟨12, 0, 16, true⟩
def A.SYNDICATE_CREATE_ABORT_US : Arg := ⟨12, 16, 16, true⟩
def A.SYNDICATE_CREATE_FIRST_CHUNK : Arg := ⟨16, 0, 32, true⟩
def A.SYNDICATE_CREATE_RESULT_QUEUE : Arg := ⟨20, 0, 4, true⟩
def C.SYNDICATE_CREATE : Cmd := ⟨0xb02, 1, 0x78, [A.SYNDICATE_CREATE_ETYPE, A.SYNDICATE_CREATE_OP, A.SYNDICATE_CREATE_WIDEN, A.SYNDICATE_CREATE_HOME, A.SYNDICATE_CREATE_LOCKSTEP, A.SYNDICATE_CREATE_PROFILE, A.SYNDICATE_CREATE_CHECK_SOURCE, A.SYNDICATE_CREATE_ABORT_EN, A.SYNDICATE_CREATE_MEMBERS, A.SYNDICATE_CREATE_WINDOW, A.SYNDICATE_CREATE_MAX_COUNT, A.SYNDICATE_CREATE_UNITS, A.SYNDICATE_CREATE_STRAGGLER_US, A.SYNDICATE_CREATE_ABORT_US, A.SYNDICATE_CREATE_FIRST_CHUNK, A.SYNDICATE_CREATE_RESULT_QUEUE], 8, 24, 8⟩
def A.MEMBER_LOAD_HOST_ADDR_LO : Arg := ⟨0, 0, 32, false⟩
def A.MEMBER_LOAD_HOST_ADDR_HI : Arg := ⟨4, 0, 32, false⟩
def A.MEMBER_LOAD_FIRST : Arg := ⟨8, 0, 10, false⟩
def A.MEMBER_LOAD_COUNT : Arg := ⟨8, 16, 11, false⟩
def A.MEMBER_LOAD_ENABLE : Arg := ⟨12, 0, 1, false⟩
def C.MEMBER_LOAD : Cmd := ⟨0xb03, 2, 0x78, [A.MEMBER_LOAD_HOST_ADDR_LO, A.MEMBER_LOAD_HOST_ADDR_HI, A.MEMBER_LOAD_FIRST, A.MEMBER_LOAD_COUNT, A.MEMBER_LOAD_ENABLE], 16, 16, 4⟩
def C.SYNDICATE_DELETE : Cmd := ⟨0xb04, 1, 0x78, [], 0, 0, 4⟩
def C.SYNDICATE_READ : Cmd := ⟨0xb05, 0, 0x78, [], 0, 0, 24⟩
def A.DMA_CHANNEL_CONFIG_ENABLE : Arg := ⟨0, 0, 1, false⟩
def A.DMA_CHANNEL_CONFIG_ROLE : Arg := ⟨0, 1, 2, false⟩
def A.DMA_CHANNEL_CONFIG_PRIORITY : Arg := ⟨0, 3, 2, false⟩
def A.DMA_CHANNEL_CONFIG_MAX_BURST : Arg := ⟨0, 5, 3, true⟩
def A.DMA_CHANNEL_CONFIG_ERR_ACTION : Arg := ⟨0, 8, 1, true⟩
def A.DMA_CHANNEL_CONFIG_IRQ_EN : Arg := ⟨0, 9, 1, false⟩
def A.DMA_CHANNEL_CONFIG_SIZE_LOG2 : Arg := ⟨0, 16, 5, false⟩
def A.DMA_CHANNEL_CONFIG_VECTOR : Arg := ⟨0, 24, 8, true⟩
def A.DMA_CHANNEL_CONFIG_BASE_LO : Arg := ⟨4, 0, 32, false⟩
def A.DMA_CHANNEL_CONFIG_BASE_HI : Arg := ⟨8, 0, 32, false⟩
def A.DMA_CHANNEL_CONFIG_HOLDOFF_US : Arg := ⟨12, 0, 10, true⟩
def A.DMA_CHANNEL_CONFIG_INJ_RATE : Arg := ⟨16, 0, 26, true⟩
def A.DMA_CHANNEL_CONFIG_INJ_BURST : Arg := ⟨20, 0, 24, true⟩
def C.DMA_CHANNEL_CONFIG : Cmd := ⟨0xc01, 1, 0x7c, [A.DMA_CHANNEL_CONFIG_ENABLE, A.DMA_CHANNEL_CONFIG_ROLE, A.DMA_CHANNEL_CONFIG_PRIORITY, A.DMA_CHANNEL_CONFIG_MAX_BURST, A.DMA_CHANNEL_CONFIG_ERR_ACTION, A.DMA_CHANNEL_CONFIG_IRQ_EN, A.DMA_CHANNEL_CONFIG_SIZE_LOG2, A.DMA_CHANNEL_CONFIG_VECTOR, A.DMA_CHANNEL_CONFIG_BASE_LO, A.DMA_CHANNEL_CONFIG_BASE_HI, A.DMA_CHANNEL_CONFIG_HOLDOFF_US, A.DMA_CHANNEL_CONFIG_INJ_RATE, A.DMA_CHANNEL_CONFIG_INJ_BURST], 12, 24, 8⟩
def A.DMA_CHANNEL_CONTROL_ACTION : Arg := ⟨0, 0, 2, false⟩
def C.DMA_CHANNEL_CONTROL : Cmd := ⟨0xc02, 0, 0x7c, [A.DMA_CHANNEL_CONTROL_ACTION], 4, 4, 4⟩
def A.HOSTQ_CONFIG_CHANNEL : Arg := ⟨0, 0, 5, false⟩
def A.HOSTQ_CONFIG_DEPTH_LIMIT : Arg := ⟨0, 16, 16, false⟩
def C.HOSTQ_CONFIG : Cmd := ⟨0xc03, 0, 0x7c, [A.HOSTQ_CONFIG_CHANNEL, A.HOSTQ_CONFIG_DEPTH_LIMIT], 4, 4, 4⟩
def A.DMA_GLOBAL_CONFIG_CPL_TIMEOUT_US : Arg := ⟨0, 0, 16, false⟩
def C.DMA_GLOBAL_CONFIG : Cmd := ⟨0xc04, 0, 0x7c, [A.DMA_GLOBAL_CONFIG_CPL_TIMEOUT_US], 4, 4, 4⟩
def A.TALLY_SELECT_COUNTER : Arg := ⟨0, 0, 6, false⟩
def A.TALLY_SELECT_ALL : Arg := ⟨0, 6, 1, true⟩
def A.TALLY_SELECT_EVENT : Arg := ⟨0, 8, 6, false⟩
def A.TALLY_SELECT_LEVEL : Arg := ⟨0, 16, 1, false⟩
def A.TALLY_SELECT_ENABLE : Arg := ⟨0, 17, 1, false⟩
def A.TALLY_SELECT_CLEAR : Arg := ⟨0, 18, 1, false⟩
def C.TALLY_SELECT : Cmd := ⟨0xd01, 0, 0x7c, [A.TALLY_SELECT_COUNTER, A.TALLY_SELECT_ALL, A.TALLY_SELECT_EVENT, A.TALLY_SELECT_LEVEL, A.TALLY_SELECT_ENABLE, A.TALLY_SELECT_CLEAR], 4, 4, 12⟩
def A.BOOK_CONFIG_SECTIONS : Arg := ⟨0, 0, 6, false⟩
def A.BOOK_CONFIG_BUF0_LO : Arg := ⟨4, 0, 32, false⟩
def A.BOOK_CONFIG_BUF0_HI : Arg := ⟨8, 0, 32, false⟩
def A.BOOK_CONFIG_BUF1_LO : Arg := ⟨12, 0, 32, false⟩
def A.BOOK_CONFIG_BUF1_HI : Arg := ⟨16, 0, 32, false⟩
def C.BOOK_CONFIG : Cmd := ⟨0xd02, 1, 0x7c, [A.BOOK_CONFIG_SECTIONS, A.BOOK_CONFIG_BUF0_LO, A.BOOK_CONFIG_BUF0_HI, A.BOOK_CONFIG_BUF1_LO, A.BOOK_CONFIG_BUF1_HI], 20, 20, 4⟩
def A.BOOK_SCHEDULE_T_SEC_LO : Arg := ⟨0, 0, 32, false⟩
def A.BOOK_SCHEDULE_T_SEC_HI : Arg := ⟨4, 0, 16, false⟩
def A.BOOK_SCHEDULE_T_NS : Arg := ⟨8, 0, 32, false⟩
def C.BOOK_SCHEDULE : Cmd := ⟨0xd03, 0, 0x7c, [A.BOOK_SCHEDULE_T_SEC_LO, A.BOOK_SCHEDULE_T_SEC_HI, A.BOOK_SCHEDULE_T_NS], 12, 12, 8⟩
def A.BOOK_CANCEL_SEQ : Arg := ⟨0, 0, 32, false⟩
def C.BOOK_CANCEL : Cmd := ⟨0xd04, 0, 0x7c, [A.BOOK_CANCEL_SEQ], 4, 4, 4⟩
def A.MARGINALIA_CONFIG_ALL : Arg := ⟨0, 0, 1, false⟩
def A.MARGINALIA_CONFIG_IOAM_SLOT : Arg := ⟨0, 4, 4, false⟩
def A.MARGINALIA_CONFIG_IOAM_NS : Arg := ⟨0, 16, 16, true⟩
def A.MARGINALIA_CONFIG_NODE_ID : Arg := ⟨4, 0, 32, false⟩
def C.MARGINALIA_CONFIG : Cmd := ⟨0xd05, 0, 0x78, [A.MARGINALIA_CONFIG_ALL, A.MARGINALIA_CONFIG_IOAM_SLOT, A.MARGINALIA_CONFIG_IOAM_NS, A.MARGINALIA_CONFIG_NODE_ID], 8, 8, 4⟩
def A.MARGINALIA_PORT_SEL_IN : Arg := ⟨0, 0, 1, false⟩
def A.MARGINALIA_PORT_SEL_OUT : Arg := ⟨0, 1, 1, false⟩
def A.MARGINALIA_PORT_RECOGNISE : Arg := ⟨0, 2, 1, false⟩
def A.MARGINALIA_PORT_STRIP : Arg := ⟨0, 3, 1, false⟩
def A.MARGINALIA_PORT_FORM : Arg := ⟨0, 4, 2, false⟩
def A.MARGINALIA_PORT_SAMPLE_N : Arg := ⟨0, 16, 16, false⟩
def C.MARGINALIA_PORT : Cmd := ⟨0xd06, 0, 0x78, [A.MARGINALIA_PORT_SEL_IN, A.MARGINALIA_PORT_SEL_OUT, A.MARGINALIA_PORT_RECOGNISE, A.MARGINALIA_PORT_STRIP, A.MARGINALIA_PORT_FORM, A.MARGINALIA_PORT_SAMPLE_N], 4, 4, 4⟩
def A.MARGINALIA_RULES_DIE : Arg := ⟨0, 0, 1, false⟩
def A.MARGINALIA_RULES_SET : Arg := ⟨0, 1, 1, false⟩
def A.MARGINALIA_RULES_FIRST : Arg := ⟨0, 16, 16, false⟩
def A.MARGINALIA_RULES_COUNT : Arg := ⟨4, 0, 17, false⟩
def C.MARGINALIA_RULES : Cmd := ⟨0xd07, 0, 0x78, [A.MARGINALIA_RULES_DIE, A.MARGINALIA_RULES_SET, A.MARGINALIA_RULES_FIRST, A.MARGINALIA_RULES_COUNT], 8, 8, 4⟩
def A.GOV_CAP_CONFIG_CAP_W : Arg := ⟨0, 0, 11, false⟩
def A.GOV_CAP_CONFIG_AVG_US : Arg := ⟨0, 16, 16, true⟩
def A.GOV_CAP_CONFIG_RELEASE_W : Arg := ⟨4, 0, 8, true⟩
def A.GOV_CAP_CONFIG_GAIN : Arg := ⟨4, 8, 4, true⟩
def A.GOV_CAP_CONFIG_CAP_FLOOR_OP : Arg := ⟨4, 12, 3, true⟩
def A.GOV_CAP_CONFIG_SHARE (i : Nat) : Arg := ⟨8 + i, 0, 8, true⟩
def C.GOV_CAP_CONFIG : Cmd := ⟨0xe01, 0, 0x7c, [A.GOV_CAP_CONFIG_CAP_W, A.GOV_CAP_CONFIG_AVG_US, A.GOV_CAP_CONFIG_RELEASE_W, A.GOV_CAP_CONFIG_GAIN, A.GOV_CAP_CONFIG_CAP_FLOOR_OP] ++ (List.range 32).map A.GOV_CAP_CONFIG_SHARE, 4, 40, 8⟩
def A.GOV_PROFILE_SET_OP : Arg := ⟨0, 0, 3, false⟩
def A.GOV_PROFILE_SET_ALLOWANCE : Arg := ⟨0, 16, 16, false⟩
def C.GOV_PROFILE_SET : Cmd := ⟨0xe02, 0, 0x7c, [A.GOV_PROFILE_SET_OP, A.GOV_PROFILE_SET_ALLOWANCE], 4, 4, 4⟩
def A.GOV_PROFILE_SELECT_PROFILE : Arg := ⟨0, 0, 4, false⟩
def C.GOV_PROFILE_SELECT : Cmd := ⟨0xe03, 0, 0x7c, [A.GOV_PROFILE_SELECT_PROFILE], 4, 4, 4⟩
def A.GOV_ZONE_CONFIG_WARN : Arg := ⟨0, 0, 8, false⟩
def A.GOV_ZONE_CONFIG_THROTTLE : Arg := ⟨0, 8, 8, false⟩
def A.GOV_ZONE_CONFIG_CRITICAL : Arg := ⟨0, 16, 8, false⟩
def A.GOV_ZONE_CONFIG_HYST : Arg := ⟨0, 24, 4, true⟩
def A.GOV_ZONE_CONFIG_STEP_US : Arg := ⟨4, 0, 16, true⟩
def A.GOV_ZONE_CONFIG_RELEASE_US : Arg := ⟨4, 16, 16, true⟩
def C.GOV_ZONE_CONFIG : Cmd := ⟨0xe04, 0, 0x7c, [A.GOV_ZONE_CONFIG_WARN, A.GOV_ZONE_CONFIG_THROTTLE, A.GOV_ZONE_CONFIG_CRITICAL, A.GOV_ZONE_CONFIG_HYST, A.GOV_ZONE_CONFIG_STEP_US, A.GOV_ZONE_CONFIG_RELEASE_US], 4, 8, 4⟩
def A.GOV_DROOP_CONFIG_THRESHOLD_MV : Arg := ⟨0, 0, 6, false⟩
def A.GOV_DROOP_CONFIG_STRETCH : Arg := ⟨0, 8, 1, false⟩
def A.GOV_DROOP_CONFIG_HOLD : Arg := ⟨0, 12, 4, true⟩
def A.GOV_DROOP_CONFIG_STEP_COUNT : Arg := ⟨0, 16, 8, true⟩
def C.GOV_DROOP_CONFIG : Cmd := ⟨0xe05, 0, 0x7c, [A.GOV_DROOP_CONFIG_THRESHOLD_MV, A.GOV_DROOP_CONFIG_STRETCH, A.GOV_DROOP_CONFIG_HOLD, A.GOV_DROOP_CONFIG_STEP_COUNT], 4, 4, 4⟩
def A.GOV_PMBUS_CONFIG_ENABLE : Arg := ⟨0, 0, 1, false⟩
def A.GOV_PMBUS_CONFIG_RAILS : Arg := ⟨0, 8, 8, false⟩
def A.GOV_PMBUS_CONFIG_ADDR (k : Nat) : Arg := ⟨4 + 4 * k, 0, 7, false⟩
def A.GOV_PMBUS_CONFIG_RAIL (k : Nat) : Arg := ⟨4 + 4 * k, 8, 3, false⟩
def C.GOV_PMBUS_CONFIG : Cmd := ⟨0xe06, 1, 0x7c, [A.GOV_PMBUS_CONFIG_ENABLE, A.GOV_PMBUS_CONFIG_RAILS] ++ (List.range 8).map A.GOV_PMBUS_CONFIG_ADDR ++ (List.range 8).map A.GOV_PMBUS_CONFIG_RAIL, 36, 36, 4⟩
def C.GOV_READ : Cmd := ⟨0xe07, 0, 0x7c, [], 0, 0, 16⟩
def A.FAULT_CONFIG_CLASS : Arg := ⟨0, 0, 2, false⟩
def A.FAULT_CONFIG_ESCALATE : Arg := ⟨0, 4, 1, true⟩
def A.FAULT_CONFIG_REACT : Arg := ⟨0, 8, 5, false⟩
def C.FAULT_CONFIG : Cmd := ⟨0xf01, 0, 0x7c, [A.FAULT_CONFIG_CLASS, A.FAULT_CONFIG_ESCALATE, A.FAULT_CONFIG_REACT], 4, 4, 4⟩
def A.CLASS_CONFIG_REACT : Arg := ⟨0, 0, 5, false⟩
def A.CLASS_CONFIG_ESCALATE : Arg := ⟨0, 8, 1, false⟩
def A.CLASS_CONFIG_ACK_TIMEOUT_MS : Arg := ⟨0, 16, 16, true⟩
def C.CLASS_CONFIG : Cmd := ⟨0xf02, 0, 0x7c, [A.CLASS_CONFIG_REACT, A.CLASS_CONFIG_ESCALATE, A.CLASS_CONFIG_ACK_TIMEOUT_MS], 4, 4, 4⟩
def A.EVENT_ROUTE_VECTOR : Arg := ⟨0, 0, 8, false⟩
def A.EVENT_ROUTE_HOLDOFF_US : Arg := ⟨0, 16, 10, true⟩
def A.EVENT_ROUTE_MASK (h : Nat) : Arg := ⟨4 + 4 * h, 0, 32, false⟩
def A.EVENT_ROUTE_TLR (h : Nat) : Arg := ⟨12 + 4 * h, 0, 32, true⟩
def C.EVENT_ROUTE : Cmd := ⟨0xf03, 0, 0x7c, [A.EVENT_ROUTE_VECTOR, A.EVENT_ROUTE_HOLDOFF_US] ++ (List.range 2).map A.EVENT_ROUTE_MASK ++ (List.range 2).map A.EVENT_ROUTE_TLR, 12, 20, 4⟩
def A.FAULT_READ_COUNT : Arg := ⟨0, 0, 6, false⟩
def A.FAULT_READ_UNACKED_ONLY : Arg := ⟨0, 8, 1, false⟩
def A.FAULT_READ_FIRST : Arg := ⟨4, 0, 32, true⟩
def C.FAULT_READ : Cmd := ⟨0xf04, 1, 0xfc, [A.FAULT_READ_COUNT, A.FAULT_READ_UNACKED_ONLY, A.FAULT_READ_FIRST], 4, 8, 8⟩
def A.FAULT_ACK_SCOPE : Arg := ⟨0, 0, 2, false⟩
def A.FAULT_ACK_CLASS : Arg := ⟨0, 8, 2, false⟩
def A.FAULT_ACK_RECORD : Arg := ⟨4, 0, 32, false⟩
def C.FAULT_ACK : Cmd := ⟨0xf05, 0, 0xfc, [A.FAULT_ACK_SCOPE, A.FAULT_ACK_CLASS, A.FAULT_ACK_RECORD], 8, 8, 8⟩
def A.ERRN_CONTROL_PULSE_US : Arg := ⟨0, 0, 10, false⟩
def A.ERRN_CONTROL_MODE : Arg := ⟨0, 16, 1, false⟩
def A.ERRN_CONTROL_FORCE : Arg := ⟨0, 17, 1, true⟩
def A.ERRN_CONTROL_RELEASE : Arg := ⟨0, 18, 1, false⟩
def C.ERRN_CONTROL : Cmd := ⟨0xf06, 0, 0x7c, [A.ERRN_CONTROL_PULSE_US, A.ERRN_CONTROL_MODE, A.ERRN_CONTROL_FORCE, A.ERRN_CONTROL_RELEASE], 4, 4, 4⟩
def A.FAULT_INJECT_KIND : Arg := ⟨0, 0, 2, false⟩
def C.FAULT_INJECT : Cmd := ⟨0xf07, 0, 0x48, [A.FAULT_INJECT_KIND], 4, 4, 4⟩

/-- Every command of the manual. -/
def cmdTable : List Cmd :=
  [C.PATCH_LOAD, C.RESET_CONFIG, C.NOP, C.IDENTIFY, C.MODE_REQUEST, C.ASYNC_RESULT,
   C.ABORT_COMMAND, C.HISTORY_READ, C.GRANT, C.REVOKE, C.CLOCK_CONFIG, C.CLOCK_SELECT,
   C.WATCH_TRIM, C.LANE_CONFIG, C.EQ_TABLE_LOAD, C.LANE_TEST, C.LANE_MARGIN_SCAN, C.STITCH_CONFIG,
   C.PORT_CONFIG, C.PORT_DELETE, C.PFC_CONFIG, C.PREEMPT_CONFIG, C.PARSER_TABLE_LOAD, C.PARSER_CONFIG,
   C.PARSER_PORT, C.FLAT_PROFILE_SET, C.EXPRESS_FILTER_SET, C.PUNT_CONFIG, C.CLS_TABLE_CONFIG, C.RULE_STAGE,
   C.POST, C.STAGE_CANCEL, C.METER_CONFIG, C.CLS_PORT_CONFIG, C.POSTING_CONFIG, C.LEDGER_CONFIG,
   C.LEDGER_GLOBAL, C.LOOKUP_PROFILE, C.LDG_PORT_CONFIG, C.ENTRY_WRITE, C.ENTRY_FIND, C.ENTRY_BATCH,
   C.GROUP_SET, C.LEDGER_FLUSH, C.AUDIT_CONFIG, C.CLERK_CONTROL, C.VAULT_CONFIG, C.POOL_CONFIG,
   C.POOL_MAP_SET, C.POOL_READ, C.QUEUE_CONFIG, C.PORT_SCHED_CONFIG, C.ENERGY_CONFIG, C.QUEUE_READ,
   C.SAMPLE_CONFIG, C.TIME_CONFIG, C.TIME_ADJUST, C.TIME_RING_CONFIG, C.TIME_PIN_CONFIG, C.PORT_TIME_CONFIG,
   C.LAUNCH_CONFIG, C.GATE_LIST_SET, C.CTH_CONFIG, C.SYNDICATE_CREATE, C.MEMBER_LOAD, C.SYNDICATE_DELETE,
   C.SYNDICATE_READ, C.DMA_CHANNEL_CONFIG, C.DMA_CHANNEL_CONTROL, C.HOSTQ_CONFIG, C.DMA_GLOBAL_CONFIG, C.TALLY_SELECT,
   C.BOOK_CONFIG, C.BOOK_SCHEDULE, C.BOOK_CANCEL, C.MARGINALIA_CONFIG, C.MARGINALIA_PORT, C.MARGINALIA_RULES,
   C.GOV_CAP_CONFIG, C.GOV_PROFILE_SET, C.GOV_PROFILE_SELECT, C.GOV_ZONE_CONFIG, C.GOV_DROOP_CONFIG, C.GOV_PMBUS_CONFIG,
   C.GOV_READ, C.FAULT_CONFIG, C.CLASS_CONFIG, C.EVENT_ROUTE, C.FAULT_READ, C.FAULT_ACK,
   C.ERRN_CONTROL, C.FAULT_INJECT]

end Sys2Proof.Machine
end

