-- ==== Sys2Proof/Config.lean ====
section
/-! DEFINITION. The free values: what the spec leaves open and never states. Each is an opaque constant applied to a plain counter of
State or to the operands it depends on; it has no body, so no statement can rest on a value of it. -/
namespace Sys2Proof

/-- The n-th value the spec leaves open where it states none (log entry 3). -/
opaque Config.freeValue : Nat → Nat

/-- The Charter's defaults: the (register key, word) pairs that the TABLES section of an image gives to the fields whose reset value is
"Charter"; the manual gives no layout for them (log entry 4). -/
opaque Config.charterDefaults : List (BitVec 8) → List (Nat × Nat)

/-- The parser tables that the TABLES section of an image gives, as a PARSER_TABLE_LOAD image; the manual gives no layout for them (log entry 4). -/
opaque Config.charterParser : List (BitVec 8) → List (BitVec 8)

/-- What each instruction code of the test access port selects: 0 IDCODE, 1 a boundary-scan instruction, else BYPASS. The manual gives no codes; the
code's bits are those shifted in, oldest first (log entry 52). -/
opaque Config.tapCode : List Bool → Nat

/-- Whether a higher watch trim code makes the ring oscillator faster; the manual gives only the size of a step (log entry 9). -/
opaque Config.trimRaises : Bool

end Sys2Proof
end

