-- ==== Sys2Proof/Machine/Events.lean ====
section
/-! DEFINITION. The event map (R552): every source number s = 64g + b that the chapters' event tables define, with the class its
table gives (0 Notice, 1 Degraded, 2 Severe, 3 Grave; R553), and the small maps that the register tables refer to. -/
namespace Sys2Proof.Machine

/-- GLB_MODE.MODE changes. -/
def E.GLB_MODE_CHANGE : Nat := 0
/-- a page is rejected. -/
def E.GLB_BOOT_PAGE_REJECT : Nat := 1
/-- verification fails. -/
def E.GLB_BOOT_IMAGE_BAD : Nat := 2
/-- a patch is installed. -/
def E.GLB_PATCH_INSTALLED : Nat := 3
/-- PATCH_LOAD is refused. -/
def E.GLB_PATCH_REJECTED : Nat := 4
/-- a rail leaves its range. -/
def E.PWR_RAIL_ABSENT : Nat := 5
/-- Fault-Hold is entered. -/
def E.GLB_FAULT_HOLD : Nat := 6
/-- a doorbell is not accepted. -/
def E.TLR_DOORBELL_DROP : Nat := 64
/-- a request-area or response-area write is ignored. -/
def E.TLR_REQ_WRITE_DROP : Nat := 65
/-- a BAR2 write to a unit not granted is ignored. -/
def E.TLR_UNGRANTED_WRITE : Nat := 66
/-- a completion record is filled. -/
def E.TLR_ASYNC_DONE : Nat := 67
/-- an unread completion is overwritten. -/
def E.TLR_ASYNC_LOST : Nat := 68
/-- a lease ends. -/
def E.TLR_GRANT_EXPIRED : Nat := 69
/-- a command completes after its bound. -/
def E.TLR_DEADLINE_MISS : Nat := 70
/-- no dispatcher scheduling point for 1 ms. -/
def E.TLR_WATCHDOG : Nat := 71
/-- a qualified source is lost. -/
def E.CKG_REF_LOST : Nat := 128
/-- a source becomes qualified. -/
def E.CKG_REF_QUALIFIED : Nat := 129
/-- R129 or R130 applies. -/
def E.CKG_FREQ_DISAGREE : Nat := 130
/-- a domain switches to its fallback automatically. -/
def E.CKG_FALLBACK : Nat := 131
/-- a commanded or reverting switch completes. -/
def E.CKG_SWITCH_DONE : Nat := 132
/-- a PLL loses lock. -/
def E.CKG_PLL_UNLOCK : Nat := 133
/-- recorded under R140. -/
def E.CKG_NO_QUALIFIED_SOURCE : Nat := 134
/-- R142 applies. -/
def E.CKG_QD_DOMAIN_STOPPED : Nat := 135
/-- a toggle pending count reaches 15. -/
def E.CKG_XING_OVERFLOW : Nat := 136
/-- a crossing enters peer-in-reset. -/
def E.CKG_XING_PEER_RESET : Nat := 137
/-- the trim code reaches 0 or 1,023. -/
def E.CKG_WATCH_TRIM_LIMIT : Nat := 138
/-- LOS or CDR_UNLOCK is set (lane or port n). -/
def E.LANE_LOSS (n : Nat) : Nat := 64 * (16 + 5 * (n / 64)) + n % 64
/-- THRESHOLD_HIT is set (lane or port n). -/
def E.LANE_PRBS_THRESHOLD (n : Nat) : Nat := 64 * (17 + 5 * (n / 64)) + n % 64
/-- ALIGN_LOSS, LOCK_LOSS or RETRAINED is set (lane or port n). -/
def E.LANE_BLOCK_LOSS (n : Nat) : Nat := 64 * (18 + 5 * (n / 64)) + n % 64
/-- a lane of the quire changes band; quire q. -/
def E.LANE_EQ_BAND_CHANGE (q : Nat) : Nat := 64 * (20 + 5 * q) + 0
/-- R171 applies to a lane of the quire; quire q. -/
def E.LANE_EQ_TABLE_REJECT (q : Nat) : Nat := 64 * (20 + 5 * q) + 1
/-- a Stitch lane of the quire starts a retrain; quire q. -/
def E.STCH_RETRAIN (q : Nat) : Nat := 64 * (20 + 5 * q) + 2
/-- REPLAY_MISS is set on a lane of the quire; quire q. -/
def E.STCH_REPLAY_MISS (q : Nat) : Nat := 64 * (20 + 5 * q) + 3
/-- DEGRADE_SET is set on a port of the quire; quire q. -/
def E.PCS_FEC_DEGRADE (q : Nat) : Nat := 64 * (20 + 5 * q) + 4
/-- DOWN, ERR_DIS_SET, STORM_SET or VERIFY_FAIL is set on the port whose lowest lane is local lane l (lane or port n). -/
def E.MAC_PORT_EVENT (n : Nat) : Nat := 64 * (19 + 5 * (n / 64)) + n % 64
/-- a storm is declared on a port of the quire; quire q. -/
def E.MAC_PFC_STORM (q : Nat) : Nat := 64 * (20 + 5 * q) + 5
/-- verification fails on a port of the quire; quire q. -/
def E.MAC_PREEMPT_VERIFY_FAIL (q : Nat) : Nat := 64 * (20 + 5 * q) + 6
/-- a port of the quire becomes ERR_DISABLED; quire q. -/
def E.MAC_PORT_ERR_DISABLED (q : Nat) : Nat := 64 * (20 + 5 * q) + 7
/-- PARITY is set in a pipeline of the quire; quire q. -/
def E.PRS_TABLE_PARITY (q : Nat) : Nat := 64 * (20 + 5 * q) + 8
/-- SWAPPED is set in a pipeline of the quire; quire q. -/
def E.PRS_TABLE_SWAPPED (q : Nat) : Nat := 64 * (20 + 5 * q) + 9
/-- a write to an active bank is ignored; quire q. -/
def E.PRS_ACTIVE_WRITE_DROP (q : Nat) : Nat := 64 * (20 + 5 * q) + 10
/-- DROP is set for any reason. -/
def E.DMA_PUNT_DROP : Nat := 447
/-- OLDEST advances. -/
def E.CLS_POSTING_DRAINED : Nat := 576
/-- both dies have switched. -/
def E.CLS_POST_DONE : Nat := 577
/-- UNDRAINED reaches 128. -/
def E.CLS_POSTING_FULL : Nat := 578
/-- R287. -/
def E.CLS_DRAIN_STALL : Nat := 579
/-- R269. -/
def E.CLS_RULE_PARITY : Nat := 580
/-- R277. -/
def E.CLS_METER_PARITY : Nat := 581
/-- an insert evicts an entry. -/
def E.LDG_EVICT : Nat := 640
/-- an insert fails with NO_ROOM. -/
def E.LDG_NO_ROOM : Nat := 641
/-- R314 finds bad parity. -/
def E.LDG_PARITY : Nat := 642
/-- no good copy remains. -/
def E.LDG_ENTRY_LOST : Nat := 643
/-- R306 drops a record. -/
def E.LDG_LEARN_DROP : Nat := 644
/-- a pass with a verdict finds a mismatch. -/
def E.LDG_AUDIT_MISMATCH : Nat := 645
/-- a pass ends with a verdict. -/
def E.LDG_AUDIT_PASS : Nat := 646
/-- R310. -/
def E.LDG_SWEEP_OVERRUN : Nat := 647
/-- a group has no live member. -/
def E.LDG_GROUP_EMPTY : Nat := 648
/-- R303 drops an express frame. -/
def E.LDG_EXPRESS_MISS : Nat := 649
/-- a Clerk parks. -/
def E.CLRK_PARKED : Nat := 650
/-- R323. -/
def E.CLRK_FAULT : Nat := 651
/-- a lossless pool asks for XOFF on a die. -/
def E.VLT_XOFF : Nat := 704
/-- DROP is set. -/
def E.VLT_POOL_DROP : Nat := 705
/-- HEADROOM_DROP is set. -/
def E.VLT_HEADROOM_DROP : Nat := 706
/-- R344 begins to apply on a die. -/
def E.VLT_DESC_LOW : Nat := 707
/-- R349, double free. -/
def E.VLT_DOUBLE_FREE : Nat := 708
/-- R349, foreign free. -/
def E.VLT_FOREIGN_FREE : Nat := 709
/-- R351. -/
def E.VLT_ECC_UNCORRECTABLE : Nat := 710
/-- R352. -/
def E.VLT_LINK_PARITY : Nat := 711
/-- R377 drops a frame. -/
def E.QSC_EXPRESS_POLICE_DROP : Nat := 768
/-- R378 drops a frame. -/
def E.QSC_EXPRESS_EGRESS_DROP : Nat := 769
/-- DROP is set on a queue. -/
def E.QSC_QUEUE_DROP : Nat := 770
/-- a purse is still below 0 after a refill. -/
def E.QSC_PURSE_NEGATIVE : Nat := 771
/-- R383. -/
def E.QSC_STATE_PARITY : Nat := 772
/-- network time becomes locked. -/
def E.TIM_LOCK_GAINED : Nat := 320
/-- network time loses lock. -/
def E.TIM_LOCK_LOST : Nat := 321
/-- a step is applied, R395 or R392. -/
def E.TIM_STEP : Nat := 322
/-- PPS_MISS is set. -/
def E.TIM_PPS_MISS : Nat := 323
/-- a PPS mark falls outside the window. -/
def E.TIM_PPS_OUT_OF_WINDOW : Nat := 324
/-- R393 switches to BPLL_W ÷ 5. -/
def E.TIM_FALLBACK : Nat := 325
/-- R44 applies on a die. -/
def E.TIM_LOCAL_STALE : Nat := 326
/-- MISSED or CAPTURE_MERGED is set, or an edge is skipped. -/
def E.TIM_PIN_EVENT : Nat := 327
/-- a changeover takes place on any port. -/
def E.TIM_GATE_CHANGED : Nat := 328
/-- LATE is set on any port. -/
def E.TIM_LAUNCH_LATE : Nat := 329
/-- FAR is set on any port. -/
def E.TIM_LAUNCH_FAR : Nat := 330
/-- NO_PAD is set on any port. -/
def E.TIM_TC_NO_PAD : Nat := 331
/-- R448. -/
def E.CTH_STRAGGLER : Nat := 832
/-- a chunk is abandoned under R449 or R451. -/
def E.CTH_CHUNK_ABORTED : Nat := 833
/-- an error frame is due under R439. -/
def E.CTH_MEMBER_ERROR : Nat := 834
/-- R433 or R456 drops a frame. -/
def E.CTH_INTAKE_DROP : Nat := 835
/-- R446. -/
def E.CTH_RESULT_STALL : Nat := 836
/-- R442, or a floating-point result overflows under R441. -/
def E.CTH_OVERFLOW : Nat := 837
/-- R451, uncorrectable error. -/
def E.CTH_STORE_FAULT : Nat := 838
/-- channel c stops. -/
def E.DMA_CH_STOP (c : Nat) : Nat := 64 * 6 + c
/-- R475. -/
def E.DMA_HOST_TIMEOUT : Nat := 416
/-- R477. -/
def E.DMA_BEAT_ERR : Nat := 417
/-- R474. -/
def E.DMA_LOOP : Nat := 418
/-- R476. -/
def E.DMA_WRITEBACK_FAIL : Nat := 419
/-- R480. -/
def E.DMA_HOSTQ_DROP : Nat := 420
/-- R488. -/
def E.DMA_INJECT_DROP : Nat := 421
/-- a descriptor ends with DEVICE_ERR. -/
def E.DMA_DEVICE_ERR : Nat := 422
/-- LINK_DOWN is set. -/
def E.DMA_PCIE_LINK_DOWN : Nat := 423
/-- a book's SEQ word is written. -/
def E.TLY_BOOK_CLOSED : Nat := 512
/-- R506, book not taken. -/
def E.TLY_BOOK_MISSED : Nat := 513
/-- R508. -/
def E.TLY_SAMPLES_LOST : Nat := 514
/-- R501. -/
def E.TLY_STORE_ERROR : Nat := 515
/-- a record is not appended under R511. -/
def E.MRG_TOO_LONG : Nat := 896
/-- R512, HOP 15 reached. -/
def E.MRG_HOP_LIMIT : Nat := 897
/-- R514 sets the Overflow flag. -/
def E.MRG_IOAM_OVERFLOW : Nat := 898
/-- WARN_SET is set. -/
def E.GOV_ZONE_WARN : Nat := 256
/-- THROTTLE_SET is set. -/
def E.GOV_ZONE_THROTTLE : Nat := 257
/-- CRITICAL_SET is set. -/
def E.GOV_ZONE_CRITICAL : Nat := 258
/-- ENGAGE_SET is set. -/
def E.GOV_CAP_ENGAGED : Nat := 259
/-- R542. -/
def E.GOV_CAP_UNREACHABLE : Nat := 260
/-- R532 moves a droop limit slower. -/
def E.GOV_DROOP_STEP : Nat := 261
/-- R529. -/
def E.GOV_STRETCH_DENIED : Nat := 262
/-- R534. -/
def E.GOV_SENSOR_FAULT : Nat := 263
/-- R539. -/
def E.GOV_PMBUS_FAULT : Nat := 264
/-- ADMIT_DROP is set. -/
def E.GOV_ADMIT_DROP : Nat := 265
/-- R537. -/
def E.GOV_THERMTRIP : Nat := 266
/-- R555. -/
def E.CLH_RAIL_BREAK : Nat := 192
/-- R561 escalates a fault. -/
def E.CLH_ESCALATED : Nat := 193
/-- R560. -/
def E.CLH_RECORD_LOST : Nat := 194
/-- R556. -/
def E.CLH_COLLECTOR_LOST : Nat := 195
/-- R567 resets a unit. -/
def E.CLH_BLOCK_RESET : Nat := 196
/-- the Teller has rewritten the unit. -/
def E.CLH_BLOCK_RESTORED : Nat := 197
/-- R576. -/
def E.CLH_INJECTED : Nat := 198
/-- SIZE_ERR is set (R591). -/
def E.GLB_WINDOW_SIZE_ERR : Nat := 7
/-- UNCORR is set (R591). -/
def E.GLB_WINDOW_UNCORR : Nat := 8

/-- The class whose mask holds bit `b`, or 4. -/
def maskClass (b m0 m1 m2 m3 : Nat) : Nat :=
  if m0.testBit b then 0 else if m1.testBit b then 1 else if m2.testBit b then 2 else if m3.testBit b then 3 else 4

/-- The class of bit `b` of a central group `g`, or 4 where no chapter defines it. -/
def centralClass (g b : Nat) : Nat :=
  if g = 0 then maskClass b 0x9f 0x100 0x20 0x40 else
  if g = 1 then maskClass b 0x3f 0x0 0xc0 0x0 else
  if g = 2 then maskClass b 0x212 0x500 0xed 0x0 else
  if g = 3 then maskClass b 0x72 0x4 0x9 0x0 else
  if g = 4 then maskClass b 0x229 0x1d2 0x4 0x400 else
  if g = 5 then maskClass b 0xf95 0x2a 0x40 0x0 else
  if g = 6 then maskClass b 0x80000034ffffffff 0x4300000000 0x8800000000 0x0 else
  if g = 8 then maskClass b 0x5 0xa 0x0 0x0 else
  if g = 9 then maskClass b 0x7 0x38 0x0 0x0 else
  if g = 10 then maskClass b 0x753 0x84 0x828 0x0 else
  if g = 11 then maskClass b 0xb 0xd4 0x20 0x0 else
  if g = 12 then maskClass b 0xf 0x10 0x0 0x0 else
  if g = 13 then maskClass b 0x3d 0x42 0x0 0x0 else
  if g = 14 then maskClass b 0x7 0x0 0x0 0x0 else
  4

/-- The class of source `s` (R552, R553), or 4 where the number names no source. Groups 16 + 5q to 20 + 5q are quire q's. -/
def srcClass (s : Nat) : Nat :=
  let g := s / 64
  let b := s % 64
  if s < 1024 then centralClass g b
  else if 6144 ≤ s then 4
  else if (g - 16) % 5 < 4 then 0
  else maskClass b 0x611 0x1ee 0x0 0x0

/-- 1 when the number names a source (R552). -/
def srcUsed (s : Nat) : Nat := if srcClass s < 4 then 1 else 0

/-- The reset class of a source; 0 for a number that names no source (R552). -/
def srcClassReset (s : Nat) : Nat := if srcClass s < 4 then srcClass s else 0

/-- Class reactions at reset (R564), bits MSI 0, TRAP 1, BLOCK_RESET 2, CHIP_RESET 3, ERROR_N 4. -/
def classReactReset (c : Nat) : Nat := if c = 1 then 3 else if c = 2 then 19 else if c = 3 then 16 else 0

/-- Divider edges M of operating point k (R522). -/
def govPointM (k : Nat) : Nat := [20, 18, 16, 14, 12, 10, 8, 5].getD k 5

/-- Die logic supply of operating point k in mV (R522). -/
def govPointMv (k : Nat) : Nat := [750, 720, 690, 670, 650, 630, 610, 600].getD k 600

/-- Block counters of tally unit u = 32 KIND + INDEX (R493); 0 for an unused number. -/
def tlyUnitCounters (u : Nat) : Nat :=
  let k := u / 32
  let i := u % 32
  if k < 12 then [48, 16, 16, 48, 16, 16, 8, 32, 32, 32, 16, 48].getD k 0
  else if k = 12 then (if i < 8 then 16 else if i < 10 then 32 else if i = 13 then 16 else if i < 17 then 8 else 0)
  else if k = 13 then (if i < 10 then 16 else 0)
  else 0

/-- The die of a tally unit: 0–7 quire dies, 8 West, 9 East (R493). R12 places Teller, DMA, time base and
Clearing House on West and the tally reader on East; Clerks 0 to 3 on West and 4 to 7 on East is DEDUCED (log entry 20). -/
def tlyUnitDie (u : Nat) : Nat :=
  let k := u / 32
  let i := u % 32
  if k < 6 then i / 4
  else if k < 12 then (if i < 16 then 8 else 9)
  else if k = 12 then (if i < 4 then 8 else if i < 8 then 9 else if i = 9 then 9 else if i = 11 then 9 else if i = 16 then 9 else 8)
  else if k = 13 then (if i < 10 then i else 0)
  else 0

/-- The clock domain of a tally unit by the numbering of R124: 0 West core, 1 East core, 2 Teller, 3 PCIe, 4 time, 6 + q MAC/PCS of
quire q; 31 for a lane receive clock (R493). -/
def tlyUnitDomain (u : Nat) : Nat :=
  let k := u / 32
  let i := u % 32
  if k < 6 then 6 + i / 2
  else if k < 12 then (if i < 16 then 0 else 1)
  else if k = 12 then (if i = 12 then 2 else if i = 13 then 3 else if i = 14 then 4 else if tlyUnitDie u = 9 then 1 else 0)
  else if k = 13 then (if i < 8 then 6 + 2 * i else if i = 8 then 0 else 1)
  else 0

end Sys2Proof.Machine
end

