-- ==== Sys2Proof/Machine/Regs.lean ====
section
/-! DEFINITION. The register map: one `Reg` a register set and one `Fld` a field, in the order in which the
chapters of spec/ give their register tables (R584, R585 fix the instance arithmetic, R3 the access codes). BAR0 offsets stand at + 0x1_0000_0000
and BAR4 offsets at + 0x2_0000_0000, so that one key names one register. -/
namespace Sys2Proof.Machine

/-- A register set: `base` is instance 0's offset; `dims` the (count, stride) pairs, innermost first (R584); `rst` the reset
value of an instance; the masks say which bits software may write, clear by writing 1, set by writing 1, or clear by reading (R3). -/
structure Reg where
  name : String
  base : Nat
  dims : List (Nat × Nat)
  rst : Nat → Nat
  rw : Nat
  w1c : Nat
  w1s : Nat
  rc : Nat
  aon : Bool

/-- A field of a register: its lowest bit and its width. -/
structure Fld where
  reg : Reg
  lo : Nat
  wd : Nat

def R.BOOT_STATUS : Reg := ⟨"BOOT_STATUS", 0x100820000, [(1, 0)], fun _ => 0x0, 0x0, 0x0, 0x0, 0x0, false⟩
def F.BOOT_STATUS_READY : Fld := ⟨R.BOOT_STATUS, 0, 1⟩
def F.BOOT_STATUS_BUF0_FREE : Fld := ⟨R.BOOT_STATUS, 1, 1⟩
def F.BOOT_STATUS_BUF1_FREE : Fld := ⟨R.BOOT_STATUS, 2, 1⟩
def F.BOOT_STATUS_VERIFYING : Fld := ⟨R.BOOT_STATUS, 3, 1⟩
def F.BOOT_STATUS_DONE : Fld := ⟨R.BOOT_STATUS, 4, 1⟩
def F.BOOT_STATUS_SOURCE : Fld := ⟨R.BOOT_STATUS, 5, 2⟩
def F.BOOT_STATUS_ERROR : Fld := ⟨R.BOOT_STATUS, 8, 8⟩
def F.BOOT_STATUS_PAGES_ACCEPTED : Fld := ⟨R.BOOT_STATUS, 16, 9⟩
def R.BOOT_CTL : Reg := ⟨"BOOT_CTL", 0x100820004, [(1, 0)], fun _ => 0x0, 0x0, 0x0, 0x3, 0x0, false⟩
def F.BOOT_CTL_START : Fld := ⟨R.BOOT_CTL, 0, 1⟩
def F.BOOT_CTL_ABORT : Fld := ⟨R.BOOT_CTL, 1, 1⟩
def R.BOOT_ERR_PAGE : Reg := ⟨"BOOT_ERR_PAGE", 0x100820008, [(1, 0)], fun _ => 0x0, 0x0, 0x0, 0x0, 0x0, false⟩
def F.BOOT_ERR_PAGE_PAGE : Fld := ⟨R.BOOT_ERR_PAGE, 0, 9⟩
def R.BOOT_WINDOW_REJECTS : Reg := ⟨"BOOT_WINDOW_REJECTS", 0x10082000c, [(1, 0)], fun _ => 0x0, 0x0, 0x0, 0x0, 0x0, false⟩
def F.BOOT_WINDOW_REJECTS_COUNT : Fld := ⟨R.BOOT_WINDOW_REJECTS, 0, 32⟩
def R.BOOT_PAGE_CTL : Reg := ⟨"BOOT_PAGE_CTL", 0x100820010, [(2, 0x10)], fun _ => 0x0, 0x1ff, 0x0, 0x80000000, 0x0, false⟩
def F.BOOT_PAGE_CTL_INDEX : Fld := ⟨R.BOOT_PAGE_CTL, 0, 9⟩
def F.BOOT_PAGE_CTL_GO : Fld := ⟨R.BOOT_PAGE_CTL, 31, 1⟩
def R.BOOT_PAGE_CRC : Reg := ⟨"BOOT_PAGE_CRC", 0x100820014, [(2, 0x10)], fun _ => 0x0, 0xffffffff, 0x0, 0x0, 0x0, false⟩
def F.BOOT_PAGE_CRC_CRC : Fld := ⟨R.BOOT_PAGE_CRC, 0, 32⟩
def R.GLB_CHARTER_VERSION : Reg := ⟨"GLB_CHARTER_VERSION", 0x20, [(1, 0)], fun _ => 0x0, 0x0, 0x0, 0x0, 0x0, false⟩
def F.GLB_CHARTER_VERSION_BUILD : Fld := ⟨R.GLB_CHARTER_VERSION, 0, 16⟩
def F.GLB_CHARTER_VERSION_MINOR : Fld := ⟨R.GLB_CHARTER_VERSION, 16, 8⟩
def F.GLB_CHARTER_VERSION_MAJOR : Fld := ⟨R.GLB_CHARTER_VERSION, 24, 8⟩
def R.GLB_CHARTER_CRC : Reg := ⟨"GLB_CHARTER_CRC", 0x24, [(1, 0)], fun _ => 0x0, 0x0, 0x0, 0x0, 0x0, false⟩
def F.GLB_CHARTER_CRC_IMAGE_CRC : Fld := ⟨R.GLB_CHARTER_CRC, 0, 32⟩
def R.GLB_PATCH_LEVEL : Reg := ⟨"GLB_PATCH_LEVEL", 0x28, [(1, 0)], fun _ => 0x0, 0x0, 0x0, 0x0, 0x0, false⟩
def F.GLB_PATCH_LEVEL_LEVEL : Fld := ⟨R.GLB_PATCH_LEVEL, 0, 16⟩
def F.GLB_PATCH_LEVEL_LAST_STATUS : Fld := ⟨R.GLB_PATCH_LEVEL, 16, 8⟩
def F.GLB_PATCH_LEVEL_REJECTS : Fld := ⟨R.GLB_PATCH_LEVEL, 24, 8⟩
def R.GLB_CLERK_STORE_VERSION : Reg := ⟨"GLB_CLERK_STORE_VERSION", 0x2c, [(1, 0)], fun _ => 0x0, 0x0, 0x0, 0x0, 0x0, false⟩
def F.GLB_CLERK_STORE_VERSION_BUILD : Fld := ⟨R.GLB_CLERK_STORE_VERSION, 0, 16⟩
def F.GLB_CLERK_STORE_VERSION_MINOR : Fld := ⟨R.GLB_CLERK_STORE_VERSION, 16, 8⟩
def F.GLB_CLERK_STORE_VERSION_MAJOR : Fld := ⟨R.GLB_CLERK_STORE_VERSION, 24, 8⟩
def R.GLB_RESET_CFG : Reg := ⟨"GLB_RESET_CFG", 0x34, [(1, 0)], fun _ => 0x0, 0xf, 0x0, 0x0, 0x0, false⟩
def F.GLB_RESET_CFG_PERST_SCOPE : Fld := ⟨R.GLB_RESET_CFG, 0, 1⟩
def F.GLB_RESET_CFG_SPI_LOCK : Fld := ⟨R.GLB_RESET_CFG, 1, 1⟩
def F.GLB_RESET_CFG_PATCH_LOCK : Fld := ⟨R.GLB_RESET_CFG, 2, 1⟩
def F.GLB_RESET_CFG_RELOAD_LOCK : Fld := ⟨R.GLB_RESET_CFG, 3, 1⟩
def R.GLB_RESET_CAUSE : Reg := ⟨"GLB_RESET_CAUSE", 0x30, [(1, 0)], fun _ => 0x1, 0x0, 0x0, 0x0, 0x0, true⟩
def F.GLB_RESET_CAUSE_POWER_ON : Fld := ⟨R.GLB_RESET_CAUSE, 0, 1⟩
def F.GLB_RESET_CAUSE_RESET_PIN : Fld := ⟨R.GLB_RESET_CAUSE, 1, 1⟩
def F.GLB_RESET_CAUSE_PERST_PIN : Fld := ⟨R.GLB_RESET_CAUSE, 2, 1⟩
def F.GLB_RESET_CAUSE_CLH_CHIP_RESET : Fld := ⟨R.GLB_RESET_CAUSE, 3, 1⟩
def F.GLB_RESET_CAUSE_RESETS : Fld := ⟨R.GLB_RESET_CAUSE, 8, 8⟩
def R.GLB_SESSION : Reg := ⟨"GLB_SESSION", 0x38, [(1, 0)], fun _ => 0x0, 0x0, 0x0, 0x0, 0x0, true⟩
def F.GLB_SESSION_STANDBY_ENTRIES : Fld := ⟨R.GLB_SESSION, 0, 16⟩
def F.GLB_SESSION_POWER_TAG : Fld := ⟨R.GLB_SESSION, 16, 16⟩
def R.GLB_RAIL_STATUS : Reg := ⟨"GLB_RAIL_STATUS", 0x3c, [(1, 0)], fun _ => 0x0, 0x0, 0x0, 0x0, 0x0, true⟩
def F.GLB_RAIL_STATUS_GOOD : Fld := ⟨R.GLB_RAIL_STATUS, 0, 7⟩
def R.GLB_MODE : Reg := ⟨"GLB_MODE", 0x10, [(1, 0)], fun _ => 0x0, 0x0, 0x0, 0x0, 0x0, false⟩
def F.GLB_MODE_MODE : Fld := ⟨R.GLB_MODE, 0, 4⟩
def F.GLB_MODE_PREV_MODE : Fld := ⟨R.GLB_MODE, 4, 4⟩
def F.GLB_MODE_TRANSITION : Fld := ⟨R.GLB_MODE, 8, 1⟩
def F.GLB_MODE_TARGET : Fld := ⟨R.GLB_MODE, 12, 4⟩
def F.GLB_MODE_TIME_LOCKED : Fld := ⟨R.GLB_MODE, 16, 1⟩
def F.GLB_MODE_FAULT_HOLD : Fld := ⟨R.GLB_MODE, 17, 1⟩
def R.MBX_DOORBELL : Reg := ⟨"MBX_DOORBELL", 0x100010000, [(8, 0x20)], fun _ => 0x0, 0xffff, 0x0, 0x0, 0x0, false⟩
def F.MBX_DOORBELL_SEQ : Fld := ⟨R.MBX_DOORBELL, 0, 16⟩
def R.MBX_STATUS : Reg := ⟨"MBX_STATUS", 0x100010004, [(8, 0x20)], fun _ => 0x0, 0x0, 0x0, 0x0, 0x0, false⟩
def F.MBX_STATUS_RESP_VALID : Fld := ⟨R.MBX_STATUS, 0, 1⟩
def F.MBX_STATUS_BUSY : Fld := ⟨R.MBX_STATUS, 1, 1⟩
def F.MBX_STATUS_ALIVE : Fld := ⟨R.MBX_STATUS, 2, 1⟩
def F.MBX_STATUS_PREEMPTED : Fld := ⟨R.MBX_STATUS, 3, 1⟩
def F.MBX_STATUS_DOORBELL_DROPS : Fld := ⟨R.MBX_STATUS, 8, 8⟩
def F.MBX_STATUS_REQ_WRITE_DROPS : Fld := ⟨R.MBX_STATUS, 16, 8⟩
def R.MBX_LAST : Reg := ⟨"MBX_LAST", 0x100010008, [(8, 0x20)], fun _ => 0x0, 0x0, 0x0, 0x0, 0x0, false⟩
def F.MBX_LAST_LAST_SEQ : Fld := ⟨R.MBX_LAST, 0, 16⟩
def F.MBX_LAST_LAST_VALID : Fld := ⟨R.MBX_LAST, 16, 1⟩
def R.MBX_CTL : Reg := ⟨"MBX_CTL", 0x10001000c, [(8, 0x20)], fun i => 0x0 + ((if i = 6 then 0 else 1) <<< 1) + ((i) <<< 8), 0xff03, 0x0, 0x0, 0x0, false⟩
def F.MBX_CTL_IRQ_EN : Fld := ⟨R.MBX_CTL, 0, 1⟩
def F.MBX_CTL_PCIE_WRITE : Fld := ⟨R.MBX_CTL, 1, 1⟩
def F.MBX_CTL_VECTOR : Fld := ⟨R.MBX_CTL, 8, 8⟩
def R.TLR_STATUS : Reg := ⟨"TLR_STATUS", 0x1000000, [(1, 0)], fun _ => 0x1, 0x0, 0x0, 0x0, 0x0, false⟩
def F.TLR_STATUS_ROM : Fld := ⟨R.TLR_STATUS, 0, 1⟩
def F.TLR_STATUS_CORE_RUN : Fld := ⟨R.TLR_STATUS, 1, 4⟩
def F.TLR_STATUS_URGENT_ACTIVE : Fld := ⟨R.TLR_STATUS, 5, 1⟩
def F.TLR_STATUS_PATCH_INSTALLING : Fld := ⟨R.TLR_STATUS, 6, 1⟩
def F.TLR_STATUS_EXECUTING : Fld := ⟨R.TLR_STATUS, 8, 8⟩
def F.TLR_STATUS_ALIVE : Fld := ⟨R.TLR_STATUS, 16, 8⟩
def R.TLR_MBX_CMD : Reg := ⟨"TLR_MBX_CMD", 0x1000010, [(8, 0x10)], fun _ => 0x0, 0x0, 0x0, 0x0, 0x0, false⟩
def F.TLR_MBX_CMD_SEQ : Fld := ⟨R.TLR_MBX_CMD, 0, 16⟩
def F.TLR_MBX_CMD_OPCODE : Fld := ⟨R.TLR_MBX_CMD, 16, 16⟩
def R.TLR_MBX_RUN : Reg := ⟨"TLR_MBX_RUN", 0x1000014, [(8, 0x10)], fun _ => 0x0, 0x0, 0x0, 0x0, 0x0, false⟩
def F.TLR_MBX_RUN_ELAPSED : Fld := ⟨R.TLR_MBX_RUN, 0, 28⟩
def F.TLR_MBX_RUN_STATE : Fld := ⟨R.TLR_MBX_RUN, 28, 2⟩
def F.TLR_MBX_RUN_EXECUTOR : Fld := ⟨R.TLR_MBX_RUN, 30, 2⟩
def R.TLR_GRANT_BLOCKS : Reg := ⟨"TLR_GRANT_BLOCKS", 0x1000100, [(1, 0)], fun _ => 0x0, 0x0, 0x0, 0x0, 0x0, false⟩
def F.TLR_GRANT_BLOCKS_GRANTED : Fld := ⟨R.TLR_GRANT_BLOCKS, 0, 12⟩
def R.TLR_GRANT_QUIRE : Reg := ⟨"TLR_GRANT_QUIRE", 0x1000110, [(16, 4)], fun _ => 0x0, 0x0, 0x0, 0x0, 0x0, false⟩
def F.TLR_GRANT_QUIRE_GRANTED : Fld := ⟨R.TLR_GRANT_QUIRE, 0, 6⟩
def R.TLR_LEASE : Reg := ⟨"TLR_LEASE", 0x1000800, [(108, 4)], fun _ => 0x0, 0x0, 0x0, 0x0, 0x0, false⟩
def F.TLR_LEASE_REMAINING_MS : Fld := ⟨R.TLR_LEASE, 0, 16⟩
def R.TLR_UNGRANTED_WRITES : Reg := ⟨"TLR_UNGRANTED_WRITES", 0x1000300, [(1, 0)], fun _ => 0x0, 0x0, 0x0, 0x0, 0x0, false⟩
def F.TLR_UNGRANTED_WRITES_COUNT : Fld := ⟨R.TLR_UNGRANTED_WRITES, 0, 32⟩
def R.TLR_UNGRANTED_LAST : Reg := ⟨"TLR_UNGRANTED_LAST", 0x1000304, [(1, 0)], fun _ => 0x0, 0x0, 0x0, 0x0, 0x0, false⟩
def F.TLR_UNGRANTED_LAST_OFFSET : Fld := ⟨R.TLR_UNGRANTED_LAST, 0, 32⟩
def R.TLR_HIST_HEAD : Reg := ⟨"TLR_HIST_HEAD", 0x1000310, [(1, 0)], fun _ => 0x0, 0x0, 0x0, 0x0, 0x0, false⟩
def F.TLR_HIST_HEAD_NEXT : Fld := ⟨R.TLR_HIST_HEAD, 0, 32⟩
def R.TLR_ASYNC_STATE : Reg := ⟨"TLR_ASYNC_STATE", 0x1000320, [(1, 0)], fun _ => 0x0, 0x0, 0x0, 0x0, 0x0, false⟩
def F.TLR_ASYNC_STATE_RUNNING : Fld := ⟨R.TLR_ASYNC_STATE, 0, 7⟩
def F.TLR_ASYNC_STATE_UNREAD : Fld := ⟨R.TLR_ASYNC_STATE, 8, 7⟩
def F.TLR_ASYNC_STATE_LOST : Fld := ⟨R.TLR_ASYNC_STATE, 16, 16⟩
def R.TLR_DEADLINE_MISSES : Reg := ⟨"TLR_DEADLINE_MISSES", 0x1000324, [(1, 0)], fun _ => 0x0, 0x0, 0x0, 0x0, 0x0, false⟩
def F.TLR_DEADLINE_MISSES_COUNT : Fld := ⟨R.TLR_DEADLINE_MISSES, 0, 32⟩
def R.TLR_CORE_PC_LO : Reg := ⟨"TLR_CORE_PC_LO", 0x1000400, [(4, 8)], fun _ => 0x0, 0x0, 0x0, 0x0, 0x0, false⟩
def F.TLR_CORE_PC_LO_PC : Fld := ⟨R.TLR_CORE_PC_LO, 0, 32⟩
def R.TLR_CORE_PC_HI : Reg := ⟨"TLR_CORE_PC_HI", 0x1000404, [(4, 8)], fun _ => 0x0, 0x0, 0x0, 0x0, 0x0, false⟩
def F.TLR_CORE_PC_HI_PC : Fld := ⟨R.TLR_CORE_PC_HI, 0, 32⟩
def R.CKG_QUAL_CFG : Reg := ⟨"CKG_QUAL_CFG", 0x2000000, [(1, 0)], fun _ => 0x801f4, 0xf0fff, 0x0, 0x0, 0x0, false⟩
def F.CKG_QUAL_CFG_TOL_PPM : Fld := ⟨R.CKG_QUAL_CFG, 0, 12⟩
def F.CKG_QUAL_CFG_DISAGREE_INTERVALS : Fld := ⟨R.CKG_QUAL_CFG, 16, 4⟩
def R.CKG_REF_STATUS : Reg := ⟨"CKG_REF_STATUS", 0x2000010, [(12, 4)], fun _ => 0x0, 0x0, 0xc, 0x0, 0x0, false⟩
def F.CKG_REF_STATUS_PRESENT : Fld := ⟨R.CKG_REF_STATUS, 0, 1⟩
def F.CKG_REF_STATUS_QUALIFIED : Fld := ⟨R.CKG_REF_STATUS, 1, 1⟩
def F.CKG_REF_STATUS_LOST : Fld := ⟨R.CKG_REF_STATUS, 2, 1⟩
def F.CKG_REF_STATUS_DISAGREE : Fld := ⟨R.CKG_REF_STATUS, 3, 1⟩
def F.CKG_REF_STATUS_GOOD_RUN : Fld := ⟨R.CKG_REF_STATUS, 4, 11⟩
def F.CKG_REF_STATUS_LOST_COUNT : Fld := ⟨R.CKG_REF_STATUS, 16, 8⟩
def F.CKG_REF_STATUS_DISAGREE_COUNT : Fld := ⟨R.CKG_REF_STATUS, 24, 8⟩
def R.CKG_REF_MEASURE : Reg := ⟨"CKG_REF_MEASURE", 0x2000040, [(12, 4)], fun _ => 0x0, 0x0, 0x0, 0x0, 0x0, false⟩
def F.CKG_REF_MEASURE_ERROR_PPM : Fld := ⟨R.CKG_REF_MEASURE, 0, 16⟩
def F.CKG_REF_MEASURE_COMPARE : Fld := ⟨R.CKG_REF_MEASURE, 16, 4⟩
def R.CKG_WATCH_TRIM : Reg := ⟨"CKG_WATCH_TRIM", 0x2000070, [(1, 0)], fun _ => 0x200, 0xf3ff, 0x0, 0x0, 0x0, true⟩
def F.CKG_WATCH_TRIM_CODE : Fld := ⟨R.CKG_WATCH_TRIM, 0, 10⟩
def F.CKG_WATCH_TRIM_MODE : Fld := ⟨R.CKG_WATCH_TRIM, 12, 2⟩
def F.CKG_WATCH_TRIM_PPS_PIN : Fld := ⟨R.CKG_WATCH_TRIM, 14, 2⟩
def F.CKG_WATCH_TRIM_TRIMMED : Fld := ⟨R.CKG_WATCH_TRIM, 16, 1⟩
def F.CKG_WATCH_TRIM_AT_LIMIT : Fld := ⟨R.CKG_WATCH_TRIM, 17, 1⟩
def R.CKG_WATCH_FREQ : Reg := ⟨"CKG_WATCH_FREQ", 0x2000074, [(1, 0)], fun _ => 0x0, 0x0, 0x0, 0x0, 0x0, true⟩
def F.CKG_WATCH_FREQ_HZ : Fld := ⟨R.CKG_WATCH_FREQ, 0, 32⟩
def R.CKG_PLL_STATUS : Reg := ⟨"CKG_PLL_STATUS", 0x2000080, [(23, 4)], fun _ => 0x0, 0x0, 0x2, 0x0, 0x0, false⟩
def F.CKG_PLL_STATUS_LOCKED : Fld := ⟨R.CKG_PLL_STATUS, 0, 1⟩
def F.CKG_PLL_STATUS_UNLOCK : Fld := ⟨R.CKG_PLL_STATUS, 1, 1⟩
def F.CKG_PLL_STATUS_UNLOCK_COUNT : Fld := ⟨R.CKG_PLL_STATUS, 8, 8⟩
def F.CKG_PLL_STATUS_INPUT : Fld := ⟨R.CKG_PLL_STATUS, 16, 4⟩
def R.CKG_DOMAIN_CFG : Reg := ⟨"CKG_DOMAIN_CFG", 0x2000100, [(22, 8)], fun i => 0x0 + (if i < 3 then 1 else 0), 0x7, 0x0, 0x0, 0x0, false⟩
def F.CKG_DOMAIN_CFG_FALLBACK_EN : Fld := ⟨R.CKG_DOMAIN_CFG, 0, 1⟩
def F.CKG_DOMAIN_CFG_AUTO_REVERT : Fld := ⟨R.CKG_DOMAIN_CFG, 1, 1⟩
def F.CKG_DOMAIN_CFG_SELECT : Fld := ⟨R.CKG_DOMAIN_CFG, 2, 1⟩
def R.CKG_DOMAIN_STATUS : Reg := ⟨"CKG_DOMAIN_STATUS", 0x2000104, [(22, 8)], fun _ => 0x0, 0x0, 0x0, 0x0, 0x0, false⟩
def F.CKG_DOMAIN_STATUS_RUNNING : Fld := ⟨R.CKG_DOMAIN_STATUS, 0, 1⟩
def F.CKG_DOMAIN_STATUS_ON_FALLBACK : Fld := ⟨R.CKG_DOMAIN_STATUS, 1, 1⟩
def F.CKG_DOMAIN_STATUS_HELD : Fld := ⟨R.CKG_DOMAIN_STATUS, 2, 1⟩
def F.CKG_DOMAIN_STATUS_SWITCHING : Fld := ⟨R.CKG_DOMAIN_STATUS, 3, 1⟩
def F.CKG_DOMAIN_STATUS_SWITCHES : Fld := ⟨R.CKG_DOMAIN_STATUS, 8, 8⟩
def F.CKG_DOMAIN_STATUS_LAST_PAUSE_NS : Fld := ⟨R.CKG_DOMAIN_STATUS, 16, 16⟩
def R.CKG_NOQS_LATCH : Reg := ⟨"CKG_NOQS_LATCH", 0x2000200, [(1, 0)], fun _ => 0x0, 0x0, 0x0, 0x0, 0x0, true⟩
def F.CKG_NOQS_LATCH_SET : Fld := ⟨R.CKG_NOQS_LATCH, 0, 1⟩
def F.CKG_NOQS_LATCH_RECORDED : Fld := ⟨R.CKG_NOQS_LATCH, 1, 1⟩
def R.CKG_XING_STATUS : Reg := ⟨"CKG_XING_STATUS", 0x2008000, [(2272, 8)], fun _ => 0x2, 0x0, 0x4, 0x0, 0x0, false⟩
def F.CKG_XING_STATUS_PEER_RESET : Fld := ⟨R.CKG_XING_STATUS, 0, 1⟩
def F.CKG_XING_STATUS_EMPTY : Fld := ⟨R.CKG_XING_STATUS, 1, 1⟩
def F.CKG_XING_STATUS_OVERFLOW : Fld := ⟨R.CKG_XING_STATUS, 2, 1⟩
def F.CKG_XING_STATUS_OVF_COUNT : Fld := ⟨R.CKG_XING_STATUS, 8, 8⟩
def F.CKG_XING_STATUS_FILL : Fld := ⟨R.CKG_XING_STATUS, 16, 11⟩
def R.CKG_XING_COUNT : Reg := ⟨"CKG_XING_COUNT", 0x2008004, [(2272, 8)], fun _ => 0x0, 0x0, 0x0, 0x0, 0xffffffff, false⟩
def F.CKG_XING_COUNT_LOST : Fld := ⟨R.CKG_XING_COUNT, 0, 16⟩
def F.CKG_XING_COUNT_COALESCE : Fld := ⟨R.CKG_XING_COUNT, 16, 16⟩
def R.LANE_CTL : Reg := ⟨"LANE_CTL", 0x10000000, [(64, 0x1000), (16, 0x1000000)], fun _ => 0x0, 0x71f3f, 0x0, 0x0, 0x0, false⟩
def F.LANE_CTL_ENABLE : Fld := ⟨R.LANE_CTL, 0, 1⟩
def F.LANE_CTL_RATE : Fld := ⟨R.LANE_CTL, 1, 1⟩
def F.LANE_CTL_CODING : Fld := ⟨R.LANE_CTL, 2, 1⟩
def F.LANE_CTL_TX_INVERT : Fld := ⟨R.LANE_CTL, 3, 1⟩
def F.LANE_CTL_RX_INVERT : Fld := ⟨R.LANE_CTL, 4, 1⟩
def F.LANE_CTL_TX_SQUELCH : Fld := ⟨R.LANE_CTL, 5, 1⟩
def F.LANE_CTL_EQ_MODE : Fld := ⟨R.LANE_CTL, 8, 1⟩
def F.LANE_CTL_BAND_FORCE_EN : Fld := ⟨R.LANE_CTL, 9, 1⟩
def F.LANE_CTL_BAND_FORCE : Fld := ⟨R.LANE_CTL, 10, 3⟩
def F.LANE_CTL_LOOPBACK : Fld := ⟨R.LANE_CTL, 16, 3⟩
def R.LANE_STATUS : Reg := ⟨"LANE_STATUS", 0x10000004, [(64, 0x1000), (16, 0x1000000)], fun _ => 0x0, 0x0, 0x300, 0x0, 0x0, false⟩
def F.LANE_STATUS_TX_READY : Fld := ⟨R.LANE_STATUS, 0, 1⟩
def F.LANE_STATUS_SIGNAL : Fld := ⟨R.LANE_STATUS, 1, 1⟩
def F.LANE_STATUS_CDR_LOCK : Fld := ⟨R.LANE_STATUS, 2, 1⟩
def F.LANE_STATUS_EQ_INVALID : Fld := ⟨R.LANE_STATUS, 3, 1⟩
def F.LANE_STATUS_BAND : Fld := ⟨R.LANE_STATUS, 4, 3⟩
def F.LANE_STATUS_STEPPING : Fld := ⟨R.LANE_STATUS, 7, 1⟩
def F.LANE_STATUS_LOS : Fld := ⟨R.LANE_STATUS, 8, 1⟩
def F.LANE_STATUS_CDR_UNLOCK : Fld := ⟨R.LANE_STATUS, 9, 1⟩
def F.LANE_STATUS_LOS_COUNT : Fld := ⟨R.LANE_STATUS, 16, 8⟩
def F.LANE_STATUS_UNLOCK_COUNT : Fld := ⟨R.LANE_STATUS, 24, 8⟩
def R.LANE_EQ_NOW_TX : Reg := ⟨"LANE_EQ_NOW_TX", 0x10000008, [(64, 0x1000), (16, 0x1000000)], fun _ => 0x0, 0x0, 0x0, 0x0, 0x0, false⟩
def F.LANE_EQ_NOW_TX_PRE2 : Fld := ⟨R.LANE_EQ_NOW_TX, 0, 6⟩
def F.LANE_EQ_NOW_TX_PRE1 : Fld := ⟨R.LANE_EQ_NOW_TX, 6, 6⟩
def F.LANE_EQ_NOW_TX_MAIN : Fld := ⟨R.LANE_EQ_NOW_TX, 12, 6⟩
def F.LANE_EQ_NOW_TX_POST1 : Fld := ⟨R.LANE_EQ_NOW_TX, 18, 6⟩
def F.LANE_EQ_NOW_TX_POST2 : Fld := ⟨R.LANE_EQ_NOW_TX, 24, 6⟩
def R.LANE_EQ_NOW_RX : Reg := ⟨"LANE_EQ_NOW_RX", 0x1000000c, [(64, 0x1000), (16, 0x1000000)], fun _ => 0x0, 0x0, 0x0, 0x0, 0x0, false⟩
def F.LANE_EQ_NOW_RX_CTLE : Fld := ⟨R.LANE_EQ_NOW_RX, 0, 5⟩
def F.LANE_EQ_NOW_RX_VGA : Fld := ⟨R.LANE_EQ_NOW_RX, 5, 5⟩
def F.LANE_EQ_NOW_RX_RXFFE_PRE1 : Fld := ⟨R.LANE_EQ_NOW_RX, 10, 6⟩
def F.LANE_EQ_NOW_RX_RXFFE_POST1 : Fld := ⟨R.LANE_EQ_NOW_RX, 16, 6⟩
def F.LANE_EQ_NOW_RX_RXFFE_POST2 : Fld := ⟨R.LANE_EQ_NOW_RX, 22, 6⟩
def R.LANE_EQ_ENT_TX : Reg := ⟨"LANE_EQ_ENT_TX", 0x10000100, [(11, 0x10), (64, 0x1000), (16, 0x1000000)], fun _ => 0x0, 0x3fffffff, 0x0, 0x0, 0x0, false⟩
def F.LANE_EQ_ENT_TX_PRE2 : Fld := ⟨R.LANE_EQ_ENT_TX, 0, 6⟩
def F.LANE_EQ_ENT_TX_PRE1 : Fld := ⟨R.LANE_EQ_ENT_TX, 6, 6⟩
def F.LANE_EQ_ENT_TX_MAIN : Fld := ⟨R.LANE_EQ_ENT_TX, 12, 6⟩
def F.LANE_EQ_ENT_TX_POST1 : Fld := ⟨R.LANE_EQ_ENT_TX, 18, 6⟩
def F.LANE_EQ_ENT_TX_POST2 : Fld := ⟨R.LANE_EQ_ENT_TX, 24, 6⟩
def R.LANE_EQ_ENT_RX : Reg := ⟨"LANE_EQ_ENT_RX", 0x10000104, [(11, 0x10), (64, 0x1000), (16, 0x1000000)], fun i => 0x0 + ((if i % 11 = 10 then 1 else 0) <<< 31), 0xfffffff, 0x0, 0x0, 0x0, false⟩
def F.LANE_EQ_ENT_RX_CTLE : Fld := ⟨R.LANE_EQ_ENT_RX, 0, 5⟩
def F.LANE_EQ_ENT_RX_VGA : Fld := ⟨R.LANE_EQ_ENT_RX, 5, 5⟩
def F.LANE_EQ_ENT_RX_RXFFE_PRE1 : Fld := ⟨R.LANE_EQ_ENT_RX, 10, 6⟩
def F.LANE_EQ_ENT_RX_RXFFE_POST1 : Fld := ⟨R.LANE_EQ_ENT_RX, 16, 6⟩
def F.LANE_EQ_ENT_RX_RXFFE_POST2 : Fld := ⟨R.LANE_EQ_ENT_RX, 22, 6⟩
def F.LANE_EQ_ENT_RX_VALID : Fld := ⟨R.LANE_EQ_ENT_RX, 31, 1⟩
def R.LANE_PRBS_CTL : Reg := ⟨"LANE_PRBS_CTL", 0x10000010, [(64, 0x1000), (16, 0x1000000)], fun _ => 0x0, 0x1fff, 0x0, 0x0, 0x0, false⟩
def F.LANE_PRBS_CTL_GEN_PATTERN : Fld := ⟨R.LANE_PRBS_CTL, 0, 3⟩
def F.LANE_PRBS_CTL_GEN_EN : Fld := ⟨R.LANE_PRBS_CTL, 3, 1⟩
def F.LANE_PRBS_CTL_CHK_PATTERN : Fld := ⟨R.LANE_PRBS_CTL, 4, 3⟩
def F.LANE_PRBS_CTL_CHK_EN : Fld := ⟨R.LANE_PRBS_CTL, 7, 1⟩
def F.LANE_PRBS_CTL_THRESHOLD_LOG2 : Fld := ⟨R.LANE_PRBS_CTL, 8, 5⟩
def R.LANE_INJ_CFG : Reg := ⟨"LANE_INJ_CFG", 0x10000014, [(64, 0x1000), (16, 0x1000000)], fun _ => 0x100100, 0x1fff03, 0x0, 0x4, 0x0, false⟩
def F.LANE_INJ_CFG_MODE : Fld := ⟨R.LANE_INJ_CFG, 0, 2⟩
def F.LANE_INJ_CFG_FIRE : Fld := ⟨R.LANE_INJ_CFG, 2, 1⟩
def F.LANE_INJ_CFG_BURST_LEN : Fld := ⟨R.LANE_INJ_CFG, 8, 8⟩
def F.LANE_INJ_CFG_PERIOD_LOG2 : Fld := ⟨R.LANE_INJ_CFG, 16, 5⟩
def R.LANE_PRBS_STATUS : Reg := ⟨"LANE_PRBS_STATUS", 0x10000018, [(64, 0x1000), (16, 0x1000000)], fun _ => 0x0, 0x0, 0x6, 0x0, 0x0, false⟩
def F.LANE_PRBS_STATUS_CHK_LOCK : Fld := ⟨R.LANE_PRBS_STATUS, 0, 1⟩
def F.LANE_PRBS_STATUS_LOCK_LOST : Fld := ⟨R.LANE_PRBS_STATUS, 1, 1⟩
def F.LANE_PRBS_STATUS_THRESHOLD_HIT : Fld := ⟨R.LANE_PRBS_STATUS, 2, 1⟩
def F.LANE_PRBS_STATUS_LOCK_LOST_COUNT : Fld := ⟨R.LANE_PRBS_STATUS, 8, 8⟩
def F.LANE_PRBS_STATUS_THRESHOLD_COUNT : Fld := ⟨R.LANE_PRBS_STATUS, 16, 8⟩
def R.LANE_PRBS_BIT_ERR : Reg := ⟨"LANE_PRBS_BIT_ERR", 0x1000001c, [(64, 0x1000), (16, 0x1000000)], fun _ => 0x0, 0x0, 0x0, 0x0, 0x0, false⟩
def F.LANE_PRBS_BIT_ERR_COUNT : Fld := ⟨R.LANE_PRBS_BIT_ERR, 0, 32⟩
def R.LANE_PRBS_SYM_ERR : Reg := ⟨"LANE_PRBS_SYM_ERR", 0x10000020, [(64, 0x1000), (16, 0x1000000)], fun _ => 0x0, 0x0, 0x0, 0x0, 0x0, false⟩
def F.LANE_PRBS_SYM_ERR_COUNT : Fld := ⟨R.LANE_PRBS_SYM_ERR, 0, 32⟩
def R.LANE_PRBS_COMPARED : Reg := ⟨"LANE_PRBS_COMPARED", 0x10000024, [(64, 0x1000), (16, 0x1000000)], fun _ => 0x0, 0x0, 0x0, 0x0, 0x0, false⟩
def F.LANE_PRBS_COMPARED_COUNT : Fld := ⟨R.LANE_PRBS_COMPARED, 0, 32⟩
def R.LANE_USER_PATTERN : Reg := ⟨"LANE_USER_PATTERN", 0x10000030, [(4, 4), (64, 0x1000), (16, 0x1000000)], fun _ => 0x0, 0xffffffff, 0x0, 0x0, 0x0, false⟩
def F.LANE_USER_PATTERN_SYMBOLS : Fld := ⟨R.LANE_USER_PATTERN, 0, 32⟩
def R.LANE_QUIRE_TEMP : Reg := ⟨"LANE_QUIRE_TEMP", 0x10040000, [(16, 0x1000000)], fun _ => 0x0, 0x0, 0x0, 0x0, 0x0, false⟩
def F.LANE_QUIRE_TEMP_TEMP : Fld := ⟨R.LANE_QUIRE_TEMP, 0, 12⟩
def R.LANE_BOARD_ID : Reg := ⟨"LANE_BOARD_ID", 0x10040004, [(16, 0x1000000)], fun _ => 0x0, 0x0, 0x0, 0x0, 0x0, false⟩
def F.LANE_BOARD_ID_BOARD_ID : Fld := ⟨R.LANE_BOARD_ID, 0, 32⟩
def R.PCS_STATUS : Reg := ⟨"PCS_STATUS", 0x10100000, [(64, 0x1000), (16, 0x1000000)], fun _ => 0x0, 0x0, 0x18, 0x0, 0x0, false⟩
def F.PCS_STATUS_AM_LOCK : Fld := ⟨R.PCS_STATUS, 0, 1⟩
def F.PCS_STATUS_ALIGNED : Fld := ⟨R.PCS_STATUS, 1, 1⟩
def F.PCS_STATUS_DEGRADED : Fld := ⟨R.PCS_STATUS, 2, 1⟩
def F.PCS_STATUS_ALIGN_LOSS : Fld := ⟨R.PCS_STATUS, 3, 1⟩
def F.PCS_STATUS_DEGRADE_SET : Fld := ⟨R.PCS_STATUS, 4, 1⟩
def F.PCS_STATUS_ALIGN_LOSS_COUNT : Fld := ⟨R.PCS_STATUS, 8, 8⟩
def F.PCS_STATUS_DEGRADE_COUNT : Fld := ⟨R.PCS_STATUS, 16, 8⟩
def F.PCS_STATUS_SKEW_NS : Fld := ⟨R.PCS_STATUS, 24, 8⟩
def R.PCS_FEC_CFG : Reg := ⟨"PCS_FEC_CFG", 0x10100004, [(64, 0x1000), (16, 0x1000000)], fun _ => 0x141000, 0x1fffff, 0x0, 0x0, 0x0, false⟩
def F.PCS_FEC_CFG_THRESHOLD : Fld := ⟨R.PCS_FEC_CFG, 0, 16⟩
def F.PCS_FEC_CFG_WINDOW_LOG2 : Fld := ⟨R.PCS_FEC_CFG, 16, 5⟩
def R.PCS_FEC_CORRECTED : Reg := ⟨"PCS_FEC_CORRECTED", 0x10100008, [(64, 0x1000), (16, 0x1000000)], fun _ => 0x0, 0x0, 0x0, 0x0, 0xffffffff, false⟩
def F.PCS_FEC_CORRECTED_COUNT : Fld := ⟨R.PCS_FEC_CORRECTED, 0, 32⟩
def R.PCS_FEC_UNCORRECTED : Reg := ⟨"PCS_FEC_UNCORRECTED", 0x1010000c, [(64, 0x1000), (16, 0x1000000)], fun _ => 0x0, 0x0, 0x0, 0x0, 0xffffffff, false⟩
def F.PCS_FEC_UNCORRECTED_COUNT : Fld := ⟨R.PCS_FEC_UNCORRECTED, 0, 32⟩
def R.STCH_CTL : Reg := ⟨"STCH_CTL", 0x10200000, [(64, 0x1000), (16, 0x1000000)], fun _ => 0x2880, 0xfff0, 0x0, 0x1, 0x0, false⟩
def F.STCH_CTL_RETRAIN : Fld := ⟨R.STCH_CTL, 0, 1⟩
def F.STCH_CTL_REPLAY_LIMIT : Fld := ⟨R.STCH_CTL, 4, 4⟩
def F.STCH_CTL_NAK_TIMEOUT : Fld := ⟨R.STCH_CTL, 8, 8⟩
def R.STCH_STATUS : Reg := ⟨"STCH_STATUS", 0x10200004, [(64, 0x1000), (16, 0x1000000)], fun _ => 0x0, 0x0, 0xe0, 0x0, 0x0, false⟩
def F.STCH_STATUS_BLOCK_LOCK : Fld := ⟨R.STCH_STATUS, 0, 1⟩
def F.STCH_STATUS_SIG_LOCK : Fld := ⟨R.STCH_STATUS, 1, 1⟩
def F.STCH_STATUS_LINK_UP : Fld := ⟨R.STCH_STATUS, 2, 1⟩
def F.STCH_STATUS_RETRAINING : Fld := ⟨R.STCH_STATUS, 3, 1⟩
def F.STCH_STATUS_NAK_PENDING : Fld := ⟨R.STCH_STATUS, 4, 1⟩
def F.STCH_STATUS_LOCK_LOSS : Fld := ⟨R.STCH_STATUS, 5, 1⟩
def F.STCH_STATUS_RETRAINED : Fld := ⟨R.STCH_STATUS, 6, 1⟩
def F.STCH_STATUS_REPLAY_MISS : Fld := ⟨R.STCH_STATUS, 7, 1⟩
def F.STCH_STATUS_LOCK_LOSS_COUNT : Fld := ⟨R.STCH_STATUS, 8, 8⟩
def F.STCH_STATUS_RETRAIN_COUNT : Fld := ⟨R.STCH_STATUS, 16, 8⟩
def F.STCH_STATUS_REPLAY_MISS_COUNT : Fld := ⟨R.STCH_STATUS, 24, 8⟩
def R.STCH_TX_SEQ : Reg := ⟨"STCH_TX_SEQ", 0x10200008, [(64, 0x1000), (16, 0x1000000)], fun _ => 0x0, 0x0, 0x0, 0x0, 0x0, false⟩
def F.STCH_TX_SEQ_NEXT : Fld := ⟨R.STCH_TX_SEQ, 0, 24⟩
def F.STCH_TX_SEQ_HELD : Fld := ⟨R.STCH_TX_SEQ, 24, 7⟩
def R.STCH_RX_SEQ : Reg := ⟨"STCH_RX_SEQ", 0x1020000c, [(64, 0x1000), (16, 0x1000000)], fun _ => 0x0, 0x0, 0x0, 0x0, 0x0, false⟩
def F.STCH_RX_SEQ_EXPECT : Fld := ⟨R.STCH_RX_SEQ, 0, 24⟩
def F.STCH_RX_SEQ_NAK_COUNT : Fld := ⟨R.STCH_RX_SEQ, 24, 4⟩
def R.STCH_FRAME : Reg := ⟨"STCH_FRAME", 0x10200010, [(64, 0x1000), (16, 0x1000000)], fun _ => 0x0, 0x0, 0x0, 0x0, 0x0, false⟩
def F.STCH_FRAME_TX_NEXT : Fld := ⟨R.STCH_FRAME, 0, 16⟩
def F.STCH_FRAME_RX_NEXT : Fld := ⟨R.STCH_FRAME, 16, 16⟩
def R.STCH_COUNT_A : Reg := ⟨"STCH_COUNT_A", 0x10200014, [(64, 0x1000), (16, 0x1000000)], fun _ => 0x0, 0x0, 0x0, 0x0, 0xffffffff, false⟩
def F.STCH_COUNT_A_SIG_CRC_ERRORS : Fld := ⟨R.STCH_COUNT_A, 0, 16⟩
def F.STCH_COUNT_A_HEADER_ERRORS : Fld := ⟨R.STCH_COUNT_A, 16, 16⟩
def R.STCH_COUNT_B : Reg := ⟨"STCH_COUNT_B", 0x10200018, [(64, 0x1000), (16, 0x1000000)], fun _ => 0x0, 0x0, 0x0, 0x0, 0xffffffff, false⟩
def F.STCH_COUNT_B_REPLAYS_SENT : Fld := ⟨R.STCH_COUNT_B, 0, 16⟩
def F.STCH_COUNT_B_RX_FRAMES_ABORTED : Fld := ⟨R.STCH_COUNT_B, 16, 16⟩
def R.STCH_COUNT_C : Reg := ⟨"STCH_COUNT_C", 0x1020001c, [(64, 0x1000), (16, 0x1000000)], fun _ => 0x0, 0x0, 0x0, 0x0, 0xffffffff, false⟩
def F.STCH_COUNT_C_TX_FRAMES_DISCARDED : Fld := ⟨R.STCH_COUNT_C, 0, 16⟩
def F.STCH_COUNT_C_STUFF_ERRORS : Fld := ⟨R.STCH_COUNT_C, 16, 16⟩
def R.MAC_CFG : Reg := ⟨"MAC_CFG", 0x10300000, [(64, 0x1000), (16, 0x1000000)], fun _ => 0x2400140e, 0x3fff7f01, 0x0, 0x0, 0x0, false⟩
def F.MAC_CFG_ADMIN_UP : Fld := ⟨R.MAC_CFG, 0, 1⟩
def F.MAC_CFG_SPEED : Fld := ⟨R.MAC_CFG, 1, 3⟩
def F.MAC_CFG_LEN_OVERHEAD : Fld := ⟨R.MAC_CFG, 8, 7⟩
def F.MAC_CFG_MAX_FRAME : Fld := ⟨R.MAC_CFG, 16, 14⟩
def R.MAC_CFG2 : Reg := ⟨"MAC_CFG2", 0x10300004, [(64, 0x1000), (16, 0x1000000)], fun _ => 0xa0000, 0xfffff, 0x0, 0x0, 0x0, false⟩
def F.MAC_CFG2_UP_HOLD_US : Fld := ⟨R.MAC_CFG2, 0, 16⟩
def F.MAC_CFG2_FLAP_LIMIT : Fld := ⟨R.MAC_CFG2, 16, 4⟩
def R.MAC_STATUS : Reg := ⟨"MAC_STATUS", 0x10300008, [(64, 0x1000), (16, 0x1000000)], fun _ => 0x0, 0x0, 0xc0, 0x0, 0x0, false⟩
def F.MAC_STATUS_CONFIGURED : Fld := ⟨R.MAC_STATUS, 0, 1⟩
def F.MAC_STATUS_OPER_UP : Fld := ⟨R.MAC_STATUS, 1, 1⟩
def F.MAC_STATUS_LINK : Fld := ⟨R.MAC_STATUS, 2, 1⟩
def F.MAC_STATUS_LOCAL_FAULT : Fld := ⟨R.MAC_STATUS, 3, 1⟩
def F.MAC_STATUS_REMOTE_FAULT : Fld := ⟨R.MAC_STATUS, 4, 1⟩
def F.MAC_STATUS_ERR_DISABLED : Fld := ⟨R.MAC_STATUS, 5, 1⟩
def F.MAC_STATUS_DOWN : Fld := ⟨R.MAC_STATUS, 6, 1⟩
def F.MAC_STATUS_ERR_DIS_SET : Fld := ⟨R.MAC_STATUS, 7, 1⟩
def F.MAC_STATUS_DOWN_COUNT : Fld := ⟨R.MAC_STATUS, 8, 8⟩
def F.MAC_STATUS_FLAPS_IN_WINDOW : Fld := ⟨R.MAC_STATUS, 16, 8⟩
def F.MAC_STATUS_ERR_DIS_COUNT : Fld := ⟨R.MAC_STATUS, 24, 8⟩
def R.MAC_PFC_CFG : Reg := ⟨"MAC_PFC_CFG", 0x10300010, [(64, 0x1000), (16, 0x1000000)], fun _ => 0xffff0000, 0xffffffff, 0x0, 0x0, 0x0, false⟩
def F.MAC_PFC_CFG_RX_EN : Fld := ⟨R.MAC_PFC_CFG, 0, 8⟩
def F.MAC_PFC_CFG_TX_EN : Fld := ⟨R.MAC_PFC_CFG, 8, 8⟩
def F.MAC_PFC_CFG_TX_QUANTA : Fld := ⟨R.MAC_PFC_CFG, 16, 16⟩
def R.MAC_PFC_STORM : Reg := ⟨"MAC_PFC_STORM", 0x10300014, [(64, 0x1000), (16, 0x1000000)], fun _ => 0xc80064, 0x3fff7fff, 0x0, 0x0, 0x0, false⟩
def F.MAC_PFC_STORM_DETECT_MS : Fld := ⟨R.MAC_PFC_STORM, 0, 14⟩
def F.MAC_PFC_STORM_ACTION : Fld := ⟨R.MAC_PFC_STORM, 14, 1⟩
def F.MAC_PFC_STORM_RECOVER_MS : Fld := ⟨R.MAC_PFC_STORM, 16, 14⟩
def R.MAC_PFC_QMAP : Reg := ⟨"MAC_PFC_QMAP", 0x10300018, [(4, 4), (64, 0x1000), (16, 0x1000000)], fun i => 0x0 + (3 <<< (4 * (i % 4))) + ((3 <<< (4 * (i % 4) + 2)) <<< 16), 0xffffffff, 0x0, 0x0, 0x0, false⟩
def F.MAC_PFC_QMAP_MAP_LO : Fld := ⟨R.MAC_PFC_QMAP, 0, 16⟩
def F.MAC_PFC_QMAP_MAP_HI : Fld := ⟨R.MAC_PFC_QMAP, 16, 16⟩
def R.MAC_PFC_STATUS : Reg := ⟨"MAC_PFC_STATUS", 0x10300028, [(64, 0x1000), (16, 0x1000000)], fun _ => 0x0, 0x0, 0x10000, 0x0, 0x0, false⟩
def F.MAC_PFC_STATUS_PAUSED : Fld := ⟨R.MAC_PFC_STATUS, 0, 8⟩
def F.MAC_PFC_STATUS_STORM : Fld := ⟨R.MAC_PFC_STATUS, 8, 8⟩
def F.MAC_PFC_STATUS_STORM_SET : Fld := ⟨R.MAC_PFC_STATUS, 16, 1⟩
def F.MAC_PFC_STATUS_STORM_COUNT : Fld := ⟨R.MAC_PFC_STATUS, 24, 8⟩
def R.MAC_PFC_TIMER : Reg := ⟨"MAC_PFC_TIMER", 0x10300030, [(8, 4), (64, 0x1000), (16, 0x1000000)], fun _ => 0x0, 0x0, 0x0, 0x0, 0x0, false⟩
def F.MAC_PFC_TIMER_REMAINING : Fld := ⟨R.MAC_PFC_TIMER, 0, 16⟩
def F.MAC_PFC_TIMER_TX_XOFF : Fld := ⟨R.MAC_PFC_TIMER, 16, 1⟩
def R.MAC_PREEMPT_CFG : Reg := ⟨"MAC_PREEMPT_CFG", 0x10300050, [(64, 0x1000), (16, 0x1000000)], fun _ => 0xc00030a0, 0xffffffff, 0x0, 0x0, 0x0, false⟩
def F.MAC_PREEMPT_CFG_ENABLE : Fld := ⟨R.MAC_PREEMPT_CFG, 0, 1⟩
def F.MAC_PREEMPT_CFG_VERIFY_DISABLE : Fld := ⟨R.MAC_PREEMPT_CFG, 1, 1⟩
def F.MAC_PREEMPT_CFG_ADD_FRAG_SIZE : Fld := ⟨R.MAC_PREEMPT_CFG, 2, 2⟩
def F.MAC_PREEMPT_CFG_VERIFY_MS : Fld := ⟨R.MAC_PREEMPT_CFG, 4, 8⟩
def F.MAC_PREEMPT_CFG_VERIFY_LIMIT : Fld := ⟨R.MAC_PREEMPT_CFG, 12, 4⟩
def F.MAC_PREEMPT_CFG_EXPRESS_QMASK : Fld := ⟨R.MAC_PREEMPT_CFG, 16, 16⟩
def R.MAC_PREEMPT_STATUS : Reg := ⟨"MAC_PREEMPT_STATUS", 0x10300054, [(64, 0x1000), (16, 0x1000000)], fun _ => 0x0, 0x0, 0x8, 0x0, 0x0, false⟩
def F.MAC_PREEMPT_STATUS_STATE : Fld := ⟨R.MAC_PREEMPT_STATUS, 0, 3⟩
def F.MAC_PREEMPT_STATUS_VERIFY_FAIL : Fld := ⟨R.MAC_PREEMPT_STATUS, 3, 1⟩
def F.MAC_PREEMPT_STATUS_ATTEMPTS : Fld := ⟨R.MAC_PREEMPT_STATUS, 4, 4⟩
def F.MAC_PREEMPT_STATUS_FAIL_COUNT : Fld := ⟨R.MAC_PREEMPT_STATUS, 8, 8⟩
def R.MAC_SA_LO : Reg := ⟨"MAC_SA_LO", 0x10300058, [(64, 0x1000), (16, 0x1000000)], fun _ => 0x0, 0xffffffff, 0x0, 0x0, 0x0, false⟩
def F.MAC_SA_LO_ADDR : Fld := ⟨R.MAC_SA_LO, 0, 32⟩
def R.MAC_SA_HI : Reg := ⟨"MAC_SA_HI", 0x1030005c, [(64, 0x1000), (16, 0x1000000)], fun _ => 0x0, 0xffff, 0x0, 0x0, 0x0, false⟩
def F.MAC_SA_HI_ADDR : Fld := ⟨R.MAC_SA_HI, 0, 16⟩
def R.MAC_STAT_LO : Reg := ⟨"MAC_STAT_LO", 0x10300400, [(48, 8), (64, 0x1000), (16, 0x1000000)], fun _ => 0x0, 0x0, 0x0, 0x0, 0x0, false⟩
def F.MAC_STAT_LO_COUNT : Fld := ⟨R.MAC_STAT_LO, 0, 32⟩
def R.MAC_STAT_HI : Reg := ⟨"MAC_STAT_HI", 0x10300404, [(48, 8), (64, 0x1000), (16, 0x1000000)], fun _ => 0x0, 0x0, 0x0, 0x0, 0x0, false⟩
def F.MAC_STAT_HI_COUNT : Fld := ⟨R.MAC_STAT_HI, 0, 32⟩
def R.MAC_STAT_SAT : Reg := ⟨"MAC_STAT_SAT", 0x10300380, [(2, 4), (64, 0x1000), (16, 0x1000000)], fun _ => 0x0, 0x0, 0x0, 0x0, 0x0, false⟩
def F.MAC_STAT_SAT_SAT : Fld := ⟨R.MAC_STAT_SAT, 0, 32⟩
def R.PRS_PORT_CFG : Reg := ⟨"PRS_PORT_CFG", 0x10400000, [(64, 0x1000), (16, 0x1000000)], fun _ => 0x0, 0xff0f, 0x0, 0x0, 0x0, false⟩
def F.PRS_PORT_CFG_FALLBACK_PROFILE : Fld := ⟨R.PRS_PORT_CFG, 0, 4⟩
def F.PRS_PORT_CFG_START_STATE : Fld := ⟨R.PRS_PORT_CFG, 8, 8⟩
def R.PRS_PIPE_CFG : Reg := ⟨"PRS_PIPE_CFG", 0x10480000, [(2, 0x40000), (16, 0x1000000)], fun _ => 0x550100, 0xff01ff, 0x0, 0x2000000, 0x0, false⟩
def F.PRS_PIPE_CFG_DEPTH : Fld := ⟨R.PRS_PIPE_CFG, 0, 9⟩
def F.PRS_PIPE_CFG_REACT_1 : Fld := ⟨R.PRS_PIPE_CFG, 16, 2⟩
def F.PRS_PIPE_CFG_REACT_2 : Fld := ⟨R.PRS_PIPE_CFG, 18, 2⟩
def F.PRS_PIPE_CFG_REACT_3 : Fld := ⟨R.PRS_PIPE_CFG, 20, 2⟩
def F.PRS_PIPE_CFG_REACT_4 : Fld := ⟨R.PRS_PIPE_CFG, 22, 2⟩
def F.PRS_PIPE_CFG_ACTIVE_BANK : Fld := ⟨R.PRS_PIPE_CFG, 24, 1⟩
def F.PRS_PIPE_CFG_SWAP : Fld := ⟨R.PRS_PIPE_CFG, 25, 1⟩
def R.PRS_PIPE_STATUS : Reg := ⟨"PRS_PIPE_STATUS", 0x10480004, [(2, 0x40000), (16, 0x1000000)], fun _ => 0x0, 0x0, 0x3, 0x0, 0x0, false⟩
def F.PRS_PIPE_STATUS_PARITY : Fld := ⟨R.PRS_PIPE_STATUS, 0, 1⟩
def F.PRS_PIPE_STATUS_SWAPPED : Fld := ⟨R.PRS_PIPE_STATUS, 1, 1⟩
def F.PRS_PIPE_STATUS_PARITY_COUNT : Fld := ⟨R.PRS_PIPE_STATUS, 8, 8⟩
def F.PRS_PIPE_STATUS_SWAP_COUNT : Fld := ⟨R.PRS_PIPE_STATUS, 16, 8⟩
def F.PRS_PIPE_STATUS_ACTIVE_WRITE_DROPS : Fld := ⟨R.PRS_PIPE_STATUS, 24, 8⟩
def R.PRS_TABLE_ID : Reg := ⟨"PRS_TABLE_ID", 0x10480008, [(2, 4), (2, 0x40000), (16, 0x1000000)], fun _ => 0x0, 0x0, 0x0, 0x0, 0x0, false⟩
def F.PRS_TABLE_ID_TABLE_ID : Fld := ⟨R.PRS_TABLE_ID, 0, 32⟩
def R.PRS_TRACE_CTL : Reg := ⟨"PRS_TRACE_CTL", 0x10480010, [(2, 0x40000), (16, 0x1000000)], fun _ => 0x0, 0x7e, 0x0, 0x1, 0x0, false⟩
def F.PRS_TRACE_CTL_ARM : Fld := ⟨R.PRS_TRACE_CTL, 0, 1⟩
def F.PRS_TRACE_CTL_PORT_EN : Fld := ⟨R.PRS_TRACE_CTL, 1, 1⟩
def F.PRS_TRACE_CTL_PORT : Fld := ⟨R.PRS_TRACE_CTL, 2, 5⟩
def F.PRS_TRACE_CTL_DONE : Fld := ⟨R.PRS_TRACE_CTL, 7, 1⟩
def R.PRS_TRACE_REC : Reg := ⟨"PRS_TRACE_REC", 0x10480400, [(32, 4), (2, 0x40000), (16, 0x1000000)], fun _ => 0x0, 0x0, 0x0, 0x0, 0x0, false⟩
def F.PRS_TRACE_REC_WORD : Fld := ⟨R.PRS_TRACE_REC, 0, 32⟩
def R.PRS_STAT_LO : Reg := ⟨"PRS_STAT_LO", 0x10480100, [(16, 8), (2, 0x40000), (16, 0x1000000)], fun _ => 0x0, 0x0, 0x0, 0x0, 0x0, false⟩
def F.PRS_STAT_LO_COUNT : Fld := ⟨R.PRS_STAT_LO, 0, 32⟩
def R.PRS_STAT_HI : Reg := ⟨"PRS_STAT_HI", 0x10480104, [(16, 8), (2, 0x40000), (16, 0x1000000)], fun _ => 0x0, 0x0, 0x0, 0x0, 0x0, false⟩
def F.PRS_STAT_HI_COUNT : Fld := ⟨R.PRS_STAT_HI, 0, 32⟩
def R.PRS_STAT_SAT : Reg := ⟨"PRS_STAT_SAT", 0x10480200, [(2, 0x40000), (16, 0x1000000)], fun _ => 0x0, 0x0, 0xffff, 0x0, 0x0, false⟩
def F.PRS_STAT_SAT_SAT : Fld := ⟨R.PRS_STAT_SAT, 0, 16⟩
def R.DMA_PUNT_CFG : Reg := ⟨"DMA_PUNT_CFG", 0x6800000, [(64, 0x20)], fun _ => 0x0, 0xffffff, 0x0, 0x0, 0x0, false⟩
def F.DMA_PUNT_CFG_RATE : Fld := ⟨R.DMA_PUNT_CFG, 0, 24⟩
def R.DMA_PUNT_CFG2 : Reg := ⟨"DMA_PUNT_CFG2", 0x6800004, [(64, 0x20)], fun i => 0x0 + ((i) <<< 16), 0x3fffff, 0x0, 0x0, 0x0, false⟩
def F.DMA_PUNT_CFG2_BURST : Fld := ⟨R.DMA_PUNT_CFG2, 0, 16⟩
def F.DMA_PUNT_CFG2_HOST_QUEUE : Fld := ⟨R.DMA_PUNT_CFG2, 16, 6⟩
def R.DMA_PUNT_STATUS : Reg := ⟨"DMA_PUNT_STATUS", 0x6800008, [(64, 0x20)], fun _ => 0x0, 0x0, 0x1, 0x0, 0x0, false⟩
def F.DMA_PUNT_STATUS_DROP : Fld := ⟨R.DMA_PUNT_STATUS, 0, 1⟩
def F.DMA_PUNT_STATUS_DROP_COUNT : Fld := ⟨R.DMA_PUNT_STATUS, 8, 8⟩
def F.DMA_PUNT_STATUS_TOKENS : Fld := ⟨R.DMA_PUNT_STATUS, 16, 16⟩
def R.DMA_PUNT_PASSED_LO : Reg := ⟨"DMA_PUNT_PASSED_LO", 0x6800010, [(64, 0x20)], fun _ => 0x0, 0x0, 0x0, 0x0, 0x0, false⟩
def F.DMA_PUNT_PASSED_LO_COUNT : Fld := ⟨R.DMA_PUNT_PASSED_LO, 0, 32⟩
def R.DMA_PUNT_PASSED_HI : Reg := ⟨"DMA_PUNT_PASSED_HI", 0x6800014, [(64, 0x20)], fun _ => 0x0, 0x0, 0x0, 0x0, 0x0, false⟩
def F.DMA_PUNT_PASSED_HI_COUNT : Fld := ⟨R.DMA_PUNT_PASSED_HI, 0, 32⟩
def R.DMA_PUNT_DROPS_LO : Reg := ⟨"DMA_PUNT_DROPS_LO", 0x6800018, [(64, 0x20)], fun _ => 0x0, 0x0, 0x0, 0x0, 0x0, false⟩
def F.DMA_PUNT_DROPS_LO_COUNT : Fld := ⟨R.DMA_PUNT_DROPS_LO, 0, 32⟩
def R.DMA_PUNT_DROPS_HI : Reg := ⟨"DMA_PUNT_DROPS_HI", 0x680001c, [(64, 0x20)], fun _ => 0x0, 0x0, 0x0, 0x0, 0x0, false⟩
def F.DMA_PUNT_DROPS_HI_COUNT : Fld := ⟨R.DMA_PUNT_DROPS_HI, 0, 32⟩
def R.CLS_POSTING : Reg := ⟨"CLS_POSTING", 0x20000000, [(1, 0)], fun _ => 0x0, 0x0, 0x4000000, 0x0, 0x0, false⟩
def F.CLS_POSTING_CURRENT : Fld := ⟨R.CLS_POSTING, 0, 8⟩
def F.CLS_POSTING_OLDEST : Fld := ⟨R.CLS_POSTING, 8, 8⟩
def F.CLS_POSTING_UNDRAINED : Fld := ⟨R.CLS_POSTING, 16, 8⟩
def F.CLS_POSTING_SWITCH_PENDING : Fld := ⟨R.CLS_POSTING, 24, 1⟩
def F.CLS_POSTING_STALLED : Fld := ⟨R.CLS_POSTING, 25, 1⟩
def F.CLS_POSTING_DRAINED : Fld := ⟨R.CLS_POSTING, 26, 1⟩
def R.CLS_POSTING_LAST : Reg := ⟨"CLS_POSTING_LAST", 0x2000000c, [(1, 0)], fun _ => 0x0, 0x0, 0x0, 0x0, 0x0, false⟩
def F.CLS_POSTING_LAST_LAST_DRAINED : Fld := ⟨R.CLS_POSTING_LAST, 0, 8⟩
def F.CLS_POSTING_LAST_DRAINED_COUNT : Fld := ⟨R.CLS_POSTING_LAST, 8, 8⟩
def R.CLS_POST_TIME : Reg := ⟨"CLS_POST_TIME", 0x20000004, [(1, 0)], fun _ => 0x0, 0x0, 0x0, 0x0, 0x0, false⟩
def F.CLS_POST_TIME_T_STAMP : Fld := ⟨R.CLS_POST_TIME, 0, 32⟩
def R.CLS_POST_CFG : Reg := ⟨"CLS_POST_CFG", 0x20000008, [(1, 0)], fun _ => 0x64, 0xffff, 0x0, 0x0, 0x0, false⟩
def F.CLS_POST_CFG_DRAIN_WARN_US : Fld := ⟨R.CLS_POST_CFG, 0, 16⟩
def R.CLS_DIE_STATUS : Reg := ⟨"CLS_DIE_STATUS", 0x20000100, [(2, 0x40)], fun _ => 0x0, 0x0, 0xc0000, 0x0, 0x0, false⟩
def F.CLS_DIE_STATUS_PARITY_SLOT : Fld := ⟨R.CLS_DIE_STATUS, 0, 18⟩
def F.CLS_DIE_STATUS_RULE_PARITY : Fld := ⟨R.CLS_DIE_STATUS, 18, 1⟩
def F.CLS_DIE_STATUS_METER_PARITY : Fld := ⟨R.CLS_DIE_STATUS, 19, 1⟩
def R.CLS_DIE_COUNT : Reg := ⟨"CLS_DIE_COUNT", 0x20000104, [(2, 0x40)], fun _ => 0x0, 0x0, 0x0, 0x0, 0x0, false⟩
def F.CLS_DIE_COUNT_RULE_PARITY_COUNT : Fld := ⟨R.CLS_DIE_COUNT, 0, 8⟩
def F.CLS_DIE_COUNT_METER_PARITY_COUNT : Fld := ⟨R.CLS_DIE_COUNT, 8, 8⟩
def R.CLS_DRAIN : Reg := ⟨"CLS_DRAIN", 0x20001000, [(512, 4)], fun _ => 0x0, 0x0, 0x0, 0x0, 0x0, false⟩
def F.CLS_DRAIN_IN_FLIGHT : Fld := ⟨R.CLS_DRAIN, 0, 20⟩
def R.CLS_TABLE_CFG : Reg := ⟨"CLS_TABLE_CFG", 0x20010000, [(65, 0x100)], fun _ => 0x40, 0xfff7, 0x0, 0x0, 0x0, false⟩
def F.CLS_TABLE_CFG_ENABLE : Fld := ⟨R.CLS_TABLE_CFG, 0, 1⟩
def F.CLS_TABLE_CFG_KEY_SOURCE : Fld := ⟨R.CLS_TABLE_CFG, 1, 1⟩
def F.CLS_TABLE_CFG_WIDTH : Fld := ⟨R.CLS_TABLE_CFG, 2, 1⟩
def F.CLS_TABLE_CFG_BUCKETS_LOG2 : Fld := ⟨R.CLS_TABLE_CFG, 4, 4⟩
def F.CLS_TABLE_CFG_PRIORITY : Fld := ⟨R.CLS_TABLE_CFG, 8, 8⟩
def R.CLS_TABLE_REGION : Reg := ⟨"CLS_TABLE_REGION", 0x20010004, [(64, 0x100)], fun _ => 0x0, 0x7fff, 0x0, 0x0, 0x0, false⟩
def F.CLS_TABLE_REGION_BASE : Fld := ⟨R.CLS_TABLE_REGION, 0, 15⟩
def R.CLS_TABLE_SEED : Reg := ⟨"CLS_TABLE_SEED", 0x20010008, [(64, 0x100)], fun _ => 0xffffffff, 0xffffffff, 0x0, 0x0, 0x0, false⟩
def F.CLS_TABLE_SEED_SEED : Fld := ⟨R.CLS_TABLE_SEED, 0, 32⟩
def R.CLS_TABLE_FILL : Reg := ⟨"CLS_TABLE_FILL", 0x20010010, [(2, 4), (65, 0x100)], fun _ => 0x0, 0x0, 0x0, 0x0, 0x0, false⟩
def F.CLS_TABLE_FILL_SLOTS : Fld := ⟨R.CLS_TABLE_FILL, 0, 18⟩
def R.CLS_PORT_CFG : Reg := ⟨"CLS_PORT_CFG", 0x20020000, [(1024, 4)], fun _ => 0x10, 0x1f, 0x0, 0x0, 0x0, false⟩
def F.CLS_PORT_CFG_DEFAULT_CLASS : Fld := ⟨R.CLS_PORT_CFG, 0, 4⟩
def F.CLS_PORT_CFG_STITCH_CLASS : Fld := ⟨R.CLS_PORT_CFG, 4, 1⟩
def R.CLS_STAT_LO : Reg := ⟨"CLS_STAT_LO", 0x20030000, [(16, 8), (2, 0x100)], fun _ => 0x0, 0x0, 0x0, 0x0, 0x0, false⟩
def F.CLS_STAT_LO_COUNT : Fld := ⟨R.CLS_STAT_LO, 0, 32⟩
def R.CLS_STAT_HI : Reg := ⟨"CLS_STAT_HI", 0x20030004, [(16, 8), (2, 0x100)], fun _ => 0x0, 0x0, 0x0, 0x0, 0x0, false⟩
def F.CLS_STAT_HI_COUNT : Fld := ⟨R.CLS_STAT_HI, 0, 32⟩
def R.LDG_GLOBAL : Reg := ⟨"LDG_GLOBAL", 0x28000000, [(1, 0)], fun _ => 0x12c, 0x1ffff, 0x0, 0x0, 0x0, false⟩
def F.LDG_GLOBAL_AGE_PERIOD_MS : Fld := ⟨R.LDG_GLOBAL, 0, 16⟩
def F.LDG_GLOBAL_LEARN_EN : Fld := ⟨R.LDG_GLOBAL, 16, 1⟩
def R.LDG_ECMP_SEED : Reg := ⟨"LDG_ECMP_SEED", 0x28000004, [(1, 0)], fun _ => 0xffffffff, 0xffffffff, 0x0, 0x0, 0x0, false⟩
def F.LDG_ECMP_SEED_SEED : Fld := ⟨R.LDG_ECMP_SEED, 0, 32⟩
def R.LDG_STATUS : Reg := ⟨"LDG_STATUS", 0x28000010, [(1, 0)], fun _ => 0x0, 0x0, 0xf, 0x0, 0x0, false⟩
def F.LDG_STATUS_PARITY : Fld := ⟨R.LDG_STATUS, 0, 1⟩
def F.LDG_STATUS_ENTRY_LOST : Fld := ⟨R.LDG_STATUS, 1, 1⟩
def F.LDG_STATUS_EVICT : Fld := ⟨R.LDG_STATUS, 2, 1⟩
def F.LDG_STATUS_SWEEP_OVERRUN : Fld := ⟨R.LDG_STATUS, 3, 1⟩
def F.LDG_STATUS_PARITY_COUNT : Fld := ⟨R.LDG_STATUS, 8, 8⟩
def F.LDG_STATUS_LOST_COUNT : Fld := ⟨R.LDG_STATUS, 16, 8⟩
def F.LDG_STATUS_EVICT_COUNT : Fld := ⟨R.LDG_STATUS, 24, 8⟩
def R.LDG_STATUS_COUNT : Reg := ⟨"LDG_STATUS_COUNT", 0x2800001c, [(1, 0)], fun _ => 0x0, 0x0, 0x0, 0x0, 0x0, false⟩
def F.LDG_STATUS_COUNT_SWEEP_OVERRUN_COUNT : Fld := ⟨R.LDG_STATUS_COUNT, 0, 8⟩
def R.LDG_PARITY_LAST : Reg := ⟨"LDG_PARITY_LAST", 0x28000014, [(1, 0)], fun _ => 0x0, 0x0, 0x0, 0x0, 0x0, false⟩
def F.LDG_PARITY_LAST_SLOT : Fld := ⟨R.LDG_PARITY_LAST, 0, 20⟩
def F.LDG_PARITY_LAST_REPLICA : Fld := ⟨R.LDG_PARITY_LAST, 20, 3⟩
def F.LDG_PARITY_LAST_LEDGER : Fld := ⟨R.LDG_PARITY_LAST, 24, 4⟩
def R.LDG_EVICT_LAST : Reg := ⟨"LDG_EVICT_LAST", 0x28000018, [(1, 0)], fun _ => 0x0, 0x0, 0x0, 0x0, 0x0, false⟩
def F.LDG_EVICT_LAST_SLOT : Fld := ⟨R.LDG_EVICT_LAST, 0, 20⟩
def F.LDG_EVICT_LAST_REPLICA : Fld := ⟨R.LDG_EVICT_LAST, 20, 3⟩
def F.LDG_EVICT_LAST_LEDGER : Fld := ⟨R.LDG_EVICT_LAST, 24, 4⟩
def R.LDG_PORT_LIVE : Reg := ⟨"LDG_PORT_LIVE", 0x28000100, [(32, 4)], fun _ => 0x0, 0xffffffff, 0x0, 0x0, 0x0, false⟩
def F.LDG_PORT_LIVE_LIVE : Fld := ⟨R.LDG_PORT_LIVE, 0, 32⟩
def R.LDG_LEDGER_CFG : Reg := ⟨"LDG_LEDGER_CFG", 0x28001000, [(16, 0x40)], fun _ => 0x3000800, 0x1f133f37, 0x0, 0x0, 0x0, false⟩
def F.LDG_LEDGER_CFG_ENABLE : Fld := ⟨R.LDG_LEDGER_CFG, 0, 1⟩
def F.LDG_LEDGER_CFG_TYPE : Fld := ⟨R.LDG_LEDGER_CFG, 1, 2⟩
def F.LDG_LEDGER_CFG_SPAN : Fld := ⟨R.LDG_LEDGER_CFG, 4, 2⟩
def F.LDG_LEDGER_CFG_KEY_BYTES : Fld := ⟨R.LDG_LEDGER_CFG, 8, 6⟩
def F.LDG_LEDGER_CFG_EVICT : Fld := ⟨R.LDG_LEDGER_CFG, 16, 2⟩
def F.LDG_LEDGER_CFG_AGE_EN : Fld := ⟨R.LDG_LEDGER_CFG, 20, 1⟩
def F.LDG_LEDGER_CFG_AGE_LIMIT : Fld := ⟨R.LDG_LEDGER_CFG, 24, 4⟩
def F.LDG_LEDGER_CFG_PRIVILEGED : Fld := ⟨R.LDG_LEDGER_CFG, 28, 1⟩
def R.LDG_LOOKUP_CFG : Reg := ⟨"LDG_LOOKUP_CFG", 0x28002000, [(4, 0x40), (16, 0x100)], fun _ => 0x0, 0xf7, 0x0, 0x0, 0x0, false⟩
def F.LDG_LOOKUP_CFG_ENABLE : Fld := ⟨R.LDG_LOOKUP_CFG, 0, 1⟩
def F.LDG_LOOKUP_CFG_ROLE : Fld := ⟨R.LDG_LOOKUP_CFG, 1, 2⟩
def F.LDG_LOOKUP_CFG_LEDGER : Fld := ⟨R.LDG_LOOKUP_CFG, 4, 4⟩
def R.LDG_PROFILE_CFG : Reg := ⟨"LDG_PROFILE_CFG", 0x28003000, [(16, 8)], fun _ => 0x10804, 0x3f07, 0x0, 0x0, 0x0, false⟩
def F.LDG_PROFILE_CFG_MISS_ACTION : Fld := ⟨R.LDG_PROFILE_CFG, 0, 2⟩
def F.LDG_PROFILE_CFG_GROUP_EN : Fld := ⟨R.LDG_PROFILE_CFG, 2, 1⟩
def F.LDG_PROFILE_CFG_MISS_REASON : Fld := ⟨R.LDG_PROFILE_CFG, 8, 6⟩
def F.LDG_PROFILE_CFG_SLOTS : Fld := ⟨R.LDG_PROFILE_CFG, 16, 2⟩
def F.LDG_PROFILE_CFG_READS : Fld := ⟨R.LDG_PROFILE_CFG, 24, 4⟩
def R.LDG_PORT_CFG : Reg := ⟨"LDG_PORT_CFG", 0x28004000, [(1024, 4)], fun _ => 0x0, 0xff, 0x0, 0x0, 0x0, false⟩
def F.LDG_PORT_CFG_PROFILE : Fld := ⟨R.LDG_PORT_CFG, 0, 4⟩
def F.LDG_PORT_CFG_FLAT_PROFILE : Fld := ⟨R.LDG_PORT_CFG, 4, 4⟩
def R.LDG_AUDIT_STATUS : Reg := ⟨"LDG_AUDIT_STATUS", 0x28005004, [(4, 0x20)], fun _ => 0x0, 0x0, 0x20, 0x0, 0x0, false⟩
def F.LDG_AUDIT_STATUS_LEDGER : Fld := ⟨R.LDG_AUDIT_STATUS, 0, 4⟩
def F.LDG_AUDIT_STATUS_RUNNING : Fld := ⟨R.LDG_AUDIT_STATUS, 4, 1⟩
def F.LDG_AUDIT_STATUS_MISMATCH : Fld := ⟨R.LDG_AUDIT_STATUS, 5, 1⟩
def F.LDG_AUDIT_STATUS_DIGEST_BAD : Fld := ⟨R.LDG_AUDIT_STATUS, 6, 1⟩
def F.LDG_AUDIT_STATUS_MISMATCH_COUNT : Fld := ⟨R.LDG_AUDIT_STATUS, 8, 8⟩
def F.LDG_AUDIT_STATUS_PASSES : Fld := ⟨R.LDG_AUDIT_STATUS, 16, 16⟩
def R.LDG_STAT_LO : Reg := ⟨"LDG_STAT_LO", 0x28006000, [(8, 8), (16, 0x40)], fun _ => 0x0, 0x0, 0x0, 0x0, 0x0, false⟩
def F.LDG_STAT_LO_COUNT : Fld := ⟨R.LDG_STAT_LO, 0, 32⟩
def R.LDG_STAT_HI : Reg := ⟨"LDG_STAT_HI", 0x28006004, [(8, 8), (16, 0x40)], fun _ => 0x0, 0x0, 0x0, 0x0, 0x0, false⟩
def F.LDG_STAT_HI_COUNT : Fld := ⟨R.LDG_STAT_HI, 0, 32⟩
def R.LDG_GSTAT_LO : Reg := ⟨"LDG_GSTAT_LO", 0x28007000, [(8, 8)], fun _ => 0x0, 0x0, 0x0, 0x0, 0x0, false⟩
def F.LDG_GSTAT_LO_COUNT : Fld := ⟨R.LDG_GSTAT_LO, 0, 32⟩
def R.LDG_GSTAT_HI : Reg := ⟨"LDG_GSTAT_HI", 0x28007004, [(8, 8)], fun _ => 0x0, 0x0, 0x0, 0x0, 0x0, false⟩
def F.LDG_GSTAT_HI_COUNT : Fld := ⟨R.LDG_GSTAT_HI, 0, 32⟩
def R.CLRK_CTL : Reg := ⟨"CLRK_CTL", 0x2c000000, [(8, 0x10000)], fun _ => 0x0, 0x3, 0x0, 0x0, 0x0, false⟩
def F.CLRK_CTL_HOLD_PARKED : Fld := ⟨R.CLRK_CTL, 0, 1⟩
def F.CLRK_CTL_HALT : Fld := ⟨R.CLRK_CTL, 1, 1⟩
def R.CLRK_STATUS : Reg := ⟨"CLRK_STATUS", 0x2c000004, [(8, 0x10000)], fun _ => 0x0, 0x0, 0x18, 0x0, 0x0, false⟩
def F.CLRK_STATUS_STATE : Fld := ⟨R.CLRK_STATUS, 0, 2⟩
def F.CLRK_STATUS_STALE : Fld := ⟨R.CLRK_STATUS, 2, 1⟩
def F.CLRK_STATUS_PARKED : Fld := ⟨R.CLRK_STATUS, 3, 1⟩
def F.CLRK_STATUS_FAULT : Fld := ⟨R.CLRK_STATUS, 4, 1⟩
def F.CLRK_STATUS_ROUTINE : Fld := ⟨R.CLRK_STATUS, 8, 4⟩
def F.CLRK_STATUS_PARK_COUNT : Fld := ⟨R.CLRK_STATUS, 16, 8⟩
def F.CLRK_STATUS_FAULT_COUNT : Fld := ⟨R.CLRK_STATUS, 24, 8⟩
def R.CLRK_PC : Reg := ⟨"CLRK_PC", 0x2c000008, [(8, 0x10000)], fun _ => 0x0, 0x0, 0x0, 0x0, 0x0, false⟩
def F.CLRK_PC_PC : Fld := ⟨R.CLRK_PC, 0, 13⟩
def F.CLRK_PC_RESUME : Fld := ⟨R.CLRK_PC, 16, 13⟩
def R.CLRK_COND : Reg := ⟨"CLRK_COND", 0x2c00000c, [(8, 0x10000)], fun _ => 0xace10000, 0x0, 0x0, 0x0, 0x0, false⟩
def F.CLRK_COND_FLAGS : Fld := ⟨R.CLRK_COND, 0, 8⟩
def F.CLRK_COND_LFSR : Fld := ⟨R.CLRK_COND, 16, 16⟩
def R.CLRK_QUEUE : Reg := ⟨"CLRK_QUEUE", 0x2c000010, [(8, 0x10000)], fun _ => 0x0, 0x0, 0x0, 0x0, 0x0, false⟩
def F.CLRK_QUEUE_LEARN_FILL : Fld := ⟨R.CLRK_QUEUE, 0, 7⟩
def F.CLRK_QUEUE_WORK_FILL : Fld := ⟨R.CLRK_QUEUE, 8, 7⟩
def F.CLRK_QUEUE_SWEEP_NEXT : Fld := ⟨R.CLRK_QUEUE, 16, 15⟩
def F.CLRK_QUEUE_SWEEP_BEHIND : Fld := ⟨R.CLRK_QUEUE, 31, 1⟩
def R.CLRK_REG : Reg := ⟨"CLRK_REG", 0x2c000100, [(16, 4), (8, 0x10000)], fun _ => 0x0, 0x0, 0x0, 0x0, 0x0, false⟩
def F.CLRK_REG_VALUE : Fld := ⟨R.CLRK_REG, 0, 32⟩
def R.CLRK_PATH : Reg := ⟨"CLRK_PATH", 0x2c000200, [(32, 4), (8, 0x10000)], fun _ => 0x0, 0x0, 0x0, 0x0, 0x0, false⟩
def F.CLRK_PATH_BUCKET : Fld := ⟨R.CLRK_PATH, 0, 18⟩
def F.CLRK_PATH_POSITION : Fld := ⟨R.CLRK_PATH, 18, 2⟩
def R.CLRK_ENTRY : Reg := ⟨"CLRK_ENTRY", 0x2c080000, [(16, 4)], fun _ => 0x0, 0x0, 0x0, 0x0, 0x0, false⟩
def F.CLRK_ENTRY_ADDRESS : Fld := ⟨R.CLRK_ENTRY, 0, 13⟩
def R.CLRK_STORE : Reg := ⟨"CLRK_STORE", 0x2c100000, [(8192, 4), (8, 0x8000)], fun _ => 0x0, 0xffffffff, 0x0, 0x0, 0x0, false⟩
def F.CLRK_STORE_MICROWORD : Fld := ⟨R.CLRK_STORE, 0, 32⟩
def R.VLT_GLOBAL : Reg := ⟨"VLT_GLOBAL", 0x30000000, [(1, 0)], fun _ => 0x100000, 0x1ffff1f, 0x0, 0x0, 0x0, false⟩
def F.VLT_GLOBAL_HOST_POOL : Fld := ⟨R.VLT_GLOBAL, 0, 5⟩
def F.VLT_GLOBAL_DESC_FLOOR : Fld := ⟨R.VLT_GLOBAL, 8, 17⟩
def R.VLT_FREE_ERR : Reg := ⟨"VLT_FREE_ERR", 0x30000010, [(1, 0)], fun _ => 0x0, 0x0, 0x3, 0x0, 0x0, false⟩
def F.VLT_FREE_ERR_DOUBLE_FREE : Fld := ⟨R.VLT_FREE_ERR, 0, 1⟩
def F.VLT_FREE_ERR_FOREIGN_FREE : Fld := ⟨R.VLT_FREE_ERR, 1, 1⟩
def F.VLT_FREE_ERR_DOUBLE_COUNT : Fld := ⟨R.VLT_FREE_ERR, 8, 8⟩
def F.VLT_FREE_ERR_FOREIGN_COUNT : Fld := ⟨R.VLT_FREE_ERR, 16, 8⟩
def R.VLT_FREE_ERR_LAST : Reg := ⟨"VLT_FREE_ERR_LAST", 0x30000014, [(1, 0)], fun _ => 0x0, 0x0, 0x0, 0x0, 0x0, false⟩
def F.VLT_FREE_ERR_LAST_FOLIO : Fld := ⟨R.VLT_FREE_ERR_LAST, 0, 21⟩
def F.VLT_FREE_ERR_LAST_UNIT : Fld := ⟨R.VLT_FREE_ERR_LAST, 21, 3⟩
def F.VLT_FREE_ERR_LAST_KIND : Fld := ⟨R.VLT_FREE_ERR_LAST, 24, 1⟩
def R.VLT_MEM_ERR : Reg := ⟨"VLT_MEM_ERR", 0x30000018, [(1, 0)], fun _ => 0x0, 0x0, 0x3, 0x0, 0x0, false⟩
def F.VLT_MEM_ERR_ECC_UNCORR : Fld := ⟨R.VLT_MEM_ERR, 0, 1⟩
def F.VLT_MEM_ERR_LINK_PARITY : Fld := ⟨R.VLT_MEM_ERR, 1, 1⟩
def F.VLT_MEM_ERR_ECC_UNCORR_COUNT : Fld := ⟨R.VLT_MEM_ERR, 8, 8⟩
def F.VLT_MEM_ERR_LINK_PARITY_COUNT : Fld := ⟨R.VLT_MEM_ERR, 16, 8⟩
def R.VLT_DIE_STATUS : Reg := ⟨"VLT_DIE_STATUS", 0x30000100, [(2, 0x40)], fun _ => 0x0, 0x0, 0x0, 0x0, 0x0, false⟩
def F.VLT_DIE_STATUS_FREE_FOLIOS : Fld := ⟨R.VLT_DIE_STATUS, 0, 20⟩
def R.VLT_POOL_CFG : Reg := ⟨"VLT_POOL_CFG", 0x30001000, [(32, 0x40)], fun _ => 0x400004, 0xffff0f77, 0x0, 0x0, 0x0, false⟩
def F.VLT_POOL_CFG_ENABLE : Fld := ⟨R.VLT_POOL_CFG, 0, 1⟩
def F.VLT_POOL_CFG_LOSSLESS : Fld := ⟨R.VLT_POOL_CFG, 1, 1⟩
def F.VLT_POOL_CFG_SHARE_MODE : Fld := ⟨R.VLT_POOL_CFG, 2, 1⟩
def F.VLT_POOL_CFG_PFC_PRI : Fld := ⟨R.VLT_POOL_CFG, 4, 3⟩
def F.VLT_POOL_CFG_ALPHA_LOG2 : Fld := ⟨R.VLT_POOL_CFG, 8, 4⟩
def F.VLT_POOL_CFG_XON_GAP : Fld := ⟨R.VLT_POOL_CFG, 16, 16⟩
def R.VLT_POOL_STATE : Reg := ⟨"VLT_POOL_STATE", 0x30002000, [(2, 0x10), (32, 0x40)], fun _ => 0x0, 0x0, 0xc, 0x0, 0x0, false⟩
def F.VLT_POOL_STATE_XOFF : Fld := ⟨R.VLT_POOL_STATE, 0, 1⟩
def F.VLT_POOL_STATE_BLOCKED : Fld := ⟨R.VLT_POOL_STATE, 1, 1⟩
def F.VLT_POOL_STATE_DROP : Fld := ⟨R.VLT_POOL_STATE, 2, 1⟩
def F.VLT_POOL_STATE_HEADROOM_DROP : Fld := ⟨R.VLT_POOL_STATE, 3, 1⟩
def F.VLT_POOL_STATE_DROP_COUNT : Fld := ⟨R.VLT_POOL_STATE, 8, 8⟩
def F.VLT_POOL_STATE_HEADROOM_DROP_COUNT : Fld := ⟨R.VLT_POOL_STATE, 16, 8⟩
def R.VLT_BANK_FREE : Reg := ⟨"VLT_BANK_FREE", 0x30004000, [(256, 4)], fun _ => 0x0, 0x0, 0x0, 0x0, 0x0, false⟩
def F.VLT_BANK_FREE_FREE : Fld := ⟨R.VLT_BANK_FREE, 0, 13⟩
def R.VLT_POOL_MAP : Reg := ⟨"VLT_POOL_MAP", 0x30008000, [(4, 4), (1024, 0x10)], fun _ => 0x0, 0x1f1f1f1f, 0x0, 0x0, 0x0, false⟩
def F.VLT_POOL_MAP_POOL_0 : Fld := ⟨R.VLT_POOL_MAP, 0, 5⟩
def F.VLT_POOL_MAP_POOL_1 : Fld := ⟨R.VLT_POOL_MAP, 8, 5⟩
def F.VLT_POOL_MAP_POOL_2 : Fld := ⟨R.VLT_POOL_MAP, 16, 5⟩
def F.VLT_POOL_MAP_POOL_3 : Fld := ⟨R.VLT_POOL_MAP, 24, 5⟩
def R.VLT_STAT_LO : Reg := ⟨"VLT_STAT_LO", 0x30003000, [(8, 8), (32, 0x40)], fun _ => 0x0, 0x0, 0x0, 0x0, 0x0, false⟩
def F.VLT_STAT_LO_COUNT : Fld := ⟨R.VLT_STAT_LO, 0, 32⟩
def R.VLT_STAT_HI : Reg := ⟨"VLT_STAT_HI", 0x30003004, [(8, 8), (32, 0x40)], fun _ => 0x0, 0x0, 0x0, 0x0, 0x0, false⟩
def F.VLT_STAT_HI_COUNT : Fld := ⟨R.VLT_STAT_HI, 0, 32⟩
def R.VLT_GSTAT_LO : Reg := ⟨"VLT_GSTAT_LO", 0x30003800, [(8, 8)], fun _ => 0x0, 0x0, 0x0, 0x0, 0x0, false⟩
def F.VLT_GSTAT_LO_COUNT : Fld := ⟨R.VLT_GSTAT_LO, 0, 32⟩
def R.VLT_GSTAT_HI : Reg := ⟨"VLT_GSTAT_HI", 0x30003804, [(8, 8)], fun _ => 0x0, 0x0, 0x0, 0x0, 0x0, false⟩
def F.VLT_GSTAT_HI_COUNT : Fld := ⟨R.VLT_GSTAT_HI, 0, 32⟩
def R.QSC_ENERGY_CFG : Reg := ⟨"QSC_ENERGY_CFG", 0x38000000, [(1, 0)], fun _ => 0x20000, 0xf00ff, 0x0, 0x0, 0x0, false⟩
def F.QSC_ENERGY_CFG_REPL_SURCHARGE : Fld := ⟨R.QSC_ENERGY_CFG, 0, 8⟩
def F.QSC_ENERGY_CFG_PURSE_MAX_MULT : Fld := ⟨R.QSC_ENERGY_CFG, 16, 4⟩
def R.QSC_ENERGY_COST : Reg := ⟨"QSC_ENERGY_COST", 0x38000010, [(4, 4)], fun _ => 0x0, 0x3ff, 0x0, 0x0, 0x0, false⟩
def F.QSC_ENERGY_COST_COST : Fld := ⟨R.QSC_ENERGY_COST, 0, 10⟩
def R.QSC_SAMPLE_CFG : Reg := ⟨"QSC_SAMPLE_CFG", 0x38000020, [(1, 0)], fun _ => 0x3e8, 0xfffff, 0x0, 0x0, 0x0, false⟩
def F.QSC_SAMPLE_CFG_INTERVAL_NS : Fld := ⟨R.QSC_SAMPLE_CFG, 0, 20⟩
def R.QSC_PURSE : Reg := ⟨"QSC_PURSE", 0x38000100, [(32, 0x10)], fun _ => 0x0, 0x0, 0x0, 0x0, 0x0, false⟩
def F.QSC_PURSE_BALANCE : Fld := ⟨R.QSC_PURSE, 0, 24⟩
def F.QSC_PURSE_NEGATIVE : Fld := ⟨R.QSC_PURSE, 24, 1⟩
def R.QSC_PURSE_ALLOW : Reg := ⟨"QSC_PURSE_ALLOW", 0x38000104, [(32, 0x10)], fun _ => 0xffff, 0x0, 0x0, 0x0, 0x0, false⟩
def F.QSC_PURSE_ALLOW_ALLOWANCE : Fld := ⟨R.QSC_PURSE_ALLOW, 0, 16⟩
def R.QSC_PURSE_HELD : Reg := ⟨"QSC_PURSE_HELD", 0x38000108, [(32, 0x10)], fun _ => 0x0, 0x0, 0x0, 0x0, 0x0, false⟩
def F.QSC_PURSE_HELD_INTERVALS : Fld := ⟨R.QSC_PURSE_HELD, 0, 32⟩
def R.QSC_GSTAT_LO : Reg := ⟨"QSC_GSTAT_LO", 0x38000400, [(8, 8)], fun _ => 0x0, 0x0, 0x0, 0x0, 0x0, false⟩
def F.QSC_GSTAT_LO_COUNT : Fld := ⟨R.QSC_GSTAT_LO, 0, 32⟩
def R.QSC_GSTAT_HI : Reg := ⟨"QSC_GSTAT_HI", 0x38000404, [(8, 8)], fun _ => 0x0, 0x0, 0x0, 0x0, 0x0, false⟩
def F.QSC_GSTAT_HI_COUNT : Fld := ⟨R.QSC_GSTAT_HI, 0, 32⟩
def R.QSC_PORT_CFG : Reg := ⟨"QSC_PORT_CFG", 0x38040000, [(1024, 0x40)], fun _ => 0x2020, 0xff33, 0x0, 0x0, 0x0, false⟩
def F.QSC_PORT_CFG_EXPRESS_Q : Fld := ⟨R.QSC_PORT_CFG, 0, 2⟩
def F.QSC_PORT_CFG_PORT_SHAPER_EN : Fld := ⟨R.QSC_PORT_CFG, 4, 1⟩
def F.QSC_PORT_CFG_TOKEN_RESET : Fld := ⟨R.QSC_PORT_CFG, 5, 1⟩
def F.QSC_PORT_CFG_EXP_SHARE : Fld := ⟨R.QSC_PORT_CFG, 8, 8⟩
def R.QSC_PORT_RATE : Reg := ⟨"QSC_PORT_RATE", 0x38040004, [(1024, 0x40)], fun _ => 0xbebc200, 0xfffffff, 0x0, 0x0, 0x0, false⟩
def F.QSC_PORT_RATE_VALUE : Fld := ⟨R.QSC_PORT_RATE, 0, 28⟩
def R.QSC_PORT_BURST : Reg := ⟨"QSC_PORT_BURST", 0x38040008, [(1024, 0x40)], fun _ => 0x10000, 0xffffff, 0x0, 0x0, 0x0, false⟩
def F.QSC_PORT_BURST_VALUE : Fld := ⟨R.QSC_PORT_BURST, 0, 24⟩
def R.QSC_PORT_TOKENS : Reg := ⟨"QSC_PORT_TOKENS", 0x3804000c, [(1024, 0x40)], fun _ => 0x0, 0x0, 0x0, 0x0, 0x0, false⟩
def F.QSC_PORT_TOKENS_TOKENS : Fld := ⟨R.QSC_PORT_TOKENS, 0, 32⟩
def R.QSC_PORT_EXP_TOKENS : Reg := ⟨"QSC_PORT_EXP_TOKENS", 0x38040030, [(1024, 0x40)], fun _ => 0x0, 0x0, 0x0, 0x0, 0x0, false⟩
def F.QSC_PORT_EXP_TOKENS_TOKENS : Fld := ⟨R.QSC_PORT_EXP_TOKENS, 0, 32⟩
def R.QSC_PORT_EXP_BURST : Reg := ⟨"QSC_PORT_EXP_BURST", 0x38040034, [(1024, 0x40)], fun _ => 0x4000, 0xffffff, 0x0, 0x0, 0x0, false⟩
def F.QSC_PORT_EXP_BURST_EXP_BURST : Fld := ⟨R.QSC_PORT_EXP_BURST, 0, 24⟩
def R.QSC_PORT_VCLOCK_LO : Reg := ⟨"QSC_PORT_VCLOCK_LO", 0x38040010, [(4, 8), (1024, 0x40)], fun _ => 0x0, 0x0, 0x0, 0x0, 0x0, false⟩
def F.QSC_PORT_VCLOCK_LO_V : Fld := ⟨R.QSC_PORT_VCLOCK_LO, 0, 32⟩
def R.QSC_PORT_VCLOCK_HI : Reg := ⟨"QSC_PORT_VCLOCK_HI", 0x38040014, [(4, 8), (1024, 0x40)], fun _ => 0x0, 0x0, 0x0, 0x0, 0x0, false⟩
def F.QSC_PORT_VCLOCK_HI_V : Fld := ⟨R.QSC_PORT_VCLOCK_HI, 0, 32⟩
def R.QSC_Q_CFG : Reg := ⟨"QSC_Q_CFG", 0x38100000, [(16384, 0x40)], fun _ => 0x100400, 0xffff07f3, 0x0, 0x0, 0x0, false⟩
def F.QSC_Q_CFG_TIER : Fld := ⟨R.QSC_Q_CFG, 0, 2⟩
def F.QSC_Q_CFG_ENERGY_CLASS : Fld := ⟨R.QSC_Q_CFG, 4, 2⟩
def F.QSC_Q_CFG_ESSENTIAL_MODE : Fld := ⟨R.QSC_Q_CFG, 6, 2⟩
def F.QSC_Q_CFG_SAMPLE_EN : Fld := ⟨R.QSC_Q_CFG, 8, 1⟩
def F.QSC_Q_CFG_SHAPER_EN : Fld := ⟨R.QSC_Q_CFG, 9, 1⟩
def F.QSC_Q_CFG_TOKEN_RESET : Fld := ⟨R.QSC_Q_CFG, 10, 1⟩
def F.QSC_Q_CFG_WEIGHT : Fld := ⟨R.QSC_Q_CFG, 16, 16⟩
def R.QSC_Q_RATE : Reg := ⟨"QSC_Q_RATE", 0x38100004, [(16384, 0x40)], fun _ => 0xbebc200, 0xfffffff, 0x0, 0x0, 0x0, false⟩
def F.QSC_Q_RATE_VALUE : Fld := ⟨R.QSC_Q_RATE, 0, 28⟩
def R.QSC_Q_BURST : Reg := ⟨"QSC_Q_BURST", 0x38100008, [(16384, 0x40)], fun _ => 0x4000, 0xffffff, 0x0, 0x0, 0x0, false⟩
def F.QSC_Q_BURST_VALUE : Fld := ⟨R.QSC_Q_BURST, 0, 24⟩
def R.QSC_Q_TOKENS : Reg := ⟨"QSC_Q_TOKENS", 0x3810000c, [(16384, 0x40)], fun _ => 0x0, 0x0, 0x0, 0x0, 0x0, false⟩
def F.QSC_Q_TOKENS_TOKENS : Fld := ⟨R.QSC_Q_TOKENS, 0, 32⟩
def R.QSC_Q_LIMIT_A : Reg := ⟨"QSC_Q_LIMIT_A", 0x38100010, [(16384, 0x40)], fun _ => 0x0, 0xffffffff, 0x0, 0x0, 0x0, false⟩
def F.QSC_Q_LIMIT_A_CAP : Fld := ⟨R.QSC_Q_LIMIT_A, 0, 16⟩
def F.QSC_Q_LIMIT_A_YELLOW : Fld := ⟨R.QSC_Q_LIMIT_A, 16, 16⟩
def R.QSC_Q_LIMIT_B : Reg := ⟨"QSC_Q_LIMIT_B", 0x38100014, [(16384, 0x40)], fun _ => 0x0, 0xffffffff, 0x0, 0x0, 0x0, false⟩
def F.QSC_Q_LIMIT_B_RED : Fld := ⟨R.QSC_Q_LIMIT_B, 0, 16⟩
def F.QSC_Q_LIMIT_B_ECN : Fld := ⟨R.QSC_Q_LIMIT_B, 16, 16⟩
def R.QSC_Q_START_LO : Reg := ⟨"QSC_Q_START_LO", 0x38100018, [(16384, 0x40)], fun _ => 0x0, 0x0, 0x0, 0x0, 0x0, false⟩
def F.QSC_Q_START_LO_TAG : Fld := ⟨R.QSC_Q_START_LO, 0, 32⟩
def R.QSC_Q_START_HI : Reg := ⟨"QSC_Q_START_HI", 0x3810001c, [(16384, 0x40)], fun _ => 0x0, 0x0, 0x0, 0x0, 0x0, false⟩
def F.QSC_Q_START_HI_TAG : Fld := ⟨R.QSC_Q_START_HI, 0, 32⟩
def R.QSC_Q_FINISH_LO : Reg := ⟨"QSC_Q_FINISH_LO", 0x38100020, [(16384, 0x40)], fun _ => 0x0, 0x0, 0x0, 0x0, 0x0, false⟩
def F.QSC_Q_FINISH_LO_TAG : Fld := ⟨R.QSC_Q_FINISH_LO, 0, 32⟩
def R.QSC_Q_FINISH_HI : Reg := ⟨"QSC_Q_FINISH_HI", 0x38100024, [(16384, 0x40)], fun _ => 0x0, 0x0, 0x0, 0x0, 0x0, false⟩
def F.QSC_Q_FINISH_HI_TAG : Fld := ⟨R.QSC_Q_FINISH_HI, 0, 32⟩
def R.QSC_Q_DEPTH : Reg := ⟨"QSC_Q_DEPTH", 0x38100028, [(16384, 0x40)], fun _ => 0x0, 0x0, 0x0, 0x0, 0x0, false⟩
def F.QSC_Q_DEPTH_FOLIOS : Fld := ⟨R.QSC_Q_DEPTH, 0, 20⟩
def R.QSC_Q_FRAMES : Reg := ⟨"QSC_Q_FRAMES", 0x3810002c, [(16384, 0x40)], fun _ => 0x0, 0x0, 0x0, 0x0, 0x0, false⟩
def F.QSC_Q_FRAMES_FRAMES : Fld := ⟨R.QSC_Q_FRAMES, 0, 17⟩
def R.QSC_Q_STATUS : Reg := ⟨"QSC_Q_STATUS", 0x38100030, [(16384, 0x40)], fun _ => 0x30, 0x0, 0x300, 0x0, 0x0, false⟩
def F.QSC_Q_STATUS_ELIGIBLE : Fld := ⟨R.QSC_Q_STATUS, 0, 1⟩
def F.QSC_Q_STATUS_GATE_OPEN : Fld := ⟨R.QSC_Q_STATUS, 1, 1⟩
def F.QSC_Q_STATUS_PAUSED : Fld := ⟨R.QSC_Q_STATUS, 2, 1⟩
def F.QSC_Q_STATUS_LAUNCH_WAIT : Fld := ⟨R.QSC_Q_STATUS, 3, 1⟩
def F.QSC_Q_STATUS_SHAPER_OK : Fld := ⟨R.QSC_Q_STATUS, 4, 1⟩
def F.QSC_Q_STATUS_PURSE_OK : Fld := ⟨R.QSC_Q_STATUS, 5, 1⟩
def F.QSC_Q_STATUS_ESSENTIAL : Fld := ⟨R.QSC_Q_STATUS, 6, 1⟩
def F.QSC_Q_STATUS_EXPRESS : Fld := ⟨R.QSC_Q_STATUS, 7, 1⟩
def F.QSC_Q_STATUS_DROP : Fld := ⟨R.QSC_Q_STATUS, 8, 1⟩
def F.QSC_Q_STATUS_STATE_PARITY : Fld := ⟨R.QSC_Q_STATUS, 9, 1⟩
def F.QSC_Q_STATUS_DROP_COUNT : Fld := ⟨R.QSC_Q_STATUS, 16, 8⟩
def F.QSC_Q_STATUS_PARITY_COUNT : Fld := ⟨R.QSC_Q_STATUS, 24, 8⟩
def R.TIM_CTL : Reg := ⟨"TIM_CTL", 0x5000000, [(1, 0)], fun _ => 0x3e80000, 0xffff003f, 0x0, 0x0, 0x0, false⟩
def F.TIM_CTL_SOURCE : Fld := ⟨R.TIM_CTL, 0, 2⟩
def F.TIM_CTL_REF_SEL : Fld := ⟨R.TIM_CTL, 2, 1⟩
def F.TIM_CTL_TIME_REF_MHZ : Fld := ⟨R.TIM_CTL, 3, 1⟩
def F.TIM_CTL_PPS_PIN : Fld := ⟨R.TIM_CTL, 4, 2⟩
def F.TIM_CTL_LOCK_LEASE_MS : Fld := ⟨R.TIM_CTL, 16, 16⟩
def R.TIM_CTL2 : Reg := ⟨"TIM_CTL2", 0x5000004, [(1, 0)], fun _ => 0x644064, 0x1fff3ff, 0x0, 0x0, 0x0, false⟩
def F.TIM_CTL2_PPS_WINDOW_NS : Fld := ⟨R.TIM_CTL2, 0, 10⟩
def F.TIM_CTL2_PPS_LOCK_COUNT : Fld := ⟨R.TIM_CTL2, 12, 4⟩
def F.TIM_CTL2_SLEW_PPM : Fld := ⟨R.TIM_CTL2, 16, 9⟩
def R.TIM_STATUS : Reg := ⟨"TIM_STATUS", 0x5000008, [(1, 0)], fun _ => 0x0, 0x0, 0x38, 0x0, 0x0, false⟩
def F.TIM_STATUS_LOCKED : Fld := ⟨R.TIM_STATUS, 0, 1⟩
def F.TIM_STATUS_ON_FALLBACK : Fld := ⟨R.TIM_STATUS, 1, 1⟩
def F.TIM_STATUS_SLEWING : Fld := ⟨R.TIM_STATUS, 2, 1⟩
def F.TIM_STATUS_LOCK_LOSS : Fld := ⟨R.TIM_STATUS, 3, 1⟩
def F.TIM_STATUS_STEPPED : Fld := ⟨R.TIM_STATUS, 4, 1⟩
def F.TIM_STATUS_PPS_MISS : Fld := ⟨R.TIM_STATUS, 5, 1⟩
def F.TIM_STATUS_LOCK_LOSS_COUNT : Fld := ⟨R.TIM_STATUS, 8, 8⟩
def F.TIM_STATUS_STEP_COUNT : Fld := ⟨R.TIM_STATUS, 16, 8⟩
def F.TIM_STATUS_PPS_OUT_COUNT : Fld := ⟨R.TIM_STATUS, 24, 8⟩
def R.TIM_FREQ_ADJ : Reg := ⟨"TIM_FREQ_ADJ", 0x500000c, [(1, 0)], fun _ => 0x0, 0xffffffff, 0x0, 0x0, 0x0, false⟩
def F.TIM_FREQ_ADJ_FREQ_ADJ : Fld := ⟨R.TIM_FREQ_ADJ, 0, 32⟩
def R.TIM_PAIR_STAMP : Reg := ⟨"TIM_PAIR_STAMP", 0x5000010, [(1, 0)], fun _ => 0x0, 0x0, 0x0, 0x0, 0x0, false⟩
def F.TIM_PAIR_STAMP_VALUE : Fld := ⟨R.TIM_PAIR_STAMP, 0, 32⟩
def R.TIM_PAIR_NS : Reg := ⟨"TIM_PAIR_NS", 0x5000014, [(1, 0)], fun _ => 0x0, 0x0, 0x0, 0x0, 0x0, false⟩
def F.TIM_PAIR_NS_VALUE : Fld := ⟨R.TIM_PAIR_NS, 0, 32⟩
def R.TIM_PAIR_SEC_LO : Reg := ⟨"TIM_PAIR_SEC_LO", 0x5000018, [(1, 0)], fun _ => 0x0, 0x0, 0x0, 0x0, 0x0, false⟩
def F.TIM_PAIR_SEC_LO_VALUE : Fld := ⟨R.TIM_PAIR_SEC_LO, 0, 32⟩
def R.TIM_PAIR_SEC_HI : Reg := ⟨"TIM_PAIR_SEC_HI", 0x500001c, [(1, 0)], fun _ => 0x0, 0x0, 0x0, 0x0, 0x0, false⟩
def F.TIM_PAIR_SEC_HI_VALUE : Fld := ⟨R.TIM_PAIR_SEC_HI, 0, 32⟩
def R.TIM_PPS_ERROR : Reg := ⟨"TIM_PPS_ERROR", 0x5000020, [(1, 0)], fun _ => 0x0, 0x0, 0x0, 0x0, 0x0, false⟩
def F.TIM_PPS_ERROR_ERROR_NS : Fld := ⟨R.TIM_PPS_ERROR, 0, 32⟩
def R.TIM_STATUS2 : Reg := ⟨"TIM_STATUS2", 0x5000024, [(1, 0)], fun _ => 0x0, 0x0, 0x0, 0x0, 0x0, false⟩
def F.TIM_STATUS2_PPS_MISS_COUNT : Fld := ⟨R.TIM_STATUS2, 0, 8⟩
def R.TIM_RING_CFG : Reg := ⟨"TIM_RING_CFG", 0x5000030, [(1, 0)], fun _ => 0x3e80600, 0xffff1f01, 0x0, 0x0, 0x0, false⟩
def F.TIM_RING_CFG_ENABLE : Fld := ⟨R.TIM_RING_CFG, 0, 1⟩
def F.TIM_RING_CFG_SIZE_LOG2 : Fld := ⟨R.TIM_RING_CFG, 8, 5⟩
def F.TIM_RING_CFG_PAIR_PERIOD_MS : Fld := ⟨R.TIM_RING_CFG, 16, 16⟩
def R.TIM_RING_ADDR_LO : Reg := ⟨"TIM_RING_ADDR_LO", 0x5000034, [(1, 0)], fun _ => 0x0, 0xffffffff, 0x0, 0x0, 0x0, false⟩
def F.TIM_RING_ADDR_LO_VALUE : Fld := ⟨R.TIM_RING_ADDR_LO, 0, 32⟩
def R.TIM_RING_ADDR_HI : Reg := ⟨"TIM_RING_ADDR_HI", 0x5000038, [(1, 0)], fun _ => 0x0, 0xffffffff, 0x0, 0x0, 0x0, false⟩
def F.TIM_RING_ADDR_HI_VALUE : Fld := ⟨R.TIM_RING_ADDR_HI, 0, 32⟩
def R.TIM_RING_PROD : Reg := ⟨"TIM_RING_PROD", 0x500003c, [(1, 0)], fun _ => 0x0, 0x0, 0x0, 0x0, 0x0, false⟩
def F.TIM_RING_PROD_VALUE : Fld := ⟨R.TIM_RING_PROD, 0, 32⟩
def R.TIM_COPY_STATUS : Reg := ⟨"TIM_COPY_STATUS", 0x5000040, [(10, 4)], fun _ => 0x0, 0x0, 0x2, 0x0, 0x0, false⟩
def F.TIM_COPY_STATUS_STALE : Fld := ⟨R.TIM_COPY_STATUS, 0, 1⟩
def F.TIM_COPY_STATUS_STALE_SET : Fld := ⟨R.TIM_COPY_STATUS, 1, 1⟩
def F.TIM_COPY_STATUS_STALE_COUNT : Fld := ⟨R.TIM_COPY_STATUS, 8, 8⟩
def R.TIM_PIN_CFG : Reg := ⟨"TIM_PIN_CFG", 0x5000100, [(4, 0x20)], fun _ => 0x60, 0xf7, 0x0, 0x0, 0x0, false⟩
def F.TIM_PIN_CFG_MODE : Fld := ⟨R.TIM_PIN_CFG, 0, 3⟩
def F.TIM_PIN_CFG_POLARITY : Fld := ⟨R.TIM_PIN_CFG, 4, 1⟩
def F.TIM_PIN_CFG_SQUELCH : Fld := ⟨R.TIM_PIN_CFG, 5, 1⟩
def F.TIM_PIN_CFG_EDGES : Fld := ⟨R.TIM_PIN_CFG, 6, 2⟩
def R.TIM_PIN_START_SEC_LO : Reg := ⟨"TIM_PIN_START_SEC_LO", 0x5000104, [(4, 0x20)], fun _ => 0x0, 0xffffffff, 0x0, 0x0, 0x0, false⟩
def F.TIM_PIN_START_SEC_LO_VALUE : Fld := ⟨R.TIM_PIN_START_SEC_LO, 0, 32⟩
def R.TIM_PIN_START_SEC_HI : Reg := ⟨"TIM_PIN_START_SEC_HI", 0x5000108, [(4, 0x20)], fun _ => 0x0, 0xffffffff, 0x0, 0x0, 0x0, false⟩
def F.TIM_PIN_START_SEC_HI_VALUE : Fld := ⟨R.TIM_PIN_START_SEC_HI, 0, 32⟩
def R.TIM_PIN_START_NS : Reg := ⟨"TIM_PIN_START_NS", 0x500010c, [(4, 0x20)], fun _ => 0x0, 0xffffffff, 0x0, 0x0, 0x0, false⟩
def F.TIM_PIN_START_NS_VALUE : Fld := ⟨R.TIM_PIN_START_NS, 0, 32⟩
def R.TIM_PIN_PERIOD : Reg := ⟨"TIM_PIN_PERIOD", 0x5000110, [(4, 0x20)], fun _ => 0x0, 0xffffffff, 0x0, 0x0, 0x0, false⟩
def F.TIM_PIN_PERIOD_VALUE : Fld := ⟨R.TIM_PIN_PERIOD, 0, 32⟩
def R.TIM_PIN_WIDTH : Reg := ⟨"TIM_PIN_WIDTH", 0x5000114, [(4, 0x20)], fun _ => 0x0, 0xffffffff, 0x0, 0x0, 0x0, false⟩
def F.TIM_PIN_WIDTH_VALUE : Fld := ⟨R.TIM_PIN_WIDTH, 0, 32⟩
def R.TIM_PIN_STATUS : Reg := ⟨"TIM_PIN_STATUS", 0x5000118, [(4, 0x20)], fun _ => 0x0, 0x0, 0x6, 0x0, 0x0, false⟩
def F.TIM_PIN_STATUS_LEVEL : Fld := ⟨R.TIM_PIN_STATUS, 0, 1⟩
def F.TIM_PIN_STATUS_MISSED : Fld := ⟨R.TIM_PIN_STATUS, 1, 1⟩
def F.TIM_PIN_STATUS_CAPTURE_MERGED : Fld := ⟨R.TIM_PIN_STATUS, 2, 1⟩
def F.TIM_PIN_STATUS_EDGES_SKIPPED : Fld := ⟨R.TIM_PIN_STATUS, 8, 8⟩
def F.TIM_PIN_STATUS_LAST_CAPTURE : Fld := ⟨R.TIM_PIN_STATUS, 16, 16⟩
def R.TIM_PIN_LAT : Reg := ⟨"TIM_PIN_LAT", 0x500011c, [(4, 0x20)], fun _ => 0x0, 0xffffffff, 0x0, 0x0, 0x0, false⟩
def F.TIM_PIN_LAT_LAT_IN : Fld := ⟨R.TIM_PIN_LAT, 0, 16⟩
def F.TIM_PIN_LAT_LAT_OUT : Fld := ⟨R.TIM_PIN_LAT, 16, 16⟩
def R.TIM_PIN_EVCOUNT : Reg := ⟨"TIM_PIN_EVCOUNT", 0x5000180, [(4, 4)], fun _ => 0x0, 0x0, 0x0, 0x0, 0x0, false⟩
def F.TIM_PIN_EVCOUNT_MISSED_COUNT : Fld := ⟨R.TIM_PIN_EVCOUNT, 0, 8⟩
def F.TIM_PIN_EVCOUNT_MERGED_COUNT : Fld := ⟨R.TIM_PIN_EVCOUNT, 8, 8⟩
def R.TIM_FEC_TERM : Reg := ⟨"TIM_FEC_TERM", 0x5000200, [(4, 4)], fun _ => 0x0, 0xffffffff, 0x0, 0x0, 0x0, false⟩
def F.TIM_FEC_TERM_FEC_RX : Fld := ⟨R.TIM_FEC_TERM, 0, 16⟩
def F.TIM_FEC_TERM_FEC_TX : Fld := ⟨R.TIM_FEC_TERM, 16, 16⟩
def R.TIM_PORT_CFG : Reg := ⟨"TIM_PORT_CFG", 0x5010000, [(1024, 0x40)], fun _ => 0x3e80000, 0xffff007f, 0x0, 0x0, 0x0, false⟩
def F.TIM_PORT_CFG_PTP_MODE : Fld := ⟨R.TIM_PORT_CFG, 0, 2⟩
def F.TIM_PORT_CFG_ETH_EN : Fld := ⟨R.TIM_PORT_CFG, 2, 1⟩
def F.TIM_PORT_CFG_UDP4_EN : Fld := ⟨R.TIM_PORT_CFG, 3, 1⟩
def F.TIM_PORT_CFG_UDP6_EN : Fld := ⟨R.TIM_PORT_CFG, 4, 1⟩
def F.TIM_PORT_CFG_STITCH_STAMP : Fld := ⟨R.TIM_PORT_CFG, 5, 1⟩
def F.TIM_PORT_CFG_LATE_ACTION : Fld := ⟨R.TIM_PORT_CFG, 6, 1⟩
def F.TIM_PORT_CFG_LAUNCH_HORIZON_MS : Fld := ⟨R.TIM_PORT_CFG, 16, 16⟩
def R.TIM_PORT_LAT_212 : Reg := ⟨"TIM_PORT_LAT_212", 0x5010004, [(1024, 0x40)], fun _ => 0x0, 0xffffffff, 0x0, 0x0, 0x0, false⟩
def F.TIM_PORT_LAT_212_RX : Fld := ⟨R.TIM_PORT_LAT_212, 0, 16⟩
def F.TIM_PORT_LAT_212_TX : Fld := ⟨R.TIM_PORT_LAT_212, 16, 16⟩
def R.TIM_PORT_LAT_106 : Reg := ⟨"TIM_PORT_LAT_106", 0x5010008, [(1024, 0x40)], fun _ => 0x0, 0xffffffff, 0x0, 0x0, 0x0, false⟩
def F.TIM_PORT_LAT_106_RX : Fld := ⟨R.TIM_PORT_LAT_106, 0, 16⟩
def F.TIM_PORT_LAT_106_TX : Fld := ⟨R.TIM_PORT_LAT_106, 16, 16⟩
def R.TIM_PORT_BOARD : Reg := ⟨"TIM_PORT_BOARD", 0x501000c, [(1024, 0x40)], fun _ => 0x0, 0xffffffff, 0x0, 0x0, 0x0, false⟩
def F.TIM_PORT_BOARD_RX : Fld := ⟨R.TIM_PORT_BOARD, 0, 16⟩
def F.TIM_PORT_BOARD_TX : Fld := ⟨R.TIM_PORT_BOARD, 16, 16⟩
def R.TIM_PORT_PEER_DELAY : Reg := ⟨"TIM_PORT_PEER_DELAY", 0x5010010, [(1024, 0x40)], fun _ => 0x0, 0xffffffff, 0x0, 0x0, 0x0, false⟩
def F.TIM_PORT_PEER_DELAY_DELAY : Fld := ⟨R.TIM_PORT_PEER_DELAY, 0, 32⟩
def R.TIM_PORT_STATUS : Reg := ⟨"TIM_PORT_STATUS", 0x5010014, [(1024, 0x40)], fun _ => 0x0, 0x0, 0x7000000, 0x0, 0x0, false⟩
def F.TIM_PORT_STATUS_LAST_LATE_NS : Fld := ⟨R.TIM_PORT_STATUS, 0, 24⟩
def F.TIM_PORT_STATUS_LATE : Fld := ⟨R.TIM_PORT_STATUS, 24, 1⟩
def F.TIM_PORT_STATUS_FAR : Fld := ⟨R.TIM_PORT_STATUS, 25, 1⟩
def F.TIM_PORT_STATUS_NO_PAD : Fld := ⟨R.TIM_PORT_STATUS, 26, 1⟩
def R.TIM_PORT_EVCOUNT : Reg := ⟨"TIM_PORT_EVCOUNT", 0x5010018, [(1024, 0x40)], fun _ => 0x0, 0x0, 0x0, 0x0, 0x0, false⟩
def F.TIM_PORT_EVCOUNT_LATE_COUNT : Fld := ⟨R.TIM_PORT_EVCOUNT, 0, 8⟩
def F.TIM_PORT_EVCOUNT_FAR_COUNT : Fld := ⟨R.TIM_PORT_EVCOUNT, 8, 8⟩
def F.TIM_PORT_EVCOUNT_NO_PAD_COUNT : Fld := ⟨R.TIM_PORT_EVCOUNT, 16, 8⟩
def R.TIM_Q_LAUNCH : Reg := ⟨"TIM_Q_LAUNCH", 0x5020000, [(16384, 4)], fun _ => 0x0, 0xffffffff, 0x0, 0x0, 0x0, false⟩
def F.TIM_Q_LAUNCH_MODE : Fld := ⟨R.TIM_Q_LAUNCH, 0, 2⟩
def F.TIM_Q_LAUNCH_OFFSET_NS : Fld := ⟨R.TIM_Q_LAUNCH, 2, 30⟩
def R.TIM_PORT_STAT_LO : Reg := ⟨"TIM_PORT_STAT_LO", 0x5030000, [(8, 8), (1024, 0x40)], fun _ => 0x0, 0x0, 0x0, 0x0, 0x0, false⟩
def F.TIM_PORT_STAT_LO_COUNT : Fld := ⟨R.TIM_PORT_STAT_LO, 0, 32⟩
def R.TIM_PORT_STAT_HI : Reg := ⟨"TIM_PORT_STAT_HI", 0x5030004, [(8, 8), (1024, 0x40)], fun _ => 0x0, 0x0, 0x0, 0x0, 0x0, false⟩
def F.TIM_PORT_STAT_HI_COUNT : Fld := ⟨R.TIM_PORT_STAT_HI, 0, 32⟩
def R.TIM_GATE_CFG : Reg := ⟨"TIM_GATE_CFG", 0x5040000, [(1024, 0x40)], fun _ => 0xffff0000, 0xffff0003, 0x0, 0x10, 0x0, false⟩
def F.TIM_GATE_CFG_GATE_EN : Fld := ⟨R.TIM_GATE_CFG, 0, 1⟩
def F.TIM_GATE_CFG_PHASE_EN : Fld := ⟨R.TIM_GATE_CFG, 1, 1⟩
def F.TIM_GATE_CFG_ACTIVE_BANK : Fld := ⟨R.TIM_GATE_CFG, 2, 1⟩
def F.TIM_GATE_CFG_CHANGE_PENDING : Fld := ⟨R.TIM_GATE_CFG, 3, 1⟩
def F.TIM_GATE_CFG_CHANGE : Fld := ⟨R.TIM_GATE_CFG, 4, 1⟩
def F.TIM_GATE_CFG_ADMIN_GATES : Fld := ⟨R.TIM_GATE_CFG, 16, 16⟩
def R.TIM_GATE_STATUS : Reg := ⟨"TIM_GATE_STATUS", 0x5040004, [(1024, 0x40)], fun _ => 0xffff0100, 0x0, 0x200, 0x0, 0x0, false⟩
def F.TIM_GATE_STATUS_ENTRY : Fld := ⟨R.TIM_GATE_STATUS, 0, 8⟩
def F.TIM_GATE_STATUS_FIT_CHECK : Fld := ⟨R.TIM_GATE_STATUS, 8, 1⟩
def F.TIM_GATE_STATUS_CHANGED : Fld := ⟨R.TIM_GATE_STATUS, 9, 1⟩
def F.TIM_GATE_STATUS_ACTIVE_WRITE_DROPS : Fld := ⟨R.TIM_GATE_STATUS, 10, 6⟩
def F.TIM_GATE_STATUS_GATES : Fld := ⟨R.TIM_GATE_STATUS, 16, 16⟩
def R.TIM_GATE_CHANGE : Reg := ⟨"TIM_GATE_CHANGE", 0x5040008, [(1024, 0x40)], fun _ => 0x0, 0x0, 0x0, 0x0, 0x0, false⟩
def F.TIM_GATE_CHANGE_VALUE : Fld := ⟨R.TIM_GATE_CHANGE, 0, 32⟩
def R.TIM_GATE_CYCLES : Reg := ⟨"TIM_GATE_CYCLES", 0x504000c, [(1024, 0x40)], fun _ => 0x0, 0x0, 0x0, 0x0, 0x0, false⟩
def F.TIM_GATE_CYCLES_VALUE : Fld := ⟨R.TIM_GATE_CYCLES, 0, 32⟩
def R.TIM_GATE_EVCOUNT : Reg := ⟨"TIM_GATE_EVCOUNT", 0x5040030, [(1024, 0x40)], fun _ => 0x0, 0x0, 0x0, 0x0, 0x0, false⟩
def F.TIM_GATE_EVCOUNT_CHANGED_COUNT : Fld := ⟨R.TIM_GATE_EVCOUNT, 0, 8⟩
def R.TIM_GATE_BASE_SEC_LO : Reg := ⟨"TIM_GATE_BASE_SEC_LO", 0x5040010, [(2, 0x10), (1024, 0x40)], fun _ => 0x0, 0xffffffff, 0x0, 0x0, 0x0, false⟩
def F.TIM_GATE_BASE_SEC_LO_VALUE : Fld := ⟨R.TIM_GATE_BASE_SEC_LO, 0, 32⟩
def R.TIM_GATE_BASE_SEC_HI : Reg := ⟨"TIM_GATE_BASE_SEC_HI", 0x5040014, [(2, 0x10), (1024, 0x40)], fun _ => 0x0, 0xffffffff, 0x0, 0x0, 0x0, false⟩
def F.TIM_GATE_BASE_SEC_HI_VALUE : Fld := ⟨R.TIM_GATE_BASE_SEC_HI, 0, 32⟩
def R.TIM_GATE_BASE_NS : Reg := ⟨"TIM_GATE_BASE_NS", 0x5040018, [(2, 0x10), (1024, 0x40)], fun _ => 0x0, 0xffffffff, 0x0, 0x0, 0x0, false⟩
def F.TIM_GATE_BASE_NS_VALUE : Fld := ⟨R.TIM_GATE_BASE_NS, 0, 32⟩
def R.TIM_GATE_CYCLE_NS : Reg := ⟨"TIM_GATE_CYCLE_NS", 0x504001c, [(2, 0x10), (1024, 0x40)], fun _ => 0x0, 0xffffffff, 0x0, 0x0, 0x0, false⟩
def F.TIM_GATE_CYCLE_NS_VALUE : Fld := ⟨R.TIM_GATE_CYCLE_NS, 0, 32⟩
def R.CTH_CFG : Reg := ⟨"CTH_CFG", 0x40000000, [(1, 0)], fun _ => 0x0, 0x1fffffff, 0x0, 0x0, 0x0, false⟩
def F.CTH_CFG_UDP_PORT : Fld := ⟨R.CTH_CFG, 0, 16⟩
def F.CTH_CFG_IP_SLOT : Fld := ⟨R.CTH_CFG, 16, 4⟩
def F.CTH_CFG_UDP_SLOT : Fld := ⟨R.CTH_CFG, 20, 4⟩
def F.CTH_CFG_RESULT_POOL : Fld := ⟨R.CTH_CFG, 24, 5⟩
def R.CTH_ADDR4 : Reg := ⟨"CTH_ADDR4", 0x40000004, [(1, 0)], fun _ => 0x0, 0xffffffff, 0x0, 0x0, 0x0, false⟩
def F.CTH_ADDR4_VALUE : Fld := ⟨R.CTH_ADDR4, 0, 32⟩
def R.CTH_MAC_LO : Reg := ⟨"CTH_MAC_LO", 0x40000008, [(1, 0)], fun _ => 0x0, 0xffffffff, 0x0, 0x0, 0x0, false⟩
def F.CTH_MAC_LO_VALUE : Fld := ⟨R.CTH_MAC_LO, 0, 32⟩
def R.CTH_MAC_HI : Reg := ⟨"CTH_MAC_HI", 0x4000000c, [(1, 0)], fun _ => 0xc0000, 0xfffff, 0x0, 0x0, 0x0, false⟩
def F.CTH_MAC_HI_MAC : Fld := ⟨R.CTH_MAC_HI, 0, 16⟩
def F.CTH_MAC_HI_ERROR_QUEUE : Fld := ⟨R.CTH_MAC_HI, 16, 4⟩
def R.CTH_ADDR6 : Reg := ⟨"CTH_ADDR6", 0x40000010, [(4, 4)], fun _ => 0x0, 0xffffffff, 0x0, 0x0, 0x0, false⟩
def F.CTH_ADDR6_BYTES : Fld := ⟨R.CTH_ADDR6, 0, 32⟩
def R.CTH_DIE_STATUS : Reg := ⟨"CTH_DIE_STATUS", 0x40000100, [(2, 0x40)], fun _ => 0x20005f0, 0x0, 0x0, 0x0, 0x0, false⟩
def F.CTH_DIE_STATUS_FREE_PAGES : Fld := ⟨R.CTH_DIE_STATUS, 0, 11⟩
def F.CTH_DIE_STATUS_FREE_UNITS : Fld := ⟨R.CTH_DIE_STATUS, 16, 10⟩
def F.CTH_DIE_STATUS_THROTTLE : Fld := ⟨R.CTH_DIE_STATUS, 26, 3⟩
def R.CTH_SYN_CFG : Reg := ⟨"CTH_SYN_CFG", 0x40010000, [(256, 0x100)], fun _ => 0xc0400, 0xffe01, 0x0, 0x0, 0x0, false⟩
def F.CTH_SYN_CFG_ENABLE : Fld := ⟨R.CTH_SYN_CFG, 0, 1⟩
def F.CTH_SYN_CFG_HOME : Fld := ⟨R.CTH_SYN_CFG, 1, 1⟩
def F.CTH_SYN_CFG_OP : Fld := ⟨R.CTH_SYN_CFG, 2, 2⟩
def F.CTH_SYN_CFG_ETYPE : Fld := ⟨R.CTH_SYN_CFG, 4, 4⟩
def F.CTH_SYN_CFG_WIDEN : Fld := ⟨R.CTH_SYN_CFG, 8, 1⟩
def F.CTH_SYN_CFG_LOCKSTEP : Fld := ⟨R.CTH_SYN_CFG, 9, 1⟩
def F.CTH_SYN_CFG_CHECK_SOURCE : Fld := ⟨R.CTH_SYN_CFG, 10, 1⟩
def F.CTH_SYN_CFG_ABORT_EN : Fld := ⟨R.CTH_SYN_CFG, 11, 1⟩
def F.CTH_SYN_CFG_PROFILE : Fld := ⟨R.CTH_SYN_CFG, 12, 4⟩
def F.CTH_SYN_CFG_RESULT_QUEUE : Fld := ⟨R.CTH_SYN_CFG, 16, 4⟩
def F.CTH_SYN_CFG_EXISTS : Fld := ⟨R.CTH_SYN_CFG, 20, 1⟩
def R.CTH_SYN_SIZE : Reg := ⟨"CTH_SYN_SIZE", 0x40010004, [(256, 0x100)], fun _ => 0x0, 0x0, 0x0, 0x0, 0x0, false⟩
def F.CTH_SYN_SIZE_MEMBERS : Fld := ⟨R.CTH_SYN_SIZE, 0, 11⟩
def F.CTH_SYN_SIZE_WINDOW : Fld := ⟨R.CTH_SYN_SIZE, 16, 7⟩
def R.CTH_SYN_LIMITS : Reg := ⟨"CTH_SYN_LIMITS", 0x40010008, [(256, 0x100)], fun _ => 0x0, 0x0, 0x0, 0x0, 0x0, false⟩
def F.CTH_SYN_LIMITS_MAX_COUNT : Fld := ⟨R.CTH_SYN_LIMITS, 0, 13⟩
def F.CTH_SYN_LIMITS_UNITS : Fld := ⟨R.CTH_SYN_LIMITS, 16, 10⟩
def R.CTH_SYN_TIMERS : Reg := ⟨"CTH_SYN_TIMERS", 0x4001000c, [(256, 0x100)], fun _ => 0x3e80064, 0xffffffff, 0x0, 0x0, 0x0, false⟩
def F.CTH_SYN_TIMERS_STRAGGLER_US : Fld := ⟨R.CTH_SYN_TIMERS, 0, 16⟩
def F.CTH_SYN_TIMERS_ABORT_US : Fld := ⟨R.CTH_SYN_TIMERS, 16, 16⟩
def R.CTH_SYN_BASE : Reg := ⟨"CTH_SYN_BASE", 0x40010010, [(256, 0x100)], fun _ => 0x0, 0x0, 0x0, 0x0, 0x0, false⟩
def F.CTH_SYN_BASE_BASE : Fld := ⟨R.CTH_SYN_BASE, 0, 32⟩
def R.CTH_SYN_STATUS : Reg := ⟨"CTH_SYN_STATUS", 0x40010014, [(256, 0x100)], fun _ => 0x0, 0x0, 0x700, 0x0, 0x0, false⟩
def F.CTH_SYN_STATUS_OPEN : Fld := ⟨R.CTH_SYN_STATUS, 0, 7⟩
def F.CTH_SYN_STATUS_STRAGGLER : Fld := ⟨R.CTH_SYN_STATUS, 8, 1⟩
def F.CTH_SYN_STATUS_ERROR : Fld := ⟨R.CTH_SYN_STATUS, 9, 1⟩
def F.CTH_SYN_STATUS_ABORTED : Fld := ⟨R.CTH_SYN_STATUS, 10, 1⟩
def F.CTH_SYN_STATUS_STRAGGLER_COUNT : Fld := ⟨R.CTH_SYN_STATUS, 16, 8⟩
def F.CTH_SYN_STATUS_ERROR_COUNT : Fld := ⟨R.CTH_SYN_STATUS, 24, 8⟩
def R.CTH_SYN_STRAG_CHUNK : Reg := ⟨"CTH_SYN_STRAG_CHUNK", 0x40010018, [(256, 0x100)], fun _ => 0x0, 0x0, 0x0, 0x0, 0x0, false⟩
def F.CTH_SYN_STRAG_CHUNK_VALUE : Fld := ⟨R.CTH_SYN_STRAG_CHUNK, 0, 32⟩
def R.CTH_SYN_STRAG_MEMBER : Reg := ⟨"CTH_SYN_STRAG_MEMBER", 0x4001001c, [(256, 0x100)], fun _ => 0x0, 0x0, 0x0, 0x0, 0x0, false⟩
def F.CTH_SYN_STRAG_MEMBER_VALUE : Fld := ⟨R.CTH_SYN_STRAG_MEMBER, 0, 32⟩
def R.CTH_SYN_PLACE : Reg := ⟨"CTH_SYN_PLACE", 0x40010020, [(256, 0x100)], fun _ => 0x0, 0x0, 0x0, 0x0, 0x0, false⟩
def F.CTH_SYN_PLACE_UNIT_BASE : Fld := ⟨R.CTH_SYN_PLACE, 0, 9⟩
def F.CTH_SYN_PLACE_PAGE_BASE : Fld := ⟨R.CTH_SYN_PLACE, 16, 11⟩
def R.CTH_SYN_STAT_LO : Reg := ⟨"CTH_SYN_STAT_LO", 0x40010040, [(8, 8), (256, 0x100)], fun _ => 0x0, 0x0, 0x0, 0x0, 0x0, false⟩
def F.CTH_SYN_STAT_LO_COUNT : Fld := ⟨R.CTH_SYN_STAT_LO, 0, 32⟩
def R.CTH_SYN_STAT_HI : Reg := ⟨"CTH_SYN_STAT_HI", 0x40010044, [(8, 8), (256, 0x100)], fun _ => 0x0, 0x0, 0x0, 0x0, 0x0, false⟩
def F.CTH_SYN_STAT_HI_COUNT : Fld := ⟨R.CTH_SYN_STAT_HI, 0, 32⟩
def R.CTH_GSTAT_LO : Reg := ⟨"CTH_GSTAT_LO", 0x40000400, [(8, 8)], fun _ => 0x0, 0x0, 0x0, 0x0, 0x0, false⟩
def F.CTH_GSTAT_LO_COUNT : Fld := ⟨R.CTH_GSTAT_LO, 0, 32⟩
def R.CTH_GSTAT_HI : Reg := ⟨"CTH_GSTAT_HI", 0x40000404, [(8, 8)], fun _ => 0x0, 0x0, 0x0, 0x0, 0x0, false⟩
def F.CTH_GSTAT_HI_COUNT : Fld := ⟨R.CTH_GSTAT_HI, 0, 32⟩
def R.DMA_GLOBAL : Reg := ⟨"DMA_GLOBAL", 0x6000000, [(1, 0)], fun _ => 0x32, 0xffff, 0x0, 0x0, 0x0, false⟩
def F.DMA_GLOBAL_CPL_TIMEOUT_US : Fld := ⟨R.DMA_GLOBAL, 0, 16⟩
def R.DMA_PCIE_STATUS : Reg := ⟨"DMA_PCIE_STATUS", 0x6000004, [(1, 0)], fun _ => 0x0, 0x0, 0x200, 0x0, 0x0, false⟩
def F.DMA_PCIE_STATUS_SPEED : Fld := ⟨R.DMA_PCIE_STATUS, 0, 2⟩
def F.DMA_PCIE_STATUS_FLIT : Fld := ⟨R.DMA_PCIE_STATUS, 2, 1⟩
def F.DMA_PCIE_STATUS_BME : Fld := ⟨R.DMA_PCIE_STATUS, 3, 1⟩
def F.DMA_PCIE_STATUS_WIDTH : Fld := ⟨R.DMA_PCIE_STATUS, 4, 4⟩
def F.DMA_PCIE_STATUS_LINK_UP : Fld := ⟨R.DMA_PCIE_STATUS, 8, 1⟩
def F.DMA_PCIE_STATUS_LINK_DOWN : Fld := ⟨R.DMA_PCIE_STATUS, 9, 1⟩
def F.DMA_PCIE_STATUS_MPS : Fld := ⟨R.DMA_PCIE_STATUS, 10, 2⟩
def F.DMA_PCIE_STATUS_LINK_DOWN_COUNT : Fld := ⟨R.DMA_PCIE_STATUS, 16, 8⟩
def R.DMA_CH_CFG : Reg := ⟨"DMA_CH_CFG", 0x6010000, [(32, 0x100)], fun i => 0x80080 + (if 28 ≤ i then 1 else 0) + ((if 28 ≤ i then 3 else 0) <<< 1) + ((if 28 ≤ i then 0 else 2) <<< 3) + ((8 + i) <<< 24), 0xff1f03ff, 0x0, 0x0, 0x0, false⟩
def F.DMA_CH_CFG_ENABLE : Fld := ⟨R.DMA_CH_CFG, 0, 1⟩
def F.DMA_CH_CFG_ROLE : Fld := ⟨R.DMA_CH_CFG, 1, 2⟩
def F.DMA_CH_CFG_PRIORITY : Fld := ⟨R.DMA_CH_CFG, 3, 2⟩
def F.DMA_CH_CFG_MAX_BURST : Fld := ⟨R.DMA_CH_CFG, 5, 3⟩
def F.DMA_CH_CFG_ERR_ACTION : Fld := ⟨R.DMA_CH_CFG, 8, 1⟩
def F.DMA_CH_CFG_IRQ_EN : Fld := ⟨R.DMA_CH_CFG, 9, 1⟩
def F.DMA_CH_CFG_SIZE_LOG2 : Fld := ⟨R.DMA_CH_CFG, 16, 5⟩
def F.DMA_CH_CFG_VECTOR : Fld := ⟨R.DMA_CH_CFG, 24, 8⟩
def R.DMA_CH_BASE_LO : Reg := ⟨"DMA_CH_BASE_LO", 0x6010004, [(32, 0x100)], fun _ => 0x0, 0xffffffff, 0x0, 0x0, 0x0, false⟩
def F.DMA_CH_BASE_LO_ADDR : Fld := ⟨R.DMA_CH_BASE_LO, 0, 32⟩
def R.DMA_CH_BASE_HI : Reg := ⟨"DMA_CH_BASE_HI", 0x6010008, [(32, 0x100)], fun _ => 0x0, 0xffffffff, 0x0, 0x0, 0x0, false⟩
def F.DMA_CH_BASE_HI_ADDR : Fld := ⟨R.DMA_CH_BASE_HI, 0, 32⟩
def R.DMA_CH_HEAD_LO : Reg := ⟨"DMA_CH_HEAD_LO", 0x601000c, [(32, 0x100)], fun _ => 0x0, 0x0, 0x0, 0x0, 0x0, false⟩
def F.DMA_CH_HEAD_LO_ADDR : Fld := ⟨R.DMA_CH_HEAD_LO, 0, 32⟩
def R.DMA_CH_HEAD_HI : Reg := ⟨"DMA_CH_HEAD_HI", 0x6010010, [(32, 0x100)], fun _ => 0x0, 0x0, 0x0, 0x0, 0x0, false⟩
def F.DMA_CH_HEAD_HI_ADDR : Fld := ⟨R.DMA_CH_HEAD_HI, 0, 32⟩
def R.DMA_CH_COUNT : Reg := ⟨"DMA_CH_COUNT", 0x6010014, [(32, 0x100)], fun _ => 0x0, 0x0, 0x0, 0x0, 0x0, false⟩
def F.DMA_CH_COUNT_POSTED : Fld := ⟨R.DMA_CH_COUNT, 0, 16⟩
def F.DMA_CH_COUNT_CONSUMED : Fld := ⟨R.DMA_CH_COUNT, 16, 16⟩
def R.DMA_CH_STATUS : Reg := ⟨"DMA_CH_STATUS", 0x6010018, [(32, 0x100)], fun _ => 0x0, 0x0, 0x1f0000, 0x0, 0x0, false⟩
def F.DMA_CH_STATUS_STATE : Fld := ⟨R.DMA_CH_STATUS, 0, 3⟩
def F.DMA_CH_STATUS_LAST_STATUS : Fld := ⟨R.DMA_CH_STATUS, 8, 8⟩
def F.DMA_CH_STATUS_ERROR : Fld := ⟨R.DMA_CH_STATUS, 16, 1⟩
def F.DMA_CH_STATUS_WB_FAIL : Fld := ⟨R.DMA_CH_STATUS, 17, 1⟩
def F.DMA_CH_STATUS_ABORT_DONE : Fld := ⟨R.DMA_CH_STATUS, 18, 1⟩
def F.DMA_CH_STATUS_LOOP : Fld := ⟨R.DMA_CH_STATUS, 19, 1⟩
def F.DMA_CH_STATUS_DB_ERR : Fld := ⟨R.DMA_CH_STATUS, 20, 1⟩
def F.DMA_CH_STATUS_DB_ERR_COUNT : Fld := ⟨R.DMA_CH_STATUS, 24, 8⟩
def R.DMA_CH_EVCOUNT : Reg := ⟨"DMA_CH_EVCOUNT", 0x601001c, [(32, 0x100)], fun _ => 0x0, 0x0, 0x0, 0x0, 0x0, false⟩
def F.DMA_CH_EVCOUNT_ERROR_COUNT : Fld := ⟨R.DMA_CH_EVCOUNT, 0, 8⟩
def F.DMA_CH_EVCOUNT_WB_FAIL_COUNT : Fld := ⟨R.DMA_CH_EVCOUNT, 8, 8⟩
def F.DMA_CH_EVCOUNT_ABORT_COUNT : Fld := ⟨R.DMA_CH_EVCOUNT, 16, 8⟩
def F.DMA_CH_EVCOUNT_LOOP_COUNT : Fld := ⟨R.DMA_CH_EVCOUNT, 24, 8⟩
def R.DMA_CH_RESIDUE : Reg := ⟨"DMA_CH_RESIDUE", 0x6010020, [(32, 0x100)], fun _ => 0x0, 0x0, 0x0, 0x0, 0x0, false⟩
def F.DMA_CH_RESIDUE_RESIDUE : Fld := ⟨R.DMA_CH_RESIDUE, 0, 24⟩
def F.DMA_CH_RESIDUE_LINKS : Fld := ⟨R.DMA_CH_RESIDUE, 24, 6⟩
def R.DMA_CH_ERR_ADDR_LO : Reg := ⟨"DMA_CH_ERR_ADDR_LO", 0x6010024, [(32, 0x100)], fun _ => 0x0, 0x0, 0x0, 0x0, 0x0, false⟩
def F.DMA_CH_ERR_ADDR_LO_ADDR : Fld := ⟨R.DMA_CH_ERR_ADDR_LO, 0, 32⟩
def R.DMA_CH_ERR_ADDR_HI : Reg := ⟨"DMA_CH_ERR_ADDR_HI", 0x6010028, [(32, 0x100)], fun _ => 0x0, 0x0, 0x0, 0x0, 0x0, false⟩
def F.DMA_CH_ERR_ADDR_HI_ADDR : Fld := ⟨R.DMA_CH_ERR_ADDR_HI, 0, 32⟩
def R.DMA_CH_HOLDOFF : Reg := ⟨"DMA_CH_HOLDOFF", 0x601002c, [(32, 0x100)], fun _ => 0x0, 0x3ff, 0x0, 0x0, 0x0, false⟩
def F.DMA_CH_HOLDOFF_HOLDOFF_US : Fld := ⟨R.DMA_CH_HOLDOFF, 0, 10⟩
def R.DMA_CH_INJ_RATE : Reg := ⟨"DMA_CH_INJ_RATE", 0x6010030, [(32, 0x100)], fun _ => 0x3b9aca0, 0x3ffffff, 0x0, 0x0, 0x0, false⟩
def F.DMA_CH_INJ_RATE_VALUE : Fld := ⟨R.DMA_CH_INJ_RATE, 0, 26⟩
def R.DMA_CH_INJ_BURST : Reg := ⟨"DMA_CH_INJ_BURST", 0x6010034, [(32, 0x100)], fun _ => 0x10000, 0xffffff, 0x0, 0x0, 0x0, false⟩
def F.DMA_CH_INJ_BURST_VALUE : Fld := ⟨R.DMA_CH_INJ_BURST, 0, 24⟩
def R.DMA_CH_INJ_TOKENS : Reg := ⟨"DMA_CH_INJ_TOKENS", 0x6010038, [(32, 0x100)], fun _ => 0x0, 0x0, 0x0, 0x0, 0x0, false⟩
def F.DMA_CH_INJ_TOKENS_VALUE : Fld := ⟨R.DMA_CH_INJ_TOKENS, 0, 32⟩
def R.DMA_CH_DESC : Reg := ⟨"DMA_CH_DESC", 0x6010040, [(8, 4), (32, 0x100)], fun _ => 0x0, 0x0, 0x0, 0x0, 0x0, false⟩
def F.DMA_CH_DESC_WORD : Fld := ⟨R.DMA_CH_DESC, 0, 32⟩
def R.DMA_CH_STAT_LO : Reg := ⟨"DMA_CH_STAT_LO", 0x6010080, [(8, 8), (32, 0x100)], fun _ => 0x0, 0x0, 0x0, 0x0, 0x0, false⟩
def F.DMA_CH_STAT_LO_COUNT : Fld := ⟨R.DMA_CH_STAT_LO, 0, 32⟩
def R.DMA_CH_STAT_HI : Reg := ⟨"DMA_CH_STAT_HI", 0x6010084, [(8, 8), (32, 0x100)], fun _ => 0x0, 0x0, 0x0, 0x0, 0x0, false⟩
def F.DMA_CH_STAT_HI_COUNT : Fld := ⟨R.DMA_CH_STAT_HI, 0, 32⟩
def R.DMA_HOSTQ_CFG : Reg := ⟨"DMA_HOSTQ_CFG", 0x6400000, [(64, 0x10)], fun _ => 0x0, 0xffff001f, 0x0, 0x0, 0x0, false⟩
def F.DMA_HOSTQ_CFG_CHANNEL : Fld := ⟨R.DMA_HOSTQ_CFG, 0, 5⟩
def F.DMA_HOSTQ_CFG_DEPTH_LIMIT : Fld := ⟨R.DMA_HOSTQ_CFG, 16, 16⟩
def R.DMA_HOSTQ_STATUS : Reg := ⟨"DMA_HOSTQ_STATUS", 0x6400004, [(64, 0x10)], fun _ => 0x0, 0x0, 0x100000, 0x0, 0x0, false⟩
def F.DMA_HOSTQ_STATUS_DEPTH : Fld := ⟨R.DMA_HOSTQ_STATUS, 0, 20⟩
def F.DMA_HOSTQ_STATUS_DROP : Fld := ⟨R.DMA_HOSTQ_STATUS, 20, 1⟩
def F.DMA_HOSTQ_STATUS_DROP_COUNT : Fld := ⟨R.DMA_HOSTQ_STATUS, 24, 8⟩
def R.DMA_HOSTQ_DROPS_LO : Reg := ⟨"DMA_HOSTQ_DROPS_LO", 0x6400008, [(64, 0x10)], fun _ => 0x0, 0x0, 0x0, 0x0, 0x0, false⟩
def F.DMA_HOSTQ_DROPS_LO_COUNT : Fld := ⟨R.DMA_HOSTQ_DROPS_LO, 0, 32⟩
def R.DMA_HOSTQ_DROPS_HI : Reg := ⟨"DMA_HOSTQ_DROPS_HI", 0x640000c, [(64, 0x10)], fun _ => 0x0, 0x0, 0x0, 0x0, 0x0, false⟩
def F.DMA_HOSTQ_DROPS_HI_COUNT : Fld := ⟨R.DMA_HOSTQ_DROPS_HI, 0, 32⟩
def R.DMA_DOORBELL : Reg := ⟨"DMA_DOORBELL", 0x201000000, [(32, 0x1000)], fun _ => 0x0, 0xffff, 0x0, 0x0, 0x0, false⟩
def F.DMA_DOORBELL_POSTED : Fld := ⟨R.DMA_DOORBELL, 0, 16⟩
def R.DMA_CH_CMD : Reg := ⟨"DMA_CH_CMD", 0x201000004, [(32, 0x1000)], fun _ => 0x0, 0x0, 0x0, 0x3, 0x0, false⟩
def F.DMA_CH_CMD_START : Fld := ⟨R.DMA_CH_CMD, 0, 1⟩
def F.DMA_CH_CMD_ABORT : Fld := ⟨R.DMA_CH_CMD, 1, 1⟩
def R.TLY_STATUS : Reg := ⟨"TLY_STATUS", 0x8000000, [(1, 0)], fun _ => 0x0, 0x0, 0x1, 0x0, 0x0, false⟩
def F.TLY_STATUS_STORE_ERR : Fld := ⟨R.TLY_STATUS, 0, 1⟩
def F.TLY_STATUS_STORE_ERR_COUNT : Fld := ⟨R.TLY_STATUS, 8, 8⟩
def F.TLY_STATUS_MIRROR_PASSES : Fld := ⟨R.TLY_STATUS, 16, 16⟩
def R.TLY_BOOK_CFG : Reg := ⟨"TLY_BOOK_CFG", 0x8000010, [(1, 0)], fun _ => 0x0, 0x3f, 0x0, 0x0, 0x0, false⟩
def F.TLY_BOOK_CFG_SECTIONS : Fld := ⟨R.TLY_BOOK_CFG, 0, 6⟩
def R.TLY_BOOK_BUF_LO : Reg := ⟨"TLY_BOOK_BUF_LO", 0x8000014, [(2, 8)], fun _ => 0x0, 0xffffffff, 0x0, 0x0, 0x0, false⟩
def F.TLY_BOOK_BUF_LO_ADDR : Fld := ⟨R.TLY_BOOK_BUF_LO, 0, 32⟩
def R.TLY_BOOK_BUF_HI : Reg := ⟨"TLY_BOOK_BUF_HI", 0x8000018, [(2, 8)], fun _ => 0x0, 0xffffffff, 0x0, 0x0, 0x0, false⟩
def F.TLY_BOOK_BUF_HI_ADDR : Fld := ⟨R.TLY_BOOK_BUF_HI, 0, 32⟩
def R.TLY_BOOK_STATUS : Reg := ⟨"TLY_BOOK_STATUS", 0x8000030, [(1, 0)], fun _ => 0x0, 0x0, 0x8, 0x0, 0x0, false⟩
def F.TLY_BOOK_STATUS_OPEN : Fld := ⟨R.TLY_BOOK_STATUS, 0, 2⟩
def F.TLY_BOOK_STATUS_DRAINING : Fld := ⟨R.TLY_BOOK_STATUS, 2, 1⟩
def F.TLY_BOOK_STATUS_MISSED : Fld := ⟨R.TLY_BOOK_STATUS, 3, 1⟩
def F.TLY_BOOK_STATUS_MISSED_COUNT : Fld := ⟨R.TLY_BOOK_STATUS, 8, 8⟩
def R.TLY_BOOK_NEXT_SEQ : Reg := ⟨"TLY_BOOK_NEXT_SEQ", 0x8000034, [(1, 0)], fun _ => 0x0, 0x0, 0x0, 0x0, 0x0, false⟩
def F.TLY_BOOK_NEXT_SEQ_SEQ : Fld := ⟨R.TLY_BOOK_NEXT_SEQ, 0, 32⟩
def R.TLY_BOOK_T_SEC_LO : Reg := ⟨"TLY_BOOK_T_SEC_LO", 0x8000040, [(2, 0x10)], fun _ => 0x0, 0x0, 0x0, 0x0, 0x0, false⟩
def F.TLY_BOOK_T_SEC_LO_VALUE : Fld := ⟨R.TLY_BOOK_T_SEC_LO, 0, 32⟩
def R.TLY_BOOK_T_SEC_HI : Reg := ⟨"TLY_BOOK_T_SEC_HI", 0x8000044, [(2, 0x10)], fun _ => 0x0, 0x0, 0x0, 0x0, 0x0, false⟩
def F.TLY_BOOK_T_SEC_HI_VALUE : Fld := ⟨R.TLY_BOOK_T_SEC_HI, 0, 32⟩
def R.TLY_BOOK_T_NS : Reg := ⟨"TLY_BOOK_T_NS", 0x8000048, [(2, 0x10)], fun _ => 0x0, 0x0, 0x0, 0x0, 0x0, false⟩
def F.TLY_BOOK_T_NS_VALUE : Fld := ⟨R.TLY_BOOK_T_NS, 0, 32⟩
def R.TLY_BOOK_SEQ : Reg := ⟨"TLY_BOOK_SEQ", 0x800004c, [(2, 0x10)], fun _ => 0x0, 0x0, 0x0, 0x0, 0x0, false⟩
def F.TLY_BOOK_SEQ_VALUE : Fld := ⟨R.TLY_BOOK_SEQ, 0, 32⟩
def R.TLY_SAMPLE_PROD : Reg := ⟨"TLY_SAMPLE_PROD", 0x8000100, [(2, 4)], fun _ => 0x0, 0x0, 0x0, 0x0, 0x0, false⟩
def F.TLY_SAMPLE_PROD_VALUE : Fld := ⟨R.TLY_SAMPLE_PROD, 0, 32⟩
def R.TLY_SAMPLE_LOST : Reg := ⟨"TLY_SAMPLE_LOST", 0x8000108, [(2, 4)], fun _ => 0x0, 0x0, 0x0, 0x0, 0x0, false⟩
def F.TLY_SAMPLE_LOST_VALUE : Fld := ⟨R.TLY_SAMPLE_LOST, 0, 32⟩
def R.TLY_UNIT_INFO : Reg := ⟨"TLY_UNIT_INFO", 0x8080000, [(448, 4)], fun i => 0x0 + (i / 32) + ((i % 32) <<< 4) + ((tlyUnitCounters i) <<< 10) + ((tlyUnitDomain i) <<< 16) + ((tlyUnitDie i) <<< 24), 0x0, 0x0, 0x0, 0x0, false⟩
def F.TLY_UNIT_INFO_KIND : Fld := ⟨R.TLY_UNIT_INFO, 0, 4⟩
def F.TLY_UNIT_INFO_INDEX : Fld := ⟨R.TLY_UNIT_INFO, 4, 5⟩
def F.TLY_UNIT_INFO_COUNTERS : Fld := ⟨R.TLY_UNIT_INFO, 10, 6⟩
def F.TLY_UNIT_INFO_DOMAIN : Fld := ⟨R.TLY_UNIT_INFO, 16, 5⟩
def F.TLY_UNIT_INFO_DIE : Fld := ⟨R.TLY_UNIT_INFO, 24, 4⟩
def R.TLY_CNT_SEL : Reg := ⟨"TLY_CNT_SEL", 0x8100000, [(48, 0x10), (448, 0x400)], fun _ => 0x0, 0x33f, 0x0, 0x800, 0x0, false⟩
def F.TLY_CNT_SEL_EVENT : Fld := ⟨R.TLY_CNT_SEL, 0, 6⟩
def F.TLY_CNT_SEL_LEVEL : Fld := ⟨R.TLY_CNT_SEL, 8, 1⟩
def F.TLY_CNT_SEL_ENABLE : Fld := ⟨R.TLY_CNT_SEL, 9, 1⟩
def F.TLY_CNT_SEL_SAT : Fld := ⟨R.TLY_CNT_SEL, 10, 1⟩
def F.TLY_CNT_SEL_CLEAR : Fld := ⟨R.TLY_CNT_SEL, 11, 1⟩
def R.TLY_CNT_LO : Reg := ⟨"TLY_CNT_LO", 0x8100004, [(48, 0x10), (448, 0x400)], fun _ => 0x0, 0x0, 0x0, 0x0, 0x0, false⟩
def F.TLY_CNT_LO_VALUE : Fld := ⟨R.TLY_CNT_LO, 0, 32⟩
def R.TLY_CNT_HI : Reg := ⟨"TLY_CNT_HI", 0x8100008, [(48, 0x10), (448, 0x400)], fun _ => 0x0, 0x0, 0x0, 0x0, 0x0, false⟩
def F.TLY_CNT_HI_VALUE : Fld := ⟨R.TLY_CNT_HI, 0, 32⟩
def R.MRG_CFG : Reg := ⟨"MRG_CFG", 0x48000000, [(1, 0)], fun _ => 0x0, 0xffff00f1, 0x0, 0x0, 0x0, false⟩
def F.MRG_CFG_ALL : Fld := ⟨R.MRG_CFG, 0, 1⟩
def F.MRG_CFG_IOAM_SLOT : Fld := ⟨R.MRG_CFG, 4, 4⟩
def F.MRG_CFG_IOAM_NS : Fld := ⟨R.MRG_CFG, 16, 16⟩
def R.MRG_NODE_ID : Reg := ⟨"MRG_NODE_ID", 0x48000004, [(1, 0)], fun _ => 0x0, 0xffffffff, 0x0, 0x0, 0x0, false⟩
def F.MRG_NODE_ID_NODE_ID : Fld := ⟨R.MRG_NODE_ID, 0, 32⟩
def R.MRG_PORT_CFG : Reg := ⟨"MRG_PORT_CFG", 0x48010000, [(1024, 4)], fun _ => 0x0, 0xffff003f, 0x0, 0x0, 0x0, false⟩
def F.MRG_PORT_CFG_SEL_IN : Fld := ⟨R.MRG_PORT_CFG, 0, 1⟩
def F.MRG_PORT_CFG_SEL_OUT : Fld := ⟨R.MRG_PORT_CFG, 1, 1⟩
def F.MRG_PORT_CFG_RECOGNISE : Fld := ⟨R.MRG_PORT_CFG, 2, 1⟩
def F.MRG_PORT_CFG_STRIP : Fld := ⟨R.MRG_PORT_CFG, 3, 1⟩
def F.MRG_PORT_CFG_FORM : Fld := ⟨R.MRG_PORT_CFG, 4, 2⟩
def F.MRG_PORT_CFG_SAMPLE_N : Fld := ⟨R.MRG_PORT_CFG, 16, 16⟩
def R.MRG_RULE_SEL : Reg := ⟨"MRG_RULE_SEL", 0x48020000, [(4096, 4)], fun _ => 0x0, 0xffffffff, 0x0, 0x0, 0x0, false⟩
def F.MRG_RULE_SEL_SEL : Fld := ⟨R.MRG_RULE_SEL, 0, 32⟩
def R.MRG_GSTAT_LO : Reg := ⟨"MRG_GSTAT_LO", 0x48000400, [(8, 8)], fun _ => 0x0, 0x0, 0x0, 0x0, 0x0, false⟩
def F.MRG_GSTAT_LO_COUNT : Fld := ⟨R.MRG_GSTAT_LO, 0, 32⟩
def R.MRG_GSTAT_HI : Reg := ⟨"MRG_GSTAT_HI", 0x48000404, [(8, 8)], fun _ => 0x0, 0x0, 0x0, 0x0, 0x0, false⟩
def F.MRG_GSTAT_HI_COUNT : Fld := ⟨R.MRG_GSTAT_HI, 0, 32⟩
def R.GOV_CAP_CFG : Reg := ⟨"GOV_CAP_CFG", 0x4000000, [(1, 0)], fun _ => 0xa1447, 0xfffffff7, 0x0, 0x0, 0x0, false⟩
def F.GOV_CAP_CFG_CAP_FLOOR_OP : Fld := ⟨R.GOV_CAP_CFG, 0, 3⟩
def F.GOV_CAP_CFG_GAIN : Fld := ⟨R.GOV_CAP_CFG, 4, 4⟩
def F.GOV_CAP_CFG_RELEASE_W : Fld := ⟨R.GOV_CAP_CFG, 8, 8⟩
def F.GOV_CAP_CFG_AVG_US : Fld := ⟨R.GOV_CAP_CFG, 16, 16⟩
def R.GOV_CAP : Reg := ⟨"GOV_CAP", 0x4000004, [(1, 0)], fun _ => 0x44c, 0x7ff, 0x0, 0x0, 0x0, false⟩
def F.GOV_CAP_CAP_W : Fld := ⟨R.GOV_CAP, 0, 11⟩
def R.GOV_CAP_STATUS : Reg := ⟨"GOV_CAP_STATUS", 0x4000008, [(1, 0)], fun _ => 0x0, 0x0, 0x600, 0x0, 0x0, false⟩
def F.GOV_CAP_STATUS_LEVEL : Fld := ⟨R.GOV_CAP_STATUS, 0, 7⟩
def F.GOV_CAP_STATUS_ENGAGED : Fld := ⟨R.GOV_CAP_STATUS, 7, 1⟩
def F.GOV_CAP_STATUS_UNREACHABLE : Fld := ⟨R.GOV_CAP_STATUS, 8, 1⟩
def F.GOV_CAP_STATUS_ENGAGE_SET : Fld := ⟨R.GOV_CAP_STATUS, 9, 1⟩
def F.GOV_CAP_STATUS_UNREACH_SET : Fld := ⟨R.GOV_CAP_STATUS, 10, 1⟩
def F.GOV_CAP_STATUS_ENGAGE_COUNT : Fld := ⟨R.GOV_CAP_STATUS, 16, 8⟩
def F.GOV_CAP_STATUS_UNREACH_COUNT : Fld := ⟨R.GOV_CAP_STATUS, 24, 8⟩
def R.GOV_POWER : Reg := ⟨"GOV_POWER", 0x400000c, [(1, 0)], fun _ => 0x0, 0x0, 0x0, 0x0, 0x0, false⟩
def F.GOV_POWER_EST_W : Fld := ⟨R.GOV_POWER, 0, 16⟩
def F.GOV_POWER_DEBIT_NJ : Fld := ⟨R.GOV_POWER, 16, 16⟩
def R.GOV_BUDGET : Reg := ⟨"GOV_BUDGET", 0x4000010, [(1, 0)], fun _ => 0x0, 0x0, 0x0, 0x0, 0x0, false⟩
def F.GOV_BUDGET_BUDGET_NJ : Fld := ⟨R.GOV_BUDGET, 0, 24⟩
def R.GOV_DROOP_CFG : Reg := ⟨"GOV_DROOP_CFG", 0x4000014, [(1, 0)], fun _ => 0x102028, 0xfff13f, 0x0, 0x0, 0x0, false⟩
def F.GOV_DROOP_CFG_THRESHOLD_MV : Fld := ⟨R.GOV_DROOP_CFG, 0, 6⟩
def F.GOV_DROOP_CFG_STRETCH : Fld := ⟨R.GOV_DROOP_CFG, 8, 1⟩
def F.GOV_DROOP_CFG_HOLD : Fld := ⟨R.GOV_DROOP_CFG, 12, 4⟩
def F.GOV_DROOP_CFG_STEP_COUNT : Fld := ⟨R.GOV_DROOP_CFG, 16, 8⟩
def R.GOV_THERM_CFG : Reg := ⟨"GOV_THERM_CFG", 0x4000018, [(1, 0)], fun _ => 0x3e80064, 0xffffffff, 0x0, 0x0, 0x0, false⟩
def F.GOV_THERM_CFG_STEP_US : Fld := ⟨R.GOV_THERM_CFG, 0, 16⟩
def F.GOV_THERM_CFG_RELEASE_US : Fld := ⟨R.GOV_THERM_CFG, 16, 16⟩
def R.GOV_PMBUS_CFG : Reg := ⟨"GOV_PMBUS_CFG", 0x400001c, [(1, 0)], fun _ => 0x0, 0xff01, 0x2, 0x0, 0x0, false⟩
def F.GOV_PMBUS_CFG_ENABLE : Fld := ⟨R.GOV_PMBUS_CFG, 0, 1⟩
def F.GOV_PMBUS_CFG_FAULT : Fld := ⟨R.GOV_PMBUS_CFG, 1, 1⟩
def F.GOV_PMBUS_CFG_RAILS : Fld := ⟨R.GOV_PMBUS_CFG, 8, 8⟩
def F.GOV_PMBUS_CFG_FAULT_COUNT : Fld := ⟨R.GOV_PMBUS_CFG, 24, 8⟩
def R.GOV_TRIP_STATUS : Reg := ⟨"GOV_TRIP_STATUS", 0x4000020, [(1, 0)], fun _ => 0x0, 0x0, 0x0, 0x0, 0x0, true⟩
def F.GOV_TRIP_STATUS_SENSOR : Fld := ⟨R.GOV_TRIP_STATUS, 0, 9⟩
def F.GOV_TRIP_STATUS_TRIPPED : Fld := ⟨R.GOV_TRIP_STATUS, 9, 1⟩
def F.GOV_TRIP_STATUS_COOL : Fld := ⟨R.GOV_TRIP_STATUS, 10, 1⟩
def F.GOV_TRIP_STATUS_COOL_MS : Fld := ⟨R.GOV_TRIP_STATUS, 16, 11⟩
def R.GOV_OP_POINT : Reg := ⟨"GOV_OP_POINT", 0x4000040, [(8, 4)], fun i => 0x0 + (govPointM i) + ((govPointMv i) <<< 8), 0x0, 0x0, 0x0, 0x0, false⟩
def F.GOV_OP_POINT_M : Fld := ⟨R.GOV_OP_POINT, 0, 5⟩
def F.GOV_OP_POINT_MV : Fld := ⟨R.GOV_OP_POINT, 8, 10⟩
def R.GOV_DIE_OP : Reg := ⟨"GOV_DIE_OP", 0x4000100, [(10, 0x40)], fun _ => 0x0, 0x0, 0x0, 0x0, 0x0, false⟩
def F.GOV_DIE_OP_DEMAND : Fld := ⟨R.GOV_DIE_OP, 0, 3⟩
def F.GOV_DIE_OP_THERM_LIMIT : Fld := ⟨R.GOV_DIE_OP, 4, 3⟩
def F.GOV_DIE_OP_CAP_LIMIT : Fld := ⟨R.GOV_DIE_OP, 8, 3⟩
def F.GOV_DIE_OP_DROOP_LIMIT : Fld := ⟨R.GOV_DIE_OP, 12, 3⟩
def F.GOV_DIE_OP_TARGET : Fld := ⟨R.GOV_DIE_OP, 16, 3⟩
def F.GOV_DIE_OP_IN_FORCE : Fld := ⟨R.GOV_DIE_OP, 20, 3⟩
def F.GOV_DIE_OP_STEPPING : Fld := ⟨R.GOV_DIE_OP, 23, 1⟩
def F.GOV_DIE_OP_REASONS : Fld := ⟨R.GOV_DIE_OP, 24, 7⟩
def R.GOV_DIE_SEL : Reg := ⟨"GOV_DIE_SEL", 0x4000104, [(10, 0x40)], fun _ => 0x0, 0xf, 0x0, 0x0, 0x0, false⟩
def F.GOV_DIE_SEL_HOST_PROFILE : Fld := ⟨R.GOV_DIE_SEL, 0, 4⟩
def F.GOV_DIE_SEL_LOCKSTEP_PROFILE : Fld := ⟨R.GOV_DIE_SEL, 4, 4⟩
def F.GOV_DIE_SEL_LOCKSTEP : Fld := ⟨R.GOV_DIE_SEL, 8, 1⟩
def R.GOV_DIE_POWER : Reg := ⟨"GOV_DIE_POWER", 0x4000108, [(10, 0x40)], fun _ => 0x0, 0x0, 0x0, 0x0, 0x0, false⟩
def F.GOV_DIE_POWER_EST_W : Fld := ⟨R.GOV_DIE_POWER, 0, 16⟩
def F.GOV_DIE_POWER_TEMP : Fld := ⟨R.GOV_DIE_POWER, 16, 12⟩
def R.GOV_DIE_DROOP : Reg := ⟨"GOV_DIE_DROOP", 0x400010c, [(10, 0x40)], fun _ => 0x0, 0x0, 0x0, 0x0, 0xffffffff, false⟩
def F.GOV_DIE_DROOP_DROOPS : Fld := ⟨R.GOV_DIE_DROOP, 0, 16⟩
def F.GOV_DIE_DROOP_STRETCH_DENIED : Fld := ⟨R.GOV_DIE_DROOP, 16, 16⟩
def R.GOV_DIE_STEPS : Reg := ⟨"GOV_DIE_STEPS", 0x4000110, [(10, 0x40)], fun _ => 0x0, 0x0, 0x0, 0x0, 0x0, false⟩
def F.GOV_DIE_STEPS_STEPS : Fld := ⟨R.GOV_DIE_STEPS, 0, 16⟩
def F.GOV_DIE_STEPS_DEFERRED : Fld := ⟨R.GOV_DIE_STEPS, 16, 16⟩
def R.GOV_REASON_US : Reg := ⟨"GOV_REASON_US", 0x4000400, [(7, 8), (10, 0x40)], fun _ => 0x0, 0x0, 0x0, 0x0, 0x0, false⟩
def F.GOV_REASON_US_VALUE : Fld := ⟨R.GOV_REASON_US, 0, 32⟩
def R.GOV_REASON_LAST : Reg := ⟨"GOV_REASON_LAST", 0x4000404, [(7, 8), (10, 0x40)], fun _ => 0x0, 0x0, 0x0, 0x0, 0x0, false⟩
def F.GOV_REASON_LAST_VALUE : Fld := ⟨R.GOV_REASON_LAST, 0, 32⟩
def R.GOV_ZONE_LIMIT : Reg := ⟨"GOV_ZONE_LIMIT", 0x4000800, [(48, 0x10)], fun _ => 0x3807a6e, 0xfffffff, 0x0, 0x0, 0x0, false⟩
def F.GOV_ZONE_LIMIT_WARN : Fld := ⟨R.GOV_ZONE_LIMIT, 0, 8⟩
def F.GOV_ZONE_LIMIT_THROTTLE : Fld := ⟨R.GOV_ZONE_LIMIT, 8, 8⟩
def F.GOV_ZONE_LIMIT_CRITICAL : Fld := ⟨R.GOV_ZONE_LIMIT, 16, 8⟩
def F.GOV_ZONE_LIMIT_HYST : Fld := ⟨R.GOV_ZONE_LIMIT, 24, 4⟩
def R.GOV_ZONE_STATUS : Reg := ⟨"GOV_ZONE_STATUS", 0x4000804, [(48, 0x10)], fun _ => 0x200000, 0x0, 0x38000, 0x0, 0x0, false⟩
def F.GOV_ZONE_STATUS_TEMP : Fld := ⟨R.GOV_ZONE_STATUS, 0, 12⟩
def F.GOV_ZONE_STATUS_ABOVE_WARN : Fld := ⟨R.GOV_ZONE_STATUS, 12, 1⟩
def F.GOV_ZONE_STATUS_ABOVE_THROTTLE : Fld := ⟨R.GOV_ZONE_STATUS, 13, 1⟩
def F.GOV_ZONE_STATUS_ABOVE_CRITICAL : Fld := ⟨R.GOV_ZONE_STATUS, 14, 1⟩
def F.GOV_ZONE_STATUS_WARN_SET : Fld := ⟨R.GOV_ZONE_STATUS, 15, 1⟩
def F.GOV_ZONE_STATUS_THROTTLE_SET : Fld := ⟨R.GOV_ZONE_STATUS, 16, 1⟩
def F.GOV_ZONE_STATUS_CRITICAL_SET : Fld := ⟨R.GOV_ZONE_STATUS, 17, 1⟩
def F.GOV_ZONE_STATUS_GOOD : Fld := ⟨R.GOV_ZONE_STATUS, 18, 4⟩
def R.GOV_ZONE_COUNT : Reg := ⟨"GOV_ZONE_COUNT", 0x4000808, [(48, 0x10)], fun _ => 0x0, 0x0, 0x0, 0x0, 0x0, false⟩
def F.GOV_ZONE_COUNT_WARN_COUNT : Fld := ⟨R.GOV_ZONE_COUNT, 0, 8⟩
def F.GOV_ZONE_COUNT_THROTTLE_COUNT : Fld := ⟨R.GOV_ZONE_COUNT, 8, 8⟩
def F.GOV_ZONE_COUNT_CRITICAL_COUNT : Fld := ⟨R.GOV_ZONE_COUNT, 16, 8⟩
def R.GOV_SENSOR : Reg := ⟨"GOV_SENSOR", 0x4001000, [(384, 4)], fun _ => 0x0, 0x0, 0x0, 0x0, 0x0, false⟩
def F.GOV_SENSOR_TEMP : Fld := ⟨R.GOV_SENSOR, 0, 12⟩
def F.GOV_SENSOR_FAULT : Fld := ⟨R.GOV_SENSOR, 12, 1⟩
def R.GOV_PROFILE : Reg := ⟨"GOV_PROFILE", 0x4001800, [(16, 8)], fun _ => 0xffff0000, 0xffff0007, 0x0, 0x0, 0x0, false⟩
def F.GOV_PROFILE_OP : Fld := ⟨R.GOV_PROFILE, 0, 3⟩
def F.GOV_PROFILE_ALLOWANCE : Fld := ⟨R.GOV_PROFILE, 16, 16⟩
def R.GOV_PIPE_CFG : Reg := ⟨"GOV_PIPE_CFG", 0x4001900, [(32, 0x10)], fun _ => 0x10, 0xff, 0x0, 0x0, 0x0, false⟩
def F.GOV_PIPE_CFG_SHARE : Fld := ⟨R.GOV_PIPE_CFG, 0, 8⟩
def R.GOV_PIPE_STATUS : Reg := ⟨"GOV_PIPE_STATUS", 0x4001904, [(32, 0x10)], fun _ => 0x8, 0x0, 0x20, 0x0, 0x0, false⟩
def F.GOV_PIPE_STATUS_SLOTS : Fld := ⟨R.GOV_PIPE_STATUS, 0, 4⟩
def F.GOV_PIPE_STATUS_ADMIT_XOFF : Fld := ⟨R.GOV_PIPE_STATUS, 4, 1⟩
def F.GOV_PIPE_STATUS_ADMIT_DROP : Fld := ⟨R.GOV_PIPE_STATUS, 5, 1⟩
def F.GOV_PIPE_STATUS_ADMIT_DROP_COUNT : Fld := ⟨R.GOV_PIPE_STATUS, 8, 8⟩
def F.GOV_PIPE_STATUS_BACKLOG_KB : Fld := ⟨R.GOV_PIPE_STATUS, 16, 7⟩
def R.GOV_PIPE_ALLOW : Reg := ⟨"GOV_PIPE_ALLOW", 0x4001908, [(32, 0x10)], fun _ => 0xffffffff, 0x0, 0x0, 0x0, 0x0, false⟩
def F.GOV_PIPE_ALLOW_DEMAND : Fld := ⟨R.GOV_PIPE_ALLOW, 0, 16⟩
def F.GOV_PIPE_ALLOW_SENT : Fld := ⟨R.GOV_PIPE_ALLOW, 16, 16⟩
def R.GOV_PIPE_ADMIT_DROPS : Reg := ⟨"GOV_PIPE_ADMIT_DROPS", 0x400190c, [(32, 0x10)], fun _ => 0x0, 0x0, 0x0, 0x0, 0x0, false⟩
def F.GOV_PIPE_ADMIT_DROPS_COUNT : Fld := ⟨R.GOV_PIPE_ADMIT_DROPS, 0, 32⟩
def R.GOV_PMBUS_RAIL : Reg := ⟨"GOV_PMBUS_RAIL", 0x4001c00, [(8, 8)], fun _ => 0x0, 0x77f, 0x0, 0x0, 0x0, false⟩
def F.GOV_PMBUS_RAIL_VALUE : Fld := ⟨R.GOV_PMBUS_RAIL, 0, 32⟩
def R.GOV_PMBUS_READ : Reg := ⟨"GOV_PMBUS_READ", 0x4001c04, [(8, 8)], fun _ => 0x0, 0x0, 0x0, 0x0, 0x0, false⟩
def F.GOV_PMBUS_READ_VALUE : Fld := ⟨R.GOV_PMBUS_READ, 0, 32⟩
def R.CLH_STATUS : Reg := ⟨"CLH_STATUS", 0x3000000, [(1, 0)], fun _ => 0x0, 0x0, 0xe, 0x0, 0x0, true⟩
def F.CLH_STATUS_FAULT_HOLD : Fld := ⟨R.CLH_STATUS, 0, 1⟩
def F.CLH_STATUS_RECORD_LOST : Fld := ⟨R.CLH_STATUS, 1, 1⟩
def F.CLH_STATUS_RAIL_BREAK : Fld := ⟨R.CLH_STATUS, 2, 1⟩
def F.CLH_STATUS_ESCALATED : Fld := ⟨R.CLH_STATUS, 3, 1⟩
def F.CLH_STATUS_LOST_COUNT : Fld := ⟨R.CLH_STATUS, 8, 8⟩
def F.CLH_STATUS_BREAK_COUNT : Fld := ⟨R.CLH_STATUS, 16, 8⟩
def F.CLH_STATUS_ESC_COUNT : Fld := ⟨R.CLH_STATUS, 24, 8⟩
def R.CLH_ERRN_CFG : Reg := ⟨"CLH_ERRN_CFG", 0x3000004, [(1, 0)], fun _ => 0xa, 0x303ff, 0x0, 0x0, 0x0, true⟩
def F.CLH_ERRN_CFG_PULSE_US : Fld := ⟨R.CLH_ERRN_CFG, 0, 10⟩
def F.CLH_ERRN_CFG_MODE : Fld := ⟨R.CLH_ERRN_CFG, 16, 1⟩
def F.CLH_ERRN_CFG_FORCE : Fld := ⟨R.CLH_ERRN_CFG, 17, 1⟩
def R.CLH_ERRN_STATUS : Reg := ⟨"CLH_ERRN_STATUS", 0x3000008, [(1, 0)], fun _ => 0x0, 0x0, 0x0, 0x0, 0x0, true⟩
def F.CLH_ERRN_STATUS_DRIVEN : Fld := ⟨R.CLH_ERRN_STATUS, 0, 1⟩
def F.CLH_ERRN_STATUS_PULSE : Fld := ⟨R.CLH_ERRN_STATUS, 1, 1⟩
def F.CLH_ERRN_STATUS_HOLD : Fld := ⟨R.CLH_ERRN_STATUS, 2, 1⟩
def F.CLH_ERRN_STATUS_NOQS : Fld := ⟨R.CLH_ERRN_STATUS, 3, 1⟩
def F.CLH_ERRN_STATUS_ASSERTIONS : Fld := ⟨R.CLH_ERRN_STATUS, 16, 16⟩
def R.CLH_REC_HEAD : Reg := ⟨"CLH_REC_HEAD", 0x300000c, [(1, 0)], fun _ => 0x0, 0x0, 0x0, 0x0, 0x0, true⟩
def F.CLH_REC_HEAD_NEXT : Fld := ⟨R.CLH_REC_HEAD, 0, 32⟩
def R.CLH_CLASS_CFG : Reg := ⟨"CLH_CLASS_CFG", 0x3000010, [(4, 8)], fun i => 0x0 + (classReactReset i) + ((if i = 1 then 1 else if i = 2 then 1 else 0) <<< 8), 0xffff011f, 0x0, 0x0, 0x0, true⟩
def F.CLH_CLASS_CFG_REACT : Fld := ⟨R.CLH_CLASS_CFG, 0, 5⟩
def F.CLH_CLASS_CFG_ESCALATE : Fld := ⟨R.CLH_CLASS_CFG, 8, 1⟩
def F.CLH_CLASS_CFG_ACK_TIMEOUT_MS : Fld := ⟨R.CLH_CLASS_CFG, 16, 16⟩
def R.CLH_CLASS_STATUS : Reg := ⟨"CLH_CLASS_STATUS", 0x3000014, [(4, 8)], fun _ => 0x0, 0x0, 0x0, 0x0, 0x0, true⟩
def F.CLH_CLASS_STATUS_UNACKED : Fld := ⟨R.CLH_CLASS_STATUS, 0, 9⟩
def F.CLH_CLASS_STATUS_RECORDS : Fld := ⟨R.CLH_CLASS_STATUS, 16, 16⟩
def R.CLH_COLLECTOR : Reg := ⟨"CLH_COLLECTOR", 0x3000040, [(10, 4)], fun _ => 0x0, 0x0, 0x2, 0x0, 0x0, true⟩
def F.CLH_COLLECTOR_LINK_OK : Fld := ⟨R.CLH_COLLECTOR, 0, 1⟩
def F.CLH_COLLECTOR_LOST : Fld := ⟨R.CLH_COLLECTOR, 1, 1⟩
def F.CLH_COLLECTOR_LOST_COUNT : Fld := ⟨R.CLH_COLLECTOR, 8, 8⟩
def F.CLH_COLLECTOR_RETRIES : Fld := ⟨R.CLH_COLLECTOR, 16, 16⟩
def R.CLH_GROUP_SUMMARY : Reg := ⟨"CLH_GROUP_SUMMARY", 0x3000080, [(3, 4)], fun _ => 0x0, 0x0, 0x0, 0x0, 0x0, true⟩
def F.CLH_GROUP_SUMMARY_PENDING : Fld := ⟨R.CLH_GROUP_SUMMARY, 0, 32⟩
def R.CLH_GROUP_CFG : Reg := ⟨"CLH_GROUP_CFG", 0x3001000, [(96, 0x20)], fun i => 0x0 + (40 + i), 0x3ff00ff, 0x0, 0x0, 0x0, true⟩
def F.CLH_GROUP_CFG_VECTOR : Fld := ⟨R.CLH_GROUP_CFG, 0, 8⟩
def F.CLH_GROUP_CFG_HOLDOFF_US : Fld := ⟨R.CLH_GROUP_CFG, 16, 10⟩
def R.CLH_EVT_PEND_LO : Reg := ⟨"CLH_EVT_PEND_LO", 0x3001004, [(96, 0x20)], fun _ => 0x0, 0x0, 0xffffffff, 0x0, 0x0, true⟩
def F.CLH_EVT_PEND_LO_PEND : Fld := ⟨R.CLH_EVT_PEND_LO, 0, 32⟩
def R.CLH_EVT_PEND_HI : Reg := ⟨"CLH_EVT_PEND_HI", 0x3001008, [(96, 0x20)], fun _ => 0x0, 0x0, 0xffffffff, 0x0, 0x0, true⟩
def F.CLH_EVT_PEND_HI_PEND : Fld := ⟨R.CLH_EVT_PEND_HI, 0, 32⟩
def R.CLH_EVT_MASK_LO : Reg := ⟨"CLH_EVT_MASK_LO", 0x300100c, [(96, 0x20)], fun _ => 0x0, 0xffffffff, 0x0, 0x0, 0x0, true⟩
def F.CLH_EVT_MASK_LO_BITS : Fld := ⟨R.CLH_EVT_MASK_LO, 0, 32⟩
def R.CLH_EVT_MASK_HI : Reg := ⟨"CLH_EVT_MASK_HI", 0x3001010, [(96, 0x20)], fun _ => 0x0, 0xffffffff, 0x0, 0x0, 0x0, true⟩
def F.CLH_EVT_MASK_HI_BITS : Fld := ⟨R.CLH_EVT_MASK_HI, 0, 32⟩
def R.CLH_EVT_TLR_LO : Reg := ⟨"CLH_EVT_TLR_LO", 0x3001014, [(96, 0x20)], fun _ => 0x0, 0xffffffff, 0x0, 0x0, 0x0, true⟩
def F.CLH_EVT_TLR_LO_BITS : Fld := ⟨R.CLH_EVT_TLR_LO, 0, 32⟩
def R.CLH_EVT_TLR_HI : Reg := ⟨"CLH_EVT_TLR_HI", 0x3001018, [(96, 0x20)], fun _ => 0x0, 0xffffffff, 0x0, 0x0, 0x0, true⟩
def F.CLH_EVT_TLR_HI_BITS : Fld := ⟨R.CLH_EVT_TLR_HI, 0, 32⟩
def R.CLH_SRC_CFG : Reg := ⟨"CLH_SRC_CFG", 0x3010000, [(6144, 4)], fun i => 0x0 + (srcClassReset i) + ((srcClassReset i) <<< 2) + ((srcUsed i) <<< 4) + ((if i = 134 then 8 else 0) <<< 8) + ((srcUsed i) <<< 17) + ((srcUsed i) <<< 19), 0x1f13, 0x0, 0x0, 0x0, true⟩
def F.CLH_SRC_CFG_CLASS : Fld := ⟨R.CLH_SRC_CFG, 0, 2⟩
def F.CLH_SRC_CFG_DEFAULT_CLASS : Fld := ⟨R.CLH_SRC_CFG, 2, 2⟩
def F.CLH_SRC_CFG_ESCALATE : Fld := ⟨R.CLH_SRC_CFG, 4, 1⟩
def F.CLH_SRC_CFG_REACT : Fld := ⟨R.CLH_SRC_CFG, 8, 5⟩
def F.CLH_SRC_CFG_BROKEN : Fld := ⟨R.CLH_SRC_CFG, 16, 1⟩
def F.CLH_SRC_CFG_RAILS : Fld := ⟨R.CLH_SRC_CFG, 17, 2⟩
def F.CLH_SRC_CFG_USED : Fld := ⟨R.CLH_SRC_CFG, 19, 1⟩
def R.CLH_EVT_COUNT : Reg := ⟨"CLH_EVT_COUNT", 0x3020000, [(1536, 4)], fun _ => 0x0, 0x0, 0x0, 0x0, 0x0, true⟩
def F.CLH_EVT_COUNT_COUNTS : Fld := ⟨R.CLH_EVT_COUNT, 0, 32⟩
def R.GLB_CHIP_ID : Reg := ⟨"GLB_CHIP_ID", 0x0, [(1, 0)], fun _ => 0xd9f1024, 0x0, 0x0, 0x0, 0x0, false⟩
def F.GLB_CHIP_ID_CHIP_ID : Fld := ⟨R.GLB_CHIP_ID, 0, 32⟩
def R.GLB_STEPPING : Reg := ⟨"GLB_STEPPING", 0x4, [(1, 0)], fun _ => 0xb0, 0x0, 0x0, 0x0, 0x0, false⟩
def F.GLB_STEPPING_STEPPING : Fld := ⟨R.GLB_STEPPING, 0, 8⟩
def R.GLB_PCI_ID : Reg := ⟨"GLB_PCI_ID", 0x8, [(1, 0)], fun _ => 0x91021fa9, 0x0, 0x0, 0x0, 0x0, false⟩
def F.GLB_PCI_ID_VENDOR : Fld := ⟨R.GLB_PCI_ID, 0, 16⟩
def F.GLB_PCI_ID_DEVICE : Fld := ⟨R.GLB_PCI_ID, 16, 16⟩
def R.GLB_ARCH : Reg := ⟨"GLB_ARCH", 0xc, [(1, 0)], fun _ => 0x2208400, 0x0, 0x0, 0x0, 0x0, false⟩
def F.GLB_ARCH_LANES : Fld := ⟨R.GLB_ARCH, 0, 11⟩
def F.GLB_ARCH_QUIRES : Fld := ⟨R.GLB_ARCH, 11, 5⟩
def F.GLB_ARCH_PIPELINES : Fld := ⟨R.GLB_ARCH, 16, 6⟩
def F.GLB_ARCH_QUIRE_DIES : Fld := ⟨R.GLB_ARCH, 22, 4⟩
def R.GLB_WINDOW_STATUS : Reg := ⟨"GLB_WINDOW_STATUS", 0x40, [(1, 0)], fun _ => 0x0, 0x0, 0x3, 0x0, 0x0, false⟩
def F.GLB_WINDOW_STATUS_SIZE_ERR : Fld := ⟨R.GLB_WINDOW_STATUS, 0, 1⟩
def F.GLB_WINDOW_STATUS_UNCORR : Fld := ⟨R.GLB_WINDOW_STATUS, 1, 1⟩
def F.GLB_WINDOW_STATUS_SIZE_ERR_COUNT : Fld := ⟨R.GLB_WINDOW_STATUS, 8, 8⟩
def F.GLB_WINDOW_STATUS_UNCORR_COUNT : Fld := ⟨R.GLB_WINDOW_STATUS, 16, 8⟩
def R.GLB_WINDOW_ERR_ADDR : Reg := ⟨"GLB_WINDOW_ERR_ADDR", 0x44, [(1, 0)], fun _ => 0x0, 0x0, 0x0, 0x0, 0x0, false⟩
def F.GLB_WINDOW_ERR_ADDR_OFFSET : Fld := ⟨R.GLB_WINDOW_ERR_ADDR, 0, 32⟩
def R.MSIX_TABLE : Reg := ⟨"MSIX_TABLE", 0x100900000, [(1024, 4)], fun i => 0x0 + (if i % 4 = 3 then 1 else 0), 0xffffffff, 0x0, 0x0, 0x0, false⟩
def F.MSIX_TABLE_WORD : Fld := ⟨R.MSIX_TABLE, 0, 32⟩
def R.MSIX_PBA : Reg := ⟨"MSIX_PBA", 0x100901000, [(8, 4)], fun _ => 0x0, 0x0, 0x0, 0x0, 0x0, false⟩
def F.MSIX_PBA_PENDING : Fld := ⟨R.MSIX_PBA, 0, 32⟩
def R.VLT_DIE_DESC : Reg := ⟨"VLT_DIE_DESC", 0x30000104, [(2, 0x40)], fun _ => 0x0, 0x0, 0x0, 0x0, 0x0, false⟩
def F.VLT_DIE_DESC_FREE_DESC : Fld := ⟨R.VLT_DIE_DESC, 0, 17⟩
def F.VLT_DIE_DESC_DESC_LOW : Fld := ⟨R.VLT_DIE_DESC, 17, 1⟩
def R.VLT_DIE_COMMON : Reg := ⟨"VLT_DIE_COMMON", 0x30000108, [(2, 0x40)], fun _ => 0x0, 0x0, 0x0, 0x0, 0x0, false⟩
def F.VLT_DIE_COMMON_VALUE : Fld := ⟨R.VLT_DIE_COMMON, 0, 20⟩
def R.VLT_DIE_COMMON_FREE : Reg := ⟨"VLT_DIE_COMMON_FREE", 0x3000010c, [(2, 0x40)], fun _ => 0x0, 0x0, 0x0, 0x0, 0x0, false⟩
def F.VLT_DIE_COMMON_FREE_VALUE : Fld := ⟨R.VLT_DIE_COMMON_FREE, 0, 20⟩
def R.VLT_POOL_RESERVE : Reg := ⟨"VLT_POOL_RESERVE", 0x30001004, [(32, 0x40)], fun _ => 0x0, 0xfffff, 0x0, 0x0, 0x0, false⟩
def F.VLT_POOL_RESERVE_VALUE : Fld := ⟨R.VLT_POOL_RESERVE, 0, 20⟩
def R.VLT_POOL_SHARE : Reg := ⟨"VLT_POOL_SHARE", 0x30001008, [(32, 0x40)], fun _ => 0x0, 0xfffff, 0x0, 0x0, 0x0, false⟩
def F.VLT_POOL_SHARE_VALUE : Fld := ⟨R.VLT_POOL_SHARE, 0, 20⟩
def R.VLT_POOL_CAP : Reg := ⟨"VLT_POOL_CAP", 0x3000100c, [(32, 0x40)], fun _ => 0xc0000, 0xfffff, 0x0, 0x0, 0x0, false⟩
def F.VLT_POOL_CAP_VALUE : Fld := ⟨R.VLT_POOL_CAP, 0, 20⟩
def R.VLT_POOL_HEADROOM : Reg := ⟨"VLT_POOL_HEADROOM", 0x30001010, [(32, 0x40)], fun _ => 0x0, 0xfffff, 0x0, 0x0, 0x0, false⟩
def F.VLT_POOL_HEADROOM_VALUE : Fld := ⟨R.VLT_POOL_HEADROOM, 0, 20⟩
def R.VLT_POOL_RES_USED : Reg := ⟨"VLT_POOL_RES_USED", 0x30002004, [(2, 0x10), (32, 0x40)], fun _ => 0x0, 0x0, 0x0, 0x0, 0x0, false⟩
def F.VLT_POOL_RES_USED_VALUE : Fld := ⟨R.VLT_POOL_RES_USED, 0, 20⟩
def R.VLT_POOL_COM_USED : Reg := ⟨"VLT_POOL_COM_USED", 0x30002008, [(2, 0x10), (32, 0x40)], fun _ => 0x0, 0x0, 0x0, 0x0, 0x0, false⟩
def F.VLT_POOL_COM_USED_VALUE : Fld := ⟨R.VLT_POOL_COM_USED, 0, 20⟩
def R.VLT_POOL_HR_USED : Reg := ⟨"VLT_POOL_HR_USED", 0x3000200c, [(2, 0x10), (32, 0x40)], fun _ => 0x0, 0x0, 0x0, 0x0, 0x0, false⟩
def F.VLT_POOL_HR_USED_VALUE : Fld := ⟨R.VLT_POOL_HR_USED, 0, 20⟩
def R.CLS_TABLE_MASK : Reg := ⟨"CLS_TABLE_MASK", 0x20010040, [(20, 4), (64, 0x100)], fun _ => 0x0, 0xffffffff, 0x0, 0x0, 0x0, false⟩
def F.CLS_TABLE_MASK_VALUE : Fld := ⟨R.CLS_TABLE_MASK, 0, 32⟩
def R.CLS_TERN_SELECT : Reg := ⟨"CLS_TERN_SELECT", 0x20014040, [(10, 4)], fun _ => 0x0, 0xffffffff, 0x0, 0x0, 0x0, false⟩
def F.CLS_TERN_SELECT_VALUE : Fld := ⟨R.CLS_TERN_SELECT, 0, 32⟩
def R.LDG_LEDGER_MAX : Reg := ⟨"LDG_LEDGER_MAX", 0x28001004, [(16, 0x40)], fun _ => 0x100000, 0x1fffff, 0x0, 0x0, 0x0, false⟩
def F.LDG_LEDGER_MAX_VALUE : Fld := ⟨R.LDG_LEDGER_MAX, 0, 21⟩
def R.LDG_LEDGER_SEED0 : Reg := ⟨"LDG_LEDGER_SEED0", 0x28001008, [(16, 0x40)], fun _ => 0xffffffff, 0xffffffff, 0x0, 0x0, 0x0, false⟩
def F.LDG_LEDGER_SEED0_VALUE : Fld := ⟨R.LDG_LEDGER_SEED0, 0, 32⟩
def R.LDG_LEDGER_SEED1 : Reg := ⟨"LDG_LEDGER_SEED1", 0x2800100c, [(16, 0x40)], fun _ => 0xf0ff0f0, 0xffffffff, 0x0, 0x0, 0x0, false⟩
def F.LDG_LEDGER_SEED1_VALUE : Fld := ⟨R.LDG_LEDGER_SEED1, 0, 32⟩
def R.LDG_LEDGER_COUNT : Reg := ⟨"LDG_LEDGER_COUNT", 0x28001010, [(16, 0x40)], fun _ => 0x0, 0x0, 0x0, 0x0, 0x0, false⟩
def F.LDG_LEDGER_COUNT_VALUE : Fld := ⟨R.LDG_LEDGER_COUNT, 0, 21⟩
def R.LDG_LEDGER_LEARN : Reg := ⟨"LDG_LEDGER_LEARN", 0x28001014, [(16, 0x40)], fun _ => 0x0, 0xffffffff, 0x0, 0x0, 0x0, false⟩
def F.LDG_LEDGER_LEARN_VALUE : Fld := ⟨R.LDG_LEDGER_LEARN, 0, 32⟩
def R.LDG_LEDGER_SELECT : Reg := ⟨"LDG_LEDGER_SELECT", 0x28001020, [(4, 4), (16, 0x40)], fun i => 0x0 + (0x03020100 + 0x04040404 * (i % 4)), 0xffffffff, 0x0, 0x0, 0x0, false⟩
def F.LDG_LEDGER_SELECT_VALUE : Fld := ⟨R.LDG_LEDGER_SELECT, 0, 32⟩
def R.LDG_LEDGER_SELECT4 : Reg := ⟨"LDG_LEDGER_SELECT4", 0x28001030, [(16, 0x40)], fun _ => 0x121110, 0xffffff, 0x0, 0x0, 0x0, false⟩
def F.LDG_LEDGER_SELECT4_VALUE : Fld := ⟨R.LDG_LEDGER_SELECT4, 0, 24⟩
def R.LDG_LOOKUP_SELECT : Reg := ⟨"LDG_LOOKUP_SELECT", 0x28002004, [(11, 4), (4, 0x40), (16, 0x100)], fun _ => 0x0, 0xffffffff, 0x0, 0x0, 0x0, false⟩
def F.LDG_LOOKUP_SELECT_VALUE : Fld := ⟨R.LDG_LOOKUP_SELECT, 0, 32⟩
def R.LDG_PROFILE_MISS : Reg := ⟨"LDG_PROFILE_MISS", 0x28003004, [(16, 8)], fun _ => 0x0, 0xffffffff, 0x0, 0x0, 0x0, false⟩
def F.LDG_PROFILE_MISS_VALUE : Fld := ⟨R.LDG_PROFILE_MISS, 0, 32⟩
def R.LDG_AUDIT_CFG : Reg := ⟨"LDG_AUDIT_CFG", 0x28005000, [(4, 0x20)], fun _ => 0x0, 0xffff0003, 0x0, 0x0, 0x0, false⟩
def F.LDG_AUDIT_CFG_ENABLE : Fld := ⟨R.LDG_AUDIT_CFG, 0, 1⟩
def F.LDG_AUDIT_CFG_ACTION : Fld := ⟨R.LDG_AUDIT_CFG, 1, 1⟩
def F.LDG_AUDIT_CFG_LEDGER : Fld := ⟨R.LDG_AUDIT_CFG, 4, 4⟩
def F.LDG_AUDIT_CFG_PASS_MS : Fld := ⟨R.LDG_AUDIT_CFG, 16, 16⟩
def R.LDG_AUDIT_ADDR_LO : Reg := ⟨"LDG_AUDIT_ADDR_LO", 0x28005008, [(4, 0x20)], fun _ => 0x0, 0xffffffff, 0x0, 0x0, 0x0, false⟩
def F.LDG_AUDIT_ADDR_LO_VALUE : Fld := ⟨R.LDG_AUDIT_ADDR_LO, 0, 32⟩
def R.LDG_AUDIT_ADDR_HI : Reg := ⟨"LDG_AUDIT_ADDR_HI", 0x2800500c, [(4, 0x20)], fun _ => 0x0, 0xffffffff, 0x0, 0x0, 0x0, false⟩
def F.LDG_AUDIT_ADDR_HI_VALUE : Fld := ⟨R.LDG_AUDIT_ADDR_HI, 0, 32⟩
def R.LDG_AUDIT_SLOT : Reg := ⟨"LDG_AUDIT_SLOT", 0x28005010, [(4, 0x20)], fun _ => 0x0, 0x0, 0x0, 0x0, 0x0, false⟩
def F.LDG_AUDIT_SLOT_VALUE : Fld := ⟨R.LDG_AUDIT_SLOT, 0, 32⟩
def R.CLRK_IMAGE : Reg := ⟨"CLRK_IMAGE", 0x2c000400, [(16, 4), (4, 0x40), (8, 0x10000)], fun _ => 0x0, 0x0, 0x0, 0x0, 0x0, false⟩
def F.CLRK_IMAGE_VALUE : Fld := ⟨R.CLRK_IMAGE, 0, 32⟩
def R.CLRK_KR : Reg := ⟨"CLRK_KR", 0x2c000500, [(13, 4), (8, 0x10000)], fun _ => 0x0, 0x0, 0x0, 0x0, 0x0, false⟩
def F.CLRK_KR_VALUE : Fld := ⟨R.CLRK_KR, 0, 32⟩
def R.CTH_DIE_MEMBERS : Reg := ⟨"CTH_DIE_MEMBERS", 0x40000104, [(2, 0x40)], fun _ => 0x8000, 0x0, 0x0, 0x0, 0x0, false⟩
def F.CTH_DIE_MEMBERS_FREE_MEMBERS : Fld := ⟨R.CTH_DIE_MEMBERS, 0, 16⟩
def F.CTH_DIE_MEMBERS_INTAKE_KB : Fld := ⟨R.CTH_DIE_MEMBERS, 16, 11⟩
def R.CTH_SYN_MEMBER_BASE : Reg := ⟨"CTH_SYN_MEMBER_BASE", 0x40010024, [(256, 0x100)], fun _ => 0x0, 0x0, 0x0, 0x0, 0x0, false⟩
def F.CTH_SYN_MEMBER_BASE_VALUE : Fld := ⟨R.CTH_SYN_MEMBER_BASE, 0, 15⟩
def R.CTH_SYN_ABORT_COUNT : Reg := ⟨"CTH_SYN_ABORT_COUNT", 0x40010028, [(256, 0x100)], fun _ => 0x0, 0x0, 0x0, 0x0, 0x0, false⟩
def F.CTH_SYN_ABORT_COUNT_VALUE : Fld := ⟨R.CTH_SYN_ABORT_COUNT, 0, 8⟩

/-- The register sets of block BAR0. -/
def Tbl.bar0 : List Reg :=
  [R.BOOT_STATUS, R.BOOT_CTL, R.BOOT_ERR_PAGE, R.BOOT_WINDOW_REJECTS, R.BOOT_PAGE_CTL,
   R.BOOT_PAGE_CRC, R.MBX_DOORBELL, R.MBX_STATUS, R.MBX_LAST, R.MBX_CTL,
   R.MSIX_TABLE, R.MSIX_PBA]

/-- The register sets of block GLB. -/
def Tbl.glb : List Reg :=
  [R.GLB_CHARTER_VERSION, R.GLB_CHARTER_CRC, R.GLB_PATCH_LEVEL, R.GLB_CLERK_STORE_VERSION, R.GLB_RESET_CFG,
   R.GLB_RESET_CAUSE, R.GLB_SESSION, R.GLB_RAIL_STATUS, R.GLB_MODE, R.GLB_CHIP_ID,
   R.GLB_STEPPING, R.GLB_PCI_ID, R.GLB_ARCH, R.GLB_WINDOW_STATUS, R.GLB_WINDOW_ERR_ADDR]

/-- The register sets of block TLR. -/
def Tbl.tlr : List Reg :=
  [R.TLR_STATUS, R.TLR_MBX_CMD, R.TLR_MBX_RUN, R.TLR_GRANT_BLOCKS, R.TLR_GRANT_QUIRE,
   R.TLR_LEASE, R.TLR_UNGRANTED_WRITES, R.TLR_UNGRANTED_LAST, R.TLR_HIST_HEAD, R.TLR_ASYNC_STATE,
   R.TLR_DEADLINE_MISSES, R.TLR_CORE_PC_LO, R.TLR_CORE_PC_HI]

/-- The register sets of block CKG. -/
def Tbl.ckg : List Reg :=
  [R.CKG_QUAL_CFG, R.CKG_REF_STATUS, R.CKG_REF_MEASURE, R.CKG_WATCH_TRIM, R.CKG_WATCH_FREQ,
   R.CKG_PLL_STATUS, R.CKG_DOMAIN_CFG, R.CKG_DOMAIN_STATUS, R.CKG_NOQS_LATCH, R.CKG_XING_STATUS,
   R.CKG_XING_COUNT]

/-- The register sets of block QUIRE. -/
def Tbl.quire : List Reg :=
  [R.LANE_CTL, R.LANE_STATUS, R.LANE_EQ_NOW_TX, R.LANE_EQ_NOW_RX, R.LANE_EQ_ENT_TX,
   R.LANE_EQ_ENT_RX, R.LANE_PRBS_CTL, R.LANE_INJ_CFG, R.LANE_PRBS_STATUS, R.LANE_PRBS_BIT_ERR,
   R.LANE_PRBS_SYM_ERR, R.LANE_PRBS_COMPARED, R.LANE_USER_PATTERN, R.LANE_QUIRE_TEMP, R.LANE_BOARD_ID,
   R.PCS_STATUS, R.PCS_FEC_CFG, R.PCS_FEC_CORRECTED, R.PCS_FEC_UNCORRECTED, R.STCH_CTL,
   R.STCH_STATUS, R.STCH_TX_SEQ, R.STCH_RX_SEQ, R.STCH_FRAME, R.STCH_COUNT_A,
   R.STCH_COUNT_B, R.STCH_COUNT_C, R.MAC_CFG, R.MAC_CFG2, R.MAC_STATUS,
   R.MAC_PFC_CFG, R.MAC_PFC_STORM, R.MAC_PFC_QMAP, R.MAC_PFC_STATUS, R.MAC_PFC_TIMER,
   R.MAC_PREEMPT_CFG, R.MAC_PREEMPT_STATUS, R.MAC_SA_LO, R.MAC_SA_HI, R.MAC_STAT_LO,
   R.MAC_STAT_HI, R.MAC_STAT_SAT, R.PRS_PORT_CFG, R.PRS_PIPE_CFG, R.PRS_PIPE_STATUS,
   R.PRS_TABLE_ID, R.PRS_TRACE_CTL, R.PRS_TRACE_REC, R.PRS_STAT_LO, R.PRS_STAT_HI,
   R.PRS_STAT_SAT]

/-- The register sets of block DMA. -/
def Tbl.dma : List Reg :=
  [R.DMA_PUNT_CFG, R.DMA_PUNT_CFG2, R.DMA_PUNT_STATUS, R.DMA_PUNT_PASSED_LO, R.DMA_PUNT_PASSED_HI,
   R.DMA_PUNT_DROPS_LO, R.DMA_PUNT_DROPS_HI, R.DMA_GLOBAL, R.DMA_PCIE_STATUS, R.DMA_CH_CFG,
   R.DMA_CH_BASE_LO, R.DMA_CH_BASE_HI, R.DMA_CH_HEAD_LO, R.DMA_CH_HEAD_HI, R.DMA_CH_COUNT,
   R.DMA_CH_STATUS, R.DMA_CH_EVCOUNT, R.DMA_CH_RESIDUE, R.DMA_CH_ERR_ADDR_LO, R.DMA_CH_ERR_ADDR_HI,
   R.DMA_CH_HOLDOFF, R.DMA_CH_INJ_RATE, R.DMA_CH_INJ_BURST, R.DMA_CH_INJ_TOKENS, R.DMA_CH_DESC,
   R.DMA_CH_STAT_LO, R.DMA_CH_STAT_HI, R.DMA_HOSTQ_CFG, R.DMA_HOSTQ_STATUS, R.DMA_HOSTQ_DROPS_LO,
   R.DMA_HOSTQ_DROPS_HI]

/-- The register sets of block CLS. -/
def Tbl.cls : List Reg :=
  [R.CLS_POSTING, R.CLS_POSTING_LAST, R.CLS_POST_TIME, R.CLS_POST_CFG, R.CLS_DIE_STATUS,
   R.CLS_DIE_COUNT, R.CLS_DRAIN, R.CLS_TABLE_CFG, R.CLS_TABLE_REGION, R.CLS_TABLE_SEED,
   R.CLS_TABLE_FILL, R.CLS_PORT_CFG, R.CLS_STAT_LO, R.CLS_STAT_HI, R.CLS_TABLE_MASK,
   R.CLS_TERN_SELECT]

/-- The register sets of block LDG. -/
def Tbl.ldg : List Reg :=
  [R.LDG_GLOBAL, R.LDG_ECMP_SEED, R.LDG_STATUS, R.LDG_STATUS_COUNT, R.LDG_PARITY_LAST,
   R.LDG_EVICT_LAST, R.LDG_PORT_LIVE, R.LDG_LEDGER_CFG, R.LDG_LOOKUP_CFG, R.LDG_PROFILE_CFG,
   R.LDG_PORT_CFG, R.LDG_AUDIT_STATUS, R.LDG_STAT_LO, R.LDG_STAT_HI, R.LDG_GSTAT_LO,
   R.LDG_GSTAT_HI, R.LDG_LEDGER_MAX, R.LDG_LEDGER_SEED0, R.LDG_LEDGER_SEED1, R.LDG_LEDGER_COUNT,
   R.LDG_LEDGER_LEARN, R.LDG_LEDGER_SELECT, R.LDG_LEDGER_SELECT4, R.LDG_LOOKUP_SELECT, R.LDG_PROFILE_MISS,
   R.LDG_AUDIT_CFG, R.LDG_AUDIT_ADDR_LO, R.LDG_AUDIT_ADDR_HI, R.LDG_AUDIT_SLOT]

/-- The register sets of block CLRK. -/
def Tbl.clrk : List Reg :=
  [R.CLRK_CTL, R.CLRK_STATUS, R.CLRK_PC, R.CLRK_COND, R.CLRK_QUEUE,
   R.CLRK_REG, R.CLRK_PATH, R.CLRK_ENTRY, R.CLRK_STORE, R.CLRK_IMAGE,
   R.CLRK_KR]

/-- The register sets of block VLT. -/
def Tbl.vlt : List Reg :=
  [R.VLT_GLOBAL, R.VLT_FREE_ERR, R.VLT_FREE_ERR_LAST, R.VLT_MEM_ERR, R.VLT_DIE_STATUS,
   R.VLT_POOL_CFG, R.VLT_POOL_STATE, R.VLT_BANK_FREE, R.VLT_POOL_MAP, R.VLT_STAT_LO,
   R.VLT_STAT_HI, R.VLT_GSTAT_LO, R.VLT_GSTAT_HI, R.VLT_DIE_DESC, R.VLT_DIE_COMMON,
   R.VLT_DIE_COMMON_FREE, R.VLT_POOL_RESERVE, R.VLT_POOL_SHARE, R.VLT_POOL_CAP, R.VLT_POOL_HEADROOM,
   R.VLT_POOL_RES_USED, R.VLT_POOL_COM_USED, R.VLT_POOL_HR_USED]

/-- The register sets of block QSC. -/
def Tbl.qsc : List Reg :=
  [R.QSC_ENERGY_CFG, R.QSC_ENERGY_COST, R.QSC_SAMPLE_CFG, R.QSC_PURSE, R.QSC_PURSE_ALLOW,
   R.QSC_PURSE_HELD, R.QSC_GSTAT_LO, R.QSC_GSTAT_HI, R.QSC_PORT_CFG, R.QSC_PORT_RATE,
   R.QSC_PORT_BURST, R.QSC_PORT_TOKENS, R.QSC_PORT_EXP_TOKENS, R.QSC_PORT_EXP_BURST, R.QSC_PORT_VCLOCK_LO,
   R.QSC_PORT_VCLOCK_HI, R.QSC_Q_CFG, R.QSC_Q_RATE, R.QSC_Q_BURST, R.QSC_Q_TOKENS,
   R.QSC_Q_LIMIT_A, R.QSC_Q_LIMIT_B, R.QSC_Q_START_LO, R.QSC_Q_START_HI, R.QSC_Q_FINISH_LO,
   R.QSC_Q_FINISH_HI, R.QSC_Q_DEPTH, R.QSC_Q_FRAMES, R.QSC_Q_STATUS]

/-- The register sets of block TIM. -/
def Tbl.tim : List Reg :=
  [R.TIM_CTL, R.TIM_CTL2, R.TIM_STATUS, R.TIM_FREQ_ADJ, R.TIM_PAIR_STAMP,
   R.TIM_PAIR_NS, R.TIM_PAIR_SEC_LO, R.TIM_PAIR_SEC_HI, R.TIM_PPS_ERROR, R.TIM_STATUS2,
   R.TIM_RING_CFG, R.TIM_RING_ADDR_LO, R.TIM_RING_ADDR_HI, R.TIM_RING_PROD, R.TIM_COPY_STATUS,
   R.TIM_PIN_CFG, R.TIM_PIN_START_SEC_LO, R.TIM_PIN_START_SEC_HI, R.TIM_PIN_START_NS, R.TIM_PIN_PERIOD,
   R.TIM_PIN_WIDTH, R.TIM_PIN_STATUS, R.TIM_PIN_LAT, R.TIM_PIN_EVCOUNT, R.TIM_FEC_TERM,
   R.TIM_PORT_CFG, R.TIM_PORT_LAT_212, R.TIM_PORT_LAT_106, R.TIM_PORT_BOARD, R.TIM_PORT_PEER_DELAY,
   R.TIM_PORT_STATUS, R.TIM_PORT_EVCOUNT, R.TIM_Q_LAUNCH, R.TIM_PORT_STAT_LO, R.TIM_PORT_STAT_HI,
   R.TIM_GATE_CFG, R.TIM_GATE_STATUS, R.TIM_GATE_CHANGE, R.TIM_GATE_CYCLES, R.TIM_GATE_EVCOUNT,
   R.TIM_GATE_BASE_SEC_LO, R.TIM_GATE_BASE_SEC_HI, R.TIM_GATE_BASE_NS, R.TIM_GATE_CYCLE_NS]

/-- The register sets of block CTH. -/
def Tbl.cth : List Reg :=
  [R.CTH_CFG, R.CTH_ADDR4, R.CTH_MAC_LO, R.CTH_MAC_HI, R.CTH_ADDR6,
   R.CTH_DIE_STATUS, R.CTH_SYN_CFG, R.CTH_SYN_SIZE, R.CTH_SYN_LIMITS, R.CTH_SYN_TIMERS,
   R.CTH_SYN_BASE, R.CTH_SYN_STATUS, R.CTH_SYN_STRAG_CHUNK, R.CTH_SYN_STRAG_MEMBER, R.CTH_SYN_PLACE,
   R.CTH_SYN_STAT_LO, R.CTH_SYN_STAT_HI, R.CTH_GSTAT_LO, R.CTH_GSTAT_HI, R.CTH_DIE_MEMBERS,
   R.CTH_SYN_MEMBER_BASE, R.CTH_SYN_ABORT_COUNT]

/-- The register sets of block BAR4. -/
def Tbl.bar4 : List Reg :=
  [R.DMA_DOORBELL, R.DMA_CH_CMD]

/-- The register sets of block TLY. -/
def Tbl.tly : List Reg :=
  [R.TLY_STATUS, R.TLY_BOOK_CFG, R.TLY_BOOK_BUF_LO, R.TLY_BOOK_BUF_HI, R.TLY_BOOK_STATUS,
   R.TLY_BOOK_NEXT_SEQ, R.TLY_BOOK_T_SEC_LO, R.TLY_BOOK_T_SEC_HI, R.TLY_BOOK_T_NS, R.TLY_BOOK_SEQ,
   R.TLY_SAMPLE_PROD, R.TLY_SAMPLE_LOST, R.TLY_UNIT_INFO, R.TLY_CNT_SEL, R.TLY_CNT_LO,
   R.TLY_CNT_HI]

/-- The register sets of block MRG. -/
def Tbl.mrg : List Reg :=
  [R.MRG_CFG, R.MRG_NODE_ID, R.MRG_PORT_CFG, R.MRG_RULE_SEL, R.MRG_GSTAT_LO,
   R.MRG_GSTAT_HI]

/-- The register sets of block GOV. -/
def Tbl.gov : List Reg :=
  [R.GOV_CAP_CFG, R.GOV_CAP, R.GOV_CAP_STATUS, R.GOV_POWER, R.GOV_BUDGET,
   R.GOV_DROOP_CFG, R.GOV_THERM_CFG, R.GOV_PMBUS_CFG, R.GOV_TRIP_STATUS, R.GOV_OP_POINT,
   R.GOV_DIE_OP, R.GOV_DIE_SEL, R.GOV_DIE_POWER, R.GOV_DIE_DROOP, R.GOV_DIE_STEPS,
   R.GOV_REASON_US, R.GOV_REASON_LAST, R.GOV_ZONE_LIMIT, R.GOV_ZONE_STATUS, R.GOV_ZONE_COUNT,
   R.GOV_SENSOR, R.GOV_PROFILE, R.GOV_PIPE_CFG, R.GOV_PIPE_STATUS, R.GOV_PIPE_ALLOW,
   R.GOV_PIPE_ADMIT_DROPS, R.GOV_PMBUS_RAIL, R.GOV_PMBUS_READ]

/-- The register sets of block CLH. -/
def Tbl.clh : List Reg :=
  [R.CLH_STATUS, R.CLH_ERRN_CFG, R.CLH_ERRN_STATUS, R.CLH_REC_HEAD, R.CLH_CLASS_CFG,
   R.CLH_CLASS_STATUS, R.CLH_COLLECTOR, R.CLH_GROUP_SUMMARY, R.CLH_GROUP_CFG, R.CLH_EVT_PEND_LO,
   R.CLH_EVT_PEND_HI, R.CLH_EVT_MASK_LO, R.CLH_EVT_MASK_HI, R.CLH_EVT_TLR_LO, R.CLH_EVT_TLR_HI,
   R.CLH_SRC_CFG, R.CLH_EVT_COUNT]

/-- The register sets that can lie at a key, by its block (R578). -/
def regsNear (a : Nat) : List Reg :=
  if 0x200000000 ≤ a then Tbl.bar4
  else if 0x100000000 ≤ a then Tbl.bar0
  else
    let b := a / 0x1000000
    if b = 0 then Tbl.glb else if b = 1 then Tbl.tlr else if b = 2 then Tbl.ckg else if b = 3 then Tbl.clh
    else if b = 4 then Tbl.gov else if b = 5 then Tbl.tim else if b < 8 then Tbl.dma else if b < 0x10 then Tbl.tly
    else if b < 0x20 then Tbl.quire else if b < 0x28 then Tbl.cls else if b < 0x2C then Tbl.ldg else if b < 0x30 then Tbl.clrk
    else if b < 0x38 then Tbl.vlt else if b < 0x40 then Tbl.qsc else if b < 0x48 then Tbl.cth else if b < 0x50 then Tbl.mrg
    else []

/-- The register sets that hold a field whose reset value is the Charter's, with the mask of those fields. -/
def charterRegs : List (Reg × Nat) :=
  [(R.LANE_CTL, 0x18),
   (R.LANE_EQ_ENT_TX, 0x3fffffff),
   (R.LANE_EQ_ENT_RX, 0x8fffffff),
   (R.LANE_BOARD_ID, 0xffffffff),
   (R.DMA_PUNT_CFG, 0xffffff),
   (R.DMA_PUNT_CFG2, 0xffff),
   (R.CLRK_ENTRY, 0x1fff),
   (R.CLRK_STORE, 0xffffffff),
   (R.QSC_ENERGY_COST, 0x3ff),
   (R.TIM_PIN_LAT, 0xffffffff),
   (R.TIM_FEC_TERM, 0xffffffff),
   (R.TIM_PORT_LAT_212, 0xffffffff),
   (R.TIM_PORT_LAT_106, 0xffffffff),
   (R.CTH_CFG, 0xffffff),
   (R.DMA_CH_CFG, 0x18),
   (R.DMA_HOSTQ_CFG, 0xffff001f),
   (R.CLH_EVT_MASK_LO, 0xffffffff),
   (R.CLH_EVT_MASK_HI, 0xffffffff),
   (R.CLH_EVT_TLR_LO, 0xffffffff),
   (R.CLH_EVT_TLR_HI, 0xffffffff),
   (R.CLH_SRC_CFG, 0x1f00)]

end Sys2Proof.Machine
end

