-- ==== Sys2Proof/Machine/State.lean ====
section
/-! DEFINITION. The state of the block as plain data: the register file, the stores, the queues and the machines of each unit. A field's
default is its value right after VDD_AON power-on; `State.reset` takes them all. -/
namespace Sys2Proof.Machine

/-- The levels of the balls and of the links outside the dies, as last sampled or as driven. -/
structure Pins where
  /-- RESET_N and PERST_N, true when high, after the reset filter (R613). -/
  resetN : Bool := false
  perstN : Bool := false
  /-- I2C_ADDR_1 and I2C_ADDR_0 as latched at the last exit from Reset (R613). -/
  i2cAddr : Option Nat := none
  /-- THERMTRIP_N is driven low (R537). -/
  thermtrip : Bool := false
  /-- The PCIe link is up (R612). -/
  pcieUp : Bool := false
  /-- Bus Master Enable (R461). -/
  busMaster : Bool := false
  deriving DecidableEq, Repr

/-- A mailbox request as accepted (R85 to R88). -/
structure Req where
  opcode : Nat
  seq : Nat
  /-- Header word 1, [31:16]: QUIET 10, ASYNC 9, EXPERT 8. -/
  flags : Nat
  length : Nat
  target : Nat
  tag : Nat
  params : List Byte
  /-- 0 PCIe, 1 I2C, 2 SPI (R116). -/
  source : Nat
  /-- The SEQ written to the doorbell (R89). -/
  doorbell : Nat
  /-- Elapsed time of acceptance in ns, acceptance number, and the bound in ns that runs from acceptance (R97, R100). -/
  since : Nat
  order : Nat
  bound : Nat
  deriving DecidableEq, Repr

/-- A completion record (R104, R105). Phase 1 running, 2 unread, 3 read with KEEP. -/
structure Rec where
  phase : Nat
  mbx : Nat
  req : Req
  hdr : List Byte
  params : List Byte
  order : Nat
  /-- What the command noted when it started. -/
  note : Nat
  deriving DecidableEq, Repr

/-- A patch that PATCH_LOAD has checked and that waits for PATCH_INSTALL (R76). -/
structure Patch where
  /-- The mailbox that waits for the answer, or the completion record. -/
  exec : Exec
  req : Req
  level : Nat
  body : List Byte
  deriving DecidableEq, Repr

/-- The Teller (R84 to R122). -/
structure Tlr where
  /-- Teller memory, 8 MB of bytes. -/
  mem : Tab Byte := []
  /-- The eight mailbox areas by BAR0 offset, 0x1000 bytes each. -/
  area : Tab Byte := []
  /-- The last accepted request of each mailbox; it is in progress while MBX_STATUS.BUSY is 1. -/
  reqs : Tab (Option Req) := []
  /-- QUIET of the last completed request of each mailbox, for a replay (R90). -/
  quiet : Tab Bool := []
  recs : Tab (Option Rec) := []
  /-- The 256 history slots, 64 bytes each. -/
  hist : Tab (List Byte) := []
  /-- Requests accepted so far (R100). -/
  order : Nat := 0
  /-- Sources whose non-maskable trap waits for the next scheduling point (R566). -/
  traps : List Nat := []
  patch : Option Patch := none
  /-- When each running lease was granted, by grant unit (R115). -/
  leaseAt : Tab Nat := []
  /-- Elapsed time of the last reset, for the Teller time of R116. -/
  bootAt : Nat := 0
  deriving DecidableEq, Repr

/-- The Loader and what the Charter holds for later (R65 to R73). -/
structure Boot where
  /-- BUF_0 and BUF_1, by offset from BAR0 0x0080_0000. -/
  buf : Tab Byte := []
  /-- Accepted pages by index. -/
  pages : Tab (List Byte) := []
  /-- The board table in use; empty where none is. -/
  board : List Byte := []
  /-- The TABLES section of the running Charter. -/
  tables : List Byte := []
  /-- The CLERK section of the running Charter, which the Teller keeps (CLERK_CONTROL). -/
  clerk : List Byte := []
  /-- The Charter's register defaults, as (key, word) pairs. -/
  defaults : List (Nat × Nat) := []
  deriving DecidableEq, Repr

/-- A raise on its way to the Clearing House (R554). -/
structure Raise where
  src : Nat
  detail : Nat
  /-- Watch time, network-time stamp, mode and whether the time domain ran, as they stood at the raise (R558). -/
  watchNs : Nat
  stamp : Nat
  mode : Nat
  stampValid : Bool
  deriving DecidableEq, Repr

/-- A fault record (R558). -/
structure FaultRec where
  source : Nat
  origClass : Nat
  cls : Nat
  escalated : Bool
  railBreak : Bool
  acked : Bool
  reactions : Nat
  faultHold : Bool
  number : Nat
  watchNs : Nat
  stamp : Nat
  mode : Nat
  stampValid : Bool
  rept : Nat
  session : Nat
  detail : Nat
  cause : Nat
  deriving DecidableEq, Repr

/-- The Clearing House (R552 to R577), on VDD_AON. -/
structure Clh where
  /-- The 256 slots in slot order; slots are filled from 0. -/
  slots : List FaultRec := []
  /-- Raises held by the collector of each die (R556), oldest first. -/
  held : Tab (List Raise) := []
  /-- Raises at the central part, not yet handled. -/
  central : List Raise := []
  /-- Consecutive missing or bad frames of each collector. -/
  missing : Tab Nat := []
  /-- Grant units held in block reset, and those the Teller still rewrites (R567). -/
  inReset : List Nat := []
  restoring : List Nat := []
  /-- The Teller's record of the configuration of those units: register words by key, and array bytes by offset (R567). -/
  savedRegs : Tab Word := []
  savedArrays : Tab Byte := []
  /-- Groups in a holdoff, with whether a merged raise waits (R572). -/
  holdoff : Tab (Option Bool) := []
  deriving DecidableEq, Repr

/-- A domain switch in progress: the source it goes to (0 primary, 1 fallback) and whether the monitor began it (R136, R137). -/
structure Switch where
  dest : Nat
  auto : Bool
  deriving DecidableEq, Repr

/-- A toggle crossing: pulses that wait and whether one is unacknowledged (R145). -/
structure Toggle where
  pend : Nat := 0
  unacked : Bool := false
  deriving DecidableEq, Repr

/-- A bundle crossing: its frozen holding register and the waiting value (R148). -/
structure Bundle where
  held : Option Nat := none
  waiting : Option Nat := none
  /-- The value the destination last took. -/
  seen : Nat := 0
  deriving DecidableEq, Repr

/-- Clock monitors, switches and crossings (R123 to R158). -/
structure Ckg where
  /-- Consecutive failed intervals of each source (R129). -/
  fails : Tab Nat := []
  switch : Tab (Option Switch) := []
  /-- Intervals of the watch trim's binary search that have passed (R132). -/
  trimStep : Nat := 0
  /-- The hold of R140 began before the watch oscillator had qualified. -/
  holdEarly : Bool := false
  /-- Toggle and bundle crossings, by 65,536 × die + number. -/
  toggles : Tab Toggle := []
  bundles : Tab Bundle := []
  deriving DecidableEq, Repr

/-- A signature a Stitch transmitter holds for replay (R180 to R186). -/
structure TxSig where
  seq : Nat
  data : List Byte
  deriving DecidableEq, Repr

/-- The Stitch link of a lane (R176 to R189). -/
structure Stitch where
  /-- Hunting: symbol position tried and run of valid headers (R178). -/
  pos : Nat := 0
  run : Nat := 0
  /-- The validity of up to 64 last headers in lock, newest first. -/
  win : List Bool := []
  /-- SEQ predicted for the signature now arriving, and NEXT_SEQ of the last control block; none where unknown (R186). -/
  cur : Option Nat := none
  next : Option Nat := none
  /-- Consecutive valid control blocks received in a retrain (R188). -/
  train : Nat := 0
  /-- The retrain has ended and the partner's first numbered signature is awaited. -/
  trained : Bool := false
  /-- NAK_SEQ and RESUME_FRAME of the NAK now sent, and the time of the first control block that carried it (R182, R185). -/
  nakSeq : Nat := 0
  resume : Nat := 0
  nakSince : Option Nat := none
  /-- The bytes received of the stream that are not yet delivered; a frame in progress begins with its lead. -/
  stream : List Byte := []
  /-- Signatures held for replay, oldest first. -/
  held : List TxSig := []
  /-- Frames sent and not fully acknowledged: FRAME_NUM, SEQ of the lead's signature, SEQ of the last signature (R183, R188). -/
  sentFrames : List (Nat × Nat × Nat) := []
  /-- NAK_SEQ and NAK_COUNT last acted on (R183). -/
  lastNak : Option (Nat × Nat) := none
  /-- SEQ of the held signature to send next in a replay. -/
  replay : Option Nat := none
  /-- Encapsulated frames handed over and not yet in a signature: FRAME_NUM, express, whether started, the bytes left. -/
  txq : List (Nat × Bool × Bool × List Byte) := []
  /-- The last signature sent: 31 data-block payloads as they stand on the line and the control-block payload. -/
  line : List Byte := []
  /-- Received frames for the MAC, oldest first: class, express, bytes, ended bad, STAMP if valid. -/
  inbox : List (Nat × Bool × List Byte × Bool × Option Nat) := []
  deriving DecidableEq, Repr

/-- A lane (R159 to R194). -/
structure Lane where
  /-- The transmit PLL is locked. -/
  pll : Bool := false
  /-- The lane descriptor kept while the lane stays enabled across a load of a new board table (R196). -/
  descHeld : Option Nat := none
  /-- Consecutive error-free symbols, and the errors among the last 64 symbols, of the checker (R191). -/
  chkRun : Nat := 0
  chkWin : List Bool := []
  /-- Symbols compared beyond the last whole unit of 65,536. -/
  chkRest : Nat := 0
  /-- Corrected symbols of the present FEC window (R175). -/
  fecSyms : Nat := 0
  /-- Symbols sent since the last periodic injection, and errored symbols still to inject (R192). -/
  injLeft : Nat := 0
  /-- Injected symbol errors so far (the model's own count of what the line carried). -/
  injected : Nat := 0
  /-- A margin scan: completion record, points measured, EQ_CHANGED, host address (R194). -/
  scan : Option (Nat × Nat × Bool × Nat) := none
  deriving DecidableEq, Repr

/-- A frame descriptor (R336), with what finishing has of the frame's parse record and stamps beside it. -/
structure Desc where
  next : Nat := 0
  length : Nat := 0
  shared : Bool := false
  first : Nat := 0
  pool : Nat := 0
  unit : Nat := 0
  cls : Nat := 0
  colour : Nat := 0
  launch : Option Nat := none
  marginalia : Bool := false
  bad : Bool := false
  host : Bool := false
  ingress : Nat := 0
  enqStamp : Nat := 0
  edit : Nat := 0
  annotate0 : Nat := 0
  annotate1 : Nat := 0
  pocket : List Byte := []
  /-- The parse record (of a result copy, its member's entry, R445), the receive stamp (ns × 65,536 + FRAC) and whether it is stale, the folios the frame holds, and the punt reason. -/
  record : List Byte := []
  rxStamp : Nat := 0
  stale : Bool := false
  folios : Nat := 0
  reason : Nat := 0
  /-- The number of the frame it came from (the model's own). -/
  frameId : Nat := 0
  /-- The posting the frame took (R18), the marginalia records recognised at its end (R512), and its time-stamp request: 0 none, 1 two-step,
  2 one-step, with its TAG and the inject channel it came by (R408). -/
  posting : Nat := 0
  trailers : Nat := 0
  req : Nat := 0
  tag : Nat := 0
  chan : Nat := 0
  deriving DecidableEq, Repr

/-- A frame copy on its way out: selected, cut through, or of the express path. -/
structure Copy where
  port : Nat
  /-- Queue 0 to 15, or 16 for the express path. -/
  queue : Nat
  /-- Its descriptor in the vault, if it was stored. -/
  desc : Option Nat
  /-- The bytes the MAC sends, edits of finishing made. -/
  bytes : List Byte
  /-- What its descriptor held, or would hold had it been stored. -/
  info : Desc
  /-- Cut through or of the express path: it may still be found bad. -/
  cut : Bool
  /-- Ended with the complement of its FCS (R23). -/
  stomp : Bool
  /-- Its last 32 bytes before the FCS are the record that finishing appended (R511). -/
  trailer : Bool := false
  /-- Its transmit stamp (R400), once its stamp point has passed. -/
  txStamp : Option Nat := none
  frameId : Nat := 0
  deriving DecidableEq, Repr

/-- A frame being sent by a MAC: the number of its copy, whether it uses the express MAC, when the present fragment started, the bytes sent
in earlier fragments, and whether it was selected under fit-check (R419). -/
structure Sending where
  copy : Nat
  express : Bool
  since : Nat := 0
  sent : Nat := 0
  fit : Bool := false
  /-- A launch frame that the MAC holds until its launch time (R411). -/
  held : Bool := false
  deriving DecidableEq, Repr

/-- A MAC's own state beside its registers (R198 to R230), by the port's lowest lane. -/
structure Mac where
  /-- Times of the falls of OPER_UP in the last 10 s (R209). -/
  flaps : List Nat := []
  /-- The frame on the wire, and a preempted frame's remainder (R374). -/
  sending : Option Sending := none
  preempted : Option Sending := none
  /-- The remainder was cut by a closing gate and waits for it (R374). -/
  cutByGate : Bool := false
  /-- The queues each running pause timer pauses (R227), by priority. -/
  paused : Tab Nat := []
  /-- The time since which a priority has been paused without a break (R218). -/
  pausedSince : Tab (Option Nat) := []
  /-- When each running pause timer was last loaded (R218). -/
  timerAt : Tab Nat := []
  /-- The last control frame the MAC sent of its own: 1 PFC, 2 verify, 3 respond, 4 remote fault, 5 idle for a fault; and a PFC frame's bytes. -/
  control : Nat × List Byte := (0, [])
  /-- The last frame that was sent to its end, as the line carried it. -/
  wire : List Byte := []
  deriving DecidableEq, Repr

/-- A link record, with its folio's bitmap bit (R334, R335, R348). -/
structure Link where
  next : Nat := 0
  count : Nat := 0
  unit : Nat := 0
  pool : Nat := 0
  free : Bool := true
  deriving DecidableEq, Repr

/-- The vault (R332 to R357). Folio contents and link records by folio number, descriptors by 81,920 × die + number. -/
structure Vlt where
  data : Tab (List Byte) := []
  links : Tab Link := []
  descs : Tab (Option Desc) := []
  /-- What the free descriptors still hold, as a raw read finds it (R587). -/
  spent : Tab (Option Desc) := []
  /-- When each pool began to ask for XOFF, by 2 × pool + die. -/
  xoffSince : Tab (Option Nat) := []
  deriving DecidableEq, Repr

/-- A received or injected frame on its way to classification. -/
structure Frame where
  /-- A number of the model's own. -/
  id : Nat
  port : Nat
  /-- From destination address to FCS. -/
  bytes : List Byte
  bad : Bool
  /-- The Stitch class, on a Stitch lane (R270). -/
  stitchClass : Option Nat
  /-- The receive stamp (ns × 65,536 + FRAC) and whether it is stale (R44). -/
  rxStamp : Nat
  stale : Bool
  /-- The inject channel of a PIPELINE frame (R486). -/
  inject : Option Nat
  /-- STAMP of a Stitch lead with STAMP_VALID (R409). -/
  leadStamp : Option Nat := none
  /-- The marginalia records recognised at its end (R512), and an injected frame's time-stamp request and TAG (R484). -/
  trailers : Nat := 0
  req : Nat := 0
  tag : Nat := 0
  deriving DecidableEq, Repr

/-- A frame with its parse record (R242). -/
structure Parsed where
  frame : Frame
  record : List Byte
  deriving DecidableEq, Repr

/-- Parser front ends and the punt limiter (R231 to R261). -/
structure Prs where
  /-- Frames a front end has accepted and not yet parsed, oldest first, by pipeline. -/
  fe : Tab (List Frame) := []
  /-- Records sent to the classifier, and express records sent to the spine, oldest first, by pipeline. -/
  toCls : Tab (List Parsed) := []
  toExp : Tab (List Parsed) := []
  /-- Frames whose record left before they ended: number, pipeline, pending_end (R241). -/
  late : List (Nat × Nat × Nat) := []
  /-- The Teller's copy of the parser tables and whether the next entry to Provisioned writes it (R251). -/
  copy : List Byte := []
  fresh : Bool := false
  /-- The image last written to each bank, by 2 × pipeline + bank, and entries found with a parity error (R255). -/
  bankCopy : Tab (List Byte) := []
  parity : List Nat := []
  /-- Punt tokens with 32 fraction bits, by reason (R248). -/
  puntTokens : Tab Nat := []
  nextFrame : Nat := 0
  deriving DecidableEq, Repr

/-- A TIME pin beside its registers (R413, R414): the next pulse's start and the end of the pulse in progress in ns of network time, and the
last captured edge in units of 2^−16 ns. -/
structure Pin where
  next : Option Nat := none
  pulseEnd : Option Nat := none
  last : Option Nat := none
  deriving DecidableEq, Repr

/-- The gate engine of a port (R416, R417): a list has started, T_c of a pending list and of a pending end of gating in ns of network time,
and the last cycle of the list that has been counted. -/
structure Gate where
  started : Bool := false
  tc : Option Nat := none
  endTc : Option Nat := none
  cycle : Option Nat := none
  deriving DecidableEq, Repr

/-- Network time (R389 to R428). -/
structure Tim where
  /-- Network time in units of 2^−16 ns, and what remains below a unit, in units of 10^−6 of it (R394). -/
  net : Nat := 0
  rest : Nat := 0
  /-- Time that has passed in the time domain, steps and slews left out, in units of 2^−16 ns (R398). -/
  flow : Nat := 0
  /-- The offset a slew has still to move, in units of 10^−6 × 2^−16 ns (R396). -/
  slew : Int := 0
  /-- A lock assertion stands (R390, R424). -/
  asserted : Bool := false
  /-- Consecutive PPS marks within the window, whether they have met R390 without loss under R392, and the error of the last mark where it
  lay outside. -/
  inWindow : Nat := 0
  ppsGood : Bool := false
  lastOut : Option Int := none
  pins : Tab Pin := []
  gates : Tab Gate := []
  /-- The phase each port requests from the governor (R422). -/
  phase : Tab (Option Nat) := []
  deriving DecidableEq, Repr

/-- Tokens of a shaper or policer in its own units, and the time in the time domain up to which they are filled (R367). -/
structure Bucket where
  tok : Int := 0
  flow : Nat := 0
  deriving DecidableEq, Repr

/-- What an egress queue observes between samples (R381): frames dequeued and their largest delay. -/
structure Observed where
  frames : Nat := 0
  delay : Nat := 0
  deriving DecidableEq, Repr

/-- The schedulers (R358 to R388) beside their registers. A bucket or purse that is not listed is full. -/
structure Qsc where
  /-- The first entry to Provisioned has taken place: buckets and purses hold what R382 gives. -/
  started : Bool := false
  /-- last_finish of each queue (R365), and the backlogged queues that were eligible when their port last tested them. -/
  lastFinish : Tab Nat := []
  elig : Tab Bool := []
  /-- Queues whose head launch frame was late when it reached the head (R410). -/
  late : Tab Bool := []
  queueTok : Tab (Option Bucket) := []
  portTok : Tab (Option Bucket) := []
  expTok : Tab (Option Bucket) := []
  /-- Purses in 1/16 pJ, by pipeline (R370). -/
  purse : Tab (Option Int) := []
  /-- Express-path frames that wait for their port, oldest first (R378, R379). -/
  hold : Tab (List Frame) := []
  seen : Tab Observed := []
  deriving DecidableEq, Repr

/-- A frame that classification forwards, on its way to enqueue. -/
structure Routed where
  frame : Frame
  record : List Byte
  cls : Nat
  colour : Nat
  queue : Nat
  posting : Nat
  /-- The ports it goes to, each with its edit index; more than one only for a replicated frame (R312). -/
  egress : List (Nat × Nat)
  annotate0 : Nat := 0
  annotate1 : Nat := 0
  /-- Its ingress port, the sampling of its ingress port or a rule selects marginalia (R509). -/
  marked : Bool := false
  deriving DecidableEq, Repr

/-- A POST that awaits T (R280): T in units of 2^−16 ns, the mailbox that waits, and the dies that have switched (bit 0 West, bit 1 East). -/
structure Posting where
  time : Nat
  mbx : Nat
  switched : Nat := 0
  deriving DecidableEq, Repr

/-- A meter's tokens in units of 1 ÷ (65,536 × 10^6) byte, and the time in the time domain up to which they are filled (R274). -/
structure Meter where
  c : Int := 0
  e : Int := 0
  flow : Nat := 0
  deriving DecidableEq, Repr

/-- The classifier (R262 to R292) beside its registers and its stores. -/
structure Cls where
  /-- Forwarded frames by ingress pipeline, and frames addressed to the Counting House with their posting, oldest first. -/
  toEnq : Tab (List Routed) := []
  toCth : Tab (List (Parsed × Nat)) := []
  post : Option Posting := none
  /-- Postings that OLDEST has reached and the Clerks of each die have not yet worked on (R283). -/
  work : Tab (List Nat) := []
  meters : Tab Meter := []
  /-- Frames of each ingress port since its last sampled one (R509). -/
  sampled : Tab Nat := []
  deriving DecidableEq, Repr

/-- A learn record (R304): the frame that made it, its pipeline, its ledger and key, the RESULT to write, and whether it asks for a station
move. -/
structure Learn where
  frameId : Nat
  pipe : Nat
  bad : Bool
  ledger : Nat
  key : List Byte
  result : Nat
  move : Bool
  deriving DecidableEq, Repr

/-- What a Clerk keeps at a commit point: registers, flags and path memory, and the resume address (R321). -/
structure Cursor where
  regs : List Nat := []
  flags : Nat := 0
  path : List Nat := []
  resume : Nat := 0
  deriving DecidableEq, Repr

/-- A Clerk beside its registers (R310 to R325). -/
structure Clerk where
  /-- Learn records released to its queue (R306). -/
  learn : List Learn := []
  /-- Slots with bad parity that wait for a scrub: replica and slot number (R314). -/
  scrub : List (Nat × Nat) := []
  /-- Buckets that the sweep scheduler's pace has made due and that are not yet started (R310). -/
  due : Nat := 0
  /-- The learn record in work, and the words of the work record. -/
  work : Option Learn := none
  words : List Nat := []
  /-- The buckets that the four images were read from. -/
  buckets : List Nat := [0, 0, 0, 0]
  /-- Buckets of replicated writes not yet acknowledged, oldest first, and whether the microword issued last waits for its own. -/
  posted : List Nat := []
  waiting : Bool := false
  /-- The table has been written since the last commit point; the cursors of the last and of the first commit point. -/
  wrote : Bool := false
  last : Cursor := {}
  first : Option Cursor := none
  /-- An urgent request stands: 1 from a mailbox, 2 from a fault reaction (R321, R322). -/
  urgent : Nat := 0
  /-- The Clerk is halted by CLRK_CTL.HALT, not by a fault. -/
  byHalt : Bool := false
  /-- Buckets of the present sweep that have been started, and whether its period has ended (R310). -/
  swept : Nat := 0
  overran : Bool := false
  deriving DecidableEq, Repr

/-- The ledgers and the Clerks (R293 to R331). -/
structure Ldg where
  /-- Learn records whose frame has not yet been accepted whole, oldest first (R304). -/
  held : List Learn := []
  clerks : Tab Clerk := []
  /-- The privileged ledger of each audit slot (R315). -/
  audit : Tab (Option Nat) := []
  deriving DecidableEq, Repr

/-- An element of an open chunk (R440, R441, R443): the exact sum in units of the type's smallest subnormal, its flags, and for min and max the
encoding chosen so far. -/
structure Acc where
  sum : Int := 0
  nan : Bool := false
  posInf : Bool := false
  negInf : Bool := false
  allNegZero : Bool := true
  best : Option Nat := none
  deriving DecidableEq, Repr

/-- A chunk buffer (R436 to R449). Phase 1 open, 2 complete, 3 complete and refused by the vault, 4 done, 5 abandoned. -/
structure Chunk where
  number : Nat
  phase : Nat
  count : Nat
  /-- The arrival bitmap. -/
  arrived : Nat := 0
  elems : List Acc := []
  /-- When its first contribution had been accumulated, and whether its straggler has been reported. -/
  since : Option Nat := none
  straggled : Bool := false
  /-- The payload of its result. -/
  result : List Byte := []
  deriving DecidableEq, Repr

/-- A contribution that is being accumulated: member, buffer and elements. -/
structure Contribution where
  member : Nat
  buffer : Nat
  elems : List Nat
  deriving DecidableEq, Repr

/-- A syndicate beside its registers: its buffers, the contribution in work, the throttle level it keeps (R447) and the members ever loaded. -/
structure Syndicate where
  chunks : Tab (Option Chunk) := []
  work : Option Contribution := none
  level : Nat := 8
  loaded : Nat := 0
  deriving DecidableEq, Repr

/-- The Counting House (R429 to R457): intake queues by 256 × die + syndicate, and the time of each member's last error frame by
1,024 × syndicate + member. -/
structure Cth where
  intake : Tab (List Parsed) := []
  syns : Tab Syndicate := []
  errAt : Tab (Option Nat) := []
  deriving DecidableEq, Repr

/-- A DMA descriptor as fetched (R465): its host address and its eight words. -/
structure DmaDesc where
  at_ : Nat
  words : List Nat
  deriving DecidableEq, Repr

/-- A read request of a channel: a burst's first byte within the descriptor, its length, and the bytes of it that have arrived (R468). -/
structure DmaBurst where
  start : Nat
  len : Nat
  got : Nat := 0
  deriving DecidableEq, Repr

/-- A DMA channel beside its registers (R462 to R491). -/
structure Chan where
  /-- The data descriptor in hand, the bytes of it requested, and the bytes confirmed in good order. -/
  cur : Option DmaDesc := none
  asked : Nat := 0
  good : Nat := 0
  /-- Read bursts outstanding, oldest first, and bursts that timed out and may still complete (R475). -/
  bursts : List DmaBurst := []
  late : Nat := 0
  /-- A beat failed, or device memory could not be read: the status that waits for the other completions, and the byte it failed at. -/
  bad : Option (Nat × Nat) := none
  /-- The first mismatch of a COMPARE so far. -/
  diff : Option Nat := none
  /-- An abort waits for the bursts in progress. -/
  aborting : Bool := false
  /-- The bytes of an injected frame so far, its metadata words 0, 4 and 5, its descriptors still to be written back, and whether its last
  descriptor is in. -/
  frame : List Byte := []
  frameMeta : Option (Nat × Nat × Nat) := none
  frameDescs : List DmaDesc := []
  whole : Bool := false
  /-- Descriptors a punt channel has fetched ahead. -/
  ahead : List DmaDesc := []
  /-- An interrupt holdoff runs, and a completion waits for its end (R471). -/
  holding : Bool := false
  holdWaits : Bool := false
  deriving DecidableEq, Repr

/-- The DMA engine beside its registers. -/
structure Dma where
  chans : Tab Chan := []
  /-- Tokens of the inject channels (R487). -/
  injTok : Tab (Option Bucket) := []
  /-- The channel last granted at each level, by arbiter (0 reads, 1 writes) × 4 + level (R468). -/
  lastGrant : Tab Nat := []
  deriving DecidableEq, Repr

/-- A tally-store update on its way (R504): the offset of the counter in the store, the amount, and its epoch. -/
structure TallyUpd where
  off : Nat
  n : Nat
  epoch : Nat
  deriving DecidableEq, Repr

/-- A book that has been taken and is being drained (R503 to R507): its slot and number, T in ns, whether a step took it, whether the part was
in Holdover, the dies that were stale, the epoch from which events are not in it, whether every marker has arrived, the shadows of the units'
registers, and the offsets of the tally store whose shadow has been taken. -/
structure Book where
  slot : Nat
  seq : Nat
  time : Nat
  stepped : Bool
  holdover : Bool
  stale : Nat
  epoch : Nat
  markers : Bool
  shadows : Tab Word
  taken : Tab Bool := []
  deriving DecidableEq, Repr

/-- The tally reader (R498 to R508) beside its registers and its store. -/
structure Tly where
  updates : List TallyUpd := []
  /-- Captures taken so far: the epoch of an update made now. -/
  epoch : Nat := 0
  /-- Slots that hold an open book, those whose T a forward step has passed, and the book that the shadows hold. -/
  booked : List Nat := []
  passed : List Nat := []
  book : Option Book := none
  /-- The unit and the counter that the collection ring brings next (R499). -/
  ringUnit : Nat := 0
  ringCnt : Nat := 0
  deriving DecidableEq, Repr

/-- A one-point step of a die (R526, R530): the point it goes to; phase 0 waiting for 64 ns without droop, 1 waiting for the raised supply,
2 the divider's 4 cycles. -/
structure OpStep where
  dest : Nat
  phase : Nat
  deriving DecidableEq, Repr

/-- The governor (R521 to R551) beside its registers. -/
structure Gov where
  /-- The step of each die. -/
  step : Tab (Option OpStep) := []
  /-- Dies whose detectors report droop; droops of the present 10 µs window; consecutive windows without STEP_COUNT droops (R528, R532). -/
  droop : Tab Bool := []
  window : Tab Nat := []
  calm : Tab Nat := []
  /-- The microsecond in which a quire die last stretched, and its stretched cycles in it (R529). -/
  stretched : Tab (Nat × Nat) := []
  /-- TRIP_PENDING (R536). -/
  tripPending : Bool := false
  /-- The raises of the cap level that stand, newest first: a die whose cap limit moved, 10 for purse budgeting, 11 for a gated slot (R540). -/
  raises : List Nat := []
  /-- The estimates of the last periods, newest first, in 1/16 W, over which p is averaged. -/
  powers : List Nat := []
  /-- Periods since the last tick, those of them with p above CAP_W, and consecutive periods with p below CAP_W − RELEASE_W and no raise. -/
  ticks : Nat := 0
  above : Nat := 0
  below : Nat := 0
  /-- Energy debited from all purses since the last period, in 1/16 pJ (R541). -/
  debited : Nat := 0
  /-- Tenths of a microsecond of each reason not yet in GOV_REASON_US, by 8 × die + reason − 1 (R547). -/
  tenths : Tab Nat := []
  deriving DecidableEq, Repr

/-- The states of an IEEE 1149.1 test access port (R617). -/
inductive Tap where
  | testLogicReset | runTestIdle
  | selectDr | captureDr | shiftDr | exit1Dr | pauseDr | exit2Dr | updateDr
  | selectIr | captureIr | shiftIr | exit1Ir | pauseIr | exit2Ir | updateIr
  deriving DecidableEq, Repr

/-- What a test instruction selects: the IDCODE register, the bypass register, or a boundary-scan instruction's register. -/
inductive TapInstr where
  | idcode | bypass | boundary
  deriving DecidableEq, Repr

/-- The test access port (R617). -/
structure Jtag where
  tap : Tap := .testLogicReset
  instr : TapInstr := .idcode
  /-- The selected data register between TDI and TDO, the bit next to TDO first. -/
  dr : List Bool := []
  /-- The bits shifted into the instruction register since it was captured, oldest first. -/
  ir : List Bool := []
  /-- What JTAG_TDO drives; none at high impedance. -/
  tdo : Option Bool := none
  deriving DecidableEq, Repr

/-- The machine. -/
structure State where
  /-- The commands that wait, first in first out. -/
  pending : List Instr := []
  /-- Nanoseconds since VDD_AON power-on. -/
  now : Nat := 0
  /-- The number of free values taken so far (the model's own field). -/
  fresh : Nat := 0
  /-- The register file: registers that differ from their reset value, by key. -/
  regs : Tab Word := []
  pins : Pins := {}
  boot : Boot := {}
  tlr : Tlr := {}
  clh : Clh := {}
  ckg : Ckg := {}
  /-- Host memory as the block reaches it: a listed address answers with its byte, an unlisted one does not answer (log entry 10). -/
  host : Tab (Option Byte) := []
  lanes : Tab Lane := []
  stitch : Tab Stitch := []
  macs : Tab Mac := []
  vlt : Vlt := {}
  /-- Frame copies on their way out, by a number of the model's own, and the next number. -/
  copies : Tab (Option Copy) := []
  nextCopy : Nat := 0
  /-- The descriptors each egress queue holds, head first, by queue number 16p + k. -/
  queues : Tab (List Nat) := []
  qsc : Qsc := {}
  prs : Prs := {}
  tim : Tim := {}
  cls : Cls := {}
  ldg : Ldg := {}
  cth : Cth := {}
  tly : Tly := {}
  gov : Gov := {}
  dma : Dma := {}
  /-- The arrays that lie in BAR2 beside the registers (parser tables, gate lists, meters and the like), bytes by offset. -/
  arrays : Tab Byte := []
  /-- The descriptors each host queue holds, head first (R480). -/
  hostqs : Tab (List Nat) := []
  /-- Pipelines whose front-end backlog asks their MACs for XOFF, bit i for pipeline i (R527). -/
  feXoff : Nat := 0
  jtag : Jtag := {}
  /-- MSI-X vectors sent, newest last. -/
  msix : List Nat := []
  /-- The latches of R581, by requester × 2^32 + LO key. -/
  loLatch : Tab Word := []
  /-- The data the last read access returned (the model's own output). -/
  readData : List Byte := []
  deriving DecidableEq, Repr

/-- The machine right after VDD_AON power-on: in Reset, every register at its reset value, every store empty. -/
def State.reset : State := {}

/-- Why the machine stops with a fault. No rule of the spec stops the block, so no meaning raises it. Safe. -/
inductive Fault where
  /-- Raised by no meaning; safe. -/
  | unreachable
  deriving DecidableEq, Repr

/-- Why a command has no meaning. -/
inductive Refusal where
  /-- Raised only by an arm of `exec` for a command not yet modelled; safe. -/
  | notModelled (mnemonic : String)
  deriving DecidableEq, Repr

end Sys2Proof.Machine
end

