-- ==== Sys2Proof/Machine/Ops.lean ====
section
/-! DEFINITION. The operations every meaning is written with: registers and their fields, saturating counts, raises, free values,
MSI-X messages, grant units and the reach of a reset. -/
namespace Sys2Proof.Machine

/-- Offset of flat index `i` by the (count, stride) pairs of a heading, innermost first (R584). -/
def dimsAddr : List (Nat × Nat) → Nat → Nat
  | [], _ => 0
  | [(_, st)], i => i * st
  | (c, st) :: t, i => (i % c) * st + dimsAddr t (i / c)

/-- Key of instance `i` of a register set (R584, R585). -/
def Reg.key (r : Reg) (i : Nat) : Nat := r.base + dimsAddr r.dims i

/-- The number of instances of a register set. -/
def Reg.count (r : Reg) : Nat := r.dims.foldl (fun a d => a * d.1) 1

/-- The flat index that an offset from `base` has, if it names an instance. -/
def dimsIndex : List (Nat × Nat) → Nat → Option Nat
  | [], off => if off = 0 then some 0 else none
  | [(c, st)], off =>
    if st = 0 then (if off = 0 then some 0 else none)
    else if off % st = 0 then (if off / st < c then some (off / st) else none) else none
  | (c, st) :: t, off =>
    let outer := (t.getLast?.map Prod.snd).getD 0
    let inner := t.foldl (fun o d => o % d.2) off
    if outer = 0 then none
    else if inner % st = 0 then
      (if inner / st < c then (dimsIndex t (off - inner)).map fun k => k * c + inner / st else none)
    else none

/-- The register set and instance that a key names, if any (R579). -/
def findReg (a : Nat) : Option (Reg × Nat) :=
  (regsNear a).findSome? fun r => if r.base ≤ a then (dimsIndex r.dims (a - r.base)).map fun i => (r, i) else none

/-- The value register instance `i` holds. -/
def State.rd (s : State) (r : Reg) (i : Nat) : Nat :=
  match Tab.find? s.regs (r.key i) with
  | some w => w.toNat
  | none => r.rst i

/-- The register file with word `v` at key `k`, whose reset value is `d`. -/
def regPut (t : Tab Word) (k d v : Nat) : Tab Word :=
  if v % 2 ^ 32 = d then Tab.erase t k else Tab.insert t k (BitVec.ofNat 32 v)

/-- Register instance `i` set to `v`. -/
def State.wr (s : State) (r : Reg) (i v : Nat) : State := { s with regs := regPut s.regs (r.key i) (r.rst i) v }

/-- A field of register instance `i`. -/
def State.fld (s : State) (f : Fld) (i : Nat) : Nat := bits (s.rd f.reg i) f.lo f.wd

/-- A field of register instance `i` set to `v`, cut to the field's width. -/
def State.setF (s : State) (f : Fld) (i v : Nat) : State := s.wr f.reg i (putBits (s.rd f.reg i) f.lo f.wd v)

/-- Whether a one-bit field is 1. -/
def State.flag (s : State) (f : Fld) (i : Nat) : Bool := s.fld f i == 1

/-- A field advanced by `n`, stopping at its largest value. -/
def State.addSat (s : State) (f : Fld) (i n : Nat) : State := s.setF f i (satBits f.wd (s.fld f i + n))

/-- A field advanced by 1, stopping at its largest value. -/
def State.inc (s : State) (f : Fld) (i : Nat) : State := s.addSat f i 1

/-- A field lowered by 1, stopping at 0. -/
def State.dec (s : State) (f : Fld) (i : Nat) : State := s.setF f i (s.fld f i - 1)

/-- A status bit set by hardware, with its companion occurrence count, which stops at its largest value (R7). -/
def State.setCounted (s : State) (b c : Fld) (i : Nat) : State := (s.setF b i 1).inc c i

/-- The value of a LO and HI register pair. -/
def State.rd64 (s : State) (lo hi : Reg) (i : Nat) : Nat := s.rd lo i + 2 ^ 32 * s.rd hi i

/-- A LO and HI register pair set to a value. -/
def State.wr64 (s : State) (lo hi : Reg) (i v : Nat) : State := (s.wr lo i (v % 2 ^ 32)).wr hi i (v / 2 ^ 32 % 2 ^ 32)

/-- A LO and HI counter pair advanced by `n`, modulo 2^64. -/
def State.add64 (s : State) (lo hi : Reg) (i n : Nat) : State := s.wr64 lo hi i (s.rd64 lo hi i + n)

/-- A LO and HI counter pair advanced by `n`, stopping at 2^64 − 1. -/
def State.count64 (s : State) (lo hi : Reg) (i n : Nat) : State := s.wr64 lo hi i (min (s.rd64 lo hi i + n) (2 ^ 64 - 1))

/-- Applies an update for each element of a list, in order. -/
def State.each {α : Type} (s : State) (l : List α) (f : α → State → State) : State := l.foldl (fun s a => f a s) s

/-- Applies an update only where a condition holds. -/
def State.onlyIf (s : State) (b : Bool) (f : State → State) : State := if b then f s else s

/-- The present mode (R45). -/
def State.mode (s : State) : Nat := s.fld F.GLB_MODE_MODE 0

/-- A value the spec leaves open: the next free value (log entry 3). -/
def State.freeVal (s : State) : Nat := Config.freeValue s.fresh

/-- The state after a free value has been taken. -/
def State.tookFree (s : State) : State := { s with fresh := s.fresh + 1 }

/-- The die of a lane, port or queue's quire; 0–7 quire dies, 8 West, 9 East (R13). -/
def dieOfLane (n : Nat) : Nat := n / 128

/-- The spine die of a lane, port or pipeline: 0 West, 1 East (R12, R13). -/
def spineOfLane (n : Nat) : Nat := n / 512

/-- The die on which a source lies (R12): quire groups on their quire die, governor and tally reader on East, the rest on West. -/
def srcDie (src : Nat) : Nat :=
  let g := src / 64
  if 16 ≤ g then (g - 16) / 10 else if g = 4 then 9 else if g = 8 then 9 else 8

/-- Whether a source lies on the VDD_AON island and so reaches the central part without a collector of a clocked die: the Clearing
House's own, the rail monitors, the latched clock fault and the trip comparators (R42, R58, R140, R537; DEDUCED, log entry 8). -/
def srcOnIsland (src : Nat) : Bool :=
  src / 64 == 3 || src == E.PWR_RAIL_ABSENT || src == E.CKG_NO_QUALIFIED_SOURCE || src == E.GOV_THERMTRIP || src == E.GLB_FAULT_HOLD

/-- A reported stamp of an instant in units of 2^−16 ns (R402). -/
def stampOf (t : Nat) : Nat := t / 65536 % 2 ^ 32

/-- The time domain runs (R45, R389). -/
def State.timeRuns (s : State) : Bool := bit 0x7C s.mode && s.flag F.CKG_DOMAIN_STATUS_RUNNING 4

/-- A raise of a source now, as its record will show it (R558). -/
def State.raiseNow (s : State) (src detail : Nat) : Raise :=
  ⟨src, detail % 2 ^ 32, s.now, stampOf s.tim.net, s.mode, s.timeRuns⟩

/-- A source raises: its raise waits in its die's collector, or at the central part for the island's own sources (R554). -/
def State.raise (s : State) (src detail : Nat) : State :=
  if srcOnIsland src then { s with clh := { s.clh with central := s.clh.central ++ [s.raiseNow src detail] } }
  else
    let d := srcDie src
    let q := Tab.get [] s.clh.held d
    { s with clh := { s.clh with held := Tab.set [] s.clh.held d (q ++ [s.raiseNow src detail]) } }

/-- A source raises whose chapter gives no DETAIL: the record's DETAIL is a free value (R558, log entry 3). -/
def State.note (s : State) (src : Nat) : State := (s.raise src s.freeVal).tookFree

/-- Sends MSI-X vector `v`, which needs the link up (R62, R459). Entry `v` of the MSI-X table with its mask bit set holds the message
pending instead. -/
def State.sendMsi (s : State) (v : Nat) : State :=
  if !s.pins.pcieUp then s
  else if bit (s.rd R.MSIX_TABLE (4 * v + 3)) 0 then
    s.wr R.MSIX_PBA (v / 32) (s.rd R.MSIX_PBA (v / 32) ||| 2 ^ (v % 32))
  else { s with msix := s.msix ++ [v] }

/-! ### Grant units (R112), numbered as TLR_LEASE indexes them: 0–11 the blocks, 12 + 6q + k sub-block k of quire q. -/

/-- The block code of a grant unit (R108). -/
def unitCode (u : Nat) : Nat :=
  if u < 12 then [0x02, 0x04, 0x05, 0x06, 0x08, 0x20, 0x28, 0x29, 0x30, 0x38, 0x40, 0x48].getD u 0 else 0x10 + (u - 12) % 6

/-- The grant unit of a block code and quire, if it can be granted. -/
def unitOf (code quire : Nat) : Option Nat :=
  if 0x10 ≤ code ∧ code ≤ 0x15 then some (12 + 6 * quire + (code - 0x10))
  else ([0x02, 0x04, 0x05, 0x06, 0x08, 0x20, 0x28, 0x29, 0x30, 0x38, 0x40, 0x48].idxOf? code)

/-- The grant unit that owns a BAR2 offset (R578), raw windows left out. -/
def unitOfOffset (a : Nat) : Option Nat :=
  let b := a / 0x1000000
  if b = 2 then some 0 else if b = 4 then some 1 else if b = 5 then some 2
  else if b = 6 ∨ b = 7 then some 3
  else if 8 ≤ b ∧ b < 0x10 then some 4
  else if 0x10 ≤ b ∧ b < 0x20 then
    (let k := (a / 0x100000) % 16
     if k < 6 then some (12 + 6 * (b - 0x10) + k) else none)
  else if 0x20 ≤ b ∧ b < 0x28 then some 5 else if 0x28 ≤ b ∧ b < 0x2C then some 6 else if 0x2C ≤ b ∧ b < 0x30 then some 7
  else if 0x30 ≤ b ∧ b < 0x38 then some 8 else if 0x38 ≤ b ∧ b < 0x40 then some 9 else if 0x40 ≤ b ∧ b < 0x48 then some 10
  else if 0x48 ≤ b ∧ b < 0x50 then some 11 else none

/-- Whether a grant unit is granted to the host. -/
def State.granted (s : State) (u : Nat) : Bool :=
  if u < 12 then bit (s.fld F.TLR_GRANT_BLOCKS_GRANTED 0) u else bit (s.fld F.TLR_GRANT_QUIRE_GRANTED ((u - 12) / 6)) ((u - 12) % 6)

/-- The grant bit of a unit set or cleared; clearing also ends its lease. -/
def State.setGrant (s : State) (u : Nat) (on : Bool) : State :=
  let s := if u < 12 then s.setF F.TLR_GRANT_BLOCKS_GRANTED 0 (putBits (s.fld F.TLR_GRANT_BLOCKS_GRANTED 0) u 1 (b2n on))
    else s.setF F.TLR_GRANT_QUIRE_GRANTED ((u - 12) / 6)
      (putBits (s.fld F.TLR_GRANT_QUIRE_GRANTED ((u - 12) / 6)) ((u - 12) % 6) 1 (b2n on))
  if on then s else s.setF F.TLR_LEASE_REMAINING_MS u 0

/-- Every grant revoked. -/
def State.revokeAll (s : State) : State := s.each (List.range 108) fun u s => if s.granted u then s.setGrant u false else s

/-- The mask of modes in which the host may hold a unit's grant (R45, R46): 2–6 for CKG, GOV, TIM, DMA and TLY, 3–6 for the rest. -/
def unitModes (u : Nat) : Nat := if u < 5 then 0x7C else 0x78

/-- Whether a key survives every reset outside a power cycle (R61 and the registers marked VDD_AON), GLB_STEPPING (R2) among them. -/
def onIsland (a : Nat) : Bool :=
  (0x3000000 ≤ a && a < 0x4000000) || a == 0x4 || a == 0x30 || a == 0x38 || a == 0x3C
  || a == 0x2000010 || a == 0x2000034 || a == 0x200003C || a == 0x2000070 || a == 0x2000074 || a == 0x2000200 || a == 0x4000020

/-- The register file with the keys that satisfy `p` at their reset values. -/
def State.resetRegs (s : State) (p : Nat → Bool) : State := { s with regs := s.regs.filter fun e => !p e.1 }

/-- An ignored host write, counted with its offset (R38). -/
def State.ungranted (s : State) (off : Nat) : State :=
  ((s.inc F.TLR_UNGRANTED_WRITES_COUNT 0).setF F.TLR_UNGRANTED_LAST_OFFSET 0 off).note E.TLR_UNGRANTED_WRITE

/-! ### Arrays of BAR2 -/

/-- `n` bytes of an array from a BAR2 offset. -/
def State.arr (s : State) (a n : Nat) : List Byte := Tab.getList 0 s.arrays a n

/-- `n` bytes of an array as a little-endian number. -/
def State.arrNat (s : State) (a n : Nat) : Nat := leNat (s.arr a n)

/-- Bytes written to an array. -/
def State.putArr (s : State) (a : Nat) (bs : List Byte) : State := { s with arrays := Tab.setList 0 s.arrays a bs }

/-! ### Host memory, reached by DMA over PCIe (R459, R461) -/

/-- `n` bytes of host memory from an address, if every byte answers. -/
def State.hostBytes (s : State) (a n : Nat) : Option (List Byte) := (List.range n).mapM fun i => Tab.get none s.host (a + i)

/-- `n` bytes of host memory that a request returns: the link must be up and Bus Master Enable set. -/
def State.hostRead (s : State) (a n : Nat) : Option (List Byte) := if s.pins.pcieUp && s.pins.busMaster then s.hostBytes a n else none

/-- Whether host memory can be written. -/
def State.hostReach (s : State) : Bool := s.pins.pcieUp && s.pins.busMaster

/-- Bytes written to host memory. -/
def State.hostWrite (s : State) (a : Nat) (bs : List Byte) : State := { s with host := Tab.setList none s.host a (bs.map some) }

/-- A host write to a register that acts only where its unit is granted in a mode that allows it (R38, R45, R112). -/
def State.hostWrites (s : State) (off : Nat) (f : State → State) : State :=
  match unitOfOffset off with
  | some u => if s.granted u && bit (unitModes u) s.mode && !s.clh.inReset.contains u then f s else s.ungranted off
  | none => s.ungranted off

end Sys2Proof.Machine
end

