-- ==== Sys2Proof/Machine/Operands.lean ====
section
/-! DEFINITION. The operand forms of a mailbox command: request fields, defaults, reserved bits (R94, R106, R107) and TARGET (R108, R109). -/
namespace Sys2Proof.Machine

/-- A request field of a request, by byte offset and bits. -/
def Req.arg (r : Req) (a : Arg) : Nat := bits (leNat r.params) (8 * a.off + a.lo) a.wd

/-- A one-bit request field. -/
def Req.on (r : Req) (a : Arg) : Bool := r.arg a == 1

/-- The bytes of an array field. -/
def Req.bytes (r : Req) (a : Arg) : List Byte := (r.params.drop a.off).take (a.wd / 8)

/-- A 64-bit value in two word fields. -/
def Req.arg64 (r : Req) (lo hi : Arg) : Nat := r.arg lo + 2 ^ 32 * r.arg hi

/-- QUIET, ASYNC and EXPERT of the request header. -/
def Req.quiet (r : Req) : Bool := bit r.flags 10
def Req.async (r : Req) : Bool := bit r.flags 9
def Req.expert (r : Req) : Bool := bit r.flags 8

/-- The parts of TARGET (R108). -/
def Req.block (r : Req) : Nat := bits r.target 24 8
def Req.kind (r : Req) : Nat := bits r.target 20 4
def Req.index (r : Req) : Nat := bits r.target 0 20

/-- Whether INDEX names every instance. -/
def Req.all (r : Req) : Bool := r.index == 0xFFFFF

/-- The bits of a parameter area that some field of a command covers. -/
def coverage (args : List Arg) : Nat := args.foldl (fun c a => c ||| ((2 ^ a.wd - 1) <<< (8 * a.off + a.lo))) 0

/-- Whether a command has expert fields. -/
def Cmd.hasExpert (c : Cmd) : Bool := c.args.any fun a => a.expert

/-- The check of header flags, LENGTH and reserved parameter bits: BAD_FORMAT's DETAIL, or none (R94 step 3, R106). -/
def formatError (c : Cmd) (r : Req) : Option Nat :=
  if bits r.flags 11 5 ≠ 0 ∨ bits r.flags 0 8 ≠ 0 then some 3
  else if c.op = 0x100 then (if 2032 < r.length then some 2 else none)
  else if r.expert ∧ r.length ≠ c.full then some 2
  else if r.length < c.basic ∨ c.full < r.length then some 2
  else if leNat r.params ^^^ (leNat r.params &&& coverage c.args) ≠ 0 then some 4
  else none

/-- The parameter area with its full length, every default in place in the basic form (R106, R107). -/
def filled (c : Cmd) (dflt : List (Arg × Nat)) (r : Req) : Req :=
  if c.op = 0x100 then r
  else
    let p := leNat r.params
    let p := if r.expert then p else dflt.foldl (fun p d => putBits p (8 * d.1.off + d.1.lo) d.1.wd d.2) p
    { r with params := leBytes c.full p }

/-- BAD_ARG with the offset of the word that holds the field and a reason (R96, R623). -/
def badArg (a : Arg) (reason : Nat) : Option (Nat × Nat) := some (0x0103, (a.off / 4 * 4) * 65536 + reason)

/-- BAD_ARG, reason 1, unless the field lies in [lo, hi] (R623). -/
def Req.range (r : Req) (a : Arg) (lo hi : Nat) : Option (Nat × Nat) :=
  if lo ≤ r.arg a ∧ r.arg a ≤ hi then none else badArg a 1

/-- The first check that fails. -/
def firstFail : List (Option (Nat × Nat)) → Option (Nat × Nat)
  | [] => none
  | some e :: _ => some e
  | none :: t => firstFail t

/-- A check that applies only under a condition. -/
def failIf (b : Bool) (e : Option (Nat × Nat)) : Option (Nat × Nat) := if b then e else none

/-- The TARGET check for a block, a kind and a range of INDEX: BAD_TARGET's reason, or none. `allOk` says whether 0xF_FFFF is accepted. -/
def targetError (block kind count : Nat) (allOk : Bool) (r : Req) : Option Nat :=
  if r.block ≠ block then some 1
  else if r.kind ≠ kind then some 2
  else if r.all then (if allOk then none else some 4)
  else if count ≤ r.index then some 3
  else none

/-- TARGET must be exactly the block, KIND 0, INDEX 0. -/
def targetWhole (block : Nat) (r : Req) : Option Nat := targetError block 0 1 false r

/-- A port is configured when it is the lowest lane of a created port (R109). -/
def State.portConfigured (s : State) (p : Nat) : Bool := s.flag F.MAC_STATUS_CONFIGURED p

/-- The TARGET check for a port of a block (R109). -/
def State.targetPort (s : State) (block : Nat) (r : Req) : Option Nat :=
  match targetError block 2 1024 false r with
  | some e => some e
  | none => if s.portConfigured r.index then none else some 5

/-- The TARGET check for a queue of a block (R358). -/
def State.targetQueue (s : State) (block : Nat) (r : Req) : Option Nat :=
  match targetError block 4 16384 false r with
  | some e => some e
  | none => if s.portConfigured (r.index / 16) then none else some 5

/-- The instances a TARGET names. -/
def Req.instances (r : Req) (count : Nat) : List Nat := if r.all then List.range count else [r.index]

end Sys2Proof.Machine
end

