-- ==== Sys2Proof/Machine/Mail.lean ====
section
/-! DEFINITION. How a mailbox command is answered: areas, history, responses, completion records and the checks in their order (R85 to
R107, R116). -/
namespace Sys2Proof.Machine

/-! ### Areas, history and messages -/

/-- `n` bytes of the mailbox areas from a BAR0 offset. -/
def State.area (s : State) (off n : Nat) : List Byte := Tab.getList 0 s.tlr.area off n

/-- Bytes written to the mailbox areas. -/
def State.putArea (s : State) (off : Nat) (bs : List Byte) : State :=
  { s with tlr := { s.tlr with area := Tab.setList 0 s.tlr.area off bs } }

/-- Teller time: ns since the last reset (R116). -/
def State.tellerTime (s : State) : Nat := s.now - s.tlr.bootAt

/-- A history entry of 64 bytes (R116). -/
def State.history (s : State) (m source kind : Nat) (reqHdr respHdr params : List Byte) : State :=
  let e := s.fld F.TLR_HIST_HEAD_NEXT 0
  let pad := fun (n : Nat) (l : List Byte) => (l ++ List.replicate n 0).take n
  let entry := pad 16 reqHdr ++ pad 16 respHdr ++ pad 16 params ++ leBytes 8 s.tellerTime ++ w32 (m + source * 16 + kind * 256) ++ w32 e
  { s with tlr := { s.tlr with hist := Tab.set [] s.tlr.hist (e % 256) entry } }.setF F.TLR_HIST_HEAD_NEXT 0 (e + 1)

/-- The 16-byte request header of a request. -/
def Req.header (r : Req) : List Byte :=
  w32 (r.opcode * 65536 + r.seq) ++ w32 (r.flags * 65536 + r.length) ++ w32 r.target ++ w32 r.tag

/-- The request a mailbox last accepted. -/
def State.req? (s : State) (m : Nat) : Option Req := Tab.get none s.tlr.reqs m

/-- Whether a mailbox holds an accepted, not completed, command. -/
def State.busy (s : State) (m : Nat) : Bool := s.flag F.MBX_STATUS_BUSY m

/-- The completion vector of a mailbox, unless QUIET (R91, R104). -/
def State.completionMsi (s : State) (m : Nat) (quiet : Bool) : State :=
  if s.flag F.MBX_CTL_IRQ_EN m && !quiet then s.sendMsi (s.fld F.MBX_CTL_VECTOR m) else s

/-- The bound of a deadline class in ns (R97); D's is that of ACCEPTED. -/
def classBound (cls : Nat) : Nat := [50000, 1000000, 10000000, 1000000].getD cls 1000000

/-- The response header (R86). -/
def State.respHeader (s : State) (r : Req) (status len detail : Nat) : List Byte :=
  w32 (r.opcode * 65536 + r.seq) ++ w32 (status * 65536 + len)
    ++ w32 (s.mode * 2 ^ 28 + satBits 28 ((s.now - r.since) / 1000)) ++ w32 detail

/-- A command that completes after its bound is counted and raises, but for TIMEOUT (R101, R102). -/
def State.deadline (s : State) (r : Req) (status : Nat) : State :=
  if r.bound < s.now - r.since ∧ status ≠ 0x0402 then (s.inc F.TLR_DEADLINE_MISSES_COUNT 0).note E.TLR_DEADLINE_MISS else s

/-- The response of a mailbox's command: area, RESP_VALID, BUSY, LAST_SEQ, history and the completion message (R91, R116). -/
def State.respond (s : State) (m : Nat) (r : Req) (status detail : Nat) (resp : List Byte) : State :=
  let hdr := s.respHeader r status resp.length detail
  let s := s.putArea (0x1000 * m + 0x810) resp
  let s := s.putArea (0x1000 * m + 0x800) hdr
  let s := (s.setF F.MBX_STATUS_RESP_VALID m 1).setF F.MBX_STATUS_BUSY m 0
  let s := (s.setF F.MBX_LAST_LAST_SEQ m r.doorbell).setF F.MBX_LAST_LAST_VALID m 1
  let s := s.setF F.TLR_MBX_RUN_STATE m 0
  let s := { s with tlr := { s.tlr with quiet := Tab.set false s.tlr.quiet m r.quiet } }
  let s := s.deadline r status
  let s := s.history m r.source 0 r.header hdr r.params
  s.completionMsi m r.quiet

/-! ### Completion records (R103 to R105) -/

/-- A completion record. -/
def State.rec? (s : State) (k : Nat) : Option Rec := Tab.get none s.tlr.recs k

/-- TLR_ASYNC_STATE's RUNNING and UNREAD, recounted. -/
def State.countRecs (s : State) : State :=
  let n := fun (ph : Nat) => (s.tlr.recs.filter fun e => match e.2 with
    | some r => r.phase == ph
    | none => false).length
  (s.setF F.TLR_ASYNC_STATE_RUNNING 0 (n 1)).setF F.TLR_ASYNC_STATE_UNREAD 0 (n 2)

/-- A completion record replaced. -/
def State.putRec (s : State) (k : Nat) (r : Option Rec) : State :=
  { s with tlr := { s.tlr with recs := Tab.set none s.tlr.recs k r } }.countRecs

/-- The oldest record of a phase. -/
def State.oldestRec (s : State) (phase : Nat) : Option Nat :=
  (s.tlr.recs.foldl (fun (best : Option (Nat × Nat)) e => match e.2 with
    | some r => if r.phase = phase then (match best with
        | some b => if r.order < b.1 then some (r.order, e.1) else best
        | none => some (r.order, e.1)) else best
    | none => best) none).map Prod.snd

/-- The record a new asynchronous command takes, and whether an unread completion is lost (R105). -/
def State.pickRec (s : State) : Option (Nat × Bool) :=
  match lowest 64 fun k => (s.rec? k).isNone with
  | some k => some (k, false)
  | none => match s.oldestRec 3 with
    | some k => some (k, false)
    | none => (s.oldestRec 2).map fun k => (k, true)

/-- The bytes a completion record reads as: header, HOST_TAG, MAILBOX, parameters (ASYNC_RESULT). -/
def Rec.bytes (r : Rec) : List Byte := r.hdr ++ w32 r.req.tag ++ w32 r.mbx ++ r.params

/-- EXECUTING of a mailbox. -/
def State.setExecuting (s : State) (m : Nat) (on : Bool) : State :=
  s.setF F.TLR_STATUS_EXECUTING 0 (putBits (s.fld F.TLR_STATUS_EXECUTING 0) m 1 (b2n on))

/-- An asynchronous command completes: its record holds the response, TLR_ASYNC_DONE is raised, and the mailbox's vector is sent
unless QUIET (R104, R116). -/
def State.completeRec (s : State) (k : Nat) (r : Rec) (status detail : Nat) (params : List Byte) : State :=
  let hdr := s.respHeader r.req status params.length detail
  let s := s.putRec k (some { r with phase := 2, hdr := hdr, params := params })
  let s := s.setExecuting r.mbx false
  let s := s.note E.TLR_ASYNC_DONE
  let s := s.history r.mbx r.req.source 4 r.req.header hdr r.req.params
  s.completionMsi r.mbx r.req.quiet

/-! ### The checks in their order (R94) -/

/-- What a command's execution answers. -/
inductive Ans where
  /-- Done: OK or a status with its DETAIL and the command's own response fields. -/
  | done (s : State) (status detail : Nat) (resp : List Byte)

/-- OK with DETAIL 0. -/
def Ans.ok (s : State) (resp : List Byte) : Ans := .done s 0 0 resp

/-- A status other than OK with no response fields. -/
def Ans.fail (s : State) (status detail : Nat) : Ans := .done s status detail []

/-- TIMEOUT because host memory did not respond (R96, R101). -/
def Ans.hostTimeout (s : State) : Ans := .fail s 0x0402 0xFF000000

/-- Opcodes that write no block (R100, R113). -/
def readsOnly (op : Nat) : Bool := [0x100, 0x101, 0x104, 0x105, 0x110, 0x706, 0x804, 0x904, 0xB05, 0xE07, 0xF04].contains op

/-- Whether request `q` of mailbox `k` was accepted before request `r` of mailbox `m`; doorbells of one cycle are taken in the order MBX_7, then
MBX_0 to MBX_6 (R92). -/
def takenBefore (k : Nat) (q : Req) (m : Nat) (r : Req) : Bool :=
  if q.since = r.since then decide ((k + 1) % 8 < (m + 1) % 8) else decide (q.order < r.order)

/-- Whether an earlier accepted command of another mailbox writes the same block and still waits (R100). -/
def State.waitsFor (s : State) (m : Nat) (r : Req) : Bool :=
  !readsOnly r.opcode && (List.range 8).any fun k => k != m && s.busy k && match s.req? k with
    | some q => takenBefore k q m r && q.block == r.block && !readsOnly q.opcode
    | none => false

/-- The mailbox of a running asynchronous command that holds the same block (R100). -/
def State.holder (s : State) (r : Req) : Option Nat :=
  if readsOnly r.opcode then none
  else s.tlr.recs.findSome? fun e => match e.2 with
    | some q => if q.phase = 1 ∧ q.req.block = r.block then some q.mbx else none
    | none => none

/-- The lowest unit of a list that is granted to the host. -/
def State.grantedUnit (s : State) (units : List Nat) : Option Nat := units.find? fun u => s.granted u

/-- NOT_GRANTED's DETAIL for a unit (R96). -/
def notGrantedDetail (u : Nat) : Nat := unitCode u * 2 ^ 24 + (if u < 12 then 0 else (u - 12) / 6)

/-- What a command's own section adds to R94: its modes, its TARGET check, its defaults, its parameter checks, the units it writes and a
reason to answer BUSY. -/
structure Checks where
  modes : Nat
  target : Option Nat
  dflt : List (Arg × Nat)
  args : Option (Nat × Nat)
  units : List Nat
  busy : Option Nat

/-- The first check of R94, steps 3 to 8, that fails: its status and DETAIL. Steps 1 and 2 are the dispatcher's at the doorbell. -/
def State.firstCheck (s : State) (c : Cmd) (k : Checks) (r : Req) (async : Bool) : Option (Nat × Nat) :=
  match formatError c r with
  | some d => some (0x0102, d)
  | none =>
    if !bit k.modes s.mode then some (0x0201, s.mode + 256 * (if s.mode = 1 then 0 else k.modes))
    else match k.target with
    | some e => some (0x0104, e)
    | none => match k.args with
      | some e => some e
      | none => match s.grantedUnit k.units with
        | some u => some (0x0203, notGrantedDetail u)
        | none =>
          match k.busy with
          | some d => some (0x0202, d)
          | none =>
            if k.units.any fun u => s.clh.restoring.contains u then some (0x0202, 2)
            else match s.holder r with
            | some m => some (0x0202, 2 + 256 * m)
            | none => if async && s.pickRec.isNone then some (0x0202, 3) else none

/-- The response parameters: the command's own fields, and in the basic form of a command with expert fields a copy of the request with
every default filled in (R107). -/
def respParams (c : Cmd) (r : Req) (status : Nat) (own : List Byte) : List Byte :=
  if c.op = 0x100 then own
  else if status ≥ 0x0100 then own
  else if c.hasExpert && !r.expert then own ++ r.params else own

/-- The request of mailbox `m` if it is in progress, has this opcode, and no earlier command on its block waits. -/
def State.takes (s : State) (m : Nat) (c : Cmd) : Option Req :=
  if !s.busy m then none
  else match s.req? m with
  | none => none
  | some r => if r.opcode ≠ c.op then none else if s.waitsFor m r then none else some r

/-- Runs a class A or B command of mailbox `m`: its checks, its effect, its response. With no such request in progress the state stands
(log entry 2); a reset on the way gives no response (R54). -/
def State.runCmd (s : State) (m : Nat) (c : Cmd) (checks : Req → Checks) (act : Req → Ans) : State :=
  match s.takes m c with
  | none => s
  | some r0 =>
    let r := filled c (checks r0).dflt r0
    match s.firstCheck c (checks r) r0 false with
    | some e => s.respond m r0 e.1 e.2 []
    | none =>
      match act r with
      | .done t status detail resp => if t.mode = 0 then t else t.respond m r status detail (respParams c r status resp)

/-- ACCEPTED: the record starts running and the mailbox is free again (R103 to R105). -/
def State.accept (s : State) (m k : Nat) (lost : Bool) (r : Req) (note : Nat) : State :=
  let hdr := s.respHeader r 1 0 0
  let s := if lost then (s.inc F.TLR_ASYNC_STATE_LOST 0).note E.TLR_ASYNC_LOST else s
  let s := s.putRec k (some { phase := 1, mbx := m, req := r, hdr := hdr, params := [], order := r.order, note := note })
  (s.respond m r 1 k []).setExecuting m true

/-- Runs a class C or D command. From its mailbox: the checks, then either the whole command (class C without ASYNC) or ACCEPTED with
`start`'s state and note. From its record: the effect and the completion (R103, R104). -/
def State.runAsync (s : State) (x : Exec) (c : Cmd) (checks : Req → Checks) (start : Req → State → State × Nat)
    (act : Req → Nat → State → Ans) : State :=
  match x with
  | .mailbox m =>
    match s.takes m c with
    | none => s
    | some r0 =>
      let r := filled c (checks r0).dflt r0
      let async := decide (c.cls = 3) || r0.async
      match s.firstCheck c (checks r) r0 async with
      | some e => s.respond m r0 e.1 e.2 []
      | none =>
        if async then
          match s.pickRec with
          | none => s.respond m r0 0x0202 3 []
          | some (k, lost) =>
            let st := start r s
            st.1.accept m k lost r st.2
        else
          let st := start r s
          match act r st.2 st.1 with
          | .done t status detail resp => t.respond m r status detail (respParams c r status resp)
  | .record k =>
    match s.rec? k with
    | none => s
    | some q =>
      if q.phase = 1 ∧ q.req.opcode = c.op then
        match act q.req q.note s with
        | .done t status detail resp => t.completeRec k q status detail (respParams c q.req status resp)
      else s

/-- No checks of its own: any TARGET, no defaults, no units. -/
def Checks.plain (c : Cmd) : Checks := ⟨c.modes, none, [], none, [], none⟩

end Sys2Proof.Machine
end

