-- ==== Sys2Proof/Machine/Errn.lean ====
section
/-! DEFINITION. The ERROR_N ball (R569, R570) and the Fault-Hold latch. -/
namespace Sys2Proof.Machine

/-- Whether the latched clock fault drives ERROR_N (R140, R569). -/
def State.noqsDrives (s : State) : Bool := s.flag F.CKG_NOQS_LATCH_SET 0 && !s.flag F.CKG_NOQS_LATCH_RECORDED 0

/-- Whether ERROR_N is driven low (R569). -/
def State.errnLow (s : State) : Bool :=
  s.flag F.CLH_ERRN_STATUS_PULSE 0 || s.flag F.CLH_ERRN_STATUS_HOLD 0 || s.noqsDrives
  || s.flag F.CLH_STATUS_FAULT_HOLD 0 || s.flag F.CLH_ERRN_CFG_FORCE 0

/-- CLH_ERRN_STATUS brought in line with R569; a fall of ERROR_N is counted. -/
def State.updateErrn (s : State) : State :=
  let low := s.errnLow
  let fell := low && !s.flag F.CLH_ERRN_STATUS_DRIVEN 0
  let s := (s.setF F.CLH_ERRN_STATUS_DRIVEN 0 (b2n low)).setF F.CLH_ERRN_STATUS_NOQS 0 (b2n s.noqsDrives)
  if fell then s.inc F.CLH_ERRN_STATUS_ASSERTIONS 0 else s

/-- Whether an unacknowledged record with reaction ERROR_N remains (R570). -/
def State.errnRecordOpen (s : State) : Bool := s.clh.slots.any fun r => !r.acked && bit r.reactions 4

/-- HOLD clears when no such record remains (R570). -/
def State.releaseHold (s : State) : State :=
  (if s.errnRecordOpen then s else s.setF F.CLH_ERRN_STATUS_HOLD 0 0).updateErrn

end Sys2Proof.Machine
end

