-- ==== Sys2Proof/Machine/Flags.lean ====
section
/-! DEFINITION. What a software write does to a register's bits by their access codes (R3, R5, R6). -/
namespace Sys2Proof.Machine

/-- The word a register holds after software writes `v` over `old`: rw bits take the written value, w1c bits written 1 clear, w1s bits
written 1 set, and every other bit keeps its value (R3). -/
def writeBits (rw w1c w1s old v : Nat) : Nat :=
  ((((old ^^^ (old &&& rw)) ||| (v &&& rw)) ^^^ (old &&& w1c &&& v)) ||| (v &&& w1s)) % 2 ^ 32

/-- A software write of `v` to register instance `i`, by its access codes. -/
def State.softWrite (s : State) (r : Reg) (i v : Nat) : State := s.wr r i (writeBits r.rw r.w1c r.w1s (s.rd r i) v)

/-- A software read of register instance `i` clears its rc bits (R3). -/
def State.readClear (s : State) (r : Reg) (i : Nat) : State := s.wr r i (s.rd r i ^^^ (s.rd r i &&& r.rc))

/-- A status bit that hardware sets and software clears in the same cycle stays 1, and its count advances (R8). -/
def State.setOverClear (s : State) (b c : Fld) (i : Nat) : State := (s.setF b i 0).setCounted b c i

end Sys2Proof.Machine
end

