-- ==== Sys2Proof/Machine/Clocks.lean ====
section
/-! DEFINITION. Clocks, domains and crossings (R123 to R158). -/
namespace Sys2Proof.Machine

/-! ### Sources, PLLs and domains -/

/-- The comparison sources of an input, in order of preference (R123). -/
def compareList (i : Nat) : List Nat := if i = 0 then [11, 9] else if i = 11 then [0, 9] else [0, 11]

/-- Nominal frequency of an input in units of 10 kHz (R123); TIME_REF as configured, 10 or 25 MHz. -/
def State.nominal (s : State) (i : Nat) : Nat :=
  if i = 0 then 10000 else if i ≤ 8 then 15625 else if i = 9 then 10000
  else if i = 10 then (if s.flag F.TIM_CTL_TIME_REF_MHZ 0 then 2500 else 1000) else 20000

def State.qualified (s : State) (i : Nat) : Bool := s.flag F.CKG_REF_STATUS_QUALIFIED i

/-- The comparison source in use: the first listed one that is qualified, else the first listed (R131). -/
def State.compareOf (s : State) (i : Nat) : Nat :=
  ((compareList i).find? fun j => s.qualified j).getD ((compareList i).headD 0)

/-- The PLL of a domain's primary source (R124); 23 where the domain has none. -/
def primaryPll (d : Nat) : Nat := if d < 2 then d else if d = 2 then 4 else if d = 3 then 5 else if d = 4 then 6 else if d = 5 then 23 else d + 1

/-- The PLL of a domain's fallback source. -/
def fallbackPll (d : Nat) : Nat := if d = 1 then 3 else if d < 3 then 2 else if d = 4 then 2 else 23

/-- The input that feeds a PLL. TMPLL's is the one TIME_CONFIG names (R390). -/
def State.pllInput (s : State) (k : Nat) : Nat :=
  if k < 2 then 0 else if k < 4 then 11 else if k = 4 then 0 else if k = 5 then 9
  else if k = 6 then s.fld F.CKG_PLL_STATUS_INPUT 6 else 1 + (k - 7) / 2

/-- The input that TIM_CTL gives to TMPLL (R390): TIME_REF for source 2, and for source 1 with REF_SEL 1; else REFCLK_CORE. -/
def State.timeInput (s : State) : Nat :=
  if s.fld F.TIM_CTL_SOURCE 0 = 2 then 10 else if s.fld F.TIM_CTL_SOURCE 0 = 1 ∧ s.flag F.TIM_CTL_REF_SEL 0 then 10 else 0

/-- A PLL is locked and its input qualified (R135). -/
def State.pllGood (s : State) (k : Nat) : Bool := k < 23 && s.flag F.CKG_PLL_STATUS_LOCKED k && s.qualified (s.pllInput k)

/-- Source 0 or 1 of a domain may be used (R135). The watch domain's ring oscillator always may. -/
def State.sourceGood (s : State) (d src : Nat) : Bool :=
  if d = 5 then src == 0 else s.pllGood (if src = 0 then primaryPll d else fallbackPll d)

/-- The source a domain runs from. -/
def State.domainSource (s : State) (d : Nat) : Nat := s.fld F.CKG_DOMAIN_STATUS_ON_FALLBACK d

/-! ### Held domains (R140) and stopped quires (R142) -/

/-- DETAIL of CKG_NO_QUALIFIED_SOURCE (R140). -/
def State.noqsDetail (s : State) : Nat :=
  let held := maskOf 22 fun d => s.flag F.CKG_DOMAIN_STATUS_HELD d
  ((lowest 22 fun d => bit held d).getD 0) + 32 * b2n s.ckg.holdEarly + 256 * held

/-- The Clearing House records the held domains once the watch oscillator is qualified (R140). -/
def State.recordNoqs (s : State) : State :=
  if s.flag F.CKG_NOQS_LATCH_SET 0 && s.qualified 11 then
    ((s.setF F.CKG_NOQS_LATCH_RECORDED 0 1).raise E.CKG_NO_QUALIFIED_SOURCE s.noqsDetail).updateErrn
  else s.updateErrn

/-- A domain is held stopped for want of a qualified source (R140). -/
def State.holdDomain (s : State) (d : Nat) : State :=
  let s := ((s.setF F.CKG_DOMAIN_STATUS_RUNNING d 0).setF F.CKG_DOMAIN_STATUS_HELD d 1).setF F.CKG_DOMAIN_STATUS_SWITCHING d 0
  let s := { s with ckg := { s.ckg with switch := Tab.set none s.ckg.switch d none } }
  let s := s.setF F.CKG_NOQS_LATCH_SET 0 1
  let s := if s.qualified 11 then { s with ckg := { s.ckg with holdEarly := false } } else
    { s.setF F.CKG_NOQS_LATCH_RECORDED 0 0 with ckg := { s.ckg with holdEarly := true } }
  s.recordNoqs

/-- A switch of a domain begins (R136). -/
def State.startSwitch (s : State) (d dest : Nat) (auto : Bool) : State :=
  { s.setF F.CKG_DOMAIN_STATUS_SWITCHING d 1 with
    ckg := { s.ckg with switch := Tab.set none s.ckg.switch d (some ⟨dest, auto⟩) } }

/-- The pause of a switch in ns: 4 cycles of the old source and 16 of the new (R136). A core cycle is 16 ÷ M ns (R522). -/
def State.switchPause (s : State) (d : Nat) : Nat :=
  if d < 2 then 320 / govPointM (s.fld F.GOV_DIE_OP_IN_FORCE (8 + d)) else 20

/-- A switch completes: the domain runs from its new source (R136). -/
def State.finishSwitch (s : State) (d : Nat) (sw : Switch) : State :=
  let s := { s with ckg := { s.ckg with switch := Tab.set none s.ckg.switch d none } }
  let s := (s.setF F.CKG_DOMAIN_STATUS_SWITCHING d 0).setF F.CKG_DOMAIN_STATUS_ON_FALLBACK d sw.dest
  let s := if d = 4 then s.setF F.TIM_STATUS_ON_FALLBACK 0 sw.dest else s.setF F.CKG_DOMAIN_CFG_SELECT d sw.dest
  let s := s.setF F.CKG_DOMAIN_STATUS_RUNNING d 1
  let s := (s.inc F.CKG_DOMAIN_STATUS_SWITCHES d).setF F.CKG_DOMAIN_STATUS_LAST_PAUSE_NS d (s.switchPause d)
  if sw.auto then s else s.note E.CKG_SWITCH_DONE

/-- A domain whose present source has failed: a switch in progress goes to the other source or the domain is held (R139); a core or Teller
domain falls back (R137) or, on its fallback, goes to a good primary; a MAC/PCS domain stops and is held (R142); the time domain is
the time base's (R393); the PCIe domain is held. -/
def State.sourceFailed (s : State) (d : Nat) : State :=
  match Tab.get none s.ckg.switch d with
  | some sw =>
    if s.sourceGood d sw.dest then s
    else if s.sourceGood d (1 - sw.dest) then s.startSwitch d (1 - sw.dest) sw.auto
    else s.holdDomain d
  | none =>
    if !s.flag F.CKG_DOMAIN_STATUS_RUNNING d || s.sourceGood d (s.domainSource d) then s
    else if d < 3 then
      if s.domainSource d = 0 then
        (if s.flag F.CKG_DOMAIN_CFG_FALLBACK_EN d && s.sourceGood d 1 then (s.startSwitch d 1 true).note E.CKG_FALLBACK
         else s.holdDomain d)
      else if s.sourceGood d 0 then s.startSwitch d 0 false
      else s.holdDomain d
    else if d = 3 then s.holdDomain d
    else if d = 4 then
      (if s.domainSource 4 = 0 then
        (if s.sourceGood 4 1 then
          (((s.startSwitch 4 1 true).setF F.CKG_PLL_STATUS_LOCKED 6 0).setF F.CKG_PLL_STATUS_INPUT 6
            (if s.qualified 0 then 0 else s.pllInput 6)).note E.TIM_FALLBACK
         else s.holdDomain 4)
       else s.holdDomain 4)
    else s

/-- Every core, Teller, PCIe and time domain reacts to the loss of a source. -/
def State.sourcesFailed (s : State) : State := s.each [0, 1, 2, 3, 4] fun d s => s.sourceFailed d

/-- A domain on its fallback with AUTO_REVERT begins a switch back once its primary is qualified and locked (R138). -/
def State.autoRevert (s : State) (d : Nat) : State :=
  if s.flag F.CKG_DOMAIN_STATUS_ON_FALLBACK d && s.flag F.CKG_DOMAIN_CFG_AUTO_REVERT d && s.flag F.CKG_DOMAIN_STATUS_RUNNING d
      && (Tab.get none s.ckg.switch d).isNone && s.sourceGood d 0 then s.startSwitch d 0 false
  else s

/-- The domains clocked in a mode (R45). -/
def modeDomains (m : Nat) : List Nat :=
  if m = 0 then [5] else if m = 1 then [2, 3, 5] else if m = 2 then [2, 3, 4, 5] else if m = 7 then [2, 3, 5] else List.range 22

/-- A held core, Teller, PCIe or MAC/PCS domain is held no longer once a source of it is good again, and runs where the mode clocks it (R45, R140,
R142). -/
def State.restartHeld (s : State) (d : Nat) : State :=
  let start := fun (src : Nat) => ((s.setF F.CKG_DOMAIN_STATUS_HELD d 0).setF F.CKG_DOMAIN_STATUS_RUNNING d
    (b2n ((modeDomains s.mode).contains d))).setF F.CKG_DOMAIN_STATUS_ON_FALLBACK d src
  if s.flag F.CKG_DOMAIN_STATUS_HELD d then
    if s.sourceGood d 0 then start 0
    else if d < 3 && s.sourceGood d 1 then start 1
    else s
  else s

/-- What follows when a source becomes qualified or a PLL locks (R138, R140, R142). -/
def State.sourceGained (s : State) : State :=
  (s.each (List.range 22) fun d s => s.restartHeld d).each [0, 1, 2] fun d s => s.autoRevert d

/-- The domains a mode clocks start and the others stop (R45, R135). A domain with no good source is held: a core or Teller domain under
R140, a MAC/PCS domain under R142. -/
def State.clockMode (s : State) (m : Nat) : State :=
  s.each (List.range 22) fun d s =>
    if !(modeDomains m).contains d then
      ((s.setF F.CKG_DOMAIN_STATUS_RUNNING d 0).setF F.CKG_DOMAIN_STATUS_HELD d 0).setF F.CKG_DOMAIN_STATUS_SWITCHING d 0
    else if s.flag F.CKG_DOMAIN_STATUS_RUNNING d then s
    else if s.sourceGood d (s.fld F.CKG_DOMAIN_CFG_SELECT d) then
      (s.setF F.CKG_DOMAIN_STATUS_RUNNING d 1).setF F.CKG_DOMAIN_STATUS_ON_FALLBACK d (s.fld F.CKG_DOMAIN_CFG_SELECT d)
    else if s.sourceGood d 0 then
      (s.setF F.CKG_DOMAIN_STATUS_RUNNING d 1).setF F.CKG_DOMAIN_STATUS_ON_FALLBACK d 0
    else if (d < 3 || d = 4) && s.sourceGood d 1 then
      ((s.setF F.CKG_DOMAIN_STATUS_RUNNING d 1).setF F.CKG_DOMAIN_STATUS_ON_FALLBACK d 1).setF F.CKG_DOMAIN_CFG_SELECT d 1
    else if d < 3 then s.holdDomain d
    else s.setF F.CKG_DOMAIN_STATUS_HELD d 1

end Sys2Proof.Machine
end

