-- ==== Sys2Proof/Machine/TimeBase.lean ====
section
/-! DEFINITION. Network time: the counter, lock, steps, stamps, time pairs and the time ring (R389 to R404). -/
namespace Sys2Proof.Machine

/-- Network time wraps with its 48-bit SEC (R389), in units of 2^−16 ns. -/
def netModulus : Nat := 2 ^ 48 * 1000000000 * 65536

/-- Network time in whole ns. -/
def State.netNs (s : State) : Nat := s.tim.net / 65536

/-- The fraction of a reported stamp (R402). -/
def fracOf (t : Nat) : Nat := t % 65536

/-- The present 32-bit stamp. -/
def State.stamp (s : State) : Nat := stampOf s.tim.net

/-- NS, SEC [31:0] and the word of SEC [47:32] and FRAC of an instant (R403). -/
def pairNs (t : Nat) : Nat := t / 65536 % 1000000000
def pairSecLo (t : Nat) : Nat := t / 65536 / 1000000000 % 2 ^ 32
def pairSecHi (t : Nat) : Nat := t / 65536 / 1000000000 / 2 ^ 32 % 65536 + 65536 * fracOf t

/-- One ns passes in the time domain (R389, R394, R396): the counter advances by a ns, by FREQ_ADJ unless SOURCE is 2, and by SLEW_PPM while
a slew has an offset left. -/
def State.netTick (s : State) : State :=
  if !s.timeRuns then s
  else
    let adj : Int := if s.fld F.TIM_CTL_SOURCE 0 = 2 then 0 else toSigned 32 (s.rd R.TIM_FREQ_ADJ 0)
    let most : Int := 65536 * s.fld F.TIM_CTL2_SLEW_PPM 0
    let sl : Int := max (-most) (min most s.tim.slew)
    let step : Int := 65536 * 1000000 + adj
    let total : Int := s.tim.rest + step + sl
    { s with tim := { s.tim with
        net := (s.tim.net + (total / 1000000).toNat) % netModulus
        rest := (total % 1000000).toNat
        flow := s.tim.flow + (step / 1000000).toNat
        slew := s.tim.slew - sl } }

/-- One ns passes: the tick of an idle block. -/
def State.tick (s : State) : State := { s with now := s.now + 1 }.netTick

/-! ### The time ring (R404) -/

/-- A record written to the time ring: KIND, STEPPED and STALE, and words 1 to 6. Channel 29 carries it; a record that the host does not take is
lost and its SEQ is not used. -/
def State.ringWrite (s : State) (kind : Nat) (stepped stale : Bool) (words : List Nat) : State :=
  if s.flag F.TIM_RING_CFG_ENABLE 0 && s.hostReach then
    let n := (s.rd R.TIM_RING_PROD 0 + 1) % 2 ^ 32
    let flags := b2n (s.flag F.TIM_STATUS_LOCKED 0) + 2 * b2n (s.mode == 5) + 4 * b2n stale + 8 * b2n stepped
      + 16 * b2n (s.flag F.TIM_STATUS_ON_FALLBACK 0)
    let slot := n % 2 ^ s.fld F.TIM_RING_CFG_SIZE_LOG2 0
    let base := s.rd R.TIM_RING_ADDR_LO 0 + 2 ^ 32 * s.rd R.TIM_RING_ADDR_HI 0
    (s.hostWrite (base + 32 * slot) (w32 (kind + 256 * flags) ++ words.flatMap w32 ++ w32 n)).wr R.TIM_RING_PROD 0 n
  else s

/-- A time pair record of kind 1 or 2. -/
def State.ringPair (s : State) (kind : Nat) (stepped : Bool) : State :=
  let t := s.tim.net
  s.ringWrite kind stepped false [stampOf t, pairNs t, pairSecLo t, pairSecHi t, 0, 0]

/-! ### Lock (R390) -/

/-- The conditions of R390 under the chosen source. -/
def State.lockHolds (s : State) : Bool :=
  let src := s.fld F.TIM_CTL_SOURCE 0
  if src = 0 then true
  else if src = 1 then s.flag F.CKG_PLL_STATUS_LOCKED 6 && s.qualified s.timeInput && s.tim.asserted
  else s.qualified 10 && s.flag F.CKG_PLL_STATUS_LOCKED 6 && s.tim.ppsGood && s.tim.asserted

/-- The lock state brought in line while the time base is clocked, with its event and pair record (R390, R404, R428). -/
def State.evalLock (s : State) : State :=
  if !bit 0x7C s.mode then s
  else if s.lockHolds then
    if s.flag F.TIM_STATUS_LOCKED 0 then s
    else ((((s.setF F.TIM_STATUS_LOCKED 0 1).setF F.GLB_MODE_TIME_LOCKED 0 1).note E.TIM_LOCK_GAINED)).ringPair 2 false
  else if s.flag F.TIM_STATUS_LOCKED 0 then
    ((((s.setF F.TIM_STATUS_LOCKED 0 0).setF F.GLB_MODE_TIME_LOCKED 0 0).setCounted F.TIM_STATUS_LOCK_LOSS F.TIM_STATUS_LOCK_LOSS_COUNT 0).note
      E.TIM_LOCK_LOST).ringPair 2 false
  else s

/-! ### TIME pins: programmed edges (R414) -/

def State.pin (s : State) (k : Nat) : Pin := Tab.get {} s.tim.pins k
def State.putPin (s : State) (k : Nat) (p : Pin) : State := { s with tim := { s.tim with pins := Tab.set {} s.tim.pins k p } }

/-- START of a pin in ns, and PERIOD, where 0 means 2^32 (R414). -/
def State.pinStart (s : State) (k : Nat) : Nat :=
  (s.rd R.TIM_PIN_START_SEC_LO k + 2 ^ 32 * (s.rd R.TIM_PIN_START_SEC_HI k % 65536)) * 1000000000 + s.rd R.TIM_PIN_START_NS k
def State.pinPeriod (s : State) (k : Nat) : Nat := if s.rd R.TIM_PIN_PERIOD k = 0 then 2 ^ 32 else s.rd R.TIM_PIN_PERIOD k

/-- The first START + k × PERIOD at or after an instant. -/
def firstMultiple (start period t : Nat) : Nat := if t ≤ start then start else start + ceilDiv (t - start) period * period

/-- The edges of the outputs after a step from `old` ns (R414): those of the new time; an edge a forward step passes over is skipped and
counted. -/
def State.realignPins (s : State) (old : Nat) : State :=
  s.each (List.range 4) fun k s =>
    let mode := s.fld F.TIM_PIN_CFG_MODE k
    let p := s.pin k
    match p.next with
    | none => s
    | some n =>
      if mode = 4 then
        let per := s.pinPeriod k
        let skipped := if old ≤ s.netNs ∧ n < s.netNs then ceilDiv (s.netNs - n) per else 0
        let s := s.putPin k { p with next := some (firstMultiple (s.pinStart k) per s.netNs) }
        if skipped = 0 then s else (s.addSat F.TIM_PIN_STATUS_EDGES_SKIPPED k skipped).note E.TIM_PIN_EVENT
      else if mode = 3 ∧ n < s.netNs then
        ((s.putPin k { p with next := none }).inc F.TIM_PIN_STATUS_EDGES_SKIPPED k).note E.TIM_PIN_EVENT
      else s

/-! ### Steps and slews (R395, R396) -/

/-- T of the book in slot `b` in ns (R502). -/
def State.bookTime (s : State) (b : Nat) : Nat :=
  (s.rd R.TLY_BOOK_T_SEC_LO b + 2 ^ 32 * (s.rd R.TLY_BOOK_T_SEC_HI b % 65536)) * 1000000000 + s.rd R.TLY_BOOK_T_NS b

/-- A step from `old` ns has passed T of open books, which are then taken with STEPPED (R397, R506). -/
def State.passBooks (s : State) (old : Nat) : State :=
  { s with tly := { s.tly with passed := s.tly.booked.filter fun b => decide (old < s.bookTime b) && decide (s.bookTime b ≤ s.netNs) } }

/-- Network time steps by a signed offset in units of 2^−16 ns. -/
def State.stepTime (s : State) (d : Int) : State :=
  let old := s.netNs
  let s := { s with tim := { s.tim with net := (((s.tim.net : Int) + d) % (netModulus : Int)).toNat, slew := 0 } }
  let s := (s.setF F.TIM_STATUS_SLEWING 0 0).setCounted F.TIM_STATUS_STEPPED F.TIM_STATUS_STEP_COUNT 0
  (((s.note E.TIM_STEP).ringPair 2 true).realignPins old).passBooks old

/-- A slew of a signed offset in units of 2^−16 ns replaces what remains of an earlier one. -/
def State.startSlew (s : State) (d : Int) : State :=
  { s.setF F.TIM_STATUS_SLEWING 0 (b2n (d != 0)) with tim := { s.tim with slew := d * 1000000 } }

/-- The mode changes (R45, R83). -/
def State.setMode (s : State) (m : Nat) : State :=
  ((s.setF F.GLB_MODE_PREV_MODE 0 s.mode).setF F.GLB_MODE_MODE 0 m).note E.GLB_MODE_CHANGE

/-! ### Stamps at the balls (R400) -/

/-- LAT, FEC and BOARD of a port for reception and transmission, in units of 1/256 ns. -/
def State.stampTerms (s : State) (p : Nat) : Int × Int :=
  let sp := s.fld F.MAC_CFG_SPEED p
  let fec := if sp = 5 then 2 else if sp = 4 then 1 else 0
  let lat := if sp = 4 then s.rd R.TIM_PORT_LAT_106 p else s.rd R.TIM_PORT_LAT_212 p
  let f := s.rd R.TIM_FEC_TERM fec
  let b := s.rd R.TIM_PORT_BOARD p
  ((bits lat 0 16 : Int) + (bits f 0 16 : Nat) + toSigned 16 (bits b 0 16),
   (bits lat 16 16 : Int) + (bits f 16 16 : Nat) + toSigned 16 (bits b 16 16))

/-- Network time as a capture resolves it, to 1/16 ns (R389). -/
def State.capture (s : State) : Nat := s.tim.net / 4096 * 4096

/-- The receive stamp of a frame captured now on a port, with a deskew in 1/16 ns. -/
def State.rxStampAt (s : State) (p deskew : Nat) : Nat :=
  (((s.capture : Int) - 256 * (s.stampTerms p).1 - 4096 * deskew) % (netModulus : Int)).toNat

/-- The transmit stamp of a frame captured now on a port. -/
def State.txStampAt (s : State) (p : Nat) : Nat := (((s.capture : Int) + 256 * (s.stampTerms p).2) % (netModulus : Int)).toNat

/-- R44 applies on the die of a lane: its stamps are unreliable. -/
def State.staleLane (s : State) (n : Nat) : Bool := s.flag F.TIM_COPY_STATUS_STALE (dieOfLane n)

end Sys2Proof.Machine
end

