-- ==== Sys2Proof/Machine/Units.lean ====
section
/-! DEFINITION. The tally units' block counters (R493 to R497) and the updates of the tally store (R498, R500, R504). -/
namespace Sys2Proof.Machine

/-- The largest value of a block counter (R496). -/
def cntMax : Nat := 2 ^ 48 - 1

/-- A block counter, by its number within its unit and its unit. -/
def State.cnt (s : State) (u k : Nat) : Nat := s.rd64 R.TLY_CNT_LO R.TLY_CNT_HI (k + 48 * u) % 2 ^ 48

/-- Adds to a block counter, which stops at 2^48 − 1 and then sets SAT (R496). -/
def State.addCnt (s : State) (u k n : Nat) : State :=
  let i := k + 48 * u
  let v := s.cnt u k + n
  let s := if cntMax < v then s.setF F.TLY_CNT_SEL_SAT i 1 else s
  s.wr64 R.TLY_CNT_LO R.TLY_CNT_HI i (min v cntMax)

/-- Event `code` happens `n` times in one cycle of unit `u`: each enabled counter of it adds `n` in edge mode and 1 in level mode (R495). -/
def State.unitEvent (s : State) (u code n : Nat) : State :=
  if n = 0 then s
  else s.each (List.range (tlyUnitCounters u)) fun k s =>
    let i := k + 48 * u
    if s.flag F.TLY_CNT_SEL_ENABLE i && s.fld F.TLY_CNT_SEL_EVENT i == code then
      s.addCnt u k (if s.flag F.TLY_CNT_SEL_LEVEL i then 1 else n)
    else s

/-- A block counter cleared (R496). -/
def State.clearCnt (s : State) (i : Nat) : State := (s.wr64 R.TLY_CNT_LO R.TLY_CNT_HI i 0).setF F.TLY_CNT_SEL_SAT i 0

/-- A counter of the tally store is to advance: the update carries the epoch of its event (R504). -/
def State.tally (s : State) (off n : Nat) : State :=
  { s with tly := { s.tly with updates := s.tly.updates ++ [⟨off, n, s.tly.epoch⟩] } }

/-- Offset in the tally store of word `k` of queue `q`'s statistics: 0 FRAMES_OUT, 1 BYTES_OUT, 2 to 4 drops by colour, 5 ECN_MARKED. -/
def queueStatAt (q k : Nat) : Nat := 48 * q + 8 * k

/-- Offset in the tally store of word `k` of a die's rule statistics counter: 0 FRAMES, 1 BYTES. -/
def ruleStatAt (d st k : Nat) : Nat := 0xC0000 + 16 * (65536 * d + st) + 8 * k

end Sys2Proof.Machine
end

