-- ==== Sys2Proof/Machine/Books.lean ====
section
/-! DEFINITION. Tally commands, the mirror, the tally store's epochs, book close, and the marginalia commands (R493 to R519). -/
namespace Sys2Proof.Machine

/-! ### Block counters -/

/-- The events 16 and up that a kind of unit has (R493). -/
def kindEvents (kind : Nat) : Nat := [6, 4, 5, 6, 4, 4, 2, 4, 4, 4, 4, 6, 2, 4].getD kind 0

/-- An event code is defined for a unit (R494). -/
def eventDefined (u e : Nat) : Bool := decide (e < 3) || (decide (16 ≤ e) && decide (e < 16 + kindEvents (u / 32)))

/-- A block counter configured (R495 to R497). -/
def State.setCounter (s : State) (i : Nat) (r : Req) : State :=
  let moved := s.fld F.TLY_CNT_SEL_EVENT i != r.arg A.TALLY_SELECT_EVENT || s.fld F.TLY_CNT_SEL_LEVEL i != r.arg A.TALLY_SELECT_LEVEL
  let s := ((s.setF F.TLY_CNT_SEL_EVENT i (r.arg A.TALLY_SELECT_EVENT)).setF F.TLY_CNT_SEL_LEVEL i (r.arg A.TALLY_SELECT_LEVEL)).setF
    F.TLY_CNT_SEL_ENABLE i (r.arg A.TALLY_SELECT_ENABLE)
  if moved || r.on A.TALLY_SELECT_CLEAR then s.clearCnt i else s

/-- What TALLY_SELECT adds to the checks of R94. -/
def State.tallySelectChecks (_ : State) (r0 : Req) : Checks :=
      let r := filled C.TALLY_SELECT [(A.TALLY_SELECT_ALL, 0)] r0
      let u := r.index
      { Checks.plain C.TALLY_SELECT with
        target := match targetError 0x08 15 448 false r with
          | some e => some e
          | none => if tlyUnitCounters u = 0 then some 3 else none
        dflt := [(A.TALLY_SELECT_ALL, 0)]
        args := firstFail [
          failIf (!r.on A.TALLY_SELECT_ALL && decide (tlyUnitCounters u ≤ r.arg A.TALLY_SELECT_COUNTER)) (badArg A.TALLY_SELECT_COUNTER 1),
          failIf (!eventDefined u (r.arg A.TALLY_SELECT_EVENT)) (badArg A.TALLY_SELECT_EVENT 1)]
        units := [4] }

/-- What TALLY_SELECT does once its checks have passed. -/
def State.tallySelectAct (s : State) (r : Req) : Ans :=
      let u := r.index
      let l := if r.on A.TALLY_SELECT_ALL then List.range (tlyUnitCounters u) else [r.arg A.TALLY_SELECT_COUNTER]
      let t := s.each l fun k t => t.setCounter (k + 48 * u) r
      let i := r.arg A.TALLY_SELECT_COUNTER % 48 + 48 * u
      .ok t (w32 (t.rd R.TLY_CNT_SEL i) ++ w32 (t.rd R.TLY_CNT_LO i) ++ w32 (t.rd R.TLY_CNT_HI i % 65536))

/-- TALLY_SELECT (0x0D01, R515). -/
def execTallySelect (m : Nat) (s : State) : Host.Outcome State Fault Refusal :=
  .next (s.runCmd m C.TALLY_SELECT s.tallySelectChecks s.tallySelectAct)

/-- A block counter in the mirror's entry format (R498). -/
def State.mirrorEntry (s : State) (u k : Nat) : Nat :=
  s.cnt u k + 2 ^ 62 * s.fld F.TLY_CNT_SEL_ENABLE (k + 48 * u) + 2 ^ 63 * s.fld F.TLY_CNT_SEL_SAT (k + 48 * u)

/-- The next unit in use from number `u` on, with wrapping at 448. -/
def nextUnit (u : Nat) : Option Nat := ((List.range 448).map fun j => (u + j) % 448).find? fun v => decide (0 < tlyUnitCounters v)

/-- MIRROR_REFRESH (R499): the collection ring brings the next block counter to the mirror, while the reader is clocked. -/
def execMirrorRefresh (s : State) : Host.Outcome State Fault Refusal :=
  .next (if !bit 0x7C s.mode || s.clh.inReset.contains 4 then s
    else match nextUnit s.tly.ringUnit with
    | none => s
    | some u =>
      let k := s.tly.ringCnt
      let s := s.putArr (0xA7580000 + 512 * u + 8 * k) (leBytes 8 (s.mirrorEntry u k))
      if k + 1 < tlyUnitCounters u then { s with tly := { s.tly with ringUnit := u, ringCnt := k + 1 } }
      else
        let v := (nextUnit ((u + 1) % 448)).getD 0
        let s := { s with tly := { s.tly with ringUnit := v, ringCnt := 0 } }
        if u < v then s else s.setF F.TLY_STATUS_MIRROR_PASSES 0 (s.fld F.TLY_STATUS_MIRROR_PASSES 0 + 1))

/-! ### The tally store (R498, R501, R504) -/

/-- BAR2 offset of a counter of the tally store and of its book shadow. -/
def storeAt (off : Nat) : Nat := 0xA7000000 + off
def shadowAt (off : Nat) : Nat := 0xA72C0000 + off

/-- An update applied to a counter, which stops at 2^64 − 1. -/
def State.addStore (s : State) (a n : Nat) : State := s.putArr a (leBytes 8 (min (s.arrNat a 8 + n) (2 ^ 64 - 1)))

/-- TALLY_STORE_UPDATE (R501, R504): pending update number `k` reaches the tally store. With `unc` the counter has an uncorrectable error. -/
def execTallyStoreUpdate (k : Nat) (unc : Bool) (s : State) : Host.Outcome State Fault Refusal :=
  .next (match s.tly.updates[k]? with
    | none => s
    | some x =>
      let s := { s with tly := { s.tly with updates := s.tly.updates.eraseIdx k } }
      let s := if unc then
          ((s.putArr (storeAt x.off) (leBytes 8 (2 ^ 64 - 1))).setCounted F.TLY_STATUS_STORE_ERR F.TLY_STATUS_STORE_ERR_COUNT 0).note E.TLY_STORE_ERROR
        else s
      let s := match s.tly.book with
        | none => s
        | some b =>
          if b.epoch ≤ x.epoch then
            (if Tab.get false b.taken x.off then s
             else { s.putArr (shadowAt x.off) (s.arr (storeAt x.off) 8) with
                    tly := { s.tly with book := some { b with taken := Tab.set false b.taken x.off true } } })
          else if Tab.get false b.taken x.off then s.addStore (shadowAt x.off) x.n
          else s
      s.addStore (storeAt x.off) x.n)

/-! ### Books (R502 to R507) -/

/-- The book of a slot. -/
def State.bookSeq (s : State) (b : Nat) : Nat := s.rd R.TLY_BOOK_SEQ b

/-- OPEN and DRAINING follow the books. -/
def State.settleBooks (s : State) : State :=
  (s.setF F.TLY_BOOK_STATUS_OPEN 0 s.tly.booked.length).setF F.TLY_BOOK_STATUS_DRAINING 0 (b2n s.tly.book.isSome)

/-- A slot becomes free. -/
def State.freeBook (s : State) (b : Nat) : State :=
  let s := ((s.wr R.TLY_BOOK_T_SEC_LO b 0).wr R.TLY_BOOK_T_SEC_HI b 0).wr R.TLY_BOOK_T_NS b 0
  let s := s.wr R.TLY_BOOK_SEQ b 0
  { s with tly := { s.tly with booked := s.tly.booked.filter (· != b), passed := s.tly.passed.filter (· != b) } }.settleBooks

/-- Every open book is cancelled without being written, as entry to Loader and to Fault-Hold do (R506). -/
def State.cancelBooks (s : State) : State :=
  let s := s.each [0, 1] fun b s => s.freeBook b
  { s with tly := { s.tly with book := none } }.settleBooks

/-- Sizes and offsets of the sections (R507). -/
def sectionSize (k : Nat) : Nat := [0x2A000, 0x60000, 0xC0000, 0x200000, 0x4000, 0x800].getD k 0
def sectionAt (k : Nat) : Nat := [0x1000, 0x2B000, 0x8B000, 0x14B000, 0x34B000, 0x34F000].getD k 0

/-- A counter pair read from the shadows, as eight bytes. -/
def State.shadow64 (z : State) (lo hi : Reg) (i : Nat) : List Byte := leBytes 8 (z.rd64 lo hi i)

/-- A counter of the tally store as a book takes it: the shadow where one was taken (R504). -/
def State.booked64 (s : State) (b : Book) (off : Nat) : List Byte :=
  s.arr (if Tab.get false b.taken off then shadowAt off else storeAt off) 8

/-- The bytes of a section (R507). -/
def State.sectionBytes (s : State) (b : Book) (k : Nat) : List Byte :=
  let z := { s with regs := b.shadows }
  if k = 0 then (List.range 448).flatMap fun u => (List.range 48).flatMap fun c =>
      leBytes 8 (if c < tlyUnitCounters u then z.mirrorEntry u c else 0)
  else if k = 1 then (List.range 1024).flatMap fun p => (List.range 48).flatMap fun c =>
      if z.flag F.MAC_STATUS_CONFIGURED p then z.shadow64 R.MAC_STAT_LO R.MAC_STAT_HI (c + 48 * p) else leBytes 8 0
  else if k = 2 then (List.range 98304).flatMap fun c => s.booked64 b (8 * c)
  else if k = 3 then (List.range 262144).flatMap fun c => s.booked64 b (0xC0000 + 8 * c)
  else if k = 4 then (List.range 2048).flatMap fun c => z.shadow64 R.CTH_SYN_STAT_LO R.CTH_SYN_STAT_HI c
  else (List.range 256).flatMap fun c => z.shadow64 R.VLT_STAT_LO R.VLT_STAT_HI c

/-- The header of a book without its SEQ word (R507). -/
def State.bookHeader (s : State) (t status : Nat) (stepped holdover : Bool) (stale length : Nat) : List Byte :=
  let sec := t / 1000000000
  let flags := b2n stepped + 2 * b2n (stale != 0) + 4 * b2n holdover
  w32 0xB00CC105 ++ w32 1 ++ w32 (s.fld F.TLY_BOOK_CFG_SECTIONS 0 + 256 * status + 65536 * flags) ++ w32 (sec % 2 ^ 32) ++ w32 (sec / 2 ^ 32 % 65536)
    ++ w32 (t % 1000000000) ++ w32 stale ++ w32 length ++ List.replicate 28 0

/-- The dies whose time copies are stale (R44). -/
def State.staleDies (s : State) : Nat := maskOf 10 fun d => s.flag F.TIM_COPY_STATUS_STALE d

/-- Host address of the buffer of book number `seq` (R502). -/
def State.bookBuf (s : State) (seq : Nat) : Nat := s.rd64 R.TLY_BOOK_BUF_LO R.TLY_BOOK_BUF_HI (seq % 2)

/-- BOOK_CAPTURE (R503, R506): the open book whose T comes first has T at or before the present instant. Every unit copies its counters to its
shadows; where they still hold an earlier book, the book is missed, and only its header is written. -/
def execBookCapture (s : State) : Host.Outcome State Fault Refusal :=
  .next (
    let waiting := s.tly.booked.filter fun b => match s.tly.book with
      | some x => x.slot != b
      | none => true
    let due := waiting.filter fun b => decide (s.bookTime b ≤ s.netNs)
    match (if bit 0x7C s.mode then due.find? fun b => due.all fun c => decide (s.bookTime b ≤ s.bookTime c) else none) with
    | none => s
    | some b =>
      let t := s.bookTime b
      let q := s.bookSeq b
      let stepped := s.tly.passed.contains b
      if s.tly.book.isSome then
        let s := if s.hostReach then
            (s.hostWrite (s.bookBuf q) (s.bookHeader t 1 stepped (s.mode == 5) s.staleDies 64)).hostWrite (s.bookBuf q + 60) (w32 q) else s
        ((s.setCounted F.TLY_BOOK_STATUS_MISSED F.TLY_BOOK_STATUS_MISSED_COUNT 0).note E.TLY_BOOK_MISSED).freeBook b
      else
        { s with tly := { s.tly with
            epoch := s.tly.epoch + 1
            book := some { slot := b, seq := q, time := t, stepped := stepped, holdover := s.mode == 5, stale := s.staleDies
                           epoch := s.tly.epoch + 1, markers := false, shadows := s.regs } } }.settleBooks)

/-- BOOK_MARKERS_DONE (R504): every epoch marker has reached the tally store. Updates from before the capture have all arrived by then. -/
def execBookMarkersDone (s : State) : Host.Outcome State Fault Refusal :=
  .next (match s.tly.book with
    | some b => if s.tly.updates.any fun x => decide (x.epoch < b.epoch) then s
        else { s with tly := { s.tly with book := some { b with markers := true } } }
    | none => s)

/-- BOOK_CLOSE (R505, R507): the book has been drained and channel 29 has written it; its SEQ word comes last. -/
def execBookClose (s : State) : Host.Outcome State Fault Refusal :=
  .next (match s.tly.book with
    | none => s
    | some b =>
      if !b.markers || !s.hostReach then s
      else
        let secs := idxs 6 fun k => bit (s.fld F.TLY_BOOK_CFG_SECTIONS 0) k
        let len := secs.foldl (fun a k => a + sectionSize k) 64
        let a := s.bookBuf b.seq
        let t := s.each secs fun k t => t.hostWrite (a + sectionAt k) (s.sectionBytes b k)
        let t := (t.hostWrite a (s.bookHeader b.time 0 b.stepped b.holdover b.stale len)).hostWrite (a + 60) (w32 b.seq)
        ({ t.note E.TLY_BOOK_CLOSED with tly := { t.tly with book := none } }).freeBook b.slot)

/-- What BOOK_CONFIG adds to the checks of R94. -/
def State.bookConfigChecks (s : State) (r : Req) : Checks :=
  { Checks.plain C.BOOK_CONFIG with
      target := targetWhole 0x08 r
      args := firstFail [failIf (r.arg A.BOOK_CONFIG_BUF0_LO % 4096 != 0) (badArg A.BOOK_CONFIG_BUF0_LO 1),
        failIf (r.arg A.BOOK_CONFIG_BUF1_LO % 4096 != 0) (badArg A.BOOK_CONFIG_BUF1_LO 1)]
      units := [4], busy := if s.tly.booked.isEmpty then none else some 0x10 }

/-- What BOOK_CONFIG does once its checks have passed. -/
def State.bookConfigAct (s : State) (r : Req) : Ans :=
      let t := (s.setF F.TLY_BOOK_CFG_SECTIONS 0 (r.arg A.BOOK_CONFIG_SECTIONS)).wr R.TLY_BOOK_BUF_LO 0 (r.arg A.BOOK_CONFIG_BUF0_LO)
      let t := (t.wr R.TLY_BOOK_BUF_HI 0 (r.arg A.BOOK_CONFIG_BUF0_HI)).wr R.TLY_BOOK_BUF_LO 1 (r.arg A.BOOK_CONFIG_BUF1_LO)
      let t := t.wr R.TLY_BOOK_BUF_HI 1 (r.arg A.BOOK_CONFIG_BUF1_HI)
      .ok t (w32 (t.rd R.TLY_BOOK_CFG 0))

/-- BOOK_CONFIG (0x0D02, R516). -/
def execBookConfig (m : Nat) (s : State) : Host.Outcome State Fault Refusal :=
  .next (s.runCmd m C.BOOK_CONFIG s.bookConfigChecks s.bookConfigAct)

/-- T of a BOOK_SCHEDULE request in ns. -/
def Req.bookT (r : Req) : Nat :=
  r.arg64 A.BOOK_SCHEDULE_T_SEC_LO A.BOOK_SCHEDULE_T_SEC_HI * 1000000000 + r.arg A.BOOK_SCHEDULE_T_NS

/-- What BOOK_SCHEDULE adds to the checks of R94. -/
def State.bookScheduleChecks (s : State) (r : Req) : Checks :=
  { Checks.plain C.BOOK_SCHEDULE with
      target := targetWhole 0x08 r
      args := firstFail [r.range A.BOOK_SCHEDULE_T_NS 0 999999999, failIf (s.bookBuf 0 == 0 && s.bookBuf 1 == 0) (badArg A.BOOK_SCHEDULE_T_SEC_LO 1),
        failIf (decide (r.bookT < s.netNs + 10000)) (badArg A.BOOK_SCHEDULE_T_SEC_LO 2),
        failIf (s.tly.booked.length == 1 && s.tly.booked.any fun b => decide (r.bookT ≤ s.bookTime b)) (badArg A.BOOK_SCHEDULE_T_SEC_LO 3)]
      units := [4], busy := if s.tly.booked.length < 2 then none else some 0x11 }

/-- What BOOK_SCHEDULE does once its checks have passed. -/
def State.bookScheduleAct (s : State) (r : Req) : Ans :=
      let b := if s.tly.booked.contains 0 then 1 else 0
      let q := s.rd R.TLY_BOOK_NEXT_SEQ 0
      let t := ((s.wr R.TLY_BOOK_T_SEC_LO b (r.arg A.BOOK_SCHEDULE_T_SEC_LO)).wr R.TLY_BOOK_T_SEC_HI b (r.arg A.BOOK_SCHEDULE_T_SEC_HI)).wr
        R.TLY_BOOK_T_NS b (r.arg A.BOOK_SCHEDULE_T_NS)
      let t := (t.wr R.TLY_BOOK_SEQ b q).wr R.TLY_BOOK_NEXT_SEQ 0 ((q + 1) % 2 ^ 32)
      let t := { t with tly := { t.tly with booked := t.tly.booked ++ [b] } }.settleBooks
      .ok t (w32 q ++ w32 t.tly.booked.length)

/-- BOOK_SCHEDULE (0x0D03, R502, R517). No buffer is set while both addresses are 0 (DEDUCED, log entry 51). -/
def execBookSchedule (m : Nat) (s : State) : Host.Outcome State Fault Refusal :=
  .next (s.runCmd m C.BOOK_SCHEDULE s.bookScheduleChecks s.bookScheduleAct)

/-- The slot of an open book. -/
def State.slotOf (s : State) (seq : Nat) : Option Nat := s.tly.booked.find? fun b => s.bookSeq b == seq

/-- What BOOK_CANCEL adds to the checks of R94. -/
def State.bookCancelChecks (s : State) (r : Req) : Checks :=
  { Checks.plain C.BOOK_CANCEL with
      target := targetWhole 0x08 r, units := [4]
      busy := match s.slotOf (r.arg A.BOOK_CANCEL_SEQ), s.tly.book with
        | some b, some x => if x.slot = b then some 0x10 else none
        | _, _ => none }

/-- What BOOK_CANCEL does once its checks have passed. -/
def State.bookCancelAct (s : State) (r : Req) : Ans :=
  match s.slotOf (r.arg A.BOOK_CANCEL_SEQ) with
      | none => .fail s 0x0302 0
      | some b =>
        let t := s.freeBook b
        .ok t (w32 t.tly.booked.length)

/-- BOOK_CANCEL (0x0D04, R518). -/
def execBookCancel (m : Nat) (s : State) : Host.Outcome State Fault Refusal :=
  .next (s.runCmd m C.BOOK_CANCEL s.bookCancelChecks s.bookCancelAct)

/-! ### Marginalia -/

/-- What MARGINALIA_CONFIG adds to the checks of R94. -/
def State.marginaliaConfigChecks (_ : State) (r : Req) : Checks :=
  { Checks.plain C.MARGINALIA_CONFIG with target := targetWhole 0x48 r, dflt := [(A.MARGINALIA_CONFIG_IOAM_NS, 0)], units := [11] }

/-- What MARGINALIA_CONFIG does once its checks have passed. -/
def State.marginaliaConfigAct (s : State) (r : Req) : Ans :=
      let t := ((s.setF F.MRG_CFG_ALL 0 (r.arg A.MARGINALIA_CONFIG_ALL)).setF F.MRG_CFG_IOAM_SLOT 0 (r.arg A.MARGINALIA_CONFIG_IOAM_SLOT)).setF
        F.MRG_CFG_IOAM_NS 0 (r.arg A.MARGINALIA_CONFIG_IOAM_NS)
      .ok (t.wr R.MRG_NODE_ID 0 (r.arg A.MARGINALIA_CONFIG_NODE_ID)) (w32 (t.rd R.MRG_CFG 0))

/-- MARGINALIA_CONFIG (0x0D05). -/
def execMarginaliaConfig (m : Nat) (s : State) : Host.Outcome State Fault Refusal :=
  .next (s.runCmd m C.MARGINALIA_CONFIG s.marginaliaConfigChecks s.marginaliaConfigAct)

/-- What MARGINALIA_PORT adds to the checks of R94. -/
def State.marginaliaPortChecks (s : State) (r : Req) : Checks :=
  { Checks.plain C.MARGINALIA_PORT with target := s.targetPort 0x48 r, units := [11] }

/-- What MARGINALIA_PORT does once its checks have passed. -/
def State.marginaliaPortAct (s : State) (r : Req) : Ans :=
      let p := r.index
      let moved := s.fld F.MRG_PORT_CFG_SAMPLE_N p != r.arg A.MARGINALIA_PORT_SAMPLE_N
      let t := ((s.setF F.MRG_PORT_CFG_SEL_IN p (r.arg A.MARGINALIA_PORT_SEL_IN)).setF F.MRG_PORT_CFG_SEL_OUT p
        (r.arg A.MARGINALIA_PORT_SEL_OUT)).setF F.MRG_PORT_CFG_RECOGNISE p (r.arg A.MARGINALIA_PORT_RECOGNISE)
      let t := ((t.setF F.MRG_PORT_CFG_STRIP p (r.arg A.MARGINALIA_PORT_STRIP)).setF F.MRG_PORT_CFG_FORM p (r.arg A.MARGINALIA_PORT_FORM)).setF
        F.MRG_PORT_CFG_SAMPLE_N p (r.arg A.MARGINALIA_PORT_SAMPLE_N)
      let t := if moved then { t with cls := { t.cls with sampled := Tab.set 0 t.cls.sampled p 0 } } else t
      .ok t (w32 (t.rd R.MRG_PORT_CFG p))

/-- MARGINALIA_PORT (0x0D06, R509, R512). A change of SAMPLE_N restarts the count. -/
def execMarginaliaPort (m : Nat) (s : State) : Host.Outcome State Fault Refusal :=
  .next (s.runCmd m C.MARGINALIA_PORT s.marginaliaPortChecks s.marginaliaPortAct)

/-- What MARGINALIA_RULES adds to the checks of R94. -/
def State.marginaliaRulesChecks (_ : State) (r : Req) : Checks :=
  { Checks.plain C.MARGINALIA_RULES with
      target := targetWhole 0x48 r
      args := firstFail [r.range A.MARGINALIA_RULES_COUNT 1 65536,
        failIf (decide (65536 < r.arg A.MARGINALIA_RULES_FIRST + r.arg A.MARGINALIA_RULES_COUNT)) (badArg A.MARGINALIA_RULES_FIRST 1)]
      units := [11] }

/-- What MARGINALIA_RULES does once its checks have passed. -/
def State.marginaliaRulesAct (s : State) (r : Req) : Ans :=
      let d := r.arg A.MARGINALIA_RULES_DIE
      let a := r.arg A.MARGINALIA_RULES_FIRST
      let n := r.arg A.MARGINALIA_RULES_COUNT
      let t := s.each ((List.range 2048).filter fun w => decide (a < 32 * w + 32) && decide (32 * w < a + n)) fun w t =>
        let old := t.rd R.MRG_RULE_SEL (2048 * d + w)
        t.wr R.MRG_RULE_SEL (2048 * d + w) (maskOf 32 fun b =>
          if a ≤ 32 * w + b ∧ 32 * w + b < a + n then r.on A.MARGINALIA_RULES_SET else bit old b)
      let set := (List.range 2048).foldl (fun c w => c + popCount 32 (t.rd R.MRG_RULE_SEL (2048 * d + w))) 0
      .ok t (w32 set)

/-- MARGINALIA_RULES (0x0D07, R519). -/
def execMarginaliaRules (m : Nat) (s : State) : Host.Outcome State Fault Refusal :=
  .next (s.runCmd m C.MARGINALIA_RULES s.marginaliaRulesChecks s.marginaliaRulesAct)

end Sys2Proof.Machine
end

