-- ==== Sys2Proof/Machine/Crc.lean ====
section
/-! DEFINITION. The manual's checks: CRC-32 (R64), CRC-16 (R622) and the frame check sequence. -/
namespace Sys2Proof.Machine

/-- One bit of the reflected CRC-32 of R64. -/
def crc32Bit (c : Nat) : Nat := if c % 2 = 1 then (c / 2) ^^^ 0xEDB88320 else c / 2

/-- One byte of the CRC-32. -/
def crc32Byte (c : Nat) (b : Byte) : Nat := crc32Bit^[8] (c ^^^ b.toNat)

/-- CRC-32 as IEEE 802.3 (R64). -/
def crc32 (l : List Byte) : Nat := (l.foldl crc32Byte 0xFFFFFFFF) ^^^ 0xFFFFFFFF

/-- The CRC-32 of R64 with another initial value (R265, R294, R312): the register starts at it, bits in the reflected order (DEDUCED,
log entry 23). -/
def crc32From (init : Nat) (l : List Byte) : Nat := (l.foldl crc32Byte init) ^^^ 0xFFFFFFFF

/-- One bit of the CRC-16 of R622. -/
def crc16Bit (c : Nat) : Nat := if 0x8000 ≤ c then (2 * c % 0x10000) ^^^ 0x1021 else 2 * c

/-- CRC-16, polynomial 0x1021, initial value 0xFFFF, not reflected, no final exclusive-or (R622). -/
def crc16 (l : List Byte) : Nat := l.foldl (fun c b => crc16Bit^[8] (c ^^^ (b.toNat * 256))) 0xFFFF

/-- A frame's last four bytes are the CRC-32 of the others, least significant byte first. -/
def fcsOk (l : List Byte) : Bool := 4 ≤ l.length && crc32 (l.take (l.length - 4)) == leAt l (l.length - 4) 4

/-- Frame bytes with their correct FCS. -/
def withFcs (l : List Byte) : List Byte := l ++ w32 (crc32 l)

/-- Frame bytes whose FCS is the complement of the correct one (R23). -/
def withBadFcs (l : List Byte) : List Byte := l ++ w32 (crc32 l ^^^ 0xFFFFFFFF)

end Sys2Proof.Machine
end

