-- ==== Sys2Proof/Machine/Vault.lean ====
section
/-! DEFINITION. The vault: folios, pools, reference counts and their commands (R332 to R357). -/
namespace Sys2Proof.Machine

/-- Folios, descriptors and folios a bank of a spine die (R332, R336). -/
def dieFolios : Nat := 786432
def dieDescs : Nat := 81920
def bankFolios : Nat := 6144

/-- Advances counter `k` of a pool's VLT_STAT. -/
def State.poolStat (s : State) (p k n : Nat) : State := s.count64 R.VLT_STAT_LO R.VLT_STAT_HI (k + 8 * p) n

/-- Advances counter `k` of VLT_GSTAT. -/
def State.vaultStat (s : State) (k n : Nat) : State := s.count64 R.VLT_GSTAT_LO R.VLT_GSTAT_HI k n

/-- A pool is enabled; a pool is lossless. -/
def State.poolOn (s : State) (p : Nat) : Bool := s.flag F.VLT_POOL_CFG_ENABLE p
def State.lossless (s : State) (p : Nat) : Bool := s.flag F.VLT_POOL_CFG_LOSSLESS p

/-- RES_USED, COM_USED and HR_USED of a pool on a die (R339). -/
def State.resUsed (s : State) (d p : Nat) : Nat := s.fld F.VLT_POOL_RES_USED_VALUE (d + 2 * p)
def State.comUsed (s : State) (d p : Nat) : Nat := s.fld F.VLT_POOL_COM_USED_VALUE (d + 2 * p)
def State.hrUsed (s : State) (d p : Nat) : Nat := s.fld F.VLT_POOL_HR_USED_VALUE (d + 2 * p)

/-- Σ RESERVE of enabled pools and HEADROOM of enabled lossless pools (R339). -/
def State.promised (s : State) : Nat :=
  (idxs 32 fun p => s.poolOn p).foldl
    (fun a p => a + s.fld F.VLT_POOL_RESERVE_VALUE p + (if s.lossless p then s.fld F.VLT_POOL_HEADROOM_VALUE p else 0)) 0

/-- COMMON of a die (R339). -/
def State.common (s : State) : Nat := dieFolios - s.promised

/-- common_free of a die (R339). -/
def State.commonFree (s : State) (d : Nat) : Nat := s.common - (List.range 32).foldl (fun a p => a + s.comUsed d p) 0

/-- 2^ALPHA_LOG2 of a pool as a quotient; a value outside −7 to +3 acts as the nearest (R625). -/
def State.alpha (s : State) (p : Nat) : Nat × Nat :=
  let a := toSigned 4 (s.fld F.VLT_POOL_CFG_ALPHA_LOG2 p)
  if a < 0 then (1, 2 ^ (min 7 (-a).toNat)) else (2 ^ (min 3 a.toNat), 1)

/-- limit of R340. -/
def State.comLimit (s : State) (d p : Nat) : Nat :=
  if s.flag F.VLT_POOL_CFG_SHARE_MODE p then s.commonFree d * (s.alpha p).1 / (s.alpha p).2 else s.fld F.VLT_POOL_SHARE_VALUE p

/-- The die registers brought in line with the pool counts. -/
def State.refreshDie (s : State) (d : Nat) : State :=
  (s.setF F.VLT_DIE_COMMON_VALUE d s.common).setF F.VLT_DIE_COMMON_FREE_VALUE d (s.commonFree d)

/-- One folio request of pool `p` on die `d` (R340): the pool's counts after it, or none where it is refused. -/
def State.admitFolio (s : State) (d p : Nat) : Option State :=
  let i := d + 2 * p
  if s.resUsed d p < s.fld F.VLT_POOL_RESERVE_VALUE p then some (s.setF F.VLT_POOL_RES_USED_VALUE i (s.resUsed d p + 1))
  else if s.comUsed d p < s.comLimit d p ∧ 0 < s.commonFree d ∧ s.resUsed d p + s.comUsed d p < s.fld F.VLT_POOL_CAP_VALUE p then
    some (s.setF F.VLT_POOL_COM_USED_VALUE i (s.comUsed d p + 1))
  else if s.lossless p ∧ s.hrUsed d p < s.fld F.VLT_POOL_HEADROOM_VALUE p then
    some (s.setF F.VLT_POOL_HR_USED_VALUE i (s.hrUsed d p + 1))
  else none

/-- A freed folio's credit to its pool (R342). -/
def State.creditPool (s : State) (d p : Nat) : State :=
  let i := d + 2 * p
  if 0 < s.hrUsed d p then s.setF F.VLT_POOL_HR_USED_VALUE i (s.hrUsed d p - 1)
  else if 0 < s.comUsed d p then s.setF F.VLT_POOL_COM_USED_VALUE i (s.comUsed d p - 1)
  else s.setF F.VLT_POOL_RES_USED_VALUE i (s.resUsed d p - 1)

/-- The room of a pool on a die: the folios R340 would grant it from its reserve and the common space if nothing else changed. -/
def State.room (s : State) (d p : Nat) : Nat :=
  let reserve := s.fld F.VLT_POOL_RESERVE_VALUE p
  let fromReserve := reserve - s.resUsed d p
  let com := s.comUsed d p
  let cf := s.commonFree d
  let byCap := s.fld F.VLT_POOL_CAP_VALUE p - (max reserve (s.resUsed d p) + com)
  let byLimit :=
    if s.flag F.VLT_POOL_CFG_SHARE_MODE p then
      (let n := (s.alpha p).1
       let m := (s.alpha p).2
       if m * (com + 1) ≤ cf * n then (cf * n - m * (com + 1)) / (n + m) + 1 else 0)
    else s.fld F.VLT_POOL_SHARE_VALUE p - com
  fromReserve + min cf (min byCap byLimit)

/-- R344 applies on a die. -/
def State.descLow (s : State) (d : Nat) : Bool := decide (s.fld F.VLT_DIE_DESC_FREE_DESC d ≤ s.fld F.VLT_GLOBAL_DESC_FLOOR 0)

/-- XOFF of a lossless pool on a die, evaluated (R346). -/
def State.evalXoff (s : State) (d p : Nat) : State :=
  let i := d + 2 * p
  let room := s.room d p
  let s := s.setF F.VLT_POOL_STATE_BLOCKED i (b2n (s.poolOn p && room == 0))
  let ask := s.poolOn p && s.lossless p && (room == 0 || decide (0 < s.hrUsed d p) || s.descLow d)
  let keep := s.poolOn p && s.lossless p && !(s.hrUsed d p == 0 && !s.descLow d && decide (s.fld F.VLT_POOL_CFG_XON_GAP p ≤ room))
  if s.flag F.VLT_POOL_STATE_XOFF i then
    if keep then s
    else
      let since := (Tab.get none s.vlt.xoffSince i).getD s.now
      let s := (s.setF F.VLT_POOL_STATE_XOFF i 0).poolStat p 6 ((s.now - since) / 1000)
      { s with vlt := { s.vlt with xoffSince := Tab.set none s.vlt.xoffSince i none } }
  else if ask then
    let s := ((s.setF F.VLT_POOL_STATE_XOFF i 1).poolStat p 5 1).note E.VLT_XOFF
    { s with vlt := { s.vlt with xoffSince := Tab.set none s.vlt.xoffSince i (some s.now) } }
  else s

/-- Every pool of a die evaluated (R346), with DESC_LOW and the die's registers. -/
def State.settleDie (s : State) (d : Nat) : State :=
  let low := s.descLow d
  let s := if low && !s.flag F.VLT_DIE_DESC_DESC_LOW d then s.note E.VLT_DESC_LOW else s
  let s := (s.setF F.VLT_DIE_DESC_DESC_LOW d (b2n low)).refreshDie d
  s.each (List.range 32) fun p s => s.evalXoff d p

/-! ### Folios and links -/

/-- A folio's link record and bitmap bit. -/
def State.link (s : State) (f : Nat) : Link := Tab.get {} s.vlt.links f

/-- A folio's link record replaced. -/
def State.putLink (s : State) (f : Nat) (l : Link) : State := { s with vlt := { s.vlt with links := Tab.set {} s.vlt.links f l } }

/-- A folio's 128 bytes. -/
def State.folio (s : State) (f : Nat) : List Byte :=
  let l := Tab.get [] s.vlt.data f
  l ++ List.replicate (128 - l.length) 0

/-- A folio's bytes written. -/
def State.putFolio (s : State) (f : Nat) (bs : List Byte) : State := { s with vlt := { s.vlt with data := Tab.set [] s.vlt.data f bs } }

/-- The bank of a die a folio write goes to: the most free folios, the lowest number on a tie, never one with none (R333). -/
def State.pickBank (s : State) (d : Nat) : Option Nat :=
  ((List.range 128).foldl (fun (best : Option (Nat × Nat)) k =>
    let b := 128 * d + k
    let n := s.fld F.VLT_BANK_FREE_FREE b
    if n = 0 then best
    else match best with
      | some (m, _) => if m < n then some (n, b) else best
      | none => some (n, b)) none).map Prod.snd

/-- The lowest-numbered free folio of a bank (R335). -/
def State.lowestFree (s : State) (b : Nat) : Option Nat :=
  (lowest bankFolios fun i => (s.link (bankFolios * b + i)).free).map fun i => bankFolios * b + i

/-- The tally event of the vault unit that holds a folio's bank (R493): 16 FOLIO_ALLOC, 17 FOLIO_FREE, 19 FREE_REJECTED. -/
def State.bankEvent (s : State) (f code : Nat) : State := s.unitEvent (288 + f / bankFolios / 8) code 1

/-- One folio of a frame: admitted to its pool, given to a bank, and written; none where it is refused. -/
def State.storeFolio (s : State) (d p unit count : Nat) (bs : List Byte) : Option (State × Nat) :=
  match s.admitFolio d p with
  | none => none
  | some t =>
    match (t.pickBank d).bind t.lowestFree with
    | none => none
    | some f =>
      let t := (t.putLink f { next := 0, count := count, unit := unit, pool := p, free := false }).putFolio f bs
      let t := (t.dec F.VLT_BANK_FREE_FREE (f / bankFolios)).dec F.VLT_DIE_STATUS_FREE_FOLIOS d
      some ((t.poolStat p 1 1).bankEvent f 16, f)

/-- The bytes of a frame folio by folio, and its pocket (R31). -/
def chunks : Nat → List Byte → List (List Byte)
  | 0, _ => []
  | n + 1, l => l.take 128 :: chunks n (l.drop 128)

/-- The folios a frame of `L` bytes takes (R31). -/
def folioCount (L : Nat) : Nat := if L ≤ 128 then 1 else ceilDiv (L - 16) 128

/-- A frame's folios stored one after another: the state reached, the folios written, and whether every one was admitted. -/
def State.storeFolios (s : State) (d p unit count : Nat) : List (List Byte) → State × List Nat × Bool
  | [] => (s, [], true)
  | c :: cs =>
    match s.storeFolio d p unit count c with
    | none => (s, [], false)
    | some (t, f) =>
      let r := State.storeFolios t d p unit count cs
      (r.1, f :: r.2.1, r.2.2)

/-- The links of a chain written: each folio names the next by its die-local index. -/
def State.chain (s : State) : List Nat → State
  | [] => s
  | [_] => s
  | f :: g :: t => State.chain (s.putLink f { s.link f with next := g % dieFolios }) (g :: t)

/-- A free request for a folio by unit `who`, with the POOL and UNIT of the frame's descriptor (R349). -/
def State.freeFolio (s : State) (who f pool unit : Nat) : State :=
  let l := s.link f
  let last := fun (s : State) (k : Nat) =>
    ((s.setF F.VLT_FREE_ERR_LAST_FOLIO 0 f).setF F.VLT_FREE_ERR_LAST_UNIT 0 who).setF F.VLT_FREE_ERR_LAST_KIND 0 k
  if l.free || l.count == 0 then
    ((last ((s.bankEvent f 19).setCounted F.VLT_FREE_ERR_DOUBLE_FREE F.VLT_FREE_ERR_DOUBLE_COUNT 0) 0).vaultStat 0 1).note E.VLT_DOUBLE_FREE
  else if l.pool ≠ pool ∨ l.unit ≠ unit then
    ((last ((s.bankEvent f 19).setCounted F.VLT_FREE_ERR_FOREIGN_FREE F.VLT_FREE_ERR_FOREIGN_COUNT 0) 1).vaultStat 1 1).note E.VLT_FOREIGN_FREE
  else if 1 < l.count then s.putLink f { l with count := l.count - 1 }
  else
    let s := ((s.bankEvent f 17).putLink f { l with count := 0, free := true }).creditPool (f / dieFolios) l.pool
    (s.inc F.VLT_BANK_FREE_FREE (f / bankFolios)).inc F.VLT_DIE_STATUS_FREE_FOLIOS (f / dieFolios)

/-- Up to `n` folios of a chain from `f` in chain order (R334). -/
def State.folioChain (s : State) : Nat → Nat → List Nat
  | 0, _ => []
  | n + 1, f => f :: State.folioChain s n (dieFolios * (f / dieFolios) + (s.link f).next)

/-- A frame's descriptor. -/
def State.desc? (s : State) (k : Nat) : Option Desc := Tab.get none s.vlt.descs k

/-- A descriptor replaced. -/
def State.putDesc (s : State) (k : Nat) (d : Option Desc) : State := { s with vlt := { s.vlt with descs := Tab.set none s.vlt.descs k d } }

/-- The lowest-numbered free descriptor of a die that a pool may take (R344); which free one is taken is the model's choice (log
entry 11). -/
def State.pickDesc (s : State) (d p : Nat) : Option Nat :=
  if s.descLow d && !s.lossless p then none
  else if s.fld F.VLT_DIE_DESC_FREE_DESC d = 0 then none
  else (lowest dieDescs fun i => (s.desc? (dieDescs * d + i)).isNone).map fun i => dieDescs * d + i

/-- A descriptor taken with its contents; the die's free count falls. -/
def State.takeDesc (s : State) (k : Nat) (v : Desc) : State := (s.putDesc k (some v)).dec F.VLT_DIE_DESC_FREE_DESC (k / dieDescs)

/-- A descriptor freed. -/
def State.freeDesc (s : State) (k : Nat) : State :=
  match s.desc? k with
  | none => s
  | some v =>
    let s := { s with vlt := { s.vlt with spent := Tab.set none s.vlt.spent k (some v) } }
    (s.putDesc k none).inc F.VLT_DIE_DESC_FREE_DESC (k / dieDescs)

/-- The folio holding a descriptor's frame, in chain order. -/
def State.descFolios (s : State) (v : Desc) : List Nat := s.folioChain v.folios v.first

/-- A frame's bytes as the vault holds them, its pocket appended (R334). -/
def State.descBytes (s : State) (v : Desc) : List Byte :=
  ((s.descFolios v).flatMap fun f => s.folio f).take (min v.length (128 * v.folios)) ++ v.pocket

/-- A copy leaves: unit `who` frees each of its folios and its descriptor (R336, R349), and the dies settle. -/
def State.releaseDesc (s : State) (who k : Nat) : State :=
  match s.desc? k with
  | none => s
  | some v => (((s.each (s.descFolios v) fun f s => s.freeFolio who f v.pool v.unit).freeDesc k).settleDie (v.first / dieFolios)).settleDie
      (k / dieDescs)

/-- Every folio, descriptor and pool count of both dies free (R353). -/
def State.clearVault (s : State) : State :=
  let s := { s with vlt := {} }
  let s := s.each (List.range 256) fun b s => s.setF F.VLT_BANK_FREE_FREE b bankFolios
  let s := s.each (List.range 64) fun i s =>
    (((s.setF F.VLT_POOL_RES_USED_VALUE i 0).setF F.VLT_POOL_COM_USED_VALUE i 0).setF F.VLT_POOL_HR_USED_VALUE i 0).setF F.VLT_POOL_STATE_XOFF i 0
  s.each [0, 1] fun d s => ((s.setF F.VLT_DIE_STATUS_FREE_FOLIOS d dieFolios).setF F.VLT_DIE_DESC_FREE_DESC d dieDescs).settleDie d

/-- The pool of a frame by its ingress port and class (R338). -/
def State.poolOf (s : State) (port cls : Nat) : Nat :=
  bits (s.rd R.VLT_POOL_MAP (cls / 4 + 4 * port)) (8 * (cls % 4)) 5

/-- A frame refused its folios or its descriptor is counted against its pool (R343); counter 2, 3 or 4. -/
def State.poolDrop (s : State) (d p : Nat) (desc : Bool) : State :=
  let i := d + 2 * p
  if desc then s.poolStat p 4 1
  else if s.lossless p then
    ((s.setCounted F.VLT_POOL_STATE_HEADROOM_DROP F.VLT_POOL_STATE_HEADROOM_DROP_COUNT i).poolStat p 3 1).note E.VLT_HEADROOM_DROP
  else ((s.setCounted F.VLT_POOL_STATE_DROP F.VLT_POOL_STATE_DROP_COUNT i).poolStat p 2 1).note E.VLT_POOL_DROP

/-- A frame of `count` stored copies written to a die's banks, charged to pool `p` by unit class `unit` (R338 to R343, R348): its first folio
and the number of folios, or none where it is dropped. -/
def State.storeFrame (s : State) (d p unit count : Nat) (bs : List Byte) : State × Option (Nat × Nat) :=
  if !s.poolOn p then (s.poolStat p 2 1, none)
  else
    let n := folioCount bs.length
    let r := s.storeFolios d p unit count (chunks n bs)
    if r.2.2 then
      (match r.2.1 with
       | f :: _ => ((r.1.chain r.2.1).poolStat p 0 1, some (f, n))
       | [] => (r.1, none))
    else
      let bank := (r.1.pickBank d).getD 0 / 8
      let t := (r.1.unitEvent (288 + bank) 18 1).each r.2.1 fun f t => (t.putLink f { t.link f with count := 1 }).freeFolio 0 f p unit
      ((t.poolDrop d p false).settleDie d, none)

/-- The pocket of a frame (R31). -/
def pocketOf (bs : List Byte) : List Byte := bs.drop (128 * folioCount bs.length)

/-! ### Commands -/

/-- What VAULT_CONFIG adds to the checks of R94. -/
def State.vaultConfigChecks (_ : State) (r : Req) : Checks :=
  { Checks.plain C.VAULT_CONFIG with
      target := targetWhole 0x30 r, dflt := [(A.VAULT_CONFIG_DESC_FLOOR, 4096)]
      args := failIf r.expert (r.range A.VAULT_CONFIG_DESC_FLOOR 0 81919), units := [8] }

/-- What VAULT_CONFIG does once its checks have passed. -/
def State.vaultConfigAct (s : State) (r : Req) : Ans :=
      let t := (s.setF F.VLT_GLOBAL_HOST_POOL 0 (r.arg A.VAULT_CONFIG_HOST_POOL)).setF F.VLT_GLOBAL_DESC_FLOOR 0 (r.arg A.VAULT_CONFIG_DESC_FLOOR)
      let t := (t.settleDie 0).settleDie 1
      .ok t (w32 (t.rd R.VLT_GLOBAL 0))

/-- VAULT_CONFIG (0x0801): HOST_POOL and DESC_FLOOR. -/
def execVaultConfig (m : Nat) (s : State) : Host.Outcome State Fault Refusal :=
  .next (s.runCmd m C.VAULT_CONFIG s.vaultConfigChecks s.vaultConfigAct)

/-- A pool's configuration as POOL_CONFIG gives it. -/
def State.setPool (s : State) (p : Nat) (r : Req) : State :=
  let s := ((s.setF F.VLT_POOL_CFG_ENABLE p (r.arg A.POOL_CONFIG_ENABLE)).setF F.VLT_POOL_CFG_LOSSLESS p (r.arg A.POOL_CONFIG_LOSSLESS)).setF
    F.VLT_POOL_CFG_SHARE_MODE p (r.arg A.POOL_CONFIG_SHARE_MODE)
  let s := ((s.setF F.VLT_POOL_CFG_PFC_PRI p (r.arg A.POOL_CONFIG_PFC_PRI)).setF F.VLT_POOL_CFG_ALPHA_LOG2 p (r.arg A.POOL_CONFIG_ALPHA_LOG2)).setF
    F.VLT_POOL_CFG_XON_GAP p (r.arg A.POOL_CONFIG_XON_GAP)
  (((s.setF F.VLT_POOL_RESERVE_VALUE p (r.arg A.POOL_CONFIG_RESERVE)).setF F.VLT_POOL_CAP_VALUE p (r.arg A.POOL_CONFIG_CAP)).setF
    F.VLT_POOL_SHARE_VALUE p (r.arg A.POOL_CONFIG_SHARE)).setF F.VLT_POOL_HEADROOM_VALUE p (r.arg A.POOL_CONFIG_HEADROOM)

/-- The pool command's defaults (R106). -/
def poolDefaults : List (Arg × Nat) :=
  [(A.POOL_CONFIG_SHARE_MODE, 1), (A.POOL_CONFIG_ALPHA_LOG2, 0), (A.POOL_CONFIG_XON_GAP, 64), (A.POOL_CONFIG_CAP, 786432), (A.POOL_CONFIG_SHARE, 0)]

/-- What POOL_CONFIG adds to the checks of R94. -/
def State.poolConfigChecks (s : State) (r0 : Req) : Checks :=
      let r := filled C.POOL_CONFIG poolDefaults r0
      let alpha := toSigned 4 (r.arg A.POOL_CONFIG_ALPHA_LOG2)
      { Checks.plain C.POOL_CONFIG with
        target := targetError 0x30 5 32 false r, dflt := poolDefaults
        args := firstFail [r.range A.POOL_CONFIG_XON_GAP 1 65535,
          failIf (alpha < -7 || 3 < alpha) (badArg A.POOL_CONFIG_ALPHA_LOG2 1),
          r.range A.POOL_CONFIG_CAP (r.arg A.POOL_CONFIG_RESERVE) 786432,
          failIf (decide (dieFolios < (s.setPool r.index r).promised)) (badArg A.POOL_CONFIG_RESERVE 2)]
        units := [8] }

/-- What POOL_CONFIG does once its checks have passed. -/
def State.poolConfigAct (s : State) (r : Req) : Ans :=
      let t := ((s.setPool r.index r).settleDie 0).settleDie 1
      .ok t (w32 (t.rd R.VLT_POOL_CFG r.index) ++ w32 t.common)

/-- POOL_CONFIG (0x0802, R354). -/
def execPoolConfig (m : Nat) (s : State) : Host.Outcome State Fault Refusal :=
  .next (s.runCmd m C.POOL_CONFIG s.poolConfigChecks s.poolConfigAct)

/-- What POOL_MAP_SET adds to the checks of R94. -/
def State.poolMapSetChecks (s : State) (r : Req) : Checks :=
  { Checks.plain C.POOL_MAP_SET with
      target := s.targetPort 0x30 r
      args := (lowest 16 fun c => 32 ≤ byteAt r.params c).bind fun c => some (0x0103, (c / 4 * 4) * 65536 + 1), units := [8] }

/-- What POOL_MAP_SET does once its checks have passed. -/
def State.poolMapSetAct (s : State) (r : Req) : Ans :=
      let t := s.each (List.range 4) fun w s => s.wr R.VLT_POOL_MAP (w + 4 * r.index) (leAt r.params (4 * w) 4)
      .ok t (r.params.take 16)

/-- POOL_MAP_SET (0x0803, R355). -/
def execPoolMapSet (m : Nat) (s : State) : Host.Outcome State Fault Refusal :=
  .next (s.runCmd m C.POOL_MAP_SET s.poolMapSetChecks s.poolMapSetAct)

/-- What POOL_READ adds to the checks of R94. -/
def State.poolReadChecks (_ : State) (r : Req) : Checks :=
  { Checks.plain C.POOL_READ with target := targetError 0x30 5 32 false r }

/-- What POOL_READ does once its checks have passed. -/
def State.poolReadAct (s : State) (r : Req) : Ans :=
  .ok s ([0, 1].flatMap fun d =>
      w32 (s.resUsed d r.index) ++ w32 (s.comUsed d r.index) ++ w32 (s.hrUsed d r.index) ++ w32 (s.rd R.VLT_POOL_STATE (d + 2 * r.index)))

/-- POOL_READ (0x0804, R356). -/
def execPoolRead (m : Nat) (s : State) : Host.Outcome State Fault Refusal :=
  .next (s.runCmd m C.POOL_READ s.poolReadChecks s.poolReadAct)

/-- FOLIO_FREE (R349): a free request of unit class `who` for folio `f` with a descriptor's POOL and UNIT. -/
def execFolioFree (who f pool unit : Nat) (s : State) : Host.Outcome State Fault Refusal :=
  .next (if f < 2 * dieFolios then (s.freeFolio who f pool unit).settleDie (f / dieFolios) else s)

end Sys2Proof.Machine
end

