-- ==== Sys2Proof/Machine/Links.lean ====
section
/-! DEFINITION. Lanes and ports as the other units see them: descriptors, squelch, link state, OPER_UP, pause timers and statistics (R159 to
R229). -/
namespace Sys2Proof.Machine

/-! ### Lanes -/

def State.lane (s : State) (n : Nat) : Lane := Tab.get {} s.lanes n
def State.putLane (s : State) (n : Nat) (l : Lane) : State := { s with lanes := Tab.set {} s.lanes n l }

/-- The descriptor word the board table in use gives a lane; 0 without one. -/
def State.boardDesc (s : State) (n : Nat) : Nat := leAt s.boot.board (4096 + 16 * n) 4

/-- A lane's descriptor in force (R196). -/
def State.laneDesc (s : State) (n : Nat) : Nat := (s.lane n).descHeld.getD (s.boardDesc n)

/-- A lane is routed on the board. -/
def State.lanePresent (s : State) (n : Nat) : Bool := bit (s.laneDesc n) 5

/-- A lane's descriptor allows a rate and a coding; Stitch runs at 212.5 Gb/s only (R159, R195). -/
def State.laneAllows (s : State) (n rate coding : Nat) : Bool :=
  bit (s.laneDesc n) (2 + rate) && (coding == 0 || (bit (s.laneDesc n) 4 && rate == 0))

/-- VDD_LANE_A and VDD_LANE_T are both good (R605). -/
def State.laneRails (s : State) : Bool := bits (s.fld F.GLB_RAIL_STATUS_GOOD 0) 2 2 == 3

/-- The lane's transmitter stays squelched (R162, R605, and loopback 3 of R190 in Test). -/
def State.squelched (s : State) (n : Nat) : Bool :=
  !s.laneRails || !s.flag F.LANE_CTL_ENABLE n || s.flag F.LANE_CTL_TX_SQUELCH n || !bit 0x78 s.mode || !s.lanePresent n
    || (s.mode == 6 && s.fld F.LANE_CTL_LOOPBACK n == 3)

/-- TX_READY brought in line: transmit PLL locked and transmitter on. -/
def State.refreshTx (s : State) (n : Nat) : State := s.setF F.LANE_STATUS_TX_READY n (b2n ((s.lane n).pll && !s.squelched n))

/-! ### Ports -/

def State.mac (s : State) (p : Nat) : Mac := Tab.get {} s.macs p
def State.putMac (s : State) (p : Nat) (m : Mac) : State := { s with macs := Tab.set {} s.macs p m }

/-- Lanes of a port by its SPEED code (R159). -/
def speedLanes (speed : Nat) : Nat := if speed = 0 then 8 else if speed = 1 then 4 else if speed = 2 then 2 else 1

/-- RATE and CODING of a port's lanes by its SPEED code (R159). -/
def speedRate (speed : Nat) : Nat := if speed = 4 then 1 else 0
def speedCoding (speed : Nat) : Nat := if speed = 5 then 1 else 0

/-- Line rate by SPEED code, in Gb/s; a Stitch port offers 204.2 Gb/s of payload (R187). -/
def speedGbps (speed : Nat) : Nat := [1600, 800, 400, 200, 100, 204].getD speed 0

def State.speed (s : State) (p : Nat) : Nat := s.fld F.MAC_CFG_SPEED p
def State.stitchPort (s : State) (p : Nat) : Bool := s.portConfigured p && s.speed p == 5

/-- The port a lane belongs to. -/
def State.portOfLane? (s : State) (n : Nat) : Option Nat :=
  ([1, 2, 4, 8].map fun k => n - n % k).find? fun p => s.portConfigured p && decide (n < p + speedLanes (s.speed p))

/-- The lanes of a port. -/
def State.portLanes (s : State) (p : Nat) : List Nat := (List.range (speedLanes (s.speed p))).map fun i => p + i

/-- The tally event of a MAC unit that a statistics counter of a port goes with (R493). -/
def macEvent (k : Nat) : Option Nat :=
  if k = 0 then some 16 else if k = 15 then some 17 else if k = 2 then some 18 else if k = 19 then some 19 else if k = 17 then some 21 else none

/-- Advances statistics counter `k` of a port by `n`, setting its bit of MAC_STAT_SAT when it stops (R229). -/
def State.macStat (s : State) (p k n : Nat) : State :=
  let i := k + 48 * p
  let s := match macEvent k with
    | some e => s.unitEvent (96 + p / 32) e n
    | none => s
  let s := if 2 ^ 64 ≤ s.rd64 R.MAC_STAT_LO R.MAC_STAT_HI i + n then
      s.wr R.MAC_STAT_SAT (k / 32 + 2 * p) (s.rd R.MAC_STAT_SAT (k / 32 + 2 * p) ||| 2 ^ (k % 32)) else s
  s.count64 R.MAC_STAT_LO R.MAC_STAT_HI i n

/-- The link of R203 is present. -/
def State.linkPresent (s : State) (p : Nat) : Bool :=
  if s.speed p = 5 then s.flag F.STCH_STATUS_LINK_UP p else s.flag F.PCS_STATUS_ALIGNED p

/-- The conditions of R203 but ADMIN_UP and UP_HOLD_US. -/
def State.portHealthy (s : State) (p : Nat) : Bool :=
  bit 0x70 s.mode && s.portConfigured p && !s.flag F.MAC_STATUS_ERR_DISABLED p && s.linkPresent p
    && !s.flag F.MAC_STATUS_LOCAL_FAULT p && !s.flag F.MAC_STATUS_REMOTE_FAULT p

def State.operUp (s : State) (p : Nat) : Bool := s.flag F.MAC_STATUS_OPER_UP p

/-- A port as next-hop groups see it: up, and not administratively down (R206, R208). -/
def State.portLive (s : State) (p : Nat) : Bool := s.operUp p && s.flag F.MAC_CFG_ADMIN_UP p

/-! ### Copies -/

def State.copy? (s : State) (n : Nat) : Option Copy := Tab.get none s.copies n
def State.putCopy (s : State) (n : Nat) (c : Option Copy) : State := { s with copies := Tab.set none s.copies n c }

/-- A copy is gone: unit class EGRESS frees its folios and its descriptor (R336, R348). -/
def State.dropCopy (s : State) (n : Nat) : State :=
  match s.copy? n with
  | none => s
  | some c =>
    let s := match c.desc with
      | some k => s.releaseDesc 1 k
      | none => s
    s.putCopy n none

/-- Frame number `id` is found bad (R23, R241): its stored copies that have not started are marked BAD, and a copy on its way out is
stomped. -/
def State.markBad (s : State) (id : Nat) : State :=
  let s := { s with vlt := { s.vlt with descs := s.vlt.descs.map fun (e : Nat × Option Desc) =>
    (e.1, e.2.map fun (d : Desc) => if d.frameId == id then { d with bad := true } else d) } }
  let s := { s with ldg := { s.ldg with held := s.ldg.held.map fun (l : Learn) => if l.frameId == id then { l with bad := true } else l } }
  let s := { s with cls := { s.cls with toEnq := s.cls.toEnq.map fun (e : Nat × List Routed) =>
    (e.1, e.2.map fun (r : Routed) => if r.frame.id == id then { r with frame := { r.frame with bad := true } } else r) } }
  { s with copies := s.copies.map fun (e : Nat × Option Copy) => (e.1, e.2.map fun (c : Copy) => if c.frameId == id && c.cut then { c with stomp := true } else c) }

/-! ### Pause timers -/

/-- Priority `q` of a port is no longer paused; its paused time counts in RX_PAUSED_US (R215, R229). -/
def State.endPause (s : State) (p q : Nat) : State :=
  let m := s.mac p
  let s := match Tab.get none m.pausedSince q with
    | some t => s.macStat p (40 + q) ((s.now - t) / 1000)
    | none => s
  let s := s.putMac p { s.mac p with paused := Tab.set 0 m.paused q 0, pausedSince := Tab.set none m.pausedSince q none }
  (s.setF F.MAC_PFC_TIMER_REMAINING (q + 8 * p) 0).setF F.MAC_PFC_STATUS_PAUSED p (putBits (s.fld F.MAC_PFC_STATUS_PAUSED p) q 1 0)

/-- The queues priority `q` pauses by the port's map (R214). -/
def State.pfcMap (s : State) (p q : Nat) : Nat := bits (s.rd R.MAC_PFC_QMAP (q / 2 + 4 * p)) (16 * (q % 2)) 16

/-- The queues of a port that a running pause timer names (R215, R227). -/
def State.pausedQueues (s : State) (p : Nat) : Nat := (List.range 8).foldl (fun a q => a ||| Tab.get 0 (s.mac p).paused q) 0

/-! ### OPER_UP -/

/-- The frames a port was sending end with the complement of their FCS and are counted (R207). -/
def State.endSending (s : State) (p : Nat) : State :=
  let m := s.mac p
  let s := match m.sending with
    | some x => (s.dropCopy x.copy).macStat p 18 1
    | none => s
  let s := match m.preempted with
    | some x => (s.dropCopy x.copy).macStat p 18 1
    | none => s
  s.putMac p { s.mac p with sending := none, preempted := none, cutByGate := false }

/-- LDG_PORT_LIVE of a port (R312). -/
def State.live (s : State) (p : Nat) : Bool := bit (s.rd R.LDG_PORT_LIVE (p / 32)) (p % 32)

/-- LDG_PORT_LIVE of a port follows the down indication and OPER_UP (R313). -/
def State.setLive (s : State) (p : Nat) (on : Bool) : State :=
  s.wr R.LDG_PORT_LIVE (p / 32) (putBits (s.rd R.LDG_PORT_LIVE (p / 32)) (p % 32) 1 (b2n on))

/-- The falls of OPER_UP in the last 10 s. -/
def recentFlaps (now : Nat) (l : List Nat) : List Nat := l.filter fun t => now - t < 10000000000

/-- OPER_UP falls: DOWN, flaps, ERR_DISABLED, the frame in transmission, pause timers and verify (R206 to R209). -/
def State.portDown (s : State) (p : Nat) : State :=
  if !s.operUp p then s
  else
    let s := ((s.setF F.MAC_STATUS_OPER_UP p 0).setLive p false).endSending p
    let s := s.each (List.range 8) fun q s => s.endPause p q
    let s := if s.fld F.MAC_PREEMPT_STATUS_STATE p = 1 then (s.setF F.MAC_PREEMPT_STATUS_STATE p 0).setF F.MAC_PREEMPT_STATUS_ATTEMPTS p 0 else s
    let s := (s.setCounted F.MAC_STATUS_DOWN F.MAC_STATUS_DOWN_COUNT p).note (E.MAC_PORT_EVENT p)
    let fl := recentFlaps s.now (s.mac p).flaps ++ [s.now]
    let s := (s.putMac p { s.mac p with flaps := fl }).setF F.MAC_STATUS_FLAPS_IN_WINDOW p (satBits 8 fl.length)
    let lim := s.fld F.MAC_CFG2_FLAP_LIMIT p
    if lim ≠ 0 ∧ lim < fl.length then
      (((s.setF F.MAC_STATUS_ERR_DISABLED p 1).setCounted F.MAC_STATUS_ERR_DIS_SET F.MAC_STATUS_ERR_DIS_COUNT p).note (E.MAC_PORT_EVENT p)).note
        (E.MAC_PORT_ERR_DISABLED (p / 64))
    else s

/-- LINK brought in line; a port that has lost a condition of R203 other than ADMIN_UP goes down at once (R206). -/
def State.checkPort (s : State) (p : Nat) : State :=
  let s := s.setF F.MAC_STATUS_LINK p (b2n (s.portConfigured p && s.linkPresent p))
  if s.portHealthy p then s else s.portDown p

/-- The port of a lane, if any, checked. -/
def State.checkLanePort (s : State) (n : Nat) : State :=
  match s.portOfLane? n with
  | some p => s.checkPort p
  | none => s

/-- The verify protocol starts, or preemption is active unverified, or is off (R222). -/
def State.startVerify (s : State) (p : Nat) : State :=
  if s.flag F.MAC_PREEMPT_CFG_ENABLE p then
    if s.flag F.MAC_PREEMPT_CFG_VERIFY_DISABLE p then (s.setF F.MAC_PREEMPT_STATUS_STATE p 4).setF F.MAC_PREEMPT_STATUS_ATTEMPTS p 0
    else if s.operUp p then
      ((s.setF F.MAC_PREEMPT_STATUS_STATE p 1).setF F.MAC_PREEMPT_STATUS_ATTEMPTS p 1).putMac p { s.mac p with control := (2, []) }
    else (s.setF F.MAC_PREEMPT_STATUS_STATE p 0).setF F.MAC_PREEMPT_STATUS_ATTEMPTS p 0
  else (s.setF F.MAC_PREEMPT_STATUS_STATE p 0).setF F.MAC_PREEMPT_STATUS_ATTEMPTS p 0

/-- Preemption is active on a port (R374). -/
def State.preemptActive (s : State) (p : Nat) : Bool := s.fld F.MAC_PREEMPT_STATUS_STATE p == 2 || s.fld F.MAC_PREEMPT_STATUS_STATE p == 4

/-- Every port goes down (R49, R605). -/
def State.allPortsDown (s : State) : State := s.each (List.range 1024) fun p s => s.portDown p

/-- Every port's conditions checked after a change of mode. -/
def State.checkPorts (s : State) : State := s.each (List.range 1024) fun p s => if s.portConfigured p then s.checkPort p else s

/-! ### Lanes that go down -/

/-- Alignment of an Ethernet port is lost (R173). -/
def State.loseAlignment (s : State) (p : Nat) : State :=
  if s.flag F.PCS_STATUS_ALIGNED p then
    (((s.setF F.PCS_STATUS_ALIGNED p 0).setCounted F.PCS_STATUS_ALIGN_LOSS F.PCS_STATUS_ALIGN_LOSS_COUNT p).note (E.LANE_BLOCK_LOSS p)).checkPort p
  else s

/-- A lane stops carrying traffic: its transmit PLL, receiver and coding locks are gone and its port loses its link. -/
def State.stopLane (s : State) (n : Nat) : State :=
  let s := (s.putLane n { s.lane n with pll := false, descHeld := none }).refreshTx n
  let s := ((s.setF F.LANE_STATUS_CDR_LOCK n 0).setF F.LANE_STATUS_STEPPING n 0).setF F.PCS_STATUS_AM_LOCK n 0
  let s := ((s.setF F.STCH_STATUS_BLOCK_LOCK n 0).setF F.STCH_STATUS_SIG_LOCK n 0).setF F.STCH_STATUS_LINK_UP n 0
  match s.portOfLane? n with
  | some p => (s.loseAlignment p).checkPort p
  | none => s

/-- The MAC/PCS domains of two quires stop with their lane transmit clocks, and their ports go down (R142). -/
def State.stopQd (s : State) (k : Nat) : State :=
  let s := s.each [6 + 2 * k, 7 + 2 * k] fun d s =>
    if s.flag F.CKG_DOMAIN_STATUS_RUNNING d then (s.setF F.CKG_DOMAIN_STATUS_RUNNING d 0).setF F.CKG_DOMAIN_STATUS_HELD d 1 else s
  let s := s.each ((List.range 128).map fun i => 128 * k + i) fun n s =>
    let s := (s.putLane n { s.lane n with pll := false }).refreshTx n
    match s.portOfLane? n with
    | some p => ((s.loseAlignment p).setF F.STCH_STATUS_LINK_UP n 0).checkPort p
    | none => s
  s.note E.CKG_QD_DOMAIN_STOPPED

end Sys2Proof.Machine
end

