-- ==== Sys2Proof/Machine/Punt.lean ====
section
/-! DEFINITION. Punting to the host queues (R248 to R250, R480). -/
namespace Sys2Proof.Machine

/-- DEPTH of a host queue in folios. -/
def State.hostqDepth (s : State) (q : Nat) : Nat := s.fld F.DMA_HOSTQ_STATUS_DEPTH q

/-- A host queue drops a frame (R480). -/
def State.hostqDrop (s : State) (q : Nat) : State :=
  ((s.setCounted F.DMA_HOSTQ_STATUS_DROP F.DMA_HOSTQ_STATUS_DROP_COUNT q).count64 R.DMA_HOSTQ_DROPS_LO R.DMA_HOSTQ_DROPS_HI q 1).note E.DMA_HOSTQ_DROP

/-- A frame joins host queue `q` on the West half of the vault, charged to HOST_POOL (R338, R480). -/
def State.hostqEnqueue (s : State) (q reason : Nat) (f : Frame) (record : List Byte) (cls stamp : Nat) : State :=
  let lim := 16 * s.fld F.DMA_HOSTQ_CFG_DEPTH_LIMIT q
  let n := folioCount f.bytes.length
  let pool := s.fld F.VLT_GLOBAL_HOST_POOL 0
  if lim ≠ 0 ∧ lim < s.hostqDepth q + n then s.hostqDrop q
  else
    match s.pickDesc 0 pool with
    | none => (s.poolDrop 0 pool true).hostqDrop q
    | some k =>
      match s.storeFrame 0 pool 0 1 f.bytes with
      | (t, none) => t.hostqDrop q
      | (t, some (first, m)) =>
        let d : Desc := { length := f.bytes.length, first := first, pool := pool, unit := 0, cls := cls, host := true, ingress := f.port,
                          enqStamp := stamp, pocket := pocketOf f.bytes, record := record, rxStamp := f.rxStamp, stale := f.stale,
                          folios := m, reason := reason, bad := f.bad, frameId := f.id }
        let t := (t.takeDesc k d).setF F.DMA_HOSTQ_STATUS_DEPTH q (s.hostqDepth q + m)
        ({ t with hostqs := Tab.set [] t.hostqs q (Tab.get [] t.hostqs q ++ [k]) }).settleDie 0

/-- A bucket's tokens set, in units of 2^−32 frames; TOKENS shows whole frames. -/
def State.setPuntTokens (s : State) (r v : Nat) : State :=
  ({ s with prs := { s.prs with puntTokens := Tab.set 0 s.prs.puntTokens r v } }).setF F.DMA_PUNT_STATUS_TOKENS r (v / 2 ^ 32)

/-- A bucket filled to BURST, as every write of RATE or BURST does (R249). -/
def State.fillPunt (s : State) (r : Nat) : State := s.setPuntTokens r (s.fld F.DMA_PUNT_CFG2_BURST r * 2 ^ 32)

/-- A frame is punted for a reason: it takes one token and joins the reason's host queue, or is dropped (R248, R250). -/
def State.punt (s : State) (reason : Nat) (f : Frame) (record : List Byte) (cls stamp : Nat) : State :=
  let tok := Tab.get 0 s.prs.puntTokens reason
  if s.fld F.DMA_PUNT_CFG_RATE reason ≠ 0 ∧ 2 ^ 32 ≤ tok then
    let s := (s.setPuntTokens reason (tok - 2 ^ 32)).count64 R.DMA_PUNT_PASSED_LO R.DMA_PUNT_PASSED_HI reason 1
    s.hostqEnqueue (s.fld F.DMA_PUNT_CFG2_HOST_QUEUE reason) reason f record cls stamp
  else
    ((s.count64 R.DMA_PUNT_DROPS_LO R.DMA_PUNT_DROPS_HI reason 1).setCounted F.DMA_PUNT_STATUS_DROP F.DMA_PUNT_STATUS_DROP_COUNT reason).note
      E.DMA_PUNT_DROP

/-- PUNT_REFILL (R248): every bucket gains 1 µs of its rate, up to BURST. -/
def execPuntRefill (s : State) : Host.Outcome State Fault Refusal :=
  .next (s.each (List.range 64) fun r s =>
    s.setPuntTokens r (min (s.fld F.DMA_PUNT_CFG2_BURST r * 2 ^ 32)
      (Tab.get 0 s.prs.puntTokens r + s.fld F.DMA_PUNT_CFG_RATE r * 2 ^ 32 / 1000000)))

/-- What PUNT_CONFIG adds to the checks of R94. -/
def State.puntConfigChecks (_ : State) (r : Req) : Checks :=
  { Checks.plain C.PUNT_CONFIG with
      target := targetError 0x06 15 64 true r, dflt := [(A.PUNT_CONFIG_HOST_QUEUE, if r.all then 0 else r.index)]
      args := failIf (r.arg A.PUNT_CONFIG_BURST == 0) (badArg A.PUNT_CONFIG_BURST 1), units := [3] }

/-- What PUNT_CONFIG does once its checks have passed. -/
def State.puntConfigAct (s : State) (r : Req) : Ans :=
      let t := s.each (r.instances 64) fun i t =>
        let q := if r.expert then r.arg A.PUNT_CONFIG_HOST_QUEUE else i
        (((t.setF F.DMA_PUNT_CFG_RATE i (r.arg A.PUNT_CONFIG_RATE)).setF F.DMA_PUNT_CFG2_BURST i (r.arg A.PUNT_CONFIG_BURST)).setF
          F.DMA_PUNT_CFG2_HOST_QUEUE i q).fillPunt i
      let i := if r.all then 0 else r.index
      .ok t (w32 (t.rd R.DMA_PUNT_CFG i) ++ w32 (t.rd R.DMA_PUNT_CFG2 i))

/-- PUNT_CONFIG (0x0506, R249, R260). -/
def execPuntConfig (m : Nat) (s : State) : Host.Outcome State Fault Refusal :=
  .next (s.runCmd m C.PUNT_CONFIG s.puntConfigChecks s.puntConfigAct)

end Sys2Proof.Machine
end

