-- ==== Sys2Proof/Machine/Parser.lean ====
section
/-! DEFINITION. The parse ladder, the flat path and the parser's tables and commands (R231 to R261). -/
namespace Sys2Proof.Machine

/-! ### Tables -/

/-- Base of a pipeline's parser registers. -/
def prsBase (i : Nat) : Nat := 0x10480000 + (i / 2) * 0x1000000 + (i % 2) * 0x40000

/-- Offsets of state descriptor `x` and transition `t` of a bank, flat profile `p` and express entry `e`. -/
def prsDesc (i b x : Nat) : Nat := prsBase i + 0x8000 + 0x800 * b + 8 * x
def prsTrans (i b t : Nat) : Nat := prsBase i + 0x10000 + 0x8000 * b + 32 * t
def prsFlat (i p : Nat) : Nat := prsBase i + 0x1000 + 64 * p
def prsExp (i e : Nat) : Nat := prsBase i + 0x2000 + 0x100 * e

/-- The bank in use. -/
def State.activeBank (s : State) (i : Nat) : Nat := s.fld F.PRS_PIPE_CFG_ACTIVE_BANK i

/-- Advances parse counter `k` of a pipeline, setting its sticky bit when it stops; 0, 11 and 12 are tally events too (R493). -/
def State.prsStat (s : State) (i k : Nat) : State :=
  let s := if k = 0 then s.unitEvent (128 + i) 16 1 else if k = 11 then s.unitEvent (128 + i) 18 1
    else if k = 12 then s.unitEvent (128 + i) 19 1 else s
  let s := if s.rd64 R.PRS_STAT_LO R.PRS_STAT_HI (k + 16 * i) + 1 = 2 ^ 64 then
      s.wr R.PRS_STAT_SAT i (s.rd R.PRS_STAT_SAT i ||| 2 ^ k) else s
  s.count64 R.PRS_STAT_LO R.PRS_STAT_HI (k + 16 * i) 1

/-- A bit field [lo + wd − 1 : lo] of word `w` of a table entry held as one number. -/
def entryBits (e w lo wd : Nat) : Nat := bits e (32 * w + lo) wd

/-! ### The ladder (R235) -/

/-- Where the ladder stands. -/
structure Rung where
  state : Nat
  cursor : Nat := 0
  rung : Nat := 0
  vlans : Nat := 0
  labels : Nat := 0
  encaps : Nat := 0
  ipEnd : Option Nat := none
  pendingEnd : Nat := 0
  key : List Byte := List.replicate 80 0#8
  offsets : List Byte := List.replicate 16 0#8
  valid : Nat := 0
  clipped : Bool := false
  /-- OUTCOME and CAUSE once the parse has stopped (R242). -/
  stopped : Option (Nat × Nat) := none
  deriving DecidableEq, Repr

/-- One extraction of a transition (R236). -/
def extractOp (fr : List Byte) (depth op : Nat) (r : Rung) : Rung :=
  if !bit op 17 then r
  else
    let src := r.cursor + bits op 0 6
    let n := bits op 6 4 + 1
    let dst := bits op 10 7
    (List.range n).foldl (fun r k =>
      let a := src + k
      let clip := decide (fr.length ≤ a) || decide (depth ≤ a)
      { r with key := if dst + k < 80 then r.key.set (dst + k) (if clip then 0#8 else fr.getD a 0#8) else r.key
               clipped := r.clipped || clip }) r

/-- The header length a transition gives (R234). -/
def headerLen (t : Nat) (fr : List Byte) (cursor : Nat) : Nat :=
  if entryBits t 3 27 1 = 0 then entryBits t 3 8 8
  else (bits (byteAt fr (cursor + entryBits t 3 16 6)) 0 8 >>> entryBits t 3 22 3 &&& entryBits t 4 0 8) * 2 ^ entryBits t 3 25 2 + entryBits t 3 8 8

/-- The count a transition names, and the cause of R237 where it passes its limit. -/
def applyCount (t : Nat) (r : Rung) : Rung × Option Nat :=
  let c := entryBits t 4 21 2
  if c = 1 then (if r.vlans = 8 then (r, some 3) else ({ r with vlans := r.vlans + 1 }, none))
  else if c = 2 then (if r.labels = 12 then (r, some 4) else ({ r with labels := r.labels + 1 }, none))
  else if c = 3 then (if r.encaps = 3 then (r, some 5) else ({ r with encaps := r.encaps + 1 }, none))
  else (r, none)

/-- A transition's length check (R240): the state after it, or the reason of outcome length. -/
def applyCheck (t : Nat) (fr : List Byte) (len : Nat) (r : Rung) : Rung × Option Nat :=
  let c := entryBits t 4 23 3
  if c = 1 then
    let total := beAt fr (r.cursor + 2) 2
    if total < len then (r, some 2)
    else ({ r with ipEnd := some (r.cursor + total), pendingEnd := max r.pendingEnd (r.cursor + total) }, none)
  else if c = 2 then
    let pay := beAt fr (r.cursor + 4) 2
    let ip := if pay = 0 then r.ipEnd else some (r.cursor + 40 + pay)
    ({ r with ipEnd := ip, pendingEnd := max r.pendingEnd (ip.getD 0) }, none)
  else if c = 3 then
    let len := beAt fr (r.cursor + 4) 2
    let beyond := match r.ipEnd with
      | some e => decide (e < r.cursor + len)
      | none => false
    if decide (len < 8) || beyond then (r, some 3) else (r, none)
  else (r, none)

/-- What a rung finds of its header: OUTCOME and CAUSE of the first stopping condition, or the transition and the header's length. -/
def rungFind (desc trans : Nat → Nat) (fr : List Byte) (depth : Nat) (perr : Option Nat) (r : Rung) : (Nat × Nat) ⊕ (Nat × Nat) :=
  let d := desc r.state
  let o0 := r.cursor + entryBits d 0 0 6
  let o1 := r.cursor + entryBits d 0 8 6
  let en1 := entryBits d 0 16 1 == 1
  if r.rung = 24 then .inl (1, 1)
  else if entryBits d 0 31 1 = 0 then .inl (3, 1)
  else if depth ≤ o0 + 1 ∨ (en1 ∧ depth ≤ o1 + 1) then .inl (1, 2)
  else if fr.length ≤ o0 + 1 ∨ (en1 ∧ fr.length ≤ o1 + 1) then .inl (2, 4)
  else
    let look := beAt fr o0 2 * 65536 + (if en1 then beAt fr o1 2 else 0)
    match (List.range 1024).find? fun k =>
        let t := trans k
        entryBits t 0 16 1 == 1 && (r.state &&& entryBits t 0 8 8) == (entryBits t 0 0 8 &&& entryBits t 0 8 8)
          && (look &&& entryBits t 2 0 32) == (entryBits t 1 0 32 &&& entryBits t 2 0 32) with
    | none => .inl (3, 1)
    | some k =>
      let t := trans k
      let fo := r.cursor + entryBits t 3 16 6
      let byField := entryBits t 3 27 1 == 1
      let len := headerLen t fr r.cursor
      if perr = some r.rung then .inl (3, 2)
      else if byField ∧ depth ≤ fo then .inl (1, 2)
      else if byField ∧ fr.length ≤ fo then .inl (2, 4)
      else if len < entryBits t 4 8 8 then .inl (2, 2)
      else if fr.length - 4 < r.cursor + len then .inl (2, 4)
      else if depth < r.cursor + len then .inl (1, 2)
      else .inr (k, len)

/-- One rung (R235). -/
def rungStep (desc trans : Nat → Nat) (fr : List Byte) (depth : Nat) (perr : Option Nat) (r : Rung) : Rung :=
  match rungFind desc trans fr depth perr r with
  | .inl oc => { r with stopped := some oc }
  | .inr (k, len) =>
    let t := trans k
    match applyCount t r with
    | (r, some cause) => { r with stopped := some (1, cause) }
    | (r, none) =>
      match applyCheck t fr len r with
      | (r, some reason) => { r with stopped := some (2, reason) }
      | (r, none) =>
        let slot := entryBits t 4 16 4
        let r := if entryBits t 4 20 1 = 1 then
            { r with offsets := r.offsets.set slot (BitVec.ofNat 8 r.cursor), valid := r.valid ||| 2 ^ slot } else r
        let ext := bits t 160 96
        let r := [0, 1, 2, 3].foldl (fun r i => extractOp fr depth (bits ext (24 * i) 24) r) r
        { r with cursor := r.cursor + len, state := entryBits t 3 0 8, rung := r.rung + 1 }

/-- The ladder from a state, at most `fuel` rungs; it ends complete at state 0xFF (R235). -/
def climb (desc trans : Nat → Nat) (fr : List Byte) (depth : Nat) (perr : Option Nat) : Nat → Rung → Rung
  | 0, r => r
  | fuel + 1, r =>
    if r.stopped.isSome then r
    else if r.state = 0xFF then { r with stopped := some (0, 0) }
    else climb desc trans fr depth perr fuel (rungStep desc trans fr depth perr r)

/-- The parse of a frame under the active bank of its pipeline. -/
def State.ladder (s : State) (i port : Nat) (fr : List Byte) (perr : Option Nat) : Rung :=
  let b := s.activeBank i
  let depth := min 256 (max 64 (s.fld F.PRS_PIPE_CFG_DEPTH i))
  climb (fun x => s.arrNat (prsDesc i b x) 8) (fun t => s.arrNat (prsTrans i b t) 32) fr depth perr 26
    { state := s.fld F.PRS_PORT_CFG_START_STATE port }

/-! ### Records (R242 to R247) -/

/-- The first 64 bytes of a frame under a flat profile's mask, with 16 zero bytes. -/
def State.flatKey (s : State) (i profile : Nat) (fr : List Byte) : List Byte :=
  (List.zipWith (fun (a b : Byte) => a &&& b) (fr.take 64) (s.arr (prsFlat i profile) 64)) ++ List.replicate 16 0#8

/-- The lowest-numbered express entry that a frame of a port matches (R243). -/
def State.expressEntry (s : State) (i port : Nat) (fr : List Byte) : Option Nat :=
  if !bit 0x30 s.mode then none
  else (List.range 16).find? fun e =>
    let a := prsExp i e
    bit (s.arrNat a 4) 4 && bit (s.arrNat (a + 4) 4) (port % 32)
      && List.zipWith (fun (x y : Byte) => x &&& y) (fr.take 64) (s.arr (a + 72) 64) == s.arr (a + 8) 64

/-- A parse record of 128 bytes. -/
def makeRecord (key offsets : List Byte) (valid word100 word104 word108 : Nat) : List Byte :=
  key ++ offsets ++ w32 valid ++ w32 word100 ++ w32 word104 ++ w32 word108 ++ List.replicate 16 0#8

/-- The record of a frame parsed by the ladder, with a flat key where `flat` names a profile. -/
def ladderRecord (r : Rung) (outcome cause bank port : Nat) (flat : Option (Nat × List Byte)) : List Byte :=
  let w100 := r.vlans + 16 * r.labels + 256 * r.encaps + 1024 * outcome + 8192 * cause + 65536 * b2n flat.isSome
    + 2 ^ 17 * b2n r.clipped + 2 ^ 18 * bank + 2 ^ 20 * r.rung
  let w104 := (if outcome = 0 then 0xFF else r.state) + 256 * (if outcome = 0 then r.cursor else 0) + 2 ^ 20 * port
  match flat with
  | some (p, k) => makeRecord k r.offsets r.valid w100 w104 p
  | none => makeRecord r.key r.offsets r.valid w100 w104 0

/-- The reaction to a length reason (R247). The undefined code 3 acts as the reset value 1 (R625). -/
def State.lengthReaction (s : State) (i reason : Nat) : Nat :=
  let c := bits (s.rd R.PRS_PIPE_CFG i) (16 + 2 * (reason - 1)) 2
  if c = 3 then 1 else c

/-- A trace captures the record of a frame (PRS_TRACE_CTL). -/
def State.traceRecord (s : State) (i port : Nat) (rcd : List Byte) : State :=
  if s.flag F.PRS_TRACE_CTL_ARM i && (!s.flag F.PRS_TRACE_CTL_PORT_EN i || s.fld F.PRS_TRACE_CTL_PORT i == port % 32) then
    let s := (s.setF F.PRS_TRACE_CTL_ARM i 0).setF F.PRS_TRACE_CTL_DONE i 1
    s.each (List.range 32) fun w s => s.wr R.PRS_TRACE_REC (w + 32 * i) (leAt rcd (4 * w) 4)
  else s

/-- A frame with its record goes to the classifier, or to the express slice. -/
def State.sendRecord (s : State) (i : Nat) (express : Bool) (f : Frame) (rcd : List Byte) : State :=
  let s := s.traceRecord i f.port rcd
  if express then { s with prs := { s.prs with toExp := Tab.set [] s.prs.toExp i (Tab.get [] s.prs.toExp i ++ [⟨f, rcd⟩]) } }
  else { s with prs := { s.prs with toCls := Tab.set [] s.prs.toCls i (Tab.get [] s.prs.toCls i ++ [⟨f, rcd⟩]) } }

/-- BACKLOG_KB and the XOFF request of a pipeline's front end (R527), after a change of its backlog. -/
def State.backlog (s : State) (i : Nat) : Nat := ((Tab.get [] s.prs.fe i).map fun f => f.bytes.length).foldl (· + ·) 0

/-- The front end's XOFF request re-evaluated (R527). -/
def State.settleBacklog (s : State) (i : Nat) : State :=
  let b := s.backlog i
  let on := if bit s.feXoff i then decide (16384 ≤ b) else decide (32768 ≤ b)
  (({ s with feXoff := putBits s.feXoff i 1 (b2n on) }).setF F.GOV_PIPE_STATUS_ADMIT_XOFF i (b2n on)).setF F.GOV_PIPE_STATUS_BACKLOG_KB i (b / 1024)

/-- PARSE_FRAME (R235, R241 to R247): pipeline `i`'s front end finishes its oldest frame and sends its record; `perr` is the rung at which a
table entry was read with a parity error, and `ended` says whether the frame ended before its record was sent. -/
def execParseFrame (i : Nat) (perr : Option Nat) (ended : Bool) (s : State) : Host.Outcome State Fault Refusal :=
  .next (match Tab.get [] s.prs.fe i with
    | [] => s
    | f :: rest =>
      let s := ({ s with prs := { s.prs with fe := Tab.set [] s.prs.fe i rest } }).settleBacklog i
      let s := s.prsStat i 0
      match s.expressEntry i f.port f.bytes with
      | some e =>
        let prof := bits (s.arrNat (prsExp i e) 4) 8 4
        let w100 := 65536 + 2 ^ 18 * s.activeBank i + 2 ^ 19
        let rcd := makeRecord (s.flatKey i prof f.bytes) (List.replicate 16 0#8) 0 w100 (0xFF + 2 ^ 20 * f.port) (prof + 256 * e)
        (s.prsStat i 12).sendRecord i true f rcd
      | none =>
        let r := s.ladder i f.port f.bytes perr
        let oc := r.stopped.getD (1, 1)
        let long := decide (f.bytes.length - 4 < r.pendingEnd)
        let oc := if ended && long then (2, 1) else oc
        let s := (if r.clipped then s.prsStat i 13 else s).unitEvent (128 + i) 17 r.rung
        let s := if oc = (3, 2) then
            let b := s.activeBank i
            let s := ((s.setCounted F.PRS_PIPE_STATUS_PARITY F.PRS_PIPE_STATUS_PARITY_COUNT i).prsStat i 14).note (E.PRS_TABLE_PARITY (i / 2))
            { s with prs := { s.prs with parity := s.prs.parity ++ [2 * i + b] } }
          else s
        let s := s.prsStat i (if oc.1 = 0 then 1 else if oc.1 = 1 then 2 else if oc.1 = 3 then 3 else 3 + oc.2)
        let s := if !ended && long then { s with prs := { s.prs with late := s.prs.late ++ [(f.id, i, r.pendingEnd)] } } else s
        let react := if oc.1 = 2 then s.lengthReaction i oc.2 else 1
        let prof := s.fld F.PRS_PORT_CFG_FALLBACK_PROFILE f.port
        let flat := if oc.1 = 0 then none else some (prof, s.flatKey i prof f.bytes)
        let rcd := ladderRecord r oc.1 oc.2 (s.activeBank i) f.port flat
        if react = 0 then s.prsStat i 9
        else if react = 2 then ((s.prsStat i 10).traceRecord i f.port rcd).punt 4 f rcd 0 (f.rxStamp / 65536)
        else (if flat.isSome then s.prsStat i 11 else s).sendRecord i false f rcd)

/-- PARSE_FRAME_END (R241): frame number `id`, whose record left before it ended, ends with its IP length beyond it: a late length error. The
frame is treated as found bad wherever it stands. -/
def execParseFrameEnd (id : Nat) (s : State) : Host.Outcome State Fault Refusal :=
  .next (match s.prs.late.find? fun e => e.1 == id with
    | none => s
    | some (_, i, _) =>
      let s := { s with prs := { s.prs with late := s.prs.late.filter fun e => e.1 != id } }
      let mark := fun (p : Parsed) => if p.frame.id == id then { p with frame := { p.frame with bad := true } } else p
      let s := { s with prs := { s.prs with toCls := Tab.set [] s.prs.toCls i ((Tab.get [] s.prs.toCls i).map mark) } }
      (s.markBad id).prsStat i 8)

/-! ### Banks -/

/-- A bank swap of a pipeline takes effect (R253). -/
def State.swapBank (s : State) (i : Nat) : State :=
  let s := (s.setF F.PRS_PIPE_CFG_ACTIVE_BANK i (1 - s.activeBank i)).setF F.PRS_PIPE_CFG_SWAP i 0
  (s.setCounted F.PRS_PIPE_STATUS_SWAPPED F.PRS_PIPE_STATUS_SWAP_COUNT i).note (E.PRS_TABLE_SWAPPED (i / 2))

/-- PRS_BANK_SWAP (R253): a host write of PRS_PIPE_CFG.SWAP where PRS of the pipeline's quire is granted. -/
def execPrsBankSwap (i : Nat) (s : State) : Host.Outcome State Fault Refusal :=
  .next (if i < 32 then s.hostWrites (R.PRS_PIPE_CFG.key i) fun s => s.swapBank i else s)

/-- PRS_TRACE_ARM (R242): a host write of PRS_TRACE_CTL with ARM set. -/
def execPrsTraceArm (i : Nat) (portEn : Bool) (port : Nat) (s : State) : Host.Outcome State Fault Refusal :=
  .next (if i < 32 then s.hostWrites (R.PRS_TRACE_CTL.key i) fun s =>
      (((s.setF F.PRS_TRACE_CTL_ARM i 1).setF F.PRS_TRACE_CTL_DONE i 0).setF F.PRS_TRACE_CTL_PORT_EN i (b2n portEn)).setF F.PRS_TRACE_CTL_PORT i port
    else s)

/-- An image written to a bank. -/
def State.writeBank (s : State) (i b : Nat) (img : List Byte) : State :=
  let s := (s.putArr (prsDesc i b 0) ((img.drop 64).take 2048)).putArr (prsTrans i b 0) ((img.drop 2112).take 32768)
  let s := s.wr R.PRS_TABLE_ID (b + 2 * i) (leAt img 8 4)
  { s with prs := { s.prs with bankCopy := Tab.set [] s.prs.bankCopy (2 * i + b) img, parity := s.prs.parity.filter fun k => k != 2 * i + b } }

/-- PARSER_PARITY_REWRITE (R255): the Teller rewrites the entries of pipeline `i` found with a parity error from its copy, unless PRS is
granted. -/
def execParserParityRewrite (i : Nat) (s : State) : Host.Outcome State Fault Refusal :=
  .next (if i < 32 ∧ !s.granted (16 + 6 * (i / 2)) then
      s.each [0, 1] fun b s =>
        if s.prs.parity.contains (2 * i + b) then s.writeBank i b (Tab.get [] s.prs.bankCopy (2 * i + b)) else s
    else s)

/-- A parser table image is accepted (R252). -/
def imageOk (img : List Byte) : Bool :=
  img.length == 34880 && leAt img 0 4 == 0x9A45E701 && leAt img 4 4 == 1 && leAt img 12 4 == crc32 (img.drop 64)
    && (List.range 1024).all fun k =>
      let t := leAt img (2112 + 32 * k) 32
      entryBits t 0 16 1 == 0 ||
        ((entryBits t 3 0 8 == 0xFF || bit (leAt img (64 + 8 * entryBits t 3 0 8) 4) 31)
          && (List.range 4).all fun j =>
            let op := bits (bits t 160 96) (24 * j) 24
            !bit op 17 || decide (bits op 10 7 + bits op 6 4 ≤ 79))

/-- The tables written to bank 0 of every pipeline and made active, where the copy is new (R251). -/
def State.enterParser (s : State) : State :=
  if s.prs.fresh then
    let s := s.each (List.range 32) fun i s => (s.writeBank i 0 s.prs.copy).setF F.PRS_PIPE_CFG_ACTIVE_BANK i 0
    { s with prs := { s.prs with fresh := false } }
  else s

/-! ### Commands -/

/-- The PRS units of the pipelines a KIND 3 TARGET names. -/
def prsUnits (l : List Nat) : List Nat := ((List.range 16).filter fun q => l.any fun i => i / 2 == q).map fun q => 16 + 6 * q

/-- What PARSER_TABLE_LOAD adds to the checks of R94. -/
def State.parserTableLoadChecks (_ : State) (r : Req) : Checks :=
  { Checks.plain C.PARSER_TABLE_LOAD with
      target := targetError 0x14 3 32 true r, dflt := [(A.PARSER_TABLE_LOAD_SWAP, 1)]
      args := failIf (r.arg A.PARSER_TABLE_LOAD_HOST_ADDR_LO % 64 != 0) (badArg A.PARSER_TABLE_LOAD_HOST_ADDR_LO 1)
      units := prsUnits (r.instances 32) }

/-- How PARSER_TABLE_LOAD starts: the state it runs from and what it notes. -/
def parserTableLoadStart (_ : Req) (s : State) : State × Nat :=
  (s, 0)

/-- What PARSER_TABLE_LOAD does as it runs. -/
def parserTableLoadAct (r : Req) (_ : Nat) (s : State) : Ans :=
      match s.hostRead (r.arg64 A.PARSER_TABLE_LOAD_HOST_ADDR_LO A.PARSER_TABLE_LOAD_HOST_ADDR_HI) 34880 with
      | none => .hostTimeout s
      | some img =>
        if !imageOk img || crc32 img != r.arg A.PARSER_TABLE_LOAD_IMAGE_CRC then .fail s 0x0103 (8 * 65536 + 1)
        else if s.mode = 2 then
          .ok { s with prs := { s.prs with copy := img, fresh := true } } (w32 (leAt img 8 4) ++ w32 0 ++ w32 0)
        else
          let pipes := r.instances 32
          let t := s.each pipes fun i t =>
            let t := t.writeBank i (1 - t.activeBank i) img
            if r.on A.PARSER_TABLE_LOAD_SWAP then t.swapBank i else t
          let mask := maskOf 32 fun i => pipes.contains i
          .ok t (w32 (leAt img 8 4) ++ w32 mask ++ w32 (if r.on A.PARSER_TABLE_LOAD_SWAP then mask else 0))

/-- PARSER_TABLE_LOAD (0x0501, R251, R256). -/
def execParserTableLoad (x : Exec) (s : State) : Host.Outcome State Fault Refusal :=
  .next (s.runAsync x C.PARSER_TABLE_LOAD s.parserTableLoadChecks parserTableLoadStart parserTableLoadAct)

/-- The defaults of PARSER_CONFIG (R106). -/
def parserDefaults : List (Arg × Nat) :=
  [(A.PARSER_CONFIG_REACT_1, 1), (A.PARSER_CONFIG_REACT_2, 1), (A.PARSER_CONFIG_REACT_3, 1), (A.PARSER_CONFIG_REACT_4, 1), (A.PARSER_CONFIG_SWAP, 0)]

/-- What PARSER_CONFIG adds to the checks of R94. -/
def State.parserConfigChecks (_ : State) (r : Req) : Checks :=
  { Checks.plain C.PARSER_CONFIG with
      target := targetError 0x14 3 32 true r, dflt := parserDefaults
      args := firstFail [r.range A.PARSER_CONFIG_DEPTH 64 256, failIf (r.arg A.PARSER_CONFIG_DEPTH % 4 != 0) (badArg A.PARSER_CONFIG_DEPTH 1),
        failIf r.expert (firstFail ([A.PARSER_CONFIG_REACT_1, A.PARSER_CONFIG_REACT_2, A.PARSER_CONFIG_REACT_3, A.PARSER_CONFIG_REACT_4].map
          fun a => r.range a 0 2))]
      units := prsUnits (r.instances 32) }

/-- What PARSER_CONFIG does once its checks have passed. -/
def State.parserConfigAct (s : State) (r : Req) : Ans :=
      let t := s.each (r.instances 32) fun i t =>
        let t := ((t.setF F.PRS_PIPE_CFG_DEPTH i (r.arg A.PARSER_CONFIG_DEPTH)).setF F.PRS_PIPE_CFG_REACT_1 i (r.arg A.PARSER_CONFIG_REACT_1)).setF
          F.PRS_PIPE_CFG_REACT_2 i (r.arg A.PARSER_CONFIG_REACT_2)
        let t := (t.setF F.PRS_PIPE_CFG_REACT_3 i (r.arg A.PARSER_CONFIG_REACT_3)).setF F.PRS_PIPE_CFG_REACT_4 i (r.arg A.PARSER_CONFIG_REACT_4)
        if r.on A.PARSER_CONFIG_SWAP then t.swapBank i else t
      .ok t (w32 (t.rd R.PRS_PIPE_CFG (if r.all then 0 else r.index)))

/-- PARSER_CONFIG (0x0502, R257). -/
def execParserConfig (m : Nat) (s : State) : Host.Outcome State Fault Refusal :=
  .next (s.runCmd m C.PARSER_CONFIG s.parserConfigChecks s.parserConfigAct)

/-- What PARSER_PORT adds to the checks of R94. -/
def State.parserPortChecks (s : State) (r0 : Req) : Checks :=
      let r := filled C.PARSER_PORT [(A.PARSER_PORT_START_STATE, 0)] r0
      let x := r.arg A.PARSER_PORT_START_STATE
      let i := r.index / 32
      { Checks.plain C.PARSER_PORT with
        target := s.targetPort 0x14 r, dflt := [(A.PARSER_PORT_START_STATE, 0)]
        args := failIf (x == 0xFF || !bit (s.arrNat (prsDesc i (s.activeBank i) x) 4) 31) (badArg A.PARSER_PORT_START_STATE 1)
        units := [16 + 6 * (r.index / 64)] }

/-- What PARSER_PORT does once its checks have passed. -/
def State.parserPortAct (s : State) (r : Req) : Ans :=
      let t := (s.setF F.PRS_PORT_CFG_FALLBACK_PROFILE r.index (r.arg A.PARSER_PORT_FALLBACK_PROFILE)).setF F.PRS_PORT_CFG_START_STATE r.index
        (r.arg A.PARSER_PORT_START_STATE)
      .ok t (w32 (t.rd R.PRS_PORT_CFG r.index))

/-- PARSER_PORT (0x0503, R258). -/
def execParserPort (m : Nat) (s : State) : Host.Outcome State Fault Refusal :=
  .next (s.runCmd m C.PARSER_PORT s.parserPortChecks s.parserPortAct)

/-- What FLAT_PROFILE_SET adds to the checks of R94. -/
def State.flatProfileSetChecks (_ : State) (r : Req) : Checks :=
  { Checks.plain C.FLAT_PROFILE_SET with target := targetError 0x14 3 32 true r, units := prsUnits (r.instances 32) }

/-- What FLAT_PROFILE_SET does once its checks have passed. -/
def State.flatProfileSetAct (s : State) (r : Req) : Ans :=
  .ok (s.each (r.instances 32) fun i t => t.putArr (prsFlat i (r.arg A.FLAT_PROFILE_SET_PROFILE)) (r.bytes A.FLAT_PROFILE_SET_MASK)) []

/-- FLAT_PROFILE_SET (0x0504). -/
def execFlatProfileSet (m : Nat) (s : State) : Host.Outcome State Fault Refusal :=
  .next (s.runCmd m C.FLAT_PROFILE_SET s.flatProfileSetChecks s.flatProfileSetAct)

/-- What EXPRESS_FILTER_SET adds to the checks of R94. -/
def State.expressFilterSetChecks (_ : State) (r : Req) : Checks :=
  { Checks.plain C.EXPRESS_FILTER_SET with
      target := targetError 0x14 3 32 true r
      args := failIf (r.arg A.EXPRESS_FILTER_SET_VALUE &&& r.arg A.EXPRESS_FILTER_SET_MASK != r.arg A.EXPRESS_FILTER_SET_VALUE)
        (badArg A.EXPRESS_FILTER_SET_VALUE 1)
      units := prsUnits (r.instances 32) }

/-- What EXPRESS_FILTER_SET does once its checks have passed. -/
def State.expressFilterSetAct (s : State) (r : Req) : Ans :=
      let ctl := 16 * r.arg A.EXPRESS_FILTER_SET_ENABLE + 256 * r.arg A.EXPRESS_FILTER_SET_PROFILE
      let t := s.each (r.instances 32) fun i t =>
        t.putArr (prsExp i (r.arg A.EXPRESS_FILTER_SET_ENTRY)) (w32 ctl ++ w32 (r.arg A.EXPRESS_FILTER_SET_PORT_MASK)
          ++ r.bytes A.EXPRESS_FILTER_SET_VALUE ++ r.bytes A.EXPRESS_FILTER_SET_MASK)
      .ok t (w32 ctl)

/-- EXPRESS_FILTER_SET (0x0505, R259). -/
def execExpressFilterSet (m : Nat) (s : State) : Host.Outcome State Fault Refusal :=
  .next (s.runCmd m C.EXPRESS_FILTER_SET s.expressFilterSetChecks s.expressFilterSetAct)

end Sys2Proof.Machine
end

