-- ==== Sys2Proof/Machine/Ptp.lean ====
section
/-! DEFINITION. Headers that the MAC and finishing look into: 802.1Q tags, IP, UDP and PTP messages (R225, R360, R405 to R408). -/
namespace Sys2Proof.Machine

/-- Offset of a frame's EtherType behind up to two 802.1Q tags. -/
def etherTypeAt (fr : List Byte) : Nat :=
  if beAt fr 12 2 = 0x8100 ∨ beAt fr 12 2 = 0x88A8 then (if beAt fr 16 2 = 0x8100 ∨ beAt fr 16 2 = 0x88A8 then 20 else 16) else 12

/-- Where a PTP message lies: its offset, its encapsulation (0 Ethernet, 1 UDP over IPv4, 2 UDP over IPv6) and the offset of its IP header. -/
structure PtpAt where
  off : Nat
  encap : Nat
  ip : Nat
  deriving DecidableEq, Repr

/-- The PTP message of a frame, whatever the port enables (R405). -/
def findPtp (fr : List Byte) : Option PtpAt :=
  let e := etherTypeAt fr
  let ty := beAt fr e 2
  let ip := e + 2
  let udp := fun (h : Nat) => beAt fr (h + 2) 2 == 319 || beAt fr (h + 2) 2 == 320
  if ty = 0x88F7 then some ⟨ip, 0, 0⟩
  else if ty = 0x0800 ∧ byteAt fr ip / 16 = 4 ∧ byteAt fr (ip + 9) = 17 then
    let h := ip + 4 * (byteAt fr ip % 16)
    if udp h then some ⟨h + 8, 1, ip⟩ else none
  else if ty = 0x86DD ∧ byteAt fr (ip + 6) = 17 then
    if udp (ip + 40) then some ⟨ip + 48, 2, ip⟩ else none
  else none

/-- The PTP message that a port recognises (R405). -/
def State.portPtp (s : State) (p : Nat) (fr : List Byte) : Option PtpAt :=
  match findPtp fr with
  | some a =>
    if a.encap = 0 ∧ s.flag F.TIM_PORT_CFG_ETH_EN p ∨ a.encap = 1 ∧ s.flag F.TIM_PORT_CFG_UDP4_EN p
        ∨ a.encap = 2 ∧ s.flag F.TIM_PORT_CFG_UDP6_EN p then some a else none
  | none => none

/-- The least messageLength of a PTP message type (IEEE 1588; PRESUMED, log entry 22). -/
def ptpMinimum (ty : Nat) : Nat := [44, 44, 54, 54, 34, 34, 34, 34, 44, 54, 54, 64, 44, 48, 34, 34].getD ty 34

/-- A recognised PTP message is malformed: unknown version, or messageLength beyond the frame or below its type's minimum (R225). -/
def ptpMalformed (fr : List Byte) (a : PtpAt) : Bool :=
  let len := beAt fr (a.off + 2) 2
  byteAt fr (a.off + 1) % 16 != 2 || decide (fr.length < a.off + len + 4) || decide (len < ptpMinimum (byteAt fr a.off % 16))

/-- One's complement sum of 16-bit big-endian words of a list. -/
def onesSum : List Byte → Nat → Nat
  | [], acc => acc
  | [a], acc => acc + a.toNat * 256
  | a :: b :: t, acc => onesSum t (acc + a.toNat * 256 + b.toNat)

/-- A one's complement sum folded to 16 bits. -/
def onesFold (n : Nat) : Nat :=
  let a := n % 65536 + n / 65536
  let b := a % 65536 + a / 65536
  b % 65536 + b / 65536

/-- The value that two bytes take so that a field that changed from `old` to `new` leaves a one's complement checksum valid. -/
def onesAdjust (pad : Nat) (old new : List Byte) : Nat :=
  onesFold (pad + onesFold (onesSum old 0) + (65535 - onesFold (onesSum new 0)))

/-- A recognised event message corrected under PTP_MODE (R406): whether the mode corrects it, and whether PEER_DELAY is added. -/
def ptpCorrects (mode ty : Nat) : Bool × Bool :=
  if mode = 1 then (decide (ty ≤ 3), false)
  else if mode = 2 then (ty == 0 || ty == 2 || ty == 3, ty == 0)
  else (false, false)

/-- A PTP message's field at `off` of `n` bytes replaced, and the UDP checksum kept valid (R407): zero over IPv4, the two pad bytes over IPv6. -/
def ptpRewrite (fr : List Byte) (a : PtpAt) (off n v : Nat) : List Byte :=
  let new := beBytes n v
  let old := (fr.drop off).take n
  let fr := patch fr off new
  if a.encap = 1 then patch fr (a.off - 2) [0, 0]
  else if a.encap = 2 then
    let pad := a.off + beAt fr (a.off + 2) 2
    patch fr pad (beBytes 2 (onesAdjust (beAt fr pad 2) old new))
  else fr

/-- The two bytes that R407 needs after a message over IPv6 lie inside the UDP payload. -/
def ptpPad (fr : List Byte) (a : PtpAt) : Bool :=
  a.encap != 2 || decide (beAt fr (a.off + 2) 2 + 2 + 8 ≤ beAt fr (a.off - 4) 2)

/-- Frame bytes with their FCS computed again. -/
def refcs (fr : List Byte) : List Byte := withFcs (fr.take (fr.length - 4))

end Sys2Proof.Machine
end

