-- ==== Sys2Proof/Machine/Stitch.lean ====
section
/-! DEFINITION. Stitch links: block lock, signatures, replay and retrain (R176 to R189). -/
namespace Sys2Proof.Machine

def State.stch (s : State) (n : Nat) : Stitch := Tab.get {} s.stitch n
def State.putStch (s : State) (n : Nat) (x : Stitch) : State := { s with stitch := Tab.set {} s.stitch n x }

/-! ### Scrambler and control blocks -/

/-- The scrambler's seed for a sequence number (R177). -/
def scramblerSeed (seq : Nat) : Nat := (seq % 2 ^ 24) * 2 ^ 34 + 2 * 2 ^ 32 + 0x9B3CD1E7

/-- Bits of a payload, each exclusive-ored with the scrambler's next output (R177). -/
def scrambleBits : Nat → List Bool → List Bool
  | _, [] => []
  | s, p :: t =>
    let out := xor (s.testBit 57) (s.testBit 38)
    xor p out :: scrambleBits ((2 * s + b2n out) % 2 ^ 58) t

/-- Bytes as bits, bit 0 of each byte first. -/
def byteBits (l : List Byte) : List Bool := l.flatMap fun b => (List.range 8).map fun i => b.toNat.testBit i

/-- Bits as bytes, eight at a time. -/
def bitsBytes : Nat → List Bool → List Byte
  | 0, _ => []
  | n + 1, l => BitVec.ofNat 8 (maskOf 8 fun i => l.getD i false) :: bitsBytes n (l.drop 8)

/-- The data-block payloads of a signature scrambled or descrambled from its sequence number (R177). -/
def scramble (seq : Nat) (l : List Byte) : List Byte := bitsBytes l.length (scrambleBits (scramblerSeed seq) (byteBits l))

/-- Fields of a control-block payload of 32 bytes. -/
def ctlField (c : List Byte) (lo wd : Nat) : Nat := bits (leNat c) lo wd

/-- A control block is valid: its TYPE, and its CRC over the descrambled data payloads and its own first 224 bits. -/
def ctlValid (line c : List Byte) : Bool :=
  let data := if ctlField c 0 8 = 0x1E then scramble (ctlField c 8 24) line else scramble 0 line
  (ctlField c 0 8 == 0x1E || ctlField c 0 8 == 0x2D) && crc32 (data ++ c.take 28) == ctlField c 224 32

/-- A number is older than another, modulo 2^w: their difference falls in the lower half of the range. -/
def older (w a b : Nat) : Bool := a % 2 ^ w != b % 2 ^ w && decide ((b + 2 ^ w - a % 2 ^ w) % 2 ^ w < 2 ^ (w - 1))

/-! ### Retrain and replay -/

/-- A retrain starts (R188). -/
def State.retrain (s : State) (n : Nat) : State :=
  let x := s.stch n
  let lost := (x.sentFrames.map Prod.fst ++ (x.txq.filter fun f => !f.2.2.1).map Prod.fst).length
  let s := s.addSat F.STCH_COUNT_C_TX_FRAMES_DISCARDED n lost
  let inbox := if 16 ≤ x.stream.length then x.inbox ++ [(0, false, x.stream.drop 16, true, none)] else x.inbox
  let s := s.putStch n { inbox := inbox, pos := x.pos, run := x.run, win := x.win, line := x.line }
  let s := ((s.setF F.STCH_CTL_RETRAIN n 0).setF F.STCH_STATUS_RETRAINING n 1).setF F.STCH_STATUS_NAK_PENDING n 0
  let s := ((s.wr R.STCH_TX_SEQ n 0).wr R.STCH_RX_SEQ n 0).wr R.STCH_FRAME n 0
  let s := (s.setCounted F.STCH_STATUS_RETRAINED F.STCH_STATUS_RETRAIN_COUNT n).note (E.LANE_BLOCK_LOSS n)
  ((s.note (E.STCH_RETRAIN (n / 64))).setF F.STCH_STATUS_LINK_UP n 0).checkLanePort n

/-- A replay has failed: NAK_COUNT rises, and after REPLAY_LIMIT failures a retrain starts (R185). -/
def State.replayFailed (s : State) (n : Nat) : State :=
  let c := s.fld F.STCH_RX_SEQ_NAK_COUNT n
  if max 1 (s.fld F.STCH_CTL_REPLAY_LIMIT n) ≤ c then s.retrain n
  else (s.setF F.STCH_RX_SEQ_NAK_COUNT n (c + 1)).putStch n { s.stch n with nakSince := none, stream := [] }

/-! ### The receiver's byte stream -/

/-- A lead is valid: MARK and LEAD_CHECK (R179). -/
def leadValid (l : List Byte) : Bool := 16 ≤ l.length && byteAt l 0 == 0xA7 && crc16 (l.take 12) == leAt l 14 2

/-- The bytes a frame of length `L` takes on a Stitch lane (R29). -/
def stitchBytes (L : Nat) : Nat := 4 * ceilDiv (L + 20) 4

/-- A whole encapsulated frame as the MAC receives it: class, express, bytes, bad, STAMP (R180). -/
def stitchFrame (l : List Byte) : Nat × Bool × List Byte × Bool × Option Nat :=
  let L := bits (leAt l 0 4) 16 14
  let body := (l.drop 16).take L
  let tail := leAt l (16 + L) 4
  let bad := bits tail 0 8 != 0x5E || bit tail 8 || bits tail 16 16 != leAt l 4 2 || !fcsOk body
  (bits (leAt l 0 4) 12 4, bit (leAt l 4 4) 16, body, bad, if bit (leAt l 4 4) 17 then some (leAt l 8 4) else none)

/-- Frames taken from a stream, with the frame number expected after them and the bytes that remain: idle fill is skipped a word at a time, a
frame older than `resume` is discarded (R184), an incomplete frame stays. -/
def takeFrames (resume : Option Nat) : Nat → List Byte → Nat → List (Nat × Bool × List Byte × Bool × Option Nat) × Nat × List Byte
  | 0, l, num => ([], num, l)
  | fuel + 1, l, num =>
    if l.length < 4 then ([], num, l)
    else if byteAt l 0 = 0xA7 ∧ l.length < 16 then ([], num, l)
    else if leadValid l then
      let len := stitchBytes (bits (leAt l 0 4) 16 14)
      if l.length < len then ([], num, l)
      else
        let r := takeFrames resume fuel (l.drop len) ((leAt l 4 2 + 1) % 65536)
        match resume with
        | some k => if older 16 (leAt l 4 2) k then r else (stitchFrame l :: r.1, r.2)
        | none => (stitchFrame l :: r.1, r.2)
    else takeFrames resume fuel (l.drop 4) num

/-- The descrambled bytes of an accepted signature join the stream, and whole frames go to the MAC's inbox. -/
def State.receiveBytes (s : State) (n : Nat) (data : List Byte) (resume : Option Nat) : State :=
  let x := s.stch n
  let (fs, num, rest) := takeFrames resume 300 (x.stream ++ data) (s.fld F.STCH_FRAME_RX_NEXT n)
  (s.putStch n { x with stream := rest, inbox := x.inbox ++ fs }).setF F.STCH_FRAME_RX_NEXT n num

/-- A received signature has failed in order: the frame in progress ends bad and a NAK begins (R182). -/
def State.startNak (s : State) (n : Nat) : State :=
  let x := s.stch n
  let open_ := leadValid x.stream
  let num := if open_ then leAt x.stream 4 2 else s.fld F.STCH_FRAME_RX_NEXT n
  let s := if open_ then s.inc F.STCH_COUNT_B_RX_FRAMES_ABORTED n else s
  let inbox := if open_ then
      x.inbox ++ [(bits (leAt x.stream 0 4) 12 4, bit (leAt x.stream 4 4) 16, x.stream.drop 16, true, none)] else x.inbox
  let s := s.putStch n { x with stream := [], inbox := inbox, nakSeq := s.fld F.STCH_RX_SEQ_EXPECT n, resume := num, nakSince := none }
  (s.setF F.STCH_STATUS_NAK_PENDING n 1).setF F.STCH_RX_SEQ_NAK_COUNT n 1

/-! ### Events -/

/-- The lane is an enabled Stitch lane in a mode that runs it. -/
def State.stitchRuns (s : State) (n : Nat) : Bool :=
  decide (n < 1024) && s.flag F.LANE_CTL_ENABLE n && s.flag F.LANE_CTL_CODING n && bit 0x78 s.mode

/-- STITCH_BLOCK_RX (R176, R178): a block with a valid or invalid header and `stuff` wrong stuffed symbols arrives on lane `n`. -/
def execStitchBlockRx (n : Nat) (valid : Bool) (stuff : Nat) (s : State) : Host.Outcome State Fault Refusal :=
  .next (if !s.stitchRuns n then s
    else
      let s := s.addSat F.STCH_COUNT_C_STUFF_ERRORS n stuff
      let x := s.stch n
      if s.flag F.STCH_STATUS_BLOCK_LOCK n then
        let s := if valid then s else s.inc F.STCH_COUNT_A_HEADER_ERRORS n
        let win := (valid :: x.win).take 64
        if 16 ≤ (win.filter fun v => !v).length then
          let s := (s.setF F.STCH_STATUS_BLOCK_LOCK n 0).setF F.STCH_STATUS_SIG_LOCK n 0
          let s := (s.setCounted F.STCH_STATUS_LOCK_LOSS F.STCH_STATUS_LOCK_LOSS_COUNT n).note (E.LANE_BLOCK_LOSS n)
          (s.putStch n { x with win := [], run := 0 }).retrain n
        else s.putStch n { x with win := win }
      else if valid then
        if x.run + 1 = 64 then (s.putStch n { x with run := 0, win := [] }).setF F.STCH_STATUS_BLOCK_LOCK n 1
        else s.putStch n { x with run := x.run + 1 }
      else s.putStch n { x with run := 0, pos := (x.pos + 1) % 129 })

/-- An acknowledge frees held signatures no frame of which is unacknowledged (R186). -/
def State.takeAck (s : State) (n ack : Nat) : State :=
  let x := s.stch n
  let frames := x.sentFrames.filter fun f => older 24 ack f.2.2
  let held := x.held.filter fun h => older 24 ack h.seq || frames.any fun f => f.2.1 == h.seq
  (s.putStch n { x with held := held, sentFrames := frames }).setF F.STCH_TX_SEQ_HELD n held.length

/-- A NAK is acted on unless its pair is the last one acted on (R183). -/
def State.takeNak (s : State) (n seq count resume : Nat) : State :=
  let x := s.stch n
  if x.lastNak = some (seq, count) then s
  else
    let start := ((x.sentFrames.find? fun f => f.1 == resume).map fun f => f.2.1).getD seq
    let s := s.putStch n { x with lastNak := some (seq, count) }
    if x.held.any fun h => h.seq == start then
      (s.putStch n { s.stch n with replay := some start }).inc F.STCH_COUNT_B_REPLAYS_SENT n
    else ((s.setCounted F.STCH_STATUS_REPLAY_MISS F.STCH_STATUS_REPLAY_MISS_COUNT n).note (E.STCH_REPLAY_MISS (n / 64))).retrain n

/-- STITCH_CONTROL_BLOCK_RX (R179, R183, R186, R188): the control block `c` of a signature whose data-block payloads stand on the line as
`line` arrives on lane `n`. -/
def execStitchControlBlockRx (n : Nat) (line c : List Byte) (s : State) : Host.Outcome State Fault Refusal :=
  .next (if !s.stitchRuns n || !s.flag F.STCH_STATUS_BLOCK_LOCK n then s
    else
      let x := s.stch n
      let retraining := s.flag F.STCH_STATUS_RETRAINING n
      if !ctlValid line c then s.putStch n { x with cur := x.next, next := none, train := 0 }
      else
        let first := !s.flag F.STCH_STATUS_SIG_LOCK n
        let nextSeq := ctlField c 88 24
        let s := (s.setF F.STCH_STATUS_SIG_LOCK n 1).putStch n { x with cur := x.next, next := some nextSeq }
        let s := if first && !retraining && !x.trained && !s.flag F.STCH_STATUS_LINK_UP n then s.setF F.STCH_RX_SEQ_EXPECT n nextSeq else s
        let s := if bit (leNat c) 39 && !retraining then s.takeAck n (ctlField c 64 24) else s
        if retraining then
          (if x.train + 1 = 16 then
            (s.putStch n { s.stch n with train := 0, trained := true }).setF F.STCH_STATUS_RETRAINING n 0
           else s.putStch n { s.stch n with train := x.train + 1 })
        else if bit (leNat c) 38 then (if x.trained then s else s.retrain n)
        else if bit (leNat c) 33 then s.takeNak n (ctlField c 40 24) (ctlField c 34 4) (ctlField c 112 16)
        else s)

/-- STITCH_SIGNATURE_RX (R180, R182, R184 to R186): the signature just ended on lane `n` completes its check. -/
def execStitchSignatureRx (n : Nat) (line c : List Byte) (s : State) : Host.Outcome State Fault Refusal :=
  .next (if !s.stitchRuns n || !s.flag F.STCH_STATUS_SIG_LOCK n || s.flag F.STCH_STATUS_RETRAINING n then s
    else
      let x := s.stch n
      let expect := s.fld F.STCH_RX_SEQ_EXPECT n
      let nak := s.flag F.STCH_STATUS_NAK_PENDING n
      let ok := ctlValid line c
      let seq := ctlField c 8 24
      let s := if ok then s else s.inc F.STCH_COUNT_A_SIG_CRC_ERRORS n
      if ok && ctlField c 0 8 == 0x2D then s
      else if ok && bit (leNat c) 32 then s
      else match x.cur with
      | none => s
      | some cur =>
        if ok && cur == seq then
          if nak then
            if seq = x.nakSeq then
              let s := (s.setF F.STCH_STATUS_NAK_PENDING n 0).setF F.STCH_RX_SEQ_NAK_COUNT n 0
              let s := (s.putStch n { x with nakSince := none }).setF F.STCH_RX_SEQ_EXPECT n (seq + 1)
              s.receiveBytes n (scramble seq line) (some x.resume)
            else if older 24 seq x.nakSeq then s.receiveBytes n (scramble seq line) (some x.resume)
            else s
          else if seq = expect then
            let s := (s.setF F.STCH_RX_SEQ_EXPECT n (seq + 1)).putStch n { x with trained := false }
            let s := s.receiveBytes n (scramble seq line) none
            if s.flag F.STCH_STATUS_LINK_UP n then s else (s.setF F.STCH_STATUS_LINK_UP n 1).checkLanePort n
          else s.startNak n
        else if nak then (if seq = x.nakSeq ∨ older 24 cur x.nakSeq ∨ cur = x.nakSeq then s.replayFailed n else s)
        else s.startNak n)

/-- Idle fill of `k` bytes. -/
def idleFill (k : Nat) : List Byte := List.replicate k 0x3C#8

/-- Bytes for one signature taken from the frames handed over: the bytes, the frames whose lead lies in it with the bytes they still need beyond
it, and the frames left. An express frame's first 80 bytes do not straddle the control block (R181). -/
def fillSig : Nat → Nat → List (Nat × Bool × Bool × List Byte) → List Byte × List (Nat × Nat) × List (Nat × Bool × Bool × List Byte)
  | 0, room, q => (idleFill room, [], q)
  | _ + 1, room, [] => (idleFill room, [], [])
  | fuel + 1, room, (num, ex, begun, bs) :: q =>
    if room = 0 then ([], [], (num, ex, begun, bs) :: q)
    else if ex && !begun && decide (room < 80) then (idleFill room, [], (num, ex, begun, bs) :: q)
    else if bs.length ≤ room then
      let r := fillSig fuel (room - bs.length) q
      (bs ++ r.1, (if begun then r.2.1 else (num, 0) :: r.2.1), r.2.2)
    else (bs.take room, (if begun then [] else [(num, bs.length - room)]), (num, ex, true, bs.drop room) :: q)

/-- A control-block payload: its fields below the CRC, and the CRC over the descrambled data. -/
def ctlBlock (v : Nat) (data : List Byte) : List Byte :=
  let c := leBytes 28 v
  c ++ w32 (crc32 (data ++ c))

/-- STITCH_SIGNATURE_TX (R177, R181 to R183, R186, R188): the transmitter of lane `n` begins its next signature: training, replayed, idle or
numbered. -/
def execStitchSignatureTx (n : Nat) (s : State) : Host.Outcome State Fault Refusal :=
  .next (if !s.stitchRuns n || !s.flag F.LANE_STATUS_TX_READY n then s
    else
      let x := s.stch n
      let nak := s.flag F.STCH_STATUS_NAK_PENDING n
      let ack := if s.flag F.STCH_STATUS_LINK_UP n then 2 ^ 39 + ((s.fld F.STCH_RX_SEQ_EXPECT n + 2 ^ 24 - 1) % 2 ^ 24) * 2 ^ 64 else 0
      let nakBits := if nak then
          2 ^ 33 + s.fld F.STCH_RX_SEQ_NAK_COUNT n * 2 ^ 34 + x.nakSeq * 2 ^ 40 + x.resume * 2 ^ 112 else 0
      let common := ack + nakBits
      let mark := fun (s : State) => if nak && x.nakSince.isNone then s.putStch n { s.stch n with nakSince := some s.now } else s
      let numbered := s.fld F.STCH_TX_SEQ_NEXT n
      if s.flag F.STCH_STATUS_RETRAINING n then
        let data := idleFill 992
        s.putStch n { x with line := scramble 0 data ++ ctlBlock (0x2D + 2 ^ 38) data }
      else match x.replay with
      | some k =>
        match x.held.find? fun h => h.seq == k with
        | some h =>
          let nxt := (k + 1) % 2 ^ 24
          let more := x.held.any fun g => g.seq == nxt
          let c := ctlBlock (0x1E + k * 2 ^ 8 + common + nxt * 2 ^ 88) h.data
          mark (s.putStch n { x with replay := if more then some nxt else none, line := scramble k h.data ++ c })
        | none => s.putStch n { x with replay := none }
      | none =>
        if 64 ≤ x.held.length then
          let last := (numbered + 2 ^ 24 - 1) % 2 ^ 24
          let data := idleFill 992
          mark (s.putStch n { x with line := scramble last data ++ ctlBlock (0x1E + last * 2 ^ 8 + 2 ^ 32 + common + numbered * 2 ^ 88) data })
        else
          let (data, leads, rest) := fillSig 200 992 x.txq
          let c := ctlBlock (0x1E + numbered * 2 ^ 8 + common + ((numbered + 1) % 2 ^ 24) * 2 ^ 88) data
          let sent := leads.map fun f => (f.1, numbered, (numbered + ceilDiv f.2 992) % 2 ^ 24)
          let held := x.held ++ [⟨numbered, data⟩]
          let s := s.putStch n { x with txq := rest, held := held, sentFrames := x.sentFrames ++ sent, line := scramble numbered data ++ c }
          mark ((s.setF F.STCH_TX_SEQ_NEXT n (numbered + 1)).setF F.STCH_TX_SEQ_HELD n held.length))

/-- STITCH_NAK_TIMEOUT (R185): the signature named by NAK_SEQ has not arrived within NAK_TIMEOUT. -/
def execStitchNakTimeout (n : Nat) (s : State) : Host.Outcome State Fault Refusal :=
  .next (if s.stitchRuns n && s.flag F.STCH_STATUS_NAK_PENDING n && (s.stch n).nakSince.isSome then s.replayFailed n else s)

/-- A granted write of STCH_CTL.RETRAIN (R188). -/
def State.retrainWrite (s : State) (n : Nat) : State := if s.stitchRuns n then s.retrain n else s.setF F.STCH_CTL_RETRAIN n 1

/-- STCH_RETRAIN_WRITE (R188): a host write of STCH_CTL.RETRAIN where the STCH sub-block is granted. -/
def execStchRetrainWrite (n : Nat) (s : State) : Host.Outcome State Fault Refusal :=
  .next (if n < 1024 then s.hostWrites (R.STCH_CTL.key n) fun s => s.retrainWrite n else s)

/-- What STITCH_CONFIG adds to the checks of R94. -/
def State.stitchConfigChecks (s : State) (r : Req) : Checks :=
  { Checks.plain C.STITCH_CONFIG with
      target := match targetError 0x12 1 1024 false r with
        | some e => some e
        | none => if s.flag F.LANE_CTL_CODING r.index then none else some 5
      dflt := [(A.STITCH_CONFIG_REPLAY_LIMIT, 8), (A.STITCH_CONFIG_NAK_TIMEOUT, 40)]
      args := failIf r.expert (firstFail [r.range A.STITCH_CONFIG_REPLAY_LIMIT 1 14, r.range A.STITCH_CONFIG_NAK_TIMEOUT 10 255])
      units := [12 + 6 * (r.index / 64) + 2] }

/-- What STITCH_CONFIG does once its checks have passed. -/
def State.stitchConfigAct (s : State) (r : Req) : Ans :=
      let n := r.index
      let t := (s.setF F.STCH_CTL_REPLAY_LIMIT n (r.arg A.STITCH_CONFIG_REPLAY_LIMIT)).setF F.STCH_CTL_NAK_TIMEOUT n (r.arg A.STITCH_CONFIG_NAK_TIMEOUT)
      let t := if r.on A.STITCH_CONFIG_RETRAIN then t.retrainWrite n else t
      .ok t (w32 (t.rd R.STCH_STATUS n))

/-- STITCH_CONFIG (0x0305). -/
def execStitchConfig (m : Nat) (s : State) : Host.Outcome State Fault Refusal :=
  .next (s.runCmd m C.STITCH_CONFIG s.stitchConfigChecks s.stitchConfigAct)

/-- A frame handed to a Stitch lane's transmitter with its lead and tail; its FRAME_NUM is TX_NEXT, which advances. -/
def State.stitchSend (s : State) (n cls : Nat) (express : Bool) (stamp : Option Nat) (abort : Bool) (bs : List Byte) : State :=
  let num := s.fld F.STCH_FRAME_TX_NEXT n
  let w0 := 0xA7 + (cls % 16) * 2 ^ 12 + bs.length * 2 ^ 16
  let w1 := num + 2 ^ 16 * b2n express + 2 ^ 17 * b2n stamp.isSome
  let head := w32 w0 ++ w32 w1 ++ w32 (stamp.getD 0)
  let pad := stitchBytes bs.length - (bs.length + 20)
  let tail := w32 (0x5E + 2 ^ 8 * b2n abort + num * 2 ^ 16)
  let body := head ++ w32 (crc16 head * 2 ^ 16) ++ bs ++ tail ++ idleFill pad
  let x := s.stch n
  (s.putStch n { x with txq := x.txq ++ [(num, express, false, body)] }).setF F.STCH_FRAME_TX_NEXT n (num + 1)

end Sys2Proof.Machine
end

