-- ==== Sys2Proof/Machine/Receive.lean ====
section
/-! DEFINITION. The receive MAC (R198 to R225, R527, R624). -/
namespace Sys2Proof.Machine

/-- What a frame shows at the MAC: the index of the one receive error counter it counts in, if any (R624), whether it goes no further, and
whether it is marked bad. -/
structure RxVerdict where
  counter : Option Nat
  dropped : Bool
  bad : Bool
  deriving DecidableEq, Repr

/-- The verdict on a frame by the first of RX_PREAMBLE_ERR, RX_FRAG_ERR, RX_RUNT, RX_OVERSIZE, RX_CODE_ERR and RX_FCS_ERR it shows; what each
violation does to the frame holds for every one it shows (R211, R224, R225, R624). -/
def rxVerdict (sfd frag code fcs : Bool) (L maxFrame : Nat) : RxVerdict :=
  if !sfd then ⟨some 6, true, true⟩
  else if frag then ⟨some 12, true, true⟩
  else if L < 64 then ⟨some 3, true, true⟩
  else if maxFrame < L then ⟨some 4, false, true⟩
  else if code then ⟨some 5, false, true⟩
  else if !fcs then ⟨some 2, false, true⟩
  else ⟨none, false, false⟩

/-- MAX_FRAME of a port; a value outside 64 to 16,383 acts as the nearest (R625). -/
def State.maxFrame (s : State) (p : Nat) : Nat := clamp 64 16383 (s.fld F.MAC_CFG_MAX_FRAME p)

/-- A frame enters its pipeline's parser front end, or is dropped where it would take the backlog beyond 64 KB (R527). -/
def State.admitFrame (s : State) (i : Nat) (f : Frame) : State :=
  let id := s.prs.nextFrame
  let s := { s with prs := { s.prs with nextFrame := id + 1 } }
  if 65536 < s.backlog i + f.bytes.length then
    ((s.inc F.GOV_PIPE_ADMIT_DROPS_COUNT i).setCounted F.GOV_PIPE_STATUS_ADMIT_DROP F.GOV_PIPE_STATUS_ADMIT_DROP_COUNT i).note E.GOV_ADMIT_DROP
  else ({ s with prs := { s.prs with fe := Tab.set [] s.prs.fe i (Tab.get [] s.prs.fe i ++ [{ f with id := id }]) } }).settleBacklog i

/-- What a received frame that is whole and good is beside an ordinary frame: 8 PAUSE, 9 another MAC control frame, 0 a PFC frame (R225). -/
def controlKind (fr : List Byte) : Option Nat :=
  if beAt fr 12 2 ≠ 0x8808 then none
  else if beAt fr 14 2 = 1 then some 8
  else if beAt fr 14 2 = 0x0101 ∧ fr.length = 64 then some 0
  else some 9

/-- A 32-byte marginalia record: MAGIC, VERSION and CHECK are right (R512). -/
def recordOk (r : List Byte) : Bool :=
  r.length == 32 && byteAt r 0 == 0xD5 && byteAt r 1 / 16 == 1 && beAt r 28 2 == crc16 (r.take 28)

/-- The records that stand one after another at the end of a frame without its FCS, at most `n` (R512). -/
def countTrailers : Nat → List Byte → Nat
  | 0, _ => 0
  | n + 1, l => if recordOk (l.drop (l.length - 32)) then 1 + countTrailers n (l.take (l.length - 32)) else 0

/-- A frame at the receive MAC of port `p`. `sfd`: its start-of-frame delimiter is well formed; `code`: a PCS error code or uncorrectable
codeword; `frags`: the fragments it came in; `broken`: a broken fragment sequence; `deskew`: in 1/16 ns. -/
def State.receive (s : State) (p : Nat) (sfd code : Bool) (frags : Nat) (broken stitchBad : Bool) (deskew : Nat) (bytes : List Byte)
    (cls lead : Option Nat) : State :=
  let s := s.macStat p 13 frags
  let frag := broken || (decide (0 < frags) && !s.flag F.MAC_PREEMPT_CFG_ENABLE p)
  let v := rxVerdict sfd frag code (fcsOk bytes && !stitchBad) bytes.length (s.maxFrame p)
  let s := match v.counter with
    | some k => s.macStat p k 1
    | none => (s.macStat p 0 1).macStat p 1 bytes.length
  if v.dropped then s
  else if !s.operUp p then s.macStat p 7 1
  else
    match if v.bad || s.speed p == 5 then none else controlKind bytes with
    | some 0 => s
    | some k => s.macStat p k 1
    | none =>
      if !v.bad && (match s.portPtp p bytes with
          | some a => ptpMalformed bytes a
          | none => false) then s.macStat p 11 1
      else
        let f : Frame := { id := 0, port := p, bytes := bytes.take (s.maxFrame p + 1), bad := v.bad
                           stitchClass := cls, rxStamp := s.rxStampAt p deskew, stale := s.staleLane p, inject := none, leadStamp := lead
                           trailers := if s.flag F.MRG_PORT_CFG_RECOGNISE p then countTrailers 16 (bytes.take (bytes.length - 4)) else 0 }
        s.admitFrame (p / 32) f

/-- MAC_RX_FRAME (R204, R210 to R225, R624): a frame reaches the receive MAC of port `p`. A Stitch port takes the oldest frame that its link
has delivered, and the other operands but `deskew` mean nothing to it. -/
def execMacRxFrame (p : Nat) (sfd code : Bool) (frags : Nat) (broken : Bool) (deskew : Nat) (bytes : List Byte) (s : State) :
    Host.Outcome State Fault Refusal :=
  .next (if !s.portConfigured p || !bit 0x78 s.mode then s
    else if s.speed p = 5 then
      match (s.stch p).inbox with
      | [] => s
      | (c, _, bs, bad, st) :: t =>
        (s.putStch p { s.stch p with inbox := t }).receive p true false 0 false bad deskew bs (some c) st
    else if !s.linkPresent p then s
    else s.receive p sfd code frags broken false deskew bytes none none)

end Sys2Proof.Machine
end

