-- ==== Sys2Proof/Machine/Ckg.lean ====
section
/-! DEFINITION. The clock commands and the events of monitors, PLLs, switches and crossings (R123 to R158). -/
namespace Sys2Proof.Machine

/-! ### Commands -/

/-- The default values of CLOCK_CONFIG (R106). -/
def clockDefaults : List (Arg × Nat) := [(A.CLOCK_CONFIG_DISAGREE_INTERVALS, 8), (A.CLOCK_CONFIG_AUTO_REVERT, 0)]

/-- What CLOCK_CONFIG adds to the checks of R94. -/
def State.clockConfigChecks (_ : State) (r : Req) : Checks :=
  { Checks.plain C.CLOCK_CONFIG with
      target := targetWhole 0x02 r, dflt := clockDefaults
      args := firstFail [r.range A.CLOCK_CONFIG_TOL_PPM 50 2000, failIf r.expert (r.range A.CLOCK_CONFIG_DISAGREE_INTERVALS 1 15)]
      units := [0] }

/-- What CLOCK_CONFIG does once its checks have passed. -/
def State.clockConfigAct (s : State) (r : Req) : Ans :=
      let t := (s.setF F.CKG_QUAL_CFG_TOL_PPM 0 (r.arg A.CLOCK_CONFIG_TOL_PPM)).setF F.CKG_QUAL_CFG_DISAGREE_INTERVALS 0
        (r.arg A.CLOCK_CONFIG_DISAGREE_INTERVALS)
      let t := t.each [0, 1, 2] fun d t =>
        (t.setF F.CKG_DOMAIN_CFG_FALLBACK_EN d (bits (r.arg A.CLOCK_CONFIG_FALLBACK_EN) d 1)).setF F.CKG_DOMAIN_CFG_AUTO_REVERT d
          (bits (r.arg A.CLOCK_CONFIG_AUTO_REVERT) d 1)
      .ok (t.each [0, 1, 2] fun d t => t.autoRevert d)
        (w32 (t.rd R.CKG_QUAL_CFG 0) ++ w32 (r.arg A.CLOCK_CONFIG_FALLBACK_EN + 256 * r.arg A.CLOCK_CONFIG_AUTO_REVERT))

/-- CLOCK_CONFIG (0x0201, R155). -/
def execClockConfig (m : Nat) (s : State) : Host.Outcome State Fault Refusal :=
  .next (s.runCmd m C.CLOCK_CONFIG s.clockConfigChecks s.clockConfigAct)

/-- A commanded selection of a core or Teller domain's source, good under R135: the state and whether a switch took place (R156). A domain
that is not running takes the source when it starts. -/
def State.selectSource (s : State) (d v : Nat) : State × Bool :=
  if !s.flag F.CKG_DOMAIN_STATUS_RUNNING d then ((s.setF F.CKG_DOMAIN_CFG_SELECT d v).setF F.CKG_DOMAIN_STATUS_ON_FALLBACK d v, false)
  else if s.domainSource d = v ∧ Tab.get none s.ckg.switch d = none then (s.setF F.CKG_DOMAIN_CFG_SELECT d v, false)
  else ((s.startSwitch d v false).finishSwitch d ⟨v, false⟩, true)

/-- What CLOCK_SELECT adds to the checks of R94. -/
def State.clockSelectChecks (s : State) (r : Req) : Checks :=
  { Checks.plain C.CLOCK_SELECT with
      target := targetError 0x02 15 3 false r
      args := failIf (!s.sourceGood r.index (r.arg A.CLOCK_SELECT_SOURCE)) (badArg A.CLOCK_SELECT_SOURCE 2)
      units := [0]
      busy := match Tab.get none s.ckg.switch r.index with
        | some sw => if sw.auto then some 0x10 else none
        | none => none }

/-- What CLOCK_SELECT does once its checks have passed. -/
def State.clockSelectAct (s : State) (r : Req) : Ans :=
      let (t, sw) := s.selectSource r.index (r.arg A.CLOCK_SELECT_SOURCE)
      let pause := if sw then t.fld F.CKG_DOMAIN_STATUS_LAST_PAUSE_NS r.index else 0
      .ok (t.autoRevert r.index) (w32 (t.domainSource r.index + 256 * b2n sw) ++ w32 pause)

/-- CLOCK_SELECT (0x0202, R139, R156). -/
def execClockSelect (m : Nat) (s : State) : Host.Outcome State Fault Refusal :=
  .next (s.runCmd m C.CLOCK_SELECT s.clockSelectChecks s.clockSelectAct)

/-- A trim code loaded or reached: AT_LIMIT and its event (R133). -/
def State.setTrim (s : State) (code : Nat) : State :=
  let lim := code == 0 || code == 1023
  let s := (s.setF F.CKG_WATCH_TRIM_CODE 0 code).setF F.CKG_WATCH_TRIM_AT_LIMIT 0 (b2n lim)
  if lim then s.note E.CKG_WATCH_TRIM_LIMIT else s

/-- TIME pin `k` is configured as PPS input (R132, R157). -/
def State.ppsInput (s : State) (k : Nat) : Bool := s.fld F.TIM_PIN_CFG_MODE k == 1

/-- What WATCH_TRIM adds to the checks of R94. -/
def State.watchTrimChecks (s : State) (r : Req) : Checks :=
  { Checks.plain C.WATCH_TRIM with
      target := targetWhole 0x02 r, dflt := [(A.WATCH_TRIM_CODE, s.fld F.CKG_WATCH_TRIM_CODE 0)]
      args := firstFail [
        failIf (r.arg A.WATCH_TRIM_MODE == 3) (badArg A.WATCH_TRIM_MODE 4),
        failIf (r.arg A.WATCH_TRIM_MODE == 1 && !s.ppsInput (r.arg A.WATCH_TRIM_PPS_PIN)) (badArg A.WATCH_TRIM_PPS_PIN 3)]
      units := [0] }

/-- What WATCH_TRIM does once its checks have passed. -/
def State.watchTrimAct (s : State) (r : Req) : Ans :=
      let t := (s.setF F.CKG_WATCH_TRIM_MODE 0 (r.arg A.WATCH_TRIM_MODE)).setF F.CKG_WATCH_TRIM_PPS_PIN 0 (r.arg A.WATCH_TRIM_PPS_PIN)
      let t := if r.arg A.WATCH_TRIM_MODE = 2 ∧ r.arg A.WATCH_TRIM_CODE ≠ s.fld F.CKG_WATCH_TRIM_CODE 0 then
        t.setTrim (r.arg A.WATCH_TRIM_CODE) else t
      .ok t (w32 (t.fld F.CKG_WATCH_TRIM_CODE 0) ++ w32 (t.rd R.CKG_WATCH_FREQ 0))

/-- WATCH_TRIM (0x0203, R133, R157). -/
def execWatchTrim (m : Nat) (s : State) : Host.Outcome State Fault Refusal :=
  .next (s.runCmd m C.WATCH_TRIM s.watchTrimChecks s.watchTrimAct)

/-! ### Monitors -/

/-- A source has lost its qualification: every domain that runs from it reacts (R137, R139, R140, R142, R393). -/
def State.disqualify (s : State) (i : Nat) : State :=
  let s := (s.setF F.CKG_REF_STATUS_QUALIFIED i 0).setF F.CKG_REF_STATUS_GOOD_RUN i 0
  let s := { s with ckg := { s.ckg with fails := Tab.set 0 s.ckg.fails i 0 } }
  let s := s.sourcesFailed.evalLock
  if 1 ≤ i ∧ i ≤ 8 then s.stopQd (i - 1) else s

/-- A source becomes qualified (R127): the held domains are recorded once the watch oscillator is qualified (R140), and domains restart or
revert. -/
def State.qualify (s : State) (i : Nat) : State :=
  let s := (s.setF F.CKG_REF_STATUS_QUALIFIED i 1).note E.CKG_REF_QUALIFIED
  let s := if i = 11 ∧ !s.flag F.CKG_NOQS_LATCH_RECORDED 0 then s.recordNoqs else s
  s.sourceGained.evalLock

/-- An interval of input `i` against input `j` with `count` cycles of the faster passes (R126). -/
def State.intervalPasses (s : State) (i j count : Nat) : Bool :=
  let fast := max (s.nominal i) (s.nominal j)
  let slow := min (s.nominal i) (s.nominal j)
  let allow := (ceilDiv (2048 * fast * s.fld F.CKG_QUAL_CFG_TOL_PPM 0) (slow * 1000000) + 1) * slow
  decide (count * slow ≤ 2048 * fast + allow ∧ 2048 * fast ≤ count * slow + allow)

/-- The deviation of an interval's count from the expected one, in ppm, cut towards zero (log entry 12). -/
def State.intervalPpm (s : State) (i j count : Nat) : Int :=
  let fast := max (s.nominal i) (s.nominal j)
  let slow := min (s.nominal i) (s.nominal j)
  Int.tdiv (((count * slow : Nat) - (2048 * fast : Nat) : Int) * 1000000) (2048 * fast : Nat)

/-- A third qualified source agrees with source `j`: one's last intervals against the other passed (R129). -/
def State.thirdAgrees (s : State) (i j : Nat) : Bool :=
  (List.range 12).any fun k => k != i && k != j && s.qualified k &&
    ((s.fld F.CKG_REF_MEASURE_COMPARE k == j && decide (0 < s.fld F.CKG_REF_STATUS_GOOD_RUN k))
      || (s.fld F.CKG_REF_MEASURE_COMPARE j == k && decide (0 < s.fld F.CKG_REF_STATUS_GOOD_RUN j)))

/-- A step of the watch trim's binary search (R132): bit 9 − k is kept or cleared, and the next bit is tried. -/
def State.trimSearch (s : State) (tooFast : Bool) : State :=
  let k := s.ckg.trimStep
  if 10 ≤ k then s
  else
    let c := s.fld F.CKG_WATCH_TRIM_CODE 0
    let c := if tooFast == Config.trimRaises then putBits c (9 - k) 1 0 else c
    let c := if k < 9 then putBits c (8 - k) 1 1 else c
    let s := { s with ckg := { s.ckg with trimStep := k + 1 } }
    let s := if k = 9 then s.setF F.CKG_WATCH_TRIM_TRIMMED 0 1 else s
    if k = 9 then s.setTrim c else s.setF F.CKG_WATCH_TRIM_CODE 0 c

/-- A failed interval of a qualified source against a qualified one (R129, R130). -/
def State.intervalFailed (s : State) (i j : Nat) : State :=
  let n := Tab.get 0 s.ckg.fails i + 1
  let s := { s with ckg := { s.ckg with fails := Tab.set 0 s.ckg.fails i n } }
  let lim := s.fld F.CKG_QUAL_CFG_DISAGREE_INTERVALS 0
  if n < lim then s
  else if s.thirdAgrees i j then
    ((s.setCounted F.CKG_REF_STATUS_DISAGREE F.CKG_REF_STATUS_DISAGREE_COUNT i).note E.CKG_FREQ_DISAGREE).disqualify i
  else if n = lim ∧ !s.thirdAgrees j i then
    ((s.setCounted F.CKG_REF_STATUS_DISAGREE F.CKG_REF_STATUS_DISAGREE_COUNT i).setCounted F.CKG_REF_STATUS_DISAGREE
      F.CKG_REF_STATUS_DISAGREE_COUNT j).note E.CKG_FREQ_DISAGREE
  else s

/-- QUAL_INTERVAL_END (R126 to R132): input `i`'s interval against `j`, one of its comparison sources, ends with `count` cycles of the faster
of the pair. `j` is the first qualified of the listed sources, or any listed one while none is qualified. -/
def execQualIntervalEnd (i j count : Nat) (s : State) : Host.Outcome State Fault Refusal :=
  .next (
    let ok := decide (i < 12) && (compareList i).contains j &&
      (match (compareList i).find? fun k => s.qualified k with
        | some k => k == j
        | none => true)
    if !ok then s
    else
      let present := decide (s.nominal i ≤ s.nominal j) || decide (0 < count)
      let pass := s.intervalPasses i j count
      let s := (s.setF F.CKG_REF_STATUS_PRESENT i (b2n present)).setF F.CKG_REF_MEASURE_COMPARE i j
      let s := s.setF F.CKG_REF_MEASURE_ERROR_PPM i (ofSigned 16 (max (-32768) (min 32767 (s.intervalPpm i j count))))
      let s := if i = 11 ∧ s.fld F.CKG_WATCH_TRIM_MODE 0 = 0 then
          s.trimSearch (decide (2048 * s.nominal 11 < count * s.nominal j)) else s
      if pass then
        let run := min 1024 (s.fld F.CKG_REF_STATUS_GOOD_RUN i + 1)
        let s := s.setF F.CKG_REF_STATUS_GOOD_RUN i run
        let s := { s with ckg := { s.ckg with fails := Tab.set 0 s.ckg.fails i 0 } }
        if run < 1024 ∨ s.qualified i then s
        else if s.qualified j then s.qualify i
        else if ((List.range 12).all fun k => !s.qualified k) && s.fld F.CKG_REF_STATUS_GOOD_RUN j == 1024
            && s.fld F.CKG_REF_MEASURE_COMPARE j == i then (s.qualify j).qualify i
        else s
      else
        let s := s.setF F.CKG_REF_STATUS_GOOD_RUN i 0
        if s.qualified i && s.qualified j then s.intervalFailed i j else s)

/-- A qualified source is lost (R129). -/
def State.refLost (s : State) (i : Nat) : State :=
  if i < 12 ∧ s.qualified i then
    let s := (s.setF F.CKG_REF_STATUS_PRESENT i 0).setCounted F.CKG_REF_STATUS_LOST F.CKG_REF_STATUS_LOST_COUNT i
    (s.note E.CKG_REF_LOST).disqualify i
  else s

/-- REF_LOSS (R129): a qualified source shows no edge in 64 consecutive cycles of its comparison source. -/
def execRefLoss (i : Nat) (s : State) : Host.Outcome State Fault Refusal := .next (s.refLost i)

/-- PLL_UNLOCK (R137): PLL `k` loses lock, and a domain that runs from it reacts. A MAC/PCS domain stops with its quire's ports. -/
def execPllUnlock (k : Nat) (s : State) : Host.Outcome State Fault Refusal :=
  .next (if k < 23 ∧ s.flag F.CKG_PLL_STATUS_LOCKED k then
      let s := ((s.setF F.CKG_PLL_STATUS_LOCKED k 0).setCounted F.CKG_PLL_STATUS_UNLOCK F.CKG_PLL_STATUS_UNLOCK_COUNT k).note E.CKG_PLL_UNLOCK
      let s := s.sourcesFailed.evalLock
      if 7 ≤ k ∧ s.flag F.CKG_DOMAIN_STATUS_RUNNING (k - 1) then
        let s := (s.setF F.CKG_DOMAIN_STATUS_RUNNING (k - 1) 0).setF F.CKG_DOMAIN_STATUS_HELD (k - 1) 1
        s.each ((List.range 64).map fun l => 64 * (k - 7) + l) fun n s => if s.portConfigured n then s.portDown n else s
      else s
    else s)

/-- PLL_LOCK (R125, R138): PLL `k`, fed by a qualified input, gains lock. -/
def execPllLock (k : Nat) (s : State) : Host.Outcome State Fault Refusal :=
  .next (if k < 23 ∧ s.qualified (s.pllInput k) ∧ !s.flag F.CKG_PLL_STATUS_LOCKED k then
      ((s.setF F.CKG_PLL_STATUS_LOCKED k 1).setF F.CKG_PLL_STATUS_INPUT k (s.pllInput k)).sourceGained.evalLock
    else s)

/-- DOMAIN_SWITCH_DONE (R136): the switch in progress of domain `d` restarts the domain. -/
def execDomainSwitchDone (d : Nat) (s : State) : Host.Outcome State Fault Refusal :=
  .next (match Tab.get none s.ckg.switch d with
    | some sw => s.finishSwitch d sw
    | none => s)

/-- WATCH_TRIM_ADJUST (R132, R133): the mean error of 1,024 intervals, or of a PPS interval, is `ppm` too fast, and `hz` was measured. CODE
moves one step against an error beyond 50 ppm once the search is complete, or in trim mode 1; it stays in mode 2. -/
def execWatchTrimAdjust (ppm : Int) (hz : Nat) (s : State) : Host.Outcome State Fault Refusal :=
  .next (
    let mode := s.fld F.CKG_WATCH_TRIM_MODE 0
    let byRef := s.flag F.CKG_REF_STATUS_PRESENT 0 || s.flag F.CKG_REF_STATUS_PRESENT 9
    let pin := s.ppsInput (s.fld F.CKG_WATCH_TRIM_PPS_PIN 0)
    let s := if byRef then s.wr R.CKG_WATCH_FREQ 0 hz else s
    let runs := (mode == 0 && ((byRef && s.flag F.CKG_WATCH_TRIM_TRIMMED 0) || (!byRef && pin))) || (mode == 1 && pin)
    if !runs || (decide (-50 ≤ ppm) && decide (ppm ≤ 50)) then s
    else
      let c := s.fld F.CKG_WATCH_TRIM_CODE 0
      s.setTrim (if decide (0 < ppm) == Config.trimRaises then c - 1 else min 1023 (c + 1)))

/-! ### Crossings -/

/-- Key of toggle or bundle crossing `k` of die `d`, and the crossing index that reports the die's crossings together (R151). -/
def crossKey (d k : Nat) : Nat := 65536 * d + k
def dieCrossing (d : Nat) : Nat := 2262 + d

/-- A pulse arrives at the source of a toggle crossing (R145, R146). -/
def State.togglePulse (s : State) (d k : Nat) : State :=
  let t := Tab.get {} s.ckg.toggles (crossKey d k)
  let put := fun (s : State) (t : Toggle) => { s with ckg := { s.ckg with toggles := Tab.set {} s.ckg.toggles (crossKey d k) t } }
  if !t.unacked then put s { t with unacked := true }
  else if t.pend = 15 then s.inc F.CKG_XING_COUNT_LOST (dieCrossing d)
  else
    let s := put s { t with pend := t.pend + 1 }
    if t.pend + 1 = 15 then
      (s.setCounted F.CKG_XING_STATUS_OVERFLOW F.CKG_XING_STATUS_OVF_COUNT (dieCrossing d)).note E.CKG_XING_OVERFLOW
    else s

/-- TOGGLE_ACK (R145): after `pulses` source pulses, the acknowledge of crossing `k` of die `d` arrives and the next pending pulse is launched;
with `same`, a pulse arrives in the cycle of that launch. -/
def execToggleAck (d k pulses : Nat) (same : Bool) (s : State) : Host.Outcome State Fault Refusal :=
  .next (
    if 10 ≤ d then s
    else
      let s := s.each (List.range pulses) fun _ s => s.togglePulse d k
      let t := Tab.get {} s.ckg.toggles (crossKey d k)
      if !t.unacked then s
      else
        let p := t.pend + b2n same
        { s with ckg := { s.ckg with toggles := Tab.set {} s.ckg.toggles (crossKey d k) ⟨p - 1, decide (0 < p)⟩ } })

/-- A value written at the source of a bundle crossing (R148). -/
def State.bundleWrite (s : State) (d k v : Nat) : State :=
  let b := Tab.get {} s.ckg.bundles (crossKey d k)
  let put := fun (s : State) (b : Bundle) => { s with ckg := { s.ckg with bundles := Tab.set {} s.ckg.bundles (crossKey d k) b } }
  match b.held with
  | none => put s { b with held := some v }
  | some _ =>
    let s := if b.waiting.isSome then s.inc F.CKG_XING_COUNT_COALESCE (dieCrossing d) else s
    put s { b with waiting := some v }

/-- BUNDLE_ACK (R148): after the writes `vs`, the acknowledge of crossing `k` of die `d` arrives: the held value has been taken and the waiting
value is launched. -/
def execBundleAck (d k : Nat) (vs : List Nat) (s : State) : Host.Outcome State Fault Refusal :=
  .next (
    if 10 ≤ d then s
    else
      let s := s.each vs fun v s => s.bundleWrite d k v
      let b := Tab.get {} s.ckg.bundles (crossKey d k)
      match b.held with
      | none => s
      | some v => { s with ckg := { s.ckg with bundles := Tab.set {} s.ckg.bundles (crossKey d k) ⟨b.waiting, none, v⟩ } })

/-- XING_RESET_TOKEN (R153): the reset-complete token of crossing `x` reaches the live side, after `offered` further items were offered to the
side in reset and lost (R152). -/
def execXingResetToken (x offered : Nat) (s : State) : Host.Outcome State Fault Refusal :=
  .next (if x < 2272 ∧ s.flag F.CKG_XING_STATUS_PEER_RESET x then
      (s.addSat F.CKG_XING_COUNT_LOST x offered).setF F.CKG_XING_STATUS_PEER_RESET x 0
    else s)

/-- A granted write of CKG_DOMAIN_CFG.SELECT acts as CLOCK_SELECT (R138); a source that is not good changes nothing (R156), and neither does an
automatic switch in progress (R139). -/
def State.selectWrite (s : State) (d v : Nat) : State :=
  let auto := match Tab.get none s.ckg.switch d with
    | some sw => sw.auto
    | none => false
  if 3 ≤ d || auto || !s.sourceGood d (v % 2) then s
  else if !s.flag F.CKG_DOMAIN_STATUS_RUNNING d || s.domainSource d == v % 2 then (s.selectSource d (v % 2)).1
  else s.startSwitch d (v % 2) false

/-- CKG_SELECT_WRITE (R138): a host write of CKG_DOMAIN_CFG.SELECT of domain `d`, where CKG is granted. -/
def execCkgSelectWrite (d v : Nat) (s : State) : Host.Outcome State Fault Refusal :=
  .next (if d < 22 then s.hostWrites ((R.CKG_DOMAIN_CFG).key d) fun s => s.selectWrite d v else s)

end Sys2Proof.Machine
end

