-- ==== Sys2Proof/Machine/Ledger.lean ====
section
/-! DEFINITION. The ledger store: geometry, slots, lookups and next-hop groups (R293 to R303, R311 to R314). -/
namespace Sys2Proof.Machine

/-! ### Slots (R293, R295) -/

/-- BAR2 offset of slot `n` of replica `r`. -/
def slotAt (r n : Nat) : Nat := 0x90000000 + 0x1000000 * r + 16 * n

/-- The 128 bits of a slot, HIT in place. -/
def State.slot (s : State) (r n : Nat) : Nat := s.arrNat (slotAt r n) 16

/-- A slot replaced. -/
def State.putSlot (s : State) (r n v : Nat) : State := s.putArr (slotAt r n) (leBytes 16 v)

/-- A slot's bits, HIT excepted. -/
def noHit (v : Nat) : Nat := putBits v 9 1 0

/-- Good parity: even over the slot, HIT excepted. -/
def slotOk (v : Nat) : Bool := popCount 128 (noHit v) % 2 == 0

/-- A slot's bits with the PARITY that makes it even. -/
def withParity (v : Nat) : Nat := putBits v 31 1 (popCount 128 (noHit (putBits v 31 1 0)) % 2)

/-- VALID with good parity: any other slot reads as empty (R314). -/
def slotLive (v : Nat) : Bool := bit v 0 && slotOk v

/-- Fields of a head slot. -/
def slotSpan (v : Nat) : Nat := bits v 2 2
def slotLedger (v : Nat) : Nat := bits v 4 4
def slotStatic (v : Nat) : Bool := bit v 8
def slotHit (v : Nat) : Bool := bit v 9
def slotAge (v : Nat) : Nat := bits v 10 4
def slotResult (v : Nat) : Nat := bits v 32 32

/-- The slots that an entry of a SPAN takes; the undefined SPAN 3 acts as 0 (R625). -/
def spanSlots (span : Nat) : Nat := [1, 2, 4].getD span 1

/-- Most key bytes of a SPAN. -/
def spanKey (span : Nat) : Nat := [8, 20, 44].getD span 8

/-- A key's stored bytes: 44, those beyond KEY_BYTES 0. -/
def padKey (kb : Nat) (key : List Byte) : List Byte := (key.take kb ++ List.replicate 44 0#8).take 44

/-- The slots of an entry, head first. -/
def makeEntry (span g : Nat) (static : Bool) (age choice : Nat) (result : Nat) (key : List Byte) : List Nat :=
  let head := 3 + 4 * span + 16 * g + 256 * b2n static + 1024 * age + 16384 * choice + 2 ^ 32 * result + 2 ^ 64 * leNat (key.take 8)
  (List.range (spanSlots span)).map fun c =>
    withParity (if c = 0 then head else 1 + 4 * span + 16 * g + 2 ^ 32 * leNat ((key.drop (8 + 12 * (c - 1))).take 12))

/-- The key bytes of an entry from its slots. -/
def entryKey : List Nat → List Byte
  | [] => []
  | h :: t => leBytes 8 (h / 2 ^ 64) ++ t.flatMap fun v => leBytes 12 (v / 2 ^ 32)

/-! ### Ledgers -/

def State.ledgerOn (s : State) (g : Nat) : Bool := s.flag F.LDG_LEDGER_CFG_ENABLE g
def State.ledgerType (s : State) (g : Nat) : Nat := s.fld F.LDG_LEDGER_CFG_TYPE g

/-- SPAN and KEY_BYTES of a ledger; KEY_BYTES acts as the nearest value its SPAN allows (R625). -/
def State.ledgerSpan (s : State) (g : Nat) : Nat := if s.fld F.LDG_LEDGER_CFG_SPAN g = 3 then 0 else s.fld F.LDG_LEDGER_CFG_SPAN g
def State.keyBytes (s : State) (g : Nat) : Nat := clamp 1 (spanKey (s.ledgerSpan g)) (s.fld F.LDG_LEDGER_CFG_KEY_BYTES g)

/-- MAX_ENTRIES of a ledger; the express ledger holds at most 65,536 (R303). -/
def State.maxEntries (s : State) (g : Nat) : Nat :=
  let n := clamp 1 1048576 (s.fld F.LDG_LEDGER_MAX_VALUE g)
  if s.ledgerType g = 2 then min 65536 n else n

/-- The ledger of TYPE 1, if there is one. -/
def State.groupLedger (s : State) : Option Nat := lowest 16 fun g => s.ledgerType g == 1

/-- Rows of each ward reserved for groups, and the hashed rows N of a ward (R294, R311). -/
def State.groupRows (s : State) : Nat := match s.groupLedger with
  | some g => min 16384 (s.maxEntries g) / 8
  | none => 0
def State.hashRows (s : State) : Nat := 32768 - s.groupRows

/-- Advances counter `k` of a ledger's LDG_STAT. -/
def State.ledgerStat (s : State) (g k : Nat) : State := s.count64 R.LDG_STAT_LO R.LDG_STAT_HI (k + 8 * g) 1

/-- Advances counter `k` of LDG_GSTAT. -/
def State.ldgStat (s : State) (k : Nat) : State := s.count64 R.LDG_GSTAT_LO R.LDG_GSTAT_HI k 1

/-- The candidate buckets of a key in the order A0, A1 (R294). -/
def State.candidates (s : State) (g : Nat) (key : List Byte) : Nat × Nat :=
  let m := BitVec.ofNat 8 g :: key.take (s.keyBytes g)
  let h0 := crc32From (s.rd R.LDG_LEDGER_SEED0 g) m
  let h1 := crc32From (s.rd R.LDG_LEDGER_SEED1 g) m
  let n := s.hashRows
  let a0 := bits h0 16 16 * n / 65536
  let a1 := bits h1 16 16 * n / 65536
  let a1 := if a1 = a0 then (a0 + 1) % n else a1
  (32768 * (h0 % 8) + a0, 32768 * (h0 % 8) + a1)

/-- The ward of a bucket. -/
def wardOf (b : Nat) : Nat := b / 32768

/-! ### Matching (R296) -/

/-- The four slots of a bucket of a replica. -/
def State.bucket (s : State) (r b : Nat) : List Nat := (List.range 4).map fun p => s.slot r (4 * b + p)

/-- The slots of the entry whose head stands at position `p` of a bucket image. -/
def imageEntry (img : List Nat) (p : Nat) : List Nat := (img.drop p).take (spanSlots (slotSpan (img.getD p 0)))

/-- A whole entry stands at position `p`: its head and each continuation slot are VALID with good parity, and it is aligned. -/
def wholeAt (img : List Nat) (p : Nat) : Bool :=
  let h := img.getD p 0
  slotLive h && bit h 1 && p % spanSlots (slotSpan h) == 0
    && (imageEntry img p).tail.all fun v => slotLive v && !bit v 1 && slotSpan v == slotSpan h && slotLedger v == slotLedger h

/-- The position of a bucket image at which the entry of a key of ledger `g` stands, if any. -/
def findIn (img : List Nat) (g span kb : Nat) (key : List Byte) : Option Nat :=
  lowest 4 fun p =>
    let h := img.getD p 0
    wholeAt img p && slotLedger h == g && slotSpan h == span && (entryKey (imageEntry img p)).take kb == key.take kb

/-- The lowest aligned free position of a bucket image for a SPAN. A slot with bad parity is empty (R314). -/
def freeIn (img : List Nat) (span : Nat) : Option Nat :=
  let n := spanSlots span
  lowest 4 fun p => p % n == 0 && ((img.drop p).take n).all fun v => !slotLive v

/-- The copies of a key in a replica: slot numbers of their heads, A0's first. -/
def State.copiesOf (s : State) (r g : Nat) (key : List Byte) : List Nat :=
  let c := s.candidates g key
  [c.1, c.2].filterMap fun b => (findIn (s.bucket r b) g (s.ledgerSpan g) (s.keyBytes g) key).map fun p => 4 * b + p

/-! ### Parity (R314) -/

def State.clerk (s : State) (w : Nat) : Clerk := Tab.get {} s.ldg.clerks w
def State.putClerk (s : State) (w : Nat) (c : Clerk) : State := { s with ldg := { s.ldg with clerks := Tab.set {} s.ldg.clerks w c } }

/-- A read of slot `n` of replica `r` finds bad parity: it is recorded and counted, and the ward's Clerk is asked to scrub. -/
def State.badSlot (s : State) (r n : Nat) : State :=
  let s := ((s.setF F.LDG_STATUS_PARITY 0 1).inc F.LDG_STATUS_PARITY_COUNT 0).wr R.LDG_PARITY_LAST 0 (n + 2 ^ 20 * r)
  let s := (s.ldgStat 5).note E.LDG_PARITY
  let w := wardOf (n / 4)
  if (s.clerk w).scrub.contains (r, n) then s else s.putClerk w { s.clerk w with scrub := (s.clerk w).scrub ++ [(r, n)] }

/-- A bucket of a replica is read: each slot with bad parity is reported. -/
def State.readBucket (s : State) (r b : Nat) : State :=
  s.each (List.range 4) fun p s => if slotOk (s.slot r (4 * b + p)) then s else s.badSlot r (4 * b + p)

/-! ### Lookups (R296, R299, R301) -/

/-- HIT set in a copy (R299). A copy that is DOOMED at that time counts in AGE_LATE_HITS (R325). -/
def State.setHit (s : State) (r n : Nat) : State :=
  let s := if bit (s.slot r n) 15 then s.ldgStat 4 else s
  s.putSlot r n (putBits (s.slot r n) 9 1 1)

/-- A lookup of a key in ledger `g` in replica `r`: both candidate buckets are read, every copy found is marked HIT, and the head slot of the
copy used is the answer. A ledger whose ENABLE is 0 misses. -/
def State.lookup (s : State) (r g : Nat) (key : List Byte) : State × Option Nat :=
  let s := s.ledgerStat g 0
  if !s.ledgerOn g then (s, none)
  else
    let c := s.candidates g key
    let s := (s.readBucket r c.1).readBucket r c.2
    let l := s.copiesOf r g key
    let s := s.each l fun n s => s.setHit r n
    match l with
    | n :: _ => (s.ledgerStat g 1, some (s.slot r n))
    | [] => (s, none)

/-! ### Next-hop groups (R311 to R313) -/

/-- The bucket of group `n`. -/
def groupBucket (n : Nat) : Nat := 32768 * (n % 8) + (32767 - n / 8)

/-- The 384-bit field P of a group bucket's slots. -/
def groupField (img : List Nat) : Nat := img.foldr (fun v acc => v / 2 ^ 32 + 2 ^ 96 * acc) 0

/-- COUNT, EDIT_BASE and the port of member `m` of a group field. -/
def groupCount (f : Nat) : Nat := clamp 1 16 (bits f 16 5)
def groupMember (f m : Nat) : Nat := bits f (48 + 10 * m) 10

/-- What a destination comes to: copies of the frame with their edits, a drop, or a punt with its reason. -/
inductive Dest where
  | copies (l : List (Nat × Nat))
  | drop
  | punt (reason : Nat)
  deriving DecidableEq, Repr

/-- The group field of group `n` in replica `r`, if the group is held (R312). -/
def State.groupHeld (s : State) (r n : Nat) : Option Nat :=
  match s.groupLedger with
  | none => none
  | some g =>
    let img := s.bucket r (groupBucket n)
    if s.ledgerOn g && decide (n < s.maxEntries g) && img.all slotLive then some (groupField img) else none

/-- The members a group gives to a frame: one in ECMP and failover mode, every live one in replicate mode (R312). -/
def State.groupMembers (s : State) (f : Nat) (key : List Byte) : List Nat :=
  let n := groupCount f
  let mode := bits f 14 2
  let live := fun (m : Nat) => s.live (groupMember f m)
  if mode = 2 then idxs n live
  else if mode = 1 then (lowest n live).toList
  else
    let h := crc32From (s.rd R.LDG_ECMP_SEED 0) (key.take 40)
    let i := bits h 16 16 % n
    ((lowest n fun j => live ((i + j) % n)).map fun j => (i + j) % n).toList

/-- A group resolved for a frame with a parse-record KEY. -/
def State.resolveGroup (s : State) (r n : Nat) (key : List Byte) : State × Dest :=
  let s := s.readBucket r (groupBucket n)
  match s.groupHeld r n with
  | none => ((s.ldgStat 2).note E.LDG_GROUP_EMPTY, .drop)
  | some f =>
    match s.groupMembers f key with
    | [] =>
      let s := s.note E.LDG_GROUP_EMPTY
      if bit f 21 then (s, .punt (bits f 22 6)) else (s.ldgStat 2, .drop)
    | l => (s, .copies (l.map fun m => (groupMember f m, (bits f 32 16 + m) % 65536)))

end Sys2Proof.Machine
end

