-- ==== Sys2Proof/Machine/Rules.lean ====
section
/-! DEFINITION. The rule store and the postings (R262 to R269, R278 to R287). -/
namespace Sys2Proof.Machine

/-! ### The store -/

/-- BAR2 offset of rule slot `n` of die `d`, and of ternary entry `e`: VALUE, with MASK 64 bytes on (R586). -/
def ruleAt (d n : Nat) : Nat := 0xA0000000 + 0x800000 * d + 32 * n
def ternAt (d e : Nat) : Nat := 0xA2000000 + 0x100000 * d + 128 * e

/-- First action slot of the ternary entries, and slots of a half (R262, R263). -/
def ternSlot : Nat := 253952
def dieSlots : Nat := 262144

/-- The 256 bits of a rule slot. -/
def State.rule (s : State) (d n : Nat) : Nat := s.arrNat (ruleAt d n) 32

/-- A rule slot replaced. -/
def State.putRule (s : State) (d n v : Nat) : State := s.putArr (ruleAt d n) (leBytes 32 v)

/-- Fields of a rule image (R268). -/
def ruleW (v w lo wd : Nat) : Nat := bits v (32 * w + lo) wd
def ruleValid (v : Nat) : Bool := bit v (192 + 25)
def ruleWide (v : Nat) : Bool := bit v (192 + 26)
def ruleBorn (v : Nat) : Option Nat := if bit v (192 + 8) then some (ruleW v 6 0 8) else none
def ruleRetired (v : Nat) : Option Nat := if bit v (192 + 24) then some (ruleW v 6 16 8) else none
def ruleDisposition (v : Nat) : Nat := ruleW v 4 14 2
def ruleStat (v : Nat) : Nat := ruleW v 5 16 16

/-- Slots of a die whose byte 27 is not 0, so every slot with VALID set, rising. -/
def State.usedSlots (s : State) (d : Nat) : List Nat :=
  s.arrays.filterMap fun e =>
    if ruleAt d 0 ≤ e.1 ∧ e.1 < ruleAt d dieSlots ∧ e.1 % 32 = 27 then some ((e.1 - ruleAt d 0) / 32) else none

/-- The slots of a die that hold a rule: VALID is set, and the slot is not the second of a WIDE rule. -/
def State.ruleSlots (s : State) (d : Nat) : List Nat :=
  (s.usedSlots d).filter fun n =>
    ruleValid (s.rule d n) && !(n % 2 == 1 && decide (n < ternSlot) && ruleValid (s.rule d (n - 1)) && ruleWide (s.rule d (n - 1)))

/-! ### Tables (R264 to R267) -/

/-- ENABLE, WIDTH and the bits of the bucket of a table. BUCKETS_LOG2 below 4 acts as 4 (R625). -/
def State.tableOn (s : State) (t : Nat) : Bool := s.flag F.CLS_TABLE_CFG_ENABLE t
def State.tableWide (s : State) (t : Nat) : Bool := s.flag F.CLS_TABLE_CFG_WIDTH t
def State.tableLog2 (s : State) (t : Nat) : Nat := max 4 (s.fld F.CLS_TABLE_CFG_BUCKETS_LOG2 t)

/-- The first slot of a table and the slots of its region. -/
def State.tableBase (s : State) (t : Nat) : Nat := 8 * s.fld F.CLS_TABLE_REGION_BASE t
def State.tableSlots (s : State) (t : Nat) : Nat := 8 * 2 ^ s.tableLog2 t

/-- MASK of a table, bit b of the KEY at bit b. -/
def State.tableMask (s : State) (t : Nat) : Nat :=
  (List.range 20).foldl (fun a w => a + s.rd R.CLS_TABLE_MASK (w + 20 * t) * 2 ^ (32 * w)) 0

/-- The gathered value of a key (R265). -/
def gather (mask key : Nat) : Nat :=
  ((List.range 640).foldl (fun (a : Nat × Nat) b =>
    if bit mask b then (a.1 + b2n (bit key b) * 2 ^ a.2, a.2 + 1) else a) (0, 0)).1

/-- The first slot of the bucket of a gathered value (R264, R265). -/
def State.bucketOf (s : State) (t v : Nat) : Nat :=
  let h := crc32From (s.rd R.CLS_TABLE_SEED t) (leBytes (if s.tableWide t then 48 else 16) v)
  s.tableBase t + 8 * (h % 2 ^ s.tableLog2 t)

/-- The slots of a bucket at which a rule of a table may start. -/
def State.places (s : State) (t bucket : Nat) : List Nat :=
  if s.tableWide t then [bucket, bucket + 2, bucket + 4, bucket + 6] else (List.range 8).map fun j => bucket + j

/-- A slot holds a rule of a table with a gathered value. -/
def State.ruleIs (s : State) (d t n v : Nat) : Bool :=
  let x := s.rule d n
  ruleValid x && (ruleWide x == s.tableWide t) && x % 2 ^ 128 == v % 2 ^ 128
    && (!s.tableWide t || s.rule d (n + 1) == v / 2 ^ 128)

/-- The ternary key of a frame (R267): a CLS_TERN_SELECT above 79 selects 0x00. -/
def State.ternKey (s : State) (key : List Byte) : Nat :=
  leNat ((List.range 40).map fun j =>
    let c := bits (s.rd R.CLS_TERN_SELECT (j / 4)) (8 * (j % 4)) 8
    if c < 80 then key.getD c 0 else 0#8)

/-- VALUE and MASK of a ternary entry. -/
def State.ternValue (s : State) (d e : Nat) : Nat := s.arrNat (ternAt d e) 40
def State.ternMask (s : State) (d e : Nat) : Nat := s.arrNat (ternAt d e + 64) 40

/-- Slots with VALID set of a table on a die; 64 is the ternary array (CLS_TABLE_FILL). -/
def State.tableFill (s : State) (d t : Nat) : Nat :=
  ((s.ruleSlots d).filter fun n =>
    if t = 64 then decide (ternSlot ≤ n) else decide (s.tableBase t ≤ n) && decide (n < s.tableBase t + s.tableSlots t)).length

/-! ### Postings (R278 to R282) -/

def State.current (s : State) : Nat := s.fld F.CLS_POSTING_CURRENT 0
def State.oldest (s : State) : Nat := s.fld F.CLS_POSTING_OLDEST 0

/-- The posting a frame takes on a die: CURRENT is West's, and East differs from it between the two switches (R280). -/
def State.dieCurrent (s : State) (d : Nat) : Nat :=
  match s.cls.post with
  | some p =>
    let w := b2n (bit p.switched 0)
    let e := b2n (bit p.switched 1)
    if d = 0 then s.current else (s.current + e + 256 - w) % 256
  | none => s.current

/-- pos(x) of R278. -/
def State.pos (s : State) (x : Nat) : Nat := (x + 256 - s.oldest) % 256

/-- A rule is valid in posting `p` (R279). -/
def State.validIn (s : State) (v p : Nat) : Bool :=
  (match ruleBorn v with
   | some b => decide (s.pos b ≤ s.pos p)
   | none => true)
  && (match ruleRetired v with
   | some r => decide (s.pos p < s.pos r)
   | none => true)

/-- UNDRAINED brought in line (R278). -/
def State.settlePosting (s : State) : State := s.setF F.CLS_POSTING_UNDRAINED 0 ((s.current + 256 - s.oldest) % 256)

/-- A frame enters or leaves flight in a posting on a die (R281). -/
def State.enterFlight (s : State) (d p : Nat) : State := s.inc F.CLS_DRAIN_IN_FLIGHT (256 * d + p)
def State.leaveFlight (s : State) (d p : Nat) : State := s.dec F.CLS_DRAIN_IN_FLIGHT (256 * d + p)

end Sys2Proof.Machine
end

