-- ==== Sys2Proof/Machine/Classify.lean ====
section
/-! DEFINITION. Classification: matching, combining, meters, and the ledger lookups that give a frame its egress (R262 to R277, R301 to R304,
R432, R500, R509). -/
namespace Sys2Proof.Machine

/-! ### The parse record (R242) -/

def recKey (r : List Byte) : List Byte := r.take 80
def recOffset (r : List Byte) (slot : Nat) : Nat := byteAt r (80 + slot)
def recValid (r : List Byte) (slot : Nat) : Bool := bit (leAt r 96 4) slot
def recOutcome (r : List Byte) : Nat := bits (leAt r 100 4) 10 3
def recFlat (r : List Byte) : Nat := bits (leAt r 100 4) 16 1

/-! ### Matching and combining (R269 to R271) -/

/-- A matched rule with its table's PRIORITY and number. -/
structure Match where
  priority : Nat
  table : Nat
  rule : Nat
  deriving DecidableEq, Repr

/-- The rule of hash table `t` that a frame of posting `p` matches on a die; `bad` lists slots read with a parity error. -/
def State.hashMatch (s : State) (d t p : Nat) (key : Nat) (bad : List Nat) : Option Nat :=
  let v := gather (s.tableMask t) key
  ((s.places t (s.bucketOf t v)).find? fun n => s.ruleIs d t n v && s.validIn (s.rule d n) p && !bad.contains n).map fun n => s.rule d n

/-- The rule of the ternary array's one match. -/
def State.ternMatch (s : State) (d p : Nat) (key : List Byte) (bad : List Nat) : Option Nat :=
  let k := s.ternKey key
  (((s.ruleSlots d).filter fun n => decide (ternSlot ≤ n)).find? fun n =>
    let e := n - ternSlot
    (k &&& s.ternMask d e) == s.ternValue d e && s.validIn (s.rule d n) p && !bad.contains n).map fun n => s.rule d n

/-- The rules a frame matches, in table order; 64 is the ternary array. -/
def State.matches (s : State) (d p : Nat) (rcd : List Byte) (bad : List Nat) : List Match :=
  let key := recKey rcd
  (List.range 65).filterMap fun t =>
    if s.tableOn t && s.fld F.CLS_TABLE_CFG_KEY_SOURCE t == recFlat rcd then
      (if t = 64 then s.ternMatch d p key bad else s.hashMatch d t p (leNat key) bad).map fun v => ⟨s.fld F.CLS_TABLE_CFG_PRIORITY t, t, v⟩
    else none

/-- A match put in its place: PRIORITY highest first, then table number lowest first. -/
def insertMatch (m : Match) : List Match → List Match
  | [] => [m]
  | x :: t => if x.priority < m.priority ∨ (x.priority = m.priority ∧ m.table < x.table) then m :: x :: t else x :: insertMatch m t

/-- The order up to and with the first rule with STOP. -/
def untilStop : List Match → List Match
  | [] => []
  | m :: t => if ruleW m.rule 4 13 1 = 1 then [m] else m :: untilStop t

/-- The combining order of a frame's matches (R270). -/
def combiningOrder (l : List Match) : List Match := untilStop (l.foldl (fun acc m => insertMatch m acc) [])

/-- A field from the first rule of the order that sets it: bit `set` of word 4 says so. -/
def combined (order : List Match) (set lo wd : Nat) : Option Nat :=
  (order.find? fun m => ruleW m.rule 4 set 1 == 1).map fun m => ruleW m.rule 4 lo wd

/-- The rule that sets the disposition. -/
def dispositionRule (order : List Match) : Option Match := order.find? fun m => ruleDisposition m.rule != 0

/-! ### Meters (R273 to R277) -/

/-- BAR2 offset of a meter's entry. -/
def meterAt (m : Nat) : Nat := 0x21000000 + 32 * m

/-- Units of a byte of a meter's tokens. -/
def meterUnit : Nat := 65536 * 1000000

/-- The configuration of a meter: CIR, EIR, CBS, EBS and word 4. A value out of range acts as the nearest (R625). -/
def State.meterCfg (s : State) (m : Nat) : Nat × Nat × Nat × Nat × Nat :=
  let w := fun (k : Nat) => s.arrNat (meterAt m + 4 * k) 4
  (min 200000000 (bits (w 0) 0 28), min 200000000 (bits (w 1) 0 28), max 1 (bits (w 2) 0 24), max 1 (bits (w 3) 0 24), w 4)

/-- A meter's buckets filled up to now (R274). -/
def State.meterFill (s : State) (m : Nat) : Meter :=
  let c := s.meterCfg m
  let x := Tab.get {} s.cls.meters m
  let dt : Int := s.tim.flow - x.flow
  { c := min (c.2.2.1 * meterUnit : Nat) (x.c + c.1 * dt), e := min (c.2.2.2.1 * meterUnit : Nat) (x.e + c.2.1 * dt), flow := s.tim.flow }

def State.putMeter (s : State) (m : Nat) (x : Meter) : State := { s with cls := { s.cls with meters := Tab.set {} s.cls.meters m x } }

/-- Tokens in whole bytes as words 5 and 6 of the entry show them. -/
def tokenWord (x : Int) : Nat := ofSigned 32 (x.fdiv meterUnit)

/-- A frame of `L` bytes and colour `c` meets meter `m`: the tokens after it and its colour (R274). -/
def meterStep (mode aware : Bool) (x : Meter) (b : Int) (c : Nat) : Meter × Nat :=
  if !mode then
    (if aware && c == 2 then (x, 2)
     else if x.e < b then (x, 2)
     else if (aware && c == 1) || decide (x.c < b) then ({ x with e := x.e - b }, 1)
     else ({ x with c := x.c - b, e := x.e - b }, 0))
  else
    (if aware && c == 2 then (x, 2)
     else if (!aware || c == 0) && decide (b ≤ x.c) then ({ x with c := x.c - b }, 0)
     else if b ≤ x.e then ({ x with e := x.e - b }, 1)
     else (x, 2))

/-- Advances counter `k` of CLS_STAT on a die. -/
def State.clsStat (s : State) (d k n : Nat) : State := s.count64 R.CLS_STAT_LO R.CLS_STAT_HI (k + 16 * d) n

/-- A frame is metered by meter `m` of the part: its colour, and whether RED_DROP discards it. With `perr` the meter's state was read with a
parity error (R277). -/
def State.meterFrame (s : State) (d m L colour : Nat) (perr : Bool) : State × Nat × Bool :=
  let c := s.meterCfg m
  let w := c.2.2.2.2
  if perr then
    let s := ((s.setF F.CLS_DIE_STATUS_METER_PARITY d 1).inc F.CLS_DIE_COUNT_METER_PARITY_COUNT d).note E.CLS_METER_PARITY
    (s.putMeter m { c := (c.2.2.1 * meterUnit : Nat), e := (c.2.2.2.1 * meterUnit : Nat), flow := s.tim.flow }, colour, false)
  else if !bit w 0 then (s, colour, false)
  else
    let adj := max (-32) (toSigned 7 (bits w 8 7))
    let b : Int := ((L : Int) + adj) * meterUnit
    let r := meterStep (bit w 1) (bit w 2) (s.meterFill m) b colour
    let s := (s.putMeter m r.1).clsStat d (5 + r.2) 1
    (s, r.2, r.2 == 2 && bit w 3)

/-! ### Ledger lookups of a forwarded frame (R301 to R304) -/

/-- A key built by a select list (R301). -/
def State.selectKey (s : State) (i n : Nat) (rcd : List Byte) (port cls : Nat) : List Byte :=
  (List.range n).map fun j =>
    let c := bits (s.rd R.LDG_LOOKUP_SELECT (j / 4 + 11 * i)) (8 * (j % 4)) 8
    if c < 80 then rcd.getD c 0
    else if c = 80 then BitVec.ofNat 8 port
    else if c = 81 then BitVec.ofNat 8 (port / 256)
    else if c = 82 then BitVec.ofNat 8 cls
    else 0#8

/-- What the lookups of a frame have given so far: the first destination RESULT, the annotations of the annotate lookups, and the learn records. -/
structure Looked where
  dest : Option Nat := none
  notes : List Nat := []
  learn : List Learn := []
  deriving DecidableEq, Repr

/-- The learn record of a source lookup (R304). -/
def State.learnOf (s : State) (f : Frame) (pipe g : Nat) (key : List Byte) (hit : Option Nat) : Option Learn :=
  if !(bit 0x30 s.mode && s.flag F.LDG_GLOBAL_LEARN_EN 0 && s.ledgerOn g) then none
  else
    let res := fun (r : Nat) => putBits r 0 10 f.port
    match hit with
    | none => some { frameId := f.id, pipe := pipe, bad := f.bad, ledger := g, key := key, result := res (s.rd R.LDG_LEDGER_LEARN g), move := false }
    | some h =>
      if slotResult h % 1024 ≠ f.port ∧ !slotStatic h then
        some { frameId := f.id, pipe := pipe, bad := f.bad, ledger := g, key := key, result := res (slotResult h), move := true }
      else none

/-- Lookup `k` of profile `p` for a frame. The undefined ROLE 3 acts as 0 (R625). -/
def State.runLookup (s : State) (p k : Nat) (f : Frame) (pipe : Nat) (rcd : List Byte) (cls : Nat) (a : Looked) : State × Looked :=
  let i := k + 4 * p
  if !s.flag F.LDG_LOOKUP_CFG_ENABLE i then (s, a)
  else
    let g := s.fld F.LDG_LOOKUP_CFG_LEDGER i
    let role := s.fld F.LDG_LOOKUP_CFG_ROLE i
    let key := s.selectKey i (s.keyBytes g) rcd f.port cls
    let r := s.lookup (pipe / 4) g key
    let r := ((r.1.unitEvent (256 + pipe) 16 2).unitEvent (256 + pipe) (if r.2.isSome then 17 else 18) 1, r.2)
    if role = 1 then (r.1, { a with learn := a.learn ++ (s.learnOf f pipe g key r.2).toList })
    else if role = 2 then (r.1, { a with notes := a.notes ++ [(r.2.map slotResult).getD 0] })
    else (r.1, if a.dest.isSome then a else { a with dest := r.2.map slotResult })

/-- The profile of a frame (R301). -/
def State.profileOf (s : State) (port : Nat) (rcd : List Byte) : Nat :=
  if recFlat rcd = 1 then s.fld F.LDG_PORT_CFG_FLAT_PROFILE port else s.fld F.LDG_PORT_CFG_PROFILE port

/-- The lookups of a frame in order. -/
def State.runLookups (s : State) (p : Nat) (f : Frame) (pipe : Nat) (rcd : List Byte) (cls : Nat) : State × Looked :=
  (List.range 4).foldl (fun (x : State × Looked) k => x.1.runLookup p k f pipe rcd cls x.2) (s, {})

/-- A destination RESULT resolved (R301, R302, R312). -/
def State.resolveDest (s : State) (pipe p result : Nat) (rcd : List Byte) : State × Dest :=
  let kind := bits result 30 2
  if kind = 0 then (s, .copies [(result % 1024, bits result 14 16)])
  else if kind = 1 then
    (if s.flag F.LDG_PROFILE_CFG_GROUP_EN p then s.resolveGroup (pipe / 4) (result % 16384) (recKey rcd) else (s.ldgStat 3, .drop))
  else if kind = 2 then (s.ldgStat 3, .drop)
  else (s, .punt (result % 64))

/-- The destination of a frame after its lookups (R302). A drop under MISS_ACTION 1 counts in DEST_DROPS (DEDUCED, log entry 24). The
undefined MISS_ACTION 3 acts as 0 (R625). -/
def State.destination (s : State) (pipe p : Nat) (a : Looked) (rcd : List Byte) : State × Dest :=
  match a.dest with
  | some r => s.resolveDest pipe p r rcd
  | none =>
    let act := s.fld F.LDG_PROFILE_CFG_MISS_ACTION p
    if act = 1 then (s.ldgStat 3, .drop)
    else if act = 2 then s.resolveDest pipe p (s.rd R.LDG_PROFILE_MISS p) rcd
    else (s, .punt (s.fld F.LDG_PROFILE_CFG_MISS_REASON p))

/-! ### Step 5 -/

/-- A frame is addressed to the Counting House (R432). -/
def State.counting (s : State) (f : Frame) (rcd : List Byte) : Bool :=
  let ips := s.fld F.CTH_CFG_IP_SLOT 0
  let uds := s.fld F.CTH_CFG_UDP_SLOT 0
  let ip := recOffset rcd ips
  let v := byteAt f.bytes ip / 16
  bit 0x30 s.mode && recOutcome rcd == 0 && recValid rcd ips && recValid rcd uds
    && ((v == 4 && beAt f.bytes (ip + 16) 4 == s.rd R.CTH_ADDR4 0)
        || (v == 6 && (List.range 4).all fun w => leAt f.bytes (ip + 24 + 4 * w) 4 == s.rd R.CTH_ADDR6 w))
    && beAt f.bytes (recOffset rcd uds + 2) 2 == s.fld F.CTH_CFG_UDP_PORT 0

/-- The sampling of an ingress port counts a frame, and says whether it is the sampled one (R509). -/
def State.samplePort (s : State) (p : Nat) : State × Bool :=
  let n := s.fld F.MRG_PORT_CFG_SAMPLE_N p
  if n = 0 then (s, false)
  else
    let c := Tab.get 0 s.cls.sampled p + 1
    if n ≤ c then ({ s with cls := { s.cls with sampled := Tab.set 0 s.cls.sampled p 0 } }, true)
    else ({ s with cls := { s.cls with sampled := Tab.set 0 s.cls.sampled p c } }, false)

/-- The rules of an order select marginalia on a die (R509). -/
def State.ruleSelects (s : State) (d : Nat) (order : List Match) : Bool :=
  match (match dispositionRule order with
    | some m => some m
    | none => order.head?) with
  | some m =>
    let st := ruleStat m.rule
    st != 0 && bit (s.rd R.MRG_RULE_SEL (2048 * d + st / 32)) (st % 32)
  | none => false

/-- The rule statistics of an order (R500): each counter once. -/
def State.ruleStats (s : State) (d L : Nat) (order : List Match) : State :=
  s.each ((order.map fun m => ruleStat m.rule).eraseDups.filter fun st => st != 0) fun st s =>
    (s.tally (ruleStatAt d st 0) 1).tally (ruleStatAt d st 1) L

/-- A frame is punted in step 5. A frame already known bad goes no further and takes no token (DEDUCED, log entry 25). -/
def State.puntClassified (s : State) (reason : Nat) (f : Frame) (rcd : List Byte) (cls : Nat) : State :=
  if f.bad then s else s.punt reason f rcd cls (f.rxStamp / 65536 % 2 ^ 32)

/-- A classified frame that is forwarded goes through its lookups and on to enqueue. -/
def State.lookupFrame (s : State) (i posting : Nat) (f : Frame) (rcd : List Byte) (cls colour queue : Nat) (marked : Bool) : State :=
  let prof := s.profileOf f.port rcd
  let l := s.runLookups prof f i rcd cls
  let s := { l.1 with ldg := { l.1.ldg with held := l.1.ldg.held ++ l.2.learn } }
  match s.destination i prof l.2 rcd with
  | (s, .drop) => s
  | (s, .punt reason) => s.puntClassified reason f rcd cls
  | (s, .copies c) =>
    let r : Routed := { frame := f, record := rcd, cls := cls, colour := colour, queue := queue, posting := posting, egress := c
                        annotate0 := l.2.notes.getD 0 0, annotate1 := l.2.notes.getD 1 0, marked := marked }
    let s := s.enterFlight (i / 16) posting
    { s with cls := { s.cls with toEnq := Tab.set [] s.cls.toEnq i (Tab.get [] s.cls.toEnq i ++ [r]) } }

/-- The meter of a frame's matched rules, if one names a meter (R273): the state, the colour and whether the frame is dropped. -/
def State.meterMatched (s : State) (i L colour : Nat) (meterErr : Bool) (m : Option Nat) : State × Nat × Bool :=
  match m with
  | none => (s, colour, false)
  | some k =>
    let r := s.meterFrame (i / 16) (32768 * (i / 16) + k) L (if colour = 3 then 0 else colour) meterErr
    (if r.2.1 = 2 then r.1.unitEvent (224 + i) 19 1 else r.1, r.2)

/-- The disposition of a frame's matched rules, metered (R272). -/
def State.dispose (s : State) (i p : Nat) (x : Parsed) (order : List Match) (cls queue : Nat) (sel : Bool) (met : Nat × Bool) : State :=
  let d := i / 16
  let f := x.frame
  let look := fun (s : State) => s.lookupFrame i p f x.record cls met.1 queue (s.flag F.MRG_PORT_CFG_SEL_IN f.port || sel || s.ruleSelects d order)
  if met.2 then s.clsStat d 4 1
  else match dispositionRule order with
  | some r =>
    if ruleDisposition r.rule = 2 then s.clsStat d 2 1
    else if ruleDisposition r.rule = 3 then (s.clsStat d 3 1).puntClassified (ruleW r.rule 4 16 6) f x.record cls
    else look s
  | none => look s

/-- A frame that matches rules (R270 to R273). -/
def State.classifyMatched (s : State) (i p : Nat) (x : Parsed) (order : List Match) (cls0 : Nat) (sel meterErr : Bool) : State :=
  let L := x.frame.bytes.length
  let s := (s.ruleStats (i / 16) L order).unitEvent (224 + i) 18 order.length
  let cls := (combined order 0 1 4).getD cls0
  let met := s.meterMatched i L ((combined order 5 6 2).getD 0) meterErr ((order.find? fun m => ruleW m.rule 4 22 1 == 1).map fun m => ruleW m.rule 5 0 15)
  met.1.dispose i p x order cls ((combined order 8 9 4).getD cls) sel met.2

/-- A frame that matches no rule (R271). -/
def State.classifyMissed (s : State) (i : Nat) (x : Parsed) (cls0 : Nat) : State :=
  let s := (s.clsStat (i / 16) 1 1).unitEvent (224 + i) 17 1
  s.puntClassified ([0, 1, 3, 2].getD (recOutcome x.record) 0) x.frame x.record cls0

/-- The rules whose parity fails as a frame is classified are reported and match nothing (R269). -/
def State.badRules (s : State) (d : Nat) (bad : List Nat) : State :=
  s.each bad fun n s =>
    (((s.setF F.CLS_DIE_STATUS_PARITY_SLOT d n).setF F.CLS_DIE_STATUS_RULE_PARITY d 1).inc F.CLS_DIE_COUNT_RULE_PARITY_COUNT d).clsStat d 8 1
      |>.note E.CLS_RULE_PARITY

/-- The class of a frame before any rule (R270). -/
def State.firstClass (s : State) (f : Frame) : Nat :=
  match f.stitchClass with
  | some c => if s.flag F.CLS_PORT_CFG_STITCH_CLASS f.port then c else s.fld F.CLS_PORT_CFG_DEFAULT_CLASS f.port
  | none => s.fld F.CLS_PORT_CFG_DEFAULT_CLASS f.port

/-- A frame in step 5 on pipeline `i`. -/
def State.classify (s : State) (i : Nat) (x : Parsed) (bad : List Nat) (meterErr : Bool) : State :=
  let d := i / 16
  let p := s.dieCurrent d
  let smp := (s.clsStat d 0 1).samplePort x.frame.port
  let s := smp.1
  if s.counting x.frame x.record then
    let s := s.enterFlight d p
    { s with cls := { s.cls with toCth := Tab.set [] s.cls.toCth i (Tab.get [] s.cls.toCth i ++ [(x, p)]) } }
  else
    let s := s.badRules d bad
    let order := combiningOrder (s.matches d p x.record bad)
    if order.isEmpty then s.classifyMissed i x (s.firstClass x.frame)
    else s.classifyMatched i p x order (s.firstClass x.frame) smp.2 meterErr

/-- CLASSIFY_FRAME (R270): the oldest record of pipeline `i` enters step 5. `bad` lists rule slots and `meterErr` says whether the meter is read
with a parity error. In Test a frame is isolated from forwarding (R45, R204). -/
def execClassifyFrame (i : Nat) (bad : List Nat) (meterErr : Bool) (s : State) : Host.Outcome State Fault Refusal :=
  .next (match Tab.get [] s.prs.toCls i with
    | [] => s
    | x :: rest =>
      let s := { s with prs := { s.prs with toCls := Tab.set [] s.prs.toCls i rest } }
      if bit 0x30 s.mode then (s.unitEvent (224 + i) 16 1).classify i x bad meterErr else s)

end Sys2Proof.Machine
end

