-- ==== Sys2Proof/Machine/ClerkOps.lean ====
section
/-! DEFINITION. What the Clerks do to the ledger store: replicated writes, moves, inserts, evictions, deletes and scrubs (R298, R299, R305 to
R310, R314, R324). -/
namespace Sys2Proof.Machine

def State.clerkState (s : State) (w : Nat) : Nat := s.fld F.CLRK_STATUS_STATE w

/-- The replicas of the ledger store. -/
def replicas : List Nat := [0, 1, 2, 3, 4, 5, 6, 7]

/-- A parked Clerk whose cursor names a bucket that is written becomes STALE (R322). -/
def State.touch (s : State) (b : Nat) : State :=
  let w := wardOf b
  let c := (s.clerk w).last
  if s.clerkState w = 2 && (c.regs.getD 1 0 == b || c.regs.getD 2 0 == b || c.path.any fun p => p % 2 ^ 18 == b) then s.setF F.CLRK_STATUS_STALE w 1
  else s

/-- The slots of an entry written at position `p` of bucket `b` in every replica (R298). The HIT of the head's place is left as it is (R299). -/
def State.writeEntry (s : State) (b p : Nat) (slots : List Nat) : State :=
  let s := s.touch b
  s.each replicas fun r s => s.each slots.zipIdx fun e s =>
    let n := 4 * b + p + e.2
    s.putSlot r n (if e.2 = 0 then putBits e.1 9 1 (bits (s.slot r n) 9 1) else e.1)

/-- The entry at position `p` of bucket `b` erased in every replica. -/
def State.eraseEntry (s : State) (b p : Nat) : State :=
  let s := s.touch b
  s.each replicas fun r s =>
    s.each (List.range (spanSlots (slotSpan (s.slot r (4 * b + p))))) fun k s => s.putSlot r (4 * b + p + k) 0

/-- The head at position `p` of bucket `b` changed in every replica, its parity made good. -/
def State.editHead (s : State) (b p : Nat) (f : Nat → Nat) : State :=
  let s := s.touch b
  s.each replicas fun r s => s.putSlot r (4 * b + p) (withParity (f (s.slot r (4 * b + p))))

/-- LDG_LEDGER_COUNT of a ledger advanced or lowered. -/
def State.addCount (s : State) (g : Nat) : State := s.inc F.LDG_LEDGER_COUNT_VALUE g
def State.subCount (s : State) (g : Nat) : State := s.dec F.LDG_LEDGER_COUNT_VALUE g

/-! ### Clerk reads (R300, R314) -/

/-- A Clerk reads a bucket: from its reference replica, or from the next replica whose copy has good parity; bad slots are reported. -/
def State.clerkRead (s : State) (w b : Nat) : State × List Nat :=
  let order := (List.range 8).map fun k => (w % 4 + k) % 8
  let good := fun (r : Nat) => (s.bucket r b).all slotOk
  let r := (order.find? good).getD (w % 4)
  let bad := order.takeWhile fun k => !good k
  (s.each bad fun k s => s.readBucket k b, s.bucket r b)

/-- The other candidate bucket of the entry at position `p` of an image of bucket `b` (R307). -/
def State.otherBucket (s : State) (img : List Nat) (b p : Nat) : Nat :=
  let g := slotLedger (img.getD p 0)
  let c := s.candidates g (entryKey (imageEntry img p))
  if c.1 = b then c.2 else c.1

/-- 1 where a bucket is the A1 bucket of a key, 0 where it is its A0 bucket. -/
def State.choiceOf (s : State) (g : Nat) (key : List Byte) (b : Nat) : Nat := if (s.candidates g key).1 = b then 0 else 1

/-! ### Moves (R324) -/

/-- DUP: the entry at (b, p) copied to (c, q), each replica from its own copy, CHOICE set from the bucket. -/
def State.dupEntry (s : State) (b p c q : Nat) : State :=
  let s := (s.touch b).touch c
  s.each replicas fun r s =>
    let e := imageEntry (s.bucket r b) p
    let h := e.headD 0
    let ch := s.choiceOf (slotLedger h) (entryKey e) c
    s.each e.zipIdx fun x s =>
      let n := 4 * c + q + x.2
      let v := if x.2 = 0 then withParity (putBits (putBits x.1 14 1 ch) 9 1 (bits (s.slot r n) 9 1)) else x.1
      s.putSlot r n v

/-- ERS: the entry at (b, p) erased, its HIT merged into its copy at (c, q) in each replica. -/
def State.eraseMoved (s : State) (b p c q : Nat) : State :=
  let s := s.each replicas fun r s => if slotHit (s.slot r (4 * b + p)) then s.putSlot r (4 * c + q) (putBits (s.slot r (4 * c + q)) 9 1 1) else s
  s.eraseEntry b p

/-! ### Inserts (R307) -/

/-- A victim of a relocation: an entry of the SPAN in an image, of any ledger, not STATIC, its place not on the path; chosen at random, so by a
free value. -/
def victims (img : List Nat) (span b : Nat) (path : List (Nat × Nat)) : List Nat :=
  idxs 4 fun p => wholeAt img p && slotSpan (img.getD p 0) == span && !slotStatic (img.getD p 0) && !path.contains (b, p)

/-- One of a list chosen at random. -/
def State.pickRandom {α : Type} (s : State) (l : List α) : Option (State × α) :=
  (l[s.freeVal % l.length]?).map fun x => (s.tookFree, x)

/-- The search for a relocation path from bucket `b`, at most `fuel` more victims: the path with its free end, first victim first. -/
def State.findPath (s : State) (w span : Nat) : Nat → Nat → List (Nat × Nat) → State × Option (List (Nat × Nat))
  | 0, _, _ => (s, none)
  | fuel + 1, b, path =>
    let r := s.clerkRead w b
    match r.1.pickRandom (victims r.2 span b path) with
    | none => (r.1, none)
    | some (t, p) =>
      let o := t.otherBucket r.2 b p
      let u := t.clerkRead w o
      match freeIn u.2 span with
      | some q => (u.1, some (path ++ [(b, p), (o, q)]))
      | none => State.findPath u.1 w span fuel o (path ++ [(b, p)])

/-- The moves of a path, last first: each entry goes to the place after it. -/
def State.movePath (s : State) : List (Nat × Nat) → State
  | [] => s
  | [_] => s
  | a :: b :: t =>
    let s := State.movePath s (b :: t)
    (s.dupEntry a.1 a.2 b.1 b.2).eraseMoved a.1 a.2 b.1 b.2

/-- What an insert came to. -/
inductive Placed where
  /-- Placed at a bucket and position after a number of moves. -/
  | placed (b p moves : Nat)
  /-- Placed over an evicted entry. -/
  | evicted (b p : Nat)
  | noRoom
  deriving DecidableEq, Repr

/-- The eviction candidates of a key in an image: entries of its ledger and SPAN that are not STATIC. -/
def evictable (img : List Nat) (g span : Nat) : List Nat :=
  idxs 4 fun p => wholeAt img p && slotLedger (img.getD p 0) == g && slotSpan (img.getD p 0) == span && !slotStatic (img.getD p 0)

/-- The candidate that EVICT chooses among (bucket, position, AGE), A0's first (R307). The undefined EVICT 3 acts as 0 (R625). -/
def State.pickEvict (s : State) (g : Nat) (l : List (Nat × Nat × Nat)) : Option (State × Nat × Nat) :=
  let e := s.fld F.LDG_LEDGER_CFG_EVICT g
  if e = 2 then none
  else if e = 1 then
    (l.foldl (fun (a : Option (Nat × Nat × Nat)) x => match a with
      | some y => if y.2.2 < x.2.2 then some x else a
      | none => some x) none).map fun x => (s, x.1, x.2.1)
  else (s.pickRandom l).map fun r => (r.1, r.2.1, r.2.2.1)

/-- An eviction is recorded and raised (R307). -/
def State.reportEvict (s : State) (g b p : Nat) : State :=
  let s := ((s.setF F.LDG_STATUS_EVICT 0 1).inc F.LDG_STATUS_EVICT_COUNT 0).wr R.LDG_EVICT_LAST 0 (4 * b + p + 2 ^ 24 * g)
  (s.ledgerStat g 6).note E.LDG_EVICT

/-- Step 4 of R307: an eviction, or NO_ROOM. -/
def State.insertEvict (s : State) (g b0 b1 : Nat) (slots : Nat → List Nat) : State × Placed :=
  let w := wardOf b0
  let r0 := s.clerkRead w b0
  let r1 := r0.1.clerkRead w b1
  let span := s.ledgerSpan g
  let cand := ((evictable r0.2 g span).map fun p => (b0, p, slotAge (r0.2.getD p 0)))
    ++ ((evictable r1.2 g span).map fun p => (b1, p, slotAge (r1.2.getD p 0)))
  match r1.1.pickEvict g cand with
  | some (t, b, p) => (((t.reportEvict g b p).writeEntry b p (slots b)).ledgerStat g 2, .evicted b p)
  | none => ((r1.1.ledgerStat g 7).note E.LDG_NO_ROOM, .noRoom)

/-- An insert of a key that is not present (R307, steps 2 to 4), with its count and statistics. -/
def State.insertNew (s : State) (g : Nat) (key : List Byte) (result : Nat) (static : Bool) : State × Placed :=
  let key := padKey (s.keyBytes g) key
  let c := s.candidates g key
  let span := s.ledgerSpan g
  let slots := fun (b : Nat) => makeEntry span g static 0 (if b = c.1 then 0 else 1) result key
  if s.maxEntries g ≤ s.fld F.LDG_LEDGER_COUNT_VALUE g then s.insertEvict g c.1 c.2 slots
  else
    let w := wardOf c.1
    let r0 := s.clerkRead w c.1
    let r1 := r0.1.clerkRead w c.2
    let done := fun (t : State) (b p : Nat) => ((t.writeEntry b p (slots b)).addCount g).ledgerStat g 2
    match freeIn r0.2 span, freeIn r1.2 span with
    | some p, _ => (done r1.1 c.1 p, .placed c.1 p 0)
    | none, some p => (done r1.1 c.2 p, .placed c.2 p 0)
    | none, none =>
      match r1.1.findPath w span 32 c.1 [] with
      | (t, some path) =>
        let a := path.headD (0, 0)
        (done (t.movePath path) a.1 a.2, .placed a.1 a.2 (path.length - 1))
      | (t, none) => t.insertEvict g c.1 c.2 slots

/-! ### Updates and deletes -/

/-- RESULT and STATIC of an entry rewritten and its AGE set to 0 (R305, R328). -/
def State.updateEntry (s : State) (b p result : Nat) (static : Bool) : State :=
  s.editHead b p fun v => putBits (putBits (putBits v 32 32 result) 8 1 (b2n static)) 10 4 0

/-- Every copy of a key in both candidate buckets erased (R323). -/
def State.deleteKey (s : State) (g : Nat) (copies : List Nat) : State :=
  ((s.each copies fun n s => s.eraseEntry (n / 4) (n % 4)).subCount g).ledgerStat g 4

/-! ### Scrubbing (R314) -/

/-- The head positions of an image whose entry covers position `p`. -/
def coveredBy (img : List Nat) (p : Nat) : Option Nat :=
  lowest 4 fun h => bit (img.getD h 0) 0 && bit (img.getD h 0) 1 && decide (h ≤ p) && decide (p < h + spanSlots (slotSpan (img.getD h 0)))

/-- A slot with bad parity is copied from the next replica with a good copy; with none, its entry is erased everywhere. -/
def State.scrubSlot (s : State) (r n : Nat) : State :=
  if slotOk (s.slot r n) then s
  else match ((List.range 7).map fun k => (r + 1 + k) % 8).find? fun k => slotOk (s.slot k n) with
  | some k => s.putSlot r n (putBits (s.slot k n) 9 1 (bits (s.slot r n) 9 1))
  | none =>
    let b := n / 4
    let h := (coveredBy (s.bucket r b) (n % 4)).getD (n % 4)
    let g := slotLedger (s.slot r (4 * b + h))
    let s := (s.eraseEntry b h).each replicas fun k s => s.putSlot k n 0
    let s := (s.subCount g).setF F.LDG_STATUS_ENTRY_LOST 0 1
    ((s.inc F.LDG_STATUS_LOST_COUNT 0).ldgStat 6).note E.LDG_ENTRY_LOST

/-! ### The entries of a ledger -/

/-- The slots of a replica that hold heads of entries of a ledger, rising. -/
def State.headsOf (s : State) (r g : Nat) : List Nat :=
  (s.arrays.filterMap fun e =>
    if slotAt r 0 ≤ e.1 ∧ e.1 < slotAt (r + 1) 0 ∧ e.1 % 16 = 0 ∧ e.2.toNat % 4 = 3 then some ((e.1 - slotAt r 0) / 16) else none).filter
    fun n => slotLedger (s.slot r n) == g && wholeAt (s.bucket r (n / 4)) (n % 4)

/-- The digest of an entry (R315). -/
def digestOf (key : List Byte) (result : Nat) : Nat := crc32 ((key ++ List.replicate 44 0#8).take 44 ++ w32 result)

end Sys2Proof.Machine
end

