-- ==== Sys2Proof/Machine/LedgerCmds.lean ====
section
/-! DEFINITION. The ledger commands (R326 to R330) and the audit (R315, R316). -/
namespace Sys2Proof.Machine

/-! ### Commands that need a Clerk (R310, R321) -/

/-- A command of a mailbox that needs the Clerks of the wards in a list: it waits while one of them runs a routine, and answers TIMEOUT where one is
halted and so does not respond (R101). On MBX_7 it makes an urgent request of a running Clerk (R321). The urgent request of a mailbox ends with
the command. -/
def State.runClerkCmd (s : State) (m : Nat) (c : Cmd) (checks : Req → Checks) (wards : Req → List Nat) (act : Req → Ans) : State :=
  match s.takes m c with
  | none => s
  | some r0 =>
    let r := filled c (checks r0).dflt r0
    let ws := if (s.firstCheck c (checks r) r0 false).isSome then [] else wards r
    if ws.any fun w => s.clerkState w == 1 then
      (if m = 7 then s.each ws fun w s => if s.clerkState w = 1 then s.putClerk w { s.clerk w with urgent := max 1 (s.clerk w).urgent } else s else s)
    else
      let s' := s.runCmd m c checks (fun r => if ws.any fun w => s.clerkState w == 3 then .fail s 0x0402 (0x29 * 2 ^ 24) else act r)
      s'.each ws fun w s => if (s.clerk w).urgent = 1 then s.putClerk w { s.clerk w with urgent := 0 } else s

/-! ### LEDGER_CONFIG -/

/-- SELECT's default, bytes 0 to 18 (R303). -/
def selectDefault : Nat := leNat ((List.range 19).map fun j => BitVec.ofNat 8 j)

/-- The defaults of LEDGER_CONFIG (R106). -/
def ledgerDefaults (r : Req) : List (Arg × Nat) :=
  [(A.LEDGER_CONFIG_EVICT, 0), (A.LEDGER_CONFIG_AGE_LIMIT, 3), (A.LEDGER_CONFIG_PRIVILEGED, 0),
   (A.LEDGER_CONFIG_MAX_ENTRIES, if r.arg A.LEDGER_CONFIG_TYPE = 1 then 1024 else 1048576), (A.LEDGER_CONFIG_SEED0, 0xFFFFFFFF),
   (A.LEDGER_CONFIG_SEED1, 0x0F0FF0F0), (A.LEDGER_CONFIG_LEARN_RESULT, 0), (A.LEDGER_CONFIG_SELECT, selectDefault)]

/-- An ordinary ledger, TYPE 0, holds an entry (R326). -/
def State.ordinaryHeld (s : State) : Bool := (List.range 16).any fun g => s.ledgerType g == 0 && decide (0 < s.fld F.LDG_LEDGER_COUNT_VALUE g)

/-- The field that R326, reason 3, freezes and that a request changes. -/
def State.ledgerFrozen (s : State) (g : Nat) (r : Req) : Option Arg :=
  if r.arg A.LEDGER_CONFIG_TYPE ≠ s.ledgerType g then some A.LEDGER_CONFIG_TYPE
  else if r.arg A.LEDGER_CONFIG_SPAN ≠ s.fld F.LDG_LEDGER_CFG_SPAN g then some A.LEDGER_CONFIG_SPAN
  else if r.arg A.LEDGER_CONFIG_KEY_BYTES ≠ s.fld F.LDG_LEDGER_CFG_KEY_BYTES g then some A.LEDGER_CONFIG_KEY_BYTES
  else if s.ledgerType g = 1 ∧ r.arg A.LEDGER_CONFIG_MAX_ENTRIES ≠ s.fld F.LDG_LEDGER_MAX_VALUE g then some A.LEDGER_CONFIG_MAX_ENTRIES
  else if r.arg A.LEDGER_CONFIG_SEED0 ≠ s.rd R.LDG_LEDGER_SEED0 g then some A.LEDGER_CONFIG_SEED0
  else if r.arg A.LEDGER_CONFIG_SEED1 ≠ s.rd R.LDG_LEDGER_SEED1 g then some A.LEDGER_CONFIG_SEED1
  else none

/-- A source lookup names a ledger. -/
def State.sourceNames (s : State) (g : Nat) : Bool :=
  (List.range 64).any fun i => s.flag F.LDG_LOOKUP_CFG_ENABLE i && s.fld F.LDG_LOOKUP_CFG_ROLE i == 1 && s.fld F.LDG_LOOKUP_CFG_LEDGER i == g

/-- The privileged ledgers. -/
def State.privileged (s : State) : List Nat := idxs 16 fun g => s.flag F.LDG_LEDGER_CFG_PRIVILEGED g

/-- The parameter checks of LEDGER_CONFIG (R326). -/
def State.ledgerArgs (s : State) (r : Req) : Option (Nat × Nat) :=
  let g := r.index
  let ty := r.arg A.LEDGER_CONFIG_TYPE
  let span := r.arg A.LEDGER_CONFIG_SPAN
  let mx := r.arg A.LEDGER_CONFIG_MAX_ENTRIES
  let other := fun (t : Nat) => (List.range 16).any fun h => h != g && s.ledgerType h == t
  firstFail [r.range A.LEDGER_CONFIG_TYPE 0 2,
    failIf (span == 3 || (ty == 1 && span != 2) || (ty == 2 && span != 1)) (badArg A.LEDGER_CONFIG_SPAN 1),
    r.range A.LEDGER_CONFIG_KEY_BYTES 1 (spanKey span), r.range A.LEDGER_CONFIG_EVICT 0 2, r.range A.LEDGER_CONFIG_AGE_LIMIT 1 15,
    (if ty = 1 then failIf (decide (mx < 8) || decide (16384 < mx) || mx % 8 != 0) (badArg A.LEDGER_CONFIG_MAX_ENTRIES 1)
     else r.range A.LEDGER_CONFIG_MAX_ENTRIES 1 1048576),
    failIf (ty == 2) ((lowest 19 fun j => 63 < byteAt r.params (20 + j)).bind fun j => some (0x0103, ((20 + j) / 4 * 4) * 65536 + 1)),
    failIf (ty != 0 && other ty) (badArg A.LEDGER_CONFIG_TYPE 2),
    failIf s.ordinaryHeld (match s.ledgerFrozen g r with
      | some a => badArg a 3
      | none => none),
    failIf (r.on A.LEDGER_CONFIG_PRIVILEGED && (r.on A.LEDGER_CONFIG_AGE_EN || s.sourceNames g || decide (4 ≤ (s.privileged.filter fun h => h != g).length)))
      (badArg A.LEDGER_CONFIG_PRIVILEGED 4)]

/-- The audit slot of a privileged ledger: the lowest free one when it becomes privileged (R315; which slot is the model's choice, log
entry 27); a slot whose ledger is no longer privileged is free and idle. -/
def State.settleAudit (s : State) (g : Nat) : State :=
  let held := lowest 4 fun k => Tab.get none s.ldg.audit k == some g
  if s.flag F.LDG_LEDGER_CFG_PRIVILEGED g then
    match held with
    | some _ => s
    | none => match lowest 4 fun k => (Tab.get none s.ldg.audit k).isNone with
      | none => s
      | some k =>
        let s := { s with ldg := { s.ldg with audit := Tab.set none s.ldg.audit k (some g) } }
        (s.setF F.LDG_AUDIT_CFG_LEDGER k g).setF F.LDG_AUDIT_STATUS_LEDGER k g
  else match held with
    | none => s
    | some k =>
      let s := { s with ldg := { s.ldg with audit := Tab.set none s.ldg.audit k none } }
      ((s.setF F.LDG_AUDIT_CFG_ENABLE k 0).setF F.LDG_AUDIT_CFG_LEDGER k 0).setF F.LDG_AUDIT_STATUS_LEDGER k 0

/-- What LEDGER_CONFIG adds to the checks of R94. -/
def State.ledgerConfigChecks (s : State) (r0 : Req) : Checks :=
      let r := filled C.LEDGER_CONFIG (ledgerDefaults r0) r0
      { Checks.plain C.LEDGER_CONFIG with
        target := targetError 0x28 7 16 false r, dflt := ledgerDefaults r0, args := s.ledgerArgs r, units := [6] }

/-- What LEDGER_CONFIG does once its checks have passed. -/
def State.ledgerConfigAct (s : State) (r : Req) : Ans :=
      let g := r.index
      let t := ((s.setF F.LDG_LEDGER_CFG_ENABLE g (r.arg A.LEDGER_CONFIG_ENABLE)).setF F.LDG_LEDGER_CFG_TYPE g (r.arg A.LEDGER_CONFIG_TYPE)).setF
        F.LDG_LEDGER_CFG_SPAN g (r.arg A.LEDGER_CONFIG_SPAN)
      let t := ((t.setF F.LDG_LEDGER_CFG_KEY_BYTES g (r.arg A.LEDGER_CONFIG_KEY_BYTES)).setF F.LDG_LEDGER_CFG_EVICT g
        (r.arg A.LEDGER_CONFIG_EVICT)).setF F.LDG_LEDGER_CFG_AGE_EN g (r.arg A.LEDGER_CONFIG_AGE_EN)
      let t := ((t.setF F.LDG_LEDGER_CFG_AGE_LIMIT g (r.arg A.LEDGER_CONFIG_AGE_LIMIT)).setF F.LDG_LEDGER_CFG_PRIVILEGED g
        (r.arg A.LEDGER_CONFIG_PRIVILEGED)).setF F.LDG_LEDGER_MAX_VALUE g (r.arg A.LEDGER_CONFIG_MAX_ENTRIES)
      let t := ((t.wr R.LDG_LEDGER_SEED0 g (r.arg A.LEDGER_CONFIG_SEED0)).wr R.LDG_LEDGER_SEED1 g (r.arg A.LEDGER_CONFIG_SEED1)).wr
        R.LDG_LEDGER_LEARN g (r.arg A.LEDGER_CONFIG_LEARN_RESULT)
      let sel := r.arg A.LEDGER_CONFIG_SELECT
      let t := if r.arg A.LEDGER_CONFIG_TYPE = 2 then
          (t.each (List.range 4) fun w t => t.wr R.LDG_LEDGER_SELECT (w + 4 * g) (bits sel (32 * w) 32)).wr R.LDG_LEDGER_SELECT4 g (bits sel 128 24)
        else t
      let t := t.settleAudit g
      .ok t (w32 (t.rd R.LDG_LEDGER_CFG g) ++ w32 (t.rd R.LDG_LEDGER_COUNT g))

/-- LEDGER_CONFIG (0x0701, R326). -/
def execLedgerConfig (m : Nat) (s : State) : Host.Outcome State Fault Refusal :=
  .next (s.runCmd m C.LEDGER_CONFIG s.ledgerConfigChecks s.ledgerConfigAct)

/-- What LEDGER_GLOBAL adds to the checks of R94. -/
def State.ledgerGlobalChecks (_ : State) (r : Req) : Checks :=
  { Checks.plain C.LEDGER_GLOBAL with
      target := targetWhole 0x28 r, dflt := [(A.LEDGER_GLOBAL_ECMP_SEED, 0xFFFFFFFF)], args := r.range A.LEDGER_GLOBAL_AGE_PERIOD_MS 10 65535, units := [6] }

/-- What LEDGER_GLOBAL does once its checks have passed. -/
def State.ledgerGlobalAct (s : State) (r : Req) : Ans :=
      let t := ((s.setF F.LDG_GLOBAL_AGE_PERIOD_MS 0 (r.arg A.LEDGER_GLOBAL_AGE_PERIOD_MS)).setF F.LDG_GLOBAL_LEARN_EN 0
        (r.arg A.LEDGER_GLOBAL_LEARN_EN)).wr R.LDG_ECMP_SEED 0 (r.arg A.LEDGER_GLOBAL_ECMP_SEED)
      .ok t (w32 (t.rd R.LDG_GLOBAL 0))

/-- LEDGER_GLOBAL (0x0702). -/
def execLedgerGlobal (m : Nat) (s : State) : Host.Outcome State Fault Refusal :=
  .next (s.runCmd m C.LEDGER_GLOBAL s.ledgerGlobalChecks s.ledgerGlobalAct)

/-! ### Lookup profiles -/

/-- The worst case of a profile in bucket reads (R301). -/
def Req.profileReads (r : Req) : Nat :=
  let on := idxs 4 fun k => r.on (A.LOOKUP_PROFILE_ENABLE k)
  2 * on.length + b2n (r.on A.LOOKUP_PROFILE_GROUP_EN && on.any fun k => r.arg (A.LOOKUP_PROFILE_ROLE k) == 0)

/-- A select code names a key byte. -/
def selectOk (c : Nat) : Bool := decide (c ≤ 82) || c == 255

/-- The checks of one enabled lookup of a profile (R327). -/
def State.lookupArgs (s : State) (r : Req) (k : Nat) : Option (Nat × Nat) :=
  let g := r.arg (A.LOOKUP_PROFILE_LEDGER k)
  failIf (r.on (A.LOOKUP_PROFILE_ENABLE k)) (firstFail [r.range (A.LOOKUP_PROFILE_ROLE k) 0 2,
    (lowest (s.keyBytes g) fun j => !selectOk (byteAt r.params (12 + 48 * k + j))).bind fun j => some (0x0103, ((12 + 48 * k + j) / 4 * 4) * 65536 + 1)])

/-- A lookup names a ledger it may not (R327, reason 3). -/
def State.lookupLedger (s : State) (r : Req) (k : Nat) : Option (Nat × Nat) :=
  let g := r.arg (A.LOOKUP_PROFILE_LEDGER k)
  failIf (r.on (A.LOOKUP_PROFILE_ENABLE k) && (!s.ledgerOn g || s.ledgerType g != 0
      || (s.flag F.LDG_LEDGER_CFG_PRIVILEGED g && r.arg (A.LOOKUP_PROFILE_ROLE k) == 1))) (badArg (A.LOOKUP_PROFILE_LEDGER k) 3)

/-- The defaults of LOOKUP_PROFILE (R106). -/
def profileDefaults : List (Arg × Nat) := [(A.LOOKUP_PROFILE_GROUP_EN, 1), (A.LOOKUP_PROFILE_MISS_RESULT, 0)]

/-- What LOOKUP_PROFILE adds to the checks of R94. -/
def State.lookupProfileChecks (s : State) (r0 : Req) : Checks :=
      let r := filled C.LOOKUP_PROFILE profileDefaults r0
      { Checks.plain C.LOOKUP_PROFILE with
        target := targetError 0x28 15 16 false r, dflt := profileDefaults
        args := firstFail ([r.range A.LOOKUP_PROFILE_MISS_ACTION 0 2,
            failIf (r.arg A.LOOKUP_PROFILE_MISS_ACTION == 0) (r.range A.LOOKUP_PROFILE_MISS_REASON 8 63)]
          ++ (List.range 4).map (s.lookupArgs r) ++ [failIf (decide (8 < r.profileReads)) (badArg (A.LOOKUP_PROFILE_ENABLE 0) 2)]
          ++ (List.range 4).map (s.lookupLedger r))
        units := [6] }

/-- The profile of LOOKUP_PROFILE, its lookups apart. -/
def State.setProfile (s : State) (p slots : Nat) (r : Req) : State :=
  let t := ((s.setF F.LDG_PROFILE_CFG_MISS_ACTION p (r.arg A.LOOKUP_PROFILE_MISS_ACTION)).setF F.LDG_PROFILE_CFG_GROUP_EN p
    (r.arg A.LOOKUP_PROFILE_GROUP_EN)).setF F.LDG_PROFILE_CFG_MISS_REASON p (r.arg A.LOOKUP_PROFILE_MISS_REASON)
  ((t.setF F.LDG_PROFILE_CFG_SLOTS p slots).setF F.LDG_PROFILE_CFG_READS p r.profileReads).wr R.LDG_PROFILE_MISS p (r.arg A.LOOKUP_PROFILE_MISS_RESULT)

/-- Lookup `k` of profile `p`, as LOOKUP_PROFILE gives it. -/
def State.setProfileLookup (s : State) (p k : Nat) (r : Req) : State :=
  let i := k + 4 * p
  let s := ((s.setF F.LDG_LOOKUP_CFG_ENABLE i (r.arg (A.LOOKUP_PROFILE_ENABLE k))).setF F.LDG_LOOKUP_CFG_ROLE i
    (r.arg (A.LOOKUP_PROFILE_ROLE k))).setF F.LDG_LOOKUP_CFG_LEDGER i (r.arg (A.LOOKUP_PROFILE_LEDGER k))
  s.each (List.range 11) fun w s => s.wr R.LDG_LOOKUP_SELECT (w + 11 * i) (leAt r.params (12 + 48 * k + 4 * w) 4)

/-- What LOOKUP_PROFILE does once its checks have passed. -/
def State.lookupProfileAct (s : State) (r : Req) : Ans :=
      let n := r.profileReads
      let slots := if n ≤ 4 then 1 else 2
      let t := (s.setProfile r.index slots r).each (List.range 4) fun k t => t.setProfileLookup r.index k r
      .ok t (w32 (slots + 256 * n))

/-- LOOKUP_PROFILE (0x0703, R301, R327). -/
def execLookupProfile (m : Nat) (s : State) : Host.Outcome State Fault Refusal :=
  .next (s.runCmd m C.LOOKUP_PROFILE s.lookupProfileChecks s.lookupProfileAct)

/-- What LDG_PORT_CONFIG adds to the checks of R94. -/
def State.ldgPortConfigChecks (s : State) (r : Req) : Checks :=
  { Checks.plain C.LDG_PORT_CONFIG with
      target := s.targetPort 0x28 r, dflt := [(A.LDG_PORT_CONFIG_FLAT_PROFILE, r.arg A.LDG_PORT_CONFIG_PROFILE)], units := [6] }

/-- What LDG_PORT_CONFIG does once its checks have passed. -/
def State.ldgPortConfigAct (s : State) (r : Req) : Ans :=
      let t := (s.setF F.LDG_PORT_CFG_PROFILE r.index (r.arg A.LDG_PORT_CONFIG_PROFILE)).setF F.LDG_PORT_CFG_FLAT_PROFILE r.index
        (r.arg A.LDG_PORT_CONFIG_FLAT_PROFILE)
      .ok t (w32 (t.rd R.LDG_PORT_CFG r.index))

/-- LDG_PORT_CONFIG (0x0704). -/
def execLdgPortConfig (m : Nat) (s : State) : Host.Outcome State Fault Refusal :=
  .next (s.runCmd m C.LDG_PORT_CONFIG s.ldgPortConfigChecks s.ldgPortConfigAct)

/-! ### Entries (R328) -/

/-- The answer to an entry operation: status, OUTCOME, MOVES and SLOT. -/
structure Entered where
  status : Nat
  outcome : Nat
  moves : Nat
  slot : Nat
  deriving DecidableEq, Repr

/-- What an insert of a new key came to, as an entry command reports it. -/
def enteredBy (r : State × Placed) : State × Entered :=
  (r.1, match r.2 with
    | .placed b p k => ⟨0, 0, k, 4 * b + p⟩
    | .evicted b p => ⟨0, 3, 0, 4 * b + p⟩
    | .noRoom => ⟨0x0301, 0, 0, 0⟩)

/-- What an entry command does to a key whose copies stand in these slots. -/
def State.entryOn (s : State) (g op : Nat) (static : Bool) (result : Nat) (key : List Byte) : List Nat → State × Entered
  | [] => if op = 3 then (s, ⟨0x0302, 0, 0, 0⟩) else enteredBy (s.insertNew g key result static)
  | n :: t =>
    if op = 3 then (s.deleteKey g (n :: t), ⟨0, 5, 0, n⟩)
    else if op = 2 then ((s.each (n :: t) fun k s => s.updateEntry (k / 4) (k % 4) result static).ledgerStat g 3, ⟨0, 1, 0, n⟩)
    else (s, ⟨0, 2, 0, n⟩)

/-- An add (1), add or replace (2) or delete (3) of an entry (R307, R323, R328). -/
def State.enterEntry (s : State) (g op : Nat) (static : Bool) (result : Nat) (key : List Byte) : State × Entered :=
  let key := padKey (s.keyBytes g) key
  let w := wardOf (s.candidates g key).1
  let c := s.candidates g key
  let s := (s.clerkRead w c.1).1
  let s := (s.clerkRead w c.2).1
  s.entryOn g op static result key (s.copiesOf (w % 4) g key)

/-- The ward of a key of a ledger. -/
def State.keyWard (s : State) (g : Nat) (key : List Byte) : Nat := wardOf (s.candidates g (padKey (s.keyBytes g) key)).1

/-- What ENTRY_WRITE adds to the checks of R94. -/
def State.entryWriteChecks (s : State) (r : Req) : Checks :=
  { Checks.plain C.ENTRY_WRITE with
      target := targetError 0x28 7 16 false r
      args := firstFail [r.range A.ENTRY_WRITE_OP 1 3, failIf (s.ledgerType r.index == 1) (some (0x0103, 1))], units := [6, 7] }

/-- The wards whose Clerks ENTRY_WRITE needs. -/
def State.entryWriteWards (s : State) (r : Req) : List Nat :=
  [s.keyWard r.index (r.bytes A.ENTRY_WRITE_KEY)]

/-- What ENTRY_WRITE does once its checks have passed. -/
def State.entryWriteAct (s : State) (r : Req) : Ans :=
      let x := s.enterEntry r.index (r.arg A.ENTRY_WRITE_OP) (r.on A.ENTRY_WRITE_STATIC) (r.arg A.ENTRY_WRITE_RESULT) (r.bytes A.ENTRY_WRITE_KEY)
      if x.2.status = 0 then .ok x.1 (w32 (x.2.outcome + 256 * x.2.moves) ++ w32 x.2.slot) else .fail x.1 x.2.status 0

/-- ENTRY_WRITE (0x0705, R328). -/
def execEntryWrite (m : Nat) (s : State) : Host.Outcome State Fault Refusal :=
  .next (s.runClerkCmd m C.ENTRY_WRITE s.entryWriteChecks s.entryWriteWards s.entryWriteAct)

/-- The entry that stands at slot `n` of a replica, HIT and parity left out. -/
def State.entryAt (s : State) (r n : Nat) : List Nat :=
  (imageEntry (s.bucket r (n / 4)) (n % 4)).map fun v => putBits (noHit v) 31 1 0

/-- What ENTRY_FIND adds to the checks of R94. -/
def State.entryFindChecks (_ : State) (r : Req) : Checks :=
  { Checks.plain C.ENTRY_FIND with target := targetError 0x28 7 16 false r }

/-- What ENTRY_FIND does once its checks have passed. -/
def State.entryFindAct (s : State) (r : Req) : Ans :=
      let g := r.index
      let key := padKey (s.keyBytes g) (r.bytes A.ENTRY_FIND_KEY)
      let ref := s.keyWard g key % 4
      match s.copiesOf ref g key with
      | [] => .fail s 0x0302 0
      | n :: t =>
        let agree := replicas.all fun k => s.copiesOf k g key == n :: t && (n :: t).all fun j => s.entryAt k j == s.entryAt ref j
        let hits := maskOf 8 fun k => (s.copiesOf k g key).any fun j => slotHit (s.slot k j)
        let h := s.slot ref n
        .ok s (w32 ((n :: t).length + 256 * b2n agree + 65536 * hits) ++ w32 n ++ w32 (slotResult h) ++ w32 (h % 2 ^ 32)
          ++ w32 (s.rd R.LDG_LEDGER_COUNT g))

/-- ENTRY_FIND (0x0706). -/
def execEntryFind (m : Nat) (s : State) : Host.Outcome State Fault Refusal :=
  .next (s.runCmd m C.ENTRY_FIND s.entryFindChecks s.entryFindAct)

/-- What ENTRY_BATCH has come to. -/
structure BatchRun where
  applied : Nat := 0
  failed : Nat := 0
  first : Option Nat := none
  deriving DecidableEq, Repr

/-- The record at 64 bytes of host memory applied (R328). -/
def State.batchRecord (s : State) (l : List Byte) : State × Entered :=
  let w := leAt l 0 4
  let g := bits w 8 4
  if bits w 0 2 = 0 ∨ s.ledgerType g = 1 then (s, ⟨0x0103, 0, 0, 0⟩)
  else s.enterEntry g (bits w 0 2) (bit w 4) (leAt l 4 4) ((l.drop 16).take 44)

/-- Records from number `k` on; `none` in the third place where host memory did not respond. -/
def State.batchRecords (s : State) (addr : Nat) (cont : Bool) : Nat → Nat → BatchRun → State × BatchRun × Bool
  | 0, _, a => (s, a, true)
  | n + 1, k, a =>
    match s.hostRead (addr + 64 * k) 64 with
    | none => (s, a, false)
    | some l =>
      let r := s.batchRecord l
      let t := r.1.hostWrite (addr + 64 * k + 8) (w32 (r.2.outcome + 256 * r.2.moves + 65536 * r.2.status) ++ w32 r.2.slot)
      if r.2.status = 0 then State.batchRecords t addr cont n (k + 1) { a with applied := a.applied + 1 }
      else
        let a := { a with failed := a.failed + 1, first := some (a.first.getD k) }
        if cont then State.batchRecords t addr cont n (k + 1) a else (t, a, true)

/-- Some Clerk runs a routine; some Clerk is halted. -/
def State.clerksRun (s : State) : Bool := (List.range 8).any fun w => s.clerkState w == 1
def State.clerksHalted (s : State) : Bool := (List.range 8).any fun w => s.clerkState w == 3

/-- Whether a command runs from its completion record. -/
def isRecord (x : Exec) : Bool :=
  match x with
  | .record _ => true
  | .mailbox _ => false

/-- What ENTRY_BATCH adds to the checks of R94. -/
def entryBatchChecks (r : Req) : Checks :=
  { Checks.plain C.ENTRY_BATCH with
    target := targetWhole 0x28 r, dflt := [(A.ENTRY_BATCH_CONTINUE, 0)]
    args := firstFail [failIf (r.arg A.ENTRY_BATCH_HOST_ADDR_LO % 64 != 0) (badArg A.ENTRY_BATCH_HOST_ADDR_LO 1), r.range A.ENTRY_BATCH_COUNT 1 65536]
    units := [6, 7] }

/-- What a batch of records answers. -/
def batchAnswer (n : Nat) (r : State × BatchRun × Bool) : Ans :=
  if r.2.2 then .ok r.1 (w32 r.2.1.applied ++ w32 r.2.1.failed ++ w32 (r.2.1.first.getD n)) else .hostTimeout r.1

/-- What ENTRY_BATCH does from its record. -/
def entryBatchAct (r : Req) (_ : Nat) (s : State) : Ans :=
  let n := r.arg A.ENTRY_BATCH_COUNT
  if s.clerksHalted then .fail s 0x0402 (0x29 * 2 ^ 24)
  else batchAnswer n (s.batchRecords (r.arg64 A.ENTRY_BATCH_HOST_ADDR_LO A.ENTRY_BATCH_HOST_ADDR_HI) (r.on A.ENTRY_BATCH_CONTINUE) n 0 {})

/-- ENTRY_BATCH (0x0707, R328): its records are applied once no Clerk runs another routine. -/
def execEntryBatch (x : Exec) (s : State) : Host.Outcome State Fault Refusal :=
  .next (if s.clerksRun && isRecord x then s else s.runAsync x C.ENTRY_BATCH entryBatchChecks (fun _ s => (s, 0)) entryBatchAct)

/-! ### Groups (R311, R329) -/

/-- Member `i` of a GROUP_SET request. -/
def Req.member (r : Req) (i : Nat) : Nat := bits (r.arg (A.GROUP_SET_MEMBERS (i / 2))) (16 * (i % 2)) 10

/-- The field P that a GROUP_SET request gives group `n`. -/
def Req.groupP (r : Req) (n : Nat) : Nat :=
  n % 16384 + 2 ^ 14 * r.arg A.GROUP_SET_MODE + 2 ^ 16 * r.arg A.GROUP_SET_COUNT + 2 ^ 21 * r.arg A.GROUP_SET_EMPTY_ACTION
    + 2 ^ 22 * r.arg A.GROUP_SET_EMPTY_REASON + 2 ^ 32 * r.arg A.GROUP_SET_EDIT_BASE
    + (List.range 16).foldl (fun a m => a + r.member m * 2 ^ (48 + 10 * m)) 0

/-- The four slots of a group bucket. -/
def groupSlots (g p : Nat) : List Nat := (List.range 4).map fun k => withParity (1 + (if k = 0 then 2 else 0) + 8 + 16 * g + 2 ^ 32 * bits p (96 * k) 96)

/-- The parameter checks of GROUP_SET (R329). -/
def Req.groupArgs (r : Req) : Option (Nat × Nat) :=
  firstFail [r.range A.GROUP_SET_MODE 0 2, r.range A.GROUP_SET_COUNT 1 16,
    failIf (r.on A.GROUP_SET_EMPTY_ACTION) (r.range A.GROUP_SET_EMPTY_REASON 8 63)]

/-- What GROUP_SET adds to the checks of R94. -/
def State.groupSetChecks (_ : State) (r : Req) : Checks :=
  { Checks.plain C.GROUP_SET with target := targetError 0x28 15 0xFFFFF false r, args := r.groupArgs, units := [6, 7] }

/-- The wards whose Clerks GROUP_SET needs. -/
def State.groupSetWards (_ : State) (r : Req) : List Nat :=
  [r.index % 8]

/-- What GROUP_SET does once its checks have passed. -/
def State.groupSetAct (s : State) (r : Req) : Ans :=
      match s.groupLedger with
      | none => .fail s 0x0302 0
      | some g =>
        if s.maxEntries g ≤ r.index then .fail s 0x0302 0
        else
          let b := groupBucket r.index
          let fresh := !((s.bucket (r.index % 4) b).any fun v => bit v 0)
          let t := s.writeEntry b 0 (groupSlots g (r.groupP r.index))
          let t := if fresh then (t.addCount g).ledgerStat g 2 else t.ledgerStat g 3
          .ok t (w32 (maskOf (r.arg A.GROUP_SET_COUNT) fun i => t.live (r.member i)))

/-- GROUP_SET (0x0708, R329). -/
def execGroupSet (m : Nat) (s : State) : Host.Outcome State Fault Refusal :=
  .next (s.runClerkCmd m C.GROUP_SET s.groupSetChecks s.groupSetWards s.groupSetAct)

/-! ### LEDGER_FLUSH -/

/-- The ledgers that a LEDGER_FLUSH names. -/
def State.flushed (s : State) (r : Req) : List Nat := if r.all then idxs 16 fun g => s.ledgerType g == 0 else [r.index]

/-- An entry of a flush is to be erased. -/
def Req.flushes (r : Req) (head : Nat) : Bool :=
  (r.on A.LEDGER_FLUSH_STATIC_TOO || !slotStatic head)
    && (!r.on A.LEDGER_FLUSH_PORT_EN || (bits (slotResult head) 30 2 == 0 && slotResult head % 1024 == r.arg A.LEDGER_FLUSH_PORT))

/-- A cursor or routine of a Clerk is discarded; a learning insert is dropped and counted (R322). -/
def State.discardCursor (s : State) (w : Nat) : State :=
  let c := s.clerk w
  let s := if c.work.isSome then (s.ldgStat 0).note E.LDG_LEARN_DROP else s
  let s := s.putClerk w { c with work := none, words := [], posted := [], waiting := false, wrote := false, first := none, last := {}, urgent := 0, byHalt := false }
  (s.setF F.CLRK_STATUS_STATE w 0).setF F.CLRK_STATUS_STALE w 0

/-- The entries of a ledger that a flush erases, and how many. -/
def State.flushLedger (s : State) (r : Req) (a : Nat) (g : Nat) : State × Nat :=
  (s.headsOf 0 g).foldl (fun (x : State × Nat) n =>
    if r.flushes (x.1.slot 0 n) then (((x.1.eraseEntry (n / 4) (n % 4)).subCount g).ledgerStat g 4, x.2 + 1) else x) (s, a)

/-- The defaults of LEDGER_FLUSH (R106). -/
def flushDefaults : List (Arg × Nat) := [(A.LEDGER_FLUSH_STATIC_TOO, 0), (A.LEDGER_FLUSH_PORT_EN, 0), (A.LEDGER_FLUSH_PORT, 0)]

/-- What LEDGER_FLUSH adds to the checks of R94. -/
def ledgerFlushChecks (r : Req) : Checks :=
  { Checks.plain C.LEDGER_FLUSH with target := targetError 0x28 7 16 true r, dflt := flushDefaults, units := [6, 7] }

/-- An accepted LEDGER_FLUSH asks every Clerk to park. -/
def ledgerFlushStart (_ : Req) (s : State) : State × Nat :=
  (s.each (List.range 8) fun w s => s.putClerk w { s.clerk w with urgent := max 1 (s.clerk w).urgent }, 0)

/-- The Clerks may run again. -/
def State.freeClerks (s : State) : State :=
  s.each (List.range 8) fun w s => if (s.clerk w).urgent = 1 then s.putClerk w { s.clerk w with urgent := 0 } else s

/-- Whether a Clerk is parked in work on one of these ledgers. -/
def State.parkedIn (s : State) (gs : List Nat) (w : Nat) : Bool :=
  s.clerkState w == 2 && match (s.clerk w).work with
    | some l => gs.contains l.ledger
    | none => false

/-- The named ledgers are emptied: the state and the number of entries erased. -/
def State.flushLedgers (s : State) (r : Req) (gs : List Nat) : State × Nat :=
  gs.foldl (fun (y : State × Nat) g => y.1.flushLedger r y.2 g) (s, 0)

/-- What LEDGER_FLUSH does from its record. -/
def ledgerFlushAct (r : Req) (_ : Nat) (s : State) : Ans :=
  if s.clerksHalted then .fail s.freeClerks 0x0402 (0x29 * 2 ^ 24)
  else
    let gs := s.flushed r
    let y := s.flushLedgers r gs
    let t := y.1.each (List.range 8) fun w t => if t.parkedIn gs w then t.discardCursor w else t
    .ok t.freeClerks (w32 (satBits 21 y.2))

/-- LEDGER_FLUSH (0x0709, R321, R322): accepted, it is urgent for every Clerk; its sweep runs once every Clerk is idle or parked. -/
def execLedgerFlush (x : Exec) (s : State) : Host.Outcome State Fault Refusal :=
  .next (if s.clerksRun && isRecord x then s else s.runAsync x C.LEDGER_FLUSH ledgerFlushChecks ledgerFlushStart ledgerFlushAct)

/-! ### Audit (R315, R316) -/

/-- The audit slot of a ledger. -/
def State.auditSlot (s : State) (g : Nat) : Option Nat := lowest 4 fun k => Tab.get none s.ldg.audit k == some g

/-- What AUDIT_CONFIG adds to the checks of R94. -/
def State.auditConfigChecks (s : State) (r0 : Req) : Checks :=
      let dflt := [(A.AUDIT_CONFIG_ACTION, 0), (A.AUDIT_CONFIG_PASS_MS, 1000)]
      let r := filled C.AUDIT_CONFIG dflt r0
      { Checks.plain C.AUDIT_CONFIG with
        target := match targetError 0x28 7 16 false r with
          | some e => some e
          | none => if (s.auditSlot r.index).isSome then none else some 3
        dflt := dflt
        args := firstFail [failIf (r.arg A.AUDIT_CONFIG_HOST_ADDR_LO % 64 != 0) (badArg A.AUDIT_CONFIG_HOST_ADDR_LO 1), r.range A.AUDIT_CONFIG_PASS_MS 10 65535]
        units := [6] }

/-- What AUDIT_CONFIG does once its checks have passed. -/
def State.auditConfigAct (s : State) (r : Req) : Ans :=
      match s.auditSlot r.index with
      | none => .ok s []
      | some k =>
        let t := ((s.setF F.LDG_AUDIT_CFG_ENABLE k (r.arg A.AUDIT_CONFIG_ENABLE)).setF F.LDG_AUDIT_CFG_ACTION k (r.arg A.AUDIT_CONFIG_ACTION)).setF
          F.LDG_AUDIT_CFG_PASS_MS k (r.arg A.AUDIT_CONFIG_PASS_MS)
        let t := (t.wr R.LDG_AUDIT_ADDR_LO k (r.arg A.AUDIT_CONFIG_HOST_ADDR_LO)).wr R.LDG_AUDIT_ADDR_HI k (r.arg A.AUDIT_CONFIG_HOST_ADDR_HI)
        .ok t (w32 (t.rd R.LDG_AUDIT_STATUS k))

/-- AUDIT_CONFIG (0x070A). A ledger that is not privileged is answered BAD_TARGET, reason 3 (DEDUCED, log entry 28). -/
def execAuditConfig (m : Nat) (s : State) : Host.Outcome State Fault Refusal :=
  .next (s.runCmd m C.AUDIT_CONFIG s.auditConfigChecks s.auditConfigAct)

/-- A record of a shadow: key, RESULT and STATIC. -/
structure Shadow where
  key : List Byte
  result : Nat
  static : Bool
  deriving DecidableEq, Repr

/-- The shadow in host memory: COUNT, DIGEST and its records; none where it does not answer or its MAGIC or LEDGER is wrong (log entry 29). -/
def State.shadow (s : State) (addr g : Nat) : Option (Nat × Nat × List Shadow) :=
  match s.hostRead addr 64 with
  | none => none
  | some h =>
    if leAt h 0 4 ≠ 0x5EAD0A11 ∨ leAt h 4 4 ≠ g then none
    else
      let n := min 1048576 (leAt h 8 4)
      ((List.range n).mapM fun i => (s.hostRead (addr + 64 + 64 * i) 64).map fun l =>
        (⟨l.take 44, leAt l 44 4, bit (leAt l 48 4) 0⟩ : Shadow)).map fun l => (leAt h 8 4, leAt h 12 4, l)

/-- A record of the shadow agrees with the ledger in all eight replicas: found in each, with its RESULT and STATIC, and the copies alike. -/
def State.recordOk (s : State) (g : Nat) (x : Shadow) : Bool :=
  let key := padKey (s.keyBytes g) x.key
  match s.copiesOf 0 g key with
  | [] => false
  | n :: _ => replicas.all fun r => match s.copiesOf r g key with
    | [] => false
    | k :: _ => k == n && s.entryAt r k == s.entryAt 0 n && slotResult (s.slot r k) == x.result && slotStatic (s.slot r k) == x.static

/-- A record rewritten from the shadow (R316). -/
def State.repairRecord (s : State) (g : Nat) (x : Shadow) : State :=
  let key := padKey (s.keyBytes g) x.key
  match replicas.findSome? fun r => (s.copiesOf r g key).head? with
  | some n =>
    let c := s.choiceOf g key (n / 4)
    s.writeEntry (n / 4) (n % 4) (makeEntry (s.ledgerSpan g) g x.static 0 c x.result key)
  | none => (s.insertNew g key x.result x.static).1

/-- AUDIT_PASS_START (R315, R316): a pass of audit slot `k`, from the fetch of the shadow to its verdict. -/
def execAuditPassStart (k : Nat) (s : State) : Host.Outcome State Fault Refusal :=
  .next (match Tab.get none s.ldg.audit k with
    | none => s
    | some g =>
      if !s.flag F.LDG_AUDIT_CFG_ENABLE k then s
      else match s.shadow (s.rd R.LDG_AUDIT_ADDR_LO k + 2 ^ 32 * s.rd R.LDG_AUDIT_ADDR_HI k) g with
      | none => s
      | some (count, digest, recs) =>
        let bad := recs.filter fun x => !s.recordOk g x
        let heads := s.headsOf 0 g
        let d := heads.foldl (fun a n => a ^^^ digestOf (entryKey (imageEntry (s.bucket 0 (n / 4)) (n % 4))) (slotResult (s.slot 0 n))) 0
        let off := heads.length != count || d != digest
        let s := (s.setF F.LDG_AUDIT_STATUS_DIGEST_BAD k (b2n off)).inc F.LDG_AUDIT_STATUS_PASSES k
        let s := s.note E.LDG_AUDIT_PASS
        let n := bad.length + b2n off
        let s := if n = 0 then s else
          ((s.setF F.LDG_AUDIT_STATUS_MISMATCH k 1).addSat F.LDG_AUDIT_STATUS_MISMATCH_COUNT k n).note E.LDG_AUDIT_MISMATCH
        let s := match bad.getLast? with
          | some x => match replicas.findSome? fun r => (s.copiesOf r g (padKey (s.keyBytes g) x.key)).head? with
            | some j => s.wr R.LDG_AUDIT_SLOT k j
            | none => s
          | none => s
        if s.flag F.LDG_AUDIT_CFG_ACTION k then s.each bad fun x s => s.repairRecord g x else s)

end Sys2Proof.Machine
end

