-- ==== Sys2Proof/Machine/Clerk.lean ====
section
/-! DEFINITION. The Clerks: their work, commit points and microwords (R304 to R310, R317 to R325, R330). -/
namespace Sys2Proof.Machine

/-! ### Learning (R304, R306) -/

/-- A learn record is dropped. -/
def State.learnDrop (s : State) : State := (s.ldgStat 0).note E.LDG_LEARN_DROP

/-- A Clerk's learn queue replaced, with LEARN_FILL. -/
def State.setLearn (s : State) (w : Nat) (l : List Learn) : State :=
  (s.putClerk w { s.clerk w with learn := l }).setF F.CLRK_QUEUE_LEARN_FILL w l.length

/-- LEARN_RELEASE (R304, R306): the ingress MAC has accepted the oldest frame of pipeline `i` that made a learn record; a frame ended bad releases
none. -/
def execLearnRelease (i : Nat) (s : State) : Host.Outcome State Fault Refusal :=
  .next (match s.ldg.held.find? fun l => l.pipe == i with
    | none => s
    | some l =>
      let s := { s with ldg := { s.ldg with held := s.ldg.held.erase l } }
      let w := s.keyWard l.ledger l.key
      if l.bad then s
      else if !bit 0x30 s.mode || decide (64 ≤ (s.clerk w).learn.length) then s.learnDrop
      else s.setLearn w ((s.clerk w).learn ++ [l]))

/-- The learn records still queued are discarded and counted, as the mode leaves Service or Holdover (R306). -/
def State.discardLearn (s : State) : State :=
  let s := s.each (List.range 8) fun w s => (s.each (s.clerk w).learn fun _ s => s.learnDrop).setLearn w []
  { s.each s.ldg.held fun _ s => s.learnDrop with ldg := { s.ldg with held := [] } }

/-! ### Starting work (R310) -/

/-- WORK_FILL and SWEEP_BEHIND of a Clerk brought in line. -/
def State.settleQueue (s : State) (w : Nat) : State :=
  let c := s.clerk w
  (s.setF F.CLRK_QUEUE_WORK_FILL w (min 127 (Tab.get [] s.cls.work (w / 4)).length)).setF F.CLRK_QUEUE_SWEEP_BEHIND w (b2n (decide (1024 ≤ c.due)))

/-- The sixteen registers of a Clerk; G0 reads 0. -/
def State.greg (s : State) (w n : Nat) : Nat := if n = 0 then 0 else s.rd R.CLRK_REG (n + 16 * w)
def State.setG (s : State) (w n v : Nat) : State := if n = 0 then s else s.wr R.CLRK_REG (n + 16 * w) (v % 2 ^ 32)

/-- What a Clerk holds now, as a cursor. -/
def State.cursorNow (s : State) (w resume : Nat) : Cursor :=
  { regs := (List.range 16).map fun n => s.greg w n, flags := s.fld F.CLRK_COND_FLAGS w
    path := (List.range 32).map fun e => s.rd R.CLRK_PATH (e + 32 * w), resume := resume }

/-- A Clerk's registers, flags and path memory set from a cursor. -/
def State.loadCursor (s : State) (w : Nat) (c : Cursor) : State :=
  let s := s.each c.regs.zipIdx fun e s => s.setG w e.2 e.1
  let s := s.each c.path.zipIdx fun e s => s.wr R.CLRK_PATH (e.2 + 32 * w) e.1
  s.setF F.CLRK_COND_FLAGS w c.flags

/-- A Clerk starts a routine at its entry address. -/
def State.startRoutine (s : State) (w k : Nat) (work : Option Learn) (words : List Nat) : State :=
  let a := s.fld F.CLRK_ENTRY_ADDRESS k
  let s := ((s.setF F.CLRK_STATUS_STATE w 1).setF F.CLRK_STATUS_ROUTINE w k).setF F.CLRK_PC_PC w a
  let s := s.setF F.CLRK_PC_RESUME w a
  s.putClerk w { s.clerk w with work := work, words := words, wrote := false, first := none, last := s.cursorNow w a }

/-- A Clerk starts its sweep routine on the next bucket. -/
def State.startSweep (s : State) (w : Nat) : State :=
  let a := s.fld F.CLRK_QUEUE_SWEEP_NEXT w
  let s := s.putClerk w { s.clerk w with due := (s.clerk w).due - 1, swept := (s.clerk w).swept + 1 }
  let s := (s.setF F.CLRK_QUEUE_SWEEP_NEXT w ((a + 1) % 32768)).settleQueue w
  s.startRoutine w 3 none [32768 * w + a]

/-- A Clerk may start work: it is idle, no urgent request stands and CLRK_CTL.HALT is 0. -/
def State.clerkReady (s : State) (w : Nat) : Bool := s.clerkState w == 0 && (s.clerk w).urgent == 0 && !s.flag F.CLRK_CTL_HALT w

/-- CLERK_WORK_START (R310): Clerk `w` starts its next work: a scrub, which it does whole; a learn record, with the INSERT routine, or MOVE for a
station move; or the sweep, ahead of learning where it is 1,024 buckets behind. Host commands, posting work and audit passes have commands of
their own. -/
def execClerkWorkStart (w : Nat) (s : State) : Host.Outcome State Fault Refusal :=
  .next (if 8 ≤ w ∨ !s.clerkReady w then s
    else
      let c := s.clerk w
      match c.scrub, c.learn with
      | (r, n) :: t, _ => (s.putClerk w { c with scrub := t }).scrubSlot r n
      | [], l :: t =>
        if 1024 ≤ c.due then s.startSweep w
        else (s.setLearn w t).startRoutine w (if l.move then 2 else 0) (some l) []
      | [], [] => if 0 < c.due then s.startSweep w else s)

/-- AGE_SWEEP_BUCKET (R309, R310): the pace of Clerk `w`'s sweep comes due for one more bucket; an idle Clerk starts AGE_SWEEP on it. -/
def execAgeSweepBucket (w : Nat) (s : State) : Host.Outcome State Fault Refusal :=
  .next (if 8 ≤ w ∨ !bit 0x78 s.mode ∨ 32768 ≤ (s.clerk w).swept + (s.clerk w).due then s
    else
      let s := (s.putClerk w { s.clerk w with due := (s.clerk w).due + 1 }).settleQueue w
      let c := s.clerk w
      if s.clerkReady w && c.scrub.isEmpty && (c.learn.isEmpty || decide (1024 ≤ c.due)) then s.startSweep w else s)

/-- The next sweep of a Clerk begins. -/
def State.newSweep (s : State) (w : Nat) : State :=
  (s.putClerk w { s.clerk w with swept := 0, due := 0, overran := false }).setF F.CLRK_QUEUE_SWEEP_NEXT w 0

/-- AGE_SWEEP_PERIOD (R310): a sweep period of Clerk `w` ends. An unfinished sweep overruns, and the next starts when it ends. -/
def execAgeSweepPeriod (w : Nat) (s : State) : Host.Outcome State Fault Refusal :=
  .next (if 8 ≤ w ∨ !bit 0x78 s.mode then s
    else if 32768 ≤ (s.clerk w).swept ∧ !(s.clerkState w == 1 && s.fld F.CLRK_STATUS_ROUTINE w == 3) then s.newSweep w
    else
      let s := (s.setF F.LDG_STATUS_SWEEP_OVERRUN 0 1).inc F.LDG_STATUS_COUNT_SWEEP_OVERRUN_COUNT 0
      ((s.ldgStat 7).note E.LDG_SWEEP_OVERRUN).putClerk w { s.clerk w with overran := true })

/-! ### Parking and halting (R320 to R323) -/

/-- CLERK_PARK (R321): Clerk `w`, with an urgent request and nothing written since its last commit point, parks there. -/
def execClerkPark (w : Nat) (s : State) : Host.Outcome State Fault Refusal :=
  .next (let c := s.clerk w
    if 8 ≤ w ∨ s.clerkState w ≠ 1 ∨ c.urgent = 0 ∨ c.wrote then s
    else
      let s := (s.loadCursor w c.last).setF F.CLRK_PC_RESUME w c.last.resume
      let s := (s.setF F.CLRK_STATUS_STATE w 2).setF F.CLRK_PC_PC w c.last.resume
      let s := s.putClerk w { c with waiting := false }
      (s.setCounted F.CLRK_STATUS_PARKED F.CLRK_STATUS_PARK_COUNT w).note E.CLRK_PARKED)

/-- A parked or halted Clerk goes on: from its cursor, or from the routine's first commit point where it is STALE (R322). -/
def State.resumeClerk (s : State) (w : Nat) : State :=
  let c := s.clerk w
  let cur := if s.flag F.CLRK_STATUS_STALE w then c.first.getD c.last else c.last
  let s := ((s.loadCursor w cur).setF F.CLRK_PC_PC w cur.resume).setF F.CLRK_PC_RESUME w cur.resume
  let s := (s.setF F.CLRK_STATUS_STATE w 1).setF F.CLRK_STATUS_STALE w 0
  s.putClerk w { c with last := cur, urgent := 0, wrote := false, byHalt := false }

/-- CLERK_RESUME (R322): after urgent work from a mailbox, parked Clerk `w` resumes by itself unless HOLD_PARKED is 1. -/
def execClerkResume (w : Nat) (s : State) : Host.Outcome State Fault Refusal :=
  .next (if 8 ≤ w ∨ s.clerkState w ≠ 2 ∨ (s.clerk w).urgent ≠ 0 ∨ s.flag F.CLRK_CTL_HOLD_PARKED w then s else s.resumeClerk w)

/-- CLRK_WRITE_COMPLETE (R298, R319): all eight replicas have acknowledged Clerk `w`'s oldest write. -/
def execClrkWriteComplete (w : Nat) (s : State) : Host.Outcome State Fault Refusal :=
  .next (match (s.clerk w).posted with
    | [] => s
    | _ :: t => s.putClerk w { s.clerk w with posted := t, waiting := (s.clerk w).waiting && !t.isEmpty })

/-- A Clerk without work halts at once where CLRK_CTL.HALT is 1; one that runs a routine halts at its next commit point. -/
def State.haltIdle (s : State) (w : Nat) : State :=
  if s.flag F.CLRK_CTL_HALT w && (s.clerkState w == 0 || s.clerkState w == 2) then
    (s.setF F.CLRK_STATUS_STATE w 3).putClerk w { s.clerk w with byHalt := true }
  else s

/-- CLRK_HALT_WRITE (R320): a granted host write sets CLRK_CTL.HALT. -/
def execClrkHaltWrite (w : Nat) (s : State) : Host.Outcome State Fault Refusal :=
  .next (if w < 8 then s.hostWrites (R.CLRK_CTL.key w) fun s => (s.setF F.CLRK_CTL_HALT w 1).haltIdle w else s)

/-! ### Microwords (R317, R318) -/

/-- The microword at a Clerk's present address. -/
def State.microword (s : State) (w : Nat) : Nat := s.rd R.CLRK_STORE (s.fld F.CLRK_PC_PC w + 8192 * w)

/-- Fields of a microword in the register format. -/
def mwOp (v : Nat) : Nat := bits v 26 6
def mwRd (v : Nat) : Nat := bits v 22 4
def mwRa (v : Nat) : Nat := bits v 18 4
def mwRb (v : Nat) : Nat := bits v 14 4
def mwImm (v : Nat) : Nat := bits v 0 14

/-- The opcodes of R318. -/
def mwDefined (op : Nat) : Bool :=
  decide (op ≤ 0xD) || (decide (0x10 ≤ op) && decide (op ≤ 0x17)) || (decide (0x20 ≤ op) && decide (op ≤ 0x29))
    || (decide (0x30 ≤ op) && decide (op ≤ 0x34))

/-- CLRK_ILLEGAL (R323): Clerk `w` halts before a microword with an illegal opcode, or, with `perr`, at a control-store parity error. -/
def execClrkIllegal (w : Nat) (perr : Bool) (s : State) : Host.Outcome State Fault Refusal :=
  .next (if 8 ≤ w ∨ s.clerkState w ≠ 1 ∨ (s.clerk w).waiting ∨ (mwDefined (mwOp (s.microword w)) && !perr) then s
    else
      let pc := s.fld F.CLRK_PC_PC w
      let s := (s.setF F.CLRK_STATUS_STATE w 3).putClerk w { s.clerk w with last := s.cursorNow w pc }
      (s.setCounted F.CLRK_STATUS_FAULT F.CLRK_STATUS_FAULT_COUNT w).note E.CLRK_FAULT)

/-- The Clerk goes on at the next address. -/
def State.nextPc (s : State) (w : Nat) : State := s.setF F.CLRK_PC_PC w (s.fld F.CLRK_PC_PC w + 1)

/-- Clerk `w` executes its present microword if it runs, waits for no write and the microword has this opcode. -/
def State.micro (s : State) (w op : Nat) (f : Nat → State → State) : Host.Outcome State Fault Refusal :=
  .next (if w < 8 ∧ s.clerkState w = 1 ∧ !(s.clerk w).waiting ∧ mwOp (s.microword w) = op then f (s.microword w) s else s)

/-- A condition flag set (R318). -/
def State.setFlag (s : State) (w k : Nat) (b : Bool) : State := s.setF F.CLRK_COND_FLAGS w (putBits (s.fld F.CLRK_COND_FLAGS w) k 1 (b2n b))

/-- The second operand: the register RB, or IMM where RB names G0 (R317). -/
def State.second (s : State) (w v : Nat) : Nat := if mwRb v = 0 then mwImm v else s.greg w (mwRb v)

/-- RD := RA op second operand, with EQ for a zero result. -/
def State.alu (s : State) (w op : Nat) (f : Nat → Nat → Nat) : Host.Outcome State Fault Refusal :=
  s.micro w op fun v s =>
    let x := f (s.greg w (mwRa v)) (s.second w v) % 2 ^ 32
    ((s.setG w (mwRd v) x).setFlag w 1 (x == 0)).nextPc w

/-- The bucket and position that G[RA] and G[RB] name. -/
def State.atRegs (s : State) (w v : Nat) : Nat × Nat := (s.greg w (mwRa v) % 262144, s.greg w (mwRb v) % 4)

/-- A replicated write of a bucket is issued: posted, or waited for (R298, R319). -/
def State.issued (s : State) (w b : Nat) (wait : Bool) : State :=
  s.putClerk w { s.clerk w with posted := (s.clerk w).posted ++ [b], waiting := wait, wrote := true }

/-- The image that RD names: its four slots, and its bucket. -/
def State.imageOf (s : State) (w k : Nat) : List Nat :=
  (List.range 4).map fun p => (List.range 4).foldl (fun a j => a + s.rd R.CLRK_IMAGE (4 * p + j + 16 * k + 64 * w) * 2 ^ (32 * j)) 0
def State.imageBucket (s : State) (w k : Nat) : Nat := (s.clerk w).buckets.getD k 0

/-- An image loaded. -/
def State.loadImage (s : State) (w k b : Nat) (img : List Nat) : State :=
  let s := s.each img.zipIdx fun e s => s.each (List.range 4) fun j s => s.wr R.CLRK_IMAGE (4 * e.2 + j + 16 * k + 64 * w) (bits e.1 (32 * j) 32)
  s.putClerk w { s.clerk w with buckets := (s.clerk w).buckets.set k b }

/-- KR: ledger, SPAN, flags (bit 0 STATIC, bit 1 asks for replacement; the model's own layout of the byte, log entry 30), RESULT and key. -/
def State.krLedger (s : State) (w : Nat) : Nat := bits (s.rd R.CLRK_KR (13 * w)) 0 4
def State.krSpan (s : State) (w : Nat) : Nat := bits (s.rd R.CLRK_KR (13 * w)) 8 2
def State.krFlags (s : State) (w : Nat) : Nat := bits (s.rd R.CLRK_KR (13 * w)) 16 8
def State.krResult (s : State) (w : Nat) : Nat := s.rd R.CLRK_KR (1 + 13 * w)
def State.krKey (s : State) (w : Nat) : List Byte := (List.range 11).flatMap fun k => w32 (s.rd R.CLRK_KR (2 + k + 13 * w))

/-- Path memory: bucket and position of an entry. The number of an entry is taken modulo 32 (log entry 31). -/
def State.pathAt (s : State) (w e : Nat) : Nat × Nat :=
  (s.fld F.CLRK_PATH_BUCKET (e % 32 + 32 * w), s.fld F.CLRK_PATH_POSITION (e % 32 + 32 * w))

/-- CLRK_NOP (0x00). -/
def execClrkNop (w : Nat) (s : State) : Host.Outcome State Fault Refusal := s.micro w 0x00 fun _ s => s.nextPc w

/-- CLRK_ADD (0x01). -/
def execClrkAdd (w : Nat) (s : State) : Host.Outcome State Fault Refusal := s.alu w 0x01 fun a b => a + b

/-- CLRK_SUB (0x02). -/
def execClrkSub (w : Nat) (s : State) : Host.Outcome State Fault Refusal := s.alu w 0x02 fun a b => a + 2 ^ 32 - b

/-- CLRK_AND (0x03). -/
def execClrkAnd (w : Nat) (s : State) : Host.Outcome State Fault Refusal := s.alu w 0x03 fun a b => a &&& b

/-- CLRK_OR (0x04). -/
def execClrkOr (w : Nat) (s : State) : Host.Outcome State Fault Refusal := s.alu w 0x04 fun a b => a ||| b

/-- CLRK_XOR (0x05). -/
def execClrkXor (w : Nat) (s : State) : Host.Outcome State Fault Refusal := s.alu w 0x05 fun a b => a ^^^ b

/-- CLRK_SHR (0x06). -/
def execClrkShr (w : Nat) (s : State) : Host.Outcome State Fault Refusal := s.alu w 0x06 fun a b => if 32 ≤ b then 0 else a >>> b

/-- CLRK_SHL (0x07). -/
def execClrkShl (w : Nat) (s : State) : Host.Outcome State Fault Refusal := s.alu w 0x07 fun a b => if 32 ≤ b then 0 else a <<< b

/-- CLRK_DEC (0x08): RD := RA − 1, and LOOPZ where RA was 0. -/
def execClrkDec (w : Nat) (s : State) : Host.Outcome State Fault Refusal :=
  s.micro w 0x08 fun v s =>
    let a := s.greg w (mwRa v)
    let x := (a + 2 ^ 32 - 1) % 2 ^ 32
    (((s.setG w (mwRd v) x).setFlag w 1 (x == 0)).setFlag w 7 (a == 0)).nextPc w

/-- CLRK_BCLR (0x09): RD := RA with bit G[RB] cleared. -/
def execClrkBclr (w : Nat) (s : State) : Host.Outcome State Fault Refusal :=
  s.micro w 0x09 fun v s =>
    let x := putBits (s.greg w (mwRa v)) (s.greg w (mwRb v) % 32) 1 0
    ((s.setG w (mwRd v) x).setFlag w 1 (x == 0)).nextPc w

/-- CLRK_FFS (0x0A): RD := index of the lowest 1 of RA; EQ where RA is 0, and RD is then a free value. -/
def execClrkFfs (w : Nat) (s : State) : Host.Outcome State Fault Refusal :=
  s.micro w 0x0A fun v s =>
    match lowest 32 fun i => bit (s.greg w (mwRa v)) i with
    | some i => ((s.setG w (mwRd v) i).setFlag w 1 false).nextPc w
    | none => ((s.tookFree.setG w (mwRd v) s.freeVal).setFlag w 1 true).nextPc w

/-- CLRK_RND (0x0B): RD := next LFSR value, a free value, as the manual gives the LFSR no polynomial. -/
def execClrkRnd (w : Nat) (s : State) : Host.Outcome State Fault Refusal :=
  s.micro w 0x0B fun v s =>
    let x := s.freeVal % 65536
    ((s.tookFree.setF F.CLRK_COND_LFSR w x).setG w (mwRd v) x).nextPc w

/-- CLRK_LDP (0x0C): RD := word IMM of the work record. The manual gives a layout only for the sweep's word 0; another word is a free value. -/
def execClrkLdp (w : Nat) (s : State) : Host.Outcome State Fault Refusal :=
  s.micro w 0x0C fun v s =>
    match (s.clerk w).words[mwImm v]? with
    | some x => (s.setG w (mwRd v) x).nextPc w
    | none => (s.tookFree.setG w (mwRd v) s.freeVal).nextPc w

/-- CLRK_LDK (0x0D): KR := key, ledger, RESULT and flags of the work record. Work without a key leaves KR as it is. -/
def execClrkLdk (w : Nat) (s : State) : Host.Outcome State Fault Refusal :=
  s.micro w 0x0D fun _ s =>
    match (s.clerk w).work with
    | some l =>
      let key := padKey (s.keyBytes l.ledger) l.key
      let s := s.wr R.CLRK_KR (13 * w) (l.ledger + 256 * s.ledgerSpan l.ledger + 65536 * (2 * b2n l.move))
      let s := s.wr R.CLRK_KR (1 + 13 * w) l.result
      (s.each (List.range 11) fun k s => s.wr R.CLRK_KR (2 + k + 13 * w) (leAt key (4 * k) 4)).nextPc w
    | none => s.nextPc w

/-- CLRK_HASH (0x10): G1 and G2 := the A0 and A1 buckets of KR (R294). -/
def execClrkHash (w : Nat) (s : State) : Host.Outcome State Fault Refusal :=
  s.micro w 0x10 fun _ s =>
    let c := s.candidates (s.krLedger w) (s.krKey w)
    ((s.setG w 1 c.1).setG w 2 c.2).nextPc w

/-- CLRK_RDB (0x11): image := bucket G[RA] of the reference replica. A bucket with a posted write outstanding is waited for (R319). -/
def execClrkRdb (w : Nat) (s : State) : Host.Outcome State Fault Refusal :=
  s.micro w 0x11 fun v s =>
    let b := s.greg w (mwRa v) % 262144
    if (s.clerk w).posted.contains b then s
    else
      let r := s.clerkRead w b
      (r.1.loadImage w (mwRd v % 4) b r.2).nextPc w

/-- SCAN mode 0: KR's key and free space in E0 and E1. -/
def State.scanKey (s : State) (w : Nat) : State :=
  let g := s.krLedger w
  let span := s.krSpan w
  let look := fun (k : Nat) => (findIn (s.imageOf w k) g span (s.keyBytes g) (s.krKey w)).map fun p => (k, p)
  let room := fun (k : Nat) => (freeIn (s.imageOf w k) span).map fun p => (k, p)
  let s := match [0, 1].findSome? look with
    | some (k, p) =>
      (((s.setG w 10 (s.imageBucket w k)).setG w 3 p).setG w 12 ((s.imageOf w k).getD p 0 % 2 ^ 32)).setFlag w 2 true
    | none => s.setFlag w 2 false
  match [0, 1].findSome? room with
  | some (k, p) => ((s.setG w 13 (s.imageBucket w k)).setG w 4 p).setFlag w 3 true
  | none => s.setFlag w 3 false

/-- What SCAN does with the victim it has chosen, or without one. -/
def State.tookVictim (s : State) (w : Nat) : Option (State × Nat) → State
  | some (t, p) => (t.setG w 5 p).setFlag w 4 true
  | none => s.setFlag w 4 false

/-- SCAN mode 2: a random victim in an image (R307). -/
def State.scanVictim (s : State) (w k : Nat) : State :=
  let path := (List.range 32).map fun e => s.pathAt w e
  let onPath := path.take (s.greg w 11 % 33)
  s.tookVictim w (s.pickRandom (victims (s.imageOf w k) (s.krSpan w) (s.imageBucket w k) onPath))

/-- SCAN mode 3: an eviction candidate in E0 and E1 under EVICT. -/
def State.scanEvict (s : State) (w : Nat) : State :=
  let g := s.krLedger w
  let cand := [0, 1].flatMap fun k => (evictable (s.imageOf w k) g (s.krSpan w)).map fun p =>
    (s.imageBucket w k, p, slotAge ((s.imageOf w k).getD p 0))
  match s.pickEvict g cand with
  | some (t, b, p) => ((t.setG w 13 b).setG w 5 p).setFlag w 4 true
  | none => s.setFlag w 4 false

/-- CLRK_SCAN (0x12). A mode above 3 names no search and changes nothing. -/
def execClrkScan (w : Nat) (s : State) : Host.Outcome State Fault Refusal :=
  s.micro w 0x12 fun v s =>
    (match mwImm v with
     | 0 => s.scanKey w
     | 1 => match freeIn (s.imageOf w (mwRd v % 4)) (s.krSpan w) with
       | some p => (s.setG w 4 p).setFlag w 3 true
       | none => s.setFlag w 3 false
     | 2 => s.scanVictim w (mwRd v % 4)
     | 3 => s.scanEvict w
     | _ => s).nextPc w

/-- The image operand of a microword with a destination register: RA[1:0] (ALT, AGEP, SCNA name the image after RD; log entry 32). -/
def mwImage (v : Nat) : Nat := mwRa v % 4

/-- CLRK_ALT (0x13): RD := other candidate bucket of the entry at position G[RB] of the image. -/
def execClrkAlt (w : Nat) (s : State) : Host.Outcome State Fault Refusal :=
  s.micro w 0x13 fun v s =>
    let k := mwImage v
    (s.setG w (mwRd v) (s.otherBucket (s.imageOf w k) (s.imageBucket w k) (s.greg w (mwRb v) % 4))).nextPc w

/-- A head entry takes part in ageing (R309). -/
def State.ageable (s : State) (img : List Nat) (p : Nat) : Bool :=
  let h := img.getD p 0
  wholeAt img p && s.flag F.LDG_LEDGER_CFG_AGE_EN (slotLedger h) && !slotStatic h && !bit h 15

/-- CLRK_SCNA (0x14): RD := mask of the positions of the image that hold ageable head entries. -/
def execClrkScna (w : Nat) (s : State) : Host.Outcome State Fault Refusal :=
  s.micro w 0x14 fun v s =>
    let img := s.imageOf w (mwImage v)
    (s.setG w (mwRd v) (maskOf 4 fun p => s.ageable img p)).nextPc w

/-- AGE_LIMIT of a ledger; 0 acts as 1 (R625). -/
def State.ageLimit (s : State) (g : Nat) : Nat := max 1 (s.fld F.LDG_LEDGER_CFG_AGE_LIMIT g)

/-- CLRK_AGEP (0x15): RD := AGE + 1 of the entry at G[RB] of the image; EQ := RD ≥ AGE_LIMIT. -/
def execClrkAgep (w : Nat) (s : State) : Host.Outcome State Fault Refusal :=
  s.micro w 0x15 fun v s =>
    let h := (s.imageOf w (mwImage v)).getD (s.greg w (mwRb v) % 4) 0
    let a := slotAge h + 1
    ((s.setG w (mwRd v) (min a (s.ageLimit (slotLedger h)))).setFlag w 1 (decide (s.ageLimit (slotLedger h) ≤ a))).nextPc w

/-- CLRK_PATHW (0x16): P[G[RD]] := (G[RA], G[RB]). -/
def execClrkPathw (w : Nat) (s : State) : Host.Outcome State Fault Refusal :=
  s.micro w 0x16 fun v s =>
    let x := s.atRegs w v
    (s.wr R.CLRK_PATH (s.greg w (mwRd v) % 32 + 32 * w) (x.1 + 2 ^ 18 * x.2)).nextPc w

/-- CLRK_PATHR (0x17): G[RD] := bucket, G[RD + 1] := position of P[IMM]. -/
def execClrkPathr (w : Nat) (s : State) : Host.Outcome State Fault Refusal :=
  s.micro w 0x17 fun v s =>
    let x := s.pathAt w (mwImm v)
    ((s.setG w (mwRd v) x.1).setG w ((mwRd v + 1) % 16) x.2).nextPc w

/-- CLRK_WRR (0x20): KR's entry written at (G[RA], G[RB]), CHOICE set from the bucket; posted. An entry written over leaves its ledger's count. -/
def execClrkWrr (w : Nat) (s : State) : Host.Outcome State Fault Refusal :=
  s.micro w 0x20 fun v s =>
    let x := s.atRegs w v
    let g := s.krLedger w
    let old := s.slot (w % 4) (4 * x.1 + x.2)
    let e := makeEntry (s.krSpan w) g (bit (s.krFlags w) 0) 0 (s.choiceOf g (s.krKey w) x.1) (s.krResult w) (s.krKey w)
    let s := if bit old 0 && bit old 1 then s.subCount (slotLedger old) else s
    (((s.writeEntry x.1 x.2 e).addCount g).issued w x.1 false).nextPc w

/-- CLRK_UPD (0x21): the station move of R305 at (G[RA], G[RB]) where KR asks for replacement; otherwise, and where RESULT is the same or the entry
is STATIC, nothing is written and EQ is set. -/
def execClrkUpd (w : Nat) (s : State) : Host.Outcome State Fault Refusal :=
  s.micro w 0x21 fun v s =>
    let x := s.atRegs w v
    let h := s.slot (w % 4) (4 * x.1 + x.2)
    if bit (s.krFlags w) 1 && slotResult h != s.krResult w && !slotStatic h then
      (((s.updateEntry x.1 x.2 (s.krResult w) (slotStatic h)).issued w x.1 false).setFlag w 1 false).nextPc w
    else (s.setFlag w 1 true).nextPc w

/-- CLRK_DUP (0x22): the entry at P[G[RD]] copied to P[G[RD] + 1]; waits (R324). -/
def execClrkDup (w : Nat) (s : State) : Host.Outcome State Fault Refusal :=
  s.micro w 0x22 fun v s =>
    let a := s.pathAt w (s.greg w (mwRd v))
    let b := s.pathAt w (s.greg w (mwRd v) + 1)
    ((s.dupEntry a.1 a.2 b.1 b.2).issued w b.1 true).nextPc w

/-- CLRK_ERS (0x23): the entry at P[G[RD]] erased, its HIT merged into P[G[RD] + 1]; waits (R324). -/
def execClrkErs (w : Nat) (s : State) : Host.Outcome State Fault Refusal :=
  s.micro w 0x23 fun v s =>
    let a := s.pathAt w (s.greg w (mwRd v))
    let b := s.pathAt w (s.greg w (mwRd v) + 1)
    ((s.eraseMoved a.1 a.2 b.1 b.2).issued w a.1 true).nextPc w

/-- CLRK_ERSB (0x24): the entry at (G[RA], G[RB]) erased; waits. -/
def execClrkErsb (w : Nat) (s : State) : Host.Outcome State Fault Refusal :=
  s.micro w 0x24 fun v s =>
    let x := s.atRegs w v
    let old := s.slot (w % 4) (4 * x.1 + x.2)
    let s := if bit old 0 && bit old 1 then s.subCount (slotLedger old) else s
    ((s.eraseEntry x.1 x.2).issued w x.1 true).nextPc w

/-- CLRK_HITS (0x25): HIT := OR of the entry's HIT in all replicas. -/
def execClrkHits (w : Nat) (s : State) : Host.Outcome State Fault Refusal :=
  s.micro w 0x25 fun v s =>
    let x := s.atRegs w v
    (s.setFlag w 5 (replicas.any fun r => slotHit (s.slot r (4 * x.1 + x.2)))).nextPc w

/-- CLRK_AGEW (0x26): AGE := G[RD] at (G[RA], G[RB]); waits where IMM[0] is 1, posted otherwise. -/
def execClrkAgew (w : Nat) (s : State) : Host.Outcome State Fault Refusal :=
  s.micro w 0x26 fun v s =>
    let x := s.atRegs w v
    let a := s.greg w (mwRd v)
    ((s.editHead x.1 x.2 fun h => putBits h 10 4 a).issued w x.1 (bit (mwImm v) 0)).nextPc w

/-- CLRK_REFRESH (0x27): HIT := 0 and AGE := 0 at (G[RA], G[RB]); posted. -/
def execClrkRefresh (w : Nat) (s : State) : Host.Outcome State Fault Refusal :=
  s.micro w 0x27 fun v s =>
    let x := s.atRegs w v
    ((s.editHead x.1 x.2 fun h => noHit (putBits h 10 4 0)).issued w x.1 false).nextPc w

/-- A replica accepts a conditional doom: its copy's HIT is clear and its AGE is AGE_LIMIT (R309). -/
def State.doomable (s : State) (r n : Nat) : Bool := !slotHit (s.slot r n) && slotAge (s.slot r n) == s.ageLimit (slotLedger (s.slot r n))

/-- CLRK_CDOOM (0x28): each replica sets DOOMED if it accepts; ACCEPT := all accepted; waits (R309, R325). -/
def execClrkCdoom (w : Nat) (s : State) : Host.Outcome State Fault Refusal :=
  s.micro w 0x28 fun v s =>
    let x := s.atRegs w v
    let n := 4 * x.1 + x.2
    let all := replicas.all fun r => s.doomable r n
    let t := s.each replicas fun r t => if s.doomable r n then t.putSlot r n (withParity (putBits (t.slot r n) 15 1 1)) else t
    ((t.setFlag w 6 all).issued w x.1 true).nextPc w

/-- CLRK_UNDOOM (0x29): DOOMED := 0 at (G[RA], G[RB]); waits. -/
def execClrkUndoom (w : Nat) (s : State) : Host.Outcome State Fault Refusal :=
  s.micro w 0x29 fun v s =>
    let x := s.atRegs w v
    ((s.editHead x.1 x.2 fun h => putBits h 15 1 0).issued w x.1 true).nextPc w

/-- CLRK_MBR (0x30): branch (R318). -/
def execClrkMbr (w : Nat) (s : State) : Host.Outcome State Fault Refusal :=
  s.micro w 0x30 fun v s =>
    let c := fun (k : Nat) => if bits v (1 + 3 * k) 3 = 0 then 0 else bits (s.fld F.CLRK_COND_FLAGS w) (bits v (1 + 3 * k) 3) 1
    let next := bits v 13 13 ||| (c 0 + 2 * c 1 + 4 * c 2 + 8 * c 3)
    let s := if bit v 0 then s.setG w 14 (s.fld F.CLRK_PC_PC w + 1) else s
    s.setF F.CLRK_PC_PC w next

/-- CLRK_JR (0x31): next address := G[RA]. -/
def execClrkJr (w : Nat) (s : State) : Host.Outcome State Fault Refusal :=
  s.micro w 0x31 fun v s => s.setF F.CLRK_PC_PC w (s.greg w (mwRa v))

/-- CLRK_CMT (0x32): commit point with resume address IMM; the Clerk halts there where CLRK_CTL.HALT is 1 (R320, R321). -/
def execClrkCmt (w : Nat) (s : State) : Host.Outcome State Fault Refusal :=
  s.micro w 0x32 fun v s =>
    let a := mwImm v % 8192
    let cur := s.cursorNow w a
    let s := (s.setF F.CLRK_PC_RESUME w a).putClerk w { s.clerk w with wrote := false, last := cur, first := some ((s.clerk w).first.getD cur) }
    let s := s.nextPc w
    if s.flag F.CLRK_CTL_HALT w then (s.setF F.CLRK_STATUS_STATE w 3).putClerk w { s.clerk w with byHalt := true } else s

/-- CLRK_RPT (0x33): reports an eviction (IMM 0) at (G[RA], G[RB]), or an aged entry (IMM 1), which image E0 still shows. -/
def execClrkRpt (w : Nat) (s : State) : Host.Outcome State Fault Refusal :=
  s.micro w 0x33 fun v s =>
    let x := s.atRegs w v
    (if mwImm v = 0 then s.reportEvict (slotLedger (s.slot (w % 4) (4 * x.1 + x.2))) x.1 x.2
     else if mwImm v = 1 then s.ledgerStat (slotLedger ((s.imageOf w 0).getD x.2 0)) 5
     else s).nextPc w

/-- What the outcome of a learning routine counts as: 0 placed and 3 evicted INSERTS, 1 updated UPDATES, 4 NO_ROOM (the codes of ENTRY_WRITE;
DEDUCED, log entry 33). -/
def State.countOutcome (s : State) (g o : Nat) : State :=
  if o = 0 ∨ o = 3 then s.ledgerStat g 2 else if o = 1 then s.ledgerStat g 3 else if o = 4 then (s.ledgerStat g 7).note E.LDG_NO_ROOM else s

/-- CLRK_DONE (0x34): the routine ends with outcome IMM once every write of it has completed (R319). -/
def execClrkDone (w : Nat) (s : State) : Host.Outcome State Fault Refusal :=
  s.micro w 0x34 fun v s =>
    let c := s.clerk w
    if !c.posted.isEmpty then s
    else
      let s := match c.work with
        | some l => s.countOutcome l.ledger (mwImm v)
        | none => s
      let s := (s.setF F.CLRK_STATUS_STATE w 0).putClerk w { c with work := none, words := [], wrote := false, first := none, last := {}, urgent := 0 }
      let s := if c.overran && decide (32768 ≤ c.swept) && s.fld F.CLRK_STATUS_ROUTINE w == 3 then s.newSweep w else s
      s.haltIdle w

/-! ### CLERK_CONTROL (R330) -/

/-- A Clerk's control store written from the Teller's copy. -/
def State.reloadStore (s : State) (w : Nat) : State := s.each (List.range 8192) fun a s => s.wr R.CLRK_STORE (a + 8192 * w) (leAt s.boot.clerk (4 * a) 4)

/-- What CLERK_CONTROL adds to the checks of R94. -/
def State.clerkControlChecks (s : State) (r : Req) : Checks :=
      let a := r.arg A.CLERK_CONTROL_ACTION
      { Checks.plain C.CLERK_CONTROL with
        target := targetError 0x29 8 8 true r
        args := failIf ((r.instances 8).any fun w => (a == 1 || a == 2) && s.clerkState w != 2 || a == 3 && s.clerkState w != 3)
          (badArg A.CLERK_CONTROL_ACTION 1)
        units := [7] }

/-- What CLERK_CONTROL does once its checks have passed. -/
def State.clerkControlAct (s : State) (r : Req) : Ans :=
      let a := r.arg A.CLERK_CONTROL_ACTION
      let t := s.each (r.instances 8) fun w t =>
        let t := t.setF F.CLRK_CTL_HOLD_PARKED w (r.arg A.CLERK_CONTROL_HOLD_PARKED)
        if a = 1 then t.resumeClerk w
        else if a = 2 then t.discardCursor w
        else if a = 3 then
          let idle := (t.clerk w).byHalt && (t.clerk w).last.regs.isEmpty
          let t := (t.reloadStore w).setF F.CLRK_CTL_HALT w 0
          if idle then (t.setF F.CLRK_STATUS_STATE w 0).putClerk w { t.clerk w with byHalt := false } else t.resumeClerk w
        else t
      .ok t (w32 (t.rd R.CLRK_STATUS (if r.all then 0 else r.index)))

/-- CLERK_CONTROL (0x070B, R322, R330). -/
def execClerkControl (m : Nat) (s : State) : Host.Outcome State Fault Refusal :=
  .next (s.runCmd m C.CLERK_CONTROL s.clerkControlChecks s.clerkControlAct)

end Sys2Proof.Machine
end

