-- ==== Sys2Proof/Machine/Arith.lean ====
section
/-! DEFINITION. The Counting House's element types: exact sums, the single rounding, minima and maxima (R434, R440 to R444). -/
namespace Sys2Proof.Machine

/-- An element type: its bytes, exponent and fraction bits, its largest finite encoding, and whether it has infinities (R440, R441). -/
structure Etype where
  bytes : Nat
  ebits : Nat
  fbits : Nat
  maxFinite : Nat
  hasInf : Bool
  deriving DecidableEq, Repr

/-- ETYPE 0 FP32, 1 FP16, 2 BF16, 3 FP8 E4M3, 4 FP8 E5M2; INT32 (5) is apart. -/
def fpType (e : Nat) : Etype :=
  [⟨4, 8, 23, 0x7F7FFFFF, true⟩, ⟨2, 5, 10, 0x7BFF, true⟩, ⟨2, 8, 7, 0x7F7F, true⟩, ⟨1, 4, 3, 0x7E, false⟩, ⟨1, 5, 2, 0x7B, true⟩].getD e
    ⟨4, 8, 23, 0x7F7FFFFF, true⟩

/-- Bytes of an element (R434). -/
def elemBytes (e : Nat) : Nat := if e = 5 then 4 else (fpType e).bytes

/-- Sign and the encoding without it. -/
def fpSign (t : Etype) (x : Nat) : Bool := bit x (t.ebits + t.fbits)
def fpMag (t : Etype) (x : Nat) : Nat := x % 2 ^ (t.ebits + t.fbits)

/-- NaN and infinity encodings. -/
def fpNan (t : Etype) (x : Nat) : Bool := decide (t.maxFinite + b2n t.hasInf < fpMag t x)
def fpInf (t : Etype) (x : Nat) : Bool := t.hasInf && fpMag t x == t.maxFinite + 1

/-- A finite value in units of the type's smallest subnormal (R440). -/
def fpValue (t : Etype) (x : Nat) : Int :=
  let e := bits x t.fbits t.ebits
  let f := x % 2 ^ t.fbits
  let m := if e = 0 then f else (2 ^ t.fbits + f) * 2 ^ (e - 1)
  if fpSign t x then -(m : Int) else m

/-- The canonical NaN (R441). -/
def canonicalNan (t : Etype) : Nat :=
  if t.hasInf then (2 ^ t.ebits - 1) * 2 ^ t.fbits + 2 ^ (t.fbits - 1) else 0x7F

/-- An element added to its accumulator (R440, R441). -/
def addElem (e : Nat) (a : Acc) (x : Nat) : Acc :=
  if e = 5 then { a with sum := a.sum + toSigned 32 x, allNegZero := false }
  else
    let t := fpType e
    let nz := fpMag t x == 0 && fpSign t x
    if fpNan t x then { a with nan := true, allNegZero := false }
    else if fpInf t x then (if fpSign t x then { a with negInf := true, allNegZero := false } else { a with posInf := true, allNegZero := false })
    else { a with sum := a.sum + fpValue t x, allNegZero := a.allNegZero && nz }

/-- What min and max compare by (R443): −0 lies below +0. -/
def orderKey (e x : Nat) : Int :=
  if e = 5 then toSigned 32 x
  else
    let t := fpType e
    if fpSign t x then -(fpMag t x : Int) - 1 else fpMag t x

/-- An element taken into a minimum (OP 1) or maximum (OP 2). -/
def pickElem (e op : Nat) (a : Acc) (x : Nat) : Acc :=
  if e ≠ 5 ∧ fpNan (fpType e) x then { a with nan := true }
  else match a.best with
    | none => { a with best := some x }
    | some b =>
      let better := if op = 1 then decide (orderKey e x < orderKey e b) else decide (orderKey e b < orderKey e x)
      if better then { a with best := some x } else a

/-- An element of a contribution combined into a chunk (R437). The undefined OP 3 acts as 0. -/
def combineElem (e op : Nat) (a : Acc) (x : Nat) : Acc := if op = 1 ∨ op = 2 then pickElem e op a x else addElem e a x

/-- A magnitude in units of the type's smallest subnormal rounded to nearest, ties to even: its encoding, which lies above the largest finite one
where it overflows (R441). -/
def roundMag (t : Etype) (m : Nat) : Nat :=
  let n := if m = 0 then 0 else Nat.log2 m + 1
  if n ≤ t.fbits + 1 then m
  else
    let k := n - (t.fbits + 1)
    let q := m / 2 ^ k
    let r := m % 2 ^ k
    let q := if 2 ^ (k - 1) < r ∨ (r = 2 ^ (k - 1) ∧ q % 2 = 1) then q + 1 else q
    k * 2 ^ t.fbits + q

/-- The output element of a floating-point sum in type `t`, its accumulator in units 2^−`up` of it, and whether it overflowed (R441, R444). -/
def roundSum (t : Etype) (up : Nat) (a : Acc) : Nat × Bool :=
  let s := 2 ^ (t.ebits + t.fbits)
  if a.nan || (a.posInf && a.negInf) then (canonicalNan t, false)
  else if a.posInf then (t.maxFinite + 1, false)
  else if a.negInf then (s + t.maxFinite + 1, false)
  else if a.sum = 0 then (if a.allNegZero then s else 0, false)
  else
    let r := roundMag t (a.sum.natAbs * 2 ^ up)
    if t.maxFinite < r then (if t.hasInf then (t.maxFinite + 1 + (if a.sum < 0 then s else 0), true) else (canonicalNan t, true))
    else (r + (if a.sum < 0 then s else 0), false)

/-- The output element of a chunk, and whether it overflowed or was clamped (R441 to R444). -/
def finishElem (e op : Nat) (widen : Bool) (a : Acc) : Nat × Bool :=
  if op = 1 ∨ op = 2 then (if a.nan then canonicalNan (fpType e) else a.best.getD 0, false)
  else if e = 5 then
    (if a.sum < -(2 ^ 31) then (0x80000000, true) else if 2 ^ 31 ≤ a.sum then (0x7FFFFFFF, true) else (ofSigned 32 a.sum, false))
  else if widen && e == 1 then roundSum (fpType 0) 125 a
  else if widen && e == 2 then roundSum (fpType 0) 16 a
  else roundSum (fpType e) 0 a

/-- Bytes of an output element. -/
def outBytes (e op : Nat) (widen : Bool) : Nat := if widen && op != 1 && op != 2 && (e == 1 || e == 2) then 4 else elemBytes e

end Sys2Proof.Machine
end

