-- ==== Sys2Proof/Machine/CthFrames.lean ====
section
/-! DEFINITION. Counting frames: the counting header, result frames as finishing addresses them, and error frames (R433, R434, R439, R445). -/
namespace Sys2Proof.Machine

/-- A one's complement checksum of bytes. -/
def inetSum (l : List Byte) : Nat := 65535 - onesFold (onesSum l 0)

/-- The UDP checksum over IPv6 of source, destination and a UDP datagram whose checksum field is 0; 0 goes out as all ones. -/
def udp6Sum (src dst udp : List Byte) : Nat :=
  let c := inetSum (src ++ dst ++ beBytes 4 udp.length ++ beBytes 4 17 ++ udp)
  if c = 0 then 65535 else c

/-- The counting header (R433). -/
def cthHeader (etype op flags syn member chunk count code : Nat) : List Byte :=
  beBytes 4 (2 ^ 28 + etype % 16 * 2 ^ 24 + op % 4 * 2 ^ 22 + flags % 16 * 2 ^ 16 + syn % 256 * 2 ^ 8) ++ beBytes 4 (member % 1024 * 2 ^ 22)
    ++ beBytes 4 chunk ++ beBytes 4 (count % 65536 * 2 ^ 16 + code % 65536)

/-- A frame without its FCS padded to the 60 bytes of the shortest frame (PRESUMED of IEEE 802.3, log entry 44), with its FCS. -/
def padded (l : List Byte) : List Byte := withFcs (l ++ List.replicate (60 - l.length) 0#8)

/-- IPV6, PORT and VLAN of a member entry. -/
def memberIpv6 (e : List Byte) : Bool := bit (leAt e 24 4) 31
def memberPort (e : List Byte) : Nat := bits (leAt e 24 4) 16 10
def memberVlan (e : List Byte) : Bool := bit (leAt e 4 4) 31

/-- A frame of the Counting House to a member (R445): `data` is the counting header and the payload. What R445 does not give (TTL or hop limit,
identification, traffic class, flow label, flags, the tag's priority) comes from a free value. -/
def State.memberFrame (s : State) (entry data : List Byte) (free : Nat) : List Byte :=
  let eth := entry.take 6 ++ w32 (s.rd R.CTH_MAC_LO 0) ++ leBytes 2 (s.fld F.CTH_MAC_HI_MAC 0)
    ++ (if memberVlan entry then [0x81#8, 0x00#8] ++ beBytes 2 (free / 2 ^ 48 % 16 * 2 ^ 12 + bits (leAt entry 4 4) 16 12) else [])
  let udp := fun (c : Nat) => beBytes 2 (s.fld F.CTH_CFG_UDP_PORT 0) ++ beBytes 2 (leAt entry 24 2) ++ beBytes 2 (8 + data.length) ++ beBytes 2 c ++ data
  let body :=
    if memberIpv6 entry then
      let src := (List.range 4).flatMap fun w => w32 (s.rd R.CTH_ADDR6 w)
      let dst := (entry.drop 8).take 16
      [0x86#8, 0xDD#8] ++ beBytes 4 (6 * 2 ^ 28 + free % 2 ^ 28) ++ beBytes 2 (8 + data.length) ++ [17#8, BitVec.ofNat 8 (free / 2 ^ 28)] ++ src ++ dst
        ++ udp (udp6Sum src dst (udp 0))
    else
      let head := fun (c : Nat) => [0x45#8, BitVec.ofNat 8 free] ++ beBytes 2 (28 + data.length) ++ beBytes 2 (free / 2 ^ 8) ++ beBytes 2 (free / 2 ^ 24)
        ++ [BitVec.ofNat 8 (free / 2 ^ 40), 17#8] ++ beBytes 2 c ++ beBytes 4 (s.rd R.CTH_ADDR4 0) ++ (entry.drop 20).take 4
      [0x08#8, 0x00#8] ++ head (inetSum (head 0)) ++ udp 0
  padded (eth ++ body)

/-- The frame that stands in the vault for a result: the headers that finishing writes are 0 but for the IP version, which is that of the first of
its members (DESIGN CHOICE, log entry 45). -/
def cthTemplate (ipv6 : Bool) (data : List Byte) : List Byte :=
  if ipv6 then padded (List.replicate 14 0#8 ++ [0x60#8] ++ List.replicate 47 0#8 ++ data)
  else padded (List.replicate 14 0#8 ++ [0x45#8] ++ List.replicate 27 0#8 ++ data)

/-- The counting header and payload of a stored template: COUNT elements of the output type. -/
def templateData (fr : List Byte) : List Byte :=
  let h := if byteAt fr 14 / 16 = 6 then 62 else 42
  let e := byteAt fr h % 16
  let n := beAt fr (h + 12) 2 * (if e = 5 ∨ e = 0 then 4 else if e = 1 ∨ e = 2 then 2 else 1)
  (fr.drop h).take (16 + n)

/-- What finishing makes of a result copy: MEMBER and the addresses of its member's entry (R445). -/
def State.cthFinish (s : State) (entry : List Byte) (member : Nat) (fr : List Byte) : State × List Byte :=
  let data := patch (templateData fr) 4 (beBytes 4 (member % 1024 * 2 ^ 22))
  (s.tookFree, s.memberFrame entry data s.freeVal)

/-- Bytes [i, i + n) and [j, j + n) of a list exchanged. -/
def swapBytes (l : List Byte) (i j n : Nat) : List Byte := patch (patch l i ((l.drop j).take n)) j ((l.drop i).take n)

/-- An error frame (R439): the offending frame's headers with their addresses exchanged, FLAGS.ERROR, COUNT 0, the code and no payload. `ip` and `udp`
are the offsets of its IP and UDP headers. What the spec does not name stays as the offending frame has it (DEDUCED, log entry 46). -/
def errorFrame (fr : List Byte) (ip udp code : Nat) : List Byte :=
  let f := fr.take (fr.length - 4)
  let f := (f ++ List.replicate (udp + 24 - f.length) 0#8).take (udp + 24)
  let f := swapBytes f 0 6 6
  let f := swapBytes f udp (udp + 2) 2
  let f := patch f (udp + 4) (beBytes 2 24 ++ [0#8, 0#8])
  let h := udp + 8
  let f := patch f (h + 1) [BitVec.ofNat 8 (byteAt f (h + 1) ||| 2)]
  let f := patch f (h + 12) (beBytes 2 0 ++ beBytes 2 code)
  if byteAt f ip / 16 = 6 then
    let f := swapBytes f (ip + 8) (ip + 24) 16
    let f := patch f (ip + 4) (beBytes 2 (udp - ip - 40 + 24))
    padded (patch f (udp + 6) (beBytes 2 (udp6Sum ((f.drop (ip + 8)).take 16) ((f.drop (ip + 24)).take 16) (f.drop udp))))
  else
    let f := swapBytes f (ip + 12) (ip + 16) 4
    let f := patch f (ip + 2) (beBytes 2 (udp - ip + 24))
    let f := patch f (ip + 10) [0#8, 0#8]
    padded (patch f (ip + 10) (beBytes 2 (inetSum ((f.drop ip).take (4 * (byteAt f ip % 16))))))

end Sys2Proof.Machine
end

