-- ==== Sys2Proof/Machine/Gates.lean ====
section
/-! DEFINITION. Gate lists: the entry in force, windows, and cuts at a closing gate (R416 to R422). -/
namespace Sys2Proof.Machine

/-- A gate entry: DURATION_NS, GATES, and PHASE where it is sent. -/
structure GateEntry where
  dur : Nat
  gates : Nat
  phase : Option Nat
  deriving DecidableEq, Repr

/-- BAR2 offset of entry `e` of bank `b` of port `p` (R427). -/
def gateEntryAt (p b e : Nat) : Nat := 0x5400000 + 0x1000 * p + 0x800 * b + 8 * e

/-- The entry that eight bytes, read as one number, hold. -/
def gateEntryOf (v : Nat) : GateEntry := ⟨bits v 0 32, bits v 32 16, if bits v 52 1 = 1 then some (bits v 48 4) else none⟩

/-- COUNT, CYCLE_NS and BASE in ns of a bank. COUNT and CYCLE_NS of 0 act as 1 (R625). -/
def State.gateCount (s : State) (p b : Nat) : Nat := clamp 1 256 (bits (s.rd R.TIM_GATE_BASE_SEC_HI (b + 2 * p)) 16 9)
def State.gateCycle (s : State) (p b : Nat) : Nat := clamp 1 1000000000 (s.rd R.TIM_GATE_CYCLE_NS (b + 2 * p))
def State.gateBase (s : State) (p b : Nat) : Nat :=
  (s.rd R.TIM_GATE_BASE_SEC_LO (b + 2 * p) + 2 ^ 32 * bits (s.rd R.TIM_GATE_BASE_SEC_HI (b + 2 * p)) 0 16) * 1000000000
    + s.rd R.TIM_GATE_BASE_NS (b + 2 * p)

/-- The entries of a bank. -/
def State.gateList (s : State) (p b : Nat) : List GateEntry :=
  (List.range (s.gateCount p b)).map fun e => gateEntryOf (s.arrNat (gateEntryAt p b e) 8)

/-- The segments of one cycle: start, end, entry number and entry. An entry of duration 0 is skipped but for the last, which runs to the cycle's
end, where every entry past it is cut off (R416). -/
def segments (cycle : Nat) : Nat → Nat → List GateEntry → List (Nat × Nat × Nat × GateEntry)
  | _, _, [] => []
  | i, acc, [e] => if acc < cycle then [(acc, cycle, i, e)] else []
  | i, acc, e :: t =>
    let stop := min cycle (acc + e.dur)
    (if acc < stop then [(acc, stop, i, e)] else []) ++ segments cycle (i + 1) (acc + e.dur) t

def State.gateSegments (s : State) (p b : Nat) : List (Nat × Nat × Nat × GateEntry) :=
  segments (s.gateCycle p b) 0 0 (s.gateList p b)

/-- Position in its cycle of bank `b`'s list at `t` ns. -/
def State.gatePos (s : State) (p b t : Nat) : Nat := (t - s.gateBase p b) % s.gateCycle p b

/-- The number and the entry in force at `t` ns, and the position at which it starts. -/
def State.gateEntry (s : State) (p b t : Nat) : Nat × Nat × GateEntry :=
  match (s.gateSegments p b).find? fun g => decide (g.1 ≤ s.gatePos p b t) && decide (s.gatePos p b t < g.2.1) with
  | some (a, _, i, e) => (i, a, e)
  | none => (0, 0, ⟨0, 0xFFFF, none⟩)

def State.gate (s : State) (p : Nat) : Gate := Tab.get {} s.tim.gates p
def State.putGate (s : State) (p : Nat) (g : Gate) : State := { s with tim := { s.tim with gates := Tab.set {} s.tim.gates p g } }

/-- The bank in force. -/
def State.gateBank (s : State) (p : Nat) : Nat := s.fld F.TIM_GATE_CFG_ACTIVE_BANK p

/-- The gate vector of a port at `t` ns, changes that come due before `t` included (R416, R418). -/
def State.gateVector (s : State) (p t : Nat) : Nat :=
  let g := s.gate p
  let due := fun (o : Option Nat) => match o with
    | some c => decide (c ≤ t)
    | none => false
  if !s.flag F.TIM_GATE_CFG_GATE_EN p || due g.endTc then 0xFFFF
  else if due g.tc then (s.gateEntry p (1 - s.gateBank p) t).2.2.gates
  else if g.started then (s.gateEntry p (s.gateBank p) t).2.2.gates
  else s.fld F.TIM_GATE_CFG_ADMIN_GATES p

/-- The first instant in [t, lim) at which the list of bank `b` closes queue `q`, looking over `n` cycles from the one that holds `t`. -/
def State.firstClosed (s : State) (p b q t lim : Nat) : Option Nat :=
  let cyc := s.gateCycle p b
  let start := t - s.gatePos p b t
  let n := (lim - start) / cyc + 1
  let segs := s.gateSegments p b
  ((List.range n).flatMap fun c => segs.map fun g => (start + c * cyc + g.1, start + c * cyc + g.2.1, bit g.2.2.2.gates q)).findSome? fun x =>
    if !x.2.2 && decide (t < x.2.1) && decide (max t x.1 < lim) then some (max t x.1) else none

/-- The window of queue `q` at `t` ns, its gate open then: none where it is unbounded (R418). -/
def State.gateWindow (s : State) (p q t : Nat) : Option Nat :=
  let g := s.gate p
  let b := s.gateBank p
  let far := 2 ^ 80
  let endTc := g.endTc.getD far
  let tc := g.tc.getD far
  if !s.flag F.TIM_GATE_CFG_GATE_EN p || decide (endTc ≤ t) || !(g.started || decide (tc ≤ t)) then none
  else
    let c := match g.tc with
      | some _ => max (s.gateCycle p b) (s.gateCycle p (1 - b))
      | none => s.gateCycle p b
    let lim := t + 2 * c + 1
    let first := if tc ≤ t then none else s.firstClosed p b q t (min lim (min tc endTc))
    match first with
    | some u => some (u - t)
    | none => if tc < lim then (s.firstClosed p (1 - b) q (max t tc) lim).map fun u => u - t else none

/-- Normal service applies to a frame of `L` bytes of queue `q` (R419); fit-check otherwise. -/
def State.normalService (s : State) (p q L : Nat) : Bool :=
  s.mode == 4 && s.fld F.MAC_PREEMPT_STATUS_STATE p == 2 && !bit (s.fld F.MAC_PREEMPT_CFG_EXPRESS_QMASK p) q
    && decide (124 + 64 * s.fld F.MAC_PREEMPT_CFG_ADD_FRAG_SIZE p ≤ L)

/-- LEN_OVERHEAD of a port added to a length (R213); a value below −32 acts as −32 (R625). -/
def State.lenOf (s : State) (p L : Nat) : Nat := ((L : Int) + max (-32) (toSigned 7 (s.fld F.MAC_CFG_LEN_OVERHEAD p))).toNat

/-- The line rate in units of 100 Mb/s; 204.2 Gb/s on a Stitch port (R419). -/
def State.lineRate (s : State) (p : Nat) : Nat := if s.speed p = 5 then 2042 else 10 * speedGbps (s.speed p)

/-- The gate test of R419 at `t` ns: the queue passes; and it fails only because its frame does not fit. -/
def State.gateTest (s : State) (p q L t : Nat) : Bool × Bool :=
  if !bit (s.gateVector p t) q then (false, false)
  else if s.normalService p q L then (true, false)
  else match s.gateWindow p q t with
    | none => (true, false)
    | some w => if s.lenOf p L * 80 ≤ w * s.lineRate p then (true, false) else (false, true)

/-- Advances counter `k` of a port's TIM_PORT_STAT. -/
def State.timStat (s : State) (p k : Nat) : State := s.count64 R.TIM_PORT_STAT_LO R.TIM_PORT_STAT_HI (k + 8 * p) 1

/-! ### Cutting a frame -/

/-- Bytes of a frame sent so far on a port: those of earlier fragments and those of the present one, whose preamble is 8 bytes. -/
def State.sentBytes (s : State) (p : Nat) (x : Sending) : Nat := x.sent + ((s.now - x.since) * s.lineRate p / 80 - 8)

/-- The first preemption point of the frame in transmission at or after the present byte: a fragment holds at least 60 + 64 × ADD_FRAG_SIZE
bytes, ends on 8 bytes, and leaves at least 64 (R223, R419, R420). -/
def State.cutPoint (s : State) (p : Nat) (x : Sending) (L : Nat) : Option Nat :=
  let least := x.sent + 60 + 64 * s.fld F.MAC_PREEMPT_CFG_ADD_FRAG_SIZE p
  let done := s.sentBytes p x
  let n := if done ≤ least then least else ceilDiv done 8 * 8
  if n + 64 ≤ L then some n else none

/-- The preemptable frame in transmission is cut at its next preemption point, if it has one; its remainder waits (R223, R374, R420). -/
def State.cutFrame (s : State) (p : Nat) (byGate : Bool) : State :=
  let m := s.mac p
  match m.sending with
  | some x =>
    if x.express then s
    else match s.copy? x.copy with
      | none => s
      | some c => match s.cutPoint p x c.bytes.length with
        | none => s
        | some n =>
          let s := s.putMac p { m with sending := none, preempted := some { x with sent := n }, cutByGate := byGate }
          let s := s.macStat p 19 1
          if byGate then s.timStat p 6 else s
  | none => s

/-- A port's gate status brought in line with the list at the present instant (TIM_GATE_STATUS), the entry's phase requested (R422), a new
cycle counted, and a frame in normal service whose gate has closed cut (R420). -/
def State.enterGateEntry (s : State) (p : Nat) : State :=
  let t := s.netNs
  let g := s.gate p
  let b := s.gateBank p
  let fit := !(s.mode == 4 && s.fld F.MAC_PREEMPT_STATUS_STATE p == 2)
  let s := (s.setF F.TIM_GATE_STATUS_GATES p (s.gateVector p t)).setF F.TIM_GATE_STATUS_FIT_CHECK p (b2n fit)
  if !s.flag F.TIM_GATE_CFG_GATE_EN p || !g.started then s.setF F.TIM_GATE_STATUS_ENTRY p 0
  else
    let e := s.gateEntry p b t
    let s := s.setF F.TIM_GATE_STATUS_ENTRY p e.1
    let cyc := (t - s.gateBase p b) / s.gateCycle p b
    let s := if g.cycle = some cyc then s else
      (s.wr R.TIM_GATE_CYCLES p (satBits 32 (s.rd R.TIM_GATE_CYCLES p + 1))).putGate p { g with cycle := some cyc }
    let s := match e.2.2.phase with
      | some ph => if s.flag F.TIM_GATE_CFG_PHASE_EN p then { s with tim := { s.tim with phase := Tab.set none s.tim.phase p (some ph) } } else s
      | none => s
    match (s.mac p).sending with
    | some x => match s.copy? x.copy with
      | some c => if !x.fit && !x.express && decide (c.queue < 16) && !bit e.2.2.gates c.queue then s.cutFrame p true else s
      | none => s
    | none => s

/-- The first BASE + n × CYCLE_NS of a bank that lies at least 10 µs ahead (R417). -/
def State.changeover (s : State) (p b : Nat) : Nat := firstMultiple (s.gateBase p b) (s.gateCycle p b) (s.netNs + 10000)

/-- A changeover of the pending bank is armed (R417, R427). -/
def State.armChange (s : State) (p : Nat) : State :=
  let tc := s.changeover p (1 - s.gateBank p)
  let s := s.putGate p { s.gate p with tc := some tc }
  (s.setF F.TIM_GATE_CFG_CHANGE_PENDING p 1).wr R.TIM_GATE_CHANGE p (tc % 2 ^ 32)

end Sys2Proof.Machine
end

