-- ==== Sys2Proof/Machine/Queues.lean ====
section
/-! DEFINITION. Egress queues, virtual time, shapers and the energy purse (R358 to R373). -/
namespace Sys2Proof.Machine

/-- Advances counter `k` of QSC_GSTAT. -/
def State.qscStat (s : State) (k : Nat) : State := s.count64 R.QSC_GSTAT_LO R.QSC_GSTAT_HI k 1

/-- The descriptors of queue number `q`, head first, and its depth in folios. -/
def State.queue (s : State) (q : Nat) : List Nat := Tab.get [] s.queues q
def State.depth (s : State) (q : Nat) : Nat := s.fld F.QSC_Q_DEPTH_FOLIOS q

/-- Queue `k` of port `p` is a designated express queue (R376). -/
def State.expressQueue (s : State) (p k : Nat) : Bool :=
  (k == 14 && bit (s.fld F.QSC_PORT_CFG_EXPRESS_Q p) 0) || (k == 15 && bit (s.fld F.QSC_PORT_CFG_EXPRESS_Q p) 1)

/-! ### Virtual time (R365) -/

/-- Tag a is earlier than tag b. Equal tags are neither earlier nor later (DEDUCED from the worked example, log entry 34). -/
def earlier (a b : Nat) : Bool := a != b && decide ((b + 2 ^ 48 - a) % 2 ^ 48 < 2 ^ 47)

/-- The later of two tags. -/
def laterTag (a b : Nat) : Nat := if earlier a b then b else a

def State.tier (s : State) (q : Nat) : Nat := s.fld F.QSC_Q_CFG_TIER q

/-- V of tier `t` of a port. -/
def State.vclock (s : State) (p t : Nat) : Nat := s.rd64 R.QSC_PORT_VCLOCK_LO R.QSC_PORT_VCLOCK_HI (t + 4 * p) % 2 ^ 48
def State.setVclock (s : State) (p t v : Nat) : State := s.wr64 R.QSC_PORT_VCLOCK_LO R.QSC_PORT_VCLOCK_HI (t + 4 * p) (v % 2 ^ 48)

/-- Start and finish tag of a queue's head frame. -/
def State.startTag (s : State) (q : Nat) : Nat := s.rd64 R.QSC_Q_START_LO R.QSC_Q_START_HI q % 2 ^ 48
def State.finishTag (s : State) (q : Nat) : Nat := s.rd64 R.QSC_Q_FINISH_LO R.QSC_Q_FINISH_HI q % 2 ^ 48
def State.setTags (s : State) (q a b : Nat) : State :=
  (s.wr64 R.QSC_Q_START_LO R.QSC_Q_START_HI q (a % 2 ^ 48)).wr64 R.QSC_Q_FINISH_LO R.QSC_Q_FINISH_HI q (b % 2 ^ 48)

def State.lastFinish (s : State) (q : Nat) : Nat := Tab.get 0 s.qsc.lastFinish q
def State.setLastFinish (s : State) (q v : Nat) : State := { s with qsc := { s.qsc with lastFinish := Tab.set 0 s.qsc.lastFinish q v } }

/-- The finish tag that follows a start tag for a frame of `L` bytes; a WEIGHT of 0 acts as 1 (R625). -/
def State.finishAfter (s : State) (q start L : Nat) : Nat :=
  (start + s.lenOf (q / 16) L * 65536 / max 1 (s.fld F.QSC_Q_CFG_WEIGHT q)) % 2 ^ 48

/-- The start tag of a frame that reaches the head of a queue. -/
def State.headStart (s : State) (q : Nat) (wasEmpty : Bool) : Nat :=
  if wasEmpty then laterTag (s.vclock (q / 16) (s.tier q)) (s.lastFinish q) else s.lastFinish q

/-- Tags of a head frame of `L` bytes taken from a start tag. -/
def State.tagFrom (s : State) (q start L : Nat) : State := s.setTags q start (s.finishAfter q start L)

/-! ### Token buckets (R367 to R369) -/

/-- A bucket's tokens, in units of which `u` make a byte, at `flow`: an unlisted bucket is full. -/
def bucketNow (b : Option Bucket) (flow rate burst u : Nat) : Int :=
  match b with
  | none => (burst * u : Nat)
  | some x => min (burst * u : Nat) (x.tok + rate * (flow - x.flow) : Int)

/-- Units to a byte of a shaper's tokens: its RATE is then tokens per 2^−16 ns. The register's 24 fraction bits lie within them (DESIGN CHOICE, log
entry 35). -/
def shaperUnit : Nat := 65536 * 1000000
def policerUnit : Nat := 32 * shaperUnit

/-- RATE and BURST; a value outside its range acts as the nearest (R625). -/
def State.queueRate (s : State) (q : Nat) : Nat := clamp 1 200000000 (s.fld F.QSC_Q_RATE_VALUE q)
def State.queueBurst (s : State) (q : Nat) : Nat := clamp 1 16777215 (s.fld F.QSC_Q_BURST_VALUE q)
def State.portRate (s : State) (p : Nat) : Nat := clamp 1 200000000 (s.fld F.QSC_PORT_RATE_VALUE p)
def State.portBurst (s : State) (p : Nat) : Nat := s.fld F.QSC_PORT_BURST_VALUE p

/-- The policer's rate: EXP_SHARE ÷ 256 of the port speed (R377). -/
def State.expRate (s : State) (p : Nat) : Nat :=
  (if s.speed p = 5 then 2042 else 10 * speedGbps (s.speed p)) * clamp 1 255 (s.fld F.QSC_PORT_CFG_EXP_SHARE p) * 15625 / 10
def State.expBurst (s : State) (p : Nat) : Nat := clamp 64 16777215 (s.fld F.QSC_PORT_EXP_BURST_EXP_BURST p)

def State.queueTokens (s : State) (q : Nat) : Int :=
  bucketNow (Tab.get none s.qsc.queueTok q) s.tim.flow (s.queueRate q) (s.queueBurst q) shaperUnit
def State.portTokens (s : State) (p : Nat) : Int :=
  bucketNow (Tab.get none s.qsc.portTok p) s.tim.flow (s.portRate p) (s.portBurst p) shaperUnit
def State.expTokens (s : State) (p : Nat) : Int :=
  bucketNow (Tab.get none s.qsc.expTok p) s.tim.flow (s.expRate p) (s.expBurst p) policerUnit

def State.setQueueTokens (s : State) (q : Nat) (t : Int) : State :=
  { s with qsc := { s.qsc with queueTok := Tab.set none s.qsc.queueTok q (some ⟨t, s.tim.flow⟩) } }
def State.setPortTokens (s : State) (p : Nat) (t : Int) : State :=
  { s with qsc := { s.qsc with portTok := Tab.set none s.qsc.portTok p (some ⟨t, s.tim.flow⟩) } }
def State.setExpTokens (s : State) (p : Nat) (t : Int) : State :=
  { s with qsc := { s.qsc with expTok := Tab.set none s.qsc.expTok p (some ⟨t, s.tim.flow⟩) } }

/-- A write of RATE, BURST or the enable resets a shaper's tokens (R369, R377). -/
def State.resetQueueTokens (s : State) (q : Nat) : State :=
  s.setQueueTokens q (if s.flag F.QSC_Q_CFG_TOKEN_RESET q then (s.queueBurst q * shaperUnit : Nat) else 0)
def State.resetPortTokens (s : State) (p : Nat) : State :=
  s.setPortTokens p (if s.flag F.QSC_PORT_CFG_TOKEN_RESET p then (s.portBurst p * shaperUnit : Nat) else 0)
def State.resetExpTokens (s : State) (p : Nat) : State := s.setExpTokens p (s.expBurst p * policerUnit : Nat)

/-- Signed whole bytes of a bucket as its register shows them. -/
def wholeBytes (t : Int) (u : Nat) : Nat := ofSigned 32 (t.fdiv u)

/-! ### The purse (R370 to R373) -/

/-- 1/16 pJ in a nJ. -/
def nJ : Nat := 16000

/-- ALLOWANCE × PURSE_MAX_MULT of a pipeline; a multiple of 0 acts as 1 (R625). -/
def State.purseMax (s : State) (i : Nat) : Int :=
  (s.fld F.QSC_PURSE_ALLOW_ALLOWANCE i * max 1 (s.fld F.QSC_ENERGY_CFG_PURSE_MAX_MULT 0) * nJ : Nat)

/-- A pipeline's purse: held at its maximum under an unlimited allowance. -/
def State.purse (s : State) (i : Nat) : Int :=
  if s.fld F.QSC_PURSE_ALLOW_ALLOWANCE i = 65535 then s.purseMax i else (Tab.get none s.qsc.purse i).getD (s.purseMax i)

def State.setPurse (s : State) (i : Nat) (v : Int) : State := { s with qsc := { s.qsc with purse := Tab.set none s.qsc.purse i (some v) } }

/-- A debit; the purse saturates at −2^23 nJ (R371), and the period's debits are summed (R541). -/
def State.debit (s : State) (i n : Nat) : State :=
  let s := { s with gov := { s.gov with debited := s.gov.debited + n } }
  s.setPurse i (max (-(2 ^ 23 * nJ : Nat)) (s.purse i - n))

/-- The refill of a 100 ns report (R370), with PURSE_HELD and its event. -/
def State.refillPurse (s : State) (i allowance : Nat) : State :=
  let before := s.purse i
  let s := s.setF F.QSC_PURSE_ALLOW_ALLOWANCE i allowance
  let s := s.setPurse i (if allowance = 65535 then s.purseMax i else min (s.purseMax i) (before + (allowance * nJ : Nat)))
  if s.purse i < 0 then (s.inc F.QSC_PURSE_HELD_INTERVALS i).note E.QSC_PURSE_NEGATIVE else s

/-- Energy of a copy of `L` bytes at COST_c, with the surcharge of a shared copy, in 1/16 pJ (R371). -/
def State.energy (s : State) (c L : Nat) (shared : Bool) : Nat :=
  L * s.fld F.QSC_ENERGY_COST_COST c + (if shared then s.fld F.QSC_ENERGY_CFG_REPL_SURCHARGE 0 * 1000 else 0)

/-- A queue is essential (R373). The undefined mode 3 acts as 0 (R625). -/
def State.essential (s : State) (p k : Nat) : Bool :=
  let m := s.fld F.QSC_Q_CFG_ESSENTIAL_MODE (16 * p + k)
  if m = 1 then true
  else if m = 2 then false
  else s.expressQueue p k
    || (s.flag F.TIM_GATE_CFG_GATE_EN p && (s.gate p).started && (s.gateList p (s.gateBank p)).any fun e => !bit e.gates k)
    || (List.range 8).any fun q =>
      (bit (s.fld F.MAC_PFC_CFG_RX_EN p) q || bit (s.fld F.MAC_PFC_CFG_TX_EN p) q) && bit (s.pfcMap p q) k

/-! ### The head of a queue -/

/-- The descriptor at the head of a queue. -/
def State.headDesc (s : State) (q : Nat) : Option Desc := (s.queue q).head?.bind fun d => s.desc? d

/-- A queue loses its head frame, which its caller has in hand. -/
def State.popQueue (s : State) (q : Nat) : State :=
  match s.queue q with
  | [] => s
  | d :: t =>
    let n := ((s.desc? d).map fun v => v.folios).getD 0
    ((({ s with queues := Tab.set [] s.queues q t }).setF F.QSC_Q_DEPTH_FOLIOS q (s.depth q - n)).dec F.QSC_Q_FRAMES_FRAMES q)

/-- A copy is discarded at dequeue: EGRESS frees it (R336, R348); `count` says whether it counts in TX_DOWN_DISCARD. -/
def State.discardHead (s : State) (q : Nat) (count : Bool) : State :=
  match s.queue q with
  | [] => s
  | d :: _ =>
    let s := (s.popQueue q).releaseDesc 1 d
    if count then s.macStat (q / 16) 18 1 else s

/-- ns from now to a launch time, modulo 2^32 (R410). -/
def State.launchIn (s : State) (l : Nat) : Nat := (l + 2 ^ 32 - s.stamp) % 2 ^ 32

def State.setLate (s : State) (q : Nat) (b : Bool) : State := { s with qsc := { s.qsc with late := Tab.set false s.qsc.late q b } }

/-- LAUNCH_HORIZON_MS of a port; a value outside 1 to 2,000 acts as the nearest (R625). -/
def State.horizon (s : State) (p : Nat) : Nat := clamp 1 2000 (s.fld F.TIM_PORT_CFG_LAUNCH_HORIZON_MS p)

/-- A frame reaches the head of queue `q`: its launch time is judged, a frame whose launch time is too far is discarded, and tags are taken
(R365, R410). `n` bounds the frames looked at. -/
def State.arrive (s : State) (q : Nat) (wasEmpty : Bool) : Nat → State
  | 0 => s
  | n + 1 =>
    match s.headDesc q with
    | none => s.setLate q false
    | some v =>
      let p := q / 16
      let d := (v.launch.map fun l => s.launchIn l).getD 0
      if v.launch.isSome ∧ d < 2 ^ 31 ∧ s.horizon p * 1000000 < d then
        let s := ((s.timStat p 5).setCounted F.TIM_PORT_STATUS_FAR F.TIM_PORT_EVCOUNT_FAR_COUNT p).note E.TIM_LAUNCH_FAR
        State.arrive (s.discardHead q false) q wasEmpty n
      else
        let s := s.setLate q (v.launch.isSome && decide (2 ^ 31 ≤ d))
        if s.expressQueue p (q % 16) then s else s.tagFrom q (s.headStart q wasEmpty) v.length

/-- The head of a queue has changed. -/
def State.newHead (s : State) (q : Nat) (wasEmpty : Bool) : State := s.arrive q wasEmpty ((s.queue q).length + 1)

/-! ### Enqueue (R359, R336) -/

/-- R359 refuses a frame of a colour. -/
def State.limitHit (s : State) (q colour : Nat) : Bool :=
  let lim := if colour = 0 then s.fld F.QSC_Q_LIMIT_A_CAP q else if colour = 1 then s.fld F.QSC_Q_LIMIT_A_YELLOW q else s.fld F.QSC_Q_LIMIT_B_RED q
  lim != 0 && decide (16 * lim ≤ s.depth q)

/-- A frame refused under R359. -/
def State.queueDrop (s : State) (q colour : Nat) : State :=
  (((s.tally (queueStatAt q (2 + min 2 colour)) 1).qscStat 4).setCounted F.QSC_Q_STATUS_DROP F.QSC_Q_STATUS_DROP_COUNT q).note E.QSC_QUEUE_DROP

/-- A descriptor joins a queue at its end. -/
def State.joinQueue (s : State) (q k folios : Nat) : State :=
  let l := s.queue q
  let s := match l.getLast?.bind fun d => (s.desc? d).map fun v => (d, v) with
    | some (d, v) => s.putDesc d (some { v with next := k % dieDescs })
    | none => s
  let s := (({ s with queues := Tab.set [] s.queues q (l ++ [k]) }).setF F.QSC_Q_DEPTH_FOLIOS q (s.depth q + folios)).addSat F.QSC_Q_FRAMES_FRAMES q 1
  if l.isEmpty then s.newHead q true else s

/-- Where a copy of a frame goes: port, queue, edit index, launch time, and whether marginalia is to be appended. -/
structure Target where
  port : Nat
  queue : Nat
  edit : Nat := 0
  launch : Option Nat := none
  marginalia : Bool := false
  deriving DecidableEq, Repr

/-- The descriptors that copies on a list of dies would take, or none where one is refused (R344). -/
def State.pickDescs (s : State) (pool : Nat) : List Nat → Option (List Nat)
  | [] => some []
  | d :: t => match s.pickDesc d pool with
    | none => none
    | some k => (State.pickDescs (s.takeDesc k {}) pool t).map fun l => k :: l

/-- A frame is stored for its copies and joins their queues, or is refused (R336, R338 to R344, R359). `home` is the die of its ingress pipeline,
which holds a frame replicated to both dies. A frame refused one descriptor is dropped whole. -/
def State.storeCopies (s : State) (home : Nat) (v : Desc) (bs : List Byte) (ts : List Target) : State × Bool :=
  let hit := fun (t : Target) => s.limitHit (16 * t.port + t.queue) v.colour
  let keep := ts.filter fun t => !hit t
  let s := s.each (ts.filter hit) fun t s => s.queueDrop (16 * t.port + t.queue) v.colour
  match keep with
  | [] => (s, false)
  | t0 :: _ =>
    let dies := keep.map fun t => spineOfLane t.port
    let d := if dies.all fun x => x == spineOfLane t0.port then spineOfLane t0.port else home
    if !s.poolOn v.pool then (s.poolStat v.pool 2 1, false)
    else match s.pickDescs v.pool dies with
    | none => (s.poolDrop d v.pool true, false)
    | some ks => match s.storeFrame d v.pool v.unit keep.length bs with
      | (t, none) => (t, false)
      | (t, some (first, n)) =>
        let v := { v with length := bs.length, shared := decide (1 < keep.length), first := first, folios := n, pocket := pocketOf bs, enqStamp := s.stamp }
        let t := t.each (keep.zip ks) fun x t =>
          (t.takeDesc x.2 { v with launch := x.1.launch, edit := x.1.edit, marginalia := x.1.marginalia }).joinQueue (16 * x.1.port + x.1.queue) x.2 n
        (((t.settleDie 0).settleDie 1), true)

/-- A queue's launch time for a frame without one (R409). The undefined mode 3 acts as 0 (R625). -/
def State.queueLaunch (s : State) (q rx : Nat) (lead : Option Nat) : Option Nat :=
  let m := s.fld F.TIM_Q_LAUNCH_MODE q
  let off := s.fld F.TIM_Q_LAUNCH_OFFSET_NS q
  if m = 1 then some ((rx + off) % 2 ^ 32) else if m = 2 then some ((lead.getD rx + off) % 2 ^ 32) else none

/-- A copy carries marginalia (R509, R510). -/
def State.selectsMarginalia (s : State) (egress : Nat) (marked : Bool) : Bool :=
  s.fld F.MRG_PORT_CFG_FORM egress != 0 && (s.flag F.MRG_CFG_ALL 0 || s.flag F.MRG_PORT_CFG_SEL_OUT egress || marked)

/-- The queues as an entry to Provisioned leaves them (R382). -/
def State.enterQueues (s : State) : State :=
  let keys := fun (a : Nat) => decide (0x38100000 ≤ a ∧ a < 0x38200000 ∧ (a % 64 = 0x18 ∨ a % 64 = 0x1C ∨ a % 64 = 0x20 ∨ a % 64 = 0x24 ∨ a % 64 = 0x28
    ∨ a % 64 = 0x2C)) || decide (0x38040000 ≤ a ∧ a < 0x38050000 ∧ 0x10 ≤ a % 64 ∧ a % 64 < 0x30) || decide (0x38000104 ≤ a ∧ a < 0x38000300 ∧ a % 16 = 4)
  { s.resetRegs keys with queues := [], qsc := { started := true } }

end Sys2Proof.Machine
end

