-- ==== Sys2Proof/Machine/Finish.lean ====
section
/-! DEFINITION. Finishing: ECN marks, marginalia and the stamps inserted at the stamp point (R360, R406 to R408, R509 to R514). -/
namespace Sys2Proof.Machine

/-- Advances counter `k` of MRG_GSTAT by `n`. -/
def State.mrgStat (s : State) (k n : Nat) : State := s.count64 R.MRG_GSTAT_LO R.MRG_GSTAT_HI k n

/-! ### ECN (R360) -/

/-- A frame with CE set in its outer IP header, or none where its ECN field does not read ECT(0) or ECT(1). The IPv4 header checksum is kept valid
(DEDUCED, log entry 36). -/
def setCe (fr : List Byte) : Option (List Byte) :=
  let e := etherTypeAt fr
  let ip := e + 2
  if beAt fr e 2 = 0x0800 then
    let t := byteAt fr (ip + 1)
    if t % 4 = 1 ∨ t % 4 = 2 then
      let w := beBytes 2 (beAt fr ip 2 ||| 3)
      let c := onesAdjust (beAt fr (ip + 10) 2) ((fr.drop ip).take 2) w
      some (patch (patch fr ip w) (ip + 10) (beBytes 2 c))
    else none
  else if beAt fr e 2 = 0x86DD then
    let t := byteAt fr (ip + 1) / 16 % 4
    if t = 1 ∨ t = 2 then some (patch fr (ip + 1) [BitVec.ofNat 8 (byteAt fr (ip + 1) ||| 0x30)]) else none
  else none

/-! ### The trailer (R511, R512) -/

/-- What a marginalia record says beside its stamps, as it stood at selection. -/
structure MrgInfo where
  hop : Nat
  flags : Nat
  posting : Nat
  ingress : Nat
  egress : Nat
  queue : Nat
  cls : Nat
  colour : Nat
  inStamp : Nat
  depth : Nat
  throttle : Nat
  purse : Int
  op : Nat
  node : Nat
  deriving DecidableEq, Repr

/-- CHECK put into a record. -/
def sealRecord (r : List Byte) : List Byte := patch r 28 (beBytes 2 (crc16 (r.take 28)))

/-- The 32-byte record, EGRESS_STAMP still 0. -/
def mrgRecord (i : MrgInfo) : List Byte :=
  sealRecord (beBytes 4 (0xD5 * 2 ^ 24 + 2 ^ 20 + i.hop % 16 * 2 ^ 16 + i.flags % 256 * 2 ^ 8 + i.posting % 256)
    ++ beBytes 4 (i.ingress % 1024 * 2 ^ 22 + i.egress % 1024 * 2 ^ 12 + i.queue % 16 * 2 ^ 8 + i.cls % 16 * 2 ^ 4 + i.colour % 4 * 2 ^ 2)
    ++ beBytes 4 i.inStamp ++ beBytes 4 0 ++ beBytes 4 (i.throttle % 16 * 2 ^ 20 + i.depth % 2 ^ 20)
    ++ beBytes 4 (i.op % 8 * 2 ^ 24 + ofSigned 24 (i.purse.fdiv nJ)) ++ beBytes 4 i.node ++ beBytes 4 0)

/-- THROTTLE at a port (R511): the lowest reason in force on its egress quire die, else 8 where the purse is below 0. -/
def State.throttleCode (s : State) (p : Nat) : Nat :=
  match lowest 7 fun r => bit (s.fld F.GOV_DIE_OP_REASONS (dieOfLane p)) r with
  | some r => r + 1
  | none => if s.purse (p / 32) < 0 then 8 else 0

/-- HOP of the last record recognised at the end of a frame without its FCS. -/
def lastHop (body : List Byte) (trailers : Nat) : Nat := if trailers = 0 then 0 else byteAt body (body.length - 31) % 16

/-- The trailer appended to a frame without its FCS, or the reason there is none. -/
def State.addTrailer (s : State) (i : MrgInfo) (stored : Nat) (body : List Byte) : State × List Byte × Bool :=
  if i.hop = 16 then ((s.mrgStat 3 1).note E.MRG_HOP_LIMIT, body, false)
  else if clamp 64 16383 (s.fld F.MAC_CFG_MAX_FRAME i.egress) < stored + 32 then ((s.mrgStat 2 1).note E.MRG_TOO_LONG, body, false)
  else ((s.mrgStat 0 1).unitEvent (160 + i.egress / 32) 19 1, body ++ mrgRecord i, true)

/-! ### IOAM (R513, R514) -/

/-- The node data of one trace-type bit. `tx` and `rx` are instants in units of 2^−16 ns. -/
def ioamField (i : MrgInfo) (hopLim tx rx : Nat) (b : Nat) : List Byte :=
  if b = 0 then beBytes 4 (hopLim * 2 ^ 24 + i.node % 2 ^ 24)
  else if b = 1 then beBytes 4 (i.ingress * 2 ^ 16 + i.egress)
  else if b = 2 then beBytes 4 (tx / 65536 / 1000000000 % 2 ^ 32)
  else if b = 3 then beBytes 4 (tx / 65536 % 1000000000)
  else if b = 4 then
    let d := (tx / 65536 + 2 ^ 64 - rx / 65536) % 2 ^ 64
    beBytes 4 (d % 2 ^ 31 + (if 2 ^ 31 ≤ d then 2 ^ 31 else 0))
  else if b = 5 then
    let pu := max (-(2 ^ 19 : Int)) (min (2 ^ 19 - 1) (i.purse.fdiv nJ))
    beBytes 4 (i.posting % 256 * 2 ^ 24 + i.throttle % 16 * 2 ^ 20 + ofSigned 20 pu)
  else beBytes 4 (i.depth % 2 ^ 20)

/-- What the IOAM form does to a frame without its FCS: the frame, and whether it has the option. -/
def State.ioam (s : State) (i : MrgInfo) (rcd : List Byte) (rx : Nat) (body : List Byte) : State × List Byte × Bool :=
  let slot := s.fld F.MRG_CFG_IOAM_SLOT 0
  if !recValid rcd slot then (s, body, false)
  else
    let o := recOffset rcd slot
    let ns := beAt body o 2
    let w := beAt body (o + 2) 2
    let nodeLen := w / 2048
    let remaining := w % 128
    let ty := beAt body (o + 4) 3
    let wanted := (List.range 7).filter fun b => bit ty (23 - b)
    if !(ns == 0 || ns == s.fld F.MRG_CFG_IOAM_NS 0) || ty % 2 ^ 17 != 0 || nodeLen != wanted.length then (s.mrgStat 5 1, body, true)
    else if remaining < nodeLen then
      ((s.mrgStat 4 1).note E.MRG_IOAM_OVERFLOW, patch body (o + 2) (beBytes 2 (w ||| 0x400)), true)
    else
      let hopLim := byteAt body (etherTypeAt body + 2 + 7)
      let tx := s.txStampAt i.egress
      let body := patch body (o + 2) (beBytes 2 (w - nodeLen))
      let data := wanted.flatMap (ioamField i hopLim tx rx)
      (s.mrgStat 1 1, patch body (o + 8 + 4 * (remaining - nodeLen)) data, true)

/-! ### Finishing -/

/-- After the IOAM form: the frame with its option, else a trailer where FORM 3 falls back to one. -/
def State.afterIoam (form : Nat) (i : MrgInfo) (body : List Byte) (o : State × List Byte × Bool) : State × List Byte × Bool :=
  if o.2.2 then (o.1, o.2.1, false)
  else if form = 3 then o.1.addTrailer i (body.length + 4) body else (o.1.mrgStat 6 1, body, false)

/-- Marginalia of a copy for port `p`, in the port's FORM (R509 to R514): the state, the body and whether a record was appended. -/
def State.marginalia (s : State) (p : Nat) (v : Desc) (i : MrgInfo) (rx : Nat) (body : List Byte) : State × List Byte × Bool :=
  let form := s.fld F.MRG_PORT_CFG_FORM p
  if !v.marginalia then (s, body, false)
  else if form = 1 then s.addTrailer i (body.length + 4) body
  else if form = 2 ∨ form = 3 then State.afterIoam form i body (s.ioam i v.record rx body)
  else (s, body, false)

/-- A frame passes finishing on its way out of queue `k` of port `p` (16 for the express path), `v` being what its descriptor holds: CE is set where
`mark` asks, recognised records are stripped, marginalia is added, and the copy is handed to the MAC. A frame the pipelines did not receive has no
ingress port and stamp of its own: what its record shows there is a free value. -/
def State.finish (s : State) (p k : Nat) (desc : Option Nat) (v : Desc) (bs : List Byte) (cut mark : Bool) (depth : Nat) (charged : Int) : State × Nat :=
  let fin := 160 + p / 32
  let s := s.unitEvent fin 16 1
  let body := bs.take (bs.length - 4)
  let ce := if mark then setCe body else none
  let s := if ce.isSome then ((s.tally (queueStatAt (16 * p + k) 5) 1).qscStat 3).unitEvent fin 18 1 else s
  let body := ce.getD body
  let hop := lastHop body v.trailers + 1
  let strip := decide (0 < v.trailers) && s.flag F.MRG_PORT_CFG_STRIP p
  let s := if strip then s.mrgStat 7 v.trailers else s
  let body := if strip then body.take (body.length - 32 * v.trailers) else body
  let free := s.freeVal
  let s := if v.marginalia && v.unit != 0 then s.tookFree else s
  let rx := if v.unit = 0 then v.rxStamp else free
  let i : MrgInfo :=
    { hop := hop, flags := b2n (s.mode == 5) + 2 * b2n (v.stale || s.staleLane p) + 4 * b2n v.launch.isSome + 8 * b2n cut + 16 * b2n ce.isSome
      posting := v.posting, ingress := if v.unit = 0 then v.ingress else free / 2 ^ 48, egress := p, queue := k, cls := v.cls, colour := v.colour
      inStamp := rx / 65536 % 2 ^ 32, depth := depth, throttle := s.throttleCode p, purse := charged
      op := s.fld F.GOV_DIE_OP_IN_FORCE (dieOfLane p), node := s.rd R.MRG_NODE_ID 0 }
  let r := s.marginalia p v i rx body
  let s := r.1
  let out := if r.2.1 = bs.take (bs.length - 4) then bs else withFcs r.2.1
  let c : Copy := { port := p, queue := k, desc := desc, bytes := out, info := v, cut := cut, stomp := v.bad, trailer := r.2.2, frameId := v.frameId }
  ({ s.putCopy s.nextCopy (some c) with nextCopy := s.nextCopy + 1 }, s.nextCopy)

/-! ### The stamp point (R400, R406 to R408) -/

/-- The residence correction of a frame whose transmit stamp is `tx` (R406, R407). -/
def State.ptpCorrect (s : State) (p tx : Nat) (c : Copy) : State × List Byte :=
  if c.info.unit ≠ 0 then (s, c.bytes)
  else match s.portPtp p c.bytes with
  | none => (s, c.bytes)
  | some a =>
    let how := ptpCorrects (s.fld F.TIM_PORT_CFG_PTP_MODE p) (byteAt c.bytes a.off % 16)
    if !how.1 then (s, c.bytes)
    else if !ptpPad c.bytes a then
      (((s.timStat p 1).setCounted F.TIM_PORT_STATUS_NO_PAD F.TIM_PORT_EVCOUNT_NO_PAD_COUNT p).note E.TIM_TC_NO_PAD, c.bytes)
    else
      let res := (tx + 2 ^ 48 - c.info.rxStamp % 2 ^ 48) % 2 ^ 48
      let add := res + (if how.2 then s.fld F.TIM_PORT_PEER_DELAY_DELAY c.info.ingress else 0)
      (s.timStat p 0, refcs (ptpRewrite c.bytes a (a.off + 8) 8 ((beAt c.bytes (a.off + 8) 8 + add) % 2 ^ 64)))

/-- A one-step request (R408): originTimestamp from SEC and NS, the fraction added to correctionField. -/
def State.oneStep (s : State) (p tx chan : Nat) (bs : List Byte) : State × List Byte :=
  match s.portPtp p bs with
  | none => (s.count64 R.DMA_CH_STAT_LO R.DMA_CH_STAT_HI (7 + 8 * chan) 1, bs)
  | some a =>
    let t := tx / 65536
    let bs := ptpRewrite bs a (a.off + 34) 10 (t / 1000000000 % 2 ^ 48 * 2 ^ 32 + t % 1000000000)
    (s, refcs (ptpRewrite bs a (a.off + 8) 8 ((beAt bs (a.off + 8) 8 + fracOf tx) % 2 ^ 64)))

/-- A two-step request: a kind 3 record, or STAMPS_LOST while the ring is off (R408, R489). -/
def State.twoStep (s : State) (p tx tag chan : Nat) : State :=
  if s.flag F.TIM_RING_CFG_ENABLE 0 then s.ringWrite 3 false (s.staleLane p) [stampOf tx, fracOf tx, p + 2 ^ 16 * tag, 0, 0, 0]
  else s.count64 R.DMA_CH_STAT_LO R.DMA_CH_STAT_HI (6 + 8 * chan) 1

/-- The trailer's EGRESS_STAMP, written as the stamp point passes (R511, R514). -/
def stampTrailer (tx : Nat) (stale : Bool) (bs : List Byte) : List Byte :=
  let at0 := bs.length - 36
  let r := (bs.drop at0).take 32
  let r := if stale then patch r 2 [BitVec.ofNat 8 (byteAt r 2 ||| 2)] else r
  refcs (patch bs at0 (sealRecord (patch r 12 (beBytes 3 (stampOf tx % 2 ^ 24)))))

/-- STAMP_POINT_TX (R400): the stamp point of the frame on port `p`'s line passes the transmit MAC. -/
def execStampPointTx (p : Nat) (s : State) : Host.Outcome State Fault Refusal :=
  .next (match (s.mac p).sending with
    | none => s
    | some x => match s.copy? x.copy with
      | none => s
      | some c =>
        if x.held || c.txStamp.isSome then s
        else
          let tx := s.txStampAt p
          let a := s.ptpCorrect p tx c
          let b := if c.info.req = 2 then a.1.oneStep p tx c.info.chan a.2 else a
          let s := if c.info.req = 1 then b.1.twoStep p tx c.info.tag c.info.chan else b.1
          let bs := if c.trailer then stampTrailer tx (s.staleLane p) b.2 else b.2
          s.putCopy x.copy (some { c with bytes := bs, txStamp := some tx }))

end Sys2Proof.Machine
end

