-- ==== Sys2Proof/Machine/Sched.lean ====
section
/-! DEFINITION. The schedulers: enqueue, cut-through, selection, the express path and the end of a transmission (R19 to R23, R207, R223, R340,
R361 to R388). -/
namespace Sys2Proof.Machine

/-- The head launch frame of a queue waits for its launch time (R410). -/
def State.launchWaits (s : State) (q : Nat) (v : Desc) : Bool :=
  match v.launch with
  | none => false
  | some l => !Tab.get false s.qsc.late q && decide (256 < s.launchIn l ∧ s.launchIn l < 2 ^ 31)

/-- t_start of a queue's head frame on an idle port (R418). -/
def State.tStart (s : State) (v : Desc) : Nat :=
  match v.launch with
  | none => s.netNs
  | some l => if s.launchIn l < 2 ^ 31 then s.netNs + s.launchIn l else s.netNs

/-- What the tests of R362 say of queue `k` of port `p` with a head frame of `L` bytes whose first byte would cross at `t`. -/
structure Test where
  gate : Bool
  noFit : Bool
  paused : Bool
  shaper : Bool
  purse : Bool
  deriving DecidableEq, Repr

def State.testQueue (s : State) (p k L t : Nat) : Test :=
  let q := 16 * p + k
  let g := s.gateTest p k L t
  { gate := g.1, noFit := g.2, paused := bit (s.pausedQueues p) k
    shaper := (!s.flag F.QSC_Q_CFG_SHAPER_EN q || decide (0 ≤ s.queueTokens q)) && (!s.flag F.QSC_PORT_CFG_PORT_SHAPER_EN p || decide (0 ≤ s.portTokens p))
    purse := decide (0 ≤ s.purse (p / 32)) || s.essential p k }

/-- Every test is met. -/
def Test.ok (t : Test) : Bool := t.gate && !t.paused && t.shaper && t.purse

/-- A queue is eligible (R362). -/
def State.eligible (s : State) (p k : Nat) : Bool :=
  match s.headDesc (16 * p + k) with
  | none => false
  | some v => !s.launchWaits (16 * p + k) v && (s.testQueue p k v.length (s.tStart v)).ok

def State.setElig (s : State) (q : Nat) (b : Bool) : State := { s with qsc := { s.qsc with elig := Tab.set false s.qsc.elig q b } }

/-- The queues of a port tested: a backlogged queue that becomes eligible takes tags no earlier than its tier's clock (R365). -/
def State.refreshElig (s : State) (p : Nat) : State :=
  s.each (List.range 16) fun k s =>
    let q := 16 * p + k
    match s.headDesc q with
    | none => s.setElig q false
    | some v =>
      let e := s.eligible p k
      let vt := s.vclock p (s.tier q)
      let s := if e && !Tab.get false s.qsc.elig q && !s.expressQueue p k && earlier (s.finishTag q) vt then s.tagFrom q vt v.length else s
      s.setElig q e

/-- The choice of R362 among queues, each with its tier and finish tag. -/
def choose (express : Nat → Bool) (l : List (Nat × Nat × Nat)) : Option Nat :=
  if l.any fun x => x.1 == 15 && express 15 then some 15
  else if l.any fun x => x.1 == 14 && express 14 then some 14
  else
    let t := l.foldl (fun a x => min a x.2.1) 4
    ((l.filter fun x => x.2.1 == t).foldl (fun (best : Option (Nat × Nat)) x => match best with
      | none => some (x.1, x.2.2)
      | some b => if earlier x.2.2 b.2 then some (x.1, x.2.2) else some b) none).map Prod.fst

/-- The eligible queues of a port with their tiers and finish tags. -/
def State.eligibles (s : State) (p : Nat) : List (Nat × Nat × Nat) :=
  ((List.range 16).filter fun k => s.eligible p k).map fun k => (k, s.tier (16 * p + k), s.finishTag (16 * p + k))

/-- The queue a port's scheduler would select. -/
def State.pickQueue (s : State) (p : Nat) : Option Nat := choose (s.expressQueue p) (s.eligibles p)

/-- What holds back the queues of a port at a selection is counted (R363, R420, R493). -/
def State.countHolds (s : State) (p : Nat) : State :=
  s.each (List.range 16) fun k s =>
    match s.headDesc (16 * p + k) with
    | none => s
    | some v =>
      if s.launchWaits (16 * p + k) v then s
      else
        let t := s.testQueue p k v.length (s.tStart v)
        let u := 352 + p / 32
        let s := if t.noFit then (s.timStat p 7).unitEvent u 20 1 else if t.gate then s else s.unitEvent u 19 1
        let s := if t.shaper then s else s.unitEvent u 21 1
        if t.gate && !t.paused && t.shaper && !t.purse then (s.qscStat 5).unitEvent u 18 1 else s

/-- A frame of `L` bytes of a queue is charged at its selection (R364): clock, tokens, purse, statistics (R500). -/
def State.charge (s : State) (p k L folios : Nat) (shared : Bool) : State :=
  let q := 16 * p + k
  let f := s.finishTag q
  let s := if s.expressQueue p k then s else (s.setVclock p (s.tier q) f).setLastFinish q f
  let n := (s.lenOf p L * shaperUnit : Nat)
  let s := if s.flag F.QSC_Q_CFG_SHAPER_EN q then s.setQueueTokens q (s.queueTokens q - n) else s
  let s := if s.flag F.QSC_PORT_CFG_PORT_SHAPER_EN p then s.setPortTokens p (s.portTokens p - n) else s
  let s := s.debit (p / 32) (s.energy (s.fld F.QSC_Q_CFG_ENERGY_CLASS q) L shared)
  let s := (s.tally (queueStatAt q 0) 1).tally (queueStatAt q 1) L
  (s.unitEvent (352 + p / 32) 16 1).unitEvent (320 + p / 32) 17 folios

/-- A frame of a queue is dequeued after a delay in ns (R381). -/
def State.observe (s : State) (q delay : Nat) : State :=
  let o := Tab.get {} s.qsc.seen q
  { s with qsc := { s.qsc with seen := Tab.set {} s.qsc.seen q { frames := satBits 32 (o.frames + 1), delay := max o.delay delay } } }

/-- A queue's frames use the express MAC (R221). -/
def State.usesExpressMac (s : State) (p k : Nat) : Bool := bit (s.fld F.MAC_PREEMPT_CFG_EXPRESS_QMASK p) k

/-- A launch frame starts: it is sent, and late where its time has passed (R411). -/
def State.launchSent (s : State) (p l : Nat) (lateAtHead : Bool) : State :=
  let past := (s.stamp + 2 ^ 32 - l) % 2 ^ 32
  let s := s.timStat p 2
  if lateAtHead ∨ (2 < past ∧ past < 2 ^ 31) then
    (((s.timStat p 3).setCounted F.TIM_PORT_STATUS_LATE F.TIM_PORT_EVCOUNT_LATE_COUNT p).setF F.TIM_PORT_STATUS_LAST_LATE_NS p (satBits 24 past)).note
      E.TIM_LAUNCH_LATE
  else s

/-- A storm discards the frames of a queue (R218). -/
def State.stormDiscards (s : State) (p k : Nat) : Bool :=
  s.flag F.MAC_PFC_STORM_ACTION p && (List.range 8).any fun q => bit (s.fld F.MAC_PFC_STATUS_STORM p) q && bit (s.pfcMap p q) k

/-- Why a frame is discarded at dequeue: 0 not, 1 counted in TX_DOWN_DISCARD, 2 found bad, 3 late under LATE_ACTION (R207, R212, R218, R411). -/
def State.discardWhy (s : State) (p k : Nat) (v : Desc) : Nat :=
  if v.bad then 2
  else if s.maxFrame p < v.length ∨ s.stormDiscards p k then 1
  else if Tab.get false s.qsc.late (16 * p + k) && s.flag F.TIM_PORT_CFG_LATE_ACTION p then 3
  else 0

/-- The head frame of queue `k` is selected: charged, marked, finished and handed to the MAC (R360, R364). -/
def State.sendHead (s : State) (p k : Nat) (v : Desc) : State :=
  let q := 16 * p + k
  let depth := s.depth q
  let ecn := s.fld F.QSC_Q_LIMIT_B_ECN q
  let mark := ecn != 0 && decide (16 * ecn ≤ depth)
  let fit := !s.normalService p k v.length
  let late := Tab.get false s.qsc.late q
  let purse := s.purse (p / 32)
  let bs := s.descBytes v
  let d := (s.queue q).head?
  let s := (s.charge p k v.length v.folios v.shared).observe q ((s.stamp + 2 ^ 32 - v.enqStamp) % 2 ^ 32)
  let s := (s.popQueue q).newHead q false
  let e := if v.unit = 3 ∧ v.record.length = 32 then s.cthFinish v.record v.edit bs else (s, bs)
  let r := e.1.finish p k d v e.2 false mark depth purse
  let wait := match v.launch with
    | some l => !late && decide (s.launchIn l < 2 ^ 31)
    | none => false
  let s := match v.launch with
    | some l => if wait then r.1 else r.1.launchSent p l late
    | none => r.1
  s.putMac p { s.mac p with sending := some { copy := r.2, express := s.usesExpressMac p k, since := s.now, fit := fit, held := wait } }

/-- The queue that a selection takes next, with its head's descriptor. -/
def State.pickHead (s : State) (p : Nat) (only : Nat → Bool) : Option (Nat × Desc) :=
  (choose (s.expressQueue p) ((s.eligibles p).filter fun x => only x.1)).bind fun k => (s.headDesc (16 * p + k)).map fun v => (k, v)

/-- A chosen head is discarded for one of the causes of `discardWhy` (R207, R212, R218, R411). -/
def State.discardFor (s : State) (p q : Nat) (v : Desc) (why : Nat) : State :=
  if why = 1 then (s.discardHead q true).newHead q false
  else if why = 2 then (s.discardHead q false).newHead q false
  else
    let late := (s.stamp + 2 ^ 32 - v.launch.getD 0) % 2 ^ 32
    let s := (((s.timStat p 4).setCounted F.TIM_PORT_STATUS_LATE F.TIM_PORT_EVCOUNT_LATE_COUNT p).setF F.TIM_PORT_STATUS_LAST_LATE_NS p
      (satBits 24 late)).note E.TIM_LAUNCH_LATE
    (s.discardHead q false).newHead q false

/-- The chosen head is sent or discarded: the state, and whether it was discarded, so that another is chosen. -/
def State.sendOrDiscard (s : State) (p : Nat) : Option (Nat × Desc) → State × Bool
  | none => (s, false)
  | some c =>
    if s.discardWhy p c.1 c.2 = 0 then (s.sendHead p c.1 c.2, false) else (s.discardFor p (16 * p + c.1) c.2 (s.discardWhy p c.1 c.2), true)

/-- One choice of a selection. -/
def State.selectStep (s : State) (p : Nat) (only : Nat → Bool) : State × Bool :=
  (s.refreshElig p).sendOrDiscard p ((s.refreshElig p).pickHead p only)

/-- Selection: frames that must be discarded at dequeue are discarded until one can be sent (R364). `only` limits the choice. -/
def State.selectFrom (s : State) (p : Nat) (only : Nat → Bool) (n : Nat) : State :=
  ((List.range n).foldl (fun (x : State × Bool) _ => if x.2 then x.1.selectStep p only else x) (s, true)).1

/-- The frames of a port's queues. -/
def State.backlogged (s : State) (p : Nat) : Nat := ((List.range 16).map fun k => (s.queue (16 * p + k)).length).foldl (· + ·) 0

/-- A read of a queue's state finds a parity error (R383). -/
def State.stateParity (s : State) (p k : Nat) : State :=
  let q := 16 * p + k
  let s := match s.headDesc q with
    | some v => if s.expressQueue p k then s else s.tagFrom q (s.vclock p (s.tier q)) v.length
    | none => s
  (((s.setQueueTokens q (s.queueBurst q * shaperUnit : Nat)).setCounted F.QSC_Q_STATUS_STATE_PARITY F.QSC_Q_STATUS_PARITY_COUNT q).qscStat 7).note
    E.QSC_STATE_PARITY

/-- Express-path frames wait for a port (R379). -/
def State.held (s : State) (p : Nat) : List Frame := Tab.get [] s.qsc.hold p

/-- PORT_SELECT (R361 to R375): port `p`'s scheduler selects its next frame, with nothing on the line or, with preemption active, under a preemptable
frame. `perr` lists the queues whose state is read with a parity error. A port that is down discards its frames (R207). An express-path frame that
waits goes first, and the remainder of a preempted frame goes before a new preemptable one. -/
def execPortSelect (p : Nat) (perr : List Nat) (s : State) : Host.Outcome State Fault Refusal :=
  .next (if !s.portConfigured p then s
    else
      let s := s.each (perr.filter fun k => decide (k < 16)) fun k s => s.stateParity p k
      if !s.operUp p then s.each (List.range 16) fun k s => s.each (s.queue (16 * p + k)) fun _ s => s.discardHead (16 * p + k) true
      else if !s.flag F.MAC_CFG_ADMIN_UP p || !(s.held p).isEmpty then s
      else
        let m := s.mac p
        let n := s.backlogged p + 1
        match m.sending with
        | none => (s.countHolds p).selectFrom p (fun k => m.preempted.isNone || s.usesExpressMac p k) n
        | some x =>
          if !x.express && !x.held && s.preemptActive p then
            match s.pickQueue p with
            | some k =>
              if s.expressQueue p k && s.usesExpressMac p k then
                let t := s.cutFrame p false
                if (t.mac p).sending.isNone then t.selectFrom p (s.usesExpressMac p) n else s
              else s
            | none => s
          else s)

/-- The bytes a frame ends with on the line: the complement of the FCS where it is stomped (R23). -/
def Copy.line (c : Copy) : List Byte := if c.stomp then withBadFcs (c.bytes.take (c.bytes.length - 4)) else c.bytes

/-- FRAME_TX_END (R23, R207, R208, R361): the last byte of the frame on port `p`'s line has been sent. -/
def execFrameTxEnd (p : Nat) (s : State) : Host.Outcome State Fault Refusal :=
  .next (match (s.mac p).sending with
    | none => s
    | some x => match s.copy? x.copy with
      | none => s
      | some c =>
        if c.txStamp.isNone then s
        else
          let s := if c.stomp then (s.macStat p 17 1).unitEvent (160 + p / 32) 17 1 else (s.macStat p 15 1).macStat p 16 c.bytes.length
          let s := if x.express then s.macStat p 20 1 else s
          let s := if s.stitchPort p then
              s.stitchSend p c.info.cls (c.queue == 16) (if s.flag F.TIM_PORT_CFG_STITCH_STAMP p then c.txStamp.map stampOf else none) false c.line
            else s
          let s := s.dropCopy x.copy
          let s := s.putMac p { s.mac p with sending := none, wire := c.line }
          if s.flag F.MAC_CFG_ADMIN_UP p then s else s.portDown p)

/-- PREEMPT_RESUME (R374): the remainder of port `p`'s preempted frame resumes. -/
def execPreemptResume (p : Nat) (s : State) : Host.Outcome State Fault Refusal :=
  .next (let m := s.mac p
    match m.preempted with
    | none => s
    | some x =>
      let open? := match s.copy? x.copy with
        | some c => bit (s.gateVector p s.netNs) c.queue
        | none => false
      if m.sending.isSome || (m.cutByGate && !open?) then s
      else s.putMac p { m with sending := some { x with since := s.now }, preempted := none, cutByGate := false })

/-- LAUNCH_WAIT_END (R410): queue `k` of port `p` may become eligible, its head launch frame being 256 ns from its time. -/
def execLaunchWaitEnd (p k : Nat) (s : State) : Host.Outcome State Fault Refusal :=
  .next (match s.headDesc (16 * p + k) with
    | none => s
    | some v => if v.launch.isSome && decide (k < 16) && !s.launchWaits (16 * p + k) v then s.refreshElig p else s)

/-- LAUNCH_RELEASE (R411): the MAC releases the launch frame that it holds. -/
def execLaunchRelease (p : Nat) (s : State) : Host.Outcome State Fault Refusal :=
  .next (match (s.mac p).sending with
    | none => s
    | some x =>
      if !x.held then s
      else match (s.copy? x.copy).bind fun c => c.info.launch with
        | none => s
        | some l =>
          if 2 < s.launchIn l ∧ s.launchIn l < 2 ^ 31 then s
          else (s.launchSent p l false).putMac p { s.mac p with sending := some { x with held := false, since := s.now } })

/-! ### Enqueue -/

/-- Lane rate times lane count of a port, in units of 106.25 Gb/s (R19). -/
def State.rawRate (s : State) (p : Nat) : Nat := speedLanes (s.speed p) * (if s.speed p = 4 then 1 else 2)

/-- A frame of `L` bytes may be cut through to queue `k` of port `p` (R19 to R21): the scheduler would choose its queue, as it stands with the frame
at its head. -/
def State.cutsThrough (s : State) (ingress p k L : Nat) : Bool :=
  let q := 16 * p + k
  let m := s.mac p
  let tag := s.finishAfter q (s.headStart q true) L
  let t := s.testQueue p k L s.netNs
  (s.queue q).isEmpty && m.sending.isNone && (m.preempted.isNone || s.usesExpressMac p k) && s.operUp p && s.flag F.MAC_CFG_ADMIN_UP p
    && (s.held p).isEmpty && t.ok && decide (s.rawRate p ≤ s.rawRate ingress) && decide (L ≤ s.maxFrame p) && !s.stormDiscards p k
    && choose (s.expressQueue p) ((s.eligibles p) ++ [(k, s.tier q, tag)]) == some k

/-- A frame is cut through: charged, finished and handed to the MAC (R364, R381). -/
def State.cutThrough (s : State) (p k : Nat) (v : Desc) (bs : List Byte) : State :=
  let q := 16 * p + k
  let purse := s.purse (p / 32)
  let fit := !s.normalService p k v.length
  let s := if s.expressQueue p k then s else s.tagFrom q (s.headStart q true) v.length
  let s := ((((s.charge p k v.length 0 false).observe q 0).qscStat 6).unitEvent (352 + p / 32) 17 1)
  let r := s.finish p k none v bs true false 0 purse
  r.1.putMac p { r.1.mac p with sending := some { copy := r.2, express := s.usesExpressMac p k, since := s.now, fit := fit } }

/-- A routed frame of pipeline `i` is admitted: cut through, stored or refused (R19, R340, R359). A copy to a lane at which no port starts is dropped. -/
def State.enqueueRouted (s : State) (i : Nat) (r : Routed) : State :=
  let f := r.frame
  let rx := f.rxStamp / 65536 % 2 ^ 32
  let ts : List Target := (r.egress.filter fun e => s.portConfigured e.1).map fun e =>
    { port := e.1, queue := r.queue, edit := e.2, launch := s.queueLaunch (16 * e.1 + r.queue) rx f.leadStamp
      marginalia := s.selectsMarginalia e.1 r.marked }
  let v : Desc := { length := f.bytes.length, pool := s.poolOf f.port r.cls, unit := 0, cls := r.cls, colour := r.colour, bad := f.bad, ingress := f.port
                    annotate0 := r.annotate0, annotate1 := r.annotate1, record := r.record, rxStamp := f.rxStamp, stale := f.stale, frameId := f.id
                    posting := r.posting, trailers := f.trailers, req := f.req, tag := f.tag, chan := f.inject.getD 0 }
  match ts with
  | [] => s
  | [t] =>
    let s := s.refreshElig t.port
    if t.launch.isNone && !s.limitHit (16 * t.port + t.queue) r.colour && s.cutsThrough f.port t.port t.queue f.bytes.length then
      s.cutThrough t.port t.queue { v with edit := t.edit, marginalia := t.marginalia } f.bytes
    else
      let s := s.unitEvent (320 + i) 16 (folioCount f.bytes.length)
      let s := if spineOfLane t.port = i / 16 then s else s.unitEvent (320 + i) 19 1
      (s.storeCopies (i / 16) v f.bytes ts).1
  | _ => ((s.unitEvent (320 + i) 16 (folioCount f.bytes.length)).storeCopies (i / 16) v f.bytes ts).1

/-- FRAME_ENQUEUE (R340): the oldest forwarded frame of pipeline `i` reaches its egress queues; its flight ends (R281). -/
def execFrameEnqueue (i : Nat) (s : State) : Host.Outcome State Fault Refusal :=
  .next (match Tab.get [] s.cls.toEnq i with
    | [] => s
    | r :: t =>
      let s := { s with cls := { s.cls with toEnq := Tab.set [] s.cls.toEnq i t } }
      let s := if bit 0x30 s.mode then s.enqueueRouted i r else s
      s.leaveFlight (i / 16) r.posting)

/-! ### The express path (R303, R377 to R380) -/

/-- The express ledger's key for a record (R303). A SELECT code above 63 acts as 63 (R625). -/
def State.expressKey (s : State) (g : Nat) (rcd : List Byte) : List Byte :=
  BitVec.ofNat 8 (byteAt rcd 109 % 16) :: (List.range 19).map fun j =>
    let c := if j < 16 then bits (s.rd R.LDG_LEDGER_SELECT (j / 4 + 4 * g)) (8 * (j % 4)) 8 else bits (s.rd R.LDG_LEDGER_SELECT4 g) (8 * (j - 16)) 8
    rcd.getD (min c 63) 0

/-- The egress of an express frame of pipeline `i` (R303): a group gives it by its ECMP or failover member. -/
def State.expressEgress (s : State) (i : Nat) (rcd : List Byte) : State × Option Nat :=
  match lowest 16 fun g => s.ledgerType g == 2 with
  | none => (s, none)
  | some g =>
    let r := s.lookup (i / 4) g (s.expressKey g rcd)
    let s := (r.1.unitEvent (256 + i) 16 2).unitEvent (256 + i) (if r.2.isSome then 17 else 18) 1
    match r.2 with
    | none => (s, none)
    | some h =>
      let res := slotResult h
      if bits res 30 2 = 0 then (s, some (res % 1024))
      else if bits res 30 2 = 1 then
        let n := res % 16384
        let s := s.readBucket (i / 4) (groupBucket n)
        match s.groupHeld (i / 4) n with
        | none => (s, none)
        | some f => if bits f 14 2 = 2 then (s, none) else (s, (s.groupMembers f (recKey rcd)).head?.map (groupMember f))
      else (s, none)

/-- Bytes held in the express hold of an egress pipeline (R378). -/
def State.holdBytes (s : State) (i : Nat) : Nat :=
  ((List.range 32).flatMap fun l => (s.held (32 * i + l)).map fun f => f.bytes.length).foldl (· + ·) 0

/-- EXPRESS_LOOKUP (R303, R377, R378): the oldest express frame of pipeline `i` is looked up, policed and taken into its egress pipeline's hold. -/
def execExpressLookup (i : Nat) (s : State) : Host.Outcome State Fault Refusal :=
  .next (match Tab.get [] s.prs.toExp i with
    | [] => s
    | x :: t =>
      let s := { s with prs := { s.prs with toExp := Tab.set [] s.prs.toExp i t } }
      if !bit 0x30 s.mode then s
      else
        let f := x.frame
        let L := f.bytes.length
        let r := s.expressEgress i x.record
        match r.2 with
        | none => (r.1.ldgStat 1).note E.LDG_EXPRESS_MISS
        | some p =>
          let s := r.1
          if s.expTokens f.port < 0 then (s.qscStat 1).note E.QSC_EXPRESS_POLICE_DROP
          else
            let s := (s.setExpTokens f.port (s.expTokens f.port - (s.lenOf f.port L * policerUnit : Nat))).unitEvent (320 + i) 18 1
            if !s.operUp p || !s.portConfigured p || decide (65536 < s.holdBytes (p / 32) + L) then (s.qscStat 2).note E.QSC_EXPRESS_EGRESS_DROP
            else ({ s with qsc := { s.qsc with hold := Tab.set [] s.qsc.hold p (s.held p ++ [f]) } }).qscStat 0)

/-- EXPRESS_TX_START (R379): the oldest express-path frame that waits for port `p` starts at the express MAC, on an idle line or by preempting. -/
def execExpressTxStart (p : Nat) (s : State) : Host.Outcome State Fault Refusal :=
  .next (match s.held p with
    | [] => s
    | f :: t =>
      let gone := { s with qsc := { s.qsc with hold := Tab.set [] s.qsc.hold p t } }
      let L := f.bytes.length
      let start := fun (s : State) =>
        let v : Desc := { length := L, ingress := f.port, rxStamp := f.rxStamp, stale := f.stale, bad := f.bad, frameId := f.id, trailers := f.trailers
                          req := f.req, tag := f.tag, chan := f.inject.getD 0 }
        let purse := s.purse (p / 32)
        let s := s.debit (p / 32) (s.energy 0 L false)
        let r := s.finish p 16 none v f.bytes true false 0 purse
        r.1.putMac p { r.1.mac p with sending := some { copy := r.2, express := true, since := s.now } }
      if !s.operUp p then (gone.qscStat 2).note E.QSC_EXPRESS_EGRESS_DROP
      else match (s.mac p).sending with
        | none => if s.maxFrame p < L then gone.macStat p 18 1 else start gone
        | some x =>
          if !x.express && !x.held && s.preemptActive p then
            let u := gone.cutFrame p false
            if (u.mac p).sending.isNone then (if s.maxFrame p < L then gone.macStat p 18 1 else start u) else s
          else s)

/-! ### Sampling (R381, R508) -/

/-- A sample record written to ring `d`. -/
def State.putSample (s : State) (d q : Nat) : State :=
  let o := Tab.get {} s.qsc.seen q
  let n := (s.rd R.TLY_SAMPLE_PROD d + 1) % 2 ^ 32
  let ws := [q + 2 ^ 16 * b2n (s.flag F.TIM_COPY_STATUS_STALE (8 + d)), s.stamp, s.depth q, s.fld F.QSC_Q_FRAMES_FRAMES q, o.frames, satBits 32 o.delay, 0, n]
  (s.putArr (0xA7600000 + 0x100000 * d + 32 * (n % 32768)) (ws.flatMap w32)).wr R.TLY_SAMPLE_PROD d n

/-- QUEUE_SAMPLE (R381, R508): the sampling interval ends on die `d` (0 West, 1 East). `fit` is the number of samples that are written before the
next interval's are taken; the rest are lost. -/
def execQueueSample (d fit : Nat) (s : State) : Host.Outcome State Fault Refusal :=
  .next (if d < 2 ∧ bit 0x78 s.mode then
      let l := (List.range 8192).map (fun j => 8192 * d + j) |>.filter fun q => s.flag F.QSC_Q_CFG_SAMPLE_EN q
      let lost := l.length - fit
      let s := s.each (l.take fit) fun q s => s.putSample d q
      let s := { s with qsc := { s.qsc with seen := s.qsc.seen.filter fun e => !l.contains e.1 } }
      if lost = 0 then s else (s.wr R.TLY_SAMPLE_LOST d (satBits 32 (s.rd R.TLY_SAMPLE_LOST d + lost))).note E.TLY_SAMPLES_LOST
    else s)

/-! ### Commands -/

/-- Designation of express queues (R366, R376). -/
def State.setExpressQ (s : State) (p v : Nat) : State :=
  let old := s.fld F.QSC_PORT_CFG_EXPRESS_Q p
  let s := (s.setF F.QSC_PORT_CFG_EXPRESS_Q p v).setF F.MAC_PREEMPT_CFG_EXPRESS_QMASK p (s.fld F.MAC_PREEMPT_CFG_EXPRESS_QMASK p ||| (v % 4) <<< 14)
  s.each [0, 1] fun b s =>
    let q := 16 * p + 14 + b
    if bit v b == bit old b then s
    else if bit v b then s.setTags q 0 0
    else match s.headDesc q with
      | some h => s.tagFrom q (s.headStart q true) h.length
      | none => s

/-- A queue's tier changed: its tags are tested against the new tier's clock at the next selection (R366). -/
def State.setTier (s : State) (q t : Nat) : State := if s.tier q = t % 4 then s else (s.setF F.QSC_Q_CFG_TIER q t).setElig q false

/-- QUEUE_CONFIG's defaults (R106). -/
def queueDefaults : List (Arg × Nat) :=
  [(A.QUEUE_CONFIG_ENERGY_CLASS, 0), (A.QUEUE_CONFIG_ESSENTIAL_MODE, 0), (A.QUEUE_CONFIG_SAMPLE_EN, 0), (A.QUEUE_CONFIG_TOKEN_RESET, 1),
   (A.QUEUE_CONFIG_BURST, 16384), (A.QUEUE_CONFIG_CAP, 0), (A.QUEUE_CONFIG_YELLOW, 0), (A.QUEUE_CONFIG_RED, 0), (A.QUEUE_CONFIG_ECN, 0)]

/-- QSC_Q_STATUS as it reads: the state of R362 beside the recorded bits. -/
def State.queueStatus (s : State) (q : Nat) : Nat :=
  let p := q / 16
  let k := q % 16
  let h := s.headDesc q
  let t := s.testQueue p k ((h.map fun v => v.length).getD 64) ((h.map s.tStart).getD s.netNs)
  let w := (h.map (s.launchWaits q)).getD false
  putBits (s.rd R.QSC_Q_STATUS q) 0 8 (b2n (s.eligible p k) + 2 * b2n (bit (s.gateVector p s.netNs) k) + 4 * b2n t.paused + 8 * b2n w + 16 * b2n t.shaper
    + 32 * b2n t.purse + 64 * b2n (s.essential p k) + 128 * b2n (s.expressQueue p k))

/-- What QUEUE_CONFIG adds to the checks of R94. -/
def State.queueConfigChecks (s : State) (r0 : Req) : Checks :=
      let r := filled C.QUEUE_CONFIG queueDefaults r0
      { Checks.plain C.QUEUE_CONFIG with
        target := s.targetQueue 0x38 r, dflt := queueDefaults
        args := firstFail [failIf (r.arg A.QUEUE_CONFIG_ESSENTIAL_MODE == 3) (badArg A.QUEUE_CONFIG_ESSENTIAL_MODE 1),
          failIf (r.arg A.QUEUE_CONFIG_WEIGHT == 0) (badArg A.QUEUE_CONFIG_WEIGHT 1),
          failIf (r.on A.QUEUE_CONFIG_SHAPER_EN && r.arg A.QUEUE_CONFIG_RATE == 0) (badArg A.QUEUE_CONFIG_RATE 2),
          failIf (r.on A.QUEUE_CONFIG_SHAPER_EN) (r.range A.QUEUE_CONFIG_RATE 1 200000000),
          r.range A.QUEUE_CONFIG_BURST 1 16777215]
        units := [9] }

/-- What QUEUE_CONFIG does once its checks have passed. -/
def State.queueConfigAct (s : State) (r : Req) : Ans :=
      let q := r.index
      let t := s.setTier q (r.arg A.QUEUE_CONFIG_TIER)
      let t := ((t.setF F.QSC_Q_CFG_ENERGY_CLASS q (r.arg A.QUEUE_CONFIG_ENERGY_CLASS)).setF F.QSC_Q_CFG_ESSENTIAL_MODE q
        (r.arg A.QUEUE_CONFIG_ESSENTIAL_MODE)).setF F.QSC_Q_CFG_SAMPLE_EN q (r.arg A.QUEUE_CONFIG_SAMPLE_EN)
      let t := ((t.setF F.QSC_Q_CFG_WEIGHT q (r.arg A.QUEUE_CONFIG_WEIGHT)).setF F.QSC_Q_CFG_SHAPER_EN q (r.arg A.QUEUE_CONFIG_SHAPER_EN)).setF
        F.QSC_Q_CFG_TOKEN_RESET q (r.arg A.QUEUE_CONFIG_TOKEN_RESET)
      let t := (t.setF F.QSC_Q_RATE_VALUE q (r.arg A.QUEUE_CONFIG_RATE)).setF F.QSC_Q_BURST_VALUE q (r.arg A.QUEUE_CONFIG_BURST)
      let t := ((t.setF F.QSC_Q_LIMIT_A_CAP q (r.arg A.QUEUE_CONFIG_CAP)).setF F.QSC_Q_LIMIT_A_YELLOW q (r.arg A.QUEUE_CONFIG_YELLOW)).setF
        F.QSC_Q_LIMIT_B_RED q (r.arg A.QUEUE_CONFIG_RED)
      let t := (t.setF F.QSC_Q_LIMIT_B_ECN q (r.arg A.QUEUE_CONFIG_ECN)).resetQueueTokens q
      .ok t (w32 (t.rd R.QSC_Q_CFG q) ++ w32 (wholeBytes (t.queueTokens q) shaperUnit) ++ w32 (t.rd R.QSC_Q_DEPTH q) ++ w32 (t.queueStatus q))

/-- QUEUE_CONFIG (0x0901, R384). -/
def execQueueConfig (m : Nat) (s : State) : Host.Outcome State Fault Refusal :=
  .next (s.runCmd m C.QUEUE_CONFIG s.queueConfigChecks s.queueConfigAct)

/-- PORT_SCHED_CONFIG's defaults (R106). -/
def schedDefaults : List (Arg × Nat) :=
  [(A.PORT_SCHED_CONFIG_TOKEN_RESET, 1), (A.PORT_SCHED_CONFIG_EXP_SHARE, 32), (A.PORT_SCHED_CONFIG_BURST, 65536), (A.PORT_SCHED_CONFIG_EXP_BURST, 16384)]

/-- What PORT_SCHED_CONFIG adds to the checks of R94. -/
def State.portSchedConfigChecks (s : State) (r0 : Req) : Checks :=
      let r := filled C.PORT_SCHED_CONFIG schedDefaults r0
      { Checks.plain C.PORT_SCHED_CONFIG with
        target := s.targetPort 0x38 r, dflt := schedDefaults
        args := firstFail [r.range A.PORT_SCHED_CONFIG_EXP_SHARE 1 255,
          failIf (r.on A.PORT_SCHED_CONFIG_PORT_SHAPER_EN) (r.range A.PORT_SCHED_CONFIG_RATE 1 200000000),
          r.range A.PORT_SCHED_CONFIG_EXP_BURST 64 16777215]
        units := [9] }

/-- What PORT_SCHED_CONFIG does once its checks have passed. -/
def State.portSchedConfigAct (s : State) (r : Req) : Ans :=
      let p := r.index
      let t := (((s.setExpressQ p (r.arg A.PORT_SCHED_CONFIG_EXPRESS_Q)).setF F.QSC_PORT_CFG_PORT_SHAPER_EN p
        (r.arg A.PORT_SCHED_CONFIG_PORT_SHAPER_EN)).setF F.QSC_PORT_CFG_TOKEN_RESET p (r.arg A.PORT_SCHED_CONFIG_TOKEN_RESET)).setF
        F.QSC_PORT_CFG_EXP_SHARE p (r.arg A.PORT_SCHED_CONFIG_EXP_SHARE)
      let t := ((t.setF F.QSC_PORT_RATE_VALUE p (r.arg A.PORT_SCHED_CONFIG_RATE)).setF F.QSC_PORT_BURST_VALUE p (r.arg A.PORT_SCHED_CONFIG_BURST)).setF
        F.QSC_PORT_EXP_BURST_EXP_BURST p (r.arg A.PORT_SCHED_CONFIG_EXP_BURST)
      let t := (t.resetPortTokens p).resetExpTokens p
      .ok t (w32 (t.rd R.QSC_PORT_CFG p) ++ w32 (wholeBytes (t.portTokens p) shaperUnit))

/-- PORT_SCHED_CONFIG (0x0902, R366, R376, R385). RATE is not read with the port shaper off. -/
def execPortSchedConfig (m : Nat) (s : State) : Host.Outcome State Fault Refusal :=
  .next (s.runCmd m C.PORT_SCHED_CONFIG s.portSchedConfigChecks s.portSchedConfigAct)

/-- What ENERGY_CONFIG adds to the checks of R94. -/
def State.energyConfigChecks (_ : State) (r0 : Req) : Checks :=
      let d := [(A.ENERGY_CONFIG_PURSE_MAX_MULT, 2)]
      let r := filled C.ENERGY_CONFIG d r0
      { Checks.plain C.ENERGY_CONFIG with
        target := targetWhole 0x38 r, dflt := d, args := r.range A.ENERGY_CONFIG_PURSE_MAX_MULT 1 15, units := [9] }

/-- What ENERGY_CONFIG does once its checks have passed. -/
def State.energyConfigAct (s : State) (r : Req) : Ans :=
      let t := ((s.setF F.QSC_ENERGY_COST_COST 0 (r.arg A.ENERGY_CONFIG_COST_0)).setF F.QSC_ENERGY_COST_COST 1 (r.arg A.ENERGY_CONFIG_COST_1)).setF
        F.QSC_ENERGY_COST_COST 2 (r.arg A.ENERGY_CONFIG_COST_2)
      let t := ((t.setF F.QSC_ENERGY_COST_COST 3 (r.arg A.ENERGY_CONFIG_COST_3)).setF F.QSC_ENERGY_CFG_REPL_SURCHARGE 0
        (r.arg A.ENERGY_CONFIG_REPL_SURCHARGE)).setF F.QSC_ENERGY_CFG_PURSE_MAX_MULT 0 (r.arg A.ENERGY_CONFIG_PURSE_MAX_MULT)
      .ok t (w32 (t.rd R.QSC_ENERGY_CFG 0) ++ w32 (t.rd R.QSC_ENERGY_COST 0))

/-- ENERGY_CONFIG (0x0903, R386). -/
def execEnergyConfig (m : Nat) (s : State) : Host.Outcome State Fault Refusal :=
  .next (s.runCmd m C.ENERGY_CONFIG s.energyConfigChecks s.energyConfigAct)

/-- What QUEUE_READ adds to the checks of R94. -/
def State.queueReadChecks (s : State) (r : Req) : Checks :=
  { Checks.plain C.QUEUE_READ with target := s.targetQueue 0x38 r }

/-- What QUEUE_READ does once its checks have passed. -/
def State.queueReadAct (s : State) (r : Req) : Ans :=
      let q := r.index
      let v := s.vclock (q / 16) (s.tier q)
      .ok s (w32 (s.rd R.QSC_Q_DEPTH q) ++ w32 (s.rd R.QSC_Q_FRAMES q) ++ w32 (wholeBytes (s.queueTokens q) shaperUnit)
        ++ w32 (s.startTag q) ++ w32 (s.finishTag q) ++ w32 (s.startTag q / 2 ^ 32 + 2 ^ 16 * (s.finishTag q / 2 ^ 32)) ++ w32 v ++ w32 (v / 2 ^ 32)
        ++ w32 (s.queueStatus q))

/-- QUEUE_READ (0x0904, R387). -/
def execQueueRead (m : Nat) (s : State) : Host.Outcome State Fault Refusal :=
  .next (s.runCmd m C.QUEUE_READ s.queueReadChecks s.queueReadAct)

/-- What SAMPLE_CONFIG adds to the checks of R94. -/
def State.sampleConfigChecks (_ : State) (r : Req) : Checks :=
  { Checks.plain C.SAMPLE_CONFIG with
      target := targetWhole 0x38 r, args := r.range A.SAMPLE_CONFIG_INTERVAL_NS 256 1000000, units := [9] }

/-- What SAMPLE_CONFIG does once its checks have passed. -/
def State.sampleConfigAct (s : State) (r : Req) : Ans :=
      let t := s.setF F.QSC_SAMPLE_CFG_INTERVAL_NS 0 (r.arg A.SAMPLE_CONFIG_INTERVAL_NS)
      .ok t (w32 (t.rd R.QSC_SAMPLE_CFG 0))

/-- SAMPLE_CONFIG (0x0905, R381). -/
def execSampleConfig (m : Nat) (s : State) : Host.Outcome State Fault Refusal :=
  .next (s.runCmd m C.SAMPLE_CONFIG s.sampleConfigChecks s.sampleConfigAct)

end Sys2Proof.Machine
end

