-- ==== Sys2Proof/Machine/Counting.lean ====
section
/-! DEFINITION. The Counting House: intake, contributions, results, timers and commands (R429 to R457). -/
namespace Sys2Proof.Machine

/-- Advances counter `k` of CTH_GSTAT, and of a syndicate's CTH_SYN_STAT by `n`. -/
def State.cthStat (s : State) (k : Nat) : State := s.count64 R.CTH_GSTAT_LO R.CTH_GSTAT_HI k 1
def State.synStat (s : State) (y k n : Nat) : State := s.count64 R.CTH_SYN_STAT_LO R.CTH_SYN_STAT_HI (k + 8 * y) n

def State.syn (s : State) (y : Nat) : Syndicate := Tab.get {} s.cth.syns y
def State.putSyn (s : State) (y : Nat) (x : Syndicate) : State := { s with cth := { s.cth with syns := Tab.set {} s.cth.syns y x } }
def State.intake (s : State) (q : Nat) : List Parsed := Tab.get [] s.cth.intake q

/-- An intake queue replaced, with INTAKE_KB of its die. -/
def State.setIntake (s : State) (q : Nat) (l : List Parsed) : State :=
  let s := { s with cth := { s.cth with intake := Tab.set [] s.cth.intake q l } }
  let d := q / 256
  let used := ((s.cth.intake.filter fun e => e.1 / 256 == d).map fun e => (e.2.map fun x => x.frame.bytes.length).foldl (· + ·) 0).foldl (· + ·) 0
  s.setF F.CTH_DIE_MEMBERS_INTAKE_KB d (used / 1024)

/-- Bytes in use in a die's intake area. -/
def State.intakeBytes (s : State) (d : Nat) : Nat :=
  ((s.cth.intake.filter fun e => e.1 / 256 == d).map fun e => (e.2.map fun x => x.frame.bytes.length).foldl (· + ·) 0).foldl (· + ·) 0

def State.synEnabled (s : State) (y : Nat) : Bool := s.flag F.CTH_SYN_CFG_ENABLE y && s.flag F.CTH_SYN_CFG_EXISTS y
def State.synHome (s : State) (y : Nat) : Nat := s.fld F.CTH_SYN_CFG_HOME y
def State.synMembers (s : State) (y : Nat) : Nat := s.fld F.CTH_SYN_SIZE_MEMBERS y
def State.synWindow (s : State) (y : Nat) : Nat := max 1 (s.fld F.CTH_SYN_SIZE_WINDOW y)
def State.synEtype (s : State) (y : Nat) : Nat := s.fld F.CTH_SYN_CFG_ETYPE y
def State.synOp (s : State) (y : Nat) : Nat := s.fld F.CTH_SYN_CFG_OP y

/-- Member `m`'s entry of syndicate `y`, and its offset in the member table. -/
def State.memberAt (s : State) (y m : Nat) : Nat := 0xA6100000 + 0x800000 * s.synHome y + 32 * (s.rd R.CTH_SYN_MEMBER_BASE y + m)
def State.memberEntry (s : State) (y m : Nat) : List Byte := s.arr (s.memberAt y m) 32

/-- A chunk buffer. -/
def State.chunk (s : State) (y b : Nat) : Option Chunk := Tab.get none (s.syn y).chunks b
def State.putChunk (s : State) (y b : Nat) (c : Option Chunk) : State :=
  let s := s.putSyn y { s.syn y with chunks := Tab.set none (s.syn y).chunks b c }
  s.setF F.CTH_SYN_STATUS_OPEN y ((s.syn y).chunks.filter fun e => match e.2 with
    | some x => x.phase == 1
    | none => false).length

/-- Offsets of a counting frame's IP and UDP headers. -/
def State.cthSlots (s : State) (x : Parsed) : Nat × Nat :=
  (recOffset x.record (s.fld F.CTH_CFG_IP_SLOT 0), recOffset x.record (s.fld F.CTH_CFG_UDP_SLOT 0))

/-- Byte `i` onwards of a counting frame's header and payload, without the FCS. -/
def State.cthBody (s : State) (x : Parsed) : List Byte := (x.frame.bytes.take (x.frame.bytes.length - 4)).drop ((s.cthSlots x).2 + 8)

/-! ### Intake (R432, R433) -/

/-- CTH_INTAKE (R433): the oldest counting frame of pipeline `i` reaches its intake queue; its flight ends (R432). -/
def execCthIntake (i : Nat) (s : State) : Host.Outcome State Fault Refusal :=
  .next (match Tab.get [] s.cls.toCth i with
    | [] => s
    | (x, post) :: t =>
      let s := ({ s with cls := { s.cls with toCth := Tab.set [] s.cls.toCth i t } }).leaveFlight (i / 16) post
      if !bit 0x30 s.mode then s
      else
        let s := s.cthStat 0
        let y := byteAt (s.cthBody x) 2
        let d := if s.synEnabled y then s.synHome y else i / 16
        let s := if d = i / 16 then s else s.unitEvent (320 + i) 19 1
        if 0x100000 < s.intakeBytes d + x.frame.bytes.length then (s.cthStat 2).note E.CTH_INTAKE_DROP
        else if x.frame.bad then s.cthStat 1
        else s.setIntake (256 * d + y) (s.intake (256 * d + y) ++ [x]))

/-! ### Frames sent (R439, R445) -/

/-- What the Counting House hands to the vault (R445): unit CTH, RESULT_POOL, colour green. -/
def State.cthDesc (s : State) : Desc := { pool := s.fld F.CTH_CFG_RESULT_POOL 0, unit := 3 }

/-- A frame with one copy to a port and queue, its addresses already in it. -/
def State.cthSend (s : State) (home p k : Nat) (fr : List Byte) : State :=
  if s.portConfigured p then
    (s.storeCopies home s.cthDesc fr [{ port := p, queue := k, marginalia := s.selectsMarginalia p false }]).1
  else s

/-- A frame to members: a template stored once, with each copy's member entry beside its descriptor. Answers whether the vault took it. -/
def State.cthMulticast (s : State) (y : Nat) (ms : List Nat) (data : List Byte) : State × Bool :=
  let k := s.fld F.CTH_SYN_CFG_RESULT_QUEUE y
  let live := ms.filter fun m => s.portConfigured (memberPort (s.memberEntry y m))
  let targets : List Target := live.map fun m =>
    let p := memberPort (s.memberEntry y m)
    { port := p, queue := k, edit := m, marginalia := s.selectsMarginalia p false }
  match live with
  | [] => (s, true)
  | m :: _ =>
    let refused := targets.all fun t => s.limitHit (16 * t.port + t.queue) 0
    let before := s.vlt.descs.map Prod.fst
    let r := s.storeCopies (s.synHome y) s.cthDesc (cthTemplate (memberIpv6 (s.memberEntry y m)) data) targets
    let fill := fun (e : Nat × Option Desc) =>
      if before.contains e.1 then e
      else (e.1, e.2.map fun (v : Desc) => if v.unit = 3 ∧ v.record.isEmpty then { v with record := s.memberEntry y v.edit } else v)
    ({ r.1 with vlt := { r.1.vlt with descs := r.1.vlt.descs.map fill } }, r.2 || refused)

/-- An error against a member of a syndicate (R439): counted and raised; answers whether a frame may be sent, at most one per member per 1 µs. -/
def State.cthError (s : State) (y m : Nat) : State × Bool :=
  let s := ((s.synStat y 4 1).setCounted F.CTH_SYN_STATUS_ERROR F.CTH_SYN_STATUS_ERROR_COUNT y).note E.CTH_MEMBER_ERROR
  let i := 1024 * y + m
  match Tab.get none s.cth.errAt i with
  | some t => if s.now - t < 1000 then (s.cthStat 3, false) else ({ s with cth := { s.cth with errAt := Tab.set none s.cth.errAt i (some s.now) } }, true)
  | none => ({ s with cth := { s.cth with errAt := Tab.set none s.cth.errAt i (some s.now) } }, true)

/-- The answer to an offending contribution (R439). -/
def State.cthAnswer (s : State) (d y : Nat) (x : Parsed) (code : Nat) : State :=
  let r := s.cthError y (beAt (s.cthBody x) 4 4 / 2 ^ 22)
  let k := if code = 7 then s.fld F.CTH_MAC_HI_ERROR_QUEUE 0 else s.fld F.CTH_SYN_CFG_RESULT_QUEUE y
  if r.2 then r.1.cthSend d x.frame.port k (errorFrame x.frame.bytes (s.cthSlots x).1 (s.cthSlots x).2 code) else r.1

/-- Error frames to every member of a syndicate (R449, R451). -/
def State.cthTellAll (s : State) (y chunk code : Nat) : State :=
  let r := (List.range (s.synMembers y)).foldl (fun (a : State × List Nat) m =>
    let e := a.1.cthError y m
    (e.1, if e.2 then a.2 ++ [m] else a.2)) (s, [])
  (r.1.cthMulticast y r.2 (cthHeader (s.synEtype y) (s.synOp y) 2 y 0 chunk 0 code)).1

/-! ### The window (R435, R446, R447, R449) -/

/-- The window base advances past every chunk that is done or abandoned, in chunk order; an advance takes up the die's throttle level. -/
def State.advanceBase (s : State) (y : Nat) : Nat → State
  | 0 => s
  | n + 1 =>
    let b := s.rd R.CTH_SYN_BASE y
    match s.chunk y (b % s.synWindow y) with
    | some c =>
      if c.number = b ∧ 4 ≤ c.phase then
        let lv := s.fld F.CTH_DIE_STATUS_THROTTLE (s.synHome y)
        let s := (s.wr R.CTH_SYN_BASE y (b + 1)).putSyn y { s.syn y with level := if lv = 0 then 8 else lv }
        State.advanceBase s y n
      else s
    | none => s

def State.settleWindow (s : State) (y : Nat) : State := s.advanceBase y (s.synWindow y)

/-- A chunk is abandoned with an error code to every member (R449, R451). -/
def State.abandon (s : State) (y b : Nat) (c : Chunk) (code : Nat) : State :=
  let s := s.putChunk y b (some { c with phase := 5, elems := [] })
  let s := ((s.synStat y 6 1).setF F.CTH_SYN_STATUS_ABORTED y 1).inc F.CTH_SYN_ABORT_COUNT_VALUE y
  ((s.note E.CTH_CHUNK_ABORTED).cthTellAll y c.number code).settleWindow y

/-! ### Contributions (R436 to R438) -/

/-- What the checks of R436 find of a contribution `x` to syndicate `y`: an error code, a result to send again, or its acceptance. -/
inductive Verdict where
  | error (code : Nat)
  | resend (member buffer : Nat)
  | accept (member buffer chunk count : Nat)
  deriving DecidableEq, Repr

/-- The member's address is the IP source (R436, check 3). -/
def State.sourceIs (s : State) (y m : Nat) (x : Parsed) : Bool :=
  let ip := (s.cthSlots x).1
  let e := s.memberEntry y m
  if byteAt x.frame.bytes ip / 16 = 6 then memberIpv6 e && (x.frame.bytes.drop (ip + 8)).take 16 == (e.drop 8).take 16
  else !memberIpv6 e && (x.frame.bytes.drop (ip + 12)).take 4 == (e.drop 20).take 4

def State.judge (s : State) (y : Nat) (x : Parsed) : Verdict :=
  let h := s.cthBody x
  let w0 := beAt h 0 4
  let m := beAt h 4 4 / 2 ^ 22
  let c := beAt h 8 4
  let n := beAt h 12 2
  let e := bits w0 24 4
  let op := bits w0 22 2
  let b := c % s.synWindow y
  let base := s.rd R.CTH_SYN_BASE y
  let held := match s.chunk y b with
    | some k => if k.number = c then some k else none
    | none => none
  let resized : Bool := match held with
    | some k => decide (k.count ≠ n)
    | none => false
  if bits w0 28 4 ≠ 1 ∨ 5 < e ∨ op = 3 ∨ bits w0 16 2 ≠ 0 then .error 8
  else if e ≠ s.synEtype y ∨ op ≠ s.synOp y then .error 4
  else if s.synMembers y ≤ m ∨ (s.flag F.CTH_SYN_CFG_CHECK_SOURCE y && !s.sourceIs y m x) then .error 6
  else if n = 0 ∨ s.fld F.CTH_SYN_LIMITS_MAX_COUNT y < n ∨ h.length < 16 + n * elemBytes e ∨ resized then .error 5
  else
    let d := (c + 2 ^ 32 - base) % 2 ^ 32
    if d < s.synWindow y then
      (match held with
       | some k => if k.phase = 5 then .error 9 else if bit k.arrived m then .error 3 else .accept m b c n
       | none => .accept m b c n)
    else if 2 ^ 31 ≤ d then
      (match held with
       | some k => if k.phase = 4 then .resend m b else if k.phase = 5 then .error 9 else .error 2
       | none => .error 2)
    else .error 1

/-- FLAGS of a result (R433, R444). -/
def State.resultEtype (s : State) (y : Nat) : Nat × Nat :=
  let wide := s.flag F.CTH_SYN_CFG_WIDEN y && decide (outBytes (s.synEtype y) (s.synOp y) true ≠ elemBytes (s.synEtype y))
  (if wide then 0 else s.synEtype y, 1 + 4 * b2n wide)

/-- A result's counting header and payload. -/
def State.resultData (s : State) (y : Nat) (c : Chunk) (resent : Bool) : List Byte :=
  let e := s.resultEtype y
  cthHeader e.1 (s.synOp y) (e.2 + 8 * b2n resent) y 0 c.number c.count 0 ++ c.result

/-- CTH_CONTRIBUTION (R436 to R439): the contribution at the head of intake queue `y` of die `d` is checked, and accepted, resent or answered. While
the syndicate accumulates an earlier one it waits. -/
def execCthContribution (d y : Nat) (s : State) : Host.Outcome State Fault Refusal :=
  .next (match s.intake (256 * d + y) with
    | [] => s
    | x :: t =>
      let here := s.synEnabled y && s.synHome y == d
      if !bit 0x30 s.mode || (here && (s.syn y).work.isSome) then s
      else
        let s := s.setIntake (256 * d + y) t
        if !here then (s.cthStat 7).cthAnswer d y x 7
        else match s.judge y x with
        | .error code => s.cthAnswer d y x code
        | .resend m b => match s.chunk y b with
          | some c => ((s.synStat y 5 1).cthMulticast y [m] (s.resultData y c true)).1
          | none => s
        | .accept m b c n =>
          let sz := elemBytes (s.synEtype y)
          let h := s.cthBody x
          let els := (List.range n).map fun i => leAt h (16 + i * sz) sz
          let s := (s.synStat y 0 1).synStat y 1 n
          let s := match s.chunk y b with
            | some k => if k.number = c then s else s.putChunk y b (some { number := c, phase := 1, count := n, elems := List.replicate n {} })
            | none => s.putChunk y b (some { number := c, phase := 1, count := n, elems := List.replicate n {} })
          s.putSyn y { s.syn y with work := some ⟨m, b, els⟩ })

/-- An error of the accumulator store met in work on a chunk (R451): 0 none, 1 corrected, 2 uncorrectable; answers whether the chunk is lost. -/
def State.storeError (s : State) (y b : Nat) (c : Chunk) (ecc : Nat) : State × Bool :=
  if ecc = 0 then (s, false)
  else if ecc = 1 then (s.cthStat 5, false)
  else ((((s.cthStat 6).note E.CTH_STORE_FAULT).abandon y b c 10), true)

/-- CTH_ACCUMULATED (R437, R440): the last element of syndicate `y`'s contribution in work is accumulated. -/
def execCthAccumulated (y ecc : Nat) (s : State) : Host.Outcome State Fault Refusal :=
  .next (match (s.syn y).work with
    | none => s
    | some w =>
      let s := (s.putSyn y { s.syn y with work := none }).unitEvent (392 + s.synHome y) 17 1
      match s.chunk y w.buffer with
      | none => s
      | some c =>
        let r := s.storeError y w.buffer c ecc
        if r.2 then r.1
        else
          let s := r.1
          let els := (c.elems.zip w.elems).map fun z => combineElem (s.synEtype y) (s.synOp y) z.1 z.2
          let arrived := c.arrived ||| 2 ^ w.member
          let full := popCount 1024 arrived == s.synMembers y
          s.putChunk y w.buffer (some { c with elems := els, arrived := arrived, since := some (c.since.getD s.now), phase := if full then 2 else 1 }))

/-! ### Results (R441 to R446) -/

/-- A result is offered to the vault; refused, it waits to be offered again (R446). -/
def State.offerResult (s : State) (y b : Nat) (c : Chunk) : State :=
  let r := s.cthMulticast y (List.range (s.synMembers y)) (s.resultData y c false)
  if r.2 then
    let s := ((r.1.synStat y 2 1).synStat y 3 (s.synMembers y)).putChunk y b (some { c with phase := 4, elems := [] })
    s.settleWindow y
  else ((r.1.putChunk y b (some { c with phase := 3, elems := [] })).cthStat 4).note E.CTH_RESULT_STALL

/-- CTH_RESULT_READY (R441 to R446): the result of the complete chunk in buffer `b` of syndicate `y` is rounded and written to the vault. -/
def execCthResultReady (y b ecc : Nat) (s : State) : Host.Outcome State Fault Refusal :=
  .next (match s.chunk y b with
    | none => s
    | some c =>
      if c.phase ≠ 2 then s
      else
        let r := s.storeError y b c ecc
        if r.2 then r.1
        else
          let e := s.synEtype y
          let w := s.flag F.CTH_SYN_CFG_WIDEN y
          let out := c.elems.map fun a => finishElem e (s.synOp y) w a
          let over' := (out.filter fun o => o.2).length
          let s := if over' = 0 then r.1 else (r.1.synStat y 7 over').note E.CTH_OVERFLOW
          s.offerResult y b { c with result := out.flatMap fun o => leBytes (outBytes e (s.synOp y) w) o.1 })

/-- CTH_RESULT_RETRY (R446): a refused result is offered again. -/
def execCthResultRetry (y b : Nat) (s : State) : Host.Outcome State Fault Refusal :=
  .next (match s.chunk y b with
    | some c => if c.phase = 3 then s.offerResult y b c else s
    | none => s)

/-! ### Timers (R448, R449) -/

/-- CTH_STRAGGLER_TIMER (R448): the open chunk in buffer `b` of syndicate `y` has not completed STRAGGLER_US after its first contribution. -/
def execCthStragglerTimer (y b : Nat) (s : State) : Host.Outcome State Fault Refusal :=
  .next (match s.chunk y b with
    | some c =>
      if c.phase = 1 ∧ c.since.isSome ∧ !c.straggled then
        let s := s.putChunk y b (some { c with straggled := true })
        let miss := (lowest (s.synMembers y) fun m => !bit c.arrived m).getD 0
        let s := (s.wr R.CTH_SYN_STRAG_CHUNK y c.number).wr R.CTH_SYN_STRAG_MEMBER y (miss + 2 ^ 16 * popCount 1024 c.arrived)
        (s.setCounted F.CTH_SYN_STATUS_STRAGGLER F.CTH_SYN_STATUS_STRAGGLER_COUNT y).note E.CTH_STRAGGLER
      else s
    | none => s)

/-- CTH_ABORT_TIMER (R449): the open chunk in buffer `b` of syndicate `y` is abandoned ABORT_US after its first contribution. A contribution in work
on it completes first. -/
def execCthAbortTimer (y b : Nat) (s : State) : Host.Outcome State Fault Refusal :=
  .next (match s.chunk y b with
    | some c =>
      if s.flag F.CTH_SYN_CFG_ABORT_EN y && c.phase == 1 && c.since.isSome && !(match (s.syn y).work with
          | some w => w.buffer == b
          | none => false) then s.abandon y b c 9
      else s
    | none => s)

/-- The Counting House as an entry to Provisioned leaves it (R452). -/
def State.enterCounting (s : State) : State :=
  let s := s.each (List.range 256) fun y s =>
    let x := s.syn y
    let opened := x.chunks.filter fun e => match e.2 with
      | some c => decide (c.phase < 4)
      | none => false
    let s := if opened.isEmpty then s else s.synStat y 6 opened.length
    (s.putSyn y { x with work := none, chunks := x.chunks.filter fun e => !opened.contains e }).setF F.CTH_SYN_STATUS_OPEN y 0
  let s := { s with cth := { s.cth with intake := [] } }
  (s.setF F.CTH_DIE_MEMBERS_INTAKE_KB 0 0).setF F.CTH_DIE_MEMBERS_INTAKE_KB 1 0

/-! ### Commands -/

/-- The ADDR6 words of a CTH_CONFIG request. -/
def Req.addr6 (r : Req) (w : Nat) : Nat := leNat (((r.bytes A.CTH_CONFIG_ADDR6).drop (4 * w)).take 4)

/-- What CTH_CONFIG adds to the checks of R94. -/
def State.cthConfigChecks (s : State) (r0 : Req) : Checks :=
      let d := [(A.CTH_CONFIG_ERROR_QUEUE, 12)]
      let r := filled C.CTH_CONFIG d r0
      let changes := r.arg A.CTH_CONFIG_UDP_PORT != s.fld F.CTH_CFG_UDP_PORT 0 || r.arg A.CTH_CONFIG_IP_SLOT != s.fld F.CTH_CFG_IP_SLOT 0
        || r.arg A.CTH_CONFIG_UDP_SLOT != s.fld F.CTH_CFG_UDP_SLOT 0 || r.arg A.CTH_CONFIG_ADDR4 != s.rd R.CTH_ADDR4 0
        || (List.range 4).any (fun w => r.addr6 w != s.rd R.CTH_ADDR6 w) || r.arg A.CTH_CONFIG_MAC_LO != s.rd R.CTH_MAC_LO 0
        || r.arg A.CTH_CONFIG_MAC_HI != s.fld F.CTH_MAC_HI_MAC 0
      { Checks.plain C.CTH_CONFIG with
        target := targetWhole 0x40 r, dflt := d, units := [10]
        busy := if changes && (List.range 256).any (fun y => s.synEnabled y) then some 0x10 else none }

/-- What CTH_CONFIG does once its checks have passed. -/
def State.cthConfigAct (s : State) (r : Req) : Ans :=
      let t := ((s.setF F.CTH_CFG_UDP_PORT 0 (r.arg A.CTH_CONFIG_UDP_PORT)).setF F.CTH_CFG_IP_SLOT 0 (r.arg A.CTH_CONFIG_IP_SLOT)).setF
        F.CTH_CFG_UDP_SLOT 0 (r.arg A.CTH_CONFIG_UDP_SLOT)
      let t := (t.setF F.CTH_CFG_RESULT_POOL 0 (r.arg A.CTH_CONFIG_RESULT_POOL)).wr R.CTH_ADDR4 0 (r.arg A.CTH_CONFIG_ADDR4)
      let t := t.each (List.range 4) fun w t => t.wr R.CTH_ADDR6 w (r.addr6 w)
      let t := ((t.wr R.CTH_MAC_LO 0 (r.arg A.CTH_CONFIG_MAC_LO)).setF F.CTH_MAC_HI_MAC 0 (r.arg A.CTH_CONFIG_MAC_HI)).setF F.CTH_MAC_HI_ERROR_QUEUE 0
        (r.arg A.CTH_CONFIG_ERROR_QUEUE)
      .ok t (w32 (t.rd R.CTH_CFG 0))

/-- CTH_CONFIG (0x0B01, R453). -/
def execCthConfig (m : Nat) (s : State) : Host.Outcome State Fault Refusal :=
  .next (s.runCmd m C.CTH_CONFIG s.cthConfigChecks s.cthConfigAct)

/-- The lowest start at which `n` consecutive places below `total` are free of the taken ranges (DESIGN CHOICE, log entry 47). -/
def firstFit (total n : Nat) (taken : List (Nat × Nat)) : Option Nat :=
  let clear := fun (a : Nat) => decide (a + n ≤ total) && taken.all fun r => decide (a + n ≤ r.1 ∨ r.1 + r.2 ≤ a)
  ((0 :: taken.map fun r => r.1 + r.2).filter clear).foldl (fun (b : Option Nat) a => some (match b with
    | some x => min x a
    | none => a)) none

/-- Pages of one chunk buffer (R431). -/
def bufferPages (etype maxCount : Nat) : Nat := ceilDiv (maxCount * (if etype = 0 ∨ etype = 2 then 40 else 8) + 256) 4096

/-- Pages a syndicate takes. -/
def State.synPages (s : State) (y : Nat) : Nat :=
  bufferPages (s.synEtype y) (s.fld F.CTH_SYN_LIMITS_MAX_COUNT y) * s.fld F.CTH_SYN_SIZE_WINDOW y

/-- The syndicates that live on a die. -/
def State.synsOn (s : State) (d : Nat) : List Nat := (List.range 256).filter fun y => s.flag F.CTH_SYN_CFG_EXISTS y && s.synHome y == d

/-- The largest MAX_COUNT allowed (SYNDICATE_CREATE). -/
def maxCountOf (etype : Nat) (widen : Bool) : Nat := if widen then 1024 else 4096 / elemBytes etype

/-- SYNDICATE_CREATE's defaults (R106). -/
def synDefaults (r : Req) : List (Arg × Nat) :=
  [(A.SYNDICATE_CREATE_LOCKSTEP, 0), (A.SYNDICATE_CREATE_PROFILE, 0), (A.SYNDICATE_CREATE_CHECK_SOURCE, 1), (A.SYNDICATE_CREATE_ABORT_EN, 0),
   (A.SYNDICATE_CREATE_WINDOW, 8), (A.SYNDICATE_CREATE_MAX_COUNT, maxCountOf (r.arg A.SYNDICATE_CREATE_ETYPE) (r.on A.SYNDICATE_CREATE_WIDEN)),
   (A.SYNDICATE_CREATE_UNITS, 64), (A.SYNDICATE_CREATE_STRAGGLER_US, 100), (A.SYNDICATE_CREATE_ABORT_US, 1000), (A.SYNDICATE_CREATE_FIRST_CHUNK, 0),
   (A.SYNDICATE_CREATE_RESULT_QUEUE, 12)]

/-- The registers of a syndicate at their reset values (DESIGN CHOICE for SYNDICATE_DELETE, log entry 48). -/
def State.clearSyn (s : State) (y : Nat) : State :=
  (s.resetRegs fun a => decide (0x40010000 + 0x100 * y ≤ a ∧ a < 0x40010100 + 0x100 * y)).putSyn y {}

/-- The die's free pages, units and member entries brought in line. -/
def State.countSyns (s : State) (d : Nat) : State :=
  let l := s.synsOn d
  let sum := fun (f : Nat → Nat) => (l.map f).foldl (· + ·) 0
  ((s.setF F.CTH_DIE_STATUS_FREE_PAGES d (1520 - sum s.synPages)).setF F.CTH_DIE_STATUS_FREE_UNITS d (512 - sum (s.fld F.CTH_SYN_LIMITS_UNITS))).setF
    F.CTH_DIE_MEMBERS_FREE_MEMBERS d (32768 - sum s.synMembers)

/-- What SYNDICATE_CREATE adds to the checks of R94. -/
def State.syndicateCreateChecks (s : State) (r0 : Req) : Checks :=
      let r := filled C.SYNDICATE_CREATE (synDefaults r0) r0
      let e := r.arg A.SYNDICATE_CREATE_ETYPE
      let w := r.on A.SYNDICATE_CREATE_WIDEN
      { Checks.plain C.SYNDICATE_CREATE with
        target := targetError 0x40 9 256 false r, dflt := synDefaults r0
        args := firstFail [r.range A.SYNDICATE_CREATE_ETYPE 0 5, r.range A.SYNDICATE_CREATE_OP 0 2,
          failIf (w && e != 1 && e != 2) (badArg A.SYNDICATE_CREATE_WIDEN 1), r.range A.SYNDICATE_CREATE_MEMBERS 1 1024,
          r.range A.SYNDICATE_CREATE_WINDOW 1 64, r.range A.SYNDICATE_CREATE_MAX_COUNT 1 (maxCountOf e w), r.range A.SYNDICATE_CREATE_UNITS 1 512,
          r.range A.SYNDICATE_CREATE_STRAGGLER_US 1 65535,
          failIf (r.on A.SYNDICATE_CREATE_ABORT_EN) (r.range A.SYNDICATE_CREATE_ABORT_US (r.arg A.SYNDICATE_CREATE_STRAGGLER_US + 1) 65535),
          failIf (s.flag F.CTH_SYN_CFG_EXISTS r.index) (some (0x0103, 2))]
        units := [10] }

/-- What SYNDICATE_CREATE puts into CTH_SYN_CFG. -/
def State.setSynCfg (s : State) (y : Nat) (r : Req) : State :=
  let t := (((s.setF F.CTH_SYN_CFG_HOME y (r.arg A.SYNDICATE_CREATE_HOME)).setF F.CTH_SYN_CFG_OP y (r.arg A.SYNDICATE_CREATE_OP)).setF
    F.CTH_SYN_CFG_ETYPE y (r.arg A.SYNDICATE_CREATE_ETYPE)).setF F.CTH_SYN_CFG_WIDEN y (r.arg A.SYNDICATE_CREATE_WIDEN)
  let t := (((t.setF F.CTH_SYN_CFG_LOCKSTEP y (r.arg A.SYNDICATE_CREATE_LOCKSTEP)).setF F.CTH_SYN_CFG_CHECK_SOURCE y
    (r.arg A.SYNDICATE_CREATE_CHECK_SOURCE)).setF F.CTH_SYN_CFG_ABORT_EN y (r.arg A.SYNDICATE_CREATE_ABORT_EN)).setF F.CTH_SYN_CFG_PROFILE y
    (r.arg A.SYNDICATE_CREATE_PROFILE)
  (t.setF F.CTH_SYN_CFG_RESULT_QUEUE y (r.arg A.SYNDICATE_CREATE_RESULT_QUEUE)).setF F.CTH_SYN_CFG_EXISTS y 1

/-- The sizes, limits and timers SYNDICATE_CREATE gives a syndicate. -/
def State.setSynSize (s : State) (y : Nat) (r : Req) : State :=
  let t := (s.setF F.CTH_SYN_SIZE_MEMBERS y (r.arg A.SYNDICATE_CREATE_MEMBERS)).setF F.CTH_SYN_SIZE_WINDOW y (r.arg A.SYNDICATE_CREATE_WINDOW)
  let t := (t.setF F.CTH_SYN_LIMITS_MAX_COUNT y (r.arg A.SYNDICATE_CREATE_MAX_COUNT)).setF F.CTH_SYN_LIMITS_UNITS y (r.arg A.SYNDICATE_CREATE_UNITS)
  (t.setF F.CTH_SYN_TIMERS_STRAGGLER_US y (r.arg A.SYNDICATE_CREATE_STRAGGLER_US)).setF F.CTH_SYN_TIMERS_ABORT_US y
    (r.arg A.SYNDICATE_CREATE_ABORT_US)

/-- SYNDICATE_CREATE with the places its pages, units and members found, NO_RESOURCE's reason where one found none. -/
def State.placeSyn (s : State) (r : Req) (pages : Nat) : Option Nat → Option Nat → Option Nat → Ans
  | none, _, _ => .fail s 0x0301 1
  | some _, none, _ => .fail s 0x0301 2
  | some _, some _, none => .fail s 0x0301 3
  | some pb, some ub, some mb =>
      let y := r.index
      let d := r.arg A.SYNDICATE_CREATE_HOME
      let t := (((s.clearSyn y).setSynCfg y r).setSynSize y r)
      let t := ((t.wr R.CTH_SYN_BASE y (r.arg A.SYNDICATE_CREATE_FIRST_CHUNK)).setF F.CTH_SYN_PLACE_UNIT_BASE y ub).setF F.CTH_SYN_PLACE_PAGE_BASE y pb
      let lv := t.fld F.CTH_DIE_STATUS_THROTTLE d
      let t := ((t.wr R.CTH_SYN_MEMBER_BASE y mb).putSyn y { level := if lv = 0 then 8 else lv }).countSyns d
      .ok t (w32 (ub + 2 ^ 16 * pages) ++ w32 mb)

/-- What SYNDICATE_CREATE does once its checks have passed. -/
def State.syndicateCreateAct (s : State) (r : Req) : Ans :=
      let l := s.synsOn (r.arg A.SYNDICATE_CREATE_HOME)
      let pages := bufferPages (r.arg A.SYNDICATE_CREATE_ETYPE) (r.arg A.SYNDICATE_CREATE_MAX_COUNT) * r.arg A.SYNDICATE_CREATE_WINDOW
      s.placeSyn r pages (firstFit 1520 pages (l.map fun x => (s.fld F.CTH_SYN_PLACE_PAGE_BASE x, s.synPages x)))
        (firstFit 512 (r.arg A.SYNDICATE_CREATE_UNITS) (l.map fun x => (s.fld F.CTH_SYN_PLACE_UNIT_BASE x, s.fld F.CTH_SYN_LIMITS_UNITS x)))
        (firstFit 32768 (r.arg A.SYNDICATE_CREATE_MEMBERS) (l.map fun x => (s.rd R.CTH_SYN_MEMBER_BASE x, s.synMembers x)))

/-- SYNDICATE_CREATE (0x0B02, R431, R454). -/
def execSyndicateCreate (m : Nat) (s : State) : Host.Outcome State Fault Refusal :=
  .next (s.runCmd m C.SYNDICATE_CREATE s.syndicateCreateChecks s.syndicateCreateAct)

/-- The members of a load. -/
def loadRange (r : Req) : List Nat := (List.range (r.arg A.MEMBER_LOAD_COUNT)).map fun i => r.arg A.MEMBER_LOAD_FIRST + i

/-- What MEMBER_LOAD adds to the checks of R94. -/
def State.memberLoadChecks (s : State) (r : Req) : Checks :=
  { Checks.plain C.MEMBER_LOAD with
      target := targetError 0x40 9 256 false r
      args := firstFail [failIf (r.arg A.MEMBER_LOAD_HOST_ADDR_LO % 64 != 0) (badArg A.MEMBER_LOAD_HOST_ADDR_LO 1),
        r.range A.MEMBER_LOAD_COUNT 1 1024,
        failIf (decide (s.synMembers r.index < r.arg A.MEMBER_LOAD_FIRST + r.arg A.MEMBER_LOAD_COUNT)) (badArg A.MEMBER_LOAD_FIRST 1),
        failIf (r.on A.MEMBER_LOAD_ENABLE && (List.range (s.synMembers r.index)).any fun m => !bit (s.syn r.index).loaded m && !(loadRange r).contains m)
          (badArg A.MEMBER_LOAD_ENABLE 2)]
      units := [10], busy := if s.synEnabled r.index then some 0x10 else none }

/-- How MEMBER_LOAD starts: the state it runs from and what it notes. -/
def memberLoadStart (_ : Req) (s : State) : State × Nat :=
  (s, 0)

/-- What MEMBER_LOAD does as it runs. -/
def memberLoadAct (r : Req) (_ : Nat) (s : State) : Ans :=
      let y := r.index
      let n := r.arg A.MEMBER_LOAD_COUNT
      let f := r.arg A.MEMBER_LOAD_FIRST
      match s.hostRead (r.arg64 A.MEMBER_LOAD_HOST_ADDR_LO A.MEMBER_LOAD_HOST_ADDR_HI) (32 * n) with
      | none => .hostTimeout s
      | some bs =>
        if (List.range n).any fun i => !s.portConfigured (memberPort ((bs.drop (32 * i)).take 32)) then .fail s 0x0103 1
        else
          let t := s.putArr (s.memberAt y f) bs
          let loaded := (loadRange r).foldl (fun a m => a ||| 2 ^ m) (t.syn y).loaded
          let t := t.putSyn y { t.syn y with loaded := loaded }
          let t := if r.on A.MEMBER_LOAD_ENABLE then t.setF F.CTH_SYN_CFG_ENABLE y 1 else t
          .ok t (w32 (popCount 1024 loaded))

/-- MEMBER_LOAD (0x0B03, R455). -/
def execMemberLoad (x : Exec) (s : State) : Host.Outcome State Fault Refusal :=
  .next (s.runAsync x C.MEMBER_LOAD s.memberLoadChecks memberLoadStart memberLoadAct)

/-- What SYNDICATE_DELETE adds to the checks of R94. -/
def State.syndicateDeleteChecks (_ : State) (r : Req) : Checks :=
  { Checks.plain C.SYNDICATE_DELETE with target := targetError 0x40 9 256 false r, units := [10] }

/-- What SYNDICATE_DELETE does once its checks have passed. -/
def State.syndicateDeleteAct (s : State) (r : Req) : Ans :=
      let y := r.index
      if !s.flag F.CTH_SYN_CFG_EXISTS y then .fail s 0x0302 0
      else
        let d := s.synHome y
        let n := s.fld F.CTH_SYN_STATUS_OPEN y
        let t := s.each (s.intake (256 * d + y)) fun _ t => (t.cthStat 2).note E.CTH_INTAKE_DROP
        let t := ((t.setIntake (256 * d + y) []).clearSyn y).countSyns d
        .ok t (w32 n)

/-- SYNDICATE_DELETE (0x0B04, R456). -/
def execSyndicateDelete (m : Nat) (s : State) : Host.Outcome State Fault Refusal :=
  .next (s.runCmd m C.SYNDICATE_DELETE s.syndicateDeleteChecks s.syndicateDeleteAct)

/-- What SYNDICATE_READ adds to the checks of R94. -/
def State.syndicateReadChecks (_ : State) (r : Req) : Checks :=
  { Checks.plain C.SYNDICATE_READ with target := targetError 0x40 9 256 false r }

/-- What SYNDICATE_READ does once its checks have passed. -/
def State.syndicateReadAct (s : State) (r : Req) : Ans :=
      let y := r.index
      .ok s (w32 (s.rd R.CTH_SYN_CFG y) ++ w32 (s.rd R.CTH_SYN_SIZE y) ++ w32 (s.rd R.CTH_SYN_BASE y) ++ w32 (s.rd R.CTH_SYN_STATUS y)
        ++ w32 (s.rd R.CTH_SYN_STRAG_CHUNK y) ++ w32 (s.rd R.CTH_SYN_STRAG_MEMBER y))

/-- SYNDICATE_READ (0x0B05). -/
def execSyndicateRead (m : Nat) (s : State) : Host.Outcome State Fault Refusal :=
  .next (s.runCmd m C.SYNDICATE_READ s.syndicateReadChecks s.syndicateReadAct)

end Sys2Proof.Machine
end

