-- ==== Sys2Proof/Machine/Staging.lean ====
section
/-! DEFINITION. The classifier's commands and postings (R278 to R292). -/
namespace Sys2Proof.Machine

/-! ### CLS_TABLE_CONFIG -/

/-- The defaults of CLS_TABLE_CONFIG (R106). -/
def tableDefaults : List (Arg × Nat) := [(A.CLS_TABLE_CONFIG_WIDTH, 0), (A.CLS_TABLE_CONFIG_SEED, 0xFFFFFFFF)]

/-- The region [base, base + slots) of an enabled hash table other than `t` meets [a, a + n). -/
def State.regionMeets (s : State) (t a n : Nat) : Bool :=
  (List.range 64).any fun u => u != t && s.tableOn u && decide (s.tableBase u < a + n) && decide (a < s.tableBase u + s.tableSlots u)

/-- A field that R288 freezes while the table holds a rule is changed by a request: the first such field. -/
def State.frozenField (s : State) (t : Nat) (r : Req) : Option Arg :=
  if s.tableFill 0 t = 0 ∧ s.tableFill 1 t = 0 then none
  else if r.arg A.CLS_TABLE_CONFIG_KEY_SOURCE ≠ s.fld F.CLS_TABLE_CFG_KEY_SOURCE t then some A.CLS_TABLE_CONFIG_KEY_SOURCE
  else if t = 64 then
    (if (List.range 10).any fun w => leAt r.params (12 + 4 * w) 4 != s.rd R.CLS_TERN_SELECT w then some A.CLS_TABLE_CONFIG_MASK else none)
  else if r.arg A.CLS_TABLE_CONFIG_WIDTH ≠ s.fld F.CLS_TABLE_CFG_WIDTH t then some A.CLS_TABLE_CONFIG_WIDTH
  else if r.arg A.CLS_TABLE_CONFIG_BUCKETS_LOG2 ≠ s.fld F.CLS_TABLE_CFG_BUCKETS_LOG2 t then some A.CLS_TABLE_CONFIG_BUCKETS_LOG2
  else if r.arg A.CLS_TABLE_CONFIG_BASE ≠ s.fld F.CLS_TABLE_REGION_BASE t then some A.CLS_TABLE_CONFIG_BASE
  else if r.arg A.CLS_TABLE_CONFIG_SEED ≠ s.rd R.CLS_TABLE_SEED t then some A.CLS_TABLE_CONFIG_SEED
  else if r.arg A.CLS_TABLE_CONFIG_MASK ≠ s.tableMask t then some A.CLS_TABLE_CONFIG_MASK
  else none

/-- The parameter checks of CLS_TABLE_CONFIG (R288). -/
def State.tableArgs (s : State) (t : Nat) (r : Req) : Option (Nat × Nat) :=
  let frozen := match s.frozenField t r with
    | some a => badArg a 3
    | none => none
  if t = 64 then
    firstFail [(lowest 40 fun j => 79 < byteAt r.params (12 + j)).bind fun j => some (0x0103, ((12 + j) / 4 * 4) * 65536 + 1), frozen]
  else
    let n := 8 * 2 ^ r.arg A.CLS_TABLE_CONFIG_BUCKETS_LOG2
    let a := 8 * r.arg A.CLS_TABLE_CONFIG_BASE
    firstFail [r.range A.CLS_TABLE_CONFIG_BUCKETS_LOG2 4 15,
      failIf (decide ((if r.on A.CLS_TABLE_CONFIG_WIDTH then 384 else 128) < popCount 640 (r.arg A.CLS_TABLE_CONFIG_MASK))) (badArg A.CLS_TABLE_CONFIG_MASK 1),
      failIf (decide (ternSlot < a + n) || s.regionMeets t a n) (badArg A.CLS_TABLE_CONFIG_BASE 2), frozen]

/-- What CLS_TABLE_CONFIG adds to the checks of R94. -/
def State.clsTableConfigChecks (s : State) (r0 : Req) : Checks :=
      let r := filled C.CLS_TABLE_CONFIG tableDefaults r0
      { Checks.plain C.CLS_TABLE_CONFIG with
        target := targetError 0x20 15 65 false r, dflt := tableDefaults, args := s.tableArgs r.index r, units := [5] }

/-- What CLS_TABLE_CONFIG does once its checks have passed. -/
def State.clsTableConfigAct (s : State) (r : Req) : Ans :=
      let t := r.index
      let u := ((s.setF F.CLS_TABLE_CFG_ENABLE t (r.arg A.CLS_TABLE_CONFIG_ENABLE)).setF F.CLS_TABLE_CFG_KEY_SOURCE t
        (r.arg A.CLS_TABLE_CONFIG_KEY_SOURCE)).setF F.CLS_TABLE_CFG_PRIORITY t (r.arg A.CLS_TABLE_CONFIG_PRIORITY)
      if t = 64 then
        let u := u.each (List.range 10) fun w u => u.wr R.CLS_TERN_SELECT w (leAt r.params (12 + 4 * w) 4)
        .ok u (w32 (u.rd R.CLS_TABLE_CFG 64) ++ w32 0)
      else
        let u := (((u.setF F.CLS_TABLE_CFG_WIDTH t (r.arg A.CLS_TABLE_CONFIG_WIDTH)).setF F.CLS_TABLE_CFG_BUCKETS_LOG2 t
          (r.arg A.CLS_TABLE_CONFIG_BUCKETS_LOG2)).setF F.CLS_TABLE_REGION_BASE t (r.arg A.CLS_TABLE_CONFIG_BASE)).wr R.CLS_TABLE_SEED t
          (r.arg A.CLS_TABLE_CONFIG_SEED)
        let u := u.each (List.range 20) fun w u => u.wr R.CLS_TABLE_MASK (w + 20 * t) (leAt r.params (12 + 4 * w) 4)
        .ok u (w32 (u.rd R.CLS_TABLE_CFG t) ++ w32 (u.rd R.CLS_TABLE_REGION t))

/-- CLS_TABLE_CONFIG (0x0601, R288). -/
def execClsTableConfig (m : Nat) (s : State) : Host.Outcome State Fault Refusal :=
  .next (s.runCmd m C.CLS_TABLE_CONFIG s.clsTableConfigChecks s.clsTableConfigAct)

/-! ### Change records (R284, R289) -/

/-- A change record of RULE_STAGE. -/
structure Change where
  op : Nat
  table : Nat
  tern : Bool
  scope : Nat
  index : Nat
  /-- The gathered value, or VALUE and MASK of a ternary entry, as numbers. -/
  value : Nat
  mask : Nat
  /-- Words 4, 5 and 7 of the rule image. -/
  w4 : Nat
  w5 : Nat
  w7 : Nat
  deriving DecidableEq, Repr

/-- The record that 128 bytes of host memory hold. -/
def changeOf (l : List Byte) : Change :=
  let w := leAt l 0 4
  let tern := bit w 10
  { op := bits w 0 2, table := bits w 4 6, tern := tern, scope := bits w 12 2, index := bits w 16 13
    value := if tern then leAt l 16 40 else leAt l 16 48, mask := leAt l 56 40
    w4 := bits (leAt l 96 4) 0 23, w5 := leAt l 100 4, w7 := leAt l 104 4 }

/-- The dies of a scope. -/
def Change.dies (c : Change) : List Nat := [0, 1].filter fun d => bit c.scope d

/-- The table that governs a change: 64 for the ternary array. -/
def Change.tab (c : Change) : Nat := if c.tern then 64 else c.table

/-- The live rule, not retiring, that a change names on a die (R289). -/
def State.liveRule (s : State) (c : Change) (d : Nat) : Option Nat :=
  let alive := fun (n : Nat) => ruleValid (s.rule d n) && (ruleRetired (s.rule d n)).isNone
  if c.tern then (if alive (ternSlot + c.index) then some (ternSlot + c.index) else none)
  else (s.places c.table (s.bucketOf c.table c.value)).find? fun n => s.ruleIs d c.table n c.value && alive n

/-- The BAD_ARG reason of a change, if any (R289). -/
def State.changeError (s : State) (c : Change) : Option Nat :=
  let acts := c.op != 2
  if c.op = 0 ∨ c.scope = 0 then some 1
  else if acts && bit c.w4 5 && bits c.w4 6 2 == 3 then some 1
  else if acts && bits c.w4 14 2 == 3 && decide (bits c.w4 16 6 < 8) then some 1
  else if !c.tern && decide (2 ^ popCount 640 (s.tableMask c.table) ≤ c.value) then some 1
  else if !s.tableOn c.tab then some 2
  else if c.tern && c.op == 1 && c.dies.any (fun d => ruleValid (s.rule d (ternSlot + c.index))) then some 2
  else if c.op = 1 ∧ c.dies.any (fun d => (s.liveRule c d).isSome) then some 3
  else if c.tern ∧ c.op = 3 then some 4
  else none

/-- The posting at which a change staged now takes effect (R284). -/
def State.nextPosting (s : State) : Nat := (s.current + 1) % 256

/-- A rule's VALID bit cleared. -/
def State.clearRule (s : State) (d n : Nat) : State := s.putRule d n (putBits (s.rule d n) (192 + 25) 1 0)

/-- A live rule retired at the next posting; one born at it loses VALID at once (R284). -/
def State.retireRule (s : State) (d n : Nat) : State :=
  let v := s.rule d n
  if ruleBorn v = some s.nextPosting then s.clearRule d n
  else s.putRule d n (putBits (putBits v (192 + 16) 8 s.nextPosting) (192 + 24) 1 1)

/-- A rule written into a slot, born at the next posting (R268, R284). -/
def State.bearRule (s : State) (c : Change) (d n : Nat) : State :=
  let wide := !c.tern && s.tableWide c.table
  let w6 := s.nextPosting + 256 + 2 ^ 25 + 2 ^ 26 * b2n wide
  let m := if c.tern then 0 else c.value % 2 ^ 128
  let s := s.putRule d n (m + 2 ^ 128 * c.w4 + 2 ^ 160 * c.w5 + 2 ^ 192 * w6 + 2 ^ 224 * c.w7)
  if c.tern then (s.putArr (ternAt d c.index) (leBytes 40 c.value)).putArr (ternAt d c.index + 64) (leBytes 40 c.mask)
  else if wide then s.putRule d (n + 1) (c.value / 2 ^ 128)
  else s

/-- The slot that an added rule takes on a die: the lowest free place of its bucket (R266). -/
def State.freePlace (s : State) (c : Change) (d : Nat) : Option Nat :=
  if c.tern then (if ruleValid (s.rule d (ternSlot + c.index)) then none else some (ternSlot + c.index))
  else (s.places c.table (s.bucketOf c.table c.value)).find? fun n => !ruleValid (s.rule d n)

/-- A change on one die: the state and the slot written back, or none where there is no room. -/
def State.changeDie (s : State) (c : Change) (d : Nat) : Option (State × Nat) :=
  let old := s.liveRule c d
  if c.op = 1 then (s.freePlace c d).map fun n => (s.bearRule c d n, n)
  else match old with
    | none => none
    | some n =>
      if c.op = 2 then some (s.retireRule d n, n)
      else
        let t := s.retireRule d n
        (t.freePlace c d).map fun k => (t.bearRule c d k, k)

/-- A change over a list of dies: each die's slot, or none where some die has no room. -/
def State.changeDies (s : State) (c : Change) : List Nat → Option (State × List (Nat × Nat))
  | [] => some (s, [])
  | d :: t => match s.changeDie c d with
    | none => none
    | some (u, n) => match State.changeDies u c t with
      | none => none
      | some (v, l) => some (v, (d, n) :: l)

/-- One record applied: the state, its status with BAD_ARG's reason, and the slots by die (R284, R289). -/
def State.applyChange (s : State) (c : Change) : State × Nat × Nat × List (Nat × Nat) :=
  match s.changeError c with
  | some e => (s, 0x0103, e, [])
  | none =>
    if c.op ≠ 1 ∧ c.dies.any (fun d => (s.liveRule c d).isNone) then (s, 0x0302, 0, [])
    else match s.changeDies c c.dies with
      | none => (s, 0x0301, 0, [])
      | some (t, l) => (t, 0, 0, l)

/-- SLOT_W or SLOT_E of a record's write-back. -/
def slotWord (l : List (Nat × Nat)) (d : Nat) : Nat := match l.find? fun e => e.1 == d with
  | some (_, n) => n + 2 ^ 31
  | none => 0

/-- What RULE_STAGE has come to: records applied, failed, and the first that failed. -/
structure StageRun where
  applied : Nat := 0
  failed : Nat := 0
  first : Option Nat := none
  deriving DecidableEq, Repr

/-- Records from number `k` on, at most `n` of them; `none` in the third place where host memory did not respond (R289). -/
def State.stageRecords (s : State) (addr : Nat) (cont : Bool) : Nat → Nat → StageRun → State × StageRun × Bool
  | 0, _, a => (s, a, true)
  | n + 1, k, a =>
    match s.hostRead (addr + 128 * k) 128 with
    | none => (s, a, false)
    | some l =>
      let r := s.applyChange (changeOf l)
      let st := r.2.1
      let t := r.1.hostWrite (addr + 128 * k + 4) (w32 (slotWord r.2.2.2 0) ++ w32 (slotWord r.2.2.2 1) ++ w32 (st * 65536 + r.2.2.1))
      if st = 0 then State.stageRecords t addr cont n (k + 1) { a with applied := a.applied + 1 }
      else
        let a := { a with failed := a.failed + 1, first := some (a.first.getD k) }
        if cont then State.stageRecords t addr cont n (k + 1) a else (t, a, true)

/-- What RULE_STAGE adds to the checks of R94. -/
def State.ruleStageChecks (_ : State) (r : Req) : Checks :=
  { Checks.plain C.RULE_STAGE with
      target := targetWhole 0x20 r, dflt := [(A.RULE_STAGE_CONTINUE, 0)]
      args := firstFail [failIf (r.arg A.RULE_STAGE_HOST_ADDR_LO % 64 != 0) (badArg A.RULE_STAGE_HOST_ADDR_LO 1), r.range A.RULE_STAGE_COUNT 1 65536]
      units := [5] }

/-- How RULE_STAGE starts: the state it runs from and what it notes. -/
def ruleStageStart (_ : Req) (s : State) : State × Nat :=
  (s, 0)

/-- What RULE_STAGE does as it runs. -/
def ruleStageAct (r : Req) (_ : Nat) (s : State) : Ans :=
      let n := r.arg A.RULE_STAGE_COUNT
      match s.stageRecords (r.arg64 A.RULE_STAGE_HOST_ADDR_LO A.RULE_STAGE_HOST_ADDR_HI) (r.on A.RULE_STAGE_CONTINUE) n 0 {} with
      | (t, _, false) => .hostTimeout t
      | (t, a, true) => .ok t (w32 a.applied ++ w32 a.failed ++ w32 (a.first.getD n))

/-- RULE_STAGE (0x0602, R284, R289). -/
def execRuleStage (x : Exec) (s : State) : Host.Outcome State Fault Refusal :=
  .next (s.runAsync x C.RULE_STAGE s.ruleStageChecks ruleStageStart ruleStageAct)

/-! ### Postings -/

/-- A RULE_STAGE or STAGE_CANCEL is running (R285). -/
def State.staging (s : State) : Bool := s.tlr.recs.any fun e => match e.2 with
  | some q => q.phase == 1 && (q.req.opcode == C.RULE_STAGE.op || q.req.opcode == C.STAGE_CANCEL.op)
  | none => false

/-- The checks of POST (R285). -/
def State.postChecks (s : State) (r0 : Req) : Checks :=
  let r := filled C.POST [(A.POST_LEAD_NS, 1000)] r0
  { Checks.plain C.POST with
    target := targetWhole 0x20 r, dflt := [(A.POST_LEAD_NS, 1000)], args := r.range A.POST_LEAD_NS 100 100000, units := [5]
    busy := if s.fld F.CLS_POSTING_UNDRAINED 0 = 128 then some 0x10 else if s.staging then some 0x11 else none }

/-- POST (0x0603, R280, R285): T is chosen; the response follows once both dies have switched. -/
def execPost (m : Nat) (s : State) : Host.Outcome State Fault Refusal :=
  .next (match s.takes m C.POST with
    | none => s
    | some r0 =>
      if s.cls.post.isSome then s
      else match s.firstCheck C.POST (s.postChecks r0) r0 false with
        | some e => s.respond m r0 e.1 e.2 []
        | none =>
          let r := filled C.POST [(A.POST_LEAD_NS, 1000)] r0
          let t := (s.tim.net + 65536 * r.arg A.POST_LEAD_NS) % netModulus
          let s := (s.setF F.CLS_POSTING_SWITCH_PENDING 0 1).wr R.CLS_POST_TIME 0 (stampOf t)
          { s with cls := { s.cls with post := some { time := t, mbx := m } } })

/-- POSTING_SWITCH (R280): the local time of die `d` reaches T. Once both dies have switched the POST completes. -/
def execPostingSwitch (d : Nat) (s : State) : Host.Outcome State Fault Refusal :=
  .next (match s.cls.post with
    | none => s
    | some p =>
      if 2 ≤ d ∨ bit p.switched d then s
      else
        let p := { p with switched := p.switched + 2 ^ d }
        let s := { s with cls := { s.cls with post := some p } }
        let s := if d = 0 then (s.setF F.CLS_POSTING_CURRENT 0 (s.current + 1)).settlePosting else s
        if p.switched ≠ 3 then s
        else
          let s := ({ s with cls := { s.cls with post := none } }).setF F.CLS_POSTING_SWITCH_PENDING 0 0
          let s := s.note E.CLS_POST_DONE
          let s := if s.fld F.CLS_POSTING_UNDRAINED 0 = 128 then s.note E.CLS_POSTING_FULL else s
          match s.req? p.mbx with
          | some r0 =>
            let r := filled C.POST [(A.POST_LEAD_NS, 1000)] r0
            let own := w32 (s.current + 256 * s.fld F.CLS_POSTING_UNDRAINED 0) ++ w32 (stampOf p.time) ++ w32 s.oldest
            s.respond p.mbx r 0 0 (respParams C.POST r 0 own)
          | none => s)

/-- OLDEST is drained on both dies and neither die still takes frames into it (R282). -/
def State.drained (s : State) : Bool :=
  s.oldest != s.dieCurrent 0 && s.oldest != s.dieCurrent 1
    && s.fld F.CLS_DRAIN_IN_FLIGHT s.oldest == 0 && s.fld F.CLS_DRAIN_IN_FLIGHT (256 + s.oldest) == 0

/-- POSTING_DRAINED (R282): OLDEST advances by one posting. -/
def execPostingDrained (s : State) : Host.Outcome State Fault Refusal :=
  .next (if !s.drained then s
    else
      let x := (s.oldest + 1) % 256
      let s := ((s.setF F.CLS_POSTING_LAST_LAST_DRAINED 0 s.oldest).setF F.CLS_POSTING_OLDEST 0 x).settlePosting
      let s := ((s.setF F.CLS_POSTING_STALLED 0 0).setCounted F.CLS_POSTING_DRAINED F.CLS_POSTING_LAST_DRAINED_COUNT 0).note E.CLS_POSTING_DRAINED
      let add := fun (t : Tab (List Nat)) (d : Nat) => Tab.set [] t d (Tab.get [] t d ++ [x])
      { s with cls := { s.cls with work := add (add s.cls.work 0) 1 } })

/-- DRAIN_STALL (R287): OLDEST has stayed undrained for DRAIN_WARN_US since its successor became current. -/
def execDrainStall (s : State) : Host.Outcome State Fault Refusal :=
  .next (if s.oldest = s.current ∨ s.flag F.CLS_POSTING_STALLED 0 then s else (s.setF F.CLS_POSTING_STALLED 0 1).note E.CLS_DRAIN_STALL)

/-- The rules of a die that the Clerks change when OLDEST reaches posting `x` (R283). -/
def State.settleRules (s : State) (d x : Nat) : State :=
  s.each (s.ruleSlots d) fun n s =>
    let v := s.rule d n
    if ruleRetired v = some x then s.clearRule d n
    else if ruleBorn v = some x then s.putRule d n (putBits v (192 + 8) 1 0)
    else s

/-- CLERK_POSTING_WORK (R283, R310): the Clerks of die `d` work on the oldest posting that OLDEST has reached; a parked or halted Clerk does no
work. -/
def execClerkPostingWork (d : Nat) (s : State) : Host.Outcome State Fault Refusal :=
  .next (match Tab.get [] s.cls.work d with
    | [] => s
    | x :: t =>
      if (List.range 4).all fun k => 2 ≤ s.fld F.CLRK_STATUS_STATE (4 * d + k) then s
      else { s with cls := { s.cls with work := Tab.set [] s.cls.work d t } }.settleRules d x)

/-- STAGE_CANCEL's effect on a die, and the rules it touched (R290). -/
def State.cancelDie (s : State) (d : Nat) : State × Nat :=
  (s.ruleSlots d).foldl (fun (a : State × Nat) n =>
    let v := a.1.rule d n
    if ruleBorn v = some s.nextPosting then (a.1.clearRule d n, a.2 + 1)
    else if ruleRetired v = some s.nextPosting then (a.1.putRule d n (putBits v (192 + 24) 1 0), a.2 + 1)
    else a) (s, 0)

/-- What STAGE_CANCEL adds to the checks of R94. -/
def State.stageCancelChecks (_ : State) (r : Req) : Checks :=
  { Checks.plain C.STAGE_CANCEL with target := targetWhole 0x20 r, units := [5] }

/-- How STAGE_CANCEL starts: the state it runs from and what it notes. -/
def stageCancelStart (_ : Req) (s : State) : State × Nat :=
  (s, 0)

/-- What STAGE_CANCEL does as it runs. -/
def stageCancelAct (_ : Req) (_ : Nat) (s : State) : Ans :=
      let a := s.cancelDie 0
      let b := a.1.cancelDie 1
      .ok b.1 (w32 (satBits 18 (a.2 + b.2)))

/-- STAGE_CANCEL (0x0604, R290). A change of scope both counts once per die (DEDUCED, log entry 26). -/
def execStageCancel (x : Exec) (s : State) : Host.Outcome State Fault Refusal :=
  .next (s.runAsync x C.STAGE_CANCEL s.stageCancelChecks stageCancelStart stageCancelAct)

/-! ### Meters and ports -/

/-- A meter's tokens after a write of its configuration with FILL (R276). The undefined FILL 3 acts as 0. -/
def State.fillMeter (s : State) (m fill : Nat) : State :=
  let c := s.meterCfg m
  let full : Meter := { c := (c.2.2.1 * meterUnit : Nat), e := (c.2.2.2.1 * meterUnit : Nat), flow := s.tim.flow }
  let x := s.meterFill m
  s.putMeter m (if fill = 1 then full else if fill = 2 then { flow := s.tim.flow } else { x with c := min x.c full.c, e := min x.e full.e })

/-- The defaults of METER_CONFIG (R106). -/
def meterDefaults : List (Arg × Nat) := [(A.METER_CONFIG_LEN_ADJ, 0), (A.METER_CONFIG_FILL, 1)]

/-- What METER_CONFIG adds to the checks of R94. -/
def State.meterConfigChecks (_ : State) (r0 : Req) : Checks :=
      let r := filled C.METER_CONFIG meterDefaults r0
      let low := r.arg A.METER_CONFIG_MODE == 0
      { Checks.plain C.METER_CONFIG with
        target := targetError 0x20 6 65536 false r, dflt := meterDefaults
        args := firstFail [r.range A.METER_CONFIG_CIR 0 200000000, r.range A.METER_CONFIG_EIR (if low then r.arg A.METER_CONFIG_CIR else 0) 200000000,
          r.range A.METER_CONFIG_CBS 1 16777215, r.range A.METER_CONFIG_EBS (if low then max 1 (r.arg A.METER_CONFIG_CBS) else 1) 16777215,
          failIf (decide (toSigned 7 (r.arg A.METER_CONFIG_LEN_ADJ) < -32)) (badArg A.METER_CONFIG_LEN_ADJ 1), r.range A.METER_CONFIG_FILL 0 2]
        units := [5] }

/-- What METER_CONFIG does once its checks have passed. -/
def State.meterConfigAct (s : State) (r : Req) : Ans :=
      let i := r.index
      let s := s.putMeter i (s.meterFill i)
      let t := s.putArr (meterAt i) (r.params.take 20)
      let t := t.fillMeter i (r.arg A.METER_CONFIG_FILL)
      let x := t.meterFill i
      .ok t (w32 (tokenWord x.c) ++ w32 (tokenWord x.e))

/-- METER_CONFIG (0x0605, R276, R291). -/
def execMeterConfig (m : Nat) (s : State) : Host.Outcome State Fault Refusal :=
  .next (s.runCmd m C.METER_CONFIG s.meterConfigChecks s.meterConfigAct)

/-- What CLS_PORT_CONFIG adds to the checks of R94. -/
def State.clsPortConfigChecks (s : State) (r : Req) : Checks :=
  { Checks.plain C.CLS_PORT_CONFIG with target := s.targetPort 0x20 r, dflt := [(A.CLS_PORT_CONFIG_STITCH_CLASS, 1)], units := [5] }

/-- What CLS_PORT_CONFIG does once its checks have passed. -/
def State.clsPortConfigAct (s : State) (r : Req) : Ans :=
      let t := (s.setF F.CLS_PORT_CFG_DEFAULT_CLASS r.index (r.arg A.CLS_PORT_CONFIG_DEFAULT_CLASS)).setF F.CLS_PORT_CFG_STITCH_CLASS r.index
        (r.arg A.CLS_PORT_CONFIG_STITCH_CLASS)
      .ok t (w32 (t.rd R.CLS_PORT_CFG r.index))

/-- CLS_PORT_CONFIG (0x0606). -/
def execClsPortConfig (m : Nat) (s : State) : Host.Outcome State Fault Refusal :=
  .next (s.runCmd m C.CLS_PORT_CONFIG s.clsPortConfigChecks s.clsPortConfigAct)

/-- What POSTING_CONFIG adds to the checks of R94. -/
def State.postingConfigChecks (_ : State) (r : Req) : Checks :=
  { Checks.plain C.POSTING_CONFIG with target := targetWhole 0x20 r, args := r.range A.POSTING_CONFIG_DRAIN_WARN_US 1 65535, units := [5] }

/-- What POSTING_CONFIG does once its checks have passed. -/
def State.postingConfigAct (s : State) (r : Req) : Ans :=
      let t := s.setF F.CLS_POST_CFG_DRAIN_WARN_US 0 (r.arg A.POSTING_CONFIG_DRAIN_WARN_US)
      .ok t (w32 (t.rd R.CLS_POST_CFG 0))

/-- POSTING_CONFIG (0x0607). -/
def execPostingConfig (m : Nat) (s : State) : Host.Outcome State Fault Refusal :=
  .next (s.runCmd m C.POSTING_CONFIG s.postingConfigChecks s.postingConfigAct)

end Sys2Proof.Machine
end

