-- ==== Sys2Proof/Machine/View.lean ====
section
/-! DEFINITION. What BAR2 reads show: registers that are computed when they are read, the Teller's arrays and the raw windows (R579 to R587). -/
namespace Sys2Proof.Machine

/-! ### Registers computed at the read -/

/-- The reactions of a class (R564). -/
def State.classReact (s : State) (c : Nat) : Nat := s.fld F.CLH_CLASS_CFG_REACT c

/-- The reactions of a source as its class stands: its own, and for a fault its class's (R564). -/
def State.srcReact (s : State) (src : Nat) : Nat :=
  let c := s.fld F.CLH_SRC_CFG_CLASS src
  s.fld F.CLH_SRC_CFG_REACT src ||| (if c = 0 then 0 else s.classReact c)

/-- The MSI masks of the 32 sources from `src`: REACT[0] of each (CLH_EVT_MASK). -/
def State.msiMask (s : State) (src : Nat) : Nat := maskOf 32 fun b => bit (s.fld F.CLH_SRC_CFG_REACT (src + b)) 0

/-- The sources of 32 from `src` whose MSI is enabled, by mask or by class (R572). -/
def State.msiEnabled (s : State) (src : Nat) : Nat :=
  maskOf 32 fun b => srcUsed (src + b) == 1 && bit (s.srcReact (src + b)) 0

/-- A group holds an enabled pending bit (R572). -/
def State.groupPending (s : State) (g : Nat) : Bool :=
  (s.rd R.CLH_EVT_PEND_LO g &&& s.msiEnabled (64 * g)) != 0 || (s.rd R.CLH_EVT_PEND_HI g &&& s.msiEnabled (64 * g + 32)) != 0

/-- µs since a mailbox's command was accepted (TLR_MBX_RUN.ELAPSED). -/
def State.mbxElapsed (s : State) (m : Nat) : Nat :=
  if s.busy m then (match s.req? m with
    | some r => satBits 28 ((s.now - r.since) / 1000)
    | none => 0) else 0

/-- Milliseconds left of a grant's lease (TLR_LEASE). -/
def State.leaseLeft (s : State) (u : Nat) : Nat :=
  s.fld F.TLR_LEASE_REMAINING_MS u - (s.now - Tab.get 0 s.tlr.leaseAt u) / 1000000

/-- Quanta left on a receive pause timer: quanta of 512 bit times have passed since it was loaded (R215). -/
def State.pauseLeft (s : State) (p q : Nat) : Nat :=
  s.fld F.MAC_PFC_TIMER_REMAINING (q + 8 * p) - (s.now - Tab.get 0 (s.mac p).timerAt q) * s.lineRate p / 5120

/-- Fit-check applies to preemptable frames of a port now (R419). -/
def State.fitCheck (s : State) (p : Nat) : Bool := !(s.mode == 4 && s.fld F.MAC_PREEMPT_STATUS_STATE p == 2)

/-- QSC_PURSE: BALANCE and NEGATIVE. -/
def State.purseWord (s : State) (i : Nat) : Nat :=
  if s.qsc.started then ofSigned 24 ((s.purse i).fdiv nJ) + 2 ^ 24 * b2n (decide (s.purse i < 0)) else 0

/-- Tokens of an inject channel in units of 1/125 byte, filled at 8 kb/s × RATE up to BURST (R367, R487). -/
def injUnit : Nat := 65536 * 1000000

/-- An inject channel's bucket (R487). -/
def State.injTokens (s : State) (c : Nat) : Int :=
  let rate := clamp 1 62500000 (bits (s.rd R.DMA_CH_INJ_RATE c) 0 26)
  let burst := clamp 64 16777215 (bits (s.rd R.DMA_CH_INJ_BURST c) 0 24)
  bucketNow (Tab.get none s.dma.injTok c) s.tim.flow rate burst injUnit

/-- The value that a register instance shows to a read, before any effect of the read. -/
def State.view (s : State) (r : Reg) (i : Nat) : Nat :=
  let w := s.rd r i
  if r.base = R.CLH_EVT_MASK_LO.base then s.msiMask (64 * i)
  else if r.base = R.CLH_EVT_MASK_HI.base then s.msiMask (64 * i + 32)
  else if r.base = R.CLH_GROUP_SUMMARY.base then maskOf 32 fun b => s.groupPending (32 * i + b)
  else if r.base = R.TLR_MBX_RUN.base then putBits w 0 28 (s.mbxElapsed i)
  else if r.base = R.TLR_LEASE.base then s.leaseLeft i
  else if r.base = R.CKG_PLL_STATUS.base then putBits w 16 4 (s.pllInput i)
  else if r.base = R.MAC_STATUS.base then putBits w 16 8 (satBits 8 (recentFlaps s.now (s.mac i).flaps).length)
  else if r.base = R.MAC_PFC_TIMER.base then putBits w 0 16 (s.pauseLeft (i / 8) (i % 8))
  else if r.base = R.TIM_GATE_STATUS.base then putBits w 8 1 (b2n (s.fitCheck i))
  else if r.base = R.QSC_Q_TOKENS.base then (if s.qsc.started then wholeBytes (s.queueTokens i) shaperUnit else 0)
  else if r.base = R.QSC_PORT_TOKENS.base then (if s.qsc.started then wholeBytes (s.portTokens i) shaperUnit else 0)
  else if r.base = R.QSC_PORT_EXP_TOKENS.base then (if s.qsc.started then wholeBytes (s.expTokens i) policerUnit else 0)
  else if r.base = R.QSC_PURSE.base then s.purseWord i
  else if r.base = R.QSC_Q_STATUS.base then s.queueStatus i
  else if r.base = R.CLS_TABLE_FILL.base then s.tableFill (i % 2) (i / 2)
  else if r.base = R.DMA_CH_INJ_TOKENS.base then (if s.flag F.DMA_CH_CFG_ENABLE i then wholeBytes (s.injTokens i) injUnit else 0)
  else w

/-! ### Arrays below the raw windows -/

/-- Where a parser pipeline's arrays lie: the offset within the pipeline's registers, and the pipeline (R586's neighbours in PRS). -/
def prsPlace (a : Nat) : Option (Nat × Nat) :=
  if 0x10000000 ≤ a ∧ a < 0x20000000 ∧ 0x480000 ≤ a % 0x1000000 ∧ a % 0x1000000 < 0x500000 then
    some (2 * ((a - 0x10000000) / 0x1000000) + (a % 0x1000000 - 0x480000) / 0x40000, (a % 0x1000000 - 0x480000) % 0x40000)
  else none

/-- A parser bank that an offset lies in: pipeline and bank (R251). -/
def bankPlace (a : Nat) : Option (Nat × Nat) :=
  (prsPlace a).bind fun x =>
    if 0x8000 ≤ x.2 ∧ x.2 < 0x9000 then some (x.1, (x.2 - 0x8000) / 0x800)
    else if 0x10000 ≤ x.2 ∧ x.2 < 0x20000 then some (x.1, (x.2 - 0x10000) / 0x8000) else none

/-- A flat mask or express entry that an offset lies in. -/
def flatPlace (a : Nat) : Bool :=
  match prsPlace a with
  | some (_, o) => (decide (0x1000 ≤ o) && decide (o < 0x1400)) || (decide (0x2000 ≤ o) && decide (o < 0x3000) && decide (o % 0x100 < 136))
  | none => false

/-- A gate entry that an offset lies in: port and bank. -/
def gatePlace (a : Nat) : Option (Nat × Nat) :=
  if 0x5400000 ≤ a ∧ a < 0x5800000 then some ((a - 0x5400000) / 0x1000, (a - 0x5400000) % 0x1000 / 0x800) else none

/-- A meter entry that an offset lies in. -/
def meterPlace (a : Nat) : Option Nat := if 0x21000000 ≤ a ∧ a < 0x21200000 then some ((a - 0x21000000) / 32) else none

/-- Word `o` bytes into a list of bytes. -/
def wordAt (l : List Byte) (o : Nat) : Nat := leAt l o 4

/-- A word of one of the Teller's arrays or of the fault records. -/
def State.tellerArray (s : State) (a : Nat) : Nat :=
  if 0x1004000 ≤ a ∧ a < 0x1008000 then wordAt (Tab.get [] s.tlr.hist ((a - 0x1004000) / 64)) (a % 64)
  else if 0x1010000 ≤ a ∧ a < 0x1014000 then
    (match s.req? ((a - 0x1010000) / 0x800) with
     | some r => wordAt (r.header ++ r.params) (a % 0x800)
     | none => 0)
  else if 0x1020000 ≤ a ∧ a < 0x1040000 then
    (match s.rec? ((a - 0x1020000) / 0x800) with
     | some r => wordAt r.bytes (a % 0x800)
     | none => 0)
  else 0

/-- A fault record's eight words (R558). -/
def FaultRec.words (r : FaultRec) : List Nat :=
  [r.source % 8192 + 2 ^ 13 * r.origClass + 2 ^ 15 * r.cls + 2 ^ 17 * b2n r.escalated + 2 ^ 18 * b2n r.railBreak + 2 ^ 19 * b2n r.acked
     + 2 ^ 20 * (r.reactions % 32) + 2 ^ 25 * b2n r.faultHold,
   r.number, r.watchNs % 2 ^ 32, r.watchNs / 2 ^ 32 % 2 ^ 32, r.stamp,
   r.mode + 16 * b2n r.stampValid + 256 * min 255 r.rept + 65536 * (r.session % 65536), r.detail, r.cause]

/-- The bytes of a fault record as its slot and FAULT_READ show them. -/
def FaultRec.bytes (r : FaultRec) : List Byte := r.words.flatMap w32

/-- A word of an array that lies below the raw windows; an offset that names nothing reads 0 (R579). -/
def State.arrayWord (s : State) (a : Nat) : Nat :=
  if 0x3040000 ≤ a ∧ a < 0x3042000 then
    (match s.clh.slots[(a - 0x3040000) / 32]? with
     | some r => r.words.getD (a % 32 / 4) 0
     | none => 0)
  else if a < 0x2000000 then s.tellerArray a
  else match meterPlace a with
    | some m =>
      let o := a % 32
      if o = 20 then tokenWord (s.meterFill m).c else if o = 24 then tokenWord (s.meterFill m).e else s.arrNat a 4
    | none => s.arrNat a 4

/-! ### Raw memory windows (R586, R587) -/

/-- A link record as it is stored (R335). -/
def Link.word (l : Link) : Nat :=
  let v := l.next % 2 ^ 20 + 2 ^ 20 * (l.count % 2 ^ 11) + 2 ^ 31 * (l.unit % 8) + 2 ^ 34 * (l.pool % 32)
  v + 2 ^ 39 * (popCount 39 v % 2)

/-- A link record with its stored bits replaced; its check bit is regenerated (R588). -/
def Link.withWord (l : Link) (v : Nat) : Link := { l with next := bits v 0 20, count := bits v 20 11, unit := bits v 31 3, pool := bits v 34 5 }

/-- A frame descriptor as it is stored: 48 bytes. -/
def Desc.stored (d : Desc) : List Byte :=
  w32 (d.next % 2 ^ 17 + 2 ^ 17 * (d.length % 2 ^ 14) + 2 ^ 31 * b2n d.shared)
    ++ w32 (d.first % 2 ^ 21 + 2 ^ 21 * (d.pool % 32) + 2 ^ 26 * (d.unit % 8))
    ++ w32 (d.cls % 16 + 16 * (d.colour % 4) + 64 * b2n d.launch.isSome + 128 * b2n d.marginalia + 256 * b2n d.bad + 512 * b2n d.host
        + 1024 * (d.ingress % 1024))
    ++ w32 d.enqStamp ++ w32 (d.launch.getD 0) ++ w32 (d.edit % 65536) ++ w32 d.annotate0 ++ w32 d.annotate1
    ++ (d.pocket ++ List.replicate 16 0).take 16

/-- A descriptor with its stored bytes replaced. -/
def Desc.withStored (d : Desc) (l : List Byte) : Desc :=
  let w := fun (k : Nat) => leAt l (4 * k) 4
  { d with next := bits (w 0) 0 17, length := bits (w 0) 17 14, shared := bit (w 0) 31, first := bits (w 1) 0 21, pool := bits (w 1) 21 5
           unit := bits (w 1) 26 3, cls := bits (w 2) 0 4, colour := bits (w 2) 4 2, launch := if bit (w 2) 6 then some (w 4) else none
           marginalia := bit (w 2) 7, bad := bit (w 2) 8, host := bit (w 2) 9, ingress := bits (w 2) 10 10, enqStamp := w 3
           edit := w 5 % 65536, annotate0 := w 6, annotate1 := w 7, pocket := (l.drop 32).take d.pocket.length }

/-- What a descriptor's place holds: the descriptor in use, or what it held when it was freed. -/
def State.descAt (s : State) (k : Nat) : Desc := ((s.desc? k).orElse fun _ => Tab.get none s.vlt.spent k).getD {}

/-- The grant unit that owns a raw window (R586); none for a window that is never written or does not exist. -/
def rawOwner (a : Nat) : Option Nat :=
  if 0x80000000 ≤ a ∧ a < 0x8C000000 then some 8
  else if 0x90000000 ≤ a ∧ a < 0x98000000 then some 6
  else if 0xA0000000 ≤ a ∧ a < 0xA1000000 then some 5
  else if 0xA2000000 ≤ a ∧ a < 0xA2200000 then some 5
  else if 0xA4000000 ≤ a ∧ a < 0xA6000000 ∧ a % 0x1000000 < 0xB00000 then some 8
  else if 0xA6000000 ≤ a ∧ a < 0xA7000000 then some 10
  else if 0xA7000000 ≤ a ∧ a < 0xA7800000 then some 4
  else none

/-- The parts of the Counting House store of which the manual gives no layout: intake, syndicate table and accumulators. -/
def cthOpaque (a : Nat) : Bool :=
  decide (0xA6000000 ≤ a) && decide (a < 0xA7000000) && !(decide (0x100000 ≤ a % 0x800000) && decide (a % 0x800000 < 0x200000))

/-- An offset in such a part while it holds anything: live data, or the staged sections of a download (R65). -/
def State.cthHolds (s : State) (a : Nat) : Bool := cthOpaque a && (s.cth != {} || !s.boot.pages.isEmpty)

/-- A word of a raw window as stored, and whether it is a free value: live data of the Counting House has no layout (log entry 3). -/
def State.rawWord (s : State) (a : Nat) : Nat :=
  let o := a % 0x1000000
  let d := (a - 0xA4000000) / 0x1000000
  if a < 0x8C000000 then wordAt (s.folio ((a - 0x80000000) / 128)) (a % 128)
  else if 0xA4000000 ≤ a ∧ a < 0xA6000000 then
    (if o < 0x600000 then ((s.link (dieFolios * d + o / 8)).word / 2 ^ (8 * (a % 8))) % 2 ^ 32
     else if o < 0xB00000 then wordAt (s.descAt (dieDescs * d + (o - 0x600000) / 64)).stored (a % 64)
     else if o < 0xB80000 then
       (match findReg (0x38100000 + 0x80000 * d + (o - 0xB00000)) with
        | some (r, i) => s.view r i
        | none => 0)
     else 0)
  else if s.cthHolds a then s.freeVal % 2 ^ 32
  else if 0xA8000000 ≤ a then (if a < 0xA8800000 then leNat (Tab.getList 0 s.tlr.mem (a - 0xA8000000) 4) else 0)
  else s.arrNat a 4

/-! ### The word that a read returns -/

/-- The register pairs that are read through a latch (R581). -/
def latchPairs : List (Reg × Reg) :=
  [(R.MAC_STAT_LO, R.MAC_STAT_HI), (R.PRS_STAT_LO, R.PRS_STAT_HI), (R.DMA_PUNT_PASSED_LO, R.DMA_PUNT_PASSED_HI),
   (R.DMA_PUNT_DROPS_LO, R.DMA_PUNT_DROPS_HI), (R.CLS_STAT_LO, R.CLS_STAT_HI), (R.LDG_STAT_LO, R.LDG_STAT_HI), (R.LDG_GSTAT_LO, R.LDG_GSTAT_HI),
   (R.VLT_STAT_LO, R.VLT_STAT_HI), (R.VLT_GSTAT_LO, R.VLT_GSTAT_HI), (R.QSC_GSTAT_LO, R.QSC_GSTAT_HI),
   (R.QSC_PORT_VCLOCK_LO, R.QSC_PORT_VCLOCK_HI), (R.QSC_Q_START_LO, R.QSC_Q_START_HI), (R.QSC_Q_FINISH_LO, R.QSC_Q_FINISH_HI),
   (R.TIM_PORT_STAT_LO, R.TIM_PORT_STAT_HI), (R.CTH_SYN_STAT_LO, R.CTH_SYN_STAT_HI), (R.CTH_GSTAT_LO, R.CTH_GSTAT_HI),
   (R.DMA_CH_HEAD_LO, R.DMA_CH_HEAD_HI), (R.DMA_CH_ERR_ADDR_LO, R.DMA_CH_ERR_ADDR_HI), (R.DMA_CH_STAT_LO, R.DMA_CH_STAT_HI),
   (R.DMA_HOSTQ_DROPS_LO, R.DMA_HOSTQ_DROPS_HI), (R.TLY_CNT_LO, R.TLY_CNT_HI), (R.MRG_GSTAT_LO, R.MRG_GSTAT_HI),
   (R.TLR_CORE_PC_LO, R.TLR_CORE_PC_HI)]

/-- Whether a block answers a BAR2 read with what it holds: in Loader an unclocked block reads its reset values (R45), and so does a unit held
in reset (R583). -/
def State.answers (s : State) (a : Nat) : Bool :=
  (s.mode != 1 || decide (a < 0x4000000) || (decide (0xA6000000 ≤ a) && decide (a < 0xA7000000)) || decide (0xA8000000 ≤ a))
  && (match (if 0x80000000 ≤ a then rawOwner a else unitOfOffset a) with
      | some u => !s.clh.inReset.contains u
      | none => true)

/-- A read of TIM_PAIR_STAMP captures a time pair where the time base is clocked (R403). -/
def State.takePair (s : State) : State :=
  let t := s.tim.net
  if bit 0x7C s.mode then
    (((s.wr R.TIM_PAIR_STAMP 0 (stampOf t)).wr R.TIM_PAIR_NS 0 (pairNs t)).wr R.TIM_PAIR_SEC_LO 0 (pairSecLo t)).wr R.TIM_PAIR_SEC_HI 0 (pairSecHi t)
  else s

def State.setLatch (s : State) (who k v : Nat) : State := { s with loLatch := Tab.set 0 s.loLatch (who * 2 ^ 32 + k) (BitVec.ofNat 32 v) }

/-- A read of one register instance by requester `who` (0 the host, 1 the Teller, 2 + c DMA channel c): the value it returns and what the read
does (R3, R403, R581). -/
def State.readReg (s : State) (who : Nat) (r : Reg) (i : Nat) : State × Nat :=
  if r.base = R.TIM_PAIR_STAMP.base then (s.takePair, s.takePair.rd R.TIM_PAIR_STAMP 0)
  else if r.base = R.TLR_CORE_PC_LO.base then ((s.setLatch who (r.key i) (s.freeVal / 2 ^ 32)).tookFree, s.freeVal % 2 ^ 32)
  else match latchPairs.find? fun p => p.1.base == r.base || p.2.base == r.base with
    | some (lo, hi) =>
      if lo.base = r.base then (s.setLatch who (lo.key i) (s.view hi i), s.view lo i)
      else (s, (Tab.get 0 s.loLatch (who * 2 ^ 32 + lo.key i)).toNat)
    | none => (if r.rc = 0 then s else s.readClear r i, s.view r i)

/-- A read of the aligned word at BAR2 offset `a`. -/
def State.readWord (s : State) (who a : Nat) : State × Nat :=
  if !s.answers a then
    (s, if 0x80000000 ≤ a then 0 else match findReg a with
      | some (r, i) => r.rst i
      | none => 0)
  else if 0x80000000 ≤ a then (if s.cthHolds a then s.tookFree else s, s.rawWord a)
  else match findReg a with
    | some (r, i) => s.readReg who r i
    | none => (s, s.arrayWord a)

/-- `n` aligned words read in rising order from `a`. -/
def State.readWords (s : State) (who a : Nat) : Nat → State × List Byte
  | 0 => (s, [])
  | n + 1 =>
    let r := s.readWord who a
    let t := State.readWords r.1 who (a + 4) n
    (t.1, w32 r.2 ++ t.2)

/-- Bytes read from any offset: the words that hold them are read (R467, R580). -/
def State.readBytes (s : State) (who a n : Nat) : State × List Byte :=
  let r := s.readWords who (a / 4 * 4) (ceilDiv (a % 4 + n) 4)
  (r.1, (r.2.drop (a % 4)).take n)

/-- BAR2 can be read: the link is up and the part is not in Reset (R39, R62). -/
def State.bar2Up (s : State) : Bool := s.pins.pcieUp && s.mode != 0

/-- A read of `n` bytes of BAR2 by the host (R580): a 64-bit read is two 32-bit reads, a narrower one returns bytes of the word. -/
def State.hostReads (s : State) (a n : Nat) : State :=
  if !s.bar2Up then s
  else
    let r := s.readBytes 0 a n
    { r.1 with readData := r.2 }

end Sys2Proof.Machine
end

