-- ==== Sys2Proof/Machine/DmaOps.lean ====
section
/-! DEFINITION. DMA channels: their rings, states and token buckets (R462 to R464, R487, R490). -/
namespace Sys2Proof.Machine

def State.chan (s : State) (c : Nat) : Chan := Tab.get {} s.dma.chans c
def State.putChan (s : State) (c : Nat) (x : Chan) : State := { s with dma := { s.dma with chans := Tab.set {} s.dma.chans c x } }

/-- STATE of a channel: 0 disabled, 1 idle, 2 active, 3 OWN_WAIT, 4 stopped, 5 held. -/
def State.chanState (s : State) (c : Nat) : Nat := s.fld F.DMA_CH_STATUS_STATE c
def State.setChanState (s : State) (c v : Nat) : State := s.setF F.DMA_CH_STATUS_STATE c v

/-- ROLE of a channel; the undefined ROLE 3 of a channel below 28 acts as 0 (R462, R625). -/
def State.chanRole (s : State) (c : Nat) : Nat :=
  if 28 ≤ c then 3 else if s.fld F.DMA_CH_CFG_ROLE c = 3 then 0 else s.fld F.DMA_CH_CFG_ROLE c

/-- SIZE_LOG2, BASE and HEAD of a channel's ring (R463). -/
def State.ringSize (s : State) (c : Nat) : Nat := 2 ^ clamp 4 16 (s.fld F.DMA_CH_CFG_SIZE_LOG2 c)
def State.ringBase (s : State) (c : Nat) : Nat := s.rd64 R.DMA_CH_BASE_LO R.DMA_CH_BASE_HI c / 64 * 64
def State.head (s : State) (c : Nat) : Nat := s.rd64 R.DMA_CH_HEAD_LO R.DMA_CH_HEAD_HI c
def State.setHead (s : State) (c a : Nat) : State := s.wr64 R.DMA_CH_HEAD_LO R.DMA_CH_HEAD_HI c a

/-- HEAD to BASE, POSTED and CONSUMED to 0; what the channel had in hand is forgotten (R490). -/
def State.rewind (s : State) (c : Nat) : State := ((s.setHead c (s.ringBase c)).wr R.DMA_CH_COUNT c 0).putChan c {}

/-- A channel's ENABLE, ROLE, SIZE_LOG2 or BASE has been written: `was` is its ENABLE before, `moved` says whether one of the other three
changed (R490). A channel switched off is disabled at once, whatever it has in hand (log entry 49). -/
def State.settleChan (s : State) (c : Nat) (was moved : Bool) : State :=
  let on := s.flag F.DMA_CH_CFG_ENABLE c
  let s := if moved || (on && !was) then s.rewind c else s
  if !on then (s.putChan c {}).setChanState c 0
  else if !was then s.setChanState c 1
  else if moved ∧ s.chanState c ≠ 4 then s.setChanState c 1 else s

/-- Tokens of an inject channel reset to BURST, as a new rate or burst does (R490). -/
def State.resetInj (s : State) (c : Nat) : State := { s with dma := { s.dma with injTok := Tab.set none s.dma.injTok c none } }

/-! ### Descriptors (R465) -/

def DmaDesc.w (d : DmaDesc) (k : Nat) : Nat := d.words.getD k 0
def DmaDesc.own (d : DmaDesc) : Bool := bit (d.w 0) 31
def DmaDesc.op (d : DmaDesc) : Nat := bits (d.w 0) 28 3
def DmaDesc.irq (d : DmaDesc) : Bool := bit (d.w 0) 27
def DmaDesc.link (d : DmaDesc) : Bool := bit (d.w 0) 26
def DmaDesc.flags (d : DmaDesc) : Nat := bits (d.w 0) 0 16
def DmaDesc.len (d : DmaDesc) : Nat := bits (d.w 1) 0 24
def DmaDesc.host (d : DmaDesc) : Nat := d.w 2 + 2 ^ 32 * d.w 3
def DmaDesc.dev (d : DmaDesc) : Nat := d.w 4 + 2 ^ 32 * d.w 5

/-- The eight words at a host address, if it answers. -/
def State.descWords (s : State) (a : Nat) : Option DmaDesc :=
  (s.hostRead a 32).map fun b => ⟨a, (List.range 8).map fun k => leAt b (4 * k) 4⟩

/-- The ring address after a descriptor's (R463). -/
def State.nextDesc (s : State) (c a : Nat) : Nat := if a = s.ringBase c + 32 * (s.ringSize c - 1) then s.ringBase c else a + 32

/-- POSTED and CONSUMED. -/
def State.posted (s : State) (c : Nat) : Nat := s.fld F.DMA_CH_COUNT_POSTED c
def State.consumed (s : State) (c : Nat) : Nat := s.fld F.DMA_CH_COUNT_CONSUMED c

/-- A statistics counter of a channel advances. -/
def State.chanStat (s : State) (c k n : Nat) : State := s.count64 R.DMA_CH_STAT_LO R.DMA_CH_STAT_HI (k + 8 * c) n

/-- DMA runs: the block is clocked, not in reset, and the channel may issue requests (R45, R461). -/
def State.dmaUp (s : State) : Bool := bit 0x7C s.mode && !s.clh.inReset.contains 3 && s.hostReach

/-! ### Messages and stops (R471, R472, R476) -/

/-- A completion's message, held back while a holdoff runs (R471). -/
def State.chanIrq (s : State) (c : Nat) : State :=
  if !s.flag F.DMA_CH_CFG_IRQ_EN c then s
  else
    let x := s.chan c
    if x.holding then s.putChan c { x with holdWaits := true }
    else (s.sendMsi (s.fld F.DMA_CH_CFG_VECTOR c)).putChan c { x with holding := s.fld F.DMA_CH_HOLDOFF_HOLDOFF_US c != 0 }

/-- A channel stops: its vector at once if IRQ_EN is 1, and its event (R471, R492). A request for an abort is met. -/
def State.stopChan (s : State) (c : Nat) : State :=
  let s := if (s.chan c).aborting then
      (((s.setF F.DMA_CH_STATUS_ABORT_DONE c 1).inc F.DMA_CH_EVCOUNT_ABORT_COUNT c).setF F.DMA_CH_CMD_ABORT c 0).putChan c { s.chan c with aborting := false }
    else s
  let s := if s.flag F.DMA_CH_CFG_IRQ_EN c then s.sendMsi (s.fld F.DMA_CH_CFG_VECTOR c) else s
  (s.setChanState c 4).note (E.DMA_CH_STOP c)

/-- Descriptors taken and not written back are given back: HEAD and CONSUMED return to the first of them (log entry 49). -/
def State.giveBack (s : State) (c : Nat) (l : List DmaDesc) : State :=
  match l with
  | [] => s
  | d :: _ => (s.setHead c d.at_).setF F.DMA_CH_COUNT_CONSUMED c ((s.consumed c + 65536 - l.length) % 65536)

/-- What a channel has in hand is dropped without a write-back; bytes outstanding may still complete (R475, R479). -/
def State.dropHand (s : State) (c : Nat) : State :=
  let x := s.chan c
  let late := x.late + (x.bursts.map fun b => b.len - b.got).foldl (· + ·) 0
  (s.giveBack c (x.frameDescs ++ x.ahead)).putChan c { late := late, aborting := x.aborting, holding := x.holding, holdWaits := x.holdWaits }

/-- A stop that makes no write-back (R476, R479). -/
def State.failStop (s : State) (c status : Nat) : State :=
  let s := s.dropHand c
  let s := (s.setF F.DMA_CH_STATUS_LAST_STATUS c status).wr64 R.DMA_CH_ERR_ADDR_LO R.DMA_CH_ERR_ADDR_HI c (s.head c)
  let s := ((s.setF F.DMA_CH_STATUS_WB_FAIL c 1).inc F.DMA_CH_EVCOUNT_WB_FAIL_COUNT c).note E.DMA_WRITEBACK_FAIL
  s.stopChan c

/-- Every channel that the host drives stops at its burst boundary with a status and no write-back (R62, R78, R479). -/
def State.stopDma (s : State) (status : Nat) : State :=
  s.each (List.range 28) fun c s => if s.chanState c = 0 ∨ s.chanState c = 4 then s else s.failStop c status

/-- The queue state of a channel that goes on: active while descriptors are posted or in hand, else idle. -/
def State.settleChanState (s : State) (c : Nat) : State :=
  let x := s.chan c
  let busy := s.posted c != s.consumed c || x.cur.isSome || !x.ahead.isEmpty || !x.frameDescs.isEmpty
  s.setChanState c (if busy then 2 else 1)

/-! ### Write-back (R470) -/

/-- A descriptor's words written back with OWN 0. -/
def State.writeBack (s : State) (c : Nat) (d : DmaDesc) (status residue : Nat) : State :=
  let w6 := status * 2 ^ 24 + residue % 2 ^ 24
  let s := s.hostWrite d.at_ ((w32 (d.w 0 % 2 ^ 31) ++ (List.range 5).flatMap fun k => w32 (d.w (k + 1))) ++ w32 w6 ++ w32 s.stamp)
  let s := (s.setF F.DMA_CH_STATUS_LAST_STATUS c status).chanStat c 0 1
  let s := if status = 0 then s else (s.setF F.DMA_CH_STATUS_ERROR c 1).inc F.DMA_CH_EVCOUNT_ERROR_COUNT c
  if status = 4 then s.note E.DMA_HOST_TIMEOUT else if status = 5 then s.note E.DMA_BEAT_ERR else if status = 6 then s.note E.DMA_DEVICE_ERR else s

/-- A status that stops the channel (R478). -/
def State.stopsAt (s : State) (c status : Nat) : Bool :=
  status == 2 || status == 3 || status == 4 || (status != 0 && !s.flag F.DMA_CH_CFG_ERR_ACTION c)

/-- After write-backs: the channel stops, or sends the message of a descriptor with IRQ and goes on. -/
def State.afterWriteBack (s : State) (c status : Nat) (irq : Bool) : State :=
  if s.stopsAt c status || (s.chan c).aborting then s.stopChan c
  else (if irq then s.chanIrq c else s).settleChanState c

/-- HEAD and CONSUMED pass a descriptor. -/
def State.advance (s : State) (c : Nat) (d : DmaDesc) : State :=
  (s.setHead c (s.nextDesc c d.at_)).setF F.DMA_CH_COUNT_CONSUMED c ((s.consumed c + 1) % 65536)

/-- A descriptor ends: it is written back, `moved` bytes are counted, HEAD passes it, and the channel goes on or stops. -/
def State.endDesc (s : State) (c : Nat) (d : DmaDesc) (status residue moved : Nat) : State :=
  let s := (((s.writeBack c d status residue).chanStat c 1 moved).advance c d).setF F.DMA_CH_RESIDUE_RESIDUE c residue
  let x := s.chan c
  let s := s.putChan c { x with cur := none, asked := 0, good := 0, bursts := [], bad := none, diff := none }
  s.afterWriteBack c status d.irq

end Sys2Proof.Machine
end

