-- ==== Sys2Proof/Machine/Lanes.lean ====
section
/-! DEFINITION. Lanes: equalisation, the board table, Ethernet PCS and the test features (R159 to R175, R190 to R197). -/
namespace Sys2Proof.Machine

/-! ### Equalisation codes -/

/-- The fields of an equalisation word: lowest bit, width, signed (LANE_EQ_ENT_TX and LANE_EQ_ENT_RX). -/
def txCodes : List (Nat × Nat × Bool) := [(0, 6, true), (6, 6, true), (12, 6, true), (18, 6, true), (24, 6, true)]
def rxCodes : List (Nat × Nat × Bool) := [(0, 5, false), (5, 5, false), (10, 6, true), (16, 6, true), (22, 6, true)]

/-- A code of an equalisation word. -/
def eqCode (w : Nat) (f : Nat × Nat × Bool) : Int := if f.2.2 then toSigned f.2.1 (bits w f.1 f.2.1) else (bits w f.1 f.2.1 : Nat)

/-- Every code of two words differs by at most 8 (R170). -/
def eqClose (codes : List (Nat × Nat × Bool)) (a b : Nat) : Bool :=
  codes.all fun f => decide ((eqCode a f - eqCode b f).natAbs ≤ 8)

/-- A transmit entry's own conditions (R170). -/
def eqMainOk (tx : Nat) : Bool :=
  let main := eqCode tx (12, 6, true)
  decide (16 ≤ main) && decide (main ≤ 31) && decide ((txCodes.foldl (fun a f => a + (eqCode tx f).natAbs) 0) ≤ 63)

/-- The transmit and receive words of entry 5r + b of a lane in a board table. -/
def boardTx (b : List Byte) (n e : Nat) : Nat := leAt b (20480 + 16 * (10 * n + e)) 4
def boardRx (b : List Byte) (n e : Nat) : Nat := leAt b (20480 + 16 * (10 * n + e) + 4) 4

/-- An entry of a board table is valid (R170). -/
def boardValid (b : List Byte) (n e : Nat) : Bool :=
  eqMainOk (boardTx b n e) &&
    (e % 5 == 4 || (eqClose txCodes (boardTx b n e) (boardTx b n (e + 1)) && eqClose rxCodes (boardRx b n e) (boardRx b n (e + 1))))

/-- A lane has an invalid entry for a rate its descriptor allows (R171). -/
def boardRejects (b : List Byte) (n : Nat) : Bool :=
  let d := leAt b (4096 + 16 * n) 4
  (List.range 10).any fun e => bit d (2 + e / 5) && !boardValid b n e

/-- The entry a lane uses (R167). -/
def State.laneEntry (s : State) (n : Nat) : Nat :=
  11 * n + (if s.flag F.LANE_CTL_EQ_MODE n then 10 else 5 * s.fld F.LANE_CTL_RATE n + min 4 (s.fld F.LANE_STATUS_BAND n))

/-- A lane's target words (R167). -/
def State.targetTx (s : State) (n : Nat) : Nat := s.rd R.LANE_EQ_ENT_TX (s.laneEntry n) % 2 ^ 30
def State.targetRx (s : State) (n : Nat) : Nat := s.rd R.LANE_EQ_ENT_RX (s.laneEntry n) % 2 ^ 28

/-- STEPPING after a change of target (R165, R168). A lane that became EQ_INVALID keeps its codes (R196). -/
def State.retarget (s : State) (n : Nat) : State :=
  let moving := (s.lane n).pll && !s.flag F.LANE_STATUS_EQ_INVALID n
    && (s.rd R.LANE_EQ_NOW_TX n != s.targetTx n || s.rd R.LANE_EQ_NOW_RX n != s.targetRx n)
  s.setF F.LANE_STATUS_STEPPING n (b2n moving)

/-- One code moved one step towards its target. -/
def stepCode (now target : Nat) (f : Nat × Nat × Bool) : Nat :=
  let a := eqCode now f
  let b := eqCode target f
  let c := if a < b then a + 1 else if b < a then a - 1 else a
  putBits now f.1 f.2.1 (ofSigned f.2.1 c)

/-- The boundaries B_1 to B_4 of the temperature bands, in units of 0.25 °C. -/
def bandBounds : List Int := [-60, 100, 260, 400]

/-- The number of boundaries at or below a temperature. -/
def bandsBelow (θ : Int) (off : Int) : Nat := (bandBounds.filter fun b => decide (b - off ≤ θ)).length

/-- The quire temperature of a lane. -/
def State.quireTemp (s : State) (q : Nat) : Int := toSigned 12 (s.fld F.LANE_QUIRE_TEMP_TEMP q)

/-- A lane's band becomes `b` (R164, R167, R169). -/
def State.setBand (s : State) (n b : Nat) : State :=
  if s.fld F.LANE_STATUS_BAND n = b then s
  else
    let s := (s.setF F.LANE_STATUS_BAND n b).note (E.LANE_EQ_BAND_CHANGE (n / 64))
    let s := s.retarget n
    match (s.lane n).scan with
    | some (k, pt, _, a) => if s.flag F.LANE_STATUS_STEPPING n then s.putLane n { s.lane n with scan := some (k, pt, true, a) } else s
    | none => s

/-- The band of a lane by its force bits, or `b` (R167). -/
def State.forced (s : State) (n b : Nat) : Nat := if s.flag F.LANE_CTL_BAND_FORCE_EN n then min 4 (s.fld F.LANE_CTL_BAND_FORCE n) else b

/-- A board table put in use (R170, R171, R196). -/
def State.loadBoard (s : State) (b : List Byte) : State :=
  let old := s
  let s := { s with boot := { s.boot with board := b } }
  let s := s.each (List.range 16) fun q s => s.wr R.LANE_BOARD_ID q (leAt b 8 4)
  s.each (List.range 1024) fun n s =>
    let en := old.flag F.LANE_CTL_ENABLE n && bit 0x78 s.mode
    let s := if en then s.putLane n { s.lane n with descHeld := some (old.laneDesc n) }
      else
        let d := leAt b (4096 + 16 * n) 4
        (s.setF F.LANE_CTL_TX_INVERT n (bits d 0 1)).setF F.LANE_CTL_RX_INVERT n (bits d 1 1)
    let s := s.each (List.range 10) fun e s =>
      (s.wr R.LANE_EQ_ENT_TX (e + 11 * n) (boardTx b n e % 2 ^ 30)).wr R.LANE_EQ_ENT_RX (e + 11 * n)
        (boardRx b n e % 2 ^ 28 + 2 ^ 31 * b2n (boardValid b n e))
    let bad := boardRejects b n
    let s := s.setF F.LANE_STATUS_EQ_INVALID n (b2n bad)
    let s := if bad then s.note (E.LANE_EQ_TABLE_REJECT (n / 64)) else s
    if en then s.retarget n else s

/-! ### Commands -/

/-- The lanes a KIND 1 TARGET names, and the LANE units that own them. -/
def Req.lanes (r : Req) : List Nat := r.instances 1024
def laneUnits (k : Nat) (l : List Nat) : List Nat := ((List.range 16).filter fun q => l.any fun n => n / 64 == q).map fun q => 12 + 6 * q + k

/-- The expert fields of LANE_CONFIG and their defaults; INVERT's come from the lane descriptor. -/
def laneDefaults : List (Arg × Nat) :=
  [(A.LANE_CONFIG_INVERT, 0), (A.LANE_CONFIG_EQ_MODE, 0), (A.LANE_CONFIG_BAND_FORCE_EN, 0), (A.LANE_CONFIG_BAND_FORCE, 0)]

/-- LANE_CONFIG on one lane. -/
def State.configLane (s : State) (n : Nat) (r : Req) : State :=
  let inv := if r.expert then r.arg A.LANE_CONFIG_INVERT else s.laneDesc n % 4
  let s := (s.setF F.LANE_CTL_RATE n (r.arg A.LANE_CONFIG_RATE)).setF F.LANE_CTL_CODING n (r.arg A.LANE_CONFIG_CODING)
  let s := (s.setF F.LANE_CTL_TX_INVERT n (inv % 2)).setF F.LANE_CTL_RX_INVERT n (inv / 2)
  let s := ((s.setF F.LANE_CTL_TX_SQUELCH n (r.arg A.LANE_CONFIG_TX_SQUELCH)).setF F.LANE_CTL_EQ_MODE n (r.arg A.LANE_CONFIG_EQ_MODE)).setF
    F.LANE_CTL_BAND_FORCE_EN n (r.arg A.LANE_CONFIG_BAND_FORCE_EN)
  let s := s.setF F.LANE_CTL_BAND_FORCE n (r.arg A.LANE_CONFIG_BAND_FORCE)
  let off := s.flag F.LANE_CTL_ENABLE n && !r.on A.LANE_CONFIG_ENABLE
  let s := s.setF F.LANE_CTL_ENABLE n (r.arg A.LANE_CONFIG_ENABLE)
  let s := if off then s.stopLane n else s.refreshTx n
  (if s.flag F.LANE_CTL_BAND_FORCE_EN n then s.setBand n (s.forced n 0) else s).retarget n

/-- What LANE_CONFIG adds to the checks of R94. -/
def State.laneConfigChecks (s : State) (r : Req) : Checks :=
  { Checks.plain C.LANE_CONFIG with
      target := targetError 0x10 1 1024 true r, dflt := laneDefaults
      args := firstFail [
        failIf r.expert (r.range A.LANE_CONFIG_BAND_FORCE 0 4),
        failIf (r.lanes.any fun n => (s.portOfLane? n).isSome &&
          (s.fld F.LANE_CTL_RATE n != r.arg A.LANE_CONFIG_RATE || s.fld F.LANE_CTL_CODING n != r.arg A.LANE_CONFIG_CODING)) (badArg A.LANE_CONFIG_RATE 1),
        failIf (r.on A.LANE_CONFIG_ENABLE && r.lanes.any fun n => s.flag F.LANE_STATUS_EQ_INVALID n || !s.lanePresent n) (badArg A.LANE_CONFIG_ENABLE 2),
        failIf (r.lanes.any fun n => !s.laneAllows n (r.arg A.LANE_CONFIG_RATE) (r.arg A.LANE_CONFIG_CODING)) (badArg A.LANE_CONFIG_RATE 3)]
      units := laneUnits 0 r.lanes }

/-- What LANE_CONFIG does once its checks have passed. -/
def State.laneConfigAct (s : State) (r : Req) : Ans :=
      let t := s.each r.lanes fun n t => t.configLane n r
      let n := if r.all then 0 else r.index
      .ok t (w32 (t.rd R.LANE_CTL n) ++ w32 (t.rd R.LANE_STATUS n))

/-- LANE_CONFIG (0x0301, R195). -/
def execLaneConfig (m : Nat) (s : State) : Host.Outcome State Fault Refusal :=
  .next (s.runCmd m C.LANE_CONFIG s.laneConfigChecks s.laneConfigAct)

/-- What EQ_TABLE_LOAD adds to the checks of R94. -/
def State.eqTableLoadChecks (_ : State) (r : Req) : Checks :=
  { Checks.plain C.EQ_TABLE_LOAD with
      target := targetWhole 0x10 r
      args := failIf (r.arg A.EQ_TABLE_LOAD_HOST_ADDR_LO % 64 != 0) (badArg A.EQ_TABLE_LOAD_HOST_ADDR_LO 1)
      units := laneUnits 0 (List.range 1024) }

/-- How EQ_TABLE_LOAD starts: the state it runs from and what it notes. -/
def eqTableLoadStart (_ : Req) (s : State) : State × Nat :=
  (s, 0)

/-- What EQ_TABLE_LOAD does as it runs. -/
def eqTableLoadAct (r : Req) (_ : Nat) (s : State) : Ans :=
      match s.hostRead (r.arg64 A.EQ_TABLE_LOAD_HOST_ADDR_LO A.EQ_TABLE_LOAD_HOST_ADDR_HI) 184320 with
      | none => .hostTimeout s
      | some b =>
        if leAt b 0 4 ≠ 0xB0A2DE91 ∨ leAt b 4 4 ≠ 1 ∨ crc32 b ≠ r.arg A.EQ_TABLE_LOAD_TABLE_CRC then .fail s 0x0103 (8 * 65536 + 1)
        else
          let t := s.loadBoard b
          let good := (idxs 1024 fun n => (List.range 10).all fun e => boardValid b n e).length
          .ok t (w32 good ++ w32 (idxs 1024 fun n => t.flag F.LANE_STATUS_EQ_INVALID n).length)

/-- EQ_TABLE_LOAD (0x0302, R196). -/
def execEqTableLoad (x : Exec) (s : State) : Host.Outcome State Fault Refusal :=
  .next (s.runAsync x C.EQ_TABLE_LOAD s.eqTableLoadChecks eqTableLoadStart eqTableLoadAct)

/-- The checker's counts of a lane cleared (R191). -/
def State.clearPrbs (s : State) (n : Nat) : State :=
  let s := ((s.wr R.LANE_PRBS_BIT_ERR n 0).wr R.LANE_PRBS_SYM_ERR n 0).wr R.LANE_PRBS_COMPARED n 0
  s.putLane n { s.lane n with chkRest := 0 }

/-- `k` symbol errors injected into what the lane sends (R192). -/
def State.inject (s : State) (n k : Nat) : State := s.putLane n { s.lane n with injected := (s.lane n).injected + k }

/-- FIRE: a single error, or BURST_LEN errors; FIRE reads 1 until it is done, which is within the step (R192, log entry 13). -/
def State.fire (s : State) (n : Nat) : State :=
  let s := s.setF F.LANE_INJ_CFG_FIRE n 0
  if s.mode ≠ 6 then s
  else if s.fld F.LANE_INJ_CFG_MODE n = 1 then s.inject n 1
  else if s.fld F.LANE_INJ_CFG_MODE n = 2 then s.inject n (max 1 (s.fld F.LANE_INJ_CFG_BURST_LEN n))
  else s

/-- A change of loopback takes the lane down (R193). -/
def State.setLoopback (s : State) (n v : Nat) : State :=
  if s.fld F.LANE_CTL_LOOPBACK n = v then s
  else
    let s := ((s.setF F.LANE_CTL_LOOPBACK n v).setF F.LANE_STATUS_CDR_LOCK n 0).setF F.PCS_STATUS_AM_LOCK n 0
    let s := s.refreshTx n
    match s.portOfLane? n with
    | some p => ((s.loseAlignment p).setF F.STCH_STATUS_LINK_UP n 0).checkPort p
    | none => s

/-- LANE_TEST on one lane. -/
def State.testLane (s : State) (n : Nat) (r : Req) : State :=
  let newChk := r.on A.LANE_TEST_CHK_EN && !s.flag F.LANE_PRBS_CTL_CHK_EN n
  let s := ((s.setF F.LANE_PRBS_CTL_GEN_PATTERN n (r.arg A.LANE_TEST_GEN_PATTERN)).setF F.LANE_PRBS_CTL_GEN_EN n (r.arg A.LANE_TEST_GEN_EN)).setF
    F.LANE_PRBS_CTL_CHK_PATTERN n (r.arg A.LANE_TEST_CHK_PATTERN)
  let s := (s.setF F.LANE_PRBS_CTL_CHK_EN n (r.arg A.LANE_TEST_CHK_EN)).setF F.LANE_PRBS_CTL_THRESHOLD_LOG2 n (r.arg A.LANE_TEST_THRESHOLD_LOG2)
  let s := if r.on A.LANE_TEST_CHK_EN then s else s.setF F.LANE_PRBS_STATUS_CHK_LOCK n 0
  let s := if newChk then s.putLane n { s.lane n with chkRun := 0, chkWin := [] } else s
  let s := if newChk || r.on A.LANE_TEST_CLEAR then s.clearPrbs n else s
  let s := s.setLoopback n (r.arg A.LANE_TEST_LOOPBACK)
  let s := ((s.setF F.LANE_INJ_CFG_MODE n (r.arg A.LANE_TEST_INJ_MODE)).setF F.LANE_INJ_CFG_BURST_LEN n (r.arg A.LANE_TEST_BURST_LEN)).setF
    F.LANE_INJ_CFG_PERIOD_LOG2 n (r.arg A.LANE_TEST_PERIOD_LOG2)
  if r.on A.LANE_TEST_FIRE then s.fire n else s

/-- What LANE_TEST adds to the checks of R94. -/
def State.laneTestChecks (_ : State) (r : Req) : Checks :=
  { Checks.plain C.LANE_TEST with
      target := targetError 0x10 1 1024 true r, dflt := [(A.LANE_TEST_THRESHOLD_LOG2, 0)]
      args := firstFail [r.range A.LANE_TEST_GEN_PATTERN 0 4, r.range A.LANE_TEST_CHK_PATTERN 0 4, r.range A.LANE_TEST_LOOPBACK 0 4,
        r.range A.LANE_TEST_BURST_LEN 1 255, r.range A.LANE_TEST_PERIOD_LOG2 4 31,
        failIf ((r.on A.LANE_TEST_GEN_EN || r.on A.LANE_TEST_CHK_EN) && (r.arg A.LANE_TEST_LOOPBACK == 1 || r.arg A.LANE_TEST_LOOPBACK == 4))
          (badArg A.LANE_TEST_LOOPBACK 4)]
      units := laneUnits 0 r.lanes }

/-- What LANE_TEST does once its checks have passed. -/
def State.laneTestAct (s : State) (r : Req) : Ans :=
      let t := s.each r.lanes fun n t => t.testLane n r
      .ok t (w32 (t.rd R.LANE_PRBS_STATUS (if r.all then 0 else r.index)))

/-- LANE_TEST (0x0303, R190 to R193). -/
def execLaneTest (m : Nat) (s : State) : Host.Outcome State Fault Refusal :=
  .next (s.runCmd m C.LANE_TEST s.laneTestChecks s.laneTestAct)

/-- A scan is running on a lane: its completion record still runs. -/
def State.scanning (s : State) (n : Nat) : Bool :=
  match (s.lane n).scan with
  | some (k, _, _, _) => match s.rec? k with
    | some q => q.phase == 1 && q.req.opcode == 0x0304
    | none => false
  | none => false

/-- What LANE_MARGIN_SCAN adds to the checks of R94. -/
def State.laneMarginScanChecks (s : State) (r : Req) : Checks :=
  { Checks.plain C.LANE_MARGIN_SCAN with
    target := match targetError 0x10 1 1024 false r with
      | some e => some e
      | none => if s.flag F.LANE_CTL_ENABLE r.index then none else some 5
    dflt := [(A.LANE_MARGIN_SCAN_DWELL_LOG2, 24)]
    args := firstFail [failIf (r.arg A.LANE_MARGIN_SCAN_HOST_ADDR_LO % 64 != 0) (badArg A.LANE_MARGIN_SCAN_HOST_ADDR_LO 1),
      failIf r.expert (r.range A.LANE_MARGIN_SCAN_DWELL_LOG2 10 40)]
    busy := if s.scanning r.index then some 0x10 else none }

/-- How LANE_MARGIN_SCAN starts: the state it runs from and what it notes. -/
def laneMarginScanStart (r : Req) (s : State) : State × Nat :=
  (s.putLane r.index { s.lane r.index with
    scan := some ((s.pickRec.map Prod.fst).getD 0, 0, false, r.arg64 A.LANE_MARGIN_SCAN_HOST_ADDR_LO A.LANE_MARGIN_SCAN_HOST_ADDR_HI) }, r.index)

/-- LANE_MARGIN_SCAN (0x0304, R194): the scan starts; its points end it (MARGIN_POINT_DONE), so its record has nothing left to do. -/
def execLaneMarginScan (x : Exec) (s : State) : Host.Outcome State Fault Refusal :=
  .next (match x with
    | .record _ => s
    | .mailbox m => s.runAsync (.mailbox m) C.LANE_MARGIN_SCAN s.laneMarginScanChecks laneMarginScanStart (fun _ _ s => .ok s []))

/-! ### Events of a lane -/

/-- LANE_TX_PLL_LOCK (R161, R166): an enabled lane's transmit PLL locks in a mode that enables lanes; its band is set from the temperature,
its codes load at once, and its transmitter is unsquelched. -/
def execLaneTxPllLock (n : Nat) (s : State) : Host.Outcome State Fault Refusal :=
  .next (if n < 1024 ∧ s.flag F.LANE_CTL_ENABLE n ∧ bit 0x78 s.mode ∧ !(s.lane n).pll ∧ !s.flag F.LANE_STATUS_EQ_INVALID n ∧ s.lanePresent n
      ∧ s.flag F.CKG_DOMAIN_STATUS_RUNNING (6 + n / 64) then
      let s := s.putLane n { s.lane n with pll := true }
      let s := s.setF F.LANE_STATUS_BAND n (s.forced n (bandsBelow (s.quireTemp (n / 64)) 0))
      (((s.wr R.LANE_EQ_NOW_TX n (s.targetTx n)).wr R.LANE_EQ_NOW_RX n (s.targetRx n)).setF F.LANE_STATUS_STEPPING n 0).refreshTx n
    else s)

/-- LANE_CDR_LOCK (R161): clock and data recovery of an enabled lane locks to a valid signal. -/
def execLaneCdrLock (n : Nat) (s : State) : Host.Outcome State Fault Refusal :=
  .next (if n < 1024 ∧ s.flag F.LANE_CTL_ENABLE n ∧ bit 0x78 s.mode then
      (s.setF F.LANE_STATUS_SIGNAL n 1).setF F.LANE_STATUS_CDR_LOCK n 1
    else s)

/-- LANE_SIGNAL_LOSS (R161): an enabled lane has lost its signal for 1 µs, or with `cdr` its clock and data recovery has lost lock. -/
def execLaneSignalLoss (n : Nat) (cdr : Bool) (s : State) : Host.Outcome State Fault Refusal :=
  .next (if n < 1024 ∧ s.flag F.LANE_CTL_ENABLE n then
      if cdr then
        (if s.flag F.LANE_STATUS_CDR_LOCK n then
          ((s.setF F.LANE_STATUS_CDR_LOCK n 0).setCounted F.LANE_STATUS_CDR_UNLOCK F.LANE_STATUS_UNLOCK_COUNT n).note (E.LANE_LOSS n)
         else s)
      else if s.flag F.LANE_STATUS_SIGNAL n then
        ((s.setF F.LANE_STATUS_SIGNAL n 0).setCounted F.LANE_STATUS_LOS F.LANE_STATUS_LOS_COUNT n).note (E.LANE_LOSS n)
      else s
    else s)

/-- LANE_TEMP_REFRESH (R163): a quire takes the maximum of its 16 sensors, zones 2q and 2q + 1 of R533. -/
def execLaneTempRefresh (q : Nat) (s : State) : Host.Outcome State Fault Refusal :=
  .next (if q < 16 then
      let t := (List.range 16).foldl (fun (a : Int) i => max a (toSigned 12 (s.fld F.GOV_SENSOR_TEMP (16 * q + i)))) (-2048)
      s.setF F.LANE_QUIRE_TEMP_TEMP q (ofSigned 12 t)
    else s)

/-- LANE_BAND_EVAL (R164, R167): lane `n` re-evaluates its band. -/
def execLaneBandEval (n : Nat) (s : State) : Host.Outcome State Fault Refusal :=
  .next (if n < 1024 then
      let θ := s.quireTemp (n / 64)
      let b := s.fld F.LANE_STATUS_BAND n
      let up := bandsBelow θ 0
      let down := bandsBelow θ 12
      s.setBand n (s.forced n (if b < up then up else if down < b then down else b))
    else s)

/-- LANE_EQ_STEP (R165): each code of a stepping lane that differs from its target moves one code towards it. -/
def execLaneEqStep (n : Nat) (s : State) : Host.Outcome State Fault Refusal :=
  .next (if n < 1024 ∧ s.flag F.LANE_STATUS_STEPPING n then
      let tx := txCodes.foldl (fun w f => stepCode w (s.targetTx n) f) (s.rd R.LANE_EQ_NOW_TX n)
      let rx := rxCodes.foldl (fun w f => stepCode w (s.targetRx n) f) (s.rd R.LANE_EQ_NOW_RX n)
      ((s.wr R.LANE_EQ_NOW_TX n tx).wr R.LANE_EQ_NOW_RX n rx).retarget n
    else s)

/-- LANE_INJ_FIRE (R192): a host write of FIRE where the lane's LANE sub-block is granted. -/
def execLaneInjFire (n : Nat) (s : State) : Host.Outcome State Fault Refusal :=
  .next (if n < 1024 then s.hostWrites (R.LANE_INJ_CFG.key n) fun s => s.fire n else s)

/-- MARGIN_POINT_DONE (R169, R194): the dwell at the present point of lane `n`'s scan ends with `errs` errors. While codes step the scan is
paused; the last point completes the scan's record. -/
def execMarginPointDone (n errs : Nat) (s : State) : Host.Outcome State Fault Refusal :=
  .next (if !s.scanning n || s.flag F.LANE_STATUS_STEPPING n then s
    else match (s.lane n).scan with
    | none => s
    | some (k, pt, chg, a) =>
      match s.rec? k with
      | none => s
      | some q =>
        if !s.hostReach then (s.putLane n { s.lane n with scan := none }).completeRec k q 0x0402 0xFF000000 []
        else
          let s := s.hostWrite (a + 4 * pt) (w32 (min errs (2 ^ 32 - 1)))
          if pt + 1 < 4096 then s.putLane n { s.lane n with scan := some (k, pt + 1, chg, a) }
          else (s.putLane n { s.lane n with scan := none }).completeRec k q 0 0 (w32 4096 ++ w32 (b2n chg)))

/-- PCS_ALIGNMENT (R173): the PCS of Ethernet port `p` has alignment-marker lock on the lanes of mask `am`, with the given skews in ns, and is
deskewed or not. A port is aligned when every lane is locked and no skew exceeds 200 ns. -/
def execPcsAlignment (p am : Nat) (skews : List Nat) (deskewed : Bool) (s : State) : Host.Outcome State Fault Refusal :=
  .next (if s.portConfigured p && s.speed p != 5 && bit 0x78 s.mode then
      let locked := fun (n : Nat) => bit am (n - p) && s.flag F.LANE_STATUS_CDR_LOCK n
      let ok := deskewed && (s.portLanes p).all fun n => locked n && decide (skews.getD (n - p) 0 ≤ 200)
      let t := s.each (s.portLanes p) fun n t =>
        (t.setF F.PCS_STATUS_AM_LOCK n (b2n (locked n))).setF F.PCS_STATUS_SKEW_NS n (satBits 8 (skews.getD (n - p) 0))
      if ok then (t.setF F.PCS_STATUS_ALIGNED p 1).checkPort p else t.loseAlignment p
    else s)

/-- FEC_WINDOW_END (R175): a window of port `p` ends with `syms` corrected symbols, `cor` corrected and `unc` uncorrectable codewords. -/
def execFecWindowEnd (p syms cor unc : Nat) (s : State) : Host.Outcome State Fault Refusal :=
  .next (if s.portConfigured p && s.speed p != 5 then
      let s := (s.addSat F.PCS_FEC_CORRECTED_COUNT p cor).addSat F.PCS_FEC_UNCORRECTED_COUNT p unc
      let th := s.fld F.PCS_FEC_CFG_THRESHOLD p
      if s.flag F.PCS_STATUS_DEGRADED p then (if 2 * syms < th then s.setF F.PCS_STATUS_DEGRADED p 0 else s)
      else if th < syms then
        ((s.setF F.PCS_STATUS_DEGRADED p 1).setCounted F.PCS_STATUS_DEGRADE_SET F.PCS_STATUS_DEGRADE_COUNT p).note (E.PCS_FEC_DEGRADE (p / 64))
      else s
    else s)

/-- One symbol at a lane's checker with `e` bit errors (R191). -/
def State.checkSymbol (s : State) (n e : Nat) : State :=
  let l := s.lane n
  if s.flag F.LANE_PRBS_STATUS_CHK_LOCK n then
    let s := (s.addSat F.LANE_PRBS_BIT_ERR_COUNT n e).addSat F.LANE_PRBS_SYM_ERR_COUNT n (min e 1)
    let k := s.fld F.LANE_PRBS_CTL_THRESHOLD_LOG2 n
    let s := if k ≠ 0 ∧ 2 ^ k ≤ s.fld F.LANE_PRBS_BIT_ERR_COUNT n ∧ s.fld F.LANE_PRBS_BIT_ERR_COUNT n < 2 ^ k + e ∧ e ≠ 0 then
        (s.setCounted F.LANE_PRBS_STATUS_THRESHOLD_HIT F.LANE_PRBS_STATUS_THRESHOLD_COUNT n).note (E.LANE_PRBS_THRESHOLD n) else s
    let rest := l.chkRest + 1
    let s := if rest = 65536 then s.inc F.LANE_PRBS_COMPARED_COUNT n else s
    let win := (decide (0 < e) :: l.chkWin).take 64
    let l := { l with chkRest := rest % 65536, chkWin := win }
    if 32 ≤ (win.filter id).length then
      ((s.putLane n { l with chkRun := 0, chkWin := [] }).setF F.LANE_PRBS_STATUS_CHK_LOCK n 0).setCounted F.LANE_PRBS_STATUS_LOCK_LOST
        F.LANE_PRBS_STATUS_LOCK_LOST_COUNT n
    else s.putLane n l
  else if e = 0 then
    if l.chkRun + 1 = 64 then (s.putLane n { l with chkRun := 0, chkWin := [] }).setF F.LANE_PRBS_STATUS_CHK_LOCK n 1
    else s.putLane n { l with chkRun := l.chkRun + 1 }
  else s.putLane n { l with chkRun := 0 }

/-- PRBS_CHECKER_LOCK (R191): symbols reach lane `n`'s checker, each with its number of bit errors. -/
def execPrbsCheckerLock (n : Nat) (errs : List Nat) (s : State) : Host.Outcome State Fault Refusal :=
  .next (if n < 1024 ∧ s.mode = 6 ∧ s.flag F.LANE_PRBS_CTL_CHK_EN n then s.each errs fun e s => s.checkSymbol n e else s)

/-- PERIODIC_INJECTION (R192): one symbol in every 2^PERIOD_LOG2 is moved to the adjacent level. -/
def execPeriodicInjection (n : Nat) (s : State) : Host.Outcome State Fault Refusal :=
  .next (if n < 1024 ∧ s.mode = 6 ∧ s.fld F.LANE_INJ_CFG_MODE n = 3 then s.inject n 1 else s)

end Sys2Proof.Machine
end

