-- ==== Sys2Proof/Machine/Ports.lean ====
section
/-! DEFINITION. Ports: their commands, priority flow control, preemption and link events (R198 to R230). Received frames are in Receive.lean. -/
namespace Sys2Proof.Machine

/-- The MAC unit and the LANE unit of a lane's quire (R112). -/
def macUnit (n : Nat) : Nat := 12 + 6 * (n / 64) + 3
def laneUnit (n : Nat) : Nat := 12 + 6 * (n / 64)

/-- The lanes a port of a speed at a lowest lane would take. -/
def wantLanes (p speed : Nat) : List Nat := (List.range (speedLanes speed)).map fun i => p + i

/-- PORT_CONFIG's defaults (R106). -/
def State.portDefaults (s : State) (p : Nat) : List (Arg × Nat) :=
  let old := s.portConfigured p
  [(A.PORT_CONFIG_MAX_FRAME, if old then s.fld F.MAC_CFG_MAX_FRAME p else 9216),
   (A.PORT_CONFIG_LEN_OVERHEAD, if old then s.fld F.MAC_CFG_LEN_OVERHEAD p else 20),
   (A.PORT_CONFIG_UP_HOLD_US, 0), (A.PORT_CONFIG_FLAP_LIMIT, 10)]

/-- BAD_ARG of PORT_CONFIG (R199, R200, R226). -/
def State.portConfigError (s : State) (r : Req) : Option (Nat × Nat) :=
  let p := r.index
  let sp := r.arg A.PORT_CONFIG_SPEED
  firstFail [
    failIf (s.portConfigured p && s.speed p != sp) (badArg A.PORT_CONFIG_SPEED 4),
    failIf (6 ≤ sp) (badArg A.PORT_CONFIG_SPEED 3),
    failIf (p % speedLanes sp != 0) (badArg A.PORT_CONFIG_SPEED 1),
    failIf ((wantLanes p sp).any fun n => match s.portOfLane? n with
      | some q => q != p
      | none => false) (badArg A.PORT_CONFIG_SPEED 2),
    failIf (!s.portConfigured p && (wantLanes p sp).any fun n => !s.laneAllows n (speedRate sp) (speedCoding sp) || !s.lanePresent n)
      (badArg A.PORT_CONFIG_SPEED 3),
    failIf (r.arg A.PORT_CONFIG_MAX_FRAME < 64 || toSigned 7 (r.arg A.PORT_CONFIG_LEN_OVERHEAD) < -32) (badArg A.PORT_CONFIG_MAX_FRAME 5)]

/-- A port created on its lanes (R198). -/
def State.createPort (s : State) (p speed : Nat) : State :=
  let s := (s.setF F.MAC_CFG_SPEED p speed).setF F.MAC_STATUS_CONFIGURED p 1
  s.each (wantLanes p speed) fun n s =>
    (((s.setF F.LANE_CTL_RATE n (speedRate speed)).setF F.LANE_CTL_CODING n (speedCoding speed)).setF F.LANE_CTL_ENABLE n 1).refreshTx n

/-- Every statistics counter of a port cleared. -/
def State.clearMacStats (s : State) (p : Nat) : State :=
  let s := s.each (List.range 48) fun k s => s.wr64 R.MAC_STAT_LO R.MAC_STAT_HI (k + 48 * p) 0
  (s.wr R.MAC_STAT_SAT (2 * p) 0).wr R.MAC_STAT_SAT (1 + 2 * p) 0

/-- ADMIN_UP of a port written (R208, R209). A port that sends nothing goes down at once. -/
def State.setAdmin (s : State) (p : Nat) (up : Bool) : State :=
  let s := (s.setF F.MAC_CFG_ADMIN_UP p (b2n up)).setLive p (up && s.operUp p)
  if up then
    (((s.setF F.MAC_STATUS_ERR_DISABLED p 0).setF F.MAC_STATUS_FLAPS_IN_WINDOW p 0).putMac p { s.mac p with flaps := [] }).checkPort p
  else if (s.mac p).sending.isSome then s else s.portDown p

/-- What PORT_CONFIG adds to the checks of R94. -/
def State.portConfigChecks (s : State) (r0 : Req) : Checks :=
      let r := filled C.PORT_CONFIG (s.portDefaults r0.index) r0
      { Checks.plain C.PORT_CONFIG with
        target := targetError 0x13 1 1024 false r, dflt := s.portDefaults r.index, args := s.portConfigError r
        units := if s.portConfigured r.index then [macUnit r.index] else [laneUnit r.index, macUnit r.index] }

/-- What PORT_CONFIG does once its checks have passed. -/
def State.portConfigAct (s : State) (r : Req) : Ans :=
      let p := r.index
      let t := if s.portConfigured p then s else s.createPort p (r.arg A.PORT_CONFIG_SPEED)
      let t := (t.setF F.MAC_CFG_MAX_FRAME p (r.arg A.PORT_CONFIG_MAX_FRAME)).setF F.MAC_CFG_LEN_OVERHEAD p (r.arg A.PORT_CONFIG_LEN_OVERHEAD)
      let t := (t.setF F.MAC_CFG2_UP_HOLD_US p (r.arg A.PORT_CONFIG_UP_HOLD_US)).setF F.MAC_CFG2_FLAP_LIMIT p (r.arg A.PORT_CONFIG_FLAP_LIMIT)
      let t := if r.on A.PORT_CONFIG_CLEAR_STATS then t.clearMacStats p else t
      let t := t.setAdmin p (r.on A.PORT_CONFIG_ADMIN_UP)
      .ok t (w32 (t.rd R.MAC_CFG p) ++ w32 (t.rd R.MAC_STATUS p))

/-- PORT_CONFIG (0x0401, R226). -/
def execPortConfig (m : Nat) (s : State) : Host.Outcome State Fault Refusal :=
  .next (s.runCmd m C.PORT_CONFIG s.portConfigChecks s.portConfigAct)

/-- Every frame of a port's queues discarded (R202). -/
def State.discardQueues (s : State) (p : Nat) : State :=
  s.each (List.range 16) fun k s =>
    let l := Tab.get [] s.queues (16 * p + k)
    let s := s.each l fun d s => (s.releaseDesc 1 d).macStat p 18 1
    ({ s with queues := Tab.set [] s.queues (16 * p + k) [] }).resetRegs fun a => a == R.QSC_Q_DEPTH.key (16 * p + k) || a == R.QSC_Q_FRAMES.key (16 * p + k)

/-- What PORT_DELETE adds to the checks of R94. -/
def State.portDeleteChecks (s : State) (r : Req) : Checks :=
  { Checks.plain C.PORT_DELETE with target := s.targetPort 0x13 r, units := [laneUnit r.index, macUnit r.index] }

/-- What PORT_DELETE does once its checks have passed. -/
def State.portDeleteAct (s : State) (r : Req) : Ans :=
      let p := r.index
      let n := ((List.range 16).map fun k => (Tab.get [] s.queues (16 * p + k)).length).foldl (· + ·) 0
      let lanes := s.portLanes p
      let t := (s.portDown p).discardQueues p
      let t := t.each lanes fun l t => (t.setF F.LANE_CTL_ENABLE l 0).stopLane l
      let base := R.MAC_CFG.key p
      let t := (t.putMac p {}).resetRegs fun a => decide (base ≤ a ∧ a < base + 0x380)
      .ok t (w32 n)

/-- PORT_DELETE (0x0402, R202). The statistics counters stay (log entry 15). -/
def execPortDelete (m : Nat) (s : State) : Host.Outcome State Fault Refusal :=
  .next (s.runCmd m C.PORT_DELETE s.portDeleteChecks s.portDeleteAct)

/-! ### Priority flow control -/

/-- A PFC frame the MAC sends for priority `q` with a pause time (R217, R229). -/
def State.sendPfc (s : State) (p q time : Nat) : State :=
  let sa := w32 (s.rd R.MAC_SA_LO p) ++ leBytes 2 (s.fld F.MAC_SA_HI_ADDR p)
  let body := [0x01#8, 0x80#8, 0xC2#8, 0x00#8, 0x00#8, 0x01#8] ++ sa ++ [0x88#8, 0x08#8, 0x01#8, 0x01#8] ++ beBytes 2 (2 ^ q)
    ++ (List.range 8).flatMap (fun i => beBytes 2 (if i = q then time else 0)) ++ List.replicate 26 0#8
  (s.putMac p { s.mac p with control := (1, withFcs body) }).macStat p (32 + q) 1

/-- A pool asks the MAC of port `p` for XOFF on priority `q` (R346). -/
def State.poolXoff (s : State) (p q : Nat) : Bool :=
  (List.range 16).any fun c =>
    let pool := s.poolOf p c
    s.poolOn pool && s.lossless pool && s.fld F.VLT_POOL_CFG_PFC_PRI pool == q
      && (s.flag F.VLT_POOL_STATE_XOFF (2 * pool) || s.flag F.VLT_POOL_STATE_XOFF (2 * pool + 1))

/-- The defaults of PFC_CONFIG (R106). -/
def State.pfcDefaults (s : State) (p : Nat) : List (Arg × Nat) :=
  [(A.PFC_CONFIG_TX_QUANTA, 65535), (A.PFC_CONFIG_STORM_DETECT_MS, 100), (A.PFC_CONFIG_STORM_ACTION, 0), (A.PFC_CONFIG_STORM_RECOVER_MS, 200)]
    ++ ((List.range 4).map fun w => (A.PFC_CONFIG_QMAP w, s.rd R.MAC_PFC_QMAP (w + 4 * p)))
    ++ [(A.PFC_CONFIG_MAC_SA_LO, s.rd R.MAC_SA_LO p), (A.PFC_CONFIG_MAC_SA_HI, s.fld F.MAC_SA_HI_ADDR p)]

/-- The mask of priority `q` in a PFC_CONFIG request. -/
def Req.qmap (r : Req) (q : Nat) : Nat := bits (r.arg (A.PFC_CONFIG_QMAP (q / 2))) (16 * (q % 2)) 16

/-- BAD_ARG with another reason where a field is out of range. -/
def Req.rangeBy (r : Req) (a : Arg) (lo hi reason : Nat) : Option (Nat × Nat) := if lo ≤ r.arg a ∧ r.arg a ≤ hi then none else badArg a reason

/-- What PFC_CONFIG adds to the checks of R94. -/
def State.pfcConfigChecks (s : State) (r0 : Req) : Checks :=
      let r := filled C.PFC_CONFIG (s.pfcDefaults r0.index) r0
      { Checks.plain C.PFC_CONFIG with
        target := s.targetPort 0x13 r, dflt := s.pfcDefaults r.index
        args := firstFail [failIf (s.stitchPort r.index) (badArg A.PFC_CONFIG_RX_EN 3),
          failIf ((List.range 8).any fun a => (List.range a).any fun b => r.qmap a &&& r.qmap b != 0) (badArg (A.PFC_CONFIG_QMAP 0) 1),
          r.rangeBy A.PFC_CONFIG_TX_QUANTA 1 65535 2, r.rangeBy A.PFC_CONFIG_STORM_DETECT_MS 1 10000 2, r.rangeBy A.PFC_CONFIG_STORM_RECOVER_MS 1 10000 2]
        units := [macUnit r.index] }

/-- What PFC_CONFIG does once its checks have passed. -/
def State.pfcConfigAct (s : State) (r : Req) : Ans :=
      let p := r.index
      let t := ((s.setF F.MAC_PFC_CFG_RX_EN p (r.arg A.PFC_CONFIG_RX_EN)).setF F.MAC_PFC_CFG_TX_EN p (r.arg A.PFC_CONFIG_TX_EN)).setF
        F.MAC_PFC_CFG_TX_QUANTA p (r.arg A.PFC_CONFIG_TX_QUANTA)
      let t := ((t.setF F.MAC_PFC_STORM_DETECT_MS p (r.arg A.PFC_CONFIG_STORM_DETECT_MS)).setF F.MAC_PFC_STORM_ACTION p
        (r.arg A.PFC_CONFIG_STORM_ACTION)).setF F.MAC_PFC_STORM_RECOVER_MS p (r.arg A.PFC_CONFIG_STORM_RECOVER_MS)
      let t := t.each (List.range 4) fun w t => t.wr R.MAC_PFC_QMAP (w + 4 * p) (r.arg (A.PFC_CONFIG_QMAP w))
      let t := (t.wr R.MAC_SA_LO p (r.arg A.PFC_CONFIG_MAC_SA_LO)).setF F.MAC_SA_HI_ADDR p (r.arg A.PFC_CONFIG_MAC_SA_HI)
      .ok t (w32 (t.rd R.MAC_PFC_CFG p) ++ w32 (t.rd R.MAC_PFC_STATUS p))

/-- PFC_CONFIG (0x0403, R227). -/
def execPfcConfig (m : Nat) (s : State) : Host.Outcome State Fault Refusal :=
  .next (s.runCmd m C.PFC_CONFIG s.pfcConfigChecks s.pfcConfigAct)

/-- One priority of a valid PFC frame (R215, R216, R218, R220). -/
def State.pfcPriority (s : State) (p q time : Nat) : State :=
  let s := s.macStat p (24 + q) 1
  if !s.operUp p then s
  else if bit (s.fld F.MAC_PFC_STATUS_STORM p) q then s.macStat p 10 1
  else if !bit (s.fld F.MAC_PFC_CFG_RX_EN p) q then s
  else if time = 0 then s.endPause p q
  else
    let m := s.mac p
    let since := (Tab.get none m.pausedSince q).getD s.now
    let s := s.putMac p { m with
      paused := Tab.set 0 m.paused q (s.pfcMap p q), pausedSince := Tab.set none m.pausedSince q (some since), timerAt := Tab.set 0 m.timerAt q s.now }
    (s.setF F.MAC_PFC_TIMER_REMAINING (q + 8 * p) time).setF F.MAC_PFC_STATUS_PAUSED p (putBits (s.fld F.MAC_PFC_STATUS_PAUSED p) q 1 1)

/-- PFC_FRAME_RX (R215): a valid PFC frame with class-enable vector `vec` and pause times `times` has arrived at port `p`; the frame itself is
counted by MAC_RX_FRAME. -/
def execPfcFrameRx (p vec : Nat) (times : List Nat) (s : State) : Host.Outcome State Fault Refusal :=
  .next (if s.portConfigured p && s.speed p != 5 then
      s.each (idxs 8 fun q => bit vec q) fun q s => s.pfcPriority p q (times.getD q 0 % 65536)
    else s)

/-- PFC_TIMER_EXPIRE (R215). -/
def execPfcTimerExpire (p q : Nat) (s : State) : Host.Outcome State Fault Refusal :=
  .next (if q < 8 ∧ bit (s.fld F.MAC_PFC_STATUS_PAUSED p) q then s.endPause p q else s)

/-- Whether the MAC of port `p` is asked for XOFF on priority `q`: by a pool (R346) or by its pipeline's front end (R527). -/
def State.xoffAsked (s : State) (p q : Nat) : Bool := s.poolXoff p q || bit s.feXoff (p / 32)

/-- PFC_XOFF_CHANGE (R217, R346): the request for XOFF on priority `q` as it stands reaches the MAC of port `p`. -/
def execPfcXoffChange (p q : Nat) (s : State) : Host.Outcome State Fault Refusal :=
  .next (if s.portConfigured p && s.speed p != 5 && s.operUp p && decide (q < 8) && bit (s.fld F.MAC_PFC_CFG_TX_EN p) q
      && s.xoffAsked p q != s.flag F.MAC_PFC_TIMER_TX_XOFF (q + 8 * p) then
      (s.setF F.MAC_PFC_TIMER_TX_XOFF (q + 8 * p) (b2n (s.xoffAsked p q))).sendPfc p q
        (if s.xoffAsked p q then s.fld F.MAC_PFC_CFG_TX_QUANTA p else 0)
    else s)

/-- PFC_REFRESH_TIMER (R217): half of TX_QUANTA has passed while XOFF holds. -/
def execPfcRefreshTimer (p q : Nat) (s : State) : Host.Outcome State Fault Refusal :=
  .next (if s.portConfigured p && s.operUp p && decide (q < 8) && bit (s.fld F.MAC_PFC_CFG_TX_EN p) q && s.flag F.MAC_PFC_TIMER_TX_XOFF (q + 8 * p) then
      s.sendPfc p q (s.fld F.MAC_PFC_CFG_TX_QUANTA p)
    else s)

/-- PFC_STORM_DETECT (R218): priority `q` has stayed paused without a break for STORM_DETECT_MS. -/
def execPfcStormDetect (p q : Nat) (s : State) : Host.Outcome State Fault Refusal :=
  .next (if q < 8 ∧ bit (s.fld F.MAC_PFC_STATUS_PAUSED p) q then
      let s := s.endPause p q
      let s := s.setF F.MAC_PFC_STATUS_STORM p (putBits (s.fld F.MAC_PFC_STATUS_STORM p) q 1 1)
      let s := (s.setCounted F.MAC_PFC_STATUS_STORM_SET F.MAC_PFC_STATUS_STORM_COUNT p).note (E.MAC_PORT_EVENT p)
      s.note (E.MAC_PFC_STORM (p / 64))
    else s)

/-- PFC_STORM_RECOVER (R219). -/
def execPfcStormRecover (p q : Nat) (s : State) : Host.Outcome State Fault Refusal :=
  .next (if q < 8 ∧ bit (s.fld F.MAC_PFC_STATUS_STORM p) q then
      s.setF F.MAC_PFC_STATUS_STORM p (putBits (s.fld F.MAC_PFC_STATUS_STORM p) q 1 0)
    else s)

/-! ### Preemption -/

/-- The defaults of PREEMPT_CONFIG (R106). -/
def preemptDefaults : List (Arg × Nat) :=
  [(A.PREEMPT_CONFIG_VERIFY_DISABLE, 0), (A.PREEMPT_CONFIG_ADD_FRAG_SIZE, 0), (A.PREEMPT_CONFIG_VERIFY_MS, 10),
   (A.PREEMPT_CONFIG_VERIFY_LIMIT, 3), (A.PREEMPT_CONFIG_EXPRESS_QMASK, 0xC000)]

/-- What PREEMPT_CONFIG adds to the checks of R94. -/
def State.preemptConfigChecks (s : State) (r0 : Req) : Checks :=
      let r := filled C.PREEMPT_CONFIG preemptDefaults r0
      { Checks.plain C.PREEMPT_CONFIG with
        target := s.targetPort 0x13 r, dflt := preemptDefaults
        args := firstFail [failIf (s.stitchPort r.index) (badArg A.PREEMPT_CONFIG_ENABLE 2),
          r.range A.PREEMPT_CONFIG_VERIFY_MS 1 128, r.range A.PREEMPT_CONFIG_VERIFY_LIMIT 1 15]
        units := [macUnit r.index] }

/-- What PREEMPT_CONFIG does once its checks have passed. -/
def State.preemptConfigAct (s : State) (r : Req) : Ans :=
      let p := r.index
      let t := ((s.setF F.MAC_PREEMPT_CFG_ENABLE p (r.arg A.PREEMPT_CONFIG_ENABLE)).setF F.MAC_PREEMPT_CFG_VERIFY_DISABLE p
        (r.arg A.PREEMPT_CONFIG_VERIFY_DISABLE)).setF F.MAC_PREEMPT_CFG_ADD_FRAG_SIZE p (r.arg A.PREEMPT_CONFIG_ADD_FRAG_SIZE)
      let t := ((t.setF F.MAC_PREEMPT_CFG_VERIFY_MS p (r.arg A.PREEMPT_CONFIG_VERIFY_MS)).setF F.MAC_PREEMPT_CFG_VERIFY_LIMIT p
        (r.arg A.PREEMPT_CONFIG_VERIFY_LIMIT)).setF F.MAC_PREEMPT_CFG_EXPRESS_QMASK p (r.arg A.PREEMPT_CONFIG_EXPRESS_QMASK)
      let t := t.startVerify p
      .ok t (w32 (t.rd R.MAC_PREEMPT_STATUS p))

/-- PREEMPT_CONFIG (0x0404, R222, R228). -/
def execPreemptConfig (m : Nat) (s : State) : Host.Outcome State Fault Refusal :=
  .next (s.runCmd m C.PREEMPT_CONFIG s.preemptConfigChecks s.preemptConfigAct)

/-- PREEMPT_VERIFY_RX (R222, R225): a verify frame, or with `respond` a respond frame, arrives at port `p`. -/
def execPreemptVerifyRx (p : Nat) (respond : Bool) (s : State) : Host.Outcome State Fault Refusal :=
  .next (if s.portConfigured p && s.speed p != 5 then
      let s := s.macStat p 14 1
      if !s.flag F.MAC_PREEMPT_CFG_ENABLE p then s
      else if respond then (if s.fld F.MAC_PREEMPT_STATUS_STATE p = 1 then s.setF F.MAC_PREEMPT_STATUS_STATE p 2 else s)
      else s.putMac p { s.mac p with control := (3, []) }
    else s)

/-- PREEMPT_VERIFY_TIMER (R222): the verify interval ends without a respond. -/
def execPreemptVerifyTimer (p : Nat) (s : State) : Host.Outcome State Fault Refusal :=
  .next (if s.fld F.MAC_PREEMPT_STATUS_STATE p = 1 then
      if s.fld F.MAC_PREEMPT_STATUS_ATTEMPTS p < s.fld F.MAC_PREEMPT_CFG_VERIFY_LIMIT p then
        (s.inc F.MAC_PREEMPT_STATUS_ATTEMPTS p).putMac p { s.mac p with control := (2, []) }
      else
        (((s.setF F.MAC_PREEMPT_STATUS_STATE p 3).setCounted F.MAC_PREEMPT_STATUS_VERIFY_FAIL F.MAC_PREEMPT_STATUS_FAIL_COUNT p).note
          (E.MAC_PORT_EVENT p)).note (E.MAC_PREEMPT_VERIFY_FAIL (p / 64))
    else s)

/-! ### Link events -/

/-- FAULT_SIGNAL_RX (R205): port `p` receives local fault, remote fault or neither; it answers local fault with remote fault, and remote fault
with idle. -/
def execFaultSignalRx (p : Nat) (loc rem : Bool) (s : State) : Host.Outcome State Fault Refusal :=
  .next (if s.portConfigured p && s.speed p != 5 then
      let s := (s.setF F.MAC_STATUS_LOCAL_FAULT p (b2n loc)).setF F.MAC_STATUS_REMOTE_FAULT p (b2n rem)
      let s := if loc then s.putMac p { s.mac p with control := (4, []) }
        else if rem then s.putMac p { s.mac p with control := (5, []) } else s
      s.checkPort p
    else s)

/-- PORT_LINK_LOSS (R206): port `p` has lost a condition of R203 other than ADMIN_UP. -/
def execPortLinkLoss (p : Nat) (s : State) : Host.Outcome State Fault Refusal :=
  .next (if s.portConfigured p then s.checkPort p else s)

/-- PORT_UP_HOLD_EXPIRE (R203): the conditions of R203 have held for UP_HOLD_US. -/
def execPortUpHoldExpire (p : Nat) (s : State) : Host.Outcome State Fault Refusal :=
  .next (if s.portHealthy p && s.flag F.MAC_CFG_ADMIN_UP p && !s.operUp p then
      (((s.setF F.MAC_STATUS_OPER_UP p 1).setF F.MAC_STATUS_LINK p 1).setLive p true).startVerify p
    else s)

/-- PORT_ADMIN_DOWN_DONE (R208): with ADMIN_UP 0, the frame in transmission has ended. -/
def execPortAdminDownDone (p : Nat) (s : State) : Host.Outcome State Fault Refusal :=
  .next (if s.operUp p && !s.flag F.MAC_CFG_ADMIN_UP p && (s.mac p).sending.isNone then s.portDown p else s)

end Sys2Proof.Machine
end

