-- ==== Sys2Proof/Machine/Time.lean ====
section
/-! DEFINITION. The time base, TIME pins and gate lists: commands and events (R389 to R428). -/
namespace Sys2Proof.Machine

/-! ### Commands -/

/-- The defaults of TIME_CONFIG (R106). -/
def timeDefaults : List (Arg × Nat) :=
  [(A.TIME_CONFIG_LOCK_LEASE_MS, 1000), (A.TIME_CONFIG_PPS_WINDOW_NS, 100), (A.TIME_CONFIG_PPS_LOCK_COUNT, 4), (A.TIME_CONFIG_SLEW_PPM, 100)]

/-- What TIME_CONFIG adds to the checks of R94. -/
def State.timeConfigChecks (s : State) (r0 : Req) : Checks :=
      let r := filled C.TIME_CONFIG timeDefaults r0
      { Checks.plain C.TIME_CONFIG with
        target := targetWhole 0x05 r, dflt := timeDefaults
        args := firstFail [failIf (r.arg A.TIME_CONFIG_SOURCE == 3) (badArg A.TIME_CONFIG_SOURCE 1),
          r.range A.TIME_CONFIG_LOCK_LEASE_MS 10 10000, r.range A.TIME_CONFIG_PPS_WINDOW_NS 10 1000,
          r.range A.TIME_CONFIG_PPS_LOCK_COUNT 1 15, r.range A.TIME_CONFIG_SLEW_PPM 1 500,
          failIf ((r.arg A.TIME_CONFIG_SOURCE == 2 || r.on A.TIME_CONFIG_REF_SEL) && !s.qualified 10) (badArg A.TIME_CONFIG_SOURCE 2),
          failIf (r.arg A.TIME_CONFIG_SOURCE == 2 && s.fld F.TIM_PIN_CFG_MODE (r.arg A.TIME_CONFIG_PPS_PIN) != 1)
            (badArg A.TIME_CONFIG_PPS_PIN 3)]
        units := [2] }

/-- What TIME_CONFIG does once its checks have passed. -/
def State.timeConfigAct (s : State) (r : Req) : Ans :=
      let changed := r.arg A.TIME_CONFIG_SOURCE ≠ s.fld F.TIM_CTL_SOURCE 0
      let t := ((s.setF F.TIM_CTL_SOURCE 0 (r.arg A.TIME_CONFIG_SOURCE)).setF F.TIM_CTL_REF_SEL 0 (r.arg A.TIME_CONFIG_REF_SEL)).setF
        F.TIM_CTL_TIME_REF_MHZ 0 (r.arg A.TIME_CONFIG_TIME_REF_MHZ)
      let t := (t.setF F.TIM_CTL_PPS_PIN 0 (r.arg A.TIME_CONFIG_PPS_PIN)).setF F.TIM_CTL_LOCK_LEASE_MS 0 (r.arg A.TIME_CONFIG_LOCK_LEASE_MS)
      let t := ((t.setF F.TIM_CTL2_PPS_WINDOW_NS 0 (r.arg A.TIME_CONFIG_PPS_WINDOW_NS)).setF F.TIM_CTL2_PPS_LOCK_COUNT 0
        (r.arg A.TIME_CONFIG_PPS_LOCK_COUNT)).setF F.TIM_CTL2_SLEW_PPM 0 (r.arg A.TIME_CONFIG_SLEW_PPM)
      let t := if changed then { t with tim := { t.tim with asserted := false, inWindow := 0, ppsGood := false, lastOut := none } } else t
      let t := (if t.flag F.TIM_STATUS_ON_FALLBACK 0 then t else t.setF F.CKG_PLL_STATUS_INPUT 6 t.timeInput).evalLock
      .ok t (w32 (t.rd R.TIM_CTL 0) ++ w32 (t.rd R.TIM_STATUS 0))

/-- TIME_CONFIG (0x0A01, R423): source, reference and lock parameters. A change of SOURCE does not step network time, and lock is evaluated
afresh (R391). -/
def execTimeConfig (m : Nat) (s : State) : Host.Outcome State Fault Refusal :=
  .next (s.runCmd m C.TIME_CONFIG s.timeConfigChecks s.timeConfigAct)

/-- The signed offset of TIME_ADJUST in units of 2^−16 ns. -/
def adjustOffset (r : Req) : Int :=
  toSigned 64 (r.arg64 A.TIME_ADJUST_OFFSET_NS_LO A.TIME_ADJUST_OFFSET_NS_HI) * 65536 + r.arg A.TIME_ADJUST_OFFSET_FRAC

/-- What TIME_ADJUST adds to the checks of R94. -/
def State.timeAdjustChecks (_ : State) (r : Req) : Checks :=
  { Checks.plain C.TIME_ADJUST with
      target := targetWhole 0x05 r
      args := firstFail [r.range A.TIME_ADJUST_OP 0 2, r.range A.TIME_ADJUST_LOCK 0 2,
        failIf (r.on A.TIME_ADJUST_FREQ_EN && decide (32768000 < (toSigned 32 (r.arg A.TIME_ADJUST_FREQ_ADJ)).natAbs))
          (badArg A.TIME_ADJUST_FREQ_ADJ 1),
        failIf (r.arg A.TIME_ADJUST_OP == 2 && decide (1000000000 * 65536 < (adjustOffset r).natAbs)) (badArg A.TIME_ADJUST_OFFSET_NS_LO 1)]
      units := [2] }

/-- What TIME_ADJUST does once its checks have passed. -/
def State.timeAdjustAct (s : State) (r : Req) : Ans :=
      let t := if r.on A.TIME_ADJUST_FREQ_EN then s.wr R.TIM_FREQ_ADJ 0 (r.arg A.TIME_ADJUST_FREQ_ADJ) else s
      let t := if r.arg A.TIME_ADJUST_OP = 1 then t.stepTime (adjustOffset r)
        else if r.arg A.TIME_ADJUST_OP = 2 then t.startSlew (adjustOffset r) else t
      let lock := r.arg A.TIME_ADJUST_LOCK
      let t := if lock ≠ 0 ∧ t.fld F.TIM_CTL_SOURCE 0 ≠ 0 then { t with tim := { t.tim with asserted := lock == 1 } } else t
      let t := t.evalLock
      let n := t.tim.net
      .ok t (w32 (stampOf n) ++ w32 (pairNs n) ++ w32 (pairSecLo n) ++ w32 (pairSecHi n) ++ w32 (t.rd R.TIM_STATUS 0))

/-- TIME_ADJUST (0x0A02, R394 to R396, R424): frequency, then the step or slew, then the lock assertion or clear. -/
def execTimeAdjust (m : Nat) (s : State) : Host.Outcome State Fault Refusal :=
  .next (s.runCmd m C.TIME_ADJUST s.timeAdjustChecks s.timeAdjustAct)

/-- What TIME_RING_CONFIG adds to the checks of R94. -/
def State.timeRingConfigChecks (_ : State) (r0 : Req) : Checks :=
      let d := [(A.TIME_RING_CONFIG_PAIR_PERIOD_MS, 1000)]
      let r := filled C.TIME_RING_CONFIG d r0
      { Checks.plain C.TIME_RING_CONFIG with
        target := targetWhole 0x05 r, dflt := d
        args := firstFail [r.range A.TIME_RING_CONFIG_SIZE_LOG2 6 20, r.range A.TIME_RING_CONFIG_PAIR_PERIOD_MS 1 2000,
          failIf (r.arg A.TIME_RING_CONFIG_HOST_ADDR_LO % 64 != 0) (badArg A.TIME_RING_CONFIG_HOST_ADDR_LO 1)]
        units := [2] }

/-- What TIME_RING_CONFIG does once its checks have passed. -/
def State.timeRingConfigAct (s : State) (r : Req) : Ans :=
      let starts := r.on A.TIME_RING_CONFIG_ENABLE && !s.flag F.TIM_RING_CFG_ENABLE 0
      let t := ((s.setF F.TIM_RING_CFG_ENABLE 0 (r.arg A.TIME_RING_CONFIG_ENABLE)).setF F.TIM_RING_CFG_SIZE_LOG2 0
        (r.arg A.TIME_RING_CONFIG_SIZE_LOG2)).setF F.TIM_RING_CFG_PAIR_PERIOD_MS 0 (r.arg A.TIME_RING_CONFIG_PAIR_PERIOD_MS)
      let t := (t.wr R.TIM_RING_ADDR_LO 0 (r.arg A.TIME_RING_CONFIG_HOST_ADDR_LO)).wr R.TIM_RING_ADDR_HI 0 (r.arg A.TIME_RING_CONFIG_HOST_ADDR_HI)
      let t := if starts then (t.wr R.TIM_RING_PROD 0 (2 ^ 32 - 1)).ringPair 2 false else t
      .ok t (w32 (t.rd R.TIM_RING_CFG 0))

/-- TIME_RING_CONFIG (0x0A03, R404). -/
def execTimeRingConfig (m : Nat) (s : State) : Host.Outcome State Fault Refusal :=
  .next (s.runCmd m C.TIME_RING_CONFIG s.timeRingConfigChecks s.timeRingConfigAct)

/-- MISSED of a pin is set (R414). -/
def State.pinMissed (s : State) (k : Nat) : State :=
  (s.setCounted F.TIM_PIN_STATUS_MISSED F.TIM_PIN_EVCOUNT_MISSED_COUNT k).note E.TIM_PIN_EVENT

/-- A pin's mode as configured comes into force: an output waits inactive for its first edge (R414). -/
def State.armPin (s : State) (k : Nat) : State :=
  let mode := s.fld F.TIM_PIN_CFG_MODE k
  if mode = 3 ∨ mode = 4 then
    let s := s.setF F.TIM_PIN_STATUS_LEVEL k (s.fld F.TIM_PIN_CFG_POLARITY k)
    if mode = 3 then
      if s.pinStart k < s.netNs + 1000 then (s.putPin k { s.pin k with next := none, pulseEnd := none }).pinMissed k
      else s.putPin k { s.pin k with next := some (s.pinStart k), pulseEnd := none }
    else s.putPin k { s.pin k with next := some (firstMultiple (s.pinStart k) (s.pinPeriod k) (s.netNs + 1000)), pulseEnd := none }
  else s.putPin k { s.pin k with next := none, pulseEnd := none }

/-- What TIME_PIN_CONFIG adds to the checks of R94. -/
def State.timePinConfigChecks (s : State) (r0 : Req) : Checks :=
      let d := [(A.TIME_PIN_CONFIG_SQUELCH, 1)]
      let r := filled C.TIME_PIN_CONFIG d r0
      let mode := r.arg A.TIME_PIN_CONFIG_MODE
      let out := mode == 3 || mode == 4
      let per := r.arg A.TIME_PIN_CONFIG_PERIOD
      let wid := r.arg A.TIME_PIN_CONFIG_WIDTH
      { Checks.plain C.TIME_PIN_CONFIG with
        target := targetError 0x05 12 4 false r, dflt := d
        args := firstFail [failIf (decide (5 ≤ mode)) (badArg A.TIME_PIN_CONFIG_MODE 1),
          failIf (mode == 2 && r.arg A.TIME_PIN_CONFIG_EDGES == 0) (badArg A.TIME_PIN_CONFIG_EDGES 1),
          failIf (out && decide (999999999 < r.arg A.TIME_PIN_CONFIG_START_NS)) (badArg A.TIME_PIN_CONFIG_START_NS 1),
          failIf (out && (decide (wid < 8) || decide (1000000000 < wid))) (badArg A.TIME_PIN_CONFIG_WIDTH 2),
          failIf (mode == 4 && per != 0 && decide (per < 100)) (badArg A.TIME_PIN_CONFIG_PERIOD 2),
          failIf (mode == 4 && per != 0 && decide (per ≤ wid)) (badArg A.TIME_PIN_CONFIG_WIDTH 2),
          failIf (s.fld F.TIM_CTL_SOURCE 0 == 2 && s.fld F.TIM_CTL_PPS_PIN 0 == r.index && mode != s.fld F.TIM_PIN_CFG_MODE r.index)
            (badArg A.TIME_PIN_CONFIG_MODE 3),
          failIf (s.fld F.CKG_WATCH_TRIM_MODE 0 == 1 && s.fld F.CKG_WATCH_TRIM_PPS_PIN 0 == r.index && mode != 1
            && s.fld F.TIM_PIN_CFG_MODE r.index == 1) (badArg A.TIME_PIN_CONFIG_MODE 3)]
        units := [2] }

/-- What TIME_PIN_CONFIG does once its checks have passed. -/
def State.timePinConfigAct (s : State) (r : Req) : Ans :=
      let k := r.index
      let t := ((s.setF F.TIM_PIN_CFG_MODE k (r.arg A.TIME_PIN_CONFIG_MODE)).setF F.TIM_PIN_CFG_POLARITY k (r.arg A.TIME_PIN_CONFIG_POLARITY)).setF
        F.TIM_PIN_CFG_SQUELCH k (r.arg A.TIME_PIN_CONFIG_SQUELCH)
      let t := (t.setF F.TIM_PIN_CFG_EDGES k (r.arg A.TIME_PIN_CONFIG_EDGES)).wr R.TIM_PIN_START_SEC_LO k (r.arg A.TIME_PIN_CONFIG_START_SEC_LO)
      let t := (t.wr R.TIM_PIN_START_SEC_HI k (r.arg A.TIME_PIN_CONFIG_START_SEC_HI)).wr R.TIM_PIN_START_NS k (r.arg A.TIME_PIN_CONFIG_START_NS)
      let t := ((t.wr R.TIM_PIN_PERIOD k (r.arg A.TIME_PIN_CONFIG_PERIOD)).wr R.TIM_PIN_WIDTH k (r.arg A.TIME_PIN_CONFIG_WIDTH)).armPin k
      .ok t (w32 (t.rd R.TIM_PIN_STATUS k))

/-- TIME_PIN_CONFIG (0x0A04, R414, R425). -/
def execTimePinConfig (m : Nat) (s : State) : Host.Outcome State Fault Refusal :=
  .next (s.runCmd m C.TIME_PIN_CONFIG s.timePinConfigChecks s.timePinConfigAct)

/-- The defaults of PORT_TIME_CONFIG (R106). -/
def portTimeDefaults : List (Arg × Nat) :=
  [(A.PORT_TIME_CONFIG_LATE_ACTION, 0), (A.PORT_TIME_CONFIG_LAUNCH_HORIZON_MS, 1000), (A.PORT_TIME_CONFIG_BOARD_RX, 0),
   (A.PORT_TIME_CONFIG_BOARD_TX, 0)]

/-- What PORT_TIME_CONFIG adds to the checks of R94. -/
def State.portTimeConfigChecks (s : State) (r0 : Req) : Checks :=
      let r := filled C.PORT_TIME_CONFIG portTimeDefaults r0
      { Checks.plain C.PORT_TIME_CONFIG with
        target := s.targetPort 0x05 r, dflt := portTimeDefaults
        args := firstFail [r.range A.PORT_TIME_CONFIG_PTP_MODE 0 2, r.range A.PORT_TIME_CONFIG_LAUNCH_HORIZON_MS 1 2000,
          failIf (r.on A.PORT_TIME_CONFIG_STITCH_STAMP && !s.stitchPort r.index) (badArg A.PORT_TIME_CONFIG_STITCH_STAMP 2)]
        units := [2] }

/-- What PORT_TIME_CONFIG does once its checks have passed. -/
def State.portTimeConfigAct (s : State) (r : Req) : Ans :=
      let p := r.index
      let t := ((s.setF F.TIM_PORT_CFG_PTP_MODE p (r.arg A.PORT_TIME_CONFIG_PTP_MODE)).setF F.TIM_PORT_CFG_ETH_EN p
        (r.arg A.PORT_TIME_CONFIG_ETH_EN)).setF F.TIM_PORT_CFG_UDP4_EN p (r.arg A.PORT_TIME_CONFIG_UDP4_EN)
      let t := ((t.setF F.TIM_PORT_CFG_UDP6_EN p (r.arg A.PORT_TIME_CONFIG_UDP6_EN)).setF F.TIM_PORT_CFG_STITCH_STAMP p
        (r.arg A.PORT_TIME_CONFIG_STITCH_STAMP)).setF F.TIM_PORT_CFG_LATE_ACTION p (r.arg A.PORT_TIME_CONFIG_LATE_ACTION)
      let t := (t.setF F.TIM_PORT_CFG_LAUNCH_HORIZON_MS p (r.arg A.PORT_TIME_CONFIG_LAUNCH_HORIZON_MS)).setF F.TIM_PORT_BOARD_RX p
        (r.arg A.PORT_TIME_CONFIG_BOARD_RX)
      let t := (t.setF F.TIM_PORT_BOARD_TX p (r.arg A.PORT_TIME_CONFIG_BOARD_TX)).wr R.TIM_PORT_PEER_DELAY p (r.arg A.PORT_TIME_CONFIG_PEER_DELAY)
      .ok t (w32 (t.rd R.TIM_PORT_CFG p))

/-- PORT_TIME_CONFIG (0x0A05). -/
def execPortTimeConfig (m : Nat) (s : State) : Host.Outcome State Fault Refusal :=
  .next (s.runCmd m C.PORT_TIME_CONFIG s.portTimeConfigChecks s.portTimeConfigAct)

/-- What LAUNCH_CONFIG adds to the checks of R94. -/
def State.launchConfigChecks (s : State) (r : Req) : Checks :=
  { Checks.plain C.LAUNCH_CONFIG with
      target := s.targetQueue 0x05 r, args := r.range A.LAUNCH_CONFIG_MODE 0 2, units := [2] }

/-- What LAUNCH_CONFIG does once its checks have passed. -/
def State.launchConfigAct (s : State) (r : Req) : Ans :=
      let t := (s.setF F.TIM_Q_LAUNCH_MODE r.index (r.arg A.LAUNCH_CONFIG_MODE)).setF F.TIM_Q_LAUNCH_OFFSET_NS r.index
        (r.arg A.LAUNCH_CONFIG_OFFSET_NS)
      .ok t (w32 (t.rd R.TIM_Q_LAUNCH r.index))

/-- LAUNCH_CONFIG (0x0A06, R409). -/
def execLaunchConfig (m : Nat) (s : State) : Host.Outcome State Fault Refusal :=
  .next (s.runCmd m C.LAUNCH_CONFIG s.launchConfigChecks s.launchConfigAct)

/-- The response of GATE_LIST_SET: T_c in ns and TIM_GATE_CFG. -/
def State.gateResp (s : State) (p tc : Nat) : List Byte :=
  w32 (tc / 1000000000 % 2 ^ 32) ++ w32 (tc / 1000000000 / 2 ^ 32 % 65536) ++ w32 (tc % 1000000000) ++ w32 (s.rd R.TIM_GATE_CFG p)

/-- Gating of a port ends: every gate is open (R416, R426). -/
def State.endGating (s : State) (p : Nat) : State :=
  let s := s.putGate p {}
  let s := ((s.setF F.TIM_GATE_CFG_GATE_EN p 0).setF F.TIM_GATE_CFG_CHANGE_PENDING p 0).setF F.TIM_GATE_CFG_CHANGE p 0
  (s.setF F.TIM_GATE_STATUS_GATES p 0xFFFF).setF F.TIM_GATE_STATUS_ENTRY p 0

/-- OP 0: the entries loaded into the pending bank and a changeover armed (R417, R426). -/
def State.loadGates (s : State) (p : Nat) (r : Req) (entries : List Byte) : State :=
  let b := 1 - s.gateBank p
  let i := b + 2 * p
  let fresh := !s.flag F.TIM_GATE_CFG_GATE_EN p
  let s := (s.putArr (gateEntryAt p b 0) entries).wr R.TIM_GATE_BASE_SEC_LO i (r.arg A.GATE_LIST_SET_BASE_SEC_LO)
  let s := (s.wr R.TIM_GATE_BASE_SEC_HI i (r.arg A.GATE_LIST_SET_BASE_SEC_HI + 65536 * r.arg A.GATE_LIST_SET_COUNT)).wr R.TIM_GATE_BASE_NS i
    (r.arg A.GATE_LIST_SET_BASE_NS)
  let s := (s.wr R.TIM_GATE_CYCLE_NS i (r.arg A.GATE_LIST_SET_CYCLE_NS)).setF F.TIM_GATE_CFG_GATE_EN p 1
  let s := (s.setF F.TIM_GATE_CFG_PHASE_EN p (r.arg A.GATE_LIST_SET_PHASE_EN)).setF F.TIM_GATE_CFG_ADMIN_GATES p (r.arg A.GATE_LIST_SET_ADMIN_GATES)
  let s := if fresh then s.wr R.TIM_GATE_CYCLES p 0 else s
  (s.armChange p).setF F.TIM_GATE_STATUS_GATES p (s.gateVector p s.netNs)

/-- What GATE_LIST_SET adds to the checks of R94. -/
def State.gateListSetChecks (s : State) (r0 : Req) : Checks :=
      let d := [(A.GATE_LIST_SET_ADMIN_GATES, 0xFFFF)]
      let r := filled C.GATE_LIST_SET d r0
      let op := r.arg A.GATE_LIST_SET_OP
      { Checks.plain C.GATE_LIST_SET with
        target := s.targetPort 0x05 r, dflt := d
        args := firstFail [r.range A.GATE_LIST_SET_OP 0 2, failIf (op == 0) (r.range A.GATE_LIST_SET_COUNT 1 256),
          failIf (op == 0) (r.range A.GATE_LIST_SET_CYCLE_NS 1 1000000000), failIf (op == 0) (r.range A.GATE_LIST_SET_BASE_NS 0 999999999),
          failIf (op == 0 && r.arg A.GATE_LIST_SET_HOST_ADDR_LO % 8 != 0) (badArg A.GATE_LIST_SET_HOST_ADDR_LO 1)]
        units := [2]
        busy := if op ≠ 1 ∧ s.flag F.TIM_GATE_CFG_CHANGE_PENDING r.index then some 0x10 else none }

/-- How GATE_LIST_SET starts: the state it runs from and what it notes. -/
def gateListSetStart (_ : Req) (s : State) : State × Nat :=
  (s, 0)

/-- What GATE_LIST_SET does as it runs. -/
def gateListSetAct (r : Req) (_ : Nat) (s : State) : Ans :=
      let p := r.index
      let g := s.gate p
      let op := r.arg A.GATE_LIST_SET_OP
      if op = 0 then
        match s.hostRead (r.arg64 A.GATE_LIST_SET_HOST_ADDR_LO A.GATE_LIST_SET_HOST_ADDR_HI) (8 * r.arg A.GATE_LIST_SET_COUNT) with
        | none => .hostTimeout s
        | some bs =>
          if (List.range (r.arg A.GATE_LIST_SET_COUNT)).any fun e => bits (leAt bs (8 * e) 8) 53 11 != 0 then
            .fail s 0x0103 (0x18 * 65536 + 1)
          else
            let t := s.loadGates p r bs
            .ok t (t.gateResp p (((t.gate p).tc).getD 0))
      else if op = 1 then
        if s.flag F.TIM_GATE_CFG_CHANGE_PENDING p then
          let t := s.putGate p { g with tc := none, endTc := none }
          let t := (t.setF F.TIM_GATE_CFG_CHANGE_PENDING p 0).setF F.TIM_GATE_CFG_CHANGE p 0
          .ok t (t.gateResp p 0)
        else .fail s 0x0302 0
      else if s.flag F.TIM_GATE_CFG_GATE_EN p && g.started then
        let tc := firstMultiple (s.gateBase p (s.gateBank p)) (s.gateCycle p (s.gateBank p)) (s.netNs + 1)
        let t := s.putGate p { g with endTc := some tc }
        let t := (t.setF F.TIM_GATE_CFG_CHANGE_PENDING p 1).wr R.TIM_GATE_CHANGE p (tc % 2 ^ 32)
        .ok t (t.gateResp p tc)
      else
        let t := if s.flag F.TIM_GATE_CFG_GATE_EN p then (s.endGating p).wr R.TIM_GATE_CHANGE p (s.netNs % 2 ^ 32) else s
        .ok t (t.gateResp p s.netNs)

/-- GATE_LIST_SET (0x0A07, R417, R426). -/
def execGateListSet (x : Exec) (s : State) : Host.Outcome State Fault Refusal :=
  .next (s.runAsync x C.GATE_LIST_SET s.gateListSetChecks gateListSetStart gateListSetAct)

/-- A granted write of TIM_GATE_CFG.CHANGE (R427). -/
def State.changeWrite (s : State) (p : Nat) : State :=
  if s.flag F.TIM_GATE_CFG_CHANGE_PENDING p then s else (s.setF F.TIM_GATE_CFG_CHANGE p 1).armChange p

/-- TIM_GATE_CHANGE_WRITE (R427): a host write of TIM_GATE_CFG.CHANGE of port `p` arms the pending bank where TIM is granted. CHANGE reads 1
until T_c; while a change is pending nothing more is armed. -/
def execTimGateChangeWrite (p : Nat) (s : State) : Host.Outcome State Fault Refusal :=
  .next (if p < 1024 then s.hostWrites (R.TIM_GATE_CFG.key p) fun s => s.changeWrite p else s)

/-! ### Time base events -/

/-- TIME_SYNC_WORD (R43): the synchronising word reaches the local copies of the dies in `dies` (bit 0–7 quire dies, 9 East). -/
def execTimeSyncWord (dies : Nat) (s : State) : Host.Outcome State Fault Refusal :=
  .next (if s.timeRuns then s.each [0, 1, 2, 3, 4, 5, 6, 7, 9] fun d s => if bit dies d then s.setF F.TIM_COPY_STATUS_STALE d 0 else s else s)

/-- TIME_COPY_STALE (R44): die `d` has had no valid synchronising word for 4 µs. -/
def execTimeCopyStale (d : Nat) (s : State) : Host.Outcome State Fault Refusal :=
  .next (if d < 10 ∧ d ≠ 8 ∧ !s.flag F.TIM_COPY_STATUS_STALE d then
      (((s.setF F.TIM_COPY_STATUS_STALE d 1).setCounted F.TIM_COPY_STATUS_STALE_SET F.TIM_COPY_STATUS_STALE_COUNT d)).note E.TIM_LOCAL_STALE
    else s)

/-- An edge at a TIME pin, corrected by LAT_IN, is captured: it is merged with one less than 8 ns before it, or recorded (R413). -/
def State.capturePin (s : State) (k : Nat) (falling : Bool) : State :=
  let t := (((s.capture : Int) - 256 * s.fld F.TIM_PIN_LAT_LAT_IN k) % (netModulus : Int)).toNat
  let s := s.setF F.TIM_PIN_STATUS_LEVEL k (b2n (!falling))
  let merged := match (s.pin k).last with
    | some u => decide ((t + netModulus - u) % netModulus < 8 * 65536)
    | none => false
  if merged then (s.setCounted F.TIM_PIN_STATUS_CAPTURE_MERGED F.TIM_PIN_EVCOUNT_MERGED_COUNT k).note E.TIM_PIN_EVENT
  else
    let s := (s.putPin k { s.pin k with last := some t }).setF F.TIM_PIN_STATUS_LAST_CAPTURE k (stampOf t)
    s.ringWrite 4 false false [stampOf t, pairNs t, pairSecLo t, pairSecHi t, k + 256 * b2n falling, 0]

/-- Distance of an instant in ns from the nearest second boundary (R392). -/
def ppsError (ns : Nat) : Int :=
  let r := ns % 1000000000
  if r < 500000000 then r else (r : Int) - 1000000000

/-- A PPS mark with error `e` is judged (R392). -/
def State.judgePps (s : State) (e : Int) : State :=
  let win : Int := clamp 10 1000 (s.fld F.TIM_CTL2_PPS_WINDOW_NS 0)
  let s := s.wr R.TIM_PPS_ERROR 0 (ofSigned 32 e)
  if -win ≤ e ∧ e ≤ win then
    let n := s.tim.inWindow + 1
    let s := { s with tim := { s.tim with inWindow := n, lastOut := none
                                          ppsGood := s.tim.ppsGood || decide (max 1 (s.fld F.TIM_CTL2_PPS_LOCK_COUNT 0) ≤ n) } }
    s.startSlew (-e * 65536)
  else
    let s := (s.inc F.TIM_STATUS_PPS_OUT_COUNT 0).note E.TIM_PPS_OUT_OF_WINDOW
    match s.tim.lastOut with
    | none => { s with tim := { s.tim with inWindow := 0, lastOut := some e } }
    | some e0 =>
      let s := { s with tim := { s.tim with inWindow := 0, ppsGood := false } }
      if -win ≤ e - e0 ∧ e - e0 ≤ win then
        { s.stepTime (-e * 65536) with tim := { (s.stepTime (-e * 65536)).tim with lastOut := none } }
      else { s with tim := { s.tim with lastOut := some e } }

/-- PPS_MARK (R392): in source 2, an active edge arrives at the TIME pin that PPS_PIN names, in MODE 1; it is captured and its error judged. -/
def execPpsMark (s : State) : Host.Outcome State Fault Refusal :=
  .next (
    let k := s.fld F.TIM_CTL_PPS_PIN 0
    if s.timeRuns && s.fld F.TIM_CTL_SOURCE 0 == 2 && s.fld F.TIM_PIN_CFG_MODE k == 1 then
      let t := (((s.capture : Int) - 256 * s.fld F.TIM_PIN_LAT_LAT_IN k) % (netModulus : Int)).toNat
      ((s.capturePin k (s.flag F.TIM_PIN_CFG_POLARITY k)).judgePps (ppsError (t / 65536))).evalLock
    else s)

/-- PPS_MISSING (R392): no PPS mark for 1.5 s in source 2. -/
def execPpsMissing (s : State) : Host.Outcome State Fault Refusal :=
  .next (if s.timeRuns && s.fld F.TIM_CTL_SOURCE 0 == 2 then
      let s := (s.setCounted F.TIM_STATUS_PPS_MISS F.TIM_STATUS2_PPS_MISS_COUNT 0).note E.TIM_PPS_MISS
      ({ s with tim := { s.tim with inWindow := 0, ppsGood := false, lastOut := none } }).evalLock
    else s)

/-- LOCK_LEASE_EXPIRE (R390): no lock assertion within LOCK_LEASE_MS in source 1. -/
def execLockLeaseExpire (s : State) : Host.Outcome State Fault Refusal :=
  .next (if s.fld F.TIM_CTL_SOURCE 0 = 1 then ({ s with tim := { s.tim with asserted := false } }).evalLock else s)

/-- HOLDOVER_ENTRY (R51): in Service, network time is not locked. -/
def execHoldoverEntry (s : State) : Host.Outcome State Fault Refusal :=
  .next (if s.mode = 4 ∧ !s.flag F.TIM_STATUS_LOCKED 0 then s.setMode 5 else s)

/-- HOLDOVER_EXIT (R51): in Holdover, network time is locked; a MODE_REQUEST in progress goes first (R55). -/
def execHoldoverExit (s : State) : Host.Outcome State Fault Refusal :=
  .next (if s.mode = 5 ∧ s.flag F.TIM_STATUS_LOCKED 0 ∧ !s.flag F.GLB_MODE_TRANSITION 0 then s.setMode 4 else s)

/-- TIME_DOMAIN_RETURN (R393): TMPLL has relocked, and a further switch takes the time domain back to it. -/
def execTimeDomainReturn (s : State) : Host.Outcome State Fault Refusal :=
  .next (if s.flag F.CKG_DOMAIN_STATUS_ON_FALLBACK 4 && s.sourceGood 4 0 && (Tab.get none s.ckg.switch 4).isNone then s.startSwitch 4 0 true else s)

/-- SLEW_DONE (R396): the offset of the slew in progress has been consumed. What the passed ticks have not moved of it is moved. -/
def execSlewDone (s : State) : Host.Outcome State Fault Refusal :=
  .next (if s.flag F.TIM_STATUS_SLEWING 0 then
      let net := (((s.tim.net : Int) + s.tim.slew / 1000000) % (netModulus : Int)).toNat
      ({ s with tim := { s.tim with net := net, slew := 0 } }).setF F.TIM_STATUS_SLEWING 0 0
    else s)

/-- TIME_PAIR_PERIOD (R404). -/
def execTimePairPeriod (s : State) : Host.Outcome State Fault Refusal := .next (if s.timeRuns then s.ringPair 1 false else s)

/-- TIM_PAIR_CAPTURE (R403): a read of TIM_PAIR_STAMP captures a time pair and returns its stamp. -/
def execTimPairCapture (s : State) : Host.Outcome State Fault Refusal :=
  .next (if s.mode = 0 ∨ !s.pins.pcieUp then s
    else
      let t := s.tim.net
      let s := if bit 0x7C s.mode then
          (((s.wr R.TIM_PAIR_STAMP 0 (stampOf t)).wr R.TIM_PAIR_NS 0 (pairNs t)).wr R.TIM_PAIR_SEC_LO 0 (pairSecLo t)).wr R.TIM_PAIR_SEC_HI 0 (pairSecHi t)
        else s
      { s with readData := w32 (s.rd R.TIM_PAIR_STAMP 0) })

/-! ### TIME pin events -/

/-- TIME_PIN_CAPTURE (R413): an edge crosses the ball of pin `k`. MODE 1 captures active edges, MODE 2 the edges EDGES names. -/
def execTimePinCapture (k : Nat) (falling : Bool) (s : State) : Host.Outcome State Fault Refusal :=
  .next (
    let mode := s.fld F.TIM_PIN_CFG_MODE k
    if decide (k < 4) && s.timeRuns
        && ((mode == 1 && falling == s.flag F.TIM_PIN_CFG_POLARITY k) || (mode == 2 && bit (s.fld F.TIM_PIN_CFG_EDGES k) (b2n falling))) then
      s.capturePin k falling
    else if k < 4 ∧ (mode = 1 ∨ mode = 2) then s.setF F.TIM_PIN_STATUS_LEVEL k (b2n (!falling))
    else s)

/-- TIME_PIN_EDGE (R414, R415): an edge of output pin `k` has come due: the end of its pulse, or the start of the next one, which is held
back by SQUELCH while network time is not locked. -/
def execTimePinEdge (k : Nat) (s : State) : Host.Outcome State Fault Refusal :=
  .next (
    let mode := s.fld F.TIM_PIN_CFG_MODE k
    let p := s.pin k
    let idle := s.fld F.TIM_PIN_CFG_POLARITY k
    if k < 4 ∧ (mode = 3 ∨ mode = 4) then
      let ended := match p.pulseEnd with
        | some e => decide (e ≤ s.netNs)
        | none => false
      if ended then (s.setF F.TIM_PIN_STATUS_LEVEL k idle).putPin k { p with pulseEnd := none }
      else match p.next with
        | none => s
        | some n =>
          if s.netNs < n then s
          else
            let after := if mode = 4 then some (n + s.pinPeriod k) else none
            if s.flag F.TIM_PIN_CFG_SQUELCH k && !s.flag F.TIM_STATUS_LOCKED 0 then s.putPin k { p with next := after }
            else (s.setF F.TIM_PIN_STATUS_LEVEL k (1 - idle)).putPin k { p with next := after, pulseEnd := some (n + s.rd R.TIM_PIN_WIDTH k) }
    else s)

/-! ### Gate events -/

/-- GATE_ENTRY_START (R416, R420, R422): the entry of port `p`'s list that the present instant has reached comes into force. -/
def execGateEntryStart (p : Nat) (s : State) : Host.Outcome State Fault Refusal :=
  .next (if p < 1024 ∧ bit 0x78 s.mode then s.enterGateEntry p else s)

/-- GATE_CHANGEOVER (R417, R426): T_c of port `p` has been reached: the pending list becomes active, or gating ends. -/
def execGateChangeover (p : Nat) (s : State) : Host.Outcome State Fault Refusal :=
  .next (
    let g := s.gate p
    if 1024 ≤ p then s
    else match g.tc, g.endTc with
      | some t, _ =>
        if s.netNs < t then s
        else
          let s := s.putGate p { g with started := true, tc := none, cycle := none }
          let s := ((s.setF F.TIM_GATE_CFG_ACTIVE_BANK p (1 - s.gateBank p)).setF F.TIM_GATE_CFG_CHANGE_PENDING p 0).setF F.TIM_GATE_CFG_CHANGE p 0
          ((s.setCounted F.TIM_GATE_STATUS_CHANGED F.TIM_GATE_EVCOUNT_CHANGED_COUNT p).note E.TIM_GATE_CHANGED).enterGateEntry p
      | none, some t => if s.netNs < t then s else s.endGating p
      | none, none => s)

end Sys2Proof.Machine
end

