-- ==== Sys2Proof/Machine/Writes.lean ====
section
/-! DEFINITION. Writes of BAR2: the registers of a granted unit, the Teller's arrays, and the raw windows (R579, R580, R586 to R589, R625). -/
namespace Sys2Proof.Machine

/-! ### What a granted write of a register does beyond its bits -/

/-- A field of a register has been changed by a write: `old` is the word before. -/
def State.changed (s : State) (f : Fld) (i old : Nat) : Bool := s.fld f i != bits old f.lo f.wd

/-- A granted write of LANE_CTL (R160, R167, R193). -/
def State.laneCtlWritten (s : State) (n old : Nat) : State :=
  let lb := s.fld F.LANE_CTL_LOOPBACK n
  let s := (s.setF F.LANE_CTL_LOOPBACK n (bits old F.LANE_CTL_LOOPBACK.lo F.LANE_CTL_LOOPBACK.wd)).setLoopback n lb
  let s := if s.changed F.LANE_CTL_ENABLE n old && !s.flag F.LANE_CTL_ENABLE n then s.stopLane n else s.refreshTx n
  (if s.flag F.LANE_CTL_BAND_FORCE_EN n then s.setBand n (s.forced n 0) else s).retarget n

/-- A granted write of LANE_PRBS_CTL (R190, R191). -/
def State.prbsWritten (s : State) (n old : Nat) : State :=
  if !s.flag F.LANE_PRBS_CTL_CHK_EN n then s.setF F.LANE_PRBS_STATUS_CHK_LOCK n 0
  else if s.changed F.LANE_PRBS_CTL_CHK_EN n old then (s.putLane n { s.lane n with chkRun := 0, chkWin := [] }).clearPrbs n
  else s

/-- A granted write of TIM_CTL (R390, R391). -/
def State.timCtlWritten (s : State) (old : Nat) : State :=
  let s := if s.changed F.TIM_CTL_SOURCE 0 old then
      { s with tim := { s.tim with asserted := false, inWindow := 0, ppsGood := false, lastOut := none } } else s
  (if s.flag F.TIM_STATUS_ON_FALLBACK 0 then s else s.setF F.CKG_PLL_STATUS_INPUT 6 s.timeInput).evalLock

/-- A granted write of TIM_GATE_CFG (R416, R422, R427). -/
def State.gateCfgWritten (s : State) (p old v : Nat) : State :=
  let s := if s.changed F.TIM_GATE_CFG_GATE_EN p old && !s.flag F.TIM_GATE_CFG_GATE_EN p then s.endGating p else s
  let s := if bit v F.TIM_GATE_CFG_CHANGE.lo && s.flag F.TIM_GATE_CFG_GATE_EN p then s.changeWrite p else s
  s.setF F.TIM_GATE_STATUS_GATES p (s.gateVector p s.netNs)

/-- READS and SLOTS of a lookup profile, worked out from its registers (R301). -/
def State.settleProfile (s : State) (p : Nat) : State :=
  let on := idxs 4 fun k => s.flag F.LDG_LOOKUP_CFG_ENABLE (k + 4 * p)
  let n := 2 * on.length + b2n (s.flag F.LDG_PROFILE_CFG_GROUP_EN p && on.any fun k => s.fld F.LDG_LOOKUP_CFG_ROLE (k + 4 * p) == 0)
  (s.setF F.LDG_PROFILE_CFG_READS p n).setF F.LDG_PROFILE_CFG_SLOTS p (if n ≤ 4 then 1 else 2)

/-- A granted write of CLRK_CTL (R320, R322). -/
def State.clerkCtlWritten (s : State) (w old : Nat) : State :=
  if s.flag F.CLRK_CTL_HALT w then s.haltIdle w
  else if bit old F.CLRK_CTL_HALT.lo && s.clerkState w == 3 && (s.clerk w).byHalt then
    (if (s.clerk w).first.isNone && (s.clerk w).work.isNone then (s.setF F.CLRK_STATUS_STATE w 0).putClerk w { s.clerk w with byHalt := false }
     else s.resumeClerk w)
  else s

/-- The bits of a register that a write of one instance's own rules keeps from being stored: the fields that act instead of holding the
value. -/
def actingBits (r : Reg) : Nat := if r.base = R.CKG_DOMAIN_CFG.base then 1 <<< F.CKG_DOMAIN_CFG_SELECT.lo else 0

/-- A bank's gate registers that are written while the bank is active: the write is ignored and counted (R427). -/
def State.gateBankBusy (s : State) (r : Reg) (i : Nat) : Bool :=
  (r.base == R.TIM_GATE_BASE_SEC_LO.base || r.base == R.TIM_GATE_BASE_SEC_HI.base || r.base == R.TIM_GATE_BASE_NS.base
    || r.base == R.TIM_GATE_CYCLE_NS.base) && s.flag F.TIM_GATE_CFG_GATE_EN (i / 2) && i % 2 == s.gateBank (i / 2)

/-- The registers of DMA channels, one instance per channel. -/
def chanReg (r : Reg) : Bool := decide (R.DMA_CH_CFG.base ≤ r.base) && decide (r.base < R.DMA_CH_CFG.base + 0x100)

/-- A register of a DMA channel has been written. -/
def State.chanWritten (s : State) (r : Reg) (c old : Nat) : State :=
  if r.base = R.DMA_CH_CFG.base then
    s.settleChan c (bit old F.DMA_CH_CFG_ENABLE.lo) (s.changed F.DMA_CH_CFG_ROLE c old || s.changed F.DMA_CH_CFG_SIZE_LOG2 c old)
  else if r.base = R.DMA_CH_BASE_LO.base ∨ r.base = R.DMA_CH_BASE_HI.base then
    s.settleChan c (s.flag F.DMA_CH_CFG_ENABLE c) (s.rd r c != old)
  else if r.base = R.DMA_CH_INJ_RATE.base ∨ r.base = R.DMA_CH_INJ_BURST.base then s.resetInj c
  else s

/-- What follows in lanes, Stitch links, MACs and parsers when instance `i` of a register has been written with `v` over `old`. -/
def State.quireWritten (s : State) (r : Reg) (i old v : Nat) : State :=
  let entry := i / 11
  if r.base = R.LANE_CTL.base then s.laneCtlWritten i old
  else if r.base = R.LANE_EQ_ENT_TX.base ∨ r.base = R.LANE_EQ_ENT_RX.base then s.retarget entry
  else if r.base = R.LANE_PRBS_CTL.base then s.prbsWritten i old
  else if r.base = R.LANE_INJ_CFG.base then (if bit v F.LANE_INJ_CFG_FIRE.lo then s.fire i else s)
  else if r.base = R.STCH_CTL.base then (if bit v F.STCH_CTL_RETRAIN.lo then s.retrainWrite i else s)
  else if r.base = R.MAC_CFG.base then
    (if s.changed F.MAC_CFG_ADMIN_UP i old then s.setAdmin i (s.flag F.MAC_CFG_ADMIN_UP i) else s)
  else if r.base = R.MAC_PREEMPT_CFG.base then s.startVerify i
  else if r.base = R.PRS_PIPE_CFG.base then (if bit v F.PRS_PIPE_CFG_SWAP.lo then s.swapBank i else s)
  else if r.base = R.PRS_TRACE_CTL.base then
    (if bit v F.PRS_TRACE_CTL_ARM.lo then (s.setF F.PRS_TRACE_CTL_ARM i 1).setF F.PRS_TRACE_CTL_DONE i 0 else s)
  else s

/-- What follows in ledgers, Clerks, vault and schedulers. -/
def State.spineWritten (s : State) (r : Reg) (i old : Nat) : State :=
  if r.base = R.LDG_LEDGER_CFG.base then s.settleAudit i
  else if r.base = R.LDG_LOOKUP_CFG.base then s.settleProfile (i / 4)
  else if r.base = R.LDG_PROFILE_CFG.base then s.settleProfile i
  else if r.base = R.CLRK_CTL.base then s.clerkCtlWritten i old
  else if 0x30000000 ≤ r.base ∧ r.base < R.VLT_POOL_STATE.base then (s.settleDie 0).settleDie 1
  else if r.base = R.QSC_PORT_CFG.base then
    let q := s.fld F.QSC_PORT_CFG_EXPRESS_Q i
    (((s.setF F.QSC_PORT_CFG_EXPRESS_Q i (bits old F.QSC_PORT_CFG_EXPRESS_Q.lo F.QSC_PORT_CFG_EXPRESS_Q.wd)).setExpressQ i q).resetPortTokens
      i).resetExpTokens i
  else if r.base = R.QSC_PORT_RATE.base ∨ r.base = R.QSC_PORT_BURST.base then s.resetPortTokens i
  else if r.base = R.QSC_PORT_EXP_BURST.base then s.resetExpTokens i
  else if r.base = R.QSC_Q_CFG.base then
    let t := s.fld F.QSC_Q_CFG_TIER i
    ((s.setF F.QSC_Q_CFG_TIER i (bits old F.QSC_Q_CFG_TIER.lo F.QSC_Q_CFG_TIER.wd)).setTier i t).resetQueueTokens i
  else if r.base = R.QSC_Q_RATE.base ∨ r.base = R.QSC_Q_BURST.base then s.resetQueueTokens i
  else s

/-- What follows in clocks, time, host path, tallies and marginalia. -/
def State.centreWritten (s : State) (r : Reg) (i old v : Nat) : State :=
  if r.base = R.CKG_DOMAIN_CFG.base then
    let s := s.selectWrite i (bits v F.CKG_DOMAIN_CFG_SELECT.lo 1)
    if i < 3 then s.autoRevert i else s
  else if r.base = R.CKG_WATCH_TRIM.base then
    (if s.changed F.CKG_WATCH_TRIM_CODE 0 old then s.setTrim (s.fld F.CKG_WATCH_TRIM_CODE 0) else s)
  else if r.base = R.TIM_CTL.base then s.timCtlWritten old
  else if r.base = R.TIM_CTL2.base then s.evalLock
  else if r.base = R.TIM_RING_CFG.base then
    (if s.changed F.TIM_RING_CFG_ENABLE 0 old && s.flag F.TIM_RING_CFG_ENABLE 0 then (s.wr R.TIM_RING_PROD 0 (2 ^ 32 - 1)).ringPair 2 false else s)
  else if r.base = R.TIM_PIN_CFG.base then s.armPin i
  else if r.base = R.TIM_GATE_CFG.base then s.gateCfgWritten i old v
  else if r.base = R.DMA_PUNT_CFG.base ∨ r.base = R.DMA_PUNT_CFG2.base then s.fillPunt i
  else if chanReg r then s.chanWritten r i old
  else if r.base = R.TLY_CNT_SEL.base then
    (if bit v F.TLY_CNT_SEL_CLEAR.lo || s.changed F.TLY_CNT_SEL_EVENT i old || s.changed F.TLY_CNT_SEL_LEVEL i old then s.clearCnt i else s)
  else if r.base = R.MRG_PORT_CFG.base then
    (if s.changed F.MRG_PORT_CFG_SAMPLE_N i old then { s with cls := { s.cls with sampled := Tab.set 0 s.cls.sampled i 0 } } else s)
  else s

/-- A granted write of one register instance (R579, R589, R625): rw fields take the value, w1c fields are cleared, w1s fields act; then what the
register's own description adds. -/
def State.writeReg (s : State) (r : Reg) (i v : Nat) : State :=
  let off := r.key i
  if chanReg r && decide (28 ≤ i) then s.ungranted off
  else if s.gateBankBusy r i then s.inc F.TIM_GATE_STATUS_ACTIVE_WRITE_DROPS (i / 2)
  else if r.base = R.CLRK_STORE.base ∧ s.clerkState (i / 8192) ≠ 3 then s
  else
    let old := s.rd r i
    let rw := r.rw ^^^ (r.rw &&& actingBits r)
    let s := s.wr r i (writeBits rw r.w1c 0 old v)
    if 0x10000000 ≤ r.base ∧ r.base < 0x20000000 then s.quireWritten r i old v
    else if r.base < 0x10000000 ∨ 0x40000000 ≤ r.base then s.centreWritten r i old v
    else s.spineWritten r i old

/-! ### Arrays below the raw windows -/

/-- A granted write of a meter's entry (R276): words 0 to 4 hold the configuration, and word 4 applies FILL. -/
def State.meterWritten (s : State) (m o v : Nat) : State :=
  if 20 ≤ o then s
  else
    let s := (s.putMeter m (s.meterFill m)).putArr (meterAt m + o) (w32 v)
    s.fillMeter m (if o = 16 then bits (s.meterCfg m).2.2.2.2 A.METER_CONFIG_FILL.lo A.METER_CONFIG_FILL.wd else 0)

/-- A granted write of a word of an array (R254, R427): a word of an active parser bank or gate bank is not changed, and counted; a word of a
shadow parser bank ends the table that stood there. -/
def State.writeArray (s : State) (a v : Nat) : State :=
  match bankPlace a with
  | some (i, b) =>
    if b = s.activeBank i then s.inc F.PRS_PIPE_STATUS_ACTIVE_WRITE_DROPS i
    else
      let s := (s.putArr a (w32 v)).wr R.PRS_TABLE_ID (b + 2 * i) 0
      let img := Tab.get [] s.prs.bankCopy (2 * i + b)
      let img := (img ++ List.replicate 34880 0#8).take 34880
      let o := if a < prsTrans i 0 0 then 64 + (a - prsDesc i b 0) else 2112 + (a - prsTrans i b 0)
      { s with prs := { s.prs with bankCopy := Tab.set [] s.prs.bankCopy (2 * i + b) (patch img o (w32 v)) } }
  | none =>
    if flatPlace a then s.putArr a (w32 v)
    else match gatePlace a with
      | some (p, b) =>
        if s.flag F.TIM_GATE_CFG_GATE_EN p && b == s.gateBank p then s.inc F.TIM_GATE_STATUS_ACTIVE_WRITE_DROPS p else s.putArr a (w32 v)
      | none => match meterPlace a with
        | some m => s.meterWritten m (a % 32) v
        | none => s.ungranted a

/-! ### Pending bits (R572) -/

/-- A group sends its vector, or waits for its holdoff to end (R572). -/
def State.groupMsi (s : State) (g : Nat) : State :=
  match Tab.get none s.clh.holdoff g with
  | some _ => { s with clh := { s.clh with holdoff := Tab.set none s.clh.holdoff g (some true) } }
  | none =>
    let s := s.sendMsi (s.fld F.CLH_GROUP_CFG_VECTOR g)
    if s.fld F.CLH_GROUP_CFG_HOLDOFF_US g = 0 then s
    else { s with clh := { s.clh with holdoff := Tab.set none s.clh.holdoff g (some false) } }

/-- A write of CLH_EVT_PEND clears the bits written 1; where an enabled bit stays pending the group's vector is sent again (R572). -/
def State.clearPend (s : State) (r : Reg) (g v : Nat) : State :=
  let s := s.wr r g (writeBits 0 r.w1c 0 (s.rd r g) v)
  if s.groupPending g then s.groupMsi g else s

/-! ### Raw windows (R586 to R589) -/

/-- A word written where a raw window shows it; its unit's grant has been checked. -/
def State.rawPut (s : State) (a v : Nat) : State :=
  let o := a % 0x1000000
  let d := (a - 0xA4000000) / 0x1000000
  if a < 0x8C000000 then
    let f := (a - 0x80000000) / 128
    s.putFolio f (patch (s.folio f) (a % 128) (w32 v))
  else if 0xA4000000 ≤ a ∧ a < 0xA6000000 then
    if o < 0x600000 then
      let f := dieFolios * d + o / 8
      s.putLink f ((s.link f).withWord (if a % 8 = 0 then putBits (s.link f).word 0 32 v else putBits (s.link f).word 32 32 v))
    else if a % 64 < 48 then
      let k := dieDescs * d + (o - 0x600000) / 64
      let x := s.descAt k
      let y := x.withStored (patch x.stored (a % 64) (w32 v))
      if (s.desc? k).isSome then s.putDesc k (some y) else { s with vlt := { s.vlt with spent := Tab.set none s.vlt.spent k (some y) } }
    else s
  else if 0xA2000000 ≤ a ∧ a < 0xA2200000 then
    (if a % 128 < 40 ∨ (64 ≤ a % 128 ∧ a % 128 < 104) then s.putArr a (w32 v) else s)
  else s.putArr a (w32 v)

/-- A read or read-modify-write of a raw window meets an uncorrectable error (R587, R588). -/
def State.uncorr (s : State) (a : Nat) : State :=
  ((s.setCounted F.GLB_WINDOW_STATUS_UNCORR F.GLB_WINDOW_STATUS_UNCORR_COUNT 0).wr R.GLB_WINDOW_ERR_ADDR 0 a).note E.GLB_WINDOW_UNCORR

/-- Whether a raw window takes writes: its owner is granted and clocked (R588). -/
def State.rawOpen (s : State) (a : Nat) : Bool :=
  match rawOwner a with
  | some u => s.granted u && bit (unitModes u) s.mode && !s.clh.inReset.contains u
  | none => false

/-! ### The word that a write reaches -/

/-- A host write of the aligned word `v` at BAR2 offset `a`. `unc` says that a check word read on the way had an uncorrectable error. -/
def State.writeWord (s : State) (a v : Nat) (unc : Bool) : State :=
  if 0x80000000 ≤ a then (if s.rawOpen a then (if unc then s.uncorr a else s.rawPut a v) else s.ungranted a)
  else match findReg a with
    | some (r, i) =>
      if r.base = R.GLB_WINDOW_STATUS.base then s.wr r 0 (writeBits 0 r.w1c 0 (s.rd r 0) v)
      else if r.base = R.CLH_EVT_PEND_LO.base ∨ r.base = R.CLH_EVT_PEND_HI.base then s.clearPend r i v
      else s.hostWrites a fun s => s.writeReg r i v
    | none => s.hostWrites a fun s => s.writeArray a v

/-- A write that is not an aligned 32-bit write is ignored and recorded (R580). -/
def State.sizeErr (s : State) (a : Nat) : State :=
  ((s.setCounted F.GLB_WINDOW_STATUS_SIZE_ERR F.GLB_WINDOW_STATUS_SIZE_ERR_COUNT 0).wr R.GLB_WINDOW_ERR_ADDR 0 a).note E.GLB_WINDOW_SIZE_ERR

/-- A host write of `n` bytes at BAR2 offset `a`. -/
def State.hostStore (s : State) (a n v : Nat) (unc : Bool) : State :=
  if !s.bar2Up ∨ 2 ^ 32 ≤ a then s
  else if n ≠ 4 ∨ a % 4 ≠ 0 then s.sizeErr a
  else s.writeWord a (v % 2 ^ 32) unc

/-! ### Commands -/

/-- REGISTER_WRITE (R579, R580): the host writes `n` bytes of `v` at BAR2 offset `a`. -/
def execRegisterWrite (a n v : Nat) (s : State) : Host.Outcome State Fault Refusal := .next (s.hostStore a n v false)

/-- RAW_WRITE (R588): a host write of `n` bytes in a raw window; with `unc` the read of its check word meets an uncorrectable error. -/
def execRawWrite (a n v : Nat) (unc : Bool) (s : State) : Host.Outcome State Fault Refusal :=
  .next (if 0x80000000 ≤ a then s.hostStore a n v unc else s)

/-- LO_READ_LATCH (R581): the host reads `n` bytes at BAR2 offset `a`; a LO word latches its HI. -/
def execLoReadLatch (a n : Nat) (s : State) : Host.Outcome State Fault Refusal := .next (if a + n ≤ 2 ^ 32 then s.hostReads a n else s)

/-- RC_READ (R3): the host reads `n` bytes at BAR2 offset `a`; rc fields of the words it reads are cleared. -/
def execRcRead (a n : Nat) (s : State) : Host.Outcome State Fault Refusal := .next (if a + n ≤ 2 ^ 32 then s.hostReads a n else s)

/-- RAW_READ (R587): the host reads `n` bytes of a raw window; with `unc` the stored data have an uncorrectable error. -/
def execRawRead (a n : Nat) (unc : Bool) (s : State) : Host.Outcome State Fault Refusal :=
  .next (if 0x80000000 ≤ a ∧ a + n ≤ 2 ^ 32 ∧ s.bar2Up then (if unc then (s.hostReads a n).uncorr a else s.hostReads a n) else s)

/-- EVT_PEND_WRITE (R572): a host write of CLH_EVT_PEND of group `g`, LO or with `hi` HI. -/
def execEvtPendWrite (g : Nat) (hi : Bool) (v : Nat) (s : State) : Host.Outcome State Fault Refusal :=
  .next (if g < 96 ∧ s.bar2Up then s.clearPend (if hi then R.CLH_EVT_PEND_HI else R.CLH_EVT_PEND_LO) g (v % 2 ^ 32) else s)

/-- TALLY_CNT_CLEAR (R496): a granted host write of TLY_CNT_SEL with CLEAR of counter `k` of unit `u`, which keeps its other fields. -/
def execTallyCntClear (u k : Nat) (s : State) : Host.Outcome State Fault Refusal :=
  .next (if u < 448 ∧ k < tlyUnitCounters u then s.hostWrites (R.TLY_CNT_SEL.key (k + 48 * u)) fun s => s.clearCnt (k + 48 * u) else s)

end Sys2Proof.Machine
end

