-- ==== Sys2Proof/Machine/Dma.lean ====
section
/-! DEFINITION. The DMA engine: operations, bursts, aborts, punted and injected frames (R466 to R491). -/
namespace Sys2Proof.Machine

/-! ### Taking descriptors -/

/-- Whether an injected frame's metadata is right: the first descriptor's FLAGS and words 4 and 5, and zeros in the later ones (R484, R486). -/
def DmaDesc.metaOk (d : DmaDesc) (first : Bool) : Bool :=
  if first then
    d.flags / 16 == 0 && bits d.flags 2 2 != 3 && !(bit d.flags 0 && bit d.flags 1) && bits (d.w 5) 14 2 == 0
  else d.flags == 0 && d.w 4 == 0 && d.w 5 == 0

/-- A descriptor that is written back with BAD_DESC (R466, R481, R484). -/
def badDesc (role : Nat) (first : Bool) (d : DmaDesc) : Bool :=
  decide (4 < d.op) || bits (d.w 0) 16 10 != 0 || bits (d.w 1) 24 8 != 0 || (d.op != 4 && d.len == 0)
    || (role == 1 && d.op != 0 && d.op != 4) || (role == 2 && d.op != 1 && d.op != 4)
    || (role == 2 && d.op == 1 && !d.metaOk first)

/-- The device range of a descriptor is allowed (R467). -/
def State.deviceOk (s : State) (d : DmaDesc) : Bool :=
  if d.op = 2 then true
  else if 2 ^ 32 < d.dev + d.len then false
  else if d.op = 1 then decide (0x80000000 ≤ d.dev) && (List.range (ceilDiv (d.dev % 4 + d.len) 4)).all fun k => s.rawOpen (d.dev / 4 * 4 + 4 * k)
  else true

/-- A channel of the host's is active and may take the descriptor at HEAD (R464, R481). -/
def State.mayTake (s : State) (c : Nat) : Bool :=
  decide (c < 28) && s.dmaUp && s.chanState c == 2 && s.posted c != s.consumed c && (s.chan c).cur.isNone && !(s.chan c).whole
    && !(s.chan c).aborting && decide (((s.chan c).ahead.filter fun d => d.op == 0).length < 16)

/-- The words of the descriptor in hand shown (DMA_CH_DESC). -/
def State.showDesc (s : State) (c : Nat) (d : DmaDesc) : State :=
  s.each (List.range 8) fun k s => s.wr R.DMA_CH_DESC (k + 8 * c) (d.w k)

/-- An injected frame that an error cuts is discarded. Its earlier descriptors are written back; after an abort with ABORTED, after another error
with a status that the manual does not give, which is free (R488, log entry 49). -/
def State.cutInject (s : State) (c : Nat) (aborted : Bool) : State :=
  let x := s.chan c
  let s := s.each x.frameDescs fun d s =>
    if aborted then s.writeBack c d 2 d.len
    else (s.writeBack c d (s.freeVal / 2 ^ 24 % 256) (s.freeVal % 2 ^ 24)).tookFree
  let s := if x.frameDescs.isEmpty && x.frame.isEmpty then s else s.chanStat c 3 1
  s.putChan c { s.chan c with frame := [], frameMeta := none, frameDescs := [], whole := false }

/-- The leading LINK descriptors that a punt channel has taken are written back (R469). -/
def State.flushLinks (s : State) (c : Nat) : State :=
  let l := (s.chan c).ahead
  let s := s.each (l.takeWhile fun d => d.op == 4) fun d s => (s.writeBack c d 0 0).putChan c (s.chan c)
  s.putChan c { s.chan c with ahead := l.dropWhile fun d => d.op == 4 }

/-- A LINK descriptor is followed (R463, R474): the 64th in a row is written back with LOOP and stops the channel. -/
def State.followLink (s : State) (c : Nat) (d : DmaDesc) : State :=
  let n := s.fld F.DMA_CH_RESIDUE_LINKS c + 1
  if 64 ≤ n then
    let s := ((s.writeBack c d 3 0).setF F.DMA_CH_STATUS_LOOP c 1).inc F.DMA_CH_EVCOUNT_LOOP_COUNT c
    (s.note E.DMA_LOOP).stopChan c
  else
    let s := ((s.advance c d).setHead c (d.host / 32 * 32)).setF F.DMA_CH_RESIDUE_LINKS c n
    let x := s.chan c
    if s.chanRole c = 1 ∧ !x.ahead.isEmpty then s.putChan c { x with ahead := x.ahead ++ [d] }
    else if s.chanRole c = 2 ∧ !x.frameDescs.isEmpty then s.putChan c { x with frameDescs := x.frameDescs ++ [d] }
    else (s.writeBack c d 0 0).afterWriteBack c 0 d.irq

/-! ### Bursts (R468) -/

/-- The next burst of a descriptor: to its last byte, the next 4 KB of host addresses or MAX_BURST. -/
def State.burstLen (s : State) (c : Nat) (d : DmaDesc) (asked : Nat) : Nat :=
  min (d.len - asked) (min (4096 - (d.host + asked) % 4096) (256 <<< min 4 (s.fld F.DMA_CH_CFG_MAX_BURST c)))

/-- A channel has a burst for the write arbiter, or for the read arbiter. -/
def State.wants (s : State) (c : Nat) (wr : Bool) : Bool :=
  let x := s.chan c
  match x.cur with
  | none => false
  | some d => s.chanState c == 2 && decide (x.asked < d.len) && x.bad.isNone && x.diff.isNone && !x.aborting
      && (if wr then d.op == 0 || d.op == 2 else (d.op == 1 || d.op == 3) && decide (x.bursts.length < 4))

/-- The bytes of PATTERN that host addresses from `a` take (R466). -/
def fillBytes (pattern a n : Nat) : List Byte := (List.range n).map fun i => BitVec.ofNat 8 (pattern / 256 ^ ((a + i) % 8))

/-- The status, residue and moved bytes of a data descriptor that has ended, if it has. -/
def Chan.outcome (x : Chan) (d : DmaDesc) : Option (Nat × Nat) :=
  if !x.bursts.isEmpty then none
  else
    let err := match x.bad, x.diff with
      | some (st, p), some q => if p ≤ q then some (st, d.len - x.good) else some (1, q)
      | some (st, _), none => some (st, d.len - x.good)
      | none, some q => some (1, q)
      | none, none => none
    match err with
    | some e => some e
    | none => if x.good = d.len then some (0, 0) else if x.aborting then some (2, d.len - x.good) else none

/-- The data descriptor in hand ends if it can, and once requests may be issued (R461). With the link down its write-back cannot be made and the
channel stops (R476). A descriptor of an injected frame that is in joins its frame instead (R488). -/
def State.finishDesc (s : State) (c : Nat) : State :=
  let x := s.chan c
  match x.cur with
  | none => s
  | some d =>
    let s := s.setF F.DMA_CH_RESIDUE_RESIDUE c (d.len - x.good)
    match (if s.hostReach || !s.pins.pcieUp then x.outcome d else none) with
    | none => s
    | some (st, res) =>
      if !s.pins.pcieUp && !(s.chanRole c == 2 && st == 0 && !x.aborting) then s.failStop c st
      else if s.chanRole c = 2 then
        if st = 0 ∧ !x.aborting then
          let s := (s.advance c d).chanStat c 1 x.good
          s.putChan c { x with cur := none, asked := 0, good := 0, frameDescs := x.frameDescs ++ [d], whole := !d.link }
        else if st = 0 then
          let s := (s.cutInject c true).writeBack c d 2 d.len
          ((s.advance c d).putChan c { s.chan c with cur := none, asked := 0, good := 0 }).stopChan c
        else
          let s := s.cutInject c (st == 2)
          (s.putChan c { s.chan c with frame := [] }).endDesc c d st res x.good
      else s.endDesc c d st res x.good

/-- One burst of a channel: a write moves its bytes; a read issues its request. `unc`: device memory read on the way has an uncorrectable
error. -/
def State.issueBurst (s : State) (c : Nat) (unc : Bool) : State :=
  let x := s.chan c
  match x.cur with
  | none => s
  | some d =>
    let n := s.burstLen c d x.asked
    if d.op = 0 then
      let r := s.readBytes (2 + c) (d.dev + x.asked) n
      if unc then ((r.1.uncorr ((d.dev + x.asked) / 4 * 4)).putChan c { x with bad := some (6, x.asked) }).finishDesc c
      else ((r.1.hostWrite (d.host + x.asked) r.2).putChan c { x with asked := x.asked + n, good := x.good + n }).finishDesc c
    else if d.op = 2 then
      ((s.hostWrite (d.host + x.asked) (fillBytes (d.dev % 2 ^ 64) (d.host + x.asked) n)).putChan c
        { x with asked := x.asked + n, good := x.good + n }).finishDesc c
    else s.putChan c { x with asked := x.asked + n, bursts := x.bursts ++ [{ start := x.asked, len := n }] }

/-- Bytes written to device memory: each word that they touch is written once (log entry 50). -/
def State.rawBytes (s : State) (a : Nat) (bs : List Byte) : State :=
  s.each (List.range (ceilDiv (a % 4 + bs.length) 4)) fun k s =>
    let w := a / 4 * 4 + 4 * k
    let old := w32 (s.rawWord w)
    let new := (List.range 4).map fun j => if a ≤ w + j ∧ w + j < a + bs.length then bs.getD (w + j - a) 0 else old.getD j 0
    s.rawPut w (leNat new)

/-- Bytes of a frame in their place. -/
def putFrameBytes (l : List Byte) (o : Nat) (bs : List Byte) : List Byte := patch (l ++ List.replicate (o + bs.length - l.length) 0#8) o bs

/-- The first place at which two lists differ. -/
def firstDiff (a b : List Byte) : Option Nat := lowest a.length fun i => a.getD i 0 != b.getD i 0

/-- The smaller of an optional place and a place. -/
def lowerOf (o : Option Nat) (p : Nat) : Option Nat := match o with
  | some q => some (min p q)
  | none => some p

/-- `n` bytes of outstanding burst `k` arrive in good order, or fail (R477). With `unc` the device data they are compared with have an uncorrectable
error. -/
def State.readArrives (s : State) (c k n : Nat) (fails unc : Bool) : State :=
  let x := s.chan c
  match x.cur, x.bursts[k]? with
  | some d, some b =>
    let n := min n (b.len - b.got)
    let at_ := b.start + b.got
    let bursts := if b.got + n = b.len then x.bursts.eraseIdx k else x.bursts.set k { b with got := b.got + n }
    let x := { x with bursts := bursts }
    if n = 0 then s
    else if fails then
      let first := match x.bad with
        | some (_, p) => decide (at_ < p)
        | none => true
      let s := if first then s.wr64 R.DMA_CH_ERR_ADDR_LO R.DMA_CH_ERR_ADDR_HI c (d.host + at_) else s
      (s.putChan c { x with bad := if first then some (5, at_) else x.bad }).finishDesc c
    else match s.hostBytes (d.host + at_) n with
      | none => s
      | some data =>
        let x := { x with good := x.good + n }
        if d.op = 3 then
          let r := s.readBytes (2 + c) (d.dev + at_) n
          let x := if unc then { x with bad := some (6, (lowerOf (x.bad.map Prod.snd) at_).getD at_) } else x
          let x := match firstDiff data r.2 with
            | some i => if unc then x else { x with diff := lowerOf x.diff (at_ + i) }
            | none => x
          (r.1.putChan c x).finishDesc c
        else if s.chanRole c = 2 then
          let base := (x.frameDescs.map DmaDesc.len).foldl (· + ·) 0
          (s.putChan c { x with frame := putFrameBytes x.frame (base + at_) data }).finishDesc c
        else ((s.rawBytes (d.dev + at_) data).putChan c x).finishDesc c
  | _, _ =>
    if 0 < x.late ∧ n ≠ 0 then (s.putChan c { x with late := x.late - n }).chanStat c 5 1 else s

/-- The completions of a channel's outstanding reads do not arrive in time (R475, R477). -/
def State.readsTimeOut (s : State) (c : Nat) : State :=
  let x := s.chan c
  if x.bursts.isEmpty then s
  else
    let late := (x.bursts.map fun b => b.len - b.got).foldl (· + ·) 0
    let bad := match x.bad with
      | some b => some b
      | none => some (4, (x.bursts.map fun b => b.start + b.got).foldl min (2 ^ 24))
    (s.putChan c { x with bursts := [], late := x.late + late, bad := bad }).finishDesc c

/-- A descriptor runs to its end, at most `n` bursts, each read answered before the next request, or timing out where host memory does not answer. -/
def State.runDesc (s : State) (c : Nat) : Nat → State
  | 0 => s
  | n + 1 => match (s.chan c).cur with
    | none => s
    | some d =>
      let t := s.issueBurst c false
      let t := match (t.chan c).bursts with
        | [] => t
        | b :: _ => if (t.hostRead (d.host + b.start) b.len).isSome then t.readArrives c 0 b.len false false else t.readsTimeOut c
      State.runDesc t c n

/-- Channel `c` takes the descriptor at HEAD, if its OP is `op` (R464 to R467, R476). With `whole` it runs to its end. -/
def State.takeOp (s : State) (c op : Nat) (whole : Bool) : State :=
  if !s.mayTake c then s
  else match s.descWords (s.head c) with
  | none => s.failStop c 4
  | some d =>
    let x := s.chan c
    if !d.own then s.setChanState c 3
    else if badDesc (s.chanRole c) (x.frameDescs.isEmpty) d then
      if !x.ahead.isEmpty then s else ((s.showDesc c d).cutInject c false).endDesc c d 7 d.len 0
    else if d.op ≠ op then s
    else if op = 4 then (s.showDesc c d).followLink c d
    else
      let s := (s.showDesc c d).setF F.DMA_CH_RESIDUE_LINKS c 0
      if s.chanRole c = 1 then (s.advance c d).putChan c { x with ahead := x.ahead ++ [d] }
      else if s.chanRole c = 0 ∧ !s.deviceOk d then s.endDesc c d 6 d.len 0
      else
        let x := { x with cur := some d, frameMeta := if x.frameDescs.isEmpty then some (d.w 0, d.w 4, d.w 5) else x.frameMeta }
        let s := (s.putChan c x).setF F.DMA_CH_RESIDUE_RESIDUE c d.len
        if whole then s.runDesc c (d.len / 256 + d.len / 4096 + 3) else s

/-! ### The rows of the operations -/

/-- DMA_COPY_TO_HOST (R466, R481): channel `c` takes a COPY_TO_HOST descriptor; a punt channel fetches it ahead. -/
def execDmaCopyToHost (c : Nat) (whole : Bool) (s : State) : Host.Outcome State Fault Refusal := .next (s.takeOp c 0 whole)

/-- DMA_COPY_FROM_HOST (R466, R484): channel `c` takes a COPY_FROM_HOST descriptor. -/
def execDmaCopyFromHost (c : Nat) (whole : Bool) (s : State) : Host.Outcome State Fault Refusal := .next (s.takeOp c 1 whole)

/-- DMA_FILL (R466). -/
def execDmaFill (c : Nat) (whole : Bool) (s : State) : Host.Outcome State Fault Refusal := .next (s.takeOp c 2 whole)

/-- DMA_COMPARE (R466). -/
def execDmaCompare (c : Nat) (whole : Bool) (s : State) : Host.Outcome State Fault Refusal := .next (s.takeOp c 3 whole)

/-- DMA_LINK (R463, R474). -/
def execDmaLink (c : Nat) (s : State) : Host.Outcome State Fault Refusal := .next (s.takeOp c 4 false)

/-- DMA_OWN_RETRY (R464): channel `c` in OWN_WAIT fetches its descriptor again. -/
def execDmaOwnRetry (c : Nat) (s : State) : Host.Outcome State Fault Refusal :=
  .next (if c < 28 ∧ s.dmaUp ∧ s.chanState c = 3 then
      let s := s.chanStat c 4 1
      match s.descWords (s.head c) with
      | none => s.failStop c 4
      | some d => if d.own then s.setChanState c 2 else s
    else s)

/-- The first index at or after `k`, wrapping at 28, that satisfies a predicate. -/
def nextRound (k : Nat) (p : Nat → Bool) : Option Nat := ((List.range 28).map fun j => (k + j) % 28).find? p

/-- DMA_BURST_GRANT (R468): the write or the read arbiter grants one burst, to the next channel in turn of the highest level that asks. -/
def execDmaBurstGrant (wr unc : Bool) (s : State) : Host.Outcome State Fault Refusal :=
  .next (if !s.dmaUp then s
    else
      let lvl := fun (c : Nat) => s.fld F.DMA_CH_CFG_PRIORITY c
      match lowest 4 fun l => (List.range 28).any fun c => s.wants c wr && lvl c == l with
      | none => s
      | some l =>
        let key := 4 * b2n wr + l
        match nextRound (Tab.get 0 s.dma.lastGrant key) fun c => s.wants c wr && lvl c == l with
        | none => s
        | some c => { s with dma := { s.dma with lastGrant := Tab.set 0 s.dma.lastGrant key (c + 1) } }.issueBurst c unc)

/-- DMA_READ_COMPLETION (R469, R475, R477): `n` bytes of channel `c`'s outstanding burst `k` arrive, in good order or with an error. -/
def execDmaReadCompletion (c k n : Nat) (fails unc : Bool) (s : State) : Host.Outcome State Fault Refusal :=
  .next (if c < 28 ∧ s.pins.pcieUp then s.readArrives c k n fails unc else s)

/-- DMA_CPL_TIMEOUT (R475): the completions of channel `c`'s outstanding bursts have not arrived within CPL_TIMEOUT_US. -/
def execDmaCplTimeout (c : Nat) (s : State) : Host.Outcome State Fault Refusal := .next (if c < 28 then s.readsTimeOut c else s)

/-- DMA_IRQ_HOLDOFF_END (R471): a completion merged during channel `c`'s holdoff sends one message, which starts another. -/
def execDmaIrqHoldoffEnd (c : Nat) (s : State) : Host.Outcome State Fault Refusal :=
  .next (let x := s.chan c
    if c < 28 ∧ x.holding then
      let s := s.putChan c { x with holding := false, holdWaits := false }
      if x.holdWaits then s.chanIrq c else s
    else s)

/-! ### Doorbells, starts and aborts -/

/-- The doorbell pages answer: the link is up and DMA is clocked (R460). -/
def State.doorbells (s : State) (c : Nat) : Bool := decide (c < 28) && s.pins.pcieUp && bit 0x7C s.mode && !s.clh.inReset.contains 3

/-- DMA_DOORBELL (R464): a host write of POSTED of channel `c`. -/
def execDmaDoorbell (c v : Nat) (s : State) : Host.Outcome State Fault Refusal :=
  .next (
    let v := v % 65536
    if !s.doorbells c || !s.flag F.DMA_CH_CFG_ENABLE c then s
    else if s.ringSize c - 1 < (v + 65536 - s.consumed c) % 65536 then s.setCounted F.DMA_CH_STATUS_DB_ERR F.DMA_CH_STATUS_DB_ERR_COUNT c
    else
      let s := (s.setF F.DMA_CH_COUNT_POSTED c v).setF F.DMA_DOORBELL_POSTED c v
      if s.chanState c = 1 ∧ v ≠ s.consumed c then s.setChanState c 2 else s)

/-- A stopped channel resumes at HEAD (R474, R478). -/
def State.startChan (s : State) (c : Nat) : State :=
  if s.chanState c = 4 ∧ s.flag F.DMA_CH_CFG_ENABLE c then (s.setF F.DMA_CH_RESIDUE_LINKS c 0).settleChanState c else s

/-- An abort of channel `c` (R472, R473): with reads outstanding it waits for them; else the descriptor in hand is written back with ABORTED. A channel
with nothing in hand stops and writes nothing. -/
def State.abortChan (s : State) (c : Nat) : State :=
  if s.chanState c = 0 ∨ s.chanState c = 4 then s
  else
    let s := (s.putChan c { s.chan c with aborting := true }).setF F.DMA_CH_CMD_ABORT c 1
    let x := s.chan c
    if x.cur.isSome then s.finishDesc c
    else if s.chanRole c = 2 ∧ !x.frameDescs.isEmpty then (if s.hostReach then (s.cutInject c true).stopChan c else s)
    else (s.dropHand c).stopChan c

/-- Bus Master Enable has changed: channels with work are held, or go on (R461). -/
def State.holdDma (s : State) (on : Bool) : State :=
  s.each (List.range 28) fun c s =>
    if on then
      (if s.chanState c ≠ 5 then s
       else
        let s := s.settleChanState c
        if (s.chan c).aborting && (s.chan c).cur.isNone then
          (if s.chanRole c == 2 && !(s.chan c).frameDescs.isEmpty then (s.cutInject c true).stopChan c else (s.dropHand c).stopChan c)
        else s.finishDesc c)
    else if s.chanState c = 2 ∨ s.chanState c = 3 then s.setChanState c 5 else s

/-- DMA_START (R478): a host write of DMA_CH_CMD.START without ABORT. -/
def execDmaStart (c : Nat) (s : State) : Host.Outcome State Fault Refusal := .next (if s.doorbells c then s.startChan c else s)

/-- DMA_ABORT (R472): a host write of DMA_CH_CMD.ABORT. -/
def execDmaAbort (c : Nat) (s : State) : Host.Outcome State Fault Refusal := .next (if s.doorbells c then s.abortChan c else s)

/-- The reads that an abort waits for complete, or time out where host memory does not answer. -/
def State.drainReads (s : State) (c : Nat) : Nat → State
  | 0 => s
  | n + 1 => match (s.chan c).cur, (s.chan c).bursts with
    | some d, b :: _ =>
      let rest := b.len - b.got
      State.drainReads (if (s.hostRead (d.host + b.start + b.got) rest).isSome then s.readArrives c 0 rest false false else s.readsTimeOut c) c n
    | _, _ => s

/-! ### Punted frames (R481 to R483) -/

/-- The frame's first descriptors that hold it: the taken descriptors, data and LINK, up to the one that takes its last byte. -/
def takeFor (L : Nat) : List DmaDesc → Option (List DmaDesc)
  | [] => none
  | d :: t => if d.op = 4 then (takeFor L t).map fun l => d :: l
    else if L ≤ d.len then some [d] else (takeFor (L - d.len) t).map fun l => d :: l

/-- A frame's bytes and write-backs over its descriptors (R482). `word0`, `stamp` and `word5` are the first descriptor's own fields. -/
def State.fillPunted (s : State) (c : Nat) (word0 stamp word5 : Nat) : Bool → List Byte → List DmaDesc → State
  | _, _, [] => s
  | first, bs, d :: t =>
    if d.op = 4 then State.fillPunted (s.writeBack c d 0 0) c word0 stamp word5 first bs t
    else
      let n := min bs.length d.len
      let s := s.hostWrite d.host (bs.take n)
      let more := decide (n < bs.length)
      let w0 := putBits (putBits (d.w 0) 26 1 (b2n more)) 0 16 (if first then word0 else 0)
      let words := [w0, d.w 1, d.w 2, d.w 3, if first then stamp else d.w 4, if first then word5 else d.w 5, 0, 0]
      let s := (s.writeBack c { d with words := words } 0 (d.len - n)).chanStat c 1 n
      State.fillPunted s c word0 stamp word5 false (bs.drop n) t

/-- The lowest-numbered host queue with a frame that channel `c` serves. -/
def State.puntQueue (s : State) (c : Nat) : Option Nat :=
  lowest 64 fun q => !(Tab.get [] s.hostqs q).isEmpty && s.fld F.DMA_HOSTQ_CFG_CHANNEL q == c

/-- The frame at the head of a host queue leaves it. -/
def State.popHostq (s : State) (q k : Nat) (v : Desc) : State :=
  let s := { s with hostqs := Tab.set [] s.hostqs q ((Tab.get [] s.hostqs q).drop 1) }
  (s.setF F.DMA_HOSTQ_STATUS_DEPTH q (s.hostqDepth q - v.folios)).releaseDesc 0 k

/-- PUNT_FRAME_DELIVER (R481, R482): punt channel `c` delivers the head of its lowest-numbered non-empty host queue, if its fetched descriptors can
hold all of it; a frame that 16 of them cannot hold is dropped, and a bad one discarded. -/
def execPuntFrameDeliver (c : Nat) (s : State) : Host.Outcome State Fault Refusal :=
  .next (if !(decide (c < 28) && s.dmaUp && s.chanRole c == 1 && (s.chanState c == 2 || s.chanState c == 3)) then s
    else match s.puntQueue c with
    | none => s
    | some q => match (Tab.get [] s.hostqs q).head? with
      | none => s
      | some k => match s.desc? k with
        | none => s
        | some v =>
          let x := s.chan c
          if v.bad then s.popHostq q k v
          else match takeFor v.length x.ahead with
          | none =>
            if (x.ahead.filter fun d => d.op == 0).length < 16 then s else (s.popHostq q k v).chanStat c 3 1
          | some ds =>
            let word0 := v.reason % 64 + 64 * q + 4096 + 8192 * b2n v.stale
            let word5 := v.rxStamp % 65536 + 65536 * (v.ingress % 1024) + 2 ^ 26 * (v.cls % 16)
            let t := (s.fillPunted c word0 (stampOf v.rxStamp) word5 true (s.descBytes v) ds).chanStat c 2 1
            let t := ((t.putChan c { t.chan c with ahead := x.ahead.drop ds.length }).flushLinks c).popHostq q k v
            if s.chanState c = 3 then (if ds.any DmaDesc.irq then t.chanIrq c else t) else t.afterWriteBack c 0 (ds.any DmaDesc.irq))

/-! ### Injected frames (R484 to R489) -/

/-- An injected frame's fate: enqueued or accepted, or dropped (R485, R486, R488). -/
def State.injectFrame (s : State) (c w0 w4 w5 : Nat) (body : List Byte) : State × Bool :=
  let p := bits w5 0 10
  let bs := withFcs body
  let req := bits w0 2 2
  let tag := bits w5 16 16
  if !s.portConfigured p || decide (bs.length < 64) || decide (s.maxFrame p < bs.length) then (s, false)
  else if bit w0 0 then
    if !bit 0x30 s.mode then (s, false)
    else
      let i := p / 32
      let t := s.admitFrame i { id := 0, port := p, bytes := bs, bad := false, stitchClass := none, rxStamp := s.tim.net, stale := s.staleLane p
                                inject := some c, req := req, tag := tag }
      (t, (Tab.get [] t.prs.fe i).length != (Tab.get [] s.prs.fe i).length)
  else
    s.storeCopies (spineOfLane p) { pool := s.fld F.VLT_GLOBAL_HOST_POOL 0, unit := 2, ingress := p, rxStamp := s.tim.net, req := req, tag := tag, chan := c } bs
      [{ port := p, queue := bits w5 10 4, launch := if bit w0 1 then some w4 else none }]

/-- INJECT_FRAME_START (R487, R488, R489): inject channel `c` holds a whole frame and its tokens are 0 or more; every descriptor of the frame is then
written back. In Standby the channel is held. -/
def execInjectFrameStart (c : Nat) (s : State) : Host.Outcome State Fault Refusal :=
  .next (
    let x := s.chan c
    match x.frameMeta with
    | none => s
    | some (w0, w4, w5) =>
      if !(decide (c < 28) && s.dmaUp && x.whole && (s.chanState c == 2 || s.chanState c == 5)) then s
      else if s.mode = 2 then s.setChanState c 5
      else if s.injTokens c < 0 then s
      else
        let L := x.frame.length + 4
        let tok := s.injTokens c - (L * injUnit : Nat)
        let s := { s with dma := { s.dma with injTok := Tab.set none s.dma.injTok c (some ⟨tok, s.tim.flow⟩) } }
        let r := s.injectFrame c w0 w4 w5 x.frame
        let st := if r.2 then 0 else 8
        let t := r.1.each x.frameDescs fun d t => if d.op = 4 then t.writeBack c d 0 0 else t.writeBack c d st (if r.2 then 0 else d.len)
        let t := if r.2 then t.chanStat c 2 1 else (t.chanStat c 3 1).note E.DMA_INJECT_DROP
        let t := t.putChan c { t.chan c with frame := [], frameMeta := none, frameDescs := [], whole := false }
        t.afterWriteBack c st (x.frameDescs.any DmaDesc.irq))

/-! ### Commands -/

/-- The defaults of DMA_CHANNEL_CONFIG (R106). -/
def chanDefaults (c : Nat) : List (Arg × Nat) :=
  [(A.DMA_CHANNEL_CONFIG_MAX_BURST, 4), (A.DMA_CHANNEL_CONFIG_ERR_ACTION, 0), (A.DMA_CHANNEL_CONFIG_VECTOR, 8 + c),
   (A.DMA_CHANNEL_CONFIG_HOLDOFF_US, 0), (A.DMA_CHANNEL_CONFIG_INJ_RATE, 62500000), (A.DMA_CHANNEL_CONFIG_INJ_BURST, 65536)]

/-- A request changes ROLE, SIZE_LOG2 or BASE of its channel. -/
def State.chanMoves (s : State) (r : Req) : Bool :=
  let c := r.index
  r.arg A.DMA_CHANNEL_CONFIG_ROLE != s.fld F.DMA_CH_CFG_ROLE c || r.arg A.DMA_CHANNEL_CONFIG_SIZE_LOG2 != s.fld F.DMA_CH_CFG_SIZE_LOG2 c
    || r.arg64 A.DMA_CHANNEL_CONFIG_BASE_LO A.DMA_CHANNEL_CONFIG_BASE_HI != s.rd64 R.DMA_CH_BASE_LO R.DMA_CH_BASE_HI c

/-- What DMA_CHANNEL_CONFIG adds to the checks of R94. -/
def State.dmaChannelConfigChecks (s : State) (r0 : Req) : Checks :=
      let r := filled C.DMA_CHANNEL_CONFIG (chanDefaults r0.index) r0
      let st := s.chanState r.index
      { Checks.plain C.DMA_CHANNEL_CONFIG with
        target := targetError 0x06 10 28 false r, dflt := chanDefaults r0.index
        args := firstFail [r.range A.DMA_CHANNEL_CONFIG_ROLE 0 2, r.range A.DMA_CHANNEL_CONFIG_MAX_BURST 0 4,
          r.range A.DMA_CHANNEL_CONFIG_SIZE_LOG2 4 16, r.range A.DMA_CHANNEL_CONFIG_INJ_RATE 1 62500000,
          r.range A.DMA_CHANNEL_CONFIG_INJ_BURST 64 16777215,
          failIf (r.arg A.DMA_CHANNEL_CONFIG_BASE_LO % 64 != 0) (badArg A.DMA_CHANNEL_CONFIG_BASE_LO 2)]
        units := [3]
        busy := if s.chanMoves r && (st == 2 || st == 3 || st == 5) then some 0x10 else none }

/-- What DMA_CHANNEL_CONFIG does once its checks have passed. -/
def State.dmaChannelConfigAct (s : State) (r : Req) : Ans :=
      let c := r.index
      let was := s.flag F.DMA_CH_CFG_ENABLE c
      let rate := r.arg A.DMA_CHANNEL_CONFIG_INJ_RATE != s.rd R.DMA_CH_INJ_RATE c || r.arg A.DMA_CHANNEL_CONFIG_INJ_BURST != s.rd R.DMA_CH_INJ_BURST c
      let t := s.wr R.DMA_CH_CFG c (r.arg A.DMA_CHANNEL_CONFIG_ENABLE + 2 * r.arg A.DMA_CHANNEL_CONFIG_ROLE + 8 * r.arg A.DMA_CHANNEL_CONFIG_PRIORITY
        + 32 * r.arg A.DMA_CHANNEL_CONFIG_MAX_BURST + 256 * r.arg A.DMA_CHANNEL_CONFIG_ERR_ACTION + 512 * r.arg A.DMA_CHANNEL_CONFIG_IRQ_EN
        + 2 ^ 16 * r.arg A.DMA_CHANNEL_CONFIG_SIZE_LOG2 + 2 ^ 24 * r.arg A.DMA_CHANNEL_CONFIG_VECTOR)
      let t := (t.wr R.DMA_CH_BASE_LO c (r.arg A.DMA_CHANNEL_CONFIG_BASE_LO)).wr R.DMA_CH_BASE_HI c (r.arg A.DMA_CHANNEL_CONFIG_BASE_HI)
      let t := t.wr R.DMA_CH_HOLDOFF c (r.arg A.DMA_CHANNEL_CONFIG_HOLDOFF_US)
      let t := (t.wr R.DMA_CH_INJ_RATE c (r.arg A.DMA_CHANNEL_CONFIG_INJ_RATE)).wr R.DMA_CH_INJ_BURST c (r.arg A.DMA_CHANNEL_CONFIG_INJ_BURST)
      let t := if rate then t.resetInj c else t
      let t := t.settleChan c was (s.chanMoves r)
      .ok t (w32 (t.rd R.DMA_CH_CFG c) ++ w32 (t.rd R.DMA_CH_STATUS c))

/-- DMA_CHANNEL_CONFIG (0x0C01, R490). -/
def execDmaChannelConfig (m : Nat) (s : State) : Host.Outcome State Fault Refusal :=
  .next (s.runCmd m C.DMA_CHANNEL_CONFIG s.dmaChannelConfigChecks s.dmaChannelConfigAct)

/-- What DMA_CHANNEL_CONTROL adds to the checks of R94. -/
def State.dmaChannelControlChecks (_ : State) (r : Req) : Checks :=
  { Checks.plain C.DMA_CHANNEL_CONTROL with target := targetError 0x06 10 28 false r, units := [3] }

/-- What DMA_CHANNEL_CONTROL does once its checks have passed. -/
def State.dmaChannelControlAct (s : State) (r : Req) : Ans :=
      let c := r.index
      let a := r.arg A.DMA_CHANNEL_CONTROL_ACTION
      let t := if a = 1 then s.startChan c else if 2 ≤ a then (s.abortChan c).drainReads c 5 else s
      let t := if a = 3 then t.rewind c else t
      .ok t (w32 (t.rd R.DMA_CH_STATUS c))

/-- DMA_CHANNEL_CONTROL (0x0C02, R472, R473, R491). -/
def execDmaChannelControl (m : Nat) (s : State) : Host.Outcome State Fault Refusal :=
  .next (s.runCmd m C.DMA_CHANNEL_CONTROL s.dmaChannelControlChecks s.dmaChannelControlAct)

/-- What HOSTQ_CONFIG adds to the checks of R94. -/
def State.hostqConfigChecks (_ : State) (r : Req) : Checks :=
  { Checks.plain C.HOSTQ_CONFIG with
      target := targetError 0x06 15 64 false r, args := r.range A.HOSTQ_CONFIG_CHANNEL 0 27, units := [3] }

/-- What HOSTQ_CONFIG does once its checks have passed. -/
def State.hostqConfigAct (s : State) (r : Req) : Ans :=
      let t := (s.setF F.DMA_HOSTQ_CFG_CHANNEL r.index (r.arg A.HOSTQ_CONFIG_CHANNEL)).setF F.DMA_HOSTQ_CFG_DEPTH_LIMIT r.index
        (r.arg A.HOSTQ_CONFIG_DEPTH_LIMIT)
      .ok t (w32 (t.rd R.DMA_HOSTQ_CFG r.index))

/-- HOSTQ_CONFIG (0x0C03, R480). -/
def execHostqConfig (m : Nat) (s : State) : Host.Outcome State Fault Refusal :=
  .next (s.runCmd m C.HOSTQ_CONFIG s.hostqConfigChecks s.hostqConfigAct)

/-- What DMA_GLOBAL_CONFIG adds to the checks of R94. -/
def State.dmaGlobalConfigChecks (_ : State) (r : Req) : Checks :=
  { Checks.plain C.DMA_GLOBAL_CONFIG with
      target := targetWhole 0x06 r, args := r.range A.DMA_GLOBAL_CONFIG_CPL_TIMEOUT_US 1 65535, units := [3] }

/-- What DMA_GLOBAL_CONFIG does once its checks have passed. -/
def State.dmaGlobalConfigAct (s : State) (r : Req) : Ans :=
      let t := s.setF F.DMA_GLOBAL_CPL_TIMEOUT_US 0 (r.arg A.DMA_GLOBAL_CONFIG_CPL_TIMEOUT_US)
      .ok t (w32 (t.rd R.DMA_GLOBAL 0))

/-- DMA_GLOBAL_CONFIG (0x0C04, R475). -/
def execDmaGlobalConfig (m : Nat) (s : State) : Host.Outcome State Fault Refusal :=
  .next (s.runCmd m C.DMA_GLOBAL_CONFIG s.dmaGlobalConfigChecks s.dmaGlobalConfigAct)

end Sys2Proof.Machine
end

