-- ==== Sys2Proof/Machine/Reset.lean ====
section
/-! DEFINITION. What a reset reaches (R51, R61, R62, R79, R567, R613), entry to Fault-Hold (R52, R78, R81) and the service of the mailboxes (R45,
R93). -/
namespace Sys2Proof.Machine

/-! ### Which mailboxes are served (R45, R93) -/

/-- The mailboxes served in a mode: MBX_0 and MBX_6 in Loader and Fault-Hold, all eight in modes 2 to 6 (R45). -/
def aliveMask (mode : Nat) : Nat := if mode = 1 ∨ mode = 7 then 0x41 else if mode = 0 then 0 else 0xFF

/-- Service of one mailbox begins, with LAST_VALID 0, or stops: a command accepted and not started is discarded and the discard is recorded
(R93). -/
def State.serve (s : State) (m : Nat) (on : Bool) : State :=
  let was := s.flag F.MBX_STATUS_ALIVE m
  let s := (s.setF F.MBX_STATUS_ALIVE m (b2n on)).setF F.TLR_STATUS_ALIVE 0 (putBits (s.fld F.TLR_STATUS_ALIVE 0) m 1 (b2n on))
  if on && !was then s.setF F.MBX_LAST_LAST_VALID m 0
  else if was && !on && s.busy m then
    let s := ((s.setF F.MBX_STATUS_BUSY m 0).setF F.MBX_STATUS_RESP_VALID m 0).setF F.TLR_MBX_RUN_STATE m 0
    match s.req? m with
    | some r => s.history m r.source 3 r.header [] r.params
    | none => s
  else s

/-- The mailboxes of a mask are served and the others are not. -/
def State.serveOnly (s : State) (mask : Nat) : State := s.each (List.range 8) fun m s => s.serve m (bit mask m)

/-! ### Reset -/

/-- GLB_RESET_CAUSE after a reset: its causes alone, and RESETS advanced (R61, R79). Bit 1 RESET_N, 2 PERST_N, 3 chip reset. -/
def State.setCause (s : State) (causes : Nat) : State :=
  let s := s.inc F.GLB_RESET_CAUSE_RESETS 0
  s.wr R.GLB_RESET_CAUSE 0 (putBits (s.rd R.GLB_RESET_CAUSE 0) 0 4 causes)

/-- The machine with all state outside the VDD_AON island cleared; host memory and the balls are not the part's to clear (R61). -/
def State.cleared (s : State) : State :=
  { pending := s.pending, now := s.now, fresh := s.fresh, regs := s.regs.filter fun e => onIsland e.1
    pins := { s.pins with pcieUp := false, busMaster := false, i2cAddr := none }
    clh := { s.clh with held := [], inReset := [], restoring := [], savedRegs := [], savedArrays := [] }
    ckg := { fails := s.ckg.fails.filter fun e => e.1 == 0 || e.1 == 9 || e.1 == 11, trimStep := s.ckg.trimStep, holdEarly := s.ckg.holdEarly }
    tlr := { bootAt := s.now }, host := s.host, msix := s.msix, readData := s.readData, jtag := s.jtag }

/-- The part enters Reset (R51, R61). -/
def State.chipReset (s : State) (causes : Nat) : State :=
  let t := s.cleared.setCause causes
  if s.mode = 0 then t else t.note E.GLB_MODE_CHANGE

/-- The PCIe interface in reset: link down, Bus Master Enable 0, MSI-X table and pending bits at reset (R62, R79). -/
def State.resetPcie (s : State) : State :=
  let s := s.resetRegs fun a => decide (0x100900000 ≤ a ∧ a < 0x100A00000)
  { s.wr R.DMA_PCIE_STATUS 0 (putBits (putBits (s.rd R.DMA_PCIE_STATUS 0) 0 9 0) 10 2 0) with
    pins := { s.pins with pcieUp := false, busMaster := false } }

/-- The boot registers and buffers at reset; in Loader they return to their state at Loader ready (R62, R72). -/
def State.resetBootWindow (s : State) : State :=
  let s := s.resetRegs fun a => decide (0x100820000 ≤ a ∧ a < 0x100821000)
  let s := { s with boot := { s.boot with buf := [], pages := [] } }
  if s.mode = 1 then ((s.setF F.BOOT_STATUS_READY 0 1).setF F.BOOT_STATUS_BUF0_FREE 0 1).setF F.BOOT_STATUS_BUF1_FREE 0 1 else s

/-- The Teller in reset; its history ring is kept across the resets taken in Fault-Hold (R79, R117). -/
def State.resetTeller (s : State) : State :=
  let keep := fun (a : Nat) => decide (0x1000000 ≤ a ∧ a < 0x2000000) && a != 0x1000310
  let s := (s.resetRegs fun a => keep a || decide (0x100010000 ≤ a ∧ a < 0x100020000)).resetBootWindow
  { s with tlr := { hist := s.tlr.hist, bootAt := s.now }, loLatch := [] }

/-- A reset taken in Fault-Hold reaches only the PCIe interface and the Teller (R79). -/
def State.holdReset (s : State) (causes : Nat) : State :=
  let s := s.resetTeller.resetPcie
  ((s.setF F.CKG_DOMAIN_STATUS_RUNNING 2 0).setF F.CKG_DOMAIN_STATUS_RUNNING 3 0).setCause causes

/-- An assertion of RESET_N (pin 1) or PERST_N (pin 2) that resets the part, or in Fault-Hold its PCIe interface and Teller. While the other ball
already holds that reset, the part takes one reset and both causes are set (R51, R79, R613). -/
def State.pinReset (s : State) (pin : Nat) : State :=
  let other := 3 - pin
  let low := if pin = 1 then !s.pins.perstN else !s.pins.resetN
  let bitOf := fun (p : Nat) => bit (s.rd R.GLB_RESET_CAUSE 0) p
  if low && bitOf other && (s.mode == 0 || s.mode == 7) then
    s.wr R.GLB_RESET_CAUSE 0 (putBits (s.rd R.GLB_RESET_CAUSE 0) pin 1 1)
  else
    let causes := 2 ^ pin + (if low then 2 ^ other else 0)
    if s.mode = 7 then s.holdReset causes else s.chipReset causes

/-- PERST_N with PERST_SCOPE 1: the DMA channels stop with ABORTED, every grant is revoked, and the PCIe interface and the boot window are reset
(R61, R62). -/
def State.hostReset (s : State) : State := ((s.stopDma 2).revokeAll).resetPcie.resetBootWindow

/-! ### Fault-Hold (R52, R78, R81) -/

/-- What mailbox `m` has started and not completed ends without taking effect: a patch that waits for its installation (R76), or a POST that no die has
reached (R280). -/
def State.dropStarted (s : State) (m : Nat) : State :=
  let s := match s.tlr.patch with
    | some p => if p.exec = Exec.mailbox m then { s with tlr := { s.tlr with patch := none } } else s
    | none => s
  match s.cls.post with
  | some p => if p.mbx = m then { s with cls := { s.cls with post := none } }.setF F.CLS_POSTING_SWITCH_PENDING 0 0 else s
  | none => s

/-- Mailbox `m` has started its command and waits for its completion. -/
def State.started (s : State) (m : Nat) : Bool :=
  (match s.tlr.patch with
   | some p => p.exec == Exec.mailbox m
   | none => false) ||
  (match s.cls.post with
   | some p => p.mbx == m
   | none => false)

/-- Every command that runs ends with ABORTED, reason 2 (R54, R96). -/
def State.abortRecords (s : State) : State :=
  let s := s.each (List.range 8) fun m s => match s.req? m with
    | some r => if s.started m then (s.dropStarted m).respond m r 0x0501 2 [] else s
    | none => s
  let s := { s with tlr := { s.tlr with patch := none } }
  s.each (List.range 64) fun k s => match s.rec? k with
    | some r => if r.phase = 1 then s.completeRec k r 0x0501 2 [] else s
    | none => s

/-- The Fault-Hold latch is set and mode 7 entered. Entered through THERMTRIP_N or from Reset, the Teller and PCIe clocks stand too. -/
def State.enterFaultHold (s : State) (src : Nat) : State :=
  let dark := src == E.GOV_THERMTRIP || s.mode == 0
  let s := s.setF F.CLH_STATUS_FAULT_HOLD 0 1
  let s := (s.setMode 7).setF F.GLB_MODE_FAULT_HOLD 0 1
  let s := (s.setF F.GLB_MODE_TRANSITION 0 0).setF F.GLB_MODE_TARGET 0 0
  let s := (s.stopDma 2).revokeAll.cancelBooks
  let s := if dark then s else s.abortRecords
  let s := (s.clockMode 7).each (List.range 1024) fun n s => s.refreshTx n
  if dark then
    let s := (s.setF F.CKG_DOMAIN_STATUS_RUNNING 2 0).setF F.CKG_DOMAIN_STATUS_RUNNING 3 0
    { s.serveOnly 0 with pins := { s.pins with pcieUp := false } }
  else s.serveOnly (aliveMask 7)

/-! ### Block reset (R567) -/

/-- The grant unit that holds a source, where a block reset may reach it: sources of GLB, TLR, CLH, CKG, GOV and TIM have none. -/
def resetUnitOf (src : Nat) : Option Nat :=
  let g := src / 64
  if 16 ≤ g then
    let q := (g - 16) / 5
    let k := (g - 16) % 5
    let b := src % 64
    let sub := if k < 2 then 0 else if k = 2 then 1 else if k = 3 then 3
      else if b < 2 then 0 else if b < 4 then 2 else if b = 4 then 1 else if b < 8 then 3 else 4
    some (12 + 6 * q + sub)
  else if g = 6 then some 3 else if g = 8 then some 4 else if g = 9 then some 5
  else if g = 10 then some (if src % 64 < 10 then 6 else 7)
  else if g = 11 then some 8 else if g = 12 then some 9 else if g = 13 then some 10 else if g = 14 then some 11
  else none

/-- The crossings one side of which a unit holds (R150, R152). -/
def unitCrossings (u : Nat) : List Nat :=
  if u = 3 then (List.range 64).map fun c => 2178 + c
  else if u < 12 then []
  else
    let q := (u - 12) / 6
    let k := (u - 12) % 6
    if k < 2 then (List.range 64).flatMap fun l => [64 * q + l, 1024 + 64 * q + l]
    else if k = 4 then [2048 + 2 * q, 2049 + 2 * q, 2112 + 2 * q, 2113 + 2 * q]
    else if k = 5 then [2080 + 2 * q, 2081 + 2 * q, 2144 + 2 * q, 2145 + 2 * q]
    else []

/-- The live side of a crossing sees its peer in reset: what it holds is lost and counted (R152, R154). -/
def State.peerReset (s : State) (x : Nat) : State :=
  if s.flag F.CKG_XING_STATUS_PEER_RESET x then s
  else
    let s := s.addSat F.CKG_XING_COUNT_LOST x (s.fld F.CKG_XING_STATUS_FILL x)
    (((s.setF F.CKG_XING_STATUS_PEER_RESET x 1).setF F.CKG_XING_STATUS_FILL x 0).setF F.CKG_XING_STATUS_EMPTY x 1).note E.CKG_XING_PEER_RESET

/-- The unit that owns a BAR2 offset, raw windows included. -/
def ownerOf (a : Nat) : Option Nat := if 0x80000000 ≤ a then rawOwner a else unitOfOffset a

/-- Bytes of an array that commands configure and the Teller keeps a record of: the arrays of BAR2 below the raw windows, the rule store and the
member table of the Counting House. -/
def configByte (a : Nat) : Bool :=
  decide (a < 0x80000000) || (decide (0xA0000000 ≤ a) && decide (a < 0xA4000000)) ||
    (decide (0xA6000000 ≤ a) && decide (a < 0xA7000000) && decide (0x100000 ≤ a % 0x800000) && decide (a % 0x800000 < 0x200000))

/-- The word the Teller writes back to a register: its configuration bits, the others at reset. A port that commands created is created again. -/
def savedWord (a v : Nat) : Nat :=
  match findReg a with
  | none => v
  | some (r, i) =>
    let keep := if r.base = R.MAC_STATUS.base then 2 ^ F.MAC_STATUS_CONFIGURED.lo else r.rw
    (v &&& keep) ||| (r.rst i ^^^ (r.rst i &&& keep))

/-- The frames and machines that a unit held are lost. -/
def State.clearUnit (s : State) (u : Nat) : State :=
  if u = 3 then { s with dma := {} }
  else if u = 4 then
    let s := s.cancelBooks
    { s with tly := { s.tly with updates := [], ringUnit := 0, ringCnt := 0 } }
  else if u = 5 then { s with cls := {} }
  else if u = 6 then { s with ldg := { s.ldg with held := [], audit := [] } }
  else if u = 7 then { s with ldg := { s.ldg with clerks := [] } }
  else if u = 8 then { s.clearVault with queues := [], hostqs := [] }
  else if u = 9 then { s with queues := [], qsc := { started := s.qsc.started } }
  else if u = 10 then { s with cth := {} }
  else if u < 12 then s
  else
    let q := (u - 12) / 6
    let k := (u - 12) % 6
    let mine := fun (n : Nat) => n / 64 == q
    if k = 0 then { s with lanes := s.lanes.filter fun e => !mine e.1 }
    else if k = 2 then { s with stitch := s.stitch.filter fun e => !mine e.1 }
    else if k = 3 then { (s.each ((List.range 64).map fun l => 64 * q + l) fun p s => if s.portConfigured p then s.setLive p false else s) with
        macs := s.macs.filter fun e => !mine e.1 }
    else if k = 4 then
      let other := fun (i : Nat) => i / 2 != q
      { s with prs := { s.prs with fe := s.prs.fe.filter fun e => other e.1, toCls := s.prs.toCls.filter fun e => other e.1
                                   toExp := s.prs.toExp.filter fun e => other e.1, late := s.prs.late.filter fun e => other e.2.1 } }
    else if k = 5 then
      let held := fun (c : Nat) => s.macs.any fun e => (e.2.sending.any fun x => x.copy == c) || (e.2.preempted.any fun x => x.copy == c)
      { s with copies := s.copies.filter fun e => match e.2 with
          | some c => !mine c.port || held e.1
          | none => false }
    else s

/-- Whether a request's TARGET lies in a grant unit. -/
def Req.touches (r : Req) (u : Nat) : Bool :=
  r.block == unitCode u && (u < 12 || r.all ||
    (if r.kind = 13 then r.index == (u - 12) / 6 else if r.kind = 3 then r.index / 2 == (u - 12) / 6 else r.index / 64 == (u - 12) / 6))

/-- Whether a source's unit can take a block reset now: it is not still being restored from an earlier one (R567). -/
def State.canBlockReset (s : State) (src : Nat) : Bool :=
  match resetUnitOf src with
  | some u => !s.clh.restoring.contains u
  | none => false

/-- The running commands that touch a unit end ABORTED with reason 3 (R567). -/
def State.abortTouching (s : State) (u : Nat) : State :=
  s.each (List.range 64) fun k s => match s.rec? k with
    | some r => if r.phase = 1 ∧ r.req.touches u then s.completeRec k r 0x0501 3 [] else s
    | none => s

/-- A grant unit is reset: its grant is revoked, its commands end, what it held is lost, its crossings see the reset, and the Teller's record of its
configuration is kept for the rewrite (R113, R152, R567). -/
def State.blockReset (s : State) (u : Nat) : State :=
  let s := s.setGrant u false
  let s := s.abortTouching u
  let mine := fun (a : Nat) => ownerOf a == some u
  let regs := (s.regs.filter fun e => mine e.1).map fun e => (e.1, BitVec.ofNat 32 (savedWord e.1 e.2.toNat))
  let arrs := s.arrays.filter fun e => mine e.1 && configByte e.1
  let s := { s with clh := { s.clh with inReset := s.clh.inReset ++ [u], restoring := s.clh.restoring ++ [u]
                                        savedRegs := regs.foldl (fun (t : Tab Word) (e : Nat × Word) => Tab.insert t e.1 e.2) s.clh.savedRegs
                                        savedArrays := arrs.foldl (fun (t : Tab Byte) (e : Nat × Byte) => Tab.insert t e.1 e.2) s.clh.savedArrays } }
  let s := (s.clearUnit u).resetRegs mine
  let s := { s with arrays := s.arrays.filter fun e => !mine e.1 }
  let s := s.each (unitCrossings u) fun x s => s.peerReset x
  let s := if 12 ≤ u ∧ (u - 12) % 6 < 3 then
      s.each ((List.range 64).map fun l => 64 * ((u - 12) / 6) + l) fun p s => if s.portConfigured p then s.checkPort p else s
    else s
  s.note E.CLH_BLOCK_RESET

/-- A register written back from the Teller's record of it (R567). -/
def State.restoreReg (s : State) (e : Nat × Word) : State :=
  match findReg e.1 with
  | some (r, i) => s.wr r i e.2.toNat
  | none => s

/-- The Teller has written a unit's configuration again (R567). -/
def State.restoreUnit (s : State) (u : Nat) : State :=
  let mine := fun (a : Nat) => ownerOf a == some u
  let s := s.each (s.clh.savedRegs.filter fun e => mine e.1) fun e s => s.restoreReg e
  let s := s.each (s.clh.savedArrays.filter fun e => mine e.1) fun e s => s.putArr e.1 [e.2]
  { s with clh := { s.clh with restoring := s.clh.restoring.filter (· != u), savedRegs := s.clh.savedRegs.filter fun e => !mine e.1
                               savedArrays := s.clh.savedArrays.filter fun e => !mine e.1 } }

end Sys2Proof.Machine
end

