-- ==== Sys2Proof/Machine/House.lean ====
section
/-! DEFINITION. The Clearing House: records, escalation, reactions, events and the commands of its group (R552 to R577). -/
namespace Sys2Proof.Machine

/-! ### Event bits and counts (R572) -/

/-- The pending bit of a source, and its register. -/
def pendReg (src : Nat) : Reg := if src % 64 < 32 then R.CLH_EVT_PEND_LO else R.CLH_EVT_PEND_HI
def State.isPending (s : State) (src : Nat) : Bool := bit (s.rd (pendReg src) (src / 64)) (src % 32)

/-- A raise sets its pending bit and advances its occurrence count, which stops at 255 (R7, R572). -/
def State.countEvent (s : State) (src : Nat) : State :=
  let s := s.wr (pendReg src) (src / 64) (putBits (s.rd (pendReg src) (src / 64)) (src % 32) 1 1)
  let w := s.rd R.CLH_EVT_COUNT (src / 4)
  s.wr R.CLH_EVT_COUNT (src / 4) (putBits w (8 * (src % 4)) 8 (satBits 8 (bits w (8 * (src % 4)) 8 + 1)))

/-! ### Records (R558 to R563) -/

/-- UNACKED of every class brought in line with the records. -/
def State.countUnacked (s : State) : State :=
  s.each (List.range 4) fun c s =>
    s.setF F.CLH_CLASS_STATUS_UNACKED c (s.clh.slots.filter fun r => r.cls == c && !r.acked).length

def State.putSlots (s : State) (l : List FaultRec) : State := { s with clh := { s.clh with slots := l } }.countUnacked

/-- The slot of the record with the lowest number among those that satisfy a predicate. -/
def State.oldestSlot (s : State) (p : FaultRec → Bool) : Option Nat :=
  ((s.clh.slots.zipIdx.filter fun e => p e.1).foldl (fun (b : Option (Nat × Nat)) e => match b with
    | some (n, k) => if e.1.number < n then some (e.1.number, e.2) else some (n, k)
    | none => some (e.1.number, e.2)) none).map Prod.snd

/-- The slot a new record of a class takes (R560); none where it is not recorded. -/
def State.slotFor (s : State) (cls : Nat) : Option Nat :=
  if s.clh.slots.length < 256 then some s.clh.slots.length
  else match s.oldestSlot fun r => r.acked with
    | some k => some k
    | none => if cls < 3 then none
      else (List.range 4).findSome? fun c => s.oldestSlot fun r => r.cls == c

/-- A record that found no slot: RECORD_LOST, LOST_COUNT and CLH_RECORD_LOST; a lost CLH_RECORD_LOST is not counted and raises no further
(R560). -/
def State.recordLost (s : State) (src : Nat) : State :=
  if src = E.CLH_RECORD_LOST then s.setF F.CLH_STATUS_RECORD_LOST 0 1
  else (s.setCounted F.CLH_STATUS_RECORD_LOST F.CLH_STATUS_LOST_COUNT 0).note E.CLH_RECORD_LOST

/-- A record is written: the state and its number, or none where it is lost. -/
def State.writeRecord (s : State) (r : FaultRec) : State × Option Nat :=
  match s.slotFor r.cls with
  | none => (s.recordLost r.source, none)
  | some k =>
    let n := s.fld F.CLH_REC_HEAD_NEXT 0
    let rec1 := { r with number := n }
    let l := if k < s.clh.slots.length then setAt s.clh.slots k rec1 else s.clh.slots ++ [rec1]
    (((s.putSlots l).inc F.CLH_CLASS_STATUS_RECORDS r.cls).setF F.CLH_REC_HEAD_NEXT 0 (n + 1), some n)

/-- The oldest unacknowledged record of a CLASS from another source, which escalates a fault (R561). -/
def State.escalator (s : State) (src cls : Nat) : Option Nat :=
  if (cls == 1 || cls == 2) && s.flag F.CLH_CLASS_CFG_ESCALATE cls && s.flag F.CLH_SRC_CFG_ESCALATE src then
    (s.oldestSlot fun r => r.cls == cls && r.source != src && !r.acked).bind fun k => (s.clh.slots[k]?).map FaultRec.number
  else none

/-! ### Reactions (R564 to R570) -/

/-- Reaction ERROR_N: the pulse timer starts at full length, and with MODE 0 HOLD is set (R570). -/
def State.pulseErrn (s : State) : State :=
  let s := s.setF F.CLH_ERRN_STATUS_PULSE 0 1
  (if s.flag F.CLH_ERRN_CFG_MODE 0 then s else s.setF F.CLH_ERRN_STATUS_HOLD 0 1).updateErrn

/-- The chip reset that a raise takes whatever its reactions: a rail of the cores is out of range (R605). -/
def railReset (r : Raise) : Bool := r.src == E.PWR_RAIL_ABSENT && r.detail != 0xFFFFFFFF && r.detail % 4 != 0

/-- The reactions that a raise of a CLASS takes now, in the bit order of REACTIONS: the register bits, less the resets that this source, this mode or
this moment does not take (R564, R565, R567, R568, R605). -/
def State.reactionsOf (s : State) (r : Raise) (cls own : Nat) : Nat :=
  let v := own ||| (if railReset r then 8 else 0) ||| (if cls = 3 then 16 else 0)
  let live := decide (1 ≤ s.mode ∧ s.mode ≤ 6) && cls != 3
  let chip := bit v 3 && live && !(r.src == E.CKG_NO_QUALIFIED_SOURCE && decide (2 < r.detail % 32))
  let blk := bit v 2 && live && !chip && s.canBlockReset r.src
  putBits (putBits v 3 1 (b2n chip)) 2 1 (b2n blk)

/-- The reactions of a raise in the order of R565; `became` says whether its event bit has just become pending. -/
def State.react (s : State) (r : Raise) (reactions : Nat) (became : Bool) : State :=
  let s := if bit reactions 4 then s.pulseErrn else s
  let s := if bit reactions 0 && became then s.groupMsi (r.src / 64) else s
  let s := if bit reactions 1 then { s with tlr := { s.tlr with traps := s.tlr.traps ++ [r.src] } } else s
  if bit reactions 3 then s.chipReset 8
  else if bit reactions 2 then (match resetUnitOf r.src with
    | some u => s.blockReset u
    | none => s)
  else s

/-- A fault record as a raise gives it, its number still open. -/
def State.recordOf (s : State) (r : Raise) (orig cls reactions cause : Nat) (hold : Bool) : FaultRec :=
  { source := r.src, origClass := orig, cls := cls, escalated := cls != orig
    railBreak := r.src == E.CLH_RAIL_BREAK && r.detail != 0xFFFFFFFF, acked := false, reactions := reactions, faultHold := hold, number := 0
    watchNs := r.watchNs, stamp := r.stamp, mode := r.mode, stampValid := r.stampValid, rept := 0
    session := s.fld F.GLB_SESSION_STANDBY_ENTRIES 0, detail := r.detail, cause := cause }

/-- The Clearing House records GLB_FAULT_HOLD once a Grave fault has entered Fault-Hold (R571). -/
def State.recordHold (s : State) (src cause : Nat) : State :=
  let r := s.raiseNow E.GLB_FAULT_HOLD src
  let became := !s.isPending r.src
  let s := s.countEvent r.src
  let v := s.reactionsOf r 3 (s.srcReact r.src)
  ((s.writeRecord (s.recordOf r 3 3 v cause true)).1).react r v became

/-- A raise is handled (R557 to R572): the state and the number of the record it wrote, if it wrote one. -/
def State.handle (s : State) (r : Raise) : State × Option Nat :=
  if srcUsed r.src = 0 || s.flag F.CLH_SRC_CFG_BROKEN r.src then (s, none)
  else
    let became := !s.isPending r.src
    let s := s.countEvent r.src
    let orig := s.fld F.CLH_SRC_CFG_CLASS r.src
    if orig = 0 then (s.react r (s.reactionsOf r 0 (s.srcReact r.src)) became, none)
    else match s.clh.slots.findIdx? fun f => f.source == r.src && !f.acked with
    | some k =>
      let s := s.putSlots (s.clh.slots.modify k fun f => { f with rept := min 255 (f.rept + 1) })
      let v := ((s.clh.slots[k]?).map FaultRec.reactions).getD 0
      (s.react r (s.reactionsOf r 0 v) became, none)
    | none =>
      let esc := s.escalator r.src orig
      let cls := if esc.isSome then orig + 1 else orig
      let cause := esc.getD 0xFFFFFFFF
      let s := if esc.isSome then (s.setCounted F.CLH_STATUS_ESCALATED F.CLH_STATUS_ESC_COUNT 0).note E.CLH_ESCALATED else s
      if cls = 3 && s.flag F.CLH_STATUS_FAULT_HOLD 0 then s.writeRecord (s.recordOf r orig 3 0 cause true)
      else
        let own := s.fld F.CLH_SRC_CFG_REACT r.src ||| s.classReact cls
        let v := s.reactionsOf r cls own
        let (s, n) := s.writeRecord (s.recordOf r orig cls v cause (cls == 3))
        let s := s.react r v became
        if cls = 3 then ((s.enterFaultHold r.src).updateErrn.recordHold r.src (n.getD 0xFFFFFFFF), n) else (s, n)

/-- The place in the central part's list of the raise to handle next: the first watch cycle, and in it the lowest source (R557). -/
def nextRaise (l : List Raise) : Option Nat :=
  (l.zipIdx.foldl (fun (b : Option (Nat × Nat × Nat)) e =>
    let k := (e.1.watchNs / 5, e.1.src)
    match b with
    | some (w, n, i) => if k.1 < w ∨ (k.1 = w ∧ k.2 < n) then some (k.1, k.2, e.2) else some (w, n, i)
    | none => some (k.1, k.2, e.2)) none).map fun b => b.2.2

/-! ### Events -/

/-- FAULT_RAISE (R557): the central part handles the next raise that has reached it. -/
def execFaultRaise (s : State) : Host.Outcome State Fault Refusal :=
  .next (match nextRaise s.clh.central with
    | none => s
    | some i => match s.clh.central[i]? with
      | none => s
      | some r => ({ s with clh := { s.clh with central := s.clh.central.eraseIdx i } }.handle r).1)

/-- A collector is declared lost (R556). -/
def State.loseCollector (s : State) (d : Nat) : State :=
  let s := { s with clh := { s.clh with missing := Tab.set 0 s.clh.missing d 0 } }
  if s.flag F.CLH_COLLECTOR_LINK_OK d then
    ((s.setF F.CLH_COLLECTOR_LINK_OK d 0).setCounted F.CLH_COLLECTOR_LOST F.CLH_COLLECTOR_LOST_COUNT d).raise E.CLH_COLLECTOR_LOST d
  else s

/-- COLLECTOR_FRAME (R556): a frame of die `d`'s collector arrives. A good one delivers what the collector holds, in order; a bad one is sent again, and
the third missing or bad in a row loses the collector. -/
def execCollectorFrame (d : Nat) (good : Bool) (s : State) : Host.Outcome State Fault Refusal :=
  .next (if 10 ≤ d then s
    else if good then
      let s := { s.setF F.CLH_COLLECTOR_LINK_OK d 1 with
        clh := { s.clh with missing := Tab.set 0 s.clh.missing d 0, central := s.clh.central ++ Tab.get [] s.clh.held d
                            held := Tab.set [] s.clh.held d [] } }
      s
    else
      let n := Tab.get 0 s.clh.missing d + 1
      let s := { s.inc F.CLH_COLLECTOR_RETRIES d with clh := { s.clh with missing := Tab.set 0 s.clh.missing d n } }
      if n < 3 then s else s.loseCollector d)

/-- COLLECTOR_LOST (R556): three consecutive frames of die `d`'s collector are missing or bad. -/
def execCollectorLost (d : Nat) (s : State) : Host.Outcome State Fault Refusal := .next (if d < 10 then s.loseCollector d else s)

/-- A rail break of a source whose rails read `rails`, 0 or 3, is declared; DETAIL of its raise is given (R555). -/
def State.breakRails (s : State) (src rails : Nat) : State :=
  (((s.setF F.CLH_SRC_CFG_BROKEN src 1).setF F.CLH_SRC_CFG_RAILS src rails).setCounted F.CLH_STATUS_RAIL_BREAK F.CLH_STATUS_BREAK_COUNT 0)

/-- RAIL_BREAK (R555): the rails of source `src` read 00, or 11 with `high`, for 4 consecutive samples. -/
def execRailBreak (src : Nat) (high : Bool) (s : State) : Host.Outcome State Fault Refusal :=
  .next (if srcUsed src = 1 ∧ !s.flag F.CLH_SRC_CFG_BROKEN src then
      (s.breakRails src (3 * b2n high)).raise E.CLH_RAIL_BREAK (src + 65536 * (3 * b2n high))
    else s)

/-- The rail-break record of a source has been acknowledged: none that names it is open, nor, where no record names it, any (R555, R559). -/
def State.breakAcked (s : State) (src : Nat) : Bool :=
  let mine := s.clh.slots.filter fun r => r.source == E.CLH_RAIL_BREAK && (r.detail == 0xFFFFFFFF || r.detail % 8192 == src)
  if mine.isEmpty then (s.clh.slots.all fun r => r.source != E.CLH_RAIL_BREAK || r.acked) else mine.all fun r => r.acked

/-- RAIL_BREAK_CLEAR (R555): the rails of source `src` have read complementary for 1,024 samples; BROKEN clears once the record is acknowledged. -/
def execRailBreakClear (src : Nat) (s : State) : Host.Outcome State Fault Refusal :=
  .next (if srcUsed src = 1 ∧ s.flag F.CLH_SRC_CFG_BROKEN src then
      let s := s.setF F.CLH_SRC_CFG_RAILS src 1
      if s.breakAcked src then s.setF F.CLH_SRC_CFG_BROKEN src 0 else s
    else s)

/-- BLOCK_RESET_END (R567): unit `u` leaves its block reset and the Teller begins to rewrite it. -/
def execBlockResetEnd (u : Nat) (s : State) : Host.Outcome State Fault Refusal :=
  .next { s with clh := { s.clh with inReset := s.clh.inReset.filter (· != u) } }

/-- BLOCK_RESTORED (R567): the Teller has rewritten unit `u`. -/
def execBlockRestored (u : Nat) (s : State) : Host.Outcome State Fault Refusal :=
  .next (if s.clh.restoring.contains u && !s.clh.inReset.contains u then (s.restoreUnit u).note E.CLH_BLOCK_RESTORED else s)

/-- ERRN_PULSE_END (R570): the pulse timer runs out. -/
def execErrnPulseEnd (s : State) : Host.Outcome State Fault Refusal := .next (s.setF F.CLH_ERRN_STATUS_PULSE 0 0).updateErrn

/-- The records that satisfy a predicate are acknowledged, and HOLD may clear (R563, R570). -/
def State.ackRecords (s : State) (p : FaultRec → Bool) : State :=
  (s.putSlots (s.clh.slots.map fun r => if p r then { r with acked := true } else r)).releaseHold

/-- FAULT_ACK_TIMEOUT (R563): ACK_TIMEOUT_MS of its class, not 0, has passed since record `n` was written. -/
def execFaultAckTimeout (n : Nat) (s : State) : Host.Outcome State Fault Refusal :=
  .next (s.ackRecords fun r => r.number == n && s.fld F.CLH_CLASS_CFG_ACK_TIMEOUT_MS r.cls != 0)

/-- EVENT_HOLDOFF_END (R572): the holdoff of group `g` ends; raises merged in it send one message, which starts the next. -/
def execEventHoldoffEnd (g : Nat) (s : State) : Host.Outcome State Fault Refusal :=
  .next (match Tab.get none s.clh.holdoff g with
    | none => s
    | some waits =>
      let s := { s with clh := { s.clh with holdoff := Tab.set none s.clh.holdoff g none } }
      if waits then s.groupMsi g else s)

/-! ### Commands -/

/-- The TARGET check of a source number: KIND 15, and a number that names a source (R574). -/
def targetSource (r : Req) : Option Nat :=
  match targetError 0x03 15 6144 false r with
  | some e => some e
  | none => if srcUsed r.index = 1 then none else some 3

/-- What FAULT_CONFIG adds to the checks of R94. -/
def State.faultConfigChecks (_ : State) (r : Req) : Checks :=
  { Checks.plain C.FAULT_CONFIG with
      target := targetSource r, dflt := [(A.FAULT_CONFIG_ESCALATE, 1)]
      args := firstFail [
        failIf (srcClass r.index == 3 && r.arg A.FAULT_CONFIG_CLASS != 3) (badArg A.FAULT_CONFIG_CLASS 1),
        failIf (!r.expert && r.arg A.FAULT_CONFIG_CLASS == 3) (badArg A.FAULT_CONFIG_CLASS 1),
        failIf (bit (r.arg A.FAULT_CONFIG_REACT) 2 && (resetUnitOf r.index).isNone) (badArg A.FAULT_CONFIG_REACT 2)] }

/-- What FAULT_CONFIG does once its checks have passed. -/
def State.faultConfigAct (s : State) (r : Req) : Ans :=
      let i := r.index
      let t := ((s.setF F.CLH_SRC_CFG_CLASS i (r.arg A.FAULT_CONFIG_CLASS)).setF F.CLH_SRC_CFG_ESCALATE i (r.arg A.FAULT_CONFIG_ESCALATE)).setF
        F.CLH_SRC_CFG_REACT i (r.arg A.FAULT_CONFIG_REACT)
      .ok t (w32 (t.rd R.CLH_SRC_CFG i))

/-- FAULT_CONFIG (0x0F01, R574). -/
def execFaultConfig (m : Nat) (s : State) : Host.Outcome State Fault Refusal :=
  .next (s.runCmd m C.FAULT_CONFIG s.faultConfigChecks s.faultConfigAct)

/-- What CLASS_CONFIG adds to the checks of R94. -/
def State.classConfigChecks (_ : State) (r : Req) : Checks :=
  { Checks.plain C.CLASS_CONFIG with
      target := targetError 0x03 15 3 false r, dflt := [(A.CLASS_CONFIG_ACK_TIMEOUT_MS, 0)] }

/-- What CLASS_CONFIG does once its checks have passed. -/
def State.classConfigAct (s : State) (r : Req) : Ans :=
      let c := r.index
      let t := (s.setF F.CLH_CLASS_CFG_REACT c (r.arg A.CLASS_CONFIG_REACT)).setF F.CLH_CLASS_CFG_ACK_TIMEOUT_MS c
        (r.arg A.CLASS_CONFIG_ACK_TIMEOUT_MS)
      let t := if c = 0 then t else t.setF F.CLH_CLASS_CFG_ESCALATE c (r.arg A.CLASS_CONFIG_ESCALATE)
      .ok t (w32 (t.rd R.CLH_CLASS_CFG c))

/-- CLASS_CONFIG (0x0F02, R564). -/
def execClassConfig (m : Nat) (s : State) : Host.Outcome State Fault Refusal :=
  .next (s.runCmd m C.CLASS_CONFIG s.classConfigChecks s.classConfigAct)

/-- What EVENT_ROUTE adds to the checks of R94. -/
def State.eventRouteChecks (s : State) (r : Req) : Checks :=
  { Checks.plain C.EVENT_ROUTE with
      target := targetError 0x03 15 96 false r
      dflt := [(A.EVENT_ROUTE_HOLDOFF_US, 0), (A.EVENT_ROUTE_TLR 0, s.rd R.CLH_EVT_TLR_LO r.index), (A.EVENT_ROUTE_TLR 1, s.rd R.CLH_EVT_TLR_HI r.index)] }

/-- What EVENT_ROUTE does once its checks have passed. -/
def State.eventRouteAct (s : State) (r : Req) : Ans :=
      let g := r.index
      let t := (s.setF F.CLH_GROUP_CFG_VECTOR g (r.arg A.EVENT_ROUTE_VECTOR)).setF F.CLH_GROUP_CFG_HOLDOFF_US g (r.arg A.EVENT_ROUTE_HOLDOFF_US)
      let t := t.each (List.range 64) fun b t =>
        if srcUsed (64 * g + b) = 1 then
          t.setF F.CLH_SRC_CFG_REACT (64 * g + b)
            (putBits (t.fld F.CLH_SRC_CFG_REACT (64 * g + b)) 0 1 (b2n (bit (r.arg (A.EVENT_ROUTE_MASK (b / 32))) (b % 32))))
        else t
      let t := (t.wr R.CLH_EVT_TLR_LO g (r.arg (A.EVENT_ROUTE_TLR 0))).wr R.CLH_EVT_TLR_HI g (r.arg (A.EVENT_ROUTE_TLR 1))
      .ok t (w32 (t.rd R.CLH_GROUP_CFG g))

/-- EVENT_ROUTE (0x0F03, R572, R573): the MSI mask is REACT[0] of each source of the group. -/
def execEventRoute (m : Nat) (s : State) : Host.Outcome State Fault Refusal :=
  .next (s.runCmd m C.EVENT_ROUTE s.eventRouteChecks s.eventRouteAct)

/-- The records FAULT_READ returns, in rising number: at most `count` from number `first`, or the latest ones. -/
def State.readRecords (s : State) (r : Req) : List FaultRec :=
  let l := s.clh.slots.filter fun f => !r.on A.FAULT_READ_UNACKED_ONLY || !f.acked
  let l := l.mergeSort fun a b => decide (a.number ≤ b.number)
  let n := r.arg A.FAULT_READ_COUNT
  if r.expert then (l.filter fun f => decide (r.arg A.FAULT_READ_FIRST ≤ f.number)).take n else l.drop (l.length - n)

/-- What FAULT_READ adds to the checks of R94. -/
def State.faultReadChecks (s : State) (r : Req) : Checks :=
  { Checks.plain C.FAULT_READ with
      dflt := [(A.FAULT_READ_FIRST, s.fld F.CLH_REC_HEAD_NEXT 0 - r.arg A.FAULT_READ_COUNT)]
      args := r.range A.FAULT_READ_COUNT 1 63 }

/-- What FAULT_READ does once its checks have passed. -/
def State.faultReadAct (s : State) (r : Req) : Ans :=
      let l := s.readRecords r
      let head := s.fld F.CLH_REC_HEAD_NEXT 0
      .ok s (w32 head ++ w32 ((l.head?.map FaultRec.number).getD head) ++ l.flatMap FaultRec.bytes)

/-- FAULT_READ (0x0F04, R558). With no record to return, FIRST_RETURNED is HEAD. -/
def execFaultRead (m : Nat) (s : State) : Host.Outcome State Fault Refusal :=
  .next (s.runCmd m C.FAULT_READ s.faultReadChecks s.faultReadAct)

/-- What FAULT_ACK adds to the checks of R94. -/
def State.faultAckChecks (_ : State) (r : Req) : Checks :=
  { Checks.plain C.FAULT_ACK with args := r.range A.FAULT_ACK_SCOPE 0 2 }

/-- What FAULT_ACK does once its checks have passed. -/
def State.faultAckAct (s : State) (r : Req) : Ans :=
      let n := r.arg A.FAULT_ACK_RECORD
      let p := fun (f : FaultRec) =>
        if r.arg A.FAULT_ACK_SCOPE = 0 then f.number == n
        else if r.arg A.FAULT_ACK_SCOPE = 1 then decide (f.number ≤ n)
        else f.cls == r.arg A.FAULT_ACK_CLASS
      if r.arg A.FAULT_ACK_SCOPE = 0 && !s.clh.slots.any p then .fail s 0x0302 0
      else
        let k := (s.clh.slots.filter fun f => p f && !f.acked).length
        let t := s.ackRecords p
        .ok t (w32 k ++ w32 (t.rd R.CLH_ERRN_STATUS 0))

/-- FAULT_ACK (0x0F05, R563, R575). -/
def execFaultAck (m : Nat) (s : State) : Host.Outcome State Fault Refusal :=
  .next (s.runCmd m C.FAULT_ACK s.faultAckChecks s.faultAckAct)

/-- What ERRN_CONTROL adds to the checks of R94. -/
def State.errnControlChecks (_ : State) (r : Req) : Checks :=
  { Checks.plain C.ERRN_CONTROL with
      dflt := [(A.ERRN_CONTROL_FORCE, 0)], args := r.range A.ERRN_CONTROL_PULSE_US 1 1000 }

/-- What ERRN_CONTROL does once its checks have passed. -/
def State.errnControlAct (s : State) (r : Req) : Ans :=
      let t := ((s.setF F.CLH_ERRN_CFG_PULSE_US 0 (r.arg A.ERRN_CONTROL_PULSE_US)).setF F.CLH_ERRN_CFG_MODE 0 (r.arg A.ERRN_CONTROL_MODE)).setF
        F.CLH_ERRN_CFG_FORCE 0 (r.arg A.ERRN_CONTROL_FORCE)
      let t := (if r.on A.ERRN_CONTROL_RELEASE then t.setF F.CLH_ERRN_STATUS_HOLD 0 0 else t).updateErrn
      .ok t (w32 (t.rd R.CLH_ERRN_STATUS 0))

/-- ERRN_CONTROL (0x0F06, R569, R570). -/
def execErrnControl (m : Nat) (s : State) : Host.Outcome State Fault Refusal :=
  .next (s.runCmd m C.ERRN_CONTROL s.errnControlChecks s.errnControlAct)

/-- An injected raise passes the path of a raise: it is handled at once where its collector's link is up, else it waits there (R556, R576). -/
def State.injectRaise (s : State) (src by_ : Nat) : State × Option Nat :=
  let s := s.note E.CLH_INJECTED
  if srcOnIsland src || s.flag F.CLH_COLLECTOR_LINK_OK (srcDie by_) then s.handle (s.raiseNow src 0xFFFFFFFF)
  else (s.raise src 0xFFFFFFFF, none)

/-- What FAULT_INJECT adds to the checks of R94. -/
def State.faultInjectChecks (s : State) (r : Req) : Checks :=
  { Checks.plain C.FAULT_INJECT with
      target := targetSource r
      args := firstFail [r.range A.FAULT_INJECT_KIND 0 2, failIf (s.fld F.CLH_SRC_CFG_CLASS r.index == 3) (badArg A.FAULT_INJECT_KIND 1)] }

/-- What FAULT_INJECT does once its checks have passed. -/
def State.faultInjectAct (s : State) (r : Req) : Ans :=
      let i := r.index
      let k := r.arg A.FAULT_INJECT_KIND
      let (t, n) := if k = 0 then s.injectRaise i i
        else if s.flag F.CLH_SRC_CFG_BROKEN i then (s.note E.CLH_INJECTED, none)
        else (s.breakRails i (3 * (k - 1))).injectRaise E.CLH_RAIL_BREAK i
      .ok t (w32 (n.getD 0xFFFFFFFF))

/-- FAULT_INJECT (0x0F07, R576): a raise, or rails that read 00 or 11 for 8 samples, which break them. -/
def execFaultInject (m : Nat) (s : State) : Host.Outcome State Fault Refusal :=
  .next (s.runCmd m C.FAULT_INJECT s.faultInjectChecks s.faultInjectAct)

end Sys2Proof.Machine
end

