-- ==== Sys2Proof/Machine/Power.lean ====
section
/-! DEFINITION. Supplies, the reset balls, the way from Reset to Loader and the PCIe link (R51, R56 to R62, R79, R81, R461, R605, R612, R613). -/
namespace Sys2Proof.Machine

/-! ### VDD_AON -/

/-- The part with every state at its power-on value. The commands that wait, host memory and what the block has already put out are not its own, nor is
the stepping it was made as. -/
def State.erased (s : State) : State :=
  { pending := s.pending, fresh := s.fresh, regs := s.regs.filter fun e => e.1 == R.GLB_STEPPING.base, host := s.host, msix := s.msix
    readData := s.readData }

/-- VDD_AON_POWER_ON (R57, R61): the power-on detector releases; POWER_TAG is sampled from a free-running counter (a free value, log entry 3). -/
def execVddAonPowerOn (s : State) : Host.Outcome State Fault Refusal :=
  .next (s.erased.setF F.GLB_SESSION_POWER_TAG 0 s.freeVal).tookFree

/-- VDD_AON_POWER_LOSS (R61, R82, R605): the island loses what it holds, the Fault-Hold latch and the fault records with it, and the whole part is reset. -/
def execVddAonPowerLoss (s : State) : Host.Outcome State Fault Refusal := .next s.erased

/-! ### The other rails (R58, R605) -/

def State.railGood (s : State) (r : Nat) : Bool := bit (s.fld F.GLB_RAIL_STATUS_GOOD 0) r

/-- The mask of the rails that are not good, in the bit order of GLB_RAIL_STATUS. -/
def State.railsBad (s : State) : Nat := 127 - s.fld F.GLB_RAIL_STATUS_GOOD 0

/-- The PCIe link leaves L0 (R476, R492). Channels that need a write-back stop. -/
def State.linkDown (s : State) : State :=
  if !s.pins.pcieUp then s
  else
    let s := { s.setF F.DMA_PCIE_STATUS_LINK_UP 0 0 with pins := { s.pins with pcieUp := false } }
    let s := (s.setCounted F.DMA_PCIE_STATUS_LINK_DOWN F.DMA_PCIE_STATUS_LINK_DOWN_COUNT 0).note E.DMA_PCIE_LINK_DOWN
    s.each (List.range 28) fun c s => s.finishDesc c

/-- What follows when a rail leaves its window, beside its GOOD bit and the raise (R605). The chip reset for VDD_CORE and VDD_SRAM is the raise's. -/
def State.railLost (s : State) (r : Nat) : State :=
  if r = 2 ∨ r = 3 then (s.each (List.range 1024) fun n s => s.stopLane n).allPortsDown
  else if r = 4 then s.linkDown
  else if r = 5 then s.each [1, 2, 3, 4, 5, 6, 7, 8] fun i s => s.refLost i
  else s

/-- RAIL_OUT_OF_RANGE (R58, R603, R605): rail `r`, in the bit order of GLB_RAIL_STATUS, has stayed outside its good window for 1 µs. -/
def execRailOutOfRange (r : Nat) (s : State) : Host.Outcome State Fault Refusal :=
  .next (if 7 ≤ r ∨ !s.railGood r then s
    else
      let s := s.setF F.GLB_RAIL_STATUS_GOOD 0 (putBits (s.fld F.GLB_RAIL_STATUS_GOOD 0) r 1 0)
      let s := if s.mode = 0 then s else s.raise E.PWR_RAIL_ABSENT s.railsBad
      s.railLost r)

/-- RAIL_IN_RANGE (R58, R603, R605): rail `r` has stayed within its good window for 1 µs. Enabled lanes may transmit again once both lane rails are good. -/
def execRailInRange (r : Nat) (s : State) : Host.Outcome State Fault Refusal :=
  .next (if 7 ≤ r then s
    else
      let s := s.setF F.GLB_RAIL_STATUS_GOOD 0 (putBits (s.fld F.GLB_RAIL_STATUS_GOOD 0) r 1 1)
      if r = 2 ∨ r = 3 then s.each (List.range 1024) fun n s => s.refreshTx n else s)

/-! ### The reset balls (R51, R58, R59, R61, R62, R79, R613) -/

/-- RESET_N_ASSERT (R51, R79, R613): a filtered low on RESET_N. -/
def execResetNAssert (s : State) : Host.Outcome State Fault Refusal :=
  .next (if !s.pins.resetN then s else ({ s with pins := { s.pins with resetN := false } }.pinReset 1))

/-- PERST_N_ASSERT (R51, R61, R62, R79): a filtered low on PERST_N resets the part, or with PERST_SCOPE 1 the host interface; in Fault-Hold it resets the
PCIe interface and the Teller. -/
def execPerstNAssert (s : State) : Host.Outcome State Fault Refusal :=
  .next (if !s.pins.perstN then s
    else
      let s := { s with pins := { s.pins with perstN := false } }
      if s.mode = 7 ∨ s.mode = 0 ∨ !s.flag F.GLB_RESET_CFG_PERST_SCOPE 0 then s.pinReset 2 else s.hostReset)

/-- The core and Teller domains are held in Reset for want of a qualified REFCLK_CORE: one hold, one record (R59, R134, R140). -/
def State.holdCore (s : State) : State :=
  let s := s.each [0, 1, 2] fun d s => s.setF F.CKG_DOMAIN_STATUS_HELD d 1
  let s := s.setF F.CKG_NOQS_LATCH_SET 0 1
  let s := if s.qualified 11 then { s with ckg := { s.ckg with holdEarly := false } }
    else { s.setF F.CKG_NOQS_LATCH_RECORDED 0 0 with ckg := { s.ckg with holdEarly := true } }
  s.recordNoqs

/-- Reset balls go high. In Reset, a release of RESET_N with a rail out of range is recorded (R58), and a release of both without REFCLK_CORE holds the part
(R59). The way out of Reset ends with LOADER_READY. -/
def State.release (s : State) (resetN perstN : Bool) : State :=
  let was := s.pins
  let s := { s with pins := { was with resetN := was.resetN || resetN, perstN := was.perstN || perstN } }
  if s.mode ≠ 0 then s
  else
    let s := if !was.resetN && s.pins.resetN && s.railsBad != 0 then s.raise E.PWR_RAIL_ABSENT s.railsBad else s
    let both := s.pins.resetN && s.pins.perstN
    if both && !(was.resetN && was.perstN) && !s.qualified 0 then s.holdCore else s

/-- RESET_RELEASE (R51, R58, R59): a filtered high on RESET_N, on PERST_N or on both. -/
def execResetRelease (resetN perstN : Bool) (s : State) : Host.Outcome State Fault Refusal := .next (s.release resetN perstN)

/-- PERST_N_RELEASE (R62, R612): PERST_N goes high; the link may train again. -/
def execPerstNRelease (s : State) : Host.Outcome State Fault Refusal := .next (s.release false true)

/-! ### Loader ready, and the boot ROM in Fault-Hold (R52, R60, R79, R81) -/

/-- The I2C address balls are latched where they are not yet (R613). -/
def State.latchI2c (s : State) (addr : Nat) : State :=
  { s with pins := { s.pins with i2cAddr := some (s.pins.i2cAddr.getD (addr % 4)) } }

/-- The boot ROM runs on core 0 and serves MBX_0 and MBX_6 (R45, R80, R84). -/
def State.romServes (s : State) : State :=
  ((s.setF F.TLR_STATUS_ROM 0 1).setF F.TLR_STATUS_CORE_RUN 0 1).serveOnly (aliveMask 1)

/-- The Teller's domain has a source to run from (R135). -/
def State.tellerSource (s : State) : Bool := s.sourceGood 2 0 || s.sourceGood 2 1

/-- A thermal trip keeps the Teller and PCIe clocks stopped until every sensor has been cool for 1 s (R81). -/
def State.tripStops (s : State) : Bool :=
  s.flag F.GOV_TRIP_STATUS_TRIPPED 0 && decide (s.fld F.GOV_TRIP_STATUS_COOL_MS 0 < 1000)

/-- The Teller and PCIe clocks run in Fault-Hold. -/
def State.runHold (s : State) : State := (s.setF F.CKG_DOMAIN_STATUS_RUNNING 2 1).setF F.CKG_DOMAIN_STATUS_RUNNING 3 1

/-- LOADER_READY (R51, R58 to R60, R79): the boot ROM is up, `addr` on the I2C address balls. From Reset the part enters Loader; in Fault-Hold it serves its
two mailboxes again. -/
def execLoaderReady (addr : Nat) (s : State) : Host.Outcome State Fault Refusal :=
  .next (
    let up := s.pins.resetN && s.pins.perstN && s.tellerSource
    if s.mode = 0 then
      if up && s.railsBad == 0 && s.qualified 0 && !s.flag F.CLH_STATUS_FAULT_HOLD 0 then
        (((s.setMode 1).clockMode 1).latchI2c addr).romServes.resetBootWindow
      else s
    else if s.mode = 7 then (if up && !s.tripStops then (s.runHold.latchI2c addr).romServes else s)
    else s)

/-- FAULT_HOLD_RESTART (R52, R81, R613): every release comparator has been cool for 1 s; the Teller and PCIe clocks restart from reset. -/
def execFaultHoldRestart (addr : Nat) (s : State) : Host.Outcome State Fault Refusal :=
  .next (if s.mode = 7 ∧ s.flag F.GOV_TRIP_STATUS_TRIPPED 0 ∧ !s.tripStops ∧ !s.flag F.CKG_DOMAIN_STATUS_RUNNING 2 ∧ s.pins.resetN ∧ s.pins.perstN
      ∧ s.tellerSource then
      s.resetTeller.resetPcie.runHold.latchI2c addr
    else s)

/-! ### The PCIe link (R458, R461, R476, R612) -/

/-- PCIE_LINK_UP (R458, R612): the link has trained to `speed` (1 to 3), `width` lanes and the MPS code `mps`. It needs PERST_N high, VDD_PCIE and the PCIe
clock. -/
def execPcieLinkUp (speed width mps : Nat) (flit : Bool) (s : State) : Host.Outcome State Fault Refusal :=
  .next (if s.mode ≠ 0 ∧ s.pins.perstN ∧ s.railGood 4 ∧ s.flag F.CKG_DOMAIN_STATUS_RUNNING 3 ∧ 1 ≤ speed ∧ speed ≤ 3
      ∧ [1, 2, 4, 8].contains width ∧ mps ≤ 2 then
      let s := ((s.setF F.DMA_PCIE_STATUS_SPEED 0 speed).setF F.DMA_PCIE_STATUS_WIDTH 0 width).setF F.DMA_PCIE_STATUS_MPS 0 mps
      let s := (s.setF F.DMA_PCIE_STATUS_FLIT 0 (b2n flit)).setF F.DMA_PCIE_STATUS_LINK_UP 0 1
      { s with pins := { s.pins with pcieUp := true } }
    else s)

/-- PCIE_LINK_DOWN (R476, R492): the link leaves L0. -/
def execPcieLinkDown (s : State) : Host.Outcome State Fault Refusal := .next s.linkDown

/-- BUS_MASTER_ENABLE_CHANGE (R461): the host writes Bus Master Enable over the link. -/
def execBusMasterEnableChange (on : Bool) (s : State) : Host.Outcome State Fault Refusal :=
  .next (if !s.pins.pcieUp ∨ s.pins.busMaster = on then s
    else ({ s.setF F.DMA_PCIE_STATUS_BME 0 (b2n on) with pins := { s.pins with busMaster := on } }.holdDma on))

end Sys2Proof.Machine
end

