-- ==== Sys2Proof/Machine/Boot.lean ====
section
/-! DEFINITION. The boot window, the download of the Charter and the entry to Standby from Loader (R47, R63 to R74). -/
namespace Sys2Proof.Machine

/-! ### Writes to the boot window (R66, R70, R73, R77) -/

/-- The bytes of a write, cut at multiples of `k` bytes: offset and bytes of each piece, at most as many pieces as the fuel. -/
def piecesOf (k : Nat) : Nat → Nat → List Byte → List (Nat × List Byte)
  | 0, _, _ => []
  | n + 1, o, bs => if bs.isEmpty then [] else (o, bs.take (k - o % k)) :: piecesOf k n (o + (k - o % k)) (bs.drop (k - o % k))

/-- The 32-bit words of a write, whole or in part. -/
def wordPieces (o : Nat) (bs : List Byte) : List (Nat × List Byte) := piecesOf 4 bs.length o bs

/-- FREE of a page buffer. -/
def bufFree (b : Nat) : Fld := if b = 0 then F.BOOT_STATUS_BUF0_FREE else F.BOOT_STATUS_BUF1_FREE

/-- A rejected write of a word, counted (R66, R70, R73, R77). -/
def State.bootReject (s : State) : State := s.inc F.BOOT_WINDOW_REJECTS_COUNT 0

/-- The boot window returns to its state at Loader ready; BOOT_ERR_PAGE and BOOT_WINDOW_REJECTS keep their values (R72). -/
def State.bootAbort (s : State) : State :=
  let e := s.rd R.BOOT_ERR_PAGE 0
  let n := s.rd R.BOOT_WINDOW_REJECTS 0
  (s.resetBootWindow.wr R.BOOT_ERR_PAGE 0 e).wr R.BOOT_WINDOW_REJECTS 0 n

/-- The bits written to BOOT_CTL act: ABORT, alone or with START, ends the download; START begins verification (R71, R72). -/
def State.bootCtl (s : State) (v : Nat) : State :=
  if bit v 1 then s.bootAbort
  else if bit v 0 then (s.setF F.BOOT_CTL_START 0 1).setF F.BOOT_STATUS_VERIFYING 0 1
  else s

/-- An accepted write of a register of the boot window, at an offset from 0x0082_0000. -/
def State.bootReg (s : State) (o : Nat) (w : List Byte) : State :=
  let r := o / 4 * 4
  let b := (r - 0x10) / 0x10
  let word := fun (old : Nat) => leNat (patch (w32 old) (o % 4) w)
  if r = 4 then s.bootCtl (word 0)
  else if r = 0x10 ∨ r = 0x20 then
    if !s.flag (bufFree b) 0 then s.bootReject
    else
      let s := s.setF F.BOOT_PAGE_CTL_INDEX b (word (s.rd R.BOOT_PAGE_CTL b))
      if bit (word 0) 31 then (s.setF F.BOOT_PAGE_CTL_GO b 1).setF (bufFree b) 0 0 else s
  else if r = 0x14 ∨ r = 0x24 then
    if !s.flag (bufFree b) 0 then s.bootReject else s.wr R.BOOT_PAGE_CRC b (word (s.rd R.BOOT_PAGE_CRC b))
  else s

/-- One piece of a write to the boot window by a path, 1 PCIe or 2 SPI, at an offset from 0x0080_0000. -/
def State.bootWord (s : State) (path o : Nat) (w : List Byte) : State :=
  if s.mode ≠ 1 || (path == 2 && s.flag F.GLB_RESET_CFG_SPI_LOCK 0) then s.bootReject
  else if s.fld F.BOOT_STATUS_SOURCE 0 ≠ 0 ∧ s.fld F.BOOT_STATUS_SOURCE 0 ≠ path then (s.setF F.BOOT_STATUS_ERROR 0 6).bootReject
  else if o < 0x20000 then
    if !s.flag (bufFree (o / 0x10000)) 0 then s.bootReject
    else { s.setF F.BOOT_STATUS_SOURCE 0 path with boot := { s.boot with buf := Tab.setList 0 s.boot.buf o w } }
  else s.bootReg (o - 0x20000) w

/-- A write to the boot window at a BAR0 offset (R66, R70, R73); what lies outside it is no write of it. -/
def State.bootWrite (s : State) (path off : Nat) (bs : List Byte) : State :=
  if off < 0x800000 then s
  else s.each (wordPieces (off - 0x800000) bs) fun e s => if e.1 < 0x21000 then s.bootWord path e.1 e.2 else s

/-- A write to the boot window over PCIe, which needs the link (R62). -/
def State.hostBoot (s : State) (off : Nat) (bs : List Byte) : State := if s.bar2Up then s.bootWrite 1 off bs else s

/-- BOOT_BUFFER_WRITE (R66, R70, R73): the host writes bytes at a BAR0 offset of the boot window. -/
def execBootBufferWrite (off : Nat) (bs : List Byte) (s : State) : Host.Outcome State Fault Refusal := .next (s.hostBoot off bs)

/-- BOOT_PAGE_GO (R68): the host writes BOOT_PAGE_CTL of buffer `b` with a page index and GO. -/
def execBootPageGo (b index : Nat) (s : State) : Host.Outcome State Fault Refusal :=
  .next (if b < 2 then s.hostBoot (0x820010 + 0x10 * b) (w32 (index % 512 + 2 ^ 31)) else s)

/-- BOOT_START (R71): the host writes BOOT_CTL.START. -/
def execBootStart (s : State) : Host.Outcome State Fault Refusal := .next (s.hostBoot 0x820004 (w32 1))

/-- BOOT_ABORT (R72): the host writes BOOT_CTL.ABORT. -/
def execBootAbort (s : State) : Host.Outcome State Fault Refusal := .next (s.hostBoot 0x820004 (w32 2))

/-! ### Pages (R67 to R69) -/

/-- An accepted page. -/
def State.bootPage (s : State) (k : Nat) : List Byte := Tab.get [] s.boot.pages k
def State.pageHeld (s : State) (k : Nat) : Bool := !(s.bootPage k).isEmpty

/-- PAGE_COUNT of the header. -/
def State.pageCount (s : State) : Nat := bits (leAt (s.bootPage 0) 24 4) 0 9

/-- A page is rejected (R67, R68, R83). -/
def State.rejectPage (s : State) (error : Nat) : State := (s.setF F.BOOT_STATUS_ERROR 0 error).note E.GLB_BOOT_PAGE_REJECT

/-- The check of the page in buffer `b`: its index (R67), then its CRC (R68). -/
def State.checkPage (s : State) (b : Nat) : State :=
  let k := s.fld F.BOOT_PAGE_CTL_INDEX b
  let page := Tab.getList 0 s.boot.buf (0x10000 * b) 0x10000
  if (!s.pageHeld 0 && k != 0) || (s.pageHeld 0 && decide (s.pageCount ≤ k)) then s.rejectPage 2
  else if crc32 page ≠ s.rd R.BOOT_PAGE_CRC b then (s.setF F.BOOT_ERR_PAGE_PAGE 0 k).rejectPage 1
  else
    let pages := Tab.set [] s.boot.pages k page
    { s with boot := { s.boot with pages := pages } }.setF F.BOOT_STATUS_PAGES_ACCEPTED 0 pages.length

/-- BOOT_PAGE_CHECK_DONE (R67 to R69): the Loader has checked the page handed over in buffer `b`, which is free again. -/
def execBootPageCheckDone (b : Nat) (s : State) : Host.Outcome State Fault Refusal :=
  .next (if b < 2 ∧ s.mode = 1 ∧ s.flag F.BOOT_PAGE_CTL_GO b then
      ((s.checkPage b).setF F.BOOT_PAGE_CTL_GO b 0).setF (bufFree b) 0 1
    else s)

/-! ### Verification (R63, R71) -/

/-- Section `k` of a header: type, first page, pages, bytes of content. -/
structure Section where
  kind : Nat
  first : Nat
  pages : Nat
  length : Nat

/-- The used sections of a header. -/
def sections (h : List Byte) : List Section :=
  ((List.range 8).map fun k =>
    (⟨leAt h (32 + 16 * k) 4 % 256, bits (leAt h (36 + 16 * k) 4) 0 9, bits (leAt h (40 + 16 * k) 4) 0 9, leAt h (44 + 16 * k) 4⟩ : Section)).filter
    fun x => x.kind != 0

/-- The pages a list of sections takes. -/
def pagesOf (l : List Section) : Nat := (l.map Section.pages).foldl (· + ·) 0

/-- A section lies within the image and its content within its pages. -/
def Section.fits (x : Section) (count : Nat) : Bool :=
  decide (x.kind ≤ 4) && decide (1 ≤ x.pages) && decide (1 ≤ x.first) && decide (x.first + x.pages ≤ count) && decide (x.length ≤ 0x10000 * x.pages)

/-- A BOARD section's first page begins with MAGIC and FORMAT of a board table, and its LENGTH is that of one (R71). -/
def State.boardOk (s : State) (x : Section) : Bool :=
  let p := s.bootPage x.first
  leAt p 0 4 == 0xB0A2DE91 && leAt p 4 4 == 1 && x.length == 184320

/-- The section table obeys R63. -/
def State.tableOk (s : State) : Bool :=
  let l := sections (s.bootPage 0)
  let n := s.pageCount
  let of := fun (k : Nat) => l.filter fun x => x.kind == k
  (l.all fun x => x.fits n) && (of 1).length == 1 && (of 2).length == 1 && decide ((of 4).length ≤ 1)
    && decide (pagesOf (of 1) ≤ 112) && decide (pagesOf (of 2) ≤ 1) && decide (pagesOf (of 3) + pagesOf (of 4) ≤ 256)
    && ((List.range (n - 1)).all fun k => (l.filter fun x => decide (x.first ≤ k + 1) && decide (k + 1 < x.first + x.pages)).length == 1)
    && ((of 4).all fun x => s.boardOk x)

/-- The header fields agree with the chip and R63 (R71). STEPPINGS has bit 0 for A0 and bit 1 for B0. -/
def State.headerOk (s : State) : Bool :=
  let h := s.bootPage 0
  leAt h 0 4 == 0xC4A77E52 && leAt h 4 4 == 1 && leAt h 8 4 == s.rd R.GLB_CHIP_ID 0
    && bit (leAt h 12 4) (if s.fld F.GLB_STEPPING_STEPPING 0 = 0xA0 then 0 else 1)
    && decide (2 ≤ s.pageCount) && decide (s.pageCount ≤ 384) && s.tableOk

/-- CRC-32 over pages 1 to PAGE_COUNT − 1. -/
def State.imageCrc (s : State) : Nat := crc32 ((List.range (s.pageCount - 1)).flatMap fun k => s.bootPage (k + 1))

/-- The lowest page that is missing. -/
def State.missingPage (s : State) : Option Nat := lowest (max 1 s.pageCount) fun k => !s.pageHeld k

/-- The first failing check of verification: its error code (R71); `unc` is an error found on readback. -/
def State.verifyError (s : State) (unc : Bool) : Option Nat :=
  if s.missingPage.isSome then some 5
  else if !s.headerOk then some 3
  else if unc then some 7
  else if s.imageCrc ≠ leAt (s.bootPage 0) 28 4 then some 4
  else none

/-! ### Entry to Standby from Loader (R47, R65, R74) -/

/-- The content of the sections of a kind, in table order. -/
def State.charterBytes (s : State) (kind : Nat) : List Byte :=
  ((sections (s.bootPage 0)).filter fun x => x.kind == kind).flatMap fun x =>
    ((List.range x.pages).flatMap fun k => s.bootPage (x.first + k)).take x.length

/-- The Charter's register defaults take effect in the fields whose reset value is the Charter's (log entry 4). -/
def State.loadDefaults (s : State) : State :=
  s.each s.boot.defaults fun e s => match findReg e.1 with
    | none => s
    | some (r, i) => match charterRegs.find? fun c => c.1.base == r.base with
      | none => s
      | some (_, m) => s.wr r i ((s.rd r i ^^^ (s.rd r i &&& m)) ||| (e.2 &&& m))

/-- The Teller moves the sections to their destinations and clears the staging store (R47, R65). -/
def State.placeCharter (s : State) : State :=
  let tables := s.charterBytes 3
  let board := s.charterBytes 4
  let teller := s.charterBytes 1
  let clerk := s.charterBytes 2
  let s := { s with
    tlr := { s.tlr with mem := Tab.setList 0 s.tlr.mem 0 teller }
    boot := { buf := s.boot.buf, tables := tables, clerk := clerk, defaults := Config.charterDefaults tables }
    prs := { s.prs with copy := Config.charterParser tables, fresh := true }
    arrays := [], vlt := {}, cth := {}, ldg := {}, cls := {}, gov := {} }
  let s := s.each (List.range 8) fun w s => s.reloadStore w
  s.loadDefaults.loadBoard board

/-- The version registers of a new Charter (R74). -/
def State.loadVersions (s : State) : State :=
  let h := s.bootPage 0
  let s := ((s.wr R.GLB_CHARTER_VERSION 0 (leAt h 16 4)).wr R.GLB_CHARTER_CRC 0 (leAt h 28 4)).wr R.GLB_CLERK_STORE_VERSION 0 (leAt h 20 4)
  (s.setF F.GLB_PATCH_LEVEL_LEVEL 0 0).setF F.GLB_SESSION_STANDBY_ENTRIES 0 (s.fld F.GLB_SESSION_STANDBY_ENTRIES 0 + 1)

/-- The time base is clocked: with an internal source network time is locked from the start (R390, R428). -/
def State.firstLock (s : State) : State :=
  if s.lockHolds then (s.setF F.TIM_STATUS_LOCKED 0 1).setF F.GLB_MODE_TIME_LOCKED 0 1 else s

/-- The part enters Standby from Loader (R45, R47, R65, R74). -/
def State.enterStandby (s : State) : State :=
  let s := s.loadVersions.placeCharter
  let s := ((s.setF F.BOOT_STATUS_READY 0 0).setF F.BOOT_STATUS_BUF0_FREE 0 0).setF F.BOOT_STATUS_BUF1_FREE 0 0
  let s := (s.setF F.TLR_STATUS_ROM 0 0).setF F.TLR_STATUS_CORE_RUN 0 15
  (((s.setMode 2).clockMode 2).serveOnly (aliveMask 2)).firstLock

/-- The image is discarded after a failed verification (R71). -/
def State.discardImage (s : State) (error : Nat) : State :=
  let s := if error = 5 then s.setF F.BOOT_ERR_PAGE_PAGE 0 (s.missingPage.getD 0) else s
  let s := { s with boot := { s.boot with pages := [] } }
  let s := ((s.setF F.BOOT_STATUS_ERROR 0 error).setF F.BOOT_STATUS_PAGES_ACCEPTED 0 0).setF F.BOOT_STATUS_SOURCE 0 0
  s.note E.GLB_BOOT_IMAGE_BAD

/-- BOOT_VERIFY_DONE (R71): verification ends; `unc` says that the readback met a parity or check-bit error. -/
def execBootVerifyDone (unc : Bool) (s : State) : Host.Outcome State Fault Refusal :=
  .next (if s.mode = 1 ∧ s.flag F.BOOT_STATUS_VERIFYING 0 then
      let error := s.verifyError unc
      let s := (s.setF F.BOOT_STATUS_VERIFYING 0 0).setF F.BOOT_CTL_START 0 0
      match error with
      | some e => s.discardImage e
      | none => (s.setF F.BOOT_STATUS_DONE 0 1).enterStandby
    else s)

end Sys2Proof.Machine
end

