-- ==== Sys2Proof/Machine/Governor.lean ====
section
/-! DEFINITION. The governor: operating points, droop, heat, the power cap, telemetry and its commands (R521 to R551). -/
namespace Sys2Proof.Machine

/-- The modes in which the governor runs (R45, R548). -/
def State.govRuns (s : State) : Bool := bit 0x7C s.mode

/-- The tally unit of a die's governor agent (R493). -/
def govUnit (d : Nat) : Nat := 32 * 13 + d

def State.inForce (s : State) (d : Nat) : Nat := s.fld F.GOV_DIE_OP_IN_FORCE d
def State.govTarget (s : State) (d : Nat) : Nat := s.fld F.GOV_DIE_OP_TARGET d
def State.opStep (s : State) (d : Nat) : Option OpStep := Tab.get none s.gov.step d

/-- STEPPING: a step is pending or in progress. -/
def State.settleStepping (s : State) (d : Nat) : State :=
  s.setF F.GOV_DIE_OP_STEPPING d (b2n ((s.opStep d).isSome || s.govTarget d != s.inForce d))

def State.putStep (s : State) (d : Nat) (x : Option OpStep) : State :=
  { s with gov := { s.gov with step := Tab.set none s.gov.step d x } }.settleStepping d

/-- A die runs at its new point (R526). -/
def State.stepped (s : State) (d dest : Nat) : State :=
  let s := ((s.setF F.GOV_DIE_OP_IN_FORCE d dest).inc F.GOV_DIE_STEPS_STEPS d).unitEvent (govUnit d) 18 1
  s.putStep d none

/-- OP_STEP_START (R526, R530): a die begins a step of one point towards its target. A quire die takes it at once. A spine die that steps up raises its supply first;
a divider step waits until `quiet`, 64 ns without droop, and one that had to wait is counted in DEFERRED. -/
def execOpStepStart (d : Nat) (quiet : Bool) (s : State) : Host.Outcome State Fault Refusal :=
  .next (if 10 ≤ d ∨ !s.govRuns then s
    else
      let ready := quiet && !Tab.get false s.gov.droop d
      match s.opStep d with
      | some st => if st.phase = 0 ∧ ready then s.putStep d (some { st with phase := 2 }) else s
      | none =>
        let now := s.inForce d
        if s.govTarget d = now then s
        else
          let dest := if now < s.govTarget d then now + 1 else now - 1
          if d < 8 then s.stepped d dest
          else if dest < now then s.putStep d (some ⟨dest, 1⟩)
          else if ready then s.putStep d (some ⟨dest, 2⟩)
          else (s.inc F.GOV_DIE_STEPS_DEFERRED d).putStep d (some ⟨dest, 0⟩))

/-- OP_SUPPLY_SETTLED (R526): the raised supply of a spine die has settled, and the divider step follows or waits for its 64 ns. -/
def execOpSupplySettled (d : Nat) (quiet : Bool) (s : State) : Host.Outcome State Fault Refusal :=
  .next (match s.opStep d with
    | some st =>
      if st.phase ≠ 1 ∨ !s.govRuns then s
      else if quiet && !Tab.get false s.gov.droop d then s.putStep d (some { st with phase := 2 })
      else (s.inc F.GOV_DIE_STEPS_DEFERRED d).putStep d (some { st with phase := 0 })
    | none => s)

/-- OP_STEP_DONE (R530): the 4 cycles of a divider step end. -/
def execOpStepDone (d : Nat) (s : State) : Host.Outcome State Fault Refusal :=
  .next (match s.opStep d with
    | some st => if st.phase = 2 ∧ s.govRuns then s.stepped d st.dest else s
    | none => s)

/-! ### Droop (R528 to R532) -/

/-- DROOP_DETECT (R528, R529): a detector of die `d` reports droop, or with `detected` false its report clears, and `cycles` cycles are due a stretch. A quire
die stretches at most 64 in a microsecond and counts the droop that it leaves unstretched. -/
def execDroopDetect (d cycles : Nat) (detected : Bool) (s : State) : Host.Outcome State Fault Refusal :=
  .next (if 10 ≤ d ∨ !s.govRuns then s
    else
      let s := { s with gov := { s.gov with droop := Tab.set false s.gov.droop d detected } }
      let s := if detected then
          let s := (s.inc F.GOV_DIE_DROOP_DROOPS d).unitEvent (govUnit d) 16 1
          { s with gov := { s.gov with window := Tab.set 0 s.gov.window d (Tab.get 0 s.gov.window d + 1) } }
        else s
      if 8 ≤ d then s.unitEvent (govUnit d) 17 cycles
      else
        let us := s.now / 1000
        let old : Nat × Nat := Tab.get (0, 0) s.gov.stretched d
        let used := if old.1 = us then old.2 else 0
        let n := min cycles (64 - used)
        let s := { s with gov := { s.gov with stretched := Tab.set (0, 0) s.gov.stretched d (us, used + n) } }
        let s := s.unitEvent (govUnit d) 17 n
        if n < cycles then (s.inc F.GOV_DIE_DROOP_STRETCH_DENIED d).note E.GOV_STRETCH_DENIED else s)

/-- DROOP_WINDOW (R532): a 10 µs window of die `d` ends; 100 windows make 1 ms. -/
def execDroopWindow (d : Nat) (s : State) : Host.Outcome State Fault Refusal :=
  .next (if 10 ≤ d ∨ !s.govRuns then s
    else
      let lim := s.fld F.GOV_DIE_OP_DROOP_LIMIT d
      let hit := decide (clamp 1 255 (s.fld F.GOV_DROOP_CFG_STEP_COUNT 0) ≤ Tab.get 0 s.gov.window d)
      let calm := if hit then 0 else Tab.get 0 s.gov.calm d + 1
      let s := { s with gov := { s.gov with window := Tab.set 0 s.gov.window d 0, calm := Tab.set 0 s.gov.calm d (calm % 100) } }
      if hit then (if lim < 7 then (s.setF F.GOV_DIE_OP_DROOP_LIMIT d (lim + 1)).note E.GOV_DROOP_STEP else s)
      else if calm = 100 then s.setF F.GOV_DIE_OP_DROOP_LIMIT d (lim - 1) else s)

/-! ### Heat (R533 to R538) -/

/-- The die of a zone (R533). -/
def zoneDie (z : Nat) : Nat := if z < 32 then z / 4 else if z < 40 then 8 else 9

/-- A limit of a zone in units of 0.25 °C, less `h` °C. -/
def State.zoneLimit (s : State) (f : Fld) (z h : Nat) : Int := 4 * (toSigned 8 (s.fld f z) - h)

/-- The hysteresis of a zone (R625). -/
def State.zoneHyst (s : State) (z : Nat) : Nat := clamp 1 15 (s.fld F.GOV_ZONE_LIMIT_HYST z)

def State.zoneTemp (s : State) (z : Nat) : Int := toSigned 12 (s.fld F.GOV_ZONE_STATUS_TEMP z)

/-- The zones of a die. -/
def dieZones (d : Nat) : List Nat := (List.range 48).filter fun z => zoneDie z == d

/-- Twice the median of eight readings. -/
def median2 (l : List Int) : Int :=
  let q := l.mergeSort fun a b => decide (a ≤ b)
  q.getD 3 0 + q.getD 4 0

/-- A sensor reads outside its range or more than 15 °C from the median of its zone (R534). -/
def sensorFaulty (m2 t : Int) : Bool := decide (t < -240) || decide (600 < t) || decide (120 < 2 * t - m2) || decide (2 * t - m2 < -120)

/-- The thermal limit of a die moved one point slower (R535). -/
def State.thermSlower (s : State) (d : Nat) : State := s.setF F.GOV_DIE_OP_THERM_LIMIT d (min 7 (s.fld F.GOV_DIE_OP_THERM_LIMIT d + 1))

/-- A limit of a zone is compared: its ABOVE bit, and on a crossing upwards its SET bit, count and event (R535). -/
def State.zoneCross (s : State) (z : Nat) (t : Int) (lim above set count : Fld) (ev : Nat) : State × Bool :=
  let on := decide (s.zoneLimit lim z 0 ≤ t)
  let up := on && !s.flag above z
  let s := s.setF above z (b2n on)
  if up then ((s.setCounted set count z).note ev, true) else (s, false)

/-- A zone's eight readings are taken (R533 to R536). -/
def State.sampleZone (s : State) (z : Nat) (l : List Int) : State :=
  let m2 := median2 l
  let s := s.each (List.range 8) fun k s =>
    let i := 8 * z + k
    let t := l.getD k 0
    let bad := sensorFaulty m2 t
    let new := bad && !s.flag F.GOV_SENSOR_FAULT i
    let s := (s.setF F.GOV_SENSOR_TEMP i (ofSigned 12 t)).setF F.GOV_SENSOR_FAULT i (b2n bad)
    if new then s.note E.GOV_SENSOR_FAULT else s
  let good := l.filter fun t => !sensorFaulty m2 t
  let t := if good.length < 4 then s.zoneLimit F.GOV_ZONE_LIMIT_THROTTLE z 0 else good.foldl max (good.headD 0)
  let s := (s.setF F.GOV_ZONE_STATUS_TEMP z (ofSigned 12 t)).setF F.GOV_ZONE_STATUS_GOOD z good.length
  let s := (s.zoneCross z t F.GOV_ZONE_LIMIT_WARN F.GOV_ZONE_STATUS_ABOVE_WARN F.GOV_ZONE_STATUS_WARN_SET F.GOV_ZONE_COUNT_WARN_COUNT
    E.GOV_ZONE_WARN).1
  let (s, up) := s.zoneCross z t F.GOV_ZONE_LIMIT_THROTTLE F.GOV_ZONE_STATUS_ABOVE_THROTTLE F.GOV_ZONE_STATUS_THROTTLE_SET
    F.GOV_ZONE_COUNT_THROTTLE_COUNT E.GOV_ZONE_THROTTLE
  let s := if up then s.thermSlower (zoneDie z) else s
  let s := (s.zoneCross z t F.GOV_ZONE_LIMIT_CRITICAL F.GOV_ZONE_STATUS_ABOVE_CRITICAL F.GOV_ZONE_STATUS_CRITICAL_SET
    F.GOV_ZONE_COUNT_CRITICAL_COUNT E.GOV_ZONE_CRITICAL).1
  if s.flag F.GOV_ZONE_STATUS_ABOVE_CRITICAL z then { s with gov := { s.gov with tripPending := true } } else s

/-- SENSOR_SAMPLE (R533): every sensor is sampled, in units of 0.25 °C; a sensor that `temps` does not name keeps its reading. -/
def execSensorSample (temps : List Int) (s : State) : Host.Outcome State Fault Refusal :=
  .next (if !s.govRuns then s
    else s.each (List.range 48) fun z s =>
      s.sampleZone z ((List.range 8).map fun k =>
        (temps[8 * z + k]?).elim (toSigned 12 (s.fld F.GOV_SENSOR_TEMP (8 * z + k))) fun t => max (-2048) (min 2047 t)))

/-- THERM_STEP_TIMER (R535): STEP_US has passed with a zone of die `d` still at THROTTLE or more. -/
def execThermStepTimer (d : Nat) (s : State) : Host.Outcome State Fault Refusal :=
  .next (if s.govRuns && decide (d < 10) && (dieZones d).any fun z => s.flag F.GOV_ZONE_STATUS_ABOVE_THROTTLE z then s.thermSlower d else s)

/-- THERM_RELEASE_TIMER (R535, R536): RELEASE_US has passed with every zone of die `d` below THROTTLE − HYST, and its limit moves one point faster; with `trip`,
with every zone below CRITICAL − HYST, and TRIP_PENDING ends. -/
def execThermReleaseTimer (d : Nat) (trip : Bool) (s : State) : Host.Outcome State Fault Refusal :=
  .next (if !s.govRuns then s
    else if trip then
      (if (List.range 48).all fun z => decide (s.zoneTemp z < s.zoneLimit F.GOV_ZONE_LIMIT_CRITICAL z (s.zoneHyst z)) then
        { s with gov := { s.gov with tripPending := false } }
       else s)
    else if d < 10 ∧ (dieZones d).all fun z => decide (s.zoneTemp z < s.zoneLimit F.GOV_ZONE_LIMIT_THROTTLE z (s.zoneHyst z)) then
      s.setF F.GOV_DIE_OP_THERM_LIMIT d (s.fld F.GOV_DIE_OP_THERM_LIMIT d - 1)
    else s)

/-- THERMTRIP (R537): the trip comparator of `sensor` passes 135 °C, in any mode while VDD_CORE is good: THERMTRIP_N falls and stays low, and the first sensor
is kept. -/
def execThermtrip (sensor : Nat) (s : State) : Host.Outcome State Fault Refusal :=
  .next (if sensor < 384 ∧ bit (s.fld F.GLB_RAIL_STATUS_GOOD 0) 0 then
      let s := { s with pins := { s.pins with thermtrip := true } }
      let s := if s.flag F.GOV_TRIP_STATUS_TRIPPED 0 then s
        else (s.setF F.GOV_TRIP_STATUS_SENSOR 0 sensor).setF F.GOV_TRIP_STATUS_TRIPPED 0 1
      s.raise E.GOV_THERMTRIP (s.fld F.GOV_TRIP_STATUS_SENSOR 0)
    else s)

/-- TRIP_RELEASE_SAMPLE (R538): the release comparators are sampled; `below` says that all 384 report below 115 °C, which they cannot without VDD_CORE. -/
def execTripReleaseSample (below : Bool) (s : State) : Host.Outcome State Fault Refusal :=
  .next (if below && bit (s.fld F.GLB_RAIL_STATUS_GOOD 0) 0 then
      (if s.flag F.GOV_TRIP_STATUS_COOL 0 then s.setF F.GOV_TRIP_STATUS_COOL_MS 0 (min 2047 (s.fld F.GOV_TRIP_STATUS_COOL_MS 0 + 1))
       else (s.setF F.GOV_TRIP_STATUS_COOL 0 1).setF F.GOV_TRIP_STATUS_COOL_MS 0 0)
    else (s.setF F.GOV_TRIP_STATUS_COOL 0 0).setF F.GOV_TRIP_STATUS_COOL_MS 0 0)

/-! ### The cap (R539 to R542) -/

def State.capFloor (s : State) : Nat := clamp 1 7 (s.fld F.GOV_CAP_CFG_CAP_FLOOR_OP 0)
def State.capW (s : State) : Nat := clamp 300 1100 (s.fld F.GOV_CAP_CAP_W 0)
def State.capLevel (s : State) : Nat := s.gov.raises.length

/-- The highest level: purse budgeting, 10 × CAP_FLOOR_OP points, 7 slots (R540). -/
def State.capMax (s : State) : Nat := 8 + 10 * s.capFloor

/-- LEVEL, ENGAGED, the cap limits and SLOTS as the standing raises give them. -/
def State.settleCap (s : State) : State :=
  let s := (s.setF F.GOV_CAP_STATUS_LEVEL 0 s.capLevel).setF F.GOV_CAP_STATUS_ENGAGED 0 (b2n (0 < s.capLevel))
  let s := s.each (List.range 10) fun d s => s.setF F.GOV_DIE_OP_CAP_LIMIT d (min 7 (s.gov.raises.filter (· == d)).length)
  s.each (List.range 32) fun i s => s.setF F.GOV_PIPE_STATUS_SLOTS i (8 - (s.gov.raises.filter (· == 11)).length)

/-- The die whose cap limit moves next: the highest estimate among those faster than CAP_FLOOR_OP, the lowest number on a tie. -/
def State.capDie (s : State) : Option Nat :=
  ((List.range 10).filter fun d => decide (s.fld F.GOV_DIE_OP_CAP_LIMIT d < s.capFloor)).foldl (fun (b : Option Nat) d => match b with
    | some x => if s.fld F.GOV_DIE_POWER_EST_W x < s.fld F.GOV_DIE_POWER_EST_W d then some d else b
    | none => some d) none

/-- The level rises by one (R540). -/
def State.capRaise (s : State) : State :=
  if s.capMax ≤ s.capLevel then s
  else
    let l := s.capLevel + 1
    let what := if l = 1 then 10 else if l ≤ 1 + 10 * s.capFloor then s.capDie.getD 11 else 11
    let s := { s with gov := { s.gov with raises := what :: s.gov.raises, below := 0 } }.settleCap
    if l = 1 then (s.setCounted F.GOV_CAP_STATUS_ENGAGE_SET F.GOV_CAP_STATUS_ENGAGE_COUNT 0).note E.GOV_CAP_ENGAGED else s

/-- CAP_TICK (R540): the 10 µs tick of the cap controller. -/
def execCapTick (s : State) : Host.Outcome State Fault Refusal :=
  .next (if !s.govRuns then s
    else
      let every := decide (0 < s.gov.ticks) && s.gov.above == s.gov.ticks
      let s := { s with gov := { s.gov with ticks := 0, above := 0 } }
      if every then s.capRaise
      else if 500 ≤ s.gov.below then { s with gov := { s.gov with raises := s.gov.raises.drop 1 } }.settleCap
      else s)

/-- p exceeds CAP_W (R540). -/
def State.overCap (s : State) : Bool := decide (16 * s.capW < s.fld F.GOV_POWER_EST_W 0)

/-- CAP_UNREACHABLE_TIMER (R542): at the maximum level p has exceeded CAP_W for 1 ms. -/
def execCapUnreachableTimer (s : State) : Host.Outcome State Fault Refusal :=
  .next (if s.govRuns && s.capLevel == s.capMax && s.overCap && !s.flag F.GOV_CAP_STATUS_UNREACHABLE 0 then
      ((s.setF F.GOV_CAP_STATUS_UNREACHABLE 0 1).setCounted F.GOV_CAP_STATUS_UNREACH_SET F.GOV_CAP_STATUS_UNREACH_COUNT 0).note E.GOV_CAP_UNREACHABLE
    else s)

/-- The regulators in use are read, entry k answering `reads[k]` as READ_IOUT in 0.25 A and READ_VOUT in mV, or failing (R539). The correction of a rail's gain
is within ±20 %; its value is free. -/
def State.readPmbus (s : State) (reads : List (Option (Nat × Nat))) : State :=
  if !s.govRuns || !s.flag F.GOV_PMBUS_CFG_ENABLE 0 then s
  else s.each (List.range 8) fun k s =>
    if !bit (s.fld F.GOV_PMBUS_CFG_RAILS 0) k then s
    else match reads.getD k none with
      | some (i, v) =>
        let s := s.wr R.GOV_PMBUS_READ k (i % 65536 + 65536 * (v % 65536))
        (s.wr R.GOV_PMBUS_RAIL k (putBits (s.rd R.GOV_PMBUS_RAIL k) 16 16 (3277 + s.freeVal % 1639))).tookFree
      | none => (s.setCounted F.GOV_PMBUS_CFG_FAULT F.GOV_PMBUS_CFG_FAULT_COUNT 0).note E.GOV_PMBUS_FAULT

/-- PMBUS_POLL (R539): the read of every 1 ms. -/
def execPmbusPoll (reads : List (Option (Nat × Nat))) (s : State) : Host.Outcome State Fault Refusal := .next (s.readPmbus reads)

/-- PMBUS_ALERT (R615): PMBUS_ALERT_N falls and every configured regulator is read at once. -/
def execPmbusAlert (reads : List (Option (Nat × Nat))) (s : State) : Host.Outcome State Fault Refusal := .next (s.readPmbus reads)

/-! ### The control period (R541, R543 to R547) -/

def State.profileOp (s : State) (p : Nat) : Nat := s.fld F.GOV_PROFILE_OP p
def State.profileAllow (s : State) (p : Nat) : Nat := s.fld F.GOV_PROFILE_ALLOWANCE p

/-- The enabled lockstep syndicates, each with the quire dies of its members and its profile (R450, R545). -/
def State.lockGroups (s : State) : List (List Nat × Nat) :=
  ((List.range 256).filter fun y => s.flag F.CTH_SYN_CFG_ENABLE y && s.flag F.CTH_SYN_CFG_LOCKSTEP y && s.flag F.CTH_SYN_CFG_EXISTS y).map fun y =>
    (((List.range (s.fld F.CTH_SYN_SIZE_MEMBERS y)).map fun m => dieOfLane (memberPort (s.memberEntry y m))).dedup, s.fld F.CTH_SYN_CFG_PROFILE y)

/-- The dies grouped with a die: groups that share a die merge (R545). -/
def mergeDies (gs : List (List Nat × Nat)) (l : List Nat) : Nat → List Nat
  | 0 => l
  | n + 1 => mergeDies gs ((l ++ (gs.filter fun g => g.1.any l.contains).flatMap Prod.fst).dedup) n

/-- The phase profiles that the ports of a list request (R422, R544). -/
def State.phasesOf (s : State) (p : Nat → Bool) : List Nat := (s.tim.phase.filter fun e => p e.1).filterMap Prod.snd

/-- The lockstep profiles on a quire die. -/
def locksOn (gs : List (List Nat × Nat)) (d : Nat) : List Nat := (gs.filter fun g => g.1.contains d).map Prod.snd

def minOf (d : Nat) (l : List Nat) : Nat := l.foldl min d
def maxOf (d : Nat) (l : List Nat) : Nat := l.foldl max d

/-- The demand of a quire die, and the code of the source that gives it: 4 host profile, 5 phase, 6 lockstep, the lowest of those that tie (R544, R547). -/
def State.quireDemand (s : State) (gs : List (List Nat × Nat)) (d : Nat) : Nat × Nat :=
  let host := s.profileOp (s.fld F.GOV_DIE_SEL_HOST_PROFILE d)
  let phase := minOf 8 ((s.phasesOf fun p => dieOfLane p == d).map s.profileOp)
  let lock := minOf 8 ((locksOn gs d).map s.profileOp)
  let v := min host (min phase lock)
  (v, if v = host then 4 else if v = phase then 5 else 6)

/-- The demand of a die and its source; a spine die's attached quire dies bring theirs. -/
def State.dieDemand (s : State) (gs : List (List Nat × Nat)) (d : Nat) : Nat × Nat :=
  if d < 8 then s.quireDemand gs d
  else
    let host := s.profileOp (s.fld F.GOV_DIE_SEL_HOST_PROFILE d)
    let below := (List.range 4).map fun k => s.quireDemand gs (4 * (d - 8) + k)
    let v := minOf host (below.map Prod.fst)
    (v, if v = host then 4 else minOf 6 ((below.filter fun b => b.1 == v).map Prod.snd))

/-- The limit of a die (R544). -/
def State.dieLimit (s : State) (d : Nat) : Nat :=
  if s.gov.tripPending then 7
  else max (s.fld F.GOV_DIE_OP_THERM_LIMIT d) (max (s.fld F.GOV_DIE_OP_CAP_LIMIT d) (s.fld F.GOV_DIE_OP_DROOP_LIMIT d))

/-- The allowance that demand sets for a pipeline, and the code of its source (R546, R547). -/
def State.pipeDemand (s : State) (gs : List (List Nat × Nat)) (i : Nat) : Nat × Nat :=
  let host := s.profileAllow (s.fld F.GOV_DIE_SEL_HOST_PROFILE (i / 4))
  let phase := (s.phasesOf fun p => p / 32 == i).map s.profileAllow
  let v := maxOf (maxOf host phase) ((locksOn gs (i / 4)).map s.profileAllow)
  (v, if v = host then 4 else if phase.contains v then 5 else 6)

/-- The budget of R541 in units of 1/16 pJ; p and D are those of the registers and of the period. -/
def State.budget (s : State) (debit : Nat) : Nat :=
  let gain := clamp 1 15 (s.fld F.GOV_CAP_CFG_GAIN 0)
  ((debit : Int) + gain * ((16 * s.capW : Nat) - (s.fld F.GOV_POWER_EST_W 0 : Nat) : Int) * 6250).toNat

def State.share (s : State) (i : Nat) : Nat := clamp 1 255 (s.fld F.GOV_PIPE_CFG_SHARE i)

/-- share_i of R541. -/
def State.capShare (s : State) (budget i : Nat) : Nat :=
  min 65534 (budget * s.share i / (nJ * ((List.range 32).map s.share).foldl (· + ·) 0))

/-- REASONS of a die, as a mask of codes less one: `src` and `own` are its demand's source and its target before group resolution (R547). -/
def State.reasons (s : State) (gs : List (List Nat × Nat)) (d src own budget : Nat) : Nat :=
  let dem := s.fld F.GOV_DIE_OP_DEMAND d
  let lim := s.dieLimit d
  let sets := fun (f : Fld) => s.fld f d == lim && decide (dem < lim) && decide (dem < s.inForce d)
  let pipes := if d < 8 then (List.range 4).map fun k => 4 * d + k else []
  let p := pipes.map fun i => (s.pipeDemand gs i, s.fld F.GOV_PIPE_STATUS_SLOTS i, s.capShare budget i)
  let capped := p.any fun x => (decide (0 < s.capLevel) && decide (x.2.2 < x.1.1)) || decide (x.2.1 < 8)
  let from_ := fun (c : Nat) => (src == c && decide (0 < dem)) || p.any fun x => x.1.2 == c && decide (x.1.1 < 65535)
  maskOf 7 fun k =>
    if k = 0 then sets F.GOV_DIE_OP_THERM_LIMIT
    else if k = 1 then sets F.GOV_DIE_OP_CAP_LIMIT || capped
    else if k = 2 then sets F.GOV_DIE_OP_DROOP_LIMIT
    else if k = 3 then from_ 4
    else if k = 4 then from_ 5
    else if k = 5 then decide (own < s.govTarget d)
    else s.gov.tripPending

/-- REASONS of a die replaced: a start is stamped, and 100 ns in force are counted (R547). -/
def State.putReasons (s : State) (d mask : Nat) : State :=
  let old := s.fld F.GOV_DIE_OP_REASONS d
  let s := s.setF F.GOV_DIE_OP_REASONS d mask
  s.each (List.range 7) fun k s =>
    if !bit mask k then s
    else
      let s := if bit old k then s else s.wr R.GOV_REASON_LAST (k + 7 * d) s.stamp
      let n := Tab.get 0 s.gov.tenths (8 * d + k) + 1
      let s := { s with gov := { s.gov with tenths := Tab.set 0 s.gov.tenths (8 * d + k) (n % 10) } }
      if n = 10 then s.inc F.GOV_REASON_US_VALUE (k + 7 * d) else s

/-- The estimate of a period joins the average (R522, R539). -/
def State.averagePower (s : State) (total : Nat) : State :=
  let l := (total :: s.gov.powers).take (10 * clamp 1 1000 (s.fld F.GOV_CAP_CFG_AVG_US 0))
  { s with gov := { s.gov with powers := l } }.setF F.GOV_POWER_EST_W 0 (satBits 16 (l.foldl (· + ·) 0 / l.length))

/-- The estimates and hottest zones of the dies. -/
def State.dieEstimates (s : State) (dies : List Nat) : State :=
  s.each (List.range 10) fun d s =>
    let t := (dieZones d).foldl (fun (a : Int) z => max a (s.zoneTemp z)) (s.zoneTemp ((dieZones d).headD 0))
    (s.setF F.GOV_DIE_POWER_EST_W d (satBits 16 (dies.getD d 0))).setF F.GOV_DIE_POWER_TEMP d (ofSigned 12 t)

/-- A period is counted by how its average stands to the cap (R540). -/
def State.countPeriod (s : State) : State :=
  let calm := decide (s.fld F.GOV_POWER_EST_W 0 < 16 * (s.capW - clamp 1 255 (s.fld F.GOV_CAP_CFG_RELEASE_W 0)))
  { s with gov := { s.gov with ticks := s.gov.ticks + 1, above := s.gov.above + b2n s.overCap,
                               below := if calm then s.gov.below + 1 else 0 } }

/-- The estimates of a period (R539, R540): p is averaged over AVG_US. -/
def State.estimate (s : State) (total : Nat) (dies : List Nat) : State :=
  let s := ((s.averagePower total).dieEstimates dies).countPeriod
  if s.overCap then s else s.setF F.GOV_CAP_STATUS_UNREACHABLE 0 0

/-- GOVERNOR_PERIOD (R544): the central governor takes the agents' reports, whose sums by the Charter's coefficients are `total` and `dies` in 1/16 W, resolves
every die, and sends the allowances. -/
def execGovernorPeriod (total : Nat) (dies : List Nat) (s : State) : Host.Outcome State Fault Refusal :=
  .next (if !s.govRuns then s
    else
      let debit := s.gov.debited
      let s := { s with gov := { s.gov with debited := 0 } }.estimate total dies
      let s := s.setF F.GOV_POWER_DEBIT_NJ 0 (satBits 16 (debit / nJ / 16))
      let budget := s.budget debit
      let s := s.setF F.GOV_BUDGET_BUDGET_NJ 0 (if 0 < s.capLevel then satBits 24 (budget / nJ) else 0)
      let gs := s.lockGroups
      let dem := (List.range 10).map fun d => s.dieDemand gs d
      let own := (List.range 10).map fun d => max (dem.getD d (0, 4)).1 (s.dieLimit d)
      let s := s.each (List.range 10) fun d s =>
        let locks := locksOn gs d
        let best := minOf 8 (locks.map s.profileOp)
        let group := if locks.isEmpty then [d] else mergeDies gs [d] 8
        let s := (s.setF F.GOV_DIE_OP_DEMAND d (dem.getD d (0, 4)).1).setF F.GOV_DIE_OP_TARGET d (maxOf 0 (group.map fun x => own.getD x 0))
        let s := (s.setF F.GOV_DIE_SEL_LOCKSTEP d (b2n (!locks.isEmpty))).setF F.GOV_DIE_SEL_LOCKSTEP_PROFILE d
          (minOf 15 (locks.filter fun p => s.profileOp p == best) % (if locks.isEmpty then 1 else 16))
        s.settleStepping d
      let s := s.each (List.range 10) fun d s => s.putReasons d (s.reasons gs d (dem.getD d (0, 4)).2 (own.getD d 0) budget)
      let s := s.each [0, 1] fun w s =>
        let x := 8 + w
        let n := min (s.inForce x) (s.dieLimit x) - s.fld F.GOV_DIE_OP_DEMAND x
        s.setF F.CTH_DIE_STATUS_THROTTLE w (max 1 (8 - n) % 8)
      s.each (List.range 32) fun i s =>
        let dm := (s.pipeDemand gs i).1
        let sent := if s.gov.tripPending then 0 else if 0 < s.capLevel then min dm (s.capShare budget i) else dm
        let s := (s.setF F.GOV_PIPE_ALLOW_DEMAND i dm).setF F.GOV_PIPE_ALLOW_SENT i sent
        let s := if s.fld F.GOV_PIPE_STATUS_SLOTS i < 8 then s.unitEvent (govUnit (8 + i / 16)) 19 1 else s
        if bit 0x78 s.mode then s.refillPurse i sent else s)

/-! ### Commands -/

/-- What GOV_CAP_CONFIG adds to the checks of R94. -/
def State.govCapConfigChecks (s : State) (r : Req) : Checks :=
  { Checks.plain C.GOV_CAP_CONFIG with
      target := targetWhole 0x04 r
      dflt := [(A.GOV_CAP_CONFIG_AVG_US, 10), (A.GOV_CAP_CONFIG_RELEASE_W, 20), (A.GOV_CAP_CONFIG_GAIN, 4), (A.GOV_CAP_CONFIG_CAP_FLOOR_OP, 7)]
        ++ (List.range 32).map fun i => (A.GOV_CAP_CONFIG_SHARE i, s.fld F.GOV_PIPE_CFG_SHARE i)
      args := firstFail ([r.range A.GOV_CAP_CONFIG_CAP_W 300 1100] ++ (if r.expert then
        [r.range A.GOV_CAP_CONFIG_AVG_US 1 1000, r.range A.GOV_CAP_CONFIG_RELEASE_W 1 255, r.range A.GOV_CAP_CONFIG_GAIN 1 15,
         r.range A.GOV_CAP_CONFIG_CAP_FLOOR_OP 1 7] ++ (List.range 32).map fun i => r.range (A.GOV_CAP_CONFIG_SHARE i) 1 255 else []))
      units := [1] }

/-- The cap's registers as GOV_CAP_CONFIG gives them. -/
def State.setCap (s : State) (r : Req) : State :=
  let t := (s.setF F.GOV_CAP_CAP_W 0 (r.arg A.GOV_CAP_CONFIG_CAP_W)).setF F.GOV_CAP_CFG_AVG_US 0 (r.arg A.GOV_CAP_CONFIG_AVG_US)
  let t := ((t.setF F.GOV_CAP_CFG_RELEASE_W 0 (r.arg A.GOV_CAP_CONFIG_RELEASE_W)).setF F.GOV_CAP_CFG_GAIN 0 (r.arg A.GOV_CAP_CONFIG_GAIN)).setF
    F.GOV_CAP_CFG_CAP_FLOOR_OP 0 (r.arg A.GOV_CAP_CONFIG_CAP_FLOOR_OP)
  t.each (List.range 32) fun i t => t.setF F.GOV_PIPE_CFG_SHARE i (r.arg (A.GOV_CAP_CONFIG_SHARE i))

/-- The cap level falls to what the configuration still allows. -/
def State.lowerCap (s : State) : State := { s with gov := { s.gov with raises := s.gov.raises.drop (s.capLevel - s.capMax) } }.settleCap

/-- What GOV_CAP_CONFIG does once its checks have passed. -/
def State.govCapConfigAct (s : State) (r : Req) : Ans :=
      let t := (s.setCap r).lowerCap
      .ok t (w32 (t.rd R.GOV_CAP_CFG 0) ++ w32 (t.rd R.GOV_CAP_STATUS 0))

/-- GOV_CAP_CONFIG (0x0E01, R549). -/
def execGovCapConfig (m : Nat) (s : State) : Host.Outcome State Fault Refusal :=
  .next (s.runCmd m C.GOV_CAP_CONFIG s.govCapConfigChecks s.govCapConfigAct)

/-- What GOV_PROFILE_SET adds to the checks of R94. -/
def State.govProfileSetChecks (_ : State) (r : Req) : Checks :=
  { Checks.plain C.GOV_PROFILE_SET with target := targetError 0x04 15 16 false r, units := [1] }

/-- What GOV_PROFILE_SET does once its checks have passed. -/
def State.govProfileSetAct (s : State) (r : Req) : Ans :=
      let t := (s.setF F.GOV_PROFILE_OP r.index (r.arg A.GOV_PROFILE_SET_OP)).setF F.GOV_PROFILE_ALLOWANCE r.index
        (r.arg A.GOV_PROFILE_SET_ALLOWANCE)
      .ok t (w32 (t.rd R.GOV_PROFILE r.index))

/-- GOV_PROFILE_SET (0x0E02, R544). -/
def execGovProfileSet (m : Nat) (s : State) : Host.Outcome State Fault Refusal :=
  .next (s.runCmd m C.GOV_PROFILE_SET s.govProfileSetChecks s.govProfileSetAct)

/-- What GOV_PROFILE_SELECT adds to the checks of R94. -/
def State.govProfileSelectChecks (_ : State) (r : Req) : Checks :=
  { Checks.plain C.GOV_PROFILE_SELECT with target := targetError 0x04 14 10 true r, units := [1] }

/-- What GOV_PROFILE_SELECT does once its checks have passed. -/
def State.govProfileSelectAct (s : State) (r : Req) : Ans :=
      let l := r.instances 10
      let t := s.each l fun d t => t.setF F.GOV_DIE_SEL_HOST_PROFILE d (r.arg A.GOV_PROFILE_SELECT_PROFILE)
      .ok t (w32 (t.rd R.GOV_DIE_SEL (l.headD 0)))

/-- GOV_PROFILE_SELECT (0x0E03, R544). -/
def execGovProfileSelect (m : Nat) (s : State) : Host.Outcome State Fault Refusal :=
  .next (s.runCmd m C.GOV_PROFILE_SELECT s.govProfileSelectChecks s.govProfileSelectAct)

/-- What GOV_ZONE_CONFIG adds to the checks of R94. -/
def State.govZoneConfigChecks (s : State) (r : Req) : Checks :=
      let v := fun (a : Arg) => toSigned 8 (r.arg a)
      let low := fun (a : Arg) => failIf (decide (v a < -40)) (badArg a 1)
      { Checks.plain C.GOV_ZONE_CONFIG with
        target := targetError 0x04 15 48 true r
        dflt := [(A.GOV_ZONE_CONFIG_HYST, 3), (A.GOV_ZONE_CONFIG_STEP_US, s.fld F.GOV_THERM_CFG_STEP_US 0),
          (A.GOV_ZONE_CONFIG_RELEASE_US, s.fld F.GOV_THERM_CFG_RELEASE_US 0)]
        args := firstFail ([low A.GOV_ZONE_CONFIG_WARN, low A.GOV_ZONE_CONFIG_THROTTLE, low A.GOV_ZONE_CONFIG_CRITICAL,
          failIf (decide (v A.GOV_ZONE_CONFIG_THROTTLE < v A.GOV_ZONE_CONFIG_WARN) || decide (v A.GOV_ZONE_CONFIG_CRITICAL < v A.GOV_ZONE_CONFIG_THROTTLE))
            (badArg A.GOV_ZONE_CONFIG_WARN 1)] ++ (if r.expert then
          [r.range A.GOV_ZONE_CONFIG_HYST 1 15, r.range A.GOV_ZONE_CONFIG_STEP_US 10 65535, r.range A.GOV_ZONE_CONFIG_RELEASE_US 10 65535] else []))
        units := [1] }

/-- What GOV_ZONE_CONFIG does once its checks have passed. -/
def State.govZoneConfigAct (s : State) (r : Req) : Ans :=
      let l := r.instances 48
      let t := s.each l fun z t =>
        (((t.setF F.GOV_ZONE_LIMIT_WARN z (r.arg A.GOV_ZONE_CONFIG_WARN)).setF F.GOV_ZONE_LIMIT_THROTTLE z (r.arg A.GOV_ZONE_CONFIG_THROTTLE)).setF
          F.GOV_ZONE_LIMIT_CRITICAL z (r.arg A.GOV_ZONE_CONFIG_CRITICAL)).setF F.GOV_ZONE_LIMIT_HYST z (r.arg A.GOV_ZONE_CONFIG_HYST)
      let t := (t.setF F.GOV_THERM_CFG_STEP_US 0 (r.arg A.GOV_ZONE_CONFIG_STEP_US)).setF F.GOV_THERM_CFG_RELEASE_US 0
        (r.arg A.GOV_ZONE_CONFIG_RELEASE_US)
      .ok t (w32 (t.rd R.GOV_ZONE_LIMIT (l.headD 0)))

/-- GOV_ZONE_CONFIG (0x0E04, R550). -/
def execGovZoneConfig (m : Nat) (s : State) : Host.Outcome State Fault Refusal :=
  .next (s.runCmd m C.GOV_ZONE_CONFIG s.govZoneConfigChecks s.govZoneConfigAct)

/-- What GOV_DROOP_CONFIG adds to the checks of R94. -/
def State.govDroopConfigChecks (_ : State) (r : Req) : Checks :=
  { Checks.plain C.GOV_DROOP_CONFIG with
      target := targetWhole 0x04 r, dflt := [(A.GOV_DROOP_CONFIG_HOLD, 2), (A.GOV_DROOP_CONFIG_STEP_COUNT, 16)]
      args := firstFail [r.range A.GOV_DROOP_CONFIG_THRESHOLD_MV 10 60, failIf r.expert (r.range A.GOV_DROOP_CONFIG_STEP_COUNT 1 255)]
      units := [1] }

/-- What GOV_DROOP_CONFIG does once its checks have passed. -/
def State.govDroopConfigAct (s : State) (r : Req) : Ans :=
      let t := ((s.setF F.GOV_DROOP_CFG_THRESHOLD_MV 0 (r.arg A.GOV_DROOP_CONFIG_THRESHOLD_MV)).setF F.GOV_DROOP_CFG_STRETCH 0
        (r.arg A.GOV_DROOP_CONFIG_STRETCH)).setF F.GOV_DROOP_CFG_HOLD 0 (r.arg A.GOV_DROOP_CONFIG_HOLD)
      let t := t.setF F.GOV_DROOP_CFG_STEP_COUNT 0 (r.arg A.GOV_DROOP_CONFIG_STEP_COUNT)
      .ok t (w32 (t.rd R.GOV_DROOP_CFG 0))

/-- GOV_DROOP_CONFIG (0x0E05, R528). -/
def execGovDroopConfig (m : Nat) (s : State) : Host.Outcome State Fault Refusal :=
  .next (s.runCmd m C.GOV_DROOP_CONFIG s.govDroopConfigChecks s.govDroopConfigAct)

/-- What GOV_PMBUS_CONFIG adds to the checks of R94. -/
def State.govPmbusConfigChecks (_ : State) (r : Req) : Checks :=
      let used := fun (k : Nat) => bit (r.arg A.GOV_PMBUS_CONFIG_RAILS) k
      let rail := fun (k : Nat) => r.arg (A.GOV_PMBUS_CONFIG_RAIL k)
      { Checks.plain C.GOV_PMBUS_CONFIG with
        target := targetWhole 0x04 r
        args := firstFail ((List.range 8).map fun k =>
          failIf (used k && (rail k == 7 || (List.range k).any fun j => used j && rail j == rail k)) (badArg (A.GOV_PMBUS_CONFIG_RAIL k) 1))
        units := [1] }

/-- What GOV_PMBUS_CONFIG does once its checks have passed. -/
def State.govPmbusConfigAct (s : State) (r : Req) : Ans :=
      let t := (s.setF F.GOV_PMBUS_CFG_ENABLE 0 (r.arg A.GOV_PMBUS_CONFIG_ENABLE)).setF F.GOV_PMBUS_CFG_RAILS 0 (r.arg A.GOV_PMBUS_CONFIG_RAILS)
      let t := t.each (List.range 8) fun k t =>
        t.wr R.GOV_PMBUS_RAIL k (putBits (t.rd R.GOV_PMBUS_RAIL k) 0 16
          (r.arg (A.GOV_PMBUS_CONFIG_ADDR k) + 256 * r.arg (A.GOV_PMBUS_CONFIG_RAIL k)))
      .ok t (w32 (t.rd R.GOV_PMBUS_CFG 0))

/-- GOV_PMBUS_CONFIG (0x0E06, R539): the entries in use must name different rails. -/
def execGovPmbusConfig (m : Nat) (s : State) : Host.Outcome State Fault Refusal :=
  .next (s.runCmd m C.GOV_PMBUS_CONFIG s.govPmbusConfigChecks s.govPmbusConfigAct)

/-- What GOV_READ adds to the checks of R94. -/
def State.govReadChecks (_ : State) (r : Req) : Checks :=
  { Checks.plain C.GOV_READ with target := targetError 0x04 14 10 false r }

/-- What GOV_READ does once its checks have passed. -/
def State.govReadAct (s : State) (r : Req) : Ans :=
  .ok s (w32 (s.rd R.GOV_DIE_OP r.index) ++ w32 (s.rd R.GOV_DIE_SEL r.index) ++ w32 (s.rd R.GOV_DIE_POWER r.index)
      ++ w32 (s.rd R.GOV_POWER 0))

/-- GOV_READ (0x0E07). -/
def execGovRead (m : Nat) (s : State) : Host.Outcome State Fault Refusal :=
  .next (s.runCmd m C.GOV_READ s.govReadChecks s.govReadAct)

end Sys2Proof.Machine
end

