-- ==== Sys2Proof/Machine/Jtag.lean ====
section
/-! DEFINITION. The test access port (R617 to R619): the controller of IEEE 1149.1, IDCODE, BYPASS and the boundary-scan instructions. -/
namespace Sys2Proof.Machine

/-- The controller's next state on a rising edge of JTAG_TCK, by TMS (IEEE 1149.1, which R617 names). -/
def Tap.next (t : Tap) (tms : Bool) : Tap :=
  match t with
  | .testLogicReset => if tms then .testLogicReset else .runTestIdle
  | .runTestIdle => if tms then .selectDr else .runTestIdle
  | .selectDr => if tms then .selectIr else .captureDr
  | .captureDr => if tms then .exit1Dr else .shiftDr
  | .shiftDr => if tms then .exit1Dr else .shiftDr
  | .exit1Dr => if tms then .updateDr else .pauseDr
  | .pauseDr => if tms then .exit2Dr else .pauseDr
  | .exit2Dr => if tms then .updateDr else .shiftDr
  | .updateDr => if tms then .selectDr else .runTestIdle
  | .selectIr => if tms then .testLogicReset else .captureIr
  | .captureIr => if tms then .exit1Ir else .shiftIr
  | .shiftIr => if tms then .exit1Ir else .shiftIr
  | .exit1Ir => if tms then .updateIr else .pauseIr
  | .pauseIr => if tms then .exit2Ir else .pauseIr
  | .exit2Ir => if tms then .updateIr else .shiftIr
  | .updateIr => if tms then .selectDr else .runTestIdle

/-- IDCODE: the stepping's letter, part 0x9102, and 0xFFF (R618, R619). -/
def State.idcode (s : State) : Nat := s.fld F.GLB_STEPPING_STEPPING 0 / 16 * 2 ^ 28 + 0x9102 * 2 ^ 12 + 0xFFF

/-- The instruction as it acts: a boundary-scan instruction acts as BYPASS while RESET_N is high (R617). -/
def State.tapActs (s : State) : TapInstr := if s.jtag.instr = TapInstr.boundary ∧ s.pins.resetN then .bypass else s.jtag.instr

def State.putJtag (s : State) (j : Jtag) : State := { s with jtag := j }

/-- The controller in Test-Logic-Reset, where IDCODE is the instruction. -/
def State.tapReset (s : State) : State := s.putJtag {}

/-- A rising edge: the registers capture or shift by the state the controller leaves, and the controller moves on. The boundary register's cells are
the toolkit's (R617) and are not held. -/
def State.tapRise (s : State) (tms tdi : Bool) : State :=
  let j : Jtag := s.jtag
  let j : Jtag := match j.tap with
    | .captureDr => { j with dr := match s.tapActs with
        | .idcode => (List.range 32).map fun i => bit s.idcode i
        | .bypass => [false]
        | .boundary => [] }
    | .shiftDr => if s.tapActs = TapInstr.boundary then j else { j with dr := j.dr.drop 1 ++ [tdi] }
    | .captureIr => { j with ir := [] }
    | .shiftIr => { j with ir := j.ir ++ [tdi] }
    | _ => j
  let t : Tap := j.tap.next tms
  s.putJtag { j with tap := t, instr := if t = Tap.testLogicReset then .idcode else j.instr }

/-- A falling edge: JTAG_TDO changes, and an instruction shifted in takes effect in Update-IR. A shift of the instruction register brings out 1 and 0
first; its further bits, and the boundary register's, are free values (log entry 52). -/
def State.tapFall (s : State) : State :=
  let j := s.jtag
  let free := some (bit s.freeVal 0)
  match j.tap with
  | .shiftDr => if s.tapActs = TapInstr.boundary then (s.putJtag { j with tdo := free }).tookFree else s.putJtag { j with tdo := some (j.dr.headD false) }
  | .shiftIr =>
    if j.ir.length = 0 then s.putJtag { j with tdo := some true }
    else if j.ir.length = 1 then s.putJtag { j with tdo := some false }
    else (s.putJtag { j with tdo := free }).tookFree
  | .updateIr => s.putJtag { j with tdo := none, instr := (if Config.tapCode j.ir = 0 then .idcode else if Config.tapCode j.ir = 1 then .boundary else .bypass) }
  | _ => s.putJtag { j with tdo := none }

/-- JTAG_TCK_EDGE (R617): an edge of JTAG_TCK, rising with `rise`, with the levels of TMS, TDI and TRST_N. The balls need VDD_IO. -/
def execJtagTckEdge (rise tms tdi trst : Bool) (s : State) : Host.Outcome State Fault Refusal :=
  .next (if !s.railGood 5 then s else if !trst then s.tapReset else if rise then s.tapRise tms tdi else s.tapFall)

/-- JTAG_TRST_N_ASSERT (R617): JTAG_TRST_N goes low. -/
def execJtagTrstNAssert (s : State) : Host.Outcome State Fault Refusal := .next s.tapReset

end Sys2Proof.Machine
end

