-- ==== Sys2Proof/Machine/Mailbox.lean ====
section
/-! DEFINITION. The mailboxes as the host and the board controller reach them: areas, doorbells and controls over PCIe, I2C and SPI (R85 to R92, R107 to
R111, R614, R616). -/
namespace Sys2Proof.Machine

/-! ### Areas (R88, R111) -/

/-- The request or response half of one mailbox area is written by a path, 0 PCIe, 1 I2C or 2 SPI. -/
def State.areaPiece (s : State) (path o : Nat) (w : List Byte) : State :=
  let m := o / 0x1000
  if decide (0x800 ≤ o % 0x1000) || s.busy m || (m == 6 && path == 0 && !s.flag F.MBX_CTL_PCIE_WRITE 6) then
    (s.inc F.MBX_STATUS_REQ_WRITE_DROPS m).note E.TLR_REQ_WRITE_DROP
  else s.putArea o w

/-- A write to the mailbox areas at a BAR0 offset; each half it meets is written or refused by itself. -/
def State.areaWrite (s : State) (path off : Nat) (bs : List Byte) : State :=
  s.each (piecesOf 0x800 bs.length off bs) fun e s => if e.1 < 0x8000 then s.areaPiece path e.1 e.2 else s

/-- MBX_AREA_WRITE (R88, R111): the host writes bytes at a BAR0 offset of the mailbox areas. -/
def execMbxAreaWrite (off : Nat) (bs : List Byte) (s : State) : Host.Outcome State Fault Refusal :=
  .next (if s.bar2Up then s.areaWrite 0 off bs else s)

/-! ### Doorbells (R87, R89, R90, R94, R97, R100) -/

/-- The request that stands in a mailbox's request area (R86). -/
def State.areaReq (s : State) (path m seq : Nat) : Req :=
  let h := s.area (0x1000 * m) 16
  let w := fun (k : Nat) => leAt h (4 * k) 4
  { opcode := w 0 / 65536, seq := w 0 % 65536, flags := w 1 / 65536, length := w 1 % 65536, target := w 2, tag := w 3
    params := s.area (0x1000 * m + 0x10) (min 2032 (w 1 % 65536)), source := path, doorbell := seq
    since := s.now, order := s.tlr.order, bound := 0 }

/-- The bound in ns of an opcode's deadline class (R97); an answer to a check comes within class A. -/
def opBound (op : Nat) : Nat :=
  match cmdTable.find? fun c => c.op == op with
  | some c => classBound c.cls
  | none => classBound 0

/-- What the commands accepted before it on the same block add to a command's bound (R100). -/
def State.boundBefore (s : State) (m : Nat) (r : Req) : Nat :=
  if readsOnly r.opcode then 0
  else ((List.range 8).map fun k => match s.req? k with
    | some q => if k ≠ m ∧ s.busy k ∧ q.block = r.block ∧ !readsOnly q.opcode then opBound q.opcode else 0
    | none => 0).foldl (· + ·) 0

/-- A doorbell is accepted: the request is taken as it stands, and the first two checks of R94 are made. -/
def State.acceptDoorbell (s : State) (path m seq : Nat) : State :=
  let r0 := s.areaReq path m seq
  let r := { r0 with bound := opBound r0.opcode + s.boundBefore m r0 }
  let s := (s.setF F.MBX_STATUS_BUSY m 1).setF F.MBX_STATUS_RESP_VALID m 0
  let s := (s.setF F.TLR_MBX_CMD_SEQ m r.seq).setF F.TLR_MBX_CMD_OPCODE m r.opcode
  let s := (s.setF F.TLR_MBX_RUN_STATE m 1).setF F.TLR_MBX_RUN_EXECUTOR m 0
  let s := { s with tlr := { s.tlr with reqs := Tab.set none s.tlr.reqs m (some r), order := s.tlr.order + 1 } }
  if r.seq ≠ seq then s.respond m r 0x0102 1 []
  else if cmdTable.all fun c => c.op != r.opcode then s.respond m r 0x0101 0 []
  else s

/-- The last command of a mailbox is answered again, without running (R90). -/
def State.replay (s : State) (path m : Nat) : State :=
  let s := s.setF F.MBX_STATUS_RESP_VALID m 1
  let r := (s.req? m).getD (s.areaReq path m 0)
  let s := s.history m path 2 r.header (s.area (0x1000 * m + 0x800) 16) r.params
  s.completionMsi m (Tab.get false s.tlr.quiet m)

/-- A doorbell is not accepted (R87). -/
def State.dropDoorbell (s : State) (path m : Nat) : State :=
  let s := (s.inc F.MBX_STATUS_DOORBELL_DROPS m).note E.TLR_DOORBELL_DROP
  s.history m path 1 (s.area (0x1000 * m) 16) [] (s.area (0x1000 * m + 0x10) 16)

/-- A write of MBX_DOORBELL by a path (R87, R90, R111). -/
def State.doorbell (s : State) (path m seq : Nat) : State :=
  if m = 6 ∧ path = 0 ∧ !s.flag F.MBX_CTL_PCIE_WRITE 6 then s.inc F.MBX_STATUS_REQ_WRITE_DROPS 6
  else if !s.flag F.MBX_STATUS_ALIVE m ∨ s.busy m then s.dropDoorbell path m
  else
    let s := s.setF F.MBX_DOORBELL_SEQ m seq
    if s.flag F.MBX_LAST_LAST_VALID m ∧ s.fld F.MBX_LAST_LAST_SEQ m = seq then s.replay path m else s.acceptDoorbell path m seq

/-- MBX_DOORBELL (R87): the host rings mailbox `m` with `seq`. -/
def execMbxDoorbell (m seq : Nat) (s : State) : Host.Outcome State Fault Refusal :=
  .next (if s.bar2Up ∧ m < 8 then s.doorbell 0 m (seq % 65536) else s)

/-! ### MBX_CTL (R91, R111) -/

/-- IRQ_EN and VECTOR of MBX_CTL take a word. -/
def State.setCtl (s : State) (m v : Nat) : State :=
  (s.setF F.MBX_CTL_IRQ_EN m (bits v F.MBX_CTL_IRQ_EN.lo 1)).setF F.MBX_CTL_VECTOR m (bits v F.MBX_CTL_VECTOR.lo 8)

/-- A write of MBX_CTL by a path. PCIE_WRITE is fixed but on MBX_6, where I2C alone changes it; a PCIe write there is counted, and its other fields take
the value while PCIE_WRITE is 1. -/
def State.ctlWrite (s : State) (path m v : Nat) : State :=
  if m ≠ 6 then s.setCtl m v
  else if path = 0 then
    (if s.flag F.MBX_CTL_PCIE_WRITE 6 then s.setCtl 6 v else s).inc F.MBX_STATUS_REQ_WRITE_DROPS 6
  else (s.setCtl 6 v).setF F.MBX_CTL_PCIE_WRITE 6 (bits v F.MBX_CTL_PCIE_WRITE.lo 1)

/-- MBX_CTL_WRITE (R111): the host writes MBX_CTL of mailbox `m`. -/
def execMbxCtlWrite (m v : Nat) (s : State) : Host.Outcome State Fault Refusal :=
  .next (if s.bar2Up ∧ m < 8 then s.ctlWrite 0 m v else s)

/-! ### Serial transfers -/

/-- The control register at word `k` of a mailbox. -/
def ctlReg (k : Nat) : Reg := if k = 0 then R.MBX_DOORBELL else if k = 1 then R.MBX_STATUS else if k = 2 then R.MBX_LAST else R.MBX_CTL

/-- A piece of a word of a mailbox's control registers written by a path: the register keeps the bytes not written. -/
def State.controlWrite (s : State) (path m o : Nat) (w : List Byte) : State :=
  let v := leNat (patch (w32 (s.rd (ctlReg (o / 4)) m)) (o % 4) w)
  if o / 4 = 0 then s.doorbell path m (v % 65536) else if o / 4 = 3 then s.ctlWrite path m v else s

/-- The control registers that a transfer writes, `base` the offset at which they begin; the doorbell takes effect last (R111). -/
def State.controlWrites (s : State) (path m base off : Nat) (bs : List Byte) : State :=
  let l := (wordPieces off bs).filter fun e => decide (base ≤ e.1) && decide (e.1 < base + 0x10)
  let s := s.each (l.filter fun e => decide (base + 4 ≤ e.1)) fun e s => s.controlWrite path m (e.1 - base) e.2
  s.each (l.filter fun e => decide (e.1 < base + 4)) fun e s => s.controlWrite path m (e.1 - base) e.2

/-- A byte of a mailbox's control registers. -/
def State.controlByte (s : State) (m o : Nat) : Byte := (w32 (s.view (ctlReg (o / 4)) m)).getD (o % 4) 0

/-- A serial read returns bytes; those the manual gives no content for are free values (log entry 3). -/
def State.serialRead (s : State) (off n : Nat) (f : Nat → Option Byte) : State :=
  let bs := (List.range n).map fun i => (f (off + i)).getD (BitVec.ofNat 8 (Config.freeValue (s.fresh + i)))
  { s with readData := bs, fresh := s.fresh + n }

/-! ### I2C (R110, R111, R614) -/

/-- The I2C target acknowledges its address. -/
def State.i2cAnswers (s : State) (addr : Nat) : Bool :=
  s.railGood 5 && s.flag F.CKG_DOMAIN_STATUS_RUNNING 2 && s.mode != 0 && (match s.pins.i2cAddr with
    | some a => addr == 0x5C + a
    | none => false)

/-- I2C_WRITE (R110, R111): a write transfer to 7-bit address `addr` from offset `off`. -/
def execI2cWrite (addr off : Nat) (bs : List Byte) (s : State) : Host.Outcome State Fault Refusal :=
  .next (if !s.i2cAnswers addr then s
    else
      let s := if off < 0x1000 then s.areaWrite 1 (0x6000 + off) (bs.take (0x1000 - off)) else s
      s.controlWrites 1 6 0x1000 off bs)

/-- The byte at an I2C offset. -/
def State.i2cByte (s : State) (o : Nat) : Option Byte :=
  if o < 0x1000 then some (Tab.get 0 s.tlr.area (0x6000 + o))
  else if o < 0x1010 then some (s.controlByte 6 (o - 0x1000))
  else if 0x1100 ≤ o ∧ o < 0x1110 then
    some ((w32 (s.rd ([R.GLB_CHIP_ID, R.GLB_STEPPING, R.GLB_MODE, R.GLB_RESET_CAUSE].getD ((o - 0x1100) / 4) R.GLB_CHIP_ID) 0)).getD (o % 4) 0)
  else none

/-- I2C_READ (R110): a read transfer of `n` bytes; an address that is not acknowledged returns none. -/
def execI2cRead (addr off n : Nat) (s : State) : Host.Outcome State Fault Refusal :=
  .next (if s.i2cAnswers addr then s.serialRead off n s.i2cByte else { s with readData := [] })

/-- I2C_SCL_TIMEOUT (R614): SCL stays low for 35 ms; the target releases SDA and the transfer ends without effect. -/
def execI2cSclTimeout (s : State) : Host.Outcome State Fault Refusal := .next s

/-! ### SPI (R73, R77, R616) -/

/-- The SPI target is powered and clocked. -/
def State.spiAnswers (s : State) : Bool := s.railGood 5 && s.flag F.CKG_DOMAIN_STATUS_RUNNING 2 && s.mode != 0

/-- A write transfer over SPI at a BAR0 offset: it reaches the boot window and MBX_0. Under SPI_LOCK every word is ignored and counted. -/
def State.spiWrite (s : State) (addr : Nat) (bs : List Byte) : State :=
  if !s.spiAnswers then s
  else if s.flag F.GLB_RESET_CFG_SPI_LOCK 0 then s.each (wordPieces addr bs) fun _ s => s.bootReject
  else
    let s := if addr < 0x1000 then s.areaWrite 2 addr (bs.take (0x1000 - addr)) else s
    (s.controlWrites 2 0 0x10000 addr bs).bootWrite 2 addr bs

/-- The byte at a BAR0 offset, as SPI reaches it. -/
def State.spiByte (s : State) (o : Nat) : Option Byte :=
  if o < 0x1000 then some (Tab.get 0 s.tlr.area o)
  else if 0x10000 ≤ o ∧ o < 0x10010 then some (s.controlByte 0 (o - 0x10000))
  else if 0x800000 ≤ o ∧ o < 0x820000 then some (Tab.get 0 s.boot.buf (o - 0x800000))
  else if 0x820000 ≤ o ∧ o < 0x821000 then
    some (match findReg (0x100000000 + o / 4 * 4) with
      | some (r, i) => (w32 (s.view r i)).getD (o % 4) 0
      | none => 0)
  else none

/-- A read transfer over SPI. -/
def State.spiRead (s : State) (addr n : Nat) : State :=
  if s.spiAnswers then s.serialRead addr n s.spiByte else { s with readData := [] }

/-- SPI_WRITE (R73, R77): command 0x02, on a single line. -/
def execSpiWrite (addr : Nat) (bs : List Byte) (s : State) : Host.Outcome State Fault Refusal := .next (s.spiWrite addr bs)

/-- SPI_QUAD_WRITE (R73, R77): command 0x32, on quad lines. -/
def execSpiQuadWrite (addr : Nat) (bs : List Byte) (s : State) : Host.Outcome State Fault Refusal := .next (s.spiWrite addr bs)

/-- SPI_READ (R73): command 0x0B, on a single line. -/
def execSpiRead (addr n : Nat) (s : State) : Host.Outcome State Fault Refusal := .next (s.spiRead addr n)

/-- SPI_QUAD_READ (R73): command 0x6B, on quad lines. -/
def execSpiQuadRead (addr n : Nat) (s : State) : Host.Outcome State Fault Refusal := .next (s.spiRead addr n)

end Sys2Proof.Machine
end

