-- ==== Sys2Proof/Machine/Teller.lean ====
section
/-! DEFINITION. The general group of commands, patches, locks, leases and traps (R74 to R77, R95, R102, R112 to R122, R566). -/
namespace Sys2Proof.Machine

/-! ### NOP and IDENTIFY (R118) -/

/-- What NOP adds to the checks of R94. -/
def State.nopChecks (_ : State) (_ : Req) : Checks :=
  Checks.plain C.NOP

/-- What NOP does once its checks have passed. -/
def State.nopAct (s : State) (r : Req) : Ans :=
  .ok s (r.params.take r.length)

/-- NOP (0x0100): its parameter bytes are returned. -/
def execNop (m : Nat) (s : State) : Host.Outcome State Fault Refusal :=
  .next (s.runCmd m C.NOP s.nopChecks s.nopAct)

/-- What IDENTIFY adds to the checks of R94. -/
def State.identifyChecks (_ : State) (_ : Req) : Checks :=
  Checks.plain C.IDENTIFY

/-- What IDENTIFY does once its checks have passed. -/
def State.identifyAct (s : State) (_ : Req) : Ans :=
    .ok s ([R.GLB_CHIP_ID, R.GLB_STEPPING, R.GLB_PCI_ID, R.GLB_CHARTER_VERSION, R.GLB_CHARTER_CRC, R.GLB_PATCH_LEVEL, R.GLB_CLERK_STORE_VERSION,
      R.GLB_SESSION, R.GLB_RESET_CAUSE, R.GLB_MODE].flatMap fun r => w32 (s.rd r 0))

/-- IDENTIFY (0x0101). -/
def execIdentify (m : Nat) (s : State) : Host.Outcome State Fault Refusal :=
  .next (s.runCmd m C.IDENTIFY s.identifyChecks s.identifyAct)

/-! ### Completion records (R104, R105, R120, R121) -/

/-- What ASYNC_RESULT adds to the checks of R94. -/
def State.asyncResultChecks (_ : State) (_ : Req) : Checks :=
  { Checks.plain C.ASYNC_RESULT with dflt := [(A.ASYNC_RESULT_KEEP, 0)] }

/-- What ASYNC_RESULT does once its checks have passed. -/
def State.asyncResultAct (s : State) (r : Req) : Ans :=
      let k := r.arg A.ASYNC_RESULT_RECORD
      match s.rec? k with
      | none => .fail s 0x0302 0
      | some q =>
        let t := if q.phase = 1 then s else if r.on A.ASYNC_RESULT_KEEP then s.putRec k (some { q with phase := 3 }) else s.putRec k none
        .ok t q.bytes

/-- ASYNC_RESULT (0x0104, R105, R120): a running command's record is never freed. -/
def execAsyncResult (m : Nat) (s : State) : Host.Outcome State Fault Refusal :=
  .next (s.runCmd m C.ASYNC_RESULT s.asyncResultChecks s.asyncResultAct)

/-- The completion record of a running command of a mailbox by its SEQ. -/
def State.runningRec (s : State) (m seq : Nat) : Option (Nat × Rec) :=
  (List.range 64).findSome? fun k => match s.rec? k with
    | some q => if q.phase = 1 ∧ q.mbx = m ∧ q.req.seq = seq then some (k, q) else none
    | none => none

/-- The command accepted in another mailbox and not completed, by its SEQ. A POST that a die has reached is past its last scheduling point. -/
def State.waitingReq (s : State) (own m seq : Nat) : Option Req :=
  if own = m ∨ !s.busy m then none
  else match s.req? m with
    | some q =>
      if q.seq = seq ∧ !(match s.cls.post with
          | some p => p.mbx == m && p.switched != 0
          | none => false) then some q else none
    | none => none

/-- The named command ends with ABORTED, reason 1: the state, and whether it was found (R121). -/
def State.abortNamed (s : State) (own m seq : Nat) : State × Bool :=
  match s.runningRec m seq with
  | some (k, q) =>
    let s := match s.tlr.patch with
      | some p => if p.exec = Exec.record k then { s with tlr := { s.tlr with patch := none } } else s
      | none => s
    (s.completeRec k q 0x0501 1 [], true)
  | none => match s.waitingReq own m seq with
    | some q => ((s.dropStarted m).respond m q 0x0501 1 [], true)
    | none => (s, false)

/-- The opcode of the command that ABORT_COMMAND names. -/
def State.namedOp (s : State) (own m seq : Nat) : Option Nat :=
  match s.runningRec m seq with
  | some (_, q) => some q.req.opcode
  | none => (s.waitingReq own m seq).map Req.opcode

/-- What ABORT_COMMAND adds to the checks of R94. -/
def State.abortCommandChecks (s : State) (m : Nat) (r : Req) : Checks :=
  { Checks.plain C.ABORT_COMMAND with
      busy := if s.namedOp m (r.arg A.ABORT_COMMAND_MAILBOX) (r.arg A.ABORT_COMMAND_SEQ) = some 0x102 then some 1 else none }

/-- What ABORT_COMMAND does once its checks have passed. -/
def State.abortCommandAct (s : State) (m : Nat) (r : Req) : Ans :=
      let (t, found) := s.abortNamed m (r.arg A.ABORT_COMMAND_MAILBOX) (r.arg A.ABORT_COMMAND_SEQ)
      .ok t (w32 (b2n found))

/-- ABORT_COMMAND (0x0105, R121). -/
def execAbortCommand (m : Nat) (s : State) : Host.Outcome State Fault Refusal :=
  .next (s.runCmd m C.ABORT_COMMAND (s.abortCommandChecks m) (s.abortCommandAct m))

/-! ### HISTORY_READ (R116, R118) -/

/-- What HISTORY_READ adds to the checks of R94. -/
def State.historyReadChecks (s : State) (r : Req) : Checks :=
  { Checks.plain C.HISTORY_READ with
      dflt := [(A.HISTORY_READ_FIRST, s.fld F.TLR_HIST_HEAD_NEXT 0 - r.arg A.HISTORY_READ_COUNT)], args := r.range A.HISTORY_READ_COUNT 1 31 }

/-- What HISTORY_READ does once its checks have passed. -/
def State.historyReadAct (s : State) (r : Req) : Ans :=
      let head := s.fld F.TLR_HIST_HEAD_NEXT 0
      let first := max (r.arg A.HISTORY_READ_FIRST) (head - 256)
      let n := min (r.arg A.HISTORY_READ_COUNT) (head - first)
      .ok s (w32 head ++ w32 first ++ (List.range n).flatMap fun k => Tab.get [] s.tlr.hist ((first + k) % 256))

/-- HISTORY_READ (0x0110). The basic form returns the latest COUNT entries. -/
def execHistoryRead (m : Nat) (s : State) : Host.Outcome State Fault Refusal :=
  .next (s.runCmd m C.HISTORY_READ s.historyReadChecks s.historyReadAct)

/-! ### Grants (R46, R112 to R115) -/

/-- The grant unit a TARGET names, or BAD_TARGET's reason (R96, R112). -/
def Req.grantUnit (r : Req) : Sum Nat Nat :=
  let b := r.block
  if b = 0 ∨ b = 1 ∨ b = 3 then .inr 6
  else match unitOf b 0 with
    | none => .inr 1
    | some u =>
      let quire := decide (0x10 ≤ b ∧ b ≤ 0x15)
      if r.kind ≠ (if quire then 13 else 0) then .inr 2
      else if r.all then .inr 4
      else if (if quire then 16 else 1) ≤ r.index then .inr 3
      else .inl (if quire then u + 6 * r.index else u)

/-- The checks of GRANT: the mask of modes is that of the unit named (R46, R96). -/
def grantChecks (r : Req) : Checks :=
  match r.grantUnit with
  | .inl u => { Checks.plain C.GRANT with modes := unitModes u, dflt := [(A.GRANT_LEASE_MS, 0)] }
  | .inr e => { Checks.plain C.GRANT with target := some e, dflt := [(A.GRANT_LEASE_MS, 0)] }

/-- What GRANT does once its checks have passed. -/
def State.grantAct (s : State) (r : Req) : Ans :=
    match r.grantUnit with
    | .inr e => .fail s 0x0104 e
    | .inl u =>
      let was := s.granted u
      let t := (s.setGrant u true).setF F.TLR_LEASE_REMAINING_MS u (r.arg A.GRANT_LEASE_MS)
      .ok { t with tlr := { t.tlr with leaseAt := Tab.set 0 t.tlr.leaseAt u s.now } } (w32 (b2n was))

/-- GRANT (0x0120, R112, R115): the unit is granted and its lease, if any, starts. -/
def execGrant (m : Nat) (s : State) : Host.Outcome State Fault Refusal :=
  .next (s.runCmd m C.GRANT grantChecks s.grantAct)

/-- Whether a TARGET names every unit: BLOCK 0xFF, KIND 0, INDEX 0 (REVOKE). -/
def Req.everyUnit (r : Req) : Bool := r.block == 0xFF && r.kind == 0 && r.index == 0

/-- BAD_TARGET's reason for REVOKE. -/
def Req.revokeError (r : Req) : Option Nat :=
  if r.block = 0xFF then (if r.kind ≠ 0 then some 2 else if r.all then some 4 else if r.index ≠ 0 then some 3 else none)
  else match r.grantUnit with
    | .inl _ => none
    | .inr e => some e

/-- What REVOKE adds to the checks of R94. -/
def State.revokeChecks (_ : State) (r : Req) : Checks :=
  { Checks.plain C.REVOKE with target := r.revokeError }

/-- What REVOKE does once its checks have passed. -/
def State.revokeAct (s : State) (r : Req) : Ans :=
    if r.everyUnit then .ok s.revokeAll (w32 (b2n ((List.range 108).any fun u => s.granted u)))
    else match r.grantUnit with
      | .inl u => .ok (s.setGrant u false) (w32 (b2n (s.granted u)))
      | .inr e => .fail s 0x0104 e

/-- REVOKE (0x0121, R114): one unit or every unit. -/
def execRevoke (m : Nat) (s : State) : Host.Outcome State Fault Refusal :=
  .next (s.runCmd m C.REVOKE s.revokeChecks s.revokeAct)

/-- GRANT_LEASE_EXPIRE (R115, R116): the lease of unit `u` runs out. -/
def execGrantLeaseExpire (u : Nat) (s : State) : Host.Outcome State Fault Refusal :=
  .next (if u < 108 ∧ s.granted u ∧ s.fld F.TLR_LEASE_REMAINING_MS u ≠ 0 then
      ((s.setGrant u false).note E.TLR_GRANT_EXPIRED).history 0 3 5 [] [] []
    else s)

/-! ### Locks and patches (R74 to R77) -/

/-- What RESET_CONFIG adds to the checks of R94. -/
def State.resetConfigChecks (_ : State) (_ : Req) : Checks :=
  { Checks.plain C.RESET_CONFIG with dflt := [(A.RESET_CONFIG_RELOAD_LOCK, 0)] }

/-- What RESET_CONFIG does once its checks have passed. -/
def State.resetConfigAct (s : State) (r : Req) : Ans :=
      let set := fun (f : Fld) (a : Arg) (s : State) => if r.on a then s.setF f 0 1 else s
      let t := s.setF F.GLB_RESET_CFG_PERST_SCOPE 0 (r.arg A.RESET_CONFIG_PERST_SCOPE)
      let t := set F.GLB_RESET_CFG_SPI_LOCK A.RESET_CONFIG_SPI_LOCK t
      let t := set F.GLB_RESET_CFG_PATCH_LOCK A.RESET_CONFIG_PATCH_LOCK t
      let t := set F.GLB_RESET_CFG_RELOAD_LOCK A.RESET_CONFIG_RELOAD_LOCK t
      .ok t (w32 (t.rd R.GLB_RESET_CFG 0))

/-- RESET_CONFIG (0x0141, R77): the locks can be set and not cleared. -/
def execResetConfig (m : Nat) (s : State) : Host.Outcome State Fault Refusal :=
  .next (s.runCmd m C.RESET_CONFIG s.resetConfigChecks s.resetConfigAct)

def State.patchLevel (s : State) : Nat := s.fld F.GLB_PATCH_LEVEL_LEVEL 0

/-- PATCH_LOAD's own response fields. -/
def State.patchResp (s : State) : List Byte := w32 s.patchLevel ++ w32 (s.rd R.GLB_CHARTER_VERSION 0)

/-- The first of R75's conditions that a fetched patch fails: its LAST_STATUS code and the offset of the parameter word concerned. -/
def State.patchError (s : State) (r : Req) (p : List Byte) : Option (Nat × Nat) :=
  let lv := leAt p 16 4
  if crc32 p ≠ r.arg A.PATCH_LOAD_PATCH_CRC then some (1, 12)
  else if leAt p 4 4 ≠ s.rd R.GLB_CHARTER_VERSION 0 ∨ leAt p 8 4 ≠ s.rd R.GLB_CHARTER_CRC 0 then some (2, 0)
  else if leAt p 12 4 ≠ s.patchLevel ∨ lv ≠ s.patchLevel + 1 ∨ lv ≠ r.arg A.PATCH_LOAD_EXPECT_LEVEL then some (3, 16)
  else if s.flag F.GLB_RESET_CFG_PATCH_LOCK 0 then some (4, 0)
  else none

/-- PATCH_LOAD is refused (R75, R76, R83). -/
def State.rejectPatch (s : State) (code : Nat) : State :=
  ((s.setF F.GLB_PATCH_LEVEL_LAST_STATUS 0 code).inc F.GLB_PATCH_LEVEL_REJECTS 0).note E.GLB_PATCH_REJECTED

/-- What PATCH_LOAD finds: its answer, or the patch to install. -/
def State.fetchPatch (s : State) (x : Exec) (r : Req) : Sum Ans Patch :=
  match s.hostRead (r.arg64 A.PATCH_LOAD_HOST_ADDR_LO A.PATCH_LOAD_HOST_ADDR_HI) (r.arg A.PATCH_LOAD_LENGTH) with
  | none => .inl (.hostTimeout (s.rejectPatch 5))
  | some p => match s.patchError r p with
    | some (code, off) => .inl (.fail (s.rejectPatch code) 0x0103 (65536 * off + code))
    | none => if r.on A.PATCH_LOAD_DRY_RUN then .inl (.ok s s.patchResp) else .inr ⟨x, r, leAt p 16 4, p.drop 64⟩

/-- The checks of PATCH_LOAD. -/
def State.patchChecks (s : State) (r : Req) : Checks :=
  { Checks.plain C.PATCH_LOAD with
    dflt := [(A.PATCH_LOAD_EXPECT_LEVEL, s.patchLevel + 1), (A.PATCH_LOAD_DRY_RUN, 0)]
    args := firstFail [failIf (r.arg A.PATCH_LOAD_HOST_ADDR_LO % 64 != 0) (badArg A.PATCH_LOAD_HOST_ADDR_LO 1),
      r.range A.PATCH_LOAD_LENGTH 64 262144, failIf (r.arg A.PATCH_LOAD_LENGTH % 4 != 0) (badArg A.PATCH_LOAD_LENGTH 1)] }

def State.putPatch (s : State) (p : Option Patch) : State := { s with tlr := { s.tlr with patch := p } }

/-- PATCH_LOAD (0x0140, R75, R76): the patch is fetched and checked, and waits for its installation. One patch waits at a time. -/
def execPatchLoad (x : Exec) (s : State) : Host.Outcome State Fault Refusal :=
  .next (if s.tlr.patch.isSome then s
    else match x with
    | .mailbox m => match s.takes m C.PATCH_LOAD with
      | none => s
      | some r0 =>
        let r := filled C.PATCH_LOAD (s.patchChecks r0).dflt r0
        match s.firstCheck C.PATCH_LOAD (s.patchChecks r) r0 r0.async with
        | some e => s.respond m r0 e.1 e.2 []
        | none =>
          if r0.async then (match s.pickRec with
            | none => s.respond m r0 0x0202 3 []
            | some (k, lost) => s.accept m k lost r 0)
          else match s.fetchPatch x r with
            | .inl (.done t status detail resp) => t.respond m r status detail (respParams C.PATCH_LOAD r status resp)
            | .inr p => (s.putPatch (some p)).setF F.TLR_MBX_RUN_STATE m 2
    | .record k => match s.rec? k with
      | none => s
      | some q =>
        if q.phase = 1 ∧ q.req.opcode = C.PATCH_LOAD.op then
          match s.fetchPatch x q.req with
          | .inl (.done t status detail resp) => t.completeRec k q status detail (respParams C.PATCH_LOAD q.req status resp)
          | .inr p => s.putPatch (some p)
        else s)

/-- A command executes in some mailbox: another record runs, or a POST waits for its switch (R76). -/
def State.executesBeside (s : State) (x : Exec) : Bool :=
  s.cls.post.isSome || (List.range 64).any fun k => x != Exec.record k && (match s.rec? k with
    | some q => q.phase == 1
    | none => false)

/-- PATCH_INSTALL (R76): once no other command executes, the checked patch is installed and its command completes. -/
def execPatchInstall (s : State) : Host.Outcome State Fault Refusal :=
  .next (match s.tlr.patch with
    | none => s
    | some p =>
      if s.executesBeside p.exec then s
      else
        let s := (s.putPatch none).setF F.GLB_PATCH_LEVEL_LEVEL 0 p.level
        let s := (s.setF F.GLB_PATCH_LEVEL_LAST_STATUS 0 0).note E.GLB_PATCH_INSTALLED
        let resp := respParams C.PATCH_LOAD p.req 0 s.patchResp
        match p.exec with
        | .mailbox m => s.respond m p.req 0 0 resp
        | .record k => match s.rec? k with
          | some q => s.completeRec k q 0 0 resp
          | none => s)

/-! ### The dispatcher (R102, R566) -/

/-- The Teller's domain runs. -/
def State.tellerRuns (s : State) : Bool := s.flag F.CKG_DOMAIN_STATUS_RUNNING 2

/-- TELLER_WATCHDOG (R102): the dispatcher has reached no scheduling point for 1 ms. -/
def execTellerWatchdog (s : State) : Host.Outcome State Fault Refusal := .next (if s.tellerRuns then s.note E.TLR_WATCHDOG else s)

/-- TELLER_TRAP (R566): the Teller takes the trap that has waited longest. In Loader the boot ROM logs it; the manual gives that entry no KIND, mailbox or
parameters, which are free values (log entry 3). -/
def execTellerTrap (s : State) : Host.Outcome State Fault Refusal :=
  .next (match s.tlr.traps with
    | [] => s
    | _ :: t =>
      if !s.tellerRuns then s
      else
        let s := { s with tlr := { s.tlr with traps := t } }
        if s.mode = 1 then
          let v := s.freeVal
          (s.history (v % 8) 3 (v / 8 % 16) [] [] (leBytes 16 (v / 128))).tookFree
        else s)

end Sys2Proof.Machine
end

