-- ==== Sys2Proof/Machine/Modes.lean ====
section
/-! DEFINITION. Requested transitions between modes and the Charter reload (R45 to R55, R119). -/
namespace Sys2Proof.Machine

/-- The modes from which a target can be requested (R51); 0 for the reload while it is locked. -/
def State.fromModes (s : State) (t : Nat) : Nat :=
  if t = 1 then (if s.flag F.GLB_RESET_CFG_RELOAD_LOCK 0 then 0 else 0x04)
  else if t = 2 ∨ t = 4 ∨ t = 6 then 0x08 else if t = 3 then 0x74 else C.MODE_REQUEST.modes

/-- The checks of MODE_REQUEST (R51, R53, R96). -/
def State.modeChecks (s : State) (r : Req) : Checks :=
  { Checks.plain C.MODE_REQUEST with
    modes := s.fromModes (r.arg A.MODE_REQUEST_TARGET_MODE), dflt := [(A.MODE_REQUEST_LOCK_WAIT_MS, 0)]
    args := firstFail [failIf (!([1, 2, 3, 4, 6].contains (r.arg A.MODE_REQUEST_TARGET_MODE))) (badArg A.MODE_REQUEST_TARGET_MODE 1),
      r.range A.MODE_REQUEST_LOCK_WAIT_MS 0 1000]
    busy := if s.flag F.GLB_MODE_TRANSITION 0 then some 1 else none }

/-- TX_READY of every lane, and LINK of every port, brought in line with a new mode. -/
def State.settleLanes (s : State) : State := (s.each (List.range 1024) fun n s => s.refreshTx n).checkPorts

/-- Frames held in the vault are discarded, one count a copy held (R49). -/
def State.discardVault (s : State) : State :=
  let s := s.vaultStat 2 (s.vlt.descs.filter fun e => e.2.isSome).length
  { s.clearVault.enterQueues with hostqs := [], copies := [] }

/-- Entry to Provisioned from Standby (R48, R251, R353, R382, R452). -/
def State.provisionFromStandby (s : State) : State :=
  (({ ((s.setMode 3).clockMode 3).enterParser.clearVault.enterQueues with hostqs := [], copies := [] }).enterCounting).settleLanes

/-- Entry to Provisioned from Service, Holdover or Test (R49). -/
def State.provisionFromUse (s : State) : State := (s.allPortsDown.setMode 3).discardVault.enterCounting.settleLanes

/-- Entry to Standby from Provisioned: grants of blocks that stop are revoked, and the lanes power down (R45, R46, R48). -/
def State.standbyAgain (s : State) : State :=
  let s := s.each (List.range 108) fun u s => if s.granted u ∧ !bit (unitModes u) 2 then s.setGrant u false else s
  let s := s.each (List.range 1024) fun n s => s.stopLane n
  ((s.setMode 2).clockMode 2).settleLanes

/-- The transition to a target takes place. A request to 4 reaches 4 where network time is locked at that moment, else 5 (R51, R54). -/
def State.transit (s : State) (t : Nat) : State :=
  if t = 3 then (if s.mode = 2 then s.provisionFromStandby else s.provisionFromUse)
  else if t = 2 then s.standbyAgain
  else if t = 4 then (s.setMode (if s.flag F.TIM_STATUS_LOCKED 0 then 4 else 5)).settleLanes
  else (s.setMode 6).settleLanes

/-- The Charter reload: the part enters Loader, where the blocks it no longer clocks are at reset (R45, R46, R74, R93, R506). -/
def State.reload (s : State) : State :=
  let s := s.each (List.range 108) fun u s => if s.granted u ∧ u ≠ 0 then s.setGrant u false else s
  let s := ((s.cancelBooks.setMode 1).clockMode 1).resetRegs fun a => decide (0x4000000 ≤ a) && decide (a < 0x100000000) && !onIsland a
    && a != R.DMA_PCIE_STATUS.base
  let s := { s with lanes := [], stitch := [], macs := [], vlt := {}, copies := [], queues := [], qsc := {}, prs := {}, tim := {}, cls := {}, ldg := {}
                    cth := {}, tly := {}, gov := {}, dma := {}, arrays := [], hostqs := [], feXoff := 0
                    boot := {}, clh := { s.clh with inReset := [], restoring := [], savedRegs := [], savedArrays := [] } }
  let s := ((s.wr R.GLB_CHARTER_VERSION 0 0).wr R.GLB_CHARTER_CRC 0 0).wr R.GLB_CLERK_STORE_VERSION 0 0
  (s.setF F.GLB_MODE_TIME_LOCKED 0 0).bootAbort.romServes

/-- A command runs as a completion record. -/
def State.anyRunning (s : State) : Bool := (List.range 64).any fun k => match s.rec? k with
  | some q => q.phase == 1
  | none => false

/-- MODE_REQUEST to 1 (R93, R119): once no command runs it completes with OK, and the reload begins. -/
def State.requestReload (s : State) (m : Nat) (r0 : Req) : State :=
  let r := filled C.MODE_REQUEST [(A.MODE_REQUEST_LOCK_WAIT_MS, 0)] r0
  match s.firstCheck C.MODE_REQUEST (s.modeChecks r) r0 false with
  | some e => s.respond m r0 e.1 e.2 []
  | none =>
    if s.anyRunning || s.cls.post.isSome then s
    else (s.respond m r 0 0 (respParams C.MODE_REQUEST r 0 (w32 (s.mode + 16 * s.mode)))).reload

/-- LOCK_WAIT_MS of a request to 4 has not run out and no lock has been found (R119). -/
def State.waitsForLock (s : State) (r : Req) : Bool :=
  r.arg A.MODE_REQUEST_TARGET_MODE == 4 && !s.flag F.TIM_STATUS_LOCKED 0
    && decide (s.now < r.since + 1000000 * r.arg A.MODE_REQUEST_LOCK_WAIT_MS)

/-- The other targets: accepted, then performed at the transition's end (R51 to R54). -/
def State.requestMode (s : State) (x : Exec) : State :=
  s.runAsync x C.MODE_REQUEST s.modeChecks
    (fun r s => ((s.setF F.GLB_MODE_TRANSITION 0 1).setF F.GLB_MODE_TARGET 0 (r.arg A.MODE_REQUEST_TARGET_MODE), s.mode))
    (fun r src s =>
      let t := ((s.setF F.GLB_MODE_TRANSITION 0 0).setF F.GLB_MODE_TARGET 0 0).transit (r.arg A.MODE_REQUEST_TARGET_MODE)
      .ok t (w32 (t.mode + 16 * src)))

/-- MODE_REQUEST (0x0102, R51 to R54, R119): from its mailbox the request is checked and accepted; from its record the transition takes place. -/
def execModeRequest (x : Exec) (s : State) : Host.Outcome State Fault Refusal :=
  .next (match x with
    | .mailbox m => match s.takes m C.MODE_REQUEST with
      | none => s
      | some r0 => if r0.arg A.MODE_REQUEST_TARGET_MODE = 1 then s.requestReload m r0 else s.requestMode x
    | .record k => match s.rec? k with
      | none => s
      | some q => if s.waitsForLock q.req then s else s.requestMode x)

end Sys2Proof.Machine
end

