-- ==== Sys2Proof/Machine/Dispatch.lean ====
section
/-! DEFINITION. One arm per command: the call of its meaning, or its rejection by name. -/
namespace Sys2Proof.Machine

/-- What a command does to everything but the queue. -/
def exec (i : Instr) (s : State) : Host.Outcome State Fault Refusal :=
  match i with
  | .vddAonPowerOn => Sys2Proof.Machine.execVddAonPowerOn s
  | .vddAonPowerLoss => Sys2Proof.Machine.execVddAonPowerLoss s
  | .railOutOfRange r => Sys2Proof.Machine.execRailOutOfRange r s
  | .railInRange r => Sys2Proof.Machine.execRailInRange r s
  | .resetNAssert => Sys2Proof.Machine.execResetNAssert s
  | .perstNAssert => Sys2Proof.Machine.execPerstNAssert s
  | .resetRelease resetN perstN => Sys2Proof.Machine.execResetRelease resetN perstN s
  | .perstNRelease => Sys2Proof.Machine.execPerstNRelease s
  | .loaderReady addr => Sys2Proof.Machine.execLoaderReady addr s
  | .pcieLinkUp speed width mps flit => Sys2Proof.Machine.execPcieLinkUp speed width mps flit s
  | .pcieLinkDown => Sys2Proof.Machine.execPcieLinkDown s
  | .busMasterEnableChange on => Sys2Proof.Machine.execBusMasterEnableChange on s
  | .bootBufferWrite off bs => Sys2Proof.Machine.execBootBufferWrite off bs s
  | .bootPageGo b index => Sys2Proof.Machine.execBootPageGo b index s
  | .bootPageCheckDone b => Sys2Proof.Machine.execBootPageCheckDone b s
  | .bootStart => Sys2Proof.Machine.execBootStart s
  | .bootVerifyDone unc => Sys2Proof.Machine.execBootVerifyDone unc s
  | .bootAbort => Sys2Proof.Machine.execBootAbort s
  | .spiWrite addr bs => Sys2Proof.Machine.execSpiWrite addr bs s
  | .spiQuadWrite addr bs => Sys2Proof.Machine.execSpiQuadWrite addr bs s
  | .spiRead addr n => Sys2Proof.Machine.execSpiRead addr n s
  | .spiQuadRead addr n => Sys2Proof.Machine.execSpiQuadRead addr n s
  | .mbxDoorbell m seq => Sys2Proof.Machine.execMbxDoorbell m seq s
  | .mbxAreaWrite off bs => Sys2Proof.Machine.execMbxAreaWrite off bs s
  | .i2cWrite addr off bs => Sys2Proof.Machine.execI2cWrite addr off bs s
  | .i2cRead addr off n => Sys2Proof.Machine.execI2cRead addr off n s
  | .i2cSclTimeout => Sys2Proof.Machine.execI2cSclTimeout s
  | .tellerWatchdog => Sys2Proof.Machine.execTellerWatchdog s
  | .grantLeaseExpire u => Sys2Proof.Machine.execGrantLeaseExpire u s
  | .patchInstall => Sys2Proof.Machine.execPatchInstall s
  | .tellerTrap => Sys2Proof.Machine.execTellerTrap s
  | .nop m => Sys2Proof.Machine.execNop m s
  | .identify m => Sys2Proof.Machine.execIdentify m s
  | .modeRequest x => Sys2Proof.Machine.execModeRequest x s
  | .asyncResult m => Sys2Proof.Machine.execAsyncResult m s
  | .abortCommand m => Sys2Proof.Machine.execAbortCommand m s
  | .historyRead m => Sys2Proof.Machine.execHistoryRead m s
  | .grant m => Sys2Proof.Machine.execGrant m s
  | .revoke m => Sys2Proof.Machine.execRevoke m s
  | .patchLoad x => Sys2Proof.Machine.execPatchLoad x s
  | .resetConfig m => Sys2Proof.Machine.execResetConfig m s
  | .clockConfig m => Sys2Proof.Machine.execClockConfig m s
  | .clockSelect m => Sys2Proof.Machine.execClockSelect m s
  | .watchTrim m => Sys2Proof.Machine.execWatchTrim m s
  | .qualIntervalEnd clk iv count => Sys2Proof.Machine.execQualIntervalEnd clk iv count s
  | .refLoss idx => Sys2Proof.Machine.execRefLoss idx s
  | .pllUnlock k => Sys2Proof.Machine.execPllUnlock k s
  | .domainSwitchDone d => Sys2Proof.Machine.execDomainSwitchDone d s
  | .watchTrimAdjust ppm hz => Sys2Proof.Machine.execWatchTrimAdjust ppm hz s
  | .toggleAck d k pulses same => Sys2Proof.Machine.execToggleAck d k pulses same s
  | .bundleAck d k vs => Sys2Proof.Machine.execBundleAck d k vs s
  | .xingResetToken x offered => Sys2Proof.Machine.execXingResetToken x offered s
  | .ckgSelectWrite d v => Sys2Proof.Machine.execCkgSelectWrite d v s
  | .laneConfig m => Sys2Proof.Machine.execLaneConfig m s
  | .eqTableLoad x => Sys2Proof.Machine.execEqTableLoad x s
  | .laneTest m => Sys2Proof.Machine.execLaneTest m s
  | .laneMarginScan x => Sys2Proof.Machine.execLaneMarginScan x s
  | .stitchConfig m => Sys2Proof.Machine.execStitchConfig m s
  | .laneTxPllLock n => Sys2Proof.Machine.execLaneTxPllLock n s
  | .laneCdrLock n => Sys2Proof.Machine.execLaneCdrLock n s
  | .laneSignalLoss n cdr => Sys2Proof.Machine.execLaneSignalLoss n cdr s
  | .laneTempRefresh q => Sys2Proof.Machine.execLaneTempRefresh q s
  | .laneBandEval n => Sys2Proof.Machine.execLaneBandEval n s
  | .laneEqStep n => Sys2Proof.Machine.execLaneEqStep n s
  | .laneInjFire n => Sys2Proof.Machine.execLaneInjFire n s
  | .marginPointDone n errs => Sys2Proof.Machine.execMarginPointDone n errs s
  | .pcsAlignment p am skews deskewed => Sys2Proof.Machine.execPcsAlignment p am skews deskewed s
  | .fecWindowEnd p syms cor unc => Sys2Proof.Machine.execFecWindowEnd p syms cor unc s
  | .stitchBlockRx n valid stuff => Sys2Proof.Machine.execStitchBlockRx n valid stuff s
  | .stitchControlBlockRx n line c => Sys2Proof.Machine.execStitchControlBlockRx n line c s
  | .stitchSignatureRx n line c => Sys2Proof.Machine.execStitchSignatureRx n line c s
  | .stitchSignatureTx n => Sys2Proof.Machine.execStitchSignatureTx n s
  | .stitchNakTimeout n => Sys2Proof.Machine.execStitchNakTimeout n s
  | .stchRetrainWrite n => Sys2Proof.Machine.execStchRetrainWrite n s
  | .portConfig m => Sys2Proof.Machine.execPortConfig m s
  | .portDelete m => Sys2Proof.Machine.execPortDelete m s
  | .pfcConfig m => Sys2Proof.Machine.execPfcConfig m s
  | .preemptConfig m => Sys2Proof.Machine.execPreemptConfig m s
  | .macRxFrame p sfd code frags broken deskew bytes => Sys2Proof.Machine.execMacRxFrame p sfd code frags broken deskew bytes s
  | .pfcFrameRx p vec times => Sys2Proof.Machine.execPfcFrameRx p vec times s
  | .preemptVerifyRx p respond => Sys2Proof.Machine.execPreemptVerifyRx p respond s
  | .faultSignalRx p loc rem => Sys2Proof.Machine.execFaultSignalRx p loc rem s
  | .portLinkLoss p => Sys2Proof.Machine.execPortLinkLoss p s
  | .portUpHoldExpire p => Sys2Proof.Machine.execPortUpHoldExpire p s
  | .portAdminDownDone p => Sys2Proof.Machine.execPortAdminDownDone p s
  | .pfcTimerExpire p q => Sys2Proof.Machine.execPfcTimerExpire p q s
  | .pfcXoffChange p q => Sys2Proof.Machine.execPfcXoffChange p q s
  | .pfcRefreshTimer p q => Sys2Proof.Machine.execPfcRefreshTimer p q s
  | .pfcStormDetect p q => Sys2Proof.Machine.execPfcStormDetect p q s
  | .pfcStormRecover p q => Sys2Proof.Machine.execPfcStormRecover p q s
  | .preemptVerifyTimer p => Sys2Proof.Machine.execPreemptVerifyTimer p s
  | .parserTableLoad x => Sys2Proof.Machine.execParserTableLoad x s
  | .parserConfig m => Sys2Proof.Machine.execParserConfig m s
  | .parserPort m => Sys2Proof.Machine.execParserPort m s
  | .flatProfileSet m => Sys2Proof.Machine.execFlatProfileSet m s
  | .expressFilterSet m => Sys2Proof.Machine.execExpressFilterSet m s
  | .puntConfig m => Sys2Proof.Machine.execPuntConfig m s
  | .prsBankSwap idx => Sys2Proof.Machine.execPrsBankSwap idx s
  | .prsTraceArm idx portEn port => Sys2Proof.Machine.execPrsTraceArm idx portEn port s
  | .parseFrame idx perr ended => Sys2Proof.Machine.execParseFrame idx perr ended s
  | .parseFrameEnd id => Sys2Proof.Machine.execParseFrameEnd id s
  | .parserParityRewrite idx => Sys2Proof.Machine.execParserParityRewrite idx s
  | .puntRefill => Sys2Proof.Machine.execPuntRefill s
  | .clsTableConfig m => Sys2Proof.Machine.execClsTableConfig m s
  | .ruleStage x => Sys2Proof.Machine.execRuleStage x s
  | .post m => Sys2Proof.Machine.execPost m s
  | .stageCancel x => Sys2Proof.Machine.execStageCancel x s
  | .meterConfig m => Sys2Proof.Machine.execMeterConfig m s
  | .clsPortConfig m => Sys2Proof.Machine.execClsPortConfig m s
  | .postingConfig m => Sys2Proof.Machine.execPostingConfig m s
  | .classifyFrame idx bad meterErr => Sys2Proof.Machine.execClassifyFrame idx bad meterErr s
  | .postingSwitch d => Sys2Proof.Machine.execPostingSwitch d s
  | .postingDrained => Sys2Proof.Machine.execPostingDrained s
  | .clerkPostingWork d => Sys2Proof.Machine.execClerkPostingWork d s
  | .drainStall => Sys2Proof.Machine.execDrainStall s
  | .ledgerConfig m => Sys2Proof.Machine.execLedgerConfig m s
  | .ledgerGlobal m => Sys2Proof.Machine.execLedgerGlobal m s
  | .lookupProfile m => Sys2Proof.Machine.execLookupProfile m s
  | .ldgPortConfig m => Sys2Proof.Machine.execLdgPortConfig m s
  | .entryWrite m => Sys2Proof.Machine.execEntryWrite m s
  | .entryFind m => Sys2Proof.Machine.execEntryFind m s
  | .entryBatch x => Sys2Proof.Machine.execEntryBatch x s
  | .groupSet m => Sys2Proof.Machine.execGroupSet m s
  | .ledgerFlush x => Sys2Proof.Machine.execLedgerFlush x s
  | .auditConfig m => Sys2Proof.Machine.execAuditConfig m s
  | .clerkControl m => Sys2Proof.Machine.execClerkControl m s
  | .expressLookup idx => Sys2Proof.Machine.execExpressLookup idx s
  | .expressTxStart p => Sys2Proof.Machine.execExpressTxStart p s
  | .learnRelease idx => Sys2Proof.Machine.execLearnRelease idx s
  | .clerkWorkStart w => Sys2Proof.Machine.execClerkWorkStart w s
  | .ageSweepBucket w => Sys2Proof.Machine.execAgeSweepBucket w s
  | .ageSweepPeriod w => Sys2Proof.Machine.execAgeSweepPeriod w s
  | .auditPassStart k => Sys2Proof.Machine.execAuditPassStart k s
  | .clerkPark w => Sys2Proof.Machine.execClerkPark w s
  | .clerkResume w => Sys2Proof.Machine.execClerkResume w s
  | .clrkWriteComplete w => Sys2Proof.Machine.execClrkWriteComplete w s
  | .clrkHaltWrite w => Sys2Proof.Machine.execClrkHaltWrite w s
  | .clrkIllegal w perr => Sys2Proof.Machine.execClrkIllegal w perr s
  | .clrkNop w => Sys2Proof.Machine.execClrkNop w s
  | .clrkAdd w => Sys2Proof.Machine.execClrkAdd w s
  | .clrkSub w => Sys2Proof.Machine.execClrkSub w s
  | .clrkAnd w => Sys2Proof.Machine.execClrkAnd w s
  | .clrkOr w => Sys2Proof.Machine.execClrkOr w s
  | .clrkXor w => Sys2Proof.Machine.execClrkXor w s
  | .clrkShr w => Sys2Proof.Machine.execClrkShr w s
  | .clrkShl w => Sys2Proof.Machine.execClrkShl w s
  | .clrkDec w => Sys2Proof.Machine.execClrkDec w s
  | .clrkBclr w => Sys2Proof.Machine.execClrkBclr w s
  | .clrkFfs w => Sys2Proof.Machine.execClrkFfs w s
  | .clrkRnd w => Sys2Proof.Machine.execClrkRnd w s
  | .clrkLdp w => Sys2Proof.Machine.execClrkLdp w s
  | .clrkLdk w => Sys2Proof.Machine.execClrkLdk w s
  | .clrkHash w => Sys2Proof.Machine.execClrkHash w s
  | .clrkRdb w => Sys2Proof.Machine.execClrkRdb w s
  | .clrkScan w => Sys2Proof.Machine.execClrkScan w s
  | .clrkAlt w => Sys2Proof.Machine.execClrkAlt w s
  | .clrkScna w => Sys2Proof.Machine.execClrkScna w s
  | .clrkAgep w => Sys2Proof.Machine.execClrkAgep w s
  | .clrkPathw w => Sys2Proof.Machine.execClrkPathw w s
  | .clrkPathr w => Sys2Proof.Machine.execClrkPathr w s
  | .clrkWrr w => Sys2Proof.Machine.execClrkWrr w s
  | .clrkUpd w => Sys2Proof.Machine.execClrkUpd w s
  | .clrkDup w => Sys2Proof.Machine.execClrkDup w s
  | .clrkErs w => Sys2Proof.Machine.execClrkErs w s
  | .clrkErsb w => Sys2Proof.Machine.execClrkErsb w s
  | .clrkHits w => Sys2Proof.Machine.execClrkHits w s
  | .clrkAgew w => Sys2Proof.Machine.execClrkAgew w s
  | .clrkRefresh w => Sys2Proof.Machine.execClrkRefresh w s
  | .clrkCdoom w => Sys2Proof.Machine.execClrkCdoom w s
  | .clrkUndoom w => Sys2Proof.Machine.execClrkUndoom w s
  | .clrkMbr w => Sys2Proof.Machine.execClrkMbr w s
  | .clrkJr w => Sys2Proof.Machine.execClrkJr w s
  | .clrkCmt w => Sys2Proof.Machine.execClrkCmt w s
  | .clrkRpt w => Sys2Proof.Machine.execClrkRpt w s
  | .clrkDone w => Sys2Proof.Machine.execClrkDone w s
  | .vaultConfig m => Sys2Proof.Machine.execVaultConfig m s
  | .poolConfig m => Sys2Proof.Machine.execPoolConfig m s
  | .poolMapSet m => Sys2Proof.Machine.execPoolMapSet m s
  | .poolRead m => Sys2Proof.Machine.execPoolRead m s
  | .frameEnqueue idx => Sys2Proof.Machine.execFrameEnqueue idx s
  | .folioFree who f pool unit => Sys2Proof.Machine.execFolioFree who f pool unit s
  | .queueConfig m => Sys2Proof.Machine.execQueueConfig m s
  | .portSchedConfig m => Sys2Proof.Machine.execPortSchedConfig m s
  | .energyConfig m => Sys2Proof.Machine.execEnergyConfig m s
  | .queueRead m => Sys2Proof.Machine.execQueueRead m s
  | .sampleConfig m => Sys2Proof.Machine.execSampleConfig m s
  | .portSelect p perr => Sys2Proof.Machine.execPortSelect p perr s
  | .frameTxEnd p => Sys2Proof.Machine.execFrameTxEnd p s
  | .preemptResume p => Sys2Proof.Machine.execPreemptResume p s
  | .launchWaitEnd p k => Sys2Proof.Machine.execLaunchWaitEnd p k s
  | .launchRelease p => Sys2Proof.Machine.execLaunchRelease p s
  | .stampPointTx p => Sys2Proof.Machine.execStampPointTx p s
  | .queueSample d fit => Sys2Proof.Machine.execQueueSample d fit s
  | .timeConfig m => Sys2Proof.Machine.execTimeConfig m s
  | .timeAdjust m => Sys2Proof.Machine.execTimeAdjust m s
  | .timeRingConfig m => Sys2Proof.Machine.execTimeRingConfig m s
  | .timePinConfig m => Sys2Proof.Machine.execTimePinConfig m s
  | .portTimeConfig m => Sys2Proof.Machine.execPortTimeConfig m s
  | .launchConfig m => Sys2Proof.Machine.execLaunchConfig m s
  | .gateListSet x => Sys2Proof.Machine.execGateListSet x s
  | .timGateChangeWrite p => Sys2Proof.Machine.execTimGateChangeWrite p s
  | .timeSyncWord dies => Sys2Proof.Machine.execTimeSyncWord dies s
  | .timeCopyStale d => Sys2Proof.Machine.execTimeCopyStale d s
  | .ppsMark => Sys2Proof.Machine.execPpsMark s
  | .ppsMissing => Sys2Proof.Machine.execPpsMissing s
  | .lockLeaseExpire => Sys2Proof.Machine.execLockLeaseExpire s
  | .holdoverEntry => Sys2Proof.Machine.execHoldoverEntry s
  | .holdoverExit => Sys2Proof.Machine.execHoldoverExit s
  | .timeDomainReturn => Sys2Proof.Machine.execTimeDomainReturn s
  | .slewDone => Sys2Proof.Machine.execSlewDone s
  | .timePairPeriod => Sys2Proof.Machine.execTimePairPeriod s
  | .timPairCapture => Sys2Proof.Machine.execTimPairCapture s
  | .timePinCapture k falling => Sys2Proof.Machine.execTimePinCapture k falling s
  | .timePinEdge k => Sys2Proof.Machine.execTimePinEdge k s
  | .gateEntryStart p => Sys2Proof.Machine.execGateEntryStart p s
  | .gateChangeover p => Sys2Proof.Machine.execGateChangeover p s
  | .cthConfig m => Sys2Proof.Machine.execCthConfig m s
  | .syndicateCreate m => Sys2Proof.Machine.execSyndicateCreate m s
  | .memberLoad x => Sys2Proof.Machine.execMemberLoad x s
  | .syndicateDelete m => Sys2Proof.Machine.execSyndicateDelete m s
  | .syndicateRead m => Sys2Proof.Machine.execSyndicateRead m s
  | .cthIntake idx => Sys2Proof.Machine.execCthIntake idx s
  | .cthContribution d y => Sys2Proof.Machine.execCthContribution d y s
  | .cthAccumulated y ecc => Sys2Proof.Machine.execCthAccumulated y ecc s
  | .cthResultReady y b ecc => Sys2Proof.Machine.execCthResultReady y b ecc s
  | .cthResultRetry y b => Sys2Proof.Machine.execCthResultRetry y b s
  | .cthStragglerTimer y b => Sys2Proof.Machine.execCthStragglerTimer y b s
  | .cthAbortTimer y b => Sys2Proof.Machine.execCthAbortTimer y b s
  | .dmaChannelConfig m => Sys2Proof.Machine.execDmaChannelConfig m s
  | .dmaChannelControl m => Sys2Proof.Machine.execDmaChannelControl m s
  | .hostqConfig m => Sys2Proof.Machine.execHostqConfig m s
  | .dmaGlobalConfig m => Sys2Proof.Machine.execDmaGlobalConfig m s
  | .dmaDoorbell c v => Sys2Proof.Machine.execDmaDoorbell c v s
  | .dmaStart c => Sys2Proof.Machine.execDmaStart c s
  | .dmaAbort c => Sys2Proof.Machine.execDmaAbort c s
  | .dmaCopyToHost c whole => Sys2Proof.Machine.execDmaCopyToHost c whole s
  | .dmaCopyFromHost c whole => Sys2Proof.Machine.execDmaCopyFromHost c whole s
  | .dmaFill c whole => Sys2Proof.Machine.execDmaFill c whole s
  | .dmaCompare c whole => Sys2Proof.Machine.execDmaCompare c whole s
  | .dmaLink c => Sys2Proof.Machine.execDmaLink c s
  | .dmaOwnRetry c => Sys2Proof.Machine.execDmaOwnRetry c s
  | .dmaBurstGrant wr unc => Sys2Proof.Machine.execDmaBurstGrant wr unc s
  | .dmaReadCompletion c k n fails unc => Sys2Proof.Machine.execDmaReadCompletion c k n fails unc s
  | .dmaCplTimeout c => Sys2Proof.Machine.execDmaCplTimeout c s
  | .dmaIrqHoldoffEnd c => Sys2Proof.Machine.execDmaIrqHoldoffEnd c s
  | .puntFrameDeliver c => Sys2Proof.Machine.execPuntFrameDeliver c s
  | .injectFrameStart c => Sys2Proof.Machine.execInjectFrameStart c s
  | .tallySelect m => Sys2Proof.Machine.execTallySelect m s
  | .bookConfig m => Sys2Proof.Machine.execBookConfig m s
  | .bookSchedule m => Sys2Proof.Machine.execBookSchedule m s
  | .bookCancel m => Sys2Proof.Machine.execBookCancel m s
  | .marginaliaConfig m => Sys2Proof.Machine.execMarginaliaConfig m s
  | .marginaliaPort m => Sys2Proof.Machine.execMarginaliaPort m s
  | .marginaliaRules m => Sys2Proof.Machine.execMarginaliaRules m s
  | .tallyCntClear u k => Sys2Proof.Machine.execTallyCntClear u k s
  | .bookCapture => Sys2Proof.Machine.execBookCapture s
  | .tallyStoreUpdate k unc => Sys2Proof.Machine.execTallyStoreUpdate k unc s
  | .bookMarkersDone => Sys2Proof.Machine.execBookMarkersDone s
  | .bookClose => Sys2Proof.Machine.execBookClose s
  | .govCapConfig m => Sys2Proof.Machine.execGovCapConfig m s
  | .govProfileSet m => Sys2Proof.Machine.execGovProfileSet m s
  | .govProfileSelect m => Sys2Proof.Machine.execGovProfileSelect m s
  | .govZoneConfig m => Sys2Proof.Machine.execGovZoneConfig m s
  | .govDroopConfig m => Sys2Proof.Machine.execGovDroopConfig m s
  | .govPmbusConfig m => Sys2Proof.Machine.execGovPmbusConfig m s
  | .govRead m => Sys2Proof.Machine.execGovRead m s
  | .governorPeriod total dies => Sys2Proof.Machine.execGovernorPeriod total dies s
  | .opStepStart d quiet => Sys2Proof.Machine.execOpStepStart d quiet s
  | .opSupplySettled d quiet => Sys2Proof.Machine.execOpSupplySettled d quiet s
  | .opStepDone d => Sys2Proof.Machine.execOpStepDone d s
  | .droopDetect d cycles detected => Sys2Proof.Machine.execDroopDetect d cycles detected s
  | .droopWindow d => Sys2Proof.Machine.execDroopWindow d s
  | .sensorSample temps => Sys2Proof.Machine.execSensorSample temps s
  | .thermStepTimer d => Sys2Proof.Machine.execThermStepTimer d s
  | .thermReleaseTimer d trip => Sys2Proof.Machine.execThermReleaseTimer d trip s
  | .capTick => Sys2Proof.Machine.execCapTick s
  | .capUnreachableTimer => Sys2Proof.Machine.execCapUnreachableTimer s
  | .pmbusPoll reads => Sys2Proof.Machine.execPmbusPoll reads s
  | .pmbusAlert reads => Sys2Proof.Machine.execPmbusAlert reads s
  | .thermtrip sensor => Sys2Proof.Machine.execThermtrip sensor s
  | .tripReleaseSample below => Sys2Proof.Machine.execTripReleaseSample below s
  | .faultHoldRestart addr => Sys2Proof.Machine.execFaultHoldRestart addr s
  | .faultConfig m => Sys2Proof.Machine.execFaultConfig m s
  | .classConfig m => Sys2Proof.Machine.execClassConfig m s
  | .eventRoute m => Sys2Proof.Machine.execEventRoute m s
  | .faultRead m => Sys2Proof.Machine.execFaultRead m s
  | .faultAck m => Sys2Proof.Machine.execFaultAck m s
  | .errnControl m => Sys2Proof.Machine.execErrnControl m s
  | .faultInject m => Sys2Proof.Machine.execFaultInject m s
  | .faultRaise => Sys2Proof.Machine.execFaultRaise s
  | .blockResetEnd u => Sys2Proof.Machine.execBlockResetEnd u s
  | .blockRestored u => Sys2Proof.Machine.execBlockRestored u s
  | .railBreak src high => Sys2Proof.Machine.execRailBreak src high s
  | .railBreakClear src => Sys2Proof.Machine.execRailBreakClear src s
  | .collectorFrame d good => Sys2Proof.Machine.execCollectorFrame d good s
  | .collectorLost d => Sys2Proof.Machine.execCollectorLost d s
  | .errnPulseEnd => Sys2Proof.Machine.execErrnPulseEnd s
  | .faultAckTimeout n => Sys2Proof.Machine.execFaultAckTimeout n s
  | .eventHoldoffEnd g => Sys2Proof.Machine.execEventHoldoffEnd g s
  | .evtPendWrite g hi v => Sys2Proof.Machine.execEvtPendWrite g hi v s
  | .registerWrite a n v => Sys2Proof.Machine.execRegisterWrite a n v s
  | .loReadLatch a n => Sys2Proof.Machine.execLoReadLatch a n s
  | .rcRead a n => Sys2Proof.Machine.execRcRead a n s
  | .rawRead a n unc => Sys2Proof.Machine.execRawRead a n unc s
  | .rawWrite a n v unc => Sys2Proof.Machine.execRawWrite a n v unc s
  | .pllLock k => Sys2Proof.Machine.execPllLock k s
  | .prbsCheckerLock n errs => Sys2Proof.Machine.execPrbsCheckerLock n errs s
  | .periodicInjection n => Sys2Proof.Machine.execPeriodicInjection n s
  | .mirrorRefresh => Sys2Proof.Machine.execMirrorRefresh s
  | .jtagTckEdge rise tms tdi trst => Sys2Proof.Machine.execJtagTckEdge rise tms tdi trst s
  | .jtagTrstNAssert => Sys2Proof.Machine.execJtagTrstNAssert s
  | .mbxCtlWrite m v => Sys2Proof.Machine.execMbxCtlWrite m v s

end Sys2Proof.Machine
end

