-- ==== Sys2Proof/Safety.lean ====
section
/-! DEFINITION. What a safe step and a safe run are, and the words the statements are made of: which register fields a command wrote, how a mailbox command
was answered, and when its checks pass. The spec names no condition that stops the block, so a safe step is one that answers a next state; what the block
may never do is said of the state it reaches. -/
namespace Sys2Proof.Machine

/-- The next state of an outcome that has one. -/
def nextOf (o : Host.Outcome State Fault Refusal) : Option State :=
  match o with
  | .next s => some s
  | .fault _ => none
  | .refused _ => none

/-- A step is safe where it answers a next state. -/
def SafeStep (s : State) : Prop := (nextOf (step s)).isSome = true

/-- `k` steps from a state, if none of them stops. -/
def runFrom : Nat → State → Option State
  | 0, s => some s
  | k + 1, s => (nextOf (step s)).bind (runFrom k)

/-- The host's writes of a grant unit act (R38, R45, R112): granted, in a mode that clocks it, not in reset. -/
def HostMayWrite (s : State) (u : Nat) : Prop :=
  s.granted u = true ∧ bit (unitModes u) s.mode = true ∧ s.clh.inReset.contains u = false

/-- The part stands in Fault-Hold: the latch is set and the mode is 7 (R78). -/
def InFaultHold (s : State) : Prop := s.mode = 7 ∧ s.flag F.CLH_STATUS_FAULT_HOLD 0 = true

/-! ### What a command wrote -/

/-- Field `f` of register instance `j` shares no bit with the field a write names: another register, or other bits of the same one. -/
def Apart (e : Fld × Nat × Nat) (f : Fld) (j : Nat) : Prop :=
  e.1.reg.key e.2.1 ≠ f.reg.key j ∨ (e.1.reg = f.reg ∧ e.2.1 = j ∧ (f.lo + f.wd ≤ e.1.lo ∨ e.1.lo + e.1.wd ≤ f.lo))

/-- From `s` to `t` the register fields of a list take the values beside them, cut to their widths, and every other field, whole registers among
them, reads as before. -/
structure RegsBecome (s t : State) (l : List (Fld × Nat × Nat)) : Prop where
  holds : ∀ e ∈ l, t.fld e.1 e.2.1 = e.2.2 % 2 ^ e.1.wd
  keeps : ∀ f j, f.lo + f.wd ≤ 32 → (∀ e ∈ l, Apart e f j) → t.fld f j = s.fld f j

/-- `t` is `s` but for the listed register fields, which take the listed values. -/
structure Wrote (s t : State) (l : List (Fld × Nat × Nat)) : Prop where
  regs : RegsBecome s t l
  rest : t = { s with regs := t.regs }

/-! ### How a mailbox command was answered (R86, R91, R116) -/

/-- The registers that an answer on mailbox `m` writes beside what the command does: the mailbox's status, last sequence number and run state, the head of
the history, the count of missed deadlines and the pending bits of MSI-X. -/
def answerKey (m k : Nat) : Bool :=
  k == R.MBX_STATUS.key m || k == R.MBX_LAST.key m || k == R.TLR_MBX_RUN.key m || k == R.TLR_HIST_HEAD.key 0
    || k == R.TLR_DEADLINE_MISSES.key 0 || decide (0x100901000 ≤ k)

/-- `t` is `u` with the answer to request `r` given on mailbox `m`: the response header and fields in the response area, RESP_VALID, BUSY, LAST_SEQ, and
beside them a history entry, a message and a raise of the deadline. -/
structure Answered (u t : State) (m : Nat) (r : Req) (status detail : Nat) (own : List Byte) : Prop where
  busy : t.fld F.MBX_STATUS_BUSY m = 0
  valid : t.fld F.MBX_STATUS_RESP_VALID m = 1
  last : t.fld F.MBX_LAST_LAST_SEQ m = r.doorbell % 2 ^ 16
  lastValid : t.fld F.MBX_LAST_LAST_VALID m = 1
  header : t.area (0x1000 * m + 0x800) 16 = u.respHeader r status own.length detail
  fields : t.area (0x1000 * m + 0x810) own.length = own
  area : ∀ a, a < 0x1000 * m + 0x800 ∨ 0x1000 * m + 0x810 + own.length ≤ a → Tab.get 0 t.tlr.area a = Tab.get 0 u.tlr.area a
  regs : ∀ q j, answerKey m (q.key j) = false → t.rd q j = u.rd q j
  rest : t = { u with regs := t.regs, fresh := t.fresh, msix := t.msix, clh := { u.clh with held := t.clh.held }
                      tlr := { u.tlr with area := t.tlr.area, quiet := t.tlr.quiet, hist := t.tlr.hist } }

/-- Request `r`, its defaults in place, stands accepted on mailbox `m` for command `c`, and every check of R94 passes. -/
def Ready (s : State) (m : Nat) (c : Cmd) (checks : Req → Checks) (r : Req) : Prop :=
  m < 8 ∧ ∃ r0, s.takes m c = some r0 ∧ r = filled c (checks r0).dflt r0 ∧ s.firstCheck c (checks r) r0 false = none

/-- The request `r0` stands accepted on mailbox `m` for command `c`, `r` with its defaults in place, and every check of R94 before those of its parameters
passes. -/
def Reaches (s : State) (m : Nat) (c : Cmd) (checks : Req → Checks) (r0 r : Req) : Prop :=
  m < 8 ∧ s.takes m c = some r0 ∧ r = filled c (checks r0).dflt r0 ∧ formatError c r0 = none ∧ bit (checks r).modes s.mode = true ∧ (checks r).target = none

/-- The same of a command that is answered ACCEPTED and goes on as a completion record (R103): record `k` is taken, `lost` if it held an unread completion. -/
def ReadyAsync (s : State) (m : Nat) (c : Cmd) (checks : Req → Checks) (r : Req) (k : Nat) (lost : Bool) : Prop :=
  m < 8 ∧ (c.cls = 3 ∨ r.async = true) ∧ s.pickRec = some (k, lost) ∧
    ∃ r0, s.takes m c = some r0 ∧ r = filled c (checks r0).dflt r0 ∧ s.firstCheck c (checks r) r0 true = none

/-- A command did what a list of field writes says, and no more, and was answered OK with `own` before the copy of its request. -/
def Configures (o : Host.Outcome State Fault Refusal) (s : State) (m : Nat) (r : Req) (c : Cmd) (own : List Byte) (l : List (Fld × Nat × Nat)) : Prop :=
  ∃ u t, o = .next t ∧ Wrote s u l ∧ Answered u t m r 0 0 (respParams c r 0 own)

/-- A command changed nothing and was answered OK with `own`. -/
def Reports (o : Host.Outcome State Fault Refusal) (s : State) (m : Nat) (r : Req) (c : Cmd) (own : List Byte) : Prop :=
  ∃ t, o = .next t ∧ Answered s t m r 0 0 (respParams c r 0 own)

/-- The registers that taking or completing a completion record writes: the counts of records, EXECUTING, the head of the history and the pending bits of
MSI-X. -/
def recordKey (k : Nat) : Bool :=
  k == R.TLR_ASYNC_STATE.key 0 || k == R.TLR_STATUS.key 0 || k == R.TLR_HIST_HEAD.key 0 || decide (0x100901000 ≤ k)

/-- `t` is `u` with request `r` of mailbox `m` accepted as completion record `k` (R103, R104): the record runs, and the mailbox is answered ACCEPTED with the
record's number and is free. -/
structure Accepted (u t : State) (m k : Nat) (r : Req) : Prop where
  runs : ∃ n, t.rec? k = some { phase := 1, mbx := m, req := r, hdr := u.respHeader r 1 0 0, params := [], order := r.order, note := n }
  busy : t.fld F.MBX_STATUS_BUSY m = 0
  valid : t.fld F.MBX_STATUS_RESP_VALID m = 1
  header : t.area (0x1000 * m + 0x800) 16 = u.respHeader r 1 0 k
  regs : ∀ q j, answerKey m (q.key j) = false → recordKey (q.key j) = false → t.rd q j = u.rd q j
  rest : t = { u with regs := t.regs, fresh := t.fresh, msix := t.msix, clh := { u.clh with held := t.clh.held }
                      tlr := { u.tlr with area := t.tlr.area, quiet := t.tlr.quiet, hist := t.tlr.hist, recs := t.tlr.recs } }

/-- `t` is `u` with the command of completion record `k`, which stood as `q`, complete (R104): the record holds the response and is unread. -/
structure Completed (u t : State) (k : Nat) (q : Rec) (status detail : Nat) (params : List Byte) : Prop where
  done : t.rec? k = some { q with phase := 2, hdr := u.respHeader q.req status params.length detail, params := params }
  others : ∀ j, j ≠ k → t.rec? j = u.rec? j
  regs : ∀ x j, recordKey (x.key j) = false → t.rd x j = u.rd x j
  rest : t = { u with regs := t.regs, fresh := t.fresh, msix := t.msix, clh := { u.clh with held := t.clh.held }
                      tlr := { u.tlr with recs := t.tlr.recs, hist := t.tlr.hist } }

/-- Completion record `k` holds the running command `q` of kind `c`. -/
def Running (s : State) (k : Nat) (c : Cmd) (q : Rec) : Prop := s.rec? k = some q ∧ q.phase = 1 ∧ q.req.opcode = c.op

/-! ### Clerks -/

/-- Clerk `w` runs, waits for no write, and stands before microword `v` with opcode `op` (R317, R319). -/
def Executes (s : State) (w op v : Nat) : Prop :=
  w < 8 ∧ s.clerkState w = 1 ∧ (s.clerk w).waiting = false ∧ s.microword w = v ∧ mwOp v = op

/-- The write of register `n` of Clerk `w`: none to G0, which discards it. -/
def toG (w n x : Nat) : List (Fld × Nat × Nat) := if n = 0 then [] else [(F.CLRK_REG_VALUE, n + 16 * w, x)]

/-- The write of condition flag `k` of Clerk `w`. -/
def toFlag (w k : Nat) (b : Bool) : List (Fld × Nat × Nat) := [(⟨R.CLRK_COND, k, 1⟩, w, b2n b)]

/-- The Clerk's program counter goes on by one. -/
def toNext (s : State) (w : Nat) : List (Fld × Nat × Nat) := [(F.CLRK_PC_PC, w, s.fld F.CLRK_PC_PC w + 1)]

/-- From `s` to `t` Clerk `w` has issued a replicated write of bucket `b`, waited for or posted, and gone on (R298, R319). -/
def Issued (s t : State) (w b : Nat) (wait : Bool) : Prop :=
  (t.clerk w).posted = (s.clerk w).posted ++ [b] ∧ (t.clerk w).waiting = wait ∧ (t.clerk w).wrote = true
    ∧ t.fld F.CLRK_PC_PC w = (s.fld F.CLRK_PC_PC w + 1) % 8192

/-- No slot of the ledger store outside `n` slots from slot `a` differs. -/
def SlotsKept (s t : State) (a n : Nat) : Prop := ∀ k i, k < 8 → i < 2 ^ 20 → i < a ∨ a + n ≤ i → t.slot k i = s.slot k i

/-! ### Grants -/

/-- The bit that grants a unit, with its register's instance (R112): a bit of TLR_GRANT_BLOCKS, or of its quire's TLR_GRANT_QUIRE. -/
def grantBit (u : Nat) : Fld × Nat :=
  if u < 12 then (⟨R.TLR_GRANT_BLOCKS, u, 1⟩, 0) else (⟨R.TLR_GRANT_QUIRE, (u - 12) % 6, 1⟩, (u - 12) / 6)

/-! ### Resets -/

/-- `t` is the part in Reset after a reset of `s` with these causes (R61, R79): the VDD_AON registers but GLB_RESET_CAUSE keep their values, every other
register is at its reset value, every store outside the island is empty; the fault records, the host's memory and what was put out stand. -/
structure ChipReset (s t : State) (causes : Nat) : Prop where
  mode : t.mode = 0
  causes : t.fld ⟨R.GLB_RESET_CAUSE, 0, 4⟩ 0 = causes
  count : t.fld F.GLB_RESET_CAUSE_RESETS 0 = satBits 8 (s.fld F.GLB_RESET_CAUSE_RESETS 0 + 1)
  island : ∀ q j, onIsland (q.key j) = true → q.key j ≠ R.GLB_RESET_CAUSE.key 0 → t.rd q j = s.rd q j
  others : ∀ q j, onIsland (q.key j) = false → t.rd q j = q.rst j
  slots : t.clh.slots = s.clh.slots
  rest : t = { State.reset with pending := s.pending, now := s.now, fresh := t.fresh, regs := t.regs, pins := t.pins, clh := t.clh, ckg := t.ckg
                                tlr := { bootAt := s.now }, host := s.host, msix := s.msix, readData := s.readData, jtag := s.jtag }

/-! ### DMA -/

/-- The MSI-X messages that sending vector `v` puts out at once: one, unless the link is down or the vector is masked (R459). -/
def State.sends (s : State) (v : Nat) : List Nat := if s.pins.pcieUp && !bit (s.rd R.MSIX_TABLE (4 * v + 3)) 0 then [v] else []

/-- Channel `c` stops after a descriptor that ends with a status (R478), or for an abort (R472, R473). -/
def State.halts (s : State) (c status : Nat) : Bool := s.stopsAt c status || (s.chan c).aborting

/-- From `s` to `t` channel `c` has ended descriptor `d` with a status and a residue, `moved` bytes counted, and stands at host address `next` (R470, R471,
R478): the descriptor is written back with OWN 0, it is counted as taken and ended, the channel stops or goes on, and sends its vector where it must. -/
structure DescEnds (s t : State) (c : Nat) (d : DmaDesc) (status residue moved next : Nat) : Prop where
  back : t.hostBytes d.at_ 32 = some ((w32 (d.w 0 % 2 ^ 31) ++ (List.range 5).flatMap fun k => w32 (d.w (k + 1)))
    ++ w32 (status * 2 ^ 24 + residue % 2 ^ 24) ++ w32 s.stamp)
  host : ∀ a, a < d.at_ ∨ d.at_ + 32 ≤ a → Tab.get none t.host a = Tab.get none s.host a
  head : t.head c = next % 2 ^ 64
  consumed : t.consumed c = (s.consumed c + 1) % 65536
  posted : t.posted c = s.posted c
  last : t.fld F.DMA_CH_STATUS_LAST_STATUS c = status
  error : status ≠ 0 → t.flag F.DMA_CH_STATUS_ERROR c = true
  ended : t.rd64 R.DMA_CH_STAT_LO R.DMA_CH_STAT_HI (8 * c) = min (s.rd64 R.DMA_CH_STAT_LO R.DMA_CH_STAT_HI (8 * c) + 1) (2 ^ 64 - 1)
  bytes : t.rd64 R.DMA_CH_STAT_LO R.DMA_CH_STAT_HI (1 + 8 * c) = min (s.rd64 R.DMA_CH_STAT_LO R.DMA_CH_STAT_HI (1 + 8 * c) + moved) (2 ^ 64 - 1)
  hand : (t.chan c).cur = none
  others : ∀ j, j ≠ c → t.chan j = s.chan j
  state : t.chanState c = if s.halts c status then 4
    else if s.posted c = (s.consumed c + 1) % 65536 ∧ (s.chan c).ahead = [] ∧ (s.chan c).frameDescs = [] then 1 else 2
  abort : (s.chan c).aborting = true → t.flag F.DMA_CH_STATUS_ABORT_DONE c = true ∧ (t.chan c).aborting = false
  message : t.msix = s.msix ++ if s.flag F.DMA_CH_CFG_IRQ_EN c && (s.halts c status || (d.irq && !(s.chan c).holding))
    then s.sends (s.fld F.DMA_CH_CFG_VECTOR c) else []
  config : t.rd R.DMA_CH_CFG c = s.rd R.DMA_CH_CFG c ∧ t.ringBase c = s.ringBase c
  regs : ∀ q j, q.key j < 0x6010000 + 0x100 * c ∨ 0x6010100 + 0x100 * c ≤ q.key j → q.key j < 0x100901000 → t.rd q j = s.rd q j
  rest : t = { s with regs := t.regs, fresh := t.fresh, msix := t.msix, host := t.host, clh := { s.clh with held := t.clh.held }
                      dma := { s.dma with chans := t.dma.chans } }

/-- Channel `c` has nothing in hand but what its holdoff and late completions are. -/
def EmptyHand (s : State) (c : Nat) : Prop :=
  s.chan c = { late := (s.chan c).late, holding := (s.chan c).holding, holdWaits := (s.chan c).holdWaits }

/-! ### The tally store -/

/-- From one state to another the pending updates that these numbers name reach the tally store, one after another. -/
def Drains : List Nat → State → State → Prop
  | [], s, t => t = s
  | k :: ks, s, t => ∃ u, exec (.tallyStoreUpdate k false) s = .next u ∧ Drains ks u t

/-! ### The Clearing House -/

/-- CLH_ERRN_STATUS once the pulse, HOLD and FORCE stand so: ERROR_N is driven while any of the five holds, and a fall of it is counted (R569). -/
def errnAfter (s : State) (pulse hold force : Bool) : List (Fld × Nat × Nat) :=
  let low := pulse || hold || s.noqsDrives || s.flag F.CLH_STATUS_FAULT_HOLD 0 || force
  [(F.CLH_ERRN_STATUS_PULSE, 0, b2n pulse), (F.CLH_ERRN_STATUS_HOLD, 0, b2n hold), (F.CLH_ERRN_STATUS_NOQS, 0, b2n s.noqsDrives),
   (F.CLH_ERRN_STATUS_DRIVEN, 0, b2n low), (F.CLH_ERRN_STATUS_ASSERTIONS, 0, satBits 16 (s.fld F.CLH_ERRN_STATUS_ASSERTIONS 0
     + b2n (low && !s.flag F.CLH_ERRN_STATUS_DRIVEN 0)))]

/-- Raise `r`, at place `i` of the central part's list, is the next it handles (R557): its watch cycle is the first, and in it its source the lowest. -/
def NextRaise (s : State) (i : Nat) (r : Raise) : Prop :=
  s.clh.central[i]? = some r ∧ ∀ j q, s.clh.central[j]? = some q → j ≠ i →
    r.watchNs / 5 < q.watchNs / 5 ∨ (r.watchNs / 5 = q.watchNs / 5 ∧ (r.src < q.src ∨ (r.src = q.src ∧ i < j)))

/-- From `s` to `t` a raise of `src` has taken the reactions `v`, without a reset (R566, R570, R572). -/
structure Reacted (s t : State) (src v : Nat) : Prop where
  errn : bit v 4 = true → t.flag F.CLH_ERRN_STATUS_PULSE 0 = true ∧ t.flag F.CLH_ERRN_STATUS_DRIVEN 0 = true
    ∧ (s.flag F.CLH_ERRN_CFG_MODE 0 = false → t.flag F.CLH_ERRN_STATUS_HOLD 0 = true)
  quiet : bit v 4 = false → t.rd R.CLH_ERRN_STATUS 0 = s.rd R.CLH_ERRN_STATUS 0
  traps : t.tlr.traps = s.tlr.traps ++ if bit v 1 then [src] else []
  msi : t.msix = s.msix ++ if bit v 0 && !s.isPending src && (Tab.get none s.clh.holdoff (src / 64)).isNone
    then s.sends (s.fld F.CLH_GROUP_CFG_VECTOR (src / 64)) else []
  pends : t.isPending src = true
  counts : bits (t.rd R.CLH_EVT_COUNT (src / 4)) (8 * (src % 4)) 8 = satBits 8 (bits (s.rd R.CLH_EVT_COUNT (src / 4)) (8 * (src % 4)) 8 + 1)

/-! ### Memory -/

/-- The canonical form of every addressed memory (log entries 7 and 10): the arrays of BAR2, host memory, Teller memory, the mailbox areas and the boot
buffer list their bytes by rising address, and none that equals what an unlisted address reads as. -/
def Memory.wf (s : State) : Bool :=
  Tab.wf 0 s.arrays && Tab.wf none s.host && Tab.wf 0 s.tlr.mem && Tab.wf 0 s.tlr.area && Tab.wf 0 s.boot.buf

end Sys2Proof.Machine
end

