-- ==== Sys2Proof/WellFormed.lean ====
section
/-! DEFINITION. Well-formed commands: every operand names something that exists. The meanings do not rest on it: an operand that names nothing leaves the
state as it is. -/
namespace Sys2Proof

/-- A mailbox (R85), a completion record (R104). -/
def okMailbox (m : Nat) : Bool := decide (m < 8)
def okExec : Exec → Bool
  | .mailbox m => okMailbox m
  | .record r => decide (r < 64)

/-- A lane, or a port by its lowest lane (R12). -/
def okLane (n : Nat) : Bool := decide (n < 1024)

/-- A priority of PFC (R214), a quire, a pipeline and a spine die (R12). -/
def okPriority (q : Nat) : Bool := decide (q < 8)
def okQuire (q : Nat) : Bool := decide (q < 16)
def okPipeline (i : Nat) : Bool := decide (i < 32)
def okSpine (d : Nat) : Bool := decide (d < 2)

/-- A die: 0–7 quire dies, 8 West, 9 East (R13). -/
def okDie (d : Nat) : Bool := decide (d < 10)

/-- A Clerk (R310), a grant unit (R112), a tally unit (R493). -/
def okClerk (w : Nat) : Bool := decide (w < 8)
def okUnit (u : Nat) : Bool := decide (u < 108)
def okTally (u : Nat) : Bool := decide (u < 448)

/-- A Clearing House source and its event group (R553). -/
def okSource (src : Nat) : Bool := decide (src < 6144)
def okGroup (g : Nat) : Bool := decide (g < 96)

/-- A syndicate (R429), a DMA channel (R462), an egress queue or the express path (R358). -/
def okSyndicate (y : Nat) : Bool := decide (y < 256)
def okChannel (c : Nat) : Bool := decide (c < 32)
def okQueue (k : Nat) : Bool := decide (k < 17)

/-- A supply rail (R603), a clock input (R123), a PLL (R124), a clock domain (R124), a crossing (R150). -/
def okRail (r : Nat) : Bool := decide (r < 7)
def okInput (i : Nat) : Bool := decide (i < 12)
def okPll (k : Nat) : Bool := decide (k < 23)
def okDomain (d : Nat) : Bool := decide (d < 22)
def okCrossing (x : Nat) : Bool := decide (x < 2272)

/-- A TIME pin or an audit slot, of which there are four (R315, R413). -/
def okPin (k : Nat) : Bool := decide (k < 4)

/-- A page buffer and a page index (R66, R67). -/
def okPageBuffer (b : Nat) : Bool := decide (b < 2)
def okPage (index : Nat) : Bool := decide (index < 512)

/-- A SEQ (R86), the I2C address balls and a 7-bit I2C address (R110), an I2C offset, an SPI address, offsets in BAR0 and BAR2 (R460). -/
def okSeq (seq : Nat) : Bool := decide (seq < 65536)
def okStrap (addr : Nat) : Bool := decide (addr < 4)
def okI2cAddr (addr : Nat) : Bool := decide (addr < 128)
def okI2cOffset (off : Nat) : Bool := decide (off < 65536)
def okSpiAddr (addr : Nat) : Bool := decide (addr < 16777216)
def okBar0 (off : Nat) : Bool := decide (off < 16777216)
def okBar2 (a : Nat) : Bool := decide (a < 4294967296)

/-- A thermal sensor, a sample of all of them (R533), and what the PMBus controller reads of up to eight regulators (R539). -/
def okSensor (k : Nat) : Bool := decide (k < 384)
def okTemps (l : List Int) : Bool := decide (l.length = 384)
def okReads (l : List (Option (Nat × Nat))) : Bool := decide (l.length ≤ 8)

/-- A PCIe link: SPEED 1 to 3, 1, 2, 4 or 8 lanes, MPS 0 to 2 (R458). -/
def okLink (speed width mps : Nat) : Bool :=
  decide (1 ≤ speed) && decide (speed ≤ 3) && [1, 2, 4, 8].contains width && decide (mps ≤ 2)

/-- A command is well-formed when each of its operands is. -/
def Instr.wf (i : Instr) : Bool :=
  match i with
  | .vddAonPowerOn => true
  | .vddAonPowerLoss => true
  | .railOutOfRange r => okRail r
  | .railInRange r => okRail r
  | .resetNAssert => true
  | .perstNAssert => true
  | .resetRelease _ _ => true
  | .perstNRelease => true
  | .loaderReady addr => okStrap addr
  | .pcieLinkUp speed width mps _ => okLink speed width mps
  | .pcieLinkDown => true
  | .busMasterEnableChange _ => true
  | .bootBufferWrite off _ => okBar0 off
  | .bootPageGo b index => okPageBuffer b && okPage index
  | .bootPageCheckDone b => okPageBuffer b
  | .bootStart => true
  | .bootVerifyDone _ => true
  | .bootAbort => true
  | .spiWrite addr _ => okSpiAddr addr
  | .spiQuadWrite addr _ => okSpiAddr addr
  | .spiRead addr _ => okSpiAddr addr
  | .spiQuadRead addr _ => okSpiAddr addr
  | .mbxDoorbell m seq => okMailbox m && okSeq seq
  | .mbxAreaWrite off _ => okBar0 off
  | .i2cWrite addr off _ => okI2cAddr addr && okI2cOffset off
  | .i2cRead addr off _ => okI2cAddr addr && okI2cOffset off
  | .i2cSclTimeout => true
  | .tellerWatchdog => true
  | .grantLeaseExpire u => okUnit u
  | .patchInstall => true
  | .tellerTrap => true
  | .nop m => okMailbox m
  | .identify m => okMailbox m
  | .modeRequest x => okExec x
  | .asyncResult m => okMailbox m
  | .abortCommand m => okMailbox m
  | .historyRead m => okMailbox m
  | .grant m => okMailbox m
  | .revoke m => okMailbox m
  | .patchLoad x => okExec x
  | .resetConfig m => okMailbox m
  | .clockConfig m => okMailbox m
  | .clockSelect m => okMailbox m
  | .watchTrim m => okMailbox m
  | .qualIntervalEnd i j _ => okInput i && okInput j
  | .refLoss i => okInput i
  | .pllUnlock k => okPll k
  | .domainSwitchDone d => okDomain d
  | .watchTrimAdjust _ _ => true
  | .toggleAck d _ _ _ => okDie d
  | .bundleAck d _ _ => okDie d
  | .xingResetToken x _ => okCrossing x
  | .ckgSelectWrite d _ => okDomain d
  | .laneConfig m => okMailbox m
  | .eqTableLoad x => okExec x
  | .laneTest m => okMailbox m
  | .laneMarginScan x => okExec x
  | .stitchConfig m => okMailbox m
  | .laneTxPllLock n => okLane n
  | .laneCdrLock n => okLane n
  | .laneSignalLoss n _ => okLane n
  | .laneTempRefresh q => okQuire q
  | .laneBandEval n => okLane n
  | .laneEqStep n => okLane n
  | .laneInjFire n => okLane n
  | .marginPointDone n _ => okLane n
  | .pcsAlignment p _ _ _ => okLane p
  | .fecWindowEnd p _ _ _ => okLane p
  | .stitchBlockRx n _ _ => okLane n
  | .stitchControlBlockRx n _ _ => okLane n
  | .stitchSignatureRx n _ _ => okLane n
  | .stitchSignatureTx n => okLane n
  | .stitchNakTimeout n => okLane n
  | .stchRetrainWrite n => okLane n
  | .portConfig m => okMailbox m
  | .portDelete m => okMailbox m
  | .pfcConfig m => okMailbox m
  | .preemptConfig m => okMailbox m
  | .macRxFrame p _ _ _ _ _ _ => okLane p
  | .pfcFrameRx p _ _ => okLane p
  | .preemptVerifyRx p _ => okLane p
  | .faultSignalRx p _ _ => okLane p
  | .portLinkLoss p => okLane p
  | .portUpHoldExpire p => okLane p
  | .portAdminDownDone p => okLane p
  | .pfcTimerExpire p q => okLane p && okPriority q
  | .pfcXoffChange p q => okLane p && okPriority q
  | .pfcRefreshTimer p q => okLane p && okPriority q
  | .pfcStormDetect p q => okLane p && okPriority q
  | .pfcStormRecover p q => okLane p && okPriority q
  | .preemptVerifyTimer p => okLane p
  | .parserTableLoad x => okExec x
  | .parserConfig m => okMailbox m
  | .parserPort m => okMailbox m
  | .flatProfileSet m => okMailbox m
  | .expressFilterSet m => okMailbox m
  | .puntConfig m => okMailbox m
  | .prsBankSwap i => okPipeline i
  | .prsTraceArm i _ _ => okPipeline i
  | .parseFrame i _ _ => okPipeline i
  | .parseFrameEnd _ => true
  | .parserParityRewrite i => okPipeline i
  | .puntRefill => true
  | .clsTableConfig m => okMailbox m
  | .ruleStage x => okExec x
  | .post m => okMailbox m
  | .stageCancel x => okExec x
  | .meterConfig m => okMailbox m
  | .clsPortConfig m => okMailbox m
  | .postingConfig m => okMailbox m
  | .classifyFrame i _ _ => okPipeline i
  | .postingSwitch d => okSpine d
  | .postingDrained => true
  | .clerkPostingWork d => okSpine d
  | .drainStall => true
  | .ledgerConfig m => okMailbox m
  | .ledgerGlobal m => okMailbox m
  | .lookupProfile m => okMailbox m
  | .ldgPortConfig m => okMailbox m
  | .entryWrite m => okMailbox m
  | .entryFind m => okMailbox m
  | .entryBatch x => okExec x
  | .groupSet m => okMailbox m
  | .ledgerFlush x => okExec x
  | .auditConfig m => okMailbox m
  | .clerkControl m => okMailbox m
  | .expressLookup i => okPipeline i
  | .expressTxStart p => okLane p
  | .learnRelease i => okPipeline i
  | .clerkWorkStart w => okClerk w
  | .ageSweepBucket w => okClerk w
  | .ageSweepPeriod w => okClerk w
  | .auditPassStart k => okPin k
  | .clerkPark w => okClerk w
  | .clerkResume w => okClerk w
  | .clrkWriteComplete w => okClerk w
  | .clrkHaltWrite w => okClerk w
  | .clrkIllegal w _ => okClerk w
  | .clrkNop w => okClerk w
  | .clrkAdd w => okClerk w
  | .clrkSub w => okClerk w
  | .clrkAnd w => okClerk w
  | .clrkOr w => okClerk w
  | .clrkXor w => okClerk w
  | .clrkShr w => okClerk w
  | .clrkShl w => okClerk w
  | .clrkDec w => okClerk w
  | .clrkBclr w => okClerk w
  | .clrkFfs w => okClerk w
  | .clrkRnd w => okClerk w
  | .clrkLdp w => okClerk w
  | .clrkLdk w => okClerk w
  | .clrkHash w => okClerk w
  | .clrkRdb w => okClerk w
  | .clrkScan w => okClerk w
  | .clrkAlt w => okClerk w
  | .clrkScna w => okClerk w
  | .clrkAgep w => okClerk w
  | .clrkPathw w => okClerk w
  | .clrkPathr w => okClerk w
  | .clrkWrr w => okClerk w
  | .clrkUpd w => okClerk w
  | .clrkDup w => okClerk w
  | .clrkErs w => okClerk w
  | .clrkErsb w => okClerk w
  | .clrkHits w => okClerk w
  | .clrkAgew w => okClerk w
  | .clrkRefresh w => okClerk w
  | .clrkCdoom w => okClerk w
  | .clrkUndoom w => okClerk w
  | .clrkMbr w => okClerk w
  | .clrkJr w => okClerk w
  | .clrkCmt w => okClerk w
  | .clrkRpt w => okClerk w
  | .clrkDone w => okClerk w
  | .vaultConfig m => okMailbox m
  | .poolConfig m => okMailbox m
  | .poolMapSet m => okMailbox m
  | .poolRead m => okMailbox m
  | .frameEnqueue i => okPipeline i
  | .folioFree _ _ _ _ => true
  | .queueConfig m => okMailbox m
  | .portSchedConfig m => okMailbox m
  | .energyConfig m => okMailbox m
  | .queueRead m => okMailbox m
  | .sampleConfig m => okMailbox m
  | .portSelect p _ => okLane p
  | .frameTxEnd p => okLane p
  | .preemptResume p => okLane p
  | .launchWaitEnd p k => okLane p && okQueue k
  | .launchRelease p => okLane p
  | .stampPointTx p => okLane p
  | .queueSample d _ => okSpine d
  | .timeConfig m => okMailbox m
  | .timeAdjust m => okMailbox m
  | .timeRingConfig m => okMailbox m
  | .timePinConfig m => okMailbox m
  | .portTimeConfig m => okMailbox m
  | .launchConfig m => okMailbox m
  | .gateListSet x => okExec x
  | .timGateChangeWrite p => okLane p
  | .timeSyncWord _ => true
  | .timeCopyStale d => okDie d
  | .ppsMark => true
  | .ppsMissing => true
  | .lockLeaseExpire => true
  | .holdoverEntry => true
  | .holdoverExit => true
  | .timeDomainReturn => true
  | .slewDone => true
  | .timePairPeriod => true
  | .timPairCapture => true
  | .timePinCapture k _ => okPin k
  | .timePinEdge k => okPin k
  | .gateEntryStart p => okLane p
  | .gateChangeover p => okLane p
  | .cthConfig m => okMailbox m
  | .syndicateCreate m => okMailbox m
  | .memberLoad x => okExec x
  | .syndicateDelete m => okMailbox m
  | .syndicateRead m => okMailbox m
  | .cthIntake i => okPipeline i
  | .cthContribution d y => okSpine d && okSyndicate y
  | .cthAccumulated y _ => okSyndicate y
  | .cthResultReady y _ _ => okSyndicate y
  | .cthResultRetry y _ => okSyndicate y
  | .cthStragglerTimer y _ => okSyndicate y
  | .cthAbortTimer y _ => okSyndicate y
  | .dmaChannelConfig m => okMailbox m
  | .dmaChannelControl m => okMailbox m
  | .hostqConfig m => okMailbox m
  | .dmaGlobalConfig m => okMailbox m
  | .dmaDoorbell c _ => okChannel c
  | .dmaStart c => okChannel c
  | .dmaAbort c => okChannel c
  | .dmaCopyToHost c _ => okChannel c
  | .dmaCopyFromHost c _ => okChannel c
  | .dmaFill c _ => okChannel c
  | .dmaCompare c _ => okChannel c
  | .dmaLink c => okChannel c
  | .dmaOwnRetry c => okChannel c
  | .dmaBurstGrant _ _ => true
  | .dmaReadCompletion c _ _ _ _ => okChannel c
  | .dmaCplTimeout c => okChannel c
  | .dmaIrqHoldoffEnd c => okChannel c
  | .puntFrameDeliver c => okChannel c
  | .injectFrameStart c => okChannel c
  | .tallySelect m => okMailbox m
  | .bookConfig m => okMailbox m
  | .bookSchedule m => okMailbox m
  | .bookCancel m => okMailbox m
  | .marginaliaConfig m => okMailbox m
  | .marginaliaPort m => okMailbox m
  | .marginaliaRules m => okMailbox m
  | .tallyCntClear u _ => okTally u
  | .bookCapture => true
  | .tallyStoreUpdate _ _ => true
  | .bookMarkersDone => true
  | .bookClose => true
  | .govCapConfig m => okMailbox m
  | .govProfileSet m => okMailbox m
  | .govProfileSelect m => okMailbox m
  | .govZoneConfig m => okMailbox m
  | .govDroopConfig m => okMailbox m
  | .govPmbusConfig m => okMailbox m
  | .govRead m => okMailbox m
  | .governorPeriod _ _ => true
  | .opStepStart d _ => okDie d
  | .opSupplySettled d _ => okDie d
  | .opStepDone d => okDie d
  | .droopDetect d _ _ => okDie d
  | .droopWindow d => okDie d
  | .sensorSample temps => okTemps temps
  | .thermStepTimer d => okDie d
  | .thermReleaseTimer d _ => okDie d
  | .capTick => true
  | .capUnreachableTimer => true
  | .pmbusPoll reads => okReads reads
  | .pmbusAlert reads => okReads reads
  | .thermtrip sensor => okSensor sensor
  | .tripReleaseSample _ => true
  | .faultHoldRestart addr => okStrap addr
  | .faultConfig m => okMailbox m
  | .classConfig m => okMailbox m
  | .eventRoute m => okMailbox m
  | .faultRead m => okMailbox m
  | .faultAck m => okMailbox m
  | .errnControl m => okMailbox m
  | .faultInject m => okMailbox m
  | .faultRaise => true
  | .blockResetEnd u => okUnit u
  | .blockRestored u => okUnit u
  | .railBreak src _ => okSource src
  | .railBreakClear src => okSource src
  | .collectorFrame d _ => okDie d
  | .collectorLost d => okDie d
  | .errnPulseEnd => true
  | .faultAckTimeout _ => true
  | .eventHoldoffEnd g => okGroup g
  | .evtPendWrite g _ _ => okGroup g
  | .registerWrite a _ _ => okBar2 a
  | .loReadLatch a _ => okBar2 a
  | .rcRead a _ => okBar2 a
  | .rawRead a _ _ => okBar2 a
  | .rawWrite a _ _ _ => okBar2 a
  | .pllLock k => okPll k
  | .prbsCheckerLock n _ => okLane n
  | .periodicInjection n => okLane n
  | .mirrorRefresh => true
  | .jtagTckEdge _ _ _ _ => true
  | .jtagTrstNAssert => true
  | .mbxCtlWrite m _ => okMailbox m

end Sys2Proof
end

