-- ==== Sys2Proof/Certificates/Slice0/Obligations.lean ====
section
/-! DEFINITION. The statements for the provers, from the numbered rules of the spec. -/
open Sys2Proof Sys2Proof.Machine

/-! ### The machine -/

/-- A step takes the command at the front of the queue and executes it with the rest of the queue; with an empty queue time passes. -/
def Obligations.StepRunsTheFrontCommand : Prop :=
  ∀ (c : Instr) (rest : List Instr) (s : State),
    step { s with pending := c :: rest } = exec c { s with pending := rest } ∧ step { s with pending := [] } = .next { s with pending := [] }.tick

/-- After reset the part is in Reset with no command waiting, every register at its reset value and every store empty.

The invariants of the machine hold at reset. -/
def Obligations.TheStateAfterReset : Prop :=
  (State.reset.mode = 0 ∧ State.reset.pending = [] ∧ (∀ q j, State.reset.rd q j = q.rst j) ∧ State.reset.rd R.GLB_CHIP_ID 0 = 0x0D9F1024
     ∧ (∀ i, i < 256 → State.reset.rd R.MSIX_TABLE (4 * i + 3) = 1) ∧ (∀ m, m < 8 → State.reset.fld F.MBX_CTL_VECTOR m = m)
     ∧ State.reset.arrays = [] ∧ State.reset.host = [] ∧ State.reset.tlr.area = [] ∧ State.reset.clh.slots = [] ∧ State.reset.queues = [])
  ∧ ((∀ c ∈ State.reset.pending, c.wf = true) ∧ State.reset.mode ≤ 7 ∧ State.reset.rd R.GLB_CHIP_ID 0 = 0x0D9F1024
     ∧ Memory.wf State.reset = true)

/-- Every step keeps the queue first in, first out: the command at its front leaves it, and no command's effect adds, drops or reorders another. -/
def Obligations.StepKeepsTheQueue : Prop :=
  ∀ s t : State, step s = .next t → t.pending = s.pending.tail

/-- An invariant: commands that wait stay well formed whatever runs before them.

An invariant: the mode stays one of the eight modes, whatever command runs.

An invariant: the chip identity reads the same after every step, a power cycle included. -/
def Obligations.InvariantsOfEveryStep : Prop :=
  (∀ s t : State, (∀ c ∈ s.pending, c.wf = true) → step s = .next t → ∀ c ∈ t.pending, c.wf = true)
  ∧ (∀ s t : State, s.mode ≤ 7 → step s = .next t → t.mode ≤ 7)
  ∧ (∀ s t : State, s.rd R.GLB_CHIP_ID 0 = 0x0D9F1024 → step s = .next t → t.rd R.GLB_CHIP_ID 0 = 0x0D9F1024)

/-- The mode changes only by these commands: power, the reset balls, the Loader, verification of a Charter, a mode request, holdover and the reactions to a
fault. -/
def Obligations.OnlyTheseCommandsChangeTheMode : Prop :=
  ∀ (c : Instr) (s t : State), exec c s = .next t → t.mode ≠ s.mode →
    c = .vddAonPowerOn ∨ c = .vddAonPowerLoss ∨ c = .resetNAssert ∨ c = .perstNAssert ∨ (∃ a, c = .loaderReady a) ∨ (∃ u, c = .bootVerifyDone u)
      ∨ (∃ x, c = .modeRequest x) ∨ c = .holdoverEntry ∨ c = .holdoverExit ∨ c = .faultRaise ∨ (∃ m, c = .faultInject m)

/-- An invariant: the addressed memories keep their canonical form, so that equal memories are equal data, whatever command runs. The form is the model's choice of
how it writes a memory down. -/
def Obligations.MemoriesKeepTheirForm : Prop :=
  ∀ s t : State, Memory.wf s = true → step s = .next t → Memory.wf t = true

/-! ### Power, resets and the way to Loader -/

/-- Power loss leaves every register at its reset value, the stepping apart, and every store empty; power-on the same, with a new POWER_TAG.

A reset ball that goes low outside Fault-Hold while the other is high: the part is in Reset, its cause recorded, the island's registers kept and every
other register and store at reset.

A release of reset balls outside Reset, or in Reset with every rail good and REFCLK_CORE qualified, raises the balls and nothing else; PERST_N_RELEASE is
the release of PERST_N alone.

With both balls high, every rail good and a clock for the Teller, the part enters Loader: the boot ROM serves mailboxes 0 and 6, the boot window is ready
and the I2C address is latched. In Fault-Hold, outside a thermal stop, the ROM serves the same two. After a trip that has cooled for a second the Teller and
PCIe clocks start again from reset. -/
def Obligations.PowerAndResets : Prop :=
  (∀ s : State,
     (∃ t, exec .vddAonPowerLoss s = .next t ∧ (∀ q j, q.key j ≠ R.GLB_STEPPING.key 0 → t.rd q j = q.rst j)
       ∧ t.rd R.GLB_STEPPING 0 = s.rd R.GLB_STEPPING 0
       ∧ t = { State.reset with pending := s.pending, fresh := s.fresh, regs := t.regs, host := s.host, msix := s.msix, readData := s.readData })
     ∧ ∃ t, exec .vddAonPowerOn s = .next t ∧ t.fld F.GLB_SESSION_POWER_TAG 0 = Config.freeValue s.fresh % 2 ^ 16
       ∧ t.fld F.GLB_SESSION_STANDBY_ENTRIES 0 = 0
       ∧ (∀ q j, q.key j ≠ R.GLB_STEPPING.key 0 → q.key j ≠ R.GLB_SESSION.key 0 → t.rd q j = q.rst j)
       ∧ t = { State.reset with pending := s.pending, fresh := s.fresh + 1, regs := t.regs, host := s.host, msix := s.msix, readData := s.readData })
  ∧ (∀ s : State, s.pins.resetN = true → s.pins.perstN = true → s.mode ≠ 0 → s.mode ≠ 7 →
     (∃ t, exec .resetNAssert s = .next t ∧ ChipReset s t 2 ∧ t.pins = { s.pins with resetN := false, pcieUp := false, busMaster := false, i2cAddr := none })
     ∧ (s.flag F.GLB_RESET_CFG_PERST_SCOPE 0 = false → ∃ t, exec .perstNAssert s = .next t ∧ ChipReset s t 4
         ∧ t.pins = { s.pins with perstN := false, pcieUp := false, busMaster := false, i2cAddr := none })
     ∧ (s.flag F.GLB_RESET_CFG_PERST_SCOPE 0 = true → ∃ t, exec .perstNAssert s = .next t ∧ t.mode = s.mode
         ∧ t.pins = { s.pins with perstN := false, pcieUp := false, busMaster := false }
         ∧ (∀ u, u < 108 → t.granted u = false) ∧ (∀ i, i < 1024 → t.rd R.MSIX_TABLE i = R.MSIX_TABLE.rst i)
         ∧ t.queues = s.queues ∧ t.boot.pages = []))
  ∧ (∀ (s : State) (a b : Bool), s.mode ≠ 0 ∨ (s.fld F.GLB_RAIL_STATUS_GOOD 0 = 127 ∧ s.qualified 0 = true) →
     exec (.resetRelease a b) s = .next { s with pins := { s.pins with resetN := s.pins.resetN || a, perstN := s.pins.perstN || b } }
     ∧ exec .perstNRelease s = .next { s with pins := { s.pins with resetN := s.pins.resetN || false, perstN := s.pins.perstN || true } })
  ∧ (∀ (s : State) (addr : Nat), s.pins.resetN = true → s.pins.perstN = true → s.tellerSource = true →
     (s.mode = 0 → s.fld F.GLB_RAIL_STATUS_GOOD 0 = 127 → s.qualified 0 = true → s.flag F.CLH_STATUS_FAULT_HOLD 0 = false → s.pins.i2cAddr = none →
       ∃ t, exec (.loaderReady addr) s = .next t ∧ t.mode = 1 ∧ t.pins.i2cAddr = some (addr % 4) ∧ t.fld F.TLR_STATUS_ROM 0 = 1
         ∧ (∀ m, m < 8 → t.fld F.MBX_STATUS_ALIVE m = if m = 0 ∨ m = 6 then 1 else 0)
         ∧ t.fld F.BOOT_STATUS_READY 0 = 1 ∧ t.fld F.BOOT_STATUS_BUF0_FREE 0 = 1 ∧ t.fld F.BOOT_STATUS_BUF1_FREE 0 = 1)
     ∧ (s.mode = 7 → s.tripStops = false →
       ∃ t, exec (.loaderReady addr) s = .next t ∧ t.mode = 7 ∧ t.fld F.TLR_STATUS_ROM 0 = 1
         ∧ (∀ m, m < 8 → t.fld F.MBX_STATUS_ALIVE m = if m = 0 ∨ m = 6 then 1 else 0)
         ∧ t.fld F.CKG_DOMAIN_STATUS_RUNNING 2 = 1 ∧ t.fld F.CKG_DOMAIN_STATUS_RUNNING 3 = 1)
     ∧ (s.mode = 7 → s.flag F.GOV_TRIP_STATUS_TRIPPED 0 = true → s.tripStops = false → s.flag F.CKG_DOMAIN_STATUS_RUNNING 2 = false →
       ∃ t, exec (.faultHoldRestart addr) s = .next t ∧ t.mode = 7 ∧ t.fld F.CKG_DOMAIN_STATUS_RUNNING 2 = 1 ∧ t.fld F.CKG_DOMAIN_STATUS_RUNNING 3 = 1
         ∧ t.pins.pcieUp = false ∧ t.tlr = { hist := s.tlr.hist, bootAt := s.now } ∧ t.clh = s.clh))

/-- A supply rail that leaves its window outside Reset clears its GOOD bit and raises PWR_RAIL_ABSENT with the mask of bad rails; the lanes, the PCIe link and
the reference clocks follow for VDD_LANE_A and VDD_LANE_T, VDD_PCIE and VDD_IO, and nothing else for the others. One that returns sets its GOOD bit.

The PCIe link comes up with its speed, width and sizes, goes down with its bit, count and raise, and Bus Master Enable follows the host. -/
def Obligations.RailsAndLink : Prop :=
  (∀ (s : State) (r : Nat), r < 7 →
     (s.railGood r = true → s.mode ≠ 0 → ∃ u, Wrote s u [(⟨R.GLB_RAIL_STATUS, r, 1⟩, 0, 0)]
       ∧ exec (.railOutOfRange r) s = .next ((u.raise E.PWR_RAIL_ABSENT (127 - u.fld F.GLB_RAIL_STATUS_GOOD 0)).railLost r)
       ∧ (r = 0 ∨ r = 1 ∨ r = 6 → ∀ v : State, v.railLost r = v))
     ∧ ∃ u, Wrote s u [(⟨R.GLB_RAIL_STATUS, r, 1⟩, 0, 1)]
       ∧ exec (.railInRange r) s = .next (if r = 2 ∨ r = 3 then u.each (List.range 1024) fun n v => v.refreshTx n else u))
  ∧ (∀ (s : State) (speed width mps : Nat) (flit on : Bool),
     (s.mode ≠ 0 → s.pins.perstN = true → s.railGood 4 = true → s.flag F.CKG_DOMAIN_STATUS_RUNNING 3 = true → 1 ≤ speed → speed ≤ 3 → width ∈ [1, 2, 4, 8] →
       mps ≤ 2 → ∃ u, Wrote s u [(F.DMA_PCIE_STATUS_SPEED, 0, speed), (F.DMA_PCIE_STATUS_WIDTH, 0, width), (F.DMA_PCIE_STATUS_MPS, 0, mps),
           (F.DMA_PCIE_STATUS_FLIT, 0, b2n flit), (F.DMA_PCIE_STATUS_LINK_UP, 0, 1)]
         ∧ exec (.pcieLinkUp speed width mps flit) s = .next { u with pins := { s.pins with pcieUp := true } })
     ∧ (s.pins.pcieUp = true → ∃ u, Wrote s u [(F.DMA_PCIE_STATUS_LINK_UP, 0, 0), (F.DMA_PCIE_STATUS_LINK_DOWN, 0, 1),
           (F.DMA_PCIE_STATUS_LINK_DOWN_COUNT, 0, satBits 8 (s.fld F.DMA_PCIE_STATUS_LINK_DOWN_COUNT 0 + 1))]
         ∧ exec .pcieLinkDown s = .next (({ u with pins := { s.pins with pcieUp := false } }.note E.DMA_PCIE_LINK_DOWN).each (List.range 28)
             fun c v => v.finishDesc c))
     ∧ (s.pins.pcieUp = true → s.pins.busMaster ≠ on → ∃ u, Wrote s u [(F.DMA_PCIE_STATUS_BME, 0, b2n on)]
         ∧ exec (.busMasterEnableChange on) s = .next ({ u with pins := { s.pins with busMaster := on } }.holdDma on)))

/-! ### The boot window, SPI, I2C and JTAG -/

/-- The host's writes to the boot window in Loader: bytes into a free buffer, a page handed over with GO, START, and ABORT, which empties the window and keeps
BOOT_ERR_PAGE and BOOT_WINDOW_REJECTS.

A page whose index and CRC are right is accepted; its buffer is free again. Verification that finds nothing wrong brings the part to Standby with the
versions of the image; one that finds an error discards the image and says which. -/
def Obligations.TheCharterIsLoaded : Prop :=
  (∀ s : State, s.bar2Up = true → s.mode = 1 → (s.fld F.BOOT_STATUS_SOURCE 0 = 0 ∨ s.fld F.BOOT_STATUS_SOURCE 0 = 1) →
     (∀ o (bs : List Byte), o < 0x20000 → o % 4 = 0 → bs.length = 4 → s.flag (bufFree (o / 0x10000)) 0 = true →
       ∃ u, Wrote s u [(F.BOOT_STATUS_SOURCE, 0, 1)]
         ∧ exec (.bootBufferWrite (0x800000 + o) bs) s = .next { u with boot := { s.boot with buf := Tab.setList 0 s.boot.buf o bs } })
     ∧ (∀ b index, b < 2 → index < 512 → s.flag (bufFree b) 0 = true →
       ∃ t, exec (.bootPageGo b index) s = .next t
         ∧ Wrote s t [(F.BOOT_PAGE_CTL_INDEX, b, index), (F.BOOT_PAGE_CTL_GO, b, 1), (bufFree b, 0, 0)])
     ∧ (∃ t, exec .bootStart s = .next t ∧ Wrote s t [(F.BOOT_CTL_START, 0, 1), (F.BOOT_STATUS_VERIFYING, 0, 1)])
     ∧ ∃ t, exec .bootAbort s = .next t ∧ t.boot.buf = [] ∧ t.boot.pages = [] ∧ t.fld F.BOOT_STATUS_READY 0 = 1 ∧ t.fld F.BOOT_STATUS_BUF0_FREE 0 = 1
         ∧ t.fld F.BOOT_STATUS_BUF1_FREE 0 = 1 ∧ t.fld F.BOOT_STATUS_PAGES_ACCEPTED 0 = 0 ∧ t.rd R.BOOT_ERR_PAGE 0 = s.rd R.BOOT_ERR_PAGE 0
         ∧ t.rd R.BOOT_WINDOW_REJECTS 0 = s.rd R.BOOT_WINDOW_REJECTS 0 ∧ t.mode = 1 ∧ t.tlr = s.tlr ∧ t.clh = s.clh)
  ∧ (∀ s : State, s.mode = 1 →
     (∀ b, b < 2 → s.flag F.BOOT_PAGE_CTL_GO b = true →
       (s.fld F.BOOT_PAGE_CTL_INDEX b = 0 ∧ s.pageHeld 0 = false ∨ s.pageHeld 0 = true ∧ s.fld F.BOOT_PAGE_CTL_INDEX b < s.pageCount) →
       crc32 (Tab.getList 0 s.boot.buf (0x10000 * b) 0x10000) = s.rd R.BOOT_PAGE_CRC b →
       ∃ u pages, pages = Tab.set [] s.boot.pages (s.fld F.BOOT_PAGE_CTL_INDEX b) (Tab.getList 0 s.boot.buf (0x10000 * b) 0x10000)
         ∧ Wrote s u [(F.BOOT_STATUS_PAGES_ACCEPTED, 0, pages.length), (F.BOOT_PAGE_CTL_GO, b, 0), (bufFree b, 0, 1)]
         ∧ exec (.bootPageCheckDone b) s = .next { u with boot := { s.boot with pages := pages } })
     ∧ (∀ unc, s.flag F.BOOT_STATUS_VERIFYING 0 = true → s.verifyError unc = none →
       ∃ u, Wrote s u [(F.BOOT_STATUS_VERIFYING, 0, 0), (F.BOOT_CTL_START, 0, 0), (F.BOOT_STATUS_DONE, 0, 1)]
         ∧ exec (.bootVerifyDone unc) s = .next u.enterStandby ∧ u.enterStandby.mode = 2)
     ∧ (∀ unc e, s.flag F.BOOT_STATUS_VERIFYING 0 = true → s.verifyError unc = some e → e ≠ 5 →
       ∃ u, Wrote s u [(F.BOOT_STATUS_VERIFYING, 0, 0), (F.BOOT_CTL_START, 0, 0), (F.BOOT_STATUS_ERROR, 0, e), (F.BOOT_STATUS_PAGES_ACCEPTED, 0, 0),
           (F.BOOT_STATUS_SOURCE, 0, 0)]
         ∧ exec (.bootVerifyDone unc) s = .next ({ u with boot := { s.boot with pages := [] } }.note E.GLB_BOOT_IMAGE_BAD)))

/-- SPI, on one line or four, writes the request area of a free mailbox 0 and reads its areas; under SPI_LOCK a written word is only counted.

I2C writes the request area of a free mailbox 6 and its control register, and reads its areas; an address that is not acknowledged changes nothing, and a
stretch of SCL past its limit ends the transfer without effect.

The test access port: a rising edge of JTAG_TCK moves the controller by TMS, five with TMS high reach Test-Logic-Reset from any state, Capture-DR under
IDCODE loads the identity code, Shift-DR passes TDI through, a falling edge in Shift-DR puts out the bit next to TDO, and TRST_N low resets the controller.
Nothing else of the part changes. -/
def Obligations.SidePortsReachTheTeller : Prop :=
  (∀ s : State, s.spiAnswers = true →
     (∀ addr (bs : List Byte), s.flag F.GLB_RESET_CFG_SPI_LOCK 0 = false → s.busy 0 = false → bs ≠ [] → addr + bs.length ≤ 0x800 →
       exec (.spiWrite addr bs) s = .next (s.putArea addr bs) ∧ exec (.spiQuadWrite addr bs) s = .next (s.putArea addr bs))
     ∧ (∀ addr (bs : List Byte), s.flag F.GLB_RESET_CFG_SPI_LOCK 0 = true → bs.length = 4 → addr % 4 = 0 →
       ∃ t, exec (.spiWrite addr bs) s = .next t ∧ exec (.spiQuadWrite addr bs) s = .next t
         ∧ Wrote s t [(F.BOOT_WINDOW_REJECTS_COUNT, 0, satBits F.BOOT_WINDOW_REJECTS_COUNT.wd (s.fld F.BOOT_WINDOW_REJECTS_COUNT 0 + 1))])
     ∧ ∀ addr n, addr + n ≤ 0x1000 →
       exec (.spiRead addr n) s = .next { s with readData := s.area addr n, fresh := s.fresh + n }
         ∧ exec (.spiQuadRead addr n) s = .next { s with readData := s.area addr n, fresh := s.fresh + n })
  ∧ (∀ (s : State) (addr : Nat),
     (s.i2cAnswers addr = true →
       (∀ off (bs : List Byte), s.busy 6 = false → bs ≠ [] → off + bs.length ≤ 0x800 → exec (.i2cWrite addr off bs) s = .next (s.putArea (0x6000 + off) bs))
       ∧ (∀ v, v < 2 ^ 32 → ∃ t, exec (.i2cWrite addr 0x100C (w32 v)) s = .next t
         ∧ Wrote s t [(F.MBX_CTL_IRQ_EN, 6, bits v 0 1), (F.MBX_CTL_VECTOR, 6, bits v 8 8), (F.MBX_CTL_PCIE_WRITE, 6, bits v 1 1)])
       ∧ ∀ off n, off + n ≤ 0x1000 → exec (.i2cRead addr off n) s = .next { s with readData := s.area (0x6000 + off) n, fresh := s.fresh + n })
     ∧ (s.i2cAnswers addr = false → (∀ off bs, exec (.i2cWrite addr off bs) s = .next s) ∧ ∀ off n, exec (.i2cRead addr off n) s = .next { s with readData := [] })
     ∧ exec .i2cSclTimeout s = .next s)
  ∧ ((∀ t : Tap, ((((t.next true).next true).next true).next true).next true = .testLogicReset)
   ∧ ∀ s : State, exec .jtagTrstNAssert s = .next { s with jtag := {} }
     ∧ (s.railGood 5 = true →
       (∀ rise tms tdi, exec (.jtagTckEdge rise tms tdi false) s = .next { s with jtag := {} })
       ∧ (∀ tms tdi, ∃ j, exec (.jtagTckEdge true tms tdi true) s = .next { s with jtag := j } ∧ j.tap = s.jtag.tap.next tms
         ∧ (s.jtag.tap = .captureDr → s.jtag.instr = .idcode →
             j.dr = (List.range 32).map fun i => bit s.idcode i)
         ∧ (s.jtag.tap = .shiftDr → s.jtag.instr = .idcode → j.dr = s.jtag.dr.drop 1 ++ [tdi]))
       ∧ ∀ tms tdi, s.jtag.tap = .shiftDr → s.jtag.instr = .idcode →
         exec (.jtagTckEdge false tms tdi true) s = .next { s with jtag := { s.jtag with tdo := some (s.jtag.dr.headD false) } }))

/-! ### Mailboxes and the Teller -/

/-- The host's writes to the mailboxes: request bytes into a free mailbox, MBX_CTL, an accepted doorbell, a repeated one, which is answered again without
running, and one that is dropped and counted because the mailbox is busy or not served. -/
def Obligations.MailboxesTakeTheHostsWrites : Prop :=
  ∀ (s : State) (m : Nat), s.bar2Up = true → m < 8 →
    (∀ o (bs : List Byte), bs ≠ [] → o + bs.length ≤ 0x800 →
      (s.busy m = false → (m ≠ 6 ∨ s.flag F.MBX_CTL_PCIE_WRITE 6 = true) → exec (.mbxAreaWrite (0x1000 * m + o) bs) s = .next (s.putArea (0x1000 * m + o) bs))
      ∧ (s.busy m = true → ∃ u, Wrote s u [(F.MBX_STATUS_REQ_WRITE_DROPS, m, satBits 8 (s.fld F.MBX_STATUS_REQ_WRITE_DROPS m + 1))]
        ∧ exec (.mbxAreaWrite (0x1000 * m + o) bs) s = .next (u.note E.TLR_REQ_WRITE_DROP)))
    ∧ (∀ v, m ≠ 6 → ∃ t, exec (.mbxCtlWrite m v) s = .next t ∧ Wrote s t [(F.MBX_CTL_IRQ_EN, m, bits v 0 1), (F.MBX_CTL_VECTOR, m, bits v 8 8)])
    ∧ (∀ seq, seq < 2 ^ 16 → (m ≠ 6 ∨ s.flag F.MBX_CTL_PCIE_WRITE 6 = true) →
      (s.flag F.MBX_STATUS_ALIVE m = true → s.busy m = false →
        ((s.flag F.MBX_LAST_LAST_VALID m = false ∨ s.fld F.MBX_LAST_LAST_SEQ m ≠ seq) → (s.areaReq 0 m seq).seq = seq →
          (∃ c ∈ cmdTable, c.op = (s.areaReq 0 m seq).opcode) →
          ∃ u r, Wrote s u [(F.MBX_DOORBELL_SEQ, m, seq), (F.MBX_STATUS_BUSY, m, 1), (F.MBX_STATUS_RESP_VALID, m, 0), (F.TLR_MBX_CMD_SEQ, m, seq),
              (F.TLR_MBX_CMD_OPCODE, m, r.opcode), (F.TLR_MBX_RUN_STATE, m, 1), (F.TLR_MBX_RUN_EXECUTOR, m, 0)]
            ∧ r = { s.areaReq 0 m seq with bound := opBound r.opcode + s.boundBefore m (s.areaReq 0 m seq) }
            ∧ exec (.mbxDoorbell m seq) s
              = .next { u with tlr := { s.tlr with reqs := Tab.set none s.tlr.reqs m (some r), order := s.tlr.order + 1 } })
        ∧ (s.flag F.MBX_LAST_LAST_VALID m = true → s.fld F.MBX_LAST_LAST_SEQ m = seq →
          ∃ t, exec (.mbxDoorbell m seq) s = .next t ∧ t.fld F.MBX_STATUS_RESP_VALID m = 1 ∧ t.fld F.MBX_STATUS_BUSY m = 0 ∧ t.tlr.area = s.tlr.area
            ∧ t.tlr.reqs = s.tlr.reqs ∧ t.tlr.recs = s.tlr.recs ∧ t.arrays = s.arrays ∧ t.vlt = s.vlt))
      ∧ ((s.flag F.MBX_STATUS_ALIVE m = false ∨ s.busy m = true) →
        ∃ t, exec (.mbxDoorbell m seq) s = .next t
          ∧ t.fld F.MBX_STATUS_DOORBELL_DROPS m = satBits 8 (s.fld F.MBX_STATUS_DOORBELL_DROPS m + 1)
          ∧ t.fld F.MBX_STATUS_BUSY m = s.fld F.MBX_STATUS_BUSY m ∧ t.tlr.area = s.tlr.area ∧ t.tlr.reqs = s.tlr.reqs ∧ t.vlt = s.vlt))

/-- A request whose checks fail is answered with the first failure's status and DETAIL, and nothing else of the part changes: for every command of class A or
B, whatever its effect.

NOP, IDENTIFY, HISTORY_READ and ASYNC_RESULT answer what they are asked for; ASYNC_RESULT without KEEP frees a completed record and leaves a running one.

ABORT_COMMAND ends the running command it names with ABORTED, reason 1, and says that it did; where no such command runs or waits it only says so. -/
def Obligations.CommandsAreCheckedAndReported : Prop :=
  (∀ (s : State) (m : Nat) (c : Cmd) (checks : Req → Checks) (act : Req → Ans) (r0 : Req) (e : Nat × Nat), m < 8 → s.takes m c = some r0 →
     s.firstCheck c (checks (filled c (checks r0).dflt r0)) r0 false = some e →
     Answered s (s.runCmd m c checks act) m r0 e.1 e.2 [])
  ∧ (∀ (s : State) (m : Nat) (r : Req),
     (Ready s m C.NOP s.nopChecks r → ∃ t, exec (.nop m) s = .next t ∧ Answered s t m r 0 0 (r.params.take r.length))
     ∧ (Ready s m C.IDENTIFY s.identifyChecks r → Reports (exec (.identify m) s) s m r C.IDENTIFY
         ([R.GLB_CHIP_ID, R.GLB_STEPPING, R.GLB_PCI_ID, R.GLB_CHARTER_VERSION, R.GLB_CHARTER_CRC, R.GLB_PATCH_LEVEL, R.GLB_CLERK_STORE_VERSION,
           R.GLB_SESSION, R.GLB_RESET_CAUSE, R.GLB_MODE].flatMap fun x => w32 (s.rd x 0)))
     ∧ (Ready s m C.HISTORY_READ s.historyReadChecks r → r.arg A.HISTORY_READ_COUNT ≤ s.fld F.TLR_HIST_HEAD_NEXT 0 →
         r.arg A.HISTORY_READ_FIRST = s.fld F.TLR_HIST_HEAD_NEXT 0 - r.arg A.HISTORY_READ_COUNT →
         Reports (exec (.historyRead m) s) s m r C.HISTORY_READ (w32 (s.fld F.TLR_HIST_HEAD_NEXT 0) ++ w32 (r.arg A.HISTORY_READ_FIRST)
           ++ (List.range (r.arg A.HISTORY_READ_COUNT)).flatMap fun k => Tab.get [] s.tlr.hist ((r.arg A.HISTORY_READ_FIRST + k) % 256)))
     ∧ ∀ q, Ready s m C.ASYNC_RESULT s.asyncResultChecks r → s.rec? (r.arg A.ASYNC_RESULT_RECORD) = some q →
         (q.phase = 1 → Reports (exec (.asyncResult m) s) s m r C.ASYNC_RESULT q.bytes)
         ∧ (q.phase = 2 → r.on A.ASYNC_RESULT_KEEP = false → ∃ t, exec (.asyncResult m) s = .next t ∧ t.rec? (r.arg A.ASYNC_RESULT_RECORD) = none
           ∧ Answered (s.putRec (r.arg A.ASYNC_RESULT_RECORD) none) t m r 0 0 (respParams C.ASYNC_RESULT r 0 q.bytes)))
  ∧ (∀ (s : State) (m : Nat) (r : Req), Ready s m C.ABORT_COMMAND (s.abortCommandChecks m) r → s.tlr.patch = none →
     (∀ k q, s.runningRec (r.arg A.ABORT_COMMAND_MAILBOX) (r.arg A.ABORT_COMMAND_SEQ) = some (k, q) →
       ∃ u t, exec (.abortCommand m) s = .next t ∧ Completed s u k q 0x0501 1 [] ∧ Answered u t m r 0 0 (respParams C.ABORT_COMMAND r 0 (w32 1)))
     ∧ (s.runningRec (r.arg A.ABORT_COMMAND_MAILBOX) (r.arg A.ABORT_COMMAND_SEQ) = none →
       s.waitingReq m (r.arg A.ABORT_COMMAND_MAILBOX) (r.arg A.ABORT_COMMAND_SEQ) = none →
       Reports (exec (.abortCommand m) s) s m r C.ABORT_COMMAND (w32 0)))

/-- GRANT sets the bit of the unit it names and starts its lease; REVOKE clears one unit's bit and lease, or all; a lease that runs out does the same, raises
and is logged. No other grant changes.

RESET_CONFIG sets PERST_SCOPE and each lock it names; a lock that is set stays set whatever the command says.

PATCH_LOAD, not ASYNC, fetches and checks a patch that then waits; with DRY_RUN it only answers. PATCH_INSTALL, once nothing else executes, makes its level
the part's, raises and answers the waiting command.

The watchdog raises; a trap that waits is taken, oldest first, and outside Loader leaves nothing behind. -/
def Obligations.GrantsLocksAndPatches : Prop :=
  (∀ (s : State) (m : Nat) (r : Req) (u : Nat),
     (Ready s m C.GRANT grantChecks r → r.grantUnit = .inl u →
       ∃ v t, exec (.grant m) s = .next t
         ∧ Wrote s v [((grantBit u).1, (grantBit u).2, 1), (F.TLR_LEASE_REMAINING_MS, u, r.arg A.GRANT_LEASE_MS)]
         ∧ Answered { v with tlr := { s.tlr with leaseAt := Tab.set 0 s.tlr.leaseAt u s.now } } t m r 0 0 (respParams C.GRANT r 0 (w32 (b2n (s.granted u)))))
     ∧ (Ready s m C.REVOKE s.revokeChecks r →
       (r.everyUnit = false → r.grantUnit = .inl u →
         Configures (exec (.revoke m) s) s m r C.REVOKE (w32 (b2n (s.granted u)))
           [((grantBit u).1, (grantBit u).2, 0), (F.TLR_LEASE_REMAINING_MS, u, 0)])
       ∧ (r.everyUnit = true → ∃ v t, exec (.revoke m) s = .next t ∧ (∀ k, k < 108 → v.granted k = false)
         ∧ (∀ q j, (∀ k, k < 108 → q.key j ≠ (grantBit k).1.reg.key (grantBit k).2 ∧ q.key j ≠ R.TLR_LEASE.key k) → v.rd q j = s.rd q j)
         ∧ Answered v t m r 0 0 (respParams C.REVOKE r 0 (w32 (b2n ((List.range 108).any fun k => s.granted k))))))
     ∧ (u < 108 → s.granted u = true → s.fld F.TLR_LEASE_REMAINING_MS u ≠ 0 →
       ∃ v, Wrote s v [((grantBit u).1, (grantBit u).2, 0), (F.TLR_LEASE_REMAINING_MS, u, 0)]
         ∧ exec (.grantLeaseExpire u) s = .next ((v.note E.TLR_GRANT_EXPIRED).history 0 3 5 [] [] [])))
  ∧ (∀ (s : State) (m : Nat) (r : Req), Ready s m C.RESET_CONFIG s.resetConfigChecks r →
     ∃ u t, exec (.resetConfig m) s = .next t
       ∧ Wrote s u [(F.GLB_RESET_CFG_PERST_SCOPE, 0, r.arg A.RESET_CONFIG_PERST_SCOPE),
           (F.GLB_RESET_CFG_SPI_LOCK, 0, max (s.fld F.GLB_RESET_CFG_SPI_LOCK 0) (r.arg A.RESET_CONFIG_SPI_LOCK)),
           (F.GLB_RESET_CFG_PATCH_LOCK, 0, max (s.fld F.GLB_RESET_CFG_PATCH_LOCK 0) (r.arg A.RESET_CONFIG_PATCH_LOCK)),
           (F.GLB_RESET_CFG_RELOAD_LOCK, 0, max (s.fld F.GLB_RESET_CFG_RELOAD_LOCK 0) (r.arg A.RESET_CONFIG_RELOAD_LOCK))]
       ∧ Answered u t m r 0 0 (respParams C.RESET_CONFIG r 0 (w32 (u.rd R.GLB_RESET_CFG 0))))
  ∧ (∀ s : State,
     (∀ m r p, s.tlr.patch = none → Ready s m C.PATCH_LOAD s.patchChecks r → r.async = false →
       s.hostRead (r.arg64 A.PATCH_LOAD_HOST_ADDR_LO A.PATCH_LOAD_HOST_ADDR_HI) (r.arg A.PATCH_LOAD_LENGTH) = some p → s.patchError r p = none →
       (r.on A.PATCH_LOAD_DRY_RUN = true → Reports (exec (.patchLoad (.mailbox m)) s) s m r C.PATCH_LOAD s.patchResp)
       ∧ (r.on A.PATCH_LOAD_DRY_RUN = false → ∃ u, Wrote s u [(F.TLR_MBX_RUN_STATE, m, 2)]
         ∧ exec (.patchLoad (.mailbox m)) s = .next { u with tlr := { s.tlr with patch := some ⟨.mailbox m, r, leAt p 16 4, p.drop 64⟩ } }))
     ∧ ∀ p m, s.tlr.patch = some p → p.exec = .mailbox m → m < 8 → s.executesBeside p.exec = false →
       ∃ u t, exec .patchInstall s = .next t ∧ Wrote s u [(F.GLB_PATCH_LEVEL_LEVEL, 0, p.level), (F.GLB_PATCH_LEVEL_LAST_STATUS, 0, 0)]
         ∧ Answered ({ u with tlr := { s.tlr with patch := none } }.note E.GLB_PATCH_INSTALLED) t m p.req 0 0
             (respParams C.PATCH_LOAD p.req 0 (w32 (p.level % 2 ^ 16) ++ w32 (s.rd R.GLB_CHARTER_VERSION 0))))
  ∧ (∀ s : State, s.tellerRuns = true →
     exec .tellerWatchdog s = .next (s.note E.TLR_WATCHDOG)
     ∧ ∀ a l, s.tlr.traps = a :: l → s.mode ≠ 1 → exec .tellerTrap s = .next { s with tlr := { s.tlr with traps := l } })

/-- MODE_REQUEST: a request to a mode other than Loader is accepted with TRANSITION and TARGET set; from its record the part reaches the mode asked for, and
where Service is asked for and network time is not locked, Holdover. A request to Loader that passes its checks while no command runs reaches Loader. -/
def Obligations.ModeRequestReachesItsTarget : Prop :=
  ∀ s : State,
    (∀ m r k, ReadyAsync s m C.MODE_REQUEST s.modeChecks r k false → r.arg A.MODE_REQUEST_TARGET_MODE ≠ 1 →
      ∃ u t, exec (.modeRequest (.mailbox m)) s = .next t
        ∧ Wrote s u [(F.GLB_MODE_TRANSITION, 0, 1), (F.GLB_MODE_TARGET, 0, r.arg A.MODE_REQUEST_TARGET_MODE)] ∧ Accepted u t m k r)
    ∧ (∀ k q, Running s k C.MODE_REQUEST q → s.waitsForLock q.req = false → ∃ t, exec (.modeRequest (.record k)) s = .next t
        ∧ (∃ x, t.rec? k = some x ∧ x.phase = 2)
        ∧ t.mode = (if q.req.arg A.MODE_REQUEST_TARGET_MODE = 3 then 3 else if q.req.arg A.MODE_REQUEST_TARGET_MODE = 2 then 2
            else if q.req.arg A.MODE_REQUEST_TARGET_MODE = 4 then (if s.flag F.TIM_STATUS_LOCKED 0 then 4 else 5) else 6))
    ∧ ∀ m r, Ready s m C.MODE_REQUEST s.modeChecks r → r.arg A.MODE_REQUEST_TARGET_MODE = 1 → s.anyRunning = false → s.cls.post = none →
      ∃ t, exec (.modeRequest (.mailbox m)) s = .next t ∧ t.mode = 1 ∧ t.pending = s.pending ∧ t.queues = [] ∧ t.lanes = [] ∧ t.arrays = []
        ∧ (∀ w, w < 108 → w ≠ 0 → t.granted w = false)

/-! ### Clocks, domains and crossings -/

/-- CLOCK_CONFIG writes tolerance, disagreement limit and the fallback and revert bits of the three domains and no other field, before a domain reverts;
CLOCK_SELECT brings a running domain to the source it names and says so; WATCH_TRIM writes mode, pin and, in mode 2, the code.

The monitors: a passed interval advances GOOD_RUN below its end and clears the failures; a failed one of a source that is not qualified clears GOOD_RUN; a
qualified source without edges is lost, counted, raised and disqualified. -/
def Obligations.ClocksAreConfiguredAndWatched : Prop :=
  (∀ (s : State) (m : Nat) (r : Req),
     (Ready s m C.CLOCK_CONFIG s.clockConfigChecks r → ∃ u t, exec (.clockConfig m) s = .next t
       ∧ Wrote s u ((F.CKG_QUAL_CFG_TOL_PPM, 0, r.arg A.CLOCK_CONFIG_TOL_PPM)
           :: (F.CKG_QUAL_CFG_DISAGREE_INTERVALS, 0, r.arg A.CLOCK_CONFIG_DISAGREE_INTERVALS)
           :: ([0, 1, 2].flatMap fun d => [(F.CKG_DOMAIN_CFG_FALLBACK_EN, d, bits (r.arg A.CLOCK_CONFIG_FALLBACK_EN) d 1),
               (F.CKG_DOMAIN_CFG_AUTO_REVERT, d, bits (r.arg A.CLOCK_CONFIG_AUTO_REVERT) d 1)]))
       ∧ Answered (u.each [0, 1, 2] fun d v => v.autoRevert d) t m r 0 0 (respParams C.CLOCK_CONFIG r 0
           (w32 (u.rd R.CKG_QUAL_CFG 0) ++ w32 (r.arg A.CLOCK_CONFIG_FALLBACK_EN + 256 * r.arg A.CLOCK_CONFIG_AUTO_REVERT))))
     ∧ (Ready s m C.CLOCK_SELECT s.clockSelectChecks r → r.index < 3 → s.flag F.CKG_DOMAIN_STATUS_RUNNING r.index = true →
       s.domainSource r.index ≠ r.arg A.CLOCK_SELECT_SOURCE → s.flag F.CKG_DOMAIN_CFG_AUTO_REVERT r.index = false →
       ∃ u t, exec (.clockSelect m) s = .next t
         ∧ Wrote s u [(F.CKG_DOMAIN_STATUS_SWITCHING, r.index, 0), (F.CKG_DOMAIN_STATUS_ON_FALLBACK, r.index, r.arg A.CLOCK_SELECT_SOURCE),
             (F.CKG_DOMAIN_CFG_SELECT, r.index, r.arg A.CLOCK_SELECT_SOURCE), (F.CKG_DOMAIN_STATUS_RUNNING, r.index, 1),
             (F.CKG_DOMAIN_STATUS_SWITCHES, r.index, satBits 8 (s.fld F.CKG_DOMAIN_STATUS_SWITCHES r.index + 1)),
             (F.CKG_DOMAIN_STATUS_LAST_PAUSE_NS, r.index, s.switchPause r.index)]
         ∧ Answered ({ u with ckg := { s.ckg with switch := Tab.set none s.ckg.switch r.index none } }.note E.CKG_SWITCH_DONE) t m r 0 0
             (respParams C.CLOCK_SELECT r 0 (w32 (r.arg A.CLOCK_SELECT_SOURCE + 256) ++ w32 (s.switchPause r.index % 2 ^ 16))))
     ∧ (Ready s m C.WATCH_TRIM s.watchTrimChecks r →
       (r.arg A.WATCH_TRIM_MODE ≠ 2 → Configures (exec (.watchTrim m) s) s m r C.WATCH_TRIM
           (w32 (s.fld F.CKG_WATCH_TRIM_CODE 0) ++ w32 (s.rd R.CKG_WATCH_FREQ 0))
           [(F.CKG_WATCH_TRIM_MODE, 0, r.arg A.WATCH_TRIM_MODE), (F.CKG_WATCH_TRIM_PPS_PIN, 0, r.arg A.WATCH_TRIM_PPS_PIN)])
       ∧ (r.arg A.WATCH_TRIM_MODE = 2 → r.arg A.WATCH_TRIM_CODE ≠ s.fld F.CKG_WATCH_TRIM_CODE 0 → r.arg A.WATCH_TRIM_CODE ≠ 0 →
           r.arg A.WATCH_TRIM_CODE ≠ 1023 → Configures (exec (.watchTrim m) s) s m r C.WATCH_TRIM
           (w32 (r.arg A.WATCH_TRIM_CODE) ++ w32 (s.rd R.CKG_WATCH_FREQ 0))
           [(F.CKG_WATCH_TRIM_MODE, 0, 2), (F.CKG_WATCH_TRIM_PPS_PIN, 0, r.arg A.WATCH_TRIM_PPS_PIN), (F.CKG_WATCH_TRIM_CODE, 0, r.arg A.WATCH_TRIM_CODE),
             (F.CKG_WATCH_TRIM_AT_LIMIT, 0, 0)])))
  ∧ (∀ (s : State) (i j count : Nat), i < 12 →
     (j ∈ compareList i → s.compareOf i = j → (i ≠ 11 ∨ s.fld F.CKG_WATCH_TRIM_MODE 0 ≠ 0) →
       (s.intervalPasses i j count = true → s.fld F.CKG_REF_STATUS_GOOD_RUN i + 1 < 1024 →
         ∃ u, Wrote s u [(F.CKG_REF_STATUS_PRESENT, i, b2n (decide (s.nominal i ≤ s.nominal j) || decide (0 < count))), (F.CKG_REF_MEASURE_COMPARE, i, j),
             (F.CKG_REF_MEASURE_ERROR_PPM, i, ofSigned 16 (max (-32768) (min 32767 (s.intervalPpm i j count)))),
             (F.CKG_REF_STATUS_GOOD_RUN, i, s.fld F.CKG_REF_STATUS_GOOD_RUN i + 1)]
           ∧ exec (.qualIntervalEnd i j count) s = .next { u with ckg := { s.ckg with fails := Tab.set 0 s.ckg.fails i 0 } })
       ∧ (s.intervalPasses i j count = false → s.qualified i = false →
         ∃ t, exec (.qualIntervalEnd i j count) s = .next t
           ∧ Wrote s t [(F.CKG_REF_STATUS_PRESENT, i, b2n (decide (s.nominal i ≤ s.nominal j) || decide (0 < count))), (F.CKG_REF_MEASURE_COMPARE, i, j),
             (F.CKG_REF_MEASURE_ERROR_PPM, i, ofSigned 16 (max (-32768) (min 32767 (s.intervalPpm i j count)))), (F.CKG_REF_STATUS_GOOD_RUN, i, 0)]))
     ∧ (s.qualified i = true → ∃ u, Wrote s u [(F.CKG_REF_STATUS_PRESENT, i, 0), (F.CKG_REF_STATUS_LOST, i, 1),
           (F.CKG_REF_STATUS_LOST_COUNT, i, satBits 8 (s.fld F.CKG_REF_STATUS_LOST_COUNT i + 1))]
         ∧ exec (.refLoss i) s = .next ((u.note E.CKG_REF_LOST).disqualify i)))

/-- PLLs, switches and the watch trim: lock and loss of lock with what the domains then do, the end of a switch, and a step of the trim code against an error
beyond 50 ppm.

Crossings: a pulse waits while one is unacknowledged, and an acknowledge launches the next; a bundle's acknowledge takes the held value and launches the
waiting one; the token of a finished reset ends PEER_RESET and counts what was offered; a granted write of SELECT starts a switch, an ungranted one is counted. -/
def Obligations.PllsSwitchesAndCrossings : Prop :=
  (∀ s : State,
     (∀ k, k < 23 → s.qualified (s.pllInput k) = true → s.flag F.CKG_PLL_STATUS_LOCKED k = false →
       ∃ u, Wrote s u [(F.CKG_PLL_STATUS_LOCKED, k, 1), (F.CKG_PLL_STATUS_INPUT, k, s.pllInput k)] ∧ exec (.pllLock k) s = .next u.sourceGained.evalLock)
     ∧ (∀ k, k < 23 → s.flag F.CKG_PLL_STATUS_LOCKED k = true →
       ∃ u w, Wrote s u [(F.CKG_PLL_STATUS_LOCKED, k, 0), (F.CKG_PLL_STATUS_UNLOCK, k, 1),
           (F.CKG_PLL_STATUS_UNLOCK_COUNT, k, satBits 8 (s.fld F.CKG_PLL_STATUS_UNLOCK_COUNT k + 1))]
         ∧ w = (u.note E.CKG_PLL_UNLOCK).sourcesFailed.evalLock
         ∧ exec (.pllUnlock k) s = .next (if 7 ≤ k ∧ w.flag F.CKG_DOMAIN_STATUS_RUNNING (k - 1) then
             ((w.setF F.CKG_DOMAIN_STATUS_RUNNING (k - 1) 0).setF F.CKG_DOMAIN_STATUS_HELD (k - 1) 1).each ((List.range 64).map fun l => 64 * (k - 7) + l)
               fun n v => if v.portConfigured n then v.portDown n else v
           else w))
     ∧ (∀ d sw, d < 22 → d ≠ 4 → Tab.get none s.ckg.switch d = some sw →
       ∃ u v, Wrote s u [(F.CKG_DOMAIN_STATUS_SWITCHING, d, 0), (F.CKG_DOMAIN_STATUS_ON_FALLBACK, d, sw.dest), (F.CKG_DOMAIN_CFG_SELECT, d, sw.dest),
           (F.CKG_DOMAIN_STATUS_RUNNING, d, 1), (F.CKG_DOMAIN_STATUS_SWITCHES, d, satBits 8 (s.fld F.CKG_DOMAIN_STATUS_SWITCHES d + 1)),
           (F.CKG_DOMAIN_STATUS_LAST_PAUSE_NS, d, s.switchPause d)]
         ∧ v = { u with ckg := { s.ckg with switch := Tab.set none s.ckg.switch d none } }
         ∧ exec (.domainSwitchDone d) s = .next (if sw.auto then v else v.note E.CKG_SWITCH_DONE))
     ∧ ∀ (ppm : Int) (hz : Nat), s.fld F.CKG_WATCH_TRIM_MODE 0 = 0 → s.flag F.CKG_WATCH_TRIM_TRIMMED 0 = true → s.flag F.CKG_REF_STATUS_PRESENT 0 = true →
       (-50 ≤ ppm → ppm ≤ 50 → ∃ t, exec (.watchTrimAdjust ppm hz) s = .next t ∧ Wrote s t [(F.CKG_WATCH_FREQ_HZ, 0, hz)])
       ∧ (∀ c, ppm < -50 ∨ 50 < ppm →
           c = (if decide (0 < ppm) = Config.trimRaises then s.fld F.CKG_WATCH_TRIM_CODE 0 - 1 else s.fld F.CKG_WATCH_TRIM_CODE 0 + 1) → 0 < c → c < 1023 →
           ∃ t, exec (.watchTrimAdjust ppm hz) s = .next t
             ∧ Wrote s t [(F.CKG_WATCH_FREQ_HZ, 0, hz), (F.CKG_WATCH_TRIM_CODE, 0, c), (F.CKG_WATCH_TRIM_AT_LIMIT, 0, 0)]))
  ∧ (∀ s : State,
     (∀ d k pulses same, d < 10 →
       (Tab.get {} s.ckg.toggles (crossKey d k)).unacked = true →
       (∀ x : Toggle, pulses = 0 → x.pend = (Tab.get {} s.ckg.toggles (crossKey d k)).pend + b2n same - 1 →
           x.unacked = decide (0 < (Tab.get {} s.ckg.toggles (crossKey d k)).pend + b2n same) →
           exec (.toggleAck d k pulses same) s = .next { s with ckg := { s.ckg with toggles := Tab.set {} s.ckg.toggles (crossKey d k) x } })
       ∧ (pulses = 1 → (Tab.get {} s.ckg.toggles (crossKey d k)).pend < 14 → ∃ t, exec (.toggleAck d k pulses same) s = .next t
           ∧ Tab.get {} t.ckg.toggles (crossKey d k) = ⟨(Tab.get {} s.ckg.toggles (crossKey d k)).pend + b2n same, true⟩
           ∧ t = { s with ckg := { s.ckg with toggles := t.ckg.toggles } }))
     ∧ (∀ d k v, d < 10 → (Tab.get {} s.ckg.bundles (crossKey d k)).held = some v →
       (∀ x : Bundle, x = ⟨(Tab.get {} s.ckg.bundles (crossKey d k)).waiting, none, v⟩ →
         exec (.bundleAck d k []) s = .next { s with ckg := { s.ckg with bundles := Tab.set {} s.ckg.bundles (crossKey d k) x } })
       ∧ ∀ w, (Tab.get {} s.ckg.bundles (crossKey d k)).waiting = none → ∃ t, exec (.bundleAck d k [w]) s = .next t
           ∧ Tab.get {} t.ckg.bundles (crossKey d k) = ⟨some w, none, v⟩ ∧ t = { s with ckg := { s.ckg with bundles := t.ckg.bundles } })
     ∧ (∀ x offered, x < 2272 → s.flag F.CKG_XING_STATUS_PEER_RESET x = true → ∃ t, exec (.xingResetToken x offered) s = .next t
       ∧ Wrote s t [(F.CKG_XING_COUNT_LOST, x, satBits 16 (s.fld F.CKG_XING_COUNT_LOST x + offered)), (F.CKG_XING_STATUS_PEER_RESET, x, 0)])
     ∧ ∀ d v, d < 3 → v < 2 →
       (HostMayWrite s 0 → s.sourceGood d v = true → Tab.get none s.ckg.switch d = none → s.flag F.CKG_DOMAIN_STATUS_RUNNING d = true → s.domainSource d ≠ v →
         ∃ u, Wrote s u [(F.CKG_DOMAIN_STATUS_SWITCHING, d, 1)]
           ∧ exec (.ckgSelectWrite d v) s = .next { u with ckg := { s.ckg with switch := Tab.set none s.ckg.switch d (some ⟨v, false⟩) } })
       ∧ (s.granted 0 = false → ∃ u, Wrote s u [(F.TLR_UNGRANTED_WRITES_COUNT, 0, satBits F.TLR_UNGRANTED_WRITES_COUNT.wd
             (s.fld F.TLR_UNGRANTED_WRITES_COUNT 0 + 1)), (F.TLR_UNGRANTED_LAST_OFFSET, 0, R.CKG_DOMAIN_CFG.key d)]
           ∧ exec (.ckgSelectWrite d v) s = .next (u.note E.TLR_UNGRANTED_WRITE)))

/-! ### Lanes and Ethernet PCS -/

/-- LANE_CONFIG configures each lane it names: on one lane the control fields take the parameters, the polarity comes from the board table in the basic form, a
lane that is turned off stops, any other has its transmitter brought in line, a forced band is taken and the codes step to their targets.

EQ_TABLE_LOAD, run from its record with a table that arrives whole and right, puts it in use and answers how many lanes it serves.

LANE_TEST tests each lane it names: with the checker going on, no loopback change, no clear and no FIRE it writes the generator, checker and injector fields
of the lane and no other. LANE_MARGIN_SCAN is accepted and its scan stands at its first point; each point stores its errors at the host and the last completes
the record. -/
def Obligations.LanesAreConfiguredAndTested : Prop :=
  (∀ (s : State) (m : Nat) (r : Req),
     (Ready s m C.LANE_CONFIG s.laneConfigChecks r → r.all = false → ∃ t, exec (.laneConfig m) s = .next t
       ∧ Answered (s.configLane r.index r) t m r 0 0 (respParams C.LANE_CONFIG r 0
           (w32 ((s.configLane r.index r).rd R.LANE_CTL r.index) ++ w32 ((s.configLane r.index r).rd R.LANE_STATUS r.index))))
     ∧ (Ready s m C.LANE_CONFIG s.laneConfigChecks r → r.all = true → ∃ t u, exec (.laneConfig m) s = .next t
       ∧ u = (s.each (List.range 1024) fun n v => v.configLane n r)
       ∧ Answered u t m r 0 0 (respParams C.LANE_CONFIG r 0 (w32 (u.rd R.LANE_CTL 0) ++ w32 (u.rd R.LANE_STATUS 0))))
     ∧ ∀ n inv, n < 1024 → inv = (if r.expert then r.arg A.LANE_CONFIG_INVERT else s.laneDesc n % 4) →
       ∃ u v, Wrote s u [(F.LANE_CTL_RATE, n, r.arg A.LANE_CONFIG_RATE), (F.LANE_CTL_CODING, n, r.arg A.LANE_CONFIG_CODING),
           (F.LANE_CTL_TX_INVERT, n, inv % 2), (F.LANE_CTL_RX_INVERT, n, inv / 2), (F.LANE_CTL_TX_SQUELCH, n, r.arg A.LANE_CONFIG_TX_SQUELCH),
           (F.LANE_CTL_EQ_MODE, n, r.arg A.LANE_CONFIG_EQ_MODE), (F.LANE_CTL_BAND_FORCE_EN, n, r.arg A.LANE_CONFIG_BAND_FORCE_EN),
           (F.LANE_CTL_BAND_FORCE, n, r.arg A.LANE_CONFIG_BAND_FORCE), (F.LANE_CTL_ENABLE, n, r.arg A.LANE_CONFIG_ENABLE)]
         ∧ v = (if s.flag F.LANE_CTL_ENABLE n = true ∧ r.on A.LANE_CONFIG_ENABLE = false then u.stopLane n else u.refreshTx n)
         ∧ s.configLane n r = (if v.flag F.LANE_CTL_BAND_FORCE_EN n then v.setBand n (v.forced n 0) else v).retarget n)
  ∧ (∀ (s : State) (k : Nat) (q : Rec) (b : List Byte), Running s k C.EQ_TABLE_LOAD q →
     s.hostRead (q.req.arg64 A.EQ_TABLE_LOAD_HOST_ADDR_LO A.EQ_TABLE_LOAD_HOST_ADDR_HI) 184320 = some b →
     leAt b 0 4 = 0xB0A2DE91 → leAt b 4 4 = 1 → crc32 b = q.req.arg A.EQ_TABLE_LOAD_TABLE_CRC →
     ∃ t, exec (.eqTableLoad (.record k)) s = .next t ∧ (s.loadBoard b).boot.board = b
       ∧ Completed (s.loadBoard b) t k q 0 0 (respParams C.EQ_TABLE_LOAD q.req 0
           (w32 (idxs 1024 fun n => (List.range 10).all fun e => boardValid b n e).length
             ++ w32 (idxs 1024 fun n => (s.loadBoard b).flag F.LANE_STATUS_EQ_INVALID n).length)))
  ∧ (∀ s : State,
     (∀ m r, Ready s m C.LANE_TEST s.laneTestChecks r → ∃ t u, exec (.laneTest m) s = .next t ∧ u = (s.each r.lanes fun n v => v.testLane n r)
       ∧ Answered u t m r 0 0 (respParams C.LANE_TEST r 0 (w32 (u.rd R.LANE_PRBS_STATUS (if r.all then 0 else r.index)))))
     ∧ (∀ (r : Req) n, n < 1024 → r.on A.LANE_TEST_CHK_EN = true → s.flag F.LANE_PRBS_CTL_CHK_EN n = true → r.on A.LANE_TEST_CLEAR = false →
       r.on A.LANE_TEST_FIRE = false → s.fld F.LANE_CTL_LOOPBACK n = r.arg A.LANE_TEST_LOOPBACK →
       Wrote s (s.testLane n r) [(F.LANE_PRBS_CTL_GEN_PATTERN, n, r.arg A.LANE_TEST_GEN_PATTERN), (F.LANE_PRBS_CTL_GEN_EN, n, r.arg A.LANE_TEST_GEN_EN),
         (F.LANE_PRBS_CTL_CHK_PATTERN, n, r.arg A.LANE_TEST_CHK_PATTERN), (F.LANE_PRBS_CTL_CHK_EN, n, r.arg A.LANE_TEST_CHK_EN),
         (F.LANE_PRBS_CTL_THRESHOLD_LOG2, n, r.arg A.LANE_TEST_THRESHOLD_LOG2), (F.LANE_INJ_CFG_MODE, n, r.arg A.LANE_TEST_INJ_MODE),
         (F.LANE_INJ_CFG_BURST_LEN, n, r.arg A.LANE_TEST_BURST_LEN), (F.LANE_INJ_CFG_PERIOD_LOG2, n, r.arg A.LANE_TEST_PERIOD_LOG2)])
     ∧ (∀ m r k, ReadyAsync s m C.LANE_MARGIN_SCAN s.laneMarginScanChecks r k false →
       ∃ t, exec (.laneMarginScan (.mailbox m)) s = .next t ∧ Accepted (s.putLane r.index { s.lane r.index with
         scan := some (k, 0, false, r.arg64 A.LANE_MARGIN_SCAN_HOST_ADDR_LO A.LANE_MARGIN_SCAN_HOST_ADDR_HI) }) t m k r)
     ∧ ∀ n errs k pt chg a q, s.scanning n = true → s.flag F.LANE_STATUS_STEPPING n = false → (s.lane n).scan = some (k, pt, chg, a) → s.rec? k = some q →
       s.hostReach = true →
       (pt + 1 < 4096 → exec (.marginPointDone n errs) s
         = .next ((s.hostWrite (a + 4 * pt) (w32 (min errs (2 ^ 32 - 1)))).putLane n { s.lane n with scan := some (k, pt + 1, chg, a) }))
       ∧ (pt + 1 = 4096 → ∃ t, exec (.marginPointDone n errs) s = .next t
         ∧ Completed ((s.hostWrite (a + 4 * pt) (w32 (min errs (2 ^ 32 - 1)))).putLane n { s.lane n with scan := none }) t k q 0 0
             (w32 4096 ++ w32 (b2n chg))))

/-- What happens on a lane: the transmit PLL locks and the codes load for the band of the temperature; the receiver locks, or loses its signal or lock, which is
counted and raised; the quire takes the hottest of its sensors; the band follows the temperature with hysteresis; every stepping code moves one step towards its
target.

PCS and the test features: alignment with every lane locked and deskewed, a FEC window with its counts and its threshold, the pattern checker gaining lock
after 64 symbols, an injected error fired by the host or by the period. -/
def Obligations.LanesFollowTheirSignals : Prop :=
  (∀ (s : State) (n : Nat), n < 1024 →
     (s.flag F.LANE_CTL_ENABLE n = true → bit 0x78 s.mode = true →
       ((s.lane n).pll = false → s.flag F.LANE_STATUS_EQ_INVALID n = false → s.lanePresent n = true →
         s.flag F.CKG_DOMAIN_STATUS_RUNNING (6 + n / 64) = true →
         ∃ t, exec (.laneTxPllLock n) s = .next t
           ∧ Wrote (s.putLane n { s.lane n with pll := true }) t [(F.LANE_STATUS_BAND, n, s.forced n (bandsBelow (s.quireTemp (n / 64)) 0)),
             (⟨R.LANE_EQ_NOW_TX, 0, 32⟩, n, t.targetTx n), (⟨R.LANE_EQ_NOW_RX, 0, 32⟩, n, t.targetRx n), (F.LANE_STATUS_STEPPING, n, 0),
             (F.LANE_STATUS_TX_READY, n, b2n (!s.squelched n))])
       ∧ (∃ t, exec (.laneCdrLock n) s = .next t ∧ Wrote s t [(F.LANE_STATUS_SIGNAL, n, 1), (F.LANE_STATUS_CDR_LOCK, n, 1)])
       ∧ (s.flag F.LANE_STATUS_CDR_LOCK n = true → ∃ u, Wrote s u [(F.LANE_STATUS_CDR_LOCK, n, 0), (F.LANE_STATUS_CDR_UNLOCK, n, 1),
             (F.LANE_STATUS_UNLOCK_COUNT, n, satBits 8 (s.fld F.LANE_STATUS_UNLOCK_COUNT n + 1))]
           ∧ exec (.laneSignalLoss n true) s = .next (u.note (E.LANE_LOSS n)))
       ∧ (s.flag F.LANE_STATUS_SIGNAL n = true → ∃ u, Wrote s u [(F.LANE_STATUS_SIGNAL, n, 0), (F.LANE_STATUS_LOS, n, 1),
             (F.LANE_STATUS_LOS_COUNT, n, satBits 8 (s.fld F.LANE_STATUS_LOS_COUNT n + 1))]
           ∧ exec (.laneSignalLoss n false) s = .next (u.note (E.LANE_LOSS n))))
     ∧ (∀ q, q < 16 → ∃ t, exec (.laneTempRefresh q) s = .next t
       ∧ (∀ i, i < 16 → toSigned 12 (s.fld F.GOV_SENSOR_TEMP (16 * q + i)) ≤ t.quireTemp q)
       ∧ (∃ i, i < 16 ∧ t.quireTemp q = toSigned 12 (s.fld F.GOV_SENSOR_TEMP (16 * q + i)))
       ∧ Wrote s t [(F.LANE_QUIRE_TEMP_TEMP, q, t.fld F.LANE_QUIRE_TEMP_TEMP q)])
     ∧ (∃ t, exec (.laneBandEval n) s = .next t ∧ (s.flag F.LANE_CTL_BAND_FORCE_EN n = false →
         t.fld F.LANE_STATUS_BAND n = (if s.fld F.LANE_STATUS_BAND n < bandsBelow (s.quireTemp (n / 64)) 0 then bandsBelow (s.quireTemp (n / 64)) 0
           else min (s.fld F.LANE_STATUS_BAND n) (bandsBelow (s.quireTemp (n / 64)) 12))))
     ∧ (s.flag F.LANE_STATUS_STEPPING n = true → ∃ t, exec (.laneEqStep n) s = .next t
       ∧ (∀ f ∈ txCodes, eqCode (t.rd R.LANE_EQ_NOW_TX n) f = (if eqCode (s.rd R.LANE_EQ_NOW_TX n) f < eqCode (s.targetTx n) f then
           eqCode (s.rd R.LANE_EQ_NOW_TX n) f + 1 else if eqCode (s.targetTx n) f < eqCode (s.rd R.LANE_EQ_NOW_TX n) f then
           eqCode (s.rd R.LANE_EQ_NOW_TX n) f - 1 else eqCode (s.targetTx n) f))
       ∧ (∀ f ∈ rxCodes, eqCode (t.rd R.LANE_EQ_NOW_RX n) f = (if eqCode (s.rd R.LANE_EQ_NOW_RX n) f < eqCode (s.targetRx n) f then
           eqCode (s.rd R.LANE_EQ_NOW_RX n) f + 1 else if eqCode (s.targetRx n) f < eqCode (s.rd R.LANE_EQ_NOW_RX n) f then
           eqCode (s.rd R.LANE_EQ_NOW_RX n) f - 1 else eqCode (s.targetRx n) f))
       ∧ (∀ x j, x.key j ≠ R.LANE_EQ_NOW_TX.key n → x.key j ≠ R.LANE_EQ_NOW_RX.key n → x.key j ≠ R.LANE_STATUS.key n → t.rd x j = s.rd x j)))
  ∧ (∀ s : State,
     (∀ p am skews, p < 1024 → s.portConfigured p = true → s.speed p ≠ 5 → bit 0x78 s.mode = true →
       (∀ n ∈ s.portLanes p, bit am (n - p) = true ∧ s.flag F.LANE_STATUS_CDR_LOCK n = true ∧ skews.getD (n - p) 0 ≤ 200) →
       ∃ u, Wrote s u (((s.portLanes p).flatMap fun n => [(F.PCS_STATUS_AM_LOCK, n, 1), (F.PCS_STATUS_SKEW_NS, n, skews.getD (n - p) 0)])
           ++ [(F.PCS_STATUS_ALIGNED, p, 1)])
         ∧ exec (.pcsAlignment p am skews true) s = .next (u.checkPort p))
     ∧ (∀ p syms cor unc, p < 1024 → s.portConfigured p = true → s.speed p ≠ 5 → s.flag F.PCS_STATUS_DEGRADED p = false →
       (syms ≤ s.fld F.PCS_FEC_CFG_THRESHOLD p → ∃ t, exec (.fecWindowEnd p syms cor unc) s = .next t
         ∧ Wrote s t [(F.PCS_FEC_CORRECTED_COUNT, p, satBits 32 (s.fld F.PCS_FEC_CORRECTED_COUNT p + cor)),
           (F.PCS_FEC_UNCORRECTED_COUNT, p, satBits 32 (s.fld F.PCS_FEC_UNCORRECTED_COUNT p + unc))])
       ∧ (s.fld F.PCS_FEC_CFG_THRESHOLD p < syms → ∃ u, Wrote s u [
           (F.PCS_FEC_CORRECTED_COUNT, p, satBits 32 (s.fld F.PCS_FEC_CORRECTED_COUNT p + cor)),
           (F.PCS_FEC_UNCORRECTED_COUNT, p, satBits 32 (s.fld F.PCS_FEC_UNCORRECTED_COUNT p + unc)), (F.PCS_STATUS_DEGRADED, p, 1),
           (F.PCS_STATUS_DEGRADE_SET, p, 1), (F.PCS_STATUS_DEGRADE_COUNT, p, satBits 8 (s.fld F.PCS_STATUS_DEGRADE_COUNT p + 1))]
         ∧ exec (.fecWindowEnd p syms cor unc) s = .next (u.note (E.PCS_FEC_DEGRADE (p / 64)))))
     ∧ ∀ n, n < 1024 →
       (s.mode = 6 → s.flag F.LANE_PRBS_CTL_CHK_EN n = true → s.flag F.LANE_PRBS_STATUS_CHK_LOCK n = false →
         ((s.lane n).chkRun = 63 → ∃ t, exec (.prbsCheckerLock n [0]) s = .next t
           ∧ Wrote (s.putLane n { s.lane n with chkRun := 0, chkWin := [] }) t [(F.LANE_PRBS_STATUS_CHK_LOCK, n, 1)])
         ∧ ((s.lane n).chkRun < 63 → exec (.prbsCheckerLock n [0]) s = .next (s.putLane n { s.lane n with chkRun := (s.lane n).chkRun + 1 }))
         ∧ ∀ e, 0 < e → exec (.prbsCheckerLock n [e]) s = .next (s.putLane n { s.lane n with chkRun := 0 }))
       ∧ (s.mode = 6 → s.fld F.LANE_INJ_CFG_MODE n = 3 →
         exec (.periodicInjection n) s = .next (s.putLane n { s.lane n with injected := (s.lane n).injected + 1 }))
       ∧ (s.mode = 6 → s.fld F.LANE_INJ_CFG_MODE n = 1 → HostMayWrite s (12 + 6 * (n / 64)) → ∃ t, exec (.laneInjFire n) s = .next t
         ∧ Wrote (s.putLane n { s.lane n with injected := (s.lane n).injected + 1 }) t [(F.LANE_INJ_CFG_FIRE, n, 0)]))

/-! ### Stitch links -/

/-- The receiver of a Stitch lane: block lock after 64 valid headers in a row, another position after an invalid one, and a run of valid headers counted; a
control block that fails its check leaves the sequence unknown, and one in lock that carries nothing else moves it on.

Signatures: one in order advances EXPECT and its bytes join the stream, one that fails its check is counted and begins a NAK; the transmitter sends what it
has been handed as a numbered signature that it keeps for replay, and training while it retrains.

A NAK that times out below the replay limit is sent again with its count advanced, and at the limit retrains; STITCH_CONFIG writes the limits; a host's write
of RETRAIN on a running link starts a retrain, and on one that does not run sets the bit. -/
def Obligations.StitchLanes : Prop :=
  (∀ (s : State) (n : Nat), s.stitchRuns n = true →
     (∀ stuff, s.flag F.STCH_STATUS_BLOCK_LOCK n = false →
       ((s.stch n).run + 1 = 64 → ∃ t, exec (.stitchBlockRx n true stuff) s = .next t
         ∧ Wrote (s.putStch n { s.stch n with run := 0, win := [] }) t [(F.STCH_COUNT_C_STUFF_ERRORS, n, satBits 16 (s.fld F.STCH_COUNT_C_STUFF_ERRORS n + stuff)),
           (F.STCH_STATUS_BLOCK_LOCK, n, 1)])
       ∧ ((s.stch n).run + 1 < 64 → ∃ t, exec (.stitchBlockRx n true stuff) s = .next t
         ∧ Wrote (s.putStch n { s.stch n with run := (s.stch n).run + 1 }) t
           [(F.STCH_COUNT_C_STUFF_ERRORS, n, satBits 16 (s.fld F.STCH_COUNT_C_STUFF_ERRORS n + stuff))])
       ∧ ∃ t, exec (.stitchBlockRx n false stuff) s = .next t
         ∧ Wrote (s.putStch n { s.stch n with run := 0, pos := ((s.stch n).pos + 1) % 129 }) t
           [(F.STCH_COUNT_C_STUFF_ERRORS, n, satBits 16 (s.fld F.STCH_COUNT_C_STUFF_ERRORS n + stuff))])
     ∧ ∀ line c, s.flag F.STCH_STATUS_BLOCK_LOCK n = true →
       (ctlValid line c = false → exec (.stitchControlBlockRx n line c) s
         = .next (s.putStch n { s.stch n with cur := (s.stch n).next, next := none, train := 0 }))
       ∧ (ctlValid line c = true → s.flag F.STCH_STATUS_SIG_LOCK n = true → s.flag F.STCH_STATUS_RETRAINING n = false → bit (leNat c) 33 = false →
         bit (leNat c) 38 = false → bit (leNat c) 39 = false →
         ∃ t, exec (.stitchControlBlockRx n line c) s = .next t
           ∧ Wrote (s.putStch n { s.stch n with cur := (s.stch n).next, next := some (ctlField c 88 24) }) t [(F.STCH_STATUS_SIG_LOCK, n, 1)]))
  ∧ (∀ (s : State) (n : Nat), s.stitchRuns n = true →
     (∀ line c, s.flag F.STCH_STATUS_SIG_LOCK n = true → s.flag F.STCH_STATUS_RETRAINING n = false → s.flag F.STCH_STATUS_NAK_PENDING n = false →
       (ctlValid line c = true → ctlField c 0 8 = 0x1E → bit (leNat c) 32 = false → (s.stch n).cur = some (ctlField c 8 24) →
         s.fld F.STCH_RX_SEQ_EXPECT n = ctlField c 8 24 → s.flag F.STCH_STATUS_LINK_UP n = true →
         ∃ u, Wrote s u [(F.STCH_RX_SEQ_EXPECT, n, ctlField c 8 24 + 1)]
           ∧ exec (.stitchSignatureRx n line c) s
             = .next ((u.putStch n { s.stch n with trained := false }).receiveBytes n (scramble (ctlField c 8 24) line) none))
       ∧ (∀ cur, ctlValid line c = false → (s.stch n).cur = some cur →
         ∃ u, Wrote s u [(F.STCH_COUNT_A_SIG_CRC_ERRORS, n, satBits 16 (s.fld F.STCH_COUNT_A_SIG_CRC_ERRORS n + 1))]
           ∧ exec (.stitchSignatureRx n line c) s = .next (u.startNak n)))
     ∧ (s.flag F.LANE_STATUS_TX_READY n = true →
       (s.flag F.STCH_STATUS_RETRAINING n = true → exec (.stitchSignatureTx n) s
         = .next (s.putStch n { s.stch n with line := scramble 0 (idleFill 992) ++ ctlBlock (0x2D + 2 ^ 38) (idleFill 992) }))
       ∧ (∀ data leads rest, s.flag F.STCH_STATUS_RETRAINING n = false → s.flag F.STCH_STATUS_NAK_PENDING n = false →
         s.flag F.STCH_STATUS_LINK_UP n = false → (s.stch n).replay = none → (s.stch n).held.length < 64 →
         fillSig 200 992 (s.stch n).txq = (data, leads, rest) →
         ∃ u x, Wrote s u [(F.STCH_TX_SEQ_NEXT, n, s.fld F.STCH_TX_SEQ_NEXT n + 1), (F.STCH_TX_SEQ_HELD, n, (s.stch n).held.length + 1)]
           ∧ exec (.stitchSignatureTx n) s = .next (u.putStch n x) ∧ x.txq = rest ∧ x.held = (s.stch n).held ++ [⟨s.fld F.STCH_TX_SEQ_NEXT n, data⟩]
           ∧ x.line = scramble (s.fld F.STCH_TX_SEQ_NEXT n) data
             ++ ctlBlock (0x1E + s.fld F.STCH_TX_SEQ_NEXT n * 2 ^ 8 + 0 + (s.fld F.STCH_TX_SEQ_NEXT n + 1) % 2 ^ 24 * 2 ^ 88) data
           ∧ x.stream = (s.stch n).stream ∧ x.inbox = (s.stch n).inbox)))
  ∧ (∀ (s : State) (n : Nat),
     (s.stitchRuns n = true → s.flag F.STCH_STATUS_NAK_PENDING n = true → (s.stch n).nakSince.isSome = true →
       (s.fld F.STCH_RX_SEQ_NAK_COUNT n < max 1 (s.fld F.STCH_CTL_REPLAY_LIMIT n) → ∃ u, Wrote s u [(F.STCH_RX_SEQ_NAK_COUNT, n, s.fld F.STCH_RX_SEQ_NAK_COUNT n + 1)]
         ∧ exec (.stitchNakTimeout n) s = .next (u.putStch n { s.stch n with nakSince := none, stream := [] }))
       ∧ (max 1 (s.fld F.STCH_CTL_REPLAY_LIMIT n) ≤ s.fld F.STCH_RX_SEQ_NAK_COUNT n → exec (.stitchNakTimeout n) s = .next (s.retrain n)))
     ∧ (n < 1024 → HostMayWrite s (12 + 6 * (n / 64) + 2) →
       (s.stitchRuns n = true → exec (.stchRetrainWrite n) s = .next (s.retrain n) ∧ (s.retrain n).fld F.STCH_STATUS_RETRAINING n = 1)
       ∧ (s.stitchRuns n = false → ∃ t, exec (.stchRetrainWrite n) s = .next t ∧ Wrote s t [(F.STCH_CTL_RETRAIN, n, 1)]))
     ∧ ∀ m r, Ready s m C.STITCH_CONFIG s.stitchConfigChecks r → r.on A.STITCH_CONFIG_RETRAIN = false →
       Configures (exec (.stitchConfig m) s) s m r C.STITCH_CONFIG (w32 (s.rd R.STCH_STATUS r.index))
         [(F.STCH_CTL_REPLAY_LIMIT, r.index, r.arg A.STITCH_CONFIG_REPLAY_LIMIT), (F.STCH_CTL_NAK_TIMEOUT, r.index, r.arg A.STITCH_CONFIG_NAK_TIMEOUT)])

/-! ### Ports and MACs -/

/-- PORT_CONFIG creates a port that is not there, writes its four limits, clears its statistics if asked and sets ADMIN_UP; creating one gives the port its speed
and its lanes. PORT_DELETE takes the port down, empties its queues, resets its registers and answers how many frames it discarded.

PFC_CONFIG and PREEMPT_CONFIG write the fields their tables name and no other, and PREEMPT_CONFIG then starts verification anew. -/
def Obligations.PortsAreConfigured : Prop :=
  (∀ (s : State) (m : Nat) (r : Req),
     (Ready s m C.PORT_CONFIG s.portConfigChecks r → r.index < 1024 → ∃ v u w t, exec (.portConfig m) s = .next t
       ∧ v = (if s.portConfigured r.index then s else s.createPort r.index (r.arg A.PORT_CONFIG_SPEED))
       ∧ Wrote v u [(F.MAC_CFG_MAX_FRAME, r.index, r.arg A.PORT_CONFIG_MAX_FRAME), (F.MAC_CFG_LEN_OVERHEAD, r.index, r.arg A.PORT_CONFIG_LEN_OVERHEAD),
           (F.MAC_CFG2_UP_HOLD_US, r.index, r.arg A.PORT_CONFIG_UP_HOLD_US), (F.MAC_CFG2_FLAP_LIMIT, r.index, r.arg A.PORT_CONFIG_FLAP_LIMIT)]
       ∧ w = (if r.on A.PORT_CONFIG_CLEAR_STATS then u.clearMacStats r.index else u).setAdmin r.index (r.on A.PORT_CONFIG_ADMIN_UP)
       ∧ Answered w t m r 0 0 (respParams C.PORT_CONFIG r 0 (w32 (w.rd R.MAC_CFG r.index) ++ w32 (w.rd R.MAC_STATUS r.index))))
     ∧ (∀ p speed, p < 1024 → speed < 6 → p + speedLanes speed ≤ 1024 → (s.createPort p speed).portConfigured p = true ∧ (s.createPort p speed).speed p = speed
       ∧ ∀ n, p ≤ n → n < p + speedLanes speed → (s.createPort p speed).fld F.LANE_CTL_ENABLE n = 1
         ∧ (s.createPort p speed).fld F.LANE_CTL_RATE n = speedRate speed ∧ (s.createPort p speed).fld F.LANE_CTL_CODING n = speedCoding speed)
     ∧ (Ready s m C.PORT_DELETE s.portDeleteChecks r → r.index < 1024 → ∃ u t, exec (.portDelete m) s = .next t
       ∧ u.portConfigured r.index = false ∧ u.operUp r.index = false
       ∧ (∀ x j, R.MAC_CFG.key r.index ≤ x.key j → x.key j < R.MAC_CFG.key r.index + 0x380 → u.rd x j = x.rst j)
       ∧ (∀ k, k < 16 → Tab.get [] u.queues (16 * r.index + k) = [])
       ∧ Answered u t m r 0 0 (respParams C.PORT_DELETE r 0
           (w32 (((List.range 16).map fun k => (Tab.get [] s.queues (16 * r.index + k)).length).foldl (· + ·) 0)))))
  ∧ (∀ (s : State) (m : Nat) (r : Req), r.index < 1024 →
     (Ready s m C.PFC_CONFIG s.pfcConfigChecks r → ∃ u t, exec (.pfcConfig m) s = .next t
       ∧ Wrote s u ([(F.MAC_PFC_CFG_RX_EN, r.index, r.arg A.PFC_CONFIG_RX_EN), (F.MAC_PFC_CFG_TX_EN, r.index, r.arg A.PFC_CONFIG_TX_EN),
           (F.MAC_PFC_CFG_TX_QUANTA, r.index, r.arg A.PFC_CONFIG_TX_QUANTA), (F.MAC_PFC_STORM_DETECT_MS, r.index, r.arg A.PFC_CONFIG_STORM_DETECT_MS),
           (F.MAC_PFC_STORM_ACTION, r.index, r.arg A.PFC_CONFIG_STORM_ACTION), (F.MAC_PFC_STORM_RECOVER_MS, r.index, r.arg A.PFC_CONFIG_STORM_RECOVER_MS)]
           ++ ((List.range 4).map fun w => (⟨R.MAC_PFC_QMAP, 0, 32⟩, w + 4 * r.index, r.arg (A.PFC_CONFIG_QMAP w)))
           ++ [(F.MAC_SA_LO_ADDR, r.index, r.arg A.PFC_CONFIG_MAC_SA_LO), (F.MAC_SA_HI_ADDR, r.index, r.arg A.PFC_CONFIG_MAC_SA_HI)])
       ∧ Answered u t m r 0 0 (respParams C.PFC_CONFIG r 0 (w32 (u.rd R.MAC_PFC_CFG r.index) ++ w32 (s.rd R.MAC_PFC_STATUS r.index))))
     ∧ (Ready s m C.PREEMPT_CONFIG s.preemptConfigChecks r → ∃ u t, exec (.preemptConfig m) s = .next t
       ∧ Wrote s u [(F.MAC_PREEMPT_CFG_ENABLE, r.index, r.arg A.PREEMPT_CONFIG_ENABLE),
           (F.MAC_PREEMPT_CFG_VERIFY_DISABLE, r.index, r.arg A.PREEMPT_CONFIG_VERIFY_DISABLE),
           (F.MAC_PREEMPT_CFG_ADD_FRAG_SIZE, r.index, r.arg A.PREEMPT_CONFIG_ADD_FRAG_SIZE),
           (F.MAC_PREEMPT_CFG_VERIFY_MS, r.index, r.arg A.PREEMPT_CONFIG_VERIFY_MS),
           (F.MAC_PREEMPT_CFG_VERIFY_LIMIT, r.index, r.arg A.PREEMPT_CONFIG_VERIFY_LIMIT),
           (F.MAC_PREEMPT_CFG_EXPRESS_QMASK, r.index, r.arg A.PREEMPT_CONFIG_EXPRESS_QMASK)]
       ∧ Answered (u.startVerify r.index) t m r 0 0 (respParams C.PREEMPT_CONFIG r 0 (w32 ((u.startVerify r.index).rd R.MAC_PREEMPT_STATUS r.index)))))

/-- A good frame at a port that is up is counted and enters its pipeline's front end behind the frames that wait there; a runt is counted and goes no further.

Pause: a frame with one enabled priority and a time pauses its queues for that time, and with time zero ends the pause, as the timer does; a change of the
request for XOFF sends one frame, and another while it holds; a storm ends the pause, is marked, counted and raised, until it recovers. -/
def Obligations.FramesAndPausesArrive : Prop :=
  (∀ (s v : State) (p deskew : Nat) (bytes : List Byte), p < 1024 → s.portConfigured p = true → bit 0x78 s.mode = true → s.speed p ≠ 5 → s.linkPresent p = true →
     (v = ((s.macStat p 13 0).macStat p 0 1).macStat p 1 bytes.length → v.operUp p = true →
       fcsOk bytes = true → 64 ≤ bytes.length → bytes.length ≤ s.maxFrame p → controlKind bytes = none → v.portPtp p bytes = none →
       v.backlog (p / 32) + bytes.length ≤ 65536 →
       ∃ t f, exec (.macRxFrame p true false 0 false deskew bytes) s = .next t
         ∧ Tab.get [] t.prs.fe (p / 32) = Tab.get [] s.prs.fe (p / 32) ++ [f]
         ∧ f.port = p ∧ f.bytes = bytes ∧ f.bad = false ∧ f.stitchClass = none ∧ f.inject = none ∧ f.id = s.prs.nextFrame
         ∧ t.prs.nextFrame = s.prs.nextFrame + 1 ∧ t.queues = s.queues ∧ t.vlt = s.vlt)
     ∧ (bytes.length < 64 → exec (.macRxFrame p true false 0 false deskew bytes) s = .next ((s.macStat p 13 0).macStat p 3 1)))
  ∧ (∀ (s : State) (p q : Nat), p < 1024 → q < 8 →
     (s.portConfigured p = true → s.speed p ≠ 5 → s.operUp p = true → bit (s.fld F.MAC_PFC_STATUS_STORM p) q = false → bit (s.fld F.MAC_PFC_CFG_RX_EN p) q = true →
       (∀ times time, times.getD q 0 = time → 0 < time → time < 2 ^ 16 → ∃ t, exec (.pfcFrameRx p (2 ^ q) times) s = .next t
         ∧ t.fld F.MAC_PFC_TIMER_REMAINING (q + 8 * p) = time ∧ bit (t.fld F.MAC_PFC_STATUS_PAUSED p) q = true
         ∧ Tab.get 0 (t.mac p).paused q = s.pfcMap p q)
       ∧ ∃ t, exec (.pfcFrameRx p (2 ^ q) []) s = .next t
         ∧ t.fld F.MAC_PFC_TIMER_REMAINING (q + 8 * p) = 0 ∧ bit (t.fld F.MAC_PFC_STATUS_PAUSED p) q = false ∧ Tab.get 0 (t.mac p).paused q = 0)
     ∧ (bit (s.fld F.MAC_PFC_STATUS_PAUSED p) q = true →
       (∃ t, exec (.pfcTimerExpire p q) s = .next t ∧ t.fld F.MAC_PFC_TIMER_REMAINING (q + 8 * p) = 0
         ∧ bit (t.fld F.MAC_PFC_STATUS_PAUSED p) q = false ∧ Tab.get 0 (t.mac p).paused q = 0 ∧ t.queues = s.queues)
       ∧ ∃ v u, v = s.endPause p q ∧ Wrote v u [(⟨R.MAC_PFC_STATUS, 8 + q, 1⟩, p, 1), (F.MAC_PFC_STATUS_STORM_SET, p, 1),
             (F.MAC_PFC_STATUS_STORM_COUNT, p, satBits 8 (v.fld F.MAC_PFC_STATUS_STORM_COUNT p + 1))]
           ∧ exec (.pfcStormDetect p q) s = .next ((u.note (E.MAC_PORT_EVENT p)).note (E.MAC_PFC_STORM (p / 64))))
     ∧ (bit (s.fld F.MAC_PFC_STATUS_STORM p) q = true → ∃ t, exec (.pfcStormRecover p q) s = .next t ∧ Wrote s t [(⟨R.MAC_PFC_STATUS, 8 + q, 1⟩, p, 0)])
     ∧ (s.portConfigured p = true → s.operUp p = true → bit (s.fld F.MAC_PFC_CFG_TX_EN p) q = true →
       (s.speed p ≠ 5 → s.xoffAsked p q ≠ s.flag F.MAC_PFC_TIMER_TX_XOFF (q + 8 * p) →
         ∃ u, Wrote s u [(F.MAC_PFC_TIMER_TX_XOFF, q + 8 * p, b2n (s.xoffAsked p q))]
           ∧ exec (.pfcXoffChange p q) s = .next (u.sendPfc p q (if s.xoffAsked p q then s.fld F.MAC_PFC_CFG_TX_QUANTA p else 0)))
       ∧ (s.flag F.MAC_PFC_TIMER_TX_XOFF (q + 8 * p) = true →
         exec (.pfcRefreshTimer p q) s = .next (s.sendPfc p q (s.fld F.MAC_PFC_CFG_TX_QUANTA p))))
     ∧ ∀ time, (((s.sendPfc p q time).mac p).control).1 = 1 ∧ beAt (((s.sendPfc p q time).mac p).control).2 12 4 = 0x88080101
         ∧ beAt (((s.sendPfc p q time).mac p).control).2 (18 + 2 * q) 2 = time % 2 ^ 16)

/-- Verification of preemption: a respond frame while verifying makes it active, a verify frame is answered, the timer tries again below its limit and then fails,
which is counted and raised.

The state of a port's link: faults are taken and answered, a lost condition takes the port down, held conditions bring it up, and with ADMIN_UP 0 it goes down
when its frame has ended. -/
def Obligations.PortsFollowTheirLinksAndPeers : Prop :=
  (∀ (s : State) (p : Nat), p < 1024 →
     (s.portConfigured p = true → s.speed p ≠ 5 → s.flag F.MAC_PREEMPT_CFG_ENABLE p = true →
       (s.fld F.MAC_PREEMPT_STATUS_STATE p = 1 → ∃ t, exec (.preemptVerifyRx p true) s = .next t
         ∧ Wrote (s.macStat p 14 1) t [(F.MAC_PREEMPT_STATUS_STATE, p, 2)])
       ∧ ∃ v, v = s.macStat p 14 1 ∧ exec (.preemptVerifyRx p false) s = .next (v.putMac p { v.mac p with control := (3, []) }))
     ∧ (s.fld F.MAC_PREEMPT_STATUS_STATE p = 1 →
       (s.fld F.MAC_PREEMPT_STATUS_ATTEMPTS p < s.fld F.MAC_PREEMPT_CFG_VERIFY_LIMIT p →
         ∃ u, Wrote s u [(F.MAC_PREEMPT_STATUS_ATTEMPTS, p, s.fld F.MAC_PREEMPT_STATUS_ATTEMPTS p + 1)]
           ∧ exec (.preemptVerifyTimer p) s = .next (u.putMac p { s.mac p with control := (2, []) }))
       ∧ (s.fld F.MAC_PREEMPT_CFG_VERIFY_LIMIT p ≤ s.fld F.MAC_PREEMPT_STATUS_ATTEMPTS p →
         ∃ u, Wrote s u [(F.MAC_PREEMPT_STATUS_STATE, p, 3), (F.MAC_PREEMPT_STATUS_VERIFY_FAIL, p, 1),
             (F.MAC_PREEMPT_STATUS_FAIL_COUNT, p, satBits 8 (s.fld F.MAC_PREEMPT_STATUS_FAIL_COUNT p + 1))]
           ∧ exec (.preemptVerifyTimer p) s = .next ((u.note (E.MAC_PORT_EVENT p)).note (E.MAC_PREEMPT_VERIFY_FAIL (p / 64))))))
  ∧ (∀ (s : State) (p : Nat), p < 1024 →
     (s.portConfigured p = true → ∀ loc rem, s.speed p ≠ 5 → ∃ u, Wrote s u [(F.MAC_STATUS_LOCAL_FAULT, p, b2n loc), (F.MAC_STATUS_REMOTE_FAULT, p, b2n rem)]
       ∧ exec (.faultSignalRx p loc rem) s = .next ((if loc then u.putMac p { s.mac p with control := (4, []) }
           else if rem then u.putMac p { s.mac p with control := (5, []) } else u).checkPort p))
     ∧ (s.portConfigured p = true → ∃ t, exec (.portLinkLoss p) s = .next t ∧ t.fld F.MAC_STATUS_LINK p = b2n (s.linkPresent p)
       ∧ (s.portHealthy p = false → t.operUp p = false) ∧ (s.portHealthy p = true → t.operUp p = s.operUp p))
     ∧ (s.portHealthy p = true → s.flag F.MAC_CFG_ADMIN_UP p = true → s.operUp p = false →
       ∃ u, Wrote s u [(F.MAC_STATUS_OPER_UP, p, 1), (F.MAC_STATUS_LINK, p, 1)] ∧ exec (.portUpHoldExpire p) s = .next ((u.setLive p true).startVerify p))
     ∧ (s.operUp p = true → s.flag F.MAC_CFG_ADMIN_UP p = false → (s.mac p).sending = none →
       ∃ t, exec (.portAdminDownDone p) s = .next t ∧ t.operUp p = false ∧ t.live p = false ∧ t.fld F.MAC_STATUS_DOWN p = 1
         ∧ t.fld F.MAC_STATUS_DOWN_COUNT p = satBits 8 (s.fld F.MAC_STATUS_DOWN_COUNT p + 1)))

/-! ### Parser and punts -/

/-- PARSE_FRAME takes the oldest frame of its front end and nothing else: a frame an express entry names goes to the express slice with that entry's flat record;
a frame whose ladder ends complete goes to the classifier with the ladder's record; one that stops short of it goes there with the flat record of its port's
fallback profile; one with a length error whose reaction is 0 goes nowhere.

A frame whose end comes after its record, short of its IP length, is found bad wherever it stands and is counted; its number is no longer awaited.

Punt buckets: every microsecond each gains its rate, up to its burst, and shows its whole frames; PUNT_CONFIG of one reason writes its rate, burst and queue
and fills it. -/
def Obligations.ParsedFramesAndPunts : Prop :=
  (∀ (s : State) (i : Nat) (f : Frame) (tail : List Frame) (perr : Option Nat), i < 32 → f.port < 1024 → Tab.get [] s.prs.fe i = f :: tail →
     (∀ e ended, s.expressEntry i f.port f.bytes = some e → ∃ t, exec (.parseFrame i perr ended) s = .next t ∧ Tab.get [] t.prs.fe i = tail
       ∧ Tab.get [] t.prs.toExp i = Tab.get [] s.prs.toExp i ++ [⟨f, makeRecord (s.flatKey i (bits (s.arrNat (prsExp i e) 4) 8 4) f.bytes)
           (List.replicate 16 0#8) 0 (65536 + 2 ^ 18 * s.activeBank i + 2 ^ 19) (0xFF + 2 ^ 20 * f.port) (bits (s.arrNat (prsExp i e) 4) 8 4 + 256 * e)⟩]
       ∧ t.prs.toCls = s.prs.toCls ∧ t.queues = s.queues ∧ t.vlt = s.vlt ∧ t.arrays = s.arrays)
     ∧ (s.expressEntry i f.port f.bytes = none → ∀ r, s.ladder i f.port f.bytes perr = r →
       (r.stopped = some (0, 0) → r.pendingEnd ≤ f.bytes.length - 4 → ∃ t, exec (.parseFrame i perr true) s = .next t ∧ Tab.get [] t.prs.fe i = tail
         ∧ Tab.get [] t.prs.toCls i = Tab.get [] s.prs.toCls i ++ [⟨f, ladderRecord r 0 0 (s.activeBank i) f.port none⟩]
         ∧ t.prs.toExp = s.prs.toExp ∧ t.prs.late = s.prs.late ∧ t.queues = s.queues ∧ t.vlt = s.vlt ∧ t.arrays = s.arrays)
       ∧ (∀ c, r.stopped = some (1, c) → r.pendingEnd ≤ f.bytes.length - 4 → ∃ t, exec (.parseFrame i perr true) s = .next t
         ∧ Tab.get [] t.prs.fe i = tail
         ∧ Tab.get [] t.prs.toCls i = Tab.get [] s.prs.toCls i ++ [⟨f, ladderRecord r 1 c (s.activeBank i) f.port
             (some (s.fld F.PRS_PORT_CFG_FALLBACK_PROFILE f.port, s.flatKey i (s.fld F.PRS_PORT_CFG_FALLBACK_PROFILE f.port) f.bytes))⟩]
         ∧ t.prs.toExp = s.prs.toExp ∧ t.queues = s.queues ∧ t.vlt = s.vlt ∧ t.arrays = s.arrays)
       ∧ ∀ k, k < 5 → r.stopped = some (2, k) → r.pendingEnd ≤ f.bytes.length - 4 → s.lengthReaction i k = 0 → ∃ t, exec (.parseFrame i perr true) s = .next t
         ∧ Tab.get [] t.prs.fe i = tail ∧ t.prs.toCls = s.prs.toCls ∧ t.prs.toExp = s.prs.toExp ∧ t.queues = s.queues ∧ t.hostqs = s.hostqs ∧ t.vlt = s.vlt))
  ∧ (∀ (s : State) (id i n : Nat), s.prs.late.find? (fun e => e.1 == id) = some (id, i, n) → i < 32 →
     ∃ t, exec (.parseFrameEnd id) s = .next t ∧ t.prs.late = s.prs.late.filter (fun e => e.1 != id)
       ∧ (∀ p ∈ Tab.get [] t.prs.toCls i, p.frame.id = id → p.frame.bad = true)
       ∧ (Tab.get [] t.prs.toCls i).map (fun p => p.frame.bytes) = (Tab.get [] s.prs.toCls i).map (fun p => p.frame.bytes)
       ∧ (∀ e ∈ t.copies, ∀ c, e.2 = some c → c.frameId = id → c.cut = true → c.stomp = true)
       ∧ t.queues = s.queues ∧ t.prs.fe = s.prs.fe ∧ t.arrays = s.arrays)
  ∧ (∀ s : State,
     (∃ t, exec .puntRefill s = .next t ∧ (∀ r, r < 64 →
         Tab.get 0 t.prs.puntTokens r = min (s.fld F.DMA_PUNT_CFG2_BURST r * 2 ^ 32) (Tab.get 0 s.prs.puntTokens r + s.fld F.DMA_PUNT_CFG_RATE r * 2 ^ 32 / 1000000)
         ∧ t.fld F.DMA_PUNT_STATUS_TOKENS r = Tab.get 0 t.prs.puntTokens r / 2 ^ 32 % 2 ^ F.DMA_PUNT_STATUS_TOKENS.wd)
       ∧ t = { s with regs := t.regs, prs := { s.prs with puntTokens := t.prs.puntTokens } })
     ∧ ∀ m r q, Ready s m C.PUNT_CONFIG s.puntConfigChecks r → r.all = false → q = (if r.expert then r.arg A.PUNT_CONFIG_HOST_QUEUE else r.index) →
       ∃ u t, exec (.puntConfig m) s = .next t
         ∧ Wrote s u [(F.DMA_PUNT_CFG_RATE, r.index, r.arg A.PUNT_CONFIG_RATE), (F.DMA_PUNT_CFG2_BURST, r.index, r.arg A.PUNT_CONFIG_BURST),
           (F.DMA_PUNT_CFG2_HOST_QUEUE, r.index, q)]
         ∧ Answered (u.fillPunt r.index) t m r 0 0 (respParams C.PUNT_CONFIG r 0 (w32 (u.rd R.DMA_PUNT_CFG r.index) ++ w32 (u.rd R.DMA_PUNT_CFG2 r.index))))

/-- The parser's registers that act: SWAP makes the other bank active, clears itself, is counted and raises; ARM arms a trace; the Teller rewrites a bank found with
a parity error from its copy where PRS is not granted. An ungranted write of SWAP is counted and changes no bank.

The parser's commands. PARSER_TABLE_LOAD of a good image keeps it as the Teller's copy in Provisioned and elsewhere writes the bank not in use of each pipeline
it names; PARSER_CONFIG and PARSER_PORT write the fields their tables name; FLAT_PROFILE_SET and EXPRESS_FILTER_SET their array entry and no other byte. -/
def Obligations.TheParserIsConfigured : Prop :=
  (∀ (s : State) (i : Nat), i < 32 →
     (HostMayWrite s (16 + 6 * (i / 2)) → ∃ u, Wrote s u [(F.PRS_PIPE_CFG_ACTIVE_BANK, i, 1 - s.activeBank i), (F.PRS_PIPE_CFG_SWAP, i, 0),
         (F.PRS_PIPE_STATUS_SWAPPED, i, 1), (F.PRS_PIPE_STATUS_SWAP_COUNT, i,
           satBits F.PRS_PIPE_STATUS_SWAP_COUNT.wd (s.fld F.PRS_PIPE_STATUS_SWAP_COUNT i + 1))]
       ∧ exec (.prsBankSwap i) s = .next (u.note (E.PRS_TABLE_SWAPPED (i / 2))))
     ∧ (s.granted (16 + 6 * (i / 2)) = false → ∃ t, exec (.prsBankSwap i) s = .next t ∧ t.activeBank i = s.activeBank i
       ∧ t.fld F.TLR_UNGRANTED_LAST_OFFSET 0 = R.PRS_PIPE_CFG.key i ∧ t.arrays = s.arrays ∧ t.prs = s.prs)
     ∧ (∀ portEn port, HostMayWrite s (16 + 6 * (i / 2)) → ∃ t, exec (.prsTraceArm i portEn port) s = .next t
       ∧ Wrote s t [(F.PRS_TRACE_CTL_ARM, i, 1), (F.PRS_TRACE_CTL_DONE, i, 0), (F.PRS_TRACE_CTL_PORT_EN, i, b2n portEn), (F.PRS_TRACE_CTL_PORT, i, port)])
     ∧ (∀ b img, s.granted (16 + 6 * (i / 2)) = false → b < 2 → s.prs.parity = [2 * i + b] → Tab.get [] s.prs.bankCopy (2 * i + b) = img →
       img.length = 34880 → ∃ t, exec (.parserParityRewrite i) s = .next t ∧ t.prs.parity = []
         ∧ t.arr (prsDesc i b 0) 2048 = (img.drop 64).take 2048 ∧ t.arr (prsTrans i b 0) 32768 = img.drop 2112
         ∧ ∀ a, (a < prsDesc i b 0 ∨ prsDesc i b 0 + 2048 ≤ a) → (a < prsTrans i b 0 ∨ prsTrans i b 0 + 32768 ≤ a) →
           Tab.get 0 t.arrays a = Tab.get 0 s.arrays a))
  ∧ (∀ s : State,
     (∀ k q img, Running s k C.PARSER_TABLE_LOAD q →
       s.hostRead (q.req.arg64 A.PARSER_TABLE_LOAD_HOST_ADDR_LO A.PARSER_TABLE_LOAD_HOST_ADDR_HI) 34880 = some img → imageOk img = true →
       crc32 img = q.req.arg A.PARSER_TABLE_LOAD_IMAGE_CRC →
       (s.mode = 2 → ∃ t, exec (.parserTableLoad (.record k)) s = .next t ∧ Completed { s with prs := { s.prs with copy := img, fresh := true } } t k q 0 0
           (respParams C.PARSER_TABLE_LOAD q.req 0 (w32 (leAt img 8 4) ++ w32 0 ++ w32 0)))
       ∧ (s.mode ≠ 2 → q.req.all = false → q.req.index < 32 → q.req.on A.PARSER_TABLE_LOAD_SWAP = false →
         ∃ t, exec (.parserTableLoad (.record k)) s = .next t
           ∧ Completed (s.writeBank q.req.index (1 - s.activeBank q.req.index) img) t k q 0 0
             (respParams C.PARSER_TABLE_LOAD q.req 0 (w32 (leAt img 8 4) ++ w32 (2 ^ q.req.index) ++ w32 0))))
     ∧ (∀ m r, Ready s m C.PARSER_CONFIG s.parserConfigChecks r →
       (r.on A.PARSER_CONFIG_SWAP = false → ∃ u t, exec (.parserConfig m) s = .next t
         ∧ Wrote s u ((r.instances 32).flatMap fun i => [(F.PRS_PIPE_CFG_DEPTH, i, r.arg A.PARSER_CONFIG_DEPTH),
             (F.PRS_PIPE_CFG_REACT_1, i, r.arg A.PARSER_CONFIG_REACT_1), (F.PRS_PIPE_CFG_REACT_2, i, r.arg A.PARSER_CONFIG_REACT_2),
             (F.PRS_PIPE_CFG_REACT_3, i, r.arg A.PARSER_CONFIG_REACT_3), (F.PRS_PIPE_CFG_REACT_4, i, r.arg A.PARSER_CONFIG_REACT_4)])
         ∧ Answered u t m r 0 0 (respParams C.PARSER_CONFIG r 0 (w32 (u.rd R.PRS_PIPE_CFG (if r.all then 0 else r.index)))))
       ∧ (r.on A.PARSER_CONFIG_SWAP = true → ∃ t, exec (.parserConfig m) s = .next t ∧ t.fld F.MBX_STATUS_BUSY m = 0
         ∧ ∀ i ∈ r.instances 32, t.activeBank i = 1 - s.activeBank i ∧ t.fld F.PRS_PIPE_CFG_DEPTH i = r.arg A.PARSER_CONFIG_DEPTH
           ∧ t.fld F.PRS_PIPE_STATUS_SWAPPED i = 1))
     ∧ (∀ m r, Ready s m C.PARSER_PORT s.parserPortChecks r → ∃ u, Wrote s u [(F.PRS_PORT_CFG_FALLBACK_PROFILE, r.index, r.arg A.PARSER_PORT_FALLBACK_PROFILE),
           (F.PRS_PORT_CFG_START_STATE, r.index, r.arg A.PARSER_PORT_START_STATE)]
         ∧ ∃ t, exec (.parserPort m) s = .next t ∧ Answered u t m r 0 0 (respParams C.PARSER_PORT r 0 (w32 (u.rd R.PRS_PORT_CFG r.index))))
     ∧ (∀ m r, Ready s m C.FLAT_PROFILE_SET s.flatProfileSetChecks r → r.all = false →
         ∃ t, exec (.flatProfileSet m) s = .next t ∧ Answered (s.putArr (prsFlat r.index (r.arg A.FLAT_PROFILE_SET_PROFILE)) (r.bytes A.FLAT_PROFILE_SET_MASK))
           t m r 0 0 (respParams C.FLAT_PROFILE_SET r 0 []))
     ∧ ∀ m r ctl, Ready s m C.EXPRESS_FILTER_SET s.expressFilterSetChecks r → r.all = false →
         ctl = 16 * r.arg A.EXPRESS_FILTER_SET_ENABLE + 256 * r.arg A.EXPRESS_FILTER_SET_PROFILE →
         ∃ t, exec (.expressFilterSet m) s = .next t
           ∧ Answered (s.putArr (prsExp r.index (r.arg A.EXPRESS_FILTER_SET_ENTRY)) (w32 ctl ++ w32 (r.arg A.EXPRESS_FILTER_SET_PORT_MASK)
               ++ r.bytes A.EXPRESS_FILTER_SET_VALUE ++ r.bytes A.EXPRESS_FILTER_SET_MASK)) t m r 0 0 (respParams C.EXPRESS_FILTER_SET r 0 (w32 ctl)))

/-! ### Classification, rules and postings -/

/-- CLASSIFY_FRAME takes the oldest record. Outside Service and Holdover that is all. In them a frame for the Counting House goes there; a frame of a rule that
drops goes nowhere; a frame of rules that forward, on a profile with no lookup and a port as its miss, goes on to enqueue with the class, colour and queue that
its rules combine to, and is in flight in its die's posting.

The classifier's commands write the fields their tables name and no others: CLS_TABLE_CONFIG of a hash table or of the ternary array, CLS_PORT_CONFIG,
POSTING_CONFIG; METER_CONFIG writes its meter's five words and fills its buckets as FILL says. -/
def Obligations.FramesAreClassified : Prop :=
  (∀ (s : State) (i : Nat) (x : Parsed) (tail : List Parsed) (d p : Nat), i < 32 → x.frame.port < 1024 → Tab.get [] s.prs.toCls i = x :: tail →
     d = i / 16 → p = s.dieCurrent d → p < 256 →
     (bit 0x30 s.mode = false → ∀ bad e, exec (.classifyFrame i bad e) s
         = .next { s with prs := { s.prs with toCls := Tab.set [] s.prs.toCls i tail } })
     ∧ (bit 0x30 s.mode = true →
       (s.counting x.frame x.record = true → ∃ t, exec (.classifyFrame i [] false) s = .next t ∧ Tab.get [] t.prs.toCls i = tail
         ∧ Tab.get [] t.cls.toCth i = Tab.get [] s.cls.toCth i ++ [(x, p)] ∧ t.cls.toEnq = s.cls.toEnq
         ∧ t.fld F.CLS_DRAIN_IN_FLIGHT (256 * d + p) = satBits F.CLS_DRAIN_IN_FLIGHT.wd (s.fld F.CLS_DRAIN_IN_FLIGHT (256 * d + p) + 1))
       ∧ (s.counting x.frame x.record = false → ∀ order, combiningOrder (s.matches d p x.record []) = order → order ≠ [] →
         (∀ y ∈ order, ruleW y.rule 4 22 1 ≠ 1) →
         (∀ y, dispositionRule order = some y → ruleDisposition y.rule = 2 → ∃ t, exec (.classifyFrame i [] false) s = .next t
           ∧ Tab.get [] t.prs.toCls i = tail ∧ t.cls.toEnq = s.cls.toEnq ∧ t.hostqs = s.hostqs ∧ t.vlt = s.vlt ∧ t.arrays = s.arrays)
         ∧ ∀ prof miss, (∀ y, dispositionRule order = some y → ruleDisposition y.rule = 1) → s.fld F.MRG_PORT_CFG_SAMPLE_N x.frame.port = 0 →
           s.profileOf x.frame.port x.record = prof → (∀ k, k < 4 → s.flag F.LDG_LOOKUP_CFG_ENABLE (k + 4 * prof) = false) →
           s.fld F.LDG_PROFILE_CFG_MISS_ACTION prof = 2 → s.rd R.LDG_PROFILE_MISS prof = miss → bits miss 30 2 = 0 →
           ∃ t, exec (.classifyFrame i [] false) s = .next t ∧ Tab.get [] t.prs.toCls i = tail
             ∧ (∃ r : Routed, Tab.get [] t.cls.toEnq i = Tab.get [] s.cls.toEnq i ++ [r] ∧ r.frame = x.frame ∧ r.record = x.record
               ∧ r.cls = (combined order 0 1 4).getD (s.firstClass x.frame) ∧ r.colour = (combined order 5 6 2).getD 0
               ∧ r.queue = (combined order 8 9 4).getD r.cls ∧ r.posting = p ∧ r.egress = [(miss % 1024, bits miss 14 16)]
               ∧ r.marked = (s.flag F.MRG_PORT_CFG_SEL_IN x.frame.port || s.ruleSelects d order))
             ∧ t.fld F.CLS_DRAIN_IN_FLIGHT (256 * d + p) = satBits F.CLS_DRAIN_IN_FLIGHT.wd (s.fld F.CLS_DRAIN_IN_FLIGHT (256 * d + p) + 1)
             ∧ t.hostqs = s.hostqs ∧ t.vlt = s.vlt ∧ t.arrays = s.arrays)))
  ∧ (∀ (s : State) (m : Nat) (r : Req),
     (Ready s m C.CLS_TABLE_CONFIG s.clsTableConfigChecks r → ∃ u t, exec (.clsTableConfig m) s = .next t
       ∧ Wrote s u ([(F.CLS_TABLE_CFG_ENABLE, r.index, r.arg A.CLS_TABLE_CONFIG_ENABLE), (F.CLS_TABLE_CFG_KEY_SOURCE, r.index,
             r.arg A.CLS_TABLE_CONFIG_KEY_SOURCE), (F.CLS_TABLE_CFG_PRIORITY, r.index, r.arg A.CLS_TABLE_CONFIG_PRIORITY)]
           ++ (if r.index = 64 then (List.range 10).map fun w => (⟨R.CLS_TERN_SELECT, 0, 32⟩, w, leAt r.params (12 + 4 * w) 4)
             else [(F.CLS_TABLE_CFG_WIDTH, r.index, r.arg A.CLS_TABLE_CONFIG_WIDTH), (F.CLS_TABLE_CFG_BUCKETS_LOG2, r.index,
                 r.arg A.CLS_TABLE_CONFIG_BUCKETS_LOG2), (F.CLS_TABLE_REGION_BASE, r.index, r.arg A.CLS_TABLE_CONFIG_BASE),
                 (⟨R.CLS_TABLE_SEED, 0, 32⟩, r.index, r.arg A.CLS_TABLE_CONFIG_SEED)]
               ++ (List.range 20).map fun w => (⟨R.CLS_TABLE_MASK, 0, 32⟩, w + 20 * r.index, leAt r.params (12 + 4 * w) 4)))
       ∧ Answered u t m r 0 0 (respParams C.CLS_TABLE_CONFIG r 0
           (w32 (u.rd R.CLS_TABLE_CFG r.index) ++ w32 (if r.index = 64 then 0 else u.rd R.CLS_TABLE_REGION r.index))))
     ∧ (Ready s m C.CLS_PORT_CONFIG s.clsPortConfigChecks r → ∃ u t, exec (.clsPortConfig m) s = .next t
       ∧ Wrote s u [(F.CLS_PORT_CFG_DEFAULT_CLASS, r.index, r.arg A.CLS_PORT_CONFIG_DEFAULT_CLASS),
           (F.CLS_PORT_CFG_STITCH_CLASS, r.index, r.arg A.CLS_PORT_CONFIG_STITCH_CLASS)]
       ∧ Answered u t m r 0 0 (respParams C.CLS_PORT_CONFIG r 0 (w32 (u.rd R.CLS_PORT_CFG r.index))))
     ∧ (Ready s m C.POSTING_CONFIG s.postingConfigChecks r → ∃ u t, exec (.postingConfig m) s = .next t
       ∧ Wrote s u [(F.CLS_POST_CFG_DRAIN_WARN_US, 0, r.arg A.POSTING_CONFIG_DRAIN_WARN_US)]
       ∧ Answered u t m r 0 0 (respParams C.POSTING_CONFIG r 0 (w32 (u.rd R.CLS_POST_CFG 0))))
     ∧ (Ready s m C.METER_CONFIG s.meterConfigChecks r → ∃ u t, exec (.meterConfig m) s = .next t ∧ u.regs = s.regs
       ∧ u.arr (meterAt r.index) 20 = r.params.take 20 ∧ (∀ j, j ≠ r.index → Tab.get {} u.cls.meters j = Tab.get {} s.cls.meters j)
       ∧ (∀ a, a < meterAt r.index ∨ meterAt r.index + 20 ≤ a → Tab.get 0 u.arrays a = Tab.get 0 s.arrays a)
       ∧ (r.arg A.METER_CONFIG_FILL = 1 → Tab.get {} u.cls.meters r.index
           = { c := ((u.meterCfg r.index).2.2.1 * meterUnit : Nat), e := ((u.meterCfg r.index).2.2.2.1 * meterUnit : Nat), flow := s.tim.flow })
       ∧ (r.arg A.METER_CONFIG_FILL = 2 → Tab.get {} u.cls.meters r.index = { flow := s.tim.flow })
       ∧ Answered u t m r 0 0 (respParams C.METER_CONFIG r 0 (w32 (tokenWord (u.meterFill r.index).c) ++ w32 (tokenWord (u.meterFill r.index).e)))))

/-- Postings: POST that passes its checks sets its time and waits; the first die that switches changes CURRENT if it is West; the second completes the POST and
answers its mailbox. OLDEST advances when it is drained and its Clerk work is queued on both dies; a stall is marked once and raised.

The rule store: the Clerks' work at a posting clears VALID of the rules that retired at it and the birth mark of those born at it, and touches no other rule of
the die; RULE_STAGE of one record that adds an ordinary rule to one die writes it, born at the next posting, into the free place of its bucket and nothing else of
any array; STAGE_CANCEL takes back what is staged for the next posting. -/
def Obligations.PostingsAndStagedRules : Prop :=
  (∀ s : State,
     (∀ m r0 r, m < 8 → s.takes m C.POST = some r0 → s.cls.post = none → s.firstCheck C.POST (s.postChecks r0) r0 false = none →
       r = filled C.POST [(A.POST_LEAD_NS, 1000)] r0 →
       ∃ u, Wrote s u [(F.CLS_POSTING_SWITCH_PENDING, 0, 1), (⟨R.CLS_POST_TIME, 0, 32⟩, 0, stampOf ((s.tim.net + 65536 * r.arg A.POST_LEAD_NS) % netModulus))]
         ∧ exec (.post m) s = .next { u with cls := { s.cls with post := some { time := (s.tim.net + 65536 * r.arg A.POST_LEAD_NS) % netModulus, mbx := m } } })
     ∧ (∀ d x, d < 2 → s.cls.post = some x →
       (x.switched = 0 → ∃ t, exec (.postingSwitch d) s = .next t ∧ t.cls = { s.cls with post := some { x with switched := 2 ^ d } }
         ∧ t.current = (if d = 0 then (s.current + 1) % 256 else s.current) ∧ t.oldest = s.oldest ∧ t.tlr = s.tlr ∧ t.arrays = s.arrays)
       ∧ (x.switched = 2 ^ (1 - d) → x.mbx < 8 → ∃ t, exec (.postingSwitch d) s = .next t ∧ t.cls.post = none
         ∧ t.fld F.CLS_POSTING_SWITCH_PENDING 0 = 0 ∧ t.current = (if d = 0 then (s.current + 1) % 256 else s.current) ∧ t.oldest = s.oldest
         ∧ t.arrays = s.arrays ∧ (∀ r, s.req? x.mbx = some r → t.fld F.MBX_STATUS_BUSY x.mbx = 0 ∧ t.fld F.MBX_STATUS_RESP_VALID x.mbx = 1)))
     ∧ (s.drained = true → ∀ x, x = (s.oldest + 1) % 256 → ∃ u t, exec .postingDrained s = .next t
       ∧ Wrote s u [(F.CLS_POSTING_LAST_LAST_DRAINED, 0, s.oldest), (F.CLS_POSTING_OLDEST, 0, x), (F.CLS_POSTING_UNDRAINED, 0, (s.current + 256 - x) % 256),
           (F.CLS_POSTING_STALLED, 0, 0), (F.CLS_POSTING_DRAINED, 0, 1),
           (F.CLS_POSTING_LAST_DRAINED_COUNT, 0, satBits F.CLS_POSTING_LAST_DRAINED_COUNT.wd (s.fld F.CLS_POSTING_LAST_DRAINED_COUNT 0 + 1))]
       ∧ (∀ d, d < 2 → Tab.get [] t.cls.work d = Tab.get [] s.cls.work d ++ [x])
       ∧ t = { u.note E.CLS_POSTING_DRAINED with cls := { s.cls with work := t.cls.work } })
     ∧ (s.drained = false → exec .postingDrained s = .next s)
     ∧ (s.oldest ≠ s.current → s.flag F.CLS_POSTING_STALLED 0 = false → ∃ u, Wrote s u [(F.CLS_POSTING_STALLED, 0, 1)]
       ∧ exec .drainStall s = .next (u.note E.CLS_DRAIN_STALL)))
  ∧ (∀ s : State,
     (∀ d x tail, d < 2 → Tab.get [] s.cls.work d = x :: tail →
       ((∃ k, k < 4 ∧ s.fld F.CLRK_STATUS_STATE (4 * d + k) < 2) → ∃ t, exec (.clerkPostingWork d) s = .next t ∧ Tab.get [] t.cls.work d = tail
         ∧ t.regs = s.regs ∧ (∀ n ∈ s.ruleSlots d, t.rule d n = (if ruleRetired (s.rule d n) = some x then putBits (s.rule d n) (192 + 25) 1 0
             else if ruleBorn (s.rule d n) = some x then putBits (s.rule d n) (192 + 8) 1 0 else s.rule d n))
         ∧ ∀ n, n ∉ s.ruleSlots d → t.rule d n = s.rule d n)
       ∧ ((∀ k, k < 4 → 2 ≤ s.fld F.CLRK_STATUS_STATE (4 * d + k)) → exec (.clerkPostingWork d) s = .next s))
     ∧ (∀ k q l c d n addr, Running s k C.RULE_STAGE q → q.req.arg A.RULE_STAGE_COUNT = 1 →
       addr = q.req.arg64 A.RULE_STAGE_HOST_ADDR_LO A.RULE_STAGE_HOST_ADDR_HI → s.hostRead addr 128 = some l → changeOf l = c →
       s.changeError c = none → c.op = 1 → c.tern = false → s.tableWide c.table = false → d < 2 → c.scope = 2 ^ d → s.freePlace c d = some n →
       ∃ u t, exec (.ruleStage (.record k)) s = .next t
         ∧ u.rule d n = c.value % 2 ^ 128 + 2 ^ 128 * c.w4 + 2 ^ 160 * c.w5 + 2 ^ 192 * (s.nextPosting + 256 + 2 ^ 25) + 2 ^ 224 * c.w7
         ∧ (∀ a, a < ruleAt d n ∨ ruleAt d n + 32 ≤ a → Tab.get 0 u.arrays a = Tab.get 0 s.arrays a) ∧ u.regs = s.regs
         ∧ u.hostBytes (addr + 4) 12 = some (w32 (slotWord [(d, n)] 0) ++ w32 (slotWord [(d, n)] 1) ++ w32 0)
         ∧ Completed u t k q 0 0 (respParams C.RULE_STAGE q.req 0 (w32 1 ++ w32 0 ++ w32 1)))
     ∧ ∀ k q, Running s k C.STAGE_CANCEL q → ∃ t, exec (.stageCancel (.record k)) s = .next t
       ∧ (∀ d n, d < 2 → n ∈ s.ruleSlots d → t.rule d n = (if ruleBorn (s.rule d n) = some s.nextPosting then putBits (s.rule d n) (192 + 25) 1 0
           else if ruleRetired (s.rule d n) = some s.nextPosting then putBits (s.rule d n) (192 + 24) 1 0 else s.rule d n))
       ∧ ∃ x, t.rec? k = some x ∧ x.phase = 2)

/-! ### Ledgers -/

/-- The commands that configure ledgers write the fields their tables name and no others: LEDGER_CONFIG, which gives a ledger that becomes privileged its audit
slot; LEDGER_GLOBAL; LOOKUP_PROFILE, which answers the lookup slots and bucket reads of the profile; LDG_PORT_CONFIG; AUDIT_CONFIG of a privileged ledger.

A pass of an audit whose shadow arrives counts itself and raises; where every record and the digest agree nothing else changes; where they do not, the
mismatches are marked and counted, and with ACTION 0 no entry is touched. -/
def Obligations.LedgerConfigurationAndAudit : Prop :=
  (∀ (s : State) (m : Nat) (r : Req),
     (Ready s m C.LEDGER_CONFIG s.ledgerConfigChecks r → s.auditSlot r.index = none →
       (r.on A.LEDGER_CONFIG_PRIVILEGED = false → ∃ u t, exec (.ledgerConfig m) s = .next t
         ∧ Wrote s u ([(F.LDG_LEDGER_CFG_ENABLE, r.index, r.arg A.LEDGER_CONFIG_ENABLE), (F.LDG_LEDGER_CFG_TYPE, r.index, r.arg A.LEDGER_CONFIG_TYPE),
             (F.LDG_LEDGER_CFG_SPAN, r.index, r.arg A.LEDGER_CONFIG_SPAN), (F.LDG_LEDGER_CFG_KEY_BYTES, r.index, r.arg A.LEDGER_CONFIG_KEY_BYTES),
             (F.LDG_LEDGER_CFG_EVICT, r.index, r.arg A.LEDGER_CONFIG_EVICT), (F.LDG_LEDGER_CFG_AGE_EN, r.index, r.arg A.LEDGER_CONFIG_AGE_EN),
             (F.LDG_LEDGER_CFG_AGE_LIMIT, r.index, r.arg A.LEDGER_CONFIG_AGE_LIMIT), (F.LDG_LEDGER_CFG_PRIVILEGED, r.index, 0),
             (F.LDG_LEDGER_MAX_VALUE, r.index, r.arg A.LEDGER_CONFIG_MAX_ENTRIES), (F.LDG_LEDGER_SEED0_VALUE, r.index, r.arg A.LEDGER_CONFIG_SEED0),
             (F.LDG_LEDGER_SEED1_VALUE, r.index, r.arg A.LEDGER_CONFIG_SEED1), (F.LDG_LEDGER_LEARN_VALUE, r.index, r.arg A.LEDGER_CONFIG_LEARN_RESULT)]
           ++ (if r.arg A.LEDGER_CONFIG_TYPE = 2 then
               ((List.range 4).map fun w => (F.LDG_LEDGER_SELECT_VALUE, w + 4 * r.index, bits (r.arg A.LEDGER_CONFIG_SELECT) (32 * w) 32))
                 ++ [(⟨R.LDG_LEDGER_SELECT4, 0, 32⟩, r.index, bits (r.arg A.LEDGER_CONFIG_SELECT) 128 24)]
             else []))
         ∧ Answered u t m r 0 0 (respParams C.LEDGER_CONFIG r 0 (w32 (u.rd R.LDG_LEDGER_CFG r.index) ++ w32 (s.rd R.LDG_LEDGER_COUNT r.index))))
       ∧ (∀ k, r.on A.LEDGER_CONFIG_PRIVILEGED = true → lowest 4 (fun j => (Tab.get none s.ldg.audit j).isNone) = some k →
         ∃ t, exec (.ledgerConfig m) s = .next t ∧ t.auditSlot r.index = some k ∧ t.fld F.LDG_AUDIT_CFG_LEDGER k = r.index
           ∧ t.fld F.LDG_LEDGER_CFG_PRIVILEGED r.index = 1 ∧ t.fld F.MBX_STATUS_RESP_VALID m = 1 ∧ t.arrays = s.arrays))
     ∧ (Ready s m C.LEDGER_GLOBAL s.ledgerGlobalChecks r → ∃ u t, exec (.ledgerGlobal m) s = .next t
       ∧ Wrote s u [(F.LDG_GLOBAL_AGE_PERIOD_MS, 0, r.arg A.LEDGER_GLOBAL_AGE_PERIOD_MS), (F.LDG_GLOBAL_LEARN_EN, 0, r.arg A.LEDGER_GLOBAL_LEARN_EN),
           (⟨R.LDG_ECMP_SEED, 0, 32⟩, 0, r.arg A.LEDGER_GLOBAL_ECMP_SEED)]
       ∧ Answered u t m r 0 0 (respParams C.LEDGER_GLOBAL r 0 (w32 (u.rd R.LDG_GLOBAL 0))))
     ∧ (Ready s m C.LOOKUP_PROFILE s.lookupProfileChecks r → ∀ slots, slots = (if r.profileReads ≤ 4 then 1 else 2) →
       Configures (exec (.lookupProfile m) s) s m r C.LOOKUP_PROFILE (w32 (slots + 256 * r.profileReads))
         ([(F.LDG_PROFILE_CFG_MISS_ACTION, r.index, r.arg A.LOOKUP_PROFILE_MISS_ACTION), (F.LDG_PROFILE_CFG_GROUP_EN, r.index, r.arg A.LOOKUP_PROFILE_GROUP_EN),
           (F.LDG_PROFILE_CFG_MISS_REASON, r.index, r.arg A.LOOKUP_PROFILE_MISS_REASON), (F.LDG_PROFILE_CFG_SLOTS, r.index, slots),
           (F.LDG_PROFILE_CFG_READS, r.index, r.profileReads), (⟨R.LDG_PROFILE_MISS, 0, 32⟩, r.index, r.arg A.LOOKUP_PROFILE_MISS_RESULT)]
         ++ (List.range 4).flatMap fun k => [(F.LDG_LOOKUP_CFG_ENABLE, k + 4 * r.index, r.arg (A.LOOKUP_PROFILE_ENABLE k)),
             (F.LDG_LOOKUP_CFG_ROLE, k + 4 * r.index, r.arg (A.LOOKUP_PROFILE_ROLE k)), (F.LDG_LOOKUP_CFG_LEDGER, k + 4 * r.index, r.arg (A.LOOKUP_PROFILE_LEDGER k))]
           ++ (List.range 11).map fun w => (⟨R.LDG_LOOKUP_SELECT, 0, 32⟩, w + 11 * (k + 4 * r.index), leAt r.params (12 + 48 * k + 4 * w) 4)))
     ∧ (Ready s m C.LDG_PORT_CONFIG s.ldgPortConfigChecks r → ∃ u t, exec (.ldgPortConfig m) s = .next t
       ∧ Wrote s u [(F.LDG_PORT_CFG_PROFILE, r.index, r.arg A.LDG_PORT_CONFIG_PROFILE), (F.LDG_PORT_CFG_FLAT_PROFILE, r.index, r.arg A.LDG_PORT_CONFIG_FLAT_PROFILE)]
       ∧ Answered u t m r 0 0 (respParams C.LDG_PORT_CONFIG r 0 (w32 (u.rd R.LDG_PORT_CFG r.index))))
     ∧ (∀ k, Ready s m C.AUDIT_CONFIG s.auditConfigChecks r → s.auditSlot r.index = some k →
       Configures (exec (.auditConfig m) s) s m r C.AUDIT_CONFIG (w32 (s.rd R.LDG_AUDIT_STATUS k))
         [(F.LDG_AUDIT_CFG_ENABLE, k, r.arg A.AUDIT_CONFIG_ENABLE), (F.LDG_AUDIT_CFG_ACTION, k, r.arg A.AUDIT_CONFIG_ACTION),
           (F.LDG_AUDIT_CFG_PASS_MS, k, r.arg A.AUDIT_CONFIG_PASS_MS), (F.LDG_AUDIT_ADDR_LO_VALUE, k, r.arg A.AUDIT_CONFIG_HOST_ADDR_LO),
           (F.LDG_AUDIT_ADDR_HI_VALUE, k, r.arg A.AUDIT_CONFIG_HOST_ADDR_HI)]))
  ∧ (∀ (s : State) (k g count digest : Nat) (recs bad : List Shadow) (d : Nat), k < 4 → Tab.get none s.ldg.audit k = some g → s.flag F.LDG_AUDIT_CFG_ENABLE k = true →
     s.shadow (s.rd R.LDG_AUDIT_ADDR_LO k + 2 ^ 32 * s.rd R.LDG_AUDIT_ADDR_HI k) g = some (count, digest, recs) →
     bad = recs.filter (fun x => !s.recordOk g x) →
     d = (s.headsOf 0 g).foldl (fun a n => a ^^^ digestOf (entryKey (imageEntry (s.bucket 0 (n / 4)) (n % 4))) (slotResult (s.slot 0 n))) 0 →
     (bad = [] → (s.headsOf 0 g).length = count → d = digest → ∃ u, Wrote s u [(F.LDG_AUDIT_STATUS_DIGEST_BAD, k, 0),
         (F.LDG_AUDIT_STATUS_PASSES, k, satBits F.LDG_AUDIT_STATUS_PASSES.wd (s.fld F.LDG_AUDIT_STATUS_PASSES k + 1))]
       ∧ exec (.auditPassStart k) s = .next (u.note E.LDG_AUDIT_PASS))
     ∧ (d ≠ digest → s.flag F.LDG_AUDIT_CFG_ACTION k = false → ∃ t, exec (.auditPassStart k) s = .next t
       ∧ t.fld F.LDG_AUDIT_STATUS_DIGEST_BAD k = 1 ∧ t.fld F.LDG_AUDIT_STATUS_MISMATCH k = 1
       ∧ t.fld F.LDG_AUDIT_STATUS_MISMATCH_COUNT k = satBits F.LDG_AUDIT_STATUS_MISMATCH_COUNT.wd
           (s.fld F.LDG_AUDIT_STATUS_MISMATCH_COUNT k + (bad.length + 1))
       ∧ t.arrays = s.arrays))

/-- ENTRY_WRITE, its ward's Clerk idle and the key's buckets whole in its reference replica: a new key goes into the lowest free place of its first bucket in all
eight replicas and is counted; a delete clears every slot of the copy in all eight; a delete of a key that is not there is answered NOT_FOUND and changes nothing.
ENTRY_FIND answers the copy's slot and RESULT, or NOT_FOUND, and changes nothing.

GROUP_SET writes its group's bucket in all eight replicas and answers which members are live; ENTRY_BATCH of one record does what that record says, reports it
beside the record and counts it, and waits while a Clerk runs; LEDGER_FLUSH of one ledger erases the entries it names and no other entry of that ledger. -/
def Obligations.LedgersAreWritten : Prop :=
  (∀ (s : State) (m : Nat) (r : Req),
     (∀ g key c w, Ready s m C.ENTRY_WRITE s.entryWriteChecks r → g = r.index → key = padKey (s.keyBytes g) (r.bytes A.ENTRY_WRITE_KEY) →
       c = s.candidates g key → w = wardOf c.1 → s.clerkState w = 0 → (s.clerk w).urgent = 0 →
       (s.bucket (w % 4) c.1).all slotOk = true → (s.bucket (w % 4) c.2).all slotOk = true →
       (∀ p, s.copiesOf (w % 4) g key = [] → r.arg A.ENTRY_WRITE_OP ≠ 3 → s.fld F.LDG_LEDGER_COUNT_VALUE g < s.maxEntries g →
         freeIn (s.bucket (w % 4) c.1) (s.ledgerSpan g) = some p → ∃ u t, exec (.entryWrite m) s = .next t
           ∧ (∀ k j v, k ∈ replicas → (makeEntry (s.ledgerSpan g) g (r.on A.ENTRY_WRITE_STATIC) 0 0 (r.arg A.ENTRY_WRITE_RESULT) key)[j]? = some v →
               noHit (u.slot k (4 * c.1 + p + j)) = noHit v)
           ∧ (∀ k, k ∈ replicas → slotResult (u.slot k (4 * c.1 + p)) = r.arg A.ENTRY_WRITE_RESULT ∧ slotLedger (u.slot k (4 * c.1 + p)) = g
             ∧ slotLive (u.slot k (4 * c.1 + p)) = true)
           ∧ (∀ k n, k ∈ replicas → n < 2 ^ 20 → n / 4 ≠ c.1 → u.slot k n = s.slot k n)
           ∧ u.fld F.LDG_LEDGER_COUNT_VALUE g = s.fld F.LDG_LEDGER_COUNT_VALUE g + 1
           ∧ Answered u t m r 0 0 (respParams C.ENTRY_WRITE r 0 (w32 0 ++ w32 (4 * c.1 + p))))
       ∧ (∀ n, s.copiesOf (w % 4) g key = [n] → r.arg A.ENTRY_WRITE_OP = 3 → ∃ u t, exec (.entryWrite m) s = .next t
           ∧ (∀ k j, k ∈ replicas → j < spanSlots (slotSpan (s.slot k n)) → u.slot k (n + j) = 0)
           ∧ u.fld F.LDG_LEDGER_COUNT_VALUE g = s.fld F.LDG_LEDGER_COUNT_VALUE g - 1
           ∧ Answered u t m r 0 0 (respParams C.ENTRY_WRITE r 0 (w32 5 ++ w32 n)))
       ∧ (s.copiesOf (w % 4) g key = [] → r.arg A.ENTRY_WRITE_OP = 3 → ∃ t, exec (.entryWrite m) s = .next t
           ∧ Answered s t m r 0x0302 0 (respParams C.ENTRY_WRITE r 0x0302 [])))
     ∧ (∀ g key w, Ready s m C.ENTRY_FIND s.entryFindChecks r → g = r.index → key = padKey (s.keyBytes g) (r.bytes A.ENTRY_FIND_KEY) →
       w = wardOf (s.candidates g key).1 →
       (s.copiesOf (w % 4) g key = [] → ∃ t, exec (.entryFind m) s = .next t ∧ Answered s t m r 0x0302 0 (respParams C.ENTRY_FIND r 0x0302 []))
       ∧ ∀ n tail, s.copiesOf (w % 4) g key = n :: tail → ∃ agree hits : Nat,
         Reports (exec (.entryFind m) s) s m r C.ENTRY_FIND (w32 ((n :: tail).length + 256 * agree + 65536 * hits) ++ w32 n
             ++ w32 (slotResult (s.slot (w % 4) n)) ++ w32 (s.slot (w % 4) n % 2 ^ 32) ++ w32 (s.rd R.LDG_LEDGER_COUNT g))
         ∧ (agree = 1 ↔ ∀ k ∈ replicas, s.copiesOf k g key = n :: tail ∧ ∀ j ∈ n :: tail, s.entryAt k j = s.entryAt (w % 4) j)
         ∧ ∀ k, k < 8 → bit hits k = (s.copiesOf k g key).any fun j => slotHit (s.slot k j)))
  ∧ (∀ s : State,
     (∀ m r g b, Ready s m C.GROUP_SET s.groupSetChecks r → s.groupLedger = some g → r.index < s.maxEntries g → b = groupBucket r.index →
       s.clerkState (r.index % 8) = 0 → (s.clerk (r.index % 8)).urgent = 0 → ∃ u t, exec (.groupSet m) s = .next t
         ∧ (∀ k j, k ∈ replicas → j < 4 → noHit (u.slot k (4 * b + j)) = noHit ((groupSlots g (r.groupP r.index)).getD j 0))
         ∧ (∀ k n, k ∈ replicas → n < 2 ^ 20 → n / 4 ≠ b → u.slot k n = s.slot k n)
         ∧ Answered u t m r 0 0 (respParams C.GROUP_SET r 0 (w32 (maskOf (r.arg A.GROUP_SET_COUNT) fun i => s.live (r.member i)))))
     ∧ (∀ k q l addr x, Running s k C.ENTRY_BATCH q → q.req.arg A.ENTRY_BATCH_COUNT = 1 →
       addr = q.req.arg64 A.ENTRY_BATCH_HOST_ADDR_LO A.ENTRY_BATCH_HOST_ADDR_HI →
       (s.clerksRun = false → s.clerksHalted = false → s.hostRead addr 64 = some l → s.batchRecord l = x → x.2.status = 0 →
         ∃ t, exec (.entryBatch (.record k)) s = .next t
           ∧ Completed (x.1.hostWrite (addr + 8) (w32 (x.2.outcome + 256 * x.2.moves) ++ w32 x.2.slot)) t k q 0 0
             (respParams C.ENTRY_BATCH q.req 0 (w32 1 ++ w32 0 ++ w32 1)))
       ∧ (s.clerksRun = true → exec (.entryBatch (.record k)) s = .next s))
     ∧ ∀ k q, Running s k C.LEDGER_FLUSH q → s.clerksRun = false → s.clerksHalted = false → q.req.all = false →
       ∃ t, exec (.ledgerFlush (.record k)) s = .next t
         ∧ (∀ n ∈ s.headsOf 0 q.req.index, q.req.flushes (s.slot 0 n) = true → ∀ j, j < spanSlots (slotSpan (s.slot 0 n)) → t.slot 0 (n + j) = 0)
         ∧ (∀ n ∈ s.headsOf 0 q.req.index, q.req.flushes (s.slot 0 n) = false → t.slot 0 n = s.slot 0 n)
         ∧ ∃ x, t.rec? k = some x ∧ x.phase = 2)

/-! ### Rules stated whole -/

/-- R258 and R260: PARSER_PORT with START_STATE 0xFF, or one whose descriptor is not valid in the active bank of the port's pipeline, and PUNT_CONFIG with BURST 0,
once the checks before those of the parameters have passed, are answered BAD_ARG, reason 1, and change nothing else. -/
def Obligations.BadStartStatesAndBurstsAreAnswered : Prop :=
  ∀ (s : State) (m : Nat) (r0 r : Req),
    (Reaches s m C.PARSER_PORT s.parserPortChecks r0 r →
      (r.arg A.PARSER_PORT_START_STATE = 0xFF
        ∨ bit (s.arrNat (prsDesc (r.index / 32) (s.activeBank (r.index / 32)) (r.arg A.PARSER_PORT_START_STATE)) 4) 31 = false) →
      ∃ t d, exec (.parserPort m) s = .next t ∧ d % 65536 = 1 ∧ Answered s t m r0 0x0103 d [])
    ∧ (Reaches s m C.PUNT_CONFIG s.puntConfigChecks r0 r → r.arg A.PUNT_CONFIG_BURST = 0 →
      ∃ t d, exec (.puntConfig m) s = .next t ∧ d % 65536 = 1 ∧ Answered s t m r0 0x0103 d [])

/-- R120: ASYNC_RESULT on a record that is free is answered NOT_FOUND; one read while its command runs, with KEEP or without, stands as it was. -/
def Obligations.RecordsAreReadAndKept : Prop :=
  ∀ (s : State) (m : Nat) (r : Req), Ready s m C.ASYNC_RESULT s.asyncResultChecks r →
    (s.rec? (r.arg A.ASYNC_RESULT_RECORD) = none → ∃ t, exec (.asyncResult m) s = .next t ∧ Answered s t m r 0x0302 0 [])
    ∧ ∀ q, s.rec? (r.arg A.ASYNC_RESULT_RECORD) = some q → q.phase = 1 →
      ∃ t, exec (.asyncResult m) s = .next t ∧ t.rec? (r.arg A.ASYNC_RESULT_RECORD) = some q ∧ t.fld F.MBX_STATUS_RESP_VALID m = 1

/-! ### Clerks -/

/-- What gives a Clerk its work: a frame's learn record reaches the Clerk of its key's ward when the frame is accepted, and is dropped without one; an idle Clerk
starts on the oldest learn record, or the sweep; a sweep falls due bucket by bucket and period by period; a write that completes is taken from the oldest end.

A Clerk with an urgent request and nothing written since its commit point parks there, from its cursor, and goes on from it once the request has gone unless
it is held; a halt stops an idle Clerk at once; an illegal microword halts it before it acts; CLERK_CONTROL holds, resumes, discards or restarts Clerks. -/
def Obligations.ClerksWorkParkAndResume : Prop :=
  (∀ s : State,
     (∀ i l w, s.ldg.held.find? (fun l => l.pipe == i) = some l → s.keyWard l.ledger l.key = w →
       (l.bad = true → exec (.learnRelease i) s = .next { s with ldg := { s.ldg with held := s.ldg.held.erase l } })
       ∧ (l.bad = false → bit 0x30 s.mode = true → (s.clerk w).learn.length < 64 → ∃ t, exec (.learnRelease i) s = .next t
         ∧ (t.clerk w).learn = (s.clerk w).learn ++ [l] ∧ t.ldg.held = s.ldg.held.erase l
         ∧ RegsBecome s t [(F.CLRK_QUEUE_LEARN_FILL, w, (s.clerk w).learn.length + 1)] ∧ t.arrays = s.arrays))
     ∧ (∀ w, w < 8 → s.clerkReady w = true → (s.clerk w).scrub = [] →
       (∀ l tail, (s.clerk w).learn = l :: tail → (s.clerk w).due < 1024 → ∃ t, exec (.clerkWorkStart w) s = .next t
         ∧ t.clerkState w = 1 ∧ t.fld F.CLRK_STATUS_ROUTINE w = (if l.move then 2 else 0) ∧ (t.clerk w).work = some l ∧ (t.clerk w).learn = tail
         ∧ t.fld F.CLRK_PC_PC w = s.fld F.CLRK_ENTRY_ADDRESS (if l.move then 2 else 0) ∧ t.arrays = s.arrays)
       ∧ ((s.clerk w).learn = [] → 0 < (s.clerk w).due → ∃ t, exec (.clerkWorkStart w) s = .next t
         ∧ t.clerkState w = 1 ∧ t.fld F.CLRK_STATUS_ROUTINE w = 3 ∧ (t.clerk w).words = [32768 * w + s.fld F.CLRK_QUEUE_SWEEP_NEXT w]
         ∧ t.fld F.CLRK_QUEUE_SWEEP_NEXT w = (s.fld F.CLRK_QUEUE_SWEEP_NEXT w + 1) % 32768 ∧ (t.clerk w).due = (s.clerk w).due - 1 ∧ t.arrays = s.arrays)
       ∧ ((s.clerk w).learn = [] → (s.clerk w).due = 0 → exec (.clerkWorkStart w) s = .next s))
     ∧ (∀ w, w < 8 → bit 0x78 s.mode = true → (s.clerk w).swept + (s.clerk w).due < 32768 → s.clerkReady w = false →
       ∃ t, exec (.ageSweepBucket w) s = .next t ∧ (t.clerk w).due = (s.clerk w).due + 1 ∧ t.clerkState w = s.clerkState w ∧ t.arrays = s.arrays
         ∧ t.fld F.CLRK_QUEUE_SWEEP_BEHIND w = b2n (decide (1024 ≤ (s.clerk w).due + 1)))
     ∧ (∀ w, w < 8 → bit 0x78 s.mode = true →
       (32768 ≤ (s.clerk w).swept → s.clerkState w ≠ 1 → ∃ t, exec (.ageSweepPeriod w) s = .next t ∧ Tab.get {} t.ldg.clerks w
           = { s.clerk w with swept := 0, due := 0, overran := false } ∧ RegsBecome s t [(F.CLRK_QUEUE_SWEEP_NEXT, w, 0)])
       ∧ ((s.clerk w).swept < 32768 → ∃ t, exec (.ageSweepPeriod w) s = .next t ∧ (t.clerk w).overran = true
           ∧ t.fld F.LDG_STATUS_SWEEP_OVERRUN 0 = 1
           ∧ t.fld F.LDG_STATUS_COUNT_SWEEP_OVERRUN_COUNT 0 = satBits 8 (s.fld F.LDG_STATUS_COUNT_SWEEP_OVERRUN_COUNT 0 + 1)))
     ∧ ∀ w b tail, (s.clerk w).posted = b :: tail → ∃ t, exec (.clrkWriteComplete w) s = .next t ∧ (t.clerk w).posted = tail
       ∧ (t.clerk w).waiting = ((s.clerk w).waiting && !tail.isEmpty) ∧ t.regs = s.regs ∧ t.arrays = s.arrays)
  ∧ (∀ (s : State) (w : Nat), w < 8 →
     (s.clerkState w = 1 →
       ((s.clerk w).urgent ≠ 0 → (s.clerk w).wrote = false → ∃ t, exec (.clerkPark w) s = .next t ∧ t.clerkState w = 2
         ∧ t.fld F.CLRK_PC_PC w = (s.clerk w).last.resume % 8192 ∧ t.fld F.CLRK_STATUS_PARKED w = 1
         ∧ t.fld F.CLRK_STATUS_PARK_COUNT w = satBits 8 (s.fld F.CLRK_STATUS_PARK_COUNT w + 1)
         ∧ ((s.clerk w).last.regs.length = 16 → (s.clerk w).last.path.length = 32 →
             ∀ n, n < 16 → n ≠ 0 → t.greg w n = (s.clerk w).last.regs.getD n 0 % 2 ^ 32)
         ∧ t.arrays = s.arrays)
       ∧ ((s.clerk w).urgent = 0 ∨ (s.clerk w).wrote = true → exec (.clerkPark w) s = .next s))
     ∧ (s.clerkState w = 2 → (s.clerk w).urgent = 0 →
       (s.flag F.CLRK_CTL_HOLD_PARKED w = false → s.flag F.CLRK_STATUS_STALE w = false → ∃ t, exec (.clerkResume w) s = .next t ∧ t.clerkState w = 1
         ∧ t.fld F.CLRK_PC_PC w = (s.clerk w).last.resume % 8192 ∧ (t.clerk w).urgent = 0 ∧ t.arrays = s.arrays)
       ∧ (s.flag F.CLRK_CTL_HOLD_PARKED w = true → exec (.clerkResume w) s = .next s))
     ∧ (HostMayWrite s 7 → ∃ t, exec (.clrkHaltWrite w) s = .next t ∧ t.fld F.CLRK_CTL_HALT w = 1 ∧ t.arrays = s.arrays
       ∧ t.clerkState w = (if s.clerkState w = 0 ∨ s.clerkState w = 2 then 3 else s.clerkState w))
     ∧ (s.granted 7 = false → ∃ t, exec (.clrkHaltWrite w) s = .next t ∧ t.clerkState w = s.clerkState w ∧ t.fld F.CLRK_CTL_HALT w = s.fld F.CLRK_CTL_HALT w
       ∧ t.fld F.TLR_UNGRANTED_LAST_OFFSET 0 = R.CLRK_CTL.key w)
     ∧ (∀ perr, s.clerkState w = 1 → (s.clerk w).waiting = false →
       (mwDefined (mwOp (s.microword w)) = false ∨ perr = true → ∃ t, exec (.clrkIllegal w perr) s = .next t ∧ t.clerkState w = 3
         ∧ t.fld F.CLRK_STATUS_FAULT w = 1 ∧ t.fld F.CLRK_STATUS_FAULT_COUNT w = satBits 8 (s.fld F.CLRK_STATUS_FAULT_COUNT w + 1)
         ∧ (t.clerk w).last = s.cursorNow w (s.fld F.CLRK_PC_PC w) ∧ t.arrays = s.arrays ∧ ∀ n, t.greg w n = s.greg w n)
       ∧ (mwDefined (mwOp (s.microword w)) = true → perr = false → exec (.clrkIllegal w perr) s = .next s))
     ∧ ∀ m r, Ready s m C.CLERK_CONTROL s.clerkControlChecks r →
       (r.arg A.CLERK_CONTROL_ACTION = 0 → ∃ u t, exec (.clerkControl m) s = .next t
         ∧ Wrote s u ((r.instances 8).map fun k => (F.CLRK_CTL_HOLD_PARKED, k, r.arg A.CLERK_CONTROL_HOLD_PARKED))
         ∧ Answered u t m r 0 0 (respParams C.CLERK_CONTROL r 0 (w32 (s.rd R.CLRK_STATUS (if r.all then 0 else r.index)))))
       ∧ (r.index = w → ∃ t, exec (.clerkControl m) s = .next t ∧ t.fld F.MBX_STATUS_RESP_VALID m = 1
         ∧ t.fld F.CLRK_CTL_HOLD_PARKED w = r.arg A.CLERK_CONTROL_HOLD_PARKED ∧ t.arrays = s.arrays
         ∧ (r.arg A.CLERK_CONTROL_ACTION = 1 → t.clerkState w = 1)
         ∧ (r.arg A.CLERK_CONTROL_ACTION = 2 → t.clerkState w = 0 ∧ (t.clerk w).work = none)
         ∧ (r.arg A.CLERK_CONTROL_ACTION = 3 → (t.clerkState w = 0 ∨ t.clerkState w = 1) ∧ t.fld F.CLRK_CTL_HALT w = 0
           ∧ ((∀ c, c = (s.clerk w).last ∨ (s.clerk w).first = some c → c.regs.length ≤ 16 ∧ c.path.length ≤ 32) →
               ∀ a, a < 8192 → t.rd R.CLRK_STORE (a + 8192 * w) = leAt s.boot.clerk (4 * a) 4))))

/-- The arithmetic microwords write their result to RD, which discards it where it is G0, set EQ for a zero result, go on by one and change nothing else; DEC also
sets LOOPZ; FFS of 0 and the random and undefined words give a free value.

The microwords of control: MBR branches by its base and the flags it names and links where asked; JR goes where its register says; CMT makes a commit point,
and halts there where HALT is set; RPT reports an eviction or an aged entry; DONE ends the routine, but waits while a write of it is outstanding. -/
def Obligations.ArithmeticAndControlMicrowords : Prop :=
  (∀ (s : State) (w v : Nat),
     (∀ op i (f : Nat → Nat → Nat), (op, i, f) ∈ ([(1, Instr.clrkAdd w, fun a b => a + b), (2, .clrkSub w, fun a b => a + 2 ^ 32 - b),
           (3, .clrkAnd w, fun a b => a &&& b), (4, .clrkOr w, fun a b => a ||| b), (5, .clrkXor w, fun a b => a ^^^ b),
           (6, .clrkShr w, fun a b => a / 2 ^ b), (7, .clrkShl w, fun a b => a * 2 ^ b)] : List (Nat × Instr × (Nat → Nat → Nat))) →
       Executes s w op v → ∀ x, x = f (s.greg w (mwRa v)) (s.second w v) % 2 ^ 32 → ∃ t, exec i s = .next t
         ∧ Wrote s t (toG w (mwRd v) x ++ toFlag w 1 (x == 0) ++ toNext s w))
     ∧ (Executes s w 8 v → ∀ x, x = (s.greg w (mwRa v) + 2 ^ 32 - 1) % 2 ^ 32 → ∃ t, exec (.clrkDec w) s = .next t
       ∧ Wrote s t (toG w (mwRd v) x ++ toFlag w 1 (x == 0) ++ toFlag w 7 (s.greg w (mwRa v) == 0) ++ toNext s w))
     ∧ (Executes s w 9 v → ∀ x, x = putBits (s.greg w (mwRa v)) (s.greg w (mwRb v) % 32) 1 0 → ∃ t, exec (.clrkBclr w) s = .next t
       ∧ Wrote s t (toG w (mwRd v) x ++ toFlag w 1 (x == 0) ++ toNext s w))
     ∧ (Executes s w 0xA v →
       (∀ i, lowest 32 (fun i => bit (s.greg w (mwRa v)) i) = some i → ∃ t, exec (.clrkFfs w) s = .next t
         ∧ Wrote s t (toG w (mwRd v) i ++ toFlag w 1 false ++ toNext s w))
       ∧ (s.greg w (mwRa v) = 0 → ∃ u x, Wrote s u (toG w (mwRd v) x ++ toFlag w 1 true ++ toNext s w)
         ∧ exec (.clrkFfs w) s = .next { u with fresh := s.fresh + 1 }))
     ∧ (Executes s w 0xB v → ∃ u x, x < 65536 ∧ Wrote s u ([(F.CLRK_COND_LFSR, w, x)] ++ toG w (mwRd v) x ++ toNext s w)
       ∧ exec (.clrkRnd w) s = .next { u with fresh := s.fresh + 1 })
     ∧ (Executes s w 0 v → ∃ t, exec (.clrkNop w) s = .next t ∧ Wrote s t (toNext s w))
     ∧ (Executes s w 0xC v → (∀ x, (s.clerk w).words[mwImm v]? = some x → ∃ t, exec (.clrkLdp w) s = .next t
         ∧ Wrote s t (toG w (mwRd v) x ++ toNext s w))
       ∧ ((s.clerk w).words[mwImm v]? = none → ∃ u x, Wrote s u (toG w (mwRd v) x ++ toNext s w)
         ∧ exec (.clrkLdp w) s = .next { u with fresh := s.fresh + 1 })))
  ∧ (∀ (s : State) (w v : Nat),
     (Executes s w 0x30 v → ∃ t, exec (.clrkMbr w) s = .next t
       ∧ Wrote s t ((if bit v 0 then toG w 14 (s.fld F.CLRK_PC_PC w + 1) else []) ++ [(F.CLRK_PC_PC, w, bits v 13 13 |||
           maskOf 4 fun k => bits v (1 + 3 * k) 3 != 0 && bit (s.fld F.CLRK_COND_FLAGS w) (bits v (1 + 3 * k) 3))]))
     ∧ (Executes s w 0x31 v → ∃ t, exec (.clrkJr w) s = .next t ∧ Wrote s t [(F.CLRK_PC_PC, w, s.greg w (mwRa v))])
     ∧ (∀ cur, Executes s w 0x32 v → s.cursorNow w (mwImm v % 8192) = cur → ∃ t, exec (.clrkCmt w) s = .next t
       ∧ RegsBecome s t ([(F.CLRK_PC_RESUME, w, mwImm v % 8192), (F.CLRK_PC_PC, w, s.fld F.CLRK_PC_PC w + 1)]
           ++ (if s.flag F.CLRK_CTL_HALT w then [(F.CLRK_STATUS_STATE, w, 3)] else []))
       ∧ (t.clerk w).last = cur ∧ (t.clerk w).first = some ((s.clerk w).first.getD cur) ∧ (t.clerk w).wrote = false ∧ t.arrays = s.arrays)
     ∧ (∀ n, Executes s w 0x33 v → n = 4 * (s.greg w (mwRa v) % 262144) + s.greg w (mwRb v) % 4 →
       (mwImm v = 0 → ∃ t, exec (.clrkRpt w) s = .next t ∧ t.fld F.LDG_STATUS_EVICT 0 = 1
         ∧ t.fld F.LDG_STATUS_EVICT_COUNT 0 = satBits 8 (s.fld F.LDG_STATUS_EVICT_COUNT 0 + 1)
         ∧ t.rd R.LDG_EVICT_LAST 0 = n + 2 ^ 24 * slotLedger (s.slot (w % 4) n) ∧ t.arrays = s.arrays
         ∧ t.fld F.CLRK_PC_PC w = (s.fld F.CLRK_PC_PC w + 1) % 8192)
       ∧ (∀ g, mwImm v = 1 → slotLedger ((s.imageOf w 0).getD (s.greg w (mwRb v) % 4) 0) = g → ∃ t, exec (.clrkRpt w) s = .next t
         ∧ t.rd64 R.LDG_STAT_LO R.LDG_STAT_HI (5 + 8 * g) = min (s.rd64 R.LDG_STAT_LO R.LDG_STAT_HI (5 + 8 * g) + 1) (2 ^ 64 - 1)
         ∧ t.arrays = s.arrays ∧ t.fld F.CLRK_PC_PC w = (s.fld F.CLRK_PC_PC w + 1) % 8192)
       ∧ (1 < mwImm v → ∃ t, exec (.clrkRpt w) s = .next t ∧ Wrote s t (toNext s w)))
     ∧ (Executes s w 0x34 v →
       ((s.clerk w).posted ≠ [] → exec (.clrkDone w) s = .next s)
       ∧ ((s.clerk w).posted = [] → (s.clerk w).work = none → (s.clerk w).overran = false → s.flag F.CLRK_CTL_HALT w = false →
         ∃ t, exec (.clrkDone w) s = .next t ∧ RegsBecome s t [(F.CLRK_STATUS_STATE, w, 0)]
           ∧ t.clerk w = { s.clerk w with work := none, words := [], wrote := false, first := none, last := {}, urgent := 0 } ∧ t.arrays = s.arrays)))

/-- The microwords over KR, the images and the path: LDK, HASH, RDB of a bucket whose reference copy is whole, which waits for a posted write of it, SCAN in its
four modes, ALT, SCNA, AGEP, PATHW and PATHR write what their rows say and nothing else. -/
def Obligations.KeyAndImageMicrowords : Prop :=
  ∀ (s : State) (w v : Nat),
    (∀ l, Executes s w 0xD v → (s.clerk w).work = some l → ∃ t, exec (.clrkLdk w) s = .next t
      ∧ Wrote s t ([(F.CLRK_KR_VALUE, 13 * w, l.ledger + 256 * s.ledgerSpan l.ledger + 65536 * (2 * b2n l.move)), (F.CLRK_KR_VALUE, 1 + 13 * w, l.result)]
        ++ ((List.range 11).map fun k => (F.CLRK_KR_VALUE, 2 + k + 13 * w, leAt (padKey (s.keyBytes l.ledger) l.key) (4 * k) 4)) ++ toNext s w))
    ∧ (∀ c, Executes s w 0x10 v → s.candidates (s.krLedger w) (s.krKey w) = c → ∃ t, exec (.clrkHash w) s = .next t
      ∧ Wrote s t (toG w 1 c.1 ++ toG w 2 c.2 ++ toNext s w))
    ∧ (∀ b, Executes s w 0x11 v → s.greg w (mwRa v) % 262144 = b →
      ((s.clerk w).posted.contains b = true → exec (.clrkRdb w) s = .next s)
      ∧ ((s.clerk w).posted.contains b = false → (s.bucket (w % 4) b).all slotOk = true → (s.clerk w).buckets.length = 4 →
        ∃ t, exec (.clrkRdb w) s = .next t ∧ t.imageOf w (mwRd v % 4) = s.bucket (w % 4) b ∧ t.imageBucket w (mwRd v % 4) = b ∧ t.arrays = s.arrays
          ∧ t.fld F.CLRK_PC_PC w = (s.fld F.CLRK_PC_PC w + 1) % 8192 ∧ ∀ n, t.greg w n = s.greg w n))
    ∧ (Executes s w 0x12 v →
      (∀ look room, mwImm v = 0 →
        [0, 1].findSome? (fun k => (findIn (s.imageOf w k) (s.krLedger w) (s.krSpan w) (s.keyBytes (s.krLedger w)) (s.krKey w)).map fun p => (k, p)) = look →
        [0, 1].findSome? (fun k => (freeIn (s.imageOf w k) (s.krSpan w)).map fun p => (k, p)) = room → ∃ t, exec (.clrkScan w) s = .next t
        ∧ Wrote s t ((match look with
            | some (k, p) => toG w 10 (s.imageBucket w k) ++ toG w 3 p ++ toG w 12 ((s.imageOf w k).getD p 0 % 2 ^ 32)
            | none => [])
          ++ toFlag w 2 look.isSome
          ++ (match room with
            | some (k, p) => toG w 13 (s.imageBucket w k) ++ toG w 4 p
            | none => [])
          ++ toFlag w 3 room.isSome ++ toNext s w))
      ∧ (∀ o, mwImm v = 1 → freeIn (s.imageOf w (mwRd v % 4)) (s.krSpan w) = o → ∃ t, exec (.clrkScan w) s = .next t
        ∧ Wrote s t ((match o with
            | some p => toG w 4 p
            | none => []) ++ toFlag w 3 o.isSome ++ toNext s w))
      ∧ (∀ l, mwImm v = 2 → victims (s.imageOf w (mwRd v % 4)) (s.krSpan w) (s.imageBucket w (mwRd v % 4))
            (((List.range 32).map fun e => s.pathAt w e).take (s.greg w 11 % 33)) = l → ∃ t, exec (.clrkScan w) s = .next t
        ∧ bit (t.fld F.CLRK_COND_FLAGS w) 4 = !l.isEmpty ∧ (l ≠ [] → t.greg w 5 ∈ l) ∧ t.arrays = s.arrays)
      ∧ (mwImm v = 3 → s.fld F.LDG_LEDGER_CFG_EVICT (s.krLedger w) = 2 → ∃ t, exec (.clrkScan w) s = .next t
        ∧ Wrote s t (toFlag w 4 false ++ toNext s w)))
    ∧ (Executes s w 0x13 v → ∃ t, exec (.clrkAlt w) s = .next t ∧ Wrote s t (toG w (mwRd v)
        (s.otherBucket (s.imageOf w (mwRa v % 4)) (s.imageBucket w (mwRa v % 4)) (s.greg w (mwRb v) % 4)) ++ toNext s w))
    ∧ (Executes s w 0x14 v → ∃ t, exec (.clrkScna w) s = .next t
      ∧ Wrote s t (toG w (mwRd v) (maskOf 4 fun p => s.ageable (s.imageOf w (mwRa v % 4)) p) ++ toNext s w))
    ∧ (∀ h lim, Executes s w 0x15 v → (s.imageOf w (mwRa v % 4)).getD (s.greg w (mwRb v) % 4) 0 = h → s.ageLimit (slotLedger h) = lim →
      ∃ t, exec (.clrkAgep w) s = .next t
        ∧ Wrote s t (toG w (mwRd v) (min (slotAge h + 1) lim) ++ toFlag w 1 (decide (lim ≤ slotAge h + 1)) ++ toNext s w))
    ∧ (Executes s w 0x16 v → ∃ t, exec (.clrkPathw w) s = .next t ∧ Wrote s t ([(⟨R.CLRK_PATH, 0, 32⟩, s.greg w (mwRd v) % 32 + 32 * w,
        s.greg w (mwRa v) % 262144 + 2 ^ 18 * (s.greg w (mwRb v) % 4))] ++ toNext s w))
    ∧ (Executes s w 0x17 v → ∃ t, exec (.clrkPathr w) s = .next t ∧ Wrote s t (toG w (mwRd v) (s.fld F.CLRK_PATH_BUCKET (mwImm v % 32 + 32 * w))
        ++ toG w ((mwRd v + 1) % 16) (s.fld F.CLRK_PATH_POSITION (mwImm v % 32 + 32 * w)) ++ toNext s w))

/-- The microwords that write the ledger store write it in all eight replicas, at the place they name, and say so to the Clerk, posted or waited for: WRR, UPD,
DUP, ERS, ERSB, AGEW, REFRESH, CDOOM and UNDOOM. HITS reads the eight HIT bits and writes no slot. -/
def Obligations.ReplicatedWriteMicrowords : Prop :=
  ∀ (s : State) (w v b p n : Nat), b = s.greg w (mwRa v) % 262144 → p = s.greg w (mwRb v) % 4 → n = 4 * b + p →
    (Executes s w 0x20 v → p % spanSlots (s.krSpan w) = 0 → s.krSpan w < 3 → ∃ t, exec (.clrkWrr w) s = .next t
      ∧ (∀ k j x, k < 8 → (makeEntry (s.krSpan w) (s.krLedger w) (bit (s.krFlags w) 0) 0 (s.choiceOf (s.krLedger w) (s.krKey w) b) (s.krResult w)
          (s.krKey w))[j]? = some x → noHit (t.slot k (n + j)) = noHit x)
      ∧ SlotsKept s t n (spanSlots (s.krSpan w)) ∧ Issued s t w b false)
    ∧ (∀ h, Executes s w 0x21 v → s.slot (w % 4) n = h →
      (bit (s.krFlags w) 1 = true → slotResult h ≠ s.krResult w → slotStatic h = false → ∃ t, exec (.clrkUpd w) s = .next t
        ∧ (∀ k, k < 8 → slotResult (t.slot k n) = s.krResult w ∧ slotAge (t.slot k n) = 0 ∧ slotStatic (t.slot k n) = false
          ∧ t.slot k n / 2 ^ 64 = s.slot k n / 2 ^ 64)
        ∧ SlotsKept s t n 1 ∧ Issued s t w b false)
      ∧ (bit (s.krFlags w) 1 = false ∨ slotResult h = s.krResult w ∨ slotStatic h = true → ∃ t, exec (.clrkUpd w) s = .next t
        ∧ Wrote s t (toFlag w 1 true ++ toNext s w)))
    ∧ (∀ a c, s.pathAt w (s.greg w (mwRd v)) = a → s.pathAt w (s.greg w (mwRd v) + 1) = c → 4 * a.1 + a.2 + 4 ≤ 2 ^ 20 → 4 * c.1 + c.2 + 4 ≤ 2 ^ 20 →
      a.1 ≠ c.1 →
      (Executes s w 0x22 v → ∃ t, exec (.clrkDup w) s = .next t
        ∧ (∀ k, k < 8 → slotResult (t.slot k (4 * c.1 + c.2)) = slotResult (s.slot k (4 * a.1 + a.2))
          ∧ t.slot k (4 * c.1 + c.2) / 2 ^ 64 = s.slot k (4 * a.1 + a.2) / 2 ^ 64
          ∧ slotHit (t.slot k (4 * c.1 + c.2)) = slotHit (s.slot k (4 * c.1 + c.2)))
        ∧ SlotsKept s t (4 * c.1 + c.2) 4 ∧ Issued s t w c.1 true)
      ∧ (Executes s w 0x23 v → 4 * c.1 + c.2 < 4 * a.1 + a.2 ∨ 4 * a.1 + a.2 + 4 ≤ 4 * c.1 + c.2 → ∃ t, exec (.clrkErs w) s = .next t
        ∧ (∀ k, k < 8 → (∀ j, j < spanSlots (slotSpan (s.slot k (4 * a.1 + a.2))) → t.slot k (4 * a.1 + a.2 + j) = 0)
          ∧ slotHit (t.slot k (4 * c.1 + c.2)) = (slotHit (s.slot k (4 * a.1 + a.2)) || slotHit (s.slot k (4 * c.1 + c.2)))
          ∧ slotResult (t.slot k (4 * c.1 + c.2)) = slotResult (s.slot k (4 * c.1 + c.2)))
        ∧ Issued s t w a.1 true))
    ∧ (Executes s w 0x24 v → n + 4 ≤ 2 ^ 20 → ∃ t, exec (.clrkErsb w) s = .next t
      ∧ (∀ k j, k < 8 → j < spanSlots (slotSpan (s.slot k n)) → t.slot k (n + j) = 0) ∧ SlotsKept s t n 4 ∧ Issued s t w b true)
    ∧ (Executes s w 0x25 v → ∃ t, exec (.clrkHits w) s = .next t
      ∧ Wrote s t (toFlag w 5 (replicas.any fun k => slotHit (s.slot k n)) ++ toNext s w))
    ∧ (Executes s w 0x26 v → ∃ t, exec (.clrkAgew w) s = .next t ∧ (∀ k, k < 8 → slotAge (t.slot k n) = s.greg w (mwRd v) % 16)
      ∧ SlotsKept s t n 1 ∧ Issued s t w b (bit (mwImm v) 0))
    ∧ (Executes s w 0x27 v → ∃ t, exec (.clrkRefresh w) s = .next t ∧ (∀ k, k < 8 → slotAge (t.slot k n) = 0 ∧ slotHit (t.slot k n) = false)
      ∧ SlotsKept s t n 1 ∧ Issued s t w b false)
    ∧ (Executes s w 0x28 v → ∃ t, exec (.clrkCdoom w) s = .next t
      ∧ (∀ k, k < 8 → bit (t.slot k n) 15 = (bit (s.slot k n) 15 || s.doomable k n))
      ∧ bit (t.fld F.CLRK_COND_FLAGS w) 6 = replicas.all (fun k => s.doomable k n) ∧ SlotsKept s t n 1 ∧ Issued s t w b true)
    ∧ (Executes s w 0x29 v → ∃ t, exec (.clrkUndoom w) s = .next t ∧ (∀ k, k < 8 → bit (t.slot k n) 15 = false) ∧ SlotsKept s t n 1 ∧ Issued s t w b true)

/-! ### The vault -/

/-- VAULT_CONFIG and POOL_CONFIG write the fields their tables name, after which both dies are evaluated anew; POOL_MAP_SET writes the four words of its port and
nothing else; POOL_READ changes nothing and answers the counts of both dies.

A die's evaluation: a lossless pool asks for XOFF where it has no room, holds headroom or descriptors are low, and releases it where none of these holds and
its room is XON_GAP; a pool that is off or not lossless does not ask; BLOCKED and DESC_LOW say what they say.

FOLIO_FREE: a free of a free folio, or with another pool or unit than its owner's, is refused, recorded and counted and frees nothing; a good one lowers COUNT,
and the last frees the folio, its bank and die counting one more and its pool one less, of the headroom first, then the common space, then the reserve. -/
def Obligations.TheVaultKeepsItsFolios : Prop :=
  (∀ (s : State) (m : Nat) (r : Req),
     (Ready s m C.VAULT_CONFIG s.vaultConfigChecks r → ∃ v u t, exec (.vaultConfig m) s = .next t
       ∧ Wrote s v [(F.VLT_GLOBAL_HOST_POOL, 0, r.arg A.VAULT_CONFIG_HOST_POOL), (F.VLT_GLOBAL_DESC_FLOOR, 0, r.arg A.VAULT_CONFIG_DESC_FLOOR)]
       ∧ u = (v.settleDie 0).settleDie 1 ∧ Answered u t m r 0 0 (respParams C.VAULT_CONFIG r 0 (w32 (u.rd R.VLT_GLOBAL 0))))
     ∧ (Ready s m C.POOL_CONFIG s.poolConfigChecks r → ∃ v u t, exec (.poolConfig m) s = .next t
       ∧ Wrote s v [(F.VLT_POOL_CFG_ENABLE, r.index, r.arg A.POOL_CONFIG_ENABLE), (F.VLT_POOL_CFG_LOSSLESS, r.index, r.arg A.POOL_CONFIG_LOSSLESS),
           (F.VLT_POOL_CFG_SHARE_MODE, r.index, r.arg A.POOL_CONFIG_SHARE_MODE), (F.VLT_POOL_CFG_PFC_PRI, r.index, r.arg A.POOL_CONFIG_PFC_PRI),
           (F.VLT_POOL_CFG_ALPHA_LOG2, r.index, r.arg A.POOL_CONFIG_ALPHA_LOG2), (F.VLT_POOL_CFG_XON_GAP, r.index, r.arg A.POOL_CONFIG_XON_GAP),
           (F.VLT_POOL_RESERVE_VALUE, r.index, r.arg A.POOL_CONFIG_RESERVE), (F.VLT_POOL_CAP_VALUE, r.index, r.arg A.POOL_CONFIG_CAP),
           (F.VLT_POOL_SHARE_VALUE, r.index, r.arg A.POOL_CONFIG_SHARE), (F.VLT_POOL_HEADROOM_VALUE, r.index, r.arg A.POOL_CONFIG_HEADROOM)]
       ∧ v.promised ≤ 786432 ∧ u = (v.settleDie 0).settleDie 1
       ∧ Answered u t m r 0 0 (respParams C.POOL_CONFIG r 0 (w32 (u.rd R.VLT_POOL_CFG r.index) ++ w32 (786432 - v.promised))))
     ∧ (Ready s m C.POOL_MAP_SET s.poolMapSetChecks r → Configures (exec (.poolMapSet m) s) s m r C.POOL_MAP_SET (r.params.take 16)
         ((List.range 4).map fun w => (⟨R.VLT_POOL_MAP, 0, 32⟩, w + 4 * r.index, leAt r.params (4 * w) 4)))
     ∧ (Ready s m C.POOL_READ s.poolReadChecks r → Reports (exec (.poolRead m) s) s m r C.POOL_READ
         ([0, 1].flatMap fun d => w32 (s.resUsed d r.index) ++ w32 (s.comUsed d r.index) ++ w32 (s.hrUsed d r.index)
           ++ w32 (s.rd R.VLT_POOL_STATE (d + 2 * r.index)))))
  ∧ (∀ (s t : State) (d p i : Nat), d < 2 → p < 32 → i = d + 2 * p → t = s.settleDie d →
     (s.poolOn p = true → s.lossless p = true →
       (s.flag F.VLT_POOL_STATE_XOFF i = false →
         (t.flag F.VLT_POOL_STATE_XOFF i = true ↔ s.room d p = 0 ∨ 0 < s.hrUsed d p ∨ s.fld F.VLT_DIE_DESC_FREE_DESC d ≤ s.fld F.VLT_GLOBAL_DESC_FLOOR 0))
       ∧ (s.flag F.VLT_POOL_STATE_XOFF i = true →
         (t.flag F.VLT_POOL_STATE_XOFF i = false ↔ s.hrUsed d p = 0 ∧ s.fld F.VLT_GLOBAL_DESC_FLOOR 0 < s.fld F.VLT_DIE_DESC_FREE_DESC d
           ∧ s.fld F.VLT_POOL_CFG_XON_GAP p ≤ s.room d p)))
     ∧ (s.poolOn p = false ∨ s.lossless p = false → t.flag F.VLT_POOL_STATE_XOFF i = false)
     ∧ t.flag F.VLT_POOL_STATE_BLOCKED i = (s.poolOn p && s.room d p == 0)
     ∧ t.flag F.VLT_DIE_DESC_DESC_LOW d = decide (s.fld F.VLT_DIE_DESC_FREE_DESC d ≤ s.fld F.VLT_GLOBAL_DESC_FLOOR 0)
     ∧ t.room d p = s.room d p ∧ t.vlt.links = s.vlt.links ∧ t.vlt.descs = s.vlt.descs ∧ t.queues = s.queues)
  ∧ (∀ (s : State) (who f pool unit : Nat),
     (2 * dieFolios ≤ f → exec (.folioFree who f pool unit) s = .next s)
     ∧ (f < 2 * dieFolios → ∀ l d, s.link f = l → f / dieFolios = d →
       (l.free = true ∨ l.count = 0 → ∃ t, exec (.folioFree who f pool unit) s = .next t
         ∧ t.fld F.VLT_FREE_ERR_DOUBLE_FREE 0 = 1 ∧ t.fld F.VLT_FREE_ERR_DOUBLE_COUNT 0 = satBits 8 (s.fld F.VLT_FREE_ERR_DOUBLE_COUNT 0 + 1)
         ∧ t.rd R.VLT_FREE_ERR_LAST 0 % 2 ^ 25 = f + 2 ^ 21 * (who % 8)
         ∧ t.rd64 R.VLT_GSTAT_LO R.VLT_GSTAT_HI 0 = min (s.rd64 R.VLT_GSTAT_LO R.VLT_GSTAT_HI 0 + 1) (2 ^ 64 - 1)
         ∧ t.vlt.links = s.vlt.links ∧ t.vlt.descs = s.vlt.descs ∧ t.queues = s.queues)
       ∧ (l.free = false → l.count ≠ 0 → l.pool ≠ pool ∨ l.unit ≠ unit → ∃ t, exec (.folioFree who f pool unit) s = .next t
         ∧ t.fld F.VLT_FREE_ERR_FOREIGN_FREE 0 = 1 ∧ t.fld F.VLT_FREE_ERR_FOREIGN_COUNT 0 = satBits 8 (s.fld F.VLT_FREE_ERR_FOREIGN_COUNT 0 + 1)
         ∧ t.rd R.VLT_FREE_ERR_LAST 0 % 2 ^ 25 = f + 2 ^ 21 * (who % 8) + 2 ^ 24
         ∧ t.rd64 R.VLT_GSTAT_LO R.VLT_GSTAT_HI 1 = min (s.rd64 R.VLT_GSTAT_LO R.VLT_GSTAT_HI 1 + 1) (2 ^ 64 - 1)
         ∧ t.vlt.links = s.vlt.links ∧ t.vlt.descs = s.vlt.descs ∧ t.queues = s.queues)
       ∧ (l.free = false → l.pool = pool → l.unit = unit → pool < 32 →
         (1 < l.count → ∃ t, exec (.folioFree who f pool unit) s = .next t
           ∧ t.link f = { l with count := l.count - 1 } ∧ (∀ g, g ≠ f → t.link g = s.link g)
           ∧ (∀ b, b < 256 → t.fld F.VLT_BANK_FREE_FREE b = s.fld F.VLT_BANK_FREE_FREE b)
           ∧ t.resUsed d pool = s.resUsed d pool ∧ t.comUsed d pool = s.comUsed d pool ∧ t.hrUsed d pool = s.hrUsed d pool
           ∧ t.vlt.descs = s.vlt.descs ∧ t.queues = s.queues)
         ∧ (l.count = 1 → ∃ t, exec (.folioFree who f pool unit) s = .next t
           ∧ t.link f = { l with count := 0, free := true } ∧ (∀ g, g ≠ f → t.link g = s.link g)
           ∧ t.fld F.VLT_BANK_FREE_FREE (f / bankFolios) = satBits 13 (s.fld F.VLT_BANK_FREE_FREE (f / bankFolios) + 1)
           ∧ t.fld F.VLT_DIE_STATUS_FREE_FOLIOS d = satBits 20 (s.fld F.VLT_DIE_STATUS_FREE_FOLIOS d + 1)
           ∧ t.hrUsed d pool = s.hrUsed d pool - 1
           ∧ t.comUsed d pool = s.comUsed d pool - (if s.hrUsed d pool = 0 then 1 else 0)
           ∧ t.resUsed d pool = s.resUsed d pool - (if s.hrUsed d pool = 0 ∧ s.comUsed d pool = 0 then 1 else 0)
           ∧ t.vlt.descs = s.vlt.descs ∧ t.queues = s.queues))))

/-! ### Queues and schedulers -/

/-- QUEUE_CONFIG writes the fields its table names and no others and sets the shaper's tokens anew; PORT_SCHED_CONFIG designates express queues and resets the port's
tokens and policer; ENERGY_CONFIG and SAMPLE_CONFIG write their fields; QUEUE_READ changes nothing.

QUEUE_SAMPLE writes a sample of each sampled queue of its die, as far as they fit, forgets what each has seen, and counts and raises the samples lost. -/
def Obligations.QueuesAreConfiguredAndSampled : Prop :=
  (∀ (s : State) (m : Nat) (r : Req),
     (Ready s m C.QUEUE_CONFIG s.queueConfigChecks r → ∀ q tok, q = r.index →
       tok = (if r.on A.QUEUE_CONFIG_TOKEN_RESET then r.arg A.QUEUE_CONFIG_BURST * shaperUnit else 0) → ∃ u t, exec (.queueConfig m) s = .next t
       ∧ RegsBecome s u [(F.QSC_Q_CFG_TIER, q, r.arg A.QUEUE_CONFIG_TIER), (F.QSC_Q_CFG_ENERGY_CLASS, q, r.arg A.QUEUE_CONFIG_ENERGY_CLASS),
           (F.QSC_Q_CFG_ESSENTIAL_MODE, q, r.arg A.QUEUE_CONFIG_ESSENTIAL_MODE), (F.QSC_Q_CFG_SAMPLE_EN, q, r.arg A.QUEUE_CONFIG_SAMPLE_EN),
           (F.QSC_Q_CFG_WEIGHT, q, r.arg A.QUEUE_CONFIG_WEIGHT), (F.QSC_Q_CFG_SHAPER_EN, q, r.arg A.QUEUE_CONFIG_SHAPER_EN),
           (F.QSC_Q_CFG_TOKEN_RESET, q, r.arg A.QUEUE_CONFIG_TOKEN_RESET), (F.QSC_Q_RATE_VALUE, q, r.arg A.QUEUE_CONFIG_RATE),
           (F.QSC_Q_BURST_VALUE, q, r.arg A.QUEUE_CONFIG_BURST), (F.QSC_Q_LIMIT_A_CAP, q, r.arg A.QUEUE_CONFIG_CAP),
           (F.QSC_Q_LIMIT_A_YELLOW, q, r.arg A.QUEUE_CONFIG_YELLOW), (F.QSC_Q_LIMIT_B_RED, q, r.arg A.QUEUE_CONFIG_RED),
           (F.QSC_Q_LIMIT_B_ECN, q, r.arg A.QUEUE_CONFIG_ECN)]
       ∧ u = { s with regs := u.regs, qsc := { s.qsc with queueTok := Tab.set none s.qsc.queueTok q (some ⟨(tok : Int), s.tim.flow⟩), elig := u.qsc.elig } }
       ∧ (s.tier q = r.arg A.QUEUE_CONFIG_TIER → u.qsc.elig = s.qsc.elig) ∧ u.queueTokens q = (tok : Int)
       ∧ Answered u t m r 0 0 (respParams C.QUEUE_CONFIG r 0
           (w32 (u.rd R.QSC_Q_CFG q) ++ w32 (tok / shaperUnit) ++ w32 (s.rd R.QSC_Q_DEPTH q) ++ w32 (u.queueStatus q))))
     ∧ (Ready s m C.PORT_SCHED_CONFIG s.portSchedConfigChecks r → ∀ p v, p = r.index → v = r.arg A.PORT_SCHED_CONFIG_EXPRESS_Q →
       ∃ u t, exec (.portSchedConfig m) s = .next t ∧ u.fld F.QSC_PORT_CFG_EXPRESS_Q p = v
       ∧ u.fld F.MAC_PREEMPT_CFG_EXPRESS_QMASK p = (s.fld F.MAC_PREEMPT_CFG_EXPRESS_QMASK p ||| v <<< 14)
       ∧ RegsBecome (s.setExpressQ p v) u [(F.QSC_PORT_CFG_PORT_SHAPER_EN, p, r.arg A.PORT_SCHED_CONFIG_PORT_SHAPER_EN),
           (F.QSC_PORT_CFG_TOKEN_RESET, p, r.arg A.PORT_SCHED_CONFIG_TOKEN_RESET), (F.QSC_PORT_CFG_EXP_SHARE, p, r.arg A.PORT_SCHED_CONFIG_EXP_SHARE),
           (F.QSC_PORT_RATE_VALUE, p, r.arg A.PORT_SCHED_CONFIG_RATE), (F.QSC_PORT_BURST_VALUE, p, r.arg A.PORT_SCHED_CONFIG_BURST),
           (F.QSC_PORT_EXP_BURST_EXP_BURST, p, r.arg A.PORT_SCHED_CONFIG_EXP_BURST)]
       ∧ u.portTokens p = (((if r.on A.PORT_SCHED_CONFIG_TOKEN_RESET then r.arg A.PORT_SCHED_CONFIG_BURST * shaperUnit else 0) : Nat) : Int)
       ∧ u.expTokens p = ((r.arg A.PORT_SCHED_CONFIG_EXP_BURST * policerUnit : Nat) : Int)
       ∧ (∀ b, b < 2 → bit v b = bit (s.fld F.QSC_PORT_CFG_EXPRESS_Q p) b →
           u.startTag (16 * p + 14 + b) = s.startTag (16 * p + 14 + b) ∧ u.finishTag (16 * p + 14 + b) = s.finishTag (16 * p + 14 + b))
       ∧ (∀ b, b < 2 → bit v b = true → bit (s.fld F.QSC_PORT_CFG_EXPRESS_Q p) b = false →
           u.startTag (16 * p + 14 + b) = 0 ∧ u.finishTag (16 * p + 14 + b) = 0)
       ∧ u = { s with regs := u.regs, qsc := { s.qsc with portTok := u.qsc.portTok, expTok := u.qsc.expTok } }
       ∧ Answered u t m r 0 0 (respParams C.PORT_SCHED_CONFIG r 0 (w32 (u.rd R.QSC_PORT_CFG p)
           ++ w32 (if r.on A.PORT_SCHED_CONFIG_TOKEN_RESET then r.arg A.PORT_SCHED_CONFIG_BURST else 0))))
     ∧ (Ready s m C.ENERGY_CONFIG s.energyConfigChecks r → ∃ u t, exec (.energyConfig m) s = .next t
       ∧ Wrote s u [(F.QSC_ENERGY_COST_COST, 0, r.arg A.ENERGY_CONFIG_COST_0), (F.QSC_ENERGY_COST_COST, 1, r.arg A.ENERGY_CONFIG_COST_1),
           (F.QSC_ENERGY_COST_COST, 2, r.arg A.ENERGY_CONFIG_COST_2), (F.QSC_ENERGY_COST_COST, 3, r.arg A.ENERGY_CONFIG_COST_3),
           (F.QSC_ENERGY_CFG_REPL_SURCHARGE, 0, r.arg A.ENERGY_CONFIG_REPL_SURCHARGE), (F.QSC_ENERGY_CFG_PURSE_MAX_MULT, 0, r.arg A.ENERGY_CONFIG_PURSE_MAX_MULT)]
       ∧ Answered u t m r 0 0 (respParams C.ENERGY_CONFIG r 0 (w32 (u.rd R.QSC_ENERGY_CFG 0) ++ w32 (u.rd R.QSC_ENERGY_COST 0))))
     ∧ (Ready s m C.SAMPLE_CONFIG s.sampleConfigChecks r → ∃ u t, exec (.sampleConfig m) s = .next t
       ∧ Wrote s u [(F.QSC_SAMPLE_CFG_INTERVAL_NS, 0, r.arg A.SAMPLE_CONFIG_INTERVAL_NS)]
       ∧ Answered u t m r 0 0 (respParams C.SAMPLE_CONFIG r 0 (w32 (u.rd R.QSC_SAMPLE_CFG 0))))
     ∧ (Ready s m C.QUEUE_READ s.queueReadChecks r → ∀ q v, q = r.index → v = s.vclock (q / 16) (s.tier q) →
       Reports (exec (.queueRead m) s) s m r C.QUEUE_READ (w32 (s.rd R.QSC_Q_DEPTH q) ++ w32 (s.rd R.QSC_Q_FRAMES q)
         ++ w32 (wholeBytes (s.queueTokens q) shaperUnit) ++ w32 (s.startTag q) ++ w32 (s.finishTag q)
         ++ w32 (s.startTag q / 2 ^ 32 + 2 ^ 16 * (s.finishTag q / 2 ^ 32)) ++ w32 v ++ w32 (v / 2 ^ 32) ++ w32 (s.queueStatus q))))
  ∧ (∀ (s : State) (d fit : Nat) (l : List Nat), d < 2 → bit 0x78 s.mode = true →
     l = ((List.range 8192).map fun j => 8192 * d + j).filter (fun q => s.flag F.QSC_Q_CFG_SAMPLE_EN q) →
     ∃ t, exec (.queueSample d fit) s = .next t
       ∧ t.rd R.TLY_SAMPLE_PROD d = (s.rd R.TLY_SAMPLE_PROD d + min fit l.length) % 2 ^ 32
       ∧ t.rd R.TLY_SAMPLE_LOST d = satBits 32 (s.rd R.TLY_SAMPLE_LOST d + (l.length - fit))
       ∧ (∀ q ∈ l, Tab.get {} t.qsc.seen q = {}) ∧ (∀ q, q ∉ l → Tab.get {} t.qsc.seen q = Tab.get {} s.qsc.seen q)
       ∧ t.queues = s.queues ∧ t.vlt = s.vlt ∧ t.macs = s.macs
       ∧ ∀ q n o, l = [q] → 0 < fit → n = (s.rd R.TLY_SAMPLE_PROD d + 1) % 2 ^ 32 → o = Tab.get {} s.qsc.seen q →
         t.arr (0xA7600000 + 0x100000 * d + 32 * (n % 32768)) 32
           = w32 (q + 2 ^ 16 * b2n (s.flag F.TIM_COPY_STATUS_STALE (8 + d))) ++ w32 s.stamp ++ w32 (s.depth q) ++ w32 (s.fld F.QSC_Q_FRAMES_FRAMES q)
             ++ w32 o.frames ++ w32 (satBits 32 o.delay) ++ w32 0 ++ w32 n)

/-- The choice among the eligible queues of a port: a designated express queue first, 15 before 14, else the lowest tier, and within it the earliest finish tag, the
lowest queue on a tie; no choice is made only where no queue is eligible. Tags are compared where they stand within half of their range.

PORT_SELECT: a port that is not configured or not to send does nothing, one that is down discards all its queues hold; on an idle line the chosen head is sent,
which charges it: clock, tokens and purse, takes it from its queue, and puts it on the line; under a preemptable frame only an express queue's frame cuts in. -/
def Obligations.PortsChooseTheirNextFrame : Prop :=
  (∀ (s : State) (p : Nat),
     (s.pickQueue p = none → ∀ k, k < 16 → s.eligible p k = false)
     ∧ ∀ k, s.pickQueue p = some k → k < 16 ∧ s.eligible p k = true
       ∧ (s.expressQueue p 15 = true → s.eligible p 15 = true → k = 15)
       ∧ ((s.expressQueue p 15 && s.eligible p 15) = false →
         (s.expressQueue p 14 = true → s.eligible p 14 = true → k = 14)
         ∧ ((s.expressQueue p 14 && s.eligible p 14) = false → ∀ j, j < 16 → s.eligible p j = true → s.tier (16 * p + k) ≤ s.tier (16 * p + j)
           ∧ (s.tier (16 * p + k) = s.tier (16 * p + j) → (∀ i, i < 16 → s.finishTag (16 * p + i) < 2 ^ 47) →
               s.finishTag (16 * p + k) ≤ s.finishTag (16 * p + j) ∧ (s.finishTag (16 * p + k) = s.finishTag (16 * p + j) → k ≤ j)))))
  ∧ (∀ (s : State) (p : Nat), p < 1024 →
     (s.portConfigured p = false → ∀ perr, exec (.portSelect p perr) s = .next s)
     ∧ (s.portConfigured p = true →
       (s.operUp p = false → ∃ t, exec (.portSelect p []) s = .next t ∧ (∀ k, k < 16 → t.queue (16 * p + k) = [])
         ∧ (∀ q, q / 16 ≠ p → t.queue q = s.queue q) ∧ t.macs = s.macs)
       ∧ (s.operUp p = true → s.flag F.MAC_CFG_ADMIN_UP p = false ∨ s.held p ≠ [] → exec (.portSelect p []) s = .next s)
       ∧ (s.operUp p = true → s.flag F.MAC_CFG_ADMIN_UP p = true → s.held p = [] →
         ((s.mac p).sending = none → ∀ v, v = (s.countHolds p).refreshElig p →
           v.queues = s.queues ∧ v.vlt = s.vlt ∧ v.macs = s.macs ∧ (∀ k, k < 16 → v.eligible p k = s.eligible p k)
           ∧ (v.pickHead p (fun k => (s.mac p).preempted.isNone || s.usesExpressMac p k) = none → exec (.portSelect p []) s = .next v)
           ∧ ∀ k d, v.pickHead p (fun k => (s.mac p).preempted.isNone || s.usesExpressMac p k) = some (k, d) → v.discardWhy p k d = 0 →
             exec (.portSelect p []) s = .next (v.sendHead p k d))
         ∧ (∀ x, (s.mac p).sending = some x →
           (x.express = true ∨ x.held = true ∨ s.preemptActive p = false ∨ s.pickQueue p = none → exec (.portSelect p []) s = .next s)
           ∧ ∀ k, s.pickQueue p = some k → x.express = false → x.held = false → s.preemptActive p = true →
             (s.expressQueue p k = false ∨ s.usesExpressMac p k = false → exec (.portSelect p []) s = .next s)
             ∧ (s.expressQueue p k = true → s.usesExpressMac p k = true → ((s.cutFrame p false).mac p).sending = none →
               exec (.portSelect p []) s = .next ((s.cutFrame p false).selectFrom p (s.usesExpressMac p) (s.backlogged p + 1))))))
     ∧ ∀ k d t q, k < 16 → q = 16 * p + k → s.headDesc q = some d → (∀ j ∈ s.queue q, ∀ v, s.desc? j = some v → v.launch = none) →
       t = s.sendHead p k d →
       t.queue q = (s.queue q).tail ∧ (∀ j, j ≠ q → t.queue j = s.queue j)
       ∧ (s.expressQueue p k = false → t.vclock p (s.tier q) = s.finishTag q)
       ∧ (s.flag F.QSC_Q_CFG_SHAPER_EN q = true → t.queueTokens q = s.queueTokens q - ((s.lenOf p d.length * shaperUnit : Nat) : Int))
       ∧ (s.flag F.QSC_PORT_CFG_PORT_SHAPER_EN p = true → t.portTokens p = s.portTokens p - ((s.lenOf p d.length * shaperUnit : Nat) : Int))
       ∧ (s.fld F.QSC_PURSE_ALLOW_ALLOWANCE (p / 32) ≠ 65535 → t.purse (p / 32)
           = max (-((2 ^ 23 * nJ : Nat) : Int)) (s.purse (p / 32) - (s.energy (s.fld F.QSC_Q_CFG_ENERGY_CLASS q) d.length d.shared : Nat)))
       ∧ ∃ x c, (t.mac p).sending = some x ∧ x.express = s.usesExpressMac p k ∧ x.held = false ∧ t.copy? x.copy = some c
         ∧ c.port = p ∧ c.queue = k ∧ c.desc = (s.queue q).head? ∧ c.info = d ∧ c.stomp = d.bad
         ∧ (d.unit ≠ 3 → s.fld F.QSC_Q_LIMIT_B_ECN q = 0 → d.trailers = 0 → d.marginalia = false → c.bytes = s.descBytes d))

/-- FRAME_TX_END frees the line and the copy and counts the frame, and takes a port down that is to go down; PREEMPT_RESUME puts the remainder back on an idle line
unless a gate holds it; LAUNCH_WAIT_END tests the port's queues anew; LAUNCH_RELEASE lets the held frame go when its time has come.

The stamp point: a launch frame that is held, or one already stamped, has none; else the copy takes the transmit stamp of its port, and a one-step request, a
two-step request and a transparent clock's correction write what they say into the frame or the time ring. -/
def Obligations.FramesLeaveStamped : Prop :=
  (∀ (s : State) (p : Nat), p < 1024 →
     (∀ x c, (s.mac p).sending = some x → s.copy? x.copy = some c →
       (c.txStamp = none → exec (.frameTxEnd p) s = .next s)
       ∧ (c.txStamp.isSome = true → ∃ t, exec (.frameTxEnd p) s = .next t ∧ (t.mac p).sending = none ∧ t.copy? x.copy = none ∧ (t.mac p).wire = c.line
         ∧ (s.stitchPort p = false → s.flag F.MAC_CFG_ADMIN_UP p = true → t.operUp p = s.operUp p ∧ t.queues = s.queues
           ∧ (c.stomp = false → t.rd64 R.MAC_STAT_LO R.MAC_STAT_HI (15 + 48 * p) = min (s.rd64 R.MAC_STAT_LO R.MAC_STAT_HI (15 + 48 * p) + 1) (2 ^ 64 - 1)
             ∧ t.rd64 R.MAC_STAT_LO R.MAC_STAT_HI (16 + 48 * p) = min (s.rd64 R.MAC_STAT_LO R.MAC_STAT_HI (16 + 48 * p) + c.bytes.length) (2 ^ 64 - 1))
           ∧ (c.stomp = true → t.rd64 R.MAC_STAT_LO R.MAC_STAT_HI (17 + 48 * p) = min (s.rd64 R.MAC_STAT_LO R.MAC_STAT_HI (17 + 48 * p) + 1) (2 ^ 64 - 1)))
         ∧ (s.flag F.MAC_CFG_ADMIN_UP p = false → t.operUp p = false)))
     ∧ (∀ m x, s.mac p = m → m.preempted = some x →
       (m.sending = none → m.cutByGate = false → exec (.preemptResume p) s
         = .next (s.putMac p { m with sending := some { x with since := s.now }, preempted := none, cutByGate := false }))
       ∧ (∀ c, m.sending = none → m.cutByGate = true → s.copy? x.copy = some c →
         (bit (s.gateVector p s.netNs) c.queue = false → exec (.preemptResume p) s = .next s)
         ∧ (bit (s.gateVector p s.netNs) c.queue = true → exec (.preemptResume p) s
           = .next (s.putMac p { m with sending := some { x with since := s.now }, preempted := none, cutByGate := false })))
       ∧ (m.sending ≠ none → exec (.preemptResume p) s = .next s))
     ∧ (∀ k d q, k < 16 → q = 16 * p + k → s.headDesc q = some d → d.launch.isSome = true →
       (s.launchWaits q d = true → exec (.launchWaitEnd p k) s = .next s)
       ∧ (s.launchWaits q d = false → ∃ t, exec (.launchWaitEnd p k) s = .next t ∧ Tab.get false t.qsc.elig q = s.eligible p k
         ∧ (s.expressQueue p k = false → s.eligible p k = true → Tab.get false s.qsc.elig q = false → earlier (s.finishTag q) (s.vclock p (s.tier q)) = true →
             t.startTag q = s.vclock p (s.tier q) ∧ t.finishTag q = s.finishAfter q (s.vclock p (s.tier q)) d.length)
         ∧ t.queues = s.queues ∧ t.vlt = s.vlt ∧ t.macs = s.macs))
     ∧ ∀ x c l, (s.mac p).sending = some x → x.held = true → s.copy? x.copy = some c → c.info.launch = some l →
       (2 < s.launchIn l ∧ s.launchIn l < 2 ^ 31 → exec (.launchRelease p) s = .next s)
       ∧ (s.launchIn l ≤ 2 ∨ 2 ^ 31 ≤ s.launchIn l → ∃ t, exec (.launchRelease p) s = .next t
         ∧ (t.mac p).sending = some { x with held := false, since := s.now }
         ∧ t.rd64 R.TIM_PORT_STAT_LO R.TIM_PORT_STAT_HI (2 + 8 * p) = min (s.rd64 R.TIM_PORT_STAT_LO R.TIM_PORT_STAT_HI (2 + 8 * p) + 1) (2 ^ 64 - 1)
         ∧ t.queues = s.queues ∧ t.copies = s.copies))
  ∧ (∀ (s : State) (p tx : Nat) (x : Sending) (c : Copy), (s.mac p).sending = some x → s.copy? x.copy = some c → tx = s.txStampAt p →
     (x.held = true ∨ c.txStamp.isSome = true → exec (.stampPointTx p) s = .next s)
     ∧ (x.held = false → c.txStamp = none → c.trailer = false →
       (c.info.req = 0 → (c.info.unit ≠ 0 ∨ s.portPtp p c.bytes = none) →
         exec (.stampPointTx p) s = .next (s.putCopy x.copy (some { c with txStamp := some tx })))
       ∧ (∀ a, c.info.req = 0 → c.info.unit = 0 → s.portPtp p c.bytes = some a →
         (ptpCorrects (s.fld F.TIM_PORT_CFG_PTP_MODE p) (byteAt c.bytes a.off % 16)).1 = true → ptpPad c.bytes a = true → ∃ t b,
           exec (.stampPointTx p) s = .next t ∧ t = (s.timStat p 0).putCopy x.copy (some { c with txStamp := some tx, bytes := b })
           ∧ b = refcs (ptpRewrite c.bytes a (a.off + 8) 8 ((beAt c.bytes (a.off + 8) 8 + ((tx + 2 ^ 48 - c.info.rxStamp % 2 ^ 48) % 2 ^ 48
               + (if (ptpCorrects (s.fld F.TIM_PORT_CFG_PTP_MODE p) (byteAt c.bytes a.off % 16)).2
                   then s.fld F.TIM_PORT_PEER_DELAY_DELAY c.info.ingress else 0))) % 2 ^ 64)))
       ∧ (c.info.req = 1 → c.info.unit ≠ 0 → s.flag F.TIM_RING_CFG_ENABLE 0 = true →
         exec (.stampPointTx p) s = .next ((s.ringWrite 3 false (s.staleLane p) [stampOf tx, fracOf tx, p + 2 ^ 16 * c.info.tag, 0, 0, 0]).putCopy x.copy
           (some { c with txStamp := some tx })))
       ∧ (∀ a, c.info.req = 2 → c.info.unit ≠ 0 → s.portPtp p c.bytes = some a → ∃ b d, exec (.stampPointTx p) s
           = .next (s.putCopy x.copy (some { c with txStamp := some tx, bytes := b }))
           ∧ d = ptpRewrite c.bytes a (a.off + 34) 10 (tx / 65536 / 1000000000 % 2 ^ 48 * 2 ^ 32 + tx / 65536 % 1000000000)
           ∧ b = refcs (ptpRewrite d a (a.off + 8) 8 ((beAt d (a.off + 8) 8 + fracOf tx) % 2 ^ 64)))))

/-- FRAME_ENQUEUE: the oldest forwarded frame of a pipeline, of one folio and for one queue that holds frames, is refused by its queue's limit or stored: pool, bank,
lowest free folio, descriptor, and the end of the queue. -/
def Obligations.FramesJoinTheirQueues : Prop :=
  ∀ (s : State) (i : Nat) (r : Routed) (tail : List Routed) (p ed q P d : Nat), i < 32 → Tab.get [] s.cls.toEnq i = r :: tail →
    (bit 0x30 s.mode = false → exec (.frameEnqueue i) s
      = .next ({ s with cls := { s.cls with toEnq := Tab.set [] s.cls.toEnq i tail } }.leaveFlight (i / 16) r.posting))
    ∧ (bit 0x30 s.mode = true → r.posting < 256 → r.egress = [(p, ed)] → p < 1024 → r.queue < 16 → q = 16 * p + r.queue → P = s.poolOf r.frame.port r.cls →
      d = spineOfLane p → s.portConfigured p = true →
      (s.limitHit q r.colour = true → ∃ t, exec (.frameEnqueue i) s = .next t ∧ Tab.get [] t.cls.toEnq i = tail ∧ t.queues = s.queues ∧ t.vlt = s.vlt
        ∧ t.fld F.QSC_Q_STATUS_DROP q = 1 ∧ t.fld F.QSC_Q_STATUS_DROP_COUNT q = satBits 8 (s.fld F.QSC_Q_STATUS_DROP_COUNT q + 1))
      ∧ (∀ k b f, s.limitHit q r.colour = false → s.queue q ≠ [] → s.poolOn P = true → s.pickDesc d P = some k → (s.admitFolio d P).isSome = true →
        s.pickBank d = some b → s.lowestFree b = some f → r.frame.bytes.length ≤ 128 → ∃ t v, exec (.frameEnqueue i) s = .next t
        ∧ Tab.get [] t.cls.toEnq i = tail ∧ t.queue q = s.queue q ++ [k] ∧ (∀ j, j ≠ q → t.queue j = s.queue j)
        ∧ t.depth q = (s.depth q + 1) % 2 ^ 20 ∧ t.desc? k = some v ∧ v.length = r.frame.bytes.length ∧ v.first = f ∧ v.folios = 1 ∧ v.pool = P
        ∧ v.unit = 0 ∧ v.cls = r.cls ∧ v.colour = r.colour ∧ v.edit = ed ∧ v.frameId = r.frame.id ∧ v.pocket = []
        ∧ t.link f = { next := 0, count := 1, unit := 0, pool := P, free := false } ∧ (∀ g, g ≠ f → t.link g = s.link g)
        ∧ t.folio f = r.frame.bytes ++ List.replicate (128 - r.frame.bytes.length) 0
        ∧ t.fld F.VLT_BANK_FREE_FREE b = s.fld F.VLT_BANK_FREE_FREE b - 1 ∧ t.fld F.VLT_DIE_DESC_FREE_DESC d = s.fld F.VLT_DIE_DESC_FREE_DESC d - 1
        ∧ (s.resUsed d P < s.fld F.VLT_POOL_RESERVE_VALUE P → t.resUsed d P = s.resUsed d P + 1 ∧ t.comUsed d P = s.comUsed d P)))

/-- The express path: the oldest express frame of a pipeline is dropped on a miss, by its policer, or without room at its egress, and else waits in its port's hold;
the oldest that waits starts on an idle line, or is dropped where its port is down. -/
def Obligations.TheExpressPath : Prop :=
  (∀ (s v w : State) (i : Nat) (x : Parsed) (tail : List Parsed), Tab.get [] s.prs.toExp i = x :: tail →
    v = { s with prs := { s.prs with toExp := Tab.set [] s.prs.toExp i tail } } → w = (v.expressEgress i x.record).1 →
      (bit 0x30 s.mode = false → exec (.expressLookup i) s = .next v)
      ∧ (bit 0x30 s.mode = true →
        ((v.expressEgress i x.record).2 = none → exec (.expressLookup i) s = .next ((w.ldgStat 1).note E.LDG_EXPRESS_MISS))
        ∧ ∀ p u, (v.expressEgress i x.record).2 = some p →
          u = (w.setExpTokens x.frame.port (w.expTokens x.frame.port - ((w.lenOf x.frame.port x.frame.bytes.length * policerUnit : Nat) : Int))) →
          (w.expTokens x.frame.port < 0 → exec (.expressLookup i) s = .next ((w.qscStat 1).note E.QSC_EXPRESS_POLICE_DROP))
          ∧ (0 ≤ w.expTokens x.frame.port → (w.operUp p = false ∨ w.portConfigured p = false ∨ 65536 < w.holdBytes (p / 32) + x.frame.bytes.length) →
            i < 32 → ∃ t, exec (.expressLookup i) s = .next t ∧ t.qsc.hold = w.qsc.hold ∧ t.expTokens x.frame.port = u.expTokens x.frame.port
              ∧ t.rd64 R.QSC_GSTAT_LO R.QSC_GSTAT_HI 2 = min (w.rd64 R.QSC_GSTAT_LO R.QSC_GSTAT_HI 2 + 1) (2 ^ 64 - 1))
          ∧ (0 ≤ w.expTokens x.frame.port → w.operUp p = true → w.portConfigured p = true → w.holdBytes (p / 32) + x.frame.bytes.length ≤ 65536 →
            i < 32 → ∃ t, exec (.expressLookup i) s = .next t ∧ t.held p = w.held p ++ [x.frame] ∧ (∀ j, j ≠ p → t.held j = w.held j)
              ∧ t.expTokens x.frame.port = u.expTokens x.frame.port
              ∧ t.rd64 R.QSC_GSTAT_LO R.QSC_GSTAT_HI 0 = min (w.rd64 R.QSC_GSTAT_LO R.QSC_GSTAT_HI 0 + 1) (2 ^ 64 - 1))))
  ∧ ∀ (s gone : State) (p : Nat) (f : Frame) (tail : List Frame), p < 1024 → s.held p = f :: tail →
    gone = { s with qsc := { s.qsc with hold := Tab.set [] s.qsc.hold p tail } } →
    (s.operUp p = false → exec (.expressTxStart p) s = .next ((gone.qscStat 2).note E.QSC_EXPRESS_EGRESS_DROP))
    ∧ (s.operUp p = true → (s.mac p).sending = none →
      (s.maxFrame p < f.bytes.length → exec (.expressTxStart p) s = .next (gone.macStat p 18 1))
      ∧ (f.bytes.length ≤ s.maxFrame p → ∃ t x c, exec (.expressTxStart p) s = .next t ∧ t.held p = tail ∧ t.queues = s.queues ∧ t.vlt = s.vlt
        ∧ (t.mac p).sending = some x ∧ x.express = true ∧ x.held = false ∧ t.copy? x.copy = some c ∧ c.port = p ∧ c.queue = 16 ∧ c.desc = none ∧ c.cut = true
        ∧ c.stomp = f.bad ∧ (f.trailers = 0 → c.bytes = f.bytes)
        ∧ (s.fld F.QSC_PURSE_ALLOW_ALLOWANCE (p / 32) ≠ 65535 → t.purse (p / 32)
            = max (-((2 ^ 23 * nJ : Nat) : Int)) (s.purse (p / 32) - (s.energy 0 f.bytes.length false : Nat)))))
    ∧ (∀ x, s.operUp p = true → (s.mac p).sending = some x → x.express = true ∨ x.held = true ∨ s.preemptActive p = false →
      exec (.expressTxStart p) s = .next s)

/-! ### Network time, TIME pins and gate lists -/

/-- The commands of the time base write the fields their tables name; TIME_CONFIG starts lock afresh where SOURCE changes and never steps; TIME_ADJUST applies the
frequency, then the step or slew, then the lock assertion; TIME_RING_CONFIG starts the ring; TIME_PIN_CONFIG arms its pin. -/
def Obligations.TheTimeBaseIsConfigured : Prop :=
  ∀ (s : State) (m : Nat) (r : Req),
    (Ready s m C.TIME_CONFIG s.timeConfigChecks r → ∃ v w t, exec (.timeConfig m) s = .next t
      ∧ Wrote s v [(F.TIM_CTL_SOURCE, 0, r.arg A.TIME_CONFIG_SOURCE), (F.TIM_CTL_REF_SEL, 0, r.arg A.TIME_CONFIG_REF_SEL),
          (F.TIM_CTL_TIME_REF_MHZ, 0, r.arg A.TIME_CONFIG_TIME_REF_MHZ), (F.TIM_CTL_PPS_PIN, 0, r.arg A.TIME_CONFIG_PPS_PIN),
          (F.TIM_CTL_LOCK_LEASE_MS, 0, r.arg A.TIME_CONFIG_LOCK_LEASE_MS), (F.TIM_CTL2_PPS_WINDOW_NS, 0, r.arg A.TIME_CONFIG_PPS_WINDOW_NS),
          (F.TIM_CTL2_PPS_LOCK_COUNT, 0, r.arg A.TIME_CONFIG_PPS_LOCK_COUNT), (F.TIM_CTL2_SLEW_PPM, 0, r.arg A.TIME_CONFIG_SLEW_PPM)]
      ∧ RegsBecome v w (if s.flag F.TIM_STATUS_ON_FALLBACK 0 then [] else [(F.CKG_PLL_STATUS_INPUT, 6, v.timeInput)])
      ∧ w = { v with regs := w.regs, tim := w.tim }
      ∧ w.tim = (if r.arg A.TIME_CONFIG_SOURCE = s.fld F.TIM_CTL_SOURCE 0 then s.tim
          else { s.tim with asserted := false, inWindow := 0, ppsGood := false, lastOut := none })
      ∧ Answered w.evalLock t m r 0 0 (respParams C.TIME_CONFIG r 0 (w32 (v.rd R.TIM_CTL 0) ++ w32 (w.evalLock.rd R.TIM_STATUS 0))))
    ∧ (Ready s m C.TIME_ADJUST s.timeAdjustChecks r → ∀ off, off = adjustOffset r → ∃ u t, exec (.timeAdjust m) s = .next t
      ∧ u.rd R.TIM_FREQ_ADJ 0 = (if r.on A.TIME_ADJUST_FREQ_EN then r.arg A.TIME_ADJUST_FREQ_ADJ else s.rd R.TIM_FREQ_ADJ 0)
      ∧ (r.arg A.TIME_ADJUST_OP = 0 → u.tim.net = s.tim.net ∧ u.tim.slew = s.tim.slew)
      ∧ (r.arg A.TIME_ADJUST_OP = 1 → u.tim.net = ((s.tim.net + off) % (netModulus : Int)).toNat ∧ u.tim.slew = 0 ∧ u.fld F.TIM_STATUS_SLEWING 0 = 0
          ∧ u.fld F.TIM_STATUS_STEPPED 0 = 1 ∧ u.fld F.TIM_STATUS_STEP_COUNT 0 = satBits 8 (s.fld F.TIM_STATUS_STEP_COUNT 0 + 1))
      ∧ (r.arg A.TIME_ADJUST_OP = 2 → u.tim.net = s.tim.net ∧ u.tim.slew = off * 1000000 ∧ u.fld F.TIM_STATUS_SLEWING 0 = b2n (off != 0))
      ∧ u.tim.asserted = (if r.arg A.TIME_ADJUST_LOCK ≠ 0 ∧ s.fld F.TIM_CTL_SOURCE 0 ≠ 0 then r.arg A.TIME_ADJUST_LOCK == 1 else s.tim.asserted)
      ∧ Answered u t m r 0 0 (respParams C.TIME_ADJUST r 0 (w32 (stampOf u.tim.net) ++ w32 (pairNs u.tim.net) ++ w32 (pairSecLo u.tim.net)
          ++ w32 (pairSecHi u.tim.net) ++ w32 (u.rd R.TIM_STATUS 0))))
    ∧ (Ready s m C.TIME_RING_CONFIG s.timeRingConfigChecks r → ∃ v u t, exec (.timeRingConfig m) s = .next t
      ∧ Wrote s v [(F.TIM_RING_CFG_ENABLE, 0, r.arg A.TIME_RING_CONFIG_ENABLE), (F.TIM_RING_CFG_SIZE_LOG2, 0, r.arg A.TIME_RING_CONFIG_SIZE_LOG2),
          (F.TIM_RING_CFG_PAIR_PERIOD_MS, 0, r.arg A.TIME_RING_CONFIG_PAIR_PERIOD_MS), (F.TIM_RING_ADDR_LO_VALUE, 0, r.arg A.TIME_RING_CONFIG_HOST_ADDR_LO),
          (F.TIM_RING_ADDR_HI_VALUE, 0, r.arg A.TIME_RING_CONFIG_HOST_ADDR_HI)]
      ∧ (r.on A.TIME_RING_CONFIG_ENABLE = false ∨ s.flag F.TIM_RING_CFG_ENABLE 0 = true → u = v)
      ∧ (r.on A.TIME_RING_CONFIG_ENABLE = true → s.flag F.TIM_RING_CFG_ENABLE 0 = false → ∃ x, Wrote v x [(F.TIM_RING_PROD_VALUE, 0, 2 ^ 32 - 1)]
          ∧ u = x.ringPair 2 false ∧ (s.hostReach = true → u.rd R.TIM_RING_PROD 0 = 0))
      ∧ Answered u t m r 0 0 (respParams C.TIME_RING_CONFIG r 0 (w32 (v.rd R.TIM_RING_CFG 0))))
    ∧ (Ready s m C.TIME_PIN_CONFIG s.timePinConfigChecks r → ∀ k, k = r.index → ∃ v u t, exec (.timePinConfig m) s = .next t
      ∧ Wrote s v [(F.TIM_PIN_CFG_MODE, k, r.arg A.TIME_PIN_CONFIG_MODE), (F.TIM_PIN_CFG_POLARITY, k, r.arg A.TIME_PIN_CONFIG_POLARITY),
          (F.TIM_PIN_CFG_SQUELCH, k, r.arg A.TIME_PIN_CONFIG_SQUELCH), (F.TIM_PIN_CFG_EDGES, k, r.arg A.TIME_PIN_CONFIG_EDGES),
          (F.TIM_PIN_START_SEC_LO_VALUE, k, r.arg A.TIME_PIN_CONFIG_START_SEC_LO), (F.TIM_PIN_START_SEC_HI_VALUE, k, r.arg A.TIME_PIN_CONFIG_START_SEC_HI),
          (F.TIM_PIN_START_NS_VALUE, k, r.arg A.TIME_PIN_CONFIG_START_NS), (F.TIM_PIN_PERIOD_VALUE, k, r.arg A.TIME_PIN_CONFIG_PERIOD),
          (F.TIM_PIN_WIDTH_VALUE, k, r.arg A.TIME_PIN_CONFIG_WIDTH)]
      ∧ (r.arg A.TIME_PIN_CONFIG_MODE < 3 → (u.pin k).next = none ∧ u.regs = v.regs)
      ∧ (r.arg A.TIME_PIN_CONFIG_MODE = 3 →
        (v.pinStart k < s.netNs + 1000 → (u.pin k).next = none ∧ u.fld F.TIM_PIN_STATUS_MISSED k = 1)
        ∧ (s.netNs + 1000 ≤ v.pinStart k → (u.pin k).next = some (v.pinStart k) ∧ u.fld F.TIM_PIN_STATUS_MISSED k = s.fld F.TIM_PIN_STATUS_MISSED k))
      ∧ (r.arg A.TIME_PIN_CONFIG_MODE = 4 → (u.pin k).next = some (firstMultiple (v.pinStart k) (v.pinPeriod k) (s.netNs + 1000)))
      ∧ (3 ≤ r.arg A.TIME_PIN_CONFIG_MODE → u.fld F.TIM_PIN_STATUS_LEVEL k = r.arg A.TIME_PIN_CONFIG_POLARITY)
      ∧ Answered u t m r 0 0 (respParams C.TIME_PIN_CONFIG r 0 (w32 (u.rd R.TIM_PIN_STATUS k))))
    ∧ (Ready s m C.PORT_TIME_CONFIG s.portTimeConfigChecks r → ∀ p, p = r.index → ∃ u t, exec (.portTimeConfig m) s = .next t
      ∧ Wrote s u [(F.TIM_PORT_CFG_PTP_MODE, p, r.arg A.PORT_TIME_CONFIG_PTP_MODE), (F.TIM_PORT_CFG_ETH_EN, p, r.arg A.PORT_TIME_CONFIG_ETH_EN),
          (F.TIM_PORT_CFG_UDP4_EN, p, r.arg A.PORT_TIME_CONFIG_UDP4_EN), (F.TIM_PORT_CFG_UDP6_EN, p, r.arg A.PORT_TIME_CONFIG_UDP6_EN),
          (F.TIM_PORT_CFG_STITCH_STAMP, p, r.arg A.PORT_TIME_CONFIG_STITCH_STAMP), (F.TIM_PORT_CFG_LATE_ACTION, p, r.arg A.PORT_TIME_CONFIG_LATE_ACTION),
          (F.TIM_PORT_CFG_LAUNCH_HORIZON_MS, p, r.arg A.PORT_TIME_CONFIG_LAUNCH_HORIZON_MS), (F.TIM_PORT_BOARD_RX, p, r.arg A.PORT_TIME_CONFIG_BOARD_RX),
          (F.TIM_PORT_BOARD_TX, p, r.arg A.PORT_TIME_CONFIG_BOARD_TX), (F.TIM_PORT_PEER_DELAY_DELAY, p, r.arg A.PORT_TIME_CONFIG_PEER_DELAY)]
      ∧ Answered u t m r 0 0 (respParams C.PORT_TIME_CONFIG r 0 (w32 (u.rd R.TIM_PORT_CFG p))))
    ∧ (Ready s m C.LAUNCH_CONFIG s.launchConfigChecks r → ∃ u t, exec (.launchConfig m) s = .next t
      ∧ Wrote s u [(F.TIM_Q_LAUNCH_MODE, r.index, r.arg A.LAUNCH_CONFIG_MODE), (F.TIM_Q_LAUNCH_OFFSET_NS, r.index, r.arg A.LAUNCH_CONFIG_OFFSET_NS)]
      ∧ Answered u t m r 0 0 (respParams C.LAUNCH_CONFIG r 0 (w32 (u.rd R.TIM_Q_LAUNCH r.index))))

/-- Lock: where the time base is clocked, LOCKED says after each evaluation whether the conditions of the source hold, and a loss is counted. The lease that runs
out, a missing PPS mark and the marks themselves are judged; in Service a loss of lock goes to Holdover, and its return back.

Copies, slews, pairs and the time ring: the synchronising word ends staleness on the dies it reaches, 4 µs without it begin it; the slew that is done leaves no
offset; a pair is captured by a read and written each period; a record stands whole in its slot of the ring, and no other byte of host memory changes. -/
def Obligations.NetworkTimeIsKept : Prop :=
  ((∀ (s u : State), u = s.evalLock →
     (bit 0x7C s.mode = false → u = s)
     ∧ (bit 0x7C s.mode = true → u.flag F.TIM_STATUS_LOCKED 0 = s.lockHolds ∧ u.tim = s.tim
       ∧ (s.flag F.TIM_STATUS_LOCKED 0 = s.lockHolds → u = s)
       ∧ (s.flag F.TIM_STATUS_LOCKED 0 = true → s.lockHolds = false → u.fld F.TIM_STATUS_LOCK_LOSS 0 = 1 ∧ u.fld F.GLB_MODE_TIME_LOCKED 0 = 0
           ∧ u.fld F.TIM_STATUS_LOCK_LOSS_COUNT 0 = satBits 8 (s.fld F.TIM_STATUS_LOCK_LOSS_COUNT 0 + 1))))
   ∧ ∀ s : State,
     (s.fld F.TIM_CTL_SOURCE 0 = 1 → ∃ t, exec .lockLeaseExpire s = .next t ∧ t.tim = { s.tim with asserted := false } ∧ t.tly = s.tly
       ∧ (bit 0x7C s.mode = true → t.flag F.TIM_STATUS_LOCKED 0 = false))
     ∧ (s.fld F.TIM_CTL_SOURCE 0 ≠ 1 → exec .lockLeaseExpire s = .next s)
     ∧ (s.timeRuns = true → s.fld F.TIM_CTL_SOURCE 0 = 2 → ∃ t, exec .ppsMissing s = .next t ∧ t.fld F.TIM_STATUS_PPS_MISS 0 = 1
       ∧ t.fld F.TIM_STATUS2_PPS_MISS_COUNT 0 = satBits 8 (s.fld F.TIM_STATUS2_PPS_MISS_COUNT 0 + 1)
       ∧ t.tim = { s.tim with inWindow := 0, ppsGood := false, lastOut := none } ∧ t.flag F.TIM_STATUS_LOCKED 0 = false)
     ∧ (s.timeRuns = false ∨ s.fld F.TIM_CTL_SOURCE 0 ≠ 2 → exec .ppsMissing s = .next s ∧ exec .ppsMark s = .next s)
     ∧ (∀ k e win, s.timeRuns = true → s.fld F.TIM_CTL_SOURCE 0 = 2 → s.fld F.TIM_CTL_PPS_PIN 0 = k → s.fld F.TIM_PIN_CFG_MODE k = 1 →
       e = ppsError ((((s.capture : Int) - 256 * s.fld F.TIM_PIN_LAT_LAT_IN k) % (netModulus : Int)).toNat / 65536) →
       win = ((clamp 10 1000 (s.fld F.TIM_CTL2_PPS_WINDOW_NS 0) : Nat) : Int) → ∃ t, exec .ppsMark s = .next t ∧ t.rd R.TIM_PPS_ERROR 0 = ofSigned 32 e
         ∧ (-win ≤ e → e ≤ win → t.tim.slew = -e * 65536 * 1000000 ∧ t.tim.net = s.tim.net ∧ t.tim.inWindow = s.tim.inWindow + 1 ∧ t.tim.lastOut = none)
         ∧ (e < -win ∨ win < e → t.tim.inWindow = 0
           ∧ t.fld F.TIM_STATUS_PPS_OUT_COUNT 0 = satBits 8 (s.fld F.TIM_STATUS_PPS_OUT_COUNT 0 + 1)
           ∧ (s.tim.lastOut = none → t.tim.net = s.tim.net ∧ t.tim.lastOut = some e)
           ∧ ∀ e0, s.tim.lastOut = some e0 → t.tim.ppsGood = false ∧ t.flag F.TIM_STATUS_LOCKED 0 = false
             ∧ (-win ≤ e - e0 → e - e0 ≤ win → t.tim.net = ((s.tim.net + -e * 65536) % (netModulus : Int)).toNat ∧ t.tim.lastOut = none)
             ∧ (e - e0 < -win ∨ win < e - e0 → t.tim.net = s.tim.net ∧ t.tim.lastOut = some e)))
     ∧ (s.mode = 4 → s.flag F.TIM_STATUS_LOCKED 0 = false → ∃ u, Wrote s u [(F.GLB_MODE_PREV_MODE, 0, 4), (F.GLB_MODE_MODE, 0, 5)]
       ∧ exec .holdoverEntry s = .next (u.note E.GLB_MODE_CHANGE))
     ∧ (s.mode ≠ 4 ∨ s.flag F.TIM_STATUS_LOCKED 0 = true → exec .holdoverEntry s = .next s)
     ∧ (s.mode = 5 → s.flag F.TIM_STATUS_LOCKED 0 = true → s.flag F.GLB_MODE_TRANSITION 0 = false →
       ∃ u, Wrote s u [(F.GLB_MODE_PREV_MODE, 0, 5), (F.GLB_MODE_MODE, 0, 4)] ∧ exec .holdoverExit s = .next (u.note E.GLB_MODE_CHANGE))
     ∧ (s.mode ≠ 5 ∨ s.flag F.TIM_STATUS_LOCKED 0 = false ∨ s.flag F.GLB_MODE_TRANSITION 0 = true → exec .holdoverExit s = .next s))
  ∧ (∀ s : State,
     (∀ dies, (s.timeRuns = true → ∃ t, exec (.timeSyncWord dies) s = .next t
         ∧ Wrote s t (([0, 1, 2, 3, 4, 5, 6, 7, 9].filter fun d => bit dies d).map fun d => (F.TIM_COPY_STATUS_STALE, d, 0)))
       ∧ (s.timeRuns = false → exec (.timeSyncWord dies) s = .next s))
     ∧ (∀ d, (d < 10 → d ≠ 8 → s.flag F.TIM_COPY_STATUS_STALE d = false → ∃ u, Wrote s u [(F.TIM_COPY_STATUS_STALE, d, 1), (F.TIM_COPY_STATUS_STALE_SET, d, 1),
           (F.TIM_COPY_STATUS_STALE_COUNT, d, satBits 8 (s.fld F.TIM_COPY_STATUS_STALE_COUNT d + 1))]
         ∧ exec (.timeCopyStale d) s = .next (u.note E.TIM_LOCAL_STALE))
       ∧ (10 ≤ d ∨ d = 8 ∨ s.flag F.TIM_COPY_STATUS_STALE d = true → exec (.timeCopyStale d) s = .next s))
     ∧ (s.flag F.CKG_DOMAIN_STATUS_ON_FALLBACK 4 = true → s.sourceGood 4 0 = true → Tab.get none s.ckg.switch 4 = none →
       ∃ u, Wrote s u [(F.CKG_DOMAIN_STATUS_SWITCHING, 4, 1)]
         ∧ exec .timeDomainReturn s = .next { u with ckg := { s.ckg with switch := Tab.set none s.ckg.switch 4 (some ⟨0, true⟩) } })
     ∧ (s.flag F.CKG_DOMAIN_STATUS_ON_FALLBACK 4 = false ∨ s.sourceGood 4 0 = false ∨ Tab.get none s.ckg.switch 4 ≠ none →
       exec .timeDomainReturn s = .next s)
     ∧ (s.flag F.TIM_STATUS_SLEWING 0 = true → ∃ u, Wrote s u [(F.TIM_STATUS_SLEWING, 0, 0)]
       ∧ exec .slewDone s = .next { u with tim := { s.tim with net := ((s.tim.net + s.tim.slew / 1000000) % (netModulus : Int)).toNat, slew := 0 } })
     ∧ (s.flag F.TIM_STATUS_SLEWING 0 = false → exec .slewDone s = .next s)
     ∧ (s.timeRuns = true → exec .timePairPeriod s = .next (s.ringWrite 1 false false
         [stampOf s.tim.net, pairNs s.tim.net, pairSecLo s.tim.net, pairSecHi s.tim.net, 0, 0]))
     ∧ (s.timeRuns = false → exec .timePairPeriod s = .next s)
     ∧ (∀ kind stepped stale ws t, List.length ws = 6 → t = s.ringWrite kind stepped stale ws →
       (s.flag F.TIM_RING_CFG_ENABLE 0 = false ∨ s.hostReach = false → t = s)
       ∧ (s.flag F.TIM_RING_CFG_ENABLE 0 = true → s.hostReach = true → ∀ n a flags, n = (s.rd R.TIM_RING_PROD 0 + 1) % 2 ^ 32 →
         a = s.rd R.TIM_RING_ADDR_LO 0 + 2 ^ 32 * s.rd R.TIM_RING_ADDR_HI 0 + 32 * (n % 2 ^ s.fld F.TIM_RING_CFG_SIZE_LOG2 0) →
         flags = b2n (s.flag F.TIM_STATUS_LOCKED 0) + 2 * b2n (s.mode == 5) + 4 * b2n stale + 8 * b2n stepped + 16 * b2n (s.flag F.TIM_STATUS_ON_FALLBACK 0) →
         t.hostBytes a 32 = some (w32 (kind + 256 * flags) ++ ws.flatMap w32 ++ w32 n) ∧ t.rd R.TIM_RING_PROD 0 = n
           ∧ (∀ b, b < a ∨ a + 32 ≤ b → Tab.get none t.host b = Tab.get none s.host b) ∧ t = { s with regs := t.regs, host := t.host }))
     ∧ (s.mode = 0 ∨ s.pins.pcieUp = false → exec .timPairCapture s = .next s)
     ∧ (bit 0x7C s.mode = true → s.pins.pcieUp = true → ∃ u, Wrote s u [(F.TIM_PAIR_STAMP_VALUE, 0, stampOf s.tim.net),
           (F.TIM_PAIR_NS_VALUE, 0, pairNs s.tim.net), (F.TIM_PAIR_SEC_LO_VALUE, 0, pairSecLo s.tim.net), (F.TIM_PAIR_SEC_HI_VALUE, 0, pairSecHi s.tim.net)]
       ∧ exec .timPairCapture s = .next { u with readData := w32 (stampOf s.tim.net) }))

/-- TIME pins: an edge of a capturing pin is captured, corrected, recorded, or merged with one less than 8 ns before; an output's edge starts or ends its pulse at its
time, and is held back while unlocked where SQUELCH says so.

Gate lists: a new list goes into the pending bank and is armed for the first cycle boundary at least 10 µs ahead; a pending change is cancelled; gating ends at a
boundary; a granted write of CHANGE arms the pending bank; at its instant the pending bank becomes active; an entry that starts sets the gates and asks its phase. -/
def Obligations.TimePinsAndGates : Prop :=
  (∀ (s : State) (k : Nat), k < 4 →
     (∀ falling x, (s.fld F.TIM_PIN_CFG_MODE k = 1 ∧ falling = s.flag F.TIM_PIN_CFG_POLARITY k)
         ∨ (s.fld F.TIM_PIN_CFG_MODE k = 2 ∧ bit (s.fld F.TIM_PIN_CFG_EDGES k) (b2n falling) = true) → s.timeRuns = true →
       x = (((s.capture : Int) - 256 * s.fld F.TIM_PIN_LAT_LAT_IN k) % (netModulus : Int)).toNat →
       ((s.pin k).last = none → ∃ t, exec (.timePinCapture k falling) s = .next t ∧ (t.pin k).last = some x ∧ t.fld F.TIM_PIN_STATUS_LEVEL k = b2n (!falling)
         ∧ t.fld F.TIM_PIN_STATUS_LAST_CAPTURE k = stampOf x % 2 ^ 16 ∧ t.tim.net = s.tim.net ∧ (∀ j, j ≠ k → t.pin j = s.pin j)
         ∧ t.fld F.TIM_PIN_STATUS_CAPTURE_MERGED k = s.fld F.TIM_PIN_STATUS_CAPTURE_MERGED k)
       ∧ ∀ u, (s.pin k).last = some u → (x + netModulus - u) % netModulus < 8 * 65536 →
         ∃ v, Wrote s v [(F.TIM_PIN_STATUS_LEVEL, k, b2n (!falling)), (F.TIM_PIN_STATUS_CAPTURE_MERGED, k, 1),
             (F.TIM_PIN_EVCOUNT_MERGED_COUNT, k, satBits 8 (s.fld F.TIM_PIN_EVCOUNT_MERGED_COUNT k + 1))]
           ∧ exec (.timePinCapture k falling) s = .next (v.note E.TIM_PIN_EVENT))
     ∧ (∀ falling, s.fld F.TIM_PIN_CFG_MODE k ≠ 1 → s.fld F.TIM_PIN_CFG_MODE k ≠ 2 → exec (.timePinCapture k falling) s = .next s)
     ∧ (s.fld F.TIM_PIN_CFG_MODE k = 3 ∨ s.fld F.TIM_PIN_CFG_MODE k = 4 →
       (∀ e, (s.pin k).pulseEnd = some e → e ≤ s.netNs → ∃ u, Wrote s u [(F.TIM_PIN_STATUS_LEVEL, k, s.fld F.TIM_PIN_CFG_POLARITY k)]
         ∧ exec (.timePinEdge k) s = .next (u.putPin k { s.pin k with pulseEnd := none }))
       ∧ (∀ n after, (s.pin k).pulseEnd = none → (s.pin k).next = some n →
         after = (if s.fld F.TIM_PIN_CFG_MODE k = 4 then some (n + s.pinPeriod k) else none) →
         (s.netNs < n → exec (.timePinEdge k) s = .next s)
         ∧ (n ≤ s.netNs → s.flag F.TIM_PIN_CFG_SQUELCH k = true → s.flag F.TIM_STATUS_LOCKED 0 = false →
           exec (.timePinEdge k) s = .next (s.putPin k { s.pin k with next := after }))
         ∧ (n ≤ s.netNs → s.flag F.TIM_PIN_CFG_SQUELCH k = false ∨ s.flag F.TIM_STATUS_LOCKED 0 = true →
           ∃ u, Wrote s u [(F.TIM_PIN_STATUS_LEVEL, k, 1 - s.fld F.TIM_PIN_CFG_POLARITY k)]
             ∧ exec (.timePinEdge k) s = .next (u.putPin k { s.pin k with next := after, pulseEnd := some (n + s.rd R.TIM_PIN_WIDTH k) }))))
     ∧ (s.fld F.TIM_PIN_CFG_MODE k < 3 → exec (.timePinEdge k) s = .next s))
  ∧ (∀ (s : State) (p : Nat), p < 1024 →
     (∀ k q, Running s k C.GATE_LIST_SET q → q.req.index = p →
       (∀ bs b base tc, q.req.arg A.GATE_LIST_SET_OP = 0 → q.req.arg A.GATE_LIST_SET_COUNT ≤ 256 →
         s.hostRead (q.req.arg64 A.GATE_LIST_SET_HOST_ADDR_LO A.GATE_LIST_SET_HOST_ADDR_HI) (8 * q.req.arg A.GATE_LIST_SET_COUNT) = some bs →
         (∀ e, e < q.req.arg A.GATE_LIST_SET_COUNT → bits (leAt bs (8 * e) 8) 53 11 = 0) → b = 1 - s.gateBank p →
         base = (q.req.arg A.GATE_LIST_SET_BASE_SEC_LO + 2 ^ 32 * q.req.arg A.GATE_LIST_SET_BASE_SEC_HI) * 1000000000 + q.req.arg A.GATE_LIST_SET_BASE_NS →
         tc = firstMultiple base (clamp 1 1000000000 (q.req.arg A.GATE_LIST_SET_CYCLE_NS)) (s.netNs + 10000) →
         ∃ u t, exec (.gateListSet (.record k)) s = .next t ∧ u.flag F.TIM_GATE_CFG_GATE_EN p = true ∧ u.flag F.TIM_GATE_CFG_CHANGE_PENDING p = true
           ∧ u.arr (gateEntryAt p b 0) bs.length = bs ∧ u.arr (gateEntryAt p (1 - b) 0) 2048 = s.arr (gateEntryAt p (1 - b) 0) 2048
           ∧ u.gateBank p = s.gateBank p ∧ (u.gate p).tc = some tc ∧ u.gateBase p b = base
           ∧ u.fld F.TIM_GATE_CFG_ADMIN_GATES p = q.req.arg A.GATE_LIST_SET_ADMIN_GATES
           ∧ Completed u t k q 0 0 (respParams C.GATE_LIST_SET q.req 0 (u.gateResp p tc)))
       ∧ (q.req.arg A.GATE_LIST_SET_OP = 1 →
         (s.flag F.TIM_GATE_CFG_CHANGE_PENDING p = true → ∃ v u t, exec (.gateListSet (.record k)) s = .next t
           ∧ Wrote s v [(F.TIM_GATE_CFG_CHANGE_PENDING, p, 0), (F.TIM_GATE_CFG_CHANGE, p, 0)] ∧ u = v.putGate p { s.gate p with tc := none, endTc := none }
           ∧ Completed u t k q 0 0 (respParams C.GATE_LIST_SET q.req 0 (u.gateResp p 0)))
         ∧ (s.flag F.TIM_GATE_CFG_CHANGE_PENDING p = false → ∃ t, exec (.gateListSet (.record k)) s = .next t ∧ Completed s t k q 0x0302 0 []))
       ∧ (∀ tc, q.req.arg A.GATE_LIST_SET_OP = 2 → s.flag F.TIM_GATE_CFG_GATE_EN p = true → (s.gate p).started = true →
         tc = firstMultiple (s.gateBase p (s.gateBank p)) (s.gateCycle p (s.gateBank p)) (s.netNs + 1) → ∃ v u t, exec (.gateListSet (.record k)) s = .next t
           ∧ Wrote s v [(F.TIM_GATE_CFG_CHANGE_PENDING, p, 1), (F.TIM_GATE_CHANGE_VALUE, p, tc)] ∧ u = v.putGate p { s.gate p with endTc := some tc }
           ∧ Completed u t k q 0 0 (respParams C.GATE_LIST_SET q.req 0 (u.gateResp p tc)))
       ∧ (q.req.arg A.GATE_LIST_SET_OP = 2 → s.flag F.TIM_GATE_CFG_GATE_EN p = false → ∃ t, exec (.gateListSet (.record k)) s = .next t
           ∧ Completed s t k q 0 0 (respParams C.GATE_LIST_SET q.req 0 (s.gateResp p s.netNs))))
     ∧ (HostMayWrite s 2 →
       (s.flag F.TIM_GATE_CFG_CHANGE_PENDING p = true → exec (.timGateChangeWrite p) s = .next s)
       ∧ (s.flag F.TIM_GATE_CFG_CHANGE_PENDING p = false → ∀ tc, tc = firstMultiple (s.gateBase p (1 - s.gateBank p)) (s.gateCycle p (1 - s.gateBank p)) (s.netNs + 10000) →
         ∃ u, Wrote s u [(F.TIM_GATE_CFG_CHANGE, p, 1), (F.TIM_GATE_CFG_CHANGE_PENDING, p, 1), (F.TIM_GATE_CHANGE_VALUE, p, tc)]
           ∧ exec (.timGateChangeWrite p) s = .next (u.putGate p { s.gate p with tc := some tc })))
     ∧ (s.granted 2 = false → ∃ t, exec (.timGateChangeWrite p) s = .next t ∧ t.tim = s.tim ∧ t.rd R.TIM_GATE_CFG p = s.rd R.TIM_GATE_CFG p
       ∧ t.fld F.TLR_UNGRANTED_LAST_OFFSET 0 = R.TIM_GATE_CFG.key p)
     ∧ (bit 0x78 s.mode = true → ∃ t, exec (.gateEntryStart p) s = .next t ∧ t.fld F.TIM_GATE_STATUS_GATES p = s.gateVector p s.netNs
       ∧ (∀ e ph, s.flag F.TIM_GATE_CFG_GATE_EN p = true → (s.gate p).started = true → s.gateEntry p (s.gateBank p) s.netNs = e →
           t.fld F.TIM_GATE_STATUS_ENTRY p = e.1 % 2 ^ 8
           ∧ (e.2.2.phase = some ph → s.flag F.TIM_GATE_CFG_PHASE_EN p = true → Tab.get none t.tim.phase p = some ph))
       ∧ t.queues = s.queues ∧ t.tim.net = s.tim.net ∧ t.arrays = s.arrays)
     ∧ (bit 0x78 s.mode = false → exec (.gateEntryStart p) s = .next s)
     ∧ (∀ tc, (s.gate p).tc = some tc →
       (s.netNs < tc → exec (.gateChangeover p) s = .next s)
       ∧ (tc ≤ s.netNs → ∃ t, exec (.gateChangeover p) s = .next t ∧ t.gateBank p = 1 - s.gateBank p ∧ t.flag F.TIM_GATE_CFG_CHANGE_PENDING p = false
         ∧ (t.gate p).started = true ∧ (t.gate p).tc = none ∧ t.fld F.TIM_GATE_STATUS_CHANGED p = 1
         ∧ t.fld F.TIM_GATE_EVCOUNT_CHANGED_COUNT p = satBits 8 (s.fld F.TIM_GATE_EVCOUNT_CHANGED_COUNT p + 1) ∧ t.arrays = s.arrays))
     ∧ (∀ tc, (s.gate p).tc = none → (s.gate p).endTc = some tc →
       (s.netNs < tc → exec (.gateChangeover p) s = .next s)
       ∧ (tc ≤ s.netNs → ∃ u, Wrote s u [(F.TIM_GATE_CFG_GATE_EN, p, 0), (F.TIM_GATE_CFG_CHANGE_PENDING, p, 0), (F.TIM_GATE_CFG_CHANGE, p, 0),
             (F.TIM_GATE_STATUS_GATES, p, 0xFFFF), (F.TIM_GATE_STATUS_ENTRY, p, 0)]
           ∧ exec (.gateChangeover p) s = .next (u.putGate p {})))
     ∧ ((s.gate p).tc = none → (s.gate p).endTc = none → exec (.gateChangeover p) s = .next s))

/-! ### The Counting House -/

/-- The commands of the Counting House: CTH_CONFIG writes its fields; SYNDICATE_CREATE gives a syndicate free pages, units and member entries, or answers which it
found none of; MEMBER_LOAD writes member entries, whole or not at all; SYNDICATE_DELETE leaves nothing of it; SYNDICATE_READ changes nothing.

CTH_INTAKE and CTH_CONTRIBUTION: a counting frame joins its syndicate's intake unless the area is full or it is bad; the contribution at the head is refused and
changes nothing of any syndicate, is answered with its result again, or goes to work in its chunk's buffer. What is accepted lies in the window and is not there yet. -/
def Obligations.SyndicatesTakeContributions : Prop :=
  (∀ s : State,
     (∀ m r, Ready s m C.CTH_CONFIG s.cthConfigChecks r → ∃ u t, exec (.cthConfig m) s = .next t
       ∧ Wrote s u ([(F.CTH_CFG_UDP_PORT, 0, r.arg A.CTH_CONFIG_UDP_PORT), (F.CTH_CFG_IP_SLOT, 0, r.arg A.CTH_CONFIG_IP_SLOT),
           (F.CTH_CFG_UDP_SLOT, 0, r.arg A.CTH_CONFIG_UDP_SLOT), (F.CTH_CFG_RESULT_POOL, 0, r.arg A.CTH_CONFIG_RESULT_POOL),
           (F.CTH_ADDR4_VALUE, 0, r.arg A.CTH_CONFIG_ADDR4), (F.CTH_MAC_LO_VALUE, 0, r.arg A.CTH_CONFIG_MAC_LO), (F.CTH_MAC_HI_MAC, 0, r.arg A.CTH_CONFIG_MAC_HI),
           (F.CTH_MAC_HI_ERROR_QUEUE, 0, r.arg A.CTH_CONFIG_ERROR_QUEUE)] ++ (List.range 4).map fun w => (F.CTH_ADDR6_BYTES, w, r.addr6 w))
       ∧ Answered u t m r 0 0 (respParams C.CTH_CONFIG r 0 (w32 (u.rd R.CTH_CFG 0))))
     ∧ (∀ m r d y l pages pp pu pm, Ready s m C.SYNDICATE_CREATE s.syndicateCreateChecks r → y = r.index → d = r.arg A.SYNDICATE_CREATE_HOME → l = s.synsOn d →
       pages = bufferPages (r.arg A.SYNDICATE_CREATE_ETYPE) (r.arg A.SYNDICATE_CREATE_MAX_COUNT) * r.arg A.SYNDICATE_CREATE_WINDOW →
       pp = firstFit 1520 pages (l.map fun x => (s.fld F.CTH_SYN_PLACE_PAGE_BASE x, s.synPages x)) →
       pu = firstFit 512 (r.arg A.SYNDICATE_CREATE_UNITS) (l.map fun x => (s.fld F.CTH_SYN_PLACE_UNIT_BASE x, s.fld F.CTH_SYN_LIMITS_UNITS x)) →
       pm = firstFit 32768 (r.arg A.SYNDICATE_CREATE_MEMBERS) (l.map fun x => (s.rd R.CTH_SYN_MEMBER_BASE x, s.synMembers x)) →
       (pp = none → ∃ t, exec (.syndicateCreate m) s = .next t ∧ Answered s t m r 0x0301 1 [])
       ∧ (pp.isSome = true → pu = none → ∃ t, exec (.syndicateCreate m) s = .next t ∧ Answered s t m r 0x0301 2 [])
       ∧ (pp.isSome = true → pu.isSome = true → pm = none → ∃ t, exec (.syndicateCreate m) s = .next t ∧ Answered s t m r 0x0301 3 [])
       ∧ (∀ pb ub mb, pp = some pb → pu = some ub → pm = some mb →
         pb + pages ≤ 1520 ∧ (∀ x ∈ l, pb + pages ≤ s.fld F.CTH_SYN_PLACE_PAGE_BASE x ∨ s.fld F.CTH_SYN_PLACE_PAGE_BASE x + s.synPages x ≤ pb)
         ∧ ∃ u t, exec (.syndicateCreate m) s = .next t ∧ Answered u t m r 0 0 (respParams C.SYNDICATE_CREATE r 0 (w32 (ub + 2 ^ 16 * pages) ++ w32 mb))
           ∧ u.flag F.CTH_SYN_CFG_EXISTS y = true ∧ u.synEnabled y = false ∧ u.synHome y = d ∧ u.synOp y = r.arg A.SYNDICATE_CREATE_OP
           ∧ u.synEtype y = r.arg A.SYNDICATE_CREATE_ETYPE ∧ u.fld F.CTH_SYN_CFG_WIDEN y = r.arg A.SYNDICATE_CREATE_WIDEN
           ∧ u.fld F.CTH_SYN_CFG_RESULT_QUEUE y = r.arg A.SYNDICATE_CREATE_RESULT_QUEUE ∧ u.synMembers y = r.arg A.SYNDICATE_CREATE_MEMBERS
           ∧ u.fld F.CTH_SYN_SIZE_WINDOW y = r.arg A.SYNDICATE_CREATE_WINDOW ∧ u.fld F.CTH_SYN_LIMITS_MAX_COUNT y = r.arg A.SYNDICATE_CREATE_MAX_COUNT
           ∧ u.fld F.CTH_SYN_LIMITS_UNITS y = r.arg A.SYNDICATE_CREATE_UNITS ∧ u.rd R.CTH_SYN_BASE y = r.arg A.SYNDICATE_CREATE_FIRST_CHUNK
           ∧ u.fld F.CTH_SYN_PLACE_PAGE_BASE y = pb ∧ u.fld F.CTH_SYN_PLACE_UNIT_BASE y = ub ∧ u.rd R.CTH_SYN_MEMBER_BASE y = mb
           ∧ (u.syn y).chunks = [] ∧ (u.syn y).work = none ∧ (∀ z, z ≠ y → u.syn z = s.syn z) ∧ u.arrays = s.arrays
           ∧ ∀ q j, (q.key j < 0x40010000 + 0x100 * y ∨ 0x40010100 + 0x100 * y ≤ q.key j) → q.key j ≠ R.CTH_DIE_STATUS.key d →
             q.key j ≠ R.CTH_DIE_MEMBERS.key d → u.rd q j = s.rd q j))
     ∧ (∀ k q y n f addr, Running s k C.MEMBER_LOAD q → y = q.req.index → y < 256 → n = q.req.arg A.MEMBER_LOAD_COUNT → f = q.req.arg A.MEMBER_LOAD_FIRST →
       addr = q.req.arg64 A.MEMBER_LOAD_HOST_ADDR_LO A.MEMBER_LOAD_HOST_ADDR_HI →
       (s.hostRead addr (32 * n) = none → ∃ t, exec (.memberLoad (.record k)) s = .next t ∧ Completed s t k q 0x0402 0xFF000000 [])
       ∧ (∀ bs, s.hostRead addr (32 * n) = some bs →
         ((∃ i, i < n ∧ s.portConfigured (memberPort ((bs.drop (32 * i)).take 32)) = false) →
           ∃ t, exec (.memberLoad (.record k)) s = .next t ∧ Completed s t k q 0x0103 1 [])
         ∧ ((∀ i, i < n → s.portConfigured (memberPort ((bs.drop (32 * i)).take 32)) = true) → ∃ u t, exec (.memberLoad (.record k)) s = .next t
           ∧ u.arr (s.memberAt y f) (32 * n) = bs ∧ (∀ a, a < s.memberAt y f ∨ s.memberAt y f + 32 * n ≤ a → Tab.get 0 u.arrays a = Tab.get 0 s.arrays a)
           ∧ (∀ j, bit (u.syn y).loaded j = (bit (s.syn y).loaded j || (decide (f ≤ j) && decide (j < f + n)))) ∧ (u.syn y).chunks = (s.syn y).chunks
           ∧ RegsBecome s u (if q.req.on A.MEMBER_LOAD_ENABLE then [(F.CTH_SYN_CFG_ENABLE, y, 1)] else [])
           ∧ Completed u t k q 0 0 (respParams C.MEMBER_LOAD q.req 0 (w32 (popCount 1024 (u.syn y).loaded))))))
     ∧ (∀ m r y d, Ready s m C.SYNDICATE_DELETE s.syndicateDeleteChecks r → y = r.index → d = s.synHome y →
       (s.flag F.CTH_SYN_CFG_EXISTS y = false → ∃ t, exec (.syndicateDelete m) s = .next t ∧ Answered s t m r 0x0302 0 [])
       ∧ (s.flag F.CTH_SYN_CFG_EXISTS y = true → ∃ u t, exec (.syndicateDelete m) s = .next t
         ∧ Answered u t m r 0 0 (respParams C.SYNDICATE_DELETE r 0 (w32 (s.fld F.CTH_SYN_STATUS_OPEN y)))
         ∧ u.syn y = {} ∧ (∀ z, z ≠ y → u.syn z = s.syn z) ∧ u.intake (256 * d + y) = []
         ∧ (∀ q j, 0x40010000 + 0x100 * y ≤ q.key j → q.key j < 0x40010100 + 0x100 * y → u.rd q j = q.rst j)
         ∧ u.rd64 R.CTH_GSTAT_LO R.CTH_GSTAT_HI 2 = min (s.rd64 R.CTH_GSTAT_LO R.CTH_GSTAT_HI 2 + (s.intake (256 * d + y)).length) (2 ^ 64 - 1)
         ∧ u.queues = s.queues ∧ u.vlt = s.vlt))
     ∧ ∀ m r y, Ready s m C.SYNDICATE_READ s.syndicateReadChecks r → y = r.index → Reports (exec (.syndicateRead m) s) s m r C.SYNDICATE_READ
         (w32 (s.rd R.CTH_SYN_CFG y) ++ w32 (s.rd R.CTH_SYN_SIZE y) ++ w32 (s.rd R.CTH_SYN_BASE y) ++ w32 (s.rd R.CTH_SYN_STATUS y)
           ++ w32 (s.rd R.CTH_SYN_STRAG_CHUNK y) ++ w32 (s.rd R.CTH_SYN_STRAG_MEMBER y)))
  ∧ ((∀ (s : State) (i post d y : Nat) (x : Parsed) (tail : List (Parsed × Nat)), i < 32 → post < 256 → Tab.get [] s.cls.toCth i = (x, post) :: tail →
     y = byteAt (s.cthBody x) 2 → d = (if s.synEnabled y then s.synHome y else i / 16) →
     (bit 0x30 s.mode = false → ∃ t, exec (.cthIntake i) s = .next t ∧ Tab.get [] t.cls.toCth i = tail ∧ t.cth = s.cth)
     ∧ (bit 0x30 s.mode = true →
       (0x100000 < s.intakeBytes d + x.frame.bytes.length → ∃ t, exec (.cthIntake i) s = .next t ∧ Tab.get [] t.cls.toCth i = tail ∧ t.cth = s.cth
         ∧ t.rd64 R.CTH_GSTAT_LO R.CTH_GSTAT_HI 2 = min (s.rd64 R.CTH_GSTAT_LO R.CTH_GSTAT_HI 2 + 1) (2 ^ 64 - 1))
       ∧ (s.intakeBytes d + x.frame.bytes.length ≤ 0x100000 → x.frame.bad = true → ∃ t, exec (.cthIntake i) s = .next t ∧ Tab.get [] t.cls.toCth i = tail
         ∧ t.cth = s.cth ∧ t.rd64 R.CTH_GSTAT_LO R.CTH_GSTAT_HI 1 = min (s.rd64 R.CTH_GSTAT_LO R.CTH_GSTAT_HI 1 + 1) (2 ^ 64 - 1))
       ∧ (s.intakeBytes d + x.frame.bytes.length ≤ 0x100000 → x.frame.bad = false → ∃ t, exec (.cthIntake i) s = .next t ∧ Tab.get [] t.cls.toCth i = tail
         ∧ t.intake (256 * d + y) = s.intake (256 * d + y) ++ [x] ∧ (∀ q, q ≠ 256 * d + y → t.intake q = s.intake q) ∧ t.cth.syns = s.cth.syns
         ∧ t.rd64 R.CTH_GSTAT_LO R.CTH_GSTAT_HI 0 = min (s.rd64 R.CTH_GSTAT_LO R.CTH_GSTAT_HI 0 + 1) (2 ^ 64 - 1))))
   ∧ (∀ (s : State) (d y : Nat) (x : Parsed) (tail : List Parsed), d < 2 → y < 256 → s.intake (256 * d + y) = x :: tail → x.frame.port < 1024 →
     (bit 0x30 s.mode = false ∨ (s.synEnabled y = true ∧ s.synHome y = d ∧ (s.syn y).work.isSome = true) → exec (.cthContribution d y) s = .next s)
     ∧ (bit 0x30 s.mode = true → s.synEnabled y = false ∨ s.synHome y ≠ d → ∃ t, exec (.cthContribution d y) s = .next t
       ∧ t.intake (256 * d + y) = tail ∧ t.cth.syns = s.cth.syns ∧ t.fld F.CTH_SYN_STATUS_ERROR y = 1
       ∧ t.rd64 R.CTH_GSTAT_LO R.CTH_GSTAT_HI 7 = min (s.rd64 R.CTH_GSTAT_LO R.CTH_GSTAT_HI 7 + 1) (2 ^ 64 - 1))
     ∧ (bit 0x30 s.mode = true → s.synEnabled y = true → s.synHome y = d → (s.syn y).work = none →
       (∀ code, s.judge y x = .error code → ∃ t, exec (.cthContribution d y) s = .next t ∧ t.intake (256 * d + y) = tail ∧ t.cth.syns = s.cth.syns
         ∧ t.fld F.CTH_SYN_STATUS_ERROR y = 1 ∧ t.fld F.CTH_SYN_STATUS_ERROR_COUNT y = satBits 8 (s.fld F.CTH_SYN_STATUS_ERROR_COUNT y + 1))
       ∧ (∀ m b c, s.judge y x = .resend m b → s.chunk y b = some c → ∃ t, exec (.cthContribution d y) s = .next t ∧ t.intake (256 * d + y) = tail
         ∧ t.cth.syns = s.cth.syns
         ∧ t.rd64 R.CTH_SYN_STAT_LO R.CTH_SYN_STAT_HI (5 + 8 * y) = min (s.rd64 R.CTH_SYN_STAT_LO R.CTH_SYN_STAT_HI (5 + 8 * y) + 1) (2 ^ 64 - 1))
       ∧ (∀ m b c n, s.judge y x = .accept m b c n → ∃ t, exec (.cthContribution d y) s = .next t ∧ t.intake (256 * d + y) = tail
         ∧ (t.syn y).work = some ⟨m, b, (List.range n).map fun i => leAt (s.cthBody x) (16 + i * elemBytes (s.synEtype y)) (elemBytes (s.synEtype y))⟩
         ∧ (∀ k, s.chunk y b = some k → k.number = c → t.chunk y b = some k)
         ∧ (s.chunk y b = none ∨ (∃ k, s.chunk y b = some k ∧ k.number ≠ c) →
             t.chunk y b = some { number := c, phase := 1, count := n, elems := List.replicate n {} })
         ∧ (∀ j, j ≠ b → t.chunk y j = s.chunk y j) ∧ (∀ z, z ≠ y → t.syn z = s.syn z) ∧ t.queues = s.queues ∧ t.vlt = s.vlt)))
   ∧ ∀ (s : State) (y : Nat) (x : Parsed) (m b c n : Nat), s.judge y x = .accept m b c n →
     m < s.synMembers y ∧ 0 < n ∧ n ≤ s.fld F.CTH_SYN_LIMITS_MAX_COUNT y ∧ b = c % s.synWindow y
     ∧ (c + 2 ^ 32 - s.rd R.CTH_SYN_BASE y) % 2 ^ 32 < s.synWindow y
     ∧ bits (beAt (s.cthBody x) 0 4) 24 4 = s.synEtype y ∧ bits (beAt (s.cthBody x) 0 4) 22 2 = s.synOp y
     ∧ 16 + n * elemBytes (s.synEtype y) ≤ (s.cthBody x).length
     ∧ ∀ k, s.chunk y b = some k → k.number = c → bit k.arrived m = false ∧ k.count = n ∧ k.phase ≠ 5)

/-- A contribution in work is combined into its chunk element by element and its member's bit set, and the last makes the chunk complete; a complete chunk's result is
offered to the vault and done, or waits and is offered again; an uncorrectable store error or the abort timer abandons the chunk; a straggler is recorded once. -/
def Obligations.ChunksCompleteOrAreAbandoned : Prop :=
  ∀ (s : State) (y b : Nat) (c : Chunk), y < 256 → s.chunk y b = some c →
    (∀ w, (s.syn y).work = some w → w.buffer = b →
      (∀ ecc, ecc < 2 → ∃ t, exec (.cthAccumulated y ecc) s = .next t ∧ (t.syn y).work = none ∧ (∀ z, z ≠ y → t.syn z = s.syn z)
        ∧ (∀ j, j ≠ b → t.chunk y j = s.chunk y j) ∧ t.queues = s.queues
        ∧ t.chunk y b = some { c with elems := (c.elems.zip w.elems).map fun z => combineElem (s.synEtype y) (s.synOp y) z.1 z.2
                                      arrived := c.arrived ||| 2 ^ w.member, since := some (c.since.getD s.now)
                                      phase := if popCount 1024 (c.arrived ||| 2 ^ w.member) = s.synMembers y then 2 else 1 }
        ∧ t.rd64 R.CTH_GSTAT_LO R.CTH_GSTAT_HI 5 = min (s.rd64 R.CTH_GSTAT_LO R.CTH_GSTAT_HI 5 + ecc) (2 ^ 64 - 1))
      ∧ ∃ t, exec (.cthAccumulated y 2) s = .next t ∧ (t.syn y).work = none ∧ t.chunk y b = some { c with phase := 5, elems := [] })
    ∧ (c.phase ≠ 2 → ∀ ecc, exec (.cthResultReady y b ecc) s = .next s)
    ∧ (∀ out ofl v, c.phase = 2 → out = c.elems.map (fun a => finishElem (s.synEtype y) (s.synOp y) (s.flag F.CTH_SYN_CFG_WIDEN y) a) →
      ofl = (out.filter fun o => o.2).length → v = (if ofl = 0 then s else (s.synStat y 7 ofl).note E.CTH_OVERFLOW) →
      exec (.cthResultReady y b 0) s = .next (v.offerResult y b
        { c with result := out.flatMap fun o => leBytes (outBytes (s.synEtype y) (s.synOp y) (s.flag F.CTH_SYN_CFG_WIDEN y)) o.1 }))
    ∧ (c.phase ≠ 3 → exec (.cthResultRetry y b) s = .next s)
    ∧ (c.phase = 3 → exec (.cthResultRetry y b) s = .next (s.offerResult y b c))
    ∧ (∀ t x, t = s.offerResult y b x →
      ((s.cthMulticast y (List.range (s.synMembers y)) (s.resultData y x false)).2 = true → t.chunk y b = some { x with phase := 4, elems := [] }
        ∧ t.rd64 R.CTH_SYN_STAT_LO R.CTH_SYN_STAT_HI (2 + 8 * y) = min (s.rd64 R.CTH_SYN_STAT_LO R.CTH_SYN_STAT_HI (2 + 8 * y) + 1) (2 ^ 64 - 1))
      ∧ ((s.cthMulticast y (List.range (s.synMembers y)) (s.resultData y x false)).2 = false → t.chunk y b = some { x with phase := 3, elems := [] }
        ∧ t.rd R.CTH_SYN_BASE y = s.rd R.CTH_SYN_BASE y
        ∧ t.rd64 R.CTH_GSTAT_LO R.CTH_GSTAT_HI 4 = min (s.rd64 R.CTH_GSTAT_LO R.CTH_GSTAT_HI 4 + 1) (2 ^ 64 - 1)))
    ∧ (c.phase = 1 → c.since.isSome = true → c.straggled = false →
      ∃ t, exec (.cthStragglerTimer y b) s = .next t ∧ t.chunk y b = some { c with straggled := true }
        ∧ t.rd R.CTH_SYN_STRAG_CHUNK y = c.number % 2 ^ 32 ∧ t.fld F.CTH_SYN_STATUS_STRAGGLER y = 1
        ∧ t.fld F.CTH_SYN_STATUS_STRAGGLER_COUNT y = satBits 8 (s.fld F.CTH_SYN_STATUS_STRAGGLER_COUNT y + 1)
        ∧ (∀ k, lowest (s.synMembers y) (fun j => !bit c.arrived j) = some k → t.rd R.CTH_SYN_STRAG_MEMBER y = k + 2 ^ 16 * popCount 1024 c.arrived)
        ∧ (∀ j, j ≠ b → t.chunk y j = s.chunk y j) ∧ t.queues = s.queues)
    ∧ (c.phase ≠ 1 ∨ c.since = none ∨ c.straggled = true → exec (.cthStragglerTimer y b) s = .next s)
    ∧ (s.flag F.CTH_SYN_CFG_ABORT_EN y = true → c.phase = 1 → c.since.isSome = true → (∀ w, (s.syn y).work = some w → w.buffer ≠ b) →
      exec (.cthAbortTimer y b) s = .next (s.abandon y b c 9))
    ∧ (s.flag F.CTH_SYN_CFG_ABORT_EN y = false ∨ c.phase ≠ 1 ∨ c.since = none → exec (.cthAbortTimer y b) s = .next s)
    ∧ ∀ t code, t = s.abandon y b c code → t.chunk y b = some { c with phase := 5, elems := [] } ∧ t.fld F.CTH_SYN_STATUS_ABORTED y = 1
      ∧ t.rd64 R.CTH_SYN_STAT_LO R.CTH_SYN_STAT_HI (6 + 8 * y) = min (s.rd64 R.CTH_SYN_STAT_LO R.CTH_SYN_STAT_HI (6 + 8 * y) + 1) (2 ^ 64 - 1)

/-- What a chunk answers depends only on the set of its inputs: in whatever order elements of a type are combined, the finished element and whether it overflowed are
the same. Integer sums are exact and clamped; a minimum and a maximum of numbers is one of them. -/
def Obligations.CountingDoesNotDependOnOrder : Prop :=
  (∀ (e op : Nat) (widen : Bool) (l r : List Nat), e < 6 → op < 3 → l.Perm r → (∀ x ∈ l, x < 2 ^ (8 * elemBytes e)) →
    finishElem e op widen (l.foldl (combineElem e op) {}) = finishElem e op widen (r.foldl (combineElem e op) {}))
  ∧ (∀ (widen : Bool) (l : List Nat) (z : Int), z = (l.map (toSigned 32)).sum →
    finishElem 5 0 widen (l.foldl (combineElem 5 0) {})
      = (if z < -(2 ^ 31) then (0x80000000, true) else if 2 ^ 31 ≤ z then (0x7FFFFFFF, true) else (ofSigned 32 z, false)))
  ∧ ∀ (e op : Nat) (widen : Bool) (l : List Nat), e < 6 → op = 1 ∨ op = 2 → l ≠ [] → (∀ x ∈ l, x < 2 ^ (8 * elemBytes e)) →
    (∀ x ∈ l, e = 5 ∨ fpNan (fpType e) x = false) → ∃ x ∈ l, finishElem e op widen (l.foldl (combineElem e op) {}) = (x, false)
      ∧ ∀ y ∈ l, (op = 1 → orderKey e x ≤ orderKey e y) ∧ (op = 2 → orderKey e y ≤ orderKey e x)

/-! ### DMA -/

/-- DMA_CHANNEL_CONFIG writes its channel's registers, rewinds the ring where R490 says so and switches the channel on or off; DMA_CHANNEL_CONTROL starts, aborts or
resets it; HOSTQ_CONFIG and DMA_GLOBAL_CONFIG write their fields and nothing else.

The doorbell page of a channel: POSTED is taken unless it would post the ring full; START resumes a stopped channel at HEAD; ABORT stops a channel with nothing
in hand at once, ends the descriptor in hand with ABORTED, and waits for reads outstanding. OWN_WAIT ends when OWN is 1, and a holdoff's end sends what waited. -/
def Obligations.DmaChannelsAreConfiguredAndRun : Prop :=
  (∀ (s : State) (m : Nat) (r : Req) (c : Nat), c = r.index →
     (Ready s m C.DMA_CHANNEL_CONFIG s.dmaChannelConfigChecks r → ∃ u t, exec (.dmaChannelConfig m) s = .next t
       ∧ Answered u t m r 0 0 (respParams C.DMA_CHANNEL_CONFIG r 0 (w32 (u.rd R.DMA_CH_CFG c) ++ w32 (u.rd R.DMA_CH_STATUS c)))
       ∧ u.fld F.DMA_CH_CFG_ENABLE c = r.arg A.DMA_CHANNEL_CONFIG_ENABLE ∧ u.fld F.DMA_CH_CFG_ROLE c = r.arg A.DMA_CHANNEL_CONFIG_ROLE
       ∧ u.fld F.DMA_CH_CFG_PRIORITY c = r.arg A.DMA_CHANNEL_CONFIG_PRIORITY ∧ u.fld F.DMA_CH_CFG_MAX_BURST c = r.arg A.DMA_CHANNEL_CONFIG_MAX_BURST
       ∧ u.fld F.DMA_CH_CFG_ERR_ACTION c = r.arg A.DMA_CHANNEL_CONFIG_ERR_ACTION ∧ u.fld F.DMA_CH_CFG_IRQ_EN c = r.arg A.DMA_CHANNEL_CONFIG_IRQ_EN
       ∧ u.fld F.DMA_CH_CFG_SIZE_LOG2 c = r.arg A.DMA_CHANNEL_CONFIG_SIZE_LOG2 ∧ u.fld F.DMA_CH_CFG_VECTOR c = r.arg A.DMA_CHANNEL_CONFIG_VECTOR
       ∧ u.ringBase c = r.arg64 A.DMA_CHANNEL_CONFIG_BASE_LO A.DMA_CHANNEL_CONFIG_BASE_HI
       ∧ u.rd R.DMA_CH_HOLDOFF c = r.arg A.DMA_CHANNEL_CONFIG_HOLDOFF_US
       ∧ u.rd R.DMA_CH_INJ_RATE c = r.arg A.DMA_CHANNEL_CONFIG_INJ_RATE ∧ u.rd R.DMA_CH_INJ_BURST c = r.arg A.DMA_CHANNEL_CONFIG_INJ_BURST
       ∧ (∀ q j, q.key j < 0x6010000 + 0x100 * c ∨ 0x6010100 + 0x100 * c ≤ q.key j → u.rd q j = s.rd q j)
       ∧ (s.chanMoves r = true ∨ (s.flag F.DMA_CH_CFG_ENABLE c = false ∧ r.on A.DMA_CHANNEL_CONFIG_ENABLE = true) →
         u.head c = r.arg64 A.DMA_CHANNEL_CONFIG_BASE_LO A.DMA_CHANNEL_CONFIG_BASE_HI ∧ u.posted c = 0 ∧ u.consumed c = 0)
       ∧ (r.on A.DMA_CHANNEL_CONFIG_ENABLE = false → u.chanState c = 0)
       ∧ (r.on A.DMA_CHANNEL_CONFIG_ENABLE = true → s.flag F.DMA_CH_CFG_ENABLE c = false → u.chanState c = 1)
       ∧ (r.on A.DMA_CHANNEL_CONFIG_ENABLE = true → s.flag F.DMA_CH_CFG_ENABLE c = true → s.chanMoves r = false →
         u.rd R.DMA_CH_STATUS c = s.rd R.DMA_CH_STATUS c ∧ u.head c = s.head c ∧ u.posted c = s.posted c ∧ u.consumed c = s.consumed c ∧ u.chan c = s.chan c)
       ∧ (r.arg A.DMA_CHANNEL_CONFIG_INJ_RATE ≠ s.rd R.DMA_CH_INJ_RATE c ∨ r.arg A.DMA_CHANNEL_CONFIG_INJ_BURST ≠ s.rd R.DMA_CH_INJ_BURST c →
         u.injTokens c = (r.arg A.DMA_CHANNEL_CONFIG_INJ_BURST * injUnit : Nat))
       ∧ (∀ j, j ≠ c → u.chan j = s.chan j) ∧ u.host = s.host ∧ u.queues = s.queues ∧ u.vlt = s.vlt)
     ∧ (Ready s m C.DMA_CHANNEL_CONTROL s.dmaChannelControlChecks r → ∃ u t a, exec (.dmaChannelControl m) s = .next t
       ∧ a = r.arg A.DMA_CHANNEL_CONTROL_ACTION ∧ Answered u t m r 0 0 (respParams C.DMA_CHANNEL_CONTROL r 0 (w32 (u.rd R.DMA_CH_STATUS c)))
       ∧ (a = 0 → u = s) ∧ (a = 1 → s.chanState c ≠ 4 → u = s)
       ∧ (a = 1 → s.chanState c = 4 → s.flag F.DMA_CH_CFG_ENABLE c = true → EmptyHand s c → u.chanState c = (if s.posted c = s.consumed c then 1 else 2)
         ∧ u.fld F.DMA_CH_RESIDUE_LINKS c = 0 ∧ u.head c = s.head c ∧ u.host = s.host)
       ∧ (2 ≤ a → EmptyHand s c → s.chanState c ≠ 0 → s.chanState c ≠ 4 → u.chanState c = 4 ∧ u.flag F.DMA_CH_STATUS_ABORT_DONE c = true ∧ u.host = s.host)
       ∧ (a = 2 → EmptyHand s c → s.chanState c = 0 ∨ s.chanState c = 4 → u = s)
       ∧ (a = 3 → u.head c = s.ringBase c ∧ u.posted c = 0 ∧ u.consumed c = 0 ∧ u.chan c = {}))
     ∧ (Ready s m C.HOSTQ_CONFIG s.hostqConfigChecks r → ∃ u t, exec (.hostqConfig m) s = .next t
       ∧ Wrote s u [(F.DMA_HOSTQ_CFG_CHANNEL, c, r.arg A.HOSTQ_CONFIG_CHANNEL), (F.DMA_HOSTQ_CFG_DEPTH_LIMIT, c, r.arg A.HOSTQ_CONFIG_DEPTH_LIMIT)]
       ∧ Answered u t m r 0 0 (respParams C.HOSTQ_CONFIG r 0 (w32 (u.rd R.DMA_HOSTQ_CFG c))))
     ∧ (Ready s m C.DMA_GLOBAL_CONFIG s.dmaGlobalConfigChecks r → ∃ u t, exec (.dmaGlobalConfig m) s = .next t
       ∧ Wrote s u [(F.DMA_GLOBAL_CPL_TIMEOUT_US, 0, r.arg A.DMA_GLOBAL_CONFIG_CPL_TIMEOUT_US)]
       ∧ Answered u t m r 0 0 (respParams C.DMA_GLOBAL_CONFIG r 0 (w32 (u.rd R.DMA_GLOBAL 0)))))
  ∧ (∀ (s : State) (c : Nat) (x : Chan), x = s.chan c →
     (s.doorbells c = false → (∀ v, exec (.dmaDoorbell c v) s = .next s) ∧ exec (.dmaStart c) s = .next s ∧ exec (.dmaAbort c) s = .next s)
     ∧ (∀ v, v < 65536 → s.doorbells c = true →
       (s.flag F.DMA_CH_CFG_ENABLE c = false → exec (.dmaDoorbell c v) s = .next s)
       ∧ (s.flag F.DMA_CH_CFG_ENABLE c = true →
         (s.ringSize c - 1 < (v + 65536 - s.consumed c) % 65536 → ∃ t, exec (.dmaDoorbell c v) s = .next t
           ∧ Wrote s t [(F.DMA_CH_STATUS_DB_ERR, c, 1), (F.DMA_CH_STATUS_DB_ERR_COUNT, c, satBits 8 (s.fld F.DMA_CH_STATUS_DB_ERR_COUNT c + 1))])
         ∧ ((v + 65536 - s.consumed c) % 65536 ≤ s.ringSize c - 1 → ∃ t, exec (.dmaDoorbell c v) s = .next t
           ∧ Wrote s t [(F.DMA_CH_COUNT_POSTED, c, v), (F.DMA_DOORBELL_POSTED, c, v),
             (F.DMA_CH_STATUS_STATE, c, if s.chanState c = 1 ∧ v ≠ s.consumed c then 2 else s.chanState c)])))
     ∧ (s.doorbells c = true →
       (s.chanState c ≠ 4 ∨ s.flag F.DMA_CH_CFG_ENABLE c = false → exec (.dmaStart c) s = .next s)
       ∧ (s.chanState c = 4 → s.flag F.DMA_CH_CFG_ENABLE c = true → EmptyHand s c → ∃ t, exec (.dmaStart c) s = .next t
         ∧ Wrote s t [(F.DMA_CH_RESIDUE_LINKS, c, 0), (F.DMA_CH_STATUS_STATE, c, if s.posted c = s.consumed c then 1 else 2)])
       ∧ (s.chanState c = 0 ∨ s.chanState c = 4 → exec (.dmaAbort c) s = .next s)
       ∧ (s.chanState c ≠ 0 → s.chanState c ≠ 4 →
         (EmptyHand s c → ∃ t, exec (.dmaAbort c) s = .next t ∧ t.chanState c = 4 ∧ t.flag F.DMA_CH_STATUS_ABORT_DONE c = true
           ∧ t.fld F.DMA_CH_EVCOUNT_ABORT_COUNT c = satBits 8 (s.fld F.DMA_CH_EVCOUNT_ABORT_COUNT c + 1)
           ∧ t.flag F.DMA_CH_CMD_ABORT c = false ∧ t.host = s.host ∧ t.head c = s.head c ∧ t.rd R.DMA_CH_COUNT c = s.rd R.DMA_CH_COUNT c)
         ∧ ∀ d u, x.cur = some d → s.chanRole c = 0 → x.bad = none → x.diff = none → x.good ≠ d.len →
           u = (s.putChan c { x with aborting := true }).setF F.DMA_CH_CMD_ABORT c 1 →
           (x.bursts ≠ [] → exec (.dmaAbort c) s = .next (u.setF F.DMA_CH_RESIDUE_RESIDUE c (d.len - x.good)))
           ∧ (x.bursts = [] → s.hostReach = true → ∃ t, exec (.dmaAbort c) s = .next t
             ∧ DescEnds u t c d 2 (d.len - x.good) x.good (s.nextDesc c d.at_))))
     ∧ (c < 28 → s.dmaUp = true → s.chanState c = 3 →
       (s.descWords (s.head c) = none → EmptyHand s c → ∃ t, exec (.dmaOwnRetry c) s = .next t ∧ t.chanState c = 4 ∧ t.fld F.DMA_CH_STATUS_LAST_STATUS c = 4
         ∧ t.flag F.DMA_CH_STATUS_WB_FAIL c = true ∧ t.head c = s.head c)
       ∧ ∀ d, s.descWords (s.head c) = some d → (d.own = false → exec (.dmaOwnRetry c) s = .next (s.chanStat c 4 1))
         ∧ (d.own = true → exec (.dmaOwnRetry c) s = .next ((s.chanStat c 4 1).setChanState c 2)))
     ∧ (s.chanState c ≠ 3 → exec (.dmaOwnRetry c) s = .next s)
     ∧ (c < 28 → x.holding = true →
       (x.holdWaits = false → exec (.dmaIrqHoldoffEnd c) s = .next (s.putChan c { x with holding := false, holdWaits := false }))
       ∧ (x.holdWaits = true → s.flag F.DMA_CH_CFG_IRQ_EN c = true → ∃ t, exec (.dmaIrqHoldoffEnd c) s = .next t
         ∧ t.msix = s.msix ++ s.sends (s.fld F.DMA_CH_CFG_VECTOR c) ∧ t.chan c = { x with holding := s.fld F.DMA_CH_HOLDOFF_HOLDOFF_US c != 0, holdWaits := false })))

/-- Taking a descriptor, whatever its operation: a failed fetch stops the channel with its status in the channel's registers, OWN 0 makes it wait, a bad descriptor
ends with BAD_DESC, one whose device range is not allowed with DEVICE_ERR, and a good one is in hand, or fetched ahead on a punt channel.

A whole FILL writes its pattern over its range, burst by burst, and no byte of host memory but those and its own descriptor, and ends OK.

DMA_BURST_GRANT grants the next channel in turn of the lowest level that asks. A write burst moves its bytes, and ends its descriptor with the last of them, or
with DEVICE_ERR where device memory cannot be read; a read burst is outstanding.

Completions of a general channel's reads: good bytes reach the device and the last of them ends the descriptor; a failed beat is waited out and ends it with
BEAT_ERR and every byte not confirmed in RESIDUE; a timeout ends it with HOST_TIMEOUT and stops the channel; late completions are discarded and counted. -/
def Obligations.DescriptorsAndTheirBursts : Prop :=
  (∀ (s : State) (c op : Nat) (whole : Bool) (o : Host.Outcome State Fault Refusal),
     (op, o) ∈ [(0, exec (.dmaCopyToHost c whole) s), (1, exec (.dmaCopyFromHost c whole) s), (2, exec (.dmaFill c whole) s), (3, exec (.dmaCompare c whole) s),
       (4, exec (.dmaLink c) s)] →
     (s.mayTake c = false → o = .next s)
     ∧ (s.mayTake c = true → EmptyHand s c →
       (s.descWords (s.head c) = none → ∃ t, o = .next t ∧ t.chanState c = 4 ∧ t.fld F.DMA_CH_STATUS_LAST_STATUS c = 4 ∧ t.flag F.DMA_CH_STATUS_WB_FAIL c = true
         ∧ t.rd64 R.DMA_CH_ERR_ADDR_LO R.DMA_CH_ERR_ADDR_HI c = s.head c ∧ t.head c = s.head c ∧ t.rd R.DMA_CH_COUNT c = s.rd R.DMA_CH_COUNT c ∧ t.host = s.host)
       ∧ ∀ d, s.descWords (s.head c) = some d →
         (d.own = false → o = .next (s.setChanState c 3))
         ∧ (d.own = true → badDesc (s.chanRole c) true d = true → ∃ t, o = .next t ∧ DescEnds s t c d 7 d.len 0 (s.nextDesc c d.at_))
         ∧ (d.own = true → badDesc (s.chanRole c) true d = false → d.op ≠ op → o = .next s)
         ∧ (d.own = true → badDesc (s.chanRole c) true d = false → d.op = op → op ≠ 4 →
           (s.chanRole c = 0 → s.deviceOk d = false → ∃ t, o = .next t ∧ DescEnds s t c d 6 d.len 0 (s.nextDesc c d.at_))
           ∧ (s.chanRole c = 2 ∨ (s.chanRole c = 0 ∧ s.deviceOk d = true) → whole = false → ∃ t, o = .next t
             ∧ t.chan c = { s.chan c with cur := some d, frameMeta := some (d.w 0, d.w 4, d.w 5) }
             ∧ t.fld F.DMA_CH_RESIDUE_RESIDUE c = d.len ∧ t.fld F.DMA_CH_RESIDUE_LINKS c = 0 ∧ (∀ k, k < 8 → t.rd R.DMA_CH_DESC (k + 8 * c) = d.w k)
             ∧ t.head c = s.head c ∧ t.rd R.DMA_CH_COUNT c = s.rd R.DMA_CH_COUNT c ∧ t.chanState c = 2 ∧ t.host = s.host)
           ∧ (s.chanRole c = 1 → ∃ t, o = .next t ∧ t.chan c = { s.chan c with ahead := [d] } ∧ t.head c = s.nextDesc c d.at_ % 2 ^ 64
             ∧ t.consumed c = (s.consumed c + 1) % 65536 ∧ t.host = s.host))
         ∧ (d.own = true → d.op = op → op = 4 → badDesc (s.chanRole c) true d = false →
           (s.fld F.DMA_CH_RESIDUE_LINKS c < 63 → ∃ t, o = .next t ∧ DescEnds s t c d 0 0 0 (d.host / 32 * 32)
             ∧ t.fld F.DMA_CH_RESIDUE_LINKS c = s.fld F.DMA_CH_RESIDUE_LINKS c + 1)
           ∧ (s.fld F.DMA_CH_RESIDUE_LINKS c = 63 → ∃ t, o = .next t ∧ t.chanState c = 4 ∧ t.fld F.DMA_CH_STATUS_LAST_STATUS c = 3
             ∧ t.flag F.DMA_CH_STATUS_LOOP c = true ∧ t.head c = s.head c ∧ t.rd R.DMA_CH_COUNT c = s.rd R.DMA_CH_COUNT c
             ∧ t.hostBytes (d.at_ + 24) 4 = some (w32 (3 * 2 ^ 24)) ∧ t.hostBytes d.at_ 4 = some (w32 (d.w 0 % 2 ^ 31))))))
  ∧ (∀ (s : State) (c : Nat) (d : DmaDesc), s.mayTake c = true → EmptyHand s c → s.chanRole c = 0 → s.descWords (s.head c) = some d → d.own = true →
     badDesc 0 true d = false → d.op = 2 → d.host + d.len ≤ d.at_ ∨ d.at_ + 32 ≤ d.host →
     ∃ u t, exec (.dmaFill c true) s = .next t ∧ DescEnds u t c d 0 0 d.len (s.nextDesc c d.at_)
       ∧ t.hostBytes d.host d.len = some (fillBytes (d.dev % 2 ^ 64) d.host d.len)
       ∧ (∀ a, a < d.host ∨ d.host + d.len ≤ a → a < d.at_ ∨ d.at_ + 32 ≤ a → Tab.get none t.host a = Tab.get none s.host a)
       ∧ u.rd R.DMA_CH_CFG c = s.rd R.DMA_CH_CFG c ∧ u.rd R.DMA_CH_COUNT c = s.rd R.DMA_CH_COUNT c ∧ u.msix = s.msix
       ∧ t.fld F.DMA_CH_RESIDUE_RESIDUE c = 0)
  ∧ (∀ (s : State) (wr unc : Bool),
     (s.dmaUp = false ∨ (∀ j, j < 28 → s.wants j wr = false) → exec (.dmaBurstGrant wr unc) s = .next s)
     ∧ ∀ c x d n L v, s.dmaUp = true → c < 28 → s.wants c wr = true → L = Tab.get 0 s.dma.lastGrant (4 * b2n wr + s.fld F.DMA_CH_CFG_PRIORITY c) →
       (∀ j, j < 28 → s.wants j wr = true → s.fld F.DMA_CH_CFG_PRIORITY c < s.fld F.DMA_CH_CFG_PRIORITY j
         ∨ (s.fld F.DMA_CH_CFG_PRIORITY c = s.fld F.DMA_CH_CFG_PRIORITY j ∧ (c + 28 - L % 28) % 28 ≤ (j + 28 - L % 28) % 28)) →
       x = s.chan c → x.cur = some d → n = s.burstLen c d x.asked →
       v = { s with dma := { s.dma with lastGrant := Tab.set 0 s.dma.lastGrant (4 * b2n wr + s.fld F.DMA_CH_CFG_PRIORITY c) (c + 1) } } →
       (wr = false → exec (.dmaBurstGrant wr unc) s
         = .next (v.putChan c { x with asked := x.asked + n, bursts := x.bursts ++ [{ start := x.asked, len := n }] }))
       ∧ (wr = true → s.chanRole c = 0 → x.bursts = [] → x.good = x.asked → ∀ u,
         (d.op = 2 → u = (v.hostWrite (d.host + x.asked) (fillBytes (d.dev % 2 ^ 64) (d.host + x.asked) n)).putChan c
             { x with asked := x.asked + n, good := x.good + n } →
           (x.asked + n < d.len → exec (.dmaBurstGrant wr unc) s = .next (u.setF F.DMA_CH_RESIDUE_RESIDUE c (d.len - (x.good + n))))
           ∧ (x.asked + n = d.len → ∃ t, exec (.dmaBurstGrant wr unc) s = .next t ∧ DescEnds u t c d 0 0 d.len (s.nextDesc c d.at_)))
         ∧ (d.op = 0 → unc = false → u = ((v.readBytes (2 + c) (d.dev + x.asked) n).1.hostWrite (d.host + x.asked)
               (v.readBytes (2 + c) (d.dev + x.asked) n).2).putChan c { x with asked := x.asked + n, good := x.good + n } →
           (x.asked + n < d.len → exec (.dmaBurstGrant wr unc) s = .next (u.setF F.DMA_CH_RESIDUE_RESIDUE c (d.len - (x.good + n))))
           ∧ (x.asked + n = d.len → ∃ t, exec (.dmaBurstGrant wr unc) s = .next t ∧ DescEnds u t c d 0 0 d.len (s.nextDesc c d.at_)))
         ∧ (d.op = 0 → unc = true → u = ((v.readBytes (2 + c) (d.dev + x.asked) n).1.uncorr ((d.dev + x.asked) / 4 * 4)) →
           ∃ t, exec (.dmaBurstGrant wr unc) s = .next t ∧ DescEnds u t c d 6 (d.len - x.good) x.good (s.nextDesc c d.at_))))
  ∧ (∀ (s : State) (c : Nat) (x : Chan), c < 28 → x = s.chan c → s.hostReach = true →
     (∀ k n unc d b bs p, x.cur = some d → x.bursts[k]? = some b → 0 < n → n ≤ b.len - b.got → p = b.start + b.got → s.chanRole c = 0 → x.diff = none →
       bs = (if b.got + n = b.len then x.bursts.eraseIdx k else x.bursts.set k { b with got := b.got + n }) →
       (∀ data u, d.op = 1 → s.hostBytes (d.host + p) n = some data → u = (s.rawBytes (d.dev + p) data).putChan c { x with bursts := bs, good := x.good + n } →
         (bs ≠ [] → exec (.dmaReadCompletion c k n false unc) s = .next (u.setF F.DMA_CH_RESIDUE_RESIDUE c (d.len - (x.good + n))))
         ∧ (bs = [] → x.bad = none → x.good + n = d.len → ∃ t, exec (.dmaReadCompletion c k n false unc) s = .next t
           ∧ DescEnds u t c d 0 0 d.len (s.nextDesc c d.at_))
         ∧ ∀ st q, bs = [] → x.bad = some (st, q) → st < 256 → ∃ t, exec (.dmaReadCompletion c k n false unc) s = .next t
           ∧ DescEnds u t c d st (d.len - (x.good + n)) (x.good + n) (s.nextDesc c d.at_))
       ∧ (∀ data e u, d.op = 3 → unc = false → x.bad = none → bs = [] → s.hostBytes (d.host + p) n = some data → e = s.readBytes (2 + c) (d.dev + p) n →
         u = e.1.putChan c { x with bursts := [], good := x.good + n } →
         (firstDiff data e.2 = none → x.good + n = d.len → ∃ t, exec (.dmaReadCompletion c k n false unc) s = .next t
           ∧ DescEnds u t c d 0 0 d.len (s.nextDesc c d.at_))
         ∧ ∀ i, firstDiff data e.2 = some i → ∃ t, exec (.dmaReadCompletion c k n false unc) s = .next t
           ∧ DescEnds u t c d 1 (p + i) (x.good + n) (s.nextDesc c d.at_))
       ∧ (x.bad = none → ∀ u, u = (s.wr64 R.DMA_CH_ERR_ADDR_LO R.DMA_CH_ERR_ADDR_HI c (d.host + p)).putChan c { x with bursts := bs, bad := some (5, p) } →
         (bs ≠ [] → exec (.dmaReadCompletion c k n true unc) s = .next (u.setF F.DMA_CH_RESIDUE_RESIDUE c (d.len - x.good)))
         ∧ (bs = [] → ∃ t, exec (.dmaReadCompletion c k n true unc) s = .next t
           ∧ DescEnds u t c d 5 (d.len - x.good) x.good (s.nextDesc c d.at_)
           ∧ t.rd64 R.DMA_CH_ERR_ADDR_LO R.DMA_CH_ERR_ADDR_HI c = (d.host + p) % 2 ^ 64)))
     ∧ (∀ k n fails unc, x.cur = none → 0 < n → (0 < x.late → exec (.dmaReadCompletion c k n fails unc) s
         = .next ((s.putChan c { x with late := x.late - n }).chanStat c 5 1))
       ∧ (x.late = 0 → exec (.dmaReadCompletion c k n fails unc) s = .next s))
     ∧ (x.bursts = [] → exec (.dmaCplTimeout c) s = .next s)
     ∧ ∀ d u, x.cur = some d → x.bursts ≠ [] → x.bad = none → x.diff = none → s.chanRole c = 0 →
       u = s.putChan c { x with bursts := [], late := x.late + (x.bursts.map fun b => b.len - b.got).sum } →
       ∃ t, exec (.dmaCplTimeout c) s = .next t ∧ DescEnds u t c d 4 (d.len - x.good) x.good (s.nextDesc c d.at_) ∧ t.chanState c = 4)

/-- PUNT_FRAME_DELIVER: the head of the channel's lowest-numbered host queue with a frame is discarded if bad, waits for descriptors, is dropped where 16 cannot
hold it, and is else written to the host with its first descriptor's fields.

INJECT_FRAME_START: nothing starts without a whole frame or tokens, Standby holds the channel, and a frame that starts takes its bytes in tokens, is counted by
its fate, and has its one descriptor written back with OK or DROPPED. -/
def Obligations.PuntedAndInjectedFrames : Prop :=
  (∀ (s : State) (c q k : Nat) (tail : List Nat) (v : Desc) (x : Chan), c < 28 → s.dmaUp = true → s.chanRole c = 1 → s.chanState c = 2 → x = s.chan c →
     s.puntQueue c = some q → Tab.get [] s.hostqs q = k :: tail → s.desc? k = some v →
     (v.bad = true → exec (.puntFrameDeliver c) s = .next (s.popHostq q k v) ∧ Tab.get [] (s.popHostq q k v).hostqs q = tail)
     ∧ (v.bad = false → takeFor v.length x.ahead = none →
       ((x.ahead.filter fun d => d.op == 0).length < 16 → exec (.puntFrameDeliver c) s = .next s)
       ∧ (16 ≤ (x.ahead.filter fun d => d.op == 0).length → exec (.puntFrameDeliver c) s = .next ((s.popHostq q k v).chanStat c 3 1)))
     ∧ ∀ d, v.bad = false → x.ahead = [d] → d.op = 0 → v.length ≤ d.len → d.len < 2 ^ 24 → (s.descBytes v).length = v.length →
       (d.host + v.length ≤ d.at_ ∨ d.at_ + 32 ≤ d.host) → ∃ t, exec (.puntFrameDeliver c) s = .next t
       ∧ Tab.get [] t.hostqs q = tail ∧ (t.chan c).ahead = []
       ∧ t.hostBytes d.host v.length = some (s.descBytes v)
       ∧ t.hostBytes d.at_ 32 = some (w32 (putBits (putBits (d.w 0) 26 1 0) 0 16 (v.reason % 64 + 64 * q + 4096 + 8192 * b2n v.stale) % 2 ^ 31)
           ++ w32 (d.w 1) ++ w32 (d.w 2) ++ w32 (d.w 3) ++ w32 (stampOf v.rxStamp)
           ++ w32 (v.rxStamp % 65536 + 65536 * (v.ingress % 1024) + 2 ^ 26 * (v.cls % 16)) ++ w32 (d.len - v.length) ++ w32 s.stamp)
       ∧ (∀ a, (a < d.host ∨ d.host + v.length ≤ a) → (a < d.at_ ∨ d.at_ + 32 ≤ a) → Tab.get none t.host a = Tab.get none s.host a)
       ∧ t.rd64 R.DMA_CH_STAT_LO R.DMA_CH_STAT_HI (2 + 8 * c) = min (s.rd64 R.DMA_CH_STAT_LO R.DMA_CH_STAT_HI (2 + 8 * c) + 1) (2 ^ 64 - 1)
       ∧ ∀ j, j ≠ q → Tab.get [] t.hostqs j = Tab.get [] s.hostqs j)
  ∧ (∀ (s : State) (c w0 w4 w5 : Nat) (x : Chan), c < 28 → s.dmaUp = true → x = s.chan c → x.frameMeta = some (w0, w4, w5) →
     (x.whole = false → exec (.injectFrameStart c) s = .next s)
     ∧ (x.whole = true → s.chanState c = 2 ∨ s.chanState c = 5 →
       (s.mode = 2 → exec (.injectFrameStart c) s = .next (s.setChanState c 5))
       ∧ (s.mode ≠ 2 → s.injTokens c < 0 → exec (.injectFrameStart c) s = .next s)
       ∧ ∀ v r st d, s.mode ≠ 2 → 0 ≤ s.injTokens c →
         v = { s with dma := { s.dma with injTok := Tab.set none s.dma.injTok c (some ⟨s.injTokens c - ((x.frame.length + 4) * injUnit : Nat), s.tim.flow⟩) } } →
         r = v.injectFrame c w0 w4 w5 x.frame → st = (if r.2 then 0 else 8) → x.frameDescs = [d] → d.op = 1 → ∃ t, exec (.injectFrameStart c) s = .next t
         ∧ (t.chan c).frame = [] ∧ (t.chan c).frameMeta = none ∧ (t.chan c).frameDescs = [] ∧ (t.chan c).whole = false
         ∧ t.hostBytes d.at_ 32 = some ((w32 (d.w 0 % 2 ^ 31) ++ (List.range 5).flatMap fun k => w32 (d.w (k + 1)))
             ++ w32 (st * 2 ^ 24 + (if r.2 then 0 else d.len) % 2 ^ 24) ++ w32 s.stamp)
         ∧ (∀ a, a < d.at_ ∨ d.at_ + 32 ≤ a → Tab.get none t.host a = Tab.get none s.host a)
         ∧ t.fld F.DMA_CH_STATUS_LAST_STATUS c = st
         ∧ Tab.get none t.dma.injTok c = some ⟨s.injTokens c - ((x.frame.length + 4) * injUnit : Nat), s.tim.flow⟩
         ∧ (r.2 = true → t.rd64 R.DMA_CH_STAT_LO R.DMA_CH_STAT_HI (2 + 8 * c) = min (s.rd64 R.DMA_CH_STAT_LO R.DMA_CH_STAT_HI (2 + 8 * c) + 1) (2 ^ 64 - 1))
         ∧ (r.2 = false → t.rd64 R.DMA_CH_STAT_LO R.DMA_CH_STAT_HI (3 + 8 * c) = min (s.rd64 R.DMA_CH_STAT_LO R.DMA_CH_STAT_HI (3 + 8 * c) + 1) (2 ^ 64 - 1))
         ∧ (bit w0 0 = true → bit 0x30 s.mode = false → r.2 = false) ∧ (s.portConfigured (bits w5 0 10) = false → r.2 = false)))

/-! ### Tallies, books and marginalia -/

/-- TALLY_SELECT writes the selection of the counters it names, and clears those whose EVENT or LEVEL changes and those it is told to; BOOK_CONFIG,
MARGINALIA_CONFIG and MARGINALIA_PORT write their fields, a new SAMPLE_N restarting its count; MARGINALIA_RULES writes its range of selection bits and no other.

TALLY_STORE_UPDATE adds to its counter, saturating, and keeps the book's shadow by the epochs; an uncorrectable counter reads as saturated from then on.
MIRROR_REFRESH brings one counter of the unit in turn to the mirror, and the ring goes on to the next. -/
def Obligations.TalliesAreKept : Prop :=
  (∀ (s : State) (m : Nat) (r : Req),
     (∀ l k0, Ready s m C.TALLY_SELECT s.tallySelectChecks r →
       l = (if r.on A.TALLY_SELECT_ALL then List.range (tlyUnitCounters r.index) else [r.arg A.TALLY_SELECT_COUNTER]) →
       k0 = r.arg A.TALLY_SELECT_COUNTER % 48 + 48 * r.index → ∃ u t, exec (.tallySelect m) s = .next t
       ∧ Wrote s u (l.flatMap fun k => [(F.TLY_CNT_SEL_EVENT, k + 48 * r.index, r.arg A.TALLY_SELECT_EVENT),
           (F.TLY_CNT_SEL_LEVEL, k + 48 * r.index, r.arg A.TALLY_SELECT_LEVEL), (F.TLY_CNT_SEL_ENABLE, k + 48 * r.index, r.arg A.TALLY_SELECT_ENABLE)]
         ++ (if s.fld F.TLY_CNT_SEL_EVENT (k + 48 * r.index) ≠ r.arg A.TALLY_SELECT_EVENT ∨ s.fld F.TLY_CNT_SEL_LEVEL (k + 48 * r.index) ≠ r.arg A.TALLY_SELECT_LEVEL
               ∨ r.on A.TALLY_SELECT_CLEAR = true
             then [(⟨R.TLY_CNT_LO, 0, 32⟩, k + 48 * r.index, 0), (⟨R.TLY_CNT_HI, 0, 32⟩, k + 48 * r.index, 0), (F.TLY_CNT_SEL_SAT, k + 48 * r.index, 0)] else []))
       ∧ Answered u t m r 0 0 (respParams C.TALLY_SELECT r 0 (w32 (u.rd R.TLY_CNT_SEL k0) ++ w32 (u.rd R.TLY_CNT_LO k0) ++ w32 (u.rd R.TLY_CNT_HI k0 % 65536))))
     ∧ (Ready s m C.BOOK_CONFIG s.bookConfigChecks r → ∃ u t, exec (.bookConfig m) s = .next t
       ∧ Wrote s u [(F.TLY_BOOK_CFG_SECTIONS, 0, r.arg A.BOOK_CONFIG_SECTIONS), (F.TLY_BOOK_BUF_LO_ADDR, 0, r.arg A.BOOK_CONFIG_BUF0_LO),
           (F.TLY_BOOK_BUF_HI_ADDR, 0, r.arg A.BOOK_CONFIG_BUF0_HI), (F.TLY_BOOK_BUF_LO_ADDR, 1, r.arg A.BOOK_CONFIG_BUF1_LO),
           (F.TLY_BOOK_BUF_HI_ADDR, 1, r.arg A.BOOK_CONFIG_BUF1_HI)]
       ∧ Answered u t m r 0 0 (respParams C.BOOK_CONFIG r 0 (w32 (u.rd R.TLY_BOOK_CFG 0))))
     ∧ (Ready s m C.MARGINALIA_CONFIG s.marginaliaConfigChecks r → ∃ u t, exec (.marginaliaConfig m) s = .next t
       ∧ Wrote s u [(F.MRG_CFG_ALL, 0, r.arg A.MARGINALIA_CONFIG_ALL), (F.MRG_CFG_IOAM_SLOT, 0, r.arg A.MARGINALIA_CONFIG_IOAM_SLOT),
           (F.MRG_CFG_IOAM_NS, 0, r.arg A.MARGINALIA_CONFIG_IOAM_NS), (⟨R.MRG_NODE_ID, 0, 32⟩, 0, r.arg A.MARGINALIA_CONFIG_NODE_ID)]
       ∧ Answered u t m r 0 0 (respParams C.MARGINALIA_CONFIG r 0 (w32 (u.rd R.MRG_CFG 0))))
     ∧ (∀ p, p = r.index → Ready s m C.MARGINALIA_PORT s.marginaliaPortChecks r → ∃ u t, exec (.marginaliaPort m) s = .next t
       ∧ RegsBecome s u [(F.MRG_PORT_CFG_SEL_IN, p, r.arg A.MARGINALIA_PORT_SEL_IN), (F.MRG_PORT_CFG_SEL_OUT, p, r.arg A.MARGINALIA_PORT_SEL_OUT),
           (F.MRG_PORT_CFG_RECOGNISE, p, r.arg A.MARGINALIA_PORT_RECOGNISE), (F.MRG_PORT_CFG_STRIP, p, r.arg A.MARGINALIA_PORT_STRIP),
           (F.MRG_PORT_CFG_FORM, p, r.arg A.MARGINALIA_PORT_FORM), (F.MRG_PORT_CFG_SAMPLE_N, p, r.arg A.MARGINALIA_PORT_SAMPLE_N)]
       ∧ u = { s with regs := u.regs, cls := { s.cls with sampled := u.cls.sampled } }
       ∧ (s.fld F.MRG_PORT_CFG_SAMPLE_N p = r.arg A.MARGINALIA_PORT_SAMPLE_N → u.cls.sampled = s.cls.sampled)
       ∧ (s.fld F.MRG_PORT_CFG_SAMPLE_N p ≠ r.arg A.MARGINALIA_PORT_SAMPLE_N → u.cls.sampled = Tab.set 0 s.cls.sampled p 0)
       ∧ Answered u t m r 0 0 (respParams C.MARGINALIA_PORT r 0 (w32 (u.rd R.MRG_PORT_CFG p))))
     ∧ (∀ d, d = r.arg A.MARGINALIA_RULES_DIE → Ready s m C.MARGINALIA_RULES s.marginaliaRulesChecks r → ∃ u t, exec (.marginaliaRules m) s = .next t
       ∧ u = { s with regs := u.regs } ∧ (∀ q j, q.key j < 0x48020000 ∨ 0x48024000 ≤ q.key j → u.rd q j = s.rd q j)
       ∧ (∀ e j, e < 2 → j < 65536 → bit (u.rd R.MRG_RULE_SEL (2048 * e + j / 32)) (j % 32)
         = if e = d ∧ r.arg A.MARGINALIA_RULES_FIRST ≤ j ∧ j < r.arg A.MARGINALIA_RULES_FIRST + r.arg A.MARGINALIA_RULES_COUNT then r.on A.MARGINALIA_RULES_SET
           else bit (s.rd R.MRG_RULE_SEL (2048 * e + j / 32)) (j % 32))
       ∧ Answered u t m r 0 0 (respParams C.MARGINALIA_RULES r 0
           (w32 (idxs 65536 fun j => bit (u.rd R.MRG_RULE_SEL (2048 * d + j / 32)) (j % 32)).length))))
  ∧ ((∀ (s : State) (k : Nat) (unc : Bool), s.tly.updates[k]? = none → exec (.tallyStoreUpdate k unc) s = .next s)
   ∧ (∀ (s : State) (k : Nat) (unc : Bool) (x : TallyUpd) (v z : Nat), s.tly.updates[k]? = some x →
       v = (if unc then 2 ^ 64 - 1 else s.arrNat (storeAt x.off) 8) → z = s.arrNat (shadowAt x.off) 8 → ∃ t, exec (.tallyStoreUpdate k unc) s = .next t
       ∧ t.arrNat (storeAt x.off) 8 = min (v + x.n) (2 ^ 64 - 1)
       ∧ (s.tly.book = none → t.tly = { s.tly with updates := s.tly.updates.eraseIdx k } ∧ t.arrNat (shadowAt x.off) 8 = z)
       ∧ (∀ b, s.tly.book = some b →
         (b.epoch ≤ x.epoch → t.arrNat (shadowAt x.off) 8 = (if Tab.get false b.taken x.off then z else v)
           ∧ ∃ c, t.tly.book = some c ∧ Tab.get false c.taken x.off = true ∧ ∀ o, o ≠ x.off → Tab.get false c.taken o = Tab.get false b.taken o)
         ∧ (x.epoch < b.epoch → t.tly.book = some b
           ∧ t.arrNat (shadowAt x.off) 8 = (if Tab.get false b.taken x.off then min (z + x.n) (2 ^ 64 - 1) else z)))
       ∧ t.tly.updates = s.tly.updates.eraseIdx k
       ∧ (∀ a, (a < storeAt x.off ∨ storeAt x.off + 8 ≤ a) → (a < shadowAt x.off ∨ shadowAt x.off + 8 ≤ a) → Tab.get 0 t.arrays a = Tab.get 0 s.arrays a)
       ∧ (unc = false → t.regs = s.regs ∧ t.clh = s.clh)
       ∧ (unc = true → Wrote s { s with regs := t.regs } [(F.TLY_STATUS_STORE_ERR, 0, 1),
           (F.TLY_STATUS_STORE_ERR_COUNT, 0, satBits 8 (s.fld F.TLY_STATUS_STORE_ERR_COUNT 0 + 1))] ∧ t.clh = (s.note E.TLY_STORE_ERROR).clh))
   ∧ ∀ (s : State) (u k : Nat), u = s.tly.ringUnit → k = s.tly.ringCnt →
     (bit 0x7C s.mode = false ∨ s.clh.inReset.contains 4 = true → exec .mirrorRefresh s = .next s)
     ∧ (bit 0x7C s.mode = true → s.clh.inReset.contains 4 = false → u < 448 → k < tlyUnitCounters u → ∃ t, exec .mirrorRefresh s = .next t
       ∧ t.arrNat (0xA7580000 + 512 * u + 8 * k) 8 = s.cnt u k + 2 ^ 62 * s.fld F.TLY_CNT_SEL_ENABLE (k + 48 * u) + 2 ^ 63 * s.fld F.TLY_CNT_SEL_SAT (k + 48 * u)
       ∧ (∀ a, a < 0xA7580000 + 512 * u + 8 * k ∨ 0xA7580000 + 512 * u + 8 * k + 8 ≤ a → Tab.get 0 t.arrays a = Tab.get 0 s.arrays a)
       ∧ (k + 1 < tlyUnitCounters u → t.tly = { s.tly with ringCnt := k + 1 } ∧ t.regs = s.regs)
       ∧ (k + 1 = tlyUnitCounters u → t.tly.ringCnt = 0 ∧ t.tly.ringUnit < 448 ∧ 0 < tlyUnitCounters t.tly.ringUnit
         ∧ ((u < t.tly.ringUnit ∧ (∀ w, u < w → w < t.tly.ringUnit → tlyUnitCounters w = 0) ∧ t.regs = s.regs)
           ∨ (t.tly.ringUnit ≤ u ∧ (∀ w, u < w → w < 448 → tlyUnitCounters w = 0) ∧ (∀ w, w < t.tly.ringUnit → tlyUnitCounters w = 0)
             ∧ t.fld F.TLY_STATUS_MIRROR_PASSES 0 = (s.fld F.TLY_STATUS_MIRROR_PASSES 0 + 1) % 65536)))))

/-- BOOK_SCHEDULE opens a book in the free slot with the next number; BOOK_CANCEL frees the slot of an open book and knows no other.

BOOK_CAPTURE takes the open book whose T comes first once T has come, and every unit's registers are its shadows; while the shadows hold an earlier book, it is
missed, and only its header is written. BOOK_MARKERS_DONE waits for the updates from before the capture.

BOOK_CLOSE writes the header, every enabled section at its offset with the captured values, the SEQ word, and nothing else of the host's memory, and frees the
slot and the shadows. -/
def Obligations.BooksAreTaken : Prop :=
  (∀ (s : State) (m : Nat) (r : Req),
     (∀ b q, Ready s m C.BOOK_SCHEDULE s.bookScheduleChecks r → b = (if 0 ∈ s.tly.booked then 1 else 0) → q = s.rd R.TLY_BOOK_NEXT_SEQ 0 →
       ∃ u t, exec (.bookSchedule m) s = .next t ∧ s.tly.booked.length < 2
       ∧ RegsBecome s u [(F.TLY_BOOK_T_SEC_LO_VALUE, b, r.arg A.BOOK_SCHEDULE_T_SEC_LO), (F.TLY_BOOK_T_SEC_HI_VALUE, b, r.arg A.BOOK_SCHEDULE_T_SEC_HI),
           (F.TLY_BOOK_T_NS_VALUE, b, r.arg A.BOOK_SCHEDULE_T_NS), (F.TLY_BOOK_SEQ_VALUE, b, q), (F.TLY_BOOK_NEXT_SEQ_SEQ, 0, q + 1),
           (F.TLY_BOOK_STATUS_OPEN, 0, s.tly.booked.length + 1), (F.TLY_BOOK_STATUS_DRAINING, 0, b2n s.tly.book.isSome)]
       ∧ u = { s with regs := u.regs, tly := { s.tly with booked := s.tly.booked ++ [b] } }
       ∧ Answered u t m r 0 0 (respParams C.BOOK_SCHEDULE r 0 (w32 q ++ w32 (s.tly.booked.length + 1))))
     ∧ (Ready s m C.BOOK_CANCEL s.bookCancelChecks r →
       (s.slotOf (r.arg A.BOOK_CANCEL_SEQ) = none → ∃ t, exec (.bookCancel m) s = .next t ∧ Answered s t m r 0x0302 0 [])
       ∧ ∀ b, s.slotOf (r.arg A.BOOK_CANCEL_SEQ) = some b → ∃ u t, exec (.bookCancel m) s = .next t
         ∧ RegsBecome s u [(F.TLY_BOOK_T_SEC_LO_VALUE, b, 0), (F.TLY_BOOK_T_SEC_HI_VALUE, b, 0), (F.TLY_BOOK_T_NS_VALUE, b, 0), (F.TLY_BOOK_SEQ_VALUE, b, 0),
           (F.TLY_BOOK_STATUS_OPEN, 0, (s.tly.booked.filter (· ≠ b)).length), (F.TLY_BOOK_STATUS_DRAINING, 0, b2n s.tly.book.isSome)]
         ∧ u = { s with regs := u.regs, tly := { s.tly with booked := s.tly.booked.filter (· ≠ b), passed := s.tly.passed.filter (· ≠ b) } }
         ∧ Answered u t m r 0 0 (respParams C.BOOK_CANCEL r 0 (w32 (s.tly.booked.filter (· ≠ b)).length))))
  ∧ (∀ (s : State),
     (bit 0x7C s.mode = false → exec .bookCapture s = .next s)
     ∧ ((∀ b ∈ s.tly.booked, (s.tly.book.map Book.slot) ≠ some b → s.netNs < s.bookTime b) → exec .bookCapture s = .next s)
     ∧ (∀ b, bit 0x7C s.mode = true → b ∈ s.tly.booked → s.bookTime b ≤ s.netNs →
       (s.tly.book = none → (∀ c ∈ s.tly.booked, c ≠ b → s.bookTime b < s.bookTime c) → ∃ t x, exec .bookCapture s = .next t
         ∧ RegsBecome s t [(F.TLY_BOOK_STATUS_OPEN, 0, s.tly.booked.length), (F.TLY_BOOK_STATUS_DRAINING, 0, 1)]
         ∧ t = { s with regs := t.regs, tly := { s.tly with epoch := s.tly.epoch + 1, book := some x } }
         ∧ x = ⟨b, s.bookSeq b, s.bookTime b, s.tly.passed.contains b, s.mode == 5, s.staleDies, s.tly.epoch + 1, false, s.regs, []⟩)
       ∧ ∀ x a, s.tly.book = some x → x.slot ≠ b → (∀ c ∈ s.tly.booked, c ≠ b → c ≠ x.slot → s.bookTime b < s.bookTime c) → a = s.bookBuf (s.bookSeq b) →
         ∃ t, exec .bookCapture s = .next t ∧ t.tly = { s.tly with booked := s.tly.booked.filter (· ≠ b), passed := s.tly.passed.filter (· ≠ b) }
           ∧ t.fld F.TLY_BOOK_STATUS_MISSED 0 = 1 ∧ t.fld F.TLY_BOOK_STATUS_MISSED_COUNT 0 = satBits 8 (s.fld F.TLY_BOOK_STATUS_MISSED_COUNT 0 + 1)
           ∧ t.clh = (s.note E.TLY_BOOK_MISSED).clh
           ∧ (s.hostReach = true → t.hostBytes a 64 = some (s.bookHeader (s.bookTime b) 1 (s.tly.passed.contains b) (s.mode == 5) s.staleDies 64
               ++ w32 (s.bookSeq b)))
           ∧ (∀ k, k < a ∨ a + 64 ≤ k → Tab.get none t.host k = Tab.get none s.host k) ∧ (s.hostReach = false → t.host = s.host))
     ∧ (s.tly.book = none → exec .bookMarkersDone s = .next s)
     ∧ ∀ x, s.tly.book = some x →
       ((∃ u ∈ s.tly.updates, u.epoch < x.epoch) → exec .bookMarkersDone s = .next s)
       ∧ ((∀ u ∈ s.tly.updates, x.epoch ≤ u.epoch) → exec .bookMarkersDone s = .next { s with tly := { s.tly with book := some { x with markers := true } } }))
  ∧ (∀ (s : State) (x : Book) (a : Nat), s.tly.book = some x → a = s.bookBuf x.seq →
     (x.markers = false ∨ s.hostReach = false → exec .bookClose s = .next s)
     ∧ (x.markers = true → s.hostReach = true → ∃ t, exec .bookClose s = .next t
       ∧ t.hostBytes a 64 = some (s.bookHeader x.time 0 x.stepped x.holdover x.stale
           (64 + (((List.range 6).filter fun k => bit (s.fld F.TLY_BOOK_CFG_SECTIONS 0) k).map sectionSize).sum) ++ w32 x.seq)
       ∧ (∀ k, k < 6 → bit (s.fld F.TLY_BOOK_CFG_SECTIONS 0) k = true → t.hostBytes (a + sectionAt k) (sectionSize k) = some (s.sectionBytes x k))
       ∧ (∀ n, n < a ∨ a + 64 ≤ n → (∀ k, k < 6 → bit (s.fld F.TLY_BOOK_CFG_SECTIONS 0) k = true → n < a + sectionAt k ∨ a + sectionAt k + sectionSize k ≤ n) →
         Tab.get none t.host n = Tab.get none s.host n)
       ∧ t.tly = { s.tly with book := none, booked := s.tly.booked.filter (· ≠ x.slot), passed := s.tly.passed.filter (· ≠ x.slot) }
       ∧ RegsBecome s t [(F.TLY_BOOK_T_SEC_LO_VALUE, x.slot, 0), (F.TLY_BOOK_T_SEC_HI_VALUE, x.slot, 0), (F.TLY_BOOK_T_NS_VALUE, x.slot, 0),
           (F.TLY_BOOK_SEQ_VALUE, x.slot, 0), (F.TLY_BOOK_STATUS_OPEN, 0, (s.tly.booked.filter (· ≠ x.slot)).length), (F.TLY_BOOK_STATUS_DRAINING, 0, 0)]
       ∧ t.clh = (s.note E.TLY_BOOK_CLOSED).clh))

/-- A book holds, for every counter of the tally store, exactly the updates from before its capture, in whatever order the updates arrive. -/
def Obligations.ABookHoldsWhatPrecededIt : Prop :=
  ∀ (s t : State) (ks : List Nat) (b : Book) (off : Nat), s.tly.book = some b → (∀ o, Tab.get false b.taken o = false) →
    (∀ x ∈ s.tly.updates, x.off % 8 = 0 ∧ x.off < 0x2C0000) → off % 8 = 0 → off < 0x2C0000 → Drains ks s t → t.tly.updates = [] →
    ∃ c, t.tly.book = some c
      ∧ leNat (t.booked64 c off) = min (s.arrNat (storeAt off) 8 + ((s.tly.updates.filter fun x => x.off == off && decide (x.epoch < b.epoch)).map TallyUpd.n).sum)
          (2 ^ 64 - 1)
      ∧ t.arrNat (storeAt off) 8 = min (s.arrNat (storeAt off) 8 + ((s.tly.updates.filter fun x => x.off == off).map TallyUpd.n).sum) (2 ^ 64 - 1)

/-! ### The register window -/

/-- REGISTER_WRITE: what is ignored and how it is counted or recorded, the w1c bits of GLB_WINDOW_STATUS that need no grant, the rw bits of a granted unit's plain
registers, and the arrays, of which the active parser bank and the active gate bank take no write.

RAW_WRITE: a word of one entry where the window's owner is granted, nothing where it is not or its check word cannot be read; EVT_PEND_WRITE clears the bits
written 1 and sends the group's vector again while an enabled bit is pending; TALLY_CNT_CLEAR of a granted host clears one block counter.

The reads of the window: a LO word latches its HI for the host's next read of it and nothing else changes; rc fields of a word read are cleared; a raw read
returns the stored word, and records an uncorrectable error; a unit held in reset shows its reset values. -/
def Obligations.TheRegisterWindow : Prop :=
  (∀ (s : State) (a n v : Nat),
     (s.bar2Up = false ∨ 2 ^ 32 ≤ a → exec (.registerWrite a n v) s = .next s)
     ∧ (s.bar2Up = true → a < 2 ^ 32 → n ≠ 4 ∨ a % 4 ≠ 0 → ∃ u, Wrote s u [(F.GLB_WINDOW_STATUS_SIZE_ERR, 0, 1),
         (F.GLB_WINDOW_STATUS_SIZE_ERR_COUNT, 0, satBits 8 (s.fld F.GLB_WINDOW_STATUS_SIZE_ERR_COUNT 0 + 1)), (F.GLB_WINDOW_ERR_ADDR_OFFSET, 0, a)]
       ∧ exec (.registerWrite a n v) s = .next (u.note E.GLB_WINDOW_SIZE_ERR))
     ∧ (s.bar2Up = true → a < 0x80000000 → a % 4 = 0 → n = 4 →
       (a = 0x40 → ∃ t, exec (.registerWrite a n v) s = .next t
         ∧ Wrote s t [(⟨R.GLB_WINDOW_STATUS, 0, 32⟩, 0, s.rd R.GLB_WINDOW_STATUS 0 ^^^ (s.rd R.GLB_WINDOW_STATUS 0 &&& 3 &&& v))])
       ∧ (a ≠ 0x40 → (∀ r i, findReg a = some (r, i) → r.base ≠ R.CLH_EVT_PEND_LO.base ∧ r.base ≠ R.CLH_EVT_PEND_HI.base) →
         (∀ u, unitOfOffset a = some u → ¬HostMayWrite s u) → ∃ u, Wrote s u [(F.TLR_UNGRANTED_WRITES_COUNT, 0,
             satBits 32 (s.fld F.TLR_UNGRANTED_WRITES_COUNT 0 + 1)), (F.TLR_UNGRANTED_LAST_OFFSET, 0, a)]
           ∧ exec (.registerWrite a n v) s = .next (u.note E.TLR_UNGRANTED_WRITE))
       ∧ ∀ u, unitOfOffset a = some u → HostMayWrite s u →
         (∀ r i, findReg a = some (r, i) → r ∈ [R.MRG_CFG, R.MRG_NODE_ID, R.MRG_RULE_SEL, R.TLY_BOOK_CFG, R.DMA_GLOBAL, R.CLS_PORT_CFG, R.LDG_PORT_CFG,
             R.TIM_PORT_CFG] → ∃ t, exec (.registerWrite a n v) s = .next t ∧ t = { s with regs := t.regs }
           ∧ (∀ b, b < 32 → bit (t.rd r i) b = if bit r.rw b then bit v b else bit (s.rd r i) b) ∧ (∀ q j, q.key j ≠ a → t.rd q j = s.rd q j))
         ∧ (findReg a = none →
           (flatPlace a = true → bankPlace a = none → exec (.registerWrite a n v) s = .next (s.putArr a (w32 v)))
           ∧ (∀ i b, bankPlace a = some (i, b) →
             (b = s.activeBank i → ∃ t, exec (.registerWrite a n v) s = .next t
               ∧ Wrote s t [(F.PRS_PIPE_STATUS_ACTIVE_WRITE_DROPS, i, satBits F.PRS_PIPE_STATUS_ACTIVE_WRITE_DROPS.wd
                 (s.fld F.PRS_PIPE_STATUS_ACTIVE_WRITE_DROPS i + 1))])
             ∧ (b ≠ s.activeBank i → ∃ t, exec (.registerWrite a n v) s = .next t ∧ t.arrays = (s.putArr a (w32 v)).arrays ∧ t.rd R.PRS_TABLE_ID (b + 2 * i) = 0
               ∧ s.activeBank i = t.activeBank i ∧ ∀ q j, q.key j ≠ R.PRS_TABLE_ID.key (b + 2 * i) → t.rd q j = s.rd q j))
           ∧ (∀ p b, bankPlace a = none → flatPlace a = false → gatePlace a = some (p, b) →
             (s.flag F.TIM_GATE_CFG_GATE_EN p = true → b = s.gateBank p → ∃ t, exec (.registerWrite a n v) s = .next t
               ∧ Wrote s t [(F.TIM_GATE_STATUS_ACTIVE_WRITE_DROPS, p, satBits F.TIM_GATE_STATUS_ACTIVE_WRITE_DROPS.wd
                 (s.fld F.TIM_GATE_STATUS_ACTIVE_WRITE_DROPS p + 1))])
             ∧ (s.flag F.TIM_GATE_CFG_GATE_EN p = false ∨ b ≠ s.gateBank p → exec (.registerWrite a n v) s = .next (s.putArr a (w32 v))))
           ∧ (bankPlace a = none → flatPlace a = false → gatePlace a = none → meterPlace a = none → ∃ w, Wrote s w [(F.TLR_UNGRANTED_WRITES_COUNT, 0,
               satBits 32 (s.fld F.TLR_UNGRANTED_WRITES_COUNT 0 + 1)), (F.TLR_UNGRANTED_LAST_OFFSET, 0, a)]
             ∧ exec (.registerWrite a n v) s = .next (w.note E.TLR_UNGRANTED_WRITE)))))
  ∧ ((∀ (s : State) (a v w : Nat) (unc : Bool), w = v % 2 ^ 32 →
     (a < 0x80000000 → exec (.rawWrite a 4 v unc) s = .next s)
     ∧ (0x80000000 ≤ a → a < 2 ^ 32 → a % 4 = 0 → s.bar2Up = true →
       (s.rawOpen a = false → ∃ u, Wrote s u [(F.TLR_UNGRANTED_WRITES_COUNT, 0, satBits 32 (s.fld F.TLR_UNGRANTED_WRITES_COUNT 0 + 1)),
           (F.TLR_UNGRANTED_LAST_OFFSET, 0, a)] ∧ exec (.rawWrite a 4 v unc) s = .next (u.note E.TLR_UNGRANTED_WRITE))
       ∧ (s.rawOpen a = true → unc = true → ∃ u, Wrote s u [(F.GLB_WINDOW_STATUS_UNCORR, 0, 1),
           (F.GLB_WINDOW_STATUS_UNCORR_COUNT, 0, satBits 8 (s.fld F.GLB_WINDOW_STATUS_UNCORR_COUNT 0 + 1)), (F.GLB_WINDOW_ERR_ADDR_OFFSET, 0, a)]
         ∧ exec (.rawWrite a 4 v unc) s = .next (u.note E.GLB_WINDOW_UNCORR))
       ∧ (s.rawOpen a = true → unc = false →
         (a < 0x8C000000 → ∃ t f, exec (.rawWrite a 4 v unc) s = .next t ∧ f = (a - 0x80000000) / 128 ∧ t.folio f = patch (s.folio f) (a % 128) (w32 w)
           ∧ (∀ g, g ≠ f → t.folio g = s.folio g) ∧ t.regs = s.regs ∧ t.arrays = s.arrays ∧ t.vlt.links = s.vlt.links ∧ t.vlt.descs = s.vlt.descs)
         ∧ (0x90000000 ≤ a ∧ a < 0x98000000 ∨ 0xA0000000 ≤ a ∧ a < 0xA1000000 ∨ 0xA6000000 ≤ a ∧ a < 0xA7800000 → ∃ t, exec (.rawWrite a 4 v unc) s = .next t
           ∧ t = { s with arrays := t.arrays } ∧ t.arrNat a 4 = w ∧ ∀ b, b < a ∨ a + 4 ≤ b → Tab.get 0 t.arrays b = Tab.get 0 s.arrays b)
         ∧ (0xA4000000 ≤ a → a < 0xA6000000 → a % 0x1000000 < 0x600000 → ∃ t f, exec (.rawWrite a 4 v unc) s = .next t
           ∧ f = dieFolios * ((a - 0xA4000000) / 0x1000000) + a % 0x1000000 / 8
           ∧ (a % 8 = 0 → (t.link f).next = w % 2 ^ 20 ∧ (t.link f).count = w / 2 ^ 20 % 2 ^ 11 ∧ (t.link f).pool = (s.link f).pool % 32)
           ∧ (∀ g, g ≠ f → t.link g = s.link g) ∧ t.regs = s.regs ∧ t.arrays = s.arrays ∧ t.vlt.descs = s.vlt.descs))))
   ∧ (∀ (s : State) (g v : Nat) (hi : Bool) (r : Reg), r = (if hi then R.CLH_EVT_PEND_HI else R.CLH_EVT_PEND_LO) →
       (96 ≤ g ∨ s.bar2Up = false → exec (.evtPendWrite g hi v) s = .next s)
       ∧ (g < 96 → s.bar2Up = true → ∃ u, Wrote s u [(⟨r, 0, 32⟩, g, s.rd r g ^^^ (s.rd r g &&& (v % 2 ^ 32)))]
         ∧ (u.groupPending g = false → exec (.evtPendWrite g hi v) s = .next u)
         ∧ (u.groupPending g = true →
           (∀ b, Tab.get none s.clh.holdoff g = some b → exec (.evtPendWrite g hi v) s
             = .next { u with clh := { u.clh with holdoff := Tab.set none u.clh.holdoff g (some true) } })
           ∧ (Tab.get none s.clh.holdoff g = none → ∃ t, exec (.evtPendWrite g hi v) s = .next t ∧ t.msix = s.msix ++ s.sends (s.fld F.CLH_GROUP_CFG_VECTOR g)
             ∧ Tab.get none t.clh.holdoff g = (if s.fld F.CLH_GROUP_CFG_HOLDOFF_US g = 0 then none else some false)))))
   ∧ ∀ (s : State) (u k : Nat),
       (448 ≤ u ∨ tlyUnitCounters u ≤ k → exec (.tallyCntClear u k) s = .next s)
       ∧ (u < 448 → k < tlyUnitCounters u → HostMayWrite s 4 → ∃ t, exec (.tallyCntClear u k) s = .next t
         ∧ Wrote s t [(⟨R.TLY_CNT_LO, 0, 32⟩, k + 48 * u, 0), (⟨R.TLY_CNT_HI, 0, 32⟩, k + 48 * u, 0), (F.TLY_CNT_SEL_SAT, k + 48 * u, 0)])
       ∧ (u < 448 → k < tlyUnitCounters u → ¬HostMayWrite s 4 → ∃ w, Wrote s w [(F.TLR_UNGRANTED_WRITES_COUNT, 0,
             satBits 32 (s.fld F.TLR_UNGRANTED_WRITES_COUNT 0 + 1)), (F.TLR_UNGRANTED_LAST_OFFSET, 0, R.TLY_CNT_SEL.key (k + 48 * u))]
         ∧ exec (.tallyCntClear u k) s = .next (w.note E.TLR_UNGRANTED_WRITE)))
  ∧ (∀ (s : State) (a : Nat) (o : Host.Outcome State Fault Refusal), o ∈ [exec (.loReadLatch a 4) s, exec (.rcRead a 4) s] →
     (s.bar2Up = false → o = .next s)
     ∧ (s.bar2Up = true → a < 0x80000000 → a % 4 = 0 → ∀ r i, findReg a = some (r, i) →
       (s.answers a = false → o = .next { s with readData := w32 (r.rst i) })
       ∧ (s.answers a = true → r.base ≠ R.TIM_PAIR_STAMP.base →
         (∀ hi, (r, hi) ∈ latchPairs → r.base ≠ R.TLR_CORE_PC_LO.base → ∃ t, o = .next t ∧ t = { s with readData := w32 (s.view r i), loLatch := t.loLatch }
           ∧ Tab.get 0 t.loLatch (r.key i) = BitVec.ofNat 32 (s.view hi i) ∧ ∀ k, k ≠ r.key i → Tab.get 0 t.loLatch k = Tab.get 0 s.loLatch k)
         ∧ (∀ lo, (lo, r) ∈ latchPairs → o = .next { s with readData := w32 (Tab.get 0 s.loLatch (lo.key i)).toNat })
         ∧ (r.rc ≠ 0 → (∀ e ∈ latchPairs, e.1.base ≠ r.base ∧ e.2.base ≠ r.base) → ∃ t, o = .next t ∧ t.readData = w32 (s.view r i)
           ∧ t = { s with regs := t.regs, readData := t.readData } ∧ t.rd r i = s.rd r i ^^^ (s.rd r i &&& r.rc) ∧ ∀ q j, q.key j ≠ a → t.rd q j = s.rd q j)
         ∧ (r.rc = 0 → (∀ e ∈ latchPairs, e.1.base ≠ r.base ∧ e.2.base ≠ r.base) → o = .next { s with readData := w32 (s.view r i) })))
     ∧ (s.bar2Up = true → 0x80000000 ≤ a → a % 4 = 0 → a < 2 ^ 32 → s.answers a = true → s.cthHolds a = false →
       exec (.rawRead a 4 false) s = .next { s with readData := w32 (s.rawWord a) }
       ∧ ∃ u, Wrote { s with readData := w32 (s.rawWord a) } u [(F.GLB_WINDOW_STATUS_UNCORR, 0, 1),
           (F.GLB_WINDOW_STATUS_UNCORR_COUNT, 0, satBits 8 (s.fld F.GLB_WINDOW_STATUS_UNCORR_COUNT 0 + 1)), (F.GLB_WINDOW_ERR_ADDR_OFFSET, 0, a)]
         ∧ exec (.rawRead a 4 true) s = .next (u.note E.GLB_WINDOW_UNCORR)))

/-! ### The governor -/

/-- The governor's commands, their checks passed, write the fields their tables name and no other; GOV_CAP_CONFIG also undoes the newest raises that the new floor
does not allow, and GOV_READ changes nothing. -/
def Obligations.TheGovernorIsConfigured : Prop :=
  ∀ (s : State) (m : Nat) (r : Req),
    (∀ l, Ready s m C.GOV_CAP_CONFIG s.govCapConfigChecks r → l = s.gov.raises.drop (s.gov.raises.length - (8 + 10 * r.arg A.GOV_CAP_CONFIG_CAP_FLOOR_OP)) →
      ∃ u t, exec (.govCapConfig m) s = .next t
      ∧ RegsBecome s u ([(F.GOV_CAP_CAP_W, 0, r.arg A.GOV_CAP_CONFIG_CAP_W), (F.GOV_CAP_CFG_AVG_US, 0, r.arg A.GOV_CAP_CONFIG_AVG_US),
            (F.GOV_CAP_CFG_RELEASE_W, 0, r.arg A.GOV_CAP_CONFIG_RELEASE_W), (F.GOV_CAP_CFG_GAIN, 0, r.arg A.GOV_CAP_CONFIG_GAIN),
            (F.GOV_CAP_CFG_CAP_FLOOR_OP, 0, r.arg A.GOV_CAP_CONFIG_CAP_FLOOR_OP), (F.GOV_CAP_STATUS_LEVEL, 0, l.length),
            (F.GOV_CAP_STATUS_ENGAGED, 0, b2n (0 < l.length))]
          ++ (List.range 32).map (fun i => (F.GOV_PIPE_CFG_SHARE, i, r.arg (A.GOV_CAP_CONFIG_SHARE i)))
          ++ (List.range 10).map (fun d => (F.GOV_DIE_OP_CAP_LIMIT, d, min 7 (l.count d)))
          ++ (List.range 32).map fun i => (F.GOV_PIPE_STATUS_SLOTS, i, 8 - l.count 11))
      ∧ u = { s with regs := u.regs, gov := { s.gov with raises := l } }
      ∧ Answered u t m r 0 0 (respParams C.GOV_CAP_CONFIG r 0 (w32 (u.rd R.GOV_CAP_CFG 0) ++ w32 (u.rd R.GOV_CAP_STATUS 0))))
    ∧ (Ready s m C.GOV_PROFILE_SET s.govProfileSetChecks r → ∃ u t, exec (.govProfileSet m) s = .next t
      ∧ Wrote s u [(F.GOV_PROFILE_OP, r.index, r.arg A.GOV_PROFILE_SET_OP), (F.GOV_PROFILE_ALLOWANCE, r.index, r.arg A.GOV_PROFILE_SET_ALLOWANCE)]
      ∧ Answered u t m r 0 0 (respParams C.GOV_PROFILE_SET r 0 (w32 (u.rd R.GOV_PROFILE r.index))))
    ∧ (Ready s m C.GOV_PROFILE_SELECT s.govProfileSelectChecks r → ∃ u t, exec (.govProfileSelect m) s = .next t
      ∧ Wrote s u ((r.instances 10).map fun d => (F.GOV_DIE_SEL_HOST_PROFILE, d, r.arg A.GOV_PROFILE_SELECT_PROFILE))
      ∧ Answered u t m r 0 0 (respParams C.GOV_PROFILE_SELECT r 0 (w32 (u.rd R.GOV_DIE_SEL (if r.all then 0 else r.index)))))
    ∧ (Ready s m C.GOV_ZONE_CONFIG s.govZoneConfigChecks r → ∃ u t, exec (.govZoneConfig m) s = .next t
      ∧ Wrote s u (((r.instances 48).flatMap fun z => [(F.GOV_ZONE_LIMIT_WARN, z, r.arg A.GOV_ZONE_CONFIG_WARN),
            (F.GOV_ZONE_LIMIT_THROTTLE, z, r.arg A.GOV_ZONE_CONFIG_THROTTLE), (F.GOV_ZONE_LIMIT_CRITICAL, z, r.arg A.GOV_ZONE_CONFIG_CRITICAL),
            (F.GOV_ZONE_LIMIT_HYST, z, r.arg A.GOV_ZONE_CONFIG_HYST)])
          ++ [(F.GOV_THERM_CFG_STEP_US, 0, r.arg A.GOV_ZONE_CONFIG_STEP_US), (F.GOV_THERM_CFG_RELEASE_US, 0, r.arg A.GOV_ZONE_CONFIG_RELEASE_US)])
      ∧ Answered u t m r 0 0 (respParams C.GOV_ZONE_CONFIG r 0 (w32 (u.rd R.GOV_ZONE_LIMIT (if r.all then 0 else r.index)))))
    ∧ (Ready s m C.GOV_DROOP_CONFIG s.govDroopConfigChecks r → ∃ u t, exec (.govDroopConfig m) s = .next t
      ∧ Wrote s u [(F.GOV_DROOP_CFG_THRESHOLD_MV, 0, r.arg A.GOV_DROOP_CONFIG_THRESHOLD_MV), (F.GOV_DROOP_CFG_STRETCH, 0, r.arg A.GOV_DROOP_CONFIG_STRETCH),
          (F.GOV_DROOP_CFG_HOLD, 0, r.arg A.GOV_DROOP_CONFIG_HOLD), (F.GOV_DROOP_CFG_STEP_COUNT, 0, r.arg A.GOV_DROOP_CONFIG_STEP_COUNT)]
      ∧ Answered u t m r 0 0 (respParams C.GOV_DROOP_CONFIG r 0 (w32 (u.rd R.GOV_DROOP_CFG 0))))
    ∧ (Ready s m C.GOV_PMBUS_CONFIG s.govPmbusConfigChecks r → ∃ u t, exec (.govPmbusConfig m) s = .next t
      ∧ Wrote s u ([(F.GOV_PMBUS_CFG_ENABLE, 0, r.arg A.GOV_PMBUS_CONFIG_ENABLE), (F.GOV_PMBUS_CFG_RAILS, 0, r.arg A.GOV_PMBUS_CONFIG_RAILS)]
          ++ (List.range 8).map fun k => (⟨R.GOV_PMBUS_RAIL, 0, 16⟩, k, r.arg (A.GOV_PMBUS_CONFIG_ADDR k) + 256 * r.arg (A.GOV_PMBUS_CONFIG_RAIL k)))
      ∧ Answered u t m r 0 0 (respParams C.GOV_PMBUS_CONFIG r 0 (w32 (u.rd R.GOV_PMBUS_CFG 0))))
    ∧ (Ready s m C.GOV_READ s.govReadChecks r → Reports (exec (.govRead m) s) s m r C.GOV_READ
      (w32 (s.rd R.GOV_DIE_OP r.index) ++ w32 (s.rd R.GOV_DIE_SEL r.index) ++ w32 (s.rd R.GOV_DIE_POWER r.index) ++ w32 (s.rd R.GOV_POWER 0)))

/-- Dies step one point at a time: a quire die at once; a spine die after its supply where it speeds up, and after 64 ns without droop, over four cycles.

DROOP_DETECT counts droops and stretched cycles, in the die's registers and in the counters of its tally unit, a quire die stretching at most 64 in a
microsecond; DROOP_WINDOW moves the die's droop limit by the droops of 10 µs and by 1 ms of calm. -/
def Obligations.DiesStepAndDroop : Prop :=
  (∀ (s : State) (d now goal dest : Nat) (quiet ready : Bool), d < 10 → s.govRuns = true → now = s.inForce d → goal = s.govTarget d →
     dest = (if now < goal then now + 1 else now - 1) → ready = (quiet && !Tab.get false s.gov.droop d) →
     (s.opStep d = none → goal = now → exec (.opStepStart d quiet) s = .next s)
     ∧ (s.opStep d = none → goal ≠ now →
       (d < 8 → ∃ t, exec (.opStepStart d quiet) s = .next t ∧ t.inForce d = dest ∧ t.opStep d = none
         ∧ t.fld F.GOV_DIE_STEPS_STEPS d = satBits 16 (s.fld F.GOV_DIE_STEPS_STEPS d + 1) ∧ t.fld F.GOV_DIE_OP_STEPPING d = (if goal = dest then 0 else 1)
         ∧ t.govTarget d = goal ∧ (∀ e, e ≠ d → e < 10 → t.rd R.GOV_DIE_OP e = s.rd R.GOV_DIE_OP e ∧ t.opStep e = s.opStep e))
       ∧ (8 ≤ d → ∃ t, exec (.opStepStart d quiet) s = .next t ∧ t.inForce d = now ∧ t.fld F.GOV_DIE_OP_STEPPING d = 1
         ∧ t.opStep d = some ⟨dest, if dest < now then 1 else if ready then 2 else 0⟩
         ∧ t.fld F.GOV_DIE_STEPS_DEFERRED d = satBits 16 (s.fld F.GOV_DIE_STEPS_DEFERRED d + (if now < dest ∧ ready = false then 1 else 0))))
     ∧ (∀ x, s.opStep d = some x →
       (x.phase = 0 → ready = true → ∃ t, exec (.opStepStart d quiet) s = .next t ∧ t.opStep d = some ⟨x.dest, 2⟩ ∧ t.inForce d = now)
       ∧ (x.phase ≠ 0 ∨ ready = false → exec (.opStepStart d quiet) s = .next s)
       ∧ (x.phase = 1 → ∃ t, exec (.opSupplySettled d quiet) s = .next t ∧ t.opStep d = some ⟨x.dest, if ready then 2 else 0⟩ ∧ t.inForce d = now
         ∧ t.fld F.GOV_DIE_STEPS_DEFERRED d = satBits 16 (s.fld F.GOV_DIE_STEPS_DEFERRED d + (if ready then 0 else 1)))
       ∧ (x.phase ≠ 1 → exec (.opSupplySettled d quiet) s = .next s)
       ∧ (x.phase = 2 → ∃ t, exec (.opStepDone d) s = .next t ∧ t.inForce d = x.dest % 8 ∧ t.opStep d = none
         ∧ t.fld F.GOV_DIE_STEPS_STEPS d = satBits 16 (s.fld F.GOV_DIE_STEPS_STEPS d + 1) ∧ t.govTarget d = goal)
       ∧ (x.phase ≠ 2 → exec (.opStepDone d) s = .next s))
     ∧ (s.opStep d = none → exec (.opSupplySettled d quiet) s = .next s ∧ exec (.opStepDone d) s = .next s))
  ∧ (∀ (s : State) (d : Nat), d < 10 → s.govRuns = true →
     (∀ cycles detected n used, used = (if (Tab.get (0, 0) s.gov.stretched d).1 = s.now / 1000 then (Tab.get (0, 0) s.gov.stretched d).2 else 0) →
       n = (if d < 8 then min cycles (64 - used) else cycles) → ∃ t, exec (.droopDetect d cycles detected) s = .next t
       ∧ Tab.get false t.gov.droop d = detected
       ∧ t.fld F.GOV_DIE_DROOP_DROOPS d = satBits 16 (s.fld F.GOV_DIE_DROOP_DROOPS d + b2n detected)
       ∧ Tab.get 0 t.gov.window d = Tab.get 0 s.gov.window d + b2n detected
       ∧ t.fld F.GOV_DIE_DROOP_STRETCH_DENIED d = satBits 16 (s.fld F.GOV_DIE_DROOP_STRETCH_DENIED d + (if n < cycles then 1 else 0))
       ∧ (d < 8 → Tab.get (0, 0) t.gov.stretched d = (s.now / 1000, used + n))
       ∧ (∀ k, k < 16 → t.cnt (416 + d) k = min (s.cnt (416 + d) k + (if s.flag F.TLY_CNT_SEL_ENABLE (k + 48 * (416 + d)) = false then 0
           else if s.fld F.TLY_CNT_SEL_EVENT (k + 48 * (416 + d)) = 16 then b2n detected
           else if s.fld F.TLY_CNT_SEL_EVENT (k + 48 * (416 + d)) = 17 then (if s.flag F.TLY_CNT_SEL_LEVEL (k + 48 * (416 + d)) then min 1 n else n) else 0)) cntMax)
       ∧ t.rd R.GOV_DIE_OP d = s.rd R.GOV_DIE_OP d)
     ∧ ∀ w lim most, w = Tab.get 0 s.gov.window d → lim = s.fld F.GOV_DIE_OP_DROOP_LIMIT d → most = clamp 1 255 (s.fld F.GOV_DROOP_CFG_STEP_COUNT 0) →
       ∃ t, exec (.droopWindow d) s = .next t ∧ Tab.get 0 t.gov.window d = 0
       ∧ (most ≤ w → Tab.get 0 t.gov.calm d = 0 ∧ t.fld F.GOV_DIE_OP_DROOP_LIMIT d = min 7 (lim + 1))
       ∧ (w < most → Tab.get 0 t.gov.calm d = (Tab.get 0 s.gov.calm d + 1) % 100
         ∧ t.fld F.GOV_DIE_OP_DROOP_LIMIT d = if Tab.get 0 s.gov.calm d = 99 then lim - 1 else lim)
       ∧ t.inForce d = s.inForce d ∧ t.govTarget d = s.govTarget d)

/-- SENSOR_SAMPLE: every zone takes the highest of its good sensors, or its THROTTLE limit with fewer than four; crossings set their bits and counts, a THROTTLE
crossing slows its die's thermal limit, and a zone at CRITICAL puts TRIP_PENDING in force.

The thermal timers move a die's thermal limit one point, the slower one while a zone is at THROTTLE and the faster one once every zone is below its
hysteresis, and end TRIP_PENDING; a trip asserts THERMTRIP_N, keeps its first sensor and raises; the release samples count the milliseconds of COOL. -/
def Obligations.HeatIsWatched : Prop :=
  (∀ (s : State) (temps : List Int) (x good : Nat → List Int) (T : Nat → Int) (up : Fld → Fld → Nat → Bool), s.govRuns = true →
     (∀ z, x z = (List.range 8).map fun k => (temps[8 * z + k]?).elim (toSigned 12 (s.fld F.GOV_SENSOR_TEMP (8 * z + k))) fun v => max (-2048) (min 2047 v)) →
     (∀ z, good z = (x z).filter fun v => !sensorFaulty (median2 (x z)) v) →
     (∀ z, T z = if (good z).length < 4 then s.zoneLimit F.GOV_ZONE_LIMIT_THROTTLE z 0 else (good z).foldl max ((good z).headD 0)) →
     (∀ f g z, up f g z = (decide (s.zoneLimit f z 0 ≤ T z) && !s.flag g z)) →
     ∃ t, exec (.sensorSample temps) s = .next t
       ∧ (∀ z, z < 48 → t.zoneTemp z = T z ∧ t.fld F.GOV_ZONE_STATUS_GOOD z = (good z).length
         ∧ (∀ k, k < 8 → toSigned 12 (t.fld F.GOV_SENSOR_TEMP (8 * z + k)) = (x z).getD k 0
           ∧ t.flag F.GOV_SENSOR_FAULT (8 * z + k) = sensorFaulty (median2 (x z)) ((x z).getD k 0))
         ∧ t.flag F.GOV_ZONE_STATUS_ABOVE_WARN z = decide (s.zoneLimit F.GOV_ZONE_LIMIT_WARN z 0 ≤ T z)
         ∧ t.flag F.GOV_ZONE_STATUS_ABOVE_THROTTLE z = decide (s.zoneLimit F.GOV_ZONE_LIMIT_THROTTLE z 0 ≤ T z)
         ∧ t.flag F.GOV_ZONE_STATUS_ABOVE_CRITICAL z = decide (s.zoneLimit F.GOV_ZONE_LIMIT_CRITICAL z 0 ≤ T z)
         ∧ t.flag F.GOV_ZONE_STATUS_WARN_SET z = (s.flag F.GOV_ZONE_STATUS_WARN_SET z || up F.GOV_ZONE_LIMIT_WARN F.GOV_ZONE_STATUS_ABOVE_WARN z)
         ∧ t.flag F.GOV_ZONE_STATUS_THROTTLE_SET z = (s.flag F.GOV_ZONE_STATUS_THROTTLE_SET z || up F.GOV_ZONE_LIMIT_THROTTLE F.GOV_ZONE_STATUS_ABOVE_THROTTLE z)
         ∧ t.fld F.GOV_ZONE_COUNT_CRITICAL_COUNT z = satBits 8 (s.fld F.GOV_ZONE_COUNT_CRITICAL_COUNT z
             + b2n (up F.GOV_ZONE_LIMIT_CRITICAL F.GOV_ZONE_STATUS_ABOVE_CRITICAL z)))
       ∧ (∀ d, d < 10 → t.fld F.GOV_DIE_OP_THERM_LIMIT d = min 7 (s.fld F.GOV_DIE_OP_THERM_LIMIT d
           + ((dieZones d).filter fun z => up F.GOV_ZONE_LIMIT_THROTTLE F.GOV_ZONE_STATUS_ABOVE_THROTTLE z).length))
       ∧ t.gov = { s.gov with tripPending := s.gov.tripPending || (List.range 48).any fun z => decide (s.zoneLimit F.GOV_ZONE_LIMIT_CRITICAL z 0 ≤ T z) }
       ∧ (∀ q j, q.key j < 0x4000000 ∨ 0x5000000 ≤ q.key j → t.rd q j = s.rd q j)
       ∧ t = { s with regs := t.regs, fresh := t.fresh, clh := { s.clh with held := t.clh.held }, gov := t.gov })
  ∧ (∀ (s : State),
     (∀ d, d < 10 → s.govRuns = true →
       ((dieZones d).any (fun z => s.flag F.GOV_ZONE_STATUS_ABOVE_THROTTLE z) = true → ∃ t, exec (.thermStepTimer d) s = .next t
         ∧ Wrote s t [(F.GOV_DIE_OP_THERM_LIMIT, d, min 7 (s.fld F.GOV_DIE_OP_THERM_LIMIT d + 1))])
       ∧ ((dieZones d).any (fun z => s.flag F.GOV_ZONE_STATUS_ABOVE_THROTTLE z) = false → exec (.thermStepTimer d) s = .next s)
       ∧ ((∀ z ∈ dieZones d, s.zoneTemp z < s.zoneLimit F.GOV_ZONE_LIMIT_THROTTLE z (s.zoneHyst z)) → ∃ t, exec (.thermReleaseTimer d false) s = .next t
         ∧ Wrote s t [(F.GOV_DIE_OP_THERM_LIMIT, d, s.fld F.GOV_DIE_OP_THERM_LIMIT d - 1)])
       ∧ ((∃ z ∈ dieZones d, s.zoneLimit F.GOV_ZONE_LIMIT_THROTTLE z (s.zoneHyst z) ≤ s.zoneTemp z) → exec (.thermReleaseTimer d false) s = .next s)
       ∧ ((∀ z, z < 48 → s.zoneTemp z < s.zoneLimit F.GOV_ZONE_LIMIT_CRITICAL z (s.zoneHyst z)) →
         exec (.thermReleaseTimer d true) s = .next { s with gov := { s.gov with tripPending := false } })
       ∧ ((∃ z, z < 48 ∧ s.zoneLimit F.GOV_ZONE_LIMIT_CRITICAL z (s.zoneHyst z) ≤ s.zoneTemp z) → exec (.thermReleaseTimer d true) s = .next s))
     ∧ (∀ k, bit (s.fld F.GLB_RAIL_STATUS_GOOD 0) 0 = true → k < 384 →
       (s.flag F.GOV_TRIP_STATUS_TRIPPED 0 = false → ∃ u, RegsBecome s u [(F.GOV_TRIP_STATUS_SENSOR, 0, k), (F.GOV_TRIP_STATUS_TRIPPED, 0, 1)]
         ∧ u = { s with regs := u.regs, pins := { s.pins with thermtrip := true } } ∧ exec (.thermtrip k) s = .next (u.raise E.GOV_THERMTRIP k))
       ∧ (s.flag F.GOV_TRIP_STATUS_TRIPPED 0 = true → exec (.thermtrip k) s
         = .next ({ s with pins := { s.pins with thermtrip := true } }.raise E.GOV_THERMTRIP (s.fld F.GOV_TRIP_STATUS_SENSOR 0))))
     ∧ (∀ k, bit (s.fld F.GLB_RAIL_STATUS_GOOD 0) 0 = false ∨ 384 ≤ k → exec (.thermtrip k) s = .next s)
     ∧ ∀ below, ∃ t, exec (.tripReleaseSample below) s = .next t
       ∧ (below = true → bit (s.fld F.GLB_RAIL_STATUS_GOOD 0) 0 = true →
         Wrote s t [(F.GOV_TRIP_STATUS_COOL, 0, 1), (F.GOV_TRIP_STATUS_COOL_MS, 0,
           if s.flag F.GOV_TRIP_STATUS_COOL 0 then satBits 11 (s.fld F.GOV_TRIP_STATUS_COOL_MS 0 + 1) else 0)])
       ∧ (below = false ∨ bit (s.fld F.GLB_RAIL_STATUS_GOOD 0) 0 = false → Wrote s t [(F.GOV_TRIP_STATUS_COOL, 0, 0), (F.GOV_TRIP_STATUS_COOL_MS, 0, 0)]))

/-- CAP_TICK raises the level where every period since the last tick was above the cap, by purse budgeting, then the die of the highest estimate, then a slot, and
lowers it by undoing the last raise; CAP_UNREACHABLE_TIMER sets UNREACHABLE at the highest level; PMBus reads keep their values or count a fault.

GOVERNOR_PERIOD resolves every die as R544 gives: the fastest demand, the slowest limit, a common target within a lockstep group, and the allowances, shares and
throttle of R541, R543 and R546. -/
def Obligations.PowerIsGoverned : Prop :=
  (∀ (s : State), s.govRuns = true →
     (∀ (f n what : Nat), f = clamp 1 7 (s.fld F.GOV_CAP_CFG_CAP_FLOOR_OP 0) → n = s.gov.raises.length →
       (0 < s.gov.ticks → s.gov.above = s.gov.ticks → n < 8 + 10 * f →
         (n = 0 → what = 10) → (0 < n → n < 1 + 10 * f → what < 10 ∧ s.fld F.GOV_DIE_OP_CAP_LIMIT what < f
           ∧ ∀ d, d < 10 → s.fld F.GOV_DIE_OP_CAP_LIMIT d < f → s.fld F.GOV_DIE_POWER_EST_W d < s.fld F.GOV_DIE_POWER_EST_W what
             ∨ (s.fld F.GOV_DIE_POWER_EST_W d = s.fld F.GOV_DIE_POWER_EST_W what ∧ what ≤ d)) → (1 + 10 * f ≤ n → what = 11) →
         ∃ t, exec .capTick s = .next t ∧ t.gov = { s.gov with ticks := 0, above := 0, below := 0, raises := what :: s.gov.raises }
           ∧ t.fld F.GOV_CAP_STATUS_LEVEL 0 = (n + 1) % 128 ∧ t.flag F.GOV_CAP_STATUS_ENGAGED 0 = true
           ∧ (∀ d, d < 10 → t.fld F.GOV_DIE_OP_CAP_LIMIT d = min 7 ((what :: s.gov.raises).count d))
           ∧ (∀ i, i < 32 → t.fld F.GOV_PIPE_STATUS_SLOTS i = 8 - (what :: s.gov.raises).count 11)
           ∧ (n = 0 → t.flag F.GOV_CAP_STATUS_ENGAGE_SET 0 = true
             ∧ t.fld F.GOV_CAP_STATUS_ENGAGE_COUNT 0 = satBits 8 (s.fld F.GOV_CAP_STATUS_ENGAGE_COUNT 0 + 1)))
       ∧ (0 < s.gov.ticks → s.gov.above = s.gov.ticks → 8 + 10 * f ≤ n → exec .capTick s = .next { s with gov := { s.gov with ticks := 0, above := 0 } })
       ∧ (s.gov.ticks = 0 ∨ s.gov.above ≠ s.gov.ticks →
         (s.gov.below < 500 → exec .capTick s = .next { s with gov := { s.gov with ticks := 0, above := 0 } })
         ∧ (500 ≤ s.gov.below → ∃ t, exec .capTick s = .next t ∧ t.gov = { s.gov with ticks := 0, above := 0, raises := s.gov.raises.drop 1 }
           ∧ t.fld F.GOV_CAP_STATUS_LEVEL 0 = (n - 1) % 128 ∧ t.fld F.GOV_CAP_STATUS_ENGAGED 0 = b2n (0 < n - 1)
           ∧ (∀ d, d < 10 → t.fld F.GOV_DIE_OP_CAP_LIMIT d = min 7 ((s.gov.raises.drop 1).count d))
           ∧ (∀ i, i < 32 → t.fld F.GOV_PIPE_STATUS_SLOTS i = 8 - (s.gov.raises.drop 1).count 11)))
       ∧ (n = 8 + 10 * f → 16 * clamp 300 1100 (s.fld F.GOV_CAP_CAP_W 0) < s.fld F.GOV_POWER_EST_W 0 → s.flag F.GOV_CAP_STATUS_UNREACHABLE 0 = false →
         ∃ u, Wrote s u [(F.GOV_CAP_STATUS_UNREACHABLE, 0, 1), (F.GOV_CAP_STATUS_UNREACH_SET, 0, 1),
             (F.GOV_CAP_STATUS_UNREACH_COUNT, 0, satBits 8 (s.fld F.GOV_CAP_STATUS_UNREACH_COUNT 0 + 1))]
           ∧ exec .capUnreachableTimer s = .next (u.note E.GOV_CAP_UNREACHABLE))
       ∧ (n ≠ 8 + 10 * f ∨ s.fld F.GOV_POWER_EST_W 0 ≤ 16 * clamp 300 1100 (s.fld F.GOV_CAP_CAP_W 0) ∨ s.flag F.GOV_CAP_STATUS_UNREACHABLE 0 = true →
         exec .capUnreachableTimer s = .next s))
     ∧ ∀ reads o, o ∈ [exec (.pmbusPoll reads) s, exec (.pmbusAlert reads) s] →
       (s.flag F.GOV_PMBUS_CFG_ENABLE 0 = false → o = .next s)
       ∧ (s.flag F.GOV_PMBUS_CFG_ENABLE 0 = true → ∃ t, o = .next t
         ∧ (∀ k, k < 8 → bit (s.fld F.GOV_PMBUS_CFG_RAILS 0) k = true →
           (∀ i v, reads.getD k none = some (i, v) → t.rd R.GOV_PMBUS_READ k = i % 65536 + 65536 * (v % 65536)
             ∧ 3277 ≤ t.rd R.GOV_PMBUS_RAIL k / 65536 ∧ t.rd R.GOV_PMBUS_RAIL k / 65536 ≤ 4915
             ∧ t.rd R.GOV_PMBUS_RAIL k % 65536 = s.rd R.GOV_PMBUS_RAIL k % 65536)
           ∧ (reads.getD k none = none → t.rd R.GOV_PMBUS_READ k = s.rd R.GOV_PMBUS_READ k ∧ t.rd R.GOV_PMBUS_RAIL k = s.rd R.GOV_PMBUS_RAIL k
             ∧ t.flag F.GOV_PMBUS_CFG_FAULT 0 = true))
         ∧ (∀ k, k < 8 → bit (s.fld F.GOV_PMBUS_CFG_RAILS 0) k = false → t.rd R.GOV_PMBUS_READ k = s.rd R.GOV_PMBUS_READ k
           ∧ t.rd R.GOV_PMBUS_RAIL k = s.rd R.GOV_PMBUS_RAIL k)
         ∧ t.fld F.GOV_PMBUS_CFG_FAULT_COUNT 0 = satBits 8 (s.fld F.GOV_PMBUS_CFG_FAULT_COUNT 0
           + ((List.range 8).filter fun k => bit (s.fld F.GOV_PMBUS_CFG_RAILS 0) k && (reads.getD k none).isNone).length)
         ∧ t.gov = s.gov))
  ∧ (∀ (s : State) (total : Nat) (dies : List Nat) (gs : List (List Nat × Nat)), s.govRuns = true → gs = s.lockGroups →
     ∃ t, exec (.governorPeriod total dies) s = .next t
       ∧ t.gov.powers = (total :: s.gov.powers).take (10 * clamp 1 1000 (s.fld F.GOV_CAP_CFG_AVG_US 0))
       ∧ t.fld F.GOV_POWER_EST_W 0 = satBits 16 (t.gov.powers.sum / t.gov.powers.length) ∧ t.gov.ticks = s.gov.ticks + 1
       ∧ (∀ d, d < 8 → t.fld F.GOV_DIE_OP_DEMAND d = minOf (s.profileOp (s.fld F.GOV_DIE_SEL_HOST_PROFILE d))
           (((s.phasesOf fun p => dieOfLane p == d) ++ locksOn gs d).map s.profileOp))
       ∧ (∀ d, d = 8 ∨ d = 9 → t.fld F.GOV_DIE_OP_DEMAND d = minOf (s.profileOp (s.fld F.GOV_DIE_SEL_HOST_PROFILE d))
           ((List.range 4).map fun k => t.fld F.GOV_DIE_OP_DEMAND (4 * (d - 8) + k)))
       ∧ (∀ d, d < 10 → max (t.fld F.GOV_DIE_OP_DEMAND d) (s.dieLimit d) ≤ t.govTarget d
         ∧ ((∀ g ∈ gs, d ∉ g.1) → t.govTarget d = max (t.fld F.GOV_DIE_OP_DEMAND d) (s.dieLimit d))
         ∧ (∃ e, e < 10 ∧ t.govTarget d = max (t.fld F.GOV_DIE_OP_DEMAND e) (s.dieLimit e))
         ∧ t.inForce d = s.inForce d ∧ t.fld F.GOV_DIE_OP_STEPPING d = b2n ((s.opStep d).isSome || t.govTarget d != s.inForce d)
         ∧ bit (t.fld F.GOV_DIE_OP_REASONS d) 0 = (s.fld F.GOV_DIE_OP_THERM_LIMIT d == s.dieLimit d
             && decide (t.fld F.GOV_DIE_OP_DEMAND d < s.dieLimit d) && decide (t.fld F.GOV_DIE_OP_DEMAND d < s.inForce d))
         ∧ bit (t.fld F.GOV_DIE_OP_REASONS d) 5 = decide (max (t.fld F.GOV_DIE_OP_DEMAND d) (s.dieLimit d) < t.govTarget d)
         ∧ bit (t.fld F.GOV_DIE_OP_REASONS d) 6 = s.gov.tripPending)
       ∧ (∀ g ∈ gs, ∀ x ∈ g.1, ∀ y ∈ g.1, t.govTarget x = t.govTarget y)
       ∧ (∀ w, w < 2 → t.fld F.CTH_DIE_STATUS_THROTTLE w
           = max 1 (8 - (min (s.inForce (8 + w)) (s.dieLimit (8 + w)) - t.fld F.GOV_DIE_OP_DEMAND (8 + w))) % 8)
       ∧ (∀ i, i < 32 → t.fld F.GOV_PIPE_ALLOW_DEMAND i = maxOf (s.profileAllow (s.fld F.GOV_DIE_SEL_HOST_PROFILE (i / 4)))
             (((s.phasesOf fun p => p / 32 == i) ++ locksOn gs (i / 4)).map s.profileAllow)
         ∧ t.fld F.GOV_PIPE_ALLOW_SENT i = (if s.gov.tripPending then 0 else if s.gov.raises = [] then t.fld F.GOV_PIPE_ALLOW_DEMAND i
             else min (t.fld F.GOV_PIPE_ALLOW_DEMAND i) (s.capShare (t.budget s.gov.debited) i)))
       ∧ t.queues = s.queues ∧ t.vlt = s.vlt)

/-! ### The Clearing House -/

/-- FAULT_CONFIG, CLASS_CONFIG and EVENT_ROUTE write the fields their tables name and no other; ERRN_CONTROL writes its fields and ERROR_N follows; FAULT_READ changes
nothing and answers the records it is asked for in rising number.

FAULT_ACK and an acknowledge timeout acknowledge the records they name, which clears HOLD once no record with reaction ERROR_N is open; the end of the pulse
leaves ERROR_N to what else drives it. -/
def Obligations.TheHouseAndItsRecords : Prop :=
  (∀ (s : State) (m : Nat) (r : Req),
     (Ready s m C.FAULT_CONFIG s.faultConfigChecks r → ∃ u t, exec (.faultConfig m) s = .next t
       ∧ Wrote s u [(F.CLH_SRC_CFG_CLASS, r.index, r.arg A.FAULT_CONFIG_CLASS), (F.CLH_SRC_CFG_ESCALATE, r.index, r.arg A.FAULT_CONFIG_ESCALATE),
           (F.CLH_SRC_CFG_REACT, r.index, r.arg A.FAULT_CONFIG_REACT)]
       ∧ Answered u t m r 0 0 (respParams C.FAULT_CONFIG r 0 (w32 (u.rd R.CLH_SRC_CFG r.index))))
     ∧ (Ready s m C.CLASS_CONFIG s.classConfigChecks r → ∃ u t, exec (.classConfig m) s = .next t
       ∧ Wrote s u ([(F.CLH_CLASS_CFG_REACT, r.index, r.arg A.CLASS_CONFIG_REACT),
             (F.CLH_CLASS_CFG_ACK_TIMEOUT_MS, r.index, r.arg A.CLASS_CONFIG_ACK_TIMEOUT_MS)]
           ++ if r.index = 0 then [] else [(F.CLH_CLASS_CFG_ESCALATE, r.index, r.arg A.CLASS_CONFIG_ESCALATE)])
       ∧ Answered u t m r 0 0 (respParams C.CLASS_CONFIG r 0 (w32 (u.rd R.CLH_CLASS_CFG r.index))))
     ∧ (∀ g, g = r.index → Ready s m C.EVENT_ROUTE s.eventRouteChecks r → ∃ u t, exec (.eventRoute m) s = .next t
       ∧ Wrote s u ([(F.CLH_GROUP_CFG_VECTOR, g, r.arg A.EVENT_ROUTE_VECTOR), (F.CLH_GROUP_CFG_HOLDOFF_US, g, r.arg A.EVENT_ROUTE_HOLDOFF_US),
             (F.CLH_EVT_TLR_LO_BITS, g, r.arg (A.EVENT_ROUTE_TLR 0)), (F.CLH_EVT_TLR_HI_BITS, g, r.arg (A.EVENT_ROUTE_TLR 1))]
           ++ ((List.range 64).filter fun b => srcUsed (64 * g + b) == 1).map fun b =>
             (⟨R.CLH_SRC_CFG, F.CLH_SRC_CFG_REACT.lo, 1⟩, 64 * g + b, b2n (bit (r.arg (A.EVENT_ROUTE_MASK (b / 32))) (b % 32))))
       ∧ Answered u t m r 0 0 (respParams C.EVENT_ROUTE r 0 (w32 (u.rd R.CLH_GROUP_CFG g))))
     ∧ (Ready s m C.ERRN_CONTROL s.errnControlChecks r → ∃ u t, exec (.errnControl m) s = .next t
       ∧ Wrote s u ([(F.CLH_ERRN_CFG_PULSE_US, 0, r.arg A.ERRN_CONTROL_PULSE_US), (F.CLH_ERRN_CFG_MODE, 0, r.arg A.ERRN_CONTROL_MODE),
             (F.CLH_ERRN_CFG_FORCE, 0, r.arg A.ERRN_CONTROL_FORCE)]
           ++ errnAfter s (s.flag F.CLH_ERRN_STATUS_PULSE 0) (s.flag F.CLH_ERRN_STATUS_HOLD 0 && !r.on A.ERRN_CONTROL_RELEASE) (r.on A.ERRN_CONTROL_FORCE))
       ∧ Answered u t m r 0 0 (respParams C.ERRN_CONTROL r 0 (w32 (u.rd R.CLH_ERRN_STATUS 0))))
     ∧ (∀ (n : Nat) (p : FaultRec → Bool), n = r.arg A.FAULT_READ_COUNT → (∀ f : FaultRec, p f = (!r.on A.FAULT_READ_UNACKED_ONLY || !f.acked)) →
       Ready s m C.FAULT_READ s.faultReadChecks r → ∃ l : List FaultRec, Reports (exec (.faultRead m) s) s m r C.FAULT_READ
         (w32 (s.fld F.CLH_REC_HEAD_NEXT 0) ++ w32 ((l.head?.map FaultRec.number).getD (s.fld F.CLH_REC_HEAD_NEXT 0)) ++ l.flatMap FaultRec.bytes)
       ∧ l.length ≤ n ∧ l.Pairwise (fun a b => a.number ≤ b.number) ∧ (∀ f ∈ l, f ∈ s.clh.slots ∧ p f = true)
       ∧ (r.expert = true → (∀ f ∈ l, r.arg A.FAULT_READ_FIRST ≤ f.number)
         ∧ ∀ g ∈ s.clh.slots, p g = true → r.arg A.FAULT_READ_FIRST ≤ g.number → g ∈ l ∨ (l.length = n ∧ ∀ f ∈ l, f.number ≤ g.number))
       ∧ (r.expert = false → ∀ g ∈ s.clh.slots, p g = true → g ∈ l ∨ (l.length = n ∧ ∀ f ∈ l, g.number ≤ f.number))))
  ∧ (∀ (s : State),
     (∀ (m : Nat) (r : Req) (p : FaultRec → Bool) (n : Nat), Ready s m C.FAULT_ACK s.faultAckChecks r → n = r.arg A.FAULT_ACK_RECORD →
       (∀ f, p f = if r.arg A.FAULT_ACK_SCOPE = 0 then f.number == n else if r.arg A.FAULT_ACK_SCOPE = 1 then decide (f.number ≤ n)
         else f.cls == r.arg A.FAULT_ACK_CLASS) →
       (r.arg A.FAULT_ACK_SCOPE = 0 → (∀ f ∈ s.clh.slots, f.number ≠ n) → ∃ t, exec (.faultAck m) s = .next t ∧ Answered s t m r 0x0302 0 [])
       ∧ (r.arg A.FAULT_ACK_SCOPE ≠ 0 ∨ (∃ f ∈ s.clh.slots, f.number = n) → ∀ l, l = s.clh.slots.map (fun f => if p f then { f with acked := true } else f) →
         ∃ u t, exec (.faultAck m) s = .next t
           ∧ RegsBecome s u ((List.range 4).map (fun c => (F.CLH_CLASS_STATUS_UNACKED, c, (l.filter fun f => f.cls == c && !f.acked).length))
             ++ errnAfter s (s.flag F.CLH_ERRN_STATUS_PULSE 0) (s.flag F.CLH_ERRN_STATUS_HOLD 0 && l.any fun f => !f.acked && bit f.reactions 4)
               (s.flag F.CLH_ERRN_CFG_FORCE 0))
           ∧ u = { s with regs := u.regs, clh := { s.clh with slots := l } }
           ∧ Answered u t m r 0 0 (respParams C.FAULT_ACK r 0 (w32 (s.clh.slots.filter fun f => p f && !f.acked).length ++ w32 (u.rd R.CLH_ERRN_STATUS 0)))))
     ∧ (∀ n l, l = s.clh.slots.map (fun f => if f.number == n && s.fld F.CLH_CLASS_CFG_ACK_TIMEOUT_MS f.cls != 0 then { f with acked := true } else f) →
       ∃ t, exec (.faultAckTimeout n) s = .next t
         ∧ RegsBecome s t ((List.range 4).map (fun c => (F.CLH_CLASS_STATUS_UNACKED, c, (l.filter fun f => f.cls == c && !f.acked).length))
           ++ errnAfter s (s.flag F.CLH_ERRN_STATUS_PULSE 0) (s.flag F.CLH_ERRN_STATUS_HOLD 0 && l.any fun f => !f.acked && bit f.reactions 4)
             (s.flag F.CLH_ERRN_CFG_FORCE 0))
         ∧ t = { s with regs := t.regs, clh := { s.clh with slots := l } })
     ∧ ∃ t, exec .errnPulseEnd s = .next t ∧ Wrote s t (errnAfter s false (s.flag F.CLH_ERRN_STATUS_HOLD 0) (s.flag F.CLH_ERRN_CFG_FORCE 0)))

/-- Collectors and rails: a good frame delivers what its collector holds, in order, and the third bad or missing one in a row loses it; a rail break sets BROKEN
and raises, and clears once the rails are right and its record is acknowledged; a holdoff's end sends what it merged.

A block reset ends, and once the Teller has restored the unit its registers and arrays hold their configuration again; FAULT_INJECT breaks rails or passes a raise
to the collector of its source, and answers the number of the record it wrote. -/
def Obligations.ReportsAndRestoration : Prop :=
  (∀ (s : State),
     (∀ d n, d < 10 → n = Tab.get 0 s.clh.missing d + 1 →
       (∃ t, exec (.collectorFrame d true) s = .next t ∧ RegsBecome s t [(F.CLH_COLLECTOR_LINK_OK, d, 1)]
         ∧ t = { s with regs := t.regs, clh := { s.clh with missing := Tab.set 0 s.clh.missing d 0, central := s.clh.central ++ Tab.get [] s.clh.held d, held := Tab.set [] s.clh.held d [] } })
       ∧ (n < 3 → ∃ t, exec (.collectorFrame d false) s = .next t
         ∧ RegsBecome s t [(F.CLH_COLLECTOR_RETRIES, d, satBits 16 (s.fld F.CLH_COLLECTOR_RETRIES d + 1))]
         ∧ t = { s with regs := t.regs, clh := { s.clh with missing := Tab.set 0 s.clh.missing d n } })
       ∧ (3 ≤ n → s.flag F.CLH_COLLECTOR_LINK_OK d = true → ∃ u, exec (.collectorFrame d false) s = .next (u.raise E.CLH_COLLECTOR_LOST d)
         ∧ RegsBecome s u [(F.CLH_COLLECTOR_RETRIES, d, satBits 16 (s.fld F.CLH_COLLECTOR_RETRIES d + 1)), (F.CLH_COLLECTOR_LINK_OK, d, 0),
           (F.CLH_COLLECTOR_LOST, d, 1), (F.CLH_COLLECTOR_LOST_COUNT, d, satBits 8 (s.fld F.CLH_COLLECTOR_LOST_COUNT d + 1))]
         ∧ u.clh.central = s.clh.central ∧ u.clh.held = s.clh.held ∧ Tab.get 0 u.clh.missing d = 0)
       ∧ (s.flag F.CLH_COLLECTOR_LINK_OK d = true → ∃ u, exec (.collectorLost d) s = .next (u.raise E.CLH_COLLECTOR_LOST d)
         ∧ RegsBecome s u [(F.CLH_COLLECTOR_LINK_OK, d, 0), (F.CLH_COLLECTOR_LOST, d, 1),
           (F.CLH_COLLECTOR_LOST_COUNT, d, satBits 8 (s.fld F.CLH_COLLECTOR_LOST_COUNT d + 1))]
         ∧ u = { s with regs := u.regs, clh := { s.clh with missing := Tab.set 0 s.clh.missing d 0 } })
       ∧ (s.flag F.CLH_COLLECTOR_LINK_OK d = false →
         exec (.collectorLost d) s = .next { s with clh := { s.clh with missing := Tab.set 0 s.clh.missing d 0 } }))
     ∧ (∀ src high, srcUsed src = 1 →
       (s.flag F.CLH_SRC_CFG_BROKEN src = false → exec (.railBreakClear src) s = .next s
         ∧ ∃ u, Wrote s u [(F.CLH_SRC_CFG_BROKEN, src, 1), (F.CLH_SRC_CFG_RAILS, src, 3 * b2n high), (F.CLH_STATUS_RAIL_BREAK, 0, 1),
             (F.CLH_STATUS_BREAK_COUNT, 0, satBits 8 (s.fld F.CLH_STATUS_BREAK_COUNT 0 + 1))]
           ∧ exec (.railBreak src high) s = .next (u.raise E.CLH_RAIL_BREAK (src + 65536 * (3 * b2n high))))
       ∧ (s.flag F.CLH_SRC_CFG_BROKEN src = true → exec (.railBreak src high) s = .next s
         ∧ ((∃ f ∈ s.clh.slots, f.source = E.CLH_RAIL_BREAK ∧ f.detail % 8192 = src ∧ f.acked = false) → ∃ t, exec (.railBreakClear src) s = .next t
           ∧ Wrote s t [(F.CLH_SRC_CFG_RAILS, src, 1)])
         ∧ ((∀ f ∈ s.clh.slots, f.source = E.CLH_RAIL_BREAK → f.acked = true) → ∃ t, exec (.railBreakClear src) s = .next t
           ∧ Wrote s t [(F.CLH_SRC_CFG_RAILS, src, 1), (F.CLH_SRC_CFG_BROKEN, src, 0)])))
     ∧ ∀ g, (Tab.get none s.clh.holdoff g = none → exec (.eventHoldoffEnd g) s = .next s)
       ∧ (Tab.get none s.clh.holdoff g = some false → exec (.eventHoldoffEnd g) s = .next { s with clh := { s.clh with holdoff := Tab.set none s.clh.holdoff g none } })
       ∧ (Tab.get none s.clh.holdoff g = some true → ∃ t, exec (.eventHoldoffEnd g) s = .next t ∧ t.msix = s.msix ++ s.sends (s.fld F.CLH_GROUP_CFG_VECTOR g)
         ∧ Tab.get none t.clh.holdoff g = (if s.fld F.CLH_GROUP_CFG_HOLDOFF_US g = 0 then none else some false) ∧ t.clh.slots = s.clh.slots))
  ∧ (∀ (s : State),
     (∀ u, exec (.blockResetEnd u) s = .next { s with clh := { s.clh with inReset := s.clh.inReset.filter (· ≠ u) } }
       ∧ (u ∉ s.clh.restoring ∨ u ∈ s.clh.inReset → exec (.blockRestored u) s = .next s)
       ∧ (u ∈ s.clh.restoring → u ∉ s.clh.inReset → Tab.sorted s.clh.savedRegs = true → Tab.sorted s.clh.savedArrays = true →
         ∃ t, exec (.blockRestored u) s = .next t ∧ t.clh.restoring = s.clh.restoring.filter (· ≠ u)
           ∧ (∀ e ∈ s.clh.savedRegs, ∀ q j, ownerOf e.1 = some u → findReg e.1 = some (q, j) → t.rd q j = e.2.toNat)
           ∧ (∀ q j, (∀ e ∈ s.clh.savedRegs, ownerOf e.1 = some u → e.1 ≠ q.key j) → t.rd q j = s.rd q j)
           ∧ (∀ e ∈ s.clh.savedArrays, ownerOf e.1 = some u → Tab.get 0 t.arrays e.1 = e.2)
           ∧ (∀ a, (∀ e ∈ s.clh.savedArrays, ownerOf e.1 = some u → e.1 ≠ a) → Tab.get 0 t.arrays a = Tab.get 0 s.arrays a)
           ∧ (∀ a, ownerOf a = some u → Tab.find? t.clh.savedRegs a = none) ∧ t.clh.slots = s.clh.slots ∧ t.queues = s.queues))
     ∧ ∀ m r i k, Ready s m C.FAULT_INJECT s.faultInjectChecks r → i = r.index → k = r.arg A.FAULT_INJECT_KIND →
       (k = 0 → srcOnIsland i = false → s.flag F.CLH_COLLECTOR_LINK_OK (srcDie i) = false → ∃ t, exec (.faultInject m) s = .next t
         ∧ Answered ((s.note E.CLH_INJECTED).raise i 0xFFFFFFFF) t m r 0 0 (respParams C.FAULT_INJECT r 0 (w32 0xFFFFFFFF)))
       ∧ (k = 0 → srcOnIsland i = true ∨ s.flag F.CLH_COLLECTOR_LINK_OK (srcDie i) = true → s.fld F.CLH_SRC_CFG_CLASS i = 1 →
         s.flag F.CLH_SRC_CFG_BROKEN i = false → s.fld F.CLH_SRC_CFG_REACT i = 0 → s.fld F.CLH_CLASS_CFG_REACT 1 = 0 →
         (∀ f ∈ s.clh.slots, f.acked = true) → s.clh.slots.length < 256 → ∃ u t f, exec (.faultInject m) s = .next t
           ∧ u.clh.slots = s.clh.slots ++ [f] ∧ f.source = i ∧ f.cls = 1 ∧ f.detail = 0xFFFFFFFF ∧ f.acked = false ∧ f.number = s.fld F.CLH_REC_HEAD_NEXT 0
           ∧ u.isPending i = true ∧ u.mode = s.mode ∧ Answered u t m r 0 0 (respParams C.FAULT_INJECT r 0 (w32 f.number)))
       ∧ (k ≠ 0 → s.flag F.CLH_SRC_CFG_BROKEN i = true → ∃ t, exec (.faultInject m) s = .next t
         ∧ Answered (s.note E.CLH_INJECTED) t m r 0 0 (respParams C.FAULT_INJECT r 0 (w32 0xFFFFFFFF)))
       ∧ (k ≠ 0 → s.flag F.CLH_SRC_CFG_BROKEN i = false → bit (s.fld F.CLH_SRC_CFG_REACT E.CLH_RAIL_BREAK) 3 = false →
         (∀ c, bit (s.fld F.CLH_CLASS_CFG_REACT c) 3 = false) → (∀ f ∈ s.clh.slots, bit f.reactions 3 = false) → ∃ u t n, exec (.faultInject m) s = .next t ∧ u.flag F.CLH_SRC_CFG_BROKEN i = true
         ∧ u.fld F.CLH_SRC_CFG_RAILS i = 3 * (k - 1) ∧ Answered u t m r 0 0 (respParams C.FAULT_INJECT r 0 (w32 n))))

/-- FAULT_RAISE handles the next raise of the central part: a broken source is ignored; a Notice writes no record; a recurrence counts in its record; another fault is
recorded with the next number, escalated by an open record of its class; and a Grave one enters Fault-Hold and is recorded with it. -/
def Obligations.RaisesAreHandled : Prop :=
  ∀ (s : State), (s.clh.central = [] → exec .faultRaise s = .next s) ∧ ∀ (i : Nat) (r : Raise) (src c : Nat) (own : Nat → Nat), NextRaise s i r → src = r.src → c = s.fld F.CLH_SRC_CFG_CLASS src →
    (∀ k, own k = s.fld F.CLH_SRC_CFG_REACT src ||| (if k = 0 then 0 else s.fld F.CLH_CLASS_CFG_REACT k)) →
    (srcUsed src = 0 ∨ s.flag F.CLH_SRC_CFG_BROKEN src = true →
      exec .faultRaise s = .next { s with clh := { s.clh with central := s.clh.central.eraseIdx i } })
    ∧ (srcUsed src = 1 → s.flag F.CLH_SRC_CFG_BROKEN src = false → railReset r = false →
      (c = 0 → bit (own 0) 2 = false → bit (own 0) 3 = false → ∃ t, exec .faultRaise s = .next t ∧ Reacted s t src (own 0)
        ∧ t.clh.slots = s.clh.slots ∧ t.clh.central = s.clh.central.eraseIdx i ∧ t.mode = s.mode)
      ∧ (∀ k f, 0 < c → s.clh.slots[k]? = some f → f.source = src → f.acked = false →
        (∀ j g, s.clh.slots[j]? = some g → j < k → g.source ≠ src ∨ g.acked = true) → f.reactions < 32 → bit f.reactions 2 = false → bit f.reactions 3 = false →
        ∃ t, exec .faultRaise s = .next t ∧ Reacted s t src f.reactions ∧ t.clh.slots = s.clh.slots.set k { f with rept := min 255 (f.rept + 1) }
          ∧ t.fld F.CLH_REC_HEAD_NEXT 0 = s.fld F.CLH_REC_HEAD_NEXT 0 ∧ t.mode = s.mode)
      ∧ (0 < c → (∀ f ∈ s.clh.slots, f.source ≠ src ∨ f.acked = true) → s.clh.slots.length < 255 →
        (c < 3 → (∀ f ∈ s.clh.slots, f.cls ≠ c ∨ f.acked = true) ∨ s.flag F.CLH_CLASS_CFG_ESCALATE c = false ∨ s.flag F.CLH_SRC_CFG_ESCALATE src = false →
          bit (own c) 2 = false → bit (own c) 3 = false → ∃ t, exec .faultRaise s = .next t ∧ Reacted s t src (own c)
            ∧ t.clh.slots = s.clh.slots ++ [{ s.recordOf r c c (own c) 0xFFFFFFFF false with number := s.fld F.CLH_REC_HEAD_NEXT 0 }]
            ∧ t.fld F.CLH_REC_HEAD_NEXT 0 = (s.fld F.CLH_REC_HEAD_NEXT 0 + 1) % 2 ^ 32 ∧ t.clh.central = s.clh.central.eraseIdx i ∧ t.mode = s.mode)
        ∧ (∀ f, c = 1 → f ∈ s.clh.slots → f.cls = 1 → f.acked = false → (∀ g ∈ s.clh.slots, g.cls = 1 → g.acked = false → f.number ≤ g.number) →
          s.flag F.CLH_CLASS_CFG_ESCALATE 1 = true → s.flag F.CLH_SRC_CFG_ESCALATE src = true → bit (own 2) 2 = false → bit (own 2) 3 = false →
          ∃ t, exec .faultRaise s = .next t ∧ Reacted s t src (own 2)
            ∧ t.clh.slots = s.clh.slots ++ [{ s.recordOf r 1 2 (own 2) f.number false with number := s.fld F.CLH_REC_HEAD_NEXT 0 }]
            ∧ t.flag F.CLH_STATUS_ESCALATED 0 = true ∧ t.fld F.CLH_STATUS_ESC_COUNT 0 = satBits 8 (s.fld F.CLH_STATUS_ESC_COUNT 0 + 1) ∧ t.mode = s.mode)
        ∧ (c = 3 → s.flag F.CLH_STATUS_FAULT_HOLD 0 = false → ∃ t a b, exec .faultRaise s = .next t ∧ InFaultHold t ∧ t.clh.slots = s.clh.slots ++ [a, b]
          ∧ a.source = src ∧ a.cls = 3 ∧ a.faultHold = true ∧ a.number = s.fld F.CLH_REC_HEAD_NEXT 0 ∧ a.detail = r.detail ∧ bit a.reactions 4 = true
          ∧ b.source = E.GLB_FAULT_HOLD ∧ b.detail = src ∧ b.cause = a.number ∧ b.faultHold = true
          ∧ t.flag F.CLH_ERRN_STATUS_DRIVEN 0 = true ∧ ∀ u, u < 108 → t.granted u = false)
        ∧ (c = 3 → s.flag F.CLH_STATUS_FAULT_HOLD 0 = true → ∃ t, exec .faultRaise s = .next t ∧ t.mode = s.mode
          ∧ t.clh.slots = s.clh.slots ++ [{ s.recordOf r 3 3 0 0xFFFFFFFF true with number := s.fld F.CLH_REC_HEAD_NEXT 0 }])))
end

