-- ==== Sys2Proof/Laws/High.lean ====
section
/-! SUPPORT. Where each register of the map lies: every one but GLB_CHIP_ID, GLB_STEPPING and GLB_MODE above GLB_MODE. -/
namespace Sys2Proof.Machine

@[simp] theorem R.BOOT_STATUS_high : 0x10 < R.BOOT_STATUS.base := by decide
@[simp] theorem R.BOOT_CTL_high : 0x10 < R.BOOT_CTL.base := by decide
@[simp] theorem R.BOOT_ERR_PAGE_high : 0x10 < R.BOOT_ERR_PAGE.base := by decide
@[simp] theorem R.BOOT_WINDOW_REJECTS_high : 0x10 < R.BOOT_WINDOW_REJECTS.base := by decide
@[simp] theorem R.BOOT_PAGE_CTL_high : 0x10 < R.BOOT_PAGE_CTL.base := by decide
@[simp] theorem R.BOOT_PAGE_CRC_high : 0x10 < R.BOOT_PAGE_CRC.base := by decide
@[simp] theorem R.GLB_CHARTER_VERSION_high : 0x10 < R.GLB_CHARTER_VERSION.base := by decide
@[simp] theorem R.GLB_CHARTER_CRC_high : 0x10 < R.GLB_CHARTER_CRC.base := by decide
@[simp] theorem R.GLB_PATCH_LEVEL_high : 0x10 < R.GLB_PATCH_LEVEL.base := by decide
@[simp] theorem R.GLB_CLERK_STORE_VERSION_high : 0x10 < R.GLB_CLERK_STORE_VERSION.base := by decide
@[simp] theorem R.GLB_RESET_CFG_high : 0x10 < R.GLB_RESET_CFG.base := by decide
@[simp] theorem R.GLB_RESET_CAUSE_high : 0x10 < R.GLB_RESET_CAUSE.base := by decide
@[simp] theorem R.GLB_SESSION_high : 0x10 < R.GLB_SESSION.base := by decide
@[simp] theorem R.GLB_RAIL_STATUS_high : 0x10 < R.GLB_RAIL_STATUS.base := by decide
@[simp] theorem R.MBX_DOORBELL_high : 0x10 < R.MBX_DOORBELL.base := by decide
@[simp] theorem R.MBX_STATUS_high : 0x10 < R.MBX_STATUS.base := by decide
@[simp] theorem R.MBX_LAST_high : 0x10 < R.MBX_LAST.base := by decide
@[simp] theorem R.MBX_CTL_high : 0x10 < R.MBX_CTL.base := by decide
@[simp] theorem R.TLR_STATUS_high : 0x10 < R.TLR_STATUS.base := by decide
@[simp] theorem R.TLR_MBX_CMD_high : 0x10 < R.TLR_MBX_CMD.base := by decide
@[simp] theorem R.TLR_MBX_RUN_high : 0x10 < R.TLR_MBX_RUN.base := by decide
@[simp] theorem R.TLR_GRANT_BLOCKS_high : 0x10 < R.TLR_GRANT_BLOCKS.base := by decide
@[simp] theorem R.TLR_GRANT_QUIRE_high : 0x10 < R.TLR_GRANT_QUIRE.base := by decide
@[simp] theorem R.TLR_LEASE_high : 0x10 < R.TLR_LEASE.base := by decide
@[simp] theorem R.TLR_UNGRANTED_WRITES_high : 0x10 < R.TLR_UNGRANTED_WRITES.base := by decide
@[simp] theorem R.TLR_UNGRANTED_LAST_high : 0x10 < R.TLR_UNGRANTED_LAST.base := by decide
@[simp] theorem R.TLR_HIST_HEAD_high : 0x10 < R.TLR_HIST_HEAD.base := by decide
@[simp] theorem R.TLR_ASYNC_STATE_high : 0x10 < R.TLR_ASYNC_STATE.base := by decide
@[simp] theorem R.TLR_DEADLINE_MISSES_high : 0x10 < R.TLR_DEADLINE_MISSES.base := by decide
@[simp] theorem R.TLR_CORE_PC_LO_high : 0x10 < R.TLR_CORE_PC_LO.base := by decide
@[simp] theorem R.TLR_CORE_PC_HI_high : 0x10 < R.TLR_CORE_PC_HI.base := by decide
@[simp] theorem R.CKG_QUAL_CFG_high : 0x10 < R.CKG_QUAL_CFG.base := by decide
@[simp] theorem R.CKG_REF_STATUS_high : 0x10 < R.CKG_REF_STATUS.base := by decide
@[simp] theorem R.CKG_REF_MEASURE_high : 0x10 < R.CKG_REF_MEASURE.base := by decide
@[simp] theorem R.CKG_WATCH_TRIM_high : 0x10 < R.CKG_WATCH_TRIM.base := by decide
@[simp] theorem R.CKG_WATCH_FREQ_high : 0x10 < R.CKG_WATCH_FREQ.base := by decide
@[simp] theorem R.CKG_PLL_STATUS_high : 0x10 < R.CKG_PLL_STATUS.base := by decide
@[simp] theorem R.CKG_DOMAIN_CFG_high : 0x10 < R.CKG_DOMAIN_CFG.base := by decide
@[simp] theorem R.CKG_DOMAIN_STATUS_high : 0x10 < R.CKG_DOMAIN_STATUS.base := by decide
@[simp] theorem R.CKG_NOQS_LATCH_high : 0x10 < R.CKG_NOQS_LATCH.base := by decide
@[simp] theorem R.CKG_XING_STATUS_high : 0x10 < R.CKG_XING_STATUS.base := by decide
@[simp] theorem R.CKG_XING_COUNT_high : 0x10 < R.CKG_XING_COUNT.base := by decide
@[simp] theorem R.LANE_CTL_high : 0x10 < R.LANE_CTL.base := by decide
@[simp] theorem R.LANE_STATUS_high : 0x10 < R.LANE_STATUS.base := by decide
@[simp] theorem R.LANE_EQ_NOW_TX_high : 0x10 < R.LANE_EQ_NOW_TX.base := by decide
@[simp] theorem R.LANE_EQ_NOW_RX_high : 0x10 < R.LANE_EQ_NOW_RX.base := by decide
@[simp] theorem R.LANE_EQ_ENT_TX_high : 0x10 < R.LANE_EQ_ENT_TX.base := by decide
@[simp] theorem R.LANE_EQ_ENT_RX_high : 0x10 < R.LANE_EQ_ENT_RX.base := by decide
@[simp] theorem R.LANE_PRBS_CTL_high : 0x10 < R.LANE_PRBS_CTL.base := by decide
@[simp] theorem R.LANE_INJ_CFG_high : 0x10 < R.LANE_INJ_CFG.base := by decide
@[simp] theorem R.LANE_PRBS_STATUS_high : 0x10 < R.LANE_PRBS_STATUS.base := by decide
@[simp] theorem R.LANE_PRBS_BIT_ERR_high : 0x10 < R.LANE_PRBS_BIT_ERR.base := by decide
@[simp] theorem R.LANE_PRBS_SYM_ERR_high : 0x10 < R.LANE_PRBS_SYM_ERR.base := by decide
@[simp] theorem R.LANE_PRBS_COMPARED_high : 0x10 < R.LANE_PRBS_COMPARED.base := by decide
@[simp] theorem R.LANE_USER_PATTERN_high : 0x10 < R.LANE_USER_PATTERN.base := by decide
@[simp] theorem R.LANE_QUIRE_TEMP_high : 0x10 < R.LANE_QUIRE_TEMP.base := by decide
@[simp] theorem R.LANE_BOARD_ID_high : 0x10 < R.LANE_BOARD_ID.base := by decide
@[simp] theorem R.PCS_STATUS_high : 0x10 < R.PCS_STATUS.base := by decide
@[simp] theorem R.PCS_FEC_CFG_high : 0x10 < R.PCS_FEC_CFG.base := by decide
@[simp] theorem R.PCS_FEC_CORRECTED_high : 0x10 < R.PCS_FEC_CORRECTED.base := by decide
@[simp] theorem R.PCS_FEC_UNCORRECTED_high : 0x10 < R.PCS_FEC_UNCORRECTED.base := by decide
@[simp] theorem R.STCH_CTL_high : 0x10 < R.STCH_CTL.base := by decide
@[simp] theorem R.STCH_STATUS_high : 0x10 < R.STCH_STATUS.base := by decide
@[simp] theorem R.STCH_TX_SEQ_high : 0x10 < R.STCH_TX_SEQ.base := by decide
@[simp] theorem R.STCH_RX_SEQ_high : 0x10 < R.STCH_RX_SEQ.base := by decide
@[simp] theorem R.STCH_FRAME_high : 0x10 < R.STCH_FRAME.base := by decide
@[simp] theorem R.STCH_COUNT_A_high : 0x10 < R.STCH_COUNT_A.base := by decide
@[simp] theorem R.STCH_COUNT_B_high : 0x10 < R.STCH_COUNT_B.base := by decide
@[simp] theorem R.STCH_COUNT_C_high : 0x10 < R.STCH_COUNT_C.base := by decide
@[simp] theorem R.MAC_CFG_high : 0x10 < R.MAC_CFG.base := by decide
@[simp] theorem R.MAC_CFG2_high : 0x10 < R.MAC_CFG2.base := by decide
@[simp] theorem R.MAC_STATUS_high : 0x10 < R.MAC_STATUS.base := by decide
@[simp] theorem R.MAC_PFC_CFG_high : 0x10 < R.MAC_PFC_CFG.base := by decide
@[simp] theorem R.MAC_PFC_STORM_high : 0x10 < R.MAC_PFC_STORM.base := by decide
@[simp] theorem R.MAC_PFC_QMAP_high : 0x10 < R.MAC_PFC_QMAP.base := by decide
@[simp] theorem R.MAC_PFC_STATUS_high : 0x10 < R.MAC_PFC_STATUS.base := by decide
@[simp] theorem R.MAC_PFC_TIMER_high : 0x10 < R.MAC_PFC_TIMER.base := by decide
@[simp] theorem R.MAC_PREEMPT_CFG_high : 0x10 < R.MAC_PREEMPT_CFG.base := by decide
@[simp] theorem R.MAC_PREEMPT_STATUS_high : 0x10 < R.MAC_PREEMPT_STATUS.base := by decide
@[simp] theorem R.MAC_SA_LO_high : 0x10 < R.MAC_SA_LO.base := by decide
@[simp] theorem R.MAC_SA_HI_high : 0x10 < R.MAC_SA_HI.base := by decide
@[simp] theorem R.MAC_STAT_LO_high : 0x10 < R.MAC_STAT_LO.base := by decide
@[simp] theorem R.MAC_STAT_HI_high : 0x10 < R.MAC_STAT_HI.base := by decide
@[simp] theorem R.MAC_STAT_SAT_high : 0x10 < R.MAC_STAT_SAT.base := by decide
@[simp] theorem R.PRS_PORT_CFG_high : 0x10 < R.PRS_PORT_CFG.base := by decide
@[simp] theorem R.PRS_PIPE_CFG_high : 0x10 < R.PRS_PIPE_CFG.base := by decide
@[simp] theorem R.PRS_PIPE_STATUS_high : 0x10 < R.PRS_PIPE_STATUS.base := by decide
@[simp] theorem R.PRS_TABLE_ID_high : 0x10 < R.PRS_TABLE_ID.base := by decide
@[simp] theorem R.PRS_TRACE_CTL_high : 0x10 < R.PRS_TRACE_CTL.base := by decide
@[simp] theorem R.PRS_TRACE_REC_high : 0x10 < R.PRS_TRACE_REC.base := by decide
@[simp] theorem R.PRS_STAT_LO_high : 0x10 < R.PRS_STAT_LO.base := by decide
@[simp] theorem R.PRS_STAT_HI_high : 0x10 < R.PRS_STAT_HI.base := by decide
@[simp] theorem R.PRS_STAT_SAT_high : 0x10 < R.PRS_STAT_SAT.base := by decide
@[simp] theorem R.DMA_PUNT_CFG_high : 0x10 < R.DMA_PUNT_CFG.base := by decide
@[simp] theorem R.DMA_PUNT_CFG2_high : 0x10 < R.DMA_PUNT_CFG2.base := by decide
@[simp] theorem R.DMA_PUNT_STATUS_high : 0x10 < R.DMA_PUNT_STATUS.base := by decide
@[simp] theorem R.DMA_PUNT_PASSED_LO_high : 0x10 < R.DMA_PUNT_PASSED_LO.base := by decide
@[simp] theorem R.DMA_PUNT_PASSED_HI_high : 0x10 < R.DMA_PUNT_PASSED_HI.base := by decide
@[simp] theorem R.DMA_PUNT_DROPS_LO_high : 0x10 < R.DMA_PUNT_DROPS_LO.base := by decide
@[simp] theorem R.DMA_PUNT_DROPS_HI_high : 0x10 < R.DMA_PUNT_DROPS_HI.base := by decide
@[simp] theorem R.CLS_POSTING_high : 0x10 < R.CLS_POSTING.base := by decide
@[simp] theorem R.CLS_POSTING_LAST_high : 0x10 < R.CLS_POSTING_LAST.base := by decide
@[simp] theorem R.CLS_POST_TIME_high : 0x10 < R.CLS_POST_TIME.base := by decide
@[simp] theorem R.CLS_POST_CFG_high : 0x10 < R.CLS_POST_CFG.base := by decide
@[simp] theorem R.CLS_DIE_STATUS_high : 0x10 < R.CLS_DIE_STATUS.base := by decide
@[simp] theorem R.CLS_DIE_COUNT_high : 0x10 < R.CLS_DIE_COUNT.base := by decide
@[simp] theorem R.CLS_DRAIN_high : 0x10 < R.CLS_DRAIN.base := by decide
@[simp] theorem R.CLS_TABLE_CFG_high : 0x10 < R.CLS_TABLE_CFG.base := by decide
@[simp] theorem R.CLS_TABLE_REGION_high : 0x10 < R.CLS_TABLE_REGION.base := by decide
@[simp] theorem R.CLS_TABLE_SEED_high : 0x10 < R.CLS_TABLE_SEED.base := by decide
@[simp] theorem R.CLS_TABLE_FILL_high : 0x10 < R.CLS_TABLE_FILL.base := by decide
@[simp] theorem R.CLS_PORT_CFG_high : 0x10 < R.CLS_PORT_CFG.base := by decide
@[simp] theorem R.CLS_STAT_LO_high : 0x10 < R.CLS_STAT_LO.base := by decide
@[simp] theorem R.CLS_STAT_HI_high : 0x10 < R.CLS_STAT_HI.base := by decide
@[simp] theorem R.LDG_GLOBAL_high : 0x10 < R.LDG_GLOBAL.base := by decide
@[simp] theorem R.LDG_ECMP_SEED_high : 0x10 < R.LDG_ECMP_SEED.base := by decide
@[simp] theorem R.LDG_STATUS_high : 0x10 < R.LDG_STATUS.base := by decide
@[simp] theorem R.LDG_STATUS_COUNT_high : 0x10 < R.LDG_STATUS_COUNT.base := by decide
@[simp] theorem R.LDG_PARITY_LAST_high : 0x10 < R.LDG_PARITY_LAST.base := by decide
@[simp] theorem R.LDG_EVICT_LAST_high : 0x10 < R.LDG_EVICT_LAST.base := by decide
@[simp] theorem R.LDG_PORT_LIVE_high : 0x10 < R.LDG_PORT_LIVE.base := by decide
@[simp] theorem R.LDG_LEDGER_CFG_high : 0x10 < R.LDG_LEDGER_CFG.base := by decide
@[simp] theorem R.LDG_LOOKUP_CFG_high : 0x10 < R.LDG_LOOKUP_CFG.base := by decide
@[simp] theorem R.LDG_PROFILE_CFG_high : 0x10 < R.LDG_PROFILE_CFG.base := by decide
@[simp] theorem R.LDG_PORT_CFG_high : 0x10 < R.LDG_PORT_CFG.base := by decide
@[simp] theorem R.LDG_AUDIT_STATUS_high : 0x10 < R.LDG_AUDIT_STATUS.base := by decide
@[simp] theorem R.LDG_STAT_LO_high : 0x10 < R.LDG_STAT_LO.base := by decide
@[simp] theorem R.LDG_STAT_HI_high : 0x10 < R.LDG_STAT_HI.base := by decide
@[simp] theorem R.LDG_GSTAT_LO_high : 0x10 < R.LDG_GSTAT_LO.base := by decide
@[simp] theorem R.LDG_GSTAT_HI_high : 0x10 < R.LDG_GSTAT_HI.base := by decide
@[simp] theorem R.CLRK_CTL_high : 0x10 < R.CLRK_CTL.base := by decide
@[simp] theorem R.CLRK_STATUS_high : 0x10 < R.CLRK_STATUS.base := by decide
@[simp] theorem R.CLRK_PC_high : 0x10 < R.CLRK_PC.base := by decide
@[simp] theorem R.CLRK_COND_high : 0x10 < R.CLRK_COND.base := by decide
@[simp] theorem R.CLRK_QUEUE_high : 0x10 < R.CLRK_QUEUE.base := by decide
@[simp] theorem R.CLRK_REG_high : 0x10 < R.CLRK_REG.base := by decide
@[simp] theorem R.CLRK_PATH_high : 0x10 < R.CLRK_PATH.base := by decide
@[simp] theorem R.CLRK_ENTRY_high : 0x10 < R.CLRK_ENTRY.base := by decide
@[simp] theorem R.CLRK_STORE_high : 0x10 < R.CLRK_STORE.base := by decide
@[simp] theorem R.VLT_GLOBAL_high : 0x10 < R.VLT_GLOBAL.base := by decide
@[simp] theorem R.VLT_FREE_ERR_high : 0x10 < R.VLT_FREE_ERR.base := by decide
@[simp] theorem R.VLT_FREE_ERR_LAST_high : 0x10 < R.VLT_FREE_ERR_LAST.base := by decide
@[simp] theorem R.VLT_MEM_ERR_high : 0x10 < R.VLT_MEM_ERR.base := by decide
@[simp] theorem R.VLT_DIE_STATUS_high : 0x10 < R.VLT_DIE_STATUS.base := by decide
@[simp] theorem R.VLT_POOL_CFG_high : 0x10 < R.VLT_POOL_CFG.base := by decide
@[simp] theorem R.VLT_POOL_STATE_high : 0x10 < R.VLT_POOL_STATE.base := by decide
@[simp] theorem R.VLT_BANK_FREE_high : 0x10 < R.VLT_BANK_FREE.base := by decide
@[simp] theorem R.VLT_POOL_MAP_high : 0x10 < R.VLT_POOL_MAP.base := by decide
@[simp] theorem R.VLT_STAT_LO_high : 0x10 < R.VLT_STAT_LO.base := by decide
@[simp] theorem R.VLT_STAT_HI_high : 0x10 < R.VLT_STAT_HI.base := by decide
@[simp] theorem R.VLT_GSTAT_LO_high : 0x10 < R.VLT_GSTAT_LO.base := by decide
@[simp] theorem R.VLT_GSTAT_HI_high : 0x10 < R.VLT_GSTAT_HI.base := by decide
@[simp] theorem R.QSC_ENERGY_CFG_high : 0x10 < R.QSC_ENERGY_CFG.base := by decide
@[simp] theorem R.QSC_ENERGY_COST_high : 0x10 < R.QSC_ENERGY_COST.base := by decide
@[simp] theorem R.QSC_SAMPLE_CFG_high : 0x10 < R.QSC_SAMPLE_CFG.base := by decide
@[simp] theorem R.QSC_PURSE_high : 0x10 < R.QSC_PURSE.base := by decide
@[simp] theorem R.QSC_PURSE_ALLOW_high : 0x10 < R.QSC_PURSE_ALLOW.base := by decide
@[simp] theorem R.QSC_PURSE_HELD_high : 0x10 < R.QSC_PURSE_HELD.base := by decide
@[simp] theorem R.QSC_GSTAT_LO_high : 0x10 < R.QSC_GSTAT_LO.base := by decide
@[simp] theorem R.QSC_GSTAT_HI_high : 0x10 < R.QSC_GSTAT_HI.base := by decide
@[simp] theorem R.QSC_PORT_CFG_high : 0x10 < R.QSC_PORT_CFG.base := by decide
@[simp] theorem R.QSC_PORT_RATE_high : 0x10 < R.QSC_PORT_RATE.base := by decide
@[simp] theorem R.QSC_PORT_BURST_high : 0x10 < R.QSC_PORT_BURST.base := by decide
@[simp] theorem R.QSC_PORT_TOKENS_high : 0x10 < R.QSC_PORT_TOKENS.base := by decide
@[simp] theorem R.QSC_PORT_EXP_TOKENS_high : 0x10 < R.QSC_PORT_EXP_TOKENS.base := by decide
@[simp] theorem R.QSC_PORT_EXP_BURST_high : 0x10 < R.QSC_PORT_EXP_BURST.base := by decide
@[simp] theorem R.QSC_PORT_VCLOCK_LO_high : 0x10 < R.QSC_PORT_VCLOCK_LO.base := by decide
@[simp] theorem R.QSC_PORT_VCLOCK_HI_high : 0x10 < R.QSC_PORT_VCLOCK_HI.base := by decide
@[simp] theorem R.QSC_Q_CFG_high : 0x10 < R.QSC_Q_CFG.base := by decide
@[simp] theorem R.QSC_Q_RATE_high : 0x10 < R.QSC_Q_RATE.base := by decide
@[simp] theorem R.QSC_Q_BURST_high : 0x10 < R.QSC_Q_BURST.base := by decide
@[simp] theorem R.QSC_Q_TOKENS_high : 0x10 < R.QSC_Q_TOKENS.base := by decide
@[simp] theorem R.QSC_Q_LIMIT_A_high : 0x10 < R.QSC_Q_LIMIT_A.base := by decide
@[simp] theorem R.QSC_Q_LIMIT_B_high : 0x10 < R.QSC_Q_LIMIT_B.base := by decide
@[simp] theorem R.QSC_Q_START_LO_high : 0x10 < R.QSC_Q_START_LO.base := by decide
@[simp] theorem R.QSC_Q_START_HI_high : 0x10 < R.QSC_Q_START_HI.base := by decide
@[simp] theorem R.QSC_Q_FINISH_LO_high : 0x10 < R.QSC_Q_FINISH_LO.base := by decide
@[simp] theorem R.QSC_Q_FINISH_HI_high : 0x10 < R.QSC_Q_FINISH_HI.base := by decide
@[simp] theorem R.QSC_Q_DEPTH_high : 0x10 < R.QSC_Q_DEPTH.base := by decide
@[simp] theorem R.QSC_Q_FRAMES_high : 0x10 < R.QSC_Q_FRAMES.base := by decide
@[simp] theorem R.QSC_Q_STATUS_high : 0x10 < R.QSC_Q_STATUS.base := by decide
@[simp] theorem R.TIM_CTL_high : 0x10 < R.TIM_CTL.base := by decide
@[simp] theorem R.TIM_CTL2_high : 0x10 < R.TIM_CTL2.base := by decide
@[simp] theorem R.TIM_STATUS_high : 0x10 < R.TIM_STATUS.base := by decide
@[simp] theorem R.TIM_FREQ_ADJ_high : 0x10 < R.TIM_FREQ_ADJ.base := by decide
@[simp] theorem R.TIM_PAIR_STAMP_high : 0x10 < R.TIM_PAIR_STAMP.base := by decide
@[simp] theorem R.TIM_PAIR_NS_high : 0x10 < R.TIM_PAIR_NS.base := by decide
@[simp] theorem R.TIM_PAIR_SEC_LO_high : 0x10 < R.TIM_PAIR_SEC_LO.base := by decide
@[simp] theorem R.TIM_PAIR_SEC_HI_high : 0x10 < R.TIM_PAIR_SEC_HI.base := by decide
@[simp] theorem R.TIM_PPS_ERROR_high : 0x10 < R.TIM_PPS_ERROR.base := by decide
@[simp] theorem R.TIM_STATUS2_high : 0x10 < R.TIM_STATUS2.base := by decide
@[simp] theorem R.TIM_RING_CFG_high : 0x10 < R.TIM_RING_CFG.base := by decide
@[simp] theorem R.TIM_RING_ADDR_LO_high : 0x10 < R.TIM_RING_ADDR_LO.base := by decide
@[simp] theorem R.TIM_RING_ADDR_HI_high : 0x10 < R.TIM_RING_ADDR_HI.base := by decide
@[simp] theorem R.TIM_RING_PROD_high : 0x10 < R.TIM_RING_PROD.base := by decide
@[simp] theorem R.TIM_COPY_STATUS_high : 0x10 < R.TIM_COPY_STATUS.base := by decide
@[simp] theorem R.TIM_PIN_CFG_high : 0x10 < R.TIM_PIN_CFG.base := by decide
@[simp] theorem R.TIM_PIN_START_SEC_LO_high : 0x10 < R.TIM_PIN_START_SEC_LO.base := by decide
@[simp] theorem R.TIM_PIN_START_SEC_HI_high : 0x10 < R.TIM_PIN_START_SEC_HI.base := by decide
@[simp] theorem R.TIM_PIN_START_NS_high : 0x10 < R.TIM_PIN_START_NS.base := by decide
@[simp] theorem R.TIM_PIN_PERIOD_high : 0x10 < R.TIM_PIN_PERIOD.base := by decide
@[simp] theorem R.TIM_PIN_WIDTH_high : 0x10 < R.TIM_PIN_WIDTH.base := by decide
@[simp] theorem R.TIM_PIN_STATUS_high : 0x10 < R.TIM_PIN_STATUS.base := by decide
@[simp] theorem R.TIM_PIN_LAT_high : 0x10 < R.TIM_PIN_LAT.base := by decide
@[simp] theorem R.TIM_PIN_EVCOUNT_high : 0x10 < R.TIM_PIN_EVCOUNT.base := by decide
@[simp] theorem R.TIM_FEC_TERM_high : 0x10 < R.TIM_FEC_TERM.base := by decide
@[simp] theorem R.TIM_PORT_CFG_high : 0x10 < R.TIM_PORT_CFG.base := by decide
@[simp] theorem R.TIM_PORT_LAT_212_high : 0x10 < R.TIM_PORT_LAT_212.base := by decide
@[simp] theorem R.TIM_PORT_LAT_106_high : 0x10 < R.TIM_PORT_LAT_106.base := by decide
@[simp] theorem R.TIM_PORT_BOARD_high : 0x10 < R.TIM_PORT_BOARD.base := by decide
@[simp] theorem R.TIM_PORT_PEER_DELAY_high : 0x10 < R.TIM_PORT_PEER_DELAY.base := by decide
@[simp] theorem R.TIM_PORT_STATUS_high : 0x10 < R.TIM_PORT_STATUS.base := by decide
@[simp] theorem R.TIM_PORT_EVCOUNT_high : 0x10 < R.TIM_PORT_EVCOUNT.base := by decide
@[simp] theorem R.TIM_Q_LAUNCH_high : 0x10 < R.TIM_Q_LAUNCH.base := by decide
@[simp] theorem R.TIM_PORT_STAT_LO_high : 0x10 < R.TIM_PORT_STAT_LO.base := by decide
@[simp] theorem R.TIM_PORT_STAT_HI_high : 0x10 < R.TIM_PORT_STAT_HI.base := by decide
@[simp] theorem R.TIM_GATE_CFG_high : 0x10 < R.TIM_GATE_CFG.base := by decide
@[simp] theorem R.TIM_GATE_STATUS_high : 0x10 < R.TIM_GATE_STATUS.base := by decide
@[simp] theorem R.TIM_GATE_CHANGE_high : 0x10 < R.TIM_GATE_CHANGE.base := by decide
@[simp] theorem R.TIM_GATE_CYCLES_high : 0x10 < R.TIM_GATE_CYCLES.base := by decide
@[simp] theorem R.TIM_GATE_EVCOUNT_high : 0x10 < R.TIM_GATE_EVCOUNT.base := by decide
@[simp] theorem R.TIM_GATE_BASE_SEC_LO_high : 0x10 < R.TIM_GATE_BASE_SEC_LO.base := by decide
@[simp] theorem R.TIM_GATE_BASE_SEC_HI_high : 0x10 < R.TIM_GATE_BASE_SEC_HI.base := by decide
@[simp] theorem R.TIM_GATE_BASE_NS_high : 0x10 < R.TIM_GATE_BASE_NS.base := by decide
@[simp] theorem R.TIM_GATE_CYCLE_NS_high : 0x10 < R.TIM_GATE_CYCLE_NS.base := by decide
@[simp] theorem R.CTH_CFG_high : 0x10 < R.CTH_CFG.base := by decide
@[simp] theorem R.CTH_ADDR4_high : 0x10 < R.CTH_ADDR4.base := by decide
@[simp] theorem R.CTH_MAC_LO_high : 0x10 < R.CTH_MAC_LO.base := by decide
@[simp] theorem R.CTH_MAC_HI_high : 0x10 < R.CTH_MAC_HI.base := by decide
@[simp] theorem R.CTH_ADDR6_high : 0x10 < R.CTH_ADDR6.base := by decide
@[simp] theorem R.CTH_DIE_STATUS_high : 0x10 < R.CTH_DIE_STATUS.base := by decide
@[simp] theorem R.CTH_SYN_CFG_high : 0x10 < R.CTH_SYN_CFG.base := by decide
@[simp] theorem R.CTH_SYN_SIZE_high : 0x10 < R.CTH_SYN_SIZE.base := by decide
@[simp] theorem R.CTH_SYN_LIMITS_high : 0x10 < R.CTH_SYN_LIMITS.base := by decide
@[simp] theorem R.CTH_SYN_TIMERS_high : 0x10 < R.CTH_SYN_TIMERS.base := by decide
@[simp] theorem R.CTH_SYN_BASE_high : 0x10 < R.CTH_SYN_BASE.base := by decide
@[simp] theorem R.CTH_SYN_STATUS_high : 0x10 < R.CTH_SYN_STATUS.base := by decide
@[simp] theorem R.CTH_SYN_STRAG_CHUNK_high : 0x10 < R.CTH_SYN_STRAG_CHUNK.base := by decide
@[simp] theorem R.CTH_SYN_STRAG_MEMBER_high : 0x10 < R.CTH_SYN_STRAG_MEMBER.base := by decide
@[simp] theorem R.CTH_SYN_PLACE_high : 0x10 < R.CTH_SYN_PLACE.base := by decide
@[simp] theorem R.CTH_SYN_STAT_LO_high : 0x10 < R.CTH_SYN_STAT_LO.base := by decide
@[simp] theorem R.CTH_SYN_STAT_HI_high : 0x10 < R.CTH_SYN_STAT_HI.base := by decide
@[simp] theorem R.CTH_GSTAT_LO_high : 0x10 < R.CTH_GSTAT_LO.base := by decide
@[simp] theorem R.CTH_GSTAT_HI_high : 0x10 < R.CTH_GSTAT_HI.base := by decide
@[simp] theorem R.DMA_GLOBAL_high : 0x10 < R.DMA_GLOBAL.base := by decide
@[simp] theorem R.DMA_PCIE_STATUS_high : 0x10 < R.DMA_PCIE_STATUS.base := by decide
@[simp] theorem R.DMA_CH_CFG_high : 0x10 < R.DMA_CH_CFG.base := by decide
@[simp] theorem R.DMA_CH_BASE_LO_high : 0x10 < R.DMA_CH_BASE_LO.base := by decide
@[simp] theorem R.DMA_CH_BASE_HI_high : 0x10 < R.DMA_CH_BASE_HI.base := by decide
@[simp] theorem R.DMA_CH_HEAD_LO_high : 0x10 < R.DMA_CH_HEAD_LO.base := by decide
@[simp] theorem R.DMA_CH_HEAD_HI_high : 0x10 < R.DMA_CH_HEAD_HI.base := by decide
@[simp] theorem R.DMA_CH_COUNT_high : 0x10 < R.DMA_CH_COUNT.base := by decide
@[simp] theorem R.DMA_CH_STATUS_high : 0x10 < R.DMA_CH_STATUS.base := by decide
@[simp] theorem R.DMA_CH_EVCOUNT_high : 0x10 < R.DMA_CH_EVCOUNT.base := by decide
@[simp] theorem R.DMA_CH_RESIDUE_high : 0x10 < R.DMA_CH_RESIDUE.base := by decide
@[simp] theorem R.DMA_CH_ERR_ADDR_LO_high : 0x10 < R.DMA_CH_ERR_ADDR_LO.base := by decide
@[simp] theorem R.DMA_CH_ERR_ADDR_HI_high : 0x10 < R.DMA_CH_ERR_ADDR_HI.base := by decide
@[simp] theorem R.DMA_CH_HOLDOFF_high : 0x10 < R.DMA_CH_HOLDOFF.base := by decide
@[simp] theorem R.DMA_CH_INJ_RATE_high : 0x10 < R.DMA_CH_INJ_RATE.base := by decide
@[simp] theorem R.DMA_CH_INJ_BURST_high : 0x10 < R.DMA_CH_INJ_BURST.base := by decide
@[simp] theorem R.DMA_CH_INJ_TOKENS_high : 0x10 < R.DMA_CH_INJ_TOKENS.base := by decide
@[simp] theorem R.DMA_CH_DESC_high : 0x10 < R.DMA_CH_DESC.base := by decide
@[simp] theorem R.DMA_CH_STAT_LO_high : 0x10 < R.DMA_CH_STAT_LO.base := by decide
@[simp] theorem R.DMA_CH_STAT_HI_high : 0x10 < R.DMA_CH_STAT_HI.base := by decide
@[simp] theorem R.DMA_HOSTQ_CFG_high : 0x10 < R.DMA_HOSTQ_CFG.base := by decide
@[simp] theorem R.DMA_HOSTQ_STATUS_high : 0x10 < R.DMA_HOSTQ_STATUS.base := by decide
@[simp] theorem R.DMA_HOSTQ_DROPS_LO_high : 0x10 < R.DMA_HOSTQ_DROPS_LO.base := by decide
@[simp] theorem R.DMA_HOSTQ_DROPS_HI_high : 0x10 < R.DMA_HOSTQ_DROPS_HI.base := by decide
@[simp] theorem R.DMA_DOORBELL_high : 0x10 < R.DMA_DOORBELL.base := by decide
@[simp] theorem R.DMA_CH_CMD_high : 0x10 < R.DMA_CH_CMD.base := by decide
@[simp] theorem R.TLY_STATUS_high : 0x10 < R.TLY_STATUS.base := by decide
@[simp] theorem R.TLY_BOOK_CFG_high : 0x10 < R.TLY_BOOK_CFG.base := by decide
@[simp] theorem R.TLY_BOOK_BUF_LO_high : 0x10 < R.TLY_BOOK_BUF_LO.base := by decide
@[simp] theorem R.TLY_BOOK_BUF_HI_high : 0x10 < R.TLY_BOOK_BUF_HI.base := by decide
@[simp] theorem R.TLY_BOOK_STATUS_high : 0x10 < R.TLY_BOOK_STATUS.base := by decide
@[simp] theorem R.TLY_BOOK_NEXT_SEQ_high : 0x10 < R.TLY_BOOK_NEXT_SEQ.base := by decide
@[simp] theorem R.TLY_BOOK_T_SEC_LO_high : 0x10 < R.TLY_BOOK_T_SEC_LO.base := by decide
@[simp] theorem R.TLY_BOOK_T_SEC_HI_high : 0x10 < R.TLY_BOOK_T_SEC_HI.base := by decide
@[simp] theorem R.TLY_BOOK_T_NS_high : 0x10 < R.TLY_BOOK_T_NS.base := by decide
@[simp] theorem R.TLY_BOOK_SEQ_high : 0x10 < R.TLY_BOOK_SEQ.base := by decide
@[simp] theorem R.TLY_SAMPLE_PROD_high : 0x10 < R.TLY_SAMPLE_PROD.base := by decide
@[simp] theorem R.TLY_SAMPLE_LOST_high : 0x10 < R.TLY_SAMPLE_LOST.base := by decide
@[simp] theorem R.TLY_UNIT_INFO_high : 0x10 < R.TLY_UNIT_INFO.base := by decide
@[simp] theorem R.TLY_CNT_SEL_high : 0x10 < R.TLY_CNT_SEL.base := by decide
@[simp] theorem R.TLY_CNT_LO_high : 0x10 < R.TLY_CNT_LO.base := by decide
@[simp] theorem R.TLY_CNT_HI_high : 0x10 < R.TLY_CNT_HI.base := by decide
@[simp] theorem R.MRG_CFG_high : 0x10 < R.MRG_CFG.base := by decide
@[simp] theorem R.MRG_NODE_ID_high : 0x10 < R.MRG_NODE_ID.base := by decide
@[simp] theorem R.MRG_PORT_CFG_high : 0x10 < R.MRG_PORT_CFG.base := by decide
@[simp] theorem R.MRG_RULE_SEL_high : 0x10 < R.MRG_RULE_SEL.base := by decide
@[simp] theorem R.MRG_GSTAT_LO_high : 0x10 < R.MRG_GSTAT_LO.base := by decide
@[simp] theorem R.MRG_GSTAT_HI_high : 0x10 < R.MRG_GSTAT_HI.base := by decide
@[simp] theorem R.GOV_CAP_CFG_high : 0x10 < R.GOV_CAP_CFG.base := by decide
@[simp] theorem R.GOV_CAP_high : 0x10 < R.GOV_CAP.base := by decide
@[simp] theorem R.GOV_CAP_STATUS_high : 0x10 < R.GOV_CAP_STATUS.base := by decide
@[simp] theorem R.GOV_POWER_high : 0x10 < R.GOV_POWER.base := by decide
@[simp] theorem R.GOV_BUDGET_high : 0x10 < R.GOV_BUDGET.base := by decide
@[simp] theorem R.GOV_DROOP_CFG_high : 0x10 < R.GOV_DROOP_CFG.base := by decide
@[simp] theorem R.GOV_THERM_CFG_high : 0x10 < R.GOV_THERM_CFG.base := by decide
@[simp] theorem R.GOV_PMBUS_CFG_high : 0x10 < R.GOV_PMBUS_CFG.base := by decide
@[simp] theorem R.GOV_TRIP_STATUS_high : 0x10 < R.GOV_TRIP_STATUS.base := by decide
@[simp] theorem R.GOV_OP_POINT_high : 0x10 < R.GOV_OP_POINT.base := by decide
@[simp] theorem R.GOV_DIE_OP_high : 0x10 < R.GOV_DIE_OP.base := by decide
@[simp] theorem R.GOV_DIE_SEL_high : 0x10 < R.GOV_DIE_SEL.base := by decide
@[simp] theorem R.GOV_DIE_POWER_high : 0x10 < R.GOV_DIE_POWER.base := by decide
@[simp] theorem R.GOV_DIE_DROOP_high : 0x10 < R.GOV_DIE_DROOP.base := by decide
@[simp] theorem R.GOV_DIE_STEPS_high : 0x10 < R.GOV_DIE_STEPS.base := by decide
@[simp] theorem R.GOV_REASON_US_high : 0x10 < R.GOV_REASON_US.base := by decide
@[simp] theorem R.GOV_REASON_LAST_high : 0x10 < R.GOV_REASON_LAST.base := by decide
@[simp] theorem R.GOV_ZONE_LIMIT_high : 0x10 < R.GOV_ZONE_LIMIT.base := by decide
@[simp] theorem R.GOV_ZONE_STATUS_high : 0x10 < R.GOV_ZONE_STATUS.base := by decide
@[simp] theorem R.GOV_ZONE_COUNT_high : 0x10 < R.GOV_ZONE_COUNT.base := by decide
@[simp] theorem R.GOV_SENSOR_high : 0x10 < R.GOV_SENSOR.base := by decide
@[simp] theorem R.GOV_PROFILE_high : 0x10 < R.GOV_PROFILE.base := by decide
@[simp] theorem R.GOV_PIPE_CFG_high : 0x10 < R.GOV_PIPE_CFG.base := by decide
@[simp] theorem R.GOV_PIPE_STATUS_high : 0x10 < R.GOV_PIPE_STATUS.base := by decide
@[simp] theorem R.GOV_PIPE_ALLOW_high : 0x10 < R.GOV_PIPE_ALLOW.base := by decide
@[simp] theorem R.GOV_PIPE_ADMIT_DROPS_high : 0x10 < R.GOV_PIPE_ADMIT_DROPS.base := by decide
@[simp] theorem R.GOV_PMBUS_RAIL_high : 0x10 < R.GOV_PMBUS_RAIL.base := by decide
@[simp] theorem R.GOV_PMBUS_READ_high : 0x10 < R.GOV_PMBUS_READ.base := by decide
@[simp] theorem R.CLH_STATUS_high : 0x10 < R.CLH_STATUS.base := by decide
@[simp] theorem R.CLH_ERRN_CFG_high : 0x10 < R.CLH_ERRN_CFG.base := by decide
@[simp] theorem R.CLH_ERRN_STATUS_high : 0x10 < R.CLH_ERRN_STATUS.base := by decide
@[simp] theorem R.CLH_REC_HEAD_high : 0x10 < R.CLH_REC_HEAD.base := by decide
@[simp] theorem R.CLH_CLASS_CFG_high : 0x10 < R.CLH_CLASS_CFG.base := by decide
@[simp] theorem R.CLH_CLASS_STATUS_high : 0x10 < R.CLH_CLASS_STATUS.base := by decide
@[simp] theorem R.CLH_COLLECTOR_high : 0x10 < R.CLH_COLLECTOR.base := by decide
@[simp] theorem R.CLH_GROUP_SUMMARY_high : 0x10 < R.CLH_GROUP_SUMMARY.base := by decide
@[simp] theorem R.CLH_GROUP_CFG_high : 0x10 < R.CLH_GROUP_CFG.base := by decide
@[simp] theorem R.CLH_EVT_PEND_LO_high : 0x10 < R.CLH_EVT_PEND_LO.base := by decide
@[simp] theorem R.CLH_EVT_PEND_HI_high : 0x10 < R.CLH_EVT_PEND_HI.base := by decide
@[simp] theorem R.CLH_EVT_MASK_LO_high : 0x10 < R.CLH_EVT_MASK_LO.base := by decide
@[simp] theorem R.CLH_EVT_MASK_HI_high : 0x10 < R.CLH_EVT_MASK_HI.base := by decide
@[simp] theorem R.CLH_EVT_TLR_LO_high : 0x10 < R.CLH_EVT_TLR_LO.base := by decide
@[simp] theorem R.CLH_EVT_TLR_HI_high : 0x10 < R.CLH_EVT_TLR_HI.base := by decide
@[simp] theorem R.CLH_SRC_CFG_high : 0x10 < R.CLH_SRC_CFG.base := by decide
@[simp] theorem R.CLH_EVT_COUNT_high : 0x10 < R.CLH_EVT_COUNT.base := by decide
@[simp] theorem R.GLB_WINDOW_STATUS_high : 0x10 < R.GLB_WINDOW_STATUS.base := by decide
@[simp] theorem R.GLB_WINDOW_ERR_ADDR_high : 0x10 < R.GLB_WINDOW_ERR_ADDR.base := by decide
@[simp] theorem R.MSIX_TABLE_high : 0x10 < R.MSIX_TABLE.base := by decide
@[simp] theorem R.MSIX_PBA_high : 0x10 < R.MSIX_PBA.base := by decide
@[simp] theorem R.VLT_DIE_DESC_high : 0x10 < R.VLT_DIE_DESC.base := by decide
@[simp] theorem R.VLT_DIE_COMMON_high : 0x10 < R.VLT_DIE_COMMON.base := by decide
@[simp] theorem R.VLT_DIE_COMMON_FREE_high : 0x10 < R.VLT_DIE_COMMON_FREE.base := by decide
@[simp] theorem R.VLT_POOL_RESERVE_high : 0x10 < R.VLT_POOL_RESERVE.base := by decide
@[simp] theorem R.VLT_POOL_SHARE_high : 0x10 < R.VLT_POOL_SHARE.base := by decide
@[simp] theorem R.VLT_POOL_CAP_high : 0x10 < R.VLT_POOL_CAP.base := by decide
@[simp] theorem R.VLT_POOL_HEADROOM_high : 0x10 < R.VLT_POOL_HEADROOM.base := by decide
@[simp] theorem R.VLT_POOL_RES_USED_high : 0x10 < R.VLT_POOL_RES_USED.base := by decide
@[simp] theorem R.VLT_POOL_COM_USED_high : 0x10 < R.VLT_POOL_COM_USED.base := by decide
@[simp] theorem R.VLT_POOL_HR_USED_high : 0x10 < R.VLT_POOL_HR_USED.base := by decide
@[simp] theorem R.CLS_TABLE_MASK_high : 0x10 < R.CLS_TABLE_MASK.base := by decide
@[simp] theorem R.CLS_TERN_SELECT_high : 0x10 < R.CLS_TERN_SELECT.base := by decide
@[simp] theorem R.LDG_LEDGER_MAX_high : 0x10 < R.LDG_LEDGER_MAX.base := by decide
@[simp] theorem R.LDG_LEDGER_SEED0_high : 0x10 < R.LDG_LEDGER_SEED0.base := by decide
@[simp] theorem R.LDG_LEDGER_SEED1_high : 0x10 < R.LDG_LEDGER_SEED1.base := by decide
@[simp] theorem R.LDG_LEDGER_COUNT_high : 0x10 < R.LDG_LEDGER_COUNT.base := by decide
@[simp] theorem R.LDG_LEDGER_LEARN_high : 0x10 < R.LDG_LEDGER_LEARN.base := by decide
@[simp] theorem R.LDG_LEDGER_SELECT_high : 0x10 < R.LDG_LEDGER_SELECT.base := by decide
@[simp] theorem R.LDG_LEDGER_SELECT4_high : 0x10 < R.LDG_LEDGER_SELECT4.base := by decide
@[simp] theorem R.LDG_LOOKUP_SELECT_high : 0x10 < R.LDG_LOOKUP_SELECT.base := by decide
@[simp] theorem R.LDG_PROFILE_MISS_high : 0x10 < R.LDG_PROFILE_MISS.base := by decide
@[simp] theorem R.LDG_AUDIT_CFG_high : 0x10 < R.LDG_AUDIT_CFG.base := by decide
@[simp] theorem R.LDG_AUDIT_ADDR_LO_high : 0x10 < R.LDG_AUDIT_ADDR_LO.base := by decide
@[simp] theorem R.LDG_AUDIT_ADDR_HI_high : 0x10 < R.LDG_AUDIT_ADDR_HI.base := by decide
@[simp] theorem R.LDG_AUDIT_SLOT_high : 0x10 < R.LDG_AUDIT_SLOT.base := by decide
@[simp] theorem R.CLRK_IMAGE_high : 0x10 < R.CLRK_IMAGE.base := by decide
@[simp] theorem R.CLRK_KR_high : 0x10 < R.CLRK_KR.base := by decide
@[simp] theorem R.CTH_DIE_MEMBERS_high : 0x10 < R.CTH_DIE_MEMBERS.base := by decide
@[simp] theorem R.CTH_SYN_MEMBER_BASE_high : 0x10 < R.CTH_SYN_MEMBER_BASE.base := by decide
@[simp] theorem R.CTH_SYN_ABORT_COUNT_high : 0x10 < R.CTH_SYN_ABORT_COUNT.base := by decide
@[simp] theorem F.BOOT_STATUS_READY_high : 0x10 < F.BOOT_STATUS_READY.reg.base := by decide
@[simp] theorem F.BOOT_STATUS_BUF0_FREE_high : 0x10 < F.BOOT_STATUS_BUF0_FREE.reg.base := by decide
@[simp] theorem F.BOOT_STATUS_BUF1_FREE_high : 0x10 < F.BOOT_STATUS_BUF1_FREE.reg.base := by decide
@[simp] theorem F.BOOT_STATUS_VERIFYING_high : 0x10 < F.BOOT_STATUS_VERIFYING.reg.base := by decide
@[simp] theorem F.BOOT_STATUS_DONE_high : 0x10 < F.BOOT_STATUS_DONE.reg.base := by decide
@[simp] theorem F.BOOT_STATUS_SOURCE_high : 0x10 < F.BOOT_STATUS_SOURCE.reg.base := by decide
@[simp] theorem F.BOOT_STATUS_ERROR_high : 0x10 < F.BOOT_STATUS_ERROR.reg.base := by decide
@[simp] theorem F.BOOT_STATUS_PAGES_ACCEPTED_high : 0x10 < F.BOOT_STATUS_PAGES_ACCEPTED.reg.base := by decide
@[simp] theorem F.BOOT_CTL_START_high : 0x10 < F.BOOT_CTL_START.reg.base := by decide
@[simp] theorem F.BOOT_CTL_ABORT_high : 0x10 < F.BOOT_CTL_ABORT.reg.base := by decide
@[simp] theorem F.BOOT_ERR_PAGE_PAGE_high : 0x10 < F.BOOT_ERR_PAGE_PAGE.reg.base := by decide
@[simp] theorem F.BOOT_WINDOW_REJECTS_COUNT_high : 0x10 < F.BOOT_WINDOW_REJECTS_COUNT.reg.base := by decide
@[simp] theorem F.BOOT_PAGE_CTL_INDEX_high : 0x10 < F.BOOT_PAGE_CTL_INDEX.reg.base := by decide
@[simp] theorem F.BOOT_PAGE_CTL_GO_high : 0x10 < F.BOOT_PAGE_CTL_GO.reg.base := by decide
@[simp] theorem F.BOOT_PAGE_CRC_CRC_high : 0x10 < F.BOOT_PAGE_CRC_CRC.reg.base := by decide
@[simp] theorem F.GLB_CHARTER_VERSION_BUILD_high : 0x10 < F.GLB_CHARTER_VERSION_BUILD.reg.base := by decide
@[simp] theorem F.GLB_CHARTER_VERSION_MINOR_high : 0x10 < F.GLB_CHARTER_VERSION_MINOR.reg.base := by decide
@[simp] theorem F.GLB_CHARTER_VERSION_MAJOR_high : 0x10 < F.GLB_CHARTER_VERSION_MAJOR.reg.base := by decide
@[simp] theorem F.GLB_CHARTER_CRC_IMAGE_CRC_high : 0x10 < F.GLB_CHARTER_CRC_IMAGE_CRC.reg.base := by decide
@[simp] theorem F.GLB_PATCH_LEVEL_LEVEL_high : 0x10 < F.GLB_PATCH_LEVEL_LEVEL.reg.base := by decide
@[simp] theorem F.GLB_PATCH_LEVEL_LAST_STATUS_high : 0x10 < F.GLB_PATCH_LEVEL_LAST_STATUS.reg.base := by decide
@[simp] theorem F.GLB_PATCH_LEVEL_REJECTS_high : 0x10 < F.GLB_PATCH_LEVEL_REJECTS.reg.base := by decide
@[simp] theorem F.GLB_CLERK_STORE_VERSION_BUILD_high : 0x10 < F.GLB_CLERK_STORE_VERSION_BUILD.reg.base := by decide
@[simp] theorem F.GLB_CLERK_STORE_VERSION_MINOR_high : 0x10 < F.GLB_CLERK_STORE_VERSION_MINOR.reg.base := by decide
@[simp] theorem F.GLB_CLERK_STORE_VERSION_MAJOR_high : 0x10 < F.GLB_CLERK_STORE_VERSION_MAJOR.reg.base := by decide
@[simp] theorem F.GLB_RESET_CFG_PERST_SCOPE_high : 0x10 < F.GLB_RESET_CFG_PERST_SCOPE.reg.base := by decide
@[simp] theorem F.GLB_RESET_CFG_SPI_LOCK_high : 0x10 < F.GLB_RESET_CFG_SPI_LOCK.reg.base := by decide
@[simp] theorem F.GLB_RESET_CFG_PATCH_LOCK_high : 0x10 < F.GLB_RESET_CFG_PATCH_LOCK.reg.base := by decide
@[simp] theorem F.GLB_RESET_CFG_RELOAD_LOCK_high : 0x10 < F.GLB_RESET_CFG_RELOAD_LOCK.reg.base := by decide
@[simp] theorem F.GLB_RESET_CAUSE_POWER_ON_high : 0x10 < F.GLB_RESET_CAUSE_POWER_ON.reg.base := by decide
@[simp] theorem F.GLB_RESET_CAUSE_RESET_PIN_high : 0x10 < F.GLB_RESET_CAUSE_RESET_PIN.reg.base := by decide
@[simp] theorem F.GLB_RESET_CAUSE_PERST_PIN_high : 0x10 < F.GLB_RESET_CAUSE_PERST_PIN.reg.base := by decide
@[simp] theorem F.GLB_RESET_CAUSE_CLH_CHIP_RESET_high : 0x10 < F.GLB_RESET_CAUSE_CLH_CHIP_RESET.reg.base := by decide
@[simp] theorem F.GLB_RESET_CAUSE_RESETS_high : 0x10 < F.GLB_RESET_CAUSE_RESETS.reg.base := by decide
@[simp] theorem F.GLB_SESSION_STANDBY_ENTRIES_high : 0x10 < F.GLB_SESSION_STANDBY_ENTRIES.reg.base := by decide
@[simp] theorem F.GLB_SESSION_POWER_TAG_high : 0x10 < F.GLB_SESSION_POWER_TAG.reg.base := by decide
@[simp] theorem F.GLB_RAIL_STATUS_GOOD_high : 0x10 < F.GLB_RAIL_STATUS_GOOD.reg.base := by decide
@[simp] theorem F.MBX_DOORBELL_SEQ_high : 0x10 < F.MBX_DOORBELL_SEQ.reg.base := by decide
@[simp] theorem F.MBX_STATUS_RESP_VALID_high : 0x10 < F.MBX_STATUS_RESP_VALID.reg.base := by decide
@[simp] theorem F.MBX_STATUS_BUSY_high : 0x10 < F.MBX_STATUS_BUSY.reg.base := by decide
@[simp] theorem F.MBX_STATUS_ALIVE_high : 0x10 < F.MBX_STATUS_ALIVE.reg.base := by decide
@[simp] theorem F.MBX_STATUS_PREEMPTED_high : 0x10 < F.MBX_STATUS_PREEMPTED.reg.base := by decide
@[simp] theorem F.MBX_STATUS_DOORBELL_DROPS_high : 0x10 < F.MBX_STATUS_DOORBELL_DROPS.reg.base := by decide
@[simp] theorem F.MBX_STATUS_REQ_WRITE_DROPS_high : 0x10 < F.MBX_STATUS_REQ_WRITE_DROPS.reg.base := by decide
@[simp] theorem F.MBX_LAST_LAST_SEQ_high : 0x10 < F.MBX_LAST_LAST_SEQ.reg.base := by decide
@[simp] theorem F.MBX_LAST_LAST_VALID_high : 0x10 < F.MBX_LAST_LAST_VALID.reg.base := by decide
@[simp] theorem F.MBX_CTL_IRQ_EN_high : 0x10 < F.MBX_CTL_IRQ_EN.reg.base := by decide
@[simp] theorem F.MBX_CTL_PCIE_WRITE_high : 0x10 < F.MBX_CTL_PCIE_WRITE.reg.base := by decide
@[simp] theorem F.MBX_CTL_VECTOR_high : 0x10 < F.MBX_CTL_VECTOR.reg.base := by decide
@[simp] theorem F.TLR_STATUS_ROM_high : 0x10 < F.TLR_STATUS_ROM.reg.base := by decide
@[simp] theorem F.TLR_STATUS_CORE_RUN_high : 0x10 < F.TLR_STATUS_CORE_RUN.reg.base := by decide
@[simp] theorem F.TLR_STATUS_URGENT_ACTIVE_high : 0x10 < F.TLR_STATUS_URGENT_ACTIVE.reg.base := by decide
@[simp] theorem F.TLR_STATUS_PATCH_INSTALLING_high : 0x10 < F.TLR_STATUS_PATCH_INSTALLING.reg.base := by decide
@[simp] theorem F.TLR_STATUS_EXECUTING_high : 0x10 < F.TLR_STATUS_EXECUTING.reg.base := by decide
@[simp] theorem F.TLR_STATUS_ALIVE_high : 0x10 < F.TLR_STATUS_ALIVE.reg.base := by decide
@[simp] theorem F.TLR_MBX_CMD_SEQ_high : 0x10 < F.TLR_MBX_CMD_SEQ.reg.base := by decide
@[simp] theorem F.TLR_MBX_CMD_OPCODE_high : 0x10 < F.TLR_MBX_CMD_OPCODE.reg.base := by decide
@[simp] theorem F.TLR_MBX_RUN_ELAPSED_high : 0x10 < F.TLR_MBX_RUN_ELAPSED.reg.base := by decide
@[simp] theorem F.TLR_MBX_RUN_STATE_high : 0x10 < F.TLR_MBX_RUN_STATE.reg.base := by decide
@[simp] theorem F.TLR_MBX_RUN_EXECUTOR_high : 0x10 < F.TLR_MBX_RUN_EXECUTOR.reg.base := by decide
@[simp] theorem F.TLR_GRANT_BLOCKS_GRANTED_high : 0x10 < F.TLR_GRANT_BLOCKS_GRANTED.reg.base := by decide
@[simp] theorem F.TLR_GRANT_QUIRE_GRANTED_high : 0x10 < F.TLR_GRANT_QUIRE_GRANTED.reg.base := by decide
@[simp] theorem F.TLR_LEASE_REMAINING_MS_high : 0x10 < F.TLR_LEASE_REMAINING_MS.reg.base := by decide
@[simp] theorem F.TLR_UNGRANTED_WRITES_COUNT_high : 0x10 < F.TLR_UNGRANTED_WRITES_COUNT.reg.base := by decide
@[simp] theorem F.TLR_UNGRANTED_LAST_OFFSET_high : 0x10 < F.TLR_UNGRANTED_LAST_OFFSET.reg.base := by decide
@[simp] theorem F.TLR_HIST_HEAD_NEXT_high : 0x10 < F.TLR_HIST_HEAD_NEXT.reg.base := by decide
@[simp] theorem F.TLR_ASYNC_STATE_RUNNING_high : 0x10 < F.TLR_ASYNC_STATE_RUNNING.reg.base := by decide
@[simp] theorem F.TLR_ASYNC_STATE_UNREAD_high : 0x10 < F.TLR_ASYNC_STATE_UNREAD.reg.base := by decide
@[simp] theorem F.TLR_ASYNC_STATE_LOST_high : 0x10 < F.TLR_ASYNC_STATE_LOST.reg.base := by decide
@[simp] theorem F.TLR_DEADLINE_MISSES_COUNT_high : 0x10 < F.TLR_DEADLINE_MISSES_COUNT.reg.base := by decide
@[simp] theorem F.TLR_CORE_PC_LO_PC_high : 0x10 < F.TLR_CORE_PC_LO_PC.reg.base := by decide
@[simp] theorem F.TLR_CORE_PC_HI_PC_high : 0x10 < F.TLR_CORE_PC_HI_PC.reg.base := by decide
@[simp] theorem F.CKG_QUAL_CFG_TOL_PPM_high : 0x10 < F.CKG_QUAL_CFG_TOL_PPM.reg.base := by decide
@[simp] theorem F.CKG_QUAL_CFG_DISAGREE_INTERVALS_high : 0x10 < F.CKG_QUAL_CFG_DISAGREE_INTERVALS.reg.base := by decide
@[simp] theorem F.CKG_REF_STATUS_PRESENT_high : 0x10 < F.CKG_REF_STATUS_PRESENT.reg.base := by decide
@[simp] theorem F.CKG_REF_STATUS_QUALIFIED_high : 0x10 < F.CKG_REF_STATUS_QUALIFIED.reg.base := by decide
@[simp] theorem F.CKG_REF_STATUS_LOST_high : 0x10 < F.CKG_REF_STATUS_LOST.reg.base := by decide
@[simp] theorem F.CKG_REF_STATUS_DISAGREE_high : 0x10 < F.CKG_REF_STATUS_DISAGREE.reg.base := by decide
@[simp] theorem F.CKG_REF_STATUS_GOOD_RUN_high : 0x10 < F.CKG_REF_STATUS_GOOD_RUN.reg.base := by decide
@[simp] theorem F.CKG_REF_STATUS_LOST_COUNT_high : 0x10 < F.CKG_REF_STATUS_LOST_COUNT.reg.base := by decide
@[simp] theorem F.CKG_REF_STATUS_DISAGREE_COUNT_high : 0x10 < F.CKG_REF_STATUS_DISAGREE_COUNT.reg.base := by decide
@[simp] theorem F.CKG_REF_MEASURE_ERROR_PPM_high : 0x10 < F.CKG_REF_MEASURE_ERROR_PPM.reg.base := by decide
@[simp] theorem F.CKG_REF_MEASURE_COMPARE_high : 0x10 < F.CKG_REF_MEASURE_COMPARE.reg.base := by decide
@[simp] theorem F.CKG_WATCH_TRIM_CODE_high : 0x10 < F.CKG_WATCH_TRIM_CODE.reg.base := by decide
@[simp] theorem F.CKG_WATCH_TRIM_MODE_high : 0x10 < F.CKG_WATCH_TRIM_MODE.reg.base := by decide
@[simp] theorem F.CKG_WATCH_TRIM_PPS_PIN_high : 0x10 < F.CKG_WATCH_TRIM_PPS_PIN.reg.base := by decide
@[simp] theorem F.CKG_WATCH_TRIM_TRIMMED_high : 0x10 < F.CKG_WATCH_TRIM_TRIMMED.reg.base := by decide
@[simp] theorem F.CKG_WATCH_TRIM_AT_LIMIT_high : 0x10 < F.CKG_WATCH_TRIM_AT_LIMIT.reg.base := by decide
@[simp] theorem F.CKG_WATCH_FREQ_HZ_high : 0x10 < F.CKG_WATCH_FREQ_HZ.reg.base := by decide
@[simp] theorem F.CKG_PLL_STATUS_LOCKED_high : 0x10 < F.CKG_PLL_STATUS_LOCKED.reg.base := by decide
@[simp] theorem F.CKG_PLL_STATUS_UNLOCK_high : 0x10 < F.CKG_PLL_STATUS_UNLOCK.reg.base := by decide
@[simp] theorem F.CKG_PLL_STATUS_UNLOCK_COUNT_high : 0x10 < F.CKG_PLL_STATUS_UNLOCK_COUNT.reg.base := by decide
@[simp] theorem F.CKG_PLL_STATUS_INPUT_high : 0x10 < F.CKG_PLL_STATUS_INPUT.reg.base := by decide
@[simp] theorem F.CKG_DOMAIN_CFG_FALLBACK_EN_high : 0x10 < F.CKG_DOMAIN_CFG_FALLBACK_EN.reg.base := by decide
@[simp] theorem F.CKG_DOMAIN_CFG_AUTO_REVERT_high : 0x10 < F.CKG_DOMAIN_CFG_AUTO_REVERT.reg.base := by decide
@[simp] theorem F.CKG_DOMAIN_CFG_SELECT_high : 0x10 < F.CKG_DOMAIN_CFG_SELECT.reg.base := by decide
@[simp] theorem F.CKG_DOMAIN_STATUS_RUNNING_high : 0x10 < F.CKG_DOMAIN_STATUS_RUNNING.reg.base := by decide
@[simp] theorem F.CKG_DOMAIN_STATUS_ON_FALLBACK_high : 0x10 < F.CKG_DOMAIN_STATUS_ON_FALLBACK.reg.base := by decide
@[simp] theorem F.CKG_DOMAIN_STATUS_HELD_high : 0x10 < F.CKG_DOMAIN_STATUS_HELD.reg.base := by decide
@[simp] theorem F.CKG_DOMAIN_STATUS_SWITCHING_high : 0x10 < F.CKG_DOMAIN_STATUS_SWITCHING.reg.base := by decide
@[simp] theorem F.CKG_DOMAIN_STATUS_SWITCHES_high : 0x10 < F.CKG_DOMAIN_STATUS_SWITCHES.reg.base := by decide
@[simp] theorem F.CKG_DOMAIN_STATUS_LAST_PAUSE_NS_high : 0x10 < F.CKG_DOMAIN_STATUS_LAST_PAUSE_NS.reg.base := by decide
@[simp] theorem F.CKG_NOQS_LATCH_SET_high : 0x10 < F.CKG_NOQS_LATCH_SET.reg.base := by decide
@[simp] theorem F.CKG_NOQS_LATCH_RECORDED_high : 0x10 < F.CKG_NOQS_LATCH_RECORDED.reg.base := by decide
@[simp] theorem F.CKG_XING_STATUS_PEER_RESET_high : 0x10 < F.CKG_XING_STATUS_PEER_RESET.reg.base := by decide
@[simp] theorem F.CKG_XING_STATUS_EMPTY_high : 0x10 < F.CKG_XING_STATUS_EMPTY.reg.base := by decide
@[simp] theorem F.CKG_XING_STATUS_OVERFLOW_high : 0x10 < F.CKG_XING_STATUS_OVERFLOW.reg.base := by decide
@[simp] theorem F.CKG_XING_STATUS_OVF_COUNT_high : 0x10 < F.CKG_XING_STATUS_OVF_COUNT.reg.base := by decide
@[simp] theorem F.CKG_XING_STATUS_FILL_high : 0x10 < F.CKG_XING_STATUS_FILL.reg.base := by decide
@[simp] theorem F.CKG_XING_COUNT_LOST_high : 0x10 < F.CKG_XING_COUNT_LOST.reg.base := by decide
@[simp] theorem F.CKG_XING_COUNT_COALESCE_high : 0x10 < F.CKG_XING_COUNT_COALESCE.reg.base := by decide
@[simp] theorem F.LANE_CTL_ENABLE_high : 0x10 < F.LANE_CTL_ENABLE.reg.base := by decide
@[simp] theorem F.LANE_CTL_RATE_high : 0x10 < F.LANE_CTL_RATE.reg.base := by decide
@[simp] theorem F.LANE_CTL_CODING_high : 0x10 < F.LANE_CTL_CODING.reg.base := by decide
@[simp] theorem F.LANE_CTL_TX_INVERT_high : 0x10 < F.LANE_CTL_TX_INVERT.reg.base := by decide
@[simp] theorem F.LANE_CTL_RX_INVERT_high : 0x10 < F.LANE_CTL_RX_INVERT.reg.base := by decide
@[simp] theorem F.LANE_CTL_TX_SQUELCH_high : 0x10 < F.LANE_CTL_TX_SQUELCH.reg.base := by decide
@[simp] theorem F.LANE_CTL_EQ_MODE_high : 0x10 < F.LANE_CTL_EQ_MODE.reg.base := by decide
@[simp] theorem F.LANE_CTL_BAND_FORCE_EN_high : 0x10 < F.LANE_CTL_BAND_FORCE_EN.reg.base := by decide
@[simp] theorem F.LANE_CTL_BAND_FORCE_high : 0x10 < F.LANE_CTL_BAND_FORCE.reg.base := by decide
@[simp] theorem F.LANE_CTL_LOOPBACK_high : 0x10 < F.LANE_CTL_LOOPBACK.reg.base := by decide
@[simp] theorem F.LANE_STATUS_TX_READY_high : 0x10 < F.LANE_STATUS_TX_READY.reg.base := by decide
@[simp] theorem F.LANE_STATUS_SIGNAL_high : 0x10 < F.LANE_STATUS_SIGNAL.reg.base := by decide
@[simp] theorem F.LANE_STATUS_CDR_LOCK_high : 0x10 < F.LANE_STATUS_CDR_LOCK.reg.base := by decide
@[simp] theorem F.LANE_STATUS_EQ_INVALID_high : 0x10 < F.LANE_STATUS_EQ_INVALID.reg.base := by decide
@[simp] theorem F.LANE_STATUS_BAND_high : 0x10 < F.LANE_STATUS_BAND.reg.base := by decide
@[simp] theorem F.LANE_STATUS_STEPPING_high : 0x10 < F.LANE_STATUS_STEPPING.reg.base := by decide
@[simp] theorem F.LANE_STATUS_LOS_high : 0x10 < F.LANE_STATUS_LOS.reg.base := by decide
@[simp] theorem F.LANE_STATUS_CDR_UNLOCK_high : 0x10 < F.LANE_STATUS_CDR_UNLOCK.reg.base := by decide
@[simp] theorem F.LANE_STATUS_LOS_COUNT_high : 0x10 < F.LANE_STATUS_LOS_COUNT.reg.base := by decide
@[simp] theorem F.LANE_STATUS_UNLOCK_COUNT_high : 0x10 < F.LANE_STATUS_UNLOCK_COUNT.reg.base := by decide
@[simp] theorem F.LANE_EQ_NOW_TX_PRE2_high : 0x10 < F.LANE_EQ_NOW_TX_PRE2.reg.base := by decide
@[simp] theorem F.LANE_EQ_NOW_TX_PRE1_high : 0x10 < F.LANE_EQ_NOW_TX_PRE1.reg.base := by decide
@[simp] theorem F.LANE_EQ_NOW_TX_MAIN_high : 0x10 < F.LANE_EQ_NOW_TX_MAIN.reg.base := by decide
@[simp] theorem F.LANE_EQ_NOW_TX_POST1_high : 0x10 < F.LANE_EQ_NOW_TX_POST1.reg.base := by decide
@[simp] theorem F.LANE_EQ_NOW_TX_POST2_high : 0x10 < F.LANE_EQ_NOW_TX_POST2.reg.base := by decide
@[simp] theorem F.LANE_EQ_NOW_RX_CTLE_high : 0x10 < F.LANE_EQ_NOW_RX_CTLE.reg.base := by decide
@[simp] theorem F.LANE_EQ_NOW_RX_VGA_high : 0x10 < F.LANE_EQ_NOW_RX_VGA.reg.base := by decide
@[simp] theorem F.LANE_EQ_NOW_RX_RXFFE_PRE1_high : 0x10 < F.LANE_EQ_NOW_RX_RXFFE_PRE1.reg.base := by decide
@[simp] theorem F.LANE_EQ_NOW_RX_RXFFE_POST1_high : 0x10 < F.LANE_EQ_NOW_RX_RXFFE_POST1.reg.base := by decide
@[simp] theorem F.LANE_EQ_NOW_RX_RXFFE_POST2_high : 0x10 < F.LANE_EQ_NOW_RX_RXFFE_POST2.reg.base := by decide
@[simp] theorem F.LANE_EQ_ENT_TX_PRE2_high : 0x10 < F.LANE_EQ_ENT_TX_PRE2.reg.base := by decide
@[simp] theorem F.LANE_EQ_ENT_TX_PRE1_high : 0x10 < F.LANE_EQ_ENT_TX_PRE1.reg.base := by decide
@[simp] theorem F.LANE_EQ_ENT_TX_MAIN_high : 0x10 < F.LANE_EQ_ENT_TX_MAIN.reg.base := by decide
@[simp] theorem F.LANE_EQ_ENT_TX_POST1_high : 0x10 < F.LANE_EQ_ENT_TX_POST1.reg.base := by decide
@[simp] theorem F.LANE_EQ_ENT_TX_POST2_high : 0x10 < F.LANE_EQ_ENT_TX_POST2.reg.base := by decide
@[simp] theorem F.LANE_EQ_ENT_RX_CTLE_high : 0x10 < F.LANE_EQ_ENT_RX_CTLE.reg.base := by decide
@[simp] theorem F.LANE_EQ_ENT_RX_VGA_high : 0x10 < F.LANE_EQ_ENT_RX_VGA.reg.base := by decide
@[simp] theorem F.LANE_EQ_ENT_RX_RXFFE_PRE1_high : 0x10 < F.LANE_EQ_ENT_RX_RXFFE_PRE1.reg.base := by decide
@[simp] theorem F.LANE_EQ_ENT_RX_RXFFE_POST1_high : 0x10 < F.LANE_EQ_ENT_RX_RXFFE_POST1.reg.base := by decide
@[simp] theorem F.LANE_EQ_ENT_RX_RXFFE_POST2_high : 0x10 < F.LANE_EQ_ENT_RX_RXFFE_POST2.reg.base := by decide
@[simp] theorem F.LANE_EQ_ENT_RX_VALID_high : 0x10 < F.LANE_EQ_ENT_RX_VALID.reg.base := by decide
@[simp] theorem F.LANE_PRBS_CTL_GEN_PATTERN_high : 0x10 < F.LANE_PRBS_CTL_GEN_PATTERN.reg.base := by decide
@[simp] theorem F.LANE_PRBS_CTL_GEN_EN_high : 0x10 < F.LANE_PRBS_CTL_GEN_EN.reg.base := by decide
@[simp] theorem F.LANE_PRBS_CTL_CHK_PATTERN_high : 0x10 < F.LANE_PRBS_CTL_CHK_PATTERN.reg.base := by decide
@[simp] theorem F.LANE_PRBS_CTL_CHK_EN_high : 0x10 < F.LANE_PRBS_CTL_CHK_EN.reg.base := by decide
@[simp] theorem F.LANE_PRBS_CTL_THRESHOLD_LOG2_high : 0x10 < F.LANE_PRBS_CTL_THRESHOLD_LOG2.reg.base := by decide
@[simp] theorem F.LANE_INJ_CFG_MODE_high : 0x10 < F.LANE_INJ_CFG_MODE.reg.base := by decide
@[simp] theorem F.LANE_INJ_CFG_FIRE_high : 0x10 < F.LANE_INJ_CFG_FIRE.reg.base := by decide
@[simp] theorem F.LANE_INJ_CFG_BURST_LEN_high : 0x10 < F.LANE_INJ_CFG_BURST_LEN.reg.base := by decide
@[simp] theorem F.LANE_INJ_CFG_PERIOD_LOG2_high : 0x10 < F.LANE_INJ_CFG_PERIOD_LOG2.reg.base := by decide
@[simp] theorem F.LANE_PRBS_STATUS_CHK_LOCK_high : 0x10 < F.LANE_PRBS_STATUS_CHK_LOCK.reg.base := by decide
@[simp] theorem F.LANE_PRBS_STATUS_LOCK_LOST_high : 0x10 < F.LANE_PRBS_STATUS_LOCK_LOST.reg.base := by decide
@[simp] theorem F.LANE_PRBS_STATUS_THRESHOLD_HIT_high : 0x10 < F.LANE_PRBS_STATUS_THRESHOLD_HIT.reg.base := by decide
@[simp] theorem F.LANE_PRBS_STATUS_LOCK_LOST_COUNT_high : 0x10 < F.LANE_PRBS_STATUS_LOCK_LOST_COUNT.reg.base := by decide
@[simp] theorem F.LANE_PRBS_STATUS_THRESHOLD_COUNT_high : 0x10 < F.LANE_PRBS_STATUS_THRESHOLD_COUNT.reg.base := by decide
@[simp] theorem F.LANE_PRBS_BIT_ERR_COUNT_high : 0x10 < F.LANE_PRBS_BIT_ERR_COUNT.reg.base := by decide
@[simp] theorem F.LANE_PRBS_SYM_ERR_COUNT_high : 0x10 < F.LANE_PRBS_SYM_ERR_COUNT.reg.base := by decide
@[simp] theorem F.LANE_PRBS_COMPARED_COUNT_high : 0x10 < F.LANE_PRBS_COMPARED_COUNT.reg.base := by decide
@[simp] theorem F.LANE_USER_PATTERN_SYMBOLS_high : 0x10 < F.LANE_USER_PATTERN_SYMBOLS.reg.base := by decide
@[simp] theorem F.LANE_QUIRE_TEMP_TEMP_high : 0x10 < F.LANE_QUIRE_TEMP_TEMP.reg.base := by decide
@[simp] theorem F.LANE_BOARD_ID_BOARD_ID_high : 0x10 < F.LANE_BOARD_ID_BOARD_ID.reg.base := by decide
@[simp] theorem F.PCS_STATUS_AM_LOCK_high : 0x10 < F.PCS_STATUS_AM_LOCK.reg.base := by decide
@[simp] theorem F.PCS_STATUS_ALIGNED_high : 0x10 < F.PCS_STATUS_ALIGNED.reg.base := by decide
@[simp] theorem F.PCS_STATUS_DEGRADED_high : 0x10 < F.PCS_STATUS_DEGRADED.reg.base := by decide
@[simp] theorem F.PCS_STATUS_ALIGN_LOSS_high : 0x10 < F.PCS_STATUS_ALIGN_LOSS.reg.base := by decide
@[simp] theorem F.PCS_STATUS_DEGRADE_SET_high : 0x10 < F.PCS_STATUS_DEGRADE_SET.reg.base := by decide
@[simp] theorem F.PCS_STATUS_ALIGN_LOSS_COUNT_high : 0x10 < F.PCS_STATUS_ALIGN_LOSS_COUNT.reg.base := by decide
@[simp] theorem F.PCS_STATUS_DEGRADE_COUNT_high : 0x10 < F.PCS_STATUS_DEGRADE_COUNT.reg.base := by decide
@[simp] theorem F.PCS_STATUS_SKEW_NS_high : 0x10 < F.PCS_STATUS_SKEW_NS.reg.base := by decide
@[simp] theorem F.PCS_FEC_CFG_THRESHOLD_high : 0x10 < F.PCS_FEC_CFG_THRESHOLD.reg.base := by decide
@[simp] theorem F.PCS_FEC_CFG_WINDOW_LOG2_high : 0x10 < F.PCS_FEC_CFG_WINDOW_LOG2.reg.base := by decide
@[simp] theorem F.PCS_FEC_CORRECTED_COUNT_high : 0x10 < F.PCS_FEC_CORRECTED_COUNT.reg.base := by decide
@[simp] theorem F.PCS_FEC_UNCORRECTED_COUNT_high : 0x10 < F.PCS_FEC_UNCORRECTED_COUNT.reg.base := by decide
@[simp] theorem F.STCH_CTL_RETRAIN_high : 0x10 < F.STCH_CTL_RETRAIN.reg.base := by decide
@[simp] theorem F.STCH_CTL_REPLAY_LIMIT_high : 0x10 < F.STCH_CTL_REPLAY_LIMIT.reg.base := by decide
@[simp] theorem F.STCH_CTL_NAK_TIMEOUT_high : 0x10 < F.STCH_CTL_NAK_TIMEOUT.reg.base := by decide
@[simp] theorem F.STCH_STATUS_BLOCK_LOCK_high : 0x10 < F.STCH_STATUS_BLOCK_LOCK.reg.base := by decide
@[simp] theorem F.STCH_STATUS_SIG_LOCK_high : 0x10 < F.STCH_STATUS_SIG_LOCK.reg.base := by decide
@[simp] theorem F.STCH_STATUS_LINK_UP_high : 0x10 < F.STCH_STATUS_LINK_UP.reg.base := by decide
@[simp] theorem F.STCH_STATUS_RETRAINING_high : 0x10 < F.STCH_STATUS_RETRAINING.reg.base := by decide
@[simp] theorem F.STCH_STATUS_NAK_PENDING_high : 0x10 < F.STCH_STATUS_NAK_PENDING.reg.base := by decide
@[simp] theorem F.STCH_STATUS_LOCK_LOSS_high : 0x10 < F.STCH_STATUS_LOCK_LOSS.reg.base := by decide
@[simp] theorem F.STCH_STATUS_RETRAINED_high : 0x10 < F.STCH_STATUS_RETRAINED.reg.base := by decide
@[simp] theorem F.STCH_STATUS_REPLAY_MISS_high : 0x10 < F.STCH_STATUS_REPLAY_MISS.reg.base := by decide
@[simp] theorem F.STCH_STATUS_LOCK_LOSS_COUNT_high : 0x10 < F.STCH_STATUS_LOCK_LOSS_COUNT.reg.base := by decide
@[simp] theorem F.STCH_STATUS_RETRAIN_COUNT_high : 0x10 < F.STCH_STATUS_RETRAIN_COUNT.reg.base := by decide
@[simp] theorem F.STCH_STATUS_REPLAY_MISS_COUNT_high : 0x10 < F.STCH_STATUS_REPLAY_MISS_COUNT.reg.base := by decide
@[simp] theorem F.STCH_TX_SEQ_NEXT_high : 0x10 < F.STCH_TX_SEQ_NEXT.reg.base := by decide
@[simp] theorem F.STCH_TX_SEQ_HELD_high : 0x10 < F.STCH_TX_SEQ_HELD.reg.base := by decide
@[simp] theorem F.STCH_RX_SEQ_EXPECT_high : 0x10 < F.STCH_RX_SEQ_EXPECT.reg.base := by decide
@[simp] theorem F.STCH_RX_SEQ_NAK_COUNT_high : 0x10 < F.STCH_RX_SEQ_NAK_COUNT.reg.base := by decide
@[simp] theorem F.STCH_FRAME_TX_NEXT_high : 0x10 < F.STCH_FRAME_TX_NEXT.reg.base := by decide
@[simp] theorem F.STCH_FRAME_RX_NEXT_high : 0x10 < F.STCH_FRAME_RX_NEXT.reg.base := by decide
@[simp] theorem F.STCH_COUNT_A_SIG_CRC_ERRORS_high : 0x10 < F.STCH_COUNT_A_SIG_CRC_ERRORS.reg.base := by decide
@[simp] theorem F.STCH_COUNT_A_HEADER_ERRORS_high : 0x10 < F.STCH_COUNT_A_HEADER_ERRORS.reg.base := by decide
@[simp] theorem F.STCH_COUNT_B_REPLAYS_SENT_high : 0x10 < F.STCH_COUNT_B_REPLAYS_SENT.reg.base := by decide
@[simp] theorem F.STCH_COUNT_B_RX_FRAMES_ABORTED_high : 0x10 < F.STCH_COUNT_B_RX_FRAMES_ABORTED.reg.base := by decide
@[simp] theorem F.STCH_COUNT_C_TX_FRAMES_DISCARDED_high : 0x10 < F.STCH_COUNT_C_TX_FRAMES_DISCARDED.reg.base := by decide
@[simp] theorem F.STCH_COUNT_C_STUFF_ERRORS_high : 0x10 < F.STCH_COUNT_C_STUFF_ERRORS.reg.base := by decide
@[simp] theorem F.MAC_CFG_ADMIN_UP_high : 0x10 < F.MAC_CFG_ADMIN_UP.reg.base := by decide
@[simp] theorem F.MAC_CFG_SPEED_high : 0x10 < F.MAC_CFG_SPEED.reg.base := by decide
@[simp] theorem F.MAC_CFG_LEN_OVERHEAD_high : 0x10 < F.MAC_CFG_LEN_OVERHEAD.reg.base := by decide
@[simp] theorem F.MAC_CFG_MAX_FRAME_high : 0x10 < F.MAC_CFG_MAX_FRAME.reg.base := by decide
@[simp] theorem F.MAC_CFG2_UP_HOLD_US_high : 0x10 < F.MAC_CFG2_UP_HOLD_US.reg.base := by decide
@[simp] theorem F.MAC_CFG2_FLAP_LIMIT_high : 0x10 < F.MAC_CFG2_FLAP_LIMIT.reg.base := by decide
@[simp] theorem F.MAC_STATUS_CONFIGURED_high : 0x10 < F.MAC_STATUS_CONFIGURED.reg.base := by decide
@[simp] theorem F.MAC_STATUS_OPER_UP_high : 0x10 < F.MAC_STATUS_OPER_UP.reg.base := by decide
@[simp] theorem F.MAC_STATUS_LINK_high : 0x10 < F.MAC_STATUS_LINK.reg.base := by decide
@[simp] theorem F.MAC_STATUS_LOCAL_FAULT_high : 0x10 < F.MAC_STATUS_LOCAL_FAULT.reg.base := by decide
@[simp] theorem F.MAC_STATUS_REMOTE_FAULT_high : 0x10 < F.MAC_STATUS_REMOTE_FAULT.reg.base := by decide
@[simp] theorem F.MAC_STATUS_ERR_DISABLED_high : 0x10 < F.MAC_STATUS_ERR_DISABLED.reg.base := by decide
@[simp] theorem F.MAC_STATUS_DOWN_high : 0x10 < F.MAC_STATUS_DOWN.reg.base := by decide
@[simp] theorem F.MAC_STATUS_ERR_DIS_SET_high : 0x10 < F.MAC_STATUS_ERR_DIS_SET.reg.base := by decide
@[simp] theorem F.MAC_STATUS_DOWN_COUNT_high : 0x10 < F.MAC_STATUS_DOWN_COUNT.reg.base := by decide
@[simp] theorem F.MAC_STATUS_FLAPS_IN_WINDOW_high : 0x10 < F.MAC_STATUS_FLAPS_IN_WINDOW.reg.base := by decide
@[simp] theorem F.MAC_STATUS_ERR_DIS_COUNT_high : 0x10 < F.MAC_STATUS_ERR_DIS_COUNT.reg.base := by decide
@[simp] theorem F.MAC_PFC_CFG_RX_EN_high : 0x10 < F.MAC_PFC_CFG_RX_EN.reg.base := by decide
@[simp] theorem F.MAC_PFC_CFG_TX_EN_high : 0x10 < F.MAC_PFC_CFG_TX_EN.reg.base := by decide
@[simp] theorem F.MAC_PFC_CFG_TX_QUANTA_high : 0x10 < F.MAC_PFC_CFG_TX_QUANTA.reg.base := by decide
@[simp] theorem F.MAC_PFC_STORM_DETECT_MS_high : 0x10 < F.MAC_PFC_STORM_DETECT_MS.reg.base := by decide
@[simp] theorem F.MAC_PFC_STORM_ACTION_high : 0x10 < F.MAC_PFC_STORM_ACTION.reg.base := by decide
@[simp] theorem F.MAC_PFC_STORM_RECOVER_MS_high : 0x10 < F.MAC_PFC_STORM_RECOVER_MS.reg.base := by decide
@[simp] theorem F.MAC_PFC_QMAP_MAP_LO_high : 0x10 < F.MAC_PFC_QMAP_MAP_LO.reg.base := by decide
@[simp] theorem F.MAC_PFC_QMAP_MAP_HI_high : 0x10 < F.MAC_PFC_QMAP_MAP_HI.reg.base := by decide
@[simp] theorem F.MAC_PFC_STATUS_PAUSED_high : 0x10 < F.MAC_PFC_STATUS_PAUSED.reg.base := by decide
@[simp] theorem F.MAC_PFC_STATUS_STORM_high : 0x10 < F.MAC_PFC_STATUS_STORM.reg.base := by decide
@[simp] theorem F.MAC_PFC_STATUS_STORM_SET_high : 0x10 < F.MAC_PFC_STATUS_STORM_SET.reg.base := by decide
@[simp] theorem F.MAC_PFC_STATUS_STORM_COUNT_high : 0x10 < F.MAC_PFC_STATUS_STORM_COUNT.reg.base := by decide
@[simp] theorem F.MAC_PFC_TIMER_REMAINING_high : 0x10 < F.MAC_PFC_TIMER_REMAINING.reg.base := by decide
@[simp] theorem F.MAC_PFC_TIMER_TX_XOFF_high : 0x10 < F.MAC_PFC_TIMER_TX_XOFF.reg.base := by decide
@[simp] theorem F.MAC_PREEMPT_CFG_ENABLE_high : 0x10 < F.MAC_PREEMPT_CFG_ENABLE.reg.base := by decide
@[simp] theorem F.MAC_PREEMPT_CFG_VERIFY_DISABLE_high : 0x10 < F.MAC_PREEMPT_CFG_VERIFY_DISABLE.reg.base := by decide
@[simp] theorem F.MAC_PREEMPT_CFG_ADD_FRAG_SIZE_high : 0x10 < F.MAC_PREEMPT_CFG_ADD_FRAG_SIZE.reg.base := by decide
@[simp] theorem F.MAC_PREEMPT_CFG_VERIFY_MS_high : 0x10 < F.MAC_PREEMPT_CFG_VERIFY_MS.reg.base := by decide
@[simp] theorem F.MAC_PREEMPT_CFG_VERIFY_LIMIT_high : 0x10 < F.MAC_PREEMPT_CFG_VERIFY_LIMIT.reg.base := by decide
@[simp] theorem F.MAC_PREEMPT_CFG_EXPRESS_QMASK_high : 0x10 < F.MAC_PREEMPT_CFG_EXPRESS_QMASK.reg.base := by decide
@[simp] theorem F.MAC_PREEMPT_STATUS_STATE_high : 0x10 < F.MAC_PREEMPT_STATUS_STATE.reg.base := by decide
@[simp] theorem F.MAC_PREEMPT_STATUS_VERIFY_FAIL_high : 0x10 < F.MAC_PREEMPT_STATUS_VERIFY_FAIL.reg.base := by decide
@[simp] theorem F.MAC_PREEMPT_STATUS_ATTEMPTS_high : 0x10 < F.MAC_PREEMPT_STATUS_ATTEMPTS.reg.base := by decide
@[simp] theorem F.MAC_PREEMPT_STATUS_FAIL_COUNT_high : 0x10 < F.MAC_PREEMPT_STATUS_FAIL_COUNT.reg.base := by decide
@[simp] theorem F.MAC_SA_LO_ADDR_high : 0x10 < F.MAC_SA_LO_ADDR.reg.base := by decide
@[simp] theorem F.MAC_SA_HI_ADDR_high : 0x10 < F.MAC_SA_HI_ADDR.reg.base := by decide
@[simp] theorem F.MAC_STAT_LO_COUNT_high : 0x10 < F.MAC_STAT_LO_COUNT.reg.base := by decide
@[simp] theorem F.MAC_STAT_HI_COUNT_high : 0x10 < F.MAC_STAT_HI_COUNT.reg.base := by decide
@[simp] theorem F.MAC_STAT_SAT_SAT_high : 0x10 < F.MAC_STAT_SAT_SAT.reg.base := by decide
@[simp] theorem F.PRS_PORT_CFG_FALLBACK_PROFILE_high : 0x10 < F.PRS_PORT_CFG_FALLBACK_PROFILE.reg.base := by decide
@[simp] theorem F.PRS_PORT_CFG_START_STATE_high : 0x10 < F.PRS_PORT_CFG_START_STATE.reg.base := by decide
@[simp] theorem F.PRS_PIPE_CFG_DEPTH_high : 0x10 < F.PRS_PIPE_CFG_DEPTH.reg.base := by decide
@[simp] theorem F.PRS_PIPE_CFG_REACT_1_high : 0x10 < F.PRS_PIPE_CFG_REACT_1.reg.base := by decide
@[simp] theorem F.PRS_PIPE_CFG_REACT_2_high : 0x10 < F.PRS_PIPE_CFG_REACT_2.reg.base := by decide
@[simp] theorem F.PRS_PIPE_CFG_REACT_3_high : 0x10 < F.PRS_PIPE_CFG_REACT_3.reg.base := by decide
@[simp] theorem F.PRS_PIPE_CFG_REACT_4_high : 0x10 < F.PRS_PIPE_CFG_REACT_4.reg.base := by decide
@[simp] theorem F.PRS_PIPE_CFG_ACTIVE_BANK_high : 0x10 < F.PRS_PIPE_CFG_ACTIVE_BANK.reg.base := by decide
@[simp] theorem F.PRS_PIPE_CFG_SWAP_high : 0x10 < F.PRS_PIPE_CFG_SWAP.reg.base := by decide
@[simp] theorem F.PRS_PIPE_STATUS_PARITY_high : 0x10 < F.PRS_PIPE_STATUS_PARITY.reg.base := by decide
@[simp] theorem F.PRS_PIPE_STATUS_SWAPPED_high : 0x10 < F.PRS_PIPE_STATUS_SWAPPED.reg.base := by decide
@[simp] theorem F.PRS_PIPE_STATUS_PARITY_COUNT_high : 0x10 < F.PRS_PIPE_STATUS_PARITY_COUNT.reg.base := by decide
@[simp] theorem F.PRS_PIPE_STATUS_SWAP_COUNT_high : 0x10 < F.PRS_PIPE_STATUS_SWAP_COUNT.reg.base := by decide
@[simp] theorem F.PRS_PIPE_STATUS_ACTIVE_WRITE_DROPS_high : 0x10 < F.PRS_PIPE_STATUS_ACTIVE_WRITE_DROPS.reg.base := by decide
@[simp] theorem F.PRS_TABLE_ID_TABLE_ID_high : 0x10 < F.PRS_TABLE_ID_TABLE_ID.reg.base := by decide
@[simp] theorem F.PRS_TRACE_CTL_ARM_high : 0x10 < F.PRS_TRACE_CTL_ARM.reg.base := by decide
@[simp] theorem F.PRS_TRACE_CTL_PORT_EN_high : 0x10 < F.PRS_TRACE_CTL_PORT_EN.reg.base := by decide
@[simp] theorem F.PRS_TRACE_CTL_PORT_high : 0x10 < F.PRS_TRACE_CTL_PORT.reg.base := by decide
@[simp] theorem F.PRS_TRACE_CTL_DONE_high : 0x10 < F.PRS_TRACE_CTL_DONE.reg.base := by decide
@[simp] theorem F.PRS_TRACE_REC_WORD_high : 0x10 < F.PRS_TRACE_REC_WORD.reg.base := by decide
@[simp] theorem F.PRS_STAT_LO_COUNT_high : 0x10 < F.PRS_STAT_LO_COUNT.reg.base := by decide
@[simp] theorem F.PRS_STAT_HI_COUNT_high : 0x10 < F.PRS_STAT_HI_COUNT.reg.base := by decide
@[simp] theorem F.PRS_STAT_SAT_SAT_high : 0x10 < F.PRS_STAT_SAT_SAT.reg.base := by decide
@[simp] theorem F.DMA_PUNT_CFG_RATE_high : 0x10 < F.DMA_PUNT_CFG_RATE.reg.base := by decide
@[simp] theorem F.DMA_PUNT_CFG2_BURST_high : 0x10 < F.DMA_PUNT_CFG2_BURST.reg.base := by decide
@[simp] theorem F.DMA_PUNT_CFG2_HOST_QUEUE_high : 0x10 < F.DMA_PUNT_CFG2_HOST_QUEUE.reg.base := by decide
@[simp] theorem F.DMA_PUNT_STATUS_DROP_high : 0x10 < F.DMA_PUNT_STATUS_DROP.reg.base := by decide
@[simp] theorem F.DMA_PUNT_STATUS_DROP_COUNT_high : 0x10 < F.DMA_PUNT_STATUS_DROP_COUNT.reg.base := by decide
@[simp] theorem F.DMA_PUNT_STATUS_TOKENS_high : 0x10 < F.DMA_PUNT_STATUS_TOKENS.reg.base := by decide
@[simp] theorem F.DMA_PUNT_PASSED_LO_COUNT_high : 0x10 < F.DMA_PUNT_PASSED_LO_COUNT.reg.base := by decide
@[simp] theorem F.DMA_PUNT_PASSED_HI_COUNT_high : 0x10 < F.DMA_PUNT_PASSED_HI_COUNT.reg.base := by decide
@[simp] theorem F.DMA_PUNT_DROPS_LO_COUNT_high : 0x10 < F.DMA_PUNT_DROPS_LO_COUNT.reg.base := by decide
@[simp] theorem F.DMA_PUNT_DROPS_HI_COUNT_high : 0x10 < F.DMA_PUNT_DROPS_HI_COUNT.reg.base := by decide
@[simp] theorem F.CLS_POSTING_CURRENT_high : 0x10 < F.CLS_POSTING_CURRENT.reg.base := by decide
@[simp] theorem F.CLS_POSTING_OLDEST_high : 0x10 < F.CLS_POSTING_OLDEST.reg.base := by decide
@[simp] theorem F.CLS_POSTING_UNDRAINED_high : 0x10 < F.CLS_POSTING_UNDRAINED.reg.base := by decide
@[simp] theorem F.CLS_POSTING_SWITCH_PENDING_high : 0x10 < F.CLS_POSTING_SWITCH_PENDING.reg.base := by decide
@[simp] theorem F.CLS_POSTING_STALLED_high : 0x10 < F.CLS_POSTING_STALLED.reg.base := by decide
@[simp] theorem F.CLS_POSTING_DRAINED_high : 0x10 < F.CLS_POSTING_DRAINED.reg.base := by decide
@[simp] theorem F.CLS_POSTING_LAST_LAST_DRAINED_high : 0x10 < F.CLS_POSTING_LAST_LAST_DRAINED.reg.base := by decide
@[simp] theorem F.CLS_POSTING_LAST_DRAINED_COUNT_high : 0x10 < F.CLS_POSTING_LAST_DRAINED_COUNT.reg.base := by decide
@[simp] theorem F.CLS_POST_TIME_T_STAMP_high : 0x10 < F.CLS_POST_TIME_T_STAMP.reg.base := by decide
@[simp] theorem F.CLS_POST_CFG_DRAIN_WARN_US_high : 0x10 < F.CLS_POST_CFG_DRAIN_WARN_US.reg.base := by decide
@[simp] theorem F.CLS_DIE_STATUS_PARITY_SLOT_high : 0x10 < F.CLS_DIE_STATUS_PARITY_SLOT.reg.base := by decide
@[simp] theorem F.CLS_DIE_STATUS_RULE_PARITY_high : 0x10 < F.CLS_DIE_STATUS_RULE_PARITY.reg.base := by decide
@[simp] theorem F.CLS_DIE_STATUS_METER_PARITY_high : 0x10 < F.CLS_DIE_STATUS_METER_PARITY.reg.base := by decide
@[simp] theorem F.CLS_DIE_COUNT_RULE_PARITY_COUNT_high : 0x10 < F.CLS_DIE_COUNT_RULE_PARITY_COUNT.reg.base := by decide
@[simp] theorem F.CLS_DIE_COUNT_METER_PARITY_COUNT_high : 0x10 < F.CLS_DIE_COUNT_METER_PARITY_COUNT.reg.base := by decide
@[simp] theorem F.CLS_DRAIN_IN_FLIGHT_high : 0x10 < F.CLS_DRAIN_IN_FLIGHT.reg.base := by decide
@[simp] theorem F.CLS_TABLE_CFG_ENABLE_high : 0x10 < F.CLS_TABLE_CFG_ENABLE.reg.base := by decide
@[simp] theorem F.CLS_TABLE_CFG_KEY_SOURCE_high : 0x10 < F.CLS_TABLE_CFG_KEY_SOURCE.reg.base := by decide
@[simp] theorem F.CLS_TABLE_CFG_WIDTH_high : 0x10 < F.CLS_TABLE_CFG_WIDTH.reg.base := by decide
@[simp] theorem F.CLS_TABLE_CFG_BUCKETS_LOG2_high : 0x10 < F.CLS_TABLE_CFG_BUCKETS_LOG2.reg.base := by decide
@[simp] theorem F.CLS_TABLE_CFG_PRIORITY_high : 0x10 < F.CLS_TABLE_CFG_PRIORITY.reg.base := by decide
@[simp] theorem F.CLS_TABLE_REGION_BASE_high : 0x10 < F.CLS_TABLE_REGION_BASE.reg.base := by decide
@[simp] theorem F.CLS_TABLE_SEED_SEED_high : 0x10 < F.CLS_TABLE_SEED_SEED.reg.base := by decide
@[simp] theorem F.CLS_TABLE_FILL_SLOTS_high : 0x10 < F.CLS_TABLE_FILL_SLOTS.reg.base := by decide
@[simp] theorem F.CLS_PORT_CFG_DEFAULT_CLASS_high : 0x10 < F.CLS_PORT_CFG_DEFAULT_CLASS.reg.base := by decide
@[simp] theorem F.CLS_PORT_CFG_STITCH_CLASS_high : 0x10 < F.CLS_PORT_CFG_STITCH_CLASS.reg.base := by decide
@[simp] theorem F.CLS_STAT_LO_COUNT_high : 0x10 < F.CLS_STAT_LO_COUNT.reg.base := by decide
@[simp] theorem F.CLS_STAT_HI_COUNT_high : 0x10 < F.CLS_STAT_HI_COUNT.reg.base := by decide
@[simp] theorem F.LDG_GLOBAL_AGE_PERIOD_MS_high : 0x10 < F.LDG_GLOBAL_AGE_PERIOD_MS.reg.base := by decide
@[simp] theorem F.LDG_GLOBAL_LEARN_EN_high : 0x10 < F.LDG_GLOBAL_LEARN_EN.reg.base := by decide
@[simp] theorem F.LDG_ECMP_SEED_SEED_high : 0x10 < F.LDG_ECMP_SEED_SEED.reg.base := by decide
@[simp] theorem F.LDG_STATUS_PARITY_high : 0x10 < F.LDG_STATUS_PARITY.reg.base := by decide
@[simp] theorem F.LDG_STATUS_ENTRY_LOST_high : 0x10 < F.LDG_STATUS_ENTRY_LOST.reg.base := by decide
@[simp] theorem F.LDG_STATUS_EVICT_high : 0x10 < F.LDG_STATUS_EVICT.reg.base := by decide
@[simp] theorem F.LDG_STATUS_SWEEP_OVERRUN_high : 0x10 < F.LDG_STATUS_SWEEP_OVERRUN.reg.base := by decide
@[simp] theorem F.LDG_STATUS_PARITY_COUNT_high : 0x10 < F.LDG_STATUS_PARITY_COUNT.reg.base := by decide
@[simp] theorem F.LDG_STATUS_LOST_COUNT_high : 0x10 < F.LDG_STATUS_LOST_COUNT.reg.base := by decide
@[simp] theorem F.LDG_STATUS_EVICT_COUNT_high : 0x10 < F.LDG_STATUS_EVICT_COUNT.reg.base := by decide
@[simp] theorem F.LDG_STATUS_COUNT_SWEEP_OVERRUN_COUNT_high : 0x10 < F.LDG_STATUS_COUNT_SWEEP_OVERRUN_COUNT.reg.base := by decide
@[simp] theorem F.LDG_PARITY_LAST_SLOT_high : 0x10 < F.LDG_PARITY_LAST_SLOT.reg.base := by decide
@[simp] theorem F.LDG_PARITY_LAST_REPLICA_high : 0x10 < F.LDG_PARITY_LAST_REPLICA.reg.base := by decide
@[simp] theorem F.LDG_PARITY_LAST_LEDGER_high : 0x10 < F.LDG_PARITY_LAST_LEDGER.reg.base := by decide
@[simp] theorem F.LDG_EVICT_LAST_SLOT_high : 0x10 < F.LDG_EVICT_LAST_SLOT.reg.base := by decide
@[simp] theorem F.LDG_EVICT_LAST_REPLICA_high : 0x10 < F.LDG_EVICT_LAST_REPLICA.reg.base := by decide
@[simp] theorem F.LDG_EVICT_LAST_LEDGER_high : 0x10 < F.LDG_EVICT_LAST_LEDGER.reg.base := by decide
@[simp] theorem F.LDG_PORT_LIVE_LIVE_high : 0x10 < F.LDG_PORT_LIVE_LIVE.reg.base := by decide
@[simp] theorem F.LDG_LEDGER_CFG_ENABLE_high : 0x10 < F.LDG_LEDGER_CFG_ENABLE.reg.base := by decide
@[simp] theorem F.LDG_LEDGER_CFG_TYPE_high : 0x10 < F.LDG_LEDGER_CFG_TYPE.reg.base := by decide
@[simp] theorem F.LDG_LEDGER_CFG_SPAN_high : 0x10 < F.LDG_LEDGER_CFG_SPAN.reg.base := by decide
@[simp] theorem F.LDG_LEDGER_CFG_KEY_BYTES_high : 0x10 < F.LDG_LEDGER_CFG_KEY_BYTES.reg.base := by decide
@[simp] theorem F.LDG_LEDGER_CFG_EVICT_high : 0x10 < F.LDG_LEDGER_CFG_EVICT.reg.base := by decide
@[simp] theorem F.LDG_LEDGER_CFG_AGE_EN_high : 0x10 < F.LDG_LEDGER_CFG_AGE_EN.reg.base := by decide
@[simp] theorem F.LDG_LEDGER_CFG_AGE_LIMIT_high : 0x10 < F.LDG_LEDGER_CFG_AGE_LIMIT.reg.base := by decide
@[simp] theorem F.LDG_LEDGER_CFG_PRIVILEGED_high : 0x10 < F.LDG_LEDGER_CFG_PRIVILEGED.reg.base := by decide
@[simp] theorem F.LDG_LOOKUP_CFG_ENABLE_high : 0x10 < F.LDG_LOOKUP_CFG_ENABLE.reg.base := by decide
@[simp] theorem F.LDG_LOOKUP_CFG_ROLE_high : 0x10 < F.LDG_LOOKUP_CFG_ROLE.reg.base := by decide
@[simp] theorem F.LDG_LOOKUP_CFG_LEDGER_high : 0x10 < F.LDG_LOOKUP_CFG_LEDGER.reg.base := by decide
@[simp] theorem F.LDG_PROFILE_CFG_MISS_ACTION_high : 0x10 < F.LDG_PROFILE_CFG_MISS_ACTION.reg.base := by decide
@[simp] theorem F.LDG_PROFILE_CFG_GROUP_EN_high : 0x10 < F.LDG_PROFILE_CFG_GROUP_EN.reg.base := by decide
@[simp] theorem F.LDG_PROFILE_CFG_MISS_REASON_high : 0x10 < F.LDG_PROFILE_CFG_MISS_REASON.reg.base := by decide
@[simp] theorem F.LDG_PROFILE_CFG_SLOTS_high : 0x10 < F.LDG_PROFILE_CFG_SLOTS.reg.base := by decide
@[simp] theorem F.LDG_PROFILE_CFG_READS_high : 0x10 < F.LDG_PROFILE_CFG_READS.reg.base := by decide
@[simp] theorem F.LDG_PORT_CFG_PROFILE_high : 0x10 < F.LDG_PORT_CFG_PROFILE.reg.base := by decide
@[simp] theorem F.LDG_PORT_CFG_FLAT_PROFILE_high : 0x10 < F.LDG_PORT_CFG_FLAT_PROFILE.reg.base := by decide
@[simp] theorem F.LDG_AUDIT_STATUS_LEDGER_high : 0x10 < F.LDG_AUDIT_STATUS_LEDGER.reg.base := by decide
@[simp] theorem F.LDG_AUDIT_STATUS_RUNNING_high : 0x10 < F.LDG_AUDIT_STATUS_RUNNING.reg.base := by decide
@[simp] theorem F.LDG_AUDIT_STATUS_MISMATCH_high : 0x10 < F.LDG_AUDIT_STATUS_MISMATCH.reg.base := by decide
@[simp] theorem F.LDG_AUDIT_STATUS_DIGEST_BAD_high : 0x10 < F.LDG_AUDIT_STATUS_DIGEST_BAD.reg.base := by decide
@[simp] theorem F.LDG_AUDIT_STATUS_MISMATCH_COUNT_high : 0x10 < F.LDG_AUDIT_STATUS_MISMATCH_COUNT.reg.base := by decide
@[simp] theorem F.LDG_AUDIT_STATUS_PASSES_high : 0x10 < F.LDG_AUDIT_STATUS_PASSES.reg.base := by decide
@[simp] theorem F.LDG_STAT_LO_COUNT_high : 0x10 < F.LDG_STAT_LO_COUNT.reg.base := by decide
@[simp] theorem F.LDG_STAT_HI_COUNT_high : 0x10 < F.LDG_STAT_HI_COUNT.reg.base := by decide
@[simp] theorem F.LDG_GSTAT_LO_COUNT_high : 0x10 < F.LDG_GSTAT_LO_COUNT.reg.base := by decide
@[simp] theorem F.LDG_GSTAT_HI_COUNT_high : 0x10 < F.LDG_GSTAT_HI_COUNT.reg.base := by decide
@[simp] theorem F.CLRK_CTL_HOLD_PARKED_high : 0x10 < F.CLRK_CTL_HOLD_PARKED.reg.base := by decide
@[simp] theorem F.CLRK_CTL_HALT_high : 0x10 < F.CLRK_CTL_HALT.reg.base := by decide
@[simp] theorem F.CLRK_STATUS_STATE_high : 0x10 < F.CLRK_STATUS_STATE.reg.base := by decide
@[simp] theorem F.CLRK_STATUS_STALE_high : 0x10 < F.CLRK_STATUS_STALE.reg.base := by decide
@[simp] theorem F.CLRK_STATUS_PARKED_high : 0x10 < F.CLRK_STATUS_PARKED.reg.base := by decide
@[simp] theorem F.CLRK_STATUS_FAULT_high : 0x10 < F.CLRK_STATUS_FAULT.reg.base := by decide
@[simp] theorem F.CLRK_STATUS_ROUTINE_high : 0x10 < F.CLRK_STATUS_ROUTINE.reg.base := by decide
@[simp] theorem F.CLRK_STATUS_PARK_COUNT_high : 0x10 < F.CLRK_STATUS_PARK_COUNT.reg.base := by decide
@[simp] theorem F.CLRK_STATUS_FAULT_COUNT_high : 0x10 < F.CLRK_STATUS_FAULT_COUNT.reg.base := by decide
@[simp] theorem F.CLRK_PC_PC_high : 0x10 < F.CLRK_PC_PC.reg.base := by decide
@[simp] theorem F.CLRK_PC_RESUME_high : 0x10 < F.CLRK_PC_RESUME.reg.base := by decide
@[simp] theorem F.CLRK_COND_FLAGS_high : 0x10 < F.CLRK_COND_FLAGS.reg.base := by decide
@[simp] theorem F.CLRK_COND_LFSR_high : 0x10 < F.CLRK_COND_LFSR.reg.base := by decide
@[simp] theorem F.CLRK_QUEUE_LEARN_FILL_high : 0x10 < F.CLRK_QUEUE_LEARN_FILL.reg.base := by decide
@[simp] theorem F.CLRK_QUEUE_WORK_FILL_high : 0x10 < F.CLRK_QUEUE_WORK_FILL.reg.base := by decide
@[simp] theorem F.CLRK_QUEUE_SWEEP_NEXT_high : 0x10 < F.CLRK_QUEUE_SWEEP_NEXT.reg.base := by decide
@[simp] theorem F.CLRK_QUEUE_SWEEP_BEHIND_high : 0x10 < F.CLRK_QUEUE_SWEEP_BEHIND.reg.base := by decide
@[simp] theorem F.CLRK_REG_VALUE_high : 0x10 < F.CLRK_REG_VALUE.reg.base := by decide
@[simp] theorem F.CLRK_PATH_BUCKET_high : 0x10 < F.CLRK_PATH_BUCKET.reg.base := by decide
@[simp] theorem F.CLRK_PATH_POSITION_high : 0x10 < F.CLRK_PATH_POSITION.reg.base := by decide
@[simp] theorem F.CLRK_ENTRY_ADDRESS_high : 0x10 < F.CLRK_ENTRY_ADDRESS.reg.base := by decide
@[simp] theorem F.CLRK_STORE_MICROWORD_high : 0x10 < F.CLRK_STORE_MICROWORD.reg.base := by decide
@[simp] theorem F.VLT_GLOBAL_HOST_POOL_high : 0x10 < F.VLT_GLOBAL_HOST_POOL.reg.base := by decide
@[simp] theorem F.VLT_GLOBAL_DESC_FLOOR_high : 0x10 < F.VLT_GLOBAL_DESC_FLOOR.reg.base := by decide
@[simp] theorem F.VLT_FREE_ERR_DOUBLE_FREE_high : 0x10 < F.VLT_FREE_ERR_DOUBLE_FREE.reg.base := by decide
@[simp] theorem F.VLT_FREE_ERR_FOREIGN_FREE_high : 0x10 < F.VLT_FREE_ERR_FOREIGN_FREE.reg.base := by decide
@[simp] theorem F.VLT_FREE_ERR_DOUBLE_COUNT_high : 0x10 < F.VLT_FREE_ERR_DOUBLE_COUNT.reg.base := by decide
@[simp] theorem F.VLT_FREE_ERR_FOREIGN_COUNT_high : 0x10 < F.VLT_FREE_ERR_FOREIGN_COUNT.reg.base := by decide
@[simp] theorem F.VLT_FREE_ERR_LAST_FOLIO_high : 0x10 < F.VLT_FREE_ERR_LAST_FOLIO.reg.base := by decide
@[simp] theorem F.VLT_FREE_ERR_LAST_UNIT_high : 0x10 < F.VLT_FREE_ERR_LAST_UNIT.reg.base := by decide
@[simp] theorem F.VLT_FREE_ERR_LAST_KIND_high : 0x10 < F.VLT_FREE_ERR_LAST_KIND.reg.base := by decide
@[simp] theorem F.VLT_MEM_ERR_ECC_UNCORR_high : 0x10 < F.VLT_MEM_ERR_ECC_UNCORR.reg.base := by decide
@[simp] theorem F.VLT_MEM_ERR_LINK_PARITY_high : 0x10 < F.VLT_MEM_ERR_LINK_PARITY.reg.base := by decide
@[simp] theorem F.VLT_MEM_ERR_ECC_UNCORR_COUNT_high : 0x10 < F.VLT_MEM_ERR_ECC_UNCORR_COUNT.reg.base := by decide
@[simp] theorem F.VLT_MEM_ERR_LINK_PARITY_COUNT_high : 0x10 < F.VLT_MEM_ERR_LINK_PARITY_COUNT.reg.base := by decide
@[simp] theorem F.VLT_DIE_STATUS_FREE_FOLIOS_high : 0x10 < F.VLT_DIE_STATUS_FREE_FOLIOS.reg.base := by decide
@[simp] theorem F.VLT_POOL_CFG_ENABLE_high : 0x10 < F.VLT_POOL_CFG_ENABLE.reg.base := by decide
@[simp] theorem F.VLT_POOL_CFG_LOSSLESS_high : 0x10 < F.VLT_POOL_CFG_LOSSLESS.reg.base := by decide
@[simp] theorem F.VLT_POOL_CFG_SHARE_MODE_high : 0x10 < F.VLT_POOL_CFG_SHARE_MODE.reg.base := by decide
@[simp] theorem F.VLT_POOL_CFG_PFC_PRI_high : 0x10 < F.VLT_POOL_CFG_PFC_PRI.reg.base := by decide
@[simp] theorem F.VLT_POOL_CFG_ALPHA_LOG2_high : 0x10 < F.VLT_POOL_CFG_ALPHA_LOG2.reg.base := by decide
@[simp] theorem F.VLT_POOL_CFG_XON_GAP_high : 0x10 < F.VLT_POOL_CFG_XON_GAP.reg.base := by decide
@[simp] theorem F.VLT_POOL_STATE_XOFF_high : 0x10 < F.VLT_POOL_STATE_XOFF.reg.base := by decide
@[simp] theorem F.VLT_POOL_STATE_BLOCKED_high : 0x10 < F.VLT_POOL_STATE_BLOCKED.reg.base := by decide
@[simp] theorem F.VLT_POOL_STATE_DROP_high : 0x10 < F.VLT_POOL_STATE_DROP.reg.base := by decide
@[simp] theorem F.VLT_POOL_STATE_HEADROOM_DROP_high : 0x10 < F.VLT_POOL_STATE_HEADROOM_DROP.reg.base := by decide
@[simp] theorem F.VLT_POOL_STATE_DROP_COUNT_high : 0x10 < F.VLT_POOL_STATE_DROP_COUNT.reg.base := by decide
@[simp] theorem F.VLT_POOL_STATE_HEADROOM_DROP_COUNT_high : 0x10 < F.VLT_POOL_STATE_HEADROOM_DROP_COUNT.reg.base := by decide
@[simp] theorem F.VLT_BANK_FREE_FREE_high : 0x10 < F.VLT_BANK_FREE_FREE.reg.base := by decide
@[simp] theorem F.VLT_POOL_MAP_POOL_0_high : 0x10 < F.VLT_POOL_MAP_POOL_0.reg.base := by decide
@[simp] theorem F.VLT_POOL_MAP_POOL_1_high : 0x10 < F.VLT_POOL_MAP_POOL_1.reg.base := by decide
@[simp] theorem F.VLT_POOL_MAP_POOL_2_high : 0x10 < F.VLT_POOL_MAP_POOL_2.reg.base := by decide
@[simp] theorem F.VLT_POOL_MAP_POOL_3_high : 0x10 < F.VLT_POOL_MAP_POOL_3.reg.base := by decide
@[simp] theorem F.VLT_STAT_LO_COUNT_high : 0x10 < F.VLT_STAT_LO_COUNT.reg.base := by decide
@[simp] theorem F.VLT_STAT_HI_COUNT_high : 0x10 < F.VLT_STAT_HI_COUNT.reg.base := by decide
@[simp] theorem F.VLT_GSTAT_LO_COUNT_high : 0x10 < F.VLT_GSTAT_LO_COUNT.reg.base := by decide
@[simp] theorem F.VLT_GSTAT_HI_COUNT_high : 0x10 < F.VLT_GSTAT_HI_COUNT.reg.base := by decide
@[simp] theorem F.QSC_ENERGY_CFG_REPL_SURCHARGE_high : 0x10 < F.QSC_ENERGY_CFG_REPL_SURCHARGE.reg.base := by decide
@[simp] theorem F.QSC_ENERGY_CFG_PURSE_MAX_MULT_high : 0x10 < F.QSC_ENERGY_CFG_PURSE_MAX_MULT.reg.base := by decide
@[simp] theorem F.QSC_ENERGY_COST_COST_high : 0x10 < F.QSC_ENERGY_COST_COST.reg.base := by decide
@[simp] theorem F.QSC_SAMPLE_CFG_INTERVAL_NS_high : 0x10 < F.QSC_SAMPLE_CFG_INTERVAL_NS.reg.base := by decide
@[simp] theorem F.QSC_PURSE_BALANCE_high : 0x10 < F.QSC_PURSE_BALANCE.reg.base := by decide
@[simp] theorem F.QSC_PURSE_NEGATIVE_high : 0x10 < F.QSC_PURSE_NEGATIVE.reg.base := by decide
@[simp] theorem F.QSC_PURSE_ALLOW_ALLOWANCE_high : 0x10 < F.QSC_PURSE_ALLOW_ALLOWANCE.reg.base := by decide
@[simp] theorem F.QSC_PURSE_HELD_INTERVALS_high : 0x10 < F.QSC_PURSE_HELD_INTERVALS.reg.base := by decide
@[simp] theorem F.QSC_GSTAT_LO_COUNT_high : 0x10 < F.QSC_GSTAT_LO_COUNT.reg.base := by decide
@[simp] theorem F.QSC_GSTAT_HI_COUNT_high : 0x10 < F.QSC_GSTAT_HI_COUNT.reg.base := by decide
@[simp] theorem F.QSC_PORT_CFG_EXPRESS_Q_high : 0x10 < F.QSC_PORT_CFG_EXPRESS_Q.reg.base := by decide
@[simp] theorem F.QSC_PORT_CFG_PORT_SHAPER_EN_high : 0x10 < F.QSC_PORT_CFG_PORT_SHAPER_EN.reg.base := by decide
@[simp] theorem F.QSC_PORT_CFG_TOKEN_RESET_high : 0x10 < F.QSC_PORT_CFG_TOKEN_RESET.reg.base := by decide
@[simp] theorem F.QSC_PORT_CFG_EXP_SHARE_high : 0x10 < F.QSC_PORT_CFG_EXP_SHARE.reg.base := by decide
@[simp] theorem F.QSC_PORT_RATE_VALUE_high : 0x10 < F.QSC_PORT_RATE_VALUE.reg.base := by decide
@[simp] theorem F.QSC_PORT_BURST_VALUE_high : 0x10 < F.QSC_PORT_BURST_VALUE.reg.base := by decide
@[simp] theorem F.QSC_PORT_TOKENS_TOKENS_high : 0x10 < F.QSC_PORT_TOKENS_TOKENS.reg.base := by decide
@[simp] theorem F.QSC_PORT_EXP_TOKENS_TOKENS_high : 0x10 < F.QSC_PORT_EXP_TOKENS_TOKENS.reg.base := by decide
@[simp] theorem F.QSC_PORT_EXP_BURST_EXP_BURST_high : 0x10 < F.QSC_PORT_EXP_BURST_EXP_BURST.reg.base := by decide
@[simp] theorem F.QSC_PORT_VCLOCK_LO_V_high : 0x10 < F.QSC_PORT_VCLOCK_LO_V.reg.base := by decide
@[simp] theorem F.QSC_PORT_VCLOCK_HI_V_high : 0x10 < F.QSC_PORT_VCLOCK_HI_V.reg.base := by decide
@[simp] theorem F.QSC_Q_CFG_TIER_high : 0x10 < F.QSC_Q_CFG_TIER.reg.base := by decide
@[simp] theorem F.QSC_Q_CFG_ENERGY_CLASS_high : 0x10 < F.QSC_Q_CFG_ENERGY_CLASS.reg.base := by decide
@[simp] theorem F.QSC_Q_CFG_ESSENTIAL_MODE_high : 0x10 < F.QSC_Q_CFG_ESSENTIAL_MODE.reg.base := by decide
@[simp] theorem F.QSC_Q_CFG_SAMPLE_EN_high : 0x10 < F.QSC_Q_CFG_SAMPLE_EN.reg.base := by decide
@[simp] theorem F.QSC_Q_CFG_SHAPER_EN_high : 0x10 < F.QSC_Q_CFG_SHAPER_EN.reg.base := by decide
@[simp] theorem F.QSC_Q_CFG_TOKEN_RESET_high : 0x10 < F.QSC_Q_CFG_TOKEN_RESET.reg.base := by decide
@[simp] theorem F.QSC_Q_CFG_WEIGHT_high : 0x10 < F.QSC_Q_CFG_WEIGHT.reg.base := by decide
@[simp] theorem F.QSC_Q_RATE_VALUE_high : 0x10 < F.QSC_Q_RATE_VALUE.reg.base := by decide
@[simp] theorem F.QSC_Q_BURST_VALUE_high : 0x10 < F.QSC_Q_BURST_VALUE.reg.base := by decide
@[simp] theorem F.QSC_Q_TOKENS_TOKENS_high : 0x10 < F.QSC_Q_TOKENS_TOKENS.reg.base := by decide
@[simp] theorem F.QSC_Q_LIMIT_A_CAP_high : 0x10 < F.QSC_Q_LIMIT_A_CAP.reg.base := by decide
@[simp] theorem F.QSC_Q_LIMIT_A_YELLOW_high : 0x10 < F.QSC_Q_LIMIT_A_YELLOW.reg.base := by decide
@[simp] theorem F.QSC_Q_LIMIT_B_RED_high : 0x10 < F.QSC_Q_LIMIT_B_RED.reg.base := by decide
@[simp] theorem F.QSC_Q_LIMIT_B_ECN_high : 0x10 < F.QSC_Q_LIMIT_B_ECN.reg.base := by decide
@[simp] theorem F.QSC_Q_START_LO_TAG_high : 0x10 < F.QSC_Q_START_LO_TAG.reg.base := by decide
@[simp] theorem F.QSC_Q_START_HI_TAG_high : 0x10 < F.QSC_Q_START_HI_TAG.reg.base := by decide
@[simp] theorem F.QSC_Q_FINISH_LO_TAG_high : 0x10 < F.QSC_Q_FINISH_LO_TAG.reg.base := by decide
@[simp] theorem F.QSC_Q_FINISH_HI_TAG_high : 0x10 < F.QSC_Q_FINISH_HI_TAG.reg.base := by decide
@[simp] theorem F.QSC_Q_DEPTH_FOLIOS_high : 0x10 < F.QSC_Q_DEPTH_FOLIOS.reg.base := by decide
@[simp] theorem F.QSC_Q_FRAMES_FRAMES_high : 0x10 < F.QSC_Q_FRAMES_FRAMES.reg.base := by decide
@[simp] theorem F.QSC_Q_STATUS_ELIGIBLE_high : 0x10 < F.QSC_Q_STATUS_ELIGIBLE.reg.base := by decide
@[simp] theorem F.QSC_Q_STATUS_GATE_OPEN_high : 0x10 < F.QSC_Q_STATUS_GATE_OPEN.reg.base := by decide
@[simp] theorem F.QSC_Q_STATUS_PAUSED_high : 0x10 < F.QSC_Q_STATUS_PAUSED.reg.base := by decide
@[simp] theorem F.QSC_Q_STATUS_LAUNCH_WAIT_high : 0x10 < F.QSC_Q_STATUS_LAUNCH_WAIT.reg.base := by decide
@[simp] theorem F.QSC_Q_STATUS_SHAPER_OK_high : 0x10 < F.QSC_Q_STATUS_SHAPER_OK.reg.base := by decide
@[simp] theorem F.QSC_Q_STATUS_PURSE_OK_high : 0x10 < F.QSC_Q_STATUS_PURSE_OK.reg.base := by decide
@[simp] theorem F.QSC_Q_STATUS_ESSENTIAL_high : 0x10 < F.QSC_Q_STATUS_ESSENTIAL.reg.base := by decide
@[simp] theorem F.QSC_Q_STATUS_EXPRESS_high : 0x10 < F.QSC_Q_STATUS_EXPRESS.reg.base := by decide
@[simp] theorem F.QSC_Q_STATUS_DROP_high : 0x10 < F.QSC_Q_STATUS_DROP.reg.base := by decide
@[simp] theorem F.QSC_Q_STATUS_STATE_PARITY_high : 0x10 < F.QSC_Q_STATUS_STATE_PARITY.reg.base := by decide
@[simp] theorem F.QSC_Q_STATUS_DROP_COUNT_high : 0x10 < F.QSC_Q_STATUS_DROP_COUNT.reg.base := by decide
@[simp] theorem F.QSC_Q_STATUS_PARITY_COUNT_high : 0x10 < F.QSC_Q_STATUS_PARITY_COUNT.reg.base := by decide
@[simp] theorem F.TIM_CTL_SOURCE_high : 0x10 < F.TIM_CTL_SOURCE.reg.base := by decide
@[simp] theorem F.TIM_CTL_REF_SEL_high : 0x10 < F.TIM_CTL_REF_SEL.reg.base := by decide
@[simp] theorem F.TIM_CTL_TIME_REF_MHZ_high : 0x10 < F.TIM_CTL_TIME_REF_MHZ.reg.base := by decide
@[simp] theorem F.TIM_CTL_PPS_PIN_high : 0x10 < F.TIM_CTL_PPS_PIN.reg.base := by decide
@[simp] theorem F.TIM_CTL_LOCK_LEASE_MS_high : 0x10 < F.TIM_CTL_LOCK_LEASE_MS.reg.base := by decide
@[simp] theorem F.TIM_CTL2_PPS_WINDOW_NS_high : 0x10 < F.TIM_CTL2_PPS_WINDOW_NS.reg.base := by decide
@[simp] theorem F.TIM_CTL2_PPS_LOCK_COUNT_high : 0x10 < F.TIM_CTL2_PPS_LOCK_COUNT.reg.base := by decide
@[simp] theorem F.TIM_CTL2_SLEW_PPM_high : 0x10 < F.TIM_CTL2_SLEW_PPM.reg.base := by decide
@[simp] theorem F.TIM_STATUS_LOCKED_high : 0x10 < F.TIM_STATUS_LOCKED.reg.base := by decide
@[simp] theorem F.TIM_STATUS_ON_FALLBACK_high : 0x10 < F.TIM_STATUS_ON_FALLBACK.reg.base := by decide
@[simp] theorem F.TIM_STATUS_SLEWING_high : 0x10 < F.TIM_STATUS_SLEWING.reg.base := by decide
@[simp] theorem F.TIM_STATUS_LOCK_LOSS_high : 0x10 < F.TIM_STATUS_LOCK_LOSS.reg.base := by decide
@[simp] theorem F.TIM_STATUS_STEPPED_high : 0x10 < F.TIM_STATUS_STEPPED.reg.base := by decide
@[simp] theorem F.TIM_STATUS_PPS_MISS_high : 0x10 < F.TIM_STATUS_PPS_MISS.reg.base := by decide
@[simp] theorem F.TIM_STATUS_LOCK_LOSS_COUNT_high : 0x10 < F.TIM_STATUS_LOCK_LOSS_COUNT.reg.base := by decide
@[simp] theorem F.TIM_STATUS_STEP_COUNT_high : 0x10 < F.TIM_STATUS_STEP_COUNT.reg.base := by decide
@[simp] theorem F.TIM_STATUS_PPS_OUT_COUNT_high : 0x10 < F.TIM_STATUS_PPS_OUT_COUNT.reg.base := by decide
@[simp] theorem F.TIM_FREQ_ADJ_FREQ_ADJ_high : 0x10 < F.TIM_FREQ_ADJ_FREQ_ADJ.reg.base := by decide
@[simp] theorem F.TIM_PAIR_STAMP_VALUE_high : 0x10 < F.TIM_PAIR_STAMP_VALUE.reg.base := by decide
@[simp] theorem F.TIM_PAIR_NS_VALUE_high : 0x10 < F.TIM_PAIR_NS_VALUE.reg.base := by decide
@[simp] theorem F.TIM_PAIR_SEC_LO_VALUE_high : 0x10 < F.TIM_PAIR_SEC_LO_VALUE.reg.base := by decide
@[simp] theorem F.TIM_PAIR_SEC_HI_VALUE_high : 0x10 < F.TIM_PAIR_SEC_HI_VALUE.reg.base := by decide
@[simp] theorem F.TIM_PPS_ERROR_ERROR_NS_high : 0x10 < F.TIM_PPS_ERROR_ERROR_NS.reg.base := by decide
@[simp] theorem F.TIM_STATUS2_PPS_MISS_COUNT_high : 0x10 < F.TIM_STATUS2_PPS_MISS_COUNT.reg.base := by decide
@[simp] theorem F.TIM_RING_CFG_ENABLE_high : 0x10 < F.TIM_RING_CFG_ENABLE.reg.base := by decide
@[simp] theorem F.TIM_RING_CFG_SIZE_LOG2_high : 0x10 < F.TIM_RING_CFG_SIZE_LOG2.reg.base := by decide
@[simp] theorem F.TIM_RING_CFG_PAIR_PERIOD_MS_high : 0x10 < F.TIM_RING_CFG_PAIR_PERIOD_MS.reg.base := by decide
@[simp] theorem F.TIM_RING_ADDR_LO_VALUE_high : 0x10 < F.TIM_RING_ADDR_LO_VALUE.reg.base := by decide
@[simp] theorem F.TIM_RING_ADDR_HI_VALUE_high : 0x10 < F.TIM_RING_ADDR_HI_VALUE.reg.base := by decide
@[simp] theorem F.TIM_RING_PROD_VALUE_high : 0x10 < F.TIM_RING_PROD_VALUE.reg.base := by decide
@[simp] theorem F.TIM_COPY_STATUS_STALE_high : 0x10 < F.TIM_COPY_STATUS_STALE.reg.base := by decide
@[simp] theorem F.TIM_COPY_STATUS_STALE_SET_high : 0x10 < F.TIM_COPY_STATUS_STALE_SET.reg.base := by decide
@[simp] theorem F.TIM_COPY_STATUS_STALE_COUNT_high : 0x10 < F.TIM_COPY_STATUS_STALE_COUNT.reg.base := by decide
@[simp] theorem F.TIM_PIN_CFG_MODE_high : 0x10 < F.TIM_PIN_CFG_MODE.reg.base := by decide
@[simp] theorem F.TIM_PIN_CFG_POLARITY_high : 0x10 < F.TIM_PIN_CFG_POLARITY.reg.base := by decide
@[simp] theorem F.TIM_PIN_CFG_SQUELCH_high : 0x10 < F.TIM_PIN_CFG_SQUELCH.reg.base := by decide
@[simp] theorem F.TIM_PIN_CFG_EDGES_high : 0x10 < F.TIM_PIN_CFG_EDGES.reg.base := by decide
@[simp] theorem F.TIM_PIN_START_SEC_LO_VALUE_high : 0x10 < F.TIM_PIN_START_SEC_LO_VALUE.reg.base := by decide
@[simp] theorem F.TIM_PIN_START_SEC_HI_VALUE_high : 0x10 < F.TIM_PIN_START_SEC_HI_VALUE.reg.base := by decide
@[simp] theorem F.TIM_PIN_START_NS_VALUE_high : 0x10 < F.TIM_PIN_START_NS_VALUE.reg.base := by decide
@[simp] theorem F.TIM_PIN_PERIOD_VALUE_high : 0x10 < F.TIM_PIN_PERIOD_VALUE.reg.base := by decide
@[simp] theorem F.TIM_PIN_WIDTH_VALUE_high : 0x10 < F.TIM_PIN_WIDTH_VALUE.reg.base := by decide
@[simp] theorem F.TIM_PIN_STATUS_LEVEL_high : 0x10 < F.TIM_PIN_STATUS_LEVEL.reg.base := by decide
@[simp] theorem F.TIM_PIN_STATUS_MISSED_high : 0x10 < F.TIM_PIN_STATUS_MISSED.reg.base := by decide
@[simp] theorem F.TIM_PIN_STATUS_CAPTURE_MERGED_high : 0x10 < F.TIM_PIN_STATUS_CAPTURE_MERGED.reg.base := by decide
@[simp] theorem F.TIM_PIN_STATUS_EDGES_SKIPPED_high : 0x10 < F.TIM_PIN_STATUS_EDGES_SKIPPED.reg.base := by decide
@[simp] theorem F.TIM_PIN_STATUS_LAST_CAPTURE_high : 0x10 < F.TIM_PIN_STATUS_LAST_CAPTURE.reg.base := by decide
@[simp] theorem F.TIM_PIN_LAT_LAT_IN_high : 0x10 < F.TIM_PIN_LAT_LAT_IN.reg.base := by decide
@[simp] theorem F.TIM_PIN_LAT_LAT_OUT_high : 0x10 < F.TIM_PIN_LAT_LAT_OUT.reg.base := by decide
@[simp] theorem F.TIM_PIN_EVCOUNT_MISSED_COUNT_high : 0x10 < F.TIM_PIN_EVCOUNT_MISSED_COUNT.reg.base := by decide
@[simp] theorem F.TIM_PIN_EVCOUNT_MERGED_COUNT_high : 0x10 < F.TIM_PIN_EVCOUNT_MERGED_COUNT.reg.base := by decide
@[simp] theorem F.TIM_FEC_TERM_FEC_RX_high : 0x10 < F.TIM_FEC_TERM_FEC_RX.reg.base := by decide
@[simp] theorem F.TIM_FEC_TERM_FEC_TX_high : 0x10 < F.TIM_FEC_TERM_FEC_TX.reg.base := by decide
@[simp] theorem F.TIM_PORT_CFG_PTP_MODE_high : 0x10 < F.TIM_PORT_CFG_PTP_MODE.reg.base := by decide
@[simp] theorem F.TIM_PORT_CFG_ETH_EN_high : 0x10 < F.TIM_PORT_CFG_ETH_EN.reg.base := by decide
@[simp] theorem F.TIM_PORT_CFG_UDP4_EN_high : 0x10 < F.TIM_PORT_CFG_UDP4_EN.reg.base := by decide
@[simp] theorem F.TIM_PORT_CFG_UDP6_EN_high : 0x10 < F.TIM_PORT_CFG_UDP6_EN.reg.base := by decide
@[simp] theorem F.TIM_PORT_CFG_STITCH_STAMP_high : 0x10 < F.TIM_PORT_CFG_STITCH_STAMP.reg.base := by decide
@[simp] theorem F.TIM_PORT_CFG_LATE_ACTION_high : 0x10 < F.TIM_PORT_CFG_LATE_ACTION.reg.base := by decide
@[simp] theorem F.TIM_PORT_CFG_LAUNCH_HORIZON_MS_high : 0x10 < F.TIM_PORT_CFG_LAUNCH_HORIZON_MS.reg.base := by decide
@[simp] theorem F.TIM_PORT_LAT_212_RX_high : 0x10 < F.TIM_PORT_LAT_212_RX.reg.base := by decide
@[simp] theorem F.TIM_PORT_LAT_212_TX_high : 0x10 < F.TIM_PORT_LAT_212_TX.reg.base := by decide
@[simp] theorem F.TIM_PORT_LAT_106_RX_high : 0x10 < F.TIM_PORT_LAT_106_RX.reg.base := by decide
@[simp] theorem F.TIM_PORT_LAT_106_TX_high : 0x10 < F.TIM_PORT_LAT_106_TX.reg.base := by decide
@[simp] theorem F.TIM_PORT_BOARD_RX_high : 0x10 < F.TIM_PORT_BOARD_RX.reg.base := by decide
@[simp] theorem F.TIM_PORT_BOARD_TX_high : 0x10 < F.TIM_PORT_BOARD_TX.reg.base := by decide
@[simp] theorem F.TIM_PORT_PEER_DELAY_DELAY_high : 0x10 < F.TIM_PORT_PEER_DELAY_DELAY.reg.base := by decide
@[simp] theorem F.TIM_PORT_STATUS_LAST_LATE_NS_high : 0x10 < F.TIM_PORT_STATUS_LAST_LATE_NS.reg.base := by decide
@[simp] theorem F.TIM_PORT_STATUS_LATE_high : 0x10 < F.TIM_PORT_STATUS_LATE.reg.base := by decide
@[simp] theorem F.TIM_PORT_STATUS_FAR_high : 0x10 < F.TIM_PORT_STATUS_FAR.reg.base := by decide
@[simp] theorem F.TIM_PORT_STATUS_NO_PAD_high : 0x10 < F.TIM_PORT_STATUS_NO_PAD.reg.base := by decide
@[simp] theorem F.TIM_PORT_EVCOUNT_LATE_COUNT_high : 0x10 < F.TIM_PORT_EVCOUNT_LATE_COUNT.reg.base := by decide
@[simp] theorem F.TIM_PORT_EVCOUNT_FAR_COUNT_high : 0x10 < F.TIM_PORT_EVCOUNT_FAR_COUNT.reg.base := by decide
@[simp] theorem F.TIM_PORT_EVCOUNT_NO_PAD_COUNT_high : 0x10 < F.TIM_PORT_EVCOUNT_NO_PAD_COUNT.reg.base := by decide
@[simp] theorem F.TIM_Q_LAUNCH_MODE_high : 0x10 < F.TIM_Q_LAUNCH_MODE.reg.base := by decide
@[simp] theorem F.TIM_Q_LAUNCH_OFFSET_NS_high : 0x10 < F.TIM_Q_LAUNCH_OFFSET_NS.reg.base := by decide
@[simp] theorem F.TIM_PORT_STAT_LO_COUNT_high : 0x10 < F.TIM_PORT_STAT_LO_COUNT.reg.base := by decide
@[simp] theorem F.TIM_PORT_STAT_HI_COUNT_high : 0x10 < F.TIM_PORT_STAT_HI_COUNT.reg.base := by decide
@[simp] theorem F.TIM_GATE_CFG_GATE_EN_high : 0x10 < F.TIM_GATE_CFG_GATE_EN.reg.base := by decide
@[simp] theorem F.TIM_GATE_CFG_PHASE_EN_high : 0x10 < F.TIM_GATE_CFG_PHASE_EN.reg.base := by decide
@[simp] theorem F.TIM_GATE_CFG_ACTIVE_BANK_high : 0x10 < F.TIM_GATE_CFG_ACTIVE_BANK.reg.base := by decide
@[simp] theorem F.TIM_GATE_CFG_CHANGE_PENDING_high : 0x10 < F.TIM_GATE_CFG_CHANGE_PENDING.reg.base := by decide
@[simp] theorem F.TIM_GATE_CFG_CHANGE_high : 0x10 < F.TIM_GATE_CFG_CHANGE.reg.base := by decide
@[simp] theorem F.TIM_GATE_CFG_ADMIN_GATES_high : 0x10 < F.TIM_GATE_CFG_ADMIN_GATES.reg.base := by decide
@[simp] theorem F.TIM_GATE_STATUS_ENTRY_high : 0x10 < F.TIM_GATE_STATUS_ENTRY.reg.base := by decide
@[simp] theorem F.TIM_GATE_STATUS_FIT_CHECK_high : 0x10 < F.TIM_GATE_STATUS_FIT_CHECK.reg.base := by decide
@[simp] theorem F.TIM_GATE_STATUS_CHANGED_high : 0x10 < F.TIM_GATE_STATUS_CHANGED.reg.base := by decide
@[simp] theorem F.TIM_GATE_STATUS_ACTIVE_WRITE_DROPS_high : 0x10 < F.TIM_GATE_STATUS_ACTIVE_WRITE_DROPS.reg.base := by decide
@[simp] theorem F.TIM_GATE_STATUS_GATES_high : 0x10 < F.TIM_GATE_STATUS_GATES.reg.base := by decide
@[simp] theorem F.TIM_GATE_CHANGE_VALUE_high : 0x10 < F.TIM_GATE_CHANGE_VALUE.reg.base := by decide
@[simp] theorem F.TIM_GATE_CYCLES_VALUE_high : 0x10 < F.TIM_GATE_CYCLES_VALUE.reg.base := by decide
@[simp] theorem F.TIM_GATE_EVCOUNT_CHANGED_COUNT_high : 0x10 < F.TIM_GATE_EVCOUNT_CHANGED_COUNT.reg.base := by decide
@[simp] theorem F.TIM_GATE_BASE_SEC_LO_VALUE_high : 0x10 < F.TIM_GATE_BASE_SEC_LO_VALUE.reg.base := by decide
@[simp] theorem F.TIM_GATE_BASE_SEC_HI_VALUE_high : 0x10 < F.TIM_GATE_BASE_SEC_HI_VALUE.reg.base := by decide
@[simp] theorem F.TIM_GATE_BASE_NS_VALUE_high : 0x10 < F.TIM_GATE_BASE_NS_VALUE.reg.base := by decide
@[simp] theorem F.TIM_GATE_CYCLE_NS_VALUE_high : 0x10 < F.TIM_GATE_CYCLE_NS_VALUE.reg.base := by decide
@[simp] theorem F.CTH_CFG_UDP_PORT_high : 0x10 < F.CTH_CFG_UDP_PORT.reg.base := by decide
@[simp] theorem F.CTH_CFG_IP_SLOT_high : 0x10 < F.CTH_CFG_IP_SLOT.reg.base := by decide
@[simp] theorem F.CTH_CFG_UDP_SLOT_high : 0x10 < F.CTH_CFG_UDP_SLOT.reg.base := by decide
@[simp] theorem F.CTH_CFG_RESULT_POOL_high : 0x10 < F.CTH_CFG_RESULT_POOL.reg.base := by decide
@[simp] theorem F.CTH_ADDR4_VALUE_high : 0x10 < F.CTH_ADDR4_VALUE.reg.base := by decide
@[simp] theorem F.CTH_MAC_LO_VALUE_high : 0x10 < F.CTH_MAC_LO_VALUE.reg.base := by decide
@[simp] theorem F.CTH_MAC_HI_MAC_high : 0x10 < F.CTH_MAC_HI_MAC.reg.base := by decide
@[simp] theorem F.CTH_MAC_HI_ERROR_QUEUE_high : 0x10 < F.CTH_MAC_HI_ERROR_QUEUE.reg.base := by decide
@[simp] theorem F.CTH_ADDR6_BYTES_high : 0x10 < F.CTH_ADDR6_BYTES.reg.base := by decide
@[simp] theorem F.CTH_DIE_STATUS_FREE_PAGES_high : 0x10 < F.CTH_DIE_STATUS_FREE_PAGES.reg.base := by decide
@[simp] theorem F.CTH_DIE_STATUS_FREE_UNITS_high : 0x10 < F.CTH_DIE_STATUS_FREE_UNITS.reg.base := by decide
@[simp] theorem F.CTH_DIE_STATUS_THROTTLE_high : 0x10 < F.CTH_DIE_STATUS_THROTTLE.reg.base := by decide
@[simp] theorem F.CTH_SYN_CFG_ENABLE_high : 0x10 < F.CTH_SYN_CFG_ENABLE.reg.base := by decide
@[simp] theorem F.CTH_SYN_CFG_HOME_high : 0x10 < F.CTH_SYN_CFG_HOME.reg.base := by decide
@[simp] theorem F.CTH_SYN_CFG_OP_high : 0x10 < F.CTH_SYN_CFG_OP.reg.base := by decide
@[simp] theorem F.CTH_SYN_CFG_ETYPE_high : 0x10 < F.CTH_SYN_CFG_ETYPE.reg.base := by decide
@[simp] theorem F.CTH_SYN_CFG_WIDEN_high : 0x10 < F.CTH_SYN_CFG_WIDEN.reg.base := by decide
@[simp] theorem F.CTH_SYN_CFG_LOCKSTEP_high : 0x10 < F.CTH_SYN_CFG_LOCKSTEP.reg.base := by decide
@[simp] theorem F.CTH_SYN_CFG_CHECK_SOURCE_high : 0x10 < F.CTH_SYN_CFG_CHECK_SOURCE.reg.base := by decide
@[simp] theorem F.CTH_SYN_CFG_ABORT_EN_high : 0x10 < F.CTH_SYN_CFG_ABORT_EN.reg.base := by decide
@[simp] theorem F.CTH_SYN_CFG_PROFILE_high : 0x10 < F.CTH_SYN_CFG_PROFILE.reg.base := by decide
@[simp] theorem F.CTH_SYN_CFG_RESULT_QUEUE_high : 0x10 < F.CTH_SYN_CFG_RESULT_QUEUE.reg.base := by decide
@[simp] theorem F.CTH_SYN_CFG_EXISTS_high : 0x10 < F.CTH_SYN_CFG_EXISTS.reg.base := by decide
@[simp] theorem F.CTH_SYN_SIZE_MEMBERS_high : 0x10 < F.CTH_SYN_SIZE_MEMBERS.reg.base := by decide
@[simp] theorem F.CTH_SYN_SIZE_WINDOW_high : 0x10 < F.CTH_SYN_SIZE_WINDOW.reg.base := by decide
@[simp] theorem F.CTH_SYN_LIMITS_MAX_COUNT_high : 0x10 < F.CTH_SYN_LIMITS_MAX_COUNT.reg.base := by decide
@[simp] theorem F.CTH_SYN_LIMITS_UNITS_high : 0x10 < F.CTH_SYN_LIMITS_UNITS.reg.base := by decide
@[simp] theorem F.CTH_SYN_TIMERS_STRAGGLER_US_high : 0x10 < F.CTH_SYN_TIMERS_STRAGGLER_US.reg.base := by decide
@[simp] theorem F.CTH_SYN_TIMERS_ABORT_US_high : 0x10 < F.CTH_SYN_TIMERS_ABORT_US.reg.base := by decide
@[simp] theorem F.CTH_SYN_BASE_BASE_high : 0x10 < F.CTH_SYN_BASE_BASE.reg.base := by decide
@[simp] theorem F.CTH_SYN_STATUS_OPEN_high : 0x10 < F.CTH_SYN_STATUS_OPEN.reg.base := by decide
@[simp] theorem F.CTH_SYN_STATUS_STRAGGLER_high : 0x10 < F.CTH_SYN_STATUS_STRAGGLER.reg.base := by decide
@[simp] theorem F.CTH_SYN_STATUS_ERROR_high : 0x10 < F.CTH_SYN_STATUS_ERROR.reg.base := by decide
@[simp] theorem F.CTH_SYN_STATUS_ABORTED_high : 0x10 < F.CTH_SYN_STATUS_ABORTED.reg.base := by decide
@[simp] theorem F.CTH_SYN_STATUS_STRAGGLER_COUNT_high : 0x10 < F.CTH_SYN_STATUS_STRAGGLER_COUNT.reg.base := by decide
@[simp] theorem F.CTH_SYN_STATUS_ERROR_COUNT_high : 0x10 < F.CTH_SYN_STATUS_ERROR_COUNT.reg.base := by decide
@[simp] theorem F.CTH_SYN_STRAG_CHUNK_VALUE_high : 0x10 < F.CTH_SYN_STRAG_CHUNK_VALUE.reg.base := by decide
@[simp] theorem F.CTH_SYN_STRAG_MEMBER_VALUE_high : 0x10 < F.CTH_SYN_STRAG_MEMBER_VALUE.reg.base := by decide
@[simp] theorem F.CTH_SYN_PLACE_UNIT_BASE_high : 0x10 < F.CTH_SYN_PLACE_UNIT_BASE.reg.base := by decide
@[simp] theorem F.CTH_SYN_PLACE_PAGE_BASE_high : 0x10 < F.CTH_SYN_PLACE_PAGE_BASE.reg.base := by decide
@[simp] theorem F.CTH_SYN_STAT_LO_COUNT_high : 0x10 < F.CTH_SYN_STAT_LO_COUNT.reg.base := by decide
@[simp] theorem F.CTH_SYN_STAT_HI_COUNT_high : 0x10 < F.CTH_SYN_STAT_HI_COUNT.reg.base := by decide
@[simp] theorem F.CTH_GSTAT_LO_COUNT_high : 0x10 < F.CTH_GSTAT_LO_COUNT.reg.base := by decide
@[simp] theorem F.CTH_GSTAT_HI_COUNT_high : 0x10 < F.CTH_GSTAT_HI_COUNT.reg.base := by decide
@[simp] theorem F.DMA_GLOBAL_CPL_TIMEOUT_US_high : 0x10 < F.DMA_GLOBAL_CPL_TIMEOUT_US.reg.base := by decide
@[simp] theorem F.DMA_PCIE_STATUS_SPEED_high : 0x10 < F.DMA_PCIE_STATUS_SPEED.reg.base := by decide
@[simp] theorem F.DMA_PCIE_STATUS_FLIT_high : 0x10 < F.DMA_PCIE_STATUS_FLIT.reg.base := by decide
@[simp] theorem F.DMA_PCIE_STATUS_BME_high : 0x10 < F.DMA_PCIE_STATUS_BME.reg.base := by decide
@[simp] theorem F.DMA_PCIE_STATUS_WIDTH_high : 0x10 < F.DMA_PCIE_STATUS_WIDTH.reg.base := by decide
@[simp] theorem F.DMA_PCIE_STATUS_LINK_UP_high : 0x10 < F.DMA_PCIE_STATUS_LINK_UP.reg.base := by decide
@[simp] theorem F.DMA_PCIE_STATUS_LINK_DOWN_high : 0x10 < F.DMA_PCIE_STATUS_LINK_DOWN.reg.base := by decide
@[simp] theorem F.DMA_PCIE_STATUS_MPS_high : 0x10 < F.DMA_PCIE_STATUS_MPS.reg.base := by decide
@[simp] theorem F.DMA_PCIE_STATUS_LINK_DOWN_COUNT_high : 0x10 < F.DMA_PCIE_STATUS_LINK_DOWN_COUNT.reg.base := by decide
@[simp] theorem F.DMA_CH_CFG_ENABLE_high : 0x10 < F.DMA_CH_CFG_ENABLE.reg.base := by decide
@[simp] theorem F.DMA_CH_CFG_ROLE_high : 0x10 < F.DMA_CH_CFG_ROLE.reg.base := by decide
@[simp] theorem F.DMA_CH_CFG_PRIORITY_high : 0x10 < F.DMA_CH_CFG_PRIORITY.reg.base := by decide
@[simp] theorem F.DMA_CH_CFG_MAX_BURST_high : 0x10 < F.DMA_CH_CFG_MAX_BURST.reg.base := by decide
@[simp] theorem F.DMA_CH_CFG_ERR_ACTION_high : 0x10 < F.DMA_CH_CFG_ERR_ACTION.reg.base := by decide
@[simp] theorem F.DMA_CH_CFG_IRQ_EN_high : 0x10 < F.DMA_CH_CFG_IRQ_EN.reg.base := by decide
@[simp] theorem F.DMA_CH_CFG_SIZE_LOG2_high : 0x10 < F.DMA_CH_CFG_SIZE_LOG2.reg.base := by decide
@[simp] theorem F.DMA_CH_CFG_VECTOR_high : 0x10 < F.DMA_CH_CFG_VECTOR.reg.base := by decide
@[simp] theorem F.DMA_CH_BASE_LO_ADDR_high : 0x10 < F.DMA_CH_BASE_LO_ADDR.reg.base := by decide
@[simp] theorem F.DMA_CH_BASE_HI_ADDR_high : 0x10 < F.DMA_CH_BASE_HI_ADDR.reg.base := by decide
@[simp] theorem F.DMA_CH_HEAD_LO_ADDR_high : 0x10 < F.DMA_CH_HEAD_LO_ADDR.reg.base := by decide
@[simp] theorem F.DMA_CH_HEAD_HI_ADDR_high : 0x10 < F.DMA_CH_HEAD_HI_ADDR.reg.base := by decide
@[simp] theorem F.DMA_CH_COUNT_POSTED_high : 0x10 < F.DMA_CH_COUNT_POSTED.reg.base := by decide
@[simp] theorem F.DMA_CH_COUNT_CONSUMED_high : 0x10 < F.DMA_CH_COUNT_CONSUMED.reg.base := by decide
@[simp] theorem F.DMA_CH_STATUS_STATE_high : 0x10 < F.DMA_CH_STATUS_STATE.reg.base := by decide
@[simp] theorem F.DMA_CH_STATUS_LAST_STATUS_high : 0x10 < F.DMA_CH_STATUS_LAST_STATUS.reg.base := by decide
@[simp] theorem F.DMA_CH_STATUS_ERROR_high : 0x10 < F.DMA_CH_STATUS_ERROR.reg.base := by decide
@[simp] theorem F.DMA_CH_STATUS_WB_FAIL_high : 0x10 < F.DMA_CH_STATUS_WB_FAIL.reg.base := by decide
@[simp] theorem F.DMA_CH_STATUS_ABORT_DONE_high : 0x10 < F.DMA_CH_STATUS_ABORT_DONE.reg.base := by decide
@[simp] theorem F.DMA_CH_STATUS_LOOP_high : 0x10 < F.DMA_CH_STATUS_LOOP.reg.base := by decide
@[simp] theorem F.DMA_CH_STATUS_DB_ERR_high : 0x10 < F.DMA_CH_STATUS_DB_ERR.reg.base := by decide
@[simp] theorem F.DMA_CH_STATUS_DB_ERR_COUNT_high : 0x10 < F.DMA_CH_STATUS_DB_ERR_COUNT.reg.base := by decide
@[simp] theorem F.DMA_CH_EVCOUNT_ERROR_COUNT_high : 0x10 < F.DMA_CH_EVCOUNT_ERROR_COUNT.reg.base := by decide
@[simp] theorem F.DMA_CH_EVCOUNT_WB_FAIL_COUNT_high : 0x10 < F.DMA_CH_EVCOUNT_WB_FAIL_COUNT.reg.base := by decide
@[simp] theorem F.DMA_CH_EVCOUNT_ABORT_COUNT_high : 0x10 < F.DMA_CH_EVCOUNT_ABORT_COUNT.reg.base := by decide
@[simp] theorem F.DMA_CH_EVCOUNT_LOOP_COUNT_high : 0x10 < F.DMA_CH_EVCOUNT_LOOP_COUNT.reg.base := by decide
@[simp] theorem F.DMA_CH_RESIDUE_RESIDUE_high : 0x10 < F.DMA_CH_RESIDUE_RESIDUE.reg.base := by decide
@[simp] theorem F.DMA_CH_RESIDUE_LINKS_high : 0x10 < F.DMA_CH_RESIDUE_LINKS.reg.base := by decide
@[simp] theorem F.DMA_CH_ERR_ADDR_LO_ADDR_high : 0x10 < F.DMA_CH_ERR_ADDR_LO_ADDR.reg.base := by decide
@[simp] theorem F.DMA_CH_ERR_ADDR_HI_ADDR_high : 0x10 < F.DMA_CH_ERR_ADDR_HI_ADDR.reg.base := by decide
@[simp] theorem F.DMA_CH_HOLDOFF_HOLDOFF_US_high : 0x10 < F.DMA_CH_HOLDOFF_HOLDOFF_US.reg.base := by decide
@[simp] theorem F.DMA_CH_INJ_RATE_VALUE_high : 0x10 < F.DMA_CH_INJ_RATE_VALUE.reg.base := by decide
@[simp] theorem F.DMA_CH_INJ_BURST_VALUE_high : 0x10 < F.DMA_CH_INJ_BURST_VALUE.reg.base := by decide
@[simp] theorem F.DMA_CH_INJ_TOKENS_VALUE_high : 0x10 < F.DMA_CH_INJ_TOKENS_VALUE.reg.base := by decide
@[simp] theorem F.DMA_CH_DESC_WORD_high : 0x10 < F.DMA_CH_DESC_WORD.reg.base := by decide
@[simp] theorem F.DMA_CH_STAT_LO_COUNT_high : 0x10 < F.DMA_CH_STAT_LO_COUNT.reg.base := by decide
@[simp] theorem F.DMA_CH_STAT_HI_COUNT_high : 0x10 < F.DMA_CH_STAT_HI_COUNT.reg.base := by decide
@[simp] theorem F.DMA_HOSTQ_CFG_CHANNEL_high : 0x10 < F.DMA_HOSTQ_CFG_CHANNEL.reg.base := by decide
@[simp] theorem F.DMA_HOSTQ_CFG_DEPTH_LIMIT_high : 0x10 < F.DMA_HOSTQ_CFG_DEPTH_LIMIT.reg.base := by decide
@[simp] theorem F.DMA_HOSTQ_STATUS_DEPTH_high : 0x10 < F.DMA_HOSTQ_STATUS_DEPTH.reg.base := by decide
@[simp] theorem F.DMA_HOSTQ_STATUS_DROP_high : 0x10 < F.DMA_HOSTQ_STATUS_DROP.reg.base := by decide
@[simp] theorem F.DMA_HOSTQ_STATUS_DROP_COUNT_high : 0x10 < F.DMA_HOSTQ_STATUS_DROP_COUNT.reg.base := by decide
@[simp] theorem F.DMA_HOSTQ_DROPS_LO_COUNT_high : 0x10 < F.DMA_HOSTQ_DROPS_LO_COUNT.reg.base := by decide
@[simp] theorem F.DMA_HOSTQ_DROPS_HI_COUNT_high : 0x10 < F.DMA_HOSTQ_DROPS_HI_COUNT.reg.base := by decide
@[simp] theorem F.DMA_DOORBELL_POSTED_high : 0x10 < F.DMA_DOORBELL_POSTED.reg.base := by decide
@[simp] theorem F.DMA_CH_CMD_START_high : 0x10 < F.DMA_CH_CMD_START.reg.base := by decide
@[simp] theorem F.DMA_CH_CMD_ABORT_high : 0x10 < F.DMA_CH_CMD_ABORT.reg.base := by decide
@[simp] theorem F.TLY_STATUS_STORE_ERR_high : 0x10 < F.TLY_STATUS_STORE_ERR.reg.base := by decide
@[simp] theorem F.TLY_STATUS_STORE_ERR_COUNT_high : 0x10 < F.TLY_STATUS_STORE_ERR_COUNT.reg.base := by decide
@[simp] theorem F.TLY_STATUS_MIRROR_PASSES_high : 0x10 < F.TLY_STATUS_MIRROR_PASSES.reg.base := by decide
@[simp] theorem F.TLY_BOOK_CFG_SECTIONS_high : 0x10 < F.TLY_BOOK_CFG_SECTIONS.reg.base := by decide
@[simp] theorem F.TLY_BOOK_BUF_LO_ADDR_high : 0x10 < F.TLY_BOOK_BUF_LO_ADDR.reg.base := by decide
@[simp] theorem F.TLY_BOOK_BUF_HI_ADDR_high : 0x10 < F.TLY_BOOK_BUF_HI_ADDR.reg.base := by decide
@[simp] theorem F.TLY_BOOK_STATUS_OPEN_high : 0x10 < F.TLY_BOOK_STATUS_OPEN.reg.base := by decide
@[simp] theorem F.TLY_BOOK_STATUS_DRAINING_high : 0x10 < F.TLY_BOOK_STATUS_DRAINING.reg.base := by decide
@[simp] theorem F.TLY_BOOK_STATUS_MISSED_high : 0x10 < F.TLY_BOOK_STATUS_MISSED.reg.base := by decide
@[simp] theorem F.TLY_BOOK_STATUS_MISSED_COUNT_high : 0x10 < F.TLY_BOOK_STATUS_MISSED_COUNT.reg.base := by decide
@[simp] theorem F.TLY_BOOK_NEXT_SEQ_SEQ_high : 0x10 < F.TLY_BOOK_NEXT_SEQ_SEQ.reg.base := by decide
@[simp] theorem F.TLY_BOOK_T_SEC_LO_VALUE_high : 0x10 < F.TLY_BOOK_T_SEC_LO_VALUE.reg.base := by decide
@[simp] theorem F.TLY_BOOK_T_SEC_HI_VALUE_high : 0x10 < F.TLY_BOOK_T_SEC_HI_VALUE.reg.base := by decide
@[simp] theorem F.TLY_BOOK_T_NS_VALUE_high : 0x10 < F.TLY_BOOK_T_NS_VALUE.reg.base := by decide
@[simp] theorem F.TLY_BOOK_SEQ_VALUE_high : 0x10 < F.TLY_BOOK_SEQ_VALUE.reg.base := by decide
@[simp] theorem F.TLY_SAMPLE_PROD_VALUE_high : 0x10 < F.TLY_SAMPLE_PROD_VALUE.reg.base := by decide
@[simp] theorem F.TLY_SAMPLE_LOST_VALUE_high : 0x10 < F.TLY_SAMPLE_LOST_VALUE.reg.base := by decide
@[simp] theorem F.TLY_UNIT_INFO_KIND_high : 0x10 < F.TLY_UNIT_INFO_KIND.reg.base := by decide
@[simp] theorem F.TLY_UNIT_INFO_INDEX_high : 0x10 < F.TLY_UNIT_INFO_INDEX.reg.base := by decide
@[simp] theorem F.TLY_UNIT_INFO_COUNTERS_high : 0x10 < F.TLY_UNIT_INFO_COUNTERS.reg.base := by decide
@[simp] theorem F.TLY_UNIT_INFO_DOMAIN_high : 0x10 < F.TLY_UNIT_INFO_DOMAIN.reg.base := by decide
@[simp] theorem F.TLY_UNIT_INFO_DIE_high : 0x10 < F.TLY_UNIT_INFO_DIE.reg.base := by decide
@[simp] theorem F.TLY_CNT_SEL_EVENT_high : 0x10 < F.TLY_CNT_SEL_EVENT.reg.base := by decide
@[simp] theorem F.TLY_CNT_SEL_LEVEL_high : 0x10 < F.TLY_CNT_SEL_LEVEL.reg.base := by decide
@[simp] theorem F.TLY_CNT_SEL_ENABLE_high : 0x10 < F.TLY_CNT_SEL_ENABLE.reg.base := by decide
@[simp] theorem F.TLY_CNT_SEL_SAT_high : 0x10 < F.TLY_CNT_SEL_SAT.reg.base := by decide
@[simp] theorem F.TLY_CNT_SEL_CLEAR_high : 0x10 < F.TLY_CNT_SEL_CLEAR.reg.base := by decide
@[simp] theorem F.TLY_CNT_LO_VALUE_high : 0x10 < F.TLY_CNT_LO_VALUE.reg.base := by decide
@[simp] theorem F.TLY_CNT_HI_VALUE_high : 0x10 < F.TLY_CNT_HI_VALUE.reg.base := by decide
@[simp] theorem F.MRG_CFG_ALL_high : 0x10 < F.MRG_CFG_ALL.reg.base := by decide
@[simp] theorem F.MRG_CFG_IOAM_SLOT_high : 0x10 < F.MRG_CFG_IOAM_SLOT.reg.base := by decide
@[simp] theorem F.MRG_CFG_IOAM_NS_high : 0x10 < F.MRG_CFG_IOAM_NS.reg.base := by decide
@[simp] theorem F.MRG_NODE_ID_NODE_ID_high : 0x10 < F.MRG_NODE_ID_NODE_ID.reg.base := by decide
@[simp] theorem F.MRG_PORT_CFG_SEL_IN_high : 0x10 < F.MRG_PORT_CFG_SEL_IN.reg.base := by decide
@[simp] theorem F.MRG_PORT_CFG_SEL_OUT_high : 0x10 < F.MRG_PORT_CFG_SEL_OUT.reg.base := by decide
@[simp] theorem F.MRG_PORT_CFG_RECOGNISE_high : 0x10 < F.MRG_PORT_CFG_RECOGNISE.reg.base := by decide
@[simp] theorem F.MRG_PORT_CFG_STRIP_high : 0x10 < F.MRG_PORT_CFG_STRIP.reg.base := by decide
@[simp] theorem F.MRG_PORT_CFG_FORM_high : 0x10 < F.MRG_PORT_CFG_FORM.reg.base := by decide
@[simp] theorem F.MRG_PORT_CFG_SAMPLE_N_high : 0x10 < F.MRG_PORT_CFG_SAMPLE_N.reg.base := by decide
@[simp] theorem F.MRG_RULE_SEL_SEL_high : 0x10 < F.MRG_RULE_SEL_SEL.reg.base := by decide
@[simp] theorem F.MRG_GSTAT_LO_COUNT_high : 0x10 < F.MRG_GSTAT_LO_COUNT.reg.base := by decide
@[simp] theorem F.MRG_GSTAT_HI_COUNT_high : 0x10 < F.MRG_GSTAT_HI_COUNT.reg.base := by decide
@[simp] theorem F.GOV_CAP_CFG_CAP_FLOOR_OP_high : 0x10 < F.GOV_CAP_CFG_CAP_FLOOR_OP.reg.base := by decide
@[simp] theorem F.GOV_CAP_CFG_GAIN_high : 0x10 < F.GOV_CAP_CFG_GAIN.reg.base := by decide
@[simp] theorem F.GOV_CAP_CFG_RELEASE_W_high : 0x10 < F.GOV_CAP_CFG_RELEASE_W.reg.base := by decide
@[simp] theorem F.GOV_CAP_CFG_AVG_US_high : 0x10 < F.GOV_CAP_CFG_AVG_US.reg.base := by decide
@[simp] theorem F.GOV_CAP_CAP_W_high : 0x10 < F.GOV_CAP_CAP_W.reg.base := by decide
@[simp] theorem F.GOV_CAP_STATUS_LEVEL_high : 0x10 < F.GOV_CAP_STATUS_LEVEL.reg.base := by decide
@[simp] theorem F.GOV_CAP_STATUS_ENGAGED_high : 0x10 < F.GOV_CAP_STATUS_ENGAGED.reg.base := by decide
@[simp] theorem F.GOV_CAP_STATUS_UNREACHABLE_high : 0x10 < F.GOV_CAP_STATUS_UNREACHABLE.reg.base := by decide
@[simp] theorem F.GOV_CAP_STATUS_ENGAGE_SET_high : 0x10 < F.GOV_CAP_STATUS_ENGAGE_SET.reg.base := by decide
@[simp] theorem F.GOV_CAP_STATUS_UNREACH_SET_high : 0x10 < F.GOV_CAP_STATUS_UNREACH_SET.reg.base := by decide
@[simp] theorem F.GOV_CAP_STATUS_ENGAGE_COUNT_high : 0x10 < F.GOV_CAP_STATUS_ENGAGE_COUNT.reg.base := by decide
@[simp] theorem F.GOV_CAP_STATUS_UNREACH_COUNT_high : 0x10 < F.GOV_CAP_STATUS_UNREACH_COUNT.reg.base := by decide
@[simp] theorem F.GOV_POWER_EST_W_high : 0x10 < F.GOV_POWER_EST_W.reg.base := by decide
@[simp] theorem F.GOV_POWER_DEBIT_NJ_high : 0x10 < F.GOV_POWER_DEBIT_NJ.reg.base := by decide
@[simp] theorem F.GOV_BUDGET_BUDGET_NJ_high : 0x10 < F.GOV_BUDGET_BUDGET_NJ.reg.base := by decide
@[simp] theorem F.GOV_DROOP_CFG_THRESHOLD_MV_high : 0x10 < F.GOV_DROOP_CFG_THRESHOLD_MV.reg.base := by decide
@[simp] theorem F.GOV_DROOP_CFG_STRETCH_high : 0x10 < F.GOV_DROOP_CFG_STRETCH.reg.base := by decide
@[simp] theorem F.GOV_DROOP_CFG_HOLD_high : 0x10 < F.GOV_DROOP_CFG_HOLD.reg.base := by decide
@[simp] theorem F.GOV_DROOP_CFG_STEP_COUNT_high : 0x10 < F.GOV_DROOP_CFG_STEP_COUNT.reg.base := by decide
@[simp] theorem F.GOV_THERM_CFG_STEP_US_high : 0x10 < F.GOV_THERM_CFG_STEP_US.reg.base := by decide
@[simp] theorem F.GOV_THERM_CFG_RELEASE_US_high : 0x10 < F.GOV_THERM_CFG_RELEASE_US.reg.base := by decide
@[simp] theorem F.GOV_PMBUS_CFG_ENABLE_high : 0x10 < F.GOV_PMBUS_CFG_ENABLE.reg.base := by decide
@[simp] theorem F.GOV_PMBUS_CFG_FAULT_high : 0x10 < F.GOV_PMBUS_CFG_FAULT.reg.base := by decide
@[simp] theorem F.GOV_PMBUS_CFG_RAILS_high : 0x10 < F.GOV_PMBUS_CFG_RAILS.reg.base := by decide
@[simp] theorem F.GOV_PMBUS_CFG_FAULT_COUNT_high : 0x10 < F.GOV_PMBUS_CFG_FAULT_COUNT.reg.base := by decide
@[simp] theorem F.GOV_TRIP_STATUS_SENSOR_high : 0x10 < F.GOV_TRIP_STATUS_SENSOR.reg.base := by decide
@[simp] theorem F.GOV_TRIP_STATUS_TRIPPED_high : 0x10 < F.GOV_TRIP_STATUS_TRIPPED.reg.base := by decide
@[simp] theorem F.GOV_TRIP_STATUS_COOL_high : 0x10 < F.GOV_TRIP_STATUS_COOL.reg.base := by decide
@[simp] theorem F.GOV_TRIP_STATUS_COOL_MS_high : 0x10 < F.GOV_TRIP_STATUS_COOL_MS.reg.base := by decide
@[simp] theorem F.GOV_OP_POINT_M_high : 0x10 < F.GOV_OP_POINT_M.reg.base := by decide
@[simp] theorem F.GOV_OP_POINT_MV_high : 0x10 < F.GOV_OP_POINT_MV.reg.base := by decide
@[simp] theorem F.GOV_DIE_OP_DEMAND_high : 0x10 < F.GOV_DIE_OP_DEMAND.reg.base := by decide
@[simp] theorem F.GOV_DIE_OP_THERM_LIMIT_high : 0x10 < F.GOV_DIE_OP_THERM_LIMIT.reg.base := by decide
@[simp] theorem F.GOV_DIE_OP_CAP_LIMIT_high : 0x10 < F.GOV_DIE_OP_CAP_LIMIT.reg.base := by decide
@[simp] theorem F.GOV_DIE_OP_DROOP_LIMIT_high : 0x10 < F.GOV_DIE_OP_DROOP_LIMIT.reg.base := by decide
@[simp] theorem F.GOV_DIE_OP_TARGET_high : 0x10 < F.GOV_DIE_OP_TARGET.reg.base := by decide
@[simp] theorem F.GOV_DIE_OP_IN_FORCE_high : 0x10 < F.GOV_DIE_OP_IN_FORCE.reg.base := by decide
@[simp] theorem F.GOV_DIE_OP_STEPPING_high : 0x10 < F.GOV_DIE_OP_STEPPING.reg.base := by decide
@[simp] theorem F.GOV_DIE_OP_REASONS_high : 0x10 < F.GOV_DIE_OP_REASONS.reg.base := by decide
@[simp] theorem F.GOV_DIE_SEL_HOST_PROFILE_high : 0x10 < F.GOV_DIE_SEL_HOST_PROFILE.reg.base := by decide
@[simp] theorem F.GOV_DIE_SEL_LOCKSTEP_PROFILE_high : 0x10 < F.GOV_DIE_SEL_LOCKSTEP_PROFILE.reg.base := by decide
@[simp] theorem F.GOV_DIE_SEL_LOCKSTEP_high : 0x10 < F.GOV_DIE_SEL_LOCKSTEP.reg.base := by decide
@[simp] theorem F.GOV_DIE_POWER_EST_W_high : 0x10 < F.GOV_DIE_POWER_EST_W.reg.base := by decide
@[simp] theorem F.GOV_DIE_POWER_TEMP_high : 0x10 < F.GOV_DIE_POWER_TEMP.reg.base := by decide
@[simp] theorem F.GOV_DIE_DROOP_DROOPS_high : 0x10 < F.GOV_DIE_DROOP_DROOPS.reg.base := by decide
@[simp] theorem F.GOV_DIE_DROOP_STRETCH_DENIED_high : 0x10 < F.GOV_DIE_DROOP_STRETCH_DENIED.reg.base := by decide
@[simp] theorem F.GOV_DIE_STEPS_STEPS_high : 0x10 < F.GOV_DIE_STEPS_STEPS.reg.base := by decide
@[simp] theorem F.GOV_DIE_STEPS_DEFERRED_high : 0x10 < F.GOV_DIE_STEPS_DEFERRED.reg.base := by decide
@[simp] theorem F.GOV_REASON_US_VALUE_high : 0x10 < F.GOV_REASON_US_VALUE.reg.base := by decide
@[simp] theorem F.GOV_REASON_LAST_VALUE_high : 0x10 < F.GOV_REASON_LAST_VALUE.reg.base := by decide
@[simp] theorem F.GOV_ZONE_LIMIT_WARN_high : 0x10 < F.GOV_ZONE_LIMIT_WARN.reg.base := by decide
@[simp] theorem F.GOV_ZONE_LIMIT_THROTTLE_high : 0x10 < F.GOV_ZONE_LIMIT_THROTTLE.reg.base := by decide
@[simp] theorem F.GOV_ZONE_LIMIT_CRITICAL_high : 0x10 < F.GOV_ZONE_LIMIT_CRITICAL.reg.base := by decide
@[simp] theorem F.GOV_ZONE_LIMIT_HYST_high : 0x10 < F.GOV_ZONE_LIMIT_HYST.reg.base := by decide
@[simp] theorem F.GOV_ZONE_STATUS_TEMP_high : 0x10 < F.GOV_ZONE_STATUS_TEMP.reg.base := by decide
@[simp] theorem F.GOV_ZONE_STATUS_ABOVE_WARN_high : 0x10 < F.GOV_ZONE_STATUS_ABOVE_WARN.reg.base := by decide
@[simp] theorem F.GOV_ZONE_STATUS_ABOVE_THROTTLE_high : 0x10 < F.GOV_ZONE_STATUS_ABOVE_THROTTLE.reg.base := by decide
@[simp] theorem F.GOV_ZONE_STATUS_ABOVE_CRITICAL_high : 0x10 < F.GOV_ZONE_STATUS_ABOVE_CRITICAL.reg.base := by decide
@[simp] theorem F.GOV_ZONE_STATUS_WARN_SET_high : 0x10 < F.GOV_ZONE_STATUS_WARN_SET.reg.base := by decide
@[simp] theorem F.GOV_ZONE_STATUS_THROTTLE_SET_high : 0x10 < F.GOV_ZONE_STATUS_THROTTLE_SET.reg.base := by decide
@[simp] theorem F.GOV_ZONE_STATUS_CRITICAL_SET_high : 0x10 < F.GOV_ZONE_STATUS_CRITICAL_SET.reg.base := by decide
@[simp] theorem F.GOV_ZONE_STATUS_GOOD_high : 0x10 < F.GOV_ZONE_STATUS_GOOD.reg.base := by decide
@[simp] theorem F.GOV_ZONE_COUNT_WARN_COUNT_high : 0x10 < F.GOV_ZONE_COUNT_WARN_COUNT.reg.base := by decide
@[simp] theorem F.GOV_ZONE_COUNT_THROTTLE_COUNT_high : 0x10 < F.GOV_ZONE_COUNT_THROTTLE_COUNT.reg.base := by decide
@[simp] theorem F.GOV_ZONE_COUNT_CRITICAL_COUNT_high : 0x10 < F.GOV_ZONE_COUNT_CRITICAL_COUNT.reg.base := by decide
@[simp] theorem F.GOV_SENSOR_TEMP_high : 0x10 < F.GOV_SENSOR_TEMP.reg.base := by decide
@[simp] theorem F.GOV_SENSOR_FAULT_high : 0x10 < F.GOV_SENSOR_FAULT.reg.base := by decide
@[simp] theorem F.GOV_PROFILE_OP_high : 0x10 < F.GOV_PROFILE_OP.reg.base := by decide
@[simp] theorem F.GOV_PROFILE_ALLOWANCE_high : 0x10 < F.GOV_PROFILE_ALLOWANCE.reg.base := by decide
@[simp] theorem F.GOV_PIPE_CFG_SHARE_high : 0x10 < F.GOV_PIPE_CFG_SHARE.reg.base := by decide
@[simp] theorem F.GOV_PIPE_STATUS_SLOTS_high : 0x10 < F.GOV_PIPE_STATUS_SLOTS.reg.base := by decide
@[simp] theorem F.GOV_PIPE_STATUS_ADMIT_XOFF_high : 0x10 < F.GOV_PIPE_STATUS_ADMIT_XOFF.reg.base := by decide
@[simp] theorem F.GOV_PIPE_STATUS_ADMIT_DROP_high : 0x10 < F.GOV_PIPE_STATUS_ADMIT_DROP.reg.base := by decide
@[simp] theorem F.GOV_PIPE_STATUS_ADMIT_DROP_COUNT_high : 0x10 < F.GOV_PIPE_STATUS_ADMIT_DROP_COUNT.reg.base := by decide
@[simp] theorem F.GOV_PIPE_STATUS_BACKLOG_KB_high : 0x10 < F.GOV_PIPE_STATUS_BACKLOG_KB.reg.base := by decide
@[simp] theorem F.GOV_PIPE_ALLOW_DEMAND_high : 0x10 < F.GOV_PIPE_ALLOW_DEMAND.reg.base := by decide
@[simp] theorem F.GOV_PIPE_ALLOW_SENT_high : 0x10 < F.GOV_PIPE_ALLOW_SENT.reg.base := by decide
@[simp] theorem F.GOV_PIPE_ADMIT_DROPS_COUNT_high : 0x10 < F.GOV_PIPE_ADMIT_DROPS_COUNT.reg.base := by decide
@[simp] theorem F.GOV_PMBUS_RAIL_VALUE_high : 0x10 < F.GOV_PMBUS_RAIL_VALUE.reg.base := by decide
@[simp] theorem F.GOV_PMBUS_READ_VALUE_high : 0x10 < F.GOV_PMBUS_READ_VALUE.reg.base := by decide
@[simp] theorem F.CLH_STATUS_FAULT_HOLD_high : 0x10 < F.CLH_STATUS_FAULT_HOLD.reg.base := by decide
@[simp] theorem F.CLH_STATUS_RECORD_LOST_high : 0x10 < F.CLH_STATUS_RECORD_LOST.reg.base := by decide
@[simp] theorem F.CLH_STATUS_RAIL_BREAK_high : 0x10 < F.CLH_STATUS_RAIL_BREAK.reg.base := by decide
@[simp] theorem F.CLH_STATUS_ESCALATED_high : 0x10 < F.CLH_STATUS_ESCALATED.reg.base := by decide
@[simp] theorem F.CLH_STATUS_LOST_COUNT_high : 0x10 < F.CLH_STATUS_LOST_COUNT.reg.base := by decide
@[simp] theorem F.CLH_STATUS_BREAK_COUNT_high : 0x10 < F.CLH_STATUS_BREAK_COUNT.reg.base := by decide
@[simp] theorem F.CLH_STATUS_ESC_COUNT_high : 0x10 < F.CLH_STATUS_ESC_COUNT.reg.base := by decide
@[simp] theorem F.CLH_ERRN_CFG_PULSE_US_high : 0x10 < F.CLH_ERRN_CFG_PULSE_US.reg.base := by decide
@[simp] theorem F.CLH_ERRN_CFG_MODE_high : 0x10 < F.CLH_ERRN_CFG_MODE.reg.base := by decide
@[simp] theorem F.CLH_ERRN_CFG_FORCE_high : 0x10 < F.CLH_ERRN_CFG_FORCE.reg.base := by decide
@[simp] theorem F.CLH_ERRN_STATUS_DRIVEN_high : 0x10 < F.CLH_ERRN_STATUS_DRIVEN.reg.base := by decide
@[simp] theorem F.CLH_ERRN_STATUS_PULSE_high : 0x10 < F.CLH_ERRN_STATUS_PULSE.reg.base := by decide
@[simp] theorem F.CLH_ERRN_STATUS_HOLD_high : 0x10 < F.CLH_ERRN_STATUS_HOLD.reg.base := by decide
@[simp] theorem F.CLH_ERRN_STATUS_NOQS_high : 0x10 < F.CLH_ERRN_STATUS_NOQS.reg.base := by decide
@[simp] theorem F.CLH_ERRN_STATUS_ASSERTIONS_high : 0x10 < F.CLH_ERRN_STATUS_ASSERTIONS.reg.base := by decide
@[simp] theorem F.CLH_REC_HEAD_NEXT_high : 0x10 < F.CLH_REC_HEAD_NEXT.reg.base := by decide
@[simp] theorem F.CLH_CLASS_CFG_REACT_high : 0x10 < F.CLH_CLASS_CFG_REACT.reg.base := by decide
@[simp] theorem F.CLH_CLASS_CFG_ESCALATE_high : 0x10 < F.CLH_CLASS_CFG_ESCALATE.reg.base := by decide
@[simp] theorem F.CLH_CLASS_CFG_ACK_TIMEOUT_MS_high : 0x10 < F.CLH_CLASS_CFG_ACK_TIMEOUT_MS.reg.base := by decide
@[simp] theorem F.CLH_CLASS_STATUS_UNACKED_high : 0x10 < F.CLH_CLASS_STATUS_UNACKED.reg.base := by decide
@[simp] theorem F.CLH_CLASS_STATUS_RECORDS_high : 0x10 < F.CLH_CLASS_STATUS_RECORDS.reg.base := by decide
@[simp] theorem F.CLH_COLLECTOR_LINK_OK_high : 0x10 < F.CLH_COLLECTOR_LINK_OK.reg.base := by decide
@[simp] theorem F.CLH_COLLECTOR_LOST_high : 0x10 < F.CLH_COLLECTOR_LOST.reg.base := by decide
@[simp] theorem F.CLH_COLLECTOR_LOST_COUNT_high : 0x10 < F.CLH_COLLECTOR_LOST_COUNT.reg.base := by decide
@[simp] theorem F.CLH_COLLECTOR_RETRIES_high : 0x10 < F.CLH_COLLECTOR_RETRIES.reg.base := by decide
@[simp] theorem F.CLH_GROUP_SUMMARY_PENDING_high : 0x10 < F.CLH_GROUP_SUMMARY_PENDING.reg.base := by decide
@[simp] theorem F.CLH_GROUP_CFG_VECTOR_high : 0x10 < F.CLH_GROUP_CFG_VECTOR.reg.base := by decide
@[simp] theorem F.CLH_GROUP_CFG_HOLDOFF_US_high : 0x10 < F.CLH_GROUP_CFG_HOLDOFF_US.reg.base := by decide
@[simp] theorem F.CLH_EVT_PEND_LO_PEND_high : 0x10 < F.CLH_EVT_PEND_LO_PEND.reg.base := by decide
@[simp] theorem F.CLH_EVT_PEND_HI_PEND_high : 0x10 < F.CLH_EVT_PEND_HI_PEND.reg.base := by decide
@[simp] theorem F.CLH_EVT_MASK_LO_BITS_high : 0x10 < F.CLH_EVT_MASK_LO_BITS.reg.base := by decide
@[simp] theorem F.CLH_EVT_MASK_HI_BITS_high : 0x10 < F.CLH_EVT_MASK_HI_BITS.reg.base := by decide
@[simp] theorem F.CLH_EVT_TLR_LO_BITS_high : 0x10 < F.CLH_EVT_TLR_LO_BITS.reg.base := by decide
@[simp] theorem F.CLH_EVT_TLR_HI_BITS_high : 0x10 < F.CLH_EVT_TLR_HI_BITS.reg.base := by decide
@[simp] theorem F.CLH_SRC_CFG_CLASS_high : 0x10 < F.CLH_SRC_CFG_CLASS.reg.base := by decide
@[simp] theorem F.CLH_SRC_CFG_DEFAULT_CLASS_high : 0x10 < F.CLH_SRC_CFG_DEFAULT_CLASS.reg.base := by decide
@[simp] theorem F.CLH_SRC_CFG_ESCALATE_high : 0x10 < F.CLH_SRC_CFG_ESCALATE.reg.base := by decide
@[simp] theorem F.CLH_SRC_CFG_REACT_high : 0x10 < F.CLH_SRC_CFG_REACT.reg.base := by decide
@[simp] theorem F.CLH_SRC_CFG_BROKEN_high : 0x10 < F.CLH_SRC_CFG_BROKEN.reg.base := by decide
@[simp] theorem F.CLH_SRC_CFG_RAILS_high : 0x10 < F.CLH_SRC_CFG_RAILS.reg.base := by decide
@[simp] theorem F.CLH_SRC_CFG_USED_high : 0x10 < F.CLH_SRC_CFG_USED.reg.base := by decide
@[simp] theorem F.CLH_EVT_COUNT_COUNTS_high : 0x10 < F.CLH_EVT_COUNT_COUNTS.reg.base := by decide
@[simp] theorem F.GLB_WINDOW_STATUS_SIZE_ERR_high : 0x10 < F.GLB_WINDOW_STATUS_SIZE_ERR.reg.base := by decide
@[simp] theorem F.GLB_WINDOW_STATUS_UNCORR_high : 0x10 < F.GLB_WINDOW_STATUS_UNCORR.reg.base := by decide
@[simp] theorem F.GLB_WINDOW_STATUS_SIZE_ERR_COUNT_high : 0x10 < F.GLB_WINDOW_STATUS_SIZE_ERR_COUNT.reg.base := by decide
@[simp] theorem F.GLB_WINDOW_STATUS_UNCORR_COUNT_high : 0x10 < F.GLB_WINDOW_STATUS_UNCORR_COUNT.reg.base := by decide
@[simp] theorem F.GLB_WINDOW_ERR_ADDR_OFFSET_high : 0x10 < F.GLB_WINDOW_ERR_ADDR_OFFSET.reg.base := by decide
@[simp] theorem F.MSIX_TABLE_WORD_high : 0x10 < F.MSIX_TABLE_WORD.reg.base := by decide
@[simp] theorem F.MSIX_PBA_PENDING_high : 0x10 < F.MSIX_PBA_PENDING.reg.base := by decide
@[simp] theorem F.VLT_DIE_DESC_FREE_DESC_high : 0x10 < F.VLT_DIE_DESC_FREE_DESC.reg.base := by decide
@[simp] theorem F.VLT_DIE_DESC_DESC_LOW_high : 0x10 < F.VLT_DIE_DESC_DESC_LOW.reg.base := by decide
@[simp] theorem F.VLT_DIE_COMMON_VALUE_high : 0x10 < F.VLT_DIE_COMMON_VALUE.reg.base := by decide
@[simp] theorem F.VLT_DIE_COMMON_FREE_VALUE_high : 0x10 < F.VLT_DIE_COMMON_FREE_VALUE.reg.base := by decide
@[simp] theorem F.VLT_POOL_RESERVE_VALUE_high : 0x10 < F.VLT_POOL_RESERVE_VALUE.reg.base := by decide
@[simp] theorem F.VLT_POOL_SHARE_VALUE_high : 0x10 < F.VLT_POOL_SHARE_VALUE.reg.base := by decide
@[simp] theorem F.VLT_POOL_CAP_VALUE_high : 0x10 < F.VLT_POOL_CAP_VALUE.reg.base := by decide
@[simp] theorem F.VLT_POOL_HEADROOM_VALUE_high : 0x10 < F.VLT_POOL_HEADROOM_VALUE.reg.base := by decide
@[simp] theorem F.VLT_POOL_RES_USED_VALUE_high : 0x10 < F.VLT_POOL_RES_USED_VALUE.reg.base := by decide
@[simp] theorem F.VLT_POOL_COM_USED_VALUE_high : 0x10 < F.VLT_POOL_COM_USED_VALUE.reg.base := by decide
@[simp] theorem F.VLT_POOL_HR_USED_VALUE_high : 0x10 < F.VLT_POOL_HR_USED_VALUE.reg.base := by decide
@[simp] theorem F.CLS_TABLE_MASK_VALUE_high : 0x10 < F.CLS_TABLE_MASK_VALUE.reg.base := by decide
@[simp] theorem F.CLS_TERN_SELECT_VALUE_high : 0x10 < F.CLS_TERN_SELECT_VALUE.reg.base := by decide
@[simp] theorem F.LDG_LEDGER_MAX_VALUE_high : 0x10 < F.LDG_LEDGER_MAX_VALUE.reg.base := by decide
@[simp] theorem F.LDG_LEDGER_SEED0_VALUE_high : 0x10 < F.LDG_LEDGER_SEED0_VALUE.reg.base := by decide
@[simp] theorem F.LDG_LEDGER_SEED1_VALUE_high : 0x10 < F.LDG_LEDGER_SEED1_VALUE.reg.base := by decide
@[simp] theorem F.LDG_LEDGER_COUNT_VALUE_high : 0x10 < F.LDG_LEDGER_COUNT_VALUE.reg.base := by decide
@[simp] theorem F.LDG_LEDGER_LEARN_VALUE_high : 0x10 < F.LDG_LEDGER_LEARN_VALUE.reg.base := by decide
@[simp] theorem F.LDG_LEDGER_SELECT_VALUE_high : 0x10 < F.LDG_LEDGER_SELECT_VALUE.reg.base := by decide
@[simp] theorem F.LDG_LEDGER_SELECT4_VALUE_high : 0x10 < F.LDG_LEDGER_SELECT4_VALUE.reg.base := by decide
@[simp] theorem F.LDG_LOOKUP_SELECT_VALUE_high : 0x10 < F.LDG_LOOKUP_SELECT_VALUE.reg.base := by decide
@[simp] theorem F.LDG_PROFILE_MISS_VALUE_high : 0x10 < F.LDG_PROFILE_MISS_VALUE.reg.base := by decide
@[simp] theorem F.LDG_AUDIT_CFG_ENABLE_high : 0x10 < F.LDG_AUDIT_CFG_ENABLE.reg.base := by decide
@[simp] theorem F.LDG_AUDIT_CFG_ACTION_high : 0x10 < F.LDG_AUDIT_CFG_ACTION.reg.base := by decide
@[simp] theorem F.LDG_AUDIT_CFG_LEDGER_high : 0x10 < F.LDG_AUDIT_CFG_LEDGER.reg.base := by decide
@[simp] theorem F.LDG_AUDIT_CFG_PASS_MS_high : 0x10 < F.LDG_AUDIT_CFG_PASS_MS.reg.base := by decide
@[simp] theorem F.LDG_AUDIT_ADDR_LO_VALUE_high : 0x10 < F.LDG_AUDIT_ADDR_LO_VALUE.reg.base := by decide
@[simp] theorem F.LDG_AUDIT_ADDR_HI_VALUE_high : 0x10 < F.LDG_AUDIT_ADDR_HI_VALUE.reg.base := by decide
@[simp] theorem F.LDG_AUDIT_SLOT_VALUE_high : 0x10 < F.LDG_AUDIT_SLOT_VALUE.reg.base := by decide
@[simp] theorem F.CLRK_IMAGE_VALUE_high : 0x10 < F.CLRK_IMAGE_VALUE.reg.base := by decide
@[simp] theorem F.CLRK_KR_VALUE_high : 0x10 < F.CLRK_KR_VALUE.reg.base := by decide
@[simp] theorem F.CTH_DIE_MEMBERS_FREE_MEMBERS_high : 0x10 < F.CTH_DIE_MEMBERS_FREE_MEMBERS.reg.base := by decide
@[simp] theorem F.CTH_DIE_MEMBERS_INTAKE_KB_high : 0x10 < F.CTH_DIE_MEMBERS_INTAKE_KB.reg.base := by decide
@[simp] theorem F.CTH_SYN_MEMBER_BASE_VALUE_high : 0x10 < F.CTH_SYN_MEMBER_BASE_VALUE.reg.base := by decide
@[simp] theorem F.CTH_SYN_ABORT_COUNT_VALUE_high : 0x10 < F.CTH_SYN_ABORT_COUNT_VALUE.reg.base := by decide

end Sys2Proof.Machine
end

