-- ==== Sys2Proof/Laws/Tab.lean ====
section
/-! SUPPORT. Lemmas of sparse tables and bit fields: a read after a write, and the canonical form that every write keeps. -/
namespace Sys2Proof.Machine

@[simp] theorem Tab.find?_erase_same {α : Type} (t : Tab α) (k : Nat) : Tab.find? (Tab.erase t k) k = none := by
  induction t with
  | nil => rfl
  | cons p t ih =>
    obtain ⟨j, w⟩ := p
    by_cases h : j = k <;> simp_all [Tab.erase, Tab.find?]

theorem Tab.find?_erase_ne {α : Type} (t : Tab α) {k j : Nat} (h : j ≠ k) : Tab.find? (Tab.erase t k) j = Tab.find? t j := by
  induction t with
  | nil => rfl
  | cons p t ih =>
    obtain ⟨i, w⟩ := p
    by_cases hi : i = k
    · have : i ≠ j := by omega
      simp_all [Tab.erase, Tab.find?]
    · by_cases hj : i = j <;> simp_all [Tab.erase, Tab.find?]

@[simp] theorem Tab.find?_insert_same {α : Type} (t : Tab α) (k : Nat) (v : α) : Tab.find? (Tab.insert t k v) k = some v := by
  induction t with
  | nil => simp [Tab.insert, Tab.find?]
  | cons p t ih =>
    obtain ⟨j, w⟩ := p
    unfold Tab.insert
    split
    · simp [Tab.find?]
    · split <;> simp_all [Tab.find?]

theorem Tab.find?_insert_ne {α : Type} (t : Tab α) {k j : Nat} (v : α) (h : j ≠ k) : Tab.find? (Tab.insert t k v) j = Tab.find? t j := by
  induction t with
  | nil => simp [Tab.insert, Tab.find?, h.symm]
  | cons p t ih =>
    obtain ⟨i, w⟩ := p
    unfold Tab.insert
    split
    · simp [Tab.find?, h.symm]
    · split
      · rename_i hi
        subst hi
        simp [Tab.find?, h.symm]
      · simp [Tab.find?, ih]

@[simp] theorem Tab.get_set_same {α : Type} [DecidableEq α] (d : α) (t : Tab α) (k : Nat) (v : α) : Tab.get d (Tab.set d t k v) k = v := by
  unfold Tab.get Tab.set
  split
  · rename_i h
    rw [Tab.find?_erase_same, h]
    rfl
  · rw [Tab.find?_insert_same]
    rfl

theorem Tab.get_set_ne {α : Type} [DecidableEq α] (d : α) (t : Tab α) {k j : Nat} (v : α) (h : j ≠ k) :
    Tab.get d (Tab.set d t k v) j = Tab.get d t j := by
  unfold Tab.get Tab.set
  split
  · rw [Tab.find?_erase_ne t h]
  · rw [Tab.find?_insert_ne t v h]

theorem Tab.get_set {α : Type} [DecidableEq α] (d : α) (t : Tab α) (k j : Nat) (v : α) :
    Tab.get d (Tab.set d t k v) j = if j = k then v else Tab.get d t j := by
  split
  · subst_vars
    simp
  · rename_i h
    exact Tab.get_set_ne d t v h

/-- Every key of a table lies above a bound. -/
def Tab.above {α : Type} (n : Nat) (t : Tab α) : Prop := ∀ p ∈ t, n < p.1

theorem Tab.sorted_cons {α : Type} (p : Nat × α) (t : Tab α) : Tab.sorted (p :: t) = true ↔ Tab.above p.1 t ∧ Tab.sorted t = true := by
  induction t generalizing p with
  | nil => simp [Tab.sorted, Tab.above]
  | cons q t ih =>
    simp only [Tab.sorted, Bool.and_eq_true, decide_eq_true_eq]
    constructor
    · intro h
      refine ⟨?_, h.2⟩
      intro r hr
      rcases List.mem_cons.1 hr with rfl | hr
      · exact h.1
      · exact Nat.lt_trans h.1 (((ih q).1 h.2).1 r hr)
    · intro h
      exact ⟨h.1 q (by simp), h.2⟩

theorem Tab.above_erase {α : Type} {n : Nat} {t : Tab α} (k : Nat) (h : Tab.above n t) : Tab.above n (Tab.erase t k) :=
  fun p hp => h p (List.mem_filter.1 hp).1

theorem Tab.above_insert {α : Type} {n k : Nat} {t : Tab α} (v : α) (h : Tab.above n t) (hk : n < k) : Tab.above n (Tab.insert t k v) := by
  induction t with
  | nil =>
    intro p hp
    simp only [Tab.insert, List.mem_singleton] at hp
    subst hp
    exact hk
  | cons q t ih =>
    have ht : Tab.above n t := fun p hp => h p (by simp [hp])
    have hq := h q (by simp)
    obtain ⟨j, w⟩ := q
    unfold Tab.insert
    intro p hp
    split at hp
    · rcases List.mem_cons.1 hp with rfl | hp
      · exact hk
      · exact h p hp
    · split at hp
      · rcases List.mem_cons.1 hp with rfl | hp
        · exact hk
        · exact ht p hp
      · rcases List.mem_cons.1 hp with rfl | hp
        · exact hq
        · exact ih ht p hp

theorem Tab.sorted_filter {α : Type} (p : Nat × α → Bool) {t : Tab α} (h : Tab.sorted t = true) : Tab.sorted (t.filter p) = true := by
  induction t with
  | nil => rfl
  | cons q t ih =>
    have hq := (Tab.sorted_cons q t).1 h
    rw [List.filter_cons]
    split
    · exact (Tab.sorted_cons _ _).2 ⟨fun r hr => hq.1 r (List.mem_filter.1 hr).1, ih hq.2⟩
    · exact ih hq.2

theorem Tab.sorted_erase {α : Type} {t : Tab α} (k : Nat) (h : Tab.sorted t = true) : Tab.sorted (Tab.erase t k) = true :=
  Tab.sorted_filter _ h

theorem Tab.sorted_insert {α : Type} {t : Tab α} (k : Nat) (v : α) (h : Tab.sorted t = true) : Tab.sorted (Tab.insert t k v) = true := by
  induction t with
  | nil => rfl
  | cons q t ih =>
    obtain ⟨j, w⟩ := q
    have hq := (Tab.sorted_cons _ _).1 h
    unfold Tab.insert
    split
    · rename_i hk
      refine (Tab.sorted_cons _ _).2 ⟨?_, h⟩
      intro r hr
      rcases List.mem_cons.1 hr with rfl | hr
      · exact hk
      · exact Nat.lt_trans hk (hq.1 r hr)
    · split
      · rename_i hj
        subst hj
        exact (Tab.sorted_cons _ _).2 ⟨hq.1, hq.2⟩
      · rename_i h1 h2
        exact (Tab.sorted_cons _ _).2 ⟨Tab.above_insert v hq.1 (by omega), ih hq.2⟩

theorem Tab.mem_insert {α : Type} {t : Tab α} {k : Nat} {v : α} {p : Nat × α} (h : p ∈ Tab.insert t k v) : p = (k, v) ∨ p ∈ t := by
  induction t with
  | nil => exact .inl (by simpa [Tab.insert] using h)
  | cons q t ih =>
    obtain ⟨j, w⟩ := q
    unfold Tab.insert at h
    split at h
    · simpa using h
    · split at h
      · rcases List.mem_cons.1 h with h | h
        · exact .inl h
        · exact .inr (List.mem_cons_of_mem _ h)
      · rcases List.mem_cons.1 h with h | h
        · exact .inr (by simp [h])
        · rcases ih h with h | h
          · exact .inl h
          · exact .inr (List.mem_cons_of_mem _ h)

theorem Tab.wf_iff {α : Type} [DecidableEq α] (d : α) (t : Tab α) : Tab.wf d t = true ↔ Tab.sorted t = true ∧ ∀ p ∈ t, p.2 ≠ d := by
  simp [Tab.wf]

/-- A write keeps the canonical form. -/
theorem Tab.wf_set {α : Type} [DecidableEq α] (d : α) {t : Tab α} (k : Nat) (v : α) (h : Tab.wf d t = true) : Tab.wf d (Tab.set d t k v) = true := by
  rw [Tab.wf_iff] at h ⊢
  unfold Tab.set
  split
  · exact ⟨Tab.sorted_erase k h.1, fun p hp => h.2 p (List.mem_filter.1 hp).1⟩
  · rename_i hv
    refine ⟨Tab.sorted_insert k v h.1, fun p hp => ?_⟩
    rcases Tab.mem_insert hp with rfl | hp
    · exact hv
    · exact h.2 p hp

/-- A write of several values keeps the canonical form. -/
theorem Tab.wf_setList {α : Type} [DecidableEq α] (d : α) (vs : List α) {t : Tab α} (k : Nat) (h : Tab.wf d t = true) :
    Tab.wf d (Tab.setList d t k vs) = true := by
  induction vs generalizing t k with
  | nil => exact h
  | cons v vs ih => exact ih (k + 1) (Tab.wf_set d k v h)

/-- What a key reads as after a write of several values. -/
theorem Tab.get_setList {α : Type} [DecidableEq α] (d : α) (vs : List α) (t : Tab α) (k j : Nat) :
    Tab.get d (Tab.setList d t k vs) j = if k ≤ j ∧ j < k + vs.length then vs.getD (j - k) d else Tab.get d t j := by
  induction vs generalizing t k with
  | nil =>
    simp [Tab.setList]
  | cons v vs ih =>
    rw [Tab.setList, ih]
    by_cases hj : j = k
    · subst hj
      simp
    · by_cases h1 : k + 1 ≤ j ∧ j < k + 1 + vs.length
      · have h2 : k ≤ j ∧ j < k + (v :: vs).length := by
          simp only [List.length_cons]
          omega
        obtain ⟨n, hn⟩ : ∃ n, j - k = n + 1 := ⟨j - k - 1, by omega⟩
        have hn' : j - (k + 1) = n := by omega
        rw [if_pos h1, if_pos h2, hn, hn']
        simp
      · have h2 : ¬(k ≤ j ∧ j < k + (v :: vs).length) := by
          simp only [List.length_cons]
          omega
        rw [if_neg h1, if_neg h2, Tab.get_set_ne d t v hj]

theorem Tab.getList_setList_same {α : Type} [DecidableEq α] (d : α) (vs : List α) (t : Tab α) (k : Nat) :
    Tab.getList d (Tab.setList d t k vs) k vs.length = vs := by
  apply List.ext_getElem
  · simp [Tab.getList]
  · intro i h1 h2
    have : k ≤ k + i ∧ k + i < k + vs.length := ⟨by omega, by omega⟩
    simp [Tab.getList, Tab.get_setList, h2]

theorem Tab.getList_setList_ne {α : Type} [DecidableEq α] (d : α) (vs : List α) (t : Tab α) (k a n : Nat)
    (h : a + n ≤ k ∨ k + vs.length ≤ a) : Tab.getList d (Tab.setList d t k vs) a n = Tab.getList d t a n := by
  unfold Tab.getList
  apply List.map_congr_left
  intro i hi
  have hi := List.mem_range.1 hi
  rw [Tab.get_setList, if_neg (by omega)]

/-! ### Bit fields -/

theorem bits_eq (v lo wd : Nat) : bits v lo wd = v / 2 ^ lo % 2 ^ wd := by simp [bits, Nat.shiftRight_eq_div_pow]

theorem bits_lt (v lo wd : Nat) : bits v lo wd < 2 ^ wd := Nat.mod_lt _ (Nat.two_pow_pos wd)

theorem bits_testBit (v lo wd i : Nat) : (bits v lo wd).testBit i = (decide (i < wd) && v.testBit (lo + i)) := by
  rw [bits, Nat.testBit_mod_two_pow, Nat.testBit_shiftRight]

theorem putBits_testBit (v lo wd x i : Nat) :
    (putBits v lo wd x).testBit i = if i < lo then v.testBit i else if i < lo + wd then x.testBit (i - lo) else v.testBit i := by
  have h1 : v % 2 ^ lo < 2 ^ lo := Nat.mod_lt _ (Nat.two_pow_pos lo)
  have h2 : x % 2 ^ wd < 2 ^ wd := Nat.mod_lt _ (Nat.two_pow_pos wd)
  have e1 : v % 2 ^ lo + (x % 2 ^ wd) <<< lo = 2 ^ lo * (x % 2 ^ wd) + v % 2 ^ lo := by
    rw [Nat.shiftLeft_eq, Nat.mul_comm, Nat.add_comm]
  have h3 : v % 2 ^ lo + (x % 2 ^ wd) <<< lo < 2 ^ (lo + wd) := by
    rw [e1, Nat.pow_add]
    calc 2 ^ lo * (x % 2 ^ wd) + v % 2 ^ lo < 2 ^ lo * (x % 2 ^ wd) + 2 ^ lo := by omega
      _ = 2 ^ lo * (x % 2 ^ wd + 1) := by ring
      _ ≤ 2 ^ lo * 2 ^ wd := Nat.mul_le_mul_left _ h2
  have e2 : putBits v lo wd x = 2 ^ (lo + wd) * (v >>> (lo + wd)) + (v % 2 ^ lo + (x % 2 ^ wd) <<< lo) := by
    unfold putBits
    rw [Nat.shiftLeft_eq (v >>> (lo + wd)), Nat.mul_comm]
    omega
  rw [e2, Nat.testBit_two_pow_mul_add _ h3]
  by_cases c1 : i < lo
  · have : i < lo + wd := by omega
    simp only [this, if_true, c1]
    rw [e1, Nat.testBit_two_pow_mul_add _ h1]
    simp [c1, Nat.testBit_mod_two_pow]
  · by_cases c2 : i < lo + wd
    · simp only [c2, if_true, c1, if_false]
      rw [e1, Nat.testBit_two_pow_mul_add _ h1]
      have : i - lo < wd := by omega
      simp [c1, Nat.testBit_mod_two_pow, this]
    · simp only [c2, if_false, c1]
      rw [Nat.testBit_shiftRight]
      congr 1
      omega

theorem bits_putBits_same (v lo wd x : Nat) : bits (putBits v lo wd x) lo wd = x % 2 ^ wd := by
  apply Nat.eq_of_testBit_eq
  intro i
  rw [bits_testBit, putBits_testBit, Nat.testBit_mod_two_pow]
  by_cases h : i < wd
  · have : ¬ lo + i < lo := by omega
    simp [h]
  · simp [h]

theorem bits_putBits_ne (v lo wd x l w : Nat) (h : l + w ≤ lo ∨ lo + wd ≤ l) : bits (putBits v lo wd x) l w = bits v l w := by
  apply Nat.eq_of_testBit_eq
  intro i
  rw [bits_testBit, bits_testBit, putBits_testBit]
  by_cases hi : i < w
  · rcases h with h | h
    · have : l + i < lo := by omega
      simp [this]
    · have h1 : ¬ l + i < lo := by omega
      have h2 : ¬ l + i < lo + wd := by omega
      simp [h1, h2]
  · simp [hi]

theorem bits_mod_word (v lo wd : Nat) (h : lo + wd ≤ 32) : bits (v % 2 ^ 32) lo wd = bits v lo wd := by
  apply Nat.eq_of_testBit_eq
  intro i
  rw [bits_testBit, bits_testBit, Nat.testBit_mod_two_pow]
  by_cases hi : i < wd
  · have : lo + i < 32 := by omega
    simp [this]
  · simp [hi]

end Sys2Proof.Machine
end

