-- ==== Sys2Proof/Laws/State.lean ====
section
/-! SUPPORT. What each named update of the state leaves alone, one lemma a field, and what a register reads as after a write. -/
namespace Sys2Proof.Machine

/-! `wr` writes the register file alone. -/

@[simp] theorem State.wr_pending (s : State) (r : Reg) (i v : Nat) : (s.wr r i v).pending = s.pending := (rfl)
@[simp] theorem State.wr_now (s : State) (r : Reg) (i v : Nat) : (s.wr r i v).now = s.now := (rfl)
@[simp] theorem State.wr_fresh (s : State) (r : Reg) (i v : Nat) : (s.wr r i v).fresh = s.fresh := (rfl)
@[simp] theorem State.wr_pins (s : State) (r : Reg) (i v : Nat) : (s.wr r i v).pins = s.pins := (rfl)
@[simp] theorem State.wr_boot (s : State) (r : Reg) (i v : Nat) : (s.wr r i v).boot = s.boot := (rfl)
@[simp] theorem State.wr_tlr (s : State) (r : Reg) (i v : Nat) : (s.wr r i v).tlr = s.tlr := (rfl)
@[simp] theorem State.wr_clh (s : State) (r : Reg) (i v : Nat) : (s.wr r i v).clh = s.clh := (rfl)
@[simp] theorem State.wr_ckg (s : State) (r : Reg) (i v : Nat) : (s.wr r i v).ckg = s.ckg := (rfl)
@[simp] theorem State.wr_host (s : State) (r : Reg) (i v : Nat) : (s.wr r i v).host = s.host := (rfl)
@[simp] theorem State.wr_lanes (s : State) (r : Reg) (i v : Nat) : (s.wr r i v).lanes = s.lanes := (rfl)
@[simp] theorem State.wr_stitch (s : State) (r : Reg) (i v : Nat) : (s.wr r i v).stitch = s.stitch := (rfl)
@[simp] theorem State.wr_macs (s : State) (r : Reg) (i v : Nat) : (s.wr r i v).macs = s.macs := (rfl)
@[simp] theorem State.wr_vlt (s : State) (r : Reg) (i v : Nat) : (s.wr r i v).vlt = s.vlt := (rfl)
@[simp] theorem State.wr_copies (s : State) (r : Reg) (i v : Nat) : (s.wr r i v).copies = s.copies := (rfl)
@[simp] theorem State.wr_nextCopy (s : State) (r : Reg) (i v : Nat) : (s.wr r i v).nextCopy = s.nextCopy := (rfl)
@[simp] theorem State.wr_queues (s : State) (r : Reg) (i v : Nat) : (s.wr r i v).queues = s.queues := (rfl)
@[simp] theorem State.wr_qsc (s : State) (r : Reg) (i v : Nat) : (s.wr r i v).qsc = s.qsc := (rfl)
@[simp] theorem State.wr_prs (s : State) (r : Reg) (i v : Nat) : (s.wr r i v).prs = s.prs := (rfl)
@[simp] theorem State.wr_tim (s : State) (r : Reg) (i v : Nat) : (s.wr r i v).tim = s.tim := (rfl)
@[simp] theorem State.wr_cls (s : State) (r : Reg) (i v : Nat) : (s.wr r i v).cls = s.cls := (rfl)
@[simp] theorem State.wr_ldg (s : State) (r : Reg) (i v : Nat) : (s.wr r i v).ldg = s.ldg := (rfl)
@[simp] theorem State.wr_cth (s : State) (r : Reg) (i v : Nat) : (s.wr r i v).cth = s.cth := (rfl)
@[simp] theorem State.wr_tly (s : State) (r : Reg) (i v : Nat) : (s.wr r i v).tly = s.tly := (rfl)
@[simp] theorem State.wr_gov (s : State) (r : Reg) (i v : Nat) : (s.wr r i v).gov = s.gov := (rfl)
@[simp] theorem State.wr_dma (s : State) (r : Reg) (i v : Nat) : (s.wr r i v).dma = s.dma := (rfl)
@[simp] theorem State.wr_arrays (s : State) (r : Reg) (i v : Nat) : (s.wr r i v).arrays = s.arrays := (rfl)
@[simp] theorem State.wr_hostqs (s : State) (r : Reg) (i v : Nat) : (s.wr r i v).hostqs = s.hostqs := (rfl)
@[simp] theorem State.wr_feXoff (s : State) (r : Reg) (i v : Nat) : (s.wr r i v).feXoff = s.feXoff := (rfl)
@[simp] theorem State.wr_jtag (s : State) (r : Reg) (i v : Nat) : (s.wr r i v).jtag = s.jtag := (rfl)
@[simp] theorem State.wr_msix (s : State) (r : Reg) (i v : Nat) : (s.wr r i v).msix = s.msix := (rfl)
@[simp] theorem State.wr_loLatch (s : State) (r : Reg) (i v : Nat) : (s.wr r i v).loLatch = s.loLatch := (rfl)
@[simp] theorem State.wr_readData (s : State) (r : Reg) (i v : Nat) : (s.wr r i v).readData = s.readData := (rfl)

/-! `setF` writes the register file alone. -/

@[simp] theorem State.setF_pending (s : State) (f : Fld) (i v : Nat) : (s.setF f i v).pending = s.pending := (rfl)
@[simp] theorem State.setF_now (s : State) (f : Fld) (i v : Nat) : (s.setF f i v).now = s.now := (rfl)
@[simp] theorem State.setF_fresh (s : State) (f : Fld) (i v : Nat) : (s.setF f i v).fresh = s.fresh := (rfl)
@[simp] theorem State.setF_pins (s : State) (f : Fld) (i v : Nat) : (s.setF f i v).pins = s.pins := (rfl)
@[simp] theorem State.setF_boot (s : State) (f : Fld) (i v : Nat) : (s.setF f i v).boot = s.boot := (rfl)
@[simp] theorem State.setF_tlr (s : State) (f : Fld) (i v : Nat) : (s.setF f i v).tlr = s.tlr := (rfl)
@[simp] theorem State.setF_clh (s : State) (f : Fld) (i v : Nat) : (s.setF f i v).clh = s.clh := (rfl)
@[simp] theorem State.setF_ckg (s : State) (f : Fld) (i v : Nat) : (s.setF f i v).ckg = s.ckg := (rfl)
@[simp] theorem State.setF_host (s : State) (f : Fld) (i v : Nat) : (s.setF f i v).host = s.host := (rfl)
@[simp] theorem State.setF_lanes (s : State) (f : Fld) (i v : Nat) : (s.setF f i v).lanes = s.lanes := (rfl)
@[simp] theorem State.setF_stitch (s : State) (f : Fld) (i v : Nat) : (s.setF f i v).stitch = s.stitch := (rfl)
@[simp] theorem State.setF_macs (s : State) (f : Fld) (i v : Nat) : (s.setF f i v).macs = s.macs := (rfl)
@[simp] theorem State.setF_vlt (s : State) (f : Fld) (i v : Nat) : (s.setF f i v).vlt = s.vlt := (rfl)
@[simp] theorem State.setF_copies (s : State) (f : Fld) (i v : Nat) : (s.setF f i v).copies = s.copies := (rfl)
@[simp] theorem State.setF_nextCopy (s : State) (f : Fld) (i v : Nat) : (s.setF f i v).nextCopy = s.nextCopy := (rfl)
@[simp] theorem State.setF_queues (s : State) (f : Fld) (i v : Nat) : (s.setF f i v).queues = s.queues := (rfl)
@[simp] theorem State.setF_qsc (s : State) (f : Fld) (i v : Nat) : (s.setF f i v).qsc = s.qsc := (rfl)
@[simp] theorem State.setF_prs (s : State) (f : Fld) (i v : Nat) : (s.setF f i v).prs = s.prs := (rfl)
@[simp] theorem State.setF_tim (s : State) (f : Fld) (i v : Nat) : (s.setF f i v).tim = s.tim := (rfl)
@[simp] theorem State.setF_cls (s : State) (f : Fld) (i v : Nat) : (s.setF f i v).cls = s.cls := (rfl)
@[simp] theorem State.setF_ldg (s : State) (f : Fld) (i v : Nat) : (s.setF f i v).ldg = s.ldg := (rfl)
@[simp] theorem State.setF_cth (s : State) (f : Fld) (i v : Nat) : (s.setF f i v).cth = s.cth := (rfl)
@[simp] theorem State.setF_tly (s : State) (f : Fld) (i v : Nat) : (s.setF f i v).tly = s.tly := (rfl)
@[simp] theorem State.setF_gov (s : State) (f : Fld) (i v : Nat) : (s.setF f i v).gov = s.gov := (rfl)
@[simp] theorem State.setF_dma (s : State) (f : Fld) (i v : Nat) : (s.setF f i v).dma = s.dma := (rfl)
@[simp] theorem State.setF_arrays (s : State) (f : Fld) (i v : Nat) : (s.setF f i v).arrays = s.arrays := (rfl)
@[simp] theorem State.setF_hostqs (s : State) (f : Fld) (i v : Nat) : (s.setF f i v).hostqs = s.hostqs := (rfl)
@[simp] theorem State.setF_feXoff (s : State) (f : Fld) (i v : Nat) : (s.setF f i v).feXoff = s.feXoff := (rfl)
@[simp] theorem State.setF_jtag (s : State) (f : Fld) (i v : Nat) : (s.setF f i v).jtag = s.jtag := (rfl)
@[simp] theorem State.setF_msix (s : State) (f : Fld) (i v : Nat) : (s.setF f i v).msix = s.msix := (rfl)
@[simp] theorem State.setF_loLatch (s : State) (f : Fld) (i v : Nat) : (s.setF f i v).loLatch = s.loLatch := (rfl)
@[simp] theorem State.setF_readData (s : State) (f : Fld) (i v : Nat) : (s.setF f i v).readData = s.readData := (rfl)

/-! `addSat` writes the register file alone. -/

@[simp] theorem State.addSat_pending (s : State) (f : Fld) (i n : Nat) : (s.addSat f i n).pending = s.pending := (rfl)
@[simp] theorem State.addSat_now (s : State) (f : Fld) (i n : Nat) : (s.addSat f i n).now = s.now := (rfl)
@[simp] theorem State.addSat_fresh (s : State) (f : Fld) (i n : Nat) : (s.addSat f i n).fresh = s.fresh := (rfl)
@[simp] theorem State.addSat_pins (s : State) (f : Fld) (i n : Nat) : (s.addSat f i n).pins = s.pins := (rfl)
@[simp] theorem State.addSat_boot (s : State) (f : Fld) (i n : Nat) : (s.addSat f i n).boot = s.boot := (rfl)
@[simp] theorem State.addSat_tlr (s : State) (f : Fld) (i n : Nat) : (s.addSat f i n).tlr = s.tlr := (rfl)
@[simp] theorem State.addSat_clh (s : State) (f : Fld) (i n : Nat) : (s.addSat f i n).clh = s.clh := (rfl)
@[simp] theorem State.addSat_ckg (s : State) (f : Fld) (i n : Nat) : (s.addSat f i n).ckg = s.ckg := (rfl)
@[simp] theorem State.addSat_host (s : State) (f : Fld) (i n : Nat) : (s.addSat f i n).host = s.host := (rfl)
@[simp] theorem State.addSat_lanes (s : State) (f : Fld) (i n : Nat) : (s.addSat f i n).lanes = s.lanes := (rfl)
@[simp] theorem State.addSat_stitch (s : State) (f : Fld) (i n : Nat) : (s.addSat f i n).stitch = s.stitch := (rfl)
@[simp] theorem State.addSat_macs (s : State) (f : Fld) (i n : Nat) : (s.addSat f i n).macs = s.macs := (rfl)
@[simp] theorem State.addSat_vlt (s : State) (f : Fld) (i n : Nat) : (s.addSat f i n).vlt = s.vlt := (rfl)
@[simp] theorem State.addSat_copies (s : State) (f : Fld) (i n : Nat) : (s.addSat f i n).copies = s.copies := (rfl)
@[simp] theorem State.addSat_nextCopy (s : State) (f : Fld) (i n : Nat) : (s.addSat f i n).nextCopy = s.nextCopy := (rfl)
@[simp] theorem State.addSat_queues (s : State) (f : Fld) (i n : Nat) : (s.addSat f i n).queues = s.queues := (rfl)
@[simp] theorem State.addSat_qsc (s : State) (f : Fld) (i n : Nat) : (s.addSat f i n).qsc = s.qsc := (rfl)
@[simp] theorem State.addSat_prs (s : State) (f : Fld) (i n : Nat) : (s.addSat f i n).prs = s.prs := (rfl)
@[simp] theorem State.addSat_tim (s : State) (f : Fld) (i n : Nat) : (s.addSat f i n).tim = s.tim := (rfl)
@[simp] theorem State.addSat_cls (s : State) (f : Fld) (i n : Nat) : (s.addSat f i n).cls = s.cls := (rfl)
@[simp] theorem State.addSat_ldg (s : State) (f : Fld) (i n : Nat) : (s.addSat f i n).ldg = s.ldg := (rfl)
@[simp] theorem State.addSat_cth (s : State) (f : Fld) (i n : Nat) : (s.addSat f i n).cth = s.cth := (rfl)
@[simp] theorem State.addSat_tly (s : State) (f : Fld) (i n : Nat) : (s.addSat f i n).tly = s.tly := (rfl)
@[simp] theorem State.addSat_gov (s : State) (f : Fld) (i n : Nat) : (s.addSat f i n).gov = s.gov := (rfl)
@[simp] theorem State.addSat_dma (s : State) (f : Fld) (i n : Nat) : (s.addSat f i n).dma = s.dma := (rfl)
@[simp] theorem State.addSat_arrays (s : State) (f : Fld) (i n : Nat) : (s.addSat f i n).arrays = s.arrays := (rfl)
@[simp] theorem State.addSat_hostqs (s : State) (f : Fld) (i n : Nat) : (s.addSat f i n).hostqs = s.hostqs := (rfl)
@[simp] theorem State.addSat_feXoff (s : State) (f : Fld) (i n : Nat) : (s.addSat f i n).feXoff = s.feXoff := (rfl)
@[simp] theorem State.addSat_jtag (s : State) (f : Fld) (i n : Nat) : (s.addSat f i n).jtag = s.jtag := (rfl)
@[simp] theorem State.addSat_msix (s : State) (f : Fld) (i n : Nat) : (s.addSat f i n).msix = s.msix := (rfl)
@[simp] theorem State.addSat_loLatch (s : State) (f : Fld) (i n : Nat) : (s.addSat f i n).loLatch = s.loLatch := (rfl)
@[simp] theorem State.addSat_readData (s : State) (f : Fld) (i n : Nat) : (s.addSat f i n).readData = s.readData := (rfl)

/-! `inc` writes the register file alone. -/

@[simp] theorem State.inc_pending (s : State) (f : Fld) (i : Nat) : (s.inc f i).pending = s.pending := (rfl)
@[simp] theorem State.inc_now (s : State) (f : Fld) (i : Nat) : (s.inc f i).now = s.now := (rfl)
@[simp] theorem State.inc_fresh (s : State) (f : Fld) (i : Nat) : (s.inc f i).fresh = s.fresh := (rfl)
@[simp] theorem State.inc_pins (s : State) (f : Fld) (i : Nat) : (s.inc f i).pins = s.pins := (rfl)
@[simp] theorem State.inc_boot (s : State) (f : Fld) (i : Nat) : (s.inc f i).boot = s.boot := (rfl)
@[simp] theorem State.inc_tlr (s : State) (f : Fld) (i : Nat) : (s.inc f i).tlr = s.tlr := (rfl)
@[simp] theorem State.inc_clh (s : State) (f : Fld) (i : Nat) : (s.inc f i).clh = s.clh := (rfl)
@[simp] theorem State.inc_ckg (s : State) (f : Fld) (i : Nat) : (s.inc f i).ckg = s.ckg := (rfl)
@[simp] theorem State.inc_host (s : State) (f : Fld) (i : Nat) : (s.inc f i).host = s.host := (rfl)
@[simp] theorem State.inc_lanes (s : State) (f : Fld) (i : Nat) : (s.inc f i).lanes = s.lanes := (rfl)
@[simp] theorem State.inc_stitch (s : State) (f : Fld) (i : Nat) : (s.inc f i).stitch = s.stitch := (rfl)
@[simp] theorem State.inc_macs (s : State) (f : Fld) (i : Nat) : (s.inc f i).macs = s.macs := (rfl)
@[simp] theorem State.inc_vlt (s : State) (f : Fld) (i : Nat) : (s.inc f i).vlt = s.vlt := (rfl)
@[simp] theorem State.inc_copies (s : State) (f : Fld) (i : Nat) : (s.inc f i).copies = s.copies := (rfl)
@[simp] theorem State.inc_nextCopy (s : State) (f : Fld) (i : Nat) : (s.inc f i).nextCopy = s.nextCopy := (rfl)
@[simp] theorem State.inc_queues (s : State) (f : Fld) (i : Nat) : (s.inc f i).queues = s.queues := (rfl)
@[simp] theorem State.inc_qsc (s : State) (f : Fld) (i : Nat) : (s.inc f i).qsc = s.qsc := (rfl)
@[simp] theorem State.inc_prs (s : State) (f : Fld) (i : Nat) : (s.inc f i).prs = s.prs := (rfl)
@[simp] theorem State.inc_tim (s : State) (f : Fld) (i : Nat) : (s.inc f i).tim = s.tim := (rfl)
@[simp] theorem State.inc_cls (s : State) (f : Fld) (i : Nat) : (s.inc f i).cls = s.cls := (rfl)
@[simp] theorem State.inc_ldg (s : State) (f : Fld) (i : Nat) : (s.inc f i).ldg = s.ldg := (rfl)
@[simp] theorem State.inc_cth (s : State) (f : Fld) (i : Nat) : (s.inc f i).cth = s.cth := (rfl)
@[simp] theorem State.inc_tly (s : State) (f : Fld) (i : Nat) : (s.inc f i).tly = s.tly := (rfl)
@[simp] theorem State.inc_gov (s : State) (f : Fld) (i : Nat) : (s.inc f i).gov = s.gov := (rfl)
@[simp] theorem State.inc_dma (s : State) (f : Fld) (i : Nat) : (s.inc f i).dma = s.dma := (rfl)
@[simp] theorem State.inc_arrays (s : State) (f : Fld) (i : Nat) : (s.inc f i).arrays = s.arrays := (rfl)
@[simp] theorem State.inc_hostqs (s : State) (f : Fld) (i : Nat) : (s.inc f i).hostqs = s.hostqs := (rfl)
@[simp] theorem State.inc_feXoff (s : State) (f : Fld) (i : Nat) : (s.inc f i).feXoff = s.feXoff := (rfl)
@[simp] theorem State.inc_jtag (s : State) (f : Fld) (i : Nat) : (s.inc f i).jtag = s.jtag := (rfl)
@[simp] theorem State.inc_msix (s : State) (f : Fld) (i : Nat) : (s.inc f i).msix = s.msix := (rfl)
@[simp] theorem State.inc_loLatch (s : State) (f : Fld) (i : Nat) : (s.inc f i).loLatch = s.loLatch := (rfl)
@[simp] theorem State.inc_readData (s : State) (f : Fld) (i : Nat) : (s.inc f i).readData = s.readData := (rfl)

/-! `dec` writes the register file alone. -/

@[simp] theorem State.dec_pending (s : State) (f : Fld) (i : Nat) : (s.dec f i).pending = s.pending := (rfl)
@[simp] theorem State.dec_now (s : State) (f : Fld) (i : Nat) : (s.dec f i).now = s.now := (rfl)
@[simp] theorem State.dec_fresh (s : State) (f : Fld) (i : Nat) : (s.dec f i).fresh = s.fresh := (rfl)
@[simp] theorem State.dec_pins (s : State) (f : Fld) (i : Nat) : (s.dec f i).pins = s.pins := (rfl)
@[simp] theorem State.dec_boot (s : State) (f : Fld) (i : Nat) : (s.dec f i).boot = s.boot := (rfl)
@[simp] theorem State.dec_tlr (s : State) (f : Fld) (i : Nat) : (s.dec f i).tlr = s.tlr := (rfl)
@[simp] theorem State.dec_clh (s : State) (f : Fld) (i : Nat) : (s.dec f i).clh = s.clh := (rfl)
@[simp] theorem State.dec_ckg (s : State) (f : Fld) (i : Nat) : (s.dec f i).ckg = s.ckg := (rfl)
@[simp] theorem State.dec_host (s : State) (f : Fld) (i : Nat) : (s.dec f i).host = s.host := (rfl)
@[simp] theorem State.dec_lanes (s : State) (f : Fld) (i : Nat) : (s.dec f i).lanes = s.lanes := (rfl)
@[simp] theorem State.dec_stitch (s : State) (f : Fld) (i : Nat) : (s.dec f i).stitch = s.stitch := (rfl)
@[simp] theorem State.dec_macs (s : State) (f : Fld) (i : Nat) : (s.dec f i).macs = s.macs := (rfl)
@[simp] theorem State.dec_vlt (s : State) (f : Fld) (i : Nat) : (s.dec f i).vlt = s.vlt := (rfl)
@[simp] theorem State.dec_copies (s : State) (f : Fld) (i : Nat) : (s.dec f i).copies = s.copies := (rfl)
@[simp] theorem State.dec_nextCopy (s : State) (f : Fld) (i : Nat) : (s.dec f i).nextCopy = s.nextCopy := (rfl)
@[simp] theorem State.dec_queues (s : State) (f : Fld) (i : Nat) : (s.dec f i).queues = s.queues := (rfl)
@[simp] theorem State.dec_qsc (s : State) (f : Fld) (i : Nat) : (s.dec f i).qsc = s.qsc := (rfl)
@[simp] theorem State.dec_prs (s : State) (f : Fld) (i : Nat) : (s.dec f i).prs = s.prs := (rfl)
@[simp] theorem State.dec_tim (s : State) (f : Fld) (i : Nat) : (s.dec f i).tim = s.tim := (rfl)
@[simp] theorem State.dec_cls (s : State) (f : Fld) (i : Nat) : (s.dec f i).cls = s.cls := (rfl)
@[simp] theorem State.dec_ldg (s : State) (f : Fld) (i : Nat) : (s.dec f i).ldg = s.ldg := (rfl)
@[simp] theorem State.dec_cth (s : State) (f : Fld) (i : Nat) : (s.dec f i).cth = s.cth := (rfl)
@[simp] theorem State.dec_tly (s : State) (f : Fld) (i : Nat) : (s.dec f i).tly = s.tly := (rfl)
@[simp] theorem State.dec_gov (s : State) (f : Fld) (i : Nat) : (s.dec f i).gov = s.gov := (rfl)
@[simp] theorem State.dec_dma (s : State) (f : Fld) (i : Nat) : (s.dec f i).dma = s.dma := (rfl)
@[simp] theorem State.dec_arrays (s : State) (f : Fld) (i : Nat) : (s.dec f i).arrays = s.arrays := (rfl)
@[simp] theorem State.dec_hostqs (s : State) (f : Fld) (i : Nat) : (s.dec f i).hostqs = s.hostqs := (rfl)
@[simp] theorem State.dec_feXoff (s : State) (f : Fld) (i : Nat) : (s.dec f i).feXoff = s.feXoff := (rfl)
@[simp] theorem State.dec_jtag (s : State) (f : Fld) (i : Nat) : (s.dec f i).jtag = s.jtag := (rfl)
@[simp] theorem State.dec_msix (s : State) (f : Fld) (i : Nat) : (s.dec f i).msix = s.msix := (rfl)
@[simp] theorem State.dec_loLatch (s : State) (f : Fld) (i : Nat) : (s.dec f i).loLatch = s.loLatch := (rfl)
@[simp] theorem State.dec_readData (s : State) (f : Fld) (i : Nat) : (s.dec f i).readData = s.readData := (rfl)

/-! `setCounted` writes the register file alone. -/

@[simp] theorem State.setCounted_pending (s : State) (b c : Fld) (i : Nat) : (s.setCounted b c i).pending = s.pending := (rfl)
@[simp] theorem State.setCounted_now (s : State) (b c : Fld) (i : Nat) : (s.setCounted b c i).now = s.now := (rfl)
@[simp] theorem State.setCounted_fresh (s : State) (b c : Fld) (i : Nat) : (s.setCounted b c i).fresh = s.fresh := (rfl)
@[simp] theorem State.setCounted_pins (s : State) (b c : Fld) (i : Nat) : (s.setCounted b c i).pins = s.pins := (rfl)
@[simp] theorem State.setCounted_boot (s : State) (b c : Fld) (i : Nat) : (s.setCounted b c i).boot = s.boot := (rfl)
@[simp] theorem State.setCounted_tlr (s : State) (b c : Fld) (i : Nat) : (s.setCounted b c i).tlr = s.tlr := (rfl)
@[simp] theorem State.setCounted_clh (s : State) (b c : Fld) (i : Nat) : (s.setCounted b c i).clh = s.clh := (rfl)
@[simp] theorem State.setCounted_ckg (s : State) (b c : Fld) (i : Nat) : (s.setCounted b c i).ckg = s.ckg := (rfl)
@[simp] theorem State.setCounted_host (s : State) (b c : Fld) (i : Nat) : (s.setCounted b c i).host = s.host := (rfl)
@[simp] theorem State.setCounted_lanes (s : State) (b c : Fld) (i : Nat) : (s.setCounted b c i).lanes = s.lanes := (rfl)
@[simp] theorem State.setCounted_stitch (s : State) (b c : Fld) (i : Nat) : (s.setCounted b c i).stitch = s.stitch := (rfl)
@[simp] theorem State.setCounted_macs (s : State) (b c : Fld) (i : Nat) : (s.setCounted b c i).macs = s.macs := (rfl)
@[simp] theorem State.setCounted_vlt (s : State) (b c : Fld) (i : Nat) : (s.setCounted b c i).vlt = s.vlt := (rfl)
@[simp] theorem State.setCounted_copies (s : State) (b c : Fld) (i : Nat) : (s.setCounted b c i).copies = s.copies := (rfl)
@[simp] theorem State.setCounted_nextCopy (s : State) (b c : Fld) (i : Nat) : (s.setCounted b c i).nextCopy = s.nextCopy := (rfl)
@[simp] theorem State.setCounted_queues (s : State) (b c : Fld) (i : Nat) : (s.setCounted b c i).queues = s.queues := (rfl)
@[simp] theorem State.setCounted_qsc (s : State) (b c : Fld) (i : Nat) : (s.setCounted b c i).qsc = s.qsc := (rfl)
@[simp] theorem State.setCounted_prs (s : State) (b c : Fld) (i : Nat) : (s.setCounted b c i).prs = s.prs := (rfl)
@[simp] theorem State.setCounted_tim (s : State) (b c : Fld) (i : Nat) : (s.setCounted b c i).tim = s.tim := (rfl)
@[simp] theorem State.setCounted_cls (s : State) (b c : Fld) (i : Nat) : (s.setCounted b c i).cls = s.cls := (rfl)
@[simp] theorem State.setCounted_ldg (s : State) (b c : Fld) (i : Nat) : (s.setCounted b c i).ldg = s.ldg := (rfl)
@[simp] theorem State.setCounted_cth (s : State) (b c : Fld) (i : Nat) : (s.setCounted b c i).cth = s.cth := (rfl)
@[simp] theorem State.setCounted_tly (s : State) (b c : Fld) (i : Nat) : (s.setCounted b c i).tly = s.tly := (rfl)
@[simp] theorem State.setCounted_gov (s : State) (b c : Fld) (i : Nat) : (s.setCounted b c i).gov = s.gov := (rfl)
@[simp] theorem State.setCounted_dma (s : State) (b c : Fld) (i : Nat) : (s.setCounted b c i).dma = s.dma := (rfl)
@[simp] theorem State.setCounted_arrays (s : State) (b c : Fld) (i : Nat) : (s.setCounted b c i).arrays = s.arrays := (rfl)
@[simp] theorem State.setCounted_hostqs (s : State) (b c : Fld) (i : Nat) : (s.setCounted b c i).hostqs = s.hostqs := (rfl)
@[simp] theorem State.setCounted_feXoff (s : State) (b c : Fld) (i : Nat) : (s.setCounted b c i).feXoff = s.feXoff := (rfl)
@[simp] theorem State.setCounted_jtag (s : State) (b c : Fld) (i : Nat) : (s.setCounted b c i).jtag = s.jtag := (rfl)
@[simp] theorem State.setCounted_msix (s : State) (b c : Fld) (i : Nat) : (s.setCounted b c i).msix = s.msix := (rfl)
@[simp] theorem State.setCounted_loLatch (s : State) (b c : Fld) (i : Nat) : (s.setCounted b c i).loLatch = s.loLatch := (rfl)
@[simp] theorem State.setCounted_readData (s : State) (b c : Fld) (i : Nat) : (s.setCounted b c i).readData = s.readData := (rfl)

/-! `wr64` writes the register file alone. -/

@[simp] theorem State.wr64_pending (s : State) (lo hi : Reg) (i v : Nat) : (s.wr64 lo hi i v).pending = s.pending := (rfl)
@[simp] theorem State.wr64_now (s : State) (lo hi : Reg) (i v : Nat) : (s.wr64 lo hi i v).now = s.now := (rfl)
@[simp] theorem State.wr64_fresh (s : State) (lo hi : Reg) (i v : Nat) : (s.wr64 lo hi i v).fresh = s.fresh := (rfl)
@[simp] theorem State.wr64_pins (s : State) (lo hi : Reg) (i v : Nat) : (s.wr64 lo hi i v).pins = s.pins := (rfl)
@[simp] theorem State.wr64_boot (s : State) (lo hi : Reg) (i v : Nat) : (s.wr64 lo hi i v).boot = s.boot := (rfl)
@[simp] theorem State.wr64_tlr (s : State) (lo hi : Reg) (i v : Nat) : (s.wr64 lo hi i v).tlr = s.tlr := (rfl)
@[simp] theorem State.wr64_clh (s : State) (lo hi : Reg) (i v : Nat) : (s.wr64 lo hi i v).clh = s.clh := (rfl)
@[simp] theorem State.wr64_ckg (s : State) (lo hi : Reg) (i v : Nat) : (s.wr64 lo hi i v).ckg = s.ckg := (rfl)
@[simp] theorem State.wr64_host (s : State) (lo hi : Reg) (i v : Nat) : (s.wr64 lo hi i v).host = s.host := (rfl)
@[simp] theorem State.wr64_lanes (s : State) (lo hi : Reg) (i v : Nat) : (s.wr64 lo hi i v).lanes = s.lanes := (rfl)
@[simp] theorem State.wr64_stitch (s : State) (lo hi : Reg) (i v : Nat) : (s.wr64 lo hi i v).stitch = s.stitch := (rfl)
@[simp] theorem State.wr64_macs (s : State) (lo hi : Reg) (i v : Nat) : (s.wr64 lo hi i v).macs = s.macs := (rfl)
@[simp] theorem State.wr64_vlt (s : State) (lo hi : Reg) (i v : Nat) : (s.wr64 lo hi i v).vlt = s.vlt := (rfl)
@[simp] theorem State.wr64_copies (s : State) (lo hi : Reg) (i v : Nat) : (s.wr64 lo hi i v).copies = s.copies := (rfl)
@[simp] theorem State.wr64_nextCopy (s : State) (lo hi : Reg) (i v : Nat) : (s.wr64 lo hi i v).nextCopy = s.nextCopy := (rfl)
@[simp] theorem State.wr64_queues (s : State) (lo hi : Reg) (i v : Nat) : (s.wr64 lo hi i v).queues = s.queues := (rfl)
@[simp] theorem State.wr64_qsc (s : State) (lo hi : Reg) (i v : Nat) : (s.wr64 lo hi i v).qsc = s.qsc := (rfl)
@[simp] theorem State.wr64_prs (s : State) (lo hi : Reg) (i v : Nat) : (s.wr64 lo hi i v).prs = s.prs := (rfl)
@[simp] theorem State.wr64_tim (s : State) (lo hi : Reg) (i v : Nat) : (s.wr64 lo hi i v).tim = s.tim := (rfl)
@[simp] theorem State.wr64_cls (s : State) (lo hi : Reg) (i v : Nat) : (s.wr64 lo hi i v).cls = s.cls := (rfl)
@[simp] theorem State.wr64_ldg (s : State) (lo hi : Reg) (i v : Nat) : (s.wr64 lo hi i v).ldg = s.ldg := (rfl)
@[simp] theorem State.wr64_cth (s : State) (lo hi : Reg) (i v : Nat) : (s.wr64 lo hi i v).cth = s.cth := (rfl)
@[simp] theorem State.wr64_tly (s : State) (lo hi : Reg) (i v : Nat) : (s.wr64 lo hi i v).tly = s.tly := (rfl)
@[simp] theorem State.wr64_gov (s : State) (lo hi : Reg) (i v : Nat) : (s.wr64 lo hi i v).gov = s.gov := (rfl)
@[simp] theorem State.wr64_dma (s : State) (lo hi : Reg) (i v : Nat) : (s.wr64 lo hi i v).dma = s.dma := (rfl)
@[simp] theorem State.wr64_arrays (s : State) (lo hi : Reg) (i v : Nat) : (s.wr64 lo hi i v).arrays = s.arrays := (rfl)
@[simp] theorem State.wr64_hostqs (s : State) (lo hi : Reg) (i v : Nat) : (s.wr64 lo hi i v).hostqs = s.hostqs := (rfl)
@[simp] theorem State.wr64_feXoff (s : State) (lo hi : Reg) (i v : Nat) : (s.wr64 lo hi i v).feXoff = s.feXoff := (rfl)
@[simp] theorem State.wr64_jtag (s : State) (lo hi : Reg) (i v : Nat) : (s.wr64 lo hi i v).jtag = s.jtag := (rfl)
@[simp] theorem State.wr64_msix (s : State) (lo hi : Reg) (i v : Nat) : (s.wr64 lo hi i v).msix = s.msix := (rfl)
@[simp] theorem State.wr64_loLatch (s : State) (lo hi : Reg) (i v : Nat) : (s.wr64 lo hi i v).loLatch = s.loLatch := (rfl)
@[simp] theorem State.wr64_readData (s : State) (lo hi : Reg) (i v : Nat) : (s.wr64 lo hi i v).readData = s.readData := (rfl)

/-! `add64` writes the register file alone. -/

@[simp] theorem State.add64_pending (s : State) (lo hi : Reg) (i n : Nat) : (s.add64 lo hi i n).pending = s.pending := (rfl)
@[simp] theorem State.add64_now (s : State) (lo hi : Reg) (i n : Nat) : (s.add64 lo hi i n).now = s.now := (rfl)
@[simp] theorem State.add64_fresh (s : State) (lo hi : Reg) (i n : Nat) : (s.add64 lo hi i n).fresh = s.fresh := (rfl)
@[simp] theorem State.add64_pins (s : State) (lo hi : Reg) (i n : Nat) : (s.add64 lo hi i n).pins = s.pins := (rfl)
@[simp] theorem State.add64_boot (s : State) (lo hi : Reg) (i n : Nat) : (s.add64 lo hi i n).boot = s.boot := (rfl)
@[simp] theorem State.add64_tlr (s : State) (lo hi : Reg) (i n : Nat) : (s.add64 lo hi i n).tlr = s.tlr := (rfl)
@[simp] theorem State.add64_clh (s : State) (lo hi : Reg) (i n : Nat) : (s.add64 lo hi i n).clh = s.clh := (rfl)
@[simp] theorem State.add64_ckg (s : State) (lo hi : Reg) (i n : Nat) : (s.add64 lo hi i n).ckg = s.ckg := (rfl)
@[simp] theorem State.add64_host (s : State) (lo hi : Reg) (i n : Nat) : (s.add64 lo hi i n).host = s.host := (rfl)
@[simp] theorem State.add64_lanes (s : State) (lo hi : Reg) (i n : Nat) : (s.add64 lo hi i n).lanes = s.lanes := (rfl)
@[simp] theorem State.add64_stitch (s : State) (lo hi : Reg) (i n : Nat) : (s.add64 lo hi i n).stitch = s.stitch := (rfl)
@[simp] theorem State.add64_macs (s : State) (lo hi : Reg) (i n : Nat) : (s.add64 lo hi i n).macs = s.macs := (rfl)
@[simp] theorem State.add64_vlt (s : State) (lo hi : Reg) (i n : Nat) : (s.add64 lo hi i n).vlt = s.vlt := (rfl)
@[simp] theorem State.add64_copies (s : State) (lo hi : Reg) (i n : Nat) : (s.add64 lo hi i n).copies = s.copies := (rfl)
@[simp] theorem State.add64_nextCopy (s : State) (lo hi : Reg) (i n : Nat) : (s.add64 lo hi i n).nextCopy = s.nextCopy := (rfl)
@[simp] theorem State.add64_queues (s : State) (lo hi : Reg) (i n : Nat) : (s.add64 lo hi i n).queues = s.queues := (rfl)
@[simp] theorem State.add64_qsc (s : State) (lo hi : Reg) (i n : Nat) : (s.add64 lo hi i n).qsc = s.qsc := (rfl)
@[simp] theorem State.add64_prs (s : State) (lo hi : Reg) (i n : Nat) : (s.add64 lo hi i n).prs = s.prs := (rfl)
@[simp] theorem State.add64_tim (s : State) (lo hi : Reg) (i n : Nat) : (s.add64 lo hi i n).tim = s.tim := (rfl)
@[simp] theorem State.add64_cls (s : State) (lo hi : Reg) (i n : Nat) : (s.add64 lo hi i n).cls = s.cls := (rfl)
@[simp] theorem State.add64_ldg (s : State) (lo hi : Reg) (i n : Nat) : (s.add64 lo hi i n).ldg = s.ldg := (rfl)
@[simp] theorem State.add64_cth (s : State) (lo hi : Reg) (i n : Nat) : (s.add64 lo hi i n).cth = s.cth := (rfl)
@[simp] theorem State.add64_tly (s : State) (lo hi : Reg) (i n : Nat) : (s.add64 lo hi i n).tly = s.tly := (rfl)
@[simp] theorem State.add64_gov (s : State) (lo hi : Reg) (i n : Nat) : (s.add64 lo hi i n).gov = s.gov := (rfl)
@[simp] theorem State.add64_dma (s : State) (lo hi : Reg) (i n : Nat) : (s.add64 lo hi i n).dma = s.dma := (rfl)
@[simp] theorem State.add64_arrays (s : State) (lo hi : Reg) (i n : Nat) : (s.add64 lo hi i n).arrays = s.arrays := (rfl)
@[simp] theorem State.add64_hostqs (s : State) (lo hi : Reg) (i n : Nat) : (s.add64 lo hi i n).hostqs = s.hostqs := (rfl)
@[simp] theorem State.add64_feXoff (s : State) (lo hi : Reg) (i n : Nat) : (s.add64 lo hi i n).feXoff = s.feXoff := (rfl)
@[simp] theorem State.add64_jtag (s : State) (lo hi : Reg) (i n : Nat) : (s.add64 lo hi i n).jtag = s.jtag := (rfl)
@[simp] theorem State.add64_msix (s : State) (lo hi : Reg) (i n : Nat) : (s.add64 lo hi i n).msix = s.msix := (rfl)
@[simp] theorem State.add64_loLatch (s : State) (lo hi : Reg) (i n : Nat) : (s.add64 lo hi i n).loLatch = s.loLatch := (rfl)
@[simp] theorem State.add64_readData (s : State) (lo hi : Reg) (i n : Nat) : (s.add64 lo hi i n).readData = s.readData := (rfl)

/-! `count64` writes the register file alone. -/

@[simp] theorem State.count64_pending (s : State) (lo hi : Reg) (i n : Nat) : (s.count64 lo hi i n).pending = s.pending := (rfl)
@[simp] theorem State.count64_now (s : State) (lo hi : Reg) (i n : Nat) : (s.count64 lo hi i n).now = s.now := (rfl)
@[simp] theorem State.count64_fresh (s : State) (lo hi : Reg) (i n : Nat) : (s.count64 lo hi i n).fresh = s.fresh := (rfl)
@[simp] theorem State.count64_pins (s : State) (lo hi : Reg) (i n : Nat) : (s.count64 lo hi i n).pins = s.pins := (rfl)
@[simp] theorem State.count64_boot (s : State) (lo hi : Reg) (i n : Nat) : (s.count64 lo hi i n).boot = s.boot := (rfl)
@[simp] theorem State.count64_tlr (s : State) (lo hi : Reg) (i n : Nat) : (s.count64 lo hi i n).tlr = s.tlr := (rfl)
@[simp] theorem State.count64_clh (s : State) (lo hi : Reg) (i n : Nat) : (s.count64 lo hi i n).clh = s.clh := (rfl)
@[simp] theorem State.count64_ckg (s : State) (lo hi : Reg) (i n : Nat) : (s.count64 lo hi i n).ckg = s.ckg := (rfl)
@[simp] theorem State.count64_host (s : State) (lo hi : Reg) (i n : Nat) : (s.count64 lo hi i n).host = s.host := (rfl)
@[simp] theorem State.count64_lanes (s : State) (lo hi : Reg) (i n : Nat) : (s.count64 lo hi i n).lanes = s.lanes := (rfl)
@[simp] theorem State.count64_stitch (s : State) (lo hi : Reg) (i n : Nat) : (s.count64 lo hi i n).stitch = s.stitch := (rfl)
@[simp] theorem State.count64_macs (s : State) (lo hi : Reg) (i n : Nat) : (s.count64 lo hi i n).macs = s.macs := (rfl)
@[simp] theorem State.count64_vlt (s : State) (lo hi : Reg) (i n : Nat) : (s.count64 lo hi i n).vlt = s.vlt := (rfl)
@[simp] theorem State.count64_copies (s : State) (lo hi : Reg) (i n : Nat) : (s.count64 lo hi i n).copies = s.copies := (rfl)
@[simp] theorem State.count64_nextCopy (s : State) (lo hi : Reg) (i n : Nat) : (s.count64 lo hi i n).nextCopy = s.nextCopy := (rfl)
@[simp] theorem State.count64_queues (s : State) (lo hi : Reg) (i n : Nat) : (s.count64 lo hi i n).queues = s.queues := (rfl)
@[simp] theorem State.count64_qsc (s : State) (lo hi : Reg) (i n : Nat) : (s.count64 lo hi i n).qsc = s.qsc := (rfl)
@[simp] theorem State.count64_prs (s : State) (lo hi : Reg) (i n : Nat) : (s.count64 lo hi i n).prs = s.prs := (rfl)
@[simp] theorem State.count64_tim (s : State) (lo hi : Reg) (i n : Nat) : (s.count64 lo hi i n).tim = s.tim := (rfl)
@[simp] theorem State.count64_cls (s : State) (lo hi : Reg) (i n : Nat) : (s.count64 lo hi i n).cls = s.cls := (rfl)
@[simp] theorem State.count64_ldg (s : State) (lo hi : Reg) (i n : Nat) : (s.count64 lo hi i n).ldg = s.ldg := (rfl)
@[simp] theorem State.count64_cth (s : State) (lo hi : Reg) (i n : Nat) : (s.count64 lo hi i n).cth = s.cth := (rfl)
@[simp] theorem State.count64_tly (s : State) (lo hi : Reg) (i n : Nat) : (s.count64 lo hi i n).tly = s.tly := (rfl)
@[simp] theorem State.count64_gov (s : State) (lo hi : Reg) (i n : Nat) : (s.count64 lo hi i n).gov = s.gov := (rfl)
@[simp] theorem State.count64_dma (s : State) (lo hi : Reg) (i n : Nat) : (s.count64 lo hi i n).dma = s.dma := (rfl)
@[simp] theorem State.count64_arrays (s : State) (lo hi : Reg) (i n : Nat) : (s.count64 lo hi i n).arrays = s.arrays := (rfl)
@[simp] theorem State.count64_hostqs (s : State) (lo hi : Reg) (i n : Nat) : (s.count64 lo hi i n).hostqs = s.hostqs := (rfl)
@[simp] theorem State.count64_feXoff (s : State) (lo hi : Reg) (i n : Nat) : (s.count64 lo hi i n).feXoff = s.feXoff := (rfl)
@[simp] theorem State.count64_jtag (s : State) (lo hi : Reg) (i n : Nat) : (s.count64 lo hi i n).jtag = s.jtag := (rfl)
@[simp] theorem State.count64_msix (s : State) (lo hi : Reg) (i n : Nat) : (s.count64 lo hi i n).msix = s.msix := (rfl)
@[simp] theorem State.count64_loLatch (s : State) (lo hi : Reg) (i n : Nat) : (s.count64 lo hi i n).loLatch = s.loLatch := (rfl)
@[simp] theorem State.count64_readData (s : State) (lo hi : Reg) (i n : Nat) : (s.count64 lo hi i n).readData = s.readData := (rfl)

/-! `softWrite` writes the register file alone. -/

@[simp] theorem State.softWrite_pending (s : State) (r : Reg) (i v : Nat) : (s.softWrite r i v).pending = s.pending := (rfl)
@[simp] theorem State.softWrite_now (s : State) (r : Reg) (i v : Nat) : (s.softWrite r i v).now = s.now := (rfl)
@[simp] theorem State.softWrite_fresh (s : State) (r : Reg) (i v : Nat) : (s.softWrite r i v).fresh = s.fresh := (rfl)
@[simp] theorem State.softWrite_pins (s : State) (r : Reg) (i v : Nat) : (s.softWrite r i v).pins = s.pins := (rfl)
@[simp] theorem State.softWrite_boot (s : State) (r : Reg) (i v : Nat) : (s.softWrite r i v).boot = s.boot := (rfl)
@[simp] theorem State.softWrite_tlr (s : State) (r : Reg) (i v : Nat) : (s.softWrite r i v).tlr = s.tlr := (rfl)
@[simp] theorem State.softWrite_clh (s : State) (r : Reg) (i v : Nat) : (s.softWrite r i v).clh = s.clh := (rfl)
@[simp] theorem State.softWrite_ckg (s : State) (r : Reg) (i v : Nat) : (s.softWrite r i v).ckg = s.ckg := (rfl)
@[simp] theorem State.softWrite_host (s : State) (r : Reg) (i v : Nat) : (s.softWrite r i v).host = s.host := (rfl)
@[simp] theorem State.softWrite_lanes (s : State) (r : Reg) (i v : Nat) : (s.softWrite r i v).lanes = s.lanes := (rfl)
@[simp] theorem State.softWrite_stitch (s : State) (r : Reg) (i v : Nat) : (s.softWrite r i v).stitch = s.stitch := (rfl)
@[simp] theorem State.softWrite_macs (s : State) (r : Reg) (i v : Nat) : (s.softWrite r i v).macs = s.macs := (rfl)
@[simp] theorem State.softWrite_vlt (s : State) (r : Reg) (i v : Nat) : (s.softWrite r i v).vlt = s.vlt := (rfl)
@[simp] theorem State.softWrite_copies (s : State) (r : Reg) (i v : Nat) : (s.softWrite r i v).copies = s.copies := (rfl)
@[simp] theorem State.softWrite_nextCopy (s : State) (r : Reg) (i v : Nat) : (s.softWrite r i v).nextCopy = s.nextCopy := (rfl)
@[simp] theorem State.softWrite_queues (s : State) (r : Reg) (i v : Nat) : (s.softWrite r i v).queues = s.queues := (rfl)
@[simp] theorem State.softWrite_qsc (s : State) (r : Reg) (i v : Nat) : (s.softWrite r i v).qsc = s.qsc := (rfl)
@[simp] theorem State.softWrite_prs (s : State) (r : Reg) (i v : Nat) : (s.softWrite r i v).prs = s.prs := (rfl)
@[simp] theorem State.softWrite_tim (s : State) (r : Reg) (i v : Nat) : (s.softWrite r i v).tim = s.tim := (rfl)
@[simp] theorem State.softWrite_cls (s : State) (r : Reg) (i v : Nat) : (s.softWrite r i v).cls = s.cls := (rfl)
@[simp] theorem State.softWrite_ldg (s : State) (r : Reg) (i v : Nat) : (s.softWrite r i v).ldg = s.ldg := (rfl)
@[simp] theorem State.softWrite_cth (s : State) (r : Reg) (i v : Nat) : (s.softWrite r i v).cth = s.cth := (rfl)
@[simp] theorem State.softWrite_tly (s : State) (r : Reg) (i v : Nat) : (s.softWrite r i v).tly = s.tly := (rfl)
@[simp] theorem State.softWrite_gov (s : State) (r : Reg) (i v : Nat) : (s.softWrite r i v).gov = s.gov := (rfl)
@[simp] theorem State.softWrite_dma (s : State) (r : Reg) (i v : Nat) : (s.softWrite r i v).dma = s.dma := (rfl)
@[simp] theorem State.softWrite_arrays (s : State) (r : Reg) (i v : Nat) : (s.softWrite r i v).arrays = s.arrays := (rfl)
@[simp] theorem State.softWrite_hostqs (s : State) (r : Reg) (i v : Nat) : (s.softWrite r i v).hostqs = s.hostqs := (rfl)
@[simp] theorem State.softWrite_feXoff (s : State) (r : Reg) (i v : Nat) : (s.softWrite r i v).feXoff = s.feXoff := (rfl)
@[simp] theorem State.softWrite_jtag (s : State) (r : Reg) (i v : Nat) : (s.softWrite r i v).jtag = s.jtag := (rfl)
@[simp] theorem State.softWrite_msix (s : State) (r : Reg) (i v : Nat) : (s.softWrite r i v).msix = s.msix := (rfl)
@[simp] theorem State.softWrite_loLatch (s : State) (r : Reg) (i v : Nat) : (s.softWrite r i v).loLatch = s.loLatch := (rfl)
@[simp] theorem State.softWrite_readData (s : State) (r : Reg) (i v : Nat) : (s.softWrite r i v).readData = s.readData := (rfl)

/-! `readClear` writes the register file alone. -/

@[simp] theorem State.readClear_pending (s : State) (r : Reg) (i : Nat) : (s.readClear r i).pending = s.pending := (rfl)
@[simp] theorem State.readClear_now (s : State) (r : Reg) (i : Nat) : (s.readClear r i).now = s.now := (rfl)
@[simp] theorem State.readClear_fresh (s : State) (r : Reg) (i : Nat) : (s.readClear r i).fresh = s.fresh := (rfl)
@[simp] theorem State.readClear_pins (s : State) (r : Reg) (i : Nat) : (s.readClear r i).pins = s.pins := (rfl)
@[simp] theorem State.readClear_boot (s : State) (r : Reg) (i : Nat) : (s.readClear r i).boot = s.boot := (rfl)
@[simp] theorem State.readClear_tlr (s : State) (r : Reg) (i : Nat) : (s.readClear r i).tlr = s.tlr := (rfl)
@[simp] theorem State.readClear_clh (s : State) (r : Reg) (i : Nat) : (s.readClear r i).clh = s.clh := (rfl)
@[simp] theorem State.readClear_ckg (s : State) (r : Reg) (i : Nat) : (s.readClear r i).ckg = s.ckg := (rfl)
@[simp] theorem State.readClear_host (s : State) (r : Reg) (i : Nat) : (s.readClear r i).host = s.host := (rfl)
@[simp] theorem State.readClear_lanes (s : State) (r : Reg) (i : Nat) : (s.readClear r i).lanes = s.lanes := (rfl)
@[simp] theorem State.readClear_stitch (s : State) (r : Reg) (i : Nat) : (s.readClear r i).stitch = s.stitch := (rfl)
@[simp] theorem State.readClear_macs (s : State) (r : Reg) (i : Nat) : (s.readClear r i).macs = s.macs := (rfl)
@[simp] theorem State.readClear_vlt (s : State) (r : Reg) (i : Nat) : (s.readClear r i).vlt = s.vlt := (rfl)
@[simp] theorem State.readClear_copies (s : State) (r : Reg) (i : Nat) : (s.readClear r i).copies = s.copies := (rfl)
@[simp] theorem State.readClear_nextCopy (s : State) (r : Reg) (i : Nat) : (s.readClear r i).nextCopy = s.nextCopy := (rfl)
@[simp] theorem State.readClear_queues (s : State) (r : Reg) (i : Nat) : (s.readClear r i).queues = s.queues := (rfl)
@[simp] theorem State.readClear_qsc (s : State) (r : Reg) (i : Nat) : (s.readClear r i).qsc = s.qsc := (rfl)
@[simp] theorem State.readClear_prs (s : State) (r : Reg) (i : Nat) : (s.readClear r i).prs = s.prs := (rfl)
@[simp] theorem State.readClear_tim (s : State) (r : Reg) (i : Nat) : (s.readClear r i).tim = s.tim := (rfl)
@[simp] theorem State.readClear_cls (s : State) (r : Reg) (i : Nat) : (s.readClear r i).cls = s.cls := (rfl)
@[simp] theorem State.readClear_ldg (s : State) (r : Reg) (i : Nat) : (s.readClear r i).ldg = s.ldg := (rfl)
@[simp] theorem State.readClear_cth (s : State) (r : Reg) (i : Nat) : (s.readClear r i).cth = s.cth := (rfl)
@[simp] theorem State.readClear_tly (s : State) (r : Reg) (i : Nat) : (s.readClear r i).tly = s.tly := (rfl)
@[simp] theorem State.readClear_gov (s : State) (r : Reg) (i : Nat) : (s.readClear r i).gov = s.gov := (rfl)
@[simp] theorem State.readClear_dma (s : State) (r : Reg) (i : Nat) : (s.readClear r i).dma = s.dma := (rfl)
@[simp] theorem State.readClear_arrays (s : State) (r : Reg) (i : Nat) : (s.readClear r i).arrays = s.arrays := (rfl)
@[simp] theorem State.readClear_hostqs (s : State) (r : Reg) (i : Nat) : (s.readClear r i).hostqs = s.hostqs := (rfl)
@[simp] theorem State.readClear_feXoff (s : State) (r : Reg) (i : Nat) : (s.readClear r i).feXoff = s.feXoff := (rfl)
@[simp] theorem State.readClear_jtag (s : State) (r : Reg) (i : Nat) : (s.readClear r i).jtag = s.jtag := (rfl)
@[simp] theorem State.readClear_msix (s : State) (r : Reg) (i : Nat) : (s.readClear r i).msix = s.msix := (rfl)
@[simp] theorem State.readClear_loLatch (s : State) (r : Reg) (i : Nat) : (s.readClear r i).loLatch = s.loLatch := (rfl)
@[simp] theorem State.readClear_readData (s : State) (r : Reg) (i : Nat) : (s.readClear r i).readData = s.readData := (rfl)

/-! `resetRegs` writes the register file alone. -/

@[simp] theorem State.resetRegs_pending (s : State) (p : Nat → Bool) : (s.resetRegs p).pending = s.pending := (rfl)
@[simp] theorem State.resetRegs_now (s : State) (p : Nat → Bool) : (s.resetRegs p).now = s.now := (rfl)
@[simp] theorem State.resetRegs_fresh (s : State) (p : Nat → Bool) : (s.resetRegs p).fresh = s.fresh := (rfl)
@[simp] theorem State.resetRegs_pins (s : State) (p : Nat → Bool) : (s.resetRegs p).pins = s.pins := (rfl)
@[simp] theorem State.resetRegs_boot (s : State) (p : Nat → Bool) : (s.resetRegs p).boot = s.boot := (rfl)
@[simp] theorem State.resetRegs_tlr (s : State) (p : Nat → Bool) : (s.resetRegs p).tlr = s.tlr := (rfl)
@[simp] theorem State.resetRegs_clh (s : State) (p : Nat → Bool) : (s.resetRegs p).clh = s.clh := (rfl)
@[simp] theorem State.resetRegs_ckg (s : State) (p : Nat → Bool) : (s.resetRegs p).ckg = s.ckg := (rfl)
@[simp] theorem State.resetRegs_host (s : State) (p : Nat → Bool) : (s.resetRegs p).host = s.host := (rfl)
@[simp] theorem State.resetRegs_lanes (s : State) (p : Nat → Bool) : (s.resetRegs p).lanes = s.lanes := (rfl)
@[simp] theorem State.resetRegs_stitch (s : State) (p : Nat → Bool) : (s.resetRegs p).stitch = s.stitch := (rfl)
@[simp] theorem State.resetRegs_macs (s : State) (p : Nat → Bool) : (s.resetRegs p).macs = s.macs := (rfl)
@[simp] theorem State.resetRegs_vlt (s : State) (p : Nat → Bool) : (s.resetRegs p).vlt = s.vlt := (rfl)
@[simp] theorem State.resetRegs_copies (s : State) (p : Nat → Bool) : (s.resetRegs p).copies = s.copies := (rfl)
@[simp] theorem State.resetRegs_nextCopy (s : State) (p : Nat → Bool) : (s.resetRegs p).nextCopy = s.nextCopy := (rfl)
@[simp] theorem State.resetRegs_queues (s : State) (p : Nat → Bool) : (s.resetRegs p).queues = s.queues := (rfl)
@[simp] theorem State.resetRegs_qsc (s : State) (p : Nat → Bool) : (s.resetRegs p).qsc = s.qsc := (rfl)
@[simp] theorem State.resetRegs_prs (s : State) (p : Nat → Bool) : (s.resetRegs p).prs = s.prs := (rfl)
@[simp] theorem State.resetRegs_tim (s : State) (p : Nat → Bool) : (s.resetRegs p).tim = s.tim := (rfl)
@[simp] theorem State.resetRegs_cls (s : State) (p : Nat → Bool) : (s.resetRegs p).cls = s.cls := (rfl)
@[simp] theorem State.resetRegs_ldg (s : State) (p : Nat → Bool) : (s.resetRegs p).ldg = s.ldg := (rfl)
@[simp] theorem State.resetRegs_cth (s : State) (p : Nat → Bool) : (s.resetRegs p).cth = s.cth := (rfl)
@[simp] theorem State.resetRegs_tly (s : State) (p : Nat → Bool) : (s.resetRegs p).tly = s.tly := (rfl)
@[simp] theorem State.resetRegs_gov (s : State) (p : Nat → Bool) : (s.resetRegs p).gov = s.gov := (rfl)
@[simp] theorem State.resetRegs_dma (s : State) (p : Nat → Bool) : (s.resetRegs p).dma = s.dma := (rfl)
@[simp] theorem State.resetRegs_arrays (s : State) (p : Nat → Bool) : (s.resetRegs p).arrays = s.arrays := (rfl)
@[simp] theorem State.resetRegs_hostqs (s : State) (p : Nat → Bool) : (s.resetRegs p).hostqs = s.hostqs := (rfl)
@[simp] theorem State.resetRegs_feXoff (s : State) (p : Nat → Bool) : (s.resetRegs p).feXoff = s.feXoff := (rfl)
@[simp] theorem State.resetRegs_jtag (s : State) (p : Nat → Bool) : (s.resetRegs p).jtag = s.jtag := (rfl)
@[simp] theorem State.resetRegs_msix (s : State) (p : Nat → Bool) : (s.resetRegs p).msix = s.msix := (rfl)
@[simp] theorem State.resetRegs_loLatch (s : State) (p : Nat → Bool) : (s.resetRegs p).loLatch = s.loLatch := (rfl)
@[simp] theorem State.resetRegs_readData (s : State) (p : Nat → Bool) : (s.resetRegs p).readData = s.readData := (rfl)

/-! `tookFree` writes `fresh` alone. -/

@[simp] theorem State.tookFree_pending (s : State) : (s.tookFree ).pending = s.pending := (rfl)
@[simp] theorem State.tookFree_now (s : State) : (s.tookFree ).now = s.now := (rfl)
@[simp] theorem State.tookFree_regs (s : State) : (s.tookFree ).regs = s.regs := (rfl)
@[simp] theorem State.tookFree_pins (s : State) : (s.tookFree ).pins = s.pins := (rfl)
@[simp] theorem State.tookFree_boot (s : State) : (s.tookFree ).boot = s.boot := (rfl)
@[simp] theorem State.tookFree_tlr (s : State) : (s.tookFree ).tlr = s.tlr := (rfl)
@[simp] theorem State.tookFree_clh (s : State) : (s.tookFree ).clh = s.clh := (rfl)
@[simp] theorem State.tookFree_ckg (s : State) : (s.tookFree ).ckg = s.ckg := (rfl)
@[simp] theorem State.tookFree_host (s : State) : (s.tookFree ).host = s.host := (rfl)
@[simp] theorem State.tookFree_lanes (s : State) : (s.tookFree ).lanes = s.lanes := (rfl)
@[simp] theorem State.tookFree_stitch (s : State) : (s.tookFree ).stitch = s.stitch := (rfl)
@[simp] theorem State.tookFree_macs (s : State) : (s.tookFree ).macs = s.macs := (rfl)
@[simp] theorem State.tookFree_vlt (s : State) : (s.tookFree ).vlt = s.vlt := (rfl)
@[simp] theorem State.tookFree_copies (s : State) : (s.tookFree ).copies = s.copies := (rfl)
@[simp] theorem State.tookFree_nextCopy (s : State) : (s.tookFree ).nextCopy = s.nextCopy := (rfl)
@[simp] theorem State.tookFree_queues (s : State) : (s.tookFree ).queues = s.queues := (rfl)
@[simp] theorem State.tookFree_qsc (s : State) : (s.tookFree ).qsc = s.qsc := (rfl)
@[simp] theorem State.tookFree_prs (s : State) : (s.tookFree ).prs = s.prs := (rfl)
@[simp] theorem State.tookFree_tim (s : State) : (s.tookFree ).tim = s.tim := (rfl)
@[simp] theorem State.tookFree_cls (s : State) : (s.tookFree ).cls = s.cls := (rfl)
@[simp] theorem State.tookFree_ldg (s : State) : (s.tookFree ).ldg = s.ldg := (rfl)
@[simp] theorem State.tookFree_cth (s : State) : (s.tookFree ).cth = s.cth := (rfl)
@[simp] theorem State.tookFree_tly (s : State) : (s.tookFree ).tly = s.tly := (rfl)
@[simp] theorem State.tookFree_gov (s : State) : (s.tookFree ).gov = s.gov := (rfl)
@[simp] theorem State.tookFree_dma (s : State) : (s.tookFree ).dma = s.dma := (rfl)
@[simp] theorem State.tookFree_arrays (s : State) : (s.tookFree ).arrays = s.arrays := (rfl)
@[simp] theorem State.tookFree_hostqs (s : State) : (s.tookFree ).hostqs = s.hostqs := (rfl)
@[simp] theorem State.tookFree_feXoff (s : State) : (s.tookFree ).feXoff = s.feXoff := (rfl)
@[simp] theorem State.tookFree_jtag (s : State) : (s.tookFree ).jtag = s.jtag := (rfl)
@[simp] theorem State.tookFree_msix (s : State) : (s.tookFree ).msix = s.msix := (rfl)
@[simp] theorem State.tookFree_loLatch (s : State) : (s.tookFree ).loLatch = s.loLatch := (rfl)
@[simp] theorem State.tookFree_readData (s : State) : (s.tookFree ).readData = s.readData := (rfl)

/-! `putArr` writes `arrays` alone. -/

@[simp] theorem State.putArr_pending (s : State) (a : Nat) (bs : List Byte) : (s.putArr a bs).pending = s.pending := (rfl)
@[simp] theorem State.putArr_now (s : State) (a : Nat) (bs : List Byte) : (s.putArr a bs).now = s.now := (rfl)
@[simp] theorem State.putArr_fresh (s : State) (a : Nat) (bs : List Byte) : (s.putArr a bs).fresh = s.fresh := (rfl)
@[simp] theorem State.putArr_regs (s : State) (a : Nat) (bs : List Byte) : (s.putArr a bs).regs = s.regs := (rfl)
@[simp] theorem State.putArr_pins (s : State) (a : Nat) (bs : List Byte) : (s.putArr a bs).pins = s.pins := (rfl)
@[simp] theorem State.putArr_boot (s : State) (a : Nat) (bs : List Byte) : (s.putArr a bs).boot = s.boot := (rfl)
@[simp] theorem State.putArr_tlr (s : State) (a : Nat) (bs : List Byte) : (s.putArr a bs).tlr = s.tlr := (rfl)
@[simp] theorem State.putArr_clh (s : State) (a : Nat) (bs : List Byte) : (s.putArr a bs).clh = s.clh := (rfl)
@[simp] theorem State.putArr_ckg (s : State) (a : Nat) (bs : List Byte) : (s.putArr a bs).ckg = s.ckg := (rfl)
@[simp] theorem State.putArr_host (s : State) (a : Nat) (bs : List Byte) : (s.putArr a bs).host = s.host := (rfl)
@[simp] theorem State.putArr_lanes (s : State) (a : Nat) (bs : List Byte) : (s.putArr a bs).lanes = s.lanes := (rfl)
@[simp] theorem State.putArr_stitch (s : State) (a : Nat) (bs : List Byte) : (s.putArr a bs).stitch = s.stitch := (rfl)
@[simp] theorem State.putArr_macs (s : State) (a : Nat) (bs : List Byte) : (s.putArr a bs).macs = s.macs := (rfl)
@[simp] theorem State.putArr_vlt (s : State) (a : Nat) (bs : List Byte) : (s.putArr a bs).vlt = s.vlt := (rfl)
@[simp] theorem State.putArr_copies (s : State) (a : Nat) (bs : List Byte) : (s.putArr a bs).copies = s.copies := (rfl)
@[simp] theorem State.putArr_nextCopy (s : State) (a : Nat) (bs : List Byte) : (s.putArr a bs).nextCopy = s.nextCopy := (rfl)
@[simp] theorem State.putArr_queues (s : State) (a : Nat) (bs : List Byte) : (s.putArr a bs).queues = s.queues := (rfl)
@[simp] theorem State.putArr_qsc (s : State) (a : Nat) (bs : List Byte) : (s.putArr a bs).qsc = s.qsc := (rfl)
@[simp] theorem State.putArr_prs (s : State) (a : Nat) (bs : List Byte) : (s.putArr a bs).prs = s.prs := (rfl)
@[simp] theorem State.putArr_tim (s : State) (a : Nat) (bs : List Byte) : (s.putArr a bs).tim = s.tim := (rfl)
@[simp] theorem State.putArr_cls (s : State) (a : Nat) (bs : List Byte) : (s.putArr a bs).cls = s.cls := (rfl)
@[simp] theorem State.putArr_ldg (s : State) (a : Nat) (bs : List Byte) : (s.putArr a bs).ldg = s.ldg := (rfl)
@[simp] theorem State.putArr_cth (s : State) (a : Nat) (bs : List Byte) : (s.putArr a bs).cth = s.cth := (rfl)
@[simp] theorem State.putArr_tly (s : State) (a : Nat) (bs : List Byte) : (s.putArr a bs).tly = s.tly := (rfl)
@[simp] theorem State.putArr_gov (s : State) (a : Nat) (bs : List Byte) : (s.putArr a bs).gov = s.gov := (rfl)
@[simp] theorem State.putArr_dma (s : State) (a : Nat) (bs : List Byte) : (s.putArr a bs).dma = s.dma := (rfl)
@[simp] theorem State.putArr_hostqs (s : State) (a : Nat) (bs : List Byte) : (s.putArr a bs).hostqs = s.hostqs := (rfl)
@[simp] theorem State.putArr_feXoff (s : State) (a : Nat) (bs : List Byte) : (s.putArr a bs).feXoff = s.feXoff := (rfl)
@[simp] theorem State.putArr_jtag (s : State) (a : Nat) (bs : List Byte) : (s.putArr a bs).jtag = s.jtag := (rfl)
@[simp] theorem State.putArr_msix (s : State) (a : Nat) (bs : List Byte) : (s.putArr a bs).msix = s.msix := (rfl)
@[simp] theorem State.putArr_loLatch (s : State) (a : Nat) (bs : List Byte) : (s.putArr a bs).loLatch = s.loLatch := (rfl)
@[simp] theorem State.putArr_readData (s : State) (a : Nat) (bs : List Byte) : (s.putArr a bs).readData = s.readData := (rfl)

/-! `hostWrite` writes `host` alone. -/

@[simp] theorem State.hostWrite_pending (s : State) (a : Nat) (bs : List Byte) : (s.hostWrite a bs).pending = s.pending := (rfl)
@[simp] theorem State.hostWrite_now (s : State) (a : Nat) (bs : List Byte) : (s.hostWrite a bs).now = s.now := (rfl)
@[simp] theorem State.hostWrite_fresh (s : State) (a : Nat) (bs : List Byte) : (s.hostWrite a bs).fresh = s.fresh := (rfl)
@[simp] theorem State.hostWrite_regs (s : State) (a : Nat) (bs : List Byte) : (s.hostWrite a bs).regs = s.regs := (rfl)
@[simp] theorem State.hostWrite_pins (s : State) (a : Nat) (bs : List Byte) : (s.hostWrite a bs).pins = s.pins := (rfl)
@[simp] theorem State.hostWrite_boot (s : State) (a : Nat) (bs : List Byte) : (s.hostWrite a bs).boot = s.boot := (rfl)
@[simp] theorem State.hostWrite_tlr (s : State) (a : Nat) (bs : List Byte) : (s.hostWrite a bs).tlr = s.tlr := (rfl)
@[simp] theorem State.hostWrite_clh (s : State) (a : Nat) (bs : List Byte) : (s.hostWrite a bs).clh = s.clh := (rfl)
@[simp] theorem State.hostWrite_ckg (s : State) (a : Nat) (bs : List Byte) : (s.hostWrite a bs).ckg = s.ckg := (rfl)
@[simp] theorem State.hostWrite_lanes (s : State) (a : Nat) (bs : List Byte) : (s.hostWrite a bs).lanes = s.lanes := (rfl)
@[simp] theorem State.hostWrite_stitch (s : State) (a : Nat) (bs : List Byte) : (s.hostWrite a bs).stitch = s.stitch := (rfl)
@[simp] theorem State.hostWrite_macs (s : State) (a : Nat) (bs : List Byte) : (s.hostWrite a bs).macs = s.macs := (rfl)
@[simp] theorem State.hostWrite_vlt (s : State) (a : Nat) (bs : List Byte) : (s.hostWrite a bs).vlt = s.vlt := (rfl)
@[simp] theorem State.hostWrite_copies (s : State) (a : Nat) (bs : List Byte) : (s.hostWrite a bs).copies = s.copies := (rfl)
@[simp] theorem State.hostWrite_nextCopy (s : State) (a : Nat) (bs : List Byte) : (s.hostWrite a bs).nextCopy = s.nextCopy := (rfl)
@[simp] theorem State.hostWrite_queues (s : State) (a : Nat) (bs : List Byte) : (s.hostWrite a bs).queues = s.queues := (rfl)
@[simp] theorem State.hostWrite_qsc (s : State) (a : Nat) (bs : List Byte) : (s.hostWrite a bs).qsc = s.qsc := (rfl)
@[simp] theorem State.hostWrite_prs (s : State) (a : Nat) (bs : List Byte) : (s.hostWrite a bs).prs = s.prs := (rfl)
@[simp] theorem State.hostWrite_tim (s : State) (a : Nat) (bs : List Byte) : (s.hostWrite a bs).tim = s.tim := (rfl)
@[simp] theorem State.hostWrite_cls (s : State) (a : Nat) (bs : List Byte) : (s.hostWrite a bs).cls = s.cls := (rfl)
@[simp] theorem State.hostWrite_ldg (s : State) (a : Nat) (bs : List Byte) : (s.hostWrite a bs).ldg = s.ldg := (rfl)
@[simp] theorem State.hostWrite_cth (s : State) (a : Nat) (bs : List Byte) : (s.hostWrite a bs).cth = s.cth := (rfl)
@[simp] theorem State.hostWrite_tly (s : State) (a : Nat) (bs : List Byte) : (s.hostWrite a bs).tly = s.tly := (rfl)
@[simp] theorem State.hostWrite_gov (s : State) (a : Nat) (bs : List Byte) : (s.hostWrite a bs).gov = s.gov := (rfl)
@[simp] theorem State.hostWrite_dma (s : State) (a : Nat) (bs : List Byte) : (s.hostWrite a bs).dma = s.dma := (rfl)
@[simp] theorem State.hostWrite_arrays (s : State) (a : Nat) (bs : List Byte) : (s.hostWrite a bs).arrays = s.arrays := (rfl)
@[simp] theorem State.hostWrite_hostqs (s : State) (a : Nat) (bs : List Byte) : (s.hostWrite a bs).hostqs = s.hostqs := (rfl)
@[simp] theorem State.hostWrite_feXoff (s : State) (a : Nat) (bs : List Byte) : (s.hostWrite a bs).feXoff = s.feXoff := (rfl)
@[simp] theorem State.hostWrite_jtag (s : State) (a : Nat) (bs : List Byte) : (s.hostWrite a bs).jtag = s.jtag := (rfl)
@[simp] theorem State.hostWrite_msix (s : State) (a : Nat) (bs : List Byte) : (s.hostWrite a bs).msix = s.msix := (rfl)
@[simp] theorem State.hostWrite_loLatch (s : State) (a : Nat) (bs : List Byte) : (s.hostWrite a bs).loLatch = s.loLatch := (rfl)
@[simp] theorem State.hostWrite_readData (s : State) (a : Nat) (bs : List Byte) : (s.hostWrite a bs).readData = s.readData := (rfl)

/-! `raise` and `note` hand a raise to the Clearing House; `note` takes a free value for its DETAIL. -/

@[simp] theorem State.raise_pending (s : State) (src d : Nat) : (s.raise src d).pending = s.pending := by
  unfold State.raise
  split <;> rfl
@[simp] theorem State.raise_now (s : State) (src d : Nat) : (s.raise src d).now = s.now := by
  unfold State.raise
  split <;> rfl
@[simp] theorem State.raise_fresh (s : State) (src d : Nat) : (s.raise src d).fresh = s.fresh := by
  unfold State.raise
  split <;> rfl
@[simp] theorem State.raise_regs (s : State) (src d : Nat) : (s.raise src d).regs = s.regs := by
  unfold State.raise
  split <;> rfl
@[simp] theorem State.raise_pins (s : State) (src d : Nat) : (s.raise src d).pins = s.pins := by
  unfold State.raise
  split <;> rfl
@[simp] theorem State.raise_boot (s : State) (src d : Nat) : (s.raise src d).boot = s.boot := by
  unfold State.raise
  split <;> rfl
@[simp] theorem State.raise_tlr (s : State) (src d : Nat) : (s.raise src d).tlr = s.tlr := by
  unfold State.raise
  split <;> rfl
@[simp] theorem State.raise_ckg (s : State) (src d : Nat) : (s.raise src d).ckg = s.ckg := by
  unfold State.raise
  split <;> rfl
@[simp] theorem State.raise_host (s : State) (src d : Nat) : (s.raise src d).host = s.host := by
  unfold State.raise
  split <;> rfl
@[simp] theorem State.raise_lanes (s : State) (src d : Nat) : (s.raise src d).lanes = s.lanes := by
  unfold State.raise
  split <;> rfl
@[simp] theorem State.raise_stitch (s : State) (src d : Nat) : (s.raise src d).stitch = s.stitch := by
  unfold State.raise
  split <;> rfl
@[simp] theorem State.raise_macs (s : State) (src d : Nat) : (s.raise src d).macs = s.macs := by
  unfold State.raise
  split <;> rfl
@[simp] theorem State.raise_vlt (s : State) (src d : Nat) : (s.raise src d).vlt = s.vlt := by
  unfold State.raise
  split <;> rfl
@[simp] theorem State.raise_copies (s : State) (src d : Nat) : (s.raise src d).copies = s.copies := by
  unfold State.raise
  split <;> rfl
@[simp] theorem State.raise_nextCopy (s : State) (src d : Nat) : (s.raise src d).nextCopy = s.nextCopy := by
  unfold State.raise
  split <;> rfl
@[simp] theorem State.raise_queues (s : State) (src d : Nat) : (s.raise src d).queues = s.queues := by
  unfold State.raise
  split <;> rfl
@[simp] theorem State.raise_qsc (s : State) (src d : Nat) : (s.raise src d).qsc = s.qsc := by
  unfold State.raise
  split <;> rfl
@[simp] theorem State.raise_prs (s : State) (src d : Nat) : (s.raise src d).prs = s.prs := by
  unfold State.raise
  split <;> rfl
@[simp] theorem State.raise_tim (s : State) (src d : Nat) : (s.raise src d).tim = s.tim := by
  unfold State.raise
  split <;> rfl
@[simp] theorem State.raise_cls (s : State) (src d : Nat) : (s.raise src d).cls = s.cls := by
  unfold State.raise
  split <;> rfl
@[simp] theorem State.raise_ldg (s : State) (src d : Nat) : (s.raise src d).ldg = s.ldg := by
  unfold State.raise
  split <;> rfl
@[simp] theorem State.raise_cth (s : State) (src d : Nat) : (s.raise src d).cth = s.cth := by
  unfold State.raise
  split <;> rfl
@[simp] theorem State.raise_tly (s : State) (src d : Nat) : (s.raise src d).tly = s.tly := by
  unfold State.raise
  split <;> rfl
@[simp] theorem State.raise_gov (s : State) (src d : Nat) : (s.raise src d).gov = s.gov := by
  unfold State.raise
  split <;> rfl
@[simp] theorem State.raise_dma (s : State) (src d : Nat) : (s.raise src d).dma = s.dma := by
  unfold State.raise
  split <;> rfl
@[simp] theorem State.raise_arrays (s : State) (src d : Nat) : (s.raise src d).arrays = s.arrays := by
  unfold State.raise
  split <;> rfl
@[simp] theorem State.raise_hostqs (s : State) (src d : Nat) : (s.raise src d).hostqs = s.hostqs := by
  unfold State.raise
  split <;> rfl
@[simp] theorem State.raise_feXoff (s : State) (src d : Nat) : (s.raise src d).feXoff = s.feXoff := by
  unfold State.raise
  split <;> rfl
@[simp] theorem State.raise_jtag (s : State) (src d : Nat) : (s.raise src d).jtag = s.jtag := by
  unfold State.raise
  split <;> rfl
@[simp] theorem State.raise_msix (s : State) (src d : Nat) : (s.raise src d).msix = s.msix := by
  unfold State.raise
  split <;> rfl
@[simp] theorem State.raise_loLatch (s : State) (src d : Nat) : (s.raise src d).loLatch = s.loLatch := by
  unfold State.raise
  split <;> rfl
@[simp] theorem State.raise_readData (s : State) (src d : Nat) : (s.raise src d).readData = s.readData := by
  unfold State.raise
  split <;> rfl
@[simp] theorem State.note_pending (s : State) (src : Nat) : (s.note src).pending = s.pending := by simp [State.note]
@[simp] theorem State.note_now (s : State) (src : Nat) : (s.note src).now = s.now := by simp [State.note]
@[simp] theorem State.note_regs (s : State) (src : Nat) : (s.note src).regs = s.regs := by simp [State.note]
@[simp] theorem State.note_pins (s : State) (src : Nat) : (s.note src).pins = s.pins := by simp [State.note]
@[simp] theorem State.note_boot (s : State) (src : Nat) : (s.note src).boot = s.boot := by simp [State.note]
@[simp] theorem State.note_tlr (s : State) (src : Nat) : (s.note src).tlr = s.tlr := by simp [State.note]
@[simp] theorem State.note_ckg (s : State) (src : Nat) : (s.note src).ckg = s.ckg := by simp [State.note]
@[simp] theorem State.note_host (s : State) (src : Nat) : (s.note src).host = s.host := by simp [State.note]
@[simp] theorem State.note_lanes (s : State) (src : Nat) : (s.note src).lanes = s.lanes := by simp [State.note]
@[simp] theorem State.note_stitch (s : State) (src : Nat) : (s.note src).stitch = s.stitch := by simp [State.note]
@[simp] theorem State.note_macs (s : State) (src : Nat) : (s.note src).macs = s.macs := by simp [State.note]
@[simp] theorem State.note_vlt (s : State) (src : Nat) : (s.note src).vlt = s.vlt := by simp [State.note]
@[simp] theorem State.note_copies (s : State) (src : Nat) : (s.note src).copies = s.copies := by simp [State.note]
@[simp] theorem State.note_nextCopy (s : State) (src : Nat) : (s.note src).nextCopy = s.nextCopy := by simp [State.note]
@[simp] theorem State.note_queues (s : State) (src : Nat) : (s.note src).queues = s.queues := by simp [State.note]
@[simp] theorem State.note_qsc (s : State) (src : Nat) : (s.note src).qsc = s.qsc := by simp [State.note]
@[simp] theorem State.note_prs (s : State) (src : Nat) : (s.note src).prs = s.prs := by simp [State.note]
@[simp] theorem State.note_tim (s : State) (src : Nat) : (s.note src).tim = s.tim := by simp [State.note]
@[simp] theorem State.note_cls (s : State) (src : Nat) : (s.note src).cls = s.cls := by simp [State.note]
@[simp] theorem State.note_ldg (s : State) (src : Nat) : (s.note src).ldg = s.ldg := by simp [State.note]
@[simp] theorem State.note_cth (s : State) (src : Nat) : (s.note src).cth = s.cth := by simp [State.note]
@[simp] theorem State.note_tly (s : State) (src : Nat) : (s.note src).tly = s.tly := by simp [State.note]
@[simp] theorem State.note_gov (s : State) (src : Nat) : (s.note src).gov = s.gov := by simp [State.note]
@[simp] theorem State.note_dma (s : State) (src : Nat) : (s.note src).dma = s.dma := by simp [State.note]
@[simp] theorem State.note_arrays (s : State) (src : Nat) : (s.note src).arrays = s.arrays := by simp [State.note]
@[simp] theorem State.note_hostqs (s : State) (src : Nat) : (s.note src).hostqs = s.hostqs := by simp [State.note]
@[simp] theorem State.note_feXoff (s : State) (src : Nat) : (s.note src).feXoff = s.feXoff := by simp [State.note]
@[simp] theorem State.note_jtag (s : State) (src : Nat) : (s.note src).jtag = s.jtag := by simp [State.note]
@[simp] theorem State.note_msix (s : State) (src : Nat) : (s.note src).msix = s.msix := by simp [State.note]
@[simp] theorem State.note_loLatch (s : State) (src : Nat) : (s.note src).loLatch = s.loLatch := by simp [State.note]
@[simp] theorem State.note_readData (s : State) (src : Nat) : (s.note src).readData = s.readData := by simp [State.note]

/-! `sendMsi` appends a vector or holds it pending in the MSI-X table. -/

@[simp] theorem State.sendMsi_pending (s : State) (v : Nat) : (s.sendMsi v).pending = s.pending := by
  unfold State.sendMsi
  split
  · rfl
  · split <;> rfl
@[simp] theorem State.sendMsi_now (s : State) (v : Nat) : (s.sendMsi v).now = s.now := by
  unfold State.sendMsi
  split
  · rfl
  · split <;> rfl
@[simp] theorem State.sendMsi_fresh (s : State) (v : Nat) : (s.sendMsi v).fresh = s.fresh := by
  unfold State.sendMsi
  split
  · rfl
  · split <;> rfl
@[simp] theorem State.sendMsi_pins (s : State) (v : Nat) : (s.sendMsi v).pins = s.pins := by
  unfold State.sendMsi
  split
  · rfl
  · split <;> rfl
@[simp] theorem State.sendMsi_boot (s : State) (v : Nat) : (s.sendMsi v).boot = s.boot := by
  unfold State.sendMsi
  split
  · rfl
  · split <;> rfl
@[simp] theorem State.sendMsi_tlr (s : State) (v : Nat) : (s.sendMsi v).tlr = s.tlr := by
  unfold State.sendMsi
  split
  · rfl
  · split <;> rfl
@[simp] theorem State.sendMsi_clh (s : State) (v : Nat) : (s.sendMsi v).clh = s.clh := by
  unfold State.sendMsi
  split
  · rfl
  · split <;> rfl
@[simp] theorem State.sendMsi_ckg (s : State) (v : Nat) : (s.sendMsi v).ckg = s.ckg := by
  unfold State.sendMsi
  split
  · rfl
  · split <;> rfl
@[simp] theorem State.sendMsi_host (s : State) (v : Nat) : (s.sendMsi v).host = s.host := by
  unfold State.sendMsi
  split
  · rfl
  · split <;> rfl
@[simp] theorem State.sendMsi_lanes (s : State) (v : Nat) : (s.sendMsi v).lanes = s.lanes := by
  unfold State.sendMsi
  split
  · rfl
  · split <;> rfl
@[simp] theorem State.sendMsi_stitch (s : State) (v : Nat) : (s.sendMsi v).stitch = s.stitch := by
  unfold State.sendMsi
  split
  · rfl
  · split <;> rfl
@[simp] theorem State.sendMsi_macs (s : State) (v : Nat) : (s.sendMsi v).macs = s.macs := by
  unfold State.sendMsi
  split
  · rfl
  · split <;> rfl
@[simp] theorem State.sendMsi_vlt (s : State) (v : Nat) : (s.sendMsi v).vlt = s.vlt := by
  unfold State.sendMsi
  split
  · rfl
  · split <;> rfl
@[simp] theorem State.sendMsi_copies (s : State) (v : Nat) : (s.sendMsi v).copies = s.copies := by
  unfold State.sendMsi
  split
  · rfl
  · split <;> rfl
@[simp] theorem State.sendMsi_nextCopy (s : State) (v : Nat) : (s.sendMsi v).nextCopy = s.nextCopy := by
  unfold State.sendMsi
  split
  · rfl
  · split <;> rfl
@[simp] theorem State.sendMsi_queues (s : State) (v : Nat) : (s.sendMsi v).queues = s.queues := by
  unfold State.sendMsi
  split
  · rfl
  · split <;> rfl
@[simp] theorem State.sendMsi_qsc (s : State) (v : Nat) : (s.sendMsi v).qsc = s.qsc := by
  unfold State.sendMsi
  split
  · rfl
  · split <;> rfl
@[simp] theorem State.sendMsi_prs (s : State) (v : Nat) : (s.sendMsi v).prs = s.prs := by
  unfold State.sendMsi
  split
  · rfl
  · split <;> rfl
@[simp] theorem State.sendMsi_tim (s : State) (v : Nat) : (s.sendMsi v).tim = s.tim := by
  unfold State.sendMsi
  split
  · rfl
  · split <;> rfl
@[simp] theorem State.sendMsi_cls (s : State) (v : Nat) : (s.sendMsi v).cls = s.cls := by
  unfold State.sendMsi
  split
  · rfl
  · split <;> rfl
@[simp] theorem State.sendMsi_ldg (s : State) (v : Nat) : (s.sendMsi v).ldg = s.ldg := by
  unfold State.sendMsi
  split
  · rfl
  · split <;> rfl
@[simp] theorem State.sendMsi_cth (s : State) (v : Nat) : (s.sendMsi v).cth = s.cth := by
  unfold State.sendMsi
  split
  · rfl
  · split <;> rfl
@[simp] theorem State.sendMsi_tly (s : State) (v : Nat) : (s.sendMsi v).tly = s.tly := by
  unfold State.sendMsi
  split
  · rfl
  · split <;> rfl
@[simp] theorem State.sendMsi_gov (s : State) (v : Nat) : (s.sendMsi v).gov = s.gov := by
  unfold State.sendMsi
  split
  · rfl
  · split <;> rfl
@[simp] theorem State.sendMsi_dma (s : State) (v : Nat) : (s.sendMsi v).dma = s.dma := by
  unfold State.sendMsi
  split
  · rfl
  · split <;> rfl
@[simp] theorem State.sendMsi_arrays (s : State) (v : Nat) : (s.sendMsi v).arrays = s.arrays := by
  unfold State.sendMsi
  split
  · rfl
  · split <;> rfl
@[simp] theorem State.sendMsi_hostqs (s : State) (v : Nat) : (s.sendMsi v).hostqs = s.hostqs := by
  unfold State.sendMsi
  split
  · rfl
  · split <;> rfl
@[simp] theorem State.sendMsi_feXoff (s : State) (v : Nat) : (s.sendMsi v).feXoff = s.feXoff := by
  unfold State.sendMsi
  split
  · rfl
  · split <;> rfl
@[simp] theorem State.sendMsi_jtag (s : State) (v : Nat) : (s.sendMsi v).jtag = s.jtag := by
  unfold State.sendMsi
  split
  · rfl
  · split <;> rfl
@[simp] theorem State.sendMsi_loLatch (s : State) (v : Nat) : (s.sendMsi v).loLatch = s.loLatch := by
  unfold State.sendMsi
  split
  · rfl
  · split <;> rfl
@[simp] theorem State.sendMsi_readData (s : State) (v : Nat) : (s.sendMsi v).readData = s.readData := by
  unfold State.sendMsi
  split
  · rfl
  · split <;> rfl

/-! `each` and `onlyIf` keep a field that each of their updates keeps. -/

theorem State.each_keeps {α β : Type} (g : State → β) (l : List α) (f : α → State → State) (s : State) (h : ∀ a s, g (f a s) = g s) :
    g (s.each l f) = g s := by
  induction l generalizing s with
  | nil => rfl
  | cons a l ih => exact (ih (f a s)).trans (h a s)

theorem State.onlyIf_keeps {β : Type} (g : State → β) (b : Bool) (f : State → State) (s : State) (h : ∀ s, g (f s) = g s) : g (s.onlyIf b f) = g s := by
  unfold State.onlyIf
  split
  · exact h s
  · rfl

@[simp] theorem State.each_pending {α : Type} (s : State) (l : List α) (f : α → State → State) (h : ∀ a s, (f a s).pending = s.pending) :
    (s.each l f).pending = s.pending := State.each_keeps State.pending l f s h
@[simp] theorem State.each_now {α : Type} (s : State) (l : List α) (f : α → State → State) (h : ∀ a s, (f a s).now = s.now) :
    (s.each l f).now = s.now := State.each_keeps State.now l f s h
@[simp] theorem State.each_fresh {α : Type} (s : State) (l : List α) (f : α → State → State) (h : ∀ a s, (f a s).fresh = s.fresh) :
    (s.each l f).fresh = s.fresh := State.each_keeps State.fresh l f s h
@[simp] theorem State.each_regs {α : Type} (s : State) (l : List α) (f : α → State → State) (h : ∀ a s, (f a s).regs = s.regs) :
    (s.each l f).regs = s.regs := State.each_keeps State.regs l f s h
@[simp] theorem State.each_pins {α : Type} (s : State) (l : List α) (f : α → State → State) (h : ∀ a s, (f a s).pins = s.pins) :
    (s.each l f).pins = s.pins := State.each_keeps State.pins l f s h
@[simp] theorem State.each_boot {α : Type} (s : State) (l : List α) (f : α → State → State) (h : ∀ a s, (f a s).boot = s.boot) :
    (s.each l f).boot = s.boot := State.each_keeps State.boot l f s h
@[simp] theorem State.each_tlr {α : Type} (s : State) (l : List α) (f : α → State → State) (h : ∀ a s, (f a s).tlr = s.tlr) :
    (s.each l f).tlr = s.tlr := State.each_keeps State.tlr l f s h
@[simp] theorem State.each_clh {α : Type} (s : State) (l : List α) (f : α → State → State) (h : ∀ a s, (f a s).clh = s.clh) :
    (s.each l f).clh = s.clh := State.each_keeps State.clh l f s h
@[simp] theorem State.each_ckg {α : Type} (s : State) (l : List α) (f : α → State → State) (h : ∀ a s, (f a s).ckg = s.ckg) :
    (s.each l f).ckg = s.ckg := State.each_keeps State.ckg l f s h
@[simp] theorem State.each_host {α : Type} (s : State) (l : List α) (f : α → State → State) (h : ∀ a s, (f a s).host = s.host) :
    (s.each l f).host = s.host := State.each_keeps State.host l f s h
@[simp] theorem State.each_lanes {α : Type} (s : State) (l : List α) (f : α → State → State) (h : ∀ a s, (f a s).lanes = s.lanes) :
    (s.each l f).lanes = s.lanes := State.each_keeps State.lanes l f s h
@[simp] theorem State.each_stitch {α : Type} (s : State) (l : List α) (f : α → State → State) (h : ∀ a s, (f a s).stitch = s.stitch) :
    (s.each l f).stitch = s.stitch := State.each_keeps State.stitch l f s h
@[simp] theorem State.each_macs {α : Type} (s : State) (l : List α) (f : α → State → State) (h : ∀ a s, (f a s).macs = s.macs) :
    (s.each l f).macs = s.macs := State.each_keeps State.macs l f s h
@[simp] theorem State.each_vlt {α : Type} (s : State) (l : List α) (f : α → State → State) (h : ∀ a s, (f a s).vlt = s.vlt) :
    (s.each l f).vlt = s.vlt := State.each_keeps State.vlt l f s h
@[simp] theorem State.each_copies {α : Type} (s : State) (l : List α) (f : α → State → State) (h : ∀ a s, (f a s).copies = s.copies) :
    (s.each l f).copies = s.copies := State.each_keeps State.copies l f s h
@[simp] theorem State.each_nextCopy {α : Type} (s : State) (l : List α) (f : α → State → State) (h : ∀ a s, (f a s).nextCopy = s.nextCopy) :
    (s.each l f).nextCopy = s.nextCopy := State.each_keeps State.nextCopy l f s h
@[simp] theorem State.each_queues {α : Type} (s : State) (l : List α) (f : α → State → State) (h : ∀ a s, (f a s).queues = s.queues) :
    (s.each l f).queues = s.queues := State.each_keeps State.queues l f s h
@[simp] theorem State.each_qsc {α : Type} (s : State) (l : List α) (f : α → State → State) (h : ∀ a s, (f a s).qsc = s.qsc) :
    (s.each l f).qsc = s.qsc := State.each_keeps State.qsc l f s h
@[simp] theorem State.each_prs {α : Type} (s : State) (l : List α) (f : α → State → State) (h : ∀ a s, (f a s).prs = s.prs) :
    (s.each l f).prs = s.prs := State.each_keeps State.prs l f s h
@[simp] theorem State.each_tim {α : Type} (s : State) (l : List α) (f : α → State → State) (h : ∀ a s, (f a s).tim = s.tim) :
    (s.each l f).tim = s.tim := State.each_keeps State.tim l f s h
@[simp] theorem State.each_cls {α : Type} (s : State) (l : List α) (f : α → State → State) (h : ∀ a s, (f a s).cls = s.cls) :
    (s.each l f).cls = s.cls := State.each_keeps State.cls l f s h
@[simp] theorem State.each_ldg {α : Type} (s : State) (l : List α) (f : α → State → State) (h : ∀ a s, (f a s).ldg = s.ldg) :
    (s.each l f).ldg = s.ldg := State.each_keeps State.ldg l f s h
@[simp] theorem State.each_cth {α : Type} (s : State) (l : List α) (f : α → State → State) (h : ∀ a s, (f a s).cth = s.cth) :
    (s.each l f).cth = s.cth := State.each_keeps State.cth l f s h
@[simp] theorem State.each_tly {α : Type} (s : State) (l : List α) (f : α → State → State) (h : ∀ a s, (f a s).tly = s.tly) :
    (s.each l f).tly = s.tly := State.each_keeps State.tly l f s h
@[simp] theorem State.each_gov {α : Type} (s : State) (l : List α) (f : α → State → State) (h : ∀ a s, (f a s).gov = s.gov) :
    (s.each l f).gov = s.gov := State.each_keeps State.gov l f s h
@[simp] theorem State.each_dma {α : Type} (s : State) (l : List α) (f : α → State → State) (h : ∀ a s, (f a s).dma = s.dma) :
    (s.each l f).dma = s.dma := State.each_keeps State.dma l f s h
@[simp] theorem State.each_arrays {α : Type} (s : State) (l : List α) (f : α → State → State) (h : ∀ a s, (f a s).arrays = s.arrays) :
    (s.each l f).arrays = s.arrays := State.each_keeps State.arrays l f s h
@[simp] theorem State.each_hostqs {α : Type} (s : State) (l : List α) (f : α → State → State) (h : ∀ a s, (f a s).hostqs = s.hostqs) :
    (s.each l f).hostqs = s.hostqs := State.each_keeps State.hostqs l f s h
@[simp] theorem State.each_feXoff {α : Type} (s : State) (l : List α) (f : α → State → State) (h : ∀ a s, (f a s).feXoff = s.feXoff) :
    (s.each l f).feXoff = s.feXoff := State.each_keeps State.feXoff l f s h
@[simp] theorem State.each_jtag {α : Type} (s : State) (l : List α) (f : α → State → State) (h : ∀ a s, (f a s).jtag = s.jtag) :
    (s.each l f).jtag = s.jtag := State.each_keeps State.jtag l f s h
@[simp] theorem State.each_msix {α : Type} (s : State) (l : List α) (f : α → State → State) (h : ∀ a s, (f a s).msix = s.msix) :
    (s.each l f).msix = s.msix := State.each_keeps State.msix l f s h
@[simp] theorem State.each_loLatch {α : Type} (s : State) (l : List α) (f : α → State → State) (h : ∀ a s, (f a s).loLatch = s.loLatch) :
    (s.each l f).loLatch = s.loLatch := State.each_keeps State.loLatch l f s h
@[simp] theorem State.each_readData {α : Type} (s : State) (l : List α) (f : α → State → State) (h : ∀ a s, (f a s).readData = s.readData) :
    (s.each l f).readData = s.readData := State.each_keeps State.readData l f s h
@[simp] theorem State.onlyIf_pending (s : State) (b : Bool) (f : State → State) (h : ∀ s, (f s).pending = s.pending) :
    (s.onlyIf b f).pending = s.pending := State.onlyIf_keeps State.pending b f s h
@[simp] theorem State.onlyIf_now (s : State) (b : Bool) (f : State → State) (h : ∀ s, (f s).now = s.now) :
    (s.onlyIf b f).now = s.now := State.onlyIf_keeps State.now b f s h
@[simp] theorem State.onlyIf_fresh (s : State) (b : Bool) (f : State → State) (h : ∀ s, (f s).fresh = s.fresh) :
    (s.onlyIf b f).fresh = s.fresh := State.onlyIf_keeps State.fresh b f s h
@[simp] theorem State.onlyIf_regs (s : State) (b : Bool) (f : State → State) (h : ∀ s, (f s).regs = s.regs) :
    (s.onlyIf b f).regs = s.regs := State.onlyIf_keeps State.regs b f s h
@[simp] theorem State.onlyIf_pins (s : State) (b : Bool) (f : State → State) (h : ∀ s, (f s).pins = s.pins) :
    (s.onlyIf b f).pins = s.pins := State.onlyIf_keeps State.pins b f s h
@[simp] theorem State.onlyIf_boot (s : State) (b : Bool) (f : State → State) (h : ∀ s, (f s).boot = s.boot) :
    (s.onlyIf b f).boot = s.boot := State.onlyIf_keeps State.boot b f s h
@[simp] theorem State.onlyIf_tlr (s : State) (b : Bool) (f : State → State) (h : ∀ s, (f s).tlr = s.tlr) :
    (s.onlyIf b f).tlr = s.tlr := State.onlyIf_keeps State.tlr b f s h
@[simp] theorem State.onlyIf_clh (s : State) (b : Bool) (f : State → State) (h : ∀ s, (f s).clh = s.clh) :
    (s.onlyIf b f).clh = s.clh := State.onlyIf_keeps State.clh b f s h
@[simp] theorem State.onlyIf_ckg (s : State) (b : Bool) (f : State → State) (h : ∀ s, (f s).ckg = s.ckg) :
    (s.onlyIf b f).ckg = s.ckg := State.onlyIf_keeps State.ckg b f s h
@[simp] theorem State.onlyIf_host (s : State) (b : Bool) (f : State → State) (h : ∀ s, (f s).host = s.host) :
    (s.onlyIf b f).host = s.host := State.onlyIf_keeps State.host b f s h
@[simp] theorem State.onlyIf_lanes (s : State) (b : Bool) (f : State → State) (h : ∀ s, (f s).lanes = s.lanes) :
    (s.onlyIf b f).lanes = s.lanes := State.onlyIf_keeps State.lanes b f s h
@[simp] theorem State.onlyIf_stitch (s : State) (b : Bool) (f : State → State) (h : ∀ s, (f s).stitch = s.stitch) :
    (s.onlyIf b f).stitch = s.stitch := State.onlyIf_keeps State.stitch b f s h
@[simp] theorem State.onlyIf_macs (s : State) (b : Bool) (f : State → State) (h : ∀ s, (f s).macs = s.macs) :
    (s.onlyIf b f).macs = s.macs := State.onlyIf_keeps State.macs b f s h
@[simp] theorem State.onlyIf_vlt (s : State) (b : Bool) (f : State → State) (h : ∀ s, (f s).vlt = s.vlt) :
    (s.onlyIf b f).vlt = s.vlt := State.onlyIf_keeps State.vlt b f s h
@[simp] theorem State.onlyIf_copies (s : State) (b : Bool) (f : State → State) (h : ∀ s, (f s).copies = s.copies) :
    (s.onlyIf b f).copies = s.copies := State.onlyIf_keeps State.copies b f s h
@[simp] theorem State.onlyIf_nextCopy (s : State) (b : Bool) (f : State → State) (h : ∀ s, (f s).nextCopy = s.nextCopy) :
    (s.onlyIf b f).nextCopy = s.nextCopy := State.onlyIf_keeps State.nextCopy b f s h
@[simp] theorem State.onlyIf_queues (s : State) (b : Bool) (f : State → State) (h : ∀ s, (f s).queues = s.queues) :
    (s.onlyIf b f).queues = s.queues := State.onlyIf_keeps State.queues b f s h
@[simp] theorem State.onlyIf_qsc (s : State) (b : Bool) (f : State → State) (h : ∀ s, (f s).qsc = s.qsc) :
    (s.onlyIf b f).qsc = s.qsc := State.onlyIf_keeps State.qsc b f s h
@[simp] theorem State.onlyIf_prs (s : State) (b : Bool) (f : State → State) (h : ∀ s, (f s).prs = s.prs) :
    (s.onlyIf b f).prs = s.prs := State.onlyIf_keeps State.prs b f s h
@[simp] theorem State.onlyIf_tim (s : State) (b : Bool) (f : State → State) (h : ∀ s, (f s).tim = s.tim) :
    (s.onlyIf b f).tim = s.tim := State.onlyIf_keeps State.tim b f s h
@[simp] theorem State.onlyIf_cls (s : State) (b : Bool) (f : State → State) (h : ∀ s, (f s).cls = s.cls) :
    (s.onlyIf b f).cls = s.cls := State.onlyIf_keeps State.cls b f s h
@[simp] theorem State.onlyIf_ldg (s : State) (b : Bool) (f : State → State) (h : ∀ s, (f s).ldg = s.ldg) :
    (s.onlyIf b f).ldg = s.ldg := State.onlyIf_keeps State.ldg b f s h
@[simp] theorem State.onlyIf_cth (s : State) (b : Bool) (f : State → State) (h : ∀ s, (f s).cth = s.cth) :
    (s.onlyIf b f).cth = s.cth := State.onlyIf_keeps State.cth b f s h
@[simp] theorem State.onlyIf_tly (s : State) (b : Bool) (f : State → State) (h : ∀ s, (f s).tly = s.tly) :
    (s.onlyIf b f).tly = s.tly := State.onlyIf_keeps State.tly b f s h
@[simp] theorem State.onlyIf_gov (s : State) (b : Bool) (f : State → State) (h : ∀ s, (f s).gov = s.gov) :
    (s.onlyIf b f).gov = s.gov := State.onlyIf_keeps State.gov b f s h
@[simp] theorem State.onlyIf_dma (s : State) (b : Bool) (f : State → State) (h : ∀ s, (f s).dma = s.dma) :
    (s.onlyIf b f).dma = s.dma := State.onlyIf_keeps State.dma b f s h
@[simp] theorem State.onlyIf_arrays (s : State) (b : Bool) (f : State → State) (h : ∀ s, (f s).arrays = s.arrays) :
    (s.onlyIf b f).arrays = s.arrays := State.onlyIf_keeps State.arrays b f s h
@[simp] theorem State.onlyIf_hostqs (s : State) (b : Bool) (f : State → State) (h : ∀ s, (f s).hostqs = s.hostqs) :
    (s.onlyIf b f).hostqs = s.hostqs := State.onlyIf_keeps State.hostqs b f s h
@[simp] theorem State.onlyIf_feXoff (s : State) (b : Bool) (f : State → State) (h : ∀ s, (f s).feXoff = s.feXoff) :
    (s.onlyIf b f).feXoff = s.feXoff := State.onlyIf_keeps State.feXoff b f s h
@[simp] theorem State.onlyIf_jtag (s : State) (b : Bool) (f : State → State) (h : ∀ s, (f s).jtag = s.jtag) :
    (s.onlyIf b f).jtag = s.jtag := State.onlyIf_keeps State.jtag b f s h
@[simp] theorem State.onlyIf_msix (s : State) (b : Bool) (f : State → State) (h : ∀ s, (f s).msix = s.msix) :
    (s.onlyIf b f).msix = s.msix := State.onlyIf_keeps State.msix b f s h
@[simp] theorem State.onlyIf_loLatch (s : State) (b : Bool) (f : State → State) (h : ∀ s, (f s).loLatch = s.loLatch) :
    (s.onlyIf b f).loLatch = s.loLatch := State.onlyIf_keeps State.loLatch b f s h
@[simp] theorem State.onlyIf_readData (s : State) (b : Bool) (f : State → State) (h : ∀ s, (f s).readData = s.readData) :
    (s.onlyIf b f).readData = s.readData := State.onlyIf_keeps State.readData b f s h

theorem State.each_nil {α : Type} (s : State) (f : α → State → State) : s.each [] f = s := rfl
theorem State.each_cons {α : Type} (s : State) (a : α) (l : List α) (f : α → State → State) : s.each (a :: l) f = (f a s).each l f := rfl

/-! ### Registers -/

theorem regPut_find?_same (t : Tab Word) (k d v : Nat) :
    Tab.find? (regPut t k d v) k = if v % 2 ^ 32 = d then none else some (BitVec.ofNat 32 v) := by
  unfold regPut
  split <;> simp

theorem regPut_find?_ne (t : Tab Word) {k j : Nat} (d v : Nat) (h : j ≠ k) : Tab.find? (regPut t k d v) j = Tab.find? t j := by
  unfold regPut
  split
  · exact Tab.find?_erase_ne t h
  · exact Tab.find?_insert_ne t _ h

/-- A register reads as what was written to it. -/
@[simp] theorem State.rd_wr_same (s : State) (r : Reg) (i v : Nat) : (s.wr r i v).rd r i = v % 2 ^ 32 := by
  unfold State.rd State.wr
  rw [regPut_find?_same]
  split
  · rename_i h
    split at h <;> simp_all
    rw [← h]
    simp
  · rename_i h
    split at h <;> simp_all

/-- A write leaves every register of another key alone. -/
theorem State.rd_wr_ne (s : State) {r q : Reg} {i j : Nat} (v : Nat) (h : q.key j ≠ r.key i) : (s.wr r i v).rd q j = s.rd q j := by
  unfold State.rd State.wr
  rw [regPut_find?_ne _ _ _ h]

/-- A field reads as what was written to it, cut to its width. -/
theorem State.fld_setF_same (s : State) (f : Fld) (i v : Nat) (h : f.lo + f.wd ≤ 32) : (s.setF f i v).fld f i = v % 2 ^ f.wd := by
  unfold State.fld State.setF
  rw [State.rd_wr_same, bits_mod_word _ _ _ h, bits_putBits_same]

/-- A field's write leaves a field of another register alone. -/
theorem State.fld_setF_ne (s : State) {f g : Fld} {i j : Nat} (v : Nat) (h : g.reg.key j ≠ f.reg.key i) : (s.setF f i v).fld g j = s.fld g j := by
  unfold State.fld State.setF
  rw [State.rd_wr_ne s _ h]

theorem State.rd_setF_ne (s : State) {f : Fld} {q : Reg} {i j : Nat} (v : Nat) (h : q.key j ≠ f.reg.key i) : (s.setF f i v).rd q j = s.rd q j :=
  State.rd_wr_ne s _ h

theorem State.fld_wr_ne (s : State) {g : Fld} {r : Reg} {i j : Nat} (v : Nat) (h : g.reg.key j ≠ r.key i) : (s.wr r i v).fld g j = s.fld g j := by
  unfold State.fld
  rw [State.rd_wr_ne s _ h]

/-- A field's write leaves the other fields of its register alone. -/
theorem State.fld_setF_other (s : State) (f g : Fld) (i v : Nat) (hr : g.reg = f.reg) (hg : g.lo + g.wd ≤ 32)
    (h : g.lo + g.wd ≤ f.lo ∨ f.lo + f.wd ≤ g.lo) : (s.setF f i v).fld g i = s.fld g i := by
  unfold State.fld State.setF
  rw [hr, State.rd_wr_same, bits_mod_word _ _ _ hg, bits_putBits_ne _ _ _ _ _ _ h]

theorem State.rd_congr {s t : State} (h : t.regs = s.regs) (r : Reg) (i : Nat) : t.rd r i = s.rd r i := by
  unfold State.rd
  rw [h]

theorem State.fld_congr {s t : State} (h : t.regs = s.regs) (f : Fld) (i : Nat) : t.fld f i = s.fld f i := by
  unfold State.fld
  rw [State.rd_congr h]

@[simp] theorem State.raise_rd (s : State) (src d : Nat) (r : Reg) (i : Nat) : (s.raise src d).rd r i = s.rd r i := State.rd_congr (by simp) r i
@[simp] theorem State.note_rd (s : State) (src : Nat) (r : Reg) (i : Nat) : (s.note src).rd r i = s.rd r i := State.rd_congr (by simp) r i
@[simp] theorem State.tookFree_rd (s : State) (r : Reg) (i : Nat) : s.tookFree.rd r i = s.rd r i := (rfl)
@[simp] theorem State.putArr_rd (s : State) (a : Nat) (bs : List Byte) (r : Reg) (i : Nat) : (s.putArr a bs).rd r i = s.rd r i := (rfl)
@[simp] theorem State.hostWrite_rd (s : State) (a : Nat) (bs : List Byte) (r : Reg) (i : Nat) : (s.hostWrite a bs).rd r i = s.rd r i := (rfl)
@[simp] theorem State.raise_fld (s : State) (src d : Nat) (f : Fld) (i : Nat) : (s.raise src d).fld f i = s.fld f i := State.fld_congr (by simp) f i
@[simp] theorem State.note_fld (s : State) (src : Nat) (f : Fld) (i : Nat) : (s.note src).fld f i = s.fld f i := State.fld_congr (by simp) f i
@[simp] theorem State.tookFree_fld (s : State) (f : Fld) (i : Nat) : s.tookFree.fld f i = s.fld f i := (rfl)
@[simp] theorem State.putArr_fld (s : State) (a : Nat) (bs : List Byte) (f : Fld) (i : Nat) : (s.putArr a bs).fld f i = s.fld f i := (rfl)
@[simp] theorem State.hostWrite_fld (s : State) (a : Nat) (bs : List Byte) (f : Fld) (i : Nat) : (s.hostWrite a bs).fld f i = s.fld f i := (rfl)
@[simp] theorem State.raise_mode (s : State) (src d : Nat) : (s.raise src d).mode = s.mode := State.raise_fld s src d _ _
@[simp] theorem State.note_mode (s : State) (src : Nat) : (s.note src).mode = s.mode := State.note_fld s src _ _

theorem State.setF_mode (s : State) (f : Fld) (i v : Nat) (h : F.GLB_MODE_MODE.reg.key 0 ≠ f.reg.key i) : (s.setF f i v).mode = s.mode :=
  State.fld_setF_ne s v h

theorem State.wr_mode (s : State) (r : Reg) (i v : Nat) (h : F.GLB_MODE_MODE.reg.key 0 ≠ r.key i) : (s.wr r i v).mode = s.mode :=
  State.fld_wr_ne s v h

/-! The register file keeps its keys rising, whatever is written. -/

theorem sorted_regPut {t : Tab Word} (k d v : Nat) (h : Tab.sorted t = true) : Tab.sorted (regPut t k d v) = true := by
  unfold regPut
  split
  · exact Tab.sorted_erase k h
  · exact Tab.sorted_insert k _ h

theorem State.wr_sorted (s : State) (r : Reg) (i v : Nat) (h : Tab.sorted s.regs = true) : Tab.sorted (s.wr r i v).regs = true := sorted_regPut _ _ _ h

theorem State.resetRegs_sorted (s : State) (p : Nat → Bool) (h : Tab.sorted s.regs = true) : Tab.sorted (s.resetRegs p).regs = true :=
  Tab.sorted_filter _ h

end Sys2Proof.Machine
end

