-- ==== Sys2Proof/Laws/Fixed.lean ====
section
/-! SUPPORT. What almost no operation touches: the queue of waiting commands, GLB_CHIP_ID and the mode. One lemma an operation says that it keeps them. -/
namespace Sys2Proof.Machine

/-- What almost no operation touches: the queue of commands, GLB_CHIP_ID and the mode. -/
def State.fixed (s : State) : List Instr × Nat × Nat := (s.pending, s.rd R.GLB_CHIP_ID 0, s.mode)

theorem State.fixed_of {s t : State} (hp : t.pending = s.pending) (hr : t.regs = s.regs) : t.fixed = s.fixed := by
  unfold State.fixed
  unfold State.mode
  rw [hp, State.rd_congr hr, State.fld_congr hr]

@[simp ↓] theorem State.fixed_mk (s : State) (a1 a2 : Nat) (a4 : Pins) (a5 : Boot) (a6 : Tlr) (a7 : Clh) (a8 : Ckg) (a9 : Tab (Option Byte)) (a10 : Tab Lane)
    (a11 : Tab Stitch) (a12 : Tab Mac) (a13 : Vlt) (a14 : Tab (Option Copy)) (a15 : Nat) (a16 : Tab (List Nat)) (a17 : Qsc) (a18 : Prs) (a19 : Tim)
    (a20 : Cls) (a21 : Ldg) (a22 : Cth) (a23 : Tly) (a24 : Gov) (a25 : Dma) (a26 : Tab Byte) (a27 : Tab (List Nat)) (a28 : Nat) (a29 : Jtag)
    (a30 : List Nat) (a31 : Tab Word) (a32 : List Byte) :
    State.fixed ⟨s.pending, a1, a2, s.regs, a4, a5, a6, a7, a8, a9, a10, a11, a12, a13, a14, a15, a16, a17, a18, a19, a20, a21, a22, a23, a24, a25, a26,
      a27, a28, a29, a30, a31, a32⟩ = s.fixed := State.fixed_of (rfl) (rfl)

theorem Reg.base_le (r : Reg) (i : Nat) : r.base ≤ r.key i := Nat.le_add_right _ _

@[simp ↓] theorem State.wr_fixed (s : State) (r : Reg) (i v : Nat) (h : 0x10 < r.base) : (s.wr r i v).fixed = s.fixed := by
  have hi := r.base_le i
  have h0 : R.GLB_CHIP_ID.key 0 = 0 := by decide
  have h1 : R.GLB_MODE.key 0 = 0x10 := by decide
  unfold State.fixed
  rw [State.rd_wr_ne s v (by omega), State.wr_mode s r i v (by have h2 : F.GLB_MODE_MODE.reg.key 0 = 0x10 := by decide
                                                               omega), State.wr_pending]

@[simp ↓] theorem State.setF_fixed (s : State) (f : Fld) (i v : Nat) (h : 0x10 < f.reg.base) : (s.setF f i v).fixed = s.fixed := State.wr_fixed s _ _ _ h
@[simp ↓] theorem State.addSat_fixed (s : State) (f : Fld) (i n : Nat) (h : 0x10 < f.reg.base) : (s.addSat f i n).fixed = s.fixed := State.wr_fixed s _ _ _ h
@[simp ↓] theorem State.inc_fixed (s : State) (f : Fld) (i : Nat) (h : 0x10 < f.reg.base) : (s.inc f i).fixed = s.fixed := State.wr_fixed s _ _ _ h
@[simp ↓] theorem State.dec_fixed (s : State) (f : Fld) (i : Nat) (h : 0x10 < f.reg.base) : (s.dec f i).fixed = s.fixed := State.wr_fixed s _ _ _ h
@[simp ↓] theorem State.setCounted_fixed (s : State) (b c : Fld) (i : Nat) (h : 0x10 < b.reg.base) (g : 0x10 < c.reg.base) :
    (s.setCounted b c i).fixed = s.fixed := by
  unfold State.setCounted
  rw [State.inc_fixed _ _ _ g, State.setF_fixed _ _ _ _ h]
@[simp ↓] theorem State.wr64_fixed (s : State) (lo hi : Reg) (i v : Nat) (h : 0x10 < lo.base) (g : 0x10 < hi.base) : (s.wr64 lo hi i v).fixed = s.fixed := by
  unfold State.wr64
  rw [State.wr_fixed _ _ _ _ g, State.wr_fixed _ _ _ _ h]
@[simp ↓] theorem State.add64_fixed (s : State) (lo hi : Reg) (i n : Nat) (h : 0x10 < lo.base) (g : 0x10 < hi.base) : (s.add64 lo hi i n).fixed = s.fixed :=
  State.wr64_fixed s lo hi i _ h g
@[simp ↓] theorem State.count64_fixed (s : State) (lo hi : Reg) (i n : Nat) (h : 0x10 < lo.base) (g : 0x10 < hi.base) :
    (s.count64 lo hi i n).fixed = s.fixed := State.wr64_fixed s lo hi i _ h g
@[simp ↓] theorem State.softWrite_fixed (s : State) (r : Reg) (i v : Nat) (h : 0x10 < r.base) : (s.softWrite r i v).fixed = s.fixed := State.wr_fixed s _ _ _ h
@[simp ↓] theorem State.readClear_fixed (s : State) (r : Reg) (i : Nat) (h : 0x10 < r.base) : (s.readClear r i).fixed = s.fixed := State.wr_fixed s _ _ _ h
@[simp ↓] theorem State.tookFree_fixed (s : State) : s.tookFree.fixed = s.fixed := State.fixed_of (rfl) (rfl)
@[simp ↓] theorem State.putArr_fixed (s : State) (a : Nat) (bs : List Byte) : (s.putArr a bs).fixed = s.fixed := State.fixed_of (rfl) (rfl)
@[simp ↓] theorem State.hostWrite_fixed (s : State) (a : Nat) (bs : List Byte) : (s.hostWrite a bs).fixed = s.fixed := State.fixed_of (rfl) (rfl)
@[simp ↓] theorem State.raise_fixed (s : State) (a d : Nat) : (s.raise a d).fixed = s.fixed := State.fixed_of (by simp) (by simp)
@[simp ↓] theorem State.note_fixed (s : State) (a : Nat) : (s.note a).fixed = s.fixed := State.fixed_of (by simp) (by simp)
@[simp ↓] theorem State.sendMsi_fixed (s : State) (v : Nat) : (s.sendMsi v).fixed = s.fixed := by
  unfold State.sendMsi
  split
  · rfl
  · split
    · exact State.wr_fixed _ _ _ _ (by decide)
    · exact State.fixed_of (rfl) (rfl)
@[simp ↓] theorem State.each_fixed {α : Type} (s : State) (l : List α) (f : α → State → State) (h : ∀ a s, (f a s).fixed = s.fixed) :
    (s.each l f).fixed = s.fixed := State.each_keeps State.fixed l f s h
@[simp ↓] theorem State.onlyIf_fixed (s : State) (b : Bool) (f : State → State) (h : ∀ s, (f s).fixed = s.fixed) : (s.onlyIf b f).fixed = s.fixed :=
  State.onlyIf_keeps State.fixed b f s h
@[simp ↓] theorem State.ite_fixed (c : Prop) [Decidable c] (a b : State) : (if c then a else b).fixed = if c then a.fixed else b.fixed := apply_ite _ _ _ _

theorem State.setF_fixed_glb (s : State) (f : Fld) (v : Nat) (h : f.reg = R.GLB_MODE) (g : 4 ≤ f.lo) : (s.setF f 0 v).fixed = s.fixed := by
  have h2 : (s.setF f 0 v).rd R.GLB_CHIP_ID 0 = s.rd R.GLB_CHIP_ID 0 := State.rd_setF_ne s v (by rw [h]; decide)
  have h3 : (s.setF f 0 v).mode = s.mode := State.fld_setF_other s f F.GLB_MODE_MODE 0 v h.symm (by decide) (.inl g)
  unfold State.fixed
  rw [h2, h3, State.setF_pending]

@[simp ↓] theorem State.setTimeLocked_fixed (s : State) (v : Nat) : (s.setF F.GLB_MODE_TIME_LOCKED 0 v).fixed = s.fixed :=
  State.setF_fixed_glb s _ v (by rfl) (by decide)
@[simp ↓] theorem State.setTransition_fixed (s : State) (v : Nat) : (s.setF F.GLB_MODE_TRANSITION 0 v).fixed = s.fixed :=
  State.setF_fixed_glb s _ v (by rfl) (by decide)
@[simp ↓] theorem State.setTarget_fixed (s : State) (v : Nat) : (s.setF F.GLB_MODE_TARGET 0 v).fixed = s.fixed :=
  State.setF_fixed_glb s _ v (by rfl) (by decide)

theorem State.resetRegs_fixed (s : State) (p : Nat → Bool) (h : p 0 = false) (g : p 0x10 = false) : (s.resetRegs p).fixed = s.fixed := by
  have key : ∀ k, p k = false → Tab.find? (s.resetRegs p).regs k = Tab.find? s.regs k := by
    intro k hk
    unfold State.resetRegs
    induction s.regs with
    | nil => rfl
    | cons e t ih =>
      obtain ⟨j, w⟩ := e
      by_cases hj : j = k
      · subst hj
        simp [hk, Tab.find?]
      · by_cases hp : p j = true <;> simp_all [Tab.find?]
  have h0 : R.GLB_CHIP_ID.key 0 = 0 := by decide
  have h1 : F.GLB_MODE_MODE.reg.key 0 = 0x10 := by decide
  unfold State.fixed State.mode State.fld State.rd
  rw [h0, h1, key 0 h, key 0x10 g, State.resetRegs_pending]

@[simp ↓] theorem ite_fst {α β : Type} (c : Prop) [Decidable c] (a b : α × β) : (if c then a else b).1 = if c then a.1 else b.1 := apply_ite _ _ _ _

/-- Every set of a table lies above GLB_MODE. -/
def allHigh (l : List Reg) : Bool := l.all fun r => decide (0x10 < r.base)

theorem Tbl.tlr_high : allHigh Tbl.tlr = true := by decide
theorem Tbl.ckg_high : allHigh Tbl.ckg = true := by decide
theorem Tbl.clh_high : allHigh Tbl.clh = true := by decide
theorem Tbl.gov_high : allHigh Tbl.gov = true := by decide
theorem Tbl.tim_high : allHigh Tbl.tim = true := by decide
theorem Tbl.dma_high : allHigh Tbl.dma = true := by decide
theorem Tbl.tly_high : allHigh Tbl.tly = true := by decide
theorem Tbl.quire_high : allHigh Tbl.quire = true := by decide
theorem Tbl.cls_high : allHigh Tbl.cls = true := by decide
theorem Tbl.ldg_high : allHigh Tbl.ldg = true := by decide
theorem Tbl.clrk_high : allHigh Tbl.clrk = true := by decide
theorem Tbl.vlt_high : allHigh Tbl.vlt = true := by decide
theorem Tbl.qsc_high : allHigh Tbl.qsc = true := by decide
theorem Tbl.cth_high : allHigh Tbl.cth = true := by decide
theorem Tbl.mrg_high : allHigh Tbl.mrg = true := by decide
theorem Tbl.bar0_high : allHigh Tbl.bar0 = true := by decide
theorem Tbl.bar4_high : allHigh Tbl.bar4 = true := by decide

theorem Tbl.glb_rc : (Tbl.glb.all fun r => r.rc == 0) = true := by decide

theorem mem_ite {c : Prop} [Decidable c] {r : Reg} {l m : List Reg} (h : r ∈ if c then l else m) : (c ∧ r ∈ l) ∨ (¬c ∧ r ∈ m) := by
  by_cases hc : c
  · exact .inl ⟨hc, by rwa [if_pos hc] at h⟩
  · exact .inr ⟨hc, by rwa [if_neg hc] at h⟩

theorem mem_regsNear {a : Nat} {r : Reg} (h : r ∈ regsNear a) : 0x10 < r.base ∨ (a < 0x1000000 ∧ r.rc = 0) := by
  have hi : ∀ {l : List Reg}, allHigh l = true → r ∈ l → 0x10 < r.base ∨ (a < 0x1000000 ∧ r.rc = 0) := fun {l} hl hr =>
    .inl (of_decide_eq_true ((List.all_eq_true.1 hl) r hr))
  unfold regsNear at h
  dsimp only at h
  rcases mem_ite h with ⟨-, h⟩ | ⟨-, h⟩
  · exact hi Tbl.bar4_high h
  rcases mem_ite h with ⟨-, h⟩ | ⟨-, h⟩
  · exact hi Tbl.bar0_high h
  rcases mem_ite h with ⟨h0, h⟩ | ⟨-, h⟩
  · exact .inr ⟨by omega, eq_of_beq ((List.all_eq_true.1 Tbl.glb_rc) r h)⟩
  rcases mem_ite h with ⟨-, h⟩ | ⟨-, h⟩
  · exact hi Tbl.tlr_high h
  rcases mem_ite h with ⟨-, h⟩ | ⟨-, h⟩
  · exact hi Tbl.ckg_high h
  rcases mem_ite h with ⟨-, h⟩ | ⟨-, h⟩
  · exact hi Tbl.clh_high h
  rcases mem_ite h with ⟨-, h⟩ | ⟨-, h⟩
  · exact hi Tbl.gov_high h
  rcases mem_ite h with ⟨-, h⟩ | ⟨-, h⟩
  · exact hi Tbl.tim_high h
  rcases mem_ite h with ⟨-, h⟩ | ⟨-, h⟩
  · exact hi Tbl.dma_high h
  rcases mem_ite h with ⟨-, h⟩ | ⟨-, h⟩
  · exact hi Tbl.tly_high h
  rcases mem_ite h with ⟨-, h⟩ | ⟨-, h⟩
  · exact hi Tbl.quire_high h
  rcases mem_ite h with ⟨-, h⟩ | ⟨-, h⟩
  · exact hi Tbl.cls_high h
  rcases mem_ite h with ⟨-, h⟩ | ⟨-, h⟩
  · exact hi Tbl.ldg_high h
  rcases mem_ite h with ⟨-, h⟩ | ⟨-, h⟩
  · exact hi Tbl.clrk_high h
  rcases mem_ite h with ⟨-, h⟩ | ⟨-, h⟩
  · exact hi Tbl.vlt_high h
  rcases mem_ite h with ⟨-, h⟩ | ⟨-, h⟩
  · exact hi Tbl.qsc_high h
  rcases mem_ite h with ⟨-, h⟩ | ⟨-, h⟩
  · exact hi Tbl.cth_high h
  rcases mem_ite h with ⟨-, h⟩ | ⟨-, h⟩
  · exact hi Tbl.mrg_high h
  cases h

theorem findReg_mem {a : Nat} {x : Reg × Nat} (h : findReg a = some x) : x.1 ∈ regsNear a := by
  unfold findReg at h
  obtain ⟨r, hr, hx⟩ := List.exists_of_findSome?_eq_some h
  split at hx
  · obtain ⟨i, -, rfl⟩ := Option.map_eq_some_iff.1 hx
    exact hr
  · cases hx

theorem findReg_rc {a : Nat} {x : Reg × Nat} (h : findReg a = some x) : 0x10 < x.1.base ∨ x.1.rc = 0 :=
  (mem_regsNear (findReg_mem h)).imp_right And.right

theorem findReg_high {a : Nat} {x : Reg × Nat} (h : findReg a = some x) (ha : 0x2000000 ≤ a) : 0x10 < x.1.base :=
  (mem_regsNear (findReg_mem h)).elim id fun g => by omega

theorem unitOfOffset_high {a u : Nat} (h : unitOfOffset a = some u) : 0x2000000 ≤ a := by
  unfold unitOfOffset at h
  dsimp only at h
  by_contra hn
  have h0 : a / 0x1000000 = 0 ∨ a / 0x1000000 = 1 := by omega
  rcases h0 with h0 | h0 <;> rw [h0] at h <;> simp at h

theorem ownerOf_high {a : Nat} (h : (ownerOf a).isSome = true) : 0x2000000 ≤ a := by
  unfold ownerOf at h
  split at h
  · omega
  · obtain ⟨u, hu⟩ := Option.isSome_iff_exists.1 h
    exact unitOfOffset_high hu

@[simp ↓] theorem State.setBufFree_fixed (s : State) (b v : Nat) : (s.setF (bufFree b) 0 v).fixed = s.fixed := by
  unfold bufFree
  split <;> simp

/-- The state an answer leaves. -/
def Ans.state : Ans → State
  | .done s _ _ _ => s

@[simp ↓] theorem Ans.ok_state (s : State) (l : List Byte) : (Ans.ok s l).state = s := (rfl)
@[simp ↓] theorem Ans.fail_state (s : State) (a b : Nat) : (Ans.fail s a b).state = s := (rfl)
@[simp ↓] theorem Ans.hostTimeout_state (s : State) : (Ans.hostTimeout s).state = s := (rfl)
@[simp ↓] theorem Ans.done_state (s : State) (a b : Nat) (l : List Byte) : (Ans.done s a b l).state = s := (rfl)
@[simp ↓] theorem Ans.ite_state (c : Prop) [Decidable c] (a b : Ans) : (if c then a else b).state = if c then a.state else b.state := apply_ite _ _ _ _

/-- A fold keeps what each of its steps keeps. -/
theorem foldl_keeps {α β γ : Type} (g : β → γ) (l : List α) (f : β → α → β) (b : β) (h : ∀ x a, g (f x a) = g x) : g (l.foldl f b) = g b := by
  induction l generalizing b with
  | nil => rfl
  | cons a l ih => exact (ih (f b a)).trans (h b a)

@[simp ↓] theorem State.setGrant_fixed (s : State) (u : Nat) (on : Bool) : (State.setGrant s u on).fixed = s.fixed := by simp [State.setGrant]

@[simp ↓] theorem State.revokeAll_fixed (s : State) : (State.revokeAll s).fixed = s.fixed := by simp [State.revokeAll]

@[simp ↓] theorem State.ungranted_fixed (s : State) (off : Nat) : (State.ungranted s off).fixed = s.fixed := by simp [State.ungranted]

@[simp ↓] theorem State.hostWrites_fixed (s : State) (off : Nat) (f : State → State) (h : ∀ s, (f s).fixed = s.fixed) : (State.hostWrites s off f).fixed = s.fixed := by
  unfold State.hostWrites
  (repeat' split) <;> simp [h]

@[simp ↓] theorem State.putArea_fixed (s : State) (off : Nat) (bs : List Byte) : (State.putArea s off bs).fixed = s.fixed := by simp [State.putArea]

@[simp ↓] theorem State.history_fixed (s : State) (m : Nat) (source : Nat) (kind : Nat) (reqHdr : List Byte) (respHdr : List Byte) (params : List Byte) : (State.history s m source kind reqHdr respHdr params).fixed = s.fixed := by simp [State.history]

@[simp ↓] theorem State.completionMsi_fixed (s : State) (m : Nat) (quiet : Bool) : (State.completionMsi s m quiet).fixed = s.fixed := by simp [State.completionMsi]

@[simp ↓] theorem State.deadline_fixed (s : State) (r : Req) (status : Nat) : (State.deadline s r status).fixed = s.fixed := by simp [State.deadline]

@[simp ↓] theorem State.respond_fixed (s : State) (m : Nat) (r : Req) (status : Nat) (detail : Nat) (resp : List Byte) : (State.respond s m r status detail resp).fixed = s.fixed := by
  unfold State.respond
  simp only [State.completionMsi_fixed, State.history_fixed, State.deadline_fixed]
  simp

@[simp ↓] theorem State.countRecs_fixed (s : State) : (State.countRecs s).fixed = s.fixed := by simp [State.countRecs]

@[simp ↓] theorem State.putRec_fixed (s : State) (k : Nat) (r : Option Rec) : (State.putRec s k r).fixed = s.fixed := by simp [State.putRec]

@[simp ↓] theorem State.setExecuting_fixed (s : State) (m : Nat) (on : Bool) : (State.setExecuting s m on).fixed = s.fixed := by simp [State.setExecuting]

@[simp ↓] theorem State.completeRec_fixed (s : State) (k : Nat) (r : Rec) (status : Nat) (detail : Nat) (params : List Byte) : (State.completeRec s k r status detail params).fixed = s.fixed := by simp [State.completeRec]

@[simp ↓] theorem State.runCmd_fixed (s : State) (m : Nat) (c : Cmd) (checks : Req → Checks) (act : Req → Ans) (h : ∀ r, (act r).state.fixed = s.fixed) : (State.runCmd s m c checks act).fixed = s.fixed := by
  unfold State.runCmd
  split
  · rfl
  · dsimp only
    split
    · simp
    · generalize heq : act _ = a
      cases a
      have := h _ |>.symm.trans (congrArg (fun a => State.fixed (Ans.state a)) heq)
      simp only [Ans.done_state] at this
      split <;> simp [this]

@[simp ↓] theorem State.accept_fixed (s : State) (m : Nat) (k : Nat) (lost : Bool) (r : Req) (note : Nat) : (State.accept s m k lost r note).fixed = s.fixed := by simp [State.accept]

@[simp ↓] theorem State.runAsync_fixed (s : State) (x : Exec) (c : Cmd) (checks : Req → Checks) (start : Req → State → State × Nat) (act : Req → Nat → State → Ans) (h1 : ∀ r s, (start r s).1.fixed = s.fixed) (h2 : ∀ r n s, (act r n s).state.fixed = s.fixed) : (State.runAsync s x c checks start act).fixed = s.fixed := by
  unfold State.runAsync
  split
  · split
    · rfl
    · dsimp only
      split
      · simp
      · split
        · split
          · simp
          · simp [h1]
        · generalize heq : act _ _ _ = a
          cases a
          have := (h2 _ _ _).symm.trans (congrArg (fun a => State.fixed (Ans.state a)) heq)
          rw [h1] at this
          simp only [Ans.done_state] at this
          simp [this]
  · split
    · rfl
    · split
      · generalize heq : act _ _ _ = a
        cases a
        have := (h2 _ _ _).symm.trans (congrArg (fun a => State.fixed (Ans.state a)) heq)
        simp only [Ans.done_state] at this
        simp [this]
      · rfl

@[simp ↓] theorem State.updateErrn_fixed (s : State) : (State.updateErrn s).fixed = s.fixed := by simp [State.updateErrn]

@[simp ↓] theorem State.releaseHold_fixed (s : State) : (State.releaseHold s).fixed = s.fixed := by simp [State.releaseHold]

@[simp ↓] theorem State.setOverClear_fixed (s : State) (b : Fld) (c : Fld) (i : Nat) (h : 0x10 < b.reg.base) (g : 0x10 < c.reg.base) : (State.setOverClear s b c i).fixed = s.fixed := by
  unfold State.setOverClear
  rw [State.setCounted_fixed _ _ _ _ h g, State.setF_fixed _ _ _ _ h]

@[simp ↓] theorem State.recordNoqs_fixed (s : State) : (State.recordNoqs s).fixed = s.fixed := by simp [State.recordNoqs]

@[simp ↓] theorem State.holdDomain_fixed (s : State) (d : Nat) : (State.holdDomain s d).fixed = s.fixed := by
  unfold State.holdDomain
  simp

@[simp ↓] theorem State.startSwitch_fixed (s : State) (d : Nat) (dest : Nat) (auto : Bool) : (State.startSwitch s d dest auto).fixed = s.fixed := by
  unfold State.startSwitch
  simp

@[simp ↓] theorem State.finishSwitch_fixed (s : State) (d : Nat) (sw : Switch) : (State.finishSwitch s d sw).fixed = s.fixed := by simp [State.finishSwitch]

@[simp ↓] theorem State.sourceFailed_fixed (s : State) (d : Nat) : (State.sourceFailed s d).fixed = s.fixed := by
  unfold State.sourceFailed
  split <;> simp

@[simp ↓] theorem State.sourcesFailed_fixed (s : State) : (State.sourcesFailed s).fixed = s.fixed := by simp [State.sourcesFailed]

@[simp ↓] theorem State.autoRevert_fixed (s : State) (d : Nat) : (State.autoRevert s d).fixed = s.fixed := by simp [State.autoRevert]

@[simp ↓] theorem State.restartHeld_fixed (s : State) (d : Nat) : (State.restartHeld s d).fixed = s.fixed := by simp [State.restartHeld]

@[simp ↓] theorem State.sourceGained_fixed (s : State) : (State.sourceGained s).fixed = s.fixed := by simp [State.sourceGained]

@[simp ↓] theorem State.clockMode_fixed (s : State) (m : Nat) : (State.clockMode s m).fixed = s.fixed := by simp [State.clockMode]

@[simp ↓] theorem State.netTick_fixed (s : State) : (State.netTick s).fixed = s.fixed := by simp [State.netTick]

@[simp ↓] theorem State.tick_fixed (s : State) : (State.tick s).fixed = s.fixed := by simp [State.tick]

@[simp ↓] theorem State.ringWrite_fixed (s : State) (kind : Nat) (stepped : Bool) (stale : Bool) (words : List Nat) : (State.ringWrite s kind stepped stale words).fixed = s.fixed := by simp [State.ringWrite]

@[simp ↓] theorem State.ringPair_fixed (s : State) (kind : Nat) (stepped : Bool) : (State.ringPair s kind stepped).fixed = s.fixed := by simp [State.ringPair]

@[simp ↓] theorem State.evalLock_fixed (s : State) : (State.evalLock s).fixed = s.fixed := by simp [State.evalLock]

@[simp ↓] theorem State.putPin_fixed (s : State) (k : Nat) (p : Pin) : (State.putPin s k p).fixed = s.fixed := by simp [State.putPin]

@[simp ↓] theorem State.realignPins_fixed (s : State) (old : Nat) : (State.realignPins s old).fixed = s.fixed := by
  unfold State.realignPins
  apply State.each_fixed
  intro k s
  dsimp only
  (repeat' split) <;> simp

@[simp ↓] theorem State.passBooks_fixed (s : State) (old : Nat) : (State.passBooks s old).fixed = s.fixed := by simp [State.passBooks]

@[simp ↓] theorem State.stepTime_fixed (s : State) (d : Int) : (State.stepTime s d).fixed = s.fixed := by simp [State.stepTime]

@[simp ↓] theorem State.startSlew_fixed (s : State) (d : Int) : (State.startSlew s d).fixed = s.fixed := by
  unfold State.startSlew
  simp

@[simp ↓] theorem State.addCnt_fixed (s : State) (u : Nat) (k : Nat) (n : Nat) : (State.addCnt s u k n).fixed = s.fixed := by simp [State.addCnt]

@[simp ↓] theorem State.unitEvent_fixed (s : State) (u : Nat) (code : Nat) (n : Nat) : (State.unitEvent s u code n).fixed = s.fixed := by simp [State.unitEvent]

@[simp ↓] theorem State.clearCnt_fixed (s : State) (i : Nat) : (State.clearCnt s i).fixed = s.fixed := by simp [State.clearCnt]

@[simp ↓] theorem State.tally_fixed (s : State) (off : Nat) (n : Nat) : (State.tally s off n).fixed = s.fixed := by simp [State.tally]

@[simp ↓] theorem State.setCounter_fixed (s : State) (i : Nat) (r : Req) : (State.setCounter s i r).fixed = s.fixed := by simp [State.setCounter]

@[simp ↓] theorem State.tallySelectAct_fixed (s : State) (r : Req) : (State.tallySelectAct s r).state.fixed = s.fixed := by simp [State.tallySelectAct]

@[simp ↓] theorem State.addStore_fixed (s : State) (a : Nat) (n : Nat) : (State.addStore s a n).fixed = s.fixed := by simp [State.addStore]

@[simp ↓] theorem State.settleBooks_fixed (s : State) : (State.settleBooks s).fixed = s.fixed := by simp [State.settleBooks]

@[simp ↓] theorem State.freeBook_fixed (s : State) (b : Nat) : (State.freeBook s b).fixed = s.fixed := by
  unfold State.freeBook
  dsimp only
  rw [State.settleBooks_fixed, State.fixed_of (t := { (_ : State) with tly := _ }) (rfl) (rfl)]
  simp

@[simp ↓] theorem State.cancelBooks_fixed (s : State) : (State.cancelBooks s).fixed = s.fixed := by simp [State.cancelBooks]

@[simp ↓] theorem State.bookConfigAct_fixed (s : State) (r : Req) : (State.bookConfigAct s r).state.fixed = s.fixed := by simp [State.bookConfigAct]

@[simp ↓] theorem State.bookScheduleAct_fixed (s : State) (r : Req) : (State.bookScheduleAct s r).state.fixed = s.fixed := by
  rw [State.bookScheduleAct]
  dsimp only
  rw [Ans.ok_state, State.settleBooks_fixed, State.fixed_mk]
  simp

@[simp ↓] theorem State.bookCancelAct_fixed (s : State) (r : Req) : (State.bookCancelAct s r).state.fixed = s.fixed := by
  unfold State.bookCancelAct
  split <;> simp

@[simp ↓] theorem State.marginaliaConfigAct_fixed (s : State) (r : Req) : (State.marginaliaConfigAct s r).state.fixed = s.fixed := by simp [State.marginaliaConfigAct]

@[simp ↓] theorem State.marginaliaPortAct_fixed (s : State) (r : Req) : (State.marginaliaPortAct s r).state.fixed = s.fixed := by
  rw [State.marginaliaPortAct]
  dsimp only
  rw [Ans.ok_state, State.ite_fixed, State.fixed_mk]
  simp

@[simp ↓] theorem State.marginaliaRulesAct_fixed (s : State) (r : Req) : (State.marginaliaRulesAct s r).state.fixed = s.fixed := by simp [State.marginaliaRulesAct]

@[simp ↓] theorem State.poolStat_fixed (s : State) (p : Nat) (k : Nat) (n : Nat) : (State.poolStat s p k n).fixed = s.fixed := by simp [State.poolStat]

@[simp ↓] theorem State.vaultStat_fixed (s : State) (k : Nat) (n : Nat) : (State.vaultStat s k n).fixed = s.fixed := by simp [State.vaultStat]

@[simp ↓] theorem State.refreshDie_fixed (s : State) (d : Nat) : (State.refreshDie s d).fixed = s.fixed := by simp [State.refreshDie]

theorem State.admitFolio_fixed (s : State) (d : Nat) (p : Nat) : ∀ x, State.admitFolio s d p = some x → x.fixed = s.fixed := by
  unfold State.admitFolio
  (repeat' split) <;> simp

@[simp ↓] theorem State.creditPool_fixed (s : State) (d : Nat) (p : Nat) : (State.creditPool s d p).fixed = s.fixed := by simp [State.creditPool]

@[simp ↓] theorem State.evalXoff_fixed (s : State) (d : Nat) (p : Nat) : (State.evalXoff s d p).fixed = s.fixed := by simp [State.evalXoff]

@[simp ↓] theorem State.settleDie_fixed (s : State) (d : Nat) : (State.settleDie s d).fixed = s.fixed := by simp [State.settleDie]

@[simp ↓] theorem State.putLink_fixed (s : State) (f : Nat) (l : Link) : (State.putLink s f l).fixed = s.fixed := by simp [State.putLink]

@[simp ↓] theorem State.putFolio_fixed (s : State) (f : Nat) (bs : List Byte) : (State.putFolio s f bs).fixed = s.fixed := by simp [State.putFolio]

@[simp ↓] theorem State.bankEvent_fixed (s : State) (f : Nat) (code : Nat) : (State.bankEvent s f code).fixed = s.fixed := by simp [State.bankEvent]

theorem State.storeFolio_fixed (s : State) (d : Nat) (p : Nat) (unit : Nat) (count : Nat) (bs : List Byte) : ∀ x, State.storeFolio s d p unit count bs = some x → x.1.fixed = s.fixed := by
  intro x hx
  unfold State.storeFolio at hx
  split at hx
  · cases hx
  · rename_i t ht
    have h1 := State.admitFolio_fixed s d p _ ht
    split at hx
    · cases hx
    · cases hx
      simp [h1]

@[simp ↓] theorem State.storeFolios_fixed (s : State) (d : Nat) (p : Nat) (unit : Nat) (count : Nat) (a5 : List (List Byte)) : (State.storeFolios s d p unit count a5).1.fixed = s.fixed := by
  induction a5 generalizing s with
  | nil => rfl
  | cons c cs ih =>
    unfold State.storeFolios
    split
    · rfl
    · rename_i t f heq
      simpa [ih] using State.storeFolio_fixed s d p unit count c _ heq

@[simp ↓] theorem State.chain_fixed (s : State) (a1 : List Nat) : (State.chain s a1).fixed = s.fixed := by
  fun_induction State.chain s a1 with
  | case1 => rfl
  | case2 => rfl
  | case3 s f g t ih => simpa using ih

@[simp ↓] theorem State.freeFolio_fixed (s : State) (who : Nat) (f : Nat) (pool : Nat) (unit : Nat) : (State.freeFolio s who f pool unit).fixed = s.fixed := by simp [State.freeFolio]

@[simp ↓] theorem State.putDesc_fixed (s : State) (k : Nat) (d : Option Desc) : (State.putDesc s k d).fixed = s.fixed := by simp [State.putDesc]

@[simp ↓] theorem State.takeDesc_fixed (s : State) (k : Nat) (v : Desc) : (State.takeDesc s k v).fixed = s.fixed := by simp [State.takeDesc]

@[simp ↓] theorem State.freeDesc_fixed (s : State) (k : Nat) : (State.freeDesc s k).fixed = s.fixed := by
  unfold State.freeDesc
  split <;> simp

@[simp ↓] theorem State.releaseDesc_fixed (s : State) (who : Nat) (k : Nat) : (State.releaseDesc s who k).fixed = s.fixed := by
  unfold State.releaseDesc
  split <;> simp

@[simp ↓] theorem State.clearVault_fixed (s : State) : (State.clearVault s).fixed = s.fixed := by simp [State.clearVault]

@[simp ↓] theorem State.poolDrop_fixed (s : State) (d : Nat) (p : Nat) (desc : Bool) : (State.poolDrop s d p desc).fixed = s.fixed := by simp [State.poolDrop]

@[simp ↓] theorem State.storeFrame_fixed (s : State) (d : Nat) (p : Nat) (unit : Nat) (count : Nat) (bs : List Byte) : (State.storeFrame s d p unit count bs).1.fixed = s.fixed := by
  simp only [State.storeFrame]
  (repeat' split) <;> simp

@[simp ↓] theorem State.vaultConfigAct_fixed (s : State) (r : Req) : (State.vaultConfigAct s r).state.fixed = s.fixed := by simp [State.vaultConfigAct]

@[simp ↓] theorem State.setPool_fixed (s : State) (p : Nat) (r : Req) : (State.setPool s p r).fixed = s.fixed := by simp [State.setPool]

@[simp ↓] theorem State.poolConfigAct_fixed (s : State) (r : Req) : (State.poolConfigAct s r).state.fixed = s.fixed := by simp [State.poolConfigAct]

@[simp ↓] theorem State.poolMapSetAct_fixed (s : State) (r : Req) : (State.poolMapSetAct s r).state.fixed = s.fixed := by simp [State.poolMapSetAct]

@[simp ↓] theorem State.poolReadAct_fixed (s : State) (r : Req) : (State.poolReadAct s r).state.fixed = s.fixed := by simp [State.poolReadAct]

@[simp ↓] theorem State.putLane_fixed (s : State) (n : Nat) (l : Lane) : (State.putLane s n l).fixed = s.fixed := by simp [State.putLane]

@[simp ↓] theorem State.refreshTx_fixed (s : State) (n : Nat) : (State.refreshTx s n).fixed = s.fixed := by simp [State.refreshTx]

@[simp ↓] theorem State.putMac_fixed (s : State) (p : Nat) (m : Mac) : (State.putMac s p m).fixed = s.fixed := by simp [State.putMac]

@[simp ↓] theorem State.macStat_fixed (s : State) (p : Nat) (k : Nat) (n : Nat) : (State.macStat s p k n).fixed = s.fixed := by
  unfold State.macStat
  split <;> simp

@[simp ↓] theorem State.putCopy_fixed (s : State) (n : Nat) (c : Option Copy) : (State.putCopy s n c).fixed = s.fixed := by simp [State.putCopy]

@[simp ↓] theorem State.dropCopy_fixed (s : State) (n : Nat) : (State.dropCopy s n).fixed = s.fixed := by
  unfold State.dropCopy
  (repeat' split) <;> simp

@[simp ↓] theorem State.markBad_fixed (s : State) (id : Nat) : (State.markBad s id).fixed = s.fixed := by simp [State.markBad]

@[simp ↓] theorem State.endPause_fixed (s : State) (p : Nat) (q : Nat) : (State.endPause s p q).fixed = s.fixed := by
  simp only [State.endPause]
  (repeat' split) <;> simp

@[simp ↓] theorem State.endSending_fixed (s : State) (p : Nat) : (State.endSending s p).fixed = s.fixed := by
  simp only [State.endSending]
  (repeat' split) <;> simp

@[simp ↓] theorem State.setLive_fixed (s : State) (p : Nat) (on : Bool) : (State.setLive s p on).fixed = s.fixed := by simp [State.setLive]

@[simp ↓] theorem State.portDown_fixed (s : State) (p : Nat) : (State.portDown s p).fixed = s.fixed := by simp [State.portDown]

@[simp ↓] theorem State.checkPort_fixed (s : State) (p : Nat) : (State.checkPort s p).fixed = s.fixed := by simp [State.checkPort]

@[simp ↓] theorem State.checkLanePort_fixed (s : State) (n : Nat) : (State.checkLanePort s n).fixed = s.fixed := by
  unfold State.checkLanePort
  split <;> simp

@[simp ↓] theorem State.startVerify_fixed (s : State) (p : Nat) : (State.startVerify s p).fixed = s.fixed := by simp [State.startVerify]

@[simp ↓] theorem State.allPortsDown_fixed (s : State) : (State.allPortsDown s).fixed = s.fixed := by simp [State.allPortsDown]

@[simp ↓] theorem State.checkPorts_fixed (s : State) : (State.checkPorts s).fixed = s.fixed := by simp [State.checkPorts]

@[simp ↓] theorem State.loseAlignment_fixed (s : State) (p : Nat) : (State.loseAlignment s p).fixed = s.fixed := by simp [State.loseAlignment]

@[simp ↓] theorem State.stopLane_fixed (s : State) (n : Nat) : (State.stopLane s n).fixed = s.fixed := by
  simp only [State.stopLane]
  (repeat' split) <;> simp

@[simp ↓] theorem State.stopQd_fixed (s : State) (k : Nat) : (State.stopQd s k).fixed = s.fixed := by
  unfold State.stopQd
  rw [State.note_fixed, State.each_fixed, State.each_fixed]
  · intro d s
    split <;> simp
  · intro n s
    dsimp only
    split <;> simp

@[simp ↓] theorem State.putSlot_fixed (s : State) (r : Nat) (n : Nat) (v : Nat) : (State.putSlot s r n v).fixed = s.fixed := by simp [State.putSlot]

@[simp ↓] theorem State.ledgerStat_fixed (s : State) (g : Nat) (k : Nat) : (State.ledgerStat s g k).fixed = s.fixed := by simp [State.ledgerStat]

@[simp ↓] theorem State.ldgStat_fixed (s : State) (k : Nat) : (State.ldgStat s k).fixed = s.fixed := by simp [State.ldgStat]

@[simp ↓] theorem State.putClerk_fixed (s : State) (w : Nat) (c : Clerk) : (State.putClerk s w c).fixed = s.fixed := by simp [State.putClerk]

@[simp ↓] theorem State.badSlot_fixed (s : State) (r : Nat) (n : Nat) : (State.badSlot s r n).fixed = s.fixed := by simp [State.badSlot]

@[simp ↓] theorem State.readBucket_fixed (s : State) (r : Nat) (b : Nat) : (State.readBucket s r b).fixed = s.fixed := by simp [State.readBucket]

@[simp ↓] theorem State.setHit_fixed (s : State) (r : Nat) (n : Nat) : (State.setHit s r n).fixed = s.fixed := by simp [State.setHit]

@[simp ↓] theorem State.lookup_fixed (s : State) (r : Nat) (g : Nat) (key : List Byte) : (State.lookup s r g key).1.fixed = s.fixed := by
  simp only [State.lookup]
  (repeat' split) <;> simp

@[simp ↓] theorem State.resolveGroup_fixed (s : State) (r : Nat) (n : Nat) (key : List Byte) : (State.resolveGroup s r n key).1.fixed = s.fixed := by
  simp only [State.resolveGroup]
  (repeat' split) <;> simp

@[simp ↓] theorem State.putRule_fixed (s : State) (d : Nat) (n : Nat) (v : Nat) : (State.putRule s d n v).fixed = s.fixed := by simp [State.putRule]

@[simp ↓] theorem State.settlePosting_fixed (s : State) : (State.settlePosting s).fixed = s.fixed := by simp [State.settlePosting]

@[simp ↓] theorem State.enterFlight_fixed (s : State) (d : Nat) (p : Nat) : (State.enterFlight s d p).fixed = s.fixed := by simp [State.enterFlight]

@[simp ↓] theorem State.leaveFlight_fixed (s : State) (d : Nat) (p : Nat) : (State.leaveFlight s d p).fixed = s.fixed := by simp [State.leaveFlight]

@[simp ↓] theorem State.hostqDrop_fixed (s : State) (q : Nat) : (State.hostqDrop s q).fixed = s.fixed := by simp [State.hostqDrop]

@[simp ↓] theorem State.hostqEnqueue_fixed (s : State) (q : Nat) (reason : Nat) (f : Frame) (record : List Byte) (cls : Nat) (stamp : Nat) : (State.hostqEnqueue s q reason f record cls stamp).fixed = s.fixed := by
  unfold State.hostqEnqueue
  dsimp only
  split
  · simp
  · split
    · simp
    · split <;> rename_i heq <;> have h := congrArg (fun x : State × _ => State.fixed x.1) heq <;> simp at h <;> simp [← h]

@[simp ↓] theorem State.setPuntTokens_fixed (s : State) (r : Nat) (v : Nat) : (State.setPuntTokens s r v).fixed = s.fixed := by simp [State.setPuntTokens]

@[simp ↓] theorem State.fillPunt_fixed (s : State) (r : Nat) : (State.fillPunt s r).fixed = s.fixed := by simp [State.fillPunt]

@[simp ↓] theorem State.punt_fixed (s : State) (reason : Nat) (f : Frame) (record : List Byte) (cls : Nat) (stamp : Nat) : (State.punt s reason f record cls stamp).fixed = s.fixed := by simp [State.punt]

@[simp ↓] theorem State.puntConfigAct_fixed (s : State) (r : Req) : (State.puntConfigAct s r).state.fixed = s.fixed := by simp [State.puntConfigAct]

@[simp ↓] theorem State.prsStat_fixed (s : State) (i : Nat) (k : Nat) : (State.prsStat s i k).fixed = s.fixed := by simp [State.prsStat]

@[simp ↓] theorem State.traceRecord_fixed (s : State) (i : Nat) (port : Nat) (rcd : List Byte) : (State.traceRecord s i port rcd).fixed = s.fixed := by simp [State.traceRecord]

@[simp ↓] theorem State.sendRecord_fixed (s : State) (i : Nat) (express : Bool) (f : Frame) (rcd : List Byte) : (State.sendRecord s i express f rcd).fixed = s.fixed := by simp [State.sendRecord]

@[simp ↓] theorem State.settleBacklog_fixed (s : State) (i : Nat) : (State.settleBacklog s i).fixed = s.fixed := by simp [State.settleBacklog]

@[simp ↓] theorem State.swapBank_fixed (s : State) (i : Nat) : (State.swapBank s i).fixed = s.fixed := by simp [State.swapBank]

@[simp ↓] theorem State.writeBank_fixed (s : State) (i : Nat) (b : Nat) (img : List Byte) : (State.writeBank s i b img).fixed = s.fixed := by
  unfold State.writeBank
  simp

@[simp ↓] theorem State.enterParser_fixed (s : State) : (State.enterParser s).fixed = s.fixed := by simp [State.enterParser]

@[simp ↓] theorem parserTableLoadStart_fixed (a0 : Req) (s : State) : (parserTableLoadStart a0 s).1.fixed = s.fixed := by simp [parserTableLoadStart]

@[simp ↓] theorem parserTableLoadAct_fixed (r : Req) (a1 : Nat) (s : State) : (parserTableLoadAct r a1 s).state.fixed = s.fixed := by
  unfold parserTableLoadAct
  split <;> simp

@[simp ↓] theorem State.parserConfigAct_fixed (s : State) (r : Req) : (State.parserConfigAct s r).state.fixed = s.fixed := by simp [State.parserConfigAct]

@[simp ↓] theorem State.parserPortAct_fixed (s : State) (r : Req) : (State.parserPortAct s r).state.fixed = s.fixed := by simp [State.parserPortAct]

@[simp ↓] theorem State.flatProfileSetAct_fixed (s : State) (r : Req) : (State.flatProfileSetAct s r).state.fixed = s.fixed := by simp [State.flatProfileSetAct]

@[simp ↓] theorem State.expressFilterSetAct_fixed (s : State) (r : Req) : (State.expressFilterSetAct s r).state.fixed = s.fixed := by simp [State.expressFilterSetAct]

@[simp ↓] theorem State.putMeter_fixed (s : State) (m : Nat) (x : Meter) : (State.putMeter s m x).fixed = s.fixed := by simp [State.putMeter]

@[simp ↓] theorem State.clsStat_fixed (s : State) (d : Nat) (k : Nat) (n : Nat) : (State.clsStat s d k n).fixed = s.fixed := by simp [State.clsStat]

@[simp ↓] theorem State.meterFrame_fixed (s : State) (d : Nat) (m : Nat) (L : Nat) (colour : Nat) (perr : Bool) : (State.meterFrame s d m L colour perr).1.fixed = s.fixed := by simp [State.meterFrame]

@[simp ↓] theorem State.runLookup_fixed (s : State) (p : Nat) (k : Nat) (f : Frame) (pipe : Nat) (rcd : List Byte) (cls : Nat) (a : Looked) : (State.runLookup s p k f pipe rcd cls a).1.fixed = s.fixed := by simp [State.runLookup]

@[simp ↓] theorem State.runLookups_fixed (s : State) (p : Nat) (f : Frame) (pipe : Nat) (rcd : List Byte) (cls : Nat) : (State.runLookups s p f pipe rcd cls).1.fixed = s.fixed := by
  unfold State.runLookups
  exact foldl_keeps (fun x : State × _ => State.fixed x.1) _ _ _ (fun (x : State × _) a => by simp)

@[simp ↓] theorem State.resolveDest_fixed (s : State) (pipe : Nat) (p : Nat) (result : Nat) (rcd : List Byte) : (State.resolveDest s pipe p result rcd).1.fixed = s.fixed := by simp [State.resolveDest]

@[simp ↓] theorem State.destination_fixed (s : State) (pipe : Nat) (p : Nat) (a : Looked) (rcd : List Byte) : (State.destination s pipe p a rcd).1.fixed = s.fixed := by
  unfold State.destination
  split <;> simp

@[simp ↓] theorem State.samplePort_fixed (s : State) (p : Nat) : (State.samplePort s p).1.fixed = s.fixed := by simp [State.samplePort]

@[simp ↓] theorem State.ruleStats_fixed (s : State) (d : Nat) (L : Nat) (order : List Match) : (State.ruleStats s d L order).fixed = s.fixed := by simp [State.ruleStats]

@[simp ↓] theorem State.puntClassified_fixed (s : State) (reason : Nat) (f : Frame) (rcd : List Byte) (cls : Nat) : (State.puntClassified s reason f rcd cls).fixed = s.fixed := by simp [State.puntClassified]

@[simp ↓] theorem State.lookupFrame_fixed (s : State) (i : Nat) (posting : Nat) (f : Frame) (rcd : List Byte) (cls : Nat) (colour : Nat) (queue : Nat) (marked : Bool) : (State.lookupFrame s i posting f rcd cls colour queue marked).fixed = s.fixed := by
  unfold State.lookupFrame
  dsimp only
  split <;> rename_i heq <;> have h := congrArg (fun x : State × _ => State.fixed x.1) heq <;> simp at h <;> simp [← h]

@[simp ↓] theorem State.meterMatched_fixed (s : State) (i : Nat) (L : Nat) (colour : Nat) (meterErr : Bool) (m : Option Nat) : (State.meterMatched s i L colour meterErr m).1.fixed = s.fixed := by
  unfold State.meterMatched
  split <;> simp

@[simp ↓] theorem State.dispose_fixed (s : State) (i : Nat) (p : Nat) (x : Parsed) (order : List Match) (cls : Nat) (queue : Nat) (sel : Bool) (met : Nat × Bool) : (State.dispose s i p x order cls queue sel met).fixed = s.fixed := by
  unfold State.dispose
  (repeat' split) <;> simp

@[simp ↓] theorem State.classifyMatched_fixed (s : State) (i : Nat) (p : Nat) (x : Parsed) (order : List Match) (cls0 : Nat) (sel : Bool) (meterErr : Bool) : (State.classifyMatched s i p x order cls0 sel meterErr).fixed = s.fixed := by simp [State.classifyMatched]

@[simp ↓] theorem State.classifyMissed_fixed (s : State) (i : Nat) (x : Parsed) (cls0 : Nat) : (State.classifyMissed s i x cls0).fixed = s.fixed := by simp [State.classifyMissed]

@[simp ↓] theorem State.badRules_fixed (s : State) (d : Nat) (bad : List Nat) : (State.badRules s d bad).fixed = s.fixed := by simp [State.badRules]

@[simp ↓] theorem State.classify_fixed (s : State) (i : Nat) (x : Parsed) (bad : List Nat) (meterErr : Bool) : (State.classify s i x bad meterErr).fixed = s.fixed := by simp [State.classify]

@[simp ↓] theorem State.putGate_fixed (s : State) (p : Nat) (g : Gate) : (State.putGate s p g).fixed = s.fixed := by simp [State.putGate]

@[simp ↓] theorem State.timStat_fixed (s : State) (p : Nat) (k : Nat) : (State.timStat s p k).fixed = s.fixed := by simp [State.timStat]

@[simp ↓] theorem State.cutFrame_fixed (s : State) (p : Nat) (byGate : Bool) : (State.cutFrame s p byGate).fixed = s.fixed := by
  simp only [State.cutFrame]
  (repeat' split) <;> simp

@[simp ↓] theorem State.enterGateEntry_fixed (s : State) (p : Nat) : (State.enterGateEntry s p).fixed = s.fixed := by
  simp only [State.enterGateEntry]
  (repeat' split) <;> simp

@[simp ↓] theorem State.armChange_fixed (s : State) (p : Nat) : (State.armChange s p).fixed = s.fixed := by simp [State.armChange]

@[simp ↓] theorem State.qscStat_fixed (s : State) (k : Nat) : (State.qscStat s k).fixed = s.fixed := by simp [State.qscStat]

@[simp ↓] theorem State.setVclock_fixed (s : State) (p : Nat) (t : Nat) (v : Nat) : (State.setVclock s p t v).fixed = s.fixed := by simp [State.setVclock]

@[simp ↓] theorem State.setTags_fixed (s : State) (q : Nat) (a : Nat) (b : Nat) : (State.setTags s q a b).fixed = s.fixed := by simp [State.setTags]

@[simp ↓] theorem State.setLastFinish_fixed (s : State) (q : Nat) (v : Nat) : (State.setLastFinish s q v).fixed = s.fixed := by simp [State.setLastFinish]

@[simp ↓] theorem State.tagFrom_fixed (s : State) (q : Nat) (start : Nat) (L : Nat) : (State.tagFrom s q start L).fixed = s.fixed := by simp [State.tagFrom]

@[simp ↓] theorem State.setQueueTokens_fixed (s : State) (q : Nat) (t : Int) : (State.setQueueTokens s q t).fixed = s.fixed := by simp [State.setQueueTokens]

@[simp ↓] theorem State.setPortTokens_fixed (s : State) (p : Nat) (t : Int) : (State.setPortTokens s p t).fixed = s.fixed := by simp [State.setPortTokens]

@[simp ↓] theorem State.setExpTokens_fixed (s : State) (p : Nat) (t : Int) : (State.setExpTokens s p t).fixed = s.fixed := by simp [State.setExpTokens]

@[simp ↓] theorem State.resetQueueTokens_fixed (s : State) (q : Nat) : (State.resetQueueTokens s q).fixed = s.fixed := by simp [State.resetQueueTokens]

@[simp ↓] theorem State.resetPortTokens_fixed (s : State) (p : Nat) : (State.resetPortTokens s p).fixed = s.fixed := by simp [State.resetPortTokens]

@[simp ↓] theorem State.resetExpTokens_fixed (s : State) (p : Nat) : (State.resetExpTokens s p).fixed = s.fixed := by simp [State.resetExpTokens]

@[simp ↓] theorem State.setPurse_fixed (s : State) (i : Nat) (v : Int) : (State.setPurse s i v).fixed = s.fixed := by simp [State.setPurse]

@[simp ↓] theorem State.debit_fixed (s : State) (i : Nat) (n : Nat) : (State.debit s i n).fixed = s.fixed := by simp [State.debit]

@[simp ↓] theorem State.refillPurse_fixed (s : State) (i : Nat) (allowance : Nat) : (State.refillPurse s i allowance).fixed = s.fixed := by simp [State.refillPurse]

@[simp ↓] theorem State.popQueue_fixed (s : State) (q : Nat) : (State.popQueue s q).fixed = s.fixed := by
  unfold State.popQueue
  split <;> simp

@[simp ↓] theorem State.discardHead_fixed (s : State) (q : Nat) (count : Bool) : (State.discardHead s q count).fixed = s.fixed := by
  unfold State.discardHead
  split <;> simp

@[simp ↓] theorem State.setLate_fixed (s : State) (q : Nat) (b : Bool) : (State.setLate s q b).fixed = s.fixed := by simp [State.setLate]

@[simp ↓] theorem State.arrive_fixed (s : State) (q : Nat) (wasEmpty : Bool) (a3 : Nat) : (State.arrive s q wasEmpty a3).fixed = s.fixed := by
  induction a3 generalizing s with
  | zero => rfl
  | succ n ih =>
    unfold State.arrive
    split
    · simp
    · dsimp only
      split
      · rw [ih]
        simp
      · split <;> simp

@[simp ↓] theorem State.newHead_fixed (s : State) (q : Nat) (wasEmpty : Bool) : (State.newHead s q wasEmpty).fixed = s.fixed := by simp [State.newHead]

@[simp ↓] theorem State.queueDrop_fixed (s : State) (q : Nat) (colour : Nat) : (State.queueDrop s q colour).fixed = s.fixed := by simp [State.queueDrop]

@[simp ↓] theorem State.joinQueue_fixed (s : State) (q : Nat) (k : Nat) (folios : Nat) : (State.joinQueue s q k folios).fixed = s.fixed := by
  simp only [State.joinQueue]
  (repeat' split) <;> simp

@[simp ↓] theorem State.storeCopies_fixed (s : State) (home : Nat) (v : Desc) (bs : List Byte) (ts : List Target) : (State.storeCopies s home v bs ts).1.fixed = s.fixed := by
  unfold State.storeCopies
  dsimp only
  split
  · simp
  · split
    · simp
    · split
      · simp
      · split <;> rename_i heq <;> have h := congrArg (fun x : State × _ => State.fixed x.1) heq <;> simp at h <;> simp [← h]

@[simp ↓] theorem State.enterQueues_fixed (s : State) : (State.enterQueues s).fixed = s.fixed := by
  unfold State.enterQueues
  dsimp only
  rw [State.fixed_mk, State.resetRegs_fixed _ _ (by decide) (by decide)]

@[simp ↓] theorem State.cthFinish_fixed (s : State) (entry : List Byte) (member : Nat) (fr : List Byte) : (State.cthFinish s entry member fr).1.fixed = s.fixed := by simp [State.cthFinish]

@[simp ↓] theorem State.mrgStat_fixed (s : State) (k : Nat) (n : Nat) : (State.mrgStat s k n).fixed = s.fixed := by simp [State.mrgStat]

@[simp ↓] theorem State.addTrailer_fixed (s : State) (i : MrgInfo) (stored : Nat) (body : List Byte) : (State.addTrailer s i stored body).1.fixed = s.fixed := by simp [State.addTrailer]

@[simp ↓] theorem State.ioam_fixed (s : State) (i : MrgInfo) (rcd : List Byte) (rx : Nat) (body : List Byte) : (State.ioam s i rcd rx body).1.fixed = s.fixed := by simp [State.ioam]

theorem State.afterIoam_fixed (form : Nat) (i : MrgInfo) (body : List Byte) (o : State × List Byte × Bool) :
    (State.afterIoam form i body o).1.fixed = o.1.fixed := by
  unfold State.afterIoam
  (repeat' split) <;> simp

@[simp ↓] theorem State.marginalia_fixed (s : State) (p : Nat) (v : Desc) (i : MrgInfo) (rx : Nat) (body : List Byte) :
    (State.marginalia s p v i rx body).1.fixed = s.fixed := by
  rw [State.marginalia]
  (repeat' split) <;> simp [State.afterIoam_fixed]

@[simp ↓] theorem State.finish_fixed (s : State) (p : Nat) (k : Nat) (desc : Option Nat) (v : Desc) (bs : List Byte) (cut : Bool) (mark : Bool) (depth : Nat) (charged : Int) : (State.finish s p k desc v bs cut mark depth charged).1.fixed = s.fixed := by simp [State.finish]

@[simp ↓] theorem State.ptpCorrect_fixed (s : State) (p : Nat) (tx : Nat) (c : Copy) : (State.ptpCorrect s p tx c).1.fixed = s.fixed := by
  unfold State.ptpCorrect
  (repeat' split) <;> simp

@[simp ↓] theorem State.oneStep_fixed (s : State) (p : Nat) (tx : Nat) (chan : Nat) (bs : List Byte) : (State.oneStep s p tx chan bs).1.fixed = s.fixed := by
  unfold State.oneStep
  split <;> simp

@[simp ↓] theorem State.twoStep_fixed (s : State) (p : Nat) (tx : Nat) (tag : Nat) (chan : Nat) : (State.twoStep s p tx tag chan).fixed = s.fixed := by simp [State.twoStep]

@[simp ↓] theorem State.putStch_fixed (s : State) (n : Nat) (x : Stitch) : (State.putStch s n x).fixed = s.fixed := by simp [State.putStch]

@[simp ↓] theorem State.retrain_fixed (s : State) (n : Nat) : (State.retrain s n).fixed = s.fixed := by simp [State.retrain]

@[simp ↓] theorem State.replayFailed_fixed (s : State) (n : Nat) : (State.replayFailed s n).fixed = s.fixed := by simp [State.replayFailed]

@[simp ↓] theorem State.receiveBytes_fixed (s : State) (n : Nat) (data : List Byte) (resume : Option Nat) : (State.receiveBytes s n data resume).fixed = s.fixed := by simp [State.receiveBytes]

@[simp ↓] theorem State.startNak_fixed (s : State) (n : Nat) : (State.startNak s n).fixed = s.fixed := by simp [State.startNak]

@[simp ↓] theorem State.takeAck_fixed (s : State) (n : Nat) (ack : Nat) : (State.takeAck s n ack).fixed = s.fixed := by simp [State.takeAck]

@[simp ↓] theorem State.takeNak_fixed (s : State) (n : Nat) (seq : Nat) (count : Nat) (resume : Nat) : (State.takeNak s n seq count resume).fixed = s.fixed := by simp [State.takeNak]

@[simp ↓] theorem State.retrainWrite_fixed (s : State) (n : Nat) : (State.retrainWrite s n).fixed = s.fixed := by simp [State.retrainWrite]

@[simp ↓] theorem State.stitchConfigAct_fixed (s : State) (r : Req) : (State.stitchConfigAct s r).state.fixed = s.fixed := by simp [State.stitchConfigAct]

@[simp ↓] theorem State.stitchSend_fixed (s : State) (n : Nat) (cls : Nat) (express : Bool) (stamp : Option Nat) (abort : Bool) (bs : List Byte) : (State.stitchSend s n cls express stamp abort bs).fixed = s.fixed := by simp [State.stitchSend]

@[simp ↓] theorem State.admitFrame_fixed (s : State) (i : Nat) (f : Frame) : (State.admitFrame s i f).fixed = s.fixed := by simp [State.admitFrame]

@[simp ↓] theorem State.receive_fixed (s : State) (p : Nat) (sfd : Bool) (code : Bool) (frags : Nat) (broken : Bool) (stitchBad : Bool) (deskew : Nat) (bytes : List Byte) (cls : Option Nat) (lead : Option Nat) : (State.receive s p sfd code frags broken stitchBad deskew bytes cls lead).fixed = s.fixed := by
  simp only [State.receive]
  (repeat' split) <;> simp

@[simp ↓] theorem State.setElig_fixed (s : State) (q : Nat) (b : Bool) : (State.setElig s q b).fixed = s.fixed := by simp [State.setElig]

@[simp ↓] theorem State.refreshElig_fixed (s : State) (p : Nat) : (State.refreshElig s p).fixed = s.fixed := by
  unfold State.refreshElig
  apply State.each_fixed
  intro k s
  dsimp only
  (repeat' split) <;> simp

@[simp ↓] theorem State.countHolds_fixed (s : State) (p : Nat) : (State.countHolds s p).fixed = s.fixed := by
  unfold State.countHolds
  apply State.each_fixed
  intro k s
  dsimp only
  (repeat' split) <;> simp

@[simp ↓] theorem State.charge_fixed (s : State) (p : Nat) (k : Nat) (L : Nat) (folios : Nat) (shared : Bool) : (State.charge s p k L folios shared).fixed = s.fixed := by simp [State.charge]

@[simp ↓] theorem State.observe_fixed (s : State) (q : Nat) (delay : Nat) : (State.observe s q delay).fixed = s.fixed := by simp [State.observe]

@[simp ↓] theorem State.launchSent_fixed (s : State) (p : Nat) (l : Nat) (lateAtHead : Bool) : (State.launchSent s p l lateAtHead).fixed = s.fixed := by simp [State.launchSent]

@[simp ↓] theorem State.sendHead_fixed (s : State) (p : Nat) (k : Nat) (v : Desc) : (State.sendHead s p k v).fixed = s.fixed := by
  unfold State.sendHead
  (repeat' split) <;> simp

@[simp ↓] theorem State.discardFor_fixed (s : State) (p : Nat) (q : Nat) (v : Desc) (why : Nat) : (State.discardFor s p q v why).fixed = s.fixed := by simp [State.discardFor]

@[simp ↓] theorem State.sendOrDiscard_fixed (s : State) (p : Nat) (a2 : Option (Nat × Desc)) : (State.sendOrDiscard s p a2).1.fixed = s.fixed := by
  unfold State.sendOrDiscard
  split <;> simp

@[simp ↓] theorem State.selectStep_fixed (s : State) (p : Nat) (only : Nat → Bool) : (State.selectStep s p only).1.fixed = s.fixed := by simp [State.selectStep]

@[simp ↓] theorem State.selectFrom_fixed (s : State) (p : Nat) (only : Nat → Bool) (n : Nat) : (State.selectFrom s p only n).fixed = s.fixed := by
  unfold State.selectFrom
  refine foldl_keeps (fun x : State × _ => State.fixed x.1) _ _ _ (fun (x : State × _) a => ?_)
  split <;> simp

@[simp ↓] theorem State.stateParity_fixed (s : State) (p : Nat) (k : Nat) : (State.stateParity s p k).fixed = s.fixed := by
  simp only [State.stateParity]
  (repeat' split) <;> simp

@[simp ↓] theorem State.cutThrough_fixed (s : State) (p : Nat) (k : Nat) (v : Desc) (bs : List Byte) : (State.cutThrough s p k v bs).fixed = s.fixed := by simp [State.cutThrough]

@[simp ↓] theorem State.enqueueRouted_fixed (s : State) (i : Nat) (r : Routed) : (State.enqueueRouted s i r).fixed = s.fixed := by
  simp only [State.enqueueRouted]
  (repeat' split) <;> simp

@[simp ↓] theorem State.expressEgress_fixed (s : State) (i : Nat) (rcd : List Byte) : (State.expressEgress s i rcd).1.fixed = s.fixed := by
  simp only [State.expressEgress]
  (repeat' split) <;> simp

@[simp ↓] theorem State.putSample_fixed (s : State) (d : Nat) (q : Nat) : (State.putSample s d q).fixed = s.fixed := by simp [State.putSample]

@[simp ↓] theorem State.setExpressQ_fixed (s : State) (p : Nat) (v : Nat) : (State.setExpressQ s p v).fixed = s.fixed := by
  unfold State.setExpressQ
  rw [State.each_fixed]
  · simp
  · intro b s
    dsimp only
    split
    · rfl
    · split
      · simp
      · split <;> simp

@[simp ↓] theorem State.setTier_fixed (s : State) (q : Nat) (t : Nat) : (State.setTier s q t).fixed = s.fixed := by simp [State.setTier]

@[simp ↓] theorem State.queueConfigAct_fixed (s : State) (r : Req) : (State.queueConfigAct s r).state.fixed = s.fixed := by simp [State.queueConfigAct]

@[simp ↓] theorem State.portSchedConfigAct_fixed (s : State) (r : Req) : (State.portSchedConfigAct s r).state.fixed = s.fixed := by simp [State.portSchedConfigAct]

@[simp ↓] theorem State.energyConfigAct_fixed (s : State) (r : Req) : (State.energyConfigAct s r).state.fixed = s.fixed := by simp [State.energyConfigAct]

@[simp ↓] theorem State.queueReadAct_fixed (s : State) (r : Req) : (State.queueReadAct s r).state.fixed = s.fixed := by simp [State.queueReadAct]

@[simp ↓] theorem State.sampleConfigAct_fixed (s : State) (r : Req) : (State.sampleConfigAct s r).state.fixed = s.fixed := by simp [State.sampleConfigAct]

@[simp ↓] theorem State.cthStat_fixed (s : State) (k : Nat) : (State.cthStat s k).fixed = s.fixed := by simp [State.cthStat]

@[simp ↓] theorem State.synStat_fixed (s : State) (y : Nat) (k : Nat) (n : Nat) : (State.synStat s y k n).fixed = s.fixed := by simp [State.synStat]

@[simp ↓] theorem State.putSyn_fixed (s : State) (y : Nat) (x : Syndicate) : (State.putSyn s y x).fixed = s.fixed := by simp [State.putSyn]

@[simp ↓] theorem State.setIntake_fixed (s : State) (q : Nat) (l : List Parsed) : (State.setIntake s q l).fixed = s.fixed := by simp [State.setIntake]

@[simp ↓] theorem State.putChunk_fixed (s : State) (y : Nat) (b : Nat) (c : Option Chunk) : (State.putChunk s y b c).fixed = s.fixed := by simp [State.putChunk]

@[simp ↓] theorem State.cthSend_fixed (s : State) (home : Nat) (p : Nat) (k : Nat) (fr : List Byte) : (State.cthSend s home p k fr).fixed = s.fixed := by simp [State.cthSend]

@[simp ↓] theorem State.cthMulticast_fixed (s : State) (y : Nat) (ms : List Nat) (data : List Byte) : (State.cthMulticast s y ms data).1.fixed = s.fixed := by
  simp only [State.cthMulticast]
  (repeat' split) <;> simp

@[simp ↓] theorem State.cthError_fixed (s : State) (y : Nat) (m : Nat) : (State.cthError s y m).1.fixed = s.fixed := by
  unfold State.cthError
  dsimp only
  have h : (((s.synStat y 4 1).setCounted F.CTH_SYN_STATUS_ERROR F.CTH_SYN_STATUS_ERROR_COUNT y).note E.CTH_MEMBER_ERROR).fixed = s.fixed := by simp
  generalize ((s.synStat y 4 1).setCounted F.CTH_SYN_STATUS_ERROR F.CTH_SYN_STATUS_ERROR_COUNT y).note E.CTH_MEMBER_ERROR = t at h ⊢
  (repeat' split) <;> simp [h]

@[simp ↓] theorem State.cthAnswer_fixed (s : State) (d : Nat) (y : Nat) (x : Parsed) (code : Nat) : (State.cthAnswer s d y x code).fixed = s.fixed := by simp [State.cthAnswer]

@[simp ↓] theorem State.cthTellAll_fixed (s : State) (y : Nat) (chunk : Nat) (code : Nat) : (State.cthTellAll s y chunk code).fixed = s.fixed := by
  unfold State.cthTellAll
  dsimp only
  rw [State.cthMulticast_fixed]
  exact foldl_keeps (fun x : State × _ => State.fixed x.1) _ _ _ (fun (x : State × _) a => by simp)

@[simp ↓] theorem State.advanceBase_fixed (s : State) (y : Nat) (a2 : Nat) : (State.advanceBase s y a2).fixed = s.fixed := by
  induction a2 generalizing s with
  | zero => rfl
  | succ n ih =>
    unfold State.advanceBase
    dsimp only
    split
    · split
      · rw [ih]
        simp
      · rfl
    · rfl

@[simp ↓] theorem State.settleWindow_fixed (s : State) (y : Nat) : (State.settleWindow s y).fixed = s.fixed := by simp [State.settleWindow]

@[simp ↓] theorem State.abandon_fixed (s : State) (y : Nat) (b : Nat) (c : Chunk) (code : Nat) : (State.abandon s y b c code).fixed = s.fixed := by simp [State.abandon]

@[simp ↓] theorem State.storeError_fixed (s : State) (y : Nat) (b : Nat) (c : Chunk) (ecc : Nat) : (State.storeError s y b c ecc).1.fixed = s.fixed := by simp [State.storeError]

@[simp ↓] theorem State.offerResult_fixed (s : State) (y : Nat) (b : Nat) (c : Chunk) : (State.offerResult s y b c).fixed = s.fixed := by simp [State.offerResult]

@[simp ↓] theorem State.enterCounting_fixed (s : State) : (State.enterCounting s).fixed = s.fixed := by simp [State.enterCounting]

@[simp ↓] theorem State.cthConfigAct_fixed (s : State) (r : Req) : (State.cthConfigAct s r).state.fixed = s.fixed := by simp [State.cthConfigAct]

@[simp ↓] theorem State.clearSyn_fixed (s : State) (y : Nat) : (State.clearSyn s y).fixed = s.fixed := by
  unfold State.clearSyn
  rw [State.putSyn_fixed, State.resetRegs_fixed _ _ (by simp only [decide_eq_false_iff_not, not_and]; omega) (by simp only [decide_eq_false_iff_not, not_and]; omega)]

@[simp ↓] theorem State.countSyns_fixed (s : State) (d : Nat) : (State.countSyns s d).fixed = s.fixed := by simp [State.countSyns]

@[simp ↓] theorem State.setSynCfg_fixed (s : State) (y : Nat) (r : Req) : (State.setSynCfg s y r).fixed = s.fixed := by simp [State.setSynCfg]

@[simp ↓] theorem State.setSynSize_fixed (s : State) (y : Nat) (r : Req) : (State.setSynSize s y r).fixed = s.fixed := by simp [State.setSynSize]

@[simp ↓] theorem State.placeSyn_fixed (s : State) (r : Req) (pages : Nat) (a3 : Option Nat) (a4 : Option Nat) (a5 : Option Nat) : (State.placeSyn s r pages a3 a4 a5).state.fixed = s.fixed := by
  unfold State.placeSyn
  split <;> simp

@[simp ↓] theorem State.syndicateCreateAct_fixed (s : State) (r : Req) : (State.syndicateCreateAct s r).state.fixed = s.fixed := by simp [State.syndicateCreateAct]

@[simp ↓] theorem memberLoadStart_fixed (a0 : Req) (s : State) : (memberLoadStart a0 s).1.fixed = s.fixed := by simp [memberLoadStart]

@[simp ↓] theorem memberLoadAct_fixed (r : Req) (a1 : Nat) (s : State) : (memberLoadAct r a1 s).state.fixed = s.fixed := by
  simp only [memberLoadAct]
  (repeat' split) <;> simp

@[simp ↓] theorem State.syndicateDeleteAct_fixed (s : State) (r : Req) : (State.syndicateDeleteAct s r).state.fixed = s.fixed := by simp [State.syndicateDeleteAct]

@[simp ↓] theorem State.syndicateReadAct_fixed (s : State) (r : Req) : (State.syndicateReadAct s r).state.fixed = s.fixed := by simp [State.syndicateReadAct]

@[simp ↓] theorem State.clsTableConfigAct_fixed (s : State) (r : Req) : (State.clsTableConfigAct s r).state.fixed = s.fixed := by simp [State.clsTableConfigAct]

@[simp ↓] theorem State.clearRule_fixed (s : State) (d : Nat) (n : Nat) : (State.clearRule s d n).fixed = s.fixed := by simp [State.clearRule]

@[simp ↓] theorem State.retireRule_fixed (s : State) (d : Nat) (n : Nat) : (State.retireRule s d n).fixed = s.fixed := by simp [State.retireRule]

@[simp ↓] theorem State.bearRule_fixed (s : State) (c : Change) (d : Nat) (n : Nat) : (State.bearRule s c d n).fixed = s.fixed := by simp [State.bearRule]

theorem State.changeDie_fixed (s : State) (c : Change) (d : Nat) : ∀ x, State.changeDie s c d = some x → x.1.fixed = s.fixed := by
  simp only [State.changeDie]
  (repeat' split) <;> simp

theorem State.changeDies_fixed (s : State) (c : Change) (a2 : List Nat) : ∀ x, State.changeDies s c a2 = some x → x.1.fixed = s.fixed := by
  induction a2 generalizing s with
  | nil =>
    intro x hx
    cases hx
    rfl
  | cons d t ih =>
    intro x hx
    unfold State.changeDies at hx
    split at hx
    · cases hx
    · rename_i u n hu
      split at hx
      · cases hx
      · rename_i v l hv
        cases hx
        exact (ih u _ hv).trans (State.changeDie_fixed s c d _ hu)

@[simp ↓] theorem State.applyChange_fixed (s : State) (c : Change) : (State.applyChange s c).1.fixed = s.fixed := by
  unfold State.applyChange
  split
  · rfl
  · split
    · rfl
    · split
      · rfl
      · rename_i t l h
        exact State.changeDies_fixed s c _ _ h

@[simp ↓] theorem State.stageRecords_fixed (s : State) (addr : Nat) (cont : Bool) (a3 : Nat) (a4 : Nat) (a5 : StageRun) : (State.stageRecords s addr cont a3 a4 a5).1.fixed = s.fixed := by
  induction a3 generalizing s a4 a5 with
  | zero => rfl
  | succ n ih =>
    rw [State.stageRecords]
    generalize s.hostRead _ _ = x
    cases x with
    | none => rfl
    | some l =>
      dsimp only
      (repeat' split) <;> simp [ih]

@[simp ↓] theorem ruleStageStart_fixed (a0 : Req) (s : State) : (ruleStageStart a0 s).1.fixed = s.fixed := by simp [ruleStageStart]

@[simp ↓] theorem ruleStageAct_fixed (r : Req) (a1 : Nat) (s : State) : (ruleStageAct r a1 s).state.fixed = s.fixed := by
  unfold ruleStageAct
  dsimp only
  split <;> rename_i heq <;> have h := congrArg (fun x : State × _ => State.fixed x.1) heq <;> simp at h <;> simp [← h]

@[simp ↓] theorem State.settleRules_fixed (s : State) (d : Nat) (x : Nat) : (State.settleRules s d x).fixed = s.fixed := by simp [State.settleRules]

@[simp ↓] theorem State.cancelDie_fixed (s : State) (d : Nat) : (State.cancelDie s d).1.fixed = s.fixed := by
  unfold State.cancelDie
  refine foldl_keeps (fun x : State × _ => State.fixed x.1) _ _ _ (fun (x : State × _) a => ?_)
  dsimp only
  (repeat' split) <;> simp

@[simp ↓] theorem stageCancelStart_fixed (a0 : Req) (s : State) : (stageCancelStart a0 s).1.fixed = s.fixed := by simp [stageCancelStart]

@[simp ↓] theorem stageCancelAct_fixed (a0 : Req) (a1 : Nat) (s : State) : (stageCancelAct a0 a1 s).state.fixed = s.fixed := by simp [stageCancelAct]

@[simp ↓] theorem State.fillMeter_fixed (s : State) (m : Nat) (fill : Nat) : (State.fillMeter s m fill).fixed = s.fixed := by simp [State.fillMeter]

@[simp ↓] theorem State.meterConfigAct_fixed (s : State) (r : Req) : (State.meterConfigAct s r).state.fixed = s.fixed := by simp [State.meterConfigAct]

@[simp ↓] theorem State.clsPortConfigAct_fixed (s : State) (r : Req) : (State.clsPortConfigAct s r).state.fixed = s.fixed := by simp [State.clsPortConfigAct]

@[simp ↓] theorem State.postingConfigAct_fixed (s : State) (r : Req) : (State.postingConfigAct s r).state.fixed = s.fixed := by simp [State.postingConfigAct]

@[simp ↓] theorem State.takePair_fixed (s : State) : (State.takePair s).fixed = s.fixed := by simp [State.takePair]

@[simp ↓] theorem State.setLatch_fixed (s : State) (who : Nat) (k : Nat) (v : Nat) : (State.setLatch s who k v).fixed = s.fixed := by simp [State.setLatch]

@[simp ↓] theorem State.readReg_fixed (s : State) (who : Nat) (r : Reg) (i : Nat) (h : 0x10 < r.base ∨ r.rc = 0) : (State.readReg s who r i).1.fixed = s.fixed := by
  rw [State.readReg]
  split
  · simp
  · split
    · simp
    · generalize latchPairs.find? _ = x
      cases x with
      | none =>
        rcases h with h | h
        · simp [h]
        · simp [h]
      | some p =>
        dsimp only
        split <;> simp

@[simp ↓] theorem State.readWord_fixed (s : State) (who : Nat) (a : Nat) : (State.readWord s who a).1.fixed = s.fixed := by
  rw [State.readWord]
  split
  · rfl
  · split
    · split <;> simp
    · generalize hx : findReg a = x
      cases x with
      | none => rfl
      | some x => exact State.readReg_fixed s who x.1 x.2 (findReg_rc hx)

@[simp ↓] theorem State.readWords_fixed (s : State) (who : Nat) (a : Nat) (a3 : Nat) : (State.readWords s who a a3).1.fixed = s.fixed := by
  induction a3 generalizing s a with
  | zero => rfl
  | succ n ih =>
    unfold State.readWords
    simp [ih]

@[simp ↓] theorem State.readBytes_fixed (s : State) (who : Nat) (a : Nat) (n : Nat) : (State.readBytes s who a n).1.fixed = s.fixed := by simp [State.readBytes]

@[simp ↓] theorem State.hostReads_fixed (s : State) (a : Nat) (n : Nat) : (State.hostReads s a n).fixed = s.fixed := by simp [State.hostReads]

@[simp ↓] theorem State.putChan_fixed (s : State) (c : Nat) (x : Chan) : (State.putChan s c x).fixed = s.fixed := by simp [State.putChan]

@[simp ↓] theorem State.setChanState_fixed (s : State) (c : Nat) (v : Nat) : (State.setChanState s c v).fixed = s.fixed := by simp [State.setChanState]

@[simp ↓] theorem State.setHead_fixed (s : State) (c : Nat) (a : Nat) : (State.setHead s c a).fixed = s.fixed := by simp [State.setHead]

@[simp ↓] theorem State.rewind_fixed (s : State) (c : Nat) : (State.rewind s c).fixed = s.fixed := by simp [State.rewind]

@[simp ↓] theorem State.settleChan_fixed (s : State) (c : Nat) (was : Bool) (moved : Bool) : (State.settleChan s c was moved).fixed = s.fixed := by simp [State.settleChan]

@[simp ↓] theorem State.resetInj_fixed (s : State) (c : Nat) : (State.resetInj s c).fixed = s.fixed := by simp [State.resetInj]

@[simp ↓] theorem State.chanStat_fixed (s : State) (c : Nat) (k : Nat) (n : Nat) : (State.chanStat s c k n).fixed = s.fixed := by simp [State.chanStat]

@[simp ↓] theorem State.chanIrq_fixed (s : State) (c : Nat) : (State.chanIrq s c).fixed = s.fixed := by simp [State.chanIrq]

@[simp ↓] theorem State.stopChan_fixed (s : State) (c : Nat) : (State.stopChan s c).fixed = s.fixed := by simp [State.stopChan]

@[simp ↓] theorem State.giveBack_fixed (s : State) (c : Nat) (l : List DmaDesc) : (State.giveBack s c l).fixed = s.fixed := by
  unfold State.giveBack
  split <;> simp

@[simp ↓] theorem State.dropHand_fixed (s : State) (c : Nat) : (State.dropHand s c).fixed = s.fixed := by simp [State.dropHand]

@[simp ↓] theorem State.failStop_fixed (s : State) (c : Nat) (status : Nat) : (State.failStop s c status).fixed = s.fixed := by simp [State.failStop]

@[simp ↓] theorem State.stopDma_fixed (s : State) (status : Nat) : (State.stopDma s status).fixed = s.fixed := by simp [State.stopDma]

@[simp ↓] theorem State.settleChanState_fixed (s : State) (c : Nat) : (State.settleChanState s c).fixed = s.fixed := by simp [State.settleChanState]

@[simp ↓] theorem State.writeBack_fixed (s : State) (c : Nat) (d : DmaDesc) (status : Nat) (residue : Nat) : (State.writeBack s c d status residue).fixed = s.fixed := by simp [State.writeBack]

@[simp ↓] theorem State.afterWriteBack_fixed (s : State) (c : Nat) (status : Nat) (irq : Bool) : (State.afterWriteBack s c status irq).fixed = s.fixed := by simp [State.afterWriteBack]

@[simp ↓] theorem State.advance_fixed (s : State) (c : Nat) (d : DmaDesc) : (State.advance s c d).fixed = s.fixed := by simp [State.advance]

@[simp ↓] theorem State.endDesc_fixed (s : State) (c : Nat) (d : DmaDesc) (status : Nat) (residue : Nat) (moved : Nat) : (State.endDesc s c d status residue moved).fixed = s.fixed := by simp [State.endDesc]

@[simp ↓] theorem State.serve_fixed (s : State) (m : Nat) (on : Bool) : (State.serve s m on).fixed = s.fixed := by
  simp only [State.serve]
  (repeat' split) <;> simp

@[simp ↓] theorem State.serveOnly_fixed (s : State) (mask : Nat) : (State.serveOnly s mask).fixed = s.fixed := by simp [State.serveOnly]

@[simp ↓] theorem State.setCause_fixed (s : State) (causes : Nat) : (State.setCause s causes).fixed = s.fixed := by simp [State.setCause]

@[simp ↓] theorem State.resetPcie_fixed (s : State) : (State.resetPcie s).fixed = s.fixed := by
  unfold State.resetPcie
  dsimp only
  rw [State.fixed_mk, State.wr_fixed _ _ _ _ (by decide), State.resetRegs_fixed _ _ (by decide) (by decide)]

@[simp ↓] theorem State.resetBootWindow_fixed (s : State) : (State.resetBootWindow s).fixed = s.fixed := by
  unfold State.resetBootWindow
  dsimp only
  split <;> simp [State.resetRegs_fixed]

@[simp ↓] theorem State.resetTeller_fixed (s : State) : (State.resetTeller s).fixed = s.fixed := by
  unfold State.resetTeller
  dsimp only
  rw [State.fixed_mk, State.resetBootWindow_fixed, State.resetRegs_fixed _ _ (by decide) (by decide)]

@[simp ↓] theorem State.holdReset_fixed (s : State) (causes : Nat) : (State.holdReset s causes).fixed = s.fixed := by simp [State.holdReset]

@[simp ↓] theorem State.hostReset_fixed (s : State) : (State.hostReset s).fixed = s.fixed := by simp [State.hostReset]

@[simp ↓] theorem State.dropStarted_fixed (s : State) (m : Nat) : (State.dropStarted s m).fixed = s.fixed := by
  simp only [State.dropStarted]
  (repeat' split) <;> simp

@[simp ↓] theorem State.abortRecords_fixed (s : State) : (State.abortRecords s).fixed = s.fixed := by
  unfold State.abortRecords
  dsimp only
  rw [State.each_fixed, State.fixed_mk, State.each_fixed]
  · intro m s
    (repeat' split) <;> simp
  · intro m s
    (repeat' split) <;> simp

@[simp ↓] theorem State.peerReset_fixed (s : State) (x : Nat) : (State.peerReset s x).fixed = s.fixed := by simp [State.peerReset]

@[simp ↓] theorem State.clearUnit_fixed (s : State) (u : Nat) : (State.clearUnit s u).fixed = s.fixed := by simp [State.clearUnit]

@[simp ↓] theorem State.abortTouching_fixed (s : State) (u : Nat) : (State.abortTouching s u).fixed = s.fixed := by
  unfold State.abortTouching
  apply State.each_fixed
  intro k s
  (repeat' split) <;> simp

@[simp ↓] theorem State.blockReset_fixed (s : State) (u : Nat) : (State.blockReset s u).fixed = s.fixed := by
  have h0 : (ownerOf 0 == some u) = false := by
    have : ownerOf 0 = none := by decide
    rw [this]
    rfl
  have h2 : (ownerOf 0x10 == some u) = false := by
    have : ownerOf 0x10 = none := by decide
    rw [this]
    rfl
  unfold State.blockReset
  dsimp only
  rw [State.note_fixed]
  split
  · rw [State.each_fixed, State.each_fixed, State.fixed_mk, State.resetRegs_fixed _ _ h0 h2, State.clearUnit_fixed, State.fixed_mk,
      State.abortTouching_fixed, State.setGrant_fixed]
    · intro x s
      simp
    · intro p s
      split <;> simp
  · rw [State.each_fixed, State.fixed_mk, State.resetRegs_fixed _ _ h0 h2, State.clearUnit_fixed, State.fixed_mk, State.abortTouching_fixed,
      State.setGrant_fixed]
    intro x s
    simp

@[simp ↓] theorem State.restoreReg_fixed (s : State) (e : Nat × Word) (h : 0x2000000 ≤ e.1) : (State.restoreReg s e).fixed = s.fixed := by
  unfold State.restoreReg
  generalize hx : findReg e.1 = x
  cases x with
  | none => rfl
  | some x => exact State.wr_fixed _ _ _ _ (findReg_high hx h)

@[simp ↓] theorem State.restoreUnit_fixed (s : State) (u : Nat) : (State.restoreUnit s u).fixed = s.fixed := by
  have key : ∀ (l : List (Nat × Word)) (t : State), (∀ e ∈ l, (ownerOf e.1).isSome = true) → (t.each l fun e s => s.restoreReg e).fixed = t.fixed := by
    intro l
    induction l with
    | nil => exact fun t _ => rfl
    | cons e l ih =>
      intro t h
      rw [State.each_cons, ih _ (fun e he => h e (List.mem_cons_of_mem _ he)), State.restoreReg_fixed _ _ (ownerOf_high (h e List.mem_cons_self))]
  unfold State.restoreUnit
  dsimp only
  rw [State.fixed_mk, State.each_fixed, key]
  · intro e he
    have := (List.mem_filter.1 he).2
    rw [beq_iff_eq.1 this]
    rfl
  · intro e s
    exact State.putArr_fixed s _ _

@[simp ↓] theorem State.clockConfigAct_fixed (s : State) (r : Req) : (State.clockConfigAct s r).state.fixed = s.fixed := by simp [State.clockConfigAct]

@[simp ↓] theorem State.selectSource_fixed (s : State) (d : Nat) (v : Nat) : (State.selectSource s d v).1.fixed = s.fixed := by simp [State.selectSource]

@[simp ↓] theorem State.clockSelectAct_fixed (s : State) (r : Req) : (State.clockSelectAct s r).state.fixed = s.fixed := by simp [State.clockSelectAct]

@[simp ↓] theorem State.setTrim_fixed (s : State) (code : Nat) : (State.setTrim s code).fixed = s.fixed := by simp [State.setTrim]

@[simp ↓] theorem State.watchTrimAct_fixed (s : State) (r : Req) : (State.watchTrimAct s r).state.fixed = s.fixed := by simp [State.watchTrimAct]

@[simp ↓] theorem State.disqualify_fixed (s : State) (i : Nat) : (State.disqualify s i).fixed = s.fixed := by
  unfold State.disqualify
  split <;> simp

@[simp ↓] theorem State.qualify_fixed (s : State) (i : Nat) : (State.qualify s i).fixed = s.fixed := by simp [State.qualify]

@[simp ↓] theorem State.trimSearch_fixed (s : State) (tooFast : Bool) : (State.trimSearch s tooFast).fixed = s.fixed := by simp [State.trimSearch]

@[simp ↓] theorem State.intervalFailed_fixed (s : State) (i : Nat) (j : Nat) : (State.intervalFailed s i j).fixed = s.fixed := by simp [State.intervalFailed]

@[simp ↓] theorem State.refLost_fixed (s : State) (i : Nat) : (State.refLost s i).fixed = s.fixed := by simp [State.refLost]

@[simp ↓] theorem State.togglePulse_fixed (s : State) (d : Nat) (k : Nat) : (State.togglePulse s d k).fixed = s.fixed := by simp [State.togglePulse]

@[simp ↓] theorem State.bundleWrite_fixed (s : State) (d : Nat) (k : Nat) (v : Nat) : (State.bundleWrite s d k v).fixed = s.fixed := by
  simp only [State.bundleWrite]
  (repeat' split) <;> simp

@[simp ↓] theorem State.selectWrite_fixed (s : State) (d : Nat) (v : Nat) : (State.selectWrite s d v).fixed = s.fixed := by simp [State.selectWrite]

@[simp ↓] theorem State.timeConfigAct_fixed (s : State) (r : Req) : (State.timeConfigAct s r).state.fixed = s.fixed := by
  rw [State.timeConfigAct, Ans.ok_state, State.evalLock_fixed, State.ite_fixed]
  simp

@[simp ↓] theorem State.timeAdjustAct_fixed (s : State) (r : Req) : (State.timeAdjustAct s r).state.fixed = s.fixed := by simp [State.timeAdjustAct]

@[simp ↓] theorem State.timeRingConfigAct_fixed (s : State) (r : Req) : (State.timeRingConfigAct s r).state.fixed = s.fixed := by simp [State.timeRingConfigAct]

@[simp ↓] theorem State.pinMissed_fixed (s : State) (k : Nat) : (State.pinMissed s k).fixed = s.fixed := by simp [State.pinMissed]

@[simp ↓] theorem State.armPin_fixed (s : State) (k : Nat) : (State.armPin s k).fixed = s.fixed := by simp [State.armPin]

@[simp ↓] theorem State.timePinConfigAct_fixed (s : State) (r : Req) : (State.timePinConfigAct s r).state.fixed = s.fixed := by simp [State.timePinConfigAct]

@[simp ↓] theorem State.portTimeConfigAct_fixed (s : State) (r : Req) : (State.portTimeConfigAct s r).state.fixed = s.fixed := by simp [State.portTimeConfigAct]

@[simp ↓] theorem State.launchConfigAct_fixed (s : State) (r : Req) : (State.launchConfigAct s r).state.fixed = s.fixed := by simp [State.launchConfigAct]

@[simp ↓] theorem State.endGating_fixed (s : State) (p : Nat) : (State.endGating s p).fixed = s.fixed := by simp [State.endGating]

@[simp ↓] theorem State.loadGates_fixed (s : State) (p : Nat) (r : Req) (entries : List Byte) : (State.loadGates s p r entries).fixed = s.fixed := by simp [State.loadGates]

@[simp ↓] theorem gateListSetStart_fixed (a0 : Req) (s : State) : (gateListSetStart a0 s).1.fixed = s.fixed := by simp [gateListSetStart]

@[simp ↓] theorem gateListSetAct_fixed (r : Req) (a1 : Nat) (s : State) : (gateListSetAct r a1 s).state.fixed = s.fixed := by
  unfold gateListSetAct
  split <;> simp

@[simp ↓] theorem State.changeWrite_fixed (s : State) (p : Nat) : (State.changeWrite s p).fixed = s.fixed := by simp [State.changeWrite]

@[simp ↓] theorem State.capturePin_fixed (s : State) (k : Nat) (falling : Bool) : (State.capturePin s k falling).fixed = s.fixed := by simp [State.capturePin]

@[simp ↓] theorem State.judgePps_fixed (s : State) (e : Int) : (State.judgePps s e).fixed = s.fixed := by
  simp only [State.judgePps]
  (repeat' split) <;> simp

@[simp ↓] theorem State.touch_fixed (s : State) (b : Nat) : (State.touch s b).fixed = s.fixed := by simp [State.touch]

@[simp ↓] theorem State.writeEntry_fixed (s : State) (b : Nat) (p : Nat) (slots : List Nat) : (State.writeEntry s b p slots).fixed = s.fixed := by simp [State.writeEntry]

@[simp ↓] theorem State.eraseEntry_fixed (s : State) (b : Nat) (p : Nat) : (State.eraseEntry s b p).fixed = s.fixed := by simp [State.eraseEntry]

@[simp ↓] theorem State.editHead_fixed (s : State) (b : Nat) (p : Nat) (f : Nat → Nat) : (State.editHead s b p f).fixed = s.fixed := by simp [State.editHead]

@[simp ↓] theorem State.addCount_fixed (s : State) (g : Nat) : (State.addCount s g).fixed = s.fixed := by simp [State.addCount]

@[simp ↓] theorem State.subCount_fixed (s : State) (g : Nat) : (State.subCount s g).fixed = s.fixed := by simp [State.subCount]

@[simp ↓] theorem State.clerkRead_fixed (s : State) (w : Nat) (b : Nat) : (State.clerkRead s w b).1.fixed = s.fixed := by simp [State.clerkRead]

@[simp ↓] theorem State.dupEntry_fixed (s : State) (b : Nat) (p : Nat) (c : Nat) (q : Nat) : (State.dupEntry s b p c q).fixed = s.fixed := by simp [State.dupEntry]

@[simp ↓] theorem State.eraseMoved_fixed (s : State) (b : Nat) (p : Nat) (c : Nat) (q : Nat) : (State.eraseMoved s b p c q).fixed = s.fixed := by simp [State.eraseMoved]

theorem State.pickRandom_fixed {α : Type} (s : State) (l : List α) : ∀ x, State.pickRandom s l = some x → x.1.fixed = s.fixed := by simp [State.pickRandom]

@[simp ↓] theorem State.findPath_fixed (s : State) (w : Nat) (span : Nat) (a3 : Nat) (a4 : Nat) (a5 : List (Nat × Nat)) : (State.findPath s w span a3 a4 a5).1.fixed = s.fixed := by
  induction a3 generalizing s a4 a5 with
  | zero => rfl
  | succ n ih =>
    unfold State.findPath
    dsimp only
    split
    · simp
    · rename_i t p heq
      have h := State.pickRandom_fixed _ _ _ heq
      simp at h
      split
      · simp [h]
      · simp [ih, h]

@[simp ↓] theorem State.movePath_fixed (s : State) (a1 : List (Nat × Nat)) : (State.movePath s a1).fixed = s.fixed := by
  induction a1 with
  | nil => rfl
  | cons a t ih => cases t with
    | nil => rfl
    | cons b t =>
      unfold State.movePath
      dsimp only
      simpa using ih

theorem State.pickEvict_fixed (s : State) (g : Nat) (l : List (Nat × Nat × Nat)) : ∀ x, State.pickEvict s g l = some x → x.1.fixed = s.fixed := by
  intro x hx
  unfold State.pickEvict at hx
  dsimp only at hx
  split at hx
  · cases hx
  · split at hx
    · obtain ⟨y, -, rfl⟩ := Option.map_eq_some_iff.1 hx
      rfl
    · obtain ⟨y, hy, rfl⟩ := Option.map_eq_some_iff.1 hx
      exact State.pickRandom_fixed s l y hy

@[simp ↓] theorem State.reportEvict_fixed (s : State) (g : Nat) (b : Nat) (p : Nat) : (State.reportEvict s g b p).fixed = s.fixed := by simp [State.reportEvict]

@[simp ↓] theorem State.insertEvict_fixed (s : State) (g : Nat) (b0 : Nat) (b1 : Nat) (slots : Nat → List Nat) : (State.insertEvict s g b0 b1 slots).1.fixed = s.fixed := by
  unfold State.insertEvict
  dsimp only
  split
  · rename_i t b p heq
    have h := State.pickEvict_fixed _ _ _ _ heq
    simp at h
    simp [h]
  · simp

@[simp ↓] theorem State.insertNew_fixed (s : State) (g : Nat) (key : List Byte) (result : Nat) (static : Bool) : (State.insertNew s g key result static).1.fixed = s.fixed := by
  unfold State.insertNew
  dsimp only
  split
  · simp
  · split
    · simp
    · simp
    · split <;> rename_i heq <;> have h := congrArg (fun x : State × _ => State.fixed x.1) heq <;> simp at h <;> simp [← h]

@[simp ↓] theorem State.updateEntry_fixed (s : State) (b : Nat) (p : Nat) (result : Nat) (static : Bool) : (State.updateEntry s b p result static).fixed = s.fixed := by simp [State.updateEntry]

@[simp ↓] theorem State.deleteKey_fixed (s : State) (g : Nat) (copies : List Nat) : (State.deleteKey s g copies).fixed = s.fixed := by simp [State.deleteKey]

@[simp ↓] theorem State.scrubSlot_fixed (s : State) (r : Nat) (n : Nat) : (State.scrubSlot s r n).fixed = s.fixed := by
  unfold State.scrubSlot
  (repeat' split) <;> simp

@[simp ↓] theorem State.runClerkCmd_fixed (s : State) (m : Nat) (c : Cmd) (checks : Req → Checks) (wards : Req → List Nat) (act : Req → Ans) (h : ∀ r, (act r).state.fixed = s.fixed) : (State.runClerkCmd s m c checks wards act).fixed = s.fixed := by
  have h1 : ∀ (t : State) (l : List Nat), (t.each l fun w s =>
      if (s.clerk w).urgent = 1 then s.putClerk w { s.clerk w with urgent := 0 } else s).fixed = t.fixed := by
    intro t l
    apply State.each_fixed
    intro w s
    split <;> simp
  have h2 : ∀ (l : List Nat), (s.each l fun w s =>
      if s.clerkState w = 1 then s.putClerk w { s.clerk w with urgent := max 1 (s.clerk w).urgent } else s).fixed = s.fixed := by
    intro l
    apply State.each_fixed
    intro w s
    split <;> simp
  unfold State.runClerkCmd
  split
  · rfl
  · rename_i r0 _
    dsimp only
    generalize (if (s.firstCheck c (checks (filled c (checks r0).dflt r0)) r0 false).isSome = true then ([] : List Nat) else
      wards (filled c (checks r0).dflt r0)) = ws
    split
    · split
      · exact h2 ws
      · rfl
    · rw [h1]
      apply State.runCmd_fixed
      intro r
      split <;> simp [h]

@[simp ↓] theorem State.settleAudit_fixed (s : State) (g : Nat) : (State.settleAudit s g).fixed = s.fixed := by
  simp only [State.settleAudit]
  (repeat' split) <;> simp

@[simp ↓] theorem State.ledgerConfigAct_fixed (s : State) (r : Req) : (State.ledgerConfigAct s r).state.fixed = s.fixed := by simp [State.ledgerConfigAct]

@[simp ↓] theorem State.ledgerGlobalAct_fixed (s : State) (r : Req) : (State.ledgerGlobalAct s r).state.fixed = s.fixed := by simp [State.ledgerGlobalAct]

@[simp ↓] theorem State.setProfile_fixed (s : State) (p : Nat) (slots : Nat) (r : Req) : (State.setProfile s p slots r).fixed = s.fixed := by simp [State.setProfile]

@[simp ↓] theorem State.setProfileLookup_fixed (s : State) (p : Nat) (k : Nat) (r : Req) : (State.setProfileLookup s p k r).fixed = s.fixed := by simp [State.setProfileLookup]

@[simp ↓] theorem State.lookupProfileAct_fixed (s : State) (r : Req) : (State.lookupProfileAct s r).state.fixed = s.fixed := by simp [State.lookupProfileAct]

@[simp ↓] theorem State.ldgPortConfigAct_fixed (s : State) (r : Req) : (State.ldgPortConfigAct s r).state.fixed = s.fixed := by simp [State.ldgPortConfigAct]

@[simp ↓] theorem State.entryOn_fixed (s : State) (g : Nat) (op : Nat) (static : Bool) (result : Nat) (key : List Byte) (a6 : List Nat) : (State.entryOn s g op static result key a6).1.fixed = s.fixed := by
  unfold State.entryOn
  split
  · split
    · rfl
    · exact State.insertNew_fixed s g key result static
  · split
    · simp
    · split <;> simp

@[simp ↓] theorem State.enterEntry_fixed (s : State) (g : Nat) (op : Nat) (static : Bool) (result : Nat) (key : List Byte) : (State.enterEntry s g op static result key).1.fixed = s.fixed := by simp [State.enterEntry]

@[simp ↓] theorem State.entryWriteAct_fixed (s : State) (r : Req) : (State.entryWriteAct s r).state.fixed = s.fixed := by simp [State.entryWriteAct]

@[simp ↓] theorem State.entryFindAct_fixed (s : State) (r : Req) : (State.entryFindAct s r).state.fixed = s.fixed := by
  simp only [State.entryFindAct]
  (repeat' split) <;> simp

@[simp ↓] theorem State.batchRecord_fixed (s : State) (l : List Byte) : (State.batchRecord s l).1.fixed = s.fixed := by simp [State.batchRecord]

@[simp ↓] theorem State.batchRecords_fixed (s : State) (addr : Nat) (cont : Bool) (a3 : Nat) (a4 : Nat) (a5 : BatchRun) : (State.batchRecords s addr cont a3 a4 a5).1.fixed = s.fixed := by
  induction a3 generalizing s a4 a5 with
  | zero => rfl
  | succ n ih =>
    rw [State.batchRecords]
    generalize s.hostRead _ _ = x
    cases x with
    | none => rfl
    | some l =>
      dsimp only
      (repeat' split) <;> simp [ih]

theorem batchAnswer_state (n : Nat) (r : State × BatchRun × Bool) : (batchAnswer n r).state = r.1 := by
  unfold batchAnswer
  split <;> simp

@[simp ↓] theorem entryBatchAct_fixed (r : Req) (a1 : Nat) (s : State) : (entryBatchAct r a1 s).state.fixed = s.fixed := by
  unfold entryBatchAct
  dsimp only
  split
  · simp
  · rw [batchAnswer_state]
    simp

@[simp ↓] theorem State.groupSetAct_fixed (s : State) (r : Req) : (State.groupSetAct s r).state.fixed = s.fixed := by
  unfold State.groupSetAct
  split <;> simp

@[simp ↓] theorem State.discardCursor_fixed (s : State) (w : Nat) : (State.discardCursor s w).fixed = s.fixed := by simp [State.discardCursor]

@[simp ↓] theorem State.flushLedger_fixed (s : State) (r : Req) (a : Nat) (g : Nat) : (State.flushLedger s r a g).1.fixed = s.fixed := by
  unfold State.flushLedger
  refine foldl_keeps (fun x : State × _ => State.fixed x.1) _ _ _ (fun (x : State × _) a => ?_)
  split <;> simp

@[simp ↓] theorem ledgerFlushStart_fixed (a0 : Req) (s : State) : (ledgerFlushStart a0 s).1.fixed = s.fixed := by simp [ledgerFlushStart]

@[simp ↓] theorem State.freeClerks_fixed (s : State) : (State.freeClerks s).fixed = s.fixed := by simp [State.freeClerks]

@[simp ↓] theorem State.flushLedgers_fixed (s : State) (r : Req) (gs : List Nat) : (State.flushLedgers s r gs).1.fixed = s.fixed := by
  unfold State.flushLedgers
  exact foldl_keeps (fun x : State × _ => State.fixed x.1) _ _ _ (fun (x : State × _) a => by simp)

@[simp ↓] theorem ledgerFlushAct_fixed (r : Req) (a1 : Nat) (s : State) : (ledgerFlushAct r a1 s).state.fixed = s.fixed := by simp [ledgerFlushAct]

@[simp ↓] theorem State.auditConfigAct_fixed (s : State) (r : Req) : (State.auditConfigAct s r).state.fixed = s.fixed := by
  unfold State.auditConfigAct
  split <;> simp

@[simp ↓] theorem State.repairRecord_fixed (s : State) (g : Nat) (x : Shadow) : (State.repairRecord s g x).fixed = s.fixed := by
  simp only [State.repairRecord]
  (repeat' split) <;> simp

@[simp ↓] theorem State.retarget_fixed (s : State) (n : Nat) : (State.retarget s n).fixed = s.fixed := by simp [State.retarget]

@[simp ↓] theorem State.setBand_fixed (s : State) (n : Nat) (b : Nat) : (State.setBand s n b).fixed = s.fixed := by
  simp only [State.setBand]
  (repeat' split) <;> simp

@[simp ↓] theorem State.loadBoard_fixed (s : State) (b : List Byte) : (State.loadBoard s b).fixed = s.fixed := by
  unfold State.loadBoard
  rw [State.each_fixed, State.each_fixed]
  · rfl
  · intro q s
    simp
  · intro n s
    simp

@[simp ↓] theorem State.configLane_fixed (s : State) (n : Nat) (r : Req) : (State.configLane s n r).fixed = s.fixed := by simp [State.configLane]

@[simp ↓] theorem State.laneConfigAct_fixed (s : State) (r : Req) : (State.laneConfigAct s r).state.fixed = s.fixed := by simp [State.laneConfigAct]

@[simp ↓] theorem eqTableLoadStart_fixed (a0 : Req) (s : State) : (eqTableLoadStart a0 s).1.fixed = s.fixed := by simp [eqTableLoadStart]

@[simp ↓] theorem eqTableLoadAct_fixed (r : Req) (a1 : Nat) (s : State) : (eqTableLoadAct r a1 s).state.fixed = s.fixed := by
  unfold eqTableLoadAct
  split <;> simp

@[simp ↓] theorem State.clearPrbs_fixed (s : State) (n : Nat) : (State.clearPrbs s n).fixed = s.fixed := by simp [State.clearPrbs]

@[simp ↓] theorem State.inject_fixed (s : State) (n : Nat) (k : Nat) : (State.inject s n k).fixed = s.fixed := by simp [State.inject]

@[simp ↓] theorem State.fire_fixed (s : State) (n : Nat) : (State.fire s n).fixed = s.fixed := by simp [State.fire]

@[simp ↓] theorem State.setLoopback_fixed (s : State) (n : Nat) (v : Nat) : (State.setLoopback s n v).fixed = s.fixed := by
  simp only [State.setLoopback]
  (repeat' split) <;> simp

@[simp ↓] theorem State.testLane_fixed (s : State) (n : Nat) (r : Req) : (State.testLane s n r).fixed = s.fixed := by simp [State.testLane]

@[simp ↓] theorem State.laneTestAct_fixed (s : State) (r : Req) : (State.laneTestAct s r).state.fixed = s.fixed := by simp [State.laneTestAct]

@[simp ↓] theorem State.checkSymbol_fixed (s : State) (n : Nat) (e : Nat) : (State.checkSymbol s n e).fixed = s.fixed := by simp [State.checkSymbol]

@[simp ↓] theorem State.createPort_fixed (s : State) (p : Nat) (speed : Nat) : (State.createPort s p speed).fixed = s.fixed := by simp [State.createPort]

@[simp ↓] theorem State.clearMacStats_fixed (s : State) (p : Nat) : (State.clearMacStats s p).fixed = s.fixed := by simp [State.clearMacStats]

@[simp ↓] theorem State.setAdmin_fixed (s : State) (p : Nat) (up : Bool) : (State.setAdmin s p up).fixed = s.fixed := by simp [State.setAdmin]

@[simp ↓] theorem State.portConfigAct_fixed (s : State) (r : Req) : (State.portConfigAct s r).state.fixed = s.fixed := by simp [State.portConfigAct]

@[simp ↓] theorem State.discardQueues_fixed (s : State) (p : Nat) : (State.discardQueues s p).fixed = s.fixed := by
  unfold State.discardQueues
  apply State.each_fixed
  intro k s
  have h := R.QSC_Q_DEPTH.base_le (16 * p + k)
  have g := R.QSC_Q_FRAMES.base_le (16 * p + k)
  have h' := R.QSC_Q_DEPTH_high
  have g' := R.QSC_Q_FRAMES_high
  rw [State.resetRegs_fixed, State.fixed_mk]
  · simp
  · simp only [Bool.or_eq_false_iff, beq_eq_false_iff_ne]
    omega
  · simp only [Bool.or_eq_false_iff, beq_eq_false_iff_ne]
    omega

@[simp ↓] theorem State.portDeleteAct_fixed (s : State) (r : Req) : (State.portDeleteAct s r).state.fixed = s.fixed := by
  have h := R.MAC_CFG.base_le r.index
  have h' := R.MAC_CFG_high
  rw [State.portDeleteAct, Ans.ok_state, State.resetRegs_fixed _ _ (by simp only [decide_eq_false_iff_not]; omega)
    (by simp only [decide_eq_false_iff_not]; omega)]
  simp

@[simp ↓] theorem State.sendPfc_fixed (s : State) (p : Nat) (q : Nat) (time : Nat) : (State.sendPfc s p q time).fixed = s.fixed := by simp [State.sendPfc]

@[simp ↓] theorem State.pfcConfigAct_fixed (s : State) (r : Req) : (State.pfcConfigAct s r).state.fixed = s.fixed := by simp [State.pfcConfigAct]

@[simp ↓] theorem State.pfcPriority_fixed (s : State) (p : Nat) (q : Nat) (time : Nat) : (State.pfcPriority s p q time).fixed = s.fixed := by simp [State.pfcPriority]

@[simp ↓] theorem State.preemptConfigAct_fixed (s : State) (r : Req) : (State.preemptConfigAct s r).state.fixed = s.fixed := by simp [State.preemptConfigAct]

@[simp ↓] theorem State.learnDrop_fixed (s : State) : (State.learnDrop s).fixed = s.fixed := by simp [State.learnDrop]

@[simp ↓] theorem State.setLearn_fixed (s : State) (w : Nat) (l : List Learn) : (State.setLearn s w l).fixed = s.fixed := by simp [State.setLearn]

@[simp ↓] theorem State.discardLearn_fixed (s : State) : (State.discardLearn s).fixed = s.fixed := by simp [State.discardLearn]

@[simp ↓] theorem State.settleQueue_fixed (s : State) (w : Nat) : (State.settleQueue s w).fixed = s.fixed := by simp [State.settleQueue]

@[simp ↓] theorem State.setG_fixed (s : State) (w : Nat) (n : Nat) (v : Nat) : (State.setG s w n v).fixed = s.fixed := by simp [State.setG]

@[simp ↓] theorem State.loadCursor_fixed (s : State) (w : Nat) (c : Cursor) : (State.loadCursor s w c).fixed = s.fixed := by simp [State.loadCursor]

@[simp ↓] theorem State.startRoutine_fixed (s : State) (w : Nat) (k : Nat) (work : Option Learn) (words : List Nat) : (State.startRoutine s w k work words).fixed = s.fixed := by simp [State.startRoutine]

@[simp ↓] theorem State.startSweep_fixed (s : State) (w : Nat) : (State.startSweep s w).fixed = s.fixed := by simp [State.startSweep]

@[simp ↓] theorem State.newSweep_fixed (s : State) (w : Nat) : (State.newSweep s w).fixed = s.fixed := by simp [State.newSweep]

@[simp ↓] theorem State.resumeClerk_fixed (s : State) (w : Nat) : (State.resumeClerk s w).fixed = s.fixed := by simp [State.resumeClerk]

@[simp ↓] theorem State.haltIdle_fixed (s : State) (w : Nat) : (State.haltIdle s w).fixed = s.fixed := by simp [State.haltIdle]

@[simp ↓] theorem State.nextPc_fixed (s : State) (w : Nat) : (State.nextPc s w).fixed = s.fixed := by simp [State.nextPc]

@[simp ↓] theorem State.setFlag_fixed (s : State) (w : Nat) (k : Nat) (b : Bool) : (State.setFlag s w k b).fixed = s.fixed := by simp [State.setFlag]

@[simp ↓] theorem State.issued_fixed (s : State) (w : Nat) (b : Nat) (wait : Bool) : (State.issued s w b wait).fixed = s.fixed := by simp [State.issued]

@[simp ↓] theorem State.loadImage_fixed (s : State) (w : Nat) (k : Nat) (b : Nat) (img : List Nat) : (State.loadImage s w k b img).fixed = s.fixed := by
  unfold State.loadImage
  dsimp only
  rw [State.putClerk_fixed]
  apply State.each_fixed
  intro e s
  apply State.each_fixed
  intro j s
  simp

@[simp ↓] theorem State.scanKey_fixed (s : State) (w : Nat) : (State.scanKey s w).fixed = s.fixed := by
  simp only [State.scanKey]
  (repeat' split) <;> simp

@[simp ↓] theorem State.scanVictim_fixed (s : State) (w : Nat) (k : Nat) : (State.scanVictim s w k).fixed = s.fixed := by
  rw [State.scanVictim]
  generalize h : s.pickRandom _ = x
  match x, h with
  | some (t, p), h =>
    have h := State.pickRandom_fixed _ _ _ h
    rw [State.tookVictim, State.setFlag_fixed, State.setG_fixed]
    exact h
  | none, _ => rw [State.tookVictim, State.setFlag_fixed]

@[simp ↓] theorem State.scanEvict_fixed (s : State) (w : Nat) : (State.scanEvict s w).fixed = s.fixed := by
  unfold State.scanEvict
  dsimp only
  split
  · rename_i t b p heq
    simp [State.pickEvict_fixed _ _ _ _ heq]
  · simp

@[simp ↓] theorem State.countOutcome_fixed (s : State) (g : Nat) (o : Nat) : (State.countOutcome s g o).fixed = s.fixed := by simp [State.countOutcome]

@[simp ↓] theorem State.reloadStore_fixed (s : State) (w : Nat) : (State.reloadStore s w).fixed = s.fixed := by simp [State.reloadStore]

@[simp ↓] theorem State.clerkControlAct_fixed (s : State) (r : Req) : (State.clerkControlAct s r).state.fixed = s.fixed := by simp [State.clerkControlAct]

@[simp ↓] theorem State.laneCtlWritten_fixed (s : State) (n : Nat) (old : Nat) : (State.laneCtlWritten s n old).fixed = s.fixed := by simp [State.laneCtlWritten]

@[simp ↓] theorem State.prbsWritten_fixed (s : State) (n : Nat) (old : Nat) : (State.prbsWritten s n old).fixed = s.fixed := by simp [State.prbsWritten]

@[simp ↓] theorem State.timCtlWritten_fixed (s : State) (old : Nat) : (State.timCtlWritten s old).fixed = s.fixed := by simp [State.timCtlWritten]

@[simp ↓] theorem State.gateCfgWritten_fixed (s : State) (p : Nat) (old : Nat) (v : Nat) : (State.gateCfgWritten s p old v).fixed = s.fixed := by simp [State.gateCfgWritten]

@[simp ↓] theorem State.settleProfile_fixed (s : State) (p : Nat) : (State.settleProfile s p).fixed = s.fixed := by simp [State.settleProfile]

@[simp ↓] theorem State.clerkCtlWritten_fixed (s : State) (w : Nat) (old : Nat) : (State.clerkCtlWritten s w old).fixed = s.fixed := by simp [State.clerkCtlWritten]

@[simp ↓] theorem State.chanWritten_fixed (s : State) (r : Reg) (c : Nat) (old : Nat) : (State.chanWritten s r c old).fixed = s.fixed := by simp [State.chanWritten]

@[simp ↓] theorem State.quireWritten_fixed (s : State) (r : Reg) (i : Nat) (old : Nat) (v : Nat) : (State.quireWritten s r i old v).fixed = s.fixed := by simp [State.quireWritten]

@[simp ↓] theorem State.spineWritten_fixed (s : State) (r : Reg) (i : Nat) (old : Nat) : (State.spineWritten s r i old).fixed = s.fixed := by simp [State.spineWritten]

@[simp ↓] theorem State.centreWritten_fixed (s : State) (r : Reg) (i : Nat) (old : Nat) (v : Nat) : (State.centreWritten s r i old v).fixed = s.fixed := by simp [State.centreWritten]

@[simp ↓] theorem State.writeReg_fixed (s : State) (r : Reg) (i : Nat) (v : Nat) (h : 0x10 < r.base) : (State.writeReg s r i v).fixed = s.fixed := by
  rw [State.writeReg]
  dsimp only
  (repeat' split) <;> simp [h]

@[simp ↓] theorem State.meterWritten_fixed (s : State) (m : Nat) (o : Nat) (v : Nat) : (State.meterWritten s m o v).fixed = s.fixed := by simp [State.meterWritten]

@[simp ↓] theorem State.writeArray_fixed (s : State) (a : Nat) (v : Nat) : (State.writeArray s a v).fixed = s.fixed := by
  unfold State.writeArray
  split
  · dsimp only
    split
    · simp
    · rw [State.fixed_mk]
      simp
  · (repeat' split) <;> simp

@[simp ↓] theorem State.groupMsi_fixed (s : State) (g : Nat) : (State.groupMsi s g).fixed = s.fixed := by
  unfold State.groupMsi
  split <;> simp

@[simp ↓] theorem State.clearPend_fixed (s : State) (r : Reg) (g : Nat) (v : Nat) (h : 0x10 < r.base) : (State.clearPend s r g v).fixed = s.fixed := by
  unfold State.clearPend
  dsimp only
  split <;> simp [h]

@[simp ↓] theorem State.rawPut_fixed (s : State) (a : Nat) (v : Nat) : (State.rawPut s a v).fixed = s.fixed := by simp [State.rawPut]

@[simp ↓] theorem State.uncorr_fixed (s : State) (a : Nat) : (State.uncorr s a).fixed = s.fixed := by simp [State.uncorr]

@[simp ↓] theorem State.writeWord_fixed (s : State) (a : Nat) (v : Nat) (unc : Bool) : (State.writeWord s a v unc).fixed = s.fixed := by
  rw [State.writeWord]
  split
  · (repeat' split) <;> simp
  · generalize hx : findReg a = x
    cases x with
    | none =>
      dsimp only
      exact State.hostWrites_fixed s a _ (fun _ => by simp)
    | some x =>
      obtain ⟨r, i⟩ := x
      dsimp only
      split
      · rename_i hb
        exact State.wr_fixed _ _ _ _ (by rw [hb]; decide)
      · split
        · rename_i hb
          exact State.clearPend_fixed s r i v (by rcases hb with hb | hb <;> (rw [hb]; decide))
        · unfold State.hostWrites
          split
          · rename_i u hu
            split
            · exact State.writeReg_fixed s r i v (findReg_high hx (unitOfOffset_high hu))
            · simp
          · simp

@[simp ↓] theorem State.sizeErr_fixed (s : State) (a : Nat) : (State.sizeErr s a).fixed = s.fixed := by simp [State.sizeErr]

@[simp ↓] theorem State.hostStore_fixed (s : State) (a : Nat) (n : Nat) (v : Nat) (unc : Bool) : (State.hostStore s a n v unc).fixed = s.fixed := by simp [State.hostStore]

@[simp ↓] theorem State.countEvent_fixed (s : State) (src : Nat) : (State.countEvent s src).fixed = s.fixed := by
  unfold State.countEvent pendReg
  dsimp only
  split <;> simp

@[simp ↓] theorem State.countUnacked_fixed (s : State) : (State.countUnacked s).fixed = s.fixed := by simp [State.countUnacked]

@[simp ↓] theorem State.putSlots_fixed (s : State) (l : List FaultRec) : (State.putSlots s l).fixed = s.fixed := by simp [State.putSlots]

@[simp ↓] theorem State.recordLost_fixed (s : State) (src : Nat) : (State.recordLost s src).fixed = s.fixed := by simp [State.recordLost]

@[simp ↓] theorem State.writeRecord_fixed (s : State) (r : FaultRec) : (State.writeRecord s r).1.fixed = s.fixed := by
  unfold State.writeRecord
  split <;> simp

@[simp ↓] theorem State.pulseErrn_fixed (s : State) : (State.pulseErrn s).fixed = s.fixed := by simp [State.pulseErrn]

@[simp ↓] theorem State.loseCollector_fixed (s : State) (d : Nat) : (State.loseCollector s d).fixed = s.fixed := by simp [State.loseCollector]

@[simp ↓] theorem State.breakRails_fixed (s : State) (src : Nat) (rails : Nat) : (State.breakRails s src rails).fixed = s.fixed := by simp [State.breakRails]

@[simp ↓] theorem State.ackRecords_fixed (s : State) (p : FaultRec → Bool) : (State.ackRecords s p).fixed = s.fixed := by simp [State.ackRecords]

@[simp ↓] theorem State.faultConfigAct_fixed (s : State) (r : Req) : (State.faultConfigAct s r).state.fixed = s.fixed := by simp [State.faultConfigAct]

@[simp ↓] theorem State.classConfigAct_fixed (s : State) (r : Req) : (State.classConfigAct s r).state.fixed = s.fixed := by simp [State.classConfigAct]

@[simp ↓] theorem State.eventRouteAct_fixed (s : State) (r : Req) : (State.eventRouteAct s r).state.fixed = s.fixed := by simp [State.eventRouteAct]

@[simp ↓] theorem State.faultReadAct_fixed (s : State) (r : Req) : (State.faultReadAct s r).state.fixed = s.fixed := by simp [State.faultReadAct]

@[simp ↓] theorem State.faultAckAct_fixed (s : State) (r : Req) : (State.faultAckAct s r).state.fixed = s.fixed := by simp [State.faultAckAct]

@[simp ↓] theorem State.errnControlAct_fixed (s : State) (r : Req) : (State.errnControlAct s r).state.fixed = s.fixed := by simp [State.errnControlAct]

@[simp ↓] theorem State.showDesc_fixed (s : State) (c : Nat) (d : DmaDesc) : (State.showDesc s c d).fixed = s.fixed := by simp [State.showDesc]

@[simp ↓] theorem State.cutInject_fixed (s : State) (c : Nat) (aborted : Bool) : (State.cutInject s c aborted).fixed = s.fixed := by simp [State.cutInject]

@[simp ↓] theorem State.flushLinks_fixed (s : State) (c : Nat) : (State.flushLinks s c).fixed = s.fixed := by simp [State.flushLinks]

@[simp ↓] theorem State.followLink_fixed (s : State) (c : Nat) (d : DmaDesc) : (State.followLink s c d).fixed = s.fixed := by simp [State.followLink]

@[simp ↓] theorem State.finishDesc_fixed (s : State) (c : Nat) : (State.finishDesc s c).fixed = s.fixed := by
  simp only [State.finishDesc]
  (repeat' split) <;> simp

@[simp ↓] theorem State.issueBurst_fixed (s : State) (c : Nat) (unc : Bool) : (State.issueBurst s c unc).fixed = s.fixed := by
  simp only [State.issueBurst]
  (repeat' split) <;> simp

@[simp ↓] theorem State.rawBytes_fixed (s : State) (a : Nat) (bs : List Byte) : (State.rawBytes s a bs).fixed = s.fixed := by simp [State.rawBytes]

@[simp ↓] theorem State.readArrives_fixed (s : State) (c : Nat) (k : Nat) (n : Nat) (fails : Bool) (unc : Bool) : (State.readArrives s c k n fails unc).fixed = s.fixed := by
  simp only [State.readArrives]
  (repeat' split) <;> simp

@[simp ↓] theorem State.readsTimeOut_fixed (s : State) (c : Nat) : (State.readsTimeOut s c).fixed = s.fixed := by simp [State.readsTimeOut]

@[simp ↓] theorem State.runDesc_fixed (s : State) (c : Nat) (a2 : Nat) : (State.runDesc s c a2).fixed = s.fixed := by
  induction a2 generalizing s with
  | zero => rfl
  | succ n ih =>
    unfold State.runDesc
    split
    · rfl
    · dsimp only
      rw [ih]
      (repeat' split) <;> simp

@[simp ↓] theorem State.takeOp_fixed (s : State) (c : Nat) (op : Nat) (whole : Bool) : (State.takeOp s c op whole).fixed = s.fixed := by
  unfold State.takeOp
  (repeat' split) <;> simp

@[simp ↓] theorem State.startChan_fixed (s : State) (c : Nat) : (State.startChan s c).fixed = s.fixed := by simp [State.startChan]

@[simp ↓] theorem State.abortChan_fixed (s : State) (c : Nat) : (State.abortChan s c).fixed = s.fixed := by simp [State.abortChan]

@[simp ↓] theorem State.holdDma_fixed (s : State) (on : Bool) : (State.holdDma s on).fixed = s.fixed := by simp [State.holdDma]

@[simp ↓] theorem State.drainReads_fixed (s : State) (c : Nat) (a2 : Nat) : (State.drainReads s c a2).fixed = s.fixed := by
  induction a2 generalizing s with
  | zero => rfl
  | succ n ih =>
    unfold State.drainReads
    split
    · dsimp only
      rw [ih]
      split <;> simp
    · rfl

@[simp ↓] theorem State.fillPunted_fixed (s : State) (c : Nat) (word0 : Nat) (stamp : Nat) (word5 : Nat) (a5 : Bool) (a6 : List Byte) (a7 : List DmaDesc) : (State.fillPunted s c word0 stamp word5 a5 a6 a7).fixed = s.fixed := by
  induction a7 generalizing s a5 a6 with
  | nil => unfold State.fillPunted; rfl
  | cons d t ih =>
    unfold State.fillPunted
    dsimp only
    split <;> simp [ih]

@[simp ↓] theorem State.popHostq_fixed (s : State) (q : Nat) (k : Nat) (v : Desc) : (State.popHostq s q k v).fixed = s.fixed := by simp [State.popHostq]

@[simp ↓] theorem State.injectFrame_fixed (s : State) (c : Nat) (w0 : Nat) (w4 : Nat) (w5 : Nat) (body : List Byte) : (State.injectFrame s c w0 w4 w5 body).1.fixed = s.fixed := by simp [State.injectFrame]

@[simp ↓] theorem State.dmaChannelConfigAct_fixed (s : State) (r : Req) : (State.dmaChannelConfigAct s r).state.fixed = s.fixed := by simp [State.dmaChannelConfigAct]

@[simp ↓] theorem State.dmaChannelControlAct_fixed (s : State) (r : Req) : (State.dmaChannelControlAct s r).state.fixed = s.fixed := by simp [State.dmaChannelControlAct]

@[simp ↓] theorem State.hostqConfigAct_fixed (s : State) (r : Req) : (State.hostqConfigAct s r).state.fixed = s.fixed := by simp [State.hostqConfigAct]

@[simp ↓] theorem State.dmaGlobalConfigAct_fixed (s : State) (r : Req) : (State.dmaGlobalConfigAct s r).state.fixed = s.fixed := by simp [State.dmaGlobalConfigAct]

@[simp ↓] theorem State.linkDown_fixed (s : State) : (State.linkDown s).fixed = s.fixed := by
  unfold State.linkDown
  split <;> simp

@[simp ↓] theorem State.railLost_fixed (s : State) (r : Nat) : (State.railLost s r).fixed = s.fixed := by simp [State.railLost]

@[simp ↓] theorem State.holdCore_fixed (s : State) : (State.holdCore s).fixed = s.fixed := by
  unfold State.holdCore
  simp

@[simp ↓] theorem State.release_fixed (s : State) (resetN : Bool) (perstN : Bool) : (State.release s resetN perstN).fixed = s.fixed := by simp [State.release]

@[simp ↓] theorem State.latchI2c_fixed (s : State) (addr : Nat) : (State.latchI2c s addr).fixed = s.fixed := by simp [State.latchI2c]

@[simp ↓] theorem State.romServes_fixed (s : State) : (State.romServes s).fixed = s.fixed := by simp [State.romServes]

@[simp ↓] theorem State.runHold_fixed (s : State) : (State.runHold s).fixed = s.fixed := by simp [State.runHold]

@[simp ↓] theorem State.bootReject_fixed (s : State) : (State.bootReject s).fixed = s.fixed := by simp [State.bootReject]

@[simp ↓] theorem State.bootAbort_fixed (s : State) : (State.bootAbort s).fixed = s.fixed := by simp [State.bootAbort]

@[simp ↓] theorem State.bootCtl_fixed (s : State) (v : Nat) : (State.bootCtl s v).fixed = s.fixed := by simp [State.bootCtl]

@[simp ↓] theorem State.bootReg_fixed (s : State) (o : Nat) (w : List Byte) : (State.bootReg s o w).fixed = s.fixed := by
  unfold State.bootReg
  dsimp only
  (repeat' split) <;> simp

@[simp ↓] theorem State.bootWord_fixed (s : State) (path : Nat) (o : Nat) (w : List Byte) : (State.bootWord s path o w).fixed = s.fixed := by
  unfold State.bootWord
  split <;> simp

@[simp ↓] theorem State.bootWrite_fixed (s : State) (path : Nat) (off : Nat) (bs : List Byte) : (State.bootWrite s path off bs).fixed = s.fixed := by simp [State.bootWrite]

@[simp ↓] theorem State.hostBoot_fixed (s : State) (off : Nat) (bs : List Byte) : (State.hostBoot s off bs).fixed = s.fixed := by simp [State.hostBoot]

@[simp ↓] theorem State.rejectPage_fixed (s : State) (error : Nat) : (State.rejectPage s error).fixed = s.fixed := by simp [State.rejectPage]

@[simp ↓] theorem State.checkPage_fixed (s : State) (b : Nat) : (State.checkPage s b).fixed = s.fixed := by simp [State.checkPage]

@[simp ↓] theorem State.loadDefaults_fixed (s : State) : (State.loadDefaults s).fixed = s.fixed := by
  unfold State.loadDefaults
  apply State.each_fixed
  intro e s
  split
  · rfl
  · rename_i r i hr
    split
    · rfl
    · rename_i c m hc
      have h1 := List.mem_of_find?_eq_some hc
      have h2 : (charterRegs.all fun c => decide (0x10 < c.1.base)) = true := by decide
      have h3 := List.find?_some hc
      have h4 := (List.all_eq_true.1 h2) _ h1
      simp only [decide_eq_true_eq, beq_iff_eq] at h3 h4
      exact State.wr_fixed _ _ _ _ (h3 ▸ h4)

@[simp ↓] theorem State.placeCharter_fixed (s : State) : (State.placeCharter s).fixed = s.fixed := by simp [State.placeCharter]

@[simp ↓] theorem State.loadVersions_fixed (s : State) : (State.loadVersions s).fixed = s.fixed := by simp [State.loadVersions]

@[simp ↓] theorem State.firstLock_fixed (s : State) : (State.firstLock s).fixed = s.fixed := by simp [State.firstLock]

@[simp ↓] theorem State.discardImage_fixed (s : State) (error : Nat) : (State.discardImage s error).fixed = s.fixed := by simp [State.discardImage]

@[simp ↓] theorem State.settleStepping_fixed (s : State) (d : Nat) : (State.settleStepping s d).fixed = s.fixed := by simp [State.settleStepping]

@[simp ↓] theorem State.putStep_fixed (s : State) (d : Nat) (x : Option OpStep) : (State.putStep s d x).fixed = s.fixed := by simp [State.putStep]

@[simp ↓] theorem State.stepped_fixed (s : State) (d : Nat) (dest : Nat) : (State.stepped s d dest).fixed = s.fixed := by simp [State.stepped]

@[simp ↓] theorem State.thermSlower_fixed (s : State) (d : Nat) : (State.thermSlower s d).fixed = s.fixed := by simp [State.thermSlower]

@[simp ↓] theorem State.zoneCross_fixed (s : State) (z : Nat) (t : Int) (lim : Fld) (above : Fld) (set : Fld) (count : Fld) (ev : Nat) (h1 : 0x10 < above.reg.base) (h2 : 0x10 < set.reg.base) (h3 : 0x10 < count.reg.base) : (State.zoneCross s z t lim above set count ev).1.fixed = s.fixed := by
  unfold State.zoneCross
  dsimp only
  split
  · rw [State.note_fixed, State.setCounted_fixed _ _ _ _ h2 h3, State.setF_fixed _ _ _ _ h1]
  · rw [State.setF_fixed _ _ _ _ h1]

@[simp ↓] theorem State.sampleZone_fixed (s : State) (z : Nat) (l : List Int) : (State.sampleZone s z l).fixed = s.fixed := by simp [State.sampleZone]

@[simp ↓] theorem State.settleCap_fixed (s : State) : (State.settleCap s).fixed = s.fixed := by simp [State.settleCap]

@[simp ↓] theorem State.capRaise_fixed (s : State) : (State.capRaise s).fixed = s.fixed := by simp [State.capRaise]

@[simp ↓] theorem State.readPmbus_fixed (s : State) (reads : List (Option (Nat × Nat))) : (State.readPmbus s reads).fixed = s.fixed := by
  unfold State.readPmbus
  dsimp only
  split
  · rfl
  · apply State.each_fixed
    intro k s
    (repeat' split) <;> simp

@[simp ↓] theorem State.putReasons_fixed (s : State) (d : Nat) (mask : Nat) : (State.putReasons s d mask).fixed = s.fixed := by simp [State.putReasons]

@[simp ↓] theorem State.averagePower_fixed (s : State) (total : Nat) : (State.averagePower s total).fixed = s.fixed := by simp [State.averagePower]

@[simp ↓] theorem State.dieEstimates_fixed (s : State) (dies : List Nat) : (State.dieEstimates s dies).fixed = s.fixed := by simp [State.dieEstimates]

@[simp ↓] theorem State.countPeriod_fixed (s : State) : (State.countPeriod s).fixed = s.fixed := by simp [State.countPeriod]

@[simp ↓] theorem State.estimate_fixed (s : State) (total : Nat) (dies : List Nat) : (State.estimate s total dies).fixed = s.fixed := by simp [State.estimate]

@[simp ↓] theorem State.setCap_fixed (s : State) (r : Req) : (State.setCap s r).fixed = s.fixed := by simp [State.setCap]

@[simp ↓] theorem State.lowerCap_fixed (s : State) : (State.lowerCap s).fixed = s.fixed := by simp [State.lowerCap]

@[simp ↓] theorem State.govCapConfigAct_fixed (s : State) (r : Req) : (State.govCapConfigAct s r).state.fixed = s.fixed := by simp [State.govCapConfigAct]

@[simp ↓] theorem State.govProfileSetAct_fixed (s : State) (r : Req) : (State.govProfileSetAct s r).state.fixed = s.fixed := by simp [State.govProfileSetAct]

@[simp ↓] theorem State.govProfileSelectAct_fixed (s : State) (r : Req) : (State.govProfileSelectAct s r).state.fixed = s.fixed := by simp [State.govProfileSelectAct]

@[simp ↓] theorem State.govZoneConfigAct_fixed (s : State) (r : Req) : (State.govZoneConfigAct s r).state.fixed = s.fixed := by simp [State.govZoneConfigAct]

@[simp ↓] theorem State.govDroopConfigAct_fixed (s : State) (r : Req) : (State.govDroopConfigAct s r).state.fixed = s.fixed := by simp [State.govDroopConfigAct]

@[simp ↓] theorem State.govPmbusConfigAct_fixed (s : State) (r : Req) : (State.govPmbusConfigAct s r).state.fixed = s.fixed := by simp [State.govPmbusConfigAct]

@[simp ↓] theorem State.govReadAct_fixed (s : State) (r : Req) : (State.govReadAct s r).state.fixed = s.fixed := by simp [State.govReadAct]

@[simp ↓] theorem State.putJtag_fixed (s : State) (j : Jtag) : (State.putJtag s j).fixed = s.fixed := by simp [State.putJtag]

@[simp ↓] theorem State.tapReset_fixed (s : State) : (State.tapReset s).fixed = s.fixed := by simp [State.tapReset]

@[simp ↓] theorem State.tapRise_fixed (s : State) (tms : Bool) (tdi : Bool) : (State.tapRise s tms tdi).fixed = s.fixed := by simp [State.tapRise]

@[simp ↓] theorem State.tapFall_fixed (s : State) : (State.tapFall s).fixed = s.fixed := by
  simp only [State.tapFall]
  (repeat' split) <;> simp

@[simp ↓] theorem State.areaPiece_fixed (s : State) (path : Nat) (o : Nat) (w : List Byte) : (State.areaPiece s path o w).fixed = s.fixed := by simp [State.areaPiece]

@[simp ↓] theorem State.areaWrite_fixed (s : State) (path : Nat) (off : Nat) (bs : List Byte) : (State.areaWrite s path off bs).fixed = s.fixed := by simp [State.areaWrite]

@[simp ↓] theorem State.acceptDoorbell_fixed (s : State) (path : Nat) (m : Nat) (seq : Nat) : (State.acceptDoorbell s path m seq).fixed = s.fixed := by
  unfold State.acceptDoorbell
  simp

@[simp ↓] theorem State.replay_fixed (s : State) (path : Nat) (m : Nat) : (State.replay s path m).fixed = s.fixed := by simp [State.replay]

@[simp ↓] theorem State.dropDoorbell_fixed (s : State) (path : Nat) (m : Nat) : (State.dropDoorbell s path m).fixed = s.fixed := by simp [State.dropDoorbell]

@[simp ↓] theorem State.doorbell_fixed (s : State) (path : Nat) (m : Nat) (seq : Nat) : (State.doorbell s path m seq).fixed = s.fixed := by simp [State.doorbell]

@[simp ↓] theorem State.setCtl_fixed (s : State) (m : Nat) (v : Nat) : (State.setCtl s m v).fixed = s.fixed := by simp [State.setCtl]

@[simp ↓] theorem State.ctlWrite_fixed (s : State) (path : Nat) (m : Nat) (v : Nat) : (State.ctlWrite s path m v).fixed = s.fixed := by simp [State.ctlWrite]

@[simp ↓] theorem State.controlWrite_fixed (s : State) (path : Nat) (m : Nat) (o : Nat) (w : List Byte) : (State.controlWrite s path m o w).fixed = s.fixed := by simp [State.controlWrite]

@[simp ↓] theorem State.controlWrites_fixed (s : State) (path : Nat) (m : Nat) (base : Nat) (off : Nat) (bs : List Byte) : (State.controlWrites s path m base off bs).fixed = s.fixed := by simp [State.controlWrites]

@[simp ↓] theorem State.serialRead_fixed (s : State) (off : Nat) (n : Nat) (f : Nat → Option Byte) : (State.serialRead s off n f).fixed = s.fixed := by simp [State.serialRead]

@[simp ↓] theorem State.spiWrite_fixed (s : State) (addr : Nat) (bs : List Byte) : (State.spiWrite s addr bs).fixed = s.fixed := by simp [State.spiWrite]

@[simp ↓] theorem State.spiRead_fixed (s : State) (addr : Nat) (n : Nat) : (State.spiRead s addr n).fixed = s.fixed := by simp [State.spiRead]

@[simp ↓] theorem State.nopAct_fixed (s : State) (r : Req) : (State.nopAct s r).state.fixed = s.fixed := by simp [State.nopAct]

@[simp ↓] theorem State.identifyAct_fixed (s : State) (a1 : Req) : (State.identifyAct s a1).state.fixed = s.fixed := by simp [State.identifyAct]

@[simp ↓] theorem State.asyncResultAct_fixed (s : State) (r : Req) : (State.asyncResultAct s r).state.fixed = s.fixed := by
  simp only [State.asyncResultAct]
  (repeat' split) <;> simp

@[simp ↓] theorem State.abortNamed_fixed (s : State) (own : Nat) (m : Nat) (seq : Nat) : (State.abortNamed s own m seq).1.fixed = s.fixed := by
  unfold State.abortNamed
  (repeat' split) <;> simp

@[simp ↓] theorem State.abortCommandAct_fixed (s : State) (m : Nat) (r : Req) : (State.abortCommandAct s m r).state.fixed = s.fixed := by simp [State.abortCommandAct]

@[simp ↓] theorem State.historyReadAct_fixed (s : State) (r : Req) : (State.historyReadAct s r).state.fixed = s.fixed := by simp [State.historyReadAct]

@[simp ↓] theorem State.grantAct_fixed (s : State) (r : Req) : (State.grantAct s r).state.fixed = s.fixed := by
  rw [State.grantAct]
  split
  · rfl
  · dsimp only
    rw [Ans.ok_state, State.fixed_mk]
    simp

@[simp ↓] theorem State.revokeAct_fixed (s : State) (r : Req) : (State.revokeAct s r).state.fixed = s.fixed := by
  unfold State.revokeAct
  (repeat' split) <;> simp

@[simp ↓] theorem State.resetConfigAct_fixed (s : State) (r : Req) : (State.resetConfigAct s r).state.fixed = s.fixed := by simp [State.resetConfigAct]

@[simp ↓] theorem State.rejectPatch_fixed (s : State) (code : Nat) : (State.rejectPatch s code).fixed = s.fixed := by simp [State.rejectPatch]

@[simp ↓] theorem State.putPatch_fixed (s : State) (p : Option Patch) : (State.putPatch s p).fixed = s.fixed := by simp [State.putPatch]

theorem State.fetchPatch_fixed (s : State) (x : Exec) (r : Req) (a : Ans) (h : s.fetchPatch x r = .inl a) : a.state.fixed = s.fixed := by
  unfold State.fetchPatch at h
  split at h
  · cases h
    simp
  · split at h
    · cases h
      simp
    · split at h
      · cases h
        simp
      · cases h

@[simp ↓] theorem State.settleLanes_fixed (s : State) : (State.settleLanes s).fixed = s.fixed := by simp [State.settleLanes]

@[simp ↓] theorem State.discardVault_fixed (s : State) : (State.discardVault s).fixed = s.fixed := by simp [State.discardVault]

end Sys2Proof.Machine
end

