-- ==== Sys2Proof/Laws/Mail.lean ====
section
/-! SUPPORT. What an answer to a mailbox command does and leaves alone, and what a command comes to whose checks pass or fail. -/
namespace Sys2Proof.Machine

/-- `t` is `s` but for the register file, the Teller, the Clearing House, the free values taken and the MSI-X messages sent. -/
def Answers (s t : State) : Prop := t = { s with regs := t.regs, tlr := t.tlr, clh := t.clh, fresh := t.fresh, msix := t.msix }

theorem Answers.refl (s : State) : Answers s s := (rfl)

theorem Answers.trans {s t u : State} (h : Answers s t) (g : Answers t u) : Answers s u := by
  unfold Answers at *
  rw [g, h]

theorem Answers.wr (s : State) (r : Reg) (i v : Nat) : Answers s (s.wr r i v) := (rfl)
theorem Answers.setF (s : State) (f : Fld) (i v : Nat) : Answers s (s.setF f i v) := (rfl)
theorem Answers.inc (s : State) (f : Fld) (i : Nat) : Answers s (s.inc f i) := (rfl)
theorem Answers.putArea (s : State) (o : Nat) (bs : List Byte) : Answers s (s.putArea o bs) := (rfl)

theorem Answers.tlr (s : State) (x : Tlr) : Answers s { s with tlr := x } := (rfl)

theorem Answers.raise (s : State) (a d : Nat) : Answers s (s.raise a d) := by
  unfold State.raise
  split <;> rfl

theorem Answers.note (s : State) (a : Nat) : Answers s (s.note a) := (Answers.raise s a _).trans (rfl)

theorem Answers.sendMsi (s : State) (v : Nat) : Answers s (s.sendMsi v) := by
  unfold State.sendMsi
  split
  · rfl
  · split <;> rfl

theorem Answers.history (s : State) (m a k : Nat) (x y z : List Byte) : Answers s (s.history m a k x y z) := by
  unfold State.history
  exact Answers.trans (Answers.tlr s _) (Answers.setF _ _ _ _)

theorem Answers.deadline (s : State) (r : Req) (st : Nat) : Answers s (s.deadline r st) := by
  unfold State.deadline
  split
  · exact (Answers.inc s _ _).trans (Answers.note _ _)
  · rfl

theorem Answers.completionMsi (s : State) (m : Nat) (q : Bool) : Answers s (s.completionMsi m q) := by
  unfold State.completionMsi
  split
  · exact Answers.sendMsi s _
  · rfl

/-- A response writes registers, the Teller's state, raises and messages, and nothing else. -/
theorem State.respond_answers (s : State) (m : Nat) (r : Req) (st d : Nat) (resp : List Byte) : Answers s (s.respond m r st d resp) := by
  unfold State.respond
  dsimp only
  refine Answers.trans ?_ (Answers.completionMsi _ _ _)
  refine Answers.trans ?_ (Answers.history _ _ _ _ _ _ _)
  refine Answers.trans ?_ (Answers.deadline _ _ _)
  refine Answers.trans ?_ (Answers.tlr _ _)
  refine Answers.trans ?_ (Answers.setF _ _ _ _)
  refine Answers.trans ?_ (Answers.setF _ _ _ _)
  refine Answers.trans ?_ (Answers.setF _ _ _ _)
  refine Answers.trans ?_ (Answers.setF _ _ _ _)
  refine Answers.trans ?_ (Answers.setF _ _ _ _)
  exact Answers.trans (Answers.putArea _ _ _) (Answers.putArea _ _ _)

@[simp] theorem State.respond_pending (s : State) (m : Nat) (r : Req) (st d : Nat) (resp : List Byte) : (s.respond m r st d resp).pending = s.pending := by
  rw [State.respond_answers s m r st d resp]
@[simp] theorem State.respond_now (s : State) (m : Nat) (r : Req) (st d : Nat) (resp : List Byte) : (s.respond m r st d resp).now = s.now := by
  rw [State.respond_answers s m r st d resp]
@[simp] theorem State.respond_pins (s : State) (m : Nat) (r : Req) (st d : Nat) (resp : List Byte) : (s.respond m r st d resp).pins = s.pins := by
  rw [State.respond_answers s m r st d resp]
@[simp] theorem State.respond_boot (s : State) (m : Nat) (r : Req) (st d : Nat) (resp : List Byte) : (s.respond m r st d resp).boot = s.boot := by
  rw [State.respond_answers s m r st d resp]
@[simp] theorem State.respond_ckg (s : State) (m : Nat) (r : Req) (st d : Nat) (resp : List Byte) : (s.respond m r st d resp).ckg = s.ckg := by
  rw [State.respond_answers s m r st d resp]
@[simp] theorem State.respond_host (s : State) (m : Nat) (r : Req) (st d : Nat) (resp : List Byte) : (s.respond m r st d resp).host = s.host := by
  rw [State.respond_answers s m r st d resp]
@[simp] theorem State.respond_lanes (s : State) (m : Nat) (r : Req) (st d : Nat) (resp : List Byte) : (s.respond m r st d resp).lanes = s.lanes := by
  rw [State.respond_answers s m r st d resp]
@[simp] theorem State.respond_stitch (s : State) (m : Nat) (r : Req) (st d : Nat) (resp : List Byte) : (s.respond m r st d resp).stitch = s.stitch := by
  rw [State.respond_answers s m r st d resp]
@[simp] theorem State.respond_macs (s : State) (m : Nat) (r : Req) (st d : Nat) (resp : List Byte) : (s.respond m r st d resp).macs = s.macs := by
  rw [State.respond_answers s m r st d resp]
@[simp] theorem State.respond_vlt (s : State) (m : Nat) (r : Req) (st d : Nat) (resp : List Byte) : (s.respond m r st d resp).vlt = s.vlt := by
  rw [State.respond_answers s m r st d resp]
@[simp] theorem State.respond_copies (s : State) (m : Nat) (r : Req) (st d : Nat) (resp : List Byte) : (s.respond m r st d resp).copies = s.copies := by
  rw [State.respond_answers s m r st d resp]
@[simp] theorem State.respond_nextCopy (s : State) (m : Nat) (r : Req) (st d : Nat) (resp : List Byte) : (s.respond m r st d resp).nextCopy = s.nextCopy := by
  rw [State.respond_answers s m r st d resp]
@[simp] theorem State.respond_queues (s : State) (m : Nat) (r : Req) (st d : Nat) (resp : List Byte) : (s.respond m r st d resp).queues = s.queues := by
  rw [State.respond_answers s m r st d resp]
@[simp] theorem State.respond_qsc (s : State) (m : Nat) (r : Req) (st d : Nat) (resp : List Byte) : (s.respond m r st d resp).qsc = s.qsc := by
  rw [State.respond_answers s m r st d resp]
@[simp] theorem State.respond_prs (s : State) (m : Nat) (r : Req) (st d : Nat) (resp : List Byte) : (s.respond m r st d resp).prs = s.prs := by
  rw [State.respond_answers s m r st d resp]
@[simp] theorem State.respond_tim (s : State) (m : Nat) (r : Req) (st d : Nat) (resp : List Byte) : (s.respond m r st d resp).tim = s.tim := by
  rw [State.respond_answers s m r st d resp]
@[simp] theorem State.respond_cls (s : State) (m : Nat) (r : Req) (st d : Nat) (resp : List Byte) : (s.respond m r st d resp).cls = s.cls := by
  rw [State.respond_answers s m r st d resp]
@[simp] theorem State.respond_ldg (s : State) (m : Nat) (r : Req) (st d : Nat) (resp : List Byte) : (s.respond m r st d resp).ldg = s.ldg := by
  rw [State.respond_answers s m r st d resp]
@[simp] theorem State.respond_cth (s : State) (m : Nat) (r : Req) (st d : Nat) (resp : List Byte) : (s.respond m r st d resp).cth = s.cth := by
  rw [State.respond_answers s m r st d resp]
@[simp] theorem State.respond_tly (s : State) (m : Nat) (r : Req) (st d : Nat) (resp : List Byte) : (s.respond m r st d resp).tly = s.tly := by
  rw [State.respond_answers s m r st d resp]
@[simp] theorem State.respond_gov (s : State) (m : Nat) (r : Req) (st d : Nat) (resp : List Byte) : (s.respond m r st d resp).gov = s.gov := by
  rw [State.respond_answers s m r st d resp]
@[simp] theorem State.respond_dma (s : State) (m : Nat) (r : Req) (st d : Nat) (resp : List Byte) : (s.respond m r st d resp).dma = s.dma := by
  rw [State.respond_answers s m r st d resp]
@[simp] theorem State.respond_arrays (s : State) (m : Nat) (r : Req) (st d : Nat) (resp : List Byte) : (s.respond m r st d resp).arrays = s.arrays := by
  rw [State.respond_answers s m r st d resp]
@[simp] theorem State.respond_hostqs (s : State) (m : Nat) (r : Req) (st d : Nat) (resp : List Byte) : (s.respond m r st d resp).hostqs = s.hostqs := by
  rw [State.respond_answers s m r st d resp]
@[simp] theorem State.respond_feXoff (s : State) (m : Nat) (r : Req) (st d : Nat) (resp : List Byte) : (s.respond m r st d resp).feXoff = s.feXoff := by
  rw [State.respond_answers s m r st d resp]
@[simp] theorem State.respond_jtag (s : State) (m : Nat) (r : Req) (st d : Nat) (resp : List Byte) : (s.respond m r st d resp).jtag = s.jtag := by
  rw [State.respond_answers s m r st d resp]
@[simp] theorem State.respond_loLatch (s : State) (m : Nat) (r : Req) (st d : Nat) (resp : List Byte) : (s.respond m r st d resp).loLatch = s.loLatch := by
  rw [State.respond_answers s m r st d resp]
@[simp] theorem State.respond_readData (s : State) (m : Nat) (r : Req) (st d : Nat) (resp : List Byte) : (s.respond m r st d resp).readData = s.readData := by
  rw [State.respond_answers s m r st d resp]

/-! ### Registers -/

theorem State.sendMsi_rd (s : State) (v : Nat) (q : Reg) (j : Nat) (h : q.key j < 0x100901000) : (s.sendMsi v).rd q j = s.rd q j := by
  have h1 := Reg.base_le R.MSIX_PBA (v / 32)
  have h2 : R.MSIX_PBA.base = 0x100901000 := by decide
  unfold State.sendMsi
  split
  · rfl
  · split
    · exact State.rd_wr_ne _ _ (by omega)
    · rfl

theorem State.completionMsi_rd (s : State) (m : Nat) (b : Bool) (q : Reg) (j : Nat) (h : q.key j < 0x100901000) :
    (s.completionMsi m b).rd q j = s.rd q j := by
  unfold State.completionMsi
  split
  · exact State.sendMsi_rd s _ q j h
  · rfl

theorem State.history_rd (s : State) (m a k : Nat) (x y z : List Byte) (q : Reg) (j : Nat) (h : q.key j ≠ R.TLR_HIST_HEAD.key 0) :
    (s.history m a k x y z).rd q j = s.rd q j := by
  unfold State.history
  dsimp only
  rw [State.rd_setF_ne _ _ h]
  exact State.rd_congr (rfl) q j

theorem State.deadline_rd (s : State) (r : Req) (st : Nat) (q : Reg) (j : Nat) (h : q.key j ≠ R.TLR_DEADLINE_MISSES.key 0) :
    (s.deadline r st).rd q j = s.rd q j := by
  unfold State.deadline
  split
  · rw [State.note_rd]
    exact State.rd_wr_ne s _ h
  · rfl

theorem State.setF_regs_congr {s t : State} (h : t.regs = s.regs) (f : Fld) (i v : Nat) : (t.setF f i v).regs = (s.setF f i v).regs := by
  unfold State.setF State.wr
  rw [State.rd_congr h, h]

/-- The part of a response that comes before its deadline, its history entry and its message. -/
def State.respondRegs (s : State) (m : Nat) (r : Req) : State :=
  (((((s.setF F.MBX_STATUS_RESP_VALID m 1).setF F.MBX_STATUS_BUSY m 0).setF F.MBX_LAST_LAST_SEQ m r.doorbell).setF F.MBX_LAST_LAST_VALID m 1)).setF
    F.TLR_MBX_RUN_STATE m 0

theorem State.respond_rd_regs (s : State) (m : Nat) (r : Req) (st d : Nat) (resp : List Byte) (q : Reg) (j : Nat) (h : q.key j < 0x100901000)
    (h1 : q.key j ≠ R.TLR_HIST_HEAD.key 0) (h2 : q.key j ≠ R.TLR_DEADLINE_MISSES.key 0) :
    (s.respond m r st d resp).rd q j = (s.respondRegs m r).rd q j := by
  unfold State.respond
  dsimp only
  rw [State.completionMsi_rd _ _ _ _ _ h, State.history_rd _ _ _ _ _ _ _ _ _ h1, State.deadline_rd _ _ _ _ _ h2]
  apply State.rd_congr
  unfold State.respondRegs
  dsimp only
  iterate 5 apply State.setF_regs_congr
  rfl

/-- A response leaves every register outside the mailboxes, the Teller's block and MSIX_PBA alone. -/
theorem State.respond_rd (s : State) (m : Nat) (r : Req) (st d : Nat) (resp : List Byte) (q : Reg) (j : Nat) (hm : m < 8)
    (h : q.key j < 0x1000000 ∨ (0x2000000 ≤ q.key j ∧ q.key j < 0x100000000)) : (s.respond m r st d resp).rd q j = s.rd q j := by
  have a1 : R.MBX_STATUS.key m = 0x100010004 + m * 0x20 := (rfl)
  have a2 : R.MBX_LAST.key m = 0x100010008 + m * 0x20 := (rfl)
  have a3 : R.TLR_MBX_RUN.key m = 0x1000014 + m * 0x10 := (rfl)
  have a4 : R.TLR_HIST_HEAD.key 0 = 0x1000310 := by decide
  have a5 : R.TLR_DEADLINE_MISSES.key 0 = 0x1000324 := by decide
  rw [State.respond_rd_regs _ _ _ _ _ _ _ _ (by omega) (by omega) (by omega)]
  unfold State.respondRegs
  rw [State.rd_setF_ne _ _ (by show q.key j ≠ R.TLR_MBX_RUN.key m; omega), State.rd_setF_ne _ _ (by show q.key j ≠ R.MBX_LAST.key m; omega),
    State.rd_setF_ne _ _ (by show q.key j ≠ R.MBX_LAST.key m; omega), State.rd_setF_ne _ _ (by show q.key j ≠ R.MBX_STATUS.key m; omega),
    State.rd_setF_ne _ _ (by show q.key j ≠ R.MBX_STATUS.key m; omega)]

theorem State.respond_fld (s : State) (m : Nat) (r : Req) (st d : Nat) (resp : List Byte) (f : Fld) (j : Nat) (hm : m < 8)
    (h : f.reg.key j < 0x1000000 ∨ (0x2000000 ≤ f.reg.key j ∧ f.reg.key j < 0x100000000)) : (s.respond m r st d resp).fld f j = s.fld f j := by
  unfold State.fld
  rw [State.respond_rd _ _ _ _ _ _ _ _ hm h]

theorem mbx_key_ne (m : Nat) : R.MBX_STATUS.key m ≠ R.MBX_LAST.key m ∧ R.MBX_STATUS.key m ≠ R.TLR_MBX_RUN.key m ∧ R.MBX_LAST.key m ≠ R.TLR_MBX_RUN.key m
    ∨ 8 ≤ m := by
  have a1 : R.MBX_STATUS.key m = 0x100010004 + m * 0x20 := (rfl)
  have a2 : R.MBX_LAST.key m = 0x100010008 + m * 0x20 := (rfl)
  have a3 : R.TLR_MBX_RUN.key m = 0x1000014 + m * 0x10 := (rfl)
  by_cases hm : m < 8
  · exact .inl ⟨by omega, by omega, by omega⟩
  · exact .inr (by omega)

/-- After a response BUSY is 0. -/
theorem State.respond_busy (s : State) (m : Nat) (r : Req) (st d : Nat) (resp : List Byte) (hm : m < 8) :
    (s.respond m r st d resp).fld F.MBX_STATUS_BUSY m = 0 := by
  have a1 : R.MBX_STATUS.key m = 0x100010004 + m * 0x20 := (rfl)
  have a4 : R.TLR_HIST_HEAD.key 0 = 0x1000310 := by decide
  have a5 : R.TLR_DEADLINE_MISSES.key 0 = 0x1000324 := by decide
  obtain ⟨k1, k2, k3⟩ := (mbx_key_ne m).resolve_right (by omega)
  unfold State.fld
  rw [State.respond_rd_regs _ _ _ _ _ _ _ _ (by show R.MBX_STATUS.key m < _; omega) (by show R.MBX_STATUS.key m ≠ _; omega)
    (by show R.MBX_STATUS.key m ≠ _; omega)]
  show (s.respondRegs m r).fld F.MBX_STATUS_BUSY m = 0
  unfold State.respondRegs
  rw [State.fld_setF_ne _ _ k2, State.fld_setF_ne _ _ k1, State.fld_setF_ne _ _ k1, State.fld_setF_same _ _ _ _ (by decide)]
  rfl

/-- After a response RESP_VALID is 1. -/
theorem State.respond_valid (s : State) (m : Nat) (r : Req) (st d : Nat) (resp : List Byte) (hm : m < 8) :
    (s.respond m r st d resp).fld F.MBX_STATUS_RESP_VALID m = 1 := by
  have a1 : R.MBX_STATUS.key m = 0x100010004 + m * 0x20 := (rfl)
  have a4 : R.TLR_HIST_HEAD.key 0 = 0x1000310 := by decide
  have a5 : R.TLR_DEADLINE_MISSES.key 0 = 0x1000324 := by decide
  obtain ⟨k1, k2, k3⟩ := (mbx_key_ne m).resolve_right (by omega)
  unfold State.fld
  rw [State.respond_rd_regs _ _ _ _ _ _ _ _ (by show R.MBX_STATUS.key m < _; omega) (by show R.MBX_STATUS.key m ≠ _; omega)
    (by show R.MBX_STATUS.key m ≠ _; omega)]
  show (s.respondRegs m r).fld F.MBX_STATUS_RESP_VALID m = 1
  unfold State.respondRegs
  rw [State.fld_setF_ne _ _ k2, State.fld_setF_ne _ _ k1, State.fld_setF_ne _ _ k1, State.fld_setF_other _ _ _ _ _ (by rfl) (by decide) (by decide),
    State.fld_setF_same _ _ _ _ (by decide)]
  rfl

/-- After a response LAST_SEQ is the SEQ of the doorbell. -/
theorem State.respond_last (s : State) (m : Nat) (r : Req) (st d : Nat) (resp : List Byte) (hm : m < 8) :
    (s.respond m r st d resp).fld F.MBX_LAST_LAST_SEQ m = r.doorbell % 2 ^ 16 := by
  have a1 : R.MBX_LAST.key m = 0x100010008 + m * 0x20 := (rfl)
  have a4 : R.TLR_HIST_HEAD.key 0 = 0x1000310 := by decide
  have a5 : R.TLR_DEADLINE_MISSES.key 0 = 0x1000324 := by decide
  obtain ⟨k1, k2, k3⟩ := (mbx_key_ne m).resolve_right (by omega)
  unfold State.fld
  rw [State.respond_rd_regs _ _ _ _ _ _ _ _ (by show R.MBX_LAST.key m < _; omega) (by show R.MBX_LAST.key m ≠ _; omega)
    (by show R.MBX_LAST.key m ≠ _; omega)]
  show (s.respondRegs m r).fld F.MBX_LAST_LAST_SEQ m = _
  unfold State.respondRegs
  rw [State.fld_setF_ne _ _ k3, State.fld_setF_other _ _ _ _ _ (by rfl) (by decide) (by decide), State.fld_setF_same _ _ _ _ (by decide)]
  rfl

/-! ### The response area -/

theorem State.area_congr {s t : State} (h : t.tlr.area = s.tlr.area) (o n : Nat) : t.area o n = s.area o n := by
  unfold State.area
  rw [h]

theorem State.raise_tlr_area (s : State) (a d : Nat) : (s.raise a d).tlr.area = s.tlr.area := by rw [State.raise_tlr]

theorem leBytes_length (n v : Nat) : (leBytes n v).length = n := by
  induction n generalizing v with
  | zero => rfl
  | succ n ih => simp [leBytes, ih]

theorem State.respHeader_length (s : State) (r : Req) (st n d : Nat) : (s.respHeader r st n d).length = 16 := by
  simp [State.respHeader, w32, leBytes_length]

theorem State.respond_tlr_area (s : State) (m : Nat) (r : Req) (st d : Nat) (resp : List Byte) :
    (s.respond m r st d resp).tlr.area
      = Tab.setList 0 (Tab.setList 0 s.tlr.area (0x1000 * m + 0x810) resp) (0x1000 * m + 0x800) (s.respHeader r st resp.length d) := by
  have h1 : ∀ (t : State) (b : Bool), (t.completionMsi m b).tlr.area = t.tlr.area := by
    intro t b
    unfold State.completionMsi
    split
    · rw [State.sendMsi_tlr]
    · rfl
  have h2 : ∀ (t : State) (r : Req) (x : Nat), (t.deadline r x).tlr.area = t.tlr.area := by
    intro t r x
    unfold State.deadline
    split
    · rw [State.note_tlr, State.inc_tlr]
    · rfl
  unfold State.respond
  dsimp only
  rw [h1]
  unfold State.history
  dsimp only
  rw [State.setF_tlr]
  dsimp only
  rw [h2]
  rfl

/-- The header of the response stands in the response area. -/
theorem State.respond_header (s : State) (m : Nat) (r : Req) (st d : Nat) (resp : List Byte) :
    (s.respond m r st d resp).area (0x1000 * m + 0x800) 16 = s.respHeader r st resp.length d := by
  unfold State.area
  rw [State.respond_tlr_area]
  have h := Tab.getList_setList_same (0 : Byte) (s.respHeader r st resp.length d) (Tab.setList 0 s.tlr.area (0x1000 * m + 0x810) resp) (0x1000 * m + 0x800)
  rwa [State.respHeader_length] at h

/-- The response's own fields stand behind its header. -/
theorem State.respond_resp (s : State) (m : Nat) (r : Req) (st d : Nat) (resp : List Byte) :
    (s.respond m r st d resp).area (0x1000 * m + 0x810) resp.length = resp := by
  unfold State.area
  rw [State.respond_tlr_area, Tab.getList_setList_ne _ _ _ _ _ _ (.inr (by rw [State.respHeader_length])), Tab.getList_setList_same]

/-! ### Commands -/

/-- A command whose checks fail is answered with the first failure, and nothing else happens (R94). -/
theorem State.runCmd_fails {s : State} {m : Nat} {c : Cmd} {checks : Req → Checks} {act : Req → Ans} {r : Req} {e : Nat × Nat} (h : s.takes m c = some r)
    (g : s.firstCheck c (checks (filled c (checks r).dflt r)) r false = some e) : s.runCmd m c checks act = s.respond m r e.1 e.2 [] := by
  unfold State.runCmd
  rw [h]
  dsimp only
  rw [g]

/-- The mode of a command whose checks pass is one it is accepted in (R45, R94). -/
theorem State.firstCheck_mode {s : State} {c : Cmd} {k : Checks} {r : Req} {b : Bool} (h : s.firstCheck c k r b = none) : bit k.modes s.mode = true := by
  unfold State.firstCheck at h
  split at h
  · cases h
  · split at h
    · cases h
    · rename_i h1
      simpa using h1

/-- A command whose checks pass is answered with what its effect answers. -/
theorem State.runCmd_runs {s t : State} {m : Nat} {c : Cmd} {checks : Req → Checks} {act : Req → Ans} {r : Req} {st d : Nat} {resp : List Byte}
    (h : s.takes m c = some r) (g : s.firstCheck c (checks (filled c (checks r).dflt r)) r false = none)
    (ha : act (filled c (checks r).dflt r) = .done t st d resp) (ht : t.mode ≠ 0) :
    s.runCmd m c checks act = t.respond m (filled c (checks r).dflt r) st d (respParams c (filled c (checks r).dflt r) st resp) := by
  unfold State.runCmd
  rw [h]
  dsimp only
  rw [g]
  dsimp only
  rw [ha]
  dsimp only
  rw [if_neg ht]

end Sys2Proof.Machine
end

