-- ==== Sys2Proof/Laws/Memory.lean ====
section
/-! SUPPORT. The addressed memories of the part and the host's: every operation on them keeps their canonical form, and what a read gives after one. -/
namespace Sys2Proof.Machine

theorem Memory.wf_iff (s : State) : Memory.wf s = true ↔ Tab.wf 0 s.arrays = true ∧ Tab.wf none s.host = true ∧ Tab.wf 0 s.tlr.mem = true
    ∧ Tab.wf 0 s.tlr.area = true ∧ Tab.wf 0 s.boot.buf = true := by
  simp [Memory.wf, and_assoc]

theorem Memory.wf_reset : Memory.wf State.reset = true := by decide

/-- A step that leaves the memories alone keeps their form. -/
theorem Memory.wf_of {s t : State} (h : Memory.wf s = true) (ha : t.arrays = s.arrays) (hh : t.host = s.host) (hm : t.tlr.mem = s.tlr.mem)
    (hr : t.tlr.area = s.tlr.area) (hb : t.boot.buf = s.boot.buf) : Memory.wf t = true := by
  rw [Memory.wf, ha, hh, hm, hr, hb]
  exact h

theorem Memory.wf_wr {s : State} (r : Reg) (i v : Nat) (h : Memory.wf s = true) : Memory.wf (s.wr r i v) = true := h

theorem Memory.wf_putArr {s : State} (a : Nat) (bs : List Byte) (h : Memory.wf s = true) : Memory.wf (s.putArr a bs) = true := by
  rw [Memory.wf_iff] at h ⊢
  exact ⟨Tab.wf_setList 0 bs a h.1, h.2⟩

theorem Memory.wf_hostWrite {s : State} (a : Nat) (bs : List Byte) (h : Memory.wf s = true) : Memory.wf (s.hostWrite a bs) = true := by
  rw [Memory.wf_iff] at h ⊢
  exact ⟨h.1, Tab.wf_setList none _ a h.2.1, h.2.2⟩

theorem Memory.wf_putArea {s : State} (a : Nat) (bs : List Byte) (h : Memory.wf s = true) : Memory.wf (s.putArea a bs) = true := by
  rw [Memory.wf_iff] at h ⊢
  exact ⟨h.1, h.2.1, h.2.2.1, Tab.wf_setList 0 bs a h.2.2.2.1, h.2.2.2.2⟩

/-- The arrays that a block reset leaves keep their form. -/
theorem Memory.wf_filterArrays {s : State} (p : Nat × Byte → Bool) (h : Memory.wf s = true) :
    Memory.wf { s with arrays := s.arrays.filter p } = true := by
  rw [Memory.wf_iff] at h ⊢
  refine ⟨?_, h.2⟩
  have ha := (Tab.wf_iff _ _).1 h.1
  exact (Tab.wf_iff _ _).2 ⟨Tab.sorted_filter p ha.1, fun e he => ha.2 e (List.mem_filter.1 he).1⟩

/-- The boot buffer that a page is written into keeps its form, and so does Teller memory as a Charter fills it. -/
theorem Memory.wf_setBoot {s : State} (o : Nat) (bs : List Byte) (h : Memory.wf s = true) :
    Memory.wf { s with boot := { s.boot with buf := Tab.setList 0 s.boot.buf o bs } } = true := by
  rw [Memory.wf_iff] at h ⊢
  exact ⟨h.1, h.2.1, h.2.2.1, h.2.2.2.1, Tab.wf_setList 0 bs o h.2.2.2.2⟩

theorem Memory.wf_setTeller {s : State} (o : Nat) (bs : List Byte) (h : Memory.wf s = true) :
    Memory.wf { s with tlr := { s.tlr with mem := Tab.setList 0 s.tlr.mem o bs } } = true := by
  rw [Memory.wf_iff] at h ⊢
  exact ⟨h.1, h.2.1, Tab.wf_setList 0 bs o h.2.2.1, h.2.2.2⟩

/-- A byte of an array after a write of several: the written one in their range, and elsewhere the byte that stood there. -/
theorem State.get_putArr (s : State) (a j : Nat) (bs : List Byte) :
    Tab.get 0 (s.putArr a bs).arrays j = if a ≤ j ∧ j < a + bs.length then bs.getD (j - a) 0 else Tab.get 0 s.arrays j :=
  Tab.get_setList 0 bs s.arrays a j

/-- A byte of the mailbox areas after a write of several. -/
theorem State.get_putArea (s : State) (a j : Nat) (bs : List Byte) :
    Tab.get 0 (s.putArea a bs).tlr.area j = if a ≤ j ∧ j < a + bs.length then bs.getD (j - a) 0 else Tab.get 0 s.tlr.area j :=
  Tab.get_setList 0 bs s.tlr.area a j

/-- A byte of host memory after a write of several. -/
theorem State.get_hostWrite (s : State) (a j : Nat) (bs : List Byte) :
    Tab.get none (s.hostWrite a bs).host j = if a ≤ j ∧ j < a + bs.length then (bs.map some).getD (j - a) none else Tab.get none s.host j := by
  have := Tab.get_setList none (bs.map some) s.host a j
  rw [List.length_map] at this
  exact this

end Sys2Proof.Machine
end

