-- ==== Sys2Proof/Laws/Queue.lean ====
section
/-! SUPPORT. The operations that change the mode leave the queue of waiting commands as it is, like every other operation. -/
namespace Sys2Proof.Machine

theorem State.pending_fixed (s : State) : s.pending = s.fixed.1 := (rfl)

@[simp ↓] theorem State.setMode_queue (s : State) (m : Nat) : (s.setMode m).fixed.1 = s.fixed.1 := by
  rw [← State.pending_fixed, ← State.pending_fixed, State.setMode, State.note_pending, State.setF_pending, State.setF_pending]

@[simp ↓] theorem State.setFaultHold_queue (s : State) (v : Nat) : (s.setF F.GLB_MODE_FAULT_HOLD 0 v).fixed.1 = s.fixed.1 := by
  rw [← State.pending_fixed, ← State.pending_fixed, State.setF_pending]

@[simp ↓] theorem State.resetRegs_queue (s : State) (p : Nat → Bool) : (s.resetRegs p).fixed.1 = s.fixed.1 := by
  rw [← State.pending_fixed, ← State.pending_fixed, State.resetRegs_pending]

@[simp ↓] theorem State.cleared_queue (s : State) : s.cleared.fixed.1 = s.fixed.1 := (rfl)

@[simp ↓] theorem State.erased_queue (s : State) : s.erased.fixed.1 = s.fixed.1 := (rfl)

@[simp ↓] theorem State.ite_queue (c : Prop) [Decidable c] (a b : State) :
    (if c then a else b).fixed.1 = if c then a.fixed.1 else b.fixed.1 := apply_ite (fun s : State => s.fixed.1) _ _ _

theorem State.ite_queue_state (c : Prop) [Decidable c] (a b : Ans) :
    (if c then a else b).state.fixed.1 = if c then a.state.fixed.1 else b.state.fixed.1 := apply_ite (fun s : Ans => s.state.fixed.1) _ _ _

@[simp ↓] theorem State.chipReset_queue (s : State) (causes : Nat) : (s.chipReset causes).fixed.1 = s.fixed.1 := by
  unfold State.chipReset
  dsimp only
  split <;> simp

@[simp ↓] theorem State.pinReset_queue (s : State) (pin : Nat) : (s.pinReset pin).fixed.1 = s.fixed.1 := by
  unfold State.pinReset
  dsimp only
  (repeat' split) <;> simp

@[simp ↓] theorem State.enterFaultHold_queue (s : State) (src : Nat) : (s.enterFaultHold src).fixed.1 = s.fixed.1 := by
  unfold State.enterFaultHold
  dsimp only
  (repeat' split) <;> simp

@[simp ↓] theorem State.enterStandby_queue (s : State) : s.enterStandby.fixed.1 = s.fixed.1 := by simp [State.enterStandby]

@[simp ↓] theorem State.provisionFromStandby_queue (s : State) : s.provisionFromStandby.fixed.1 = s.fixed.1 := by
  simp [State.provisionFromStandby]

@[simp ↓] theorem State.provisionFromUse_queue (s : State) : s.provisionFromUse.fixed.1 = s.fixed.1 := by simp [State.provisionFromUse]

@[simp ↓] theorem State.standbyAgain_queue (s : State) : s.standbyAgain.fixed.1 = s.fixed.1 := by simp [State.standbyAgain]

@[simp ↓] theorem State.transit_queue (s : State) (t : Nat) : (s.transit t).fixed.1 = s.fixed.1 := by
  unfold State.transit
  (repeat' split) <;> simp

@[simp ↓] theorem State.reload_queue (s : State) : s.reload.fixed.1 = s.fixed.1 := by
  unfold State.reload
  dsimp only
  rw [State.romServes_fixed, State.bootAbort_fixed, State.setTimeLocked_fixed, State.wr_fixed _ _ _ _ (by decide), State.wr_fixed _ _ _ _ (by decide),
    State.wr_fixed _ _ _ _ (by decide), State.fixed_mk, State.resetRegs_queue]
  simp

@[simp ↓] theorem State.requestReload_queue (s : State) (m : Nat) (r : Req) : (s.requestReload m r).fixed.1 = s.fixed.1 := by
  unfold State.requestReload
  dsimp only
  split
  · simp
  · split <;> simp

@[simp ↓] theorem State.requestMode_queue (s : State) (x : Exec) : (s.requestMode x).fixed.1 = s.fixed.1 := by
  unfold State.requestMode State.runAsync
  split
  · split
    · rfl
    · dsimp only
      split
      · simp
      · split
        · split <;> simp
        · simp [Ans.ok]
  · split
    · rfl
    · split
      · simp [Ans.ok]
      · rfl

@[simp ↓] theorem State.react_queue (s : State) (r : Raise) (v : Nat) (b : Bool) : (s.react r v b).fixed.1 = s.fixed.1 := by
  unfold State.react
  dsimp only
  (repeat' split) <;> simp

@[simp ↓] theorem State.recordHold_queue (s : State) (src cause : Nat) : (s.recordHold src cause).fixed.1 = s.fixed.1 := by
  simp [State.recordHold]

@[simp ↓] theorem State.handle_queue (s : State) (r : Raise) : (s.handle r).1.fixed.1 = s.fixed.1 := by
  unfold State.handle
  dsimp only
  (repeat' split) <;> simp

@[simp ↓] theorem State.injectRaise_queue (s : State) (a b : Nat) : (s.injectRaise a b).1.fixed.1 = s.fixed.1 := by
  unfold State.injectRaise
  dsimp only
  split <;> simp

@[simp ↓] theorem State.faultInjectAct_queue (s : State) (r : Req) : (s.faultInjectAct r).state.fixed.1 = s.fixed.1 := by
  unfold State.faultInjectAct
  dsimp only
  (repeat' split) <;> simp

end Sys2Proof.Machine
end

