-- ==== Sys2Proof/Laws/Wrote.lean ====
section
/-! SUPPORT. What a list of field writes leaves behind, and the answer of a mailbox command whose checks pass. -/
namespace Sys2Proof.Machine

/-! ### Field writes -/

/-- Two field writes share no bit. -/
def Separate (e d : Fld × Nat × Nat) : Prop :=
  e.1.reg.key e.2.1 ≠ d.1.reg.key d.2.1 ∨ (e.1.reg = d.1.reg ∧ e.2.1 = d.2.1 ∧ (d.1.lo + d.1.wd ≤ e.1.lo ∨ e.1.lo + e.1.wd ≤ d.1.lo))

/-- Field writes made one after the other. -/
def State.setAll (s : State) (l : List (Fld × Nat × Nat)) : State := l.foldl (fun s e => s.setF e.1 e.2.1 e.2.2) s

@[simp] theorem State.setAll_nil (s : State) : s.setAll [] = s := (rfl)
@[simp] theorem State.setAll_cons (s : State) (e : Fld × Nat × Nat) (l : List (Fld × Nat × Nat)) :
    s.setAll (e :: l) = (s.setF e.1 e.2.1 e.2.2).setAll l := (rfl)
theorem State.setAll_append (s : State) (l k : List (Fld × Nat × Nat)) : s.setAll (l ++ k) = (s.setAll l).setAll k := by
  simp [State.setAll, List.foldl_append]

theorem RegsBecome.nil (s : State) : RegsBecome s s [] := ⟨by simp, fun _ _ _ _ => rfl⟩
theorem Wrote.nil (s : State) : Wrote s s [] := ⟨RegsBecome.nil s, rfl⟩

theorem State.setF_keeps (s : State) (e : Fld × Nat × Nat) (f : Fld) (j : Nat) (hf : f.lo + f.wd ≤ 32) (h : Apart e f j) :
    (s.setF e.1 e.2.1 e.2.2).fld f j = s.fld f j := by
  obtain h | ⟨h1, h2, h3⟩ := h
  · exact State.fld_setF_ne s _ (Ne.symm h)
  · obtain ⟨g, i, v⟩ := e
    dsimp only at h1 h2 h3 ⊢
    subst h2
    exact State.fld_setF_other s g f i v h1.symm hf h3

/-- Writes of fields that share no bit leave every one at its value and everything else as it was. -/
theorem Wrote.setAll (s : State) (l : List (Fld × Nat × Nat)) (hw : ∀ e ∈ l, e.1.lo + e.1.wd ≤ 32) (h : l.Pairwise Separate) : Wrote s (s.setAll l) l := by
  induction l generalizing s with
  | nil => exact Wrote.nil s
  | cons e l ih =>
    obtain ⟨h1, h2⟩ := List.pairwise_cons.1 h
    obtain ⟨⟨g1, g2⟩, g3⟩ := ih (s.setF e.1 e.2.1 e.2.2) (fun d hd => hw d (List.mem_cons_of_mem _ hd)) h2
    rw [State.setAll_cons]
    refine ⟨⟨?_, ?_⟩, ?_⟩
    · intro d hd
      obtain rfl | hd := List.mem_cons.1 hd
      · rw [g2 _ _ (hw _ (List.mem_cons_self)) fun e he => by
          obtain x | ⟨x, y, z⟩ := h1 e he
          · exact .inl (Ne.symm x)
          · exact .inr ⟨x.symm, y.symm, z.symm⟩]
        exact State.fld_setF_same s _ _ _ (hw _ (List.mem_cons_self))
      · exact g1 d hd
    · intro f j hf ha
      rw [g2 f j hf fun d hd => ha d (List.mem_cons_of_mem _ hd)]
      exact State.setF_keeps s e f j hf (ha e List.mem_cons_self)
    · rw [g3]
      rfl

/-- One write more, of a field apart from all of them. -/
theorem Wrote.snoc {s t : State} {l : List (Fld × Nat × Nat)} (h : Wrote s t l) (f : Fld) (i v : Nat) (hw : f.lo + f.wd ≤ 32)
    (ha : ∀ e ∈ l, Separate e (f, i, v) ∧ e.1.lo + e.1.wd ≤ 32) : Wrote s (t.setF f i v) (l ++ [(f, i, v)]) := by
  obtain ⟨⟨h1, h2⟩, h3⟩ := h
  refine ⟨⟨?_, ?_⟩, ?_⟩
  · intro e he
    obtain he | he := List.mem_append.1 he
    · rw [← h1 e he]
      refine State.setF_keeps t (f, i, v) e.1 e.2.1 (ha e he).2 ?_
      obtain x | ⟨x, y, z⟩ := (ha e he).1
      · exact .inl (Ne.symm x)
      · exact .inr ⟨x.symm, y.symm, z.symm⟩
    · obtain rfl := List.mem_singleton.1 he
      exact State.fld_setF_same t _ _ _ hw
  · intro g j hg hk
    rw [State.setF_keeps t (f, i, v) g j hg (hk _ (by simp))]
    exact h2 g j hg fun e he => hk e (by simp [he])
  · rw [h3]
    rfl

/-! ### Answers -/

theorem State.respond_rd_answer (s : State) (m : Nat) (r : Req) (st d : Nat) (resp : List Byte) (q : Reg) (j : Nat) (h : answerKey m (q.key j) = false) :
    (s.respond m r st d resp).rd q j = s.rd q j := by
  simp only [answerKey, Bool.or_eq_false_iff, beq_eq_false_iff_ne, decide_eq_false_iff_not, Nat.not_le] at h
  obtain ⟨⟨⟨⟨⟨h1, h2⟩, h3⟩, h4⟩, h5⟩, h6⟩ := h
  rw [State.respond_rd_regs _ _ _ _ _ _ _ _ h6 h4 h5]
  unfold State.respondRegs
  rw [State.rd_setF_ne _ _ (by exact h3), State.rd_setF_ne _ _ (by exact h2), State.rd_setF_ne _ _ (by exact h2),
    State.rd_setF_ne _ _ (by exact h1), State.rd_setF_ne _ _ (by exact h1)]

theorem State.respond_lastValid (s : State) (m : Nat) (r : Req) (st d : Nat) (resp : List Byte) (hm : m < 8) :
    (s.respond m r st d resp).fld F.MBX_LAST_LAST_VALID m = 1 := by
  have a1 : R.MBX_LAST.key m = 0x100010008 + m * 0x20 := (rfl)
  have a4 : R.TLR_HIST_HEAD.key 0 = 0x1000310 := by decide
  have a5 : R.TLR_DEADLINE_MISSES.key 0 = 0x1000324 := by decide
  obtain ⟨k1, k2, k3⟩ := (mbx_key_ne m).resolve_right (by omega)
  unfold State.fld
  rw [State.respond_rd_regs _ _ _ _ _ _ _ _ (by show R.MBX_LAST.key m < _; omega) (by show R.MBX_LAST.key m ≠ _; omega)
    (by show R.MBX_LAST.key m ≠ _; omega)]
  show (s.respondRegs m r).fld F.MBX_LAST_LAST_VALID m = _
  unfold State.respondRegs
  rw [State.fld_setF_ne _ _ k3, State.fld_setF_same _ _ _ _ (by decide)]
  rfl

/-- `t` is `s` but for registers, free values, messages, the raises collectors hold, and of the Teller the areas, QUIET and the history. -/
def AnswerRest (s t : State) : Prop :=
  t = { s with regs := t.regs, fresh := t.fresh, msix := t.msix, clh := { s.clh with held := t.clh.held }
               tlr := { s.tlr with area := t.tlr.area, quiet := t.tlr.quiet, hist := t.tlr.hist } }

theorem AnswerRest.trans {s t u : State} (h : AnswerRest s t) (g : AnswerRest t u) : AnswerRest s u := by
  unfold AnswerRest at *
  rw [g, h]

theorem AnswerRest.setF (s : State) (f : Fld) (i v : Nat) : AnswerRest s (s.setF f i v) := (rfl)
theorem AnswerRest.putArea (s : State) (o : Nat) (bs : List Byte) : AnswerRest s (s.putArea o bs) := (rfl)
theorem AnswerRest.quiet (s : State) (x : Tab Bool) : AnswerRest s { s with tlr := { s.tlr with quiet := x } } := (rfl)
theorem AnswerRest.hist (s : State) (x : Tab (List Byte)) : AnswerRest s { s with tlr := { s.tlr with hist := x } } := (rfl)

theorem AnswerRest.raise (s : State) (a d : Nat) (h : srcOnIsland a = false) : AnswerRest s (s.raise a d) := by
  unfold State.raise
  rw [if_neg (by simp [h])]
  rfl

theorem AnswerRest.note (s : State) (a : Nat) (h : srcOnIsland a = false) : AnswerRest s (s.note a) :=
  (AnswerRest.raise s a _ h).trans (rfl)

theorem AnswerRest.completionMsi (s : State) (m : Nat) (b : Bool) : AnswerRest s (s.completionMsi m b) := by
  unfold State.completionMsi
  split
  · unfold State.sendMsi
    split
    · rfl
    · split <;> rfl
  · rfl

theorem AnswerRest.deadline (s : State) (r : Req) (st : Nat) : AnswerRest s (s.deadline r st) := by
  unfold State.deadline
  split
  · exact AnswerRest.trans (AnswerRest.setF s _ _ _) (AnswerRest.note _ _ (by decide))
  · rfl

theorem AnswerRest.history (s : State) (m a k : Nat) (x y z : List Byte) : AnswerRest s (s.history m a k x y z) := by
  unfold State.history
  exact AnswerRest.trans (AnswerRest.hist s _) (AnswerRest.setF _ _ _ _)

theorem AnswerRest.respond (s : State) (m : Nat) (r : Req) (st d : Nat) (resp : List Byte) : AnswerRest s (s.respond m r st d resp) := by
  unfold State.respond
  dsimp only
  refine AnswerRest.trans ?_ (AnswerRest.completionMsi _ _ _)
  refine AnswerRest.trans ?_ (AnswerRest.history _ _ _ _ _ _ _)
  refine AnswerRest.trans ?_ (AnswerRest.deadline _ _ _)
  refine AnswerRest.trans ?_ (AnswerRest.quiet _ _)
  iterate 5 refine AnswerRest.trans ?_ (AnswerRest.setF _ _ _ _)
  iterate 2 refine AnswerRest.trans ?_ (AnswerRest.putArea _ _ _)
  rfl

/-- What `respond` does, whole. -/
theorem State.respond_answered (s : State) (m : Nat) (r : Req) (st d : Nat) (own : List Byte) (hm : m < 8) :
    Answered s (s.respond m r st d own) m r st d own where
  busy := State.respond_busy s m r st d own hm
  valid := State.respond_valid s m r st d own hm
  last := State.respond_last s m r st d own hm
  lastValid := State.respond_lastValid s m r st d own hm
  header := State.respond_header s m r st d own
  fields := State.respond_resp s m r st d own
  area := by
    intro a ha
    rw [State.respond_tlr_area, Tab.get_setList, Tab.get_setList, State.respHeader_length, if_neg (by omega), if_neg (by omega)]
  regs := fun q j h => State.respond_rd_answer s m r st d own q j h
  rest := AnswerRest.respond s m r st d own

/-- A ready command of class A or B is answered with what its effect answers. -/
theorem State.runCmd_ready {s t : State} {m : Nat} {c : Cmd} {checks : Req → Checks} {act : Req → Ans} {r : Req} {st d : Nat} {resp : List Byte}
    (h : Ready s m c checks r) (ha : act r = .done t st d resp) (ht : t.mode ≠ 0) :
    s.runCmd m c checks act = t.respond m r st d (respParams c r st resp) := by
  obtain ⟨_, r0, h1, rfl, h2⟩ := h
  have ha' : act (filled c (checks r0).dflt r0) = .done t st d resp := ha
  unfold State.runCmd
  rw [h1]
  dsimp only
  rw [h2]
  dsimp only
  rw [ha']
  dsimp only
  rw [if_neg ht]

/-- A ready command's mode is one it is accepted in. -/
theorem Ready.mode {s : State} {m : Nat} {c : Cmd} {checks : Req → Checks} {r : Req} (h : Ready s m c checks r) : bit (checks r).modes s.mode = true := by
  obtain ⟨_, r0, h1, rfl, h2⟩ := h
  exact State.firstCheck_mode h2

/-! ### Completion records -/

/-- `t` is `s` but for what a completion record and an answer change. -/
def RecordRest (s t : State) : Prop :=
  t = { s with regs := t.regs, fresh := t.fresh, msix := t.msix, clh := { s.clh with held := t.clh.held }
               tlr := { s.tlr with area := t.tlr.area, quiet := t.tlr.quiet, hist := t.tlr.hist, recs := t.tlr.recs } }

theorem RecordRest.trans {s t u : State} (h : RecordRest s t) (g : RecordRest t u) : RecordRest s u := by
  unfold RecordRest at *
  rw [g, h]

theorem AnswerRest.record {s t : State} (h : AnswerRest s t) : RecordRest s t := by
  unfold AnswerRest at h
  unfold RecordRest
  rw [h]

theorem State.countRecs_eq (s : State) : ∃ v w, s.countRecs = (s.setF F.TLR_ASYNC_STATE_RUNNING 0 v).setF F.TLR_ASYNC_STATE_UNREAD 0 w := ⟨_, _, rfl⟩

theorem State.putRec_eq (s : State) (k : Nat) (r : Option Rec) : ∃ v w, s.putRec k r
    = (State.setF { s with tlr := { s.tlr with recs := Tab.set none s.tlr.recs k r } } F.TLR_ASYNC_STATE_RUNNING 0 v).setF F.TLR_ASYNC_STATE_UNREAD 0 w :=
  State.countRecs_eq _

theorem RecordRest.recs (s : State) (x : Tab (Option Rec)) : RecordRest s { s with tlr := { s.tlr with recs := x } } := (rfl)

theorem State.putRec_rest (s : State) (k : Nat) (r : Option Rec) : RecordRest s (s.putRec k r) := by
  obtain ⟨v, w, h⟩ := State.putRec_eq s k r
  rw [h]
  exact RecordRest.trans (RecordRest.trans (RecordRest.recs s _) (AnswerRest.record (AnswerRest.setF _ _ _ _))) (AnswerRest.record (AnswerRest.setF _ _ _ _))

theorem State.putRec_recs (s : State) (k : Nat) (r : Option Rec) : (s.putRec k r).tlr.recs = Tab.set none s.tlr.recs k r := by
  obtain ⟨v, w, h⟩ := State.putRec_eq s k r
  rw [h]
  rfl

theorem State.putRec_rec (s : State) (k j : Nat) (r : Option Rec) : (s.putRec k r).rec? j = if j = k then r else s.rec? j := by
  unfold State.rec?
  rw [State.putRec_recs, Tab.get_set]

theorem State.putRec_rd (s : State) (k : Nat) (r : Option Rec) (q : Reg) (j : Nat) (h : q.key j ≠ R.TLR_ASYNC_STATE.key 0) :
    (s.putRec k r).rd q j = s.rd q j := by
  obtain ⟨v, w, e⟩ := State.putRec_eq s k r
  rw [e, State.rd_setF_ne _ _ h, State.rd_setF_ne _ _ h]
  exact State.rd_congr (rfl) q j

theorem State.respond_rec (s : State) (m : Nat) (r : Req) (st d : Nat) (own : List Byte) (j : Nat) : (s.respond m r st d own).rec? j = s.rec? j := by
  unfold State.rec?
  rw [AnswerRest.respond s m r st d own]

theorem State.setF_rec (s : State) (f : Fld) (i v k : Nat) : (s.setF f i v).rec? k = s.rec? k := (rfl)
theorem State.setF_area (s : State) (f : Fld) (i v o n : Nat) : (s.setF f i v).area o n = s.area o n := (rfl)

theorem mbx_status_key (m : Nat) : R.MBX_STATUS.key m ≠ R.TLR_STATUS.key 0 := by
  have a1 : R.MBX_STATUS.key m = 0x100010004 + m * 0x20 := (rfl)
  have a2 : R.TLR_STATUS.key 0 = 0x1000000 := by decide
  omega

/-- A mailbox is answered ACCEPTED after its record has been put. -/
theorem Accepted.intro (s : State) (m k : Nat) (r : Req) (n : Nat) (v : Nat) (x : Rec) (hm : m < 8)
    (hx : x = { phase := 1, mbx := m, req := r, hdr := s.respHeader r 1 0 0, params := [], order := r.order, note := n }) :
    Accepted s (((s.putRec k (some x)).respond m r 1 k []).setF F.TLR_STATUS_EXECUTING 0 v) m k r := by
  have hmode : (s.putRec k (some x)).mode = s.mode := by
    unfold State.mode State.fld
    rw [State.putRec_rd _ _ _ _ _ (by decide)]
  have hnow : (s.putRec k (some x)).now = s.now := by rw [State.putRec_rest s k _]
  refine ⟨⟨n, ?_⟩, ?_, ?_, ?_, ?_, ?_⟩
  · rw [State.setF_rec, State.respond_rec, State.putRec_rec, if_pos (by rfl), hx]
  · rw [State.fld_setF_ne _ _ (by exact mbx_status_key m)]
    exact State.respond_busy _ _ _ _ _ _ hm
  · rw [State.fld_setF_ne _ _ (by exact mbx_status_key m)]
    exact State.respond_valid _ _ _ _ _ _ hm
  · rw [State.setF_area, State.respond_header]
    unfold State.respHeader
    rw [hmode, hnow]
    rfl
  · intro q j h1 h2
    simp only [recordKey, Bool.or_eq_false_iff, beq_eq_false_iff_ne, decide_eq_false_iff_not] at h2
    rw [State.rd_setF_ne _ _ (by exact h2.1.1.2), State.respond_rd_answer _ _ _ _ _ _ _ _ h1, State.putRec_rd _ _ _ _ _ (by exact h2.1.1.1)]
  · exact RecordRest.trans (RecordRest.trans (State.putRec_rest s k _) (AnswerRest.record (AnswerRest.respond _ _ _ _ _ _)))
      (AnswerRest.record (AnswerRest.setF _ _ _ _))

/-- A command that is accepted as a record, no unread completion lost. -/
theorem State.accept_accepted (s : State) (m k : Nat) (r : Req) (n : Nat) (hm : m < 8) : Accepted s (s.accept m k false r n) m k r := by
  unfold State.accept State.setExecuting
  dsimp only
  rw [if_neg (by decide)]
  exact Accepted.intro s m k r n _ _ hm (by rfl)

/-- What a completion changes beside the registers. -/
def CompletionRest (s t : State) : Prop :=
  t = { s with regs := t.regs, fresh := t.fresh, msix := t.msix, clh := { s.clh with held := t.clh.held }
               tlr := { s.tlr with recs := t.tlr.recs, hist := t.tlr.hist } }

theorem CompletionRest.trans {s t u : State} (h : CompletionRest s t) (g : CompletionRest t u) : CompletionRest s u := by
  unfold CompletionRest at *
  rw [g, h]

theorem CompletionRest.setF (s : State) (f : Fld) (i v : Nat) : CompletionRest s (s.setF f i v) := (rfl)
theorem CompletionRest.recs (s : State) (x : Tab (Option Rec)) : CompletionRest s { s with tlr := { s.tlr with recs := x } } := (rfl)
theorem CompletionRest.hist (s : State) (x : Tab (List Byte)) : CompletionRest s { s with tlr := { s.tlr with hist := x } } := (rfl)

theorem CompletionRest.completionMsi (s : State) (m : Nat) (b : Bool) : CompletionRest s (s.completionMsi m b) := by
  unfold State.completionMsi
  split
  · unfold State.sendMsi
    split
    · rfl
    · split <;> rfl
  · rfl

theorem CompletionRest.note (s : State) (a : Nat) (h : srcOnIsland a = false) : CompletionRest s (s.note a) := by
  refine CompletionRest.trans (t := s.raise a s.freeVal) ?_ (rfl)
  unfold State.raise
  rw [if_neg (by simp [h])]
  rfl

theorem CompletionRest.history (s : State) (m a k : Nat) (x y z : List Byte) : CompletionRest s (s.history m a k x y z) := by
  unfold State.history
  exact CompletionRest.trans (CompletionRest.hist s _) (CompletionRest.setF _ _ _ _)

theorem CompletionRest.putRec (s : State) (k : Nat) (r : Option Rec) : CompletionRest s (s.putRec k r) := by
  obtain ⟨v, w, h⟩ := State.putRec_eq s k r
  rw [h]
  exact CompletionRest.trans (CompletionRest.trans (CompletionRest.recs s _) (CompletionRest.setF _ _ _ _)) (CompletionRest.setF _ _ _ _)

theorem State.completionMsi_rec (s : State) (m : Nat) (b : Bool) (j : Nat) : (s.completionMsi m b).rec? j = s.rec? j := by
  unfold State.completionMsi
  split
  · unfold State.rec?
    rw [State.sendMsi_tlr]
  · rfl

theorem State.note_rec (s : State) (a j : Nat) : (s.note a).rec? j = s.rec? j := by
  unfold State.rec?
  rw [State.note_tlr]

theorem State.history_rec (s : State) (m a k : Nat) (x y z : List Byte) (j : Nat) : (s.history m a k x y z).rec? j = s.rec? j := by
  unfold State.history
  dsimp only
  rw [State.setF_rec]
  rfl

/-- A command that completes from its record. -/
theorem State.completeRec_completed (s : State) (k : Nat) (q : Rec) (st d : Nat) (ps : List Byte) : Completed s (s.completeRec k q st d ps) k q st d ps := by
  have hr : ∀ j, (s.completeRec k q st d ps).rec? j
      = if j = k then some { q with phase := 2, hdr := s.respHeader q.req st ps.length d, params := ps } else s.rec? j := by
    intro j
    unfold State.completeRec
    dsimp only
    rw [State.completionMsi_rec, State.history_rec, State.note_rec]
    unfold State.setExecuting
    rw [State.setF_rec, State.putRec_rec]
  refine ⟨by rw [hr, if_pos rfl], fun j hj => by rw [hr, if_neg hj], ?_, ?_⟩
  · intro x j h
    simp only [recordKey, Bool.or_eq_false_iff, beq_eq_false_iff_ne, decide_eq_false_iff_not, Nat.not_le] at h
    unfold State.completeRec
    dsimp only
    rw [State.completionMsi_rd _ _ _ _ _ h.2, State.history_rd _ _ _ _ _ _ _ _ _ h.1.2, State.note_rd]
    unfold State.setExecuting
    rw [State.rd_setF_ne _ _ (by exact h.1.1.2), State.putRec_rd _ _ _ _ _ (by exact h.1.1.1)]
  · unfold State.completeRec
    dsimp only
    refine CompletionRest.trans ?_ (CompletionRest.completionMsi _ _ _)
    refine CompletionRest.trans ?_ (CompletionRest.history _ _ _ _ _ _ _)
    refine CompletionRest.trans ?_ (CompletionRest.note _ _ (by decide))
    unfold State.setExecuting
    exact CompletionRest.trans (CompletionRest.putRec _ _ _) (CompletionRest.setF _ _ _ _)

end Sys2Proof.Machine
end

namespace Sys2Proof.Machine

/-! ### The commands that reset the part or change its mode: the queue, the identity and the mode they end in -/

theorem Tab.find?_filter {α : Type} (t : Tab α) (p : Nat → Bool) (k : Nat) :
    Tab.find? (t.filter fun e => p e.1) k = if p k then Tab.find? t k else none := by
  induction t with
  | nil => simp [Tab.find?]
  | cons e t ih =>
    obtain ⟨j, w⟩ := e
    by_cases hj : j = k
    · subst hj
      by_cases hp : p j = true <;> simp [hp, Tab.find?, ih]
    · by_cases hp : p j = true <;> simp [hp, hj, Tab.find?, ih]

theorem State.rd_of_filter {s t : State} (p : Nat → Bool) (h : t.regs = s.regs.filter fun e => p e.1) (q : Reg) (j : Nat) :
    t.rd q j = if p (q.key j) then s.rd q j else q.rst j := by
  unfold State.rd
  rw [h, Tab.find?_filter]
  by_cases hp : p (q.key j) = true
  · rw [if_pos hp, if_pos hp]
  · rw [if_neg hp, if_neg hp]

/-! ### The mode -/

@[simp] theorem State.setFaultHold_fixed (s : State) (v : Nat) : (s.setF F.GLB_MODE_FAULT_HOLD 0 v).fixed = s.fixed :=
  State.setF_fixed_glb s _ v (by rfl) (by decide)

@[simp] theorem State.setMode_fixed (s : State) (m : Nat) (h : m < 16) : (s.setMode m).fixed = (s.fixed.1, s.fixed.2.1, m) := by
  have hm : (s.setMode m).mode = m := by
    unfold State.setMode
    rw [State.note_mode]
    unfold State.mode
    rw [State.fld_setF_same _ _ _ _ (by decide)]
    exact Nat.mod_eq_of_lt h
  have hc : (s.setMode m).rd R.GLB_CHIP_ID 0 = s.rd R.GLB_CHIP_ID 0 := by
    unfold State.setMode
    rw [State.note_rd, State.rd_setF_ne _ _ (by decide), State.rd_setF_ne _ _ (by decide)]
  unfold State.fixed
  rw [hm, hc, State.setMode, State.note_pending, State.setF_pending, State.setF_pending]

/-- A register file cut down to keys that leave GLB_CHIP_ID and GLB_MODE out: the part has its identity and stands in Reset. -/
theorem State.fixed_of_filter {s t : State} (p : Nat → Bool) (hp : t.pending = s.pending) (h : t.regs = s.regs.filter fun e => p e.1)
    (h0 : p 0 = false) (h1 : p 0x10 = false) : t.fixed = (s.fixed.1, 0x0D9F1024, 0) := by
  have k0 : R.GLB_CHIP_ID.key 0 = 0 := by decide
  have k1 : F.GLB_MODE_MODE.reg.key 0 = 0x10 := by decide
  unfold State.fixed State.mode State.fld
  rw [State.rd_of_filter p h, State.rd_of_filter p h, k0, k1, h0, h1, hp, if_neg Bool.false_ne_true, if_neg Bool.false_ne_true]
  rfl

@[simp] theorem State.cleared_fixed (s : State) : s.cleared.fixed = (s.fixed.1, 0x0D9F1024, 0) :=
  State.fixed_of_filter onIsland (by rfl) (by rfl) (by decide) (by decide)

@[simp] theorem State.erased_fixed (s : State) : s.erased.fixed = (s.fixed.1, 0x0D9F1024, 0) :=
  State.fixed_of_filter (· == R.GLB_STEPPING.base) (by rfl) (by rfl) (by decide) (by decide)

@[simp] theorem State.chipReset_fixed (s : State) (causes : Nat) : (s.chipReset causes).fixed = (s.fixed.1, 0x0D9F1024, 0) := by
  unfold State.chipReset
  dsimp only
  split <;> simp

@[simp] theorem State.enterFaultHold_fixed (s : State) (src : Nat) : (s.enterFaultHold src).fixed = (s.fixed.1, s.fixed.2.1, 7) := by
  unfold State.enterFaultHold
  dsimp only
  (repeat' split) <;> simp

@[simp] theorem State.enterStandby_fixed (s : State) : s.enterStandby.fixed = (s.fixed.1, s.fixed.2.1, 2) := by
  simp [State.enterStandby]

@[simp] theorem State.provisionFromStandby_fixed (s : State) : s.provisionFromStandby.fixed = (s.fixed.1, s.fixed.2.1, 3) := by
  simp [State.provisionFromStandby]

@[simp] theorem State.provisionFromUse_fixed (s : State) : s.provisionFromUse.fixed = (s.fixed.1, s.fixed.2.1, 3) := by
  simp [State.provisionFromUse]

@[simp] theorem State.standbyAgain_fixed (s : State) : s.standbyAgain.fixed = (s.fixed.1, s.fixed.2.1, 2) := by
  simp [State.standbyAgain]

/-- The mode that a transition to a target ends in (R51, R54). -/
def State.reaches (s : State) (t : Nat) : Nat :=
  if t = 3 then 3 else if t = 2 then 2 else if t = 4 then (if s.flag F.TIM_STATUS_LOCKED 0 then 4 else 5) else 6

theorem State.reaches_le (s : State) (t : Nat) : s.reaches t ≤ 7 := by
  unfold State.reaches
  (repeat' split) <;> omega

@[simp] theorem State.transit_fixed (s : State) (t : Nat) : (s.transit t).fixed = (s.fixed.1, s.fixed.2.1, s.reaches t) := by
  unfold State.transit State.reaches
  (repeat' split) <;> simp

@[simp] theorem State.reload_fixed (s : State) : s.reload.fixed = (s.fixed.1, s.fixed.2.1, 1) := by
  unfold State.reload
  dsimp only
  rw [State.romServes_fixed, State.bootAbort_fixed, State.setTimeLocked_fixed, State.wr_fixed _ _ _ _ (by decide), State.wr_fixed _ _ _ _ (by decide),
    State.wr_fixed _ _ _ _ (by decide), State.fixed_mk, State.resetRegs_fixed _ _ (by decide) (by decide)]
  simp

end Sys2Proof.Machine

namespace Sys2Proof.Machine

/-! ### A legal mode stays legal, and the identity the identity -/

/-- From `s` to `t` a mode of the eight stays one of the eight, and the chip's identity its identity. -/
structure StaysLegal (s t : State) : Prop where
  mode : s.mode ≤ 7 → t.mode ≤ 7
  chip : s.rd R.GLB_CHIP_ID 0 = 0x0D9F1024 → t.rd R.GLB_CHIP_ID 0 = 0x0D9F1024

theorem StaysLegal.trans {s t u : State} (h : StaysLegal s t) (g : StaysLegal t u) : StaysLegal s u :=
  ⟨fun x => g.mode (h.mode x), fun x => g.chip (h.chip x)⟩

theorem StaysLegal.of_fixed {s t : State} (h : t.fixed = s.fixed) : StaysLegal s t :=
  ⟨fun x => (congrArg (fun f => f.2.2) h).trans_le x, fun x => (congrArg (fun f => f.2.1) h).trans x⟩

theorem StaysLegal.of_mode {s t : State} {m : Nat} (h : t.fixed = (s.fixed.1, s.fixed.2.1, m)) (hm : m ≤ 7) : StaysLegal s t :=
  ⟨fun _ => (congrArg (fun f => f.2.2) h).trans_le hm, fun x => (congrArg (fun f => f.2.1) h).trans x⟩

theorem StaysLegal.of_reset {s t : State} (h : t.fixed = (s.fixed.1, 0x0D9F1024, 0)) : StaysLegal s t :=
  ⟨fun _ => (congrArg (fun f => f.2.2) h).trans_le (Nat.zero_le _), fun _ => congrArg (fun f => f.2.1) h⟩

theorem State.pinReset_legal (s : State) (pin : Nat) : StaysLegal s (s.pinReset pin) := by
  unfold State.pinReset
  dsimp only
  generalize (if pin = 1 then !s.pins.perstN else !s.pins.resetN) = low
  split
  · exact .of_fixed (by simp)
  · split
    · exact .of_fixed (by simp)
    · exact .of_reset (by simp)

theorem State.react_legal (s : State) (r : Raise) (v : Nat) (b : Bool) : StaysLegal s (s.react r v b) := by
  unfold State.react
  dsimp only
  split
  · exact .of_reset (by simp)
  · split
    · split <;> exact .of_fixed (by simp)
    · exact .of_fixed (by simp)

theorem State.recordHold_legal (s : State) (src cause : Nat) : StaysLegal s (s.recordHold src cause) :=
  .trans (.of_fixed (by simp)) (State.react_legal _ _ _ _)

/-- A raise of a class that is recorded and that no open record of its source merges: the new record, its reactions, and for a Grave one Fault-Hold. -/
def State.handleNew (s : State) (r : Raise) (orig cls cause : Nat) (became : Bool) : State × Option Nat :=
  if cls = 3 && s.flag F.CLH_STATUS_FAULT_HOLD 0 then s.writeRecord (s.recordOf r orig 3 0 cause true)
  else
    let v := s.reactionsOf r cls (s.fld F.CLH_SRC_CFG_REACT r.src ||| s.classReact cls)
    let w := s.writeRecord (s.recordOf r orig cls v cause (cls == 3))
    if cls = 3 then (((w.1.react r v became).enterFaultHold r.src).updateErrn.recordHold r.src (w.2.getD 0xFFFFFFFF), w.2)
    else (w.1.react r v became, w.2)

theorem State.handleNew_legal (s : State) (r : Raise) (orig cls cause : Nat) (became : Bool) : StaysLegal s (s.handleNew r orig cls cause became).1 := by
  unfold State.handleNew
  dsimp only
  split
  · exact .of_fixed (by simp)
  · have hr := fun v w => (StaysLegal.of_fixed (State.writeRecord_fixed s w)).trans (State.react_legal (s.writeRecord w).1 r v became)
    split
    · have hf := fun v w => (hr v w).trans (.of_mode (State.enterFaultHold_fixed _ r.src) (by decide))
      exact .trans (.trans (hf _ _) (.of_fixed (State.updateErrn_fixed _))) (State.recordHold_legal _ _ _)
    · exact hr _ _

theorem State.handle_legal (s : State) (r : Raise) : StaysLegal s (s.handle r).1 := by
  unfold State.handle
  dsimp only
  split
  · exact .of_fixed (by rfl)
  · split
    · exact .trans (.of_fixed (by simp)) (State.react_legal _ _ _ _)
    · split
      · exact .trans (.of_fixed (by simp)) (State.react_legal _ _ _ _)
      · exact .trans (.of_fixed (by simp)) (State.handleNew_legal _ r _ _ _ _)

theorem State.injectRaise_legal (s : State) (a b : Nat) : StaysLegal s (s.injectRaise a b).1 := by
  unfold State.injectRaise
  dsimp only
  split
  · exact .trans (.of_fixed (by simp)) (State.handle_legal _ _)
  · exact .of_fixed (by simp)

theorem State.faultInjectAct_legal (s : State) (r : Req) : StaysLegal s (s.faultInjectAct r).state := by
  unfold State.faultInjectAct
  dsimp only [Ans.ok, Ans.state]
  split
  · exact State.injectRaise_legal _ _ _
  · split
    · exact .of_fixed (by simp)
    · exact .trans (.of_fixed (by simp)) (State.injectRaise_legal _ _ _)

/-- A command keeps the mode and the identity legal where what it does keeps them so. -/
theorem State.runCmd_legal (s : State) (m : Nat) (c : Cmd) (checks : Req → Checks) (act : Req → Ans) (h : ∀ r, StaysLegal s (act r).state) :
    StaysLegal s (s.runCmd m c checks act) := by
  unfold State.runCmd
  split
  · exact .of_fixed (by rfl)
  · dsimp only
    split
    · exact .of_fixed (by simp)
    · generalize heq : act _ = a
      have ha := heq ▸ h _
      cases a
      split
      · exact ha
      · exact .trans ha (.of_fixed (by simp))

theorem State.requestReload_legal (s : State) (m : Nat) (r : Req) : StaysLegal s (s.requestReload m r) := by
  unfold State.requestReload
  dsimp only
  split
  · exact .of_fixed (by simp)
  · split
    · exact .of_fixed (by rfl)
    · exact .of_mode (m := 1) (by simp) (by decide)

theorem State.transit_legal (s : State) (t : Nat) : StaysLegal s (s.transit t) := .of_mode (State.transit_fixed s t) (State.reaches_le s t)

/-- The same of a command that can go on as a completion record. -/
theorem State.runAsync_legal (s : State) (x : Exec) (c : Cmd) (checks : Req → Checks) (start : Req → State → State × Nat)
    (act : Req → Nat → State → Ans) (h1 : ∀ r s, (start r s).1.fixed = s.fixed) (h2 : ∀ r n s, StaysLegal s (act r n s).state) :
    StaysLegal s (s.runAsync x c checks start act) := by
  have hs : ∀ r, StaysLegal s (start r s).1 := fun r => .of_fixed (h1 r s)
  unfold State.runAsync
  split
  · split
    · exact .of_fixed (by rfl)
    · dsimp only
      split
      · exact .of_fixed (by simp)
      · split
        · split
          · exact .of_fixed (by simp)
          · exact .of_fixed (by simp [h1])
        · generalize heq : act _ _ _ = a
          have ha := heq ▸ h2 _ _ _
          cases a
          exact .trans (hs _) (.trans ha (.of_fixed (by simp)))
  · split
    · exact .of_fixed (by rfl)
    · split
      · generalize heq : act _ _ _ = a
        have ha := heq ▸ h2 _ _ _
        cases a
        exact .trans ha (.of_fixed (by simp))
      · exact .of_fixed (by rfl)

theorem State.requestMode_legal (s : State) (x : Exec) : StaysLegal s (s.requestMode x) :=
  State.runAsync_legal s x _ _ _ _ (fun r s => by simp) fun r n s => .trans (.of_fixed (by simp)) (State.transit_legal _ _)

end Sys2Proof.Machine

namespace Sys2Proof.Machine

/-! ### The commands that keep the queue, the identity and the mode, one lemma a command -/

/-- An outcome is a next state that has the queue, GLB_CHIP_ID and the mode of `s`. -/
def Keeps (s : State) (o : Host.Outcome State Fault Refusal) : Prop := ∃ t, o = .next t ∧ t.fixed = s.fixed

theorem Keeps.next {s t : State} (h : t.fixed = s.fixed) : Keeps s (.next t) := ⟨t, rfl, h⟩

theorem execRailOutOfRange_keeps (r : Nat) (s : State) : Keeps s (execRailOutOfRange r s) := Keeps.next (by simp)

theorem execRailInRange_keeps (r : Nat) (s : State) : Keeps s (execRailInRange r s) := Keeps.next (by simp)

theorem execResetRelease_keeps (resetN perstN : Bool) (s : State) : Keeps s (execResetRelease resetN perstN s) := Keeps.next (by simp)

theorem execPerstNRelease_keeps (s : State) : Keeps s (execPerstNRelease s) := Keeps.next (by simp)

theorem execPcieLinkUp_keeps (speed width mps : Nat) (flit : Bool) (s : State) : Keeps s (execPcieLinkUp speed width mps flit s) :=
  Keeps.next (by simp)

theorem execPcieLinkDown_keeps (s : State) : Keeps s (execPcieLinkDown s) := Keeps.next (by simp)

theorem execBusMasterEnableChange_keeps (on : Bool) (s : State) : Keeps s (execBusMasterEnableChange on s) := Keeps.next (by simp)

theorem execBootBufferWrite_keeps (off : Nat) (bs : List Byte) (s : State) : Keeps s (execBootBufferWrite off bs s) := Keeps.next (by simp)

theorem execBootPageGo_keeps (b index : Nat) (s : State) : Keeps s (execBootPageGo b index s) := Keeps.next (by simp)

theorem execBootPageCheckDone_keeps (b : Nat) (s : State) : Keeps s (execBootPageCheckDone b s) := Keeps.next (by simp)

theorem execBootStart_keeps (s : State) : Keeps s (execBootStart s) := Keeps.next (by simp)

theorem execBootAbort_keeps (s : State) : Keeps s (execBootAbort s) := Keeps.next (by simp)

theorem execSpiWrite_keeps (addr : Nat) (bs : List Byte) (s : State) : Keeps s (execSpiWrite addr bs s) := Keeps.next (by simp)

theorem execSpiQuadWrite_keeps (addr : Nat) (bs : List Byte) (s : State) : Keeps s (execSpiQuadWrite addr bs s) := Keeps.next (by simp)

theorem execSpiRead_keeps (addr n : Nat) (s : State) : Keeps s (execSpiRead addr n s) := Keeps.next (by simp)

theorem execSpiQuadRead_keeps (addr n : Nat) (s : State) : Keeps s (execSpiQuadRead addr n s) := Keeps.next (by simp)

theorem execMbxDoorbell_keeps (m seq : Nat) (s : State) : Keeps s (execMbxDoorbell m seq s) := Keeps.next (by simp)

theorem execMbxAreaWrite_keeps (off : Nat) (bs : List Byte) (s : State) : Keeps s (execMbxAreaWrite off bs s) := Keeps.next (by simp)

theorem execI2cWrite_keeps (addr off : Nat) (bs : List Byte) (s : State) : Keeps s (execI2cWrite addr off bs s) := Keeps.next (by simp)

theorem execI2cRead_keeps (addr off n : Nat) (s : State) : Keeps s (execI2cRead addr off n s) := Keeps.next (by simp)

theorem execI2cSclTimeout_keeps (s : State) : Keeps s (execI2cSclTimeout s) := Keeps.next (by simp)

theorem execTellerWatchdog_keeps (s : State) : Keeps s (execTellerWatchdog s) := Keeps.next (by simp)

theorem execGrantLeaseExpire_keeps (u : Nat) (s : State) : Keeps s (execGrantLeaseExpire u s) := Keeps.next (by simp)

theorem execPatchInstall_keeps (s : State) : Keeps s (execPatchInstall s) := by
  refine Keeps.next ?_
  dsimp only
  (repeat' split) <;> simp

theorem execTellerTrap_keeps (s : State) : Keeps s (execTellerTrap s) := by
  refine Keeps.next ?_
  (repeat' split) <;> simp

theorem execNop_keeps (m : Nat) (s : State) : Keeps s (execNop m s) := Keeps.next (by simp)

theorem execIdentify_keeps (m : Nat) (s : State) : Keeps s (execIdentify m s) := Keeps.next (by simp)

theorem execAsyncResult_keeps (m : Nat) (s : State) : Keeps s (execAsyncResult m s) := Keeps.next (by simp)

theorem execAbortCommand_keeps (m : Nat) (s : State) : Keeps s (execAbortCommand m s) := Keeps.next (by simp)

theorem execHistoryRead_keeps (m : Nat) (s : State) : Keeps s (execHistoryRead m s) := Keeps.next (by simp)

theorem execGrant_keeps (m : Nat) (s : State) : Keeps s (execGrant m s) := Keeps.next (by simp)

theorem execRevoke_keeps (m : Nat) (s : State) : Keeps s (execRevoke m s) := Keeps.next (by simp)

theorem execPatchLoad_keeps (x : Exec) (s : State) : Keeps s (execPatchLoad x s) := by
  refine Keeps.next ?_
  split
  · rfl
  · split
    · split
      · rfl
      · dsimp only
        split
        · simp
        · split
          · split <;> simp
          · split
            · rename_i h
              simpa using State.fetchPatch_fixed _ _ _ _ h
            · simp
    · split
      · rfl
      · split
        · split
          · rename_i h
            simpa using State.fetchPatch_fixed _ _ _ _ h
          · simp
        · rfl

theorem execResetConfig_keeps (m : Nat) (s : State) : Keeps s (execResetConfig m s) := Keeps.next (by simp)

theorem execClockConfig_keeps (m : Nat) (s : State) : Keeps s (execClockConfig m s) := Keeps.next (by simp)

theorem execClockSelect_keeps (m : Nat) (s : State) : Keeps s (execClockSelect m s) := Keeps.next (by simp)

theorem execWatchTrim_keeps (m : Nat) (s : State) : Keeps s (execWatchTrim m s) := Keeps.next (by simp)

theorem execQualIntervalEnd_keeps (i j count : Nat) (s : State) : Keeps s (execQualIntervalEnd i j count s) := Keeps.next (by simp)

theorem execRefLoss_keeps (i : Nat) (s : State) : Keeps s (execRefLoss i s) := Keeps.next (by simp)

theorem execPllUnlock_keeps (k : Nat) (s : State) : Keeps s (execPllUnlock k s) := Keeps.next (by simp)

theorem execDomainSwitchDone_keeps (d : Nat) (s : State) : Keeps s (execDomainSwitchDone d s) := by
  refine Keeps.next ?_
  (repeat' split) <;> simp

theorem execWatchTrimAdjust_keeps (ppm : Int) (hz : Nat) (s : State) : Keeps s (execWatchTrimAdjust ppm hz s) := Keeps.next (by simp)

theorem execToggleAck_keeps (d k pulses : Nat) (same : Bool) (s : State) : Keeps s (execToggleAck d k pulses same s) := Keeps.next (by simp)

theorem execBundleAck_keeps (d k : Nat) (vs : List Nat) (s : State) : Keeps s (execBundleAck d k vs s) := by
  refine Keeps.next ?_
  dsimp only
  (repeat' split) <;> simp

theorem execXingResetToken_keeps (x offered : Nat) (s : State) : Keeps s (execXingResetToken x offered s) := Keeps.next (by simp)

theorem execCkgSelectWrite_keeps (d v : Nat) (s : State) : Keeps s (execCkgSelectWrite d v s) := Keeps.next (by simp)

theorem execLaneConfig_keeps (m : Nat) (s : State) : Keeps s (execLaneConfig m s) := Keeps.next (by simp)

theorem execEqTableLoad_keeps (x : Exec) (s : State) : Keeps s (execEqTableLoad x s) := Keeps.next (by simp)

theorem execLaneTest_keeps (m : Nat) (s : State) : Keeps s (execLaneTest m s) := Keeps.next (by simp)

theorem execLaneMarginScan_keeps (x : Exec) (s : State) : Keeps s (execLaneMarginScan x s) := by
  refine Keeps.next ?_
  cases x with
  | record k => rfl
  | mailbox m => exact State.runAsync_fixed _ _ _ _ _ _ (fun r s => by simp [laneMarginScanStart]) fun _ _ _ => by simp

theorem execStitchConfig_keeps (m : Nat) (s : State) : Keeps s (execStitchConfig m s) := Keeps.next (by simp)

theorem execLaneTxPllLock_keeps (n : Nat) (s : State) : Keeps s (execLaneTxPllLock n s) := Keeps.next (by simp)

theorem execLaneCdrLock_keeps (n : Nat) (s : State) : Keeps s (execLaneCdrLock n s) := Keeps.next (by simp)

theorem execLaneSignalLoss_keeps (n : Nat) (cdr : Bool) (s : State) : Keeps s (execLaneSignalLoss n cdr s) := Keeps.next (by simp)

theorem execLaneTempRefresh_keeps (q : Nat) (s : State) : Keeps s (execLaneTempRefresh q s) := Keeps.next (by simp)

theorem execLaneBandEval_keeps (n : Nat) (s : State) : Keeps s (execLaneBandEval n s) := Keeps.next (by simp)

theorem execLaneEqStep_keeps (n : Nat) (s : State) : Keeps s (execLaneEqStep n s) := Keeps.next (by simp)

theorem execLaneInjFire_keeps (n : Nat) (s : State) : Keeps s (execLaneInjFire n s) := Keeps.next (by simp)

theorem execMarginPointDone_keeps (n errs : Nat) (s : State) : Keeps s (execMarginPointDone n errs s) := by
  refine Keeps.next ?_
  (repeat' split) <;> simp

theorem execPcsAlignment_keeps (p am : Nat) (skews : List Nat) (deskewed : Bool) (s : State) : Keeps s (execPcsAlignment p am skews deskewed s) :=
  Keeps.next (by simp)

theorem execFecWindowEnd_keeps (p syms cor unc : Nat) (s : State) : Keeps s (execFecWindowEnd p syms cor unc s) := Keeps.next (by simp)

theorem execStitchBlockRx_keeps (n : Nat) (valid : Bool) (stuff : Nat) (s : State) : Keeps s (execStitchBlockRx n valid stuff s) :=
  Keeps.next (by simp)

theorem execStitchControlBlockRx_keeps (n : Nat) (line c : List Byte) (s : State) : Keeps s (execStitchControlBlockRx n line c s) :=
  Keeps.next (by simp)

theorem execStitchSignatureRx_keeps (n : Nat) (line c : List Byte) (s : State) : Keeps s (execStitchSignatureRx n line c s) := by
  refine Keeps.next ?_
  dsimp only
  (repeat' split) <;> simp

theorem execStitchSignatureTx_keeps (n : Nat) (s : State) : Keeps s (execStitchSignatureTx n s) := by
  refine Keeps.next ?_
  dsimp only
  (repeat' split) <;> simp

theorem execStitchNakTimeout_keeps (n : Nat) (s : State) : Keeps s (execStitchNakTimeout n s) := Keeps.next (by simp)

theorem execStchRetrainWrite_keeps (n : Nat) (s : State) : Keeps s (execStchRetrainWrite n s) := Keeps.next (by simp)

theorem execPortConfig_keeps (m : Nat) (s : State) : Keeps s (execPortConfig m s) := Keeps.next (by simp)

theorem execPortDelete_keeps (m : Nat) (s : State) : Keeps s (execPortDelete m s) := Keeps.next (by simp)

theorem execPfcConfig_keeps (m : Nat) (s : State) : Keeps s (execPfcConfig m s) := Keeps.next (by simp)

theorem execPreemptConfig_keeps (m : Nat) (s : State) : Keeps s (execPreemptConfig m s) := Keeps.next (by simp)

theorem execMacRxFrame_keeps (p : Nat) (sfd code : Bool) (frags : Nat) (broken : Bool) (deskew : Nat) (bytes : List Byte) (s : State) :
    Keeps s (execMacRxFrame p sfd code frags broken deskew bytes s) := by
  refine Keeps.next ?_
  (repeat' split) <;> simp

theorem execPfcFrameRx_keeps (p vec : Nat) (times : List Nat) (s : State) : Keeps s (execPfcFrameRx p vec times s) := Keeps.next (by simp)

theorem execPreemptVerifyRx_keeps (p : Nat) (respond : Bool) (s : State) : Keeps s (execPreemptVerifyRx p respond s) := Keeps.next (by simp)

theorem execFaultSignalRx_keeps (p : Nat) (loc rem : Bool) (s : State) : Keeps s (execFaultSignalRx p loc rem s) := Keeps.next (by simp)

theorem execPortLinkLoss_keeps (p : Nat) (s : State) : Keeps s (execPortLinkLoss p s) := Keeps.next (by simp)

theorem execPortUpHoldExpire_keeps (p : Nat) (s : State) : Keeps s (execPortUpHoldExpire p s) := Keeps.next (by simp)

theorem execPortAdminDownDone_keeps (p : Nat) (s : State) : Keeps s (execPortAdminDownDone p s) := Keeps.next (by simp)

theorem execPfcTimerExpire_keeps (p q : Nat) (s : State) : Keeps s (execPfcTimerExpire p q s) := Keeps.next (by simp)

theorem execPfcXoffChange_keeps (p q : Nat) (s : State) : Keeps s (execPfcXoffChange p q s) := Keeps.next (by simp)

theorem execPfcRefreshTimer_keeps (p q : Nat) (s : State) : Keeps s (execPfcRefreshTimer p q s) := Keeps.next (by simp)

theorem execPfcStormDetect_keeps (p q : Nat) (s : State) : Keeps s (execPfcStormDetect p q s) := Keeps.next (by simp)

theorem execPfcStormRecover_keeps (p q : Nat) (s : State) : Keeps s (execPfcStormRecover p q s) := Keeps.next (by simp)

theorem execPreemptVerifyTimer_keeps (p : Nat) (s : State) : Keeps s (execPreemptVerifyTimer p s) := Keeps.next (by simp)

theorem execParserTableLoad_keeps (x : Exec) (s : State) : Keeps s (execParserTableLoad x s) := Keeps.next (by simp)

theorem execParserConfig_keeps (m : Nat) (s : State) : Keeps s (execParserConfig m s) := Keeps.next (by simp)

theorem execParserPort_keeps (m : Nat) (s : State) : Keeps s (execParserPort m s) := Keeps.next (by simp)

theorem execFlatProfileSet_keeps (m : Nat) (s : State) : Keeps s (execFlatProfileSet m s) := Keeps.next (by simp)

theorem execExpressFilterSet_keeps (m : Nat) (s : State) : Keeps s (execExpressFilterSet m s) := Keeps.next (by simp)

theorem execPuntConfig_keeps (m : Nat) (s : State) : Keeps s (execPuntConfig m s) := Keeps.next (by simp)

theorem execPrsBankSwap_keeps (i : Nat) (s : State) : Keeps s (execPrsBankSwap i s) := Keeps.next (by simp)

theorem execPrsTraceArm_keeps (i : Nat) (portEn : Bool) (port : Nat) (s : State) : Keeps s (execPrsTraceArm i portEn port s) := Keeps.next (by simp)

theorem execParseFrame_keeps (i : Nat) (perr : Option Nat) (ended : Bool) (s : State) : Keeps s (execParseFrame i perr ended s) := by
  refine Keeps.next ?_
  dsimp only
  (repeat' split) <;> simp

theorem execParseFrameEnd_keeps (id : Nat) (s : State) : Keeps s (execParseFrameEnd id s) := by
  refine Keeps.next ?_
  (repeat' split) <;> simp

theorem execParserParityRewrite_keeps (i : Nat) (s : State) : Keeps s (execParserParityRewrite i s) := Keeps.next (by simp)

theorem execPuntRefill_keeps (s : State) : Keeps s (execPuntRefill s) := Keeps.next (by simp)

theorem execClsTableConfig_keeps (m : Nat) (s : State) : Keeps s (execClsTableConfig m s) := Keeps.next (by simp)

theorem execRuleStage_keeps (x : Exec) (s : State) : Keeps s (execRuleStage x s) := Keeps.next (by simp)

theorem execPost_keeps (m : Nat) (s : State) : Keeps s (execPost m s) := by
  refine Keeps.next ?_
  (repeat' split) <;> simp

theorem execStageCancel_keeps (x : Exec) (s : State) : Keeps s (execStageCancel x s) := Keeps.next (by simp)

theorem execMeterConfig_keeps (m : Nat) (s : State) : Keeps s (execMeterConfig m s) := Keeps.next (by simp)

theorem execClsPortConfig_keeps (m : Nat) (s : State) : Keeps s (execClsPortConfig m s) := Keeps.next (by simp)

theorem execPostingConfig_keeps (m : Nat) (s : State) : Keeps s (execPostingConfig m s) := Keeps.next (by simp)

theorem execClassifyFrame_keeps (i : Nat) (bad : List Nat) (meterErr : Bool) (s : State) : Keeps s (execClassifyFrame i bad meterErr s) := by
  refine Keeps.next ?_
  (repeat' split) <;> simp

theorem execPostingSwitch_keeps (d : Nat) (s : State) : Keeps s (execPostingSwitch d s) := by
  refine Keeps.next ?_
  dsimp only
  (repeat' split) <;> simp

theorem execPostingDrained_keeps (s : State) : Keeps s (execPostingDrained s) := Keeps.next (by simp)

theorem execClerkPostingWork_keeps (d : Nat) (s : State) : Keeps s (execClerkPostingWork d s) := by
  refine Keeps.next ?_
  (repeat' split) <;> simp

theorem execDrainStall_keeps (s : State) : Keeps s (execDrainStall s) := Keeps.next (by simp)

theorem execLedgerConfig_keeps (m : Nat) (s : State) : Keeps s (execLedgerConfig m s) := Keeps.next (by simp)

theorem execLedgerGlobal_keeps (m : Nat) (s : State) : Keeps s (execLedgerGlobal m s) := Keeps.next (by simp)

theorem execLookupProfile_keeps (m : Nat) (s : State) : Keeps s (execLookupProfile m s) := Keeps.next (by simp)

theorem execLdgPortConfig_keeps (m : Nat) (s : State) : Keeps s (execLdgPortConfig m s) := Keeps.next (by simp)

theorem execEntryWrite_keeps (m : Nat) (s : State) : Keeps s (execEntryWrite m s) := Keeps.next (by simp)

theorem execEntryFind_keeps (m : Nat) (s : State) : Keeps s (execEntryFind m s) := Keeps.next (by simp)

theorem execEntryBatch_keeps (x : Exec) (s : State) : Keeps s (execEntryBatch x s) := Keeps.next (by simp)

theorem execGroupSet_keeps (m : Nat) (s : State) : Keeps s (execGroupSet m s) := Keeps.next (by simp)

theorem execLedgerFlush_keeps (x : Exec) (s : State) : Keeps s (execLedgerFlush x s) := Keeps.next (by simp)

theorem execAuditConfig_keeps (m : Nat) (s : State) : Keeps s (execAuditConfig m s) := Keeps.next (by simp)

theorem execClerkControl_keeps (m : Nat) (s : State) : Keeps s (execClerkControl m s) := Keeps.next (by simp)

theorem execExpressLookup_keeps (i : Nat) (s : State) : Keeps s (execExpressLookup i s) := by
  refine Keeps.next ?_
  dsimp only
  (repeat' split) <;> simp

theorem execExpressTxStart_keeps (p : Nat) (s : State) : Keeps s (execExpressTxStart p s) := by
  refine Keeps.next ?_
  (repeat' split) <;> simp

theorem execLearnRelease_keeps (i : Nat) (s : State) : Keeps s (execLearnRelease i s) := by
  refine Keeps.next ?_
  (repeat' split) <;> simp

theorem execClerkWorkStart_keeps (w : Nat) (s : State) : Keeps s (execClerkWorkStart w s) := by
  refine Keeps.next ?_
  dsimp only
  (repeat' split) <;> simp

theorem execAgeSweepBucket_keeps (w : Nat) (s : State) : Keeps s (execAgeSweepBucket w s) := Keeps.next (by simp)

theorem execAgeSweepPeriod_keeps (w : Nat) (s : State) : Keeps s (execAgeSweepPeriod w s) := Keeps.next (by simp)

theorem execAuditPassStart_keeps (k : Nat) (s : State) : Keeps s (execAuditPassStart k s) := by
  refine Keeps.next ?_
  dsimp only
  (repeat' split) <;> simp

theorem execClerkPark_keeps (w : Nat) (s : State) : Keeps s (execClerkPark w s) := Keeps.next (by simp)

theorem execClerkResume_keeps (w : Nat) (s : State) : Keeps s (execClerkResume w s) := Keeps.next (by simp)

theorem execClrkWriteComplete_keeps (w : Nat) (s : State) : Keeps s (execClrkWriteComplete w s) := by
  refine Keeps.next ?_
  (repeat' split) <;> simp

theorem execClrkHaltWrite_keeps (w : Nat) (s : State) : Keeps s (execClrkHaltWrite w s) := Keeps.next (by simp)

theorem execClrkIllegal_keeps (w : Nat) (perr : Bool) (s : State) : Keeps s (execClrkIllegal w perr s) := Keeps.next (by simp)

theorem execClrkNop_keeps (w : Nat) (s : State) : Keeps s (execClrkNop w s) := Keeps.next (by simp)

theorem execClrkAdd_keeps (w : Nat) (s : State) : Keeps s (execClrkAdd w s) := Keeps.next (by simp)

theorem execClrkSub_keeps (w : Nat) (s : State) : Keeps s (execClrkSub w s) := Keeps.next (by simp)

theorem execClrkAnd_keeps (w : Nat) (s : State) : Keeps s (execClrkAnd w s) := Keeps.next (by simp)

theorem execClrkOr_keeps (w : Nat) (s : State) : Keeps s (execClrkOr w s) := Keeps.next (by simp)

theorem execClrkXor_keeps (w : Nat) (s : State) : Keeps s (execClrkXor w s) := Keeps.next (by simp)

theorem execClrkShr_keeps (w : Nat) (s : State) : Keeps s (execClrkShr w s) := Keeps.next (by simp)

theorem execClrkShl_keeps (w : Nat) (s : State) : Keeps s (execClrkShl w s) := Keeps.next (by simp)

theorem execClrkDec_keeps (w : Nat) (s : State) : Keeps s (execClrkDec w s) := Keeps.next (by simp)

theorem execClrkBclr_keeps (w : Nat) (s : State) : Keeps s (execClrkBclr w s) := Keeps.next (by simp)

theorem execClrkFfs_keeps (w : Nat) (s : State) : Keeps s (execClrkFfs w s) := by
  refine Keeps.next ?_
  dsimp only
  (repeat' split) <;> simp

theorem execClrkRnd_keeps (w : Nat) (s : State) : Keeps s (execClrkRnd w s) := Keeps.next (by simp)

theorem execClrkLdp_keeps (w : Nat) (s : State) : Keeps s (execClrkLdp w s) := by
  refine Keeps.next ?_
  dsimp only
  (repeat' split) <;> simp

theorem execClrkLdk_keeps (w : Nat) (s : State) : Keeps s (execClrkLdk w s) := by
  refine Keeps.next ?_
  dsimp only
  (repeat' split) <;> simp

theorem execClrkHash_keeps (w : Nat) (s : State) : Keeps s (execClrkHash w s) := Keeps.next (by simp)

theorem execClrkRdb_keeps (w : Nat) (s : State) : Keeps s (execClrkRdb w s) := Keeps.next (by simp)

theorem execClrkScan_keeps (w : Nat) (s : State) : Keeps s (execClrkScan w s) := by
  refine Keeps.next ?_
  dsimp only
  (repeat' split) <;> simp

theorem execClrkAlt_keeps (w : Nat) (s : State) : Keeps s (execClrkAlt w s) := Keeps.next (by simp)

theorem execClrkScna_keeps (w : Nat) (s : State) : Keeps s (execClrkScna w s) := Keeps.next (by simp)

theorem execClrkAgep_keeps (w : Nat) (s : State) : Keeps s (execClrkAgep w s) := Keeps.next (by simp)

theorem execClrkPathw_keeps (w : Nat) (s : State) : Keeps s (execClrkPathw w s) := Keeps.next (by simp)

theorem execClrkPathr_keeps (w : Nat) (s : State) : Keeps s (execClrkPathr w s) := Keeps.next (by simp)

theorem execClrkWrr_keeps (w : Nat) (s : State) : Keeps s (execClrkWrr w s) := Keeps.next (by simp)

theorem execClrkUpd_keeps (w : Nat) (s : State) : Keeps s (execClrkUpd w s) := Keeps.next (by simp)

theorem execClrkDup_keeps (w : Nat) (s : State) : Keeps s (execClrkDup w s) := Keeps.next (by simp)

theorem execClrkErs_keeps (w : Nat) (s : State) : Keeps s (execClrkErs w s) := Keeps.next (by simp)

theorem execClrkErsb_keeps (w : Nat) (s : State) : Keeps s (execClrkErsb w s) := Keeps.next (by simp)

theorem execClrkHits_keeps (w : Nat) (s : State) : Keeps s (execClrkHits w s) := Keeps.next (by simp)

theorem execClrkAgew_keeps (w : Nat) (s : State) : Keeps s (execClrkAgew w s) := Keeps.next (by simp)

theorem execClrkRefresh_keeps (w : Nat) (s : State) : Keeps s (execClrkRefresh w s) := Keeps.next (by simp)

theorem execClrkCdoom_keeps (w : Nat) (s : State) : Keeps s (execClrkCdoom w s) := Keeps.next (by simp)

theorem execClrkUndoom_keeps (w : Nat) (s : State) : Keeps s (execClrkUndoom w s) := Keeps.next (by simp)

theorem execClrkMbr_keeps (w : Nat) (s : State) : Keeps s (execClrkMbr w s) := Keeps.next (by simp)

theorem execClrkJr_keeps (w : Nat) (s : State) : Keeps s (execClrkJr w s) := Keeps.next (by simp)

theorem execClrkCmt_keeps (w : Nat) (s : State) : Keeps s (execClrkCmt w s) := Keeps.next (by simp)

theorem execClrkRpt_keeps (w : Nat) (s : State) : Keeps s (execClrkRpt w s) := Keeps.next (by simp)

theorem execClrkDone_keeps (w : Nat) (s : State) : Keeps s (execClrkDone w s) := by
  refine Keeps.next ?_
  dsimp only
  (repeat' split) <;> simp

theorem execVaultConfig_keeps (m : Nat) (s : State) : Keeps s (execVaultConfig m s) := Keeps.next (by simp)

theorem execPoolConfig_keeps (m : Nat) (s : State) : Keeps s (execPoolConfig m s) := Keeps.next (by simp)

theorem execPoolMapSet_keeps (m : Nat) (s : State) : Keeps s (execPoolMapSet m s) := Keeps.next (by simp)

theorem execPoolRead_keeps (m : Nat) (s : State) : Keeps s (execPoolRead m s) := Keeps.next (by simp)

theorem execFrameEnqueue_keeps (i : Nat) (s : State) : Keeps s (execFrameEnqueue i s) := by
  refine Keeps.next ?_
  (repeat' split) <;> simp

theorem execFolioFree_keeps (who f pool unit : Nat) (s : State) : Keeps s (execFolioFree who f pool unit s) := Keeps.next (by simp)

theorem execQueueConfig_keeps (m : Nat) (s : State) : Keeps s (execQueueConfig m s) := Keeps.next (by simp)

theorem execPortSchedConfig_keeps (m : Nat) (s : State) : Keeps s (execPortSchedConfig m s) := Keeps.next (by simp)

theorem execEnergyConfig_keeps (m : Nat) (s : State) : Keeps s (execEnergyConfig m s) := Keeps.next (by simp)

theorem execQueueRead_keeps (m : Nat) (s : State) : Keeps s (execQueueRead m s) := Keeps.next (by simp)

theorem execSampleConfig_keeps (m : Nat) (s : State) : Keeps s (execSampleConfig m s) := Keeps.next (by simp)

theorem execPortSelect_keeps (p : Nat) (perr : List Nat) (s : State) : Keeps s (execPortSelect p perr s) := by
  refine Keeps.next ?_
  dsimp only
  (repeat' split) <;> simp

theorem execFrameTxEnd_keeps (p : Nat) (s : State) : Keeps s (execFrameTxEnd p s) := by
  refine Keeps.next ?_
  (repeat' split) <;> simp

theorem execPreemptResume_keeps (p : Nat) (s : State) : Keeps s (execPreemptResume p s) := by
  refine Keeps.next ?_
  dsimp only
  (repeat' split) <;> simp

theorem execLaunchWaitEnd_keeps (p k : Nat) (s : State) : Keeps s (execLaunchWaitEnd p k s) := by
  refine Keeps.next ?_
  (repeat' split) <;> simp

theorem execLaunchRelease_keeps (p : Nat) (s : State) : Keeps s (execLaunchRelease p s) := by
  refine Keeps.next ?_
  (repeat' split) <;> simp

theorem execStampPointTx_keeps (p : Nat) (s : State) : Keeps s (execStampPointTx p s) := by
  refine Keeps.next ?_
  (repeat' split) <;> simp

theorem execQueueSample_keeps (d fit : Nat) (s : State) : Keeps s (execQueueSample d fit s) := Keeps.next (by simp)

theorem execTimeConfig_keeps (m : Nat) (s : State) : Keeps s (execTimeConfig m s) := Keeps.next (by simp)

theorem execTimeAdjust_keeps (m : Nat) (s : State) : Keeps s (execTimeAdjust m s) := Keeps.next (by simp)

theorem execTimeRingConfig_keeps (m : Nat) (s : State) : Keeps s (execTimeRingConfig m s) := Keeps.next (by simp)

theorem execTimePinConfig_keeps (m : Nat) (s : State) : Keeps s (execTimePinConfig m s) := Keeps.next (by simp)

theorem execPortTimeConfig_keeps (m : Nat) (s : State) : Keeps s (execPortTimeConfig m s) := Keeps.next (by simp)

theorem execLaunchConfig_keeps (m : Nat) (s : State) : Keeps s (execLaunchConfig m s) := Keeps.next (by simp)

theorem execGateListSet_keeps (x : Exec) (s : State) : Keeps s (execGateListSet x s) := Keeps.next (by simp)

theorem execTimGateChangeWrite_keeps (p : Nat) (s : State) : Keeps s (execTimGateChangeWrite p s) := Keeps.next (by simp)

theorem execTimeSyncWord_keeps (dies : Nat) (s : State) : Keeps s (execTimeSyncWord dies s) := Keeps.next (by simp)

theorem execTimeCopyStale_keeps (d : Nat) (s : State) : Keeps s (execTimeCopyStale d s) := Keeps.next (by simp)

theorem execPpsMark_keeps (s : State) : Keeps s (execPpsMark s) := Keeps.next (by simp)

theorem execPpsMissing_keeps (s : State) : Keeps s (execPpsMissing s) := Keeps.next (by simp)

theorem execLockLeaseExpire_keeps (s : State) : Keeps s (execLockLeaseExpire s) := Keeps.next (by simp)

theorem execTimeDomainReturn_keeps (s : State) : Keeps s (execTimeDomainReturn s) := Keeps.next (by simp)

theorem execSlewDone_keeps (s : State) : Keeps s (execSlewDone s) := Keeps.next (by simp)

theorem execTimePairPeriod_keeps (s : State) : Keeps s (execTimePairPeriod s) := Keeps.next (by simp)

theorem execTimPairCapture_keeps (s : State) : Keeps s (execTimPairCapture s) := Keeps.next (by simp)

theorem execTimePinCapture_keeps (k : Nat) (falling : Bool) (s : State) : Keeps s (execTimePinCapture k falling s) := Keeps.next (by simp)

theorem execTimePinEdge_keeps (k : Nat) (s : State) : Keeps s (execTimePinEdge k s) := by
  refine Keeps.next ?_
  dsimp only
  (repeat' split) <;> simp

theorem execGateEntryStart_keeps (p : Nat) (s : State) : Keeps s (execGateEntryStart p s) := Keeps.next (by simp)

theorem execGateChangeover_keeps (p : Nat) (s : State) : Keeps s (execGateChangeover p s) := by
  refine Keeps.next ?_
  dsimp only
  (repeat' split) <;> simp

theorem execCthConfig_keeps (m : Nat) (s : State) : Keeps s (execCthConfig m s) := Keeps.next (by simp)

theorem execSyndicateCreate_keeps (m : Nat) (s : State) : Keeps s (execSyndicateCreate m s) := Keeps.next (by simp)

theorem execMemberLoad_keeps (x : Exec) (s : State) : Keeps s (execMemberLoad x s) := Keeps.next (by simp)

theorem execSyndicateDelete_keeps (m : Nat) (s : State) : Keeps s (execSyndicateDelete m s) := Keeps.next (by simp)

theorem execSyndicateRead_keeps (m : Nat) (s : State) : Keeps s (execSyndicateRead m s) := Keeps.next (by simp)

theorem execCthIntake_keeps (i : Nat) (s : State) : Keeps s (execCthIntake i s) := by
  refine Keeps.next ?_
  (repeat' split) <;> simp

theorem execCthContribution_keeps (d y : Nat) (s : State) : Keeps s (execCthContribution d y s) := by
  refine Keeps.next ?_
  dsimp only
  (repeat' split) <;> simp

theorem execCthAccumulated_keeps (y ecc : Nat) (s : State) : Keeps s (execCthAccumulated y ecc s) := by
  refine Keeps.next ?_
  dsimp only
  (repeat' split) <;> simp

theorem execCthResultReady_keeps (y b ecc : Nat) (s : State) : Keeps s (execCthResultReady y b ecc s) := by
  refine Keeps.next ?_
  (repeat' split) <;> simp

theorem execCthResultRetry_keeps (y b : Nat) (s : State) : Keeps s (execCthResultRetry y b s) := by
  refine Keeps.next ?_
  (repeat' split) <;> simp

theorem execCthStragglerTimer_keeps (y b : Nat) (s : State) : Keeps s (execCthStragglerTimer y b s) := by
  refine Keeps.next ?_
  (repeat' split) <;> simp

theorem execCthAbortTimer_keeps (y b : Nat) (s : State) : Keeps s (execCthAbortTimer y b s) := by
  refine Keeps.next ?_
  (repeat' split) <;> simp

theorem execDmaChannelConfig_keeps (m : Nat) (s : State) : Keeps s (execDmaChannelConfig m s) := Keeps.next (by simp)

theorem execDmaChannelControl_keeps (m : Nat) (s : State) : Keeps s (execDmaChannelControl m s) := Keeps.next (by simp)

theorem execHostqConfig_keeps (m : Nat) (s : State) : Keeps s (execHostqConfig m s) := Keeps.next (by simp)

theorem execDmaGlobalConfig_keeps (m : Nat) (s : State) : Keeps s (execDmaGlobalConfig m s) := Keeps.next (by simp)

theorem execDmaDoorbell_keeps (c v : Nat) (s : State) : Keeps s (execDmaDoorbell c v s) := Keeps.next (by simp)

theorem execDmaStart_keeps (c : Nat) (s : State) : Keeps s (execDmaStart c s) := Keeps.next (by simp)

theorem execDmaAbort_keeps (c : Nat) (s : State) : Keeps s (execDmaAbort c s) := Keeps.next (by simp)

theorem execDmaCopyToHost_keeps (c : Nat) (whole : Bool) (s : State) : Keeps s (execDmaCopyToHost c whole s) := Keeps.next (by simp)

theorem execDmaCopyFromHost_keeps (c : Nat) (whole : Bool) (s : State) : Keeps s (execDmaCopyFromHost c whole s) := Keeps.next (by simp)

theorem execDmaFill_keeps (c : Nat) (whole : Bool) (s : State) : Keeps s (execDmaFill c whole s) := Keeps.next (by simp)

theorem execDmaCompare_keeps (c : Nat) (whole : Bool) (s : State) : Keeps s (execDmaCompare c whole s) := Keeps.next (by simp)

theorem execDmaLink_keeps (c : Nat) (s : State) : Keeps s (execDmaLink c s) := Keeps.next (by simp)

theorem execDmaOwnRetry_keeps (c : Nat) (s : State) : Keeps s (execDmaOwnRetry c s) := by
  refine Keeps.next ?_
  dsimp only
  (repeat' split) <;> simp

theorem execDmaBurstGrant_keeps (wr unc : Bool) (s : State) : Keeps s (execDmaBurstGrant wr unc s) := by
  refine Keeps.next ?_
  dsimp only
  (repeat' split) <;> simp

theorem execDmaReadCompletion_keeps (c k n : Nat) (fails unc : Bool) (s : State) : Keeps s (execDmaReadCompletion c k n fails unc s) :=
  Keeps.next (by simp)

theorem execDmaCplTimeout_keeps (c : Nat) (s : State) : Keeps s (execDmaCplTimeout c s) := Keeps.next (by simp)

theorem execDmaIrqHoldoffEnd_keeps (c : Nat) (s : State) : Keeps s (execDmaIrqHoldoffEnd c s) := Keeps.next (by simp)

theorem execPuntFrameDeliver_keeps (c : Nat) (s : State) : Keeps s (execPuntFrameDeliver c s) := by
  refine Keeps.next ?_
  dsimp only
  (repeat' split) <;> simp

theorem execInjectFrameStart_keeps (c : Nat) (s : State) : Keeps s (execInjectFrameStart c s) := by
  refine Keeps.next ?_
  dsimp only
  (repeat' split) <;> simp

theorem execTallySelect_keeps (m : Nat) (s : State) : Keeps s (execTallySelect m s) := Keeps.next (by simp)

theorem execBookConfig_keeps (m : Nat) (s : State) : Keeps s (execBookConfig m s) := Keeps.next (by simp)

theorem execBookSchedule_keeps (m : Nat) (s : State) : Keeps s (execBookSchedule m s) := Keeps.next (by simp)

theorem execBookCancel_keeps (m : Nat) (s : State) : Keeps s (execBookCancel m s) := Keeps.next (by simp)

theorem execMarginaliaConfig_keeps (m : Nat) (s : State) : Keeps s (execMarginaliaConfig m s) := Keeps.next (by simp)

theorem execMarginaliaPort_keeps (m : Nat) (s : State) : Keeps s (execMarginaliaPort m s) := Keeps.next (by simp)

theorem execMarginaliaRules_keeps (m : Nat) (s : State) : Keeps s (execMarginaliaRules m s) := Keeps.next (by simp)

theorem execTallyCntClear_keeps (u k : Nat) (s : State) : Keeps s (execTallyCntClear u k s) := Keeps.next (by simp)

theorem execBookCapture_keeps (s : State) : Keeps s (execBookCapture s) := by
  refine Keeps.next ?_
  dsimp only
  (repeat' split) <;> simp

theorem execTallyStoreUpdate_keeps (k : Nat) (unc : Bool) (s : State) : Keeps s (execTallyStoreUpdate k unc s) := by
  refine Keeps.next ?_
  dsimp only
  (repeat' split) <;> simp

theorem execBookMarkersDone_keeps (s : State) : Keeps s (execBookMarkersDone s) := by
  refine Keeps.next ?_
  (repeat' split) <;> simp

theorem execBookClose_keeps (s : State) : Keeps s (execBookClose s) := by
  refine Keeps.next ?_
  (repeat' split) <;> simp

theorem execGovCapConfig_keeps (m : Nat) (s : State) : Keeps s (execGovCapConfig m s) := Keeps.next (by simp)

theorem execGovProfileSet_keeps (m : Nat) (s : State) : Keeps s (execGovProfileSet m s) := Keeps.next (by simp)

theorem execGovProfileSelect_keeps (m : Nat) (s : State) : Keeps s (execGovProfileSelect m s) := Keeps.next (by simp)

theorem execGovZoneConfig_keeps (m : Nat) (s : State) : Keeps s (execGovZoneConfig m s) := Keeps.next (by simp)

theorem execGovDroopConfig_keeps (m : Nat) (s : State) : Keeps s (execGovDroopConfig m s) := Keeps.next (by simp)

theorem execGovPmbusConfig_keeps (m : Nat) (s : State) : Keeps s (execGovPmbusConfig m s) := Keeps.next (by simp)

theorem execGovRead_keeps (m : Nat) (s : State) : Keeps s (execGovRead m s) := Keeps.next (by simp)

theorem execGovernorPeriod_keeps (total : Nat) (dies : List Nat) (s : State) : Keeps s (execGovernorPeriod total dies s) := Keeps.next (by simp)

theorem execOpStepStart_keeps (d : Nat) (quiet : Bool) (s : State) : Keeps s (execOpStepStart d quiet s) := by
  refine Keeps.next ?_
  (repeat' split) <;> simp

theorem execOpSupplySettled_keeps (d : Nat) (quiet : Bool) (s : State) : Keeps s (execOpSupplySettled d quiet s) := by
  refine Keeps.next ?_
  (repeat' split) <;> simp

theorem execOpStepDone_keeps (d : Nat) (s : State) : Keeps s (execOpStepDone d s) := by
  refine Keeps.next ?_
  (repeat' split) <;> simp

theorem execDroopDetect_keeps (d cycles : Nat) (detected : Bool) (s : State) : Keeps s (execDroopDetect d cycles detected s) := Keeps.next (by simp)

theorem execDroopWindow_keeps (d : Nat) (s : State) : Keeps s (execDroopWindow d s) := Keeps.next (by simp)

theorem execSensorSample_keeps (temps : List Int) (s : State) : Keeps s (execSensorSample temps s) := Keeps.next (by simp)

theorem execThermStepTimer_keeps (d : Nat) (s : State) : Keeps s (execThermStepTimer d s) := Keeps.next (by simp)

theorem execThermReleaseTimer_keeps (d : Nat) (trip : Bool) (s : State) : Keeps s (execThermReleaseTimer d trip s) := Keeps.next (by simp)

theorem execCapTick_keeps (s : State) : Keeps s (execCapTick s) := Keeps.next (by simp)

theorem execCapUnreachableTimer_keeps (s : State) : Keeps s (execCapUnreachableTimer s) := Keeps.next (by simp)

theorem execPmbusPoll_keeps (reads : List (Option (Nat × Nat))) (s : State) : Keeps s (execPmbusPoll reads s) := Keeps.next (by simp)

theorem execPmbusAlert_keeps (reads : List (Option (Nat × Nat))) (s : State) : Keeps s (execPmbusAlert reads s) := Keeps.next (by simp)

theorem execThermtrip_keeps (sensor : Nat) (s : State) : Keeps s (execThermtrip sensor s) := Keeps.next (by simp)

theorem execTripReleaseSample_keeps (below : Bool) (s : State) : Keeps s (execTripReleaseSample below s) := Keeps.next (by simp)

theorem execFaultHoldRestart_keeps (addr : Nat) (s : State) : Keeps s (execFaultHoldRestart addr s) := Keeps.next (by simp)

theorem execFaultConfig_keeps (m : Nat) (s : State) : Keeps s (execFaultConfig m s) := Keeps.next (by simp)

theorem execClassConfig_keeps (m : Nat) (s : State) : Keeps s (execClassConfig m s) := Keeps.next (by simp)

theorem execEventRoute_keeps (m : Nat) (s : State) : Keeps s (execEventRoute m s) := Keeps.next (by simp)

theorem execFaultRead_keeps (m : Nat) (s : State) : Keeps s (execFaultRead m s) := Keeps.next (by simp)

theorem execFaultAck_keeps (m : Nat) (s : State) : Keeps s (execFaultAck m s) := Keeps.next (by simp)

theorem execErrnControl_keeps (m : Nat) (s : State) : Keeps s (execErrnControl m s) := Keeps.next (by simp)

theorem execBlockResetEnd_keeps (u : Nat) (s : State) : Keeps s (execBlockResetEnd u s) := Keeps.next (by simp)

theorem execBlockRestored_keeps (u : Nat) (s : State) : Keeps s (execBlockRestored u s) := Keeps.next (by simp)

theorem execRailBreak_keeps (src : Nat) (high : Bool) (s : State) : Keeps s (execRailBreak src high s) := Keeps.next (by simp)

theorem execRailBreakClear_keeps (src : Nat) (s : State) : Keeps s (execRailBreakClear src s) := Keeps.next (by simp)

theorem execCollectorFrame_keeps (d : Nat) (good : Bool) (s : State) : Keeps s (execCollectorFrame d good s) := Keeps.next (by simp)

theorem execCollectorLost_keeps (d : Nat) (s : State) : Keeps s (execCollectorLost d s) := Keeps.next (by simp)

theorem execErrnPulseEnd_keeps (s : State) : Keeps s (execErrnPulseEnd s) := Keeps.next (by simp)

theorem execFaultAckTimeout_keeps (n : Nat) (s : State) : Keeps s (execFaultAckTimeout n s) := Keeps.next (by simp)

theorem execEventHoldoffEnd_keeps (g : Nat) (s : State) : Keeps s (execEventHoldoffEnd g s) := by
  refine Keeps.next ?_
  (repeat' split) <;> simp

theorem execEvtPendWrite_keeps (g : Nat) (hi : Bool) (v : Nat) (s : State) : Keeps s (execEvtPendWrite g hi v s) := by
  refine Keeps.next ?_
  (repeat' split) <;> simp

theorem execRegisterWrite_keeps (a n v : Nat) (s : State) : Keeps s (execRegisterWrite a n v s) := Keeps.next (by simp)

theorem execLoReadLatch_keeps (a n : Nat) (s : State) : Keeps s (execLoReadLatch a n s) := Keeps.next (by simp)

theorem execRcRead_keeps (a n : Nat) (s : State) : Keeps s (execRcRead a n s) := Keeps.next (by simp)

theorem execRawRead_keeps (a n : Nat) (unc : Bool) (s : State) : Keeps s (execRawRead a n unc s) := Keeps.next (by simp)

theorem execRawWrite_keeps (a n v : Nat) (unc : Bool) (s : State) : Keeps s (execRawWrite a n v unc s) := Keeps.next (by simp)

theorem execPllLock_keeps (k : Nat) (s : State) : Keeps s (execPllLock k s) := Keeps.next (by simp)

theorem execPrbsCheckerLock_keeps (n : Nat) (errs : List Nat) (s : State) : Keeps s (execPrbsCheckerLock n errs s) := Keeps.next (by simp)

theorem execPeriodicInjection_keeps (n : Nat) (s : State) : Keeps s (execPeriodicInjection n s) := Keeps.next (by simp)

theorem execMirrorRefresh_keeps (s : State) : Keeps s (execMirrorRefresh s) := by
  refine Keeps.next ?_
  (repeat' split) <;> simp

theorem execJtagTckEdge_keeps (rise tms tdi trst : Bool) (s : State) : Keeps s (execJtagTckEdge rise tms tdi trst s) := Keeps.next (by simp)

theorem execJtagTrstNAssert_keeps (s : State) : Keeps s (execJtagTrstNAssert s) := Keeps.next (by simp)

theorem execMbxCtlWrite_keeps (m v : Nat) (s : State) : Keeps s (execMbxCtlWrite m v s) := Keeps.next (by simp)

end Sys2Proof.Machine

namespace Sys2Proof.Machine

/-! ### Every command -/

/-- The eleven commands that can change the mode (R51). -/
def Instr.changesMode : Instr → Bool
  | .vddAonPowerOn | .vddAonPowerLoss | .resetNAssert | .perstNAssert | .loaderReady _ | .bootVerifyDone _ | .modeRequest _ | .holdoverEntry
  | .holdoverExit | .faultRaise | .faultInject _ => true
  | _ => false

theorem Instr.changesMode_cases {c : Instr} (h : Instr.changesMode c = true) :
    c = .vddAonPowerOn ∨ c = .vddAonPowerLoss ∨ c = .resetNAssert ∨ c = .perstNAssert ∨ (∃ a, c = .loaderReady a) ∨ (∃ u, c = .bootVerifyDone u)
      ∨ (∃ x, c = .modeRequest x) ∨ c = .holdoverEntry ∨ c = .holdoverExit ∨ c = .faultRaise ∨ (∃ m, c = .faultInject m) := by
  unfold Instr.changesMode at h
  split at h <;> simp at h ⊢

theorem exec_keeps {c : Instr} (h : Instr.changesMode c = false) (s : State) : Keeps s (exec c s) := by
  cases c with
  | vddAonPowerOn => cases h
  | vddAonPowerLoss => cases h
  | railOutOfRange r => exact execRailOutOfRange_keeps r s
  | railInRange r => exact execRailInRange_keeps r s
  | resetNAssert => cases h
  | perstNAssert => cases h
  | resetRelease resetN perstN => exact execResetRelease_keeps resetN perstN s
  | perstNRelease => exact execPerstNRelease_keeps s
  | loaderReady _ => cases h
  | pcieLinkUp speed width mps flit => exact execPcieLinkUp_keeps speed width mps flit s
  | pcieLinkDown => exact execPcieLinkDown_keeps s
  | busMasterEnableChange on => exact execBusMasterEnableChange_keeps on s
  | bootBufferWrite off bs => exact execBootBufferWrite_keeps off bs s
  | bootPageGo b index => exact execBootPageGo_keeps b index s
  | bootPageCheckDone b => exact execBootPageCheckDone_keeps b s
  | bootStart => exact execBootStart_keeps s
  | bootVerifyDone _ => cases h
  | bootAbort => exact execBootAbort_keeps s
  | spiWrite addr bs => exact execSpiWrite_keeps addr bs s
  | spiQuadWrite addr bs => exact execSpiQuadWrite_keeps addr bs s
  | spiRead addr n => exact execSpiRead_keeps addr n s
  | spiQuadRead addr n => exact execSpiQuadRead_keeps addr n s
  | mbxDoorbell m seq => exact execMbxDoorbell_keeps m seq s
  | mbxAreaWrite off bs => exact execMbxAreaWrite_keeps off bs s
  | i2cWrite addr off bs => exact execI2cWrite_keeps addr off bs s
  | i2cRead addr off n => exact execI2cRead_keeps addr off n s
  | i2cSclTimeout => exact execI2cSclTimeout_keeps s
  | tellerWatchdog => exact execTellerWatchdog_keeps s
  | grantLeaseExpire u => exact execGrantLeaseExpire_keeps u s
  | patchInstall => exact execPatchInstall_keeps s
  | tellerTrap => exact execTellerTrap_keeps s
  | nop m => exact execNop_keeps m s
  | identify m => exact execIdentify_keeps m s
  | modeRequest _ => cases h
  | asyncResult m => exact execAsyncResult_keeps m s
  | abortCommand m => exact execAbortCommand_keeps m s
  | historyRead m => exact execHistoryRead_keeps m s
  | grant m => exact execGrant_keeps m s
  | revoke m => exact execRevoke_keeps m s
  | patchLoad x => exact execPatchLoad_keeps x s
  | resetConfig m => exact execResetConfig_keeps m s
  | clockConfig m => exact execClockConfig_keeps m s
  | clockSelect m => exact execClockSelect_keeps m s
  | watchTrim m => exact execWatchTrim_keeps m s
  | qualIntervalEnd clk iv count => exact execQualIntervalEnd_keeps clk iv count s
  | refLoss idx => exact execRefLoss_keeps idx s
  | pllUnlock k => exact execPllUnlock_keeps k s
  | domainSwitchDone d => exact execDomainSwitchDone_keeps d s
  | watchTrimAdjust ppm hz => exact execWatchTrimAdjust_keeps ppm hz s
  | toggleAck d k pulses same => exact execToggleAck_keeps d k pulses same s
  | bundleAck d k vs => exact execBundleAck_keeps d k vs s
  | xingResetToken x offered => exact execXingResetToken_keeps x offered s
  | ckgSelectWrite d v => exact execCkgSelectWrite_keeps d v s
  | laneConfig m => exact execLaneConfig_keeps m s
  | eqTableLoad x => exact execEqTableLoad_keeps x s
  | laneTest m => exact execLaneTest_keeps m s
  | laneMarginScan x => exact execLaneMarginScan_keeps x s
  | stitchConfig m => exact execStitchConfig_keeps m s
  | laneTxPllLock n => exact execLaneTxPllLock_keeps n s
  | laneCdrLock n => exact execLaneCdrLock_keeps n s
  | laneSignalLoss n cdr => exact execLaneSignalLoss_keeps n cdr s
  | laneTempRefresh q => exact execLaneTempRefresh_keeps q s
  | laneBandEval n => exact execLaneBandEval_keeps n s
  | laneEqStep n => exact execLaneEqStep_keeps n s
  | laneInjFire n => exact execLaneInjFire_keeps n s
  | marginPointDone n errs => exact execMarginPointDone_keeps n errs s
  | pcsAlignment p am skews deskewed => exact execPcsAlignment_keeps p am skews deskewed s
  | fecWindowEnd p syms cor unc => exact execFecWindowEnd_keeps p syms cor unc s
  | stitchBlockRx n valid stuff => exact execStitchBlockRx_keeps n valid stuff s
  | stitchControlBlockRx n line c => exact execStitchControlBlockRx_keeps n line c s
  | stitchSignatureRx n line c => exact execStitchSignatureRx_keeps n line c s
  | stitchSignatureTx n => exact execStitchSignatureTx_keeps n s
  | stitchNakTimeout n => exact execStitchNakTimeout_keeps n s
  | stchRetrainWrite n => exact execStchRetrainWrite_keeps n s
  | portConfig m => exact execPortConfig_keeps m s
  | portDelete m => exact execPortDelete_keeps m s
  | pfcConfig m => exact execPfcConfig_keeps m s
  | preemptConfig m => exact execPreemptConfig_keeps m s
  | macRxFrame p sfd code frags broken deskew bytes => exact execMacRxFrame_keeps p sfd code frags broken deskew bytes s
  | pfcFrameRx p vec times => exact execPfcFrameRx_keeps p vec times s
  | preemptVerifyRx p respond => exact execPreemptVerifyRx_keeps p respond s
  | faultSignalRx p loc rem => exact execFaultSignalRx_keeps p loc rem s
  | portLinkLoss p => exact execPortLinkLoss_keeps p s
  | portUpHoldExpire p => exact execPortUpHoldExpire_keeps p s
  | portAdminDownDone p => exact execPortAdminDownDone_keeps p s
  | pfcTimerExpire p q => exact execPfcTimerExpire_keeps p q s
  | pfcXoffChange p q => exact execPfcXoffChange_keeps p q s
  | pfcRefreshTimer p q => exact execPfcRefreshTimer_keeps p q s
  | pfcStormDetect p q => exact execPfcStormDetect_keeps p q s
  | pfcStormRecover p q => exact execPfcStormRecover_keeps p q s
  | preemptVerifyTimer p => exact execPreemptVerifyTimer_keeps p s
  | parserTableLoad x => exact execParserTableLoad_keeps x s
  | parserConfig m => exact execParserConfig_keeps m s
  | parserPort m => exact execParserPort_keeps m s
  | flatProfileSet m => exact execFlatProfileSet_keeps m s
  | expressFilterSet m => exact execExpressFilterSet_keeps m s
  | puntConfig m => exact execPuntConfig_keeps m s
  | prsBankSwap idx => exact execPrsBankSwap_keeps idx s
  | prsTraceArm idx portEn port => exact execPrsTraceArm_keeps idx portEn port s
  | parseFrame idx perr ended => exact execParseFrame_keeps idx perr ended s
  | parseFrameEnd id => exact execParseFrameEnd_keeps id s
  | parserParityRewrite idx => exact execParserParityRewrite_keeps idx s
  | puntRefill => exact execPuntRefill_keeps s
  | clsTableConfig m => exact execClsTableConfig_keeps m s
  | ruleStage x => exact execRuleStage_keeps x s
  | post m => exact execPost_keeps m s
  | stageCancel x => exact execStageCancel_keeps x s
  | meterConfig m => exact execMeterConfig_keeps m s
  | clsPortConfig m => exact execClsPortConfig_keeps m s
  | postingConfig m => exact execPostingConfig_keeps m s
  | classifyFrame idx bad meterErr => exact execClassifyFrame_keeps idx bad meterErr s
  | postingSwitch d => exact execPostingSwitch_keeps d s
  | postingDrained => exact execPostingDrained_keeps s
  | clerkPostingWork d => exact execClerkPostingWork_keeps d s
  | drainStall => exact execDrainStall_keeps s
  | ledgerConfig m => exact execLedgerConfig_keeps m s
  | ledgerGlobal m => exact execLedgerGlobal_keeps m s
  | lookupProfile m => exact execLookupProfile_keeps m s
  | ldgPortConfig m => exact execLdgPortConfig_keeps m s
  | entryWrite m => exact execEntryWrite_keeps m s
  | entryFind m => exact execEntryFind_keeps m s
  | entryBatch x => exact execEntryBatch_keeps x s
  | groupSet m => exact execGroupSet_keeps m s
  | ledgerFlush x => exact execLedgerFlush_keeps x s
  | auditConfig m => exact execAuditConfig_keeps m s
  | clerkControl m => exact execClerkControl_keeps m s
  | expressLookup idx => exact execExpressLookup_keeps idx s
  | expressTxStart p => exact execExpressTxStart_keeps p s
  | learnRelease idx => exact execLearnRelease_keeps idx s
  | clerkWorkStart w => exact execClerkWorkStart_keeps w s
  | ageSweepBucket w => exact execAgeSweepBucket_keeps w s
  | ageSweepPeriod w => exact execAgeSweepPeriod_keeps w s
  | auditPassStart k => exact execAuditPassStart_keeps k s
  | clerkPark w => exact execClerkPark_keeps w s
  | clerkResume w => exact execClerkResume_keeps w s
  | clrkWriteComplete w => exact execClrkWriteComplete_keeps w s
  | clrkHaltWrite w => exact execClrkHaltWrite_keeps w s
  | clrkIllegal w perr => exact execClrkIllegal_keeps w perr s
  | clrkNop w => exact execClrkNop_keeps w s
  | clrkAdd w => exact execClrkAdd_keeps w s
  | clrkSub w => exact execClrkSub_keeps w s
  | clrkAnd w => exact execClrkAnd_keeps w s
  | clrkOr w => exact execClrkOr_keeps w s
  | clrkXor w => exact execClrkXor_keeps w s
  | clrkShr w => exact execClrkShr_keeps w s
  | clrkShl w => exact execClrkShl_keeps w s
  | clrkDec w => exact execClrkDec_keeps w s
  | clrkBclr w => exact execClrkBclr_keeps w s
  | clrkFfs w => exact execClrkFfs_keeps w s
  | clrkRnd w => exact execClrkRnd_keeps w s
  | clrkLdp w => exact execClrkLdp_keeps w s
  | clrkLdk w => exact execClrkLdk_keeps w s
  | clrkHash w => exact execClrkHash_keeps w s
  | clrkRdb w => exact execClrkRdb_keeps w s
  | clrkScan w => exact execClrkScan_keeps w s
  | clrkAlt w => exact execClrkAlt_keeps w s
  | clrkScna w => exact execClrkScna_keeps w s
  | clrkAgep w => exact execClrkAgep_keeps w s
  | clrkPathw w => exact execClrkPathw_keeps w s
  | clrkPathr w => exact execClrkPathr_keeps w s
  | clrkWrr w => exact execClrkWrr_keeps w s
  | clrkUpd w => exact execClrkUpd_keeps w s
  | clrkDup w => exact execClrkDup_keeps w s
  | clrkErs w => exact execClrkErs_keeps w s
  | clrkErsb w => exact execClrkErsb_keeps w s
  | clrkHits w => exact execClrkHits_keeps w s
  | clrkAgew w => exact execClrkAgew_keeps w s
  | clrkRefresh w => exact execClrkRefresh_keeps w s
  | clrkCdoom w => exact execClrkCdoom_keeps w s
  | clrkUndoom w => exact execClrkUndoom_keeps w s
  | clrkMbr w => exact execClrkMbr_keeps w s
  | clrkJr w => exact execClrkJr_keeps w s
  | clrkCmt w => exact execClrkCmt_keeps w s
  | clrkRpt w => exact execClrkRpt_keeps w s
  | clrkDone w => exact execClrkDone_keeps w s
  | vaultConfig m => exact execVaultConfig_keeps m s
  | poolConfig m => exact execPoolConfig_keeps m s
  | poolMapSet m => exact execPoolMapSet_keeps m s
  | poolRead m => exact execPoolRead_keeps m s
  | frameEnqueue idx => exact execFrameEnqueue_keeps idx s
  | folioFree who f pool unit => exact execFolioFree_keeps who f pool unit s
  | queueConfig m => exact execQueueConfig_keeps m s
  | portSchedConfig m => exact execPortSchedConfig_keeps m s
  | energyConfig m => exact execEnergyConfig_keeps m s
  | queueRead m => exact execQueueRead_keeps m s
  | sampleConfig m => exact execSampleConfig_keeps m s
  | portSelect p perr => exact execPortSelect_keeps p perr s
  | frameTxEnd p => exact execFrameTxEnd_keeps p s
  | preemptResume p => exact execPreemptResume_keeps p s
  | launchWaitEnd p k => exact execLaunchWaitEnd_keeps p k s
  | launchRelease p => exact execLaunchRelease_keeps p s
  | stampPointTx p => exact execStampPointTx_keeps p s
  | queueSample d fit => exact execQueueSample_keeps d fit s
  | timeConfig m => exact execTimeConfig_keeps m s
  | timeAdjust m => exact execTimeAdjust_keeps m s
  | timeRingConfig m => exact execTimeRingConfig_keeps m s
  | timePinConfig m => exact execTimePinConfig_keeps m s
  | portTimeConfig m => exact execPortTimeConfig_keeps m s
  | launchConfig m => exact execLaunchConfig_keeps m s
  | gateListSet x => exact execGateListSet_keeps x s
  | timGateChangeWrite p => exact execTimGateChangeWrite_keeps p s
  | timeSyncWord dies => exact execTimeSyncWord_keeps dies s
  | timeCopyStale d => exact execTimeCopyStale_keeps d s
  | ppsMark => exact execPpsMark_keeps s
  | ppsMissing => exact execPpsMissing_keeps s
  | lockLeaseExpire => exact execLockLeaseExpire_keeps s
  | holdoverEntry => cases h
  | holdoverExit => cases h
  | timeDomainReturn => exact execTimeDomainReturn_keeps s
  | slewDone => exact execSlewDone_keeps s
  | timePairPeriod => exact execTimePairPeriod_keeps s
  | timPairCapture => exact execTimPairCapture_keeps s
  | timePinCapture k falling => exact execTimePinCapture_keeps k falling s
  | timePinEdge k => exact execTimePinEdge_keeps k s
  | gateEntryStart p => exact execGateEntryStart_keeps p s
  | gateChangeover p => exact execGateChangeover_keeps p s
  | cthConfig m => exact execCthConfig_keeps m s
  | syndicateCreate m => exact execSyndicateCreate_keeps m s
  | memberLoad x => exact execMemberLoad_keeps x s
  | syndicateDelete m => exact execSyndicateDelete_keeps m s
  | syndicateRead m => exact execSyndicateRead_keeps m s
  | cthIntake idx => exact execCthIntake_keeps idx s
  | cthContribution d y => exact execCthContribution_keeps d y s
  | cthAccumulated y ecc => exact execCthAccumulated_keeps y ecc s
  | cthResultReady y b ecc => exact execCthResultReady_keeps y b ecc s
  | cthResultRetry y b => exact execCthResultRetry_keeps y b s
  | cthStragglerTimer y b => exact execCthStragglerTimer_keeps y b s
  | cthAbortTimer y b => exact execCthAbortTimer_keeps y b s
  | dmaChannelConfig m => exact execDmaChannelConfig_keeps m s
  | dmaChannelControl m => exact execDmaChannelControl_keeps m s
  | hostqConfig m => exact execHostqConfig_keeps m s
  | dmaGlobalConfig m => exact execDmaGlobalConfig_keeps m s
  | dmaDoorbell c v => exact execDmaDoorbell_keeps c v s
  | dmaStart c => exact execDmaStart_keeps c s
  | dmaAbort c => exact execDmaAbort_keeps c s
  | dmaCopyToHost c whole => exact execDmaCopyToHost_keeps c whole s
  | dmaCopyFromHost c whole => exact execDmaCopyFromHost_keeps c whole s
  | dmaFill c whole => exact execDmaFill_keeps c whole s
  | dmaCompare c whole => exact execDmaCompare_keeps c whole s
  | dmaLink c => exact execDmaLink_keeps c s
  | dmaOwnRetry c => exact execDmaOwnRetry_keeps c s
  | dmaBurstGrant wr unc => exact execDmaBurstGrant_keeps wr unc s
  | dmaReadCompletion c k n fails unc => exact execDmaReadCompletion_keeps c k n fails unc s
  | dmaCplTimeout c => exact execDmaCplTimeout_keeps c s
  | dmaIrqHoldoffEnd c => exact execDmaIrqHoldoffEnd_keeps c s
  | puntFrameDeliver c => exact execPuntFrameDeliver_keeps c s
  | injectFrameStart c => exact execInjectFrameStart_keeps c s
  | tallySelect m => exact execTallySelect_keeps m s
  | bookConfig m => exact execBookConfig_keeps m s
  | bookSchedule m => exact execBookSchedule_keeps m s
  | bookCancel m => exact execBookCancel_keeps m s
  | marginaliaConfig m => exact execMarginaliaConfig_keeps m s
  | marginaliaPort m => exact execMarginaliaPort_keeps m s
  | marginaliaRules m => exact execMarginaliaRules_keeps m s
  | tallyCntClear u k => exact execTallyCntClear_keeps u k s
  | bookCapture => exact execBookCapture_keeps s
  | tallyStoreUpdate k unc => exact execTallyStoreUpdate_keeps k unc s
  | bookMarkersDone => exact execBookMarkersDone_keeps s
  | bookClose => exact execBookClose_keeps s
  | govCapConfig m => exact execGovCapConfig_keeps m s
  | govProfileSet m => exact execGovProfileSet_keeps m s
  | govProfileSelect m => exact execGovProfileSelect_keeps m s
  | govZoneConfig m => exact execGovZoneConfig_keeps m s
  | govDroopConfig m => exact execGovDroopConfig_keeps m s
  | govPmbusConfig m => exact execGovPmbusConfig_keeps m s
  | govRead m => exact execGovRead_keeps m s
  | governorPeriod total dies => exact execGovernorPeriod_keeps total dies s
  | opStepStart d quiet => exact execOpStepStart_keeps d quiet s
  | opSupplySettled d quiet => exact execOpSupplySettled_keeps d quiet s
  | opStepDone d => exact execOpStepDone_keeps d s
  | droopDetect d cycles detected => exact execDroopDetect_keeps d cycles detected s
  | droopWindow d => exact execDroopWindow_keeps d s
  | sensorSample temps => exact execSensorSample_keeps temps s
  | thermStepTimer d => exact execThermStepTimer_keeps d s
  | thermReleaseTimer d trip => exact execThermReleaseTimer_keeps d trip s
  | capTick => exact execCapTick_keeps s
  | capUnreachableTimer => exact execCapUnreachableTimer_keeps s
  | pmbusPoll reads => exact execPmbusPoll_keeps reads s
  | pmbusAlert reads => exact execPmbusAlert_keeps reads s
  | thermtrip sensor => exact execThermtrip_keeps sensor s
  | tripReleaseSample below => exact execTripReleaseSample_keeps below s
  | faultHoldRestart addr => exact execFaultHoldRestart_keeps addr s
  | faultConfig m => exact execFaultConfig_keeps m s
  | classConfig m => exact execClassConfig_keeps m s
  | eventRoute m => exact execEventRoute_keeps m s
  | faultRead m => exact execFaultRead_keeps m s
  | faultAck m => exact execFaultAck_keeps m s
  | errnControl m => exact execErrnControl_keeps m s
  | faultInject _ => cases h
  | faultRaise => cases h
  | blockResetEnd u => exact execBlockResetEnd_keeps u s
  | blockRestored u => exact execBlockRestored_keeps u s
  | railBreak src high => exact execRailBreak_keeps src high s
  | railBreakClear src => exact execRailBreakClear_keeps src s
  | collectorFrame d good => exact execCollectorFrame_keeps d good s
  | collectorLost d => exact execCollectorLost_keeps d s
  | errnPulseEnd => exact execErrnPulseEnd_keeps s
  | faultAckTimeout n => exact execFaultAckTimeout_keeps n s
  | eventHoldoffEnd g => exact execEventHoldoffEnd_keeps g s
  | evtPendWrite g hi v => exact execEvtPendWrite_keeps g hi v s
  | registerWrite a n v => exact execRegisterWrite_keeps a n v s
  | loReadLatch a n => exact execLoReadLatch_keeps a n s
  | rcRead a n => exact execRcRead_keeps a n s
  | rawRead a n unc => exact execRawRead_keeps a n unc s
  | rawWrite a n v unc => exact execRawWrite_keeps a n v unc s
  | pllLock k => exact execPllLock_keeps k s
  | prbsCheckerLock n errs => exact execPrbsCheckerLock_keeps n errs s
  | periodicInjection n => exact execPeriodicInjection_keeps n s
  | mirrorRefresh => exact execMirrorRefresh_keeps s
  | jtagTckEdge rise tms tdi trst => exact execJtagTckEdge_keeps rise tms tdi trst s
  | jtagTrstNAssert => exact execJtagTrstNAssert_keeps s
  | mbxCtlWrite m v => exact execMbxCtlWrite_keeps m v s

/-- An outcome is a next state that has the queue of `s`, and whose mode and identity are legal where those of `s` are. -/
def KeepsLegal (s : State) (o : Host.Outcome State Fault Refusal) : Prop := ∃ t, o = .next t ∧ t.pending = s.pending ∧ StaysLegal s t

theorem KeepsLegal.next {s t : State} (hq : t.fixed.1 = s.fixed.1) (hl : StaysLegal s t) : KeepsLegal s (.next t) := ⟨t, rfl, hq, hl⟩

theorem Keeps.legal {s : State} {o : Host.Outcome State Fault Refusal} (h : Keeps s o) : KeepsLegal s o := by
  obtain ⟨t, rfl, ht⟩ := h
  exact .next (congrArg (fun f => f.1) ht) (.of_fixed ht)

theorem execVddAonPowerOn_legal (s : State) : KeepsLegal s (execVddAonPowerOn s) := .next (by simp) (.of_reset (by simp))

theorem execVddAonPowerLoss_legal (s : State) : KeepsLegal s (execVddAonPowerLoss s) := .next (by simp) (.of_reset (by simp))

theorem execResetNAssert_legal (s : State) : KeepsLegal s (execResetNAssert s) := by
  refine .next (by simp) ?_
  split
  · exact .of_fixed (by rfl)
  · exact .trans (.of_fixed (by simp)) (State.pinReset_legal _ _)

theorem execPerstNAssert_legal (s : State) : KeepsLegal s (execPerstNAssert s) := by
  refine .next (by simp) ?_
  split
  · exact .of_fixed (by rfl)
  · dsimp only
    split
    · exact .trans (.of_fixed (by simp)) (State.pinReset_legal _ _)
    · exact .of_fixed (by simp)

theorem execLoaderReady_legal (addr : Nat) (s : State) : KeepsLegal s (execLoaderReady addr s) := by
  refine .next (by simp) ?_
  dsimp only
  split
  · split
    · exact .of_mode (m := 1) (by simp) (by decide)
    · exact .of_fixed (by rfl)
  · exact .of_fixed (by simp)

theorem execBootVerifyDone_legal (unc : Bool) (s : State) : KeepsLegal s (execBootVerifyDone unc s) := by
  refine .next (by dsimp only; (repeat' split) <;> simp) ?_
  split
  · dsimp only
    split
    · exact .of_fixed (by simp)
    · exact .of_mode (m := 2) (by simp) (by decide)
  · exact .of_fixed (by rfl)

theorem execModeRequest_legal (x : Exec) (s : State) : KeepsLegal s (execModeRequest x s) := by
  refine .next (by (repeat' split) <;> simp) ?_
  split
  · split
    · exact .of_fixed (by rfl)
    · split
      · exact State.requestReload_legal _ _ _
      · exact State.requestMode_legal _ _
  · split
    · exact .of_fixed (by rfl)
    · split
      · exact .of_fixed (by rfl)
      · exact State.requestMode_legal _ _

theorem execHoldoverEntry_legal (s : State) : KeepsLegal s (execHoldoverEntry s) := by
  refine .next (by simp) ?_
  split
  · exact .of_mode (State.setMode_fixed s 5 (by decide)) (by decide)
  · exact .of_fixed (by rfl)

theorem execHoldoverExit_legal (s : State) : KeepsLegal s (execHoldoverExit s) := by
  refine .next (by simp) ?_
  split
  · exact .of_mode (State.setMode_fixed s 4 (by decide)) (by decide)
  · exact .of_fixed (by rfl)

theorem execFaultRaise_legal (s : State) : KeepsLegal s (execFaultRaise s) := by
  refine .next (by (repeat' split) <;> simp) ?_
  split
  · exact .of_fixed (by rfl)
  · split
    · exact .of_fixed (by rfl)
    · exact .trans (.of_fixed (by simp)) (State.handle_legal _ _)

theorem State.runCmd_queue (s : State) (m : Nat) (c : Cmd) (checks : Req → Checks) (act : Req → Ans) (h : ∀ r, (act r).state.fixed.1 = s.fixed.1) :
    (s.runCmd m c checks act).fixed.1 = s.fixed.1 := by
  unfold State.runCmd
  split
  · rfl
  · dsimp only
    split
    · simp
    · generalize heq : act _ = a
      have ha := heq ▸ h _
      cases a
      split
      · exact ha
      · simpa using ha

theorem execFaultInject_legal (m : Nat) (s : State) : KeepsLegal s (execFaultInject m s) :=
  .next (State.runCmd_queue _ _ _ _ _ fun r => by simp) (State.runCmd_legal _ _ _ _ _ fun r => State.faultInjectAct_legal s r)

/-- Every command leaves the queue as it is and a legal mode and identity legal. -/
theorem exec_legal (c : Instr) (s : State) : KeepsLegal s (exec c s) := by
  by_cases h : Instr.changesMode c = true
  · obtain rfl | rfl | rfl | rfl | ⟨a, rfl⟩ | ⟨u, rfl⟩ | ⟨x, rfl⟩ | rfl | rfl | rfl | ⟨m, rfl⟩ := Instr.changesMode_cases h
    · exact execVddAonPowerOn_legal s
    · exact execVddAonPowerLoss_legal s
    · exact execResetNAssert_legal s
    · exact execPerstNAssert_legal s
    · exact execLoaderReady_legal a s
    · exact execBootVerifyDone_legal u s
    · exact execModeRequest_legal x s
    · exact execHoldoverEntry_legal s
    · exact execHoldoverExit_legal s
    · exact execFaultRaise_legal s
    · exact execFaultInject_legal m s
  · exact (exec_keeps (Bool.eq_false_iff.2 h) s).legal

/-- A step takes at most a command from the front of the queue, and leaves a legal mode and identity legal. -/
theorem step_legal {s t : State} (h : step s = .next t) : (∀ c ∈ t.pending, c ∈ s.pending) ∧ StaysLegal s t := by
  unfold step at h
  split at h
  · obtain rfl := Host.Outcome.next.inj h
    have ht := State.tick_fixed s
    exact ⟨fun c hc => (congrArg (fun f => f.1) ht : s.tick.pending = s.pending) ▸ hc, .of_fixed ht⟩
  · rename_i c rest hp
    obtain ⟨u, hu, hq, hl⟩ := exec_legal c { s with pending := rest }
    obtain rfl := Host.Outcome.next.inj (h.symm.trans hu)
    have hq' : t.pending = rest := hq
    exact ⟨fun d hd => hp ▸ List.mem_cons_of_mem c (hq' ▸ hd), ⟨hl.mode, hl.chip⟩⟩

/-- Settles O4: every step keeps the waiting commands, a legal mode legal and the identity as it is. -/
theorem invariantsOfEveryStep : Obligations.InvariantsOfEveryStep :=
  ⟨fun _ _ hw h c hc => hw c ((step_legal h).1 c hc), fun _ _ hm h => (step_legal h).2.mode hm, fun _ _ hi h => (step_legal h).2.chip hi⟩

/-- Settles O5: a command that is none of the eleven keeps the mode. -/
theorem onlyTheseCommandsChangeTheMode : Obligations.OnlyTheseCommandsChangeTheMode := by
  intro c s t h hm
  by_cases hc : Instr.changesMode c = true
  · exact Instr.changesMode_cases hc
  · obtain ⟨u, hu, hf⟩ := exec_keeps (Bool.eq_false_iff.2 hc) s
    obtain rfl := Host.Outcome.next.inj (h.symm.trans hu)
    exact absurd (congrArg (fun f => f.2.2) hf) hm

end Sys2Proof.Machine

namespace Sys2Proof.Machine

/-! ### The supply rails, the PCIe link and Bus Master Enable -/

/-- A field whose own bits are written within it is that word with those bits written. -/
theorem putBits_putBits_within (v lo wd k n x : Nat) (h : k + n ≤ wd) :
    putBits v lo wd (putBits (bits v lo wd) k n x) = putBits v (lo + k) n x := by
  apply Nat.eq_of_testBit_eq
  intro i
  simp only [putBits_testBit, bits_testBit]
  by_cases h1 : i < lo
  · have h2 : i < lo + k := by omega
    simp [h1, h2]
  · obtain ⟨j, rfl⟩ := Nat.exists_eq_add_of_le (Nat.le_of_not_lt h1)
    by_cases h2 : j < wd
    · by_cases h3 : j < k
      · simp [h2, h3]
      · by_cases h4 : j < k + n
        · have h5 : lo + j < lo + k + n := by omega
          simp [h2, h3, h4, h5, Nat.add_sub_add_left]
        · have h5 : ¬ lo + j < lo + k + n := by omega
          simp [h2, h3, h4, h5]
    · have h3 : ¬ j < k := by omega
      have h4 : ¬ lo + j < lo + k + n := by omega
      simp [h2, h3, h4]

/-- One field written leaves the part as the list of that one write does. -/
theorem Wrote.setF (s : State) (f : Fld) (i v : Nat) (h : f.lo + f.wd ≤ 32) : Wrote s (s.setF f i v) [(f, i, v)] :=
  Wrote.setAll s [(f, i, v)] (by simpa using h) (List.pairwise_singleton _ _)

/-- The GOOD bit of one rail, written through the field of all of them. -/
theorem State.setF_railGood (s : State) (r v : Nat) (h : r < 7) :
    s.setF F.GLB_RAIL_STATUS_GOOD 0 (putBits (s.fld F.GLB_RAIL_STATUS_GOOD 0) r 1 v) = s.setF ⟨R.GLB_RAIL_STATUS, r, 1⟩ 0 v := by
  have hw : putBits (s.rd R.GLB_RAIL_STATUS 0) 0 7 (putBits (bits (s.rd R.GLB_RAIL_STATUS 0) 0 7) r 1 v) = putBits (s.rd R.GLB_RAIL_STATUS 0) r 1 v := by
    rw [putBits_putBits_within _ _ _ _ _ _ (by omega), Nat.zero_add]
  unfold State.setF
  exact congrArg (s.wr R.GLB_RAIL_STATUS 0) hw

theorem State.setF_glb_mode (s : State) {f : Fld} (i v : Nat) (h : R.GLB_MODE.key 0 ≠ f.reg.key i) : (s.setF f i v).mode = s.mode :=
  State.fld_setF_ne s v h

theorem State.railLost_core (s : State) {r : Nat} (h : r = 0 ∨ r = 1 ∨ r = 6) : s.railLost r = s := by
  unfold State.railLost
  rw [if_neg (by omega), if_neg (by omega), if_neg (by omega)]

theorem execRailOutOfRange_good (s : State) (r : Nat) (h : r < 7) (hg : s.railGood r = true) (hm : s.mode ≠ 0) :
    ∃ u, Wrote s u [(⟨R.GLB_RAIL_STATUS, r, 1⟩, 0, 0)]
      ∧ execRailOutOfRange r s = .next ((u.raise E.PWR_RAIL_ABSENT (127 - u.fld F.GLB_RAIL_STATUS_GOOD 0)).railLost r) := by
  refine ⟨_, Wrote.setF s _ 0 0 (by simp only; omega), ?_⟩
  unfold execRailOutOfRange
  rw [if_neg (by simp [hg]; omega)]
  dsimp only
  rw [State.setF_railGood s r 0 h, State.setF_glb_mode _ _ _ (show R.GLB_MODE.key 0 ≠ R.GLB_RAIL_STATUS.key 0 by decide), if_neg hm]
  rfl

theorem execRailInRange_within (s : State) (r : Nat) (h : r < 7) :
    ∃ u, Wrote s u [(⟨R.GLB_RAIL_STATUS, r, 1⟩, 0, 1)]
      ∧ execRailInRange r s = .next (if r = 2 ∨ r = 3 then u.each (List.range 1024) fun n v => v.refreshTx n else u) := by
  refine ⟨_, Wrote.setF s _ 0 1 (by simp only; omega), ?_⟩
  unfold execRailInRange
  rw [if_neg (by omega)]
  dsimp only
  rw [State.setF_railGood s r 1 h]

theorem execPcieLinkUp_trained (s : State) (speed width mps : Nat) (flit : Bool)
    (h : s.mode ≠ 0 ∧ s.pins.perstN ∧ s.railGood 4 ∧ s.flag F.CKG_DOMAIN_STATUS_RUNNING 3 ∧ 1 ≤ speed ∧ speed ≤ 3
      ∧ [1, 2, 4, 8].contains width ∧ mps ≤ 2) :
    ∃ u, Wrote s u [(F.DMA_PCIE_STATUS_SPEED, 0, speed), (F.DMA_PCIE_STATUS_WIDTH, 0, width), (F.DMA_PCIE_STATUS_MPS, 0, mps),
        (F.DMA_PCIE_STATUS_FLIT, 0, b2n flit), (F.DMA_PCIE_STATUS_LINK_UP, 0, 1)]
      ∧ execPcieLinkUp speed width mps flit s = .next { u with pins := { s.pins with pcieUp := true } } := by
  refine ⟨_, Wrote.setAll s _ ?_ ?_, ?_⟩
  · simp [F.DMA_PCIE_STATUS_SPEED, F.DMA_PCIE_STATUS_WIDTH, F.DMA_PCIE_STATUS_MPS, F.DMA_PCIE_STATUS_FLIT, F.DMA_PCIE_STATUS_LINK_UP]
  · simp [Separate, F.DMA_PCIE_STATUS_SPEED, F.DMA_PCIE_STATUS_WIDTH, F.DMA_PCIE_STATUS_MPS, F.DMA_PCIE_STATUS_FLIT, F.DMA_PCIE_STATUS_LINK_UP]
  · unfold execPcieLinkUp
    rw [if_pos h]
    rfl

/-- A status bit and its count, of one register, as two writes. -/
theorem State.setCounted_eq (s : State) (b c : Fld) (i : Nat) (hr : c.reg = b.reg) (hc : c.lo + c.wd ≤ 32)
    (h : c.lo + c.wd ≤ b.lo ∨ b.lo + b.wd ≤ c.lo) : s.setCounted b c i = (s.setF b i 1).setF c i (satBits c.wd (s.fld c i + 1)) := by
  unfold State.setCounted State.inc State.addSat
  rw [State.fld_setF_other s b c i 1 hr hc h]

theorem State.setCounted_pins_comm (s : State) (p : Pins) (b c : Fld) (i : Nat) :
    State.setCounted { s with pins := p } b c i = { s.setCounted b c i with pins := p } := (rfl)

/-- The link leaves L0: its bit, the record of it and its count. -/
theorem State.linkDown_up (s : State) (h : s.pins.pcieUp = true) :
    ∃ u, Wrote s u [(F.DMA_PCIE_STATUS_LINK_UP, 0, 0), (F.DMA_PCIE_STATUS_LINK_DOWN, 0, 1),
        (F.DMA_PCIE_STATUS_LINK_DOWN_COUNT, 0, satBits 8 (s.fld F.DMA_PCIE_STATUS_LINK_DOWN_COUNT 0 + 1))]
      ∧ s.linkDown = ({ u with pins := { s.pins with pcieUp := false } }.note E.DMA_PCIE_LINK_DOWN).each (List.range 28) fun c v => v.finishDesc c := by
  refine ⟨_, Wrote.setAll s _ ?_ ?_, ?_⟩
  · simp [F.DMA_PCIE_STATUS_LINK_UP, F.DMA_PCIE_STATUS_LINK_DOWN, F.DMA_PCIE_STATUS_LINK_DOWN_COUNT]
  · simp [Separate, F.DMA_PCIE_STATUS_LINK_UP, F.DMA_PCIE_STATUS_LINK_DOWN, F.DMA_PCIE_STATUS_LINK_DOWN_COUNT]
  · unfold State.linkDown
    rw [h, if_neg (by decide)]
    dsimp only
    rw [State.setCounted_pins_comm, State.setCounted_eq _ _ _ _ (by rfl) (by decide) (by decide),
      State.fld_setF_other _ _ _ _ _ (by rfl) (by decide) (by decide)]
    rfl

theorem execBusMasterEnableChange_changes (s : State) (on : Bool) (h : s.pins.pcieUp = true) (hb : s.pins.busMaster ≠ on) :
    ∃ u, Wrote s u [(F.DMA_PCIE_STATUS_BME, 0, b2n on)]
      ∧ execBusMasterEnableChange on s = .next ({ u with pins := { s.pins with busMaster := on } }.holdDma on) := by
  refine ⟨_, Wrote.setF s _ 0 _ (by decide), ?_⟩
  unfold execBusMasterEnableChange
  rw [if_neg (by simp [h, hb])]

/-- Settles O8: the rails by the GOOD bit each one's command writes, the link by the fields its commands write. -/
theorem railsAndLink : Obligations.RailsAndLink := by
  unfold Obligations.RailsAndLink
  refine ⟨fun s r hr => ⟨fun hg hm => ?_, execRailInRange_within s r hr⟩, fun s speed width mps flit on => ⟨?_, ?_, ?_⟩⟩
  · obtain ⟨u, hu, he⟩ := execRailOutOfRange_good s r hr hg hm
    exact ⟨u, hu, he, fun h v => State.railLost_core v h⟩
  · intro h1 h2 h3 h4 h5 h6 h7 h8
    exact execPcieLinkUp_trained s speed width mps flit ⟨h1, h2, h3, h4, h5, h6, by simpa using h7, h8⟩
  · intro h
    obtain ⟨u, hu, he⟩ := State.linkDown_up s h
    exact ⟨u, hu, congrArg Host.Outcome.next he⟩
  · exact execBusMasterEnableChange_changes s on

end Sys2Proof.Machine

namespace Sys2Proof.Machine

/-! ### Bytes and words of a write -/

theorem leNat_leBytes (n v : Nat) : leNat (leBytes n v) = v % 256 ^ n := by
  induction n generalizing v with
  | zero => simp [leBytes, leNat, Nat.mod_one]
  | succ n ih => rw [leBytes, leNat, ih, BitVec.toNat_ofNat, show 256 ^ (n + 1) = 256 * 256 ^ n from Nat.pow_succ', Nat.mod_mul]

theorem leNat_w32 (v : Nat) (h : v < 2 ^ 32) : leNat (w32 v) = v := by
  rw [w32, leNat_leBytes]
  exact Nat.mod_eq_of_lt h

theorem w32_length (v : Nat) : (w32 v).length = 4 := leBytes_length 4 v

/-- Bytes that cover a word replace it whole. -/
theorem patch_whole (l bs : List Byte) (h : bs.length = l.length) : patch l 0 bs = bs := by
  simp [patch, h ▸ List.take_length, h]

theorem leNat_patch_w32 (old v : Nat) (h : v < 2 ^ 32) : leNat (patch (w32 old) 0 (w32 v)) = v := by
  rw [patch_whole _ _ (by rw [w32_length, w32_length]), leNat_w32 v h]

/-- Bytes that reach no multiple of `k` past their first offset are one piece. -/
theorem piecesOf_one (k n o : Nat) (bs : List Byte) (hn : 0 < n) (hb : bs ≠ []) (h : bs.length ≤ k - o % k) : piecesOf k n o bs = [(o, bs)] := by
  obtain ⟨m, rfl⟩ := Nat.exists_eq_add_of_lt hn
  have hd : piecesOf k (0 + m) (o + (k - o % k)) [] = [] := by cases m <;> simp [piecesOf]
  rw [piecesOf, if_neg (by simpa using hb), List.take_of_length_le h, List.drop_eq_nil_of_le h, hd]

theorem wordPieces_word (o : Nat) (bs : List Byte) (ho : o % 4 = 0) (hl : bs.length = 4) : wordPieces o bs = [(o, bs)] :=
  piecesOf_one 4 _ o bs (by omega) (by rintro rfl; simp at hl) (by omega)

/-! ### Registers that a reset and a field write leave -/

theorem State.setF_congr (s : State) (f : Fld) (i : Nat) {v w : Nat} (h : v % 2 ^ f.wd = w % 2 ^ f.wd) : s.setF f i v = s.setF f i w := by
  unfold State.setF putBits
  rw [h]

theorem State.rd_lt (s : State) (q : Reg) (j : Nat) (h : q.rst j < 2 ^ 32) : s.rd q j < 2 ^ 32 := by
  unfold State.rd
  split
  · exact BitVec.isLt _
  · exact h

theorem State.resetRegs_rd (s : State) (p : Nat → Bool) (q : Reg) (j : Nat) :
    (s.resetRegs p).rd q j = if p (q.key j) then q.rst j else s.rd q j := by
  rw [State.rd_of_filter (fun k => !p k) (by rfl)]
  cases p (q.key j) <;> rfl

/-! ### The boot window -/

/-- A part whose boot window takes the host's writes: in Loader, and no other path has written a page of it. -/
structure BootOpen (s : State) : Prop where
  mode : s.mode = 1
  source : s.fld F.BOOT_STATUS_SOURCE 0 = 0 ∨ s.fld F.BOOT_STATUS_SOURCE 0 = 1

theorem State.bootWrite_word (s : State) (path o : Nat) (bs : List Byte) (ho : o % 4 = 0) (hl : bs.length = 4) (hb : o < 0x21000) :
    s.bootWrite path (0x800000 + o) bs = s.bootWord path o bs := by
  unfold State.bootWrite
  rw [if_neg (by omega), Nat.add_sub_cancel_left, wordPieces_word o bs ho hl]
  simp [State.each, hb]

theorem BootOpen.bootWord {s : State} (h : BootOpen s) (o : Nat) (w : List Byte) :
    s.bootWord 1 o w = if o < 0x20000 then
        if !s.flag (bufFree (o / 0x10000)) 0 then s.bootReject
        else { s.setF F.BOOT_STATUS_SOURCE 0 1 with boot := { s.boot with buf := Tab.setList 0 s.boot.buf o w } }
      else s.bootReg (o - 0x20000) w := by
  obtain ⟨hm, hs⟩ := h
  unfold State.bootWord
  rw [if_neg (by simp [hm]), if_neg (by omega)]

/-- A word the host writes to a register of an open boot window. -/
theorem BootOpen.hostBoot_reg {s : State} (h : BootOpen s) (hb : s.bar2Up = true) (r : Nat) (bs : List Byte) (hr : r % 4 = 0) (hl : bs.length = 4)
    (hw : r < 0x1000) : s.hostBoot (0x820000 + r) bs = s.bootReg r bs := by
  unfold State.hostBoot
  rw [if_pos hb, show 0x820000 + r = 0x800000 + (0x20000 + r) by omega, State.bootWrite_word _ _ _ _ (by omega) hl (by omega), h.bootWord,
    if_neg (by omega), Nat.add_sub_cancel_left]

theorem BootOpen.execBootBufferWrite_free {s : State} (h : BootOpen s) (hb : s.bar2Up = true) (o : Nat) (bs : List Byte) (ho : o < 0x20000)
    (h4 : o % 4 = 0) (hl : bs.length = 4) (hf : s.flag (bufFree (o / 0x10000)) 0 = true) :
    ∃ u, Wrote s u [(F.BOOT_STATUS_SOURCE, 0, 1)]
      ∧ execBootBufferWrite (0x800000 + o) bs s = .next { u with boot := { s.boot with buf := Tab.setList 0 s.boot.buf o bs } } := by
  refine ⟨_, Wrote.setF s _ 0 1 (by decide), ?_⟩
  unfold execBootBufferWrite State.hostBoot
  rw [if_pos hb, State.bootWrite_word _ _ _ _ h4 hl (by omega), h.bootWord, if_pos ho, hf, if_neg (by decide)]

theorem boot_ctl_key : R.BOOT_CTL.key 0 ≠ R.BOOT_STATUS.key 0 := by decide

theorem boot_page_ctl_key {b : Nat} (h : b < 2) : R.BOOT_PAGE_CTL.key b ≠ R.BOOT_STATUS.key 0 := by
  obtain rfl | rfl : b = 0 ∨ b = 1 := by omega
  · decide
  · decide

/-- FREE of a buffer is a bit of BOOT_STATUS. -/
theorem bufFree_cases (b : Nat) : bufFree b = F.BOOT_STATUS_BUF0_FREE ∨ bufFree b = F.BOOT_STATUS_BUF1_FREE := by
  unfold bufFree
  split
  · exact .inl rfl
  · exact .inr rfl

/-- A word with GO hands a free buffer over. -/
theorem State.bootReg_go (s : State) (b v : Nat) (hb : b < 2) (hv : v < 2 ^ 32) (hg : bit v 31 = true) (hf : s.flag (bufFree b) 0 = true) :
    s.bootReg (0x10 + 0x10 * b) (w32 v) = s.setAll [(F.BOOT_PAGE_CTL_INDEX, b, v), (F.BOOT_PAGE_CTL_GO, b, 1), (bufFree b, 0, 0)] := by
  unfold State.bootReg
  dsimp only
  rw [show (0x10 + 0x10 * b) / 4 * 4 = 0x10 + 0x10 * b by omega, show (0x10 + 0x10 * b - 0x10) / 0x10 = b by omega,
    show (0x10 + 0x10 * b) % 4 = 0 by omega, if_neg (by omega), if_pos (by omega), hf, if_neg (by decide)]
  simp only [leNat_patch_w32 _ v hv, hg, if_true, State.setAll_cons, State.setAll_nil]

/-- Of the word that BOOT_PAGE_GO writes, the index field takes the index. -/
theorem State.setIndex_go (s : State) (b index : Nat) :
    s.setF F.BOOT_PAGE_CTL_INDEX b (index % 512 + 2 ^ 31) = s.setF F.BOOT_PAGE_CTL_INDEX b index :=
  State.setF_congr s _ _ (by show (index % 512 + 2 ^ 31) % 2 ^ 9 = index % 2 ^ 9; omega)

theorem bit_go (index : Nat) : bit (index % 512 + 2 ^ 31) 31 = true := by
  rw [bit, Nat.add_comm, Nat.testBit_two_pow_add_eq, Nat.testBit_lt_two_pow (by omega)]
  rfl

theorem BootOpen.execBootPageGo_free {s : State} (h : BootOpen s) (hb : s.bar2Up = true) (b index : Nat) (h2 : b < 2)
    (hf : s.flag (bufFree b) 0 = true) :
    ∃ t, execBootPageGo b index s = .next t
      ∧ Wrote s t [(F.BOOT_PAGE_CTL_INDEX, b, index), (F.BOOT_PAGE_CTL_GO, b, 1), (bufFree b, 0, 0)] := by
  refine ⟨_, ?_, Wrote.setAll s _ ?_ ?_⟩
  · unfold execBootPageGo
    rw [if_pos h2, show 0x820010 + 0x10 * b = 0x820000 + (0x10 + 0x10 * b) by omega, h.hostBoot_reg hb _ _ (by omega) (w32_length _) (by omega),
      State.bootReg_go s b _ h2 (by omega) (bit_go index) hf, State.setAll_cons, State.setIndex_go s b index]
    simp only [State.setAll_cons]
  · obtain e | e := bufFree_cases b <;> simp [e, F.BOOT_PAGE_CTL_INDEX, F.BOOT_PAGE_CTL_GO, F.BOOT_STATUS_BUF0_FREE, F.BOOT_STATUS_BUF1_FREE]
  · obtain e | e := bufFree_cases b <;>
      simp [e, Separate, boot_page_ctl_key h2, F.BOOT_PAGE_CTL_INDEX, F.BOOT_PAGE_CTL_GO, F.BOOT_STATUS_BUF0_FREE, F.BOOT_STATUS_BUF1_FREE]

/-- A word written to BOOT_CTL. -/
theorem State.bootReg_ctl (s : State) (v : Nat) (h : v < 2 ^ 32) : s.bootReg 4 (w32 v) = s.bootCtl v := by
  unfold State.bootReg
  dsimp only
  rw [if_pos (by decide), leNat_patch_w32 _ _ h]

theorem BootOpen.execBootStart {s : State} (h : BootOpen s) (hb : s.bar2Up = true) :
    ∃ t, execBootStart s = .next t ∧ Wrote s t [(F.BOOT_CTL_START, 0, 1), (F.BOOT_STATUS_VERIFYING, 0, 1)] := by
  refine ⟨_, ?_, Wrote.setAll s _ ?_ ?_⟩
  · unfold Machine.execBootStart
    rw [show 0x820004 = 0x820000 + 4 by rfl, h.hostBoot_reg hb _ _ (by decide) (w32_length _) (by decide), State.bootReg_ctl _ _ (by decide)]
    rfl
  · decide
  · simp [Separate, F.BOOT_CTL_START, F.BOOT_STATUS_VERIFYING, boot_ctl_key]

/-- The registers of the boot window. -/
def bootWindowKey (a : Nat) : Bool := decide (0x100820000 ≤ a ∧ a < 0x100821000)

/-- In Loader the boot window comes out of its reset ready, both buffers free, and holds nothing. -/
theorem State.resetBootWindow_loader (s : State) (h : s.mode = 1) :
    s.resetBootWindow = { (s.resetRegs bootWindowKey).setAll [(F.BOOT_STATUS_READY, 0, 1), (F.BOOT_STATUS_BUF0_FREE, 0, 1), (F.BOOT_STATUS_BUF1_FREE, 0, 1)]
      with boot := { s.boot with buf := [], pages := [] } } := by
  have hm : (s.resetRegs bootWindowKey).mode = 1 := by
    unfold State.mode State.fld at *
    rwa [State.resetRegs_rd, if_neg (by decide)]
  unfold State.resetBootWindow
  exact if_pos hm

theorem State.resetBootWindow_tlr (s : State) : s.resetBootWindow.tlr = s.tlr := by
  unfold State.resetBootWindow
  dsimp only
  split <;> rfl

theorem State.resetBootWindow_clh (s : State) : s.resetBootWindow.clh = s.clh := by
  unfold State.resetBootWindow
  dsimp only
  split <;> rfl

/-- What BOOT_STATUS reads after the reset of the boot window in Loader. -/
theorem State.resetBootWindow_status (s : State) (h : s.mode = 1) :
    s.resetBootWindow.fld F.BOOT_STATUS_READY 0 = 1 ∧ s.resetBootWindow.fld F.BOOT_STATUS_BUF0_FREE 0 = 1
      ∧ s.resetBootWindow.fld F.BOOT_STATUS_BUF1_FREE 0 = 1 ∧ s.resetBootWindow.fld F.BOOT_STATUS_PAGES_ACCEPTED 0 = 0 := by
  have hw := Wrote.setAll (s.resetRegs bootWindowKey) [(F.BOOT_STATUS_READY, 0, 1), (F.BOOT_STATUS_BUF0_FREE, 0, 1), (F.BOOT_STATUS_BUF1_FREE, 0, 1)]
    (by decide) (by simp [Separate, F.BOOT_STATUS_READY, F.BOOT_STATUS_BUF0_FREE, F.BOOT_STATUS_BUF1_FREE])
  obtain ⟨⟨holds, keeps⟩, -⟩ := hw
  rw [State.resetBootWindow_loader s h]
  refine ⟨holds (F.BOOT_STATUS_READY, 0, 1) (by simp), holds (F.BOOT_STATUS_BUF0_FREE, 0, 1) (by simp), holds (F.BOOT_STATUS_BUF1_FREE, 0, 1) (by simp), ?_⟩
  refine (keeps F.BOOT_STATUS_PAGES_ACCEPTED 0 (by decide) ?_).trans ?_
  · simp [Apart, F.BOOT_STATUS_READY, F.BOOT_STATUS_BUF0_FREE, F.BOOT_STATUS_BUF1_FREE, F.BOOT_STATUS_PAGES_ACCEPTED]
  · unfold State.fld
    rw [State.resetRegs_rd, if_pos (by decide)]
    rfl

/-- A field of the boot window other than BOOT_ERR_PAGE and BOOT_WINDOW_REJECTS after ABORT reads as after the window's reset. -/
theorem State.bootAbort_fld (s : State) (f : Fld) (j : Nat) (h1 : f.reg.key j ≠ R.BOOT_ERR_PAGE.key 0) (h2 : f.reg.key j ≠ R.BOOT_WINDOW_REJECTS.key 0) :
    s.bootAbort.fld f j = s.resetBootWindow.fld f j := by
  unfold State.bootAbort
  dsimp only
  rw [State.fld_wr_ne _ _ h2, State.fld_wr_ne _ _ h1]

theorem BootOpen.execBootAbort {s : State} (h : BootOpen s) (hb : s.bar2Up = true) : execBootAbort s = .next s.bootAbort := by
  unfold Machine.execBootAbort
  rw [show 0x820004 = 0x820000 + 4 by rfl, h.hostBoot_reg hb _ _ (by decide) (w32_length _) (by decide), State.bootReg_ctl _ _ (by decide)]
  rfl

theorem State.bootAbort_kept (s : State) : s.bootAbort.rd R.BOOT_ERR_PAGE 0 = s.rd R.BOOT_ERR_PAGE 0
    ∧ s.bootAbort.rd R.BOOT_WINDOW_REJECTS 0 = s.rd R.BOOT_WINDOW_REJECTS 0 := by
  unfold State.bootAbort
  dsimp only
  constructor
  · rw [State.rd_wr_ne _ _ (by decide), State.rd_wr_same]
    exact Nat.mod_eq_of_lt (State.rd_lt s _ _ (by decide))
  · rw [State.rd_wr_same]
    exact Nat.mod_eq_of_lt (State.rd_lt s _ _ (by decide))

theorem State.bootAbort_loader (s : State) (h : s.mode = 1) :
    s.bootAbort.boot.buf = [] ∧ s.bootAbort.boot.pages = [] ∧ s.bootAbort.mode = 1 ∧ s.bootAbort.tlr = s.tlr ∧ s.bootAbort.clh = s.clh := by
  have hm : s.bootAbort.mode = s.resetBootWindow.mode := State.bootAbort_fld s _ _ (by decide) (by decide)
  have hr : s.resetBootWindow.mode = s.mode := congrArg (·.2.2) (State.resetBootWindow_fixed s)
  refine ⟨?_, ?_, by rw [hm, hr, h], State.resetBootWindow_tlr s, State.resetBootWindow_clh s⟩
  · show s.resetBootWindow.boot.buf = []
    rw [State.resetBootWindow_loader s h]
  · show s.resetBootWindow.boot.pages = []
    rw [State.resetBootWindow_loader s h]

/-! ### Pages and verification -/

theorem State.setAll_boot (s : State) (b : Boot) (l : List (Fld × Nat × Nat)) :
    State.setAll { s with boot := b } l = { s.setAll l with boot := b } := by
  induction l generalizing s with
  | nil => rfl
  | cons e l ih => exact ih (s.setF e.1 e.2.1 e.2.2)

/-- A page with an index the image has, and the right CRC, is held and counted. -/
theorem State.checkPage_right (s : State) (b : Nat)
    (hk : s.fld F.BOOT_PAGE_CTL_INDEX b = 0 ∧ s.pageHeld 0 = false ∨ s.pageHeld 0 = true ∧ s.fld F.BOOT_PAGE_CTL_INDEX b < s.pageCount)
    (hc : crc32 (Tab.getList 0 s.boot.buf (0x10000 * b) 0x10000) = s.rd R.BOOT_PAGE_CRC b) :
    s.checkPage b = State.setF { s with boot := { s.boot with
        pages := Tab.set [] s.boot.pages (s.fld F.BOOT_PAGE_CTL_INDEX b) (Tab.getList 0 s.boot.buf (0x10000 * b) 0x10000) } }
      F.BOOT_STATUS_PAGES_ACCEPTED 0
      (Tab.set [] s.boot.pages (s.fld F.BOOT_PAGE_CTL_INDEX b) (Tab.getList 0 s.boot.buf (0x10000 * b) 0x10000)).length := by
  have hi : ¬ (((!s.pageHeld 0 && s.fld F.BOOT_PAGE_CTL_INDEX b != 0)
      || (s.pageHeld 0 && decide (s.pageCount ≤ s.fld F.BOOT_PAGE_CTL_INDEX b))) = true) := by
    obtain ⟨h0, hh⟩ | ⟨hh, h0⟩ := hk
    · simp [h0, hh]
    · simp [hh, h0]
  unfold State.checkPage
  dsimp only
  rw [if_neg hi, if_neg (by simpa using hc)]

theorem execBootPageCheckDone_right (s : State) (b : Nat) (hb : b < 2) (hm : s.mode = 1) (hg : s.flag F.BOOT_PAGE_CTL_GO b = true)
    (hk : s.fld F.BOOT_PAGE_CTL_INDEX b = 0 ∧ s.pageHeld 0 = false ∨ s.pageHeld 0 = true ∧ s.fld F.BOOT_PAGE_CTL_INDEX b < s.pageCount)
    (hc : crc32 (Tab.getList 0 s.boot.buf (0x10000 * b) 0x10000) = s.rd R.BOOT_PAGE_CRC b) :
    ∃ u pages, pages = Tab.set [] s.boot.pages (s.fld F.BOOT_PAGE_CTL_INDEX b) (Tab.getList 0 s.boot.buf (0x10000 * b) 0x10000)
      ∧ Wrote s u [(F.BOOT_STATUS_PAGES_ACCEPTED, 0, pages.length), (F.BOOT_PAGE_CTL_GO, b, 0), (bufFree b, 0, 1)]
      ∧ execBootPageCheckDone b s = .next { u with boot := { s.boot with pages := pages } } := by
  refine ⟨_, _, rfl, Wrote.setAll s _ ?_ ?_, ?_⟩
  · obtain e | e := bufFree_cases b <;> simp [e, F.BOOT_STATUS_PAGES_ACCEPTED, F.BOOT_PAGE_CTL_GO, F.BOOT_STATUS_BUF0_FREE, F.BOOT_STATUS_BUF1_FREE]
  · obtain e | e := bufFree_cases b <;>
      simp [e, Separate, boot_page_ctl_key hb, (boot_page_ctl_key hb).symm, F.BOOT_STATUS_PAGES_ACCEPTED, F.BOOT_PAGE_CTL_GO,
        F.BOOT_STATUS_BUF0_FREE, F.BOOT_STATUS_BUF1_FREE]
  · unfold execBootPageCheckDone
    rw [if_pos ⟨hb, hm, hg⟩, State.checkPage_right s b hk hc, ← State.setAll_boot]
    simp only [State.setAll_cons, State.setAll_nil]

theorem execBootVerifyDone_right (s : State) (unc : Bool) (hm : s.mode = 1) (hv : s.flag F.BOOT_STATUS_VERIFYING 0 = true)
    (he : s.verifyError unc = none) :
    ∃ u, Wrote s u [(F.BOOT_STATUS_VERIFYING, 0, 0), (F.BOOT_CTL_START, 0, 0), (F.BOOT_STATUS_DONE, 0, 1)]
      ∧ execBootVerifyDone unc s = .next u.enterStandby ∧ u.enterStandby.mode = 2 := by
  refine ⟨_, Wrote.setAll s _ (by decide) ?_, ?_, ?_⟩
  · simp [Separate, boot_ctl_key, boot_ctl_key.symm, F.BOOT_STATUS_VERIFYING, F.BOOT_CTL_START, F.BOOT_STATUS_DONE]
  · unfold execBootVerifyDone
    rw [if_pos ⟨hm, hv⟩]
    dsimp only
    rw [he]
    rfl
  · exact congrArg (·.2.2) (State.enterStandby_fixed _)

theorem execBootVerifyDone_wrong (s : State) (unc : Bool) (e : Nat) (hm : s.mode = 1) (hv : s.flag F.BOOT_STATUS_VERIFYING 0 = true)
    (he : s.verifyError unc = some e) (h5 : e ≠ 5) :
    ∃ u, Wrote s u [(F.BOOT_STATUS_VERIFYING, 0, 0), (F.BOOT_CTL_START, 0, 0), (F.BOOT_STATUS_ERROR, 0, e), (F.BOOT_STATUS_PAGES_ACCEPTED, 0, 0),
        (F.BOOT_STATUS_SOURCE, 0, 0)]
      ∧ execBootVerifyDone unc s = .next ({ u with boot := { s.boot with pages := [] } }.note E.GLB_BOOT_IMAGE_BAD) := by
  refine ⟨_, Wrote.setAll s _ ?_ ?_, ?_⟩
  · simp [F.BOOT_STATUS_VERIFYING, F.BOOT_CTL_START, F.BOOT_STATUS_ERROR, F.BOOT_STATUS_PAGES_ACCEPTED, F.BOOT_STATUS_SOURCE]
  · simp [Separate, boot_ctl_key, boot_ctl_key.symm, F.BOOT_STATUS_VERIFYING, F.BOOT_CTL_START, F.BOOT_STATUS_ERROR, F.BOOT_STATUS_PAGES_ACCEPTED,
      F.BOOT_STATUS_SOURCE]
  · unfold execBootVerifyDone
    rw [if_pos ⟨hm, hv⟩]
    dsimp only
    rw [he]
    dsimp only
    unfold State.discardImage
    rw [if_neg h5, ← State.setAll_boot]
    rfl

/-- Settles O9: the host's words reach the open boot window as one piece each, and the Loader's checks are cut to the branch their result takes. -/
theorem theCharterIsLoaded : Obligations.TheCharterIsLoaded := by
  unfold Obligations.TheCharterIsLoaded
  refine ⟨fun s hb hm hs => ?_, fun s hm => ⟨fun b h2 hg hk hc => execBootPageCheckDone_right s b h2 hm hg hk hc,
    fun unc hv he => execBootVerifyDone_right s unc hm hv he, fun unc e hv he h5 => execBootVerifyDone_wrong s unc e hm hv he h5⟩⟩
  have h : BootOpen s := ⟨hm, hs⟩
  refine ⟨fun o bs ho h4 hl hf => h.execBootBufferWrite_free hb o bs ho h4 hl hf, fun b index h2 _ hf => h.execBootPageGo_free hb b index h2 hf,
    h.execBootStart hb, s.bootAbort, h.execBootAbort hb, ?_⟩
  obtain ⟨hbuf, hpages, hmode, htlr, hclh⟩ := State.bootAbort_loader s hm
  obtain ⟨hready, hfree0, hfree1, hcount⟩ := State.resetBootWindow_status s hm
  obtain ⟨hpage, hrejects⟩ := State.bootAbort_kept s
  refine ⟨hbuf, hpages, ?_, ?_, ?_, ?_, hpage, hrejects, hmode, htlr, hclh⟩
  · rw [State.bootAbort_fld _ _ _ (by decide) (by decide), hready]
  · rw [State.bootAbort_fld _ _ _ (by decide) (by decide), hfree0]
  · rw [State.bootAbort_fld _ _ _ (by decide) (by decide), hfree1]
  · rw [State.bootAbort_fld _ _ _ (by decide) (by decide), hcount]

end Sys2Proof.Machine

namespace Sys2Proof.Machine

/-! ### SPI and I2C at the mailboxes -/

/-- Every piece of a write begins within it. -/
theorem mem_piecesOf (k n o : Nat) (bs : List Byte) {e : Nat × List Byte} (h : e ∈ piecesOf k n o bs) : o ≤ e.1 ∧ e.1 < o + bs.length := by
  induction n generalizing o bs with
  | zero => simp [piecesOf] at h
  | succ n ih =>
    unfold piecesOf at h
    split at h
    · simp at h
    · next hb =>
      have hl : 0 < bs.length := List.length_pos_iff.2 (by simpa using hb)
      obtain rfl | h := List.mem_cons.1 h
      · exact ⟨Nat.le_refl _, by simp only; omega⟩
      · have := ih _ _ h
        rw [List.length_drop] at this
        omega

/-- A write that ends before the control registers writes none of them. -/
theorem State.controlWrites_before (s : State) (path m base off : Nat) (bs : List Byte) (h : off + bs.length ≤ base) :
    s.controlWrites path m base off bs = s := by
  have hl : ((wordPieces off bs).filter fun e => decide (base ≤ e.1) && decide (e.1 < base + 0x10)) = [] := by
    rw [List.filter_eq_nil_iff]
    intro e he
    have := mem_piecesOf _ _ _ _ he
    simp only [Bool.and_eq_true, decide_eq_true_eq]
    omega
  unfold State.controlWrites
  rw [hl]
  rfl

/-- A write within the request area of a free mailbox, by SPI or I2C. -/
theorem State.areaWrite_request (s : State) (path m o : Nat) (bs : List Byte) (hp : path ≠ 0) (hm : m < 8) (hf : s.busy m = false) (hb : bs ≠ [])
    (h : o + bs.length ≤ 0x800) : s.areaWrite path (0x1000 * m + o) bs = s.putArea (0x1000 * m + o) bs := by
  have hl : 0 < bs.length := List.length_pos_iff.2 hb
  unfold State.areaWrite
  rw [piecesOf_one _ _ _ _ hl hb (by omega)]
  show (if 0x1000 * m + o < 0x8000 then s.areaPiece path (0x1000 * m + o) bs else s) = _
  rw [if_pos (by omega)]
  unfold State.areaPiece
  dsimp only
  rw [show (0x1000 * m + o) / 0x1000 = m by omega, show (0x1000 * m + o) % 0x1000 = o by omega, hf,
    if_neg (by simp [hp]; omega)]

theorem State.spiWrite_request (s : State) (addr : Nat) (bs : List Byte) (ha : s.spiAnswers = true) (hl : s.flag F.GLB_RESET_CFG_SPI_LOCK 0 = false)
    (hf : s.busy 0 = false) (hb : bs ≠ []) (h : addr + bs.length ≤ 0x800) : s.spiWrite addr bs = s.putArea addr bs := by
  have hpos : 0 < bs.length := List.length_pos_iff.2 hb
  have hw : s.areaWrite 2 addr bs = s.putArea addr bs := by
    have := s.areaWrite_request 2 0 addr bs (by decide) (by decide) hf hb h
    rwa [Nat.mul_zero, Nat.zero_add] at this
  unfold State.spiWrite
  rw [ha, hl, if_neg (by decide), if_neg (by decide), if_pos (by omega), List.take_of_length_le (by omega), hw]
  dsimp only
  rw [State.controlWrites_before _ _ _ _ _ _ (by omega), State.bootWrite, if_pos (by omega)]

theorem State.spiWrite_locked (s : State) (addr : Nat) (bs : List Byte) (ha : s.spiAnswers = true) (hl : s.flag F.GLB_RESET_CFG_SPI_LOCK 0 = true)
    (hb : bs.length = 4) (h4 : addr % 4 = 0) : s.spiWrite addr bs = s.bootReject := by
  unfold State.spiWrite
  rw [ha, hl, if_neg (by decide), if_pos rfl, wordPieces_word addr bs h4 hb]
  rfl

/-- A serial read that names known bytes alone returns them. -/
theorem State.serialRead_known (s : State) (off base n : Nat) (f : Nat → Option Byte)
    (h : ∀ i, i < n → f (off + i) = some (Tab.get 0 s.tlr.area (base + i))) :
    s.serialRead off n f = { s with readData := s.area base n, fresh := s.fresh + n } := by
  have hb : ((List.range n).map fun i => (f (off + i)).getD (BitVec.ofNat 8 (Config.freeValue (s.fresh + i)))) = s.area base n :=
    List.map_congr_left fun i hi => by rw [h i (List.mem_range.1 hi)]; rfl
  unfold State.serialRead
  rw [hb]

theorem State.spiRead_areas (s : State) (addr n : Nat) (ha : s.spiAnswers = true) (h : addr + n ≤ 0x1000) :
    s.spiRead addr n = { s with readData := s.area addr n, fresh := s.fresh + n } := by
  unfold State.spiRead
  rw [if_pos ha]
  exact State.serialRead_known s addr addr n _ fun i hi => by rw [State.spiByte, if_pos (by omega)]

theorem execI2cWrite_request (s : State) (addr off : Nat) (bs : List Byte) (ha : s.i2cAnswers addr = true) (hf : s.busy 6 = false) (hb : bs ≠ [])
    (h : off + bs.length ≤ 0x800) : execI2cWrite addr off bs s = .next (s.putArea (0x6000 + off) bs) := by
  have hpos : 0 < bs.length := List.length_pos_iff.2 hb
  have hw : s.areaWrite 1 (0x6000 + off) bs = s.putArea (0x6000 + off) bs := s.areaWrite_request 1 6 off bs (by decide) (by decide) hf hb h
  unfold execI2cWrite
  rw [ha, if_neg (by decide), if_pos (by omega), List.take_of_length_le (by omega), hw]
  dsimp only
  rw [State.controlWrites_before _ _ _ _ _ _ (by omega)]

/-- A word written to MBX_CTL alone, of the control registers that begin at `base`. -/
theorem State.controlWrites_ctl (s : State) (path m base : Nat) (w : List Byte) (hb : base % 4 = 0) (hw : w.length = 4) :
    s.controlWrites path m base (base + 0xC) w = s.controlWrite path m 0xC w := by
  unfold State.controlWrites
  rw [wordPieces_word _ w (by omega) hw]
  simp [State.each]

theorem State.controlWrite_ctl (s : State) (path m v : Nat) (hv : v < 2 ^ 32) : s.controlWrite path m 0xC (w32 v) = s.ctlWrite path m v := by
  unfold State.controlWrite
  dsimp only
  rw [if_neg (by decide), if_pos (by decide), show 0xC % 4 = 0 by decide, leNat_patch_w32 _ v hv]

theorem execI2cWrite_ctl (s : State) (addr v : Nat) (ha : s.i2cAnswers addr = true) (hv : v < 2 ^ 32) :
    execI2cWrite addr 0x100C (w32 v) s = .next (s.ctlWrite 1 6 v) := by
  have hc := State.controlWrites_ctl s 1 6 0x1000 (w32 v) (by decide) (w32_length v)
  unfold execI2cWrite
  rw [ha, if_neg (by decide), if_neg (by decide)]
  exact congrArg Host.Outcome.next (hc.trans (State.controlWrite_ctl s 1 6 v hv))

theorem State.ctlWrite_i2c (s : State) (v : Nat) :
    Wrote s (s.ctlWrite 1 6 v) [(F.MBX_CTL_IRQ_EN, 6, bits v 0 1), (F.MBX_CTL_VECTOR, 6, bits v 8 8), (F.MBX_CTL_PCIE_WRITE, 6, bits v 1 1)] := by
  have he : s.ctlWrite 1 6 v
      = s.setAll [(F.MBX_CTL_IRQ_EN, 6, bits v 0 1), (F.MBX_CTL_VECTOR, 6, bits v 8 8), (F.MBX_CTL_PCIE_WRITE, 6, bits v 1 1)] := (rfl)
  rw [he]
  refine Wrote.setAll s _ ?_ ?_
  · simp [F.MBX_CTL_IRQ_EN, F.MBX_CTL_VECTOR, F.MBX_CTL_PCIE_WRITE]
  · simp [Separate, F.MBX_CTL_IRQ_EN, F.MBX_CTL_VECTOR, F.MBX_CTL_PCIE_WRITE]

theorem execI2cRead_areas (s : State) (addr off n : Nat) (ha : s.i2cAnswers addr = true) (h : off + n ≤ 0x1000) :
    execI2cRead addr off n s = .next { s with readData := s.area (0x6000 + off) n, fresh := s.fresh + n } := by
  unfold execI2cRead
  rw [if_pos ha, State.serialRead_known s off (0x6000 + off) n _ fun i hi => by rw [State.i2cByte, if_pos (by omega), Nat.add_assoc]]

theorem execI2cWrite_unanswered (s : State) (addr off : Nat) (bs : List Byte) (ha : s.i2cAnswers addr = false) : execI2cWrite addr off bs s = .next s := by
  unfold execI2cWrite
  rw [ha, if_pos (by decide)]

theorem execI2cRead_unanswered (s : State) (addr off n : Nat) (ha : s.i2cAnswers addr = false) :
    execI2cRead addr off n s = .next { s with readData := [] } := by
  unfold execI2cRead
  rw [ha, if_neg (by decide)]

/-! ### The test access port -/

theorem Tap.next_five_high (t : Tap) : ((((t.next true).next true).next true).next true).next true = .testLogicReset := by
  cases t <;> rfl

theorem State.tapActs_idcode {s : State} (h : s.jtag.instr = .idcode) : s.tapActs = .idcode := by
  unfold State.tapActs
  rw [if_neg (by simp [h]), h]

/-- A rising edge moves the controller; under IDCODE, Capture-DR loads the identity code and Shift-DR takes TDI in. -/
theorem State.tapRise_edge (s : State) (tms tdi : Bool) :
    ∃ j, s.tapRise tms tdi = { s with jtag := j } ∧ j.tap = s.jtag.tap.next tms
      ∧ (s.jtag.tap = .captureDr → s.jtag.instr = .idcode → j.dr = (List.range 32).map fun i => bit s.idcode i)
      ∧ (s.jtag.tap = .shiftDr → s.jtag.instr = .idcode → j.dr = s.jtag.dr.drop 1 ++ [tdi]) := by
  refine ⟨_, rfl, ?_, ?_, ?_⟩
  · cases ht : s.jtag.tap
    case shiftDr =>
      dsimp only
      split
      · rw [ht]
      · rfl
    all_goals simp [ht]
  · intro ht hi
    simp only [ht, State.tapActs_idcode hi]
  · intro ht hi
    simp only [ht, State.tapActs_idcode hi]
    rfl

theorem State.tapFall_shiftDr (s : State) (ht : s.jtag.tap = .shiftDr) (hi : s.jtag.instr = .idcode) :
    s.tapFall = { s with jtag := { s.jtag with tdo := some (s.jtag.dr.headD false) } } := by
  unfold State.tapFall
  simp only [ht, State.tapActs_idcode hi]
  rfl

theorem execJtagTckEdge_powered (s : State) (rise tms tdi trst : Bool) (h : s.railGood 5 = true) :
    execJtagTckEdge rise tms tdi trst s = .next (if !trst then s.tapReset else if rise then s.tapRise tms tdi else s.tapFall) := by
  unfold execJtagTckEdge
  rw [h, if_neg (by decide)]

theorem exec_spiWrite (s : State) (addr : Nat) (bs : List Byte) : exec (.spiWrite addr bs) s = .next (s.spiWrite addr bs) := (rfl)
theorem exec_spiQuadWrite (s : State) (addr : Nat) (bs : List Byte) : exec (.spiQuadWrite addr bs) s = .next (s.spiWrite addr bs) := (rfl)
theorem exec_spiRead (s : State) (addr n : Nat) : exec (.spiRead addr n) s = .next (s.spiRead addr n) := (rfl)
theorem exec_spiQuadRead (s : State) (addr n : Nat) : exec (.spiQuadRead addr n) s = .next (s.spiRead addr n) := (rfl)

/-- Settles O10: the side ports by the one piece their transfer is at the mailbox areas, and the test access port by its edges. -/
theorem sidePortsReachTheTeller : Obligations.SidePortsReachTheTeller := by
  unfold Obligations.SidePortsReachTheTeller
  refine ⟨fun s ha => ⟨fun addr bs hl hf hb h => ?_, fun addr bs hl hb h4 => ?_, fun addr n h => ?_⟩,
    fun s addr => ⟨fun ha => ⟨fun off bs hf hb h => execI2cWrite_request s addr off bs ha hf hb h,
        fun v hv => ⟨_, execI2cWrite_ctl s addr v ha hv, State.ctlWrite_i2c s v⟩, fun off n h => execI2cRead_areas s addr off n ha h⟩,
      fun ha => ⟨fun off bs => execI2cWrite_unanswered s addr off bs ha, fun off n => execI2cRead_unanswered s addr off n ha⟩, rfl⟩,
    Tap.next_five_high, fun s => ⟨rfl, fun hr => ⟨fun rise tms tdi => ?_, fun tms tdi => ?_, fun tms tdi ht hi => ?_⟩⟩⟩
  · rw [exec_spiWrite, exec_spiQuadWrite, State.spiWrite_request s addr bs ha hl hf hb h]
    exact ⟨rfl, rfl⟩
  · rw [exec_spiWrite, exec_spiQuadWrite, State.spiWrite_locked s addr bs ha hl hb h4]
    exact ⟨_, rfl, rfl, Wrote.setF s _ 0 _ (by decide)⟩
  · rw [exec_spiRead, exec_spiQuadRead, State.spiRead_areas s addr n ha h]
    exact ⟨rfl, rfl⟩
  · exact execJtagTckEdge_powered s rise tms tdi false hr
  · obtain ⟨j, he, hj⟩ := State.tapRise_edge s tms tdi
    exact ⟨j, (execJtagTckEdge_powered s true tms tdi true hr).trans (congrArg Host.Outcome.next he), hj⟩
  · exact (execJtagTckEdge_powered s false tms tdi true hr).trans (congrArg Host.Outcome.next (State.tapFall_shiftDr s ht hi))

end Sys2Proof.Machine

namespace Sys2Proof.Machine

/-! ### What clocks, DMA stops, books and the boot ROM leave alone: the balls, the queues, the lanes, the arrays and the grants -/

/-- The registers that hold the grants. -/
def grantKey (a : Nat) : Bool := decide (0x1000100 ≤ a ∧ a < 0x1000150)

/-- The balls, the egress queues, the lanes, the arrays of BAR2 and the grants of the 108 units. -/
def State.steady (s : State) : Pins × Tab (List Nat) × Tab Lane × Tab Byte × (Fin 108 → Bool) :=
  (s.pins, s.queues, s.lanes, s.arrays, fun u => s.granted u)

theorem State.granted_congr {s t : State} (h : ∀ q j, grantKey (q.key j) = true → t.rd q j = s.rd q j) (u : Nat) (hu : u < 108) :
    t.granted u = s.granted u := by
  have hq : grantKey (R.TLR_GRANT_QUIRE.key ((u - 12) / 6)) = true := by
    have hk : R.TLR_GRANT_QUIRE.key ((u - 12) / 6) = 0x1000110 + (u - 12) / 6 * 4 := (rfl)
    rw [hk, grantKey]
    exact decide_eq_true (by omega)
  have h1 : t.fld F.TLR_GRANT_BLOCKS_GRANTED 0 = s.fld F.TLR_GRANT_BLOCKS_GRANTED 0 := congrArg (bits · _ _) (h _ _ (by decide))
  have h2 : t.fld F.TLR_GRANT_QUIRE_GRANTED ((u - 12) / 6) = s.fld F.TLR_GRANT_QUIRE_GRANTED ((u - 12) / 6) := congrArg (bits · _ _) (h _ _ hq)
  unfold State.granted
  rw [h1, h2]

theorem State.grants_congr {s t : State} (h : ∀ q j, grantKey (q.key j) = true → t.rd q j = s.rd q j) :
    (fun u : Fin 108 => t.granted u) = fun u : Fin 108 => s.granted u :=
  funext fun u => State.granted_congr h u u.isLt

theorem State.steady_of {s t : State} (hp : t.pins = s.pins) (hq : t.queues = s.queues) (hl : t.lanes = s.lanes) (ha : t.arrays = s.arrays)
    (hr : t.regs = s.regs) : t.steady = s.steady := by
  unfold State.steady
  rw [hp, hq, hl, ha, State.grants_congr fun q j _ => State.rd_congr hr q j]

@[simp] theorem State.steady_mk (s : State) (a0 : List Instr) (a1 a2 : Nat) (a5 : Boot) (a6 : Tlr) (a7 : Clh) (a8 : Ckg) (a9 : Tab (Option Byte))
    (a11 : Tab Stitch) (a12 : Tab Mac) (a13 : Vlt) (a14 : Tab (Option Copy)) (a15 : Nat) (a17 : Qsc) (a18 : Prs) (a19 : Tim) (a20 : Cls) (a21 : Ldg)
    (a22 : Cth) (a23 : Tly) (a24 : Gov) (a25 : Dma) (a27 : Tab (List Nat)) (a28 : Nat) (a29 : Jtag) (a30 : List Nat) (a31 : Tab Word)
    (a32 : List Byte) :
    State.steady ⟨a0, a1, a2, s.regs, s.pins, a5, a6, a7, a8, a9, s.lanes, a11, a12, a13, a14, a15, s.queues, a17, a18, a19, a20, a21, a22, a23, a24, a25,
      s.arrays, a27, a28, a29, a30, a31, a32⟩ = s.steady := State.steady_of (rfl) (rfl) (rfl) (rfl) (rfl)

theorem State.wr_steady_at (s : State) (r : Reg) (i v : Nat) (h : grantKey (r.key i) = false) : (s.wr r i v).steady = s.steady := by
  have hg : (fun u : Fin 108 => (s.wr r i v).granted u) = fun u : Fin 108 => s.granted u :=
    State.grants_congr fun q j hq => State.rd_wr_ne s v fun e => by rw [e, h] at hq; cases hq
  unfold State.steady
  rw [hg, State.wr_pins, State.wr_queues, State.wr_lanes, State.wr_arrays]

theorem State.setF_steady_at (s : State) (f : Fld) (i v : Nat) (h : grantKey (f.reg.key i) = false) : (s.setF f i v).steady = s.steady :=
  State.wr_steady_at s _ _ _ h

@[simp] theorem State.wr_steady (s : State) (r : Reg) (i v : Nat) (h : 0x1000150 ≤ r.base) : (s.wr r i v).steady = s.steady :=
  State.wr_steady_at s r i v (decide_eq_false (by have := r.base_le i; omega))
@[simp] theorem State.setF_steady (s : State) (f : Fld) (i v : Nat) (h : 0x1000150 ≤ f.reg.base) : (s.setF f i v).steady = s.steady :=
  State.wr_steady s _ _ _ h
@[simp] theorem State.inc_steady (s : State) (f : Fld) (i : Nat) (h : 0x1000150 ≤ f.reg.base) : (s.inc f i).steady = s.steady := State.wr_steady s _ _ _ h
@[simp] theorem State.wr64_steady (s : State) (lo hi : Reg) (i v : Nat) (h : 0x1000150 ≤ lo.base) (g : 0x1000150 ≤ hi.base) :
    (s.wr64 lo hi i v).steady = s.steady := by
  unfold State.wr64
  rw [State.wr_steady _ _ _ _ g, State.wr_steady _ _ _ _ h]
@[simp] theorem State.raise_steady (s : State) (a d : Nat) : (s.raise a d).steady = s.steady :=
  State.steady_of (by simp) (by simp) (by simp) (by simp) (by simp)
@[simp] theorem State.note_steady (s : State) (a : Nat) : (s.note a).steady = s.steady :=
  State.steady_of (by simp) (by simp) (by simp) (by simp) (by simp)
@[simp] theorem State.sendMsi_steady (s : State) (v : Nat) : (s.sendMsi v).steady = s.steady := by
  unfold State.sendMsi
  split
  · rfl
  · split
    · exact State.wr_steady _ _ _ _ (by decide)
    · exact State.steady_of (rfl) (rfl) (rfl) (rfl) (rfl)
@[simp] theorem State.each_steady {α : Type} (s : State) (l : List α) (f : α → State → State) (h : ∀ a s, (f a s).steady = s.steady) :
    (s.each l f).steady = s.steady := State.each_keeps State.steady l f s h
@[simp] theorem State.ite_steady (c : Prop) [Decidable c] (a b : State) : (if c then a else b).steady = if c then a.steady else b.steady :=
  apply_ite _ _ _ _

theorem State.resetRegs_steady (s : State) (p : Nat → Bool) (h : ∀ a, grantKey a = true → p a = false) : (s.resetRegs p).steady = s.steady := by
  have hg : (fun u : Fin 108 => (s.resetRegs p).granted u) = fun u : Fin 108 => s.granted u :=
    State.grants_congr fun q j hq => by rw [State.resetRegs_rd, h _ hq, if_neg (by decide)]
  unfold State.steady
  rw [hg]
  rfl

@[simp] theorem State.setMode_steady (s : State) (m : Nat) : (s.setMode m).steady = s.steady := by
  unfold State.setMode
  rw [State.note_steady, State.setF_steady_at _ _ _ _ (by decide), State.setF_steady_at _ _ _ _ (by decide)]

/-! #### Clocks and books -/

@[simp] theorem State.updateErrn_steady (s : State) : s.updateErrn.steady = s.steady := by
  simp (disch := decide) [State.updateErrn]

@[simp] theorem State.recordNoqs_steady (s : State) : s.recordNoqs.steady = s.steady := by
  simp (disch := decide) [State.recordNoqs]

@[simp] theorem State.holdDomain_steady (s : State) (d : Nat) : (s.holdDomain d).steady = s.steady := by
  unfold State.holdDomain
  dsimp only
  rw [State.recordNoqs_steady]
  split <;> simp (disch := decide) only [State.steady_mk, State.setF_steady]

@[simp] theorem State.clockMode_steady (s : State) (m : Nat) : (s.clockMode m).steady = s.steady :=
  State.each_steady _ _ _ fun d s => by simp (disch := decide)

@[simp] theorem State.settleBooks_steady (s : State) : s.settleBooks.steady = s.steady := by
  simp (disch := decide) [State.settleBooks]

@[simp] theorem State.freeBook_steady (s : State) (b : Nat) : (s.freeBook b).steady = s.steady := by
  unfold State.freeBook
  dsimp only
  rw [State.settleBooks_steady, State.steady_mk]
  iterate 4 rw [State.wr_steady _ _ _ _ (by decide)]

@[simp] theorem State.cancelBooks_steady (s : State) : s.cancelBooks.steady = s.steady := by
  unfold State.cancelBooks
  simp

/-! #### DMA channels -/

@[simp] theorem State.putChan_steady (s : State) (c : Nat) (x : Chan) : (s.putChan c x).steady = s.steady := by simp [State.putChan]

@[simp] theorem State.giveBack_steady (s : State) (c : Nat) (l : List DmaDesc) : (s.giveBack c l).steady = s.steady := by
  unfold State.giveBack
  split
  · rfl
  · simp (disch := decide) [State.setHead]

@[simp] theorem State.dropHand_steady (s : State) (c : Nat) : (s.dropHand c).steady = s.steady := by simp [State.dropHand]

@[simp] theorem State.stopChan_steady (s : State) (c : Nat) : (s.stopChan c).steady = s.steady := by
  simp (disch := decide) [State.stopChan, State.setChanState]

@[simp] theorem State.failStop_steady (s : State) (c status : Nat) : (s.failStop c status).steady = s.steady := by
  simp (disch := decide) [State.failStop]

@[simp] theorem State.stopDma_steady (s : State) (status : Nat) : (s.stopDma status).steady = s.steady := by simp [State.stopDma]

/-! #### The boot window and the boot ROM -/

@[simp] theorem State.resetBootWindow_steady (s : State) : s.resetBootWindow.steady = s.steady := by
  have hr := State.resetRegs_steady s bootWindowKey fun a ha => decide_eq_false (by have := (of_decide_eq_true ha).2; omega)
  have hs (b : Boot) : State.steady { s.resetRegs bootWindowKey with boot := b } = s.steady := (State.steady_mk (s.resetRegs bootWindowKey) ..).trans hr
  unfold State.resetBootWindow
  dsimp only
  split
  · rw [State.setF_steady _ _ _ _ (by decide), State.setF_steady _ _ _ _ (by decide), State.setF_steady _ _ _ _ (by decide)]
    exact hs _
  · exact hs _

@[simp] theorem State.bootAbort_steady (s : State) : s.bootAbort.steady = s.steady := by simp (disch := decide) [State.bootAbort]

@[simp] theorem State.history_steady (s : State) (m a k : Nat) (x y z : List Byte) : (s.history m a k x y z).steady = s.steady := by
  unfold State.history
  simp (disch := decide)

/-- The ALIVE bits of a mailbox, which its service writes first. -/
def State.setAlive (s : State) (m : Nat) (on : Bool) : State :=
  (s.setF F.MBX_STATUS_ALIVE m (b2n on)).setF F.TLR_STATUS_ALIVE 0 (putBits (s.fld F.TLR_STATUS_ALIVE 0) m 1 (b2n on))

theorem grantKey_mbx_run {m : Nat} (h : m < 8) : grantKey (R.TLR_MBX_RUN.key m) = false := by
  have hk : R.TLR_MBX_RUN.key m = 0x1000014 + m * 0x10 := (rfl)
  rw [hk, grantKey]
  exact decide_eq_false (by omega)

theorem State.serve_steady (s : State) (m : Nat) (on : Bool) (h : m < 8) : (s.serve m on).steady = s.steady := by
  have halive (v : Nat) : ((s.setF F.MBX_STATUS_ALIVE m (b2n on)).setF F.TLR_STATUS_ALIVE 0 v).steady = s.steady := by
    rw [State.setF_steady_at _ _ _ _ (by decide), State.setF_steady _ _ _ _ (by decide)]
  have hstop (t : State) : (((t.setF F.MBX_STATUS_BUSY m 0).setF F.MBX_STATUS_RESP_VALID m 0).setF F.TLR_MBX_RUN_STATE m 0).steady = t.steady := by
    rw [State.setF_steady_at _ _ _ _ (by exact grantKey_mbx_run h), State.setF_steady _ _ _ _ (by decide), State.setF_steady _ _ _ _ (by decide)]
  unfold State.serve
  dsimp only
  split
  · rw [State.setF_steady _ _ _ _ (by decide), halive]
  · split
    · split
      · rw [State.history_steady, hstop, halive]
      · rw [hstop, halive]
    · rw [halive]

/-- The service of the eight mailboxes, one after the other. -/
theorem State.serveOnly_eq (s : State) (mask : Nat) : s.serveOnly mask = (((((((s.serve 0 (bit mask 0)).serve 1 (bit mask 1)).serve 2 (bit mask 2)).serve 3
    (bit mask 3)).serve 4 (bit mask 4)).serve 5 (bit mask 5)).serve 6 (bit mask 6)).serve 7 (bit mask 7) := (rfl)

@[simp] theorem State.serveOnly_steady (s : State) (mask : Nat) : (s.serveOnly mask).steady = s.steady := by
  rw [State.serveOnly_eq]
  iterate 8 rw [State.serve_steady _ _ _ (by decide)]

@[simp] theorem State.romServes_steady (s : State) : s.romServes.steady = s.steady := by
  unfold State.romServes
  rw [State.serveOnly_steady, State.setF_steady_at _ _ _ _ (by decide), State.setF_steady_at _ _ _ _ (by decide)]

/-! ### Which fields the service of the mailboxes leaves -/

/-- The fields that the service of mailbox `m` writes beside its ALIVE bits. -/
def serveFields (m : Nat) : List (Fld × Nat × Nat) :=
  [(F.MBX_LAST_LAST_VALID, m, 0), (F.MBX_STATUS_BUSY, m, 0), (F.MBX_STATUS_RESP_VALID, m, 0), (F.TLR_MBX_RUN_STATE, m, 0), (F.TLR_HIST_HEAD_NEXT, 0, 0)]

theorem State.serve_setAlive_fld (s : State) (m : Nat) (on : Bool) (f : Fld) (j : Nat) (hf : f.lo + f.wd ≤ 32) (h : ∀ e ∈ serveFields m, Apart e f j) :
    (s.serve m on).fld f j = (s.setAlive m on).fld f j := by
  have hkeep (e : Fld × Nat × Nat) (he : e ∈ serveFields m) (t : State) (v : Nat) : (t.setF e.1 e.2.1 v).fld f j = t.fld f j :=
    State.setF_keeps t (e.1, e.2.1, v) f j hf (h e he)
  have hlast (t : State) v : (t.setF F.MBX_LAST_LAST_VALID m v).fld f j = t.fld f j := hkeep (F.MBX_LAST_LAST_VALID, m, 0) (by simp [serveFields]) t v
  have hbusy (t : State) v : (t.setF F.MBX_STATUS_BUSY m v).fld f j = t.fld f j := hkeep (F.MBX_STATUS_BUSY, m, 0) (by simp [serveFields]) t v
  have hresp (t : State) v : (t.setF F.MBX_STATUS_RESP_VALID m v).fld f j = t.fld f j := hkeep (F.MBX_STATUS_RESP_VALID, m, 0) (by simp [serveFields]) t v
  have hrun (t : State) v : (t.setF F.TLR_MBX_RUN_STATE m v).fld f j = t.fld f j := hkeep (F.TLR_MBX_RUN_STATE, m, 0) (by simp [serveFields]) t v
  have hhist (t : State) a k x y z : (t.history m a k x y z).fld f j = t.fld f j :=
    (hkeep (F.TLR_HIST_HEAD_NEXT, 0, 0) (by simp [serveFields]) _ _).trans (State.fld_congr (by rfl) f j)
  unfold State.serve
  dsimp only
  split
  · exact hlast _ _
  · split
    · split
      · rw [hhist, hrun, hresp, hbusy]
        rfl
      · rw [hrun, hresp, hbusy]
        rfl
    · rfl

theorem State.setF_fld_apart (s : State) {g : Fld} {i : Nat} (v : Nat) (f : Fld) (j : Nat) (hf : f.lo + f.wd ≤ 32) (h : Apart (g, i, 0) f j) :
    (s.setF g i v).fld f j = s.fld f j := State.setF_keeps s (g, i, v) f j hf h

/-- A field of a register that is none of the mailboxes' nor of their state in the Teller. -/
theorem State.serve_fld (s : State) (m : Nat) (on : Bool) (f : Fld) (j : Nat) (hf : f.lo + f.wd ≤ 32) (h : ∀ e ∈ serveFields m, Apart e f j)
    (h1 : Apart (F.MBX_STATUS_ALIVE, m, 0) f j) (h2 : Apart (F.TLR_STATUS_ALIVE, 0, 0) f j) : (s.serve m on).fld f j = s.fld f j := by
  rw [State.serve_setAlive_fld s m on f j hf h]
  exact (State.setF_fld_apart _ _ f j hf h2).trans (State.setF_fld_apart s _ f j hf h1)

theorem serveFields_apart_alive {m k : Nat} (hm : m < 8) (hk : k < 8) : ∀ e ∈ serveFields m, Apart e F.MBX_STATUS_ALIVE k := by
  have status (i : Nat) : R.MBX_STATUS.key i = 0x100010004 + i * 0x20 := (rfl)
  have last : R.MBX_LAST.key m = 0x100010008 + m * 0x20 := (rfl)
  have run : R.TLR_MBX_RUN.key m = 0x1000014 + m * 0x10 := (rfl)
  have hist : R.TLR_HIST_HEAD.key 0 = 0x1000310 := by decide
  have hstatus (b : Fld) (hb : b.reg = R.MBX_STATUS) (hlo : b.lo + b.wd ≤ 2) : Apart (b, m, 0) F.MBX_STATUS_ALIVE k := by
    by_cases h : m = k
    · exact .inr ⟨hb, h, .inr hlo⟩
    · refine .inl ?_
      show b.reg.key m ≠ R.MBX_STATUS.key k
      rw [hb, status, status]
      omega
  simp only [serveFields, List.mem_cons, List.not_mem_nil, or_false, forall_eq_or_imp, forall_eq]
  refine ⟨.inl ?_, hstatus _ (by rfl) (by decide), hstatus _ (by rfl) (by decide), .inl ?_, .inl ?_⟩
  · show R.MBX_LAST.key m ≠ R.MBX_STATUS.key k
    rw [last, status]
    omega
  · show R.TLR_MBX_RUN.key m ≠ R.MBX_STATUS.key k
    rw [run, status]
    omega
  · show R.TLR_HIST_HEAD.key 0 ≠ R.MBX_STATUS.key k
    rw [hist, status]
    omega

/-- ALIVE of mailbox `k` after the service of mailbox `m`. -/
theorem State.serve_alive (s : State) (m k : Nat) (on : Bool) (hm : m < 8) (hk : k < 8) :
    (s.serve m on).fld F.MBX_STATUS_ALIVE k = if k = m then b2n on else s.fld F.MBX_STATUS_ALIVE k := by
  have status (i : Nat) : R.MBX_STATUS.key i = 0x100010004 + i * 0x20 := (rfl)
  have hs : R.TLR_STATUS.key 0 = 0x1000000 := by decide
  rw [State.serve_setAlive_fld s m on _ k (by decide) (serveFields_apart_alive hm hk)]
  unfold State.setAlive
  rw [State.fld_setF_ne _ _ (by show R.MBX_STATUS.key k ≠ R.TLR_STATUS.key 0; rw [status, hs]; omega)]
  split
  · next e =>
    rw [e, State.fld_setF_same _ _ _ _ (by decide)]
    cases on <;> rfl
  · exact State.fld_setF_ne _ _ (by show R.MBX_STATUS.key k ≠ R.MBX_STATUS.key m; rw [status, status]; omega)

theorem State.serveOnly_alive (s : State) (mask k : Nat) (hk : k < 8) : (s.serveOnly mask).fld F.MBX_STATUS_ALIVE k = b2n (bit mask k) := by
  rw [State.serveOnly_eq]
  iterate 8 rw [State.serve_alive _ _ k _ (by decide) hk]
  interval_cases k <;> rfl

end Sys2Proof.Machine

namespace Sys2Proof.Machine

/-! ### Grants revoked one after the other -/

/-- One bit of a field written through the field. -/
theorem bit_putBits_one (x n k i : Nat) (b : Bool) (hi : i < n) : bit (putBits x k 1 (b2n b) % 2 ^ n) i = if i = k then b else bit x i := by
  rw [bit, bit, Nat.testBit_mod_two_pow, putBits_testBit, decide_eq_true hi, Bool.true_and]
  obtain h | rfl | h := Nat.lt_trichotomy i k
  · rw [if_pos h, if_neg (Nat.ne_of_lt h)]
  · rw [if_neg (Nat.lt_irrefl _), if_pos (Nat.lt_succ_self _), if_pos rfl, Nat.sub_self]
    cases b <;> rfl
  · rw [if_neg (by omega), if_neg (by omega), if_neg (by omega)]

/-- A unit's grant after the grant of another, or the same, was set or cleared. -/
theorem State.setGrant_granted (s : State) (u v : Nat) (on : Bool) (hu : u < 108) (hv : v < 108) :
    (s.setGrant u on).granted v = if v = u then on else s.granted v := by
  have hlease (t : State) : (if on then t else t.setF F.TLR_LEASE_REMAINING_MS u 0).granted v = t.granted v := by
    split
    · rfl
    · have := congrFun (congrArg (·.2.2.2.2) (State.setF_steady t F.TLR_LEASE_REMAINING_MS u 0 (by decide))) ⟨v, hv⟩
      exact this
  have quire (i : Nat) : R.TLR_GRANT_QUIRE.key i = 0x1000110 + i * 4 := (rfl)
  have apart (i : Nat) : R.TLR_GRANT_QUIRE.key i ≠ R.TLR_GRANT_BLOCKS.key 0 := by
    have blocks : R.TLR_GRANT_BLOCKS.key 0 = 0x1000100 := by decide
    rw [quire, blocks]
    omega
  unfold State.setGrant
  dsimp only
  rw [hlease]
  by_cases h1 : u < 12
  · rw [if_pos h1]
    by_cases h2 : v < 12
    · unfold State.granted
      rw [if_pos h2, if_pos h2, State.fld_setF_same _ _ _ _ (by decide)]
      exact bit_putBits_one _ 12 u v on h2
    · unfold State.granted
      rw [if_neg h2, if_neg h2, State.fld_setF_ne _ _ (by exact apart _), if_neg (by omega)]
  · rw [if_neg h1]
    by_cases h2 : v < 12
    · unfold State.granted
      rw [if_pos h2, if_pos h2, State.fld_setF_ne _ _ (by exact (apart _).symm), if_neg (by omega)]
    · unfold State.granted
      rw [if_neg h2, if_neg h2]
      by_cases h3 : (v - 12) / 6 = (u - 12) / 6
      · rw [h3, State.fld_setF_same _ _ _ _ (by decide)]
        refine (bit_putBits_one _ 6 _ _ on (by omega)).trans ?_
        by_cases h4 : v = u
        · rw [if_pos h4, if_pos (by omega)]
        · rw [if_neg h4, if_neg (by omega)]
      · rw [State.fld_setF_ne _ _ (by show R.TLR_GRANT_QUIRE.key _ ≠ R.TLR_GRANT_QUIRE.key _; rw [quire, quire]; omega), if_neg (by omega)]

/-- Where each step revokes one grant or none, a unit whose step leaves it revoked stays so. -/
theorem State.each_revoked (g : Nat → State → State) (l : List Nat) (s : State) (v : Nat) (hv : v < 108) (hl : ∀ u ∈ l, u < 108)
    (hg : ∀ u s, g u s = s ∨ g u s = s.setGrant u false) (hd : s.granted v = false ∨ v ∈ l) (h : ∀ s, (g v s).granted v = false) :
    (s.each l g).granted v = false := by
  induction l generalizing s with
  | nil => exact hd.elim id fun hm => by simp at hm
  | cons u l ih =>
    have hkeep : s.granted v = false → (g u s).granted v = false := by
      intro hs
      obtain e | e := hg u s
      · rw [e, hs]
      · rw [e, State.setGrant_granted s u v false (hl u List.mem_cons_self) hv, hs, ite_self]
    rw [State.each_cons]
    refine ih (g u s) (fun w hw => hl w (List.mem_cons_of_mem _ hw)) ?_
    obtain hs | hm := hd
    · exact .inl (hkeep hs)
    · obtain rfl | hm := List.mem_cons.1 hm
      · exact .inl (h s)
      · exact .inr hm

/-! ### MODE_REQUEST -/

theorem State.steady_pins {s t : State} (h : t.steady = s.steady) : t.pins = s.pins := congrArg (·.1) h
theorem State.steady_queues {s t : State} (h : t.steady = s.steady) : t.queues = s.queues := congrArg (·.2.1) h
theorem State.steady_lanes {s t : State} (h : t.steady = s.steady) : t.lanes = s.lanes := congrArg (·.2.2.1) h
theorem State.steady_arrays {s t : State} (h : t.steady = s.steady) : t.arrays = s.arrays := congrArg (·.2.2.2.1) h
theorem State.steady_granted {s t : State} (h : t.steady = s.steady) (u : Nat) (hu : u < 108) : t.granted u = s.granted u :=
  congrFun (congrArg (·.2.2.2.2) h) ⟨u, hu⟩

/-- The defaults of MODE_REQUEST leave the mode it asks for. -/
theorem filled_target (r : Req) :
    (filled C.MODE_REQUEST [(A.MODE_REQUEST_LOCK_WAIT_MS, 0)] r).arg A.MODE_REQUEST_TARGET_MODE = r.arg A.MODE_REQUEST_TARGET_MODE := by
  have hp (p : Nat) : bits (leNat (leBytes 4 p)) 0 4 = bits p 0 4 := by
    rw [leNat_leBytes]
    exact bits_mod_word p 0 4 (by decide)
  unfold filled
  rw [if_neg (by decide)]
  show bits (leNat (leBytes 4 _)) 0 4 = bits (leNat r.params) 0 4
  rw [hp]
  split
  · rfl
  · exact bits_putBits_ne _ 16 16 0 0 4 (.inl (by decide))

/-- A request to a mode but Loader is accepted as a record, the transition and its target set. -/
theorem execModeRequest_ready (s : State) (m : Nat) (r : Req) (k : Nat) (h : ReadyAsync s m C.MODE_REQUEST s.modeChecks r k false)
    (ht : r.arg A.MODE_REQUEST_TARGET_MODE ≠ 1) :
    ∃ u t, execModeRequest (.mailbox m) s = .next t
      ∧ Wrote s u [(F.GLB_MODE_TRANSITION, 0, 1), (F.GLB_MODE_TARGET, 0, r.arg A.MODE_REQUEST_TARGET_MODE)] ∧ Accepted u t m k r := by
  obtain ⟨hm, -, hp, r0, h0, rfl, hc⟩ := h
  refine ⟨_, _, ?_, Wrote.setAll s _ ?_ ?_, State.accept_accepted _ m k _ s.mode hm⟩
  · rw [show (s.modeChecks r0).dflt = [(A.MODE_REQUEST_LOCK_WAIT_MS, 0)] from rfl, filled_target] at ht
    unfold execModeRequest State.requestMode State.runAsync
    dsimp only
    rw [h0]
    dsimp only
    rw [if_neg ht, show decide (C.MODE_REQUEST.cls = 3) = true from rfl, Bool.true_or, hc, if_pos rfl, hp]
    rfl
  · simp [F.GLB_MODE_TRANSITION, F.GLB_MODE_TARGET]
  · simp [Separate, F.GLB_MODE_TRANSITION, F.GLB_MODE_TARGET]

/-- The transition that a request to mode `t` makes from its record. -/
def State.transited (s : State) (t : Nat) : State := ((s.setF F.GLB_MODE_TRANSITION 0 0).setF F.GLB_MODE_TARGET 0 0).transit t

theorem State.transited_mode (s : State) (t : Nat) : (s.transited t).mode = s.reaches t := by
  have hl : ((s.setF F.GLB_MODE_TRANSITION 0 0).setF F.GLB_MODE_TARGET 0 0).flag F.TIM_STATUS_LOCKED 0 = s.flag F.TIM_STATUS_LOCKED 0 := by
    unfold State.flag
    rw [State.fld_setF_ne _ _ (by decide), State.fld_setF_ne _ _ (by decide)]
  have hm : (s.transited t).mode = ((s.setF F.GLB_MODE_TRANSITION 0 0).setF F.GLB_MODE_TARGET 0 0).reaches t :=
    congrArg (·.2.2) (State.transit_fixed _ t)
  rw [hm]
  unfold State.reaches
  rw [hl]

theorem State.completeRec_mode (s : State) (k : Nat) (q : Rec) (st d : Nat) (ps : List Byte) : (s.completeRec k q st d ps).mode = s.mode :=
  congrArg (·.2.2) (State.completeRec_fixed s k q st d ps)

/-- From its record the request makes its transition and completes. -/
theorem execModeRequest_record (s : State) (k : Nat) (q : Rec) (h : Running s k C.MODE_REQUEST q) (hw : s.waitsForLock q.req = false) :
    ∃ ps, execModeRequest (.record k) s = .next ((s.transited (q.req.arg A.MODE_REQUEST_TARGET_MODE)).completeRec k q 0 0 ps) := by
  obtain ⟨hk, hph, hop⟩ := h
  refine ⟨respParams C.MODE_REQUEST q.req 0 (w32 ((s.transited (q.req.arg A.MODE_REQUEST_TARGET_MODE)).mode + 16 * q.note)), ?_⟩
  unfold execModeRequest State.requestMode State.runAsync
  dsimp only
  rw [hk]
  dsimp only
  rw [hw, if_neg (by decide), if_pos ⟨hph, hop⟩]
  rfl

/-- The running request completes, and the part is in the mode the transition reaches. -/
theorem execModeRequest_running (s : State) (k : Nat) (q : Rec) (h : Running s k C.MODE_REQUEST q) (hw : s.waitsForLock q.req = false) :
    ∃ t, execModeRequest (.record k) s = .next t ∧ (∃ x, t.rec? k = some x ∧ x.phase = 2)
      ∧ t.mode = s.reaches (q.req.arg A.MODE_REQUEST_TARGET_MODE) := by
  obtain ⟨ps, he⟩ := execModeRequest_record s k q h hw
  exact ⟨_, he, ⟨_, (State.completeRec_completed _ k q 0 0 ps).done, rfl⟩, by rw [State.completeRec_mode, State.transited_mode]⟩

/-! ### The Charter reload -/

/-- The reload revokes every grant but the clock unit's. -/
def State.revokeButClocks (s : State) : State := s.each (List.range 108) fun u s => if s.granted u ∧ u ≠ 0 then s.setGrant u false else s

theorem State.revokeButClocks_granted (s : State) (u : Nat) (hu : u < 108) (h0 : u ≠ 0) : s.revokeButClocks.granted u = false := by
  refine State.each_revoked _ _ s u hu (fun v hv => List.mem_range.1 hv) (fun v s => ?_) (.inr (List.mem_range.2 hu)) fun s => ?_
  · split
    · exact .inr rfl
    · exact .inl rfl
  · split
    · rw [State.setGrant_granted s u u false hu hu, if_pos rfl]
    · next h => simpa [h0] using h

/-- The part of the reload that stops the blocks Loader does not clock and puts their registers at reset. -/
def State.unclock (s : State) : State := ((s.cancelBooks.setMode 1).clockMode 1).resetRegs fun a =>
  decide (0x4000000 ≤ a) && decide (a < 0x100000000) && !onIsland a && a != R.DMA_PCIE_STATUS.base

/-- The stores that the reload empties. -/
def State.emptied (s : State) : State :=
  { s with lanes := [], stitch := [], macs := [], vlt := {}, copies := [], queues := [], qsc := {}, prs := {}, tim := {}, cls := {}, ldg := {}
           cth := {}, tly := {}, gov := {}, dma := {}, arrays := [], hostqs := [], feXoff := 0
           boot := {}, clh := { s.clh with inReset := [], restoring := [], savedRegs := [], savedArrays := [] } }

/-- The Charter's version registers and the time lock at reset, the boot window and the boot ROM as in Loader. -/
def State.awaitCharter (s : State) : State :=
  ((((s.wr R.GLB_CHARTER_VERSION 0 0).wr R.GLB_CHARTER_CRC 0 0).wr R.GLB_CLERK_STORE_VERSION 0 0).setF F.GLB_MODE_TIME_LOCKED 0 0).bootAbort.romServes

theorem State.reload_eq (s : State) : s.reload = s.revokeButClocks.unclock.emptied.awaitCharter := (rfl)

theorem State.unclock_steady (s : State) : s.unclock.steady = s.steady := by
  unfold State.unclock
  rw [State.resetRegs_steady]
  · simp
  · intro a ha
    have := (of_decide_eq_true ha).2
    rw [decide_eq_false (by omega : ¬ 0x4000000 ≤ a)]
    rfl

theorem State.awaitCharter_steady (s : State) : s.awaitCharter.steady = s.steady := by
  unfold State.awaitCharter
  rw [State.romServes_steady, State.bootAbort_steady, State.setF_steady_at _ _ _ _ (by decide), State.wr_steady_at _ _ _ _ (by decide),
    State.wr_steady_at _ _ _ _ (by decide), State.wr_steady_at _ _ _ _ (by decide)]

theorem State.reload_granted (s : State) (u : Nat) (hu : u < 108) (h0 : u ≠ 0) : s.reload.granted u = false := by
  have he : s.revokeButClocks.unclock.emptied.granted u = s.revokeButClocks.unclock.granted u :=
    State.granted_congr (fun q j _ => State.rd_congr (by rfl) q j) u hu
  rw [State.reload_eq, State.steady_granted (State.awaitCharter_steady _) u hu, he, State.steady_granted (State.unclock_steady _) u hu,
    State.revokeButClocks_granted s u hu h0]

theorem State.reload_stores (s : State) : s.reload.queues = [] ∧ s.reload.lanes = [] ∧ s.reload.arrays = [] := by
  have h := State.awaitCharter_steady s.revokeButClocks.unclock.emptied
  rw [State.reload_eq]
  exact ⟨State.steady_queues h, State.steady_lanes h, State.steady_arrays h⟩

/-- A request to Loader that passes its checks, with no command running, reloads the Charter once it is answered. -/
theorem execModeRequest_reload (s : State) (m : Nat) (r : Req) (h : Ready s m C.MODE_REQUEST s.modeChecks r) (ht : r.arg A.MODE_REQUEST_TARGET_MODE = 1)
    (hr : s.anyRunning = false) (hp : s.cls.post = none) :
    ∃ own, execModeRequest (.mailbox m) s = .next (s.respond m r 0 0 own).reload := by
  obtain ⟨-, r0, h0, rfl, hc⟩ := h
  rw [show (s.modeChecks r0).dflt = [(A.MODE_REQUEST_LOCK_WAIT_MS, 0)] from rfl] at hc ht ⊢
  rw [filled_target] at ht
  refine ⟨respParams C.MODE_REQUEST (filled C.MODE_REQUEST [(A.MODE_REQUEST_LOCK_WAIT_MS, 0)] r0) 0 (w32 (s.mode + 16 * s.mode)), ?_⟩
  unfold execModeRequest State.requestReload
  dsimp only
  rw [h0]
  dsimp only
  rw [if_pos ht, hc]
  dsimp only
  rw [hr, hp, if_neg (by decide)]

theorem State.reload_pending (s : State) : s.reload.pending = s.pending := congrArg (·.1) (State.reload_fixed s)
theorem State.reload_mode (s : State) : s.reload.mode = 1 := congrArg (·.2.2) (State.reload_fixed s)

/-- Settles O14: the acceptance as a record, the transition from it, and the reload, whose stores and grants the boot ROM's service leaves. -/
theorem modeRequestReachesItsTarget : Obligations.ModeRequestReachesItsTarget := by
  unfold Obligations.ModeRequestReachesItsTarget
  refine fun s => ⟨fun m r k h ht => execModeRequest_ready s m r k h ht, fun k q h hw => ?_, fun m r h ht hr hp => ?_⟩
  · obtain ⟨t, he, hx, hm⟩ := execModeRequest_running s k q h hw
    exact ⟨t, he, hx, hm⟩
  · obtain ⟨own, he⟩ := execModeRequest_reload s m r h ht hr hp
    obtain ⟨hqueues, hlanes, harrays⟩ := State.reload_stores (s.respond m r 0 0 own)
    exact ⟨_, he, State.reload_mode _, (State.reload_pending _).trans (State.respond_pending s m r 0 0 own), hqueues, hlanes,
      harrays, fun w hw h0 => State.reload_granted _ w hw h0⟩

end Sys2Proof.Machine

namespace Sys2Proof.Machine

/-! ### VDD_AON power -/

theorem stepping_key : R.GLB_STEPPING.key 0 = R.GLB_STEPPING.base := by decide

/-- With the island's power gone, every register but GLB_STEPPING is at its reset value. -/
theorem State.erased_rd (s : State) (q : Reg) (j : Nat) : s.erased.rd q j = if q.key j = R.GLB_STEPPING.key 0 then s.rd q j else q.rst j := by
  rw [State.rd_of_filter (s := s) (· == R.GLB_STEPPING.base) (by rfl) q j, stepping_key]
  by_cases h : q.key j = R.GLB_STEPPING.base
  · rw [if_pos h, if_pos (beq_iff_eq.2 h)]
  · rw [if_neg h, if_neg (by simpa using h)]

theorem execVddAonPowerLoss_erases (s : State) :
    ∃ t, execVddAonPowerLoss s = .next t ∧ (∀ q j, q.key j ≠ R.GLB_STEPPING.key 0 → t.rd q j = q.rst j)
      ∧ t.rd R.GLB_STEPPING 0 = s.rd R.GLB_STEPPING 0
      ∧ t = { State.reset with pending := s.pending, fresh := s.fresh, regs := t.regs, host := s.host, msix := s.msix, readData := s.readData } :=
  ⟨s.erased, rfl, fun q j h => by rw [State.erased_rd, if_neg h], by rw [State.erased_rd, if_pos rfl], rfl⟩

theorem State.setF_rest (s : State) (f : Fld) (i v : Nat) : s.setF f i v = { s with regs := (s.setF f i v).regs } := (rfl)

theorem execVddAonPowerOn_erases (s : State) :
    ∃ t, execVddAonPowerOn s = .next t ∧ t.fld F.GLB_SESSION_POWER_TAG 0 = Config.freeValue s.fresh % 2 ^ 16 ∧ t.fld F.GLB_SESSION_STANDBY_ENTRIES 0 = 0
      ∧ (∀ q j, q.key j ≠ R.GLB_STEPPING.key 0 → q.key j ≠ R.GLB_SESSION.key 0 → t.rd q j = q.rst j)
      ∧ t = { State.reset with pending := s.pending, fresh := s.fresh + 1, regs := t.regs, host := s.host, msix := s.msix, readData := s.readData } := by
  have hf (f : Fld) (v : Nat) : (s.erased.setF F.GLB_SESSION_POWER_TAG 0 v).tookFree.fld f 0 = (s.erased.setF F.GLB_SESSION_POWER_TAG 0 v).fld f 0 :=
    State.fld_congr (State.tookFree_regs _) f 0
  refine ⟨(s.erased.setF F.GLB_SESSION_POWER_TAG 0 s.freeVal).tookFree, rfl, ?_, ?_, fun q j h1 h2 => ?_, ?_⟩
  · rw [hf, State.fld_setF_same _ _ _ _ (by decide)]
    rfl
  · rw [hf, State.fld_setF_other _ _ _ _ _ (by rfl) (by decide) (by decide), State.fld, State.erased_rd, if_neg (by decide)]
    rfl
  · rw [State.rd_congr (State.tookFree_regs _), State.rd_setF_ne _ _ (by exact h2), State.erased_rd, if_neg h1]
  · have hx := State.setF_rest s.erased F.GLB_SESSION_POWER_TAG 0 s.freeVal
    generalize s.erased.setF F.GLB_SESSION_POWER_TAG 0 s.freeVal = x at hx ⊢
    rw [hx]
    rfl

/-! ### RESET_N and PERST_N -/

theorem State.cleared_rd (s : State) (q : Reg) (j : Nat) : s.cleared.rd q j = if onIsland (q.key j) then s.rd q j else q.rst j :=
  State.rd_of_filter onIsland (by rfl) q j

theorem State.setCause_rd (s : State) (causes : Nat) (q : Reg) (j : Nat) (h : q.key j ≠ R.GLB_RESET_CAUSE.key 0) :
    (s.setCause causes).rd q j = s.rd q j := by
  unfold State.setCause
  dsimp only
  rw [State.rd_wr_ne _ _ h]
  exact State.rd_setF_ne s (f := F.GLB_RESET_CAUSE_RESETS) _ h

theorem State.setCause_rest (s : State) (causes : Nat) : ∃ l, s.setCause causes = { s with regs := l } := by
  unfold State.setCause State.inc State.addSat State.setF State.wr
  exact ⟨_, rfl⟩

theorem State.setCause_causes (s : State) (causes : Nat) (h : causes < 16) : (s.setCause causes).fld ⟨R.GLB_RESET_CAUSE, 0, 4⟩ 0 = causes := by
  unfold State.setCause State.fld
  dsimp only
  rw [State.rd_wr_same, bits_mod_word _ _ _ (by decide), bits_putBits_same]
  exact Nat.mod_eq_of_lt h

theorem State.setCause_count (s : State) (causes : Nat) :
    (s.setCause causes).fld F.GLB_RESET_CAUSE_RESETS 0 = satBits 8 (s.fld F.GLB_RESET_CAUSE_RESETS 0 + 1) := by
  have hc : (s.setCause causes).fld F.GLB_RESET_CAUSE_RESETS 0 = (s.inc F.GLB_RESET_CAUSE_RESETS 0).fld F.GLB_RESET_CAUSE_RESETS 0 :=
    State.fld_setF_other (s.inc F.GLB_RESET_CAUSE_RESETS 0) ⟨R.GLB_RESET_CAUSE, 0, 4⟩ F.GLB_RESET_CAUSE_RESETS 0 causes (by rfl) (by decide) (by decide)
  rw [hc, State.inc, State.addSat, State.fld_setF_same _ _ _ _ (by decide)]
  exact Nat.mod_eq_of_lt (Nat.lt_of_le_of_lt (Nat.min_le_right _ _) (by decide))

/-- What a raise of a source outside the island changes: the raises that collectors hold, and the number of free values. -/
theorem State.note_rest (s : State) (a : Nat) (h : srcOnIsland a = false) :
    s.note a = { s with fresh := s.fresh + 1, clh := { s.clh with held := (s.note a).clh.held } } := by
  unfold State.note State.raise
  rw [h, if_neg (by decide)]
  rfl

/-- The reset of the part from a mode other than Reset, whatever the balls stand at. -/
theorem State.chipReset_holds (s : State) (p : Pins) (causes : Nat) (hm : s.mode ≠ 0) (hc : causes < 16) :
    ChipReset s (State.chipReset { s with pins := p } causes) causes := by
  have he : State.chipReset { s with pins := p } causes = ((State.cleared { s with pins := p }).setCause causes).note E.GLB_MODE_CHANGE := if_neg hm
  have hrd (q : Reg) (j : Nat) : (State.cleared { s with pins := p }).rd q j = if onIsland (q.key j) then s.rd q j else q.rst j := State.cleared_rd _ q j
  rw [he]
  refine ⟨?_, ?_, ?_, fun q j h1 h2 => ?_, fun q j h => ?_, ?_, ?_⟩
  · rw [State.note_mode]
    refine (congrArg (bits · _ _) (State.setCause_rd _ _ R.GLB_MODE 0 (by decide))).trans ?_
    rw [hrd]
    rfl
  · rw [State.note_fld]
    exact State.setCause_causes _ _ hc
  · rw [State.note_fld, State.setCause_count]
    have hf : (State.cleared { s with pins := p }).fld F.GLB_RESET_CAUSE_RESETS 0 = s.fld F.GLB_RESET_CAUSE_RESETS 0 := by
      unfold State.fld
      rw [hrd]
      rfl
    rw [hf]
  · rw [State.note_rd, State.setCause_rd _ _ _ _ h2, hrd, h1, if_pos rfl]
  · have h2 : q.key j ≠ R.GLB_RESET_CAUSE.key 0 := fun e => by
      rw [e] at h
      exact absurd h (by decide)
    rw [State.note_rd, State.setCause_rd _ _ _ _ h2, hrd, h, if_neg (by decide)]
  · rw [State.note_rest _ E.GLB_MODE_CHANGE (by decide)]
    rfl
  · obtain ⟨l, hx⟩ := State.setCause_rest (State.cleared { s with pins := p }) causes
    generalize (State.cleared { s with pins := p }).setCause causes = x at hx ⊢
    have hn := State.note_rest x E.GLB_MODE_CHANGE (by decide)
    generalize x.note E.GLB_MODE_CHANGE = t at hn ⊢
    rw [hn, hx]
    rfl

theorem State.chipReset_pins (s : State) (causes : Nat) : (s.chipReset causes).pins = { s.pins with pcieUp := false, busMaster := false, i2cAddr := none } := by
  unfold State.chipReset
  dsimp only
  split
  · rfl
  · rw [State.note_pins]
    rfl

/-- One ball goes low while the other is high, outside Fault-Hold. -/
theorem State.pinReset_alone (s : State) (pin causes : Nat) (hc : 2 ^ pin = causes)
    (hl : (if pin = 1 then !s.pins.perstN else !s.pins.resetN) = false) (h7 : s.mode ≠ 7) :
    s.pinReset pin = s.chipReset causes := by
  unfold State.pinReset
  dsimp only
  rw [hl, Bool.false_and, Bool.false_and, if_neg (by decide), if_neg h7, if_neg (by decide), Nat.add_zero, hc]

theorem execResetNAssert_resets (s : State) (hr : s.pins.resetN = true) (hp : s.pins.perstN = true) (h0 : s.mode ≠ 0) (h7 : s.mode ≠ 7) :
    ∃ t, execResetNAssert s = .next t ∧ ChipReset s t 2
      ∧ t.pins = { s.pins with resetN := false, pcieUp := false, busMaster := false, i2cAddr := none } := by
  refine ⟨_, ?_, State.chipReset_holds s { s.pins with resetN := false } 2 h0 (by decide), State.chipReset_pins _ _⟩
  unfold execResetNAssert
  rw [hr, if_neg (by decide), State.pinReset_alone { s with pins := { s.pins with resetN := false } } 1 2 (by rfl) (by simp [hp]) h7]

theorem execPerstNAssert_resets (s : State) (hr : s.pins.resetN = true) (hp : s.pins.perstN = true) (h0 : s.mode ≠ 0) (h7 : s.mode ≠ 7)
    (hs : s.flag F.GLB_RESET_CFG_PERST_SCOPE 0 = false) :
    ∃ t, execPerstNAssert s = .next t ∧ ChipReset s t 4
      ∧ t.pins = { s.pins with perstN := false, pcieUp := false, busMaster := false, i2cAddr := none } := by
  have hf : State.flag { s with pins := { s.pins with perstN := false } } F.GLB_RESET_CFG_PERST_SCOPE 0 = false := hs
  refine ⟨_, ?_, State.chipReset_holds s { s.pins with perstN := false } 4 h0 (by decide), State.chipReset_pins _ _⟩
  unfold execPerstNAssert
  dsimp only
  rw [hp, if_neg (by decide), hf, if_pos (.inr (.inr (by decide))),
    State.pinReset_alone { s with pins := { s.pins with perstN := false } } 2 4 (by rfl) (by simp [hr]) h7]

/-! ### The reset of the host interface -/

/-- A register outside the boot window reads the same after the window's reset. -/
theorem State.resetBootWindow_rd (s : State) (q : Reg) (j : Nat) (h : bootWindowKey (q.key j) = false) : s.resetBootWindow.rd q j = s.rd q j := by
  have hk : q.key j ≠ R.BOOT_STATUS.key 0 := fun e => by
    rw [e] at h
    exact absurd h (by decide)
  have hr (b : Boot) : State.rd { s.resetRegs bootWindowKey with boot := b } q j = s.rd q j := by
    rw [State.rd_congr (s := s.resetRegs bootWindowKey) (by rfl), State.resetRegs_rd, h, if_neg (by decide)]
  unfold State.resetBootWindow
  dsimp only
  split
  · rw [State.rd_setF_ne _ _ (by exact hk), State.rd_setF_ne _ _ (by exact hk), State.rd_setF_ne _ _ (by exact hk)]
    exact hr _
  · exact hr _

theorem State.resetBootWindow_pages (s : State) : s.resetBootWindow.boot.pages = [] := by
  unfold State.resetBootWindow
  dsimp only
  split <;> rfl

/-- The registers of the MSI-X table and its pending bits. -/
def msixKey (a : Nat) : Bool := decide (0x100900000 ≤ a ∧ a < 0x100A00000)

theorem State.pins_rd (s : State) (p : Pins) (q : Reg) (j : Nat) : State.rd { s with pins := p } q j = s.rd q j := State.rd_congr (rfl) q j

/-- A register other than DMA_PCIE_STATUS after the reset of the PCIe interface. -/
theorem State.resetPcie_rd (s : State) (q : Reg) (j : Nat) (h : q.key j ≠ R.DMA_PCIE_STATUS.key 0) :
    s.resetPcie.rd q j = if msixKey (q.key j) then q.rst j else s.rd q j := by
  unfold State.resetPcie
  dsimp only
  generalize putBits _ _ _ _ = v
  rw [State.pins_rd, State.rd_wr_ne _ _ h, State.resetRegs_rd]
  rfl

theorem State.resetPcie_pins (s : State) : s.resetPcie.pins = { s.pins with pcieUp := false, busMaster := false } := by
  unfold State.resetPcie
  rfl

theorem State.resetPcie_queues (s : State) : s.resetPcie.queues = s.queues := by
  unfold State.resetPcie
  dsimp only
  rw [State.wr_queues, State.resetRegs_queues]

theorem State.resetPcie_msix (s : State) (i : Nat) (h : i < 1024) : s.resetPcie.rd R.MSIX_TABLE i = R.MSIX_TABLE.rst i := by
  have hk : R.MSIX_TABLE.key i = 0x100900000 + i * 4 := (rfl)
  have hs : R.DMA_PCIE_STATUS.key 0 = 0x6000004 := by decide
  rw [State.resetPcie_rd _ _ _ (by rw [hk, hs]; omega), if_pos (by rw [hk]; exact decide_eq_true (by omega))]

theorem State.resetPcie_granted (s : State) (u : Nat) (hu : u < 108) : s.resetPcie.granted u = s.granted u := by
  refine State.granted_congr (fun q j hq => ?_) u hu
  have hlt := (of_decide_eq_true hq).2
  have hs : R.DMA_PCIE_STATUS.key 0 = 0x6000004 := by decide
  rw [State.resetPcie_rd _ _ _ (by omega), if_neg (by rw [msixKey, decide_eq_true_eq]; omega)]

theorem State.revokeAll_granted (s : State) (u : Nat) (hu : u < 108) : s.revokeAll.granted u = false := by
  refine State.each_revoked _ _ s u hu (fun v hv => List.mem_range.1 hv) (fun v s => ?_) (.inr (List.mem_range.2 hu)) fun s => ?_
  · split
    · exact .inr rfl
    · exact .inl rfl
  · split
    · rw [State.setGrant_granted s u u false hu hu, if_pos rfl]
    · next h => simpa using h

theorem State.setGrant_rest (s : State) (u : Nat) (on : Bool) : (s.setGrant u on).pins = s.pins ∧ (s.setGrant u on).queues = s.queues := by
  simp [State.setGrant, apply_ite State.pins, apply_ite State.queues]

theorem State.revokeAll_pins (s : State) : s.revokeAll.pins = s.pins := State.each_keeps State.pins _ _ s fun u s => by
  split
  · exact (State.setGrant_rest s u false).1
  · rfl

theorem State.revokeAll_queues (s : State) : s.revokeAll.queues = s.queues := State.each_keeps State.queues _ _ s fun u s => by
  split
  · exact (State.setGrant_rest s u false).2
  · rfl

/-- The reset of the host interface alone. -/
theorem State.hostReset_holds (s : State) : s.hostReset.mode = s.mode ∧ s.hostReset.pins = { s.pins with pcieUp := false, busMaster := false }
    ∧ (∀ u, u < 108 → s.hostReset.granted u = false) ∧ (∀ i, i < 1024 → s.hostReset.rd R.MSIX_TABLE i = R.MSIX_TABLE.rst i)
    ∧ s.hostReset.queues = s.queues ∧ s.hostReset.boot.pages = [] := by
  have hboot : s.hostReset.steady = ((s.stopDma 2).revokeAll).resetPcie.steady := State.resetBootWindow_steady _
  have hdma := State.stopDma_steady s 2
  refine ⟨congrArg (·.2.2) (State.hostReset_fixed s), ?_, fun u hu => ?_, fun i hi => ?_, ?_, ?_⟩
  · have hp : ((s.stopDma 2).revokeAll).pins = s.pins := (State.revokeAll_pins _).trans (State.steady_pins hdma)
    rw [State.steady_pins hboot, State.resetPcie_pins, hp]
  · rw [State.steady_granted hboot u hu, State.resetPcie_granted _ u hu, State.revokeAll_granted _ u hu]
  · have hk : R.MSIX_TABLE.key i = 0x100900000 + i * 4 := (rfl)
    rw [State.hostReset, State.resetBootWindow_rd _ _ _ (by rw [hk, bootWindowKey]; exact decide_eq_false (by omega)), State.resetPcie_msix _ i hi]
  · rw [State.steady_queues hboot, State.resetPcie_queues, State.revokeAll_queues, State.steady_queues hdma]
  · rw [State.hostReset, State.resetBootWindow_pages]

theorem execPerstNAssert_host (s : State) (hp : s.pins.perstN = true) (h0 : s.mode ≠ 0) (h7 : s.mode ≠ 7)
    (hs : s.flag F.GLB_RESET_CFG_PERST_SCOPE 0 = true) :
    execPerstNAssert s = .next (State.hostReset { s with pins := { s.pins with perstN := false } }) := by
  have hf : State.flag { s with pins := { s.pins with perstN := false } } F.GLB_RESET_CFG_PERST_SCOPE 0 = true := hs
  unfold execPerstNAssert
  dsimp only
  rw [hp, if_neg (by decide), hf, if_neg (by exact not_or.2 ⟨h7, not_or.2 ⟨h0, by decide⟩⟩)]

/-! ### The release of the balls -/

/-- Where nothing holds the part, a release raises the balls and does no more. -/
theorem State.release_free (s : State) (a b : Bool) (h : s.mode ≠ 0 ∨ (s.fld F.GLB_RAIL_STATUS_GOOD 0 = 127 ∧ s.qualified 0 = true)) :
    s.release a b = { s with pins := { s.pins with resetN := s.pins.resetN || a, perstN := s.pins.perstN || b } } := by
  obtain h | ⟨hg, hq⟩ := h
  · unfold State.release
    exact if_pos h
  · have hbad (p : Pins) : (State.railsBad { s with pins := p } != 0) = false := by
      show (127 - s.fld F.GLB_RAIL_STATUS_GOOD 0 != 0) = false
      rw [hg]
      rfl
    have hqual (p : Pins) : State.qualified { s with pins := p } 0 = true := hq
    unfold State.release
    dsimp only
    rw [hbad, Bool.and_false, if_neg Bool.false_ne_true, hqual, Bool.not_true, Bool.and_false, if_neg Bool.false_ne_true, ite_self]

/-! ### Loader ready, and the restart in Fault-Hold -/

/-- The service of the mailboxes writes no bit of field `f` of register `j` of its set. -/
def ServeApart (f : Fld) (j : Nat) : Prop :=
  ∀ m, m < 8 → (∀ e ∈ serveFields m, Apart e f j) ∧ Apart (F.MBX_STATUS_ALIVE, m, 0) f j ∧ Apart (F.TLR_STATUS_ALIVE, 0, 0) f j

theorem State.serveOnly_fld (s : State) (mask : Nat) (f : Fld) (j : Nat) (hf : f.lo + f.wd ≤ 32) (h : ServeApart f j) :
    (s.serveOnly mask).fld f j = s.fld f j := by
  have hs (t : State) (m : Nat) (on : Bool) (hm : m < 8) : (t.serve m on).fld f j = t.fld f j := by
    obtain ⟨h1, h2, h3⟩ := h m hm
    exact State.serve_fld t m on f j hf h1 h2 h3
  rw [State.serveOnly_eq]
  iterate 8 rw [hs _ _ _ (by decide)]

/-- Registers that the boot ROM's service does not reach. -/
theorem serveApart_of_key {f : Fld} {j : Nat} (h1 : f.reg.key j = 0x1000000 ∧ f.lo + f.wd ≤ 16 ∧ f.reg = R.TLR_STATUS ∧ j = 0
    ∨ 0x2000000 ≤ f.reg.key j ∧ f.reg.key j < 0x100000000) : ServeApart f j := by
  intro m hm
  have status : R.MBX_STATUS.key m = 0x100010004 + m * 0x20 := (rfl)
  have last : R.MBX_LAST.key m = 0x100010008 + m * 0x20 := (rfl)
  have run : R.TLR_MBX_RUN.key m = 0x1000014 + m * 0x10 := (rfl)
  have hist : R.TLR_HIST_HEAD.key 0 = 0x1000310 := by decide
  have tlr : R.TLR_STATUS.key 0 = 0x1000000 := by decide
  have ha (g : Fld) (i k : Nat) (hk : g.reg.key i = k) (hne : k ≠ f.reg.key j) : Apart (g, i, 0) f j := .inl (by rw [hk]; exact hne)
  simp only [serveFields, List.mem_cons, List.not_mem_nil, or_false, forall_eq_or_imp, forall_eq]
  refine ⟨⟨ha _ _ _ last ?_, ha _ _ _ status ?_, ha _ _ _ status ?_, ha _ _ _ run ?_, ha _ _ _ hist ?_⟩, ha _ _ _ status ?_, ?_⟩
  · omega
  · omega
  · omega
  · omega
  · omega
  · omega
  · obtain ⟨-, h2, h3, h4⟩ | h := h1
    · exact .inr ⟨h3.symm, h4.symm, .inl h2⟩
    · exact ha _ _ _ tlr (by omega)

theorem State.romServes_clock (s : State) (d : Nat) (hd : d < 22) : s.romServes.fld F.CKG_DOMAIN_STATUS_RUNNING d = s.fld F.CKG_DOMAIN_STATUS_RUNNING d := by
  have hk : F.CKG_DOMAIN_STATUS_RUNNING.reg.key d = 0x2000104 + d * 8 := (rfl)
  have ht : F.TLR_STATUS_ROM.reg.key 0 = 0x1000000 ∧ F.TLR_STATUS_CORE_RUN.reg.key 0 = 0x1000000 := by decide
  unfold State.romServes
  rw [State.serveOnly_fld _ _ _ _ (by decide) (serveApart_of_key (.inr (by omega))), State.fld_setF_ne _ _ (by omega),
    State.fld_setF_ne _ _ (by omega)]

theorem State.romServes_rom (s : State) : s.romServes.fld F.TLR_STATUS_ROM 0 = 1 := by
  unfold State.romServes
  rw [State.serveOnly_fld _ _ _ _ (by decide) (serveApart_of_key (.inl ⟨by decide, by decide, rfl, rfl⟩)),
    State.fld_setF_other _ _ _ _ _ (by rfl) (by decide) (by decide), State.fld_setF_same _ _ _ _ (by decide)]
  rfl

/-- The boot ROM serves mailboxes 0 and 6 alone. -/
theorem State.romServes_alive (s : State) (m : Nat) (h : m < 8) : s.romServes.fld F.MBX_STATUS_ALIVE m = if m = 0 ∨ m = 6 then 1 else 0 := by
  unfold State.romServes
  rw [State.serveOnly_alive _ _ m h]
  interval_cases m <;> rfl

theorem State.runHold_clocks (s : State) : s.runHold.fld F.CKG_DOMAIN_STATUS_RUNNING 2 = 1 ∧ s.runHold.fld F.CKG_DOMAIN_STATUS_RUNNING 3 = 1 := by
  unfold State.runHold
  constructor
  · rw [State.fld_setF_ne _ _ (by decide), State.fld_setF_same _ _ _ _ (by decide)]
    rfl
  · rw [State.fld_setF_same _ _ _ _ (by decide)]
    rfl

theorem State.runHold_mode (s : State) : s.runHold.mode = s.mode := by
  unfold State.runHold
  rw [State.setF_glb_mode _ _ _ (by decide), State.setF_glb_mode _ _ _ (by decide)]

/-- The part as LOADER_READY leaves it on the way out of Reset. -/
def State.loaded (s : State) (addr : Nat) : State := (((s.setMode 1).clockMode 1).latchI2c addr).romServes.resetBootWindow

theorem State.romServes_mode (s : State) : s.romServes.mode = s.mode := congrArg (·.2.2) (State.romServes_fixed s)

theorem State.latched_mode (s : State) (addr : Nat) : (((s.setMode 1).clockMode 1).latchI2c addr).romServes.mode = 1 := by
  have h1 : (s.setMode 1).fixed = (s.fixed.1, s.fixed.2.1, 1) := State.setMode_fixed s 1 (by decide)
  rw [State.romServes_mode]
  exact congrArg (·.2.2) ((State.latchI2c_fixed _ addr).trans ((State.clockMode_fixed _ 1).trans h1))

theorem State.loaded_mode (s : State) (addr : Nat) : (s.loaded addr).mode = 1 :=
  (congrArg (·.2.2) (State.resetBootWindow_fixed _)).trans (State.latched_mode s addr)

/-- The balls latched are the ones LOADER_READY names, where none were latched before. -/
theorem State.loaded_i2cAddr (s : State) (addr : Nat) (h : s.pins.i2cAddr = none) : (s.loaded addr).pins.i2cAddr = some (addr % 4) := by
  have hp : ((s.setMode 1).clockMode 1).pins = s.pins := State.steady_pins ((State.clockMode_steady _ 1).trans (State.setMode_steady s 1))
  have hl : (s.loaded addr).pins = (((s.setMode 1).clockMode 1).latchI2c addr).pins :=
    State.steady_pins ((State.resetBootWindow_steady _).trans (State.romServes_steady _))
  rw [hl]
  show some (((s.setMode 1).clockMode 1).pins.i2cAddr.getD (addr % 4)) = some (addr % 4)
  rw [hp, h]
  rfl

/-- A field outside the boot window reads as the boot ROM left it. -/
theorem State.loaded_fld (s : State) (addr : Nat) (f : Fld) (j : Nat) (h : bootWindowKey (f.reg.key j) = false) :
    (s.loaded addr).fld f j = (((s.setMode 1).clockMode 1).latchI2c addr).romServes.fld f j :=
  congrArg (bits · _ _) (State.resetBootWindow_rd _ _ _ h)

theorem bootWindowKey_mbx {m : Nat} (h : m < 8) : bootWindowKey (R.MBX_STATUS.key m) = false := by
  have status : R.MBX_STATUS.key m = 0x100010004 + m * 0x20 := (rfl)
  rw [status, bootWindowKey]
  exact decide_eq_false (by omega)

theorem execLoaderReady_loads (s : State) (addr : Nat) (hr : s.pins.resetN = true) (hp : s.pins.perstN = true) (ht : s.tellerSource = true) (hm : s.mode = 0)
    (hg : s.fld F.GLB_RAIL_STATUS_GOOD 0 = 127) (hq : s.qualified 0 = true) (hh : s.flag F.CLH_STATUS_FAULT_HOLD 0 = false) :
    execLoaderReady addr s = .next (s.loaded addr) := by
  have hb : s.railsBad = 0 := by rw [State.railsBad, hg]
  unfold execLoaderReady
  dsimp only
  rw [if_pos hm, hr, hp, ht, hb, hq, hh, if_pos (by decide)]
  rfl

theorem execLoaderReady_hold (s : State) (addr : Nat) (hr : s.pins.resetN = true) (hp : s.pins.perstN = true) (ht : s.tellerSource = true) (hm : s.mode = 7)
    (hs : s.tripStops = false) : execLoaderReady addr s = .next ((s.runHold.latchI2c addr).romServes) := by
  unfold execLoaderReady
  dsimp only
  rw [if_neg (by rw [hm]; decide), if_pos hm, hr, hp, ht, hs, if_pos (by decide)]

/-- The Teller and the PCIe interface start again from reset with their clocks. -/
def State.restarted (s : State) (addr : Nat) : State := s.resetTeller.resetPcie.runHold.latchI2c addr

theorem execFaultHoldRestart_cooled (s : State) (addr : Nat) (hr : s.pins.resetN = true) (hp : s.pins.perstN = true) (ht : s.tellerSource = true)
    (hm : s.mode = 7) (htr : s.flag F.GOV_TRIP_STATUS_TRIPPED 0 = true) (hs : s.tripStops = false) (hc : s.flag F.CKG_DOMAIN_STATUS_RUNNING 2 = false) :
    execFaultHoldRestart addr s = .next (s.restarted addr) := by
  unfold execFaultHoldRestart
  rw [if_pos ⟨hm, htr, by rw [hs]; decide, by rw [hc]; decide, hr, hp, ht⟩]
  rfl

theorem State.restarted_mode (s : State) (addr : Nat) : (s.restarted addr).mode = s.mode :=
  congrArg (·.2.2) ((State.latchI2c_fixed _ addr).trans ((State.runHold_fixed _).trans ((State.resetPcie_fixed _).trans (State.resetTeller_fixed s))))

theorem State.restarted_clocks (s : State) (addr : Nat) :
    (s.restarted addr).fld F.CKG_DOMAIN_STATUS_RUNNING 2 = 1 ∧ (s.restarted addr).fld F.CKG_DOMAIN_STATUS_RUNNING 3 = 1 := by
  have hf (j : Nat) : (s.restarted addr).fld F.CKG_DOMAIN_STATUS_RUNNING j = s.resetTeller.resetPcie.runHold.fld F.CKG_DOMAIN_STATUS_RUNNING j :=
    State.fld_congr (by rfl) _ j
  rw [hf, hf]
  exact State.runHold_clocks _

/-- The reset of the Teller keeps its history ring and starts its time; the fault records are not its. -/
theorem State.resetTeller_stores (s : State) : s.resetTeller.tlr = { hist := s.tlr.hist, bootAt := s.now } ∧ s.resetTeller.clh = s.clh := by
  have hr (t : State) : t.resetBootWindow.now = t.now := by
    unfold State.resetBootWindow
    dsimp only
    split <;> rfl
  unfold State.resetTeller
  dsimp only
  rw [State.resetBootWindow_tlr, State.resetBootWindow_clh, hr]
  exact ⟨rfl, rfl⟩

theorem State.restarted_stores (s : State) (addr : Nat) :
    (s.restarted addr).pins.pcieUp = false ∧ (s.restarted addr).tlr = { hist := s.tlr.hist, bootAt := s.now } ∧ (s.restarted addr).clh = s.clh := by
  obtain ⟨htlr, hclh⟩ := State.resetTeller_stores s
  simp [State.restarted, State.latchI2c, State.runHold, State.resetPcie, htlr, hclh]

/-- Settles O7: power and resets by the register files they leave, LOADER_READY by what the boot ROM serves. -/
theorem powerAndResets : Obligations.PowerAndResets := by
  unfold Obligations.PowerAndResets
  refine ⟨fun s => ⟨execVddAonPowerLoss_erases s, execVddAonPowerOn_erases s⟩, fun s hr hp h0 h7 => ⟨execResetNAssert_resets s hr hp h0 h7,
      execPerstNAssert_resets s hr hp h0 h7, fun hs => ⟨_, execPerstNAssert_host s hp h0 h7 hs, State.hostReset_holds _⟩⟩,
    fun s a b h => ⟨congrArg Host.Outcome.next (State.release_free s a b h), congrArg Host.Outcome.next (State.release_free s false true h)⟩,
    fun s addr hr hp ht => ⟨fun hm hg hq hh hi => ?_, fun hm hs => ?_, fun hm htr hs hc => ?_⟩⟩
  · obtain ⟨hready, hfree0, hfree1, -⟩ := State.resetBootWindow_status _ (State.latched_mode s addr)
    refine ⟨_, execLoaderReady_loads s addr hr hp ht hm hg hq hh, State.loaded_mode s addr, State.loaded_i2cAddr s addr hi, ?_, fun m h => ?_,
      hready, hfree0, hfree1⟩
    · rw [State.loaded_fld _ _ _ _ (by decide), State.romServes_rom]
    · rw [State.loaded_fld _ _ _ _ (bootWindowKey_mbx h), State.romServes_alive _ _ h]
  · obtain ⟨h2, h3⟩ := State.runHold_clocks s
    refine ⟨_, execLoaderReady_hold s addr hr hp ht hm hs, ?_, State.romServes_rom _, State.romServes_alive _, ?_, ?_⟩
    · rw [State.romServes_mode]
      exact (State.runHold_mode s).trans hm
    · exact (State.romServes_clock _ 2 (by decide)).trans h2
    · exact (State.romServes_clock _ 3 (by decide)).trans h3
  · obtain ⟨h2, h3⟩ := State.restarted_clocks s addr
    exact ⟨_, execFaultHoldRestart_cooled s addr hr hp ht hm htr hs hc, (State.restarted_mode s addr).trans hm, h2, h3, State.restarted_stores s addr⟩

end Sys2Proof.Machine

namespace Sys2Proof.Machine

/-! ### Commands that report -/

/-- The check of the parameters of a command whose checks pass. -/
theorem State.firstCheck_args {s : State} {c : Cmd} {k : Checks} {r : Req} {b : Bool} (h : s.firstCheck c k r b = none) : k.args = none := by
  unfold State.firstCheck at h
  split at h
  · cases h
  · split at h
    · cases h
    · split at h
      · cases h
      · split at h
        · cases h
        · assumption

theorem Ready.args {s : State} {m : Nat} {c : Cmd} {checks : Req → Checks} {r : Req} (h : Ready s m c checks r) : (checks r).args = none := by
  obtain ⟨_, r0, _, _, hc⟩ := h
  exact State.firstCheck_args hc

/-- No command that is refused in Reset is ready there. -/
theorem Ready.mode_ne_zero_of {s : State} {m : Nat} {c : Cmd} {checks : Req → Checks} {r : Req} (h : Ready s m c checks r)
    (h0 : bit (checks r).modes 0 = false) : s.mode ≠ 0 := by
  intro he
  have hb := h.mode
  rw [he, h0] at hb
  cases hb

/-- The same of a command whose checks take its own mask of modes. -/
theorem Ready.mode_ne_zero {s : State} {m : Nat} {c : Cmd} {checks : Req → Checks} {r : Req} (h : Ready s m c checks r)
    (hk : (checks r).modes = c.modes) (h0 : bit c.modes 0 = false) : s.mode ≠ 0 := h.mode_ne_zero_of (hk ▸ h0)

/-- A ready command of class A or B answers from the state its effect leaves, where that state stands in the mode the command came in. -/
theorem Ready.answered {s u : State} {m : Nat} {c : Cmd} {checks : Req → Checks} {act : Req → Ans} {r : Req} {st d : Nat} {own : List Byte}
    (h : Ready s m c checks r) (h0 : s.mode ≠ 0) (ha : act r = .done u st d own) (hu : u.mode = s.mode) :
    Answered u (s.runCmd m c checks act) m r st d (respParams c r st own) := by
  rw [State.runCmd_ready h ha (hu ▸ h0)]
  exact State.respond_answered u m r st d _ h.1

/-- A ready command whose effect leaves the part as it is reports what it answers. -/
theorem Ready.reports {s : State} {m : Nat} {c : Cmd} {checks : Req → Checks} {act : Req → Ans} {r : Req} {own : List Byte}
    (h : Ready s m c checks r) (h0 : s.mode ≠ 0) (ha : act r = .ok s own) :
    Reports (.next (s.runCmd m c checks act)) s m r c own :=
  ⟨_, rfl, h.answered h0 ha rfl⟩

/-! ### ASYNC_RESULT -/

theorem State.putRec_mode (s : State) (k : Nat) (q : Option Rec) : (s.putRec k q).mode = s.mode :=
  congrArg (·.2.2) (State.putRec_fixed s k q)

theorem State.asyncResultAct_free (s : State) (r : Req) (h : s.rec? (r.arg A.ASYNC_RESULT_RECORD) = none) :
    s.asyncResultAct r = .done s 0x0302 0 [] := by
  unfold State.asyncResultAct
  dsimp only
  rw [h]
  rfl

theorem State.asyncResultAct_running (s : State) (r : Req) (q : Rec) (h : s.rec? (r.arg A.ASYNC_RESULT_RECORD) = some q) (hp : q.phase = 1) :
    s.asyncResultAct r = .ok s q.bytes := by
  unfold State.asyncResultAct
  dsimp only
  rw [h]
  dsimp only
  rw [if_pos hp]

theorem State.asyncResultAct_completed (s : State) (r : Req) (q : Rec) (h : s.rec? (r.arg A.ASYNC_RESULT_RECORD) = some q) (hp : q.phase = 2)
    (hk : r.on A.ASYNC_RESULT_KEEP = false) : s.asyncResultAct r = .ok (s.putRec (r.arg A.ASYNC_RESULT_RECORD) none) q.bytes := by
  unfold State.asyncResultAct
  dsimp only
  rw [h]
  dsimp only
  rw [hp, hk, if_neg (by decide), if_neg (by decide)]

theorem execAsyncResult_free (s : State) (m : Nat) (r : Req) (hr : Ready s m C.ASYNC_RESULT s.asyncResultChecks r)
    (h : s.rec? (r.arg A.ASYNC_RESULT_RECORD) = none) : ∃ t, execAsyncResult m s = .next t ∧ Answered s t m r 0x0302 0 [] :=
  ⟨_, rfl, hr.answered (hr.mode_ne_zero (by rfl) (by decide)) (State.asyncResultAct_free s r h) rfl⟩

theorem execAsyncResult_running (s : State) (m : Nat) (r : Req) (q : Rec) (hr : Ready s m C.ASYNC_RESULT s.asyncResultChecks r)
    (h : s.rec? (r.arg A.ASYNC_RESULT_RECORD) = some q) (hp : q.phase = 1) : Reports (execAsyncResult m s) s m r C.ASYNC_RESULT q.bytes :=
  hr.reports (hr.mode_ne_zero (by rfl) (by decide)) (State.asyncResultAct_running s r q h hp)

/-- An answer leaves the completion records alone. -/
theorem Answered.records {u t : State} {m : Nat} {r : Req} {st d : Nat} {own : List Byte} (h : Answered u t m r st d own) (k : Nat) :
    t.rec? k = u.rec? k := by
  unfold State.rec?
  rw [h.rest]

/-- Without KEEP the completed record is freed before the answer. -/
theorem execAsyncResult_completed (s : State) (m : Nat) (r : Req) (q : Rec) (hr : Ready s m C.ASYNC_RESULT s.asyncResultChecks r)
    (h : s.rec? (r.arg A.ASYNC_RESULT_RECORD) = some q) (hp : q.phase = 2) (hk : r.on A.ASYNC_RESULT_KEEP = false) :
    ∃ t, execAsyncResult m s = .next t ∧ t.rec? (r.arg A.ASYNC_RESULT_RECORD) = none
      ∧ Answered (s.putRec (r.arg A.ASYNC_RESULT_RECORD) none) t m r 0 0 (respParams C.ASYNC_RESULT r 0 q.bytes) := by
  have ha := hr.answered (hr.mode_ne_zero (by rfl) (by decide)) (State.asyncResultAct_completed s r q h hp hk) (State.putRec_mode s _ _)
  exact ⟨_, rfl, by rw [ha.records, State.putRec_rec, if_pos rfl], ha⟩

/-- Settles O30: a free record is answered NOT_FOUND, and the answer for a running one leaves the records as they were. -/
theorem recordsAreReadAndKept : Obligations.RecordsAreReadAndKept := by
  unfold Obligations.RecordsAreReadAndKept
  refine fun s m r hr => ⟨execAsyncResult_free s m r hr, fun q h hp => ?_⟩
  obtain ⟨t, he, ha⟩ := execAsyncResult_running s m r q hr h hp
  exact ⟨t, he, (ha.records _).trans h, ha.valid⟩

end Sys2Proof.Machine

namespace Sys2Proof.Machine

/-! ### Failed checks, NOP, IDENTIFY and HISTORY_READ -/

theorem State.runCmd_failed {s : State} {m : Nat} {c : Cmd} {checks : Req → Checks} {act : Req → Ans} {r0 : Req} {e : Nat × Nat} (hm : m < 8)
    (h : s.takes m c = some r0) (hc : s.firstCheck c (checks (filled c (checks r0).dflt r0)) r0 false = some e) :
    Answered s (s.runCmd m c checks act) m r0 e.1 e.2 [] := by
  rw [State.runCmd_fails h hc]
  exact State.respond_answered s m r0 e.1 e.2 [] hm

/-- HISTORY_READ of the latest entries answers all of them: COUNT is at most 31, so none has been overwritten. -/
theorem State.historyReadAct_latest (s : State) (r : Req) (hr : r.range A.HISTORY_READ_COUNT 1 31 = none)
    (hc : r.arg A.HISTORY_READ_COUNT ≤ s.fld F.TLR_HIST_HEAD_NEXT 0)
    (hf : r.arg A.HISTORY_READ_FIRST = s.fld F.TLR_HIST_HEAD_NEXT 0 - r.arg A.HISTORY_READ_COUNT) :
    s.historyReadAct r = .ok s (w32 (s.fld F.TLR_HIST_HEAD_NEXT 0) ++ w32 (r.arg A.HISTORY_READ_FIRST)
      ++ (List.range (r.arg A.HISTORY_READ_COUNT)).flatMap fun k => Tab.get [] s.tlr.hist ((r.arg A.HISTORY_READ_FIRST + k) % 256)) := by
  have hle : r.arg A.HISTORY_READ_COUNT ≤ 31 := by
    unfold Req.range badArg at hr
    split at hr
    · next h => exact h.2
    · cases hr
  unfold State.historyReadAct
  dsimp only
  rw [Nat.max_eq_left (by omega), Nat.min_eq_left (by omega)]

/-! ### ABORT_COMMAND -/

/-- With no patch in hand the named running command completes with ABORTED, reason 1 (R121). -/
theorem State.abortCommandAct_running (s : State) (m : Nat) (r : Req) (k : Nat) (q : Rec) (hp : s.tlr.patch = none)
    (h : s.runningRec (r.arg A.ABORT_COMMAND_MAILBOX) (r.arg A.ABORT_COMMAND_SEQ) = some (k, q)) :
    s.abortCommandAct m r = .ok (s.completeRec k q 0x0501 1 []) (w32 1) := by
  unfold State.abortCommandAct State.abortNamed
  rw [h]
  dsimp only
  rw [hp]
  rfl

theorem State.abortCommandAct_absent (s : State) (m : Nat) (r : Req)
    (h : s.runningRec (r.arg A.ABORT_COMMAND_MAILBOX) (r.arg A.ABORT_COMMAND_SEQ) = none)
    (hw : s.waitingReq m (r.arg A.ABORT_COMMAND_MAILBOX) (r.arg A.ABORT_COMMAND_SEQ) = none) : s.abortCommandAct m r = .ok s (w32 0) := by
  unfold State.abortCommandAct State.abortNamed
  rw [h]
  dsimp only
  rw [hw]
  rfl

/-- Settles O12: a failed check by the answer alone, the reporting commands by what their effects answer, ABORT_COMMAND by the record it ends. -/
theorem commandsAreCheckedAndReported : Obligations.CommandsAreCheckedAndReported := by
  unfold Obligations.CommandsAreCheckedAndReported
  refine ⟨fun s m c checks act r0 e hm h hc => State.runCmd_failed hm h hc,
    fun s m r => ⟨fun hr => hr.reports (act := s.nopAct) (hr.mode_ne_zero (by rfl) (by decide)) (by rfl),
      fun hr => hr.reports (act := s.identifyAct) (hr.mode_ne_zero (by rfl) (by decide)) (by rfl),
      fun hr hc hf => hr.reports (hr.mode_ne_zero (by rfl) (by decide)) (State.historyReadAct_latest s r hr.args hc hf),
      fun q hr h => ⟨execAsyncResult_running s m r q hr h, execAsyncResult_completed s m r q hr h⟩⟩,
    fun s m r hr hp => ⟨fun k q h => ?_, fun h hw => hr.reports (hr.mode_ne_zero (by rfl) (by decide)) (State.abortCommandAct_absent s m r h hw)⟩⟩
  exact ⟨s.completeRec k q 0x0501 1 [], _, rfl, State.completeRec_completed s k q 0x0501 1 [],
    hr.answered (hr.mode_ne_zero (by rfl) (by decide)) (State.abortCommandAct_running s m r k q hp h) (State.completeRec_mode s k q _ _ _)⟩

end Sys2Proof.Machine

namespace Sys2Proof.Machine

/-! ### The host at the mailbox areas and at MBX_CTL -/

/-- A write within the request area of one mailbox is one piece, stored or refused whole. -/
theorem State.areaWrite_half (s : State) (path m o : Nat) (bs : List Byte) (hm : m < 8) (hb : bs ≠ []) (h : o + bs.length ≤ 0x800) :
    s.areaWrite path (0x1000 * m + o) bs = if s.busy m || (m == 6 && path == 0 && !s.flag F.MBX_CTL_PCIE_WRITE 6) then
      (s.inc F.MBX_STATUS_REQ_WRITE_DROPS m).note E.TLR_REQ_WRITE_DROP else s.putArea (0x1000 * m + o) bs := by
  have hl : 0 < bs.length := List.length_pos_iff.2 hb
  unfold State.areaWrite
  rw [piecesOf_one _ _ _ _ hl hb (by omega)]
  show (if 0x1000 * m + o < 0x8000 then s.areaPiece path (0x1000 * m + o) bs else s) = _
  rw [if_pos (by omega)]
  unfold State.areaPiece
  dsimp only
  rw [show (0x1000 * m + o) / 0x1000 = m by omega, show (0x1000 * m + o) % 0x1000 = o by omega,
    show decide (0x800 ≤ o) = false from decide_eq_false (by omega), Bool.false_or]

theorem execMbxAreaWrite_free (s : State) (m o : Nat) (bs : List Byte) (hu : s.bar2Up = true) (hm : m < 8) (hb : bs ≠ []) (h : o + bs.length ≤ 0x800)
    (hf : s.busy m = false) (hw : m ≠ 6 ∨ s.flag F.MBX_CTL_PCIE_WRITE 6 = true) :
    execMbxAreaWrite (0x1000 * m + o) bs s = .next (s.putArea (0x1000 * m + o) bs) := by
  unfold execMbxAreaWrite
  rw [if_pos hu, State.areaWrite_half s 0 m o bs hm hb h, hf, if_neg]
  obtain hn | hp := hw
  · simp [hn]
  · simp [hp]

theorem execMbxAreaWrite_busy (s : State) (m o : Nat) (bs : List Byte) (hu : s.bar2Up = true) (hm : m < 8) (hb : bs ≠ []) (h : o + bs.length ≤ 0x800)
    (hf : s.busy m = true) :
    ∃ u, Wrote s u [(F.MBX_STATUS_REQ_WRITE_DROPS, m, satBits 8 (s.fld F.MBX_STATUS_REQ_WRITE_DROPS m + 1))]
      ∧ execMbxAreaWrite (0x1000 * m + o) bs s = .next (u.note E.TLR_REQ_WRITE_DROP) := by
  refine ⟨s.inc F.MBX_STATUS_REQ_WRITE_DROPS m, Wrote.setF s _ m _ (by decide), ?_⟩
  unfold execMbxAreaWrite
  rw [if_pos hu, State.areaWrite_half s 0 m o bs hm hb h, hf, Bool.true_or, if_pos rfl]

theorem State.setCtl_wrote (s : State) (m v : Nat) : Wrote s (s.setCtl m v) [(F.MBX_CTL_IRQ_EN, m, bits v 0 1), (F.MBX_CTL_VECTOR, m, bits v 8 8)] := by
  refine Wrote.setAll s [(F.MBX_CTL_IRQ_EN, m, bits v 0 1), (F.MBX_CTL_VECTOR, m, bits v 8 8)] ?_ ?_
  · simp [F.MBX_CTL_IRQ_EN, F.MBX_CTL_VECTOR]
  · simp [Separate, F.MBX_CTL_IRQ_EN, F.MBX_CTL_VECTOR]

theorem execMbxCtlWrite_other (s : State) (m v : Nat) (hu : s.bar2Up = true) (hm : m < 8) (h6 : m ≠ 6) :
    execMbxCtlWrite m v s = .next (s.setCtl m v) := by
  unfold execMbxCtlWrite State.ctlWrite
  rw [if_pos ⟨hu, hm⟩, if_pos h6]

/-! ### Doorbells -/

/-- MBX_DOORBELL lies apart from the status and last sequence number of every mailbox. -/
theorem mbx_doorbell_key (m k : Nat) : R.MBX_STATUS.key k ≠ R.MBX_DOORBELL.key m ∧ R.MBX_LAST.key k ≠ R.MBX_DOORBELL.key m := by
  have doorbell : R.MBX_DOORBELL.key m = 0x100010000 + m * 0x20 := (rfl)
  have status : R.MBX_STATUS.key k = 0x100010004 + k * 0x20 := (rfl)
  have last : R.MBX_LAST.key k = 0x100010008 + k * 0x20 := (rfl)
  omega

/-- The command and run registers of a mailbox lie apart from its registers of BAR0 and from each other. -/
theorem tlr_mbx_key (m : Nat) : R.TLR_MBX_CMD.key m ≠ R.TLR_MBX_RUN.key m
    ∧ (R.MBX_DOORBELL.key m ≠ R.TLR_MBX_CMD.key m ∧ R.MBX_DOORBELL.key m ≠ R.TLR_MBX_RUN.key m)
    ∧ R.MBX_STATUS.key m ≠ R.TLR_MBX_CMD.key m ∧ R.MBX_STATUS.key m ≠ R.TLR_MBX_RUN.key m := by
  have doorbell : R.MBX_DOORBELL.key m = 0x100010000 + m * 0x20 := (rfl)
  have status : R.MBX_STATUS.key m = 0x100010004 + m * 0x20 := (rfl)
  have cmd : R.TLR_MBX_CMD.key m = 0x1000010 + m * 0x10 := (rfl)
  have run : R.TLR_MBX_RUN.key m = 0x1000014 + m * 0x10 := (rfl)
  omega

/-- The SEQ written to a doorbell leaves every mailbox's status and last sequence number as they were. -/
theorem State.setF_doorbell_status (s : State) (m seq : Nat) (f : Fld) (k : Nat) (hf : f.reg = R.MBX_STATUS ∨ f.reg = R.MBX_LAST) :
    (s.setF F.MBX_DOORBELL_SEQ m seq).fld f k = s.fld f k := by
  refine State.fld_setF_ne s seq ?_
  obtain h | h := hf
  · rw [h]
    exact (mbx_doorbell_key m k).1
  · rw [h]
    exact (mbx_doorbell_key m k).2

theorem State.boundBefore_congr {s t : State} (m : Nat) (r : Req) (hq : t.tlr.reqs = s.tlr.reqs) (hb : ∀ k, t.busy k = s.busy k) :
    t.boundBefore m r = s.boundBefore m r := by
  unfold State.boundBefore State.req?
  simp only [hq, hb]

/-- The host rings a mailbox it can reach. -/
theorem execMbxDoorbell_rings (s : State) (m seq : Nat) (hu : s.bar2Up = true) (hm : m < 8) (hs : seq < 2 ^ 16)
    (hw : m ≠ 6 ∨ s.flag F.MBX_CTL_PCIE_WRITE 6 = true) :
    execMbxDoorbell m seq s = .next (if !s.flag F.MBX_STATUS_ALIVE m ∨ s.busy m then s.dropDoorbell 0 m
      else if s.flag F.MBX_LAST_LAST_VALID m ∧ s.fld F.MBX_LAST_LAST_SEQ m = seq then (s.setF F.MBX_DOORBELL_SEQ m seq).replay 0 m
      else (s.setF F.MBX_DOORBELL_SEQ m seq).acceptDoorbell 0 m seq) := by
  have hv : (s.setF F.MBX_DOORBELL_SEQ m seq).flag F.MBX_LAST_LAST_VALID m = s.flag F.MBX_LAST_LAST_VALID m :=
    congrArg (· == 1) (State.setF_doorbell_status s m seq _ m (.inr rfl))
  have h6 : ¬ (m = 6 ∧ 0 = 0 ∧ (!s.flag F.MBX_CTL_PCIE_WRITE 6) = true) := by
    obtain hn | hp := hw
    · simp [hn]
    · simp [hp]
  unfold execMbxDoorbell State.doorbell
  rw [if_pos ⟨hu, hm⟩, show seq % 65536 = seq from Nat.mod_eq_of_lt hs, if_neg h6]
  dsimp only
  rw [hv, State.setF_doorbell_status s m seq _ m (.inr rfl)]

/-- A request with its bound. -/
def Req.withBound (r : Req) (b : Nat) : Req := { r with bound := b }

theorem Req.withBound_seq (r : Req) (b : Nat) : (r.withBound b).seq = r.seq := (rfl)
theorem Req.withBound_opcode (r : Req) (b : Nat) : (r.withBound b).opcode = r.opcode := (rfl)

/-- The request that an accepted doorbell takes, its bound extended by the commands before it on its block (R97, R100). -/
def State.takenReq (s : State) (path m seq : Nat) : Req :=
  (s.areaReq path m seq).withBound (opBound (s.areaReq path m seq).opcode + s.boundBefore m (s.areaReq path m seq))

/-- The request stands as the last one of its mailbox, in the Teller's state `x`. -/
def State.queueReq (s : State) (x : Tlr) (m : Nat) (r : Req) : State :=
  { s with tlr := { x with reqs := Tab.set none x.reqs m (some r), order := x.order + 1 } }

/-- What the acceptance of a doorbell writes before the checks of R94. -/
def acceptWrites (m seq opcode : Nat) : List (Fld × Nat × Nat) :=
  [(F.MBX_STATUS_BUSY, m, 1), (F.MBX_STATUS_RESP_VALID, m, 0), (F.TLR_MBX_CMD_SEQ, m, seq), (F.TLR_MBX_CMD_OPCODE, m, opcode),
    (F.TLR_MBX_RUN_STATE, m, 1), (F.TLR_MBX_RUN_EXECUTOR, m, 0)]

/-- What an accepted doorbell writes, its own SEQ first. -/
def doorbellWrites (m seq opcode : Nat) : List (Fld × Nat × Nat) := (F.MBX_DOORBELL_SEQ, m, seq) :: acceptWrites m seq opcode

theorem State.setAll_doorbell_wrote (s : State) (m seq opcode : Nat) :
    Wrote s (s.setAll (doorbellWrites m seq opcode)) (doorbellWrites m seq opcode) := by
  obtain ⟨hstatus, -⟩ := mbx_doorbell_key m m
  obtain ⟨hcmd, ⟨hdc, hdr⟩, hsc, hsr⟩ := tlr_mbx_key m
  refine Wrote.setAll s _ ?_ ?_
  · simp [doorbellWrites, acceptWrites, F.MBX_DOORBELL_SEQ, F.MBX_STATUS_BUSY, F.MBX_STATUS_RESP_VALID, F.TLR_MBX_CMD_SEQ, F.TLR_MBX_CMD_OPCODE,
      F.TLR_MBX_RUN_STATE, F.TLR_MBX_RUN_EXECUTOR]
  · simp [doorbellWrites, acceptWrites, Separate, hstatus.symm, hcmd, hdc, hdr, hsc, hsr, F.MBX_DOORBELL_SEQ, F.MBX_STATUS_BUSY, F.MBX_STATUS_RESP_VALID,
      F.TLR_MBX_CMD_SEQ, F.TLR_MBX_CMD_OPCODE, F.TLR_MBX_RUN_STATE, F.TLR_MBX_RUN_EXECUTOR]

/-- A request whose SEQ matches and whose opcode is known passes the first two checks of R94 and waits. -/
theorem State.acceptDoorbell_passes (s : State) (path m seq : Nat) (hs : (s.takenReq path m seq).seq = seq)
    (hc : ∃ c ∈ cmdTable, c.op = (s.takenReq path m seq).opcode) :
    s.acceptDoorbell path m seq = (s.setAll (acceptWrites m (s.takenReq path m seq).seq (s.takenReq path m seq).opcode)).queueReq s.tlr m
      (s.takenReq path m seq) := by
  unfold State.acceptDoorbell
  extract_lets r0 r s1 s2 s3 s4
  have hr : r = s.takenReq path m seq := rfl
  have hseq : ¬ r.seq ≠ seq := by
    rw [hr]
    exact not_not_intro hs
  have hknown : ¬ (cmdTable.all fun c => c.op != r.opcode) = true := by
    obtain ⟨c, hmem, hop⟩ := hc
    rw [hr, List.all_eq_true]
    intro hall
    simpa [hop] using hall c hmem
  have htlr : s3.tlr = s.tlr := by simp only [s3, s2, s1, State.setF_tlr]
  rw [if_neg hseq, if_neg hknown]
  show s3.queueReq s3.tlr m r = _
  rw [htlr, hr]
  simp only [acceptWrites, State.setAll_cons, State.setAll_nil, s3, s2, s1, hr]

theorem State.areaReq_doorbell (s : State) (path m seq : Nat) : (s.setF F.MBX_DOORBELL_SEQ m seq).areaReq path m seq = s.areaReq path m seq := by
  unfold State.areaReq State.area
  rw [State.setF_tlr, State.setF_now]

/-- The SEQ written to the doorbell changes nothing that the request or its bound is taken from. -/
theorem State.takenReq_doorbell (s : State) (path m seq : Nat) : (s.setF F.MBX_DOORBELL_SEQ m seq).takenReq path m seq = s.takenReq path m seq := by
  have hb : (s.setF F.MBX_DOORBELL_SEQ m seq).boundBefore m (s.areaReq path m seq) = s.boundBefore m (s.areaReq path m seq) :=
    State.boundBefore_congr m _ (by rw [State.setF_tlr]) fun k => congrArg (· == 1) (State.setF_doorbell_status s m seq _ k (.inl rfl))
  unfold State.takenReq
  rw [State.areaReq_doorbell, hb]

theorem State.acceptDoorbell_known (s : State) (m seq : Nat) (hs : (s.areaReq 0 m seq).seq = seq)
    (hc : ∃ c ∈ cmdTable, c.op = (s.areaReq 0 m seq).opcode) :
    (s.setF F.MBX_DOORBELL_SEQ m seq).acceptDoorbell 0 m seq
      = (s.setAll (doorbellWrites m seq (s.takenReq 0 m seq).opcode)).queueReq s.tlr m (s.takenReq 0 m seq) := by
  have hseq : (s.takenReq 0 m seq).seq = seq := (Req.withBound_seq _ _).trans hs
  have hop : (s.takenReq 0 m seq).opcode = (s.areaReq 0 m seq).opcode := Req.withBound_opcode _ _
  rw [State.acceptDoorbell_passes _ 0 m seq (by rw [State.takenReq_doorbell, hseq]) (by rwa [State.takenReq_doorbell, hop]), State.takenReq_doorbell,
    hseq, State.setF_tlr, doorbellWrites, State.setAll_cons]

theorem State.history_area (s : State) (m a k : Nat) (x y z : List Byte) :
    (s.history m a k x y z).tlr.area = s.tlr.area := (rfl)

theorem State.completionMsi_tlr (s : State) (m : Nat) (b : Bool) : (s.completionMsi m b).tlr = s.tlr := by
  unfold State.completionMsi
  split
  · exact State.sendMsi_tlr s _
  · rfl

/-- A field of a mailbox's status after a history entry. -/
theorem State.history_status (s : State) (m a k : Nat) (x y z : List Byte) (f : Fld) (j : Nat) (hf : f.reg = R.MBX_STATUS) :
    (s.history m a k x y z).fld f j = s.fld f j := by
  have status : R.MBX_STATUS.key j = 0x100010004 + j * 0x20 := (rfl)
  have head : R.TLR_HIST_HEAD.key 0 = 0x1000310 := by decide
  unfold State.fld
  rw [hf, State.history_rd s m a k x y z _ _ (by omega)]

theorem State.completionMsi_status (s : State) (m : Nat) (b : Bool) (f : Fld) (j : Nat) (hj : j < 8) (hf : f.reg = R.MBX_STATUS) :
    (s.completionMsi m b).fld f j = s.fld f j := by
  have status : R.MBX_STATUS.key j = 0x100010004 + j * 0x20 := (rfl)
  unfold State.fld
  rw [hf, State.completionMsi_rd s m b _ _ (by omega)]

/-- An answer given again sets RESP_VALID and no other bit of the mailbox's status. -/
theorem State.replay_status (s : State) (path m : Nat) (f : Fld) (hm : m < 8) (hf : f.reg = R.MBX_STATUS) :
    (s.replay path m).fld f m = (s.setF F.MBX_STATUS_RESP_VALID m 1).fld f m := by
  unfold State.replay
  dsimp only
  rw [State.completionMsi_status _ _ _ f m hm hf, State.history_status _ _ _ _ _ _ _ f m hf]

theorem State.replay_rest (s : State) (path m : Nat) : AnswerRest s (s.replay path m) := by
  unfold State.replay
  exact AnswerRest.trans (AnswerRest.trans (AnswerRest.setF s _ _ _) (AnswerRest.history _ _ _ _ _ _ _)) (AnswerRest.completionMsi _ _ _)

theorem State.replay_area (s : State) (path m : Nat) : (s.replay path m).tlr.area = s.tlr.area := by
  unfold State.replay
  dsimp only
  rw [State.completionMsi_tlr, State.history_area]
  rfl

/-- A field of a mailbox's status, and the rest of the part, after a doorbell that is dropped. -/
theorem State.dropDoorbell_status (s : State) (path m : Nat) (f : Fld) (hf : f.reg = R.MBX_STATUS) :
    (s.dropDoorbell path m).fld f m = (s.inc F.MBX_STATUS_DOORBELL_DROPS m).fld f m := by
  unfold State.dropDoorbell
  dsimp only
  rw [State.history_status _ _ _ _ _ _ _ f m hf, State.note_fld]

theorem State.dropDoorbell_rest (s : State) (path m : Nat) : AnswerRest s (s.dropDoorbell path m) := by
  unfold State.dropDoorbell
  exact AnswerRest.trans (AnswerRest.trans (AnswerRest.setF s _ _ _) (AnswerRest.note _ _ (by decide))) (AnswerRest.history _ _ _ _ _ _ _)

theorem State.dropDoorbell_area (s : State) (path m : Nat) : (s.dropDoorbell path m).tlr.area = s.tlr.area := by
  unfold State.dropDoorbell
  dsimp only
  rw [State.history_area, State.note_tlr, State.inc_tlr]

/-- What an answer keeps of the stores and of the Teller. -/
theorem AnswerRest.stores {s t : State} (h : AnswerRest s t) : t.tlr.reqs = s.tlr.reqs ∧ t.tlr.recs = s.tlr.recs ∧ t.arrays = s.arrays
    ∧ t.vlt = s.vlt := by
  rw [h]
  exact ⟨rfl, rfl, rfl, rfl⟩

theorem execMbxDoorbell_accepted (s : State) (m seq : Nat) (hu : s.bar2Up = true) (hm : m < 8) (hs : seq < 2 ^ 16)
    (hw : m ≠ 6 ∨ s.flag F.MBX_CTL_PCIE_WRITE 6 = true) (ha : s.flag F.MBX_STATUS_ALIVE m = true) (hf : s.busy m = false)
    (hn : s.flag F.MBX_LAST_LAST_VALID m = false ∨ s.fld F.MBX_LAST_LAST_SEQ m ≠ seq) (hh : (s.areaReq 0 m seq).seq = seq)
    (hc : ∃ c ∈ cmdTable, c.op = (s.areaReq 0 m seq).opcode) :
    execMbxDoorbell m seq s = .next ((s.setAll (doorbellWrites m seq (s.takenReq 0 m seq).opcode)).queueReq s.tlr m (s.takenReq 0 m seq)) := by
  have hnew : ¬ (s.flag F.MBX_LAST_LAST_VALID m = true ∧ s.fld F.MBX_LAST_LAST_SEQ m = seq) := by
    obtain h | h := hn
    · simp [h]
    · simp [h]
  rw [execMbxDoorbell_rings s m seq hu hm hs hw, if_neg (by simp [ha, hf]), if_neg hnew, State.acceptDoorbell_known s m seq hh hc]

/-- The SEQ answered last rings: the answer is valid again and nothing runs (R90). -/
theorem execMbxDoorbell_repeated (s : State) (m seq : Nat) (hu : s.bar2Up = true) (hm : m < 8) (hs : seq < 2 ^ 16)
    (hw : m ≠ 6 ∨ s.flag F.MBX_CTL_PCIE_WRITE 6 = true) (ha : s.flag F.MBX_STATUS_ALIVE m = true) (hf : s.busy m = false)
    (hv : s.flag F.MBX_LAST_LAST_VALID m = true) (hl : s.fld F.MBX_LAST_LAST_SEQ m = seq) :
    ∃ t, execMbxDoorbell m seq s = .next t ∧ t.fld F.MBX_STATUS_RESP_VALID m = 1 ∧ t.fld F.MBX_STATUS_BUSY m = 0 ∧ t.tlr.area = s.tlr.area
      ∧ t.tlr.reqs = s.tlr.reqs ∧ t.tlr.recs = s.tlr.recs ∧ t.arrays = s.arrays ∧ t.vlt = s.vlt := by
  have hbusy : s.fld F.MBX_STATUS_BUSY m = 0 := by
    have hlt : s.fld F.MBX_STATUS_BUSY m < 2 ^ 1 := bits_lt _ _ _
    have hne : s.fld F.MBX_STATUS_BUSY m ≠ 1 := ne_of_beq_false hf
    omega
  rw [execMbxDoorbell_rings s m seq hu hm hs hw, if_neg (by simp [ha, hf]), if_pos ⟨hv, hl⟩]
  refine ⟨_, rfl, ?_, ?_, (State.replay_area _ 0 m).trans (congrArg Tlr.area (State.setF_tlr s _ _ _)),
    ((AnswerRest.setF s _ _ _).trans (State.replay_rest _ 0 m)).stores⟩
  · rw [State.replay_status _ _ _ _ hm (by rfl), State.fld_setF_same _ _ _ _ (by decide)]
    rfl
  · rw [State.replay_status _ _ _ _ hm (by rfl), State.fld_setF_other _ _ _ _ _ (by rfl) (by decide) (by decide),
      State.setF_doorbell_status _ _ _ _ _ (.inl rfl), hbusy]

/-- A doorbell at a mailbox that is busy or not served is dropped and counted (R87). -/
theorem execMbxDoorbell_dropped (s : State) (m seq : Nat) (hu : s.bar2Up = true) (hm : m < 8) (hs : seq < 2 ^ 16)
    (hw : m ≠ 6 ∨ s.flag F.MBX_CTL_PCIE_WRITE 6 = true) (hd : s.flag F.MBX_STATUS_ALIVE m = false ∨ s.busy m = true) :
    ∃ t, execMbxDoorbell m seq s = .next t ∧ t.fld F.MBX_STATUS_DOORBELL_DROPS m = satBits 8 (s.fld F.MBX_STATUS_DOORBELL_DROPS m + 1)
      ∧ t.fld F.MBX_STATUS_BUSY m = s.fld F.MBX_STATUS_BUSY m ∧ t.tlr.area = s.tlr.area ∧ t.tlr.reqs = s.tlr.reqs ∧ t.vlt = s.vlt := by
  obtain ⟨hreqs, -, -, hvlt⟩ := (State.dropDoorbell_rest s 0 m).stores
  rw [execMbxDoorbell_rings s m seq hu hm hs hw, if_pos (by simpa using hd)]
  refine ⟨_, rfl, ?_, ?_, State.dropDoorbell_area s 0 m, hreqs, hvlt⟩
  · rw [State.dropDoorbell_status _ _ _ _ (by rfl), State.inc, State.addSat, State.fld_setF_same _ _ _ _ (by decide)]
    exact Nat.mod_eq_of_lt (Nat.lt_of_le_of_lt (Nat.min_le_right _ _) (by decide))
  · rw [State.dropDoorbell_status _ _ _ _ (by rfl)]
    exact State.fld_setF_other s _ _ m _ (by rfl) (by decide) (by decide)

/-- Settles O11: an area write by the one piece it is, a doorbell by the three ways the mailbox takes it. -/
theorem mailboxesTakeTheHostsWrites : Obligations.MailboxesTakeTheHostsWrites := by
  unfold Obligations.MailboxesTakeTheHostsWrites
  refine fun s m hu hm => ⟨fun o bs hb h => ⟨execMbxAreaWrite_free s m o bs hu hm hb h, execMbxAreaWrite_busy s m o bs hu hm hb h⟩,
    fun v h6 => ⟨_, execMbxCtlWrite_other s m v hu hm h6, State.setCtl_wrote s m v⟩,
    fun seq hs hw => ⟨fun ha hf => ⟨fun hn hh hc => ?_, execMbxDoorbell_repeated s m seq hu hm hs hw ha hf⟩,
      execMbxDoorbell_dropped s m seq hu hm hs hw⟩⟩
  exact ⟨_, s.takenReq 0 m seq, State.setAll_doorbell_wrote s m seq _, rfl, execMbxDoorbell_accepted s m seq hu hm hs hw ha hf hn hh hc⟩

end Sys2Proof.Machine

namespace Sys2Proof.Machine

/-! ### Writes made one after the other -/

/-- Two lists of field writes, the second of fields apart from those of the first. -/
theorem Wrote.trans {s t u : State} {l k : List (Fld × Nat × Nat)} (h : Wrote s t l) (g : Wrote t u k) (hw : ∀ e ∈ l, e.1.lo + e.1.wd ≤ 32)
    (ha : ∀ e ∈ l, ∀ d ∈ k, Apart d e.1 e.2.1) : Wrote s u (l ++ k) := by
  obtain ⟨⟨hholds, hkeeps⟩, hrest⟩ := h
  obtain ⟨⟨gholds, gkeeps⟩, grest⟩ := g
  refine ⟨⟨fun e he => ?_, fun f j hf hl => ?_⟩, ?_⟩
  · obtain he | he := List.mem_append.1 he
    · rw [gkeeps _ _ (hw e he) (ha e he), hholds e he]
    · exact gholds e he
  · rw [gkeeps f j hf fun d hd => hl d (List.mem_append_right _ hd), hkeeps f j hf fun e he => hl e (List.mem_append_left _ he)]
  · rw [grest, hrest]

/-- Bits written within a field are a write of the field of those bits. -/
theorem State.setF_within (s : State) (q : Reg) (lo wd k n i v : Nat) (h : k + n ≤ wd) :
    s.setF ⟨q, lo, wd⟩ i (putBits (s.fld ⟨q, lo, wd⟩ i) k n v) = s.setF ⟨q, lo + k, n⟩ i v :=
  congrArg (s.wr q i) (putBits_putBits_within (s.rd q i) lo wd k n v h)

/-! ### GRANT, REVOKE and leases -/

/-- The grant bit of a unit is written as a field of its own; clearing it ends the lease. -/
theorem State.setGrant_eq (s : State) (u : Nat) (on : Bool) : s.setGrant u on = if on then s.setF (grantBit u).1 (grantBit u).2 1
    else (s.setF (grantBit u).1 (grantBit u).2 0).setF F.TLR_LEASE_REMAINING_MS u 0 := by
  have hbit : (if u < 12 then s.setF F.TLR_GRANT_BLOCKS_GRANTED 0 (putBits (s.fld F.TLR_GRANT_BLOCKS_GRANTED 0) u 1 (b2n on))
      else s.setF F.TLR_GRANT_QUIRE_GRANTED ((u - 12) / 6) (putBits (s.fld F.TLR_GRANT_QUIRE_GRANTED ((u - 12) / 6)) ((u - 12) % 6) 1 (b2n on)))
      = s.setF (grantBit u).1 (grantBit u).2 (b2n on) := by
    unfold grantBit
    split
    · have := State.setF_within s R.TLR_GRANT_BLOCKS 0 12 u 1 0 (b2n on) (by omega)
      rwa [Nat.zero_add] at this
    · have := State.setF_within s R.TLR_GRANT_QUIRE 0 6 ((u - 12) % 6) 1 ((u - 12) / 6) (b2n on) (by omega)
      rwa [Nat.zero_add] at this
  unfold State.setGrant
  dsimp only
  rw [hbit]
  cases on
  · rw [if_neg (by decide), if_neg (by decide), b2n, if_neg (by decide)]
  · rw [if_pos rfl, if_pos rfl, b2n, if_pos rfl]

theorem grantBit_width (u : Nat) : (grantBit u).1.lo + (grantBit u).1.wd ≤ 32 := by
  unfold grantBit
  split
  · show u + 1 ≤ 32
    omega
  · show (u - 12) % 6 + 1 ≤ 32
    omega

/-- The register of a unit's grant bit lies apart from that of its lease. -/
theorem grantBit_key_ne (u : Nat) : (grantBit u).1.reg.key (grantBit u).2 ≠ R.TLR_LEASE.key u := by
  have lease : R.TLR_LEASE.key u = 0x1000800 + u * 4 := (rfl)
  unfold grantBit
  split
  · have blocks : R.TLR_GRANT_BLOCKS.key 0 = 0x1000100 := by decide
    dsimp only
    omega
  · have quire : R.TLR_GRANT_QUIRE.key ((u - 12) / 6) = 0x1000110 + (u - 12) / 6 * 4 := (rfl)
    dsimp only
    omega

/-- The grant bit of a unit and its lease as a list of writes. -/
theorem Wrote.grant (s : State) (u b ms : Nat) :
    Wrote s ((s.setF (grantBit u).1 (grantBit u).2 b).setF F.TLR_LEASE_REMAINING_MS u ms)
      [((grantBit u).1, (grantBit u).2, b), (F.TLR_LEASE_REMAINING_MS, u, ms)] := by
  refine Wrote.setAll s [((grantBit u).1, (grantBit u).2, b), (F.TLR_LEASE_REMAINING_MS, u, ms)] ?_ ?_
  · simp [grantBit_width, F.TLR_LEASE_REMAINING_MS]
  · simp [Separate, F.TLR_LEASE_REMAINING_MS, grantBit_key_ne]

/-- A grant, with its lease and the time it starts. -/
theorem State.grantAct_unit (s : State) (r : Req) (u : Nat) (h : r.grantUnit = .inl u) :
    s.grantAct r = .ok { (s.setF (grantBit u).1 (grantBit u).2 1).setF F.TLR_LEASE_REMAINING_MS u (r.arg A.GRANT_LEASE_MS) with
      tlr := { s.tlr with leaseAt := Tab.set 0 s.tlr.leaseAt u s.now } } (w32 (b2n (s.granted u))) := by
  unfold State.grantAct
  rw [h]
  dsimp only
  rw [State.setGrant_eq, if_pos rfl]
  simp only [State.setF_tlr]

/-- GRANT is accepted in no mode below 2. -/
theorem grantChecks_modes (r : Req) (u : Nat) (h : r.grantUnit = .inl u) : bit (grantChecks r).modes 0 = false := by
  unfold grantChecks unitModes
  rw [h]
  dsimp only
  split <;> decide

theorem State.setGrant_mode (s : State) (u : Nat) (on : Bool) : (s.setGrant u on).mode = s.mode := congrArg (·.2.2) (State.setGrant_fixed s u on)
theorem State.revokeAll_mode (s : State) : s.revokeAll.mode = s.mode := congrArg (·.2.2) (State.revokeAll_fixed s)

theorem State.mode_tlr (s : State) (x : Tlr) : State.mode { s with tlr := x } = s.mode := (rfl)

theorem State.grant_mode (s : State) (u ms : Nat) : ((s.setF (grantBit u).1 (grantBit u).2 1).setF F.TLR_LEASE_REMAINING_MS u ms).mode = s.mode := by
  have lease : R.TLR_LEASE.key u = 0x1000800 + u * 4 := (rfl)
  have mode : R.GLB_MODE.key 0 = 0x10 := by decide
  have hg := State.setGrant_eq s u true
  rw [if_pos rfl] at hg
  rw [State.setF_glb_mode _ _ _ (by show R.GLB_MODE.key 0 ≠ R.TLR_LEASE.key u; omega), ← hg, State.setGrant_mode]

theorem execGrant_unit (s : State) (m : Nat) (r : Req) (u : Nat) (hr : Ready s m C.GRANT grantChecks r) (h : r.grantUnit = .inl u) :
    ∃ v t, execGrant m s = .next t
      ∧ Wrote s v [((grantBit u).1, (grantBit u).2, 1), (F.TLR_LEASE_REMAINING_MS, u, r.arg A.GRANT_LEASE_MS)]
      ∧ Answered { v with tlr := { s.tlr with leaseAt := Tab.set 0 s.tlr.leaseAt u s.now } } t m r 0 0 (respParams C.GRANT r 0 (w32 (b2n (s.granted u)))) :=
  ⟨_, _, rfl, Wrote.grant s u 1 _, hr.answered (hr.mode_ne_zero_of (grantChecks_modes r u h)) (State.grantAct_unit s r u h)
    ((State.mode_tlr _ _).trans (State.grant_mode s u _))⟩

theorem execRevoke_unit (s : State) (m : Nat) (r : Req) (u : Nat) (hr : Ready s m C.REVOKE s.revokeChecks r) (he : r.everyUnit = false)
    (h : r.grantUnit = .inl u) : Configures (execRevoke m s) s m r C.REVOKE (w32 (b2n (s.granted u)))
      [((grantBit u).1, (grantBit u).2, 0), (F.TLR_LEASE_REMAINING_MS, u, 0)] := by
  have ha : s.revokeAct r = .ok (s.setGrant u false) (w32 (b2n (s.granted u))) := by
    unfold State.revokeAct
    rw [he, if_neg (by decide), h]
  have hw : Wrote s (s.setGrant u false) [((grantBit u).1, (grantBit u).2, 0), (F.TLR_LEASE_REMAINING_MS, u, 0)] := by
    rw [State.setGrant_eq, if_neg (by decide)]
    exact Wrote.grant s u 0 0
  exact ⟨_, _, rfl, hw, hr.answered (hr.mode_ne_zero (by rfl) (by decide)) ha (State.setGrant_mode s u false)⟩

/-- A register that no element's update touches. -/
theorem State.each_rd {α : Type} (s : State) (l : List α) (f : α → State → State) (q : Reg) (j : Nat)
    (h : ∀ a ∈ l, ∀ s, (f a s).rd q j = s.rd q j) :
    (s.each l f).rd q j = s.rd q j := by
  induction l generalizing s with
  | nil => rfl
  | cons a l ih => rw [State.each_cons, ih _ fun b hb => h b (List.mem_cons_of_mem _ hb), h a List.mem_cons_self]

/-- Revoking every grant writes the registers of grants and leases alone. -/
theorem State.revokeAll_rd (s : State) (q : Reg) (j : Nat)
    (h : ∀ k, k < 108 → q.key j ≠ (grantBit k).1.reg.key (grantBit k).2 ∧ q.key j ≠ R.TLR_LEASE.key k) : s.revokeAll.rd q j = s.rd q j := by
  refine State.each_rd s _ _ q j fun k hk v => ?_
  obtain ⟨hg, hl⟩ := h k (List.mem_range.1 hk)
  split
  · rw [State.setGrant_eq, if_neg (by decide), State.rd_setF_ne _ _ (by exact hl), State.rd_setF_ne _ _ hg]
  · rfl

theorem execRevoke_all (s : State) (m : Nat) (r : Req) (hr : Ready s m C.REVOKE s.revokeChecks r) (he : r.everyUnit = true) :
    ∃ v t, execRevoke m s = .next t ∧ (∀ k, k < 108 → v.granted k = false)
      ∧ (∀ q j, (∀ k, k < 108 → q.key j ≠ (grantBit k).1.reg.key (grantBit k).2 ∧ q.key j ≠ R.TLR_LEASE.key k) → v.rd q j = s.rd q j)
      ∧ Answered v t m r 0 0 (respParams C.REVOKE r 0 (w32 (b2n ((List.range 108).any fun k => s.granted k)))) := by
  have ha : s.revokeAct r = .ok s.revokeAll (w32 (b2n ((List.range 108).any fun k => s.granted k))) := by
    unfold State.revokeAct
    rw [he, if_pos rfl]
  exact ⟨s.revokeAll, _, rfl, State.revokeAll_granted s, State.revokeAll_rd s,
    hr.answered (hr.mode_ne_zero (by rfl) (by decide)) ha (State.revokeAll_mode s)⟩

theorem execGrantLeaseExpire_granted (s : State) (u : Nat) (hu : u < 108) (hg : s.granted u = true) (hl : s.fld F.TLR_LEASE_REMAINING_MS u ≠ 0) :
    ∃ v, Wrote s v [((grantBit u).1, (grantBit u).2, 0), (F.TLR_LEASE_REMAINING_MS, u, 0)]
      ∧ execGrantLeaseExpire u s = .next ((v.note E.TLR_GRANT_EXPIRED).history 0 3 5 [] [] []) := by
  refine ⟨_, Wrote.grant s u 0 0, ?_⟩
  unfold execGrantLeaseExpire
  rw [if_pos ⟨hu, hg, hl⟩, State.setGrant_eq, if_neg (by decide)]

/-! ### RESET_CONFIG -/

/-- A lock is set where its parameter is 1 and kept where it is 0: it takes the larger of the two. -/
def State.setLock (s : State) (r : Req) (f : Fld) (a : Arg) : State := if r.on a then s.setF f 0 1 else s

theorem State.setLock_wrote (s : State) (r : Req) (f : Fld) (a : Arg) (hf : f.wd = 1) (hw : f.lo + f.wd ≤ 32) (ha : a.wd = 1) :
    Wrote s (s.setLock r f a) [(f, 0, max (s.fld f 0) (r.arg a))] := by
  have hfld : s.fld f 0 < 2 ^ 1 := hf ▸ bits_lt _ _ _
  have harg : r.arg a < 2 ^ 1 := ha ▸ bits_lt _ _ _
  unfold State.setLock Req.on
  split
  · next h =>
    have h1 : r.arg a = 1 := by simpa using h
    rw [Nat.max_eq_right (by omega), h1]
    exact Wrote.setF s f 0 1 hw
  · next h =>
    have h0 : r.arg a = 0 := by
      have : r.arg a ≠ 1 := by simpa using h
      omega
    rw [h0, Nat.max_eq_left (Nat.zero_le _)]
    refine ⟨⟨?_, fun _ _ _ _ => rfl⟩, rfl⟩
    simp only [List.mem_singleton, forall_eq]
    rw [hf, Nat.mod_eq_of_lt hfld]

/-- A lock after other writes, of fields apart from its own. -/
theorem Wrote.lock {s t : State} {l : List (Fld × Nat × Nat)} (h : Wrote s t l) (r : Req) (f : Fld) (a : Arg) (hf : f.wd = 1) (hw : f.lo + f.wd ≤ 32)
    (ha : a.wd = 1) (hl : ∀ e ∈ l, e.1.lo + e.1.wd ≤ 32 ∧ Separate e (f, 0, 0)) :
    Wrote s (t.setLock r f a) (l ++ [(f, 0, max (s.fld f 0) (r.arg a))]) := by
  have hold : t.fld f 0 = s.fld f 0 := h.regs.keeps f 0 hw fun e he => (hl e he).2
  rw [← hold]
  refine h.trans (State.setLock_wrote t r f a hf hw ha) (fun e he => (hl e he).1) fun e he => ?_
  simp only [List.mem_singleton, forall_eq]
  obtain hk | ⟨hr, hi, hb⟩ := (hl e he).2
  · exact .inl (Ne.symm hk)
  · exact .inr ⟨hr.symm, hi.symm, hb.symm⟩

/-- Writes outside GLB_MODE leave the mode. -/
theorem Wrote.mode {s t : State} {l : List (Fld × Nat × Nat)} (h : Wrote s t l) (hl : ∀ e ∈ l, e.1.reg.key e.2.1 ≠ R.GLB_MODE.key 0) :
    t.mode = s.mode :=
  h.regs.keeps F.GLB_MODE_MODE 0 (by decide) fun e he => .inl (hl e he)

/-- The register that RESET_CONFIG leaves. -/
def State.resetConfigured (s : State) (r : Req) : State :=
  (((s.setF F.GLB_RESET_CFG_PERST_SCOPE 0 (r.arg A.RESET_CONFIG_PERST_SCOPE)).setLock r F.GLB_RESET_CFG_SPI_LOCK A.RESET_CONFIG_SPI_LOCK).setLock r
    F.GLB_RESET_CFG_PATCH_LOCK A.RESET_CONFIG_PATCH_LOCK).setLock r F.GLB_RESET_CFG_RELOAD_LOCK A.RESET_CONFIG_RELOAD_LOCK

theorem State.resetConfigured_wrote (s : State) (r : Req) : Wrote s (s.resetConfigured r)
    [(F.GLB_RESET_CFG_PERST_SCOPE, 0, r.arg A.RESET_CONFIG_PERST_SCOPE),
      (F.GLB_RESET_CFG_SPI_LOCK, 0, max (s.fld F.GLB_RESET_CFG_SPI_LOCK 0) (r.arg A.RESET_CONFIG_SPI_LOCK)),
      (F.GLB_RESET_CFG_PATCH_LOCK, 0, max (s.fld F.GLB_RESET_CFG_PATCH_LOCK 0) (r.arg A.RESET_CONFIG_PATCH_LOCK)),
      (F.GLB_RESET_CFG_RELOAD_LOCK, 0, max (s.fld F.GLB_RESET_CFG_RELOAD_LOCK 0) (r.arg A.RESET_CONFIG_RELOAD_LOCK))] := by
  have scope := Wrote.setF s F.GLB_RESET_CFG_PERST_SCOPE 0 (r.arg A.RESET_CONFIG_PERST_SCOPE) (by decide)
  have spi := scope.lock r F.GLB_RESET_CFG_SPI_LOCK A.RESET_CONFIG_SPI_LOCK rfl (by decide) rfl
    (by simp [Separate, F.GLB_RESET_CFG_PERST_SCOPE, F.GLB_RESET_CFG_SPI_LOCK])
  have locks := spi.lock r F.GLB_RESET_CFG_PATCH_LOCK A.RESET_CONFIG_PATCH_LOCK rfl (by decide) rfl 
    (by simp [Separate, F.GLB_RESET_CFG_PERST_SCOPE, F.GLB_RESET_CFG_SPI_LOCK, F.GLB_RESET_CFG_PATCH_LOCK])
  exact locks.lock r F.GLB_RESET_CFG_RELOAD_LOCK A.RESET_CONFIG_RELOAD_LOCK rfl (by decide) rfl 
    (by simp [Separate, F.GLB_RESET_CFG_PERST_SCOPE, F.GLB_RESET_CFG_SPI_LOCK, F.GLB_RESET_CFG_PATCH_LOCK, F.GLB_RESET_CFG_RELOAD_LOCK])

theorem execResetConfig_ready (s : State) (m : Nat) (r : Req) (hr : Ready s m C.RESET_CONFIG s.resetConfigChecks r) :
    ∃ t, execResetConfig m s = .next t
      ∧ Answered (s.resetConfigured r) t m r 0 0 (respParams C.RESET_CONFIG r 0 (w32 ((s.resetConfigured r).rd R.GLB_RESET_CFG 0))) := by
  have hkey : R.GLB_RESET_CFG.key 0 ≠ R.GLB_MODE.key 0 := by decide
  have hmode : (s.resetConfigured r).mode = s.mode := (s.resetConfigured_wrote r).mode (by
    simp [F.GLB_RESET_CFG_PERST_SCOPE, F.GLB_RESET_CFG_SPI_LOCK, F.GLB_RESET_CFG_PATCH_LOCK, F.GLB_RESET_CFG_RELOAD_LOCK, hkey])
  exact ⟨_, rfl, hr.answered (act := s.resetConfigAct) (hr.mode_ne_zero (by rfl) (by decide)) (by rfl) hmode⟩

/-! ### PATCH_LOAD and PATCH_INSTALL -/

theorem filled_async (c : Cmd) (d : List (Arg × Nat)) (r : Req) : (filled c d r).async = r.async := by
  unfold filled
  split
  · rfl
  · rfl

/-- PATCH_LOAD from its mailbox answers what it finds, or the patch waits. -/
def State.takePatch (s : State) (m : Nat) (r : Req) : Sum Ans Patch → State
  | .inl (.done t status detail resp) => t.respond m r status detail (respParams C.PATCH_LOAD r status resp)
  | .inr p => (s.putPatch (some p)).setF F.TLR_MBX_RUN_STATE m 2

theorem execPatchLoad_ready (s : State) (m : Nat) (r : Req) (hp : s.tlr.patch = none) (hr : Ready s m C.PATCH_LOAD s.patchChecks r)
    (ha : r.async = false) : execPatchLoad (.mailbox m) s = .next (s.takePatch m r (s.fetchPatch (.mailbox m) r)) := by
  obtain ⟨-, r0, h0, rfl, hc⟩ := hr
  rw [filled_async] at ha
  unfold execPatchLoad
  rw [hp, if_neg (by decide)]
  dsimp only
  rw [h0]
  dsimp only
  rw [ha, hc, if_neg (by decide)]
  rfl

theorem State.fetchPatch_good (s : State) (x : Exec) (r : Req) (p : List Byte)
    (h : s.hostRead (r.arg64 A.PATCH_LOAD_HOST_ADDR_LO A.PATCH_LOAD_HOST_ADDR_HI) (r.arg A.PATCH_LOAD_LENGTH) = some p) (he : s.patchError r p = none) :
    s.fetchPatch x r = if r.on A.PATCH_LOAD_DRY_RUN then .inl (.ok s s.patchResp) else .inr ⟨x, r, leAt p 16 4, p.drop 64⟩ := by
  unfold State.fetchPatch
  rw [h]
  dsimp only
  rw [he]

theorem State.putPatch_setF (s : State) (p : Option Patch) (f : Fld) (i v : Nat) :
    (s.putPatch p).setF f i v = (s.setF f i v).putPatch p := (rfl)

theorem State.putPatch_regs (s : State) (p : Option Patch) : (s.putPatch p).regs = s.regs := (rfl)

/-- A patch put where the Teller stands as it did. -/
theorem State.putPatch_of_tlr {s t : State} (h : t.tlr = s.tlr) (p : Option Patch) : t.putPatch p = { t with tlr := { s.tlr with patch := p } } := by
  unfold State.putPatch
  rw [h]

theorem execPatchLoad_dryRun (s : State) (m : Nat) (r : Req) (p : List Byte) (hp : s.tlr.patch = none) (hr : Ready s m C.PATCH_LOAD s.patchChecks r)
    (ha : r.async = false) (h : s.hostRead (r.arg64 A.PATCH_LOAD_HOST_ADDR_LO A.PATCH_LOAD_HOST_ADDR_HI) (r.arg A.PATCH_LOAD_LENGTH) = some p)
    (he : s.patchError r p = none) (hd : r.on A.PATCH_LOAD_DRY_RUN = true) :
    Reports (execPatchLoad (.mailbox m) s) s m r C.PATCH_LOAD s.patchResp := by
  rw [execPatchLoad_ready s m r hp hr ha, State.fetchPatch_good s _ r p h he, if_pos hd]
  exact ⟨_, rfl, State.respond_answered s m r 0 0 _ hr.1⟩

theorem execPatchLoad_waits (s : State) (m : Nat) (r : Req) (p : List Byte) (hp : s.tlr.patch = none) (hr : Ready s m C.PATCH_LOAD s.patchChecks r)
    (ha : r.async = false) (h : s.hostRead (r.arg64 A.PATCH_LOAD_HOST_ADDR_LO A.PATCH_LOAD_HOST_ADDR_HI) (r.arg A.PATCH_LOAD_LENGTH) = some p)
    (he : s.patchError r p = none) (hd : r.on A.PATCH_LOAD_DRY_RUN = false) :
    ∃ u, Wrote s u [(F.TLR_MBX_RUN_STATE, m, 2)] ∧ execPatchLoad (.mailbox m) s
      = .next { u with tlr := { s.tlr with patch := some ⟨.mailbox m, r, leAt p 16 4, p.drop 64⟩ } } := by
  refine ⟨_, Wrote.setF s _ m 2 (by decide), ?_⟩
  rw [execPatchLoad_ready s m r hp hr ha, State.fetchPatch_good s _ r p h he, if_neg (by rw [hd]; decide), State.takePatch,
    State.putPatch_setF, State.putPatch_of_tlr (State.setF_tlr s _ _ _)]

/-- The registers of an installed patch. -/
def State.patchInstalled (s : State) (level : Nat) : State := (s.setF F.GLB_PATCH_LEVEL_LEVEL 0 level).setF F.GLB_PATCH_LEVEL_LAST_STATUS 0 0

theorem State.patchInstalled_wrote (s : State) (level : Nat) :
    Wrote s (s.patchInstalled level) [(F.GLB_PATCH_LEVEL_LEVEL, 0, level), (F.GLB_PATCH_LEVEL_LAST_STATUS, 0, 0)] := by
  refine Wrote.setAll s [(F.GLB_PATCH_LEVEL_LEVEL, 0, level), (F.GLB_PATCH_LEVEL_LAST_STATUS, 0, 0)] ?_ ?_
  · simp [F.GLB_PATCH_LEVEL_LEVEL, F.GLB_PATCH_LEVEL_LAST_STATUS]
  · simp [Separate, F.GLB_PATCH_LEVEL_LEVEL, F.GLB_PATCH_LEVEL_LAST_STATUS]

/-- The response of PATCH_LOAD after the installation: the new level, and the version of the Charter as it was. -/
theorem State.patchInstalled_resp {s t : State} (level : Nat) (h : t.regs = (s.patchInstalled level).regs) :
    t.patchResp = w32 (level % 2 ^ 16) ++ w32 (s.rd R.GLB_CHARTER_VERSION 0) := by
  have hlevel : t.patchLevel = level % 2 ^ 16 :=
    (State.fld_congr h _ _).trans ((s.patchInstalled_wrote level).regs.holds (F.GLB_PATCH_LEVEL_LEVEL, 0, level) (by simp))
  have hversion : t.rd R.GLB_CHARTER_VERSION 0 = s.rd R.GLB_CHARTER_VERSION 0 := by
    rw [State.rd_congr h]
    unfold State.patchInstalled
    rw [State.rd_setF_ne _ _ (by decide), State.rd_setF_ne _ _ (by decide)]
  unfold State.patchResp
  rw [hlevel, hversion]

/-- With nothing executing beside it the patch is installed, and the mailbox that waits for it is answered. -/
theorem execPatchInstall_answers (s : State) (p : Patch) (m : Nat) (hp : s.tlr.patch = some p) (hx : p.exec = .mailbox m)
    (hb : s.executesBeside p.exec = false) :
    execPatchInstall s = .next ((((s.patchInstalled p.level).putPatch none).note E.GLB_PATCH_INSTALLED).respond m p.req 0 0
      (respParams C.PATCH_LOAD p.req 0 (w32 (p.level % 2 ^ 16) ++ w32 (s.rd R.GLB_CHARTER_VERSION 0)))) := by
  have hregs : (((s.patchInstalled p.level).putPatch none).note E.GLB_PATCH_INSTALLED).regs = (s.patchInstalled p.level).regs := by
    rw [State.note_regs, State.putPatch_regs]
  unfold execPatchInstall
  rw [hp]
  dsimp only
  rw [hb, if_neg (by decide), hx, State.putPatch_setF, State.putPatch_setF]
  dsimp only
  rw [← State.patchInstalled_resp p.level hregs]
  rfl

theorem execPatchInstall_mailbox (s : State) (p : Patch) (m : Nat) (hp : s.tlr.patch = some p) (hx : p.exec = .mailbox m) (hm : m < 8)
    (hb : s.executesBeside p.exec = false) :
    ∃ u t, execPatchInstall s = .next t ∧ Wrote s u [(F.GLB_PATCH_LEVEL_LEVEL, 0, p.level), (F.GLB_PATCH_LEVEL_LAST_STATUS, 0, 0)]
      ∧ Answered ({ u with tlr := { s.tlr with patch := none } }.note E.GLB_PATCH_INSTALLED) t m p.req 0 0
          (respParams C.PATCH_LOAD p.req 0 (w32 (p.level % 2 ^ 16) ++ w32 (s.rd R.GLB_CHARTER_VERSION 0))) := by
  have htlr : (s.patchInstalled p.level).tlr = s.tlr := by rw [State.patchInstalled, State.setF_tlr, State.setF_tlr]
  refine ⟨_, _, execPatchInstall_answers s p m hp hx hb, s.patchInstalled_wrote p.level, ?_⟩
  rw [← State.putPatch_of_tlr htlr]
  exact State.respond_answered _ m p.req 0 0 _ hm

/-! ### The dispatcher -/

theorem execTellerWatchdog_runs (s : State) (h : s.tellerRuns = true) : execTellerWatchdog s = .next (s.note E.TLR_WATCHDOG) := by
  unfold execTellerWatchdog
  rw [if_pos h]

/-- Outside Loader the trap that has waited longest is taken and leaves nothing behind. -/
theorem execTellerTrap_oldest (s : State) (a : Nat) (l : List Nat) (h : s.tellerRuns = true) (ht : s.tlr.traps = a :: l) (hm : s.mode ≠ 1) :
    execTellerTrap s = .next { s with tlr := { s.tlr with traps := l } } := by
  have hmode : State.mode { s with tlr := { s.tlr with traps := l } } = s.mode := State.mode_tlr s _
  unfold execTellerTrap
  rw [ht]
  dsimp only
  rw [h, if_neg (by decide), hmode, if_neg hm]

/-- Settles O13: grants and leases by the grant bit as a field of its own, each lock by the larger of its two values, a patch by what its fetch finds. -/
theorem grantsLocksAndPatches : Obligations.GrantsLocksAndPatches := by
  unfold Obligations.GrantsLocksAndPatches
  refine ⟨fun s m r u => ⟨execGrant_unit s m r u, fun hr => ⟨execRevoke_unit s m r u hr, execRevoke_all s m r hr⟩, execGrantLeaseExpire_granted s u⟩,
    fun s m r hr => ?_, fun s => ⟨fun m r p hp hr ha h he => ⟨execPatchLoad_dryRun s m r p hp hr ha h he, execPatchLoad_waits s m r p hp hr ha h he⟩,
      fun p m hp hx hm hb => execPatchInstall_mailbox s p m hp hx hm hb⟩,
    fun s h => ⟨execTellerWatchdog_runs s h, fun a l ht hm => execTellerTrap_oldest s a l h ht hm⟩⟩
  obtain ⟨t, he, ha⟩ := execResetConfig_ready s m r hr
  exact ⟨s.resetConfigured r, t, he, s.resetConfigured_wrote r, ha⟩

end Sys2Proof.Machine

namespace Sys2Proof.Machine

/-! ### The clock registers, and lists of writes that others overwrite -/

theorem qual_cfg_key : R.CKG_QUAL_CFG.key 0 = 0x2000000 := by decide
theorem watch_trim_key : R.CKG_WATCH_TRIM.key 0 = 0x2000070 := by decide
theorem watch_freq_key : R.CKG_WATCH_FREQ.key 0 = 0x2000074 := by decide
theorem ref_status_key (i : Nat) : R.CKG_REF_STATUS.key i = 0x2000010 + i * 4 := (rfl)
theorem ref_measure_key (i : Nat) : R.CKG_REF_MEASURE.key i = 0x2000040 + i * 4 := (rfl)
theorem domain_cfg_key (d : Nat) : R.CKG_DOMAIN_CFG.key d = 0x2000100 + d * 8 := (rfl)
theorem domain_status_key (d : Nat) : R.CKG_DOMAIN_STATUS.key d = 0x2000104 + d * 8 := (rfl)

theorem domain_cfg_status_key (d e : Nat) : R.CKG_DOMAIN_CFG.key d ≠ R.CKG_DOMAIN_STATUS.key e := by
  rw [domain_cfg_key, domain_status_key]
  omega

/-- Writes whose fields a later list writes again leave the later list alone. -/
theorem Wrote.overwritten {s t u : State} {l k : List (Fld × Nat × Nat)} (h : Wrote s t l) (g : Wrote t u k)
    (hl : ∀ e ∈ l, ∃ d ∈ k, d.1 = e.1 ∧ d.2.1 = e.2.1) : Wrote s u k := by
  obtain ⟨⟨-, hkeeps⟩, hrest⟩ := h
  obtain ⟨⟨gholds, gkeeps⟩, grest⟩ := g
  refine ⟨⟨gholds, fun f j hf ha => ?_⟩, ?_⟩
  · rw [gkeeps f j hf ha]
    refine hkeeps f j hf fun e he => ?_
    obtain ⟨d, hd, h1, h2⟩ := hl e he
    have := ha d hd
    rwa [Apart, h1, h2] at this
  · rw [grest, hrest]

/-- The value a field takes after writes of which its own is one. -/
theorem Wrote.fld {s t : State} {l : List (Fld × Nat × Nat)} (h : Wrote s t l) (f : Fld) (i v : Nat) (hm : (f, i, v) ∈ l) :
    t.fld f i = v % 2 ^ f.wd := h.regs.holds (f, i, v) hm

/-- What writes of other registers leave. -/
theorem Wrote.fld_keeps {s t : State} {l : List (Fld × Nat × Nat)} (h : Wrote s t l) (f : Fld) (j : Nat) (hf : f.lo + f.wd ≤ 32)
    (ha : ∀ e ∈ l, e.1.reg.key e.2.1 ≠ f.reg.key j) : t.fld f j = s.fld f j :=
  h.regs.keeps f j hf fun e he => .inl (ha e he)

theorem Tab.erase_insert {α : Type} (t : Tab α) (k : Nat) (v : α) : Tab.erase (Tab.insert t k v) k = Tab.erase t k := by
  induction t with
  | nil => simp [Tab.erase, Tab.insert]
  | cons e t ih =>
    obtain ⟨j, w⟩ := e
    unfold Tab.insert
    split
    · simp [Tab.erase]
    · split
      · next h => simp [Tab.erase, h]
      · next h =>
        have : Tab.erase ((j, w) :: Tab.insert t k v) k = (j, w) :: Tab.erase (Tab.insert t k v) k := by simp [Tab.erase, h]
        rw [this, ih]
        simp [Tab.erase, h]

theorem Tab.set_set_default {α : Type} [DecidableEq α] (d : α) (t : Tab α) (k : Nat) (v : α) :
    Tab.set d (Tab.set d t k v) k d = Tab.set d t k d := by
  simp only [Tab.set, if_true]
  split
  · simp [Tab.erase]
  · exact Tab.erase_insert t k v

/-! ### CLOCK_CONFIG -/

/-- The writes of CLOCK_CONFIG. -/
def clockConfigWrites (r : Req) : List (Fld × Nat × Nat) :=
  (F.CKG_QUAL_CFG_TOL_PPM, 0, r.arg A.CLOCK_CONFIG_TOL_PPM)
    :: (F.CKG_QUAL_CFG_DISAGREE_INTERVALS, 0, r.arg A.CLOCK_CONFIG_DISAGREE_INTERVALS)
    :: ([0, 1, 2].flatMap fun d => [(F.CKG_DOMAIN_CFG_FALLBACK_EN, d, bits (r.arg A.CLOCK_CONFIG_FALLBACK_EN) d 1),
        (F.CKG_DOMAIN_CFG_AUTO_REVERT, d, bits (r.arg A.CLOCK_CONFIG_AUTO_REVERT) d 1)])

theorem State.clockConfigWrites_wrote (s : State) (r : Req) : Wrote s (s.setAll (clockConfigWrites r)) (clockConfigWrites r) := by
  refine Wrote.setAll s _ ?_ ?_
  · simp [clockConfigWrites, F.CKG_QUAL_CFG_TOL_PPM, F.CKG_QUAL_CFG_DISAGREE_INTERVALS, F.CKG_DOMAIN_CFG_FALLBACK_EN, F.CKG_DOMAIN_CFG_AUTO_REVERT]
  · simp [clockConfigWrites, Separate, qual_cfg_key, domain_cfg_key, F.CKG_QUAL_CFG_TOL_PPM, F.CKG_QUAL_CFG_DISAGREE_INTERVALS,
      F.CKG_DOMAIN_CFG_FALLBACK_EN, F.CKG_DOMAIN_CFG_AUTO_REVERT]

theorem State.autoRevert_mode (s : State) (d : Nat) : (s.autoRevert d).mode = s.mode := congrArg (·.2.2) (State.autoRevert_fixed s d)

theorem execClockConfig_ready (s : State) (m : Nat) (r : Req) (h : Ready s m C.CLOCK_CONFIG s.clockConfigChecks r) :
    ∃ u t, execClockConfig m s = .next t ∧ Wrote s u (clockConfigWrites r)
      ∧ Answered (u.each [0, 1, 2] fun d v => v.autoRevert d) t m r 0 0 (respParams C.CLOCK_CONFIG r 0
          (w32 (u.rd R.CKG_QUAL_CFG 0) ++ w32 (r.arg A.CLOCK_CONFIG_FALLBACK_EN + 256 * r.arg A.CLOCK_CONFIG_AUTO_REVERT))) := by
  have hw := s.clockConfigWrites_wrote r
  have hmode : (s.setAll (clockConfigWrites r)).mode = s.mode := hw.mode (by
    simp [clockConfigWrites, qual_cfg_key, domain_cfg_key, F.CKG_QUAL_CFG_TOL_PPM, F.CKG_QUAL_CFG_DISAGREE_INTERVALS, F.CKG_DOMAIN_CFG_FALLBACK_EN,
      F.CKG_DOMAIN_CFG_AUTO_REVERT, (by decide : R.GLB_MODE.key 0 = 0x10)])
  refine ⟨_, _, rfl, hw, h.answered (h.mode_ne_zero (by rfl) (by decide)) (by rfl) ?_⟩
  rw [State.each_keeps State.mode _ _ _ fun d v => v.autoRevert_mode d, hmode]

/-! ### The end of a switch, and CLOCK_SELECT -/

/-- A finished switch of domain `d` restarts it from source `dest` (R136). -/
def restartWrites (d dest : Nat) : List (Fld × Nat × Nat) :=
  [(F.CKG_DOMAIN_STATUS_SWITCHING, d, 0), (F.CKG_DOMAIN_STATUS_ON_FALLBACK, d, dest), (F.CKG_DOMAIN_CFG_SELECT, d, dest),
    (F.CKG_DOMAIN_STATUS_RUNNING, d, 1)]

/-- The writes of a finished switch, its count and its pause among them. -/
def State.switchWrites (s : State) (d dest : Nat) : List (Fld × Nat × Nat) :=
  restartWrites d dest ++ [(F.CKG_DOMAIN_STATUS_SWITCHES, d, satBits 8 (s.fld F.CKG_DOMAIN_STATUS_SWITCHES d + 1)),
    (F.CKG_DOMAIN_STATUS_LAST_PAUSE_NS, d, s.switchPause d)]

/-- These writes fit their registers and share no bit, from whatever state count and pause are taken. -/
theorem State.switchWrites_wrote (s t : State) (d dest : Nat) : Wrote t (t.setAll (s.switchWrites d dest)) (s.switchWrites d dest) := by
  refine Wrote.setAll t _ ?_ ?_
  · simp [switchWrites, restartWrites, F.CKG_DOMAIN_STATUS_SWITCHING, F.CKG_DOMAIN_STATUS_ON_FALLBACK, F.CKG_DOMAIN_CFG_SELECT,
      F.CKG_DOMAIN_STATUS_RUNNING, F.CKG_DOMAIN_STATUS_SWITCHES, F.CKG_DOMAIN_STATUS_LAST_PAUSE_NS]
  · simp [switchWrites, restartWrites, Separate, domain_cfg_status_key, (domain_cfg_status_key d d).symm, F.CKG_DOMAIN_STATUS_SWITCHING,
      F.CKG_DOMAIN_STATUS_ON_FALLBACK, F.CKG_DOMAIN_CFG_SELECT, F.CKG_DOMAIN_STATUS_RUNNING, F.CKG_DOMAIN_STATUS_SWITCHES,
      F.CKG_DOMAIN_STATUS_LAST_PAUSE_NS]

/-- The writes of a switch reach the registers of its domain alone. -/
theorem State.switchWrites_keys (s : State) (d dest : Nat) :
    ∀ e ∈ s.switchWrites d dest, e.1.reg.key e.2.1 = 0x2000100 + d * 8 ∨ e.1.reg.key e.2.1 = 0x2000104 + d * 8 := by
  simp [switchWrites, restartWrites, domain_cfg_key, domain_status_key, F.CKG_DOMAIN_STATUS_SWITCHING, F.CKG_DOMAIN_STATUS_ON_FALLBACK,
    F.CKG_DOMAIN_CFG_SELECT, F.CKG_DOMAIN_STATUS_RUNNING, F.CKG_DOMAIN_STATUS_SWITCHES, F.CKG_DOMAIN_STATUS_LAST_PAUSE_NS]

/-- A restarted domain has the count of switches it had. -/
theorem State.restart_switches (s : State) (d dest : Nat) :
    (s.setAll (restartWrites d dest)).fld F.CKG_DOMAIN_STATUS_SWITCHES d = s.fld F.CKG_DOMAIN_STATUS_SWITCHES d := by
  simp only [restartWrites, State.setAll_cons, State.setAll_nil]
  rw [State.fld_setF_other _ _ _ _ _ (by rfl) (by decide) (by decide), State.fld_setF_ne _ _ (by exact (domain_cfg_status_key d d).symm),
    State.fld_setF_other _ _ _ _ _ (by rfl) (by decide) (by decide), State.fld_setF_other _ _ _ _ _ (by rfl) (by decide) (by decide)]

/-- The pause depends on the operating point of the domain's die alone. -/
theorem State.switchPause_congr {s t : State} (d : Nat) (h : t.fld F.GOV_DIE_OP_IN_FORCE (8 + d) = s.fld F.GOV_DIE_OP_IN_FORCE (8 + d)) :
    t.switchPause d = s.switchPause d := by
  unfold State.switchPause
  rw [h]

theorem gov_domain_key (d : Nat) : R.GOV_DIE_OP.key (8 + d) ≠ R.CKG_DOMAIN_STATUS.key d ∧ R.GOV_DIE_OP.key (8 + d) ≠ R.CKG_DOMAIN_CFG.key d := by
  have gov : R.GOV_DIE_OP.key (8 + d) = 0x4000100 + (8 + d) * 0x40 := (rfl)
  rw [gov, domain_status_key, domain_cfg_key]
  omega

theorem State.restart_pause (s : State) (d dest : Nat) : (s.setAll (restartWrites d dest)).switchPause d = s.switchPause d := by
  obtain ⟨hstatus, hcfg⟩ := gov_domain_key d
  refine State.switchPause_congr d ?_
  simp only [restartWrites, State.setAll_cons, State.setAll_nil]
  rw [State.fld_setF_ne _ _ (by exact hstatus), State.fld_setF_ne _ _ (by exact hcfg), State.fld_setF_ne _ _ (by exact hstatus),
    State.fld_setF_ne _ _ (by exact hstatus)]

/-- The count and the pause of a switch are those of its domain as the switch began. -/
theorem State.setAll_switchWrites (s : State) (d dest : Nat) : s.setAll (s.switchWrites d dest)
    = ((s.setAll (restartWrites d dest)).inc F.CKG_DOMAIN_STATUS_SWITCHES d).setF F.CKG_DOMAIN_STATUS_LAST_PAUSE_NS d
        ((s.setAll (restartWrites d dest)).switchPause d) := by
  unfold State.switchWrites State.inc State.addSat
  rw [State.setAll_append, State.restart_switches, State.restart_pause]
  rfl

/-- What is in progress for domain `d` put in place. -/
def State.putSwitch (s : State) (d : Nat) (x : Option Switch) : State :=
  { s with ckg := { s.ckg with switch := Tab.set none s.ckg.switch d x } }

theorem State.putSwitch_fld (s : State) (d : Nat) (x : Option Switch) (f : Fld) (i : Nat) : (s.putSwitch d x).fld f i = s.fld f i := (rfl)
theorem State.putSwitch_mode (s : State) (d : Nat) (x : Option Switch) : (s.putSwitch d x).mode = s.mode := (rfl)
theorem State.putSwitch_setAll (s : State) (d : Nat) (x : Option Switch) (l : List (Fld × Nat × Nat)) :
    (s.putSwitch d x).setAll l = (s.setAll l).putSwitch d x := by
  induction l generalizing s with
  | nil => rfl
  | cons e l ih => exact ih (s.setF e.1 e.2.1 e.2.2)

theorem State.putSwitch_none (s : State) (d : Nat) (x : Option Switch) : (s.putSwitch d x).putSwitch d none = s.putSwitch d none := by
  show { s with ckg := { s.ckg with switch := Tab.set none (Tab.set none s.ckg.switch d x) d none } } = s.putSwitch d none
  rw [Tab.set_set_default]
  rfl

/-- After field writes the switches are put where they stood before them. -/
theorem Wrote.putSwitch {s u : State} {l : List (Fld × Nat × Nat)} (h : Wrote s u l) (d : Nat) (x : Option Switch) :
    u.putSwitch d x = { u with ckg := { s.ckg with switch := Tab.set none s.ckg.switch d x } } := by
  have hc : u.ckg = s.ckg := by rw [h.rest]
  unfold State.putSwitch
  rw [hc]

theorem State.startSwitch_eq (s : State) (d dest : Nat) (auto : Bool) :
    s.startSwitch d dest auto = (s.setF F.CKG_DOMAIN_STATUS_SWITCHING d 1).putSwitch d (some ⟨dest, auto⟩) := (rfl)

theorem State.finishSwitch_eq (s : State) (d : Nat) (sw : Switch) (h4 : d ≠ 4) :
    s.finishSwitch d sw = if sw.auto then (s.setAll (s.switchWrites d sw.dest)).putSwitch d none
      else ((s.setAll (s.switchWrites d sw.dest)).putSwitch d none).note E.CKG_SWITCH_DONE := by
  have hw : s.switchWrites d sw.dest = (s.putSwitch d none).switchWrites d sw.dest := (rfl)
  rw [← State.putSwitch_setAll, hw, State.setAll_switchWrites]
  unfold State.finishSwitch
  dsimp only
  rw [if_neg h4]
  rfl

/-- The state that a commanded switch of a running domain leaves, before its event. -/
def State.selected (s : State) (d v : Nat) : State := (s.setF F.CKG_DOMAIN_STATUS_SWITCHING d 1).setAll (s.switchWrites d v)

theorem State.selected_wrote (s : State) (d v : Nat) : Wrote s (s.selected d v) (s.switchWrites d v) :=
  (Wrote.setF s F.CKG_DOMAIN_STATUS_SWITCHING d 1 (by decide)).overwritten (State.switchWrites_wrote s _ d v) (by
    simp [State.switchWrites, restartWrites])

/-- The start of a switch leaves its domain's count and pause. -/
theorem State.startSwitch_writes (s : State) (d dest v : Nat) (auto : Bool) : (s.startSwitch d dest auto).switchWrites d v = s.switchWrites d v := by
  have hp : (s.startSwitch d dest auto).switchPause d = s.switchPause d :=
    State.switchPause_congr d (State.fld_setF_ne s _ (by exact (gov_domain_key d).1))
  have hc : (s.startSwitch d dest auto).fld F.CKG_DOMAIN_STATUS_SWITCHES d = s.fld F.CKG_DOMAIN_STATUS_SWITCHES d :=
    State.fld_setF_other s _ _ _ _ (by rfl) (by decide) (by decide)
  unfold State.switchWrites
  rw [hp, hc]

/-- A commanded switch of a running domain, its event among it. -/
def State.switchedTo (s : State) (d v : Nat) : State := ((s.selected d v).putSwitch d none).note E.CKG_SWITCH_DONE

theorem State.selectSource_switches (s : State) (d v : Nat) (h4 : d ≠ 4) (hr : s.flag F.CKG_DOMAIN_STATUS_RUNNING d = true) (hs : s.domainSource d ≠ v) :
    s.selectSource d v = (s.switchedTo d v, true) := by
  unfold State.selectSource
  rw [hr, if_neg (by decide), if_neg fun h => hs h.1, State.finishSwitch_eq _ d _ h4, State.startSwitch_writes, State.startSwitch_eq,
    State.putSwitch_setAll, State.putSwitch_none]
  rfl

theorem State.switchedTo_fld (s : State) (d v : Nat) (f : Fld) (i : Nat) : (s.switchedTo d v).fld f i = (s.selected d v).fld f i := by
  rw [State.switchedTo, State.note_fld, State.putSwitch_fld]

theorem State.switchedTo_source (s : State) (d v : Nat) (hv : v < 2) : (s.switchedTo d v).domainSource d = v := by
  rw [State.domainSource, State.switchedTo_fld, (s.selected_wrote d v).fld _ _ v (by simp [State.switchWrites, restartWrites])]
  exact Nat.mod_eq_of_lt hv

theorem State.switchedTo_pause (s : State) (d v : Nat) : (s.switchedTo d v).fld F.CKG_DOMAIN_STATUS_LAST_PAUSE_NS d = s.switchPause d % 2 ^ 16 := by
  rw [State.switchedTo_fld, (s.selected_wrote d v).fld _ _ (s.switchPause d) (by simp [State.switchWrites])]
  rfl

theorem State.switchedTo_autoRevert (s : State) (d v : Nat) :
    (s.switchedTo d v).flag F.CKG_DOMAIN_CFG_AUTO_REVERT d = s.flag F.CKG_DOMAIN_CFG_AUTO_REVERT d := by
  rw [State.flag, State.switchedTo_fld, (s.selected_wrote d v).regs.keeps _ _ (by decide)]
  · rfl
  · simp [Apart, State.switchWrites, restartWrites, (domain_cfg_status_key _ _).symm, F.CKG_DOMAIN_CFG_AUTO_REVERT, F.CKG_DOMAIN_STATUS_SWITCHING,
      F.CKG_DOMAIN_STATUS_ON_FALLBACK, F.CKG_DOMAIN_CFG_SELECT, F.CKG_DOMAIN_STATUS_RUNNING, F.CKG_DOMAIN_STATUS_SWITCHES,
      F.CKG_DOMAIN_STATUS_LAST_PAUSE_NS]

theorem State.switchedTo_mode (s : State) (d v : Nat) : (s.switchedTo d v).mode = s.mode := by
  rw [State.switchedTo, State.note_mode, State.putSwitch_mode]
  refine (s.selected_wrote d v).mode fun e he => ?_
  have glb : R.GLB_MODE.key 0 = 0x10 := by decide
  have := State.switchWrites_keys _ _ _ e he
  omega

/-- A domain without AUTO_REVERT stays on the source it has. -/
theorem State.autoRevert_off (s : State) (d : Nat) (h : s.flag F.CKG_DOMAIN_CFG_AUTO_REVERT d = false) : s.autoRevert d = s := by
  unfold State.autoRevert
  rw [h, Bool.and_false, Bool.false_and, Bool.false_and, Bool.false_and, if_neg (by decide)]

theorem State.clockSelectAct_switches (s : State) (r : Req) (hd : r.index < 3) (hr : s.flag F.CKG_DOMAIN_STATUS_RUNNING r.index = true)
    (hs : s.domainSource r.index ≠ r.arg A.CLOCK_SELECT_SOURCE) (ha : s.flag F.CKG_DOMAIN_CFG_AUTO_REVERT r.index = false) :
    s.clockSelectAct r = .ok (s.switchedTo r.index (r.arg A.CLOCK_SELECT_SOURCE))
      (w32 (r.arg A.CLOCK_SELECT_SOURCE + 256) ++ w32 (s.switchPause r.index % 2 ^ 16)) := by
  have hv : r.arg A.CLOCK_SELECT_SOURCE < 2 ^ 1 := bits_lt _ _ _
  unfold State.clockSelectAct
  rw [State.selectSource_switches s _ _ (by omega) hr hs]
  dsimp only
  rw [State.autoRevert_off _ _ ((State.switchedTo_autoRevert s _ _).trans ha), State.switchedTo_source _ _ _ hv, if_pos rfl, State.switchedTo_pause]
  rfl

theorem execClockSelect_switches (s : State) (m : Nat) (r : Req) (h : Ready s m C.CLOCK_SELECT s.clockSelectChecks r) (hd : r.index < 3)
    (hr : s.flag F.CKG_DOMAIN_STATUS_RUNNING r.index = true) (hs : s.domainSource r.index ≠ r.arg A.CLOCK_SELECT_SOURCE)
    (ha : s.flag F.CKG_DOMAIN_CFG_AUTO_REVERT r.index = false) :
    ∃ u t, execClockSelect m s = .next t ∧ Wrote s u (s.switchWrites r.index (r.arg A.CLOCK_SELECT_SOURCE))
      ∧ Answered ({ u with ckg := { s.ckg with switch := Tab.set none s.ckg.switch r.index none } }.note E.CKG_SWITCH_DONE) t m r 0 0
          (respParams C.CLOCK_SELECT r 0 (w32 (r.arg A.CLOCK_SELECT_SOURCE + 256) ++ w32 (s.switchPause r.index % 2 ^ 16))) := by
  have hw := s.selected_wrote r.index (r.arg A.CLOCK_SELECT_SOURCE)
  refine ⟨_, _, rfl, hw, ?_⟩
  rw [← hw.putSwitch]
  exact h.answered (h.mode_ne_zero (by rfl) (by decide)) (State.clockSelectAct_switches s r hd hr hs ha) (State.switchedTo_mode s _ _)

/-! ### WATCH_TRIM -/

/-- Writes of the trim register leave the mode. -/
theorem Wrote.mode_of_trim {s t : State} {l : List (Fld × Nat × Nat)} (h : Wrote s t l) (hl : ∀ e ∈ l, e.1.reg.key e.2.1 = R.CKG_WATCH_TRIM.key 0) :
    t.mode = s.mode :=
  h.mode fun e he => by rw [hl e he]; decide

/-- Writes of the trim register leave the measured frequency. -/
theorem Wrote.freq_of_trim {s t : State} {l : List (Fld × Nat × Nat)} (h : Wrote s t l) (hl : ∀ e ∈ l, e.1.reg.key e.2.1 = R.CKG_WATCH_TRIM.key 0) :
    t.fld F.CKG_WATCH_FREQ_HZ 0 = s.fld F.CKG_WATCH_FREQ_HZ 0 :=
  h.fld_keeps _ _ (by decide) fun e he => by rw [hl e he]; decide

/-- The mode and the pin that WATCH_TRIM writes. -/
def watchTrimWrites (r : Req) : List (Fld × Nat × Nat) :=
  [(F.CKG_WATCH_TRIM_MODE, 0, r.arg A.WATCH_TRIM_MODE), (F.CKG_WATCH_TRIM_PPS_PIN, 0, r.arg A.WATCH_TRIM_PPS_PIN)]

/-- The writes of a trim code that is not at its limit. -/
def trimWrites (c : Nat) : List (Fld × Nat × Nat) := [(F.CKG_WATCH_TRIM_CODE, 0, c), (F.CKG_WATCH_TRIM_AT_LIMIT, 0, 0)]

theorem State.setTrim_within (s : State) (c : Nat) (h0 : c ≠ 0) (h1 : c ≠ 1023) : s.setTrim c = s.setAll (trimWrites c) := by
  unfold State.setTrim
  have hl : (c == 0 || c == 1023) = false := by simp [h0, h1]
  rw [hl, if_neg (by decide)]
  rfl

theorem watchTrim_separate (r : Req) (c : Nat) : (watchTrimWrites r ++ trimWrites c).Pairwise Separate := by
  simp [watchTrimWrites, trimWrites, Separate, F.CKG_WATCH_TRIM_MODE, F.CKG_WATCH_TRIM_PPS_PIN, F.CKG_WATCH_TRIM_CODE, F.CKG_WATCH_TRIM_AT_LIMIT]

theorem watchTrim_width (r : Req) (c : Nat) : ∀ e ∈ watchTrimWrites r ++ trimWrites c, e.1.lo + e.1.wd ≤ 32 := by
  simp [watchTrimWrites, trimWrites, F.CKG_WATCH_TRIM_MODE, F.CKG_WATCH_TRIM_PPS_PIN, F.CKG_WATCH_TRIM_CODE, F.CKG_WATCH_TRIM_AT_LIMIT]

theorem watchTrim_keys (r : Req) (c : Nat) : ∀ e ∈ watchTrimWrites r ++ trimWrites c, e.1.reg.key e.2.1 = R.CKG_WATCH_TRIM.key 0 := by
  simp [watchTrimWrites, trimWrites, F.CKG_WATCH_TRIM_MODE, F.CKG_WATCH_TRIM_PPS_PIN, F.CKG_WATCH_TRIM_CODE, F.CKG_WATCH_TRIM_AT_LIMIT]

theorem State.rd_watchFreq (s : State) : s.rd R.CKG_WATCH_FREQ 0 = s.fld F.CKG_WATCH_FREQ_HZ 0 := by
  have hlt := s.rd_lt R.CKG_WATCH_FREQ 0 (by decide)
  exact (Nat.mod_eq_of_lt hlt).symm

theorem Ready.configures {s u : State} {m : Nat} {c : Cmd} {checks : Req → Checks} {act : Req → Ans} {r : Req} {own : List Byte}
    {l : List (Fld × Nat × Nat)} (h : Ready s m c checks r) (h0 : s.mode ≠ 0) (ha : act r = .ok u own) (hu : Wrote s u l) (hm : u.mode = s.mode) :
    Configures (.next (s.runCmd m c checks act)) s m r c own l :=
  ⟨u, _, rfl, hu, h.answered h0 ha hm⟩

theorem execWatchTrim_modes (s : State) (m : Nat) (r : Req) (h : Ready s m C.WATCH_TRIM s.watchTrimChecks r) (hm : r.arg A.WATCH_TRIM_MODE ≠ 2) :
    Configures (execWatchTrim m s) s m r C.WATCH_TRIM (w32 (s.fld F.CKG_WATCH_TRIM_CODE 0) ++ w32 (s.rd R.CKG_WATCH_FREQ 0)) (watchTrimWrites r) := by
  have hkeys : ∀ e ∈ watchTrimWrites r, e.1.reg.key e.2.1 = R.CKG_WATCH_TRIM.key 0 := fun e he => watchTrim_keys r 0 e (List.mem_append_left _ he)
  have hw : Wrote s (s.setAll (watchTrimWrites r)) (watchTrimWrites r) :=
    Wrote.setAll s _ (fun e he => watchTrim_width r 0 e (List.mem_append_left _ he)) (List.pairwise_append.1 (watchTrim_separate r 0)).1
  have hcode : (s.setAll (watchTrimWrites r)).fld F.CKG_WATCH_TRIM_CODE 0 = s.fld F.CKG_WATCH_TRIM_CODE 0 := by
    refine hw.regs.keeps _ _ (by decide) ?_
    simp [watchTrimWrites, Apart, F.CKG_WATCH_TRIM_MODE, F.CKG_WATCH_TRIM_PPS_PIN, F.CKG_WATCH_TRIM_CODE]
  refine h.configures (h.mode_ne_zero (by rfl) (by decide)) ?_ hw (hw.mode_of_trim hkeys)
  unfold State.watchTrimAct
  dsimp only
  rw [if_neg fun hx => hm hx.1, State.rd_watchFreq s, ← hcode, ← hw.freq_of_trim hkeys, ← State.rd_watchFreq]
  rfl

theorem execWatchTrim_loads (s : State) (m : Nat) (r : Req) (h : Ready s m C.WATCH_TRIM s.watchTrimChecks r) (hm : r.arg A.WATCH_TRIM_MODE = 2)
    (hc : r.arg A.WATCH_TRIM_CODE ≠ s.fld F.CKG_WATCH_TRIM_CODE 0) (h0 : r.arg A.WATCH_TRIM_CODE ≠ 0) (h1 : r.arg A.WATCH_TRIM_CODE ≠ 1023) :
    Configures (execWatchTrim m s) s m r C.WATCH_TRIM (w32 (r.arg A.WATCH_TRIM_CODE) ++ w32 (s.rd R.CKG_WATCH_FREQ 0))
      (watchTrimWrites r ++ trimWrites (r.arg A.WATCH_TRIM_CODE)) := by
  have hkeys := watchTrim_keys r (r.arg A.WATCH_TRIM_CODE)
  have hw := Wrote.setAll s _ (watchTrim_width r (r.arg A.WATCH_TRIM_CODE)) (watchTrim_separate r _)
  have hcode : (s.setAll (watchTrimWrites r ++ trimWrites (r.arg A.WATCH_TRIM_CODE))).fld F.CKG_WATCH_TRIM_CODE 0 = r.arg A.WATCH_TRIM_CODE := by
    have hlt : r.arg A.WATCH_TRIM_CODE < 2 ^ 10 := bits_lt _ _ _
    rw [hw.fld _ _ (r.arg A.WATCH_TRIM_CODE) (by simp [trimWrites])]
    exact Nat.mod_eq_of_lt hlt
  refine h.configures (h.mode_ne_zero (by rfl) (by decide)) ?_ hw (hw.mode_of_trim hkeys)
  have hfreq := (State.rd_watchFreq _).trans ((hw.freq_of_trim hkeys).trans (State.rd_watchFreq s).symm)
  rw [State.setAll_append] at hcode hfreq ⊢
  unfold State.watchTrimAct
  dsimp only
  rw [if_pos ⟨hm, hc⟩, State.setTrim_within _ _ h0 h1]
  exact congrArg (Ans.ok _) (congrArg₂ (fun a b => w32 a ++ w32 b) hcode hfreq)

/-! ### Monitors -/

/-- The comparison source in use is the first qualified one, where any of the listed is. -/
theorem State.compareOf_find (s : State) (i : Nat) :
    ((compareList i).find? fun k => s.qualified k) = some (s.compareOf i) ∨ ((compareList i).find? fun k => s.qualified k) = none := by
  unfold State.compareOf
  cases (compareList i).find? fun k => s.qualified k with
  | none => exact .inr rfl
  | some k => exact .inl rfl

/-- What the end of an interval writes of its measurement. -/
def State.measureWrites (s : State) (i j count : Nat) : List (Fld × Nat × Nat) :=
  [(F.CKG_REF_STATUS_PRESENT, i, b2n (decide (s.nominal i ≤ s.nominal j) || decide (0 < count))), (F.CKG_REF_MEASURE_COMPARE, i, j),
    (F.CKG_REF_MEASURE_ERROR_PPM, i, ofSigned 16 (max (-32768) (min 32767 (s.intervalPpm i j count))))]

/-- What follows a passed interval. -/
def State.intervalPassed (s : State) (i j : Nat) : State :=
  let run := min 1024 (s.fld F.CKG_REF_STATUS_GOOD_RUN i + 1)
  let s := s.setF F.CKG_REF_STATUS_GOOD_RUN i run
  let s := { s with ckg := { s.ckg with fails := Tab.set 0 s.ckg.fails i 0 } }
  if run < 1024 ∨ s.qualified i then s
  else if s.qualified j then s.qualify i
  else if ((List.range 12).all fun k => !s.qualified k) && s.fld F.CKG_REF_STATUS_GOOD_RUN j == 1024
      && s.fld F.CKG_REF_MEASURE_COMPARE j == i then (s.qualify j).qualify i
  else s

/-- What follows a failed interval. -/
def State.intervalMissed (s : State) (i j : Nat) : State :=
  let s := s.setF F.CKG_REF_STATUS_GOOD_RUN i 0
  if s.qualified i && s.qualified j then s.intervalFailed i j else s

theorem ref_status_measure_key (i j : Nat) (hi : i < 12) : R.CKG_REF_STATUS.key i ≠ R.CKG_REF_MEASURE.key j := by
  rw [ref_status_key, ref_measure_key]
  omega

/-- The measurement and GOOD_RUN as one list of writes. -/
theorem State.measure_wrote (s : State) (i j count v : Nat) (hi : i < 12) :
    Wrote s ((s.setAll (s.measureWrites i j count)).setF F.CKG_REF_STATUS_GOOD_RUN i v)
      (s.measureWrites i j count ++ [(F.CKG_REF_STATUS_GOOD_RUN, i, v)]) := by
  have h := Wrote.setAll s (s.measureWrites i j count ++ [(F.CKG_REF_STATUS_GOOD_RUN, i, v)])
  rw [State.setAll_append] at h
  refine h ?_ ?_
  · simp [State.measureWrites, F.CKG_REF_STATUS_PRESENT, F.CKG_REF_MEASURE_COMPARE, F.CKG_REF_MEASURE_ERROR_PPM, F.CKG_REF_STATUS_GOOD_RUN]
  · simp [State.measureWrites, Separate, ref_status_measure_key i i hi, (ref_status_measure_key i i hi).symm, F.CKG_REF_STATUS_PRESENT,
      F.CKG_REF_MEASURE_COMPARE, F.CKG_REF_MEASURE_ERROR_PPM, F.CKG_REF_STATUS_GOOD_RUN]

/-- Fields apart from PRESENT, in other registers than the measurement, read as before. -/
theorem State.measure_fld (s : State) (i j count : Nat) (f : Fld) (k : Nat) (hf : f.lo + f.wd ≤ 32)
    (h : f.reg.key k ≠ R.CKG_REF_MEASURE.key i) (hp : Apart (F.CKG_REF_STATUS_PRESENT, i, 0) f k) :
    (s.setAll (s.measureWrites i j count)).fld f k = s.fld f k := by
  simp only [State.measureWrites, State.setAll_cons, State.setAll_nil]
  rw [State.fld_setF_ne _ _ (by exact h), State.fld_setF_ne _ _ (by exact h)]
  exact State.setF_keeps s (F.CKG_REF_STATUS_PRESENT, i, _) f k hf hp

/-- Of the registers, the expected count of an interval depends on TIME_REF's frequency alone. -/
theorem State.intervalPpm_congr {s t : State} (i j count : Nat) (h : t.fld F.TIM_CTL_TIME_REF_MHZ 0 = s.fld F.TIM_CTL_TIME_REF_MHZ 0) :
    t.intervalPpm i j count = s.intervalPpm i j count := by
  unfold State.intervalPpm State.nominal State.flag
  rw [h]

/-- The deviation is the same once the first part of the measurement is written. -/
theorem State.measured_ppm (s : State) (i j count v : Nat) (hi : i < 12) :
    ((s.setF F.CKG_REF_STATUS_PRESENT i v).setF F.CKG_REF_MEASURE_COMPARE i j).intervalPpm i j count = s.intervalPpm i j count := by
  have tim : F.TIM_CTL_TIME_REF_MHZ.reg.key 0 = 0x5000000 := by decide
  have status : F.CKG_REF_STATUS_PRESENT.reg.key i = 0x2000010 + i * 4 := (rfl)
  have measure : F.CKG_REF_MEASURE_COMPARE.reg.key i = 0x2000040 + i * 4 := (rfl)
  refine State.intervalPpm_congr i j count ?_
  rw [State.fld_setF_ne _ _ (by omega), State.fld_setF_ne _ _ (by omega)]

theorem State.measured_trimMode (s : State) (i j count : Nat) (hi : i < 12) :
    (s.setAll (s.measureWrites i j count)).fld F.CKG_WATCH_TRIM_MODE 0 = s.fld F.CKG_WATCH_TRIM_MODE 0 := by
  have trim : F.CKG_WATCH_TRIM_MODE.reg.key 0 = 0x2000070 := by decide
  refine s.measure_fld i j count _ _ (by decide) ?_ (.inl ?_)
  · rw [trim, ref_measure_key]
    omega
  · show R.CKG_REF_STATUS.key i ≠ _
    rw [trim, ref_status_key]
    omega

theorem execQualIntervalEnd_in_use (s : State) (i j count : Nat) (hi : i < 12) (hj : j ∈ compareList i) (h : s.compareOf i = j)
    (ht : i ≠ 11 ∨ s.fld F.CKG_WATCH_TRIM_MODE 0 ≠ 0) :
    execQualIntervalEnd i j count s = .next (if s.intervalPasses i j count then (s.setAll (s.measureWrites i j count)).intervalPassed i j
      else (s.setAll (s.measureWrites i j count)).intervalMissed i j) := by
  have hin : (decide (i < 12) && (compareList i).contains j) = true := by simp [hi, hj]
  have hmode : ¬ (i = 11 ∧ (s.setAll (s.measureWrites i j count)).fld F.CKG_WATCH_TRIM_MODE 0 = 0) := by
    rw [s.measured_trimMode i j count hi]
    exact fun hx => ht.elim (fun h => h hx.1) fun h => h hx.2
  unfold execQualIntervalEnd
  refine congrArg Host.Outcome.next ((if_neg ?_).trans ?_)
  · rw [hin]
    obtain hf | hf := s.compareOf_find i <;> simp [hf, h]
  · simp only [State.measureWrites, State.setAll_cons, State.setAll_nil] at hmode
    dsimp only
    rw [s.measured_ppm i j count _ hi, if_neg hmode]
    rfl

theorem State.measure_goodRun (s : State) (i j count : Nat) (hi : i < 12) :
    (s.setAll (s.measureWrites i j count)).fld F.CKG_REF_STATUS_GOOD_RUN i = s.fld F.CKG_REF_STATUS_GOOD_RUN i :=
  s.measure_fld i j count _ _ (by decide) (by exact ref_status_measure_key i i hi) (.inr ⟨rfl, rfl, by dsimp only; decide⟩)

/-- A passed interval short of the last counts, and no failed one counts against the input any more. -/
theorem execQualIntervalEnd_passes (s : State) (i j count : Nat) (hi : i < 12) (hj : j ∈ compareList i) (h : s.compareOf i = j)
    (ht : i ≠ 11 ∨ s.fld F.CKG_WATCH_TRIM_MODE 0 ≠ 0) (hp : s.intervalPasses i j count = true) (hr : s.fld F.CKG_REF_STATUS_GOOD_RUN i + 1 < 1024) :
    ∃ u, Wrote s u (s.measureWrites i j count ++ [(F.CKG_REF_STATUS_GOOD_RUN, i, s.fld F.CKG_REF_STATUS_GOOD_RUN i + 1)])
      ∧ execQualIntervalEnd i j count s = .next { u with ckg := { s.ckg with fails := Tab.set 0 s.ckg.fails i 0 } } := by
  refine ⟨_, s.measure_wrote i j count _ hi, ?_⟩
  rw [execQualIntervalEnd_in_use s i j count hi hj h ht, hp, if_pos rfl]
  unfold State.intervalPassed
  dsimp only
  rw [s.measure_goodRun i j count hi, Nat.min_eq_right (Nat.le_of_lt hr), if_pos (.inl hr)]
  rfl

/-- A failed interval of an input that is not qualified clears its run. -/
theorem execQualIntervalEnd_fails (s : State) (i j count : Nat) (hi : i < 12) (hj : j ∈ compareList i) (h : s.compareOf i = j)
    (ht : i ≠ 11 ∨ s.fld F.CKG_WATCH_TRIM_MODE 0 ≠ 0) (hp : s.intervalPasses i j count = false) (hq : s.qualified i = false) :
    ∃ t, execQualIntervalEnd i j count s = .next t ∧ Wrote s t (s.measureWrites i j count ++ [(F.CKG_REF_STATUS_GOOD_RUN, i, 0)]) := by
  have hw := s.measure_wrote i j count 0 hi
  have hqual : ((s.setAll (s.measureWrites i j count)).setF F.CKG_REF_STATUS_GOOD_RUN i 0).qualified i = false := by
    rw [← hq, State.qualified, State.flag, hw.regs.keeps _ _ (by decide)]
    · rfl
    · simp [State.measureWrites, Apart, (ref_status_measure_key i i hi).symm, F.CKG_REF_STATUS_PRESENT, F.CKG_REF_MEASURE_COMPARE,
        F.CKG_REF_MEASURE_ERROR_PPM, F.CKG_REF_STATUS_GOOD_RUN, F.CKG_REF_STATUS_QUALIFIED]
  refine ⟨_, ?_, hw⟩
  rw [execQualIntervalEnd_in_use s i j count hi hj h ht, hp, if_neg (by decide)]
  unfold State.intervalMissed
  dsimp only
  rw [hqual, Bool.false_and, if_neg (by decide)]

/-- The loss of a qualified input. -/
theorem execRefLoss_qualified (s : State) (i : Nat) (hi : i < 12) (hq : s.qualified i = true) :
    ∃ u, Wrote s u [(F.CKG_REF_STATUS_PRESENT, i, 0), (F.CKG_REF_STATUS_LOST, i, 1),
        (F.CKG_REF_STATUS_LOST_COUNT, i, satBits 8 (s.fld F.CKG_REF_STATUS_LOST_COUNT i + 1))]
      ∧ execRefLoss i s = .next ((u.note E.CKG_REF_LOST).disqualify i) := by
  refine ⟨_, Wrote.setAll s _ ?_ ?_, ?_⟩
  · simp [F.CKG_REF_STATUS_PRESENT, F.CKG_REF_STATUS_LOST, F.CKG_REF_STATUS_LOST_COUNT]
  · simp [Separate, F.CKG_REF_STATUS_PRESENT, F.CKG_REF_STATUS_LOST, F.CKG_REF_STATUS_LOST_COUNT]
  · unfold execRefLoss State.refLost
    rw [if_pos ⟨hi, hq⟩]
    dsimp only
    rw [State.setCounted_eq _ _ _ _ (by rfl) (by decide) (by decide), State.fld_setF_other _ _ _ _ _ (by rfl) (by decide) (by decide)]
    rfl

/-- Settles O15: the commands by the fields they write, an interval by the measurement it writes before it is judged. -/
theorem clocksAreConfiguredAndWatched : Obligations.ClocksAreConfiguredAndWatched := by
  unfold Obligations.ClocksAreConfiguredAndWatched
  refine ⟨fun s m r => ⟨execClockConfig_ready s m r, execClockSelect_switches s m r,
      fun h => ⟨execWatchTrim_modes s m r h, fun hm hc h0 h1 => ?_⟩⟩,
    fun s i j count hi => ⟨fun hj h ht => ⟨execQualIntervalEnd_passes s i j count hi hj h ht, execQualIntervalEnd_fails s i j count hi hj h ht⟩,
      execRefLoss_qualified s i hi⟩⟩
  have hl := execWatchTrim_loads s m r h hm hc h0 h1
  rw [watchTrimWrites, hm] at hl
  exact hl

end Sys2Proof.Machine

namespace Sys2Proof.Machine

/-! ### PLLs and the end of a switch -/

/-- PLL_LOCK of an unlocked PLL on a qualified input. -/
theorem execPllLock_gains (s : State) (k : Nat) (hk : k < 23) (hq : s.qualified (s.pllInput k) = true) (hl : s.flag F.CKG_PLL_STATUS_LOCKED k = false) :
    ∃ u, Wrote s u [(F.CKG_PLL_STATUS_LOCKED, k, 1), (F.CKG_PLL_STATUS_INPUT, k, s.pllInput k)]
      ∧ execPllLock k s = .next u.sourceGained.evalLock := by
  refine ⟨_, Wrote.setAll s _ ?_ ?_, ?_⟩
  · simp [F.CKG_PLL_STATUS_LOCKED, F.CKG_PLL_STATUS_INPUT]
  · simp [Separate, F.CKG_PLL_STATUS_LOCKED, F.CKG_PLL_STATUS_INPUT]
  · unfold execPllLock
    rw [if_pos ⟨hk, hq, by rw [hl]; decide⟩]
    rfl

/-- Loss of lock is recorded and counted before the domains react. -/
theorem State.pllUnlocked_wrote (s : State) (k : Nat) :
    Wrote s ((s.setF F.CKG_PLL_STATUS_LOCKED k 0).setCounted F.CKG_PLL_STATUS_UNLOCK F.CKG_PLL_STATUS_UNLOCK_COUNT k)
      [(F.CKG_PLL_STATUS_LOCKED, k, 0), (F.CKG_PLL_STATUS_UNLOCK, k, 1),
        (F.CKG_PLL_STATUS_UNLOCK_COUNT, k, satBits 8 (s.fld F.CKG_PLL_STATUS_UNLOCK_COUNT k + 1))] := by
  rw [State.setCounted_eq _ _ _ _ (by rfl) (by decide) (by decide), State.fld_setF_other _ _ _ _ _ (by rfl) (by decide) (by decide)]
  refine Wrote.setAll s [(F.CKG_PLL_STATUS_LOCKED, k, 0), (F.CKG_PLL_STATUS_UNLOCK, k, 1), (F.CKG_PLL_STATUS_UNLOCK_COUNT, k, _)] ?_ ?_
  · simp [F.CKG_PLL_STATUS_LOCKED, F.CKG_PLL_STATUS_UNLOCK, F.CKG_PLL_STATUS_UNLOCK_COUNT]
  · simp [Separate, F.CKG_PLL_STATUS_LOCKED, F.CKG_PLL_STATUS_UNLOCK, F.CKG_PLL_STATUS_UNLOCK_COUNT]

/-- A MAC/PCS domain whose PLL is lost stops and is held, and its quire's ports go down (R142). -/
def State.quireUnlocked (w : State) (k : Nat) : State :=
  if 7 ≤ k ∧ w.flag F.CKG_DOMAIN_STATUS_RUNNING (k - 1) then
    ((w.setF F.CKG_DOMAIN_STATUS_RUNNING (k - 1) 0).setF F.CKG_DOMAIN_STATUS_HELD (k - 1) 1).each ((List.range 64).map fun l => 64 * (k - 7) + l)
      fun n v => if v.portConfigured n then v.portDown n else v
  else w

theorem execPllUnlock_locked (s : State) (k : Nat) (hk : k < 23) (hl : s.flag F.CKG_PLL_STATUS_LOCKED k = true) :
    ∃ u w, Wrote s u [(F.CKG_PLL_STATUS_LOCKED, k, 0), (F.CKG_PLL_STATUS_UNLOCK, k, 1),
        (F.CKG_PLL_STATUS_UNLOCK_COUNT, k, satBits 8 (s.fld F.CKG_PLL_STATUS_UNLOCK_COUNT k + 1))]
      ∧ w = (u.note E.CKG_PLL_UNLOCK).sourcesFailed.evalLock ∧ execPllUnlock k s = .next (w.quireUnlocked k) := by
  refine ⟨_, _, s.pllUnlocked_wrote k, rfl, ?_⟩
  unfold execPllUnlock
  rw [if_pos ⟨hk, hl⟩]
  rfl

/-- The switch in progress of a domain other than the time domain ends. -/
theorem execDomainSwitchDone_ends (s : State) (d : Nat) (sw : Switch) (h4 : d ≠ 4) (hs : Tab.get none s.ckg.switch d = some sw) :
    ∃ u v, Wrote s u (s.switchWrites d sw.dest) ∧ v = { u with ckg := { s.ckg with switch := Tab.set none s.ckg.switch d none } }
      ∧ execDomainSwitchDone d s = .next (if sw.auto then v else v.note E.CKG_SWITCH_DONE) := by
  have hw := State.switchWrites_wrote s s d sw.dest
  refine ⟨_, _, hw, rfl, ?_⟩
  unfold execDomainSwitchDone
  rw [hs]
  dsimp only
  rw [s.finishSwitch_eq d sw h4, hw.putSwitch]

/-! ### The watch trim follows its measurements -/

theorem State.wr_congr (s : State) (q : Reg) (i : Nat) {v w : Nat} (h : v % 2 ^ 32 = w % 2 ^ 32) : s.wr q i v = s.wr q i w := by
  have hw : BitVec.ofNat 32 v = BitVec.ofNat 32 w := BitVec.eq_of_toNat_eq (by rw [BitVec.toNat_ofNat, BitVec.toNat_ofNat, h])
  unfold State.wr regPut
  rw [h, hw]

/-- A register that is one field is written as that field. -/
theorem State.wr_eq_setF (s : State) (q : Reg) (i v : Nat) : s.wr q i v = s.setF ⟨q, 0, 32⟩ i v := by
  refine s.wr_congr q i ?_
  apply Nat.eq_of_testBit_eq
  intro n
  rw [Nat.testBit_mod_two_pow, Nat.testBit_mod_two_pow, putBits_testBit]
  by_cases hn : n < 32 <;> simp [hn]

/-- With REFCLK_CORE present and the search complete, the code moves against an error beyond 50 ppm, once the frequency is stored. -/
theorem execWatchTrimAdjust_searched (s : State) (ppm : Int) (hz : Nat) (hm : s.fld F.CKG_WATCH_TRIM_MODE 0 = 0)
    (ht : s.flag F.CKG_WATCH_TRIM_TRIMMED 0 = true) (hp : s.flag F.CKG_REF_STATUS_PRESENT 0 = true) :
    execWatchTrimAdjust ppm hz s = .next (if -50 ≤ ppm ∧ ppm ≤ 50 then s.setF F.CKG_WATCH_FREQ_HZ 0 hz
      else (s.setF F.CKG_WATCH_FREQ_HZ 0 hz).setTrim (if decide (0 < ppm) = Config.trimRaises then s.fld F.CKG_WATCH_TRIM_CODE 0 - 1
        else min 1023 (s.fld F.CKG_WATCH_TRIM_CODE 0 + 1))) := by
  have hfld (f : Fld) (hf : f.reg = R.CKG_WATCH_TRIM) : (s.setF F.CKG_WATCH_FREQ_HZ 0 hz).fld f 0 = s.fld f 0 :=
    State.fld_setF_ne s _ (by rw [hf]; decide)
  have htrimmed : (s.setF F.CKG_WATCH_FREQ_HZ 0 hz).flag F.CKG_WATCH_TRIM_TRIMMED 0 = true := by rw [State.flag, hfld _ rfl]; exact ht
  have hwr : s.wr R.CKG_WATCH_FREQ 0 hz = s.setF F.CKG_WATCH_FREQ_HZ 0 hz := s.wr_eq_setF R.CKG_WATCH_FREQ 0 hz
  unfold execWatchTrimAdjust
  dsimp only
  rw [hm, hp, Bool.true_or, if_pos rfl, hwr, htrimmed, hfld _ rfl]
  simp

theorem execWatchTrimAdjust_near (s : State) (ppm : Int) (hz : Nat) (hm : s.fld F.CKG_WATCH_TRIM_MODE 0 = 0)
    (ht : s.flag F.CKG_WATCH_TRIM_TRIMMED 0 = true) (hp : s.flag F.CKG_REF_STATUS_PRESENT 0 = true) (h0 : -50 ≤ ppm) (h1 : ppm ≤ 50) :
    ∃ t, execWatchTrimAdjust ppm hz s = .next t ∧ Wrote s t [(F.CKG_WATCH_FREQ_HZ, 0, hz)] := by
  refine ⟨_, ?_, Wrote.setF s _ 0 hz (by decide)⟩
  rw [execWatchTrimAdjust_searched s ppm hz hm ht hp, if_pos ⟨h0, h1⟩]

theorem execWatchTrimAdjust_beyond (s : State) (ppm : Int) (hz c : Nat) (hm : s.fld F.CKG_WATCH_TRIM_MODE 0 = 0)
    (ht : s.flag F.CKG_WATCH_TRIM_TRIMMED 0 = true) (hp : s.flag F.CKG_REF_STATUS_PRESENT 0 = true) (h : ppm < -50 ∨ 50 < ppm)
    (hc : c = (if decide (0 < ppm) = Config.trimRaises then s.fld F.CKG_WATCH_TRIM_CODE 0 - 1 else s.fld F.CKG_WATCH_TRIM_CODE 0 + 1))
    (h0 : 0 < c) (h1 : c < 1023) :
    ∃ t, execWatchTrimAdjust ppm hz s = .next t ∧ Wrote s t ((F.CKG_WATCH_FREQ_HZ, 0, hz) :: trimWrites c) := by
  have hcode : (if decide (0 < ppm) = Config.trimRaises then s.fld F.CKG_WATCH_TRIM_CODE 0 - 1
      else min 1023 (s.fld F.CKG_WATCH_TRIM_CODE 0 + 1)) = c := by
    split at hc
    · next hr => rw [if_pos hr, hc]
    · next hr =>
      rw [if_neg hr, hc]
      exact Nat.min_eq_right (by omega)
  refine ⟨_, ?_, Wrote.setAll s _ ?_ ?_⟩
  · rw [execWatchTrimAdjust_searched s ppm hz hm ht hp, if_neg (by omega), hcode, State.setTrim_within _ _ (by omega) (by omega),
      State.setAll_cons]
  · simp [trimWrites, F.CKG_WATCH_FREQ_HZ, F.CKG_WATCH_TRIM_CODE, F.CKG_WATCH_TRIM_AT_LIMIT]
  · simp [trimWrites, Separate, watch_freq_key, watch_trim_key, F.CKG_WATCH_FREQ_HZ, F.CKG_WATCH_TRIM_CODE, F.CKG_WATCH_TRIM_AT_LIMIT]

/-! ### Crossings -/

/-- A toggle crossing put in place. -/
def State.putToggle (s : State) (d k : Nat) (x : Toggle) : State :=
  { s with ckg := { s.ckg with toggles := Tab.set {} s.ckg.toggles (crossKey d k) x } }

/-- A toggle crossing. -/
def State.toggle (s : State) (d k : Nat) : Toggle := Tab.get {} s.ckg.toggles (crossKey d k)

theorem State.putToggle_toggle (s : State) (d k : Nat) (x : Toggle) : (s.putToggle d k x).toggle d k = x :=
  Tab.get_set_same _ _ _ _

/-- A pulse that comes before the acknowledge of the last waits. -/
theorem State.togglePulse_waits (s : State) (d k : Nat) (hu : (s.toggle d k).unacked = true) (hp : (s.toggle d k).pend < 14) :
    s.togglePulse d k = s.putToggle d k ⟨(s.toggle d k).pend + 1, true⟩ := by
  unfold State.toggle at *
  unfold State.togglePulse
  dsimp only
  rw [hu, if_neg (by decide), if_neg (by omega), if_neg (by omega)]
  rfl

/-- The acknowledge launches the next pending pulse, one that comes in its cycle among them. -/
theorem execToggleAck_launches (s : State) (d k : Nat) (same : Bool) (hd : d < 10) (hu : (s.toggle d k).unacked = true) :
    execToggleAck d k 0 same s = .next (s.putToggle d k ⟨(s.toggle d k).pend + b2n same - 1, decide (0 < (s.toggle d k).pend + b2n same)⟩) := by
  unfold State.toggle at *
  unfold execToggleAck
  rw [if_neg (by omega)]
  dsimp only [List.range_zero, State.each_nil]
  rw [hu, if_neg (by decide)]
  rfl

/-- With no pulse before it, the crossing after an acknowledge is the only thing that changes. -/
theorem execToggleAck_none (s : State) (d k : Nat) (same : Bool) (hd : d < 10) (hu : (s.toggle d k).unacked = true) (x : Toggle)
    (hp : x.pend = (s.toggle d k).pend + b2n same - 1) (hx : x.unacked = decide (0 < (s.toggle d k).pend + b2n same)) :
    execToggleAck d k 0 same s = .next (s.putToggle d k x) := by
  rw [execToggleAck_launches s d k same hd hu, ← hp, ← hx]

/-- A pulse before the acknowledge is one more pulse that waits. -/
theorem execToggleAck_pulse (s : State) (d k : Nat) (same : Bool) (hd : d < 10) :
    execToggleAck d k 1 same s = execToggleAck d k 0 same (s.togglePulse d k) := by
  have hn : ¬ 10 ≤ d := by omega
  unfold execToggleAck
  rw [if_neg hn, if_neg hn]
  rfl

theorem execToggleAck_one (s : State) (d k : Nat) (same : Bool) (hd : d < 10) (hu : (s.toggle d k).unacked = true) (hp : (s.toggle d k).pend < 14) :
    ∃ t, execToggleAck d k 1 same s = .next t ∧ t.toggle d k = ⟨(s.toggle d k).pend + b2n same, true⟩
      ∧ t = { s with ckg := { s.ckg with toggles := t.ckg.toggles } } := by
  refine ⟨_, ?_, State.putToggle_toggle (s.togglePulse d k) d k _, ?_⟩
  · rw [execToggleAck_pulse s d k same hd]
    refine execToggleAck_none _ d k same hd ?_ _ ?_ ?_ <;> rw [s.togglePulse_waits d k hu hp, State.putToggle_toggle]
    · dsimp only
      omega
    · exact (decide_eq_true (by dsimp only; omega)).symm
  · rw [s.togglePulse_waits d k hu hp]
    rfl

/-- A bundle crossing put in place. -/
def State.putBundle (s : State) (d k : Nat) (x : Bundle) : State :=
  { s with ckg := { s.ckg with bundles := Tab.set {} s.ckg.bundles (crossKey d k) x } }

/-- A bundle crossing. -/
def State.bundle (s : State) (d k : Nat) : Bundle := Tab.get {} s.ckg.bundles (crossKey d k)

theorem State.putBundle_bundle (s : State) (d k : Nat) (x : Bundle) : (s.putBundle d k x).bundle d k = x :=
  Tab.get_set_same _ _ _ _

/-- The acknowledge takes the held value and launches the waiting one. -/
theorem execBundleAck_takes (s : State) (d k v : Nat) (hd : d < 10) (hv : (s.bundle d k).held = some v) :
    execBundleAck d k [] s = .next (s.putBundle d k ⟨(s.bundle d k).waiting, none, v⟩) := by
  unfold State.bundle at *
  unfold execBundleAck
  rw [if_neg (by omega)]
  dsimp only [State.each_nil]
  rw [hv]
  rfl

/-- A value written while one is held and none waits is the one that waits. -/
theorem State.bundleWrite_waits (s : State) (d k v w : Nat) (hv : (s.bundle d k).held = some v) (hw : (s.bundle d k).waiting = none) :
    s.bundleWrite d k w = s.putBundle d k { s.bundle d k with waiting := some w } := by
  unfold State.bundle at *
  unfold State.bundleWrite
  dsimp only
  rw [hv, hw]
  rfl

theorem execBundleAck_write (s : State) (d k w : Nat) (hd : d < 10) : execBundleAck d k [w] s = execBundleAck d k [] (s.bundleWrite d k w) := by
  have hn : ¬ 10 ≤ d := by omega
  unfold execBundleAck
  rw [if_neg hn, if_neg hn]
  rfl

theorem execBundleAck_one (s : State) (d k v w : Nat) (hd : d < 10) (hv : (s.bundle d k).held = some v) (hw : (s.bundle d k).waiting = none) :
    ∃ t, execBundleAck d k [w] s = .next t ∧ t.bundle d k = ⟨some w, none, v⟩ ∧ t = { s with ckg := { s.ckg with bundles := t.ckg.bundles } } := by
  refine ⟨_, ?_, State.putBundle_bundle (s.bundleWrite d k w) d k _, ?_⟩
  · rw [execBundleAck_write s d k w hd]
    have hwaits : (s.bundleWrite d k w).bundle d k = { s.bundle d k with waiting := some w } := by
      rw [s.bundleWrite_waits d k v w hv hw, State.putBundle_bundle]
    rw [execBundleAck_takes _ d k v hd (by rw [hwaits]; exact hv), hwaits]
  · rw [s.bundleWrite_waits d k v w hv hw]
    rfl

theorem xing_key_ne (x : Nat) : R.CKG_XING_COUNT.key x ≠ R.CKG_XING_STATUS.key x := by
  have count : R.CKG_XING_COUNT.key x = 0x2008004 + x * 8 := (rfl)
  have status : R.CKG_XING_STATUS.key x = 0x2008000 + x * 8 := (rfl)
  omega

/-- The token of a finished reset counts what was offered and ends PEER_RESET. -/
theorem execXingResetToken_ends (s : State) (x offered : Nat) (hx : x < 2272) (hp : s.flag F.CKG_XING_STATUS_PEER_RESET x = true) :
    ∃ t, execXingResetToken x offered s = .next t
      ∧ Wrote s t [(F.CKG_XING_COUNT_LOST, x, satBits 16 (s.fld F.CKG_XING_COUNT_LOST x + offered)), (F.CKG_XING_STATUS_PEER_RESET, x, 0)] := by
  refine ⟨_, ?_, Wrote.setAll s _ ?_ ?_⟩
  · unfold execXingResetToken
    rw [if_pos ⟨hx, hp⟩]
    rfl
  · simp [F.CKG_XING_COUNT_LOST, F.CKG_XING_STATUS_PEER_RESET]
  · simp [Separate, xing_key_ne, F.CKG_XING_COUNT_LOST, F.CKG_XING_STATUS_PEER_RESET]

/-! ### Host writes of SELECT -/

theorem unitOfOffset_domainCfg (d : Nat) (hd : d < 22) : unitOfOffset (R.CKG_DOMAIN_CFG.key d) = some 0 := by
  have hk := domain_cfg_key d
  unfold unitOfOffset
  dsimp only
  rw [if_pos (by omega)]

/-- A granted write of a good source to a running domain starts the switch. -/
theorem execCkgSelectWrite_starts (s : State) (d v : Nat) (hd : d < 3) (hv : v < 2) (hw : HostMayWrite s 0) (hg : s.sourceGood d v = true)
    (hs : Tab.get none s.ckg.switch d = none) (hr : s.flag F.CKG_DOMAIN_STATUS_RUNNING d = true) (hx : s.domainSource d ≠ v) :
    ∃ u, Wrote s u [(F.CKG_DOMAIN_STATUS_SWITCHING, d, 1)]
      ∧ execCkgSelectWrite d v s = .next { u with ckg := { s.ckg with switch := Tab.set none s.ckg.switch d (some ⟨v, false⟩) } } := by
  obtain ⟨hgrant, hmode, hreset⟩ := hw
  have hselect : s.selectWrite d v = s.startSwitch d v false := by
    unfold State.selectWrite
    dsimp only
    rw [hs, Nat.mod_eq_of_lt hv, hg, hr, if_neg (by simp; omega), if_neg (by simpa using hx)]
  refine ⟨_, Wrote.setF s _ d 1 (by decide), ?_⟩
  unfold execCkgSelectWrite State.hostWrites
  rw [if_pos (by omega), unitOfOffset_domainCfg d (by omega)]
  dsimp only
  rw [hgrant, hmode, hreset, if_pos (by decide), hselect]
  rfl

/-- A write without the grant is counted, its offset kept, and raised. -/
theorem execCkgSelectWrite_ungranted (s : State) (d v : Nat) (hd : d < 3) (hg : s.granted 0 = false) :
    ∃ u, Wrote s u [(F.TLR_UNGRANTED_WRITES_COUNT, 0, satBits F.TLR_UNGRANTED_WRITES_COUNT.wd (s.fld F.TLR_UNGRANTED_WRITES_COUNT 0 + 1)),
        (F.TLR_UNGRANTED_LAST_OFFSET, 0, R.CKG_DOMAIN_CFG.key d)]
      ∧ execCkgSelectWrite d v s = .next (u.note E.TLR_UNGRANTED_WRITE) := by
  have hk : R.TLR_UNGRANTED_WRITES.key 0 ≠ R.TLR_UNGRANTED_LAST.key 0 := by decide
  refine ⟨_, Wrote.setAll s _ ?_ ?_, ?_⟩
  · simp [F.TLR_UNGRANTED_WRITES_COUNT, F.TLR_UNGRANTED_LAST_OFFSET]
  · simp [Separate, hk, F.TLR_UNGRANTED_WRITES_COUNT, F.TLR_UNGRANTED_LAST_OFFSET]
  · unfold execCkgSelectWrite State.hostWrites
    rw [if_pos (by omega), unitOfOffset_domainCfg d (by omega)]
    dsimp only
    rw [hg, Bool.false_and, Bool.false_and, if_neg (by decide)]
    rfl

/-- Settles O16: PLLs and switches by the fields they write before the domains react, a crossing by what it holds once the pulse or value before the
acknowledge has come. -/
theorem pllsSwitchesAndCrossings : Obligations.PllsSwitchesAndCrossings := by
  unfold Obligations.PllsSwitchesAndCrossings
  refine ⟨fun s => ⟨execPllLock_gains s, execPllUnlock_locked s, fun d sw _ h4 hs => execDomainSwitchDone_ends s d sw h4 hs,
      fun ppm hz hm ht hp => ⟨execWatchTrimAdjust_near s ppm hz hm ht hp, fun c h hc => execWatchTrimAdjust_beyond s ppm hz c hm ht hp h hc⟩⟩,
    fun s => ⟨fun d k pulses same hd hu => ⟨?_, ?_⟩, fun d k v hd hv => ⟨?_, fun w hw => execBundleAck_one s d k v w hd hv hw⟩,
      execXingResetToken_ends s,
      fun d v hd hv => ⟨execCkgSelectWrite_starts s d v hd hv, execCkgSelectWrite_ungranted s d v hd⟩⟩⟩
  · rintro x rfl hp hx
    exact execToggleAck_none s d k same hd hu x hp hx
  · rintro rfl hp
    exact execToggleAck_one s d k same hd hu hp
  · rintro x rfl
    exact execBundleAck_takes s d k v hd hv

end Sys2Proof.Machine

namespace Sys2Proof.Machine

/-! ### Registers and records of lanes -/

/-- Two register sets with the same instances in the same places and another base share no key at one index. -/
theorem Reg.key_ne_of_base {q r : Reg} (hd : q.dims = r.dims) (hb : q.base ≠ r.base) (n : Nat) : q.key n ≠ r.key n := by
  unfold Reg.key
  rw [hd]
  omega

@[simp] theorem State.putLane_lane (s : State) (n : Nat) (l : Lane) : (s.putLane n l).lane n = l := Tab.get_set_same _ _ _ _
@[simp] theorem State.setAll_lane (s : State) (l : List (Fld × Nat × Nat)) (n : Nat) : (s.setAll l).lane n = s.lane n := by
  induction l generalizing s with
  | nil => rfl
  | cons e l ih => exact ih (s.setF e.1 e.2.1 e.2.2)

/-- The lanes a request names: one, or all. -/
theorem Req.lanes_one {r : Req} (h : r.all = false) : r.lanes = [r.index] := by simp [Req.lanes, Req.instances, h]
theorem Req.lanes_all {r : Req} (h : r.all = true) : r.lanes = List.range 1024 := by simp [Req.lanes, Req.instances, h]

/-! ### Commands that go on as completion records -/

/-- A ready asynchronous command is accepted as its record from the state it starts with. -/
theorem ReadyAsync.accepts {s : State} {m : Nat} {c : Cmd} {checks : Req → Checks} {r : Req} {k : Nat} {lost : Bool}
    (h : ReadyAsync s m c checks r k lost) (start : Req → State → State × Nat) (act : Req → Nat → State → Ans) :
    s.runAsync (.mailbox m) c checks start act = (start r s).1.accept m k lost r (start r s).2 := by
  obtain ⟨-, ha, hp, r0, h0, rfl, hc⟩ := h
  have hasync : (decide (c.cls = 3) || r0.async) = true := by
    rw [filled_async] at ha
    simpa using ha
  unfold State.runAsync
  dsimp only
  rw [h0]
  dsimp only
  rw [hasync, hc, if_pos rfl, hp]

/-- A running command whose effect answers OK completes its record from the state the effect leaves. -/
theorem Running.completes {s t : State} {k : Nat} {c : Cmd} {q : Rec} {act : Req → Nat → State → Ans} {own : List Byte} (h : Running s k c q)
    (ha : act q.req q.note s = .ok t own) (checks : Req → Checks) (start : Req → State → State × Nat) :
    s.runAsync (.record k) c checks start act = t.completeRec k q 0 0 (respParams c q.req 0 own) := by
  obtain ⟨hk, hphase, hop⟩ := h
  unfold State.runAsync
  dsimp only
  rw [hk]
  dsimp only
  rw [if_pos ⟨hphase, hop⟩, ha]
  rfl

/-! ### LANE_CONFIG -/

/-- The control fields that LANE_CONFIG writes before ENABLE, `inv` the polarity of the lane's two directions (R195). -/
def laneCtlWrites (n inv : Nat) (r : Req) : List (Fld × Nat × Nat) :=
  [(F.LANE_CTL_RATE, n, r.arg A.LANE_CONFIG_RATE), (F.LANE_CTL_CODING, n, r.arg A.LANE_CONFIG_CODING),
    (F.LANE_CTL_TX_INVERT, n, inv % 2), (F.LANE_CTL_RX_INVERT, n, inv / 2), (F.LANE_CTL_TX_SQUELCH, n, r.arg A.LANE_CONFIG_TX_SQUELCH),
    (F.LANE_CTL_EQ_MODE, n, r.arg A.LANE_CONFIG_EQ_MODE), (F.LANE_CTL_BAND_FORCE_EN, n, r.arg A.LANE_CONFIG_BAND_FORCE_EN),
    (F.LANE_CTL_BAND_FORCE, n, r.arg A.LANE_CONFIG_BAND_FORCE)]

/-- All nine of its control fields. -/
def laneConfigWrites (n inv : Nat) (r : Req) : List (Fld × Nat × Nat) :=
  laneCtlWrites n inv r ++ [(F.LANE_CTL_ENABLE, n, r.arg A.LANE_CONFIG_ENABLE)]

theorem State.laneConfigWrites_wrote (s : State) (n inv : Nat) (r : Req) : Wrote s (s.setAll (laneConfigWrites n inv r)) (laneConfigWrites n inv r) := by
  refine Wrote.setAll s _ ?_ ?_ <;>
    simp [laneConfigWrites, laneCtlWrites, Separate, F.LANE_CTL_RATE, F.LANE_CTL_CODING, F.LANE_CTL_TX_INVERT, F.LANE_CTL_RX_INVERT,
      F.LANE_CTL_TX_SQUELCH, F.LANE_CTL_EQ_MODE, F.LANE_CTL_BAND_FORCE_EN, F.LANE_CTL_BAND_FORCE, F.LANE_CTL_ENABLE]

/-- ENABLE stands as it was until it is written itself. -/
theorem State.laneCtlWrites_enable (s : State) (n inv : Nat) (r : Req) :
    (s.setAll (laneCtlWrites n inv r)).flag F.LANE_CTL_ENABLE n = s.flag F.LANE_CTL_ENABLE n := by
  unfold State.flag laneCtlWrites
  simp only [State.setAll_cons, State.setAll_nil]
  iterate 8 rw [State.fld_setF_other _ _ F.LANE_CTL_ENABLE _ _ (by rfl) (by decide) (by decide)]

/-- LANE_CONFIG on one lane: its control fields, then the lane stops or its transmitter follows, then band and codes. -/
theorem State.configLane_eq (s : State) (n inv : Nat) (r : Req) (v : State)
    (hinv : inv = if r.expert then r.arg A.LANE_CONFIG_INVERT else s.laneDesc n % 4)
    (hv : v = if s.flag F.LANE_CTL_ENABLE n = true ∧ r.on A.LANE_CONFIG_ENABLE = false then (s.setAll (laneConfigWrites n inv r)).stopLane n
      else (s.setAll (laneConfigWrites n inv r)).refreshTx n) :
    s.configLane n r = (if v.flag F.LANE_CTL_BAND_FORCE_EN n then v.setBand n (v.forced n 0) else v).retarget n := by
  have hoff : ((s.setAll (laneCtlWrites n inv r)).flag F.LANE_CTL_ENABLE n && !r.on A.LANE_CONFIG_ENABLE) = true
      ↔ s.flag F.LANE_CTL_ENABLE n = true ∧ r.on A.LANE_CONFIG_ENABLE = false := by
    rw [State.laneCtlWrites_enable, Bool.and_eq_true, Bool.not_eq_true']
  rw [hv, ← if_congr hoff rfl rfl, hinv]
  rfl

theorem State.configLane_mode (s : State) (n : Nat) (r : Req) : (s.configLane n r).mode = s.mode := congrArg (·.2.2) (s.configLane_fixed n r)

theorem State.laneConfigAct_one (s : State) (r : Req) (h : r.all = false) : s.laneConfigAct r
    = .ok (s.configLane r.index r) (w32 ((s.configLane r.index r).rd R.LANE_CTL r.index) ++ w32 ((s.configLane r.index r).rd R.LANE_STATUS r.index)) := by
  unfold State.laneConfigAct
  rw [Req.lanes_one h, h]
  rfl

theorem State.laneConfigAct_all (s : State) (r : Req) (h : r.all = true) : s.laneConfigAct r
    = .ok (s.each r.lanes fun n v => v.configLane n r) (w32 ((s.each r.lanes fun n v => v.configLane n r).rd R.LANE_CTL 0)
      ++ w32 ((s.each r.lanes fun n v => v.configLane n r).rd R.LANE_STATUS 0)) := by
  have hn : (if r.all = true then 0 else r.index) = 0 := if_pos h
  unfold State.laneConfigAct
  dsimp only
  rw [hn]

theorem execLaneConfig_one (s : State) (m : Nat) (r : Req) (hr : Ready s m C.LANE_CONFIG s.laneConfigChecks r) (h : r.all = false) :
    ∃ t, execLaneConfig m s = .next t ∧ Answered (s.configLane r.index r) t m r 0 0 (respParams C.LANE_CONFIG r 0
      (w32 ((s.configLane r.index r).rd R.LANE_CTL r.index) ++ w32 ((s.configLane r.index r).rd R.LANE_STATUS r.index))) :=
  ⟨_, rfl, hr.answered (hr.mode_ne_zero (by rfl) (by decide)) (s.laneConfigAct_one r h) (s.configLane_mode _ r)⟩

theorem execLaneConfig_all (s : State) (m : Nat) (r : Req) (hr : Ready s m C.LANE_CONFIG s.laneConfigChecks r) (h : r.all = true) :
    ∃ t u, execLaneConfig m s = .next t ∧ u = (s.each (List.range 1024) fun n v => v.configLane n r)
      ∧ Answered u t m r 0 0 (respParams C.LANE_CONFIG r 0 (w32 (u.rd R.LANE_CTL 0) ++ w32 (u.rd R.LANE_STATUS 0))) :=
  ⟨_, _, rfl, by rw [Req.lanes_all h], hr.answered (hr.mode_ne_zero (by rfl) (by decide)) (s.laneConfigAct_all r h)
    (State.each_keeps State.mode _ _ s fun n v => v.configLane_mode n r)⟩

/-! ### EQ_TABLE_LOAD -/

@[simp] theorem State.retarget_boot (s : State) (n : Nat) : (s.retarget n).boot = s.boot := (rfl)
@[simp] theorem State.putLane_boot (s : State) (n : Nat) (l : Lane) : (s.putLane n l).boot = s.boot := (rfl)

/-- Putting a board table in use puts it in the boot store, whatever it does to the lanes. -/
theorem State.loadBoard_board (s : State) (b : List Byte) : (s.loadBoard b).boot.board = b := by
  unfold State.loadBoard
  rw [State.each_boot, State.each_boot]
  · intro q v
    exact State.wr_boot v _ _ _
  · intro n v
    simp [apply_ite State.boot]

theorem eqTableLoadAct_right (s : State) (r : Req) (note : Nat) (b : List Byte)
    (hb : s.hostRead (r.arg64 A.EQ_TABLE_LOAD_HOST_ADDR_LO A.EQ_TABLE_LOAD_HOST_ADDR_HI) 184320 = some b)
    (hmagic : leAt b 0 4 = 0xB0A2DE91) (hformat : leAt b 4 4 = 1) (hcrc : crc32 b = r.arg A.EQ_TABLE_LOAD_TABLE_CRC) :
    eqTableLoadAct r note s = .ok (s.loadBoard b) (w32 (idxs 1024 fun n => (List.range 10).all fun e => boardValid b n e).length
      ++ w32 (idxs 1024 fun n => (s.loadBoard b).flag F.LANE_STATUS_EQ_INVALID n).length) := by
  unfold eqTableLoadAct
  rw [hb]
  dsimp only
  rw [if_neg (by simp [hmagic, hformat, hcrc])]

theorem execEqTableLoad_right (s : State) (k : Nat) (q : Rec) (b : List Byte) (h : Running s k C.EQ_TABLE_LOAD q)
    (hb : s.hostRead (q.req.arg64 A.EQ_TABLE_LOAD_HOST_ADDR_LO A.EQ_TABLE_LOAD_HOST_ADDR_HI) 184320 = some b)
    (hmagic : leAt b 0 4 = 0xB0A2DE91) (hformat : leAt b 4 4 = 1) (hcrc : crc32 b = q.req.arg A.EQ_TABLE_LOAD_TABLE_CRC) :
    ∃ t, execEqTableLoad (.record k) s = .next t ∧ (s.loadBoard b).boot.board = b
      ∧ Completed (s.loadBoard b) t k q 0 0 (respParams C.EQ_TABLE_LOAD q.req 0
          (w32 (idxs 1024 fun n => (List.range 10).all fun e => boardValid b n e).length
            ++ w32 (idxs 1024 fun n => (s.loadBoard b).flag F.LANE_STATUS_EQ_INVALID n).length)) :=
  ⟨_, congrArg Host.Outcome.next (h.completes (eqTableLoadAct_right s q.req q.note b hb hmagic hformat hcrc) _ _), s.loadBoard_board b,
    State.completeRec_completed _ k q 0 0 _⟩

/-! ### LANE_TEST -/

theorem State.setLoopback_same {s : State} {n v : Nat} (h : s.fld F.LANE_CTL_LOOPBACK n = v) : s.setLoopback n v = s := by
  unfold State.setLoopback
  rw [if_pos h]

/-- The generator's and the checker's fields that LANE_TEST writes, and then the injector's. -/
def prbsWrites (n : Nat) (r : Req) : List (Fld × Nat × Nat) :=
  [(F.LANE_PRBS_CTL_GEN_PATTERN, n, r.arg A.LANE_TEST_GEN_PATTERN), (F.LANE_PRBS_CTL_GEN_EN, n, r.arg A.LANE_TEST_GEN_EN),
    (F.LANE_PRBS_CTL_CHK_PATTERN, n, r.arg A.LANE_TEST_CHK_PATTERN), (F.LANE_PRBS_CTL_CHK_EN, n, r.arg A.LANE_TEST_CHK_EN),
    (F.LANE_PRBS_CTL_THRESHOLD_LOG2, n, r.arg A.LANE_TEST_THRESHOLD_LOG2)]

def injectorWrites (n : Nat) (r : Req) : List (Fld × Nat × Nat) :=
  [(F.LANE_INJ_CFG_MODE, n, r.arg A.LANE_TEST_INJ_MODE), (F.LANE_INJ_CFG_BURST_LEN, n, r.arg A.LANE_TEST_BURST_LEN),
    (F.LANE_INJ_CFG_PERIOD_LOG2, n, r.arg A.LANE_TEST_PERIOD_LOG2)]

theorem State.testWrites_wrote (s : State) (n : Nat) (r : Req) :
    Wrote s (s.setAll (prbsWrites n r ++ injectorWrites n r)) (prbsWrites n r ++ injectorWrites n r) := by
  have hk : R.LANE_PRBS_CTL.key n ≠ R.LANE_INJ_CFG.key n := Reg.key_ne_of_base (by rfl) (by decide) n
  refine Wrote.setAll s _ ?_ ?_ <;>
    simp [prbsWrites, injectorWrites, Separate, hk, F.LANE_PRBS_CTL_GEN_PATTERN, F.LANE_PRBS_CTL_GEN_EN, F.LANE_PRBS_CTL_CHK_PATTERN,
      F.LANE_PRBS_CTL_CHK_EN, F.LANE_PRBS_CTL_THRESHOLD_LOG2, F.LANE_INJ_CFG_MODE, F.LANE_INJ_CFG_BURST_LEN, F.LANE_INJ_CFG_PERIOD_LOG2]

theorem State.prbsWrites_loopback (s : State) (n : Nat) (r : Req) :
    (s.setAll (prbsWrites n r)).fld F.LANE_CTL_LOOPBACK n = s.fld F.LANE_CTL_LOOPBACK n := by
  have hk : R.LANE_CTL.key n ≠ R.LANE_PRBS_CTL.key n := Reg.key_ne_of_base (by rfl) (by decide) n
  simp only [prbsWrites, State.setAll_cons, State.setAll_nil]
  iterate 5 rw [State.fld_setF_ne _ _ (by exact hk)]

/-- Where the checker goes on and nothing is cleared, fired or looped back, the lane's test takes its fields and does nothing else. -/
theorem State.testLane_fields (s : State) (n : Nat) (r : Req) (hchk : r.on A.LANE_TEST_CHK_EN = true) (hon : s.flag F.LANE_PRBS_CTL_CHK_EN n = true)
    (hclear : r.on A.LANE_TEST_CLEAR = false) (hfire : r.on A.LANE_TEST_FIRE = false)
    (hloop : s.fld F.LANE_CTL_LOOPBACK n = r.arg A.LANE_TEST_LOOPBACK) :
    s.testLane n r = s.setAll (prbsWrites n r ++ injectorWrites n r) := by
  have hsame := State.setLoopback_same ((s.prbsWrites_loopback n r).trans hloop)
  rw [State.setAll_append, ← hsame]
  unfold State.testLane
  simp only [hchk, hon, hclear, hfire]
  rfl

theorem State.testLane_mode (s : State) (n : Nat) (r : Req) : (s.testLane n r).mode = s.mode := congrArg (·.2.2) (s.testLane_fixed n r)

theorem execLaneTest_ready (s : State) (m : Nat) (r : Req) (hr : Ready s m C.LANE_TEST s.laneTestChecks r) :
    ∃ t u, execLaneTest m s = .next t ∧ u = (s.each r.lanes fun n v => v.testLane n r)
      ∧ Answered u t m r 0 0 (respParams C.LANE_TEST r 0 (w32 (u.rd R.LANE_PRBS_STATUS (if r.all then 0 else r.index)))) :=
  ⟨_, _, rfl, rfl, hr.answered (act := s.laneTestAct) (hr.mode_ne_zero (by rfl) (by decide)) (by rfl)
    (State.each_keeps State.mode _ _ s fun n v => v.testLane_mode n r)⟩

/-! ### LANE_MARGIN_SCAN and its points -/

theorem execLaneMarginScan_ready (s : State) (m : Nat) (r : Req) (k : Nat) (h : ReadyAsync s m C.LANE_MARGIN_SCAN s.laneMarginScanChecks r k false) :
    ∃ t, execLaneMarginScan (.mailbox m) s = .next t ∧ Accepted (s.putLane r.index { s.lane r.index with
      scan := some (k, 0, false, r.arg64 A.LANE_MARGIN_SCAN_HOST_ADDR_LO A.LANE_MARGIN_SCAN_HOST_ADDR_HI) }) t m k r := by
  have ⟨hm, _, hpick, _⟩ := h
  have hstart : laneMarginScanStart r s = (s.putLane r.index { s.lane r.index with
      scan := some (k, 0, false, r.arg64 A.LANE_MARGIN_SCAN_HOST_ADDR_LO A.LANE_MARGIN_SCAN_HOST_ADDR_HI) }, r.index) := by
    unfold laneMarginScanStart
    rw [hpick]
    rfl
  refine ⟨_, congrArg Host.Outcome.next (h.accepts _ _), ?_⟩
  rw [hstart]
  exact State.accept_accepted _ m k r _ hm

/-- A measured point of a scan whose host answers: its errors are stored, and the scan goes on or completes its record. -/
theorem execMarginPointDone_stores (s : State) (n errs k pt : Nat) (chg : Bool) (a : Nat) (q : Rec) (hscan : s.scanning n = true)
    (hstep : s.flag F.LANE_STATUS_STEPPING n = false) (hl : (s.lane n).scan = some (k, pt, chg, a)) (hq : s.rec? k = some q) (hh : s.hostReach = true) :
    execMarginPointDone n errs s = .next (if pt + 1 < 4096
      then (s.hostWrite (a + 4 * pt) (w32 (min errs (2 ^ 32 - 1)))).putLane n { s.lane n with scan := some (k, pt + 1, chg, a) }
      else ((s.hostWrite (a + 4 * pt) (w32 (min errs (2 ^ 32 - 1)))).putLane n { s.lane n with scan := none }).completeRec k q 0 0
        (w32 4096 ++ w32 (b2n chg))) := by
  unfold execMarginPointDone
  rw [hscan, hstep, if_neg (by decide), hl]
  dsimp only
  rw [hq]
  dsimp only
  rw [hh, if_neg (by decide)]
  rfl

/-- Settles O17: each command by what it does once its checks pass, one lane's part of it by the fields it writes. -/
theorem lanesAreConfiguredAndTested : Obligations.LanesAreConfiguredAndTested := by
  unfold Obligations.LanesAreConfiguredAndTested
  refine ⟨fun s m r => ⟨execLaneConfig_one s m r, execLaneConfig_all s m r, fun n inv _ hinv =>
      ⟨_, _, s.laneConfigWrites_wrote n inv r, rfl, s.configLane_eq n inv r _ hinv rfl⟩⟩,
    execEqTableLoad_right,
    fun s => ⟨execLaneTest_ready s, fun r n _ hchk hon hclear hfire hloop => ?_, execLaneMarginScan_ready s,
      fun n errs k pt chg a q hscan hstep hl hq hh => ⟨fun hpt => ?_, fun hpt => ⟨_, ?_, State.completeRec_completed _ k q 0 0 _⟩⟩⟩⟩
  · rw [s.testLane_fields n r hchk hon hclear hfire hloop]
    exact s.testWrites_wrote n r
  · exact (execMarginPointDone_stores s n errs k pt chg a q hscan hstep hl hq hh).trans (by rw [if_pos hpt])
  · exact (execMarginPointDone_stores s n errs k pt chg a q hscan hstep hl hq hh).trans (by rw [if_neg (by omega)])

end Sys2Proof.Machine

namespace Sys2Proof.Machine

/-! ### Field writes, whole registers and the registers of a lane -/

/-- Field writes leave every register of another key alone. -/
theorem State.setAll_rd (s : State) (l : List (Fld × Nat × Nat)) (q : Reg) (j : Nat) (h : ∀ e ∈ l, e.1.reg.key e.2.1 ≠ q.key j) :
    (s.setAll l).rd q j = s.rd q j := by
  induction l generalizing s with
  | nil => rfl
  | cons e l ih =>
    rw [State.setAll_cons, ih _ fun d hd => h d (List.mem_cons_of_mem _ hd), State.rd_setF_ne _ _ (h e List.mem_cons_self).symm]

/-- Field writes for each element of a list are the writes of all of them in order. -/
theorem State.each_setAll {α : Type} (s : State) (l : List α) (g : α → List (Fld × Nat × Nat)) :
    (s.each l fun a t => t.setAll (g a)) = s.setAll (l.flatMap g) := by
  induction l generalizing s with
  | nil => rfl
  | cons a l ih => rw [State.each_cons, ih, List.flatMap_cons, State.setAll_append]

/-- The instances of a register that each lane has: 64 lanes a quire, 16 quires (R584). -/
def laneDims : List (Nat × Nat) := [(64, 0x1000), (16, 0x1000000)]

theorem Reg.key_lane {q : Reg} (hq : q.dims = laneDims) (n : Nat) : q.key n = q.base + (n % 64 * 0x1000 + n / 64 * 0x1000000) := by
  unfold Reg.key
  rw [hq]
  rfl

theorem Reg.key_lane_ne {q : Reg} (hq : q.dims = laneDims) {n m : Nat} (h : n ≠ m) : q.key n ≠ q.key m := by
  rw [Reg.key_lane hq, Reg.key_lane hq]
  omega

/-- The grant unit of a register of a lane's sub-block `k` (R578). -/
theorem unitOfOffset_lane {q : Reg} (k : Nat) (hq : q.dims = laneDims) (hk : k < 6)
    (hb : 0x10000000 + k * 0x100000 ≤ q.base ∧ q.base < 0x10000000 + k * 0x100000 + 0x1000) (n : Nat) (hn : n < 1024) :
    unitOfOffset (q.key n) = some (12 + 6 * (n / 64) + k) := by
  rw [Reg.key_lane hq]
  have hblock : (q.base + (n % 64 * 0x1000 + n / 64 * 0x1000000)) / 0x1000000 = 0x10 + n / 64 := by omega
  have hsub : (q.base + (n % 64 * 0x1000 + n / 64 * 0x1000000)) / 0x100000 % 16 = k := by omega
  unfold unitOfOffset
  dsimp only
  rw [hblock, hsub, if_neg (by omega), if_neg (by omega), if_neg (by omega), if_neg (by omega), if_neg (by omega), if_pos (by omega), if_pos hk]
  congr 1
  omega

/-- A granted write of the host acts. -/
theorem HostMayWrite.writes {s : State} {u off : Nat} (h : HostMayWrite s u) (hu : unitOfOffset off = some u) (f : State → State) :
    s.hostWrites off f = f s := by
  obtain ⟨hgrant, hmode, hreset⟩ := h
  unfold State.hostWrites
  rw [hu]
  dsimp only
  rw [hgrant, hmode, hreset, if_pos (by decide)]

/-! ### Two's complement fields -/

theorem ofSigned_lt (wd : Nat) (x : Int) : ofSigned wd x < 2 ^ wd := by
  unfold ofSigned
  have h0 : (0 : Int) < (2 ^ wd : Nat) := by exact_mod_cast Nat.two_pow_pos wd
  have h1 := Int.emod_lt_of_pos x h0
  have h2 := Int.emod_nonneg x h0.ne'
  omega

/-- A field reads as the integer that was put in it, where the field can hold it. -/
theorem toSigned_ofSigned (wd : Nat) (x : Int) (hw : 0 < wd) (h0 : -(2 ^ (wd - 1) : Nat) ≤ x) (h1 : x < (2 ^ (wd - 1) : Nat)) :
    toSigned wd (ofSigned wd x) = x := by
  obtain ⟨k, rfl⟩ : ∃ k, wd = k + 1 := ⟨wd - 1, by omega⟩
  have hp : 2 ^ (k + 1) = 2 * 2 ^ k := by rw [Nat.pow_succ, Nat.mul_comm]
  rw [Nat.add_sub_cancel] at h0 h1
  unfold toSigned ofSigned
  rw [Nat.add_sub_cancel, hp]
  obtain hx | hx := lt_or_ge x 0
  · rw [← Int.add_emod_right, Int.emod_eq_of_lt (by omega) (by omega), if_neg (by omega)]
    omega
  · rw [Int.emod_eq_of_lt (by omega) (by omega), if_pos (by omega)]
    omega

/-- What a field of some bits reads as lies in their range. -/
theorem toSigned_range (wd v : Nat) (hw : 0 < wd) (hv : v < 2 ^ wd) : -(2 ^ (wd - 1) : Nat) ≤ toSigned wd v ∧ toSigned wd v < (2 ^ (wd - 1) : Nat) := by
  obtain ⟨k, rfl⟩ : ∃ k, wd = k + 1 := ⟨wd - 1, by omega⟩
  have hp : 2 ^ (k + 1) = 2 * 2 ^ k := by rw [Nat.pow_succ, Nat.mul_comm]
  rw [hp] at hv
  unfold toSigned
  rw [Nat.add_sub_cancel, hp]
  split <;> omega

/-! ### The lane's transmit PLL and its receiver -/

theorem State.laneEntry_congr {s t : State} {n : Nat} (hctl : t.rd R.LANE_CTL n = s.rd R.LANE_CTL n)
    (hband : t.fld F.LANE_STATUS_BAND n = s.fld F.LANE_STATUS_BAND n) : t.laneEntry n = s.laneEntry n := by
  have hfld (f : Fld) (hf : f.reg = R.LANE_CTL) : t.fld f n = s.fld f n := by
    unfold State.fld
    rw [hf, hctl]
  unfold State.laneEntry State.flag
  rw [hband, hfld _ rfl, hfld _ rfl]

/-- The transmitter's squelch depends on the rails, the lane's control fields, the mode and the lane's descriptor. -/
theorem State.squelched_congr {s t : State} {n : Nat} (hrail : t.rd R.GLB_RAIL_STATUS 0 = s.rd R.GLB_RAIL_STATUS 0)
    (hctl : t.rd R.LANE_CTL n = s.rd R.LANE_CTL n) (hmode : t.mode = s.mode) (hdesc : t.laneDesc n = s.laneDesc n) : t.squelched n = s.squelched n := by
  have hfld (f : Fld) (hf : f.reg = R.LANE_CTL) : t.fld f n = s.fld f n := by
    unfold State.fld
    rw [hf, hctl]
  have hrails : t.laneRails = s.laneRails := by
    unfold State.laneRails State.fld
    rw [show F.GLB_RAIL_STATUS_GOOD.reg = R.GLB_RAIL_STATUS from rfl, hrail]
  unfold State.squelched State.lanePresent State.flag
  rw [hrails, hmode, hdesc, hfld _ rfl, hfld _ rfl, hfld _ rfl]

/-- A lane's equalisation entries lie beyond the registers of the lane itself. -/
theorem entry_key_ne {q : Reg} (hq : q.dims = laneDims) (hb : q.base % 0x1000 < 0x100) (n i : Nat) :
    R.LANE_EQ_ENT_TX.key i ≠ q.key n ∧ R.LANE_EQ_ENT_RX.key i ≠ q.key n := by
  have tx : R.LANE_EQ_ENT_TX.key i = 0x10000100 + (i % 11 * 0x10 + (i / 11 % 64 * 0x1000 + i / 11 / 64 * 0x1000000)) := (rfl)
  have rx : R.LANE_EQ_ENT_RX.key i = 0x10000104 + (i % 11 * 0x10 + (i / 11 % 64 * 0x1000 + i / 11 / 64 * 0x1000000)) := (rfl)
  rw [tx, rx, Reg.key_lane hq]
  omega

/-- The band that a lane takes as its PLL locks, the codes of its entry and the end of stepping (R166). -/
def bandWrites (n band tx rx : Nat) : List (Fld × Nat × Nat) :=
  [(F.LANE_STATUS_BAND, n, band), (⟨R.LANE_EQ_NOW_TX, 0, 32⟩, n, tx), (⟨R.LANE_EQ_NOW_RX, 0, 32⟩, n, rx), (F.LANE_STATUS_STEPPING, n, 0)]

/-- These, and its transmitter's readiness. -/
def pllLockWrites (n band tx rx ready : Nat) : List (Fld × Nat × Nat) := bandWrites n band tx rx ++ [(F.LANE_STATUS_TX_READY, n, ready)]

theorem lane_code_keys (n : Nat) : R.LANE_EQ_NOW_TX.key n ≠ R.LANE_EQ_NOW_RX.key n ∧ R.LANE_EQ_NOW_TX.key n ≠ R.LANE_STATUS.key n
    ∧ R.LANE_EQ_NOW_RX.key n ≠ R.LANE_STATUS.key n :=
  ⟨Reg.key_ne_of_base (by rfl) (by decide) n, Reg.key_ne_of_base (by rfl) (by decide) n, Reg.key_ne_of_base (by rfl) (by decide) n⟩

theorem State.pllLockWrites_wrote (s : State) (n band tx rx ready : Nat) :
    Wrote s (s.setAll (pllLockWrites n band tx rx ready)) (pllLockWrites n band tx rx ready) := by
  obtain ⟨htr, hts, hrs⟩ := lane_code_keys n
  refine Wrote.setAll s _ ?_ ?_ <;>
    simp [pllLockWrites, bandWrites, Separate, htr, hts, hrs, hts.symm, hrs.symm, F.LANE_STATUS_BAND, F.LANE_STATUS_STEPPING, F.LANE_STATUS_TX_READY]

/-- These writes reach three registers of the lane. -/
theorem pllLockWrites_keys (n band tx rx ready : Nat) : ∀ e ∈ pllLockWrites n band tx rx ready,
    e.1.reg.key e.2.1 = R.LANE_STATUS.key n ∨ e.1.reg.key e.2.1 = R.LANE_EQ_NOW_TX.key n ∨ e.1.reg.key e.2.1 = R.LANE_EQ_NOW_RX.key n := by
  simp [pllLockWrites, bandWrites, F.LANE_STATUS_BAND, F.LANE_STATUS_STEPPING, F.LANE_STATUS_TX_READY]

/-- What a register outside the three keeps through a part of these writes. -/
theorem State.pllLockWrites_rd (s : State) {l : List (Fld × Nat × Nat)} (n band tx rx ready : Nat) (hl : l ⊆ pllLockWrites n band tx rx ready) (q : Reg)
    (j : Nat) (hs : q.key j ≠ R.LANE_STATUS.key n) (ht : q.key j ≠ R.LANE_EQ_NOW_TX.key n) (hr : q.key j ≠ R.LANE_EQ_NOW_RX.key n) :
    (s.setAll l).rd q j = s.rd q j := by
  refine s.setAll_rd _ q j fun e he => ?_
  obtain h | h | h := pllLockWrites_keys _ _ _ _ _ e (hl he) <;> rw [h]
  · exact hs.symm
  · exact ht.symm
  · exact hr.symm

theorem lane_ctl_keys (n : Nat) : R.LANE_CTL.key n ≠ R.LANE_STATUS.key n ∧ R.LANE_CTL.key n ≠ R.LANE_EQ_NOW_TX.key n
    ∧ R.LANE_CTL.key n ≠ R.LANE_EQ_NOW_RX.key n :=
  ⟨Reg.key_ne_of_base (by rfl) (by decide) n, Reg.key_ne_of_base (by rfl) (by decide) n, Reg.key_ne_of_base (by rfl) (by decide) n⟩

/-- The codes that lock are those of the entry of the band that the lane takes. -/
theorem State.pllLockWrites_targets (s : State) (n band tx rx ready : Nat) :
    (s.setAll (pllLockWrites n band tx rx ready)).targetTx n = (s.setF F.LANE_STATUS_BAND n band).targetTx n
      ∧ (s.setAll (pllLockWrites n band tx rx ready)).targetRx n = (s.setF F.LANE_STATUS_BAND n band).targetRx n := by
  obtain ⟨hs, ht, hr⟩ := lane_ctl_keys n
  have hentry : (s.setAll (pllLockWrites n band tx rx ready)).laneEntry n = (s.setF F.LANE_STATUS_BAND n band).laneEntry n := by
    refine State.laneEntry_congr ?_ ?_
    · rw [s.pllLockWrites_rd n _ _ _ _ (List.Subset.refl _) _ _ hs ht hr, State.rd_setF_ne _ _ (by exact hs)]
    · rw [(s.pllLockWrites_wrote n band tx rx ready).fld _ _ band (by simp [pllLockWrites, bandWrites]), State.fld_setF_same _ _ _ _ (by decide)]
  have hne (q : Reg) (hq : q.dims = laneDims) (hb : q.base % 0x1000 < 0x100) := entry_key_ne hq hb n ((s.setF F.LANE_STATUS_BAND n band).laneEntry n)
  obtain ⟨hst, hsr⟩ := hne R.LANE_STATUS (by rfl) (by decide)
  obtain ⟨htt, htr⟩ := hne R.LANE_EQ_NOW_TX (by rfl) (by decide)
  obtain ⟨hrt, hrr⟩ := hne R.LANE_EQ_NOW_RX (by rfl) (by decide)
  unfold State.targetTx State.targetRx
  rw [hentry, s.pllLockWrites_rd n _ _ _ _ (List.Subset.refl _) _ _ hst htt hrt, s.pllLockWrites_rd n _ _ _ _ (List.Subset.refl _) _ _ hsr htr hrr,
    State.rd_setF_ne _ _ (by exact hst), State.rd_setF_ne _ _ (by exact hsr)]
  exact ⟨rfl, rfl⟩

theorem State.setAll_laneDesc (s : State) (l : List (Fld × Nat × Nat)) (n : Nat) : (s.setAll l).laneDesc n = s.laneDesc n := by
  induction l generalizing s with
  | nil => rfl
  | cons e l ih => exact ih (s.setF e.1 e.2.1 e.2.2)

/-- The transmitter of a lane whose PLL is locked is ready unless it is squelched, and its band and codes do not squelch it. -/
theorem State.bandWrites_refreshTx (s : State) (n band tx rx : Nat) (hpll : (s.lane n).pll = true) :
    (s.setAll (bandWrites n band tx rx)).refreshTx n = s.setAll (pllLockWrites n band tx rx (b2n (!s.squelched n))) := by
  have hsub : bandWrites n band tx rx ⊆ pllLockWrites n band tx rx (b2n (!s.squelched n)) := List.subset_append_left _ _
  have hlow (q : Reg) (i : Nat) (hi : q.key i < 0x10000000) : (s.setAll (bandWrites n band tx rx)).rd q i = s.rd q i := by
    have hs := R.LANE_STATUS.base_le n
    have ht := R.LANE_EQ_NOW_TX.base_le n
    have hr := R.LANE_EQ_NOW_RX.base_le n
    simp only [R.LANE_STATUS, R.LANE_EQ_NOW_TX, R.LANE_EQ_NOW_RX] at hs ht hr
    exact s.pllLockWrites_rd n _ _ _ _ hsub q i (by simp only [R.LANE_STATUS]; omega) (by simp only [R.LANE_EQ_NOW_TX]; omega)
      (by simp only [R.LANE_EQ_NOW_RX]; omega)
  obtain ⟨hs, ht, hr⟩ := lane_ctl_keys n
  have hsq : (s.setAll (bandWrites n band tx rx)).squelched n = s.squelched n :=
    State.squelched_congr (hlow _ _ (by decide)) (s.pllLockWrites_rd n _ _ _ _ hsub _ _ hs ht hr)
      (congrArg (bits · _ _) (hlow R.GLB_MODE 0 (by decide))) (s.setAll_laneDesc _ n)
  unfold State.refreshTx pllLockWrites
  rw [hsq, State.setAll_lane, hpll, Bool.true_and, State.setAll_append]
  rfl

/-- The PLL of an enabled lane locks: its band follows the temperature, its codes load and its transmitter goes on. -/
theorem execLaneTxPllLock_locks (s : State) (n : Nat) (hn : n < 1024) (hen : s.flag F.LANE_CTL_ENABLE n = true) (hm : bit 0x78 s.mode = true)
    (hpll : (s.lane n).pll = false) (hbad : s.flag F.LANE_STATUS_EQ_INVALID n = false) (hp : s.lanePresent n = true)
    (hrun : s.flag F.CKG_DOMAIN_STATUS_RUNNING (6 + n / 64) = true) :
    ∃ t, execLaneTxPllLock n s = .next t ∧ Wrote (s.putLane n { s.lane n with pll := true }) t
      [(F.LANE_STATUS_BAND, n, s.forced n (bandsBelow (s.quireTemp (n / 64)) 0)), (⟨R.LANE_EQ_NOW_TX, 0, 32⟩, n, t.targetTx n),
        (⟨R.LANE_EQ_NOW_RX, 0, 32⟩, n, t.targetRx n), (F.LANE_STATUS_STEPPING, n, 0), (F.LANE_STATUS_TX_READY, n, b2n (!s.squelched n))] := by
  generalize hband : s.forced n (bandsBelow (s.quireTemp (n / 64)) 0) = band
  generalize hu : s.putLane n { s.lane n with pll := true } = u
  have hlane : u.lane n = { s.lane n with pll := true } := by rw [← hu, State.putLane_lane]
  have hdesc : u.laneDesc n = s.laneDesc n := by
    unfold State.laneDesc
    rw [hlane, ← hu]
    rfl
  have hsq : u.squelched n = s.squelched n := State.squelched_congr (by rw [← hu]; rfl) (by rw [← hu]; rfl) (by rw [← hu]; rfl) hdesc
  obtain ⟨htx, hrx⟩ := u.pllLockWrites_targets n band ((u.setF F.LANE_STATUS_BAND n band).targetTx n) ((u.setF F.LANE_STATUS_BAND n band).targetRx n)
    (b2n (!s.squelched n))
  refine ⟨u.setAll (pllLockWrites n band ((u.setF F.LANE_STATUS_BAND n band).targetTx n) ((u.setF F.LANE_STATUS_BAND n band).targetRx n)
    (b2n (!s.squelched n))), ?_, ?_⟩
  · have hforced : u.forced n (bandsBelow (u.quireTemp (n / 64)) 0) = band := by rw [← hband, ← hu]; rfl
    rw [← hsq, ← State.bandWrites_refreshTx u n _ _ _ (by rw [hlane])]
    unfold execLaneTxPllLock
    rw [if_pos ⟨hn, hen, hm, by rw [hpll]; rfl, by rw [hbad]; rfl, hp, hrun⟩]
    dsimp only
    rw [hu, hforced, State.wr_eq_setF, State.wr_eq_setF]
    rfl
  · rw [htx, hrx]
    exact u.pllLockWrites_wrote n band _ _ _

theorem execLaneCdrLock_locks (s : State) (n : Nat) (hn : n < 1024) (hen : s.flag F.LANE_CTL_ENABLE n = true) (hm : bit 0x78 s.mode = true) :
    ∃ t, execLaneCdrLock n s = .next t ∧ Wrote s t [(F.LANE_STATUS_SIGNAL, n, 1), (F.LANE_STATUS_CDR_LOCK, n, 1)] := by
  refine ⟨_, ?_, Wrote.setAll s _ ?_ ?_⟩
  · unfold execLaneCdrLock
    rw [if_pos ⟨hn, hen, hm⟩]
    rfl
  · simp [F.LANE_STATUS_SIGNAL, F.LANE_STATUS_CDR_LOCK]
  · simp [Separate, F.LANE_STATUS_SIGNAL, F.LANE_STATUS_CDR_LOCK]

/-- A status bit that ends sets another bit and counts it, all in one register: three writes (R7). -/
theorem Wrote.lost (s : State) (b c d : Fld) (n : Nat) (hcb : c.reg = b.reg) (hdb : d.reg = b.reg) (hb : b.lo + b.wd ≤ c.lo) (hc : c.lo + c.wd ≤ d.lo)
    (hd : d.lo + d.wd ≤ 32) :
    Wrote s ((s.setF b n 0).setCounted c d n) [(b, n, 0), (c, n, 1), (d, n, satBits d.wd (s.fld d n + 1))] := by
  have hbd : b.lo + b.wd ≤ d.lo := by omega
  rw [State.setCounted_eq _ _ _ _ (hdb.trans hcb.symm) hd (.inr hc), State.fld_setF_other _ _ _ _ _ hdb hd (.inr hbd)]
  refine Wrote.setAll s [(b, n, 0), (c, n, 1), (d, n, _)] ?_ ?_
  · simp only [List.mem_cons, List.not_mem_nil, or_false, forall_eq_or_imp, forall_eq]
    omega
  · simp only [List.pairwise_cons, List.mem_cons, List.not_mem_nil, or_false, forall_eq_or_imp, forall_eq, List.Pairwise.nil, IsEmpty.forall_iff,
      implies_true, and_true]
    exact ⟨⟨.inr ⟨hcb.symm, rfl, .inr hb⟩, .inr ⟨hdb.symm, rfl, .inr hbd⟩⟩, .inr ⟨hcb.trans hdb.symm, rfl, .inr hc⟩⟩

/-- The receiver of an enabled lane loses lock, or its signal. -/
theorem execLaneSignalLoss_cdr (s : State) (n : Nat) (hn : n < 1024) (hen : s.flag F.LANE_CTL_ENABLE n = true)
    (hlock : s.flag F.LANE_STATUS_CDR_LOCK n = true) :
    ∃ u, Wrote s u [(F.LANE_STATUS_CDR_LOCK, n, 0), (F.LANE_STATUS_CDR_UNLOCK, n, 1),
        (F.LANE_STATUS_UNLOCK_COUNT, n, satBits 8 (s.fld F.LANE_STATUS_UNLOCK_COUNT n + 1))]
      ∧ execLaneSignalLoss n true s = .next (u.note (E.LANE_LOSS n)) := by
  refine ⟨_, Wrote.lost s _ _ F.LANE_STATUS_UNLOCK_COUNT n (by rfl) (by rfl) (by decide) (by decide) (by decide), ?_⟩
  unfold execLaneSignalLoss
  rw [if_pos ⟨hn, hen⟩, if_pos rfl, if_pos hlock]

theorem execLaneSignalLoss_signal (s : State) (n : Nat) (hn : n < 1024) (hen : s.flag F.LANE_CTL_ENABLE n = true)
    (hsig : s.flag F.LANE_STATUS_SIGNAL n = true) :
    ∃ u, Wrote s u [(F.LANE_STATUS_SIGNAL, n, 0), (F.LANE_STATUS_LOS, n, 1),
        (F.LANE_STATUS_LOS_COUNT, n, satBits 8 (s.fld F.LANE_STATUS_LOS_COUNT n + 1))]
      ∧ execLaneSignalLoss n false s = .next (u.note (E.LANE_LOSS n)) := by
  refine ⟨_, Wrote.lost s _ _ F.LANE_STATUS_LOS_COUNT n (by rfl) (by rfl) (by decide) (by decide) (by decide), ?_⟩
  unfold execLaneSignalLoss
  rw [if_pos ⟨hn, hen⟩, if_neg (by decide), if_pos hsig]

/-! ### The temperature of a quire and the band of a lane -/

/-- A running maximum is at least where it starts and every value, and is one of them. -/
theorem foldl_max_spec (g : Nat → Int) (l : List Nat) (b : Int) :
    b ≤ l.foldl (fun a i => max a (g i)) b ∧ (∀ i ∈ l, g i ≤ l.foldl (fun a i => max a (g i)) b)
      ∧ (l.foldl (fun a i => max a (g i)) b = b ∨ ∃ i ∈ l, l.foldl (fun a i => max a (g i)) b = g i) := by
  induction l generalizing b with
  | nil => simp
  | cons i l ih =>
    obtain ⟨hstart, hall, hone⟩ := ih (max b (g i))
    rw [List.foldl_cons]
    refine ⟨(le_max_left _ _).trans hstart, ?_, ?_⟩
    · rintro j hj
      obtain rfl | hj := List.mem_cons.1 hj
      · exact (le_max_right _ _).trans hstart
      · exact hall j hj
    · obtain h | ⟨j, hj, h⟩ := hone
      · obtain hm | hm := max_choice b (g i)
        · exact .inl (h.trans hm)
        · exact .inr ⟨i, List.mem_cons_self, h.trans hm⟩
      · exact .inr ⟨j, List.mem_cons_of_mem _ hj, h⟩

/-- The temperature of a quire's sensor. -/
def State.sensorTemp (s : State) (q i : Nat) : Int := toSigned 12 (s.fld F.GOV_SENSOR_TEMP (16 * q + i))

/-- The quire takes the hottest of its sensors. -/
theorem execLaneTempRefresh_hottest (s : State) (q : Nat) (hq : q < 16) :
    ∃ t, execLaneTempRefresh q s = .next t ∧ (∀ i, i < 16 → s.sensorTemp q i ≤ t.quireTemp q) ∧ (∃ i, i < 16 ∧ t.quireTemp q = s.sensorTemp q i)
      ∧ Wrote s t [(F.LANE_QUIRE_TEMP_TEMP, q, t.fld F.LANE_QUIRE_TEMP_TEMP q)] := by
  have hrange (i : Nat) : -2048 ≤ s.sensorTemp q i ∧ s.sensorTemp q i < 2048 := toSigned_range 12 _ (by decide) (bits_lt _ _ _)
  obtain ⟨hstart, hall, hone⟩ := foldl_max_spec (s.sensorTemp q) (List.range 16) (-2048)
  generalize hmax : (List.range 16).foldl (fun a i => max a (s.sensorTemp q i)) (-2048) = m at hstart hall hone
  have hattained : ∃ i, i < 16 ∧ m = s.sensorTemp q i := by
    obtain h | ⟨i, hi, h⟩ := hone
    · exact ⟨0, by decide, le_antisymm (h ▸ (hrange 0).1) (hall 0 (by decide))⟩
    · exact ⟨i, List.mem_range.1 hi, h⟩
  have hfld : (s.setF F.LANE_QUIRE_TEMP_TEMP q (ofSigned 12 m)).fld F.LANE_QUIRE_TEMP_TEMP q = ofSigned 12 m := by
    rw [State.fld_setF_same _ _ _ _ (by decide)]
    exact Nat.mod_eq_of_lt (ofSigned_lt 12 m)
  have htemp : (s.setF F.LANE_QUIRE_TEMP_TEMP q (ofSigned 12 m)).quireTemp q = m := by
    obtain ⟨i, -, hi⟩ := hattained
    unfold State.quireTemp
    rw [hfld, toSigned_ofSigned 12 m (by decide) hstart (hi ▸ (hrange i).2)]
  refine ⟨s.setF F.LANE_QUIRE_TEMP_TEMP q (ofSigned 12 m), ?_, fun i hi => ?_, ?_, ?_⟩
  · unfold execLaneTempRefresh
    rw [if_pos hq]
    exact congrArg (fun m => Host.Outcome.next (s.setF F.LANE_QUIRE_TEMP_TEMP q (ofSigned 12 m))) hmax
  · rw [htemp]
    exact hall i (List.mem_range.2 hi)
  · rw [htemp]
    exact hattained
  · rw [hfld]
    exact Wrote.setF s _ q _ (by decide)

theorem bandsBelow_le (temp off : Int) : bandsBelow temp off ≤ 4 := List.length_filter_le _ _

/-- After a change of band the lane is in it. -/
theorem State.setBand_band (s : State) (n b : Nat) (hb : b < 8) : (s.setBand n b).fld F.LANE_STATUS_BAND n = b := by
  have hset : ((((s.setF F.LANE_STATUS_BAND n b).note (E.LANE_EQ_BAND_CHANGE (n / 64))).retarget n).fld F.LANE_STATUS_BAND n) = b := by
    unfold State.retarget
    rw [State.fld_setF_other _ _ _ _ _ (by rfl) (by decide) (by decide), State.note_fld, State.fld_setF_same _ _ _ _ (by decide)]
    exact Nat.mod_eq_of_lt hb
  unfold State.setBand
  split
  · assumption
  · dsimp only
    split
    · split
      · exact hset
      · exact hset
    · exact hset

/-- A lane that no force holds moves up to the band of the temperature at once, and down with 3 degrees of hysteresis. -/
theorem execLaneBandEval_follows (s : State) (n : Nat) (hn : n < 1024) :
    ∃ t, execLaneBandEval n s = .next t ∧ (s.flag F.LANE_CTL_BAND_FORCE_EN n = false →
      t.fld F.LANE_STATUS_BAND n = (if s.fld F.LANE_STATUS_BAND n < bandsBelow (s.quireTemp (n / 64)) 0 then bandsBelow (s.quireTemp (n / 64)) 0
        else min (s.fld F.LANE_STATUS_BAND n) (bandsBelow (s.quireTemp (n / 64)) 12))) := by
  refine ⟨_, by unfold execLaneBandEval; rw [if_pos hn], fun hfree => ?_⟩
  have hup := bandsBelow_le (s.quireTemp (n / 64)) 0
  have hdown := bandsBelow_le (s.quireTemp (n / 64)) 12
  have hband : s.fld F.LANE_STATUS_BAND n < 2 ^ 3 := bits_lt _ _ _
  dsimp only
  rw [State.forced, hfree, if_neg (by decide), State.setBand_band]
  · split
    · rfl
    · split <;> omega
  · split
    · omega
    · split <;> omega

/-! ### Steps of the equalisation codes -/

/-- One step of a code towards another. -/
def stepToward (a b : Int) : Int := if a < b then a + 1 else if b < a then a - 1 else b

/-- A code lies in the range of its field. -/
theorem eqCode_range (w : Nat) (f : Nat × Nat × Bool) (hw : 0 < f.2.1) :
    if f.2.2 then -(2 ^ (f.2.1 - 1) : Nat) ≤ eqCode w f ∧ eqCode w f < (2 ^ (f.2.1 - 1) : Nat) else 0 ≤ eqCode w f ∧ eqCode w f < (2 ^ f.2.1 : Nat) := by
  unfold eqCode
  split
  · exact toSigned_range _ _ hw (bits_lt _ _ _)
  · have := bits_lt w f.1 f.2.1
    omega

/-- A code that its field can hold reads as it was put. -/
theorem eqCode_putBits (w : Nat) (f : Nat × Nat × Bool) (c : Int) (hw : 0 < f.2.1)
    (hc : if f.2.2 then -(2 ^ (f.2.1 - 1) : Nat) ≤ c ∧ c < (2 ^ (f.2.1 - 1) : Nat) else 0 ≤ c ∧ c < (2 ^ f.2.1 : Nat)) :
    eqCode (putBits w f.1 f.2.1 (ofSigned f.2.1 c)) f = c := by
  unfold eqCode
  rw [bits_putBits_same, Nat.mod_eq_of_lt (ofSigned_lt _ _)]
  split at hc
  · next h => rw [if_pos h, toSigned_ofSigned _ _ hw hc.1 hc.2]
  · next h =>
    rw [if_neg h, ofSigned, Int.emod_eq_of_lt hc.1 hc.2]
    omega

/-- A step of a field's own code. -/
theorem eqCode_stepCode_same (w target : Nat) (f : Nat × Nat × Bool) (hw : 0 < f.2.1) :
    eqCode (stepCode w target f) f = stepToward (eqCode w f) (eqCode target f) := by
  have hnow := eqCode_range w f hw
  have hgoal := eqCode_range target f hw
  have hstep : (if eqCode w f < eqCode target f then eqCode w f + 1 else if eqCode target f < eqCode w f then eqCode w f - 1 else eqCode w f)
      = stepToward (eqCode w f) (eqCode target f) := by
    unfold stepToward
    split
    · rfl
    · split
      · rfl
      · omega
  unfold stepCode
  dsimp only
  rw [hstep]
  refine eqCode_putBits w f _ hw ?_
  unfold stepToward
  split at hnow
  · next h =>
    rw [if_pos h] at hgoal ⊢
    split
    · omega
    · split <;> omega
  · next h =>
    rw [if_neg h] at hgoal ⊢
    split
    · omega
    · split <;> omega

/-- Two codes of a word share no bit. -/
def CodesApart (f g : Nat × Nat × Bool) : Prop := f.1 + f.2.1 ≤ g.1 ∨ g.1 + g.2.1 ≤ f.1

/-- A step of another field's code leaves a code alone. -/
theorem eqCode_stepCode_other (w target : Nat) {f g : Nat × Nat × Bool} (h : CodesApart f g) : eqCode (stepCode w target g) f = eqCode w f := by
  unfold eqCode stepCode
  rw [bits_putBits_ne _ _ _ _ _ _ h]

theorem eqCode_foldl_other (target : Nat) (l : List (Nat × Nat × Bool)) (f : Nat × Nat × Bool) (h : ∀ g ∈ l, CodesApart f g) (w : Nat) :
    eqCode (l.foldl (fun w g => stepCode w target g) w) f = eqCode w f := by
  induction l generalizing w with
  | nil => rfl
  | cons g l ih =>
    rw [List.foldl_cons, ih fun x hx => h x (List.mem_cons_of_mem _ hx), eqCode_stepCode_other _ _ (h g List.mem_cons_self)]

/-- A step of every code of a word moves each towards its own target. -/
theorem eqCode_foldl (target : Nat) (l : List (Nat × Nat × Bool)) (hl : l.Pairwise CodesApart) (hw : ∀ f ∈ l, 0 < f.2.1) (w : Nat) :
    ∀ f ∈ l, eqCode (l.foldl (fun w g => stepCode w target g) w) f = stepToward (eqCode w f) (eqCode target f) := by
  induction l generalizing w with
  | nil => simp
  | cons g l ih =>
    obtain ⟨hg, hl⟩ := List.pairwise_cons.1 hl
    intro f hf
    rw [List.foldl_cons]
    obtain rfl | hf := List.mem_cons.1 hf
    · rw [eqCode_foldl_other target l f hg, eqCode_stepCode_same w target f (hw f List.mem_cons_self)]
    · rw [ih hl (fun x hx => hw x (List.mem_cons_of_mem _ hx)) _ f hf, eqCode_stepCode_other _ _ (Or.symm (hg f hf))]

/-- A code below bit 32 is a code of the register that holds it. -/
theorem eqCode_mod_word (w : Nat) (f : Nat × Nat × Bool) (h : f.1 + f.2.1 ≤ 32) : eqCode (w % 2 ^ 32) f = eqCode w f := by
  unfold eqCode
  rw [bits_mod_word _ _ _ h]

theorem State.retarget_rd (s : State) (n : Nat) (q : Reg) (j : Nat) (h : q.key j ≠ R.LANE_STATUS.key n) : (s.retarget n).rd q j = s.rd q j :=
  State.rd_setF_ne s _ (by exact h)

/-- The transmit codes and the receive codes of a word lie apart in 32 bits. -/
theorem txCodes_apart : txCodes.Pairwise CodesApart ∧ ∀ f ∈ txCodes, 0 < f.2.1 ∧ f.1 + f.2.1 ≤ 32 := by simp [txCodes, CodesApart]
theorem rxCodes_apart : rxCodes.Pairwise CodesApart ∧ ∀ f ∈ rxCodes, 0 < f.2.1 ∧ f.1 + f.2.1 ≤ 32 := by simp [rxCodes, CodesApart]

/-- Every code of a stepping lane moves one step towards its target, and no register but the codes' and the lane's status changes. -/
theorem execLaneEqStep_steps (s : State) (n : Nat) (hn : n < 1024) (hs : s.flag F.LANE_STATUS_STEPPING n = true) :
    ∃ t, execLaneEqStep n s = .next t
      ∧ (∀ f ∈ txCodes, eqCode (t.rd R.LANE_EQ_NOW_TX n) f = stepToward (eqCode (s.rd R.LANE_EQ_NOW_TX n) f) (eqCode (s.targetTx n) f))
      ∧ (∀ f ∈ rxCodes, eqCode (t.rd R.LANE_EQ_NOW_RX n) f = stepToward (eqCode (s.rd R.LANE_EQ_NOW_RX n) f) (eqCode (s.targetRx n) f))
      ∧ ∀ x j, x.key j ≠ R.LANE_EQ_NOW_TX.key n → x.key j ≠ R.LANE_EQ_NOW_RX.key n → x.key j ≠ R.LANE_STATUS.key n → t.rd x j = s.rd x j := by
  obtain ⟨htr, hts, hrs⟩ := lane_code_keys n
  obtain ⟨htx, htw⟩ := txCodes_apart
  obtain ⟨hrx, hrw⟩ := rxCodes_apart
  refine ⟨_, by unfold execLaneEqStep; rw [if_pos ⟨hn, hs⟩], fun f hf => ?_, fun f hf => ?_, fun x j hxt hxr hxs => ?_⟩
  · rw [State.retarget_rd _ _ _ _ hts, State.rd_wr_ne _ _ htr, State.rd_wr_same, eqCode_mod_word _ f (htw f hf).2,
      eqCode_foldl _ _ htx (fun f hf => (htw f hf).1) _ f hf]
  · rw [State.retarget_rd _ _ _ _ hrs, State.rd_wr_same, eqCode_mod_word _ f (hrw f hf).2, eqCode_foldl _ _ hrx (fun f hf => (hrw f hf).1) _ f hf]
  · rw [State.retarget_rd _ _ _ _ hxs, State.rd_wr_ne _ _ hxr, State.rd_wr_ne _ _ hxt]

end Sys2Proof.Machine

namespace Sys2Proof.Machine

/-! ### PCS alignment and FEC windows -/

/-- A lane of a port that has alignment-marker lock, and its skew. -/
def alignedWrites (n skew : Nat) : List (Fld × Nat × Nat) := [(F.PCS_STATUS_AM_LOCK, n, 1), (F.PCS_STATUS_SKEW_NS, n, skew)]

theorem State.portLanes_nodup (s : State) (p : Nat) : (s.portLanes p).Nodup := List.nodup_range.map (add_right_injective p)

/-- Alignment writes the status of every lane, and then of the port. -/
theorem State.alignment_wrote (s : State) (l : List Nat) (p : Nat) (skew : Nat → Nat) (hl : l.Nodup) :
    Wrote s (s.setAll (l.flatMap (fun n => alignedWrites n (skew n)) ++ [(F.PCS_STATUS_ALIGNED, p, 1)]))
      (l.flatMap (fun n => alignedWrites n (skew n)) ++ [(F.PCS_STATUS_ALIGNED, p, 1)]) := by
  have hkey {n m : Nat} (h : n ≠ m) : R.PCS_STATUS.key n ≠ R.PCS_STATUS.key m := Reg.key_lane_ne (by rfl) h
  refine Wrote.setAll s _ ?_ ?_
  · intro e he
    simp only [alignedWrites, List.mem_append, List.mem_flatMap, List.mem_cons, List.not_mem_nil, or_false] at he
    obtain ⟨n, -, rfl | rfl⟩ | rfl := he <;> simp [F.PCS_STATUS_AM_LOCK, F.PCS_STATUS_SKEW_NS, F.PCS_STATUS_ALIGNED]
  · rw [List.pairwise_append, List.pairwise_flatMap]
    refine ⟨⟨fun n _ => ?_, hl.imp fun {n m} hnm d hd e he => ?_⟩, List.pairwise_singleton _ _, fun d hd e he => ?_⟩
    · simp [alignedWrites, Separate, F.PCS_STATUS_AM_LOCK, F.PCS_STATUS_SKEW_NS]
    · refine .inl ?_
      simp only [alignedWrites, List.mem_cons, List.not_mem_nil, or_false] at hd he
      obtain rfl | rfl := hd <;> obtain rfl | rfl := he <;> exact hkey hnm
    · obtain rfl := List.mem_singleton.1 he
      obtain ⟨n, -, hd⟩ := List.mem_flatMap.1 hd
      obtain rfl | hnp := eq_or_ne n p
      · simp only [alignedWrites, List.mem_cons, List.not_mem_nil, or_false] at hd
        obtain rfl | rfl := hd <;> exact .inr ⟨rfl, rfl, by simp [F.PCS_STATUS_AM_LOCK, F.PCS_STATUS_SKEW_NS, F.PCS_STATUS_ALIGNED]⟩
      · simp only [alignedWrites, List.mem_cons, List.not_mem_nil, or_false] at hd
        obtain rfl | rfl := hd <;> exact .inl (hkey hnp)

/-- An Ethernet port whose lanes are all locked and deskewed within 200 ns is aligned. -/
theorem execPcsAlignment_aligned (s : State) (p am : Nat) (skews : List Nat) (hc : s.portConfigured p = true) (hs : s.speed p ≠ 5)
    (hm : bit 0x78 s.mode = true)
    (hl : ∀ n ∈ s.portLanes p, bit am (n - p) = true ∧ s.flag F.LANE_STATUS_CDR_LOCK n = true ∧ skews.getD (n - p) 0 ≤ 200) :
    ∃ u, Wrote s u (((s.portLanes p).flatMap fun n => [(F.PCS_STATUS_AM_LOCK, n, 1), (F.PCS_STATUS_SKEW_NS, n, skews.getD (n - p) 0)])
        ++ [(F.PCS_STATUS_ALIGNED, p, 1)])
      ∧ execPcsAlignment p am skews true s = .next (u.checkPort p) := by
  refine ⟨_, s.alignment_wrote _ p (fun n => skews.getD (n - p) 0) (s.portLanes_nodup p), ?_⟩
  have hok : ((s.portLanes p).all fun n => (bit am (n - p) && s.flag F.LANE_STATUS_CDR_LOCK n) && decide (skews.getD (n - p) 0 ≤ 200)) = true := by
    rw [List.all_eq_true]
    intro n hn
    obtain ⟨ham, hcdr, hskew⟩ := hl n hn
    rw [ham, hcdr, decide_eq_true hskew]
    rfl
  have hlanes : (s.each (s.portLanes p) fun n t =>
      (t.setF F.PCS_STATUS_AM_LOCK n (b2n (bit am (n - p) && s.flag F.LANE_STATUS_CDR_LOCK n))).setF F.PCS_STATUS_SKEW_NS n
        (satBits 8 (skews.getD (n - p) 0))) = s.setAll ((s.portLanes p).flatMap fun n => alignedWrites n (skews.getD (n - p) 0)) := by
    refine (s.each_setAll (s.portLanes p) fun n => [(F.PCS_STATUS_AM_LOCK, n, b2n (bit am (n - p) && s.flag F.LANE_STATUS_CDR_LOCK n)),
      (F.PCS_STATUS_SKEW_NS, n, satBits 8 (skews.getD (n - p) 0))]).trans (congrArg s.setAll (List.flatMap_congr fun n hn => ?_))
    obtain ⟨ham, hcdr, hskew⟩ := hl n hn
    have hsat : satBits 8 (skews.getD (n - p) 0) = skews.getD (n - p) 0 := Nat.min_eq_left (by omega)
    rw [ham, hcdr, hsat]
    rfl
  unfold execPcsAlignment
  dsimp only
  rw [hc, hm, bne_iff_ne.2 hs, if_pos (by rfl), hok, if_pos (by rfl), hlanes, State.setAll_append]
  rfl

/-- A window's corrected and uncorrected codewords of a port. -/
def State.fecWrites (s : State) (p cor unc : Nat) : List (Fld × Nat × Nat) :=
  [(F.PCS_FEC_CORRECTED_COUNT, p, satBits 32 (s.fld F.PCS_FEC_CORRECTED_COUNT p + cor)),
    (F.PCS_FEC_UNCORRECTED_COUNT, p, satBits 32 (s.fld F.PCS_FEC_UNCORRECTED_COUNT p + unc))]

/-- The record of a port that becomes degraded. -/
def State.degradeWrites (s : State) (p : Nat) : List (Fld × Nat × Nat) :=
  [(F.PCS_STATUS_DEGRADED, p, 1), (F.PCS_STATUS_DEGRADE_SET, p, 1),
    (F.PCS_STATUS_DEGRADE_COUNT, p, satBits 8 (s.fld F.PCS_STATUS_DEGRADE_COUNT p + 1))]

theorem fec_keys (p : Nat) : R.PCS_FEC_CORRECTED.key p ≠ R.PCS_FEC_UNCORRECTED.key p ∧ R.PCS_FEC_CORRECTED.key p ≠ R.PCS_STATUS.key p
    ∧ R.PCS_FEC_UNCORRECTED.key p ≠ R.PCS_STATUS.key p ∧ R.PCS_FEC_CORRECTED.key p ≠ R.PCS_FEC_CFG.key p
    ∧ R.PCS_FEC_UNCORRECTED.key p ≠ R.PCS_FEC_CFG.key p :=
  ⟨Reg.key_ne_of_base (by rfl) (by decide) p, Reg.key_ne_of_base (by rfl) (by decide) p, Reg.key_ne_of_base (by rfl) (by decide) p,
    Reg.key_ne_of_base (by rfl) (by decide) p, Reg.key_ne_of_base (by rfl) (by decide) p⟩

theorem State.degraded_wrote (s : State) (p cor unc : Nat) :
    Wrote s (s.setAll (s.fecWrites p cor unc ++ s.degradeWrites p)) (s.fecWrites p cor unc ++ s.degradeWrites p) := by
  obtain ⟨hcu, hcs, hus, -, -⟩ := fec_keys p
  refine Wrote.setAll s _ ?_ ?_ <;>
    simp [State.fecWrites, State.degradeWrites, Separate, hcu, hcs, hus, F.PCS_FEC_CORRECTED_COUNT, F.PCS_FEC_UNCORRECTED_COUNT,
      F.PCS_STATUS_DEGRADED, F.PCS_STATUS_DEGRADE_SET, F.PCS_STATUS_DEGRADE_COUNT]

theorem State.fecWrites_wrote (s : State) (p cor unc : Nat) : Wrote s (s.setAll (s.fecWrites p cor unc)) (s.fecWrites p cor unc) := by
  obtain ⟨hcu, -⟩ := fec_keys p
  refine Wrote.setAll s _ ?_ ?_ <;> simp [State.fecWrites, Separate, hcu, F.PCS_FEC_CORRECTED_COUNT, F.PCS_FEC_UNCORRECTED_COUNT]

/-- The counts leave the port's status and its threshold as they are. -/
theorem State.fecWrites_fld (s : State) (p cor unc : Nat) (f : Fld) (hf : f.reg = R.PCS_STATUS ∨ f.reg = R.PCS_FEC_CFG) :
    (s.setAll (s.fecWrites p cor unc)).fld f p = s.fld f p := by
  obtain ⟨-, hcs, hus, hcc, huc⟩ := fec_keys p
  unfold State.fld
  rw [State.setAll_rd]
  simp only [State.fecWrites, List.mem_cons, List.not_mem_nil, or_false, forall_eq_or_imp, forall_eq]
  obtain h | h := hf <;> rw [h]
  · exact ⟨hcs, hus⟩
  · exact ⟨hcc, huc⟩

theorem State.fec_counted (s : State) (p cor unc : Nat) :
    (s.addSat F.PCS_FEC_CORRECTED_COUNT p cor).addSat F.PCS_FEC_UNCORRECTED_COUNT p unc = s.setAll (s.fecWrites p cor unc) := by
  obtain ⟨hcu, -⟩ := fec_keys p
  have hfld : (s.addSat F.PCS_FEC_CORRECTED_COUNT p cor).fld F.PCS_FEC_UNCORRECTED_COUNT p = s.fld F.PCS_FEC_UNCORRECTED_COUNT p :=
    State.fld_setF_ne s _ (by exact hcu.symm)
  rw [State.addSat, hfld]
  rfl

/-- A window of a port that is not degraded is counted, and beyond the threshold the port becomes degraded. -/
theorem execFecWindowEnd_counts (s : State) (p syms cor unc : Nat) (hc : s.portConfigured p = true) (hs : s.speed p ≠ 5)
    (hd : s.flag F.PCS_STATUS_DEGRADED p = false) :
    execFecWindowEnd p syms cor unc s = .next (if s.fld F.PCS_FEC_CFG_THRESHOLD p < syms
      then (s.setAll (s.fecWrites p cor unc ++ s.degradeWrites p)).note (E.PCS_FEC_DEGRADE (p / 64)) else s.setAll (s.fecWrites p cor unc)) := by
  have hdeg : (s.setAll (s.fecWrites p cor unc)).flag F.PCS_STATUS_DEGRADED p = false := by
    rw [State.flag, s.fecWrites_fld p cor unc _ (.inl rfl)]
    exact hd
  have hcount : ((s.setAll (s.fecWrites p cor unc)).setF F.PCS_STATUS_DEGRADED p 1).setCounted F.PCS_STATUS_DEGRADE_SET F.PCS_STATUS_DEGRADE_COUNT p
      = s.setAll (s.fecWrites p cor unc ++ s.degradeWrites p) := by
    rw [State.setCounted_eq _ _ _ _ (by rfl) (by decide) (by decide), State.fld_setF_other _ _ _ _ _ (by rfl) (by decide) (by decide),
      s.fecWrites_fld p cor unc _ (.inl rfl), State.setAll_append]
    rfl
  unfold execFecWindowEnd
  dsimp only
  rw [hc, bne_iff_ne.2 hs, if_pos (by rfl), State.fec_counted, hdeg, if_neg (by decide), s.fecWrites_fld p cor unc _ (.inr rfl), hcount]

theorem execFecWindowEnd_within (s : State) (p syms cor unc : Nat) (hc : s.portConfigured p = true) (hs : s.speed p ≠ 5)
    (hd : s.flag F.PCS_STATUS_DEGRADED p = false) (h : syms ≤ s.fld F.PCS_FEC_CFG_THRESHOLD p) :
    ∃ t, execFecWindowEnd p syms cor unc s = .next t ∧ Wrote s t (s.fecWrites p cor unc) :=
  ⟨_, (execFecWindowEnd_counts s p syms cor unc hc hs hd).trans (by rw [if_neg (by omega)]), s.fecWrites_wrote p cor unc⟩

theorem execFecWindowEnd_beyond (s : State) (p syms cor unc : Nat) (hc : s.portConfigured p = true) (hs : s.speed p ≠ 5)
    (hd : s.flag F.PCS_STATUS_DEGRADED p = false) (h : s.fld F.PCS_FEC_CFG_THRESHOLD p < syms) :
    ∃ u, Wrote s u (s.fecWrites p cor unc ++ s.degradeWrites p)
      ∧ execFecWindowEnd p syms cor unc s = .next (u.note (E.PCS_FEC_DEGRADE (p / 64))) :=
  ⟨_, s.degraded_wrote p cor unc, (execFecWindowEnd_counts s p syms cor unc hc hs hd).trans (by rw [if_pos h])⟩

/-! ### The pattern checker and injected errors -/

/-- A checker without lock: the 64th error-free symbol in a row gives it, one before it is counted, and an error starts the count again. -/
theorem execPrbsCheckerLock_symbol (s : State) (n e : Nat) (hn : n < 1024) (hm : s.mode = 6) (hen : s.flag F.LANE_PRBS_CTL_CHK_EN n = true)
    (hl : s.flag F.LANE_PRBS_STATUS_CHK_LOCK n = false) :
    execPrbsCheckerLock n [e] s = .next (if e = 0 then
        if (s.lane n).chkRun + 1 = 64 then (s.putLane n { s.lane n with chkRun := 0, chkWin := [] }).setF F.LANE_PRBS_STATUS_CHK_LOCK n 1
        else s.putLane n { s.lane n with chkRun := (s.lane n).chkRun + 1 }
      else s.putLane n { s.lane n with chkRun := 0 }) := by
  unfold execPrbsCheckerLock
  rw [if_pos ⟨hn, hm, hen⟩, State.each_cons, State.each_nil, State.checkSymbol]
  dsimp only
  rw [hl, if_neg (by decide)]

theorem execPrbsCheckerLock_locks (s : State) (n : Nat) (hn : n < 1024) (hm : s.mode = 6) (hen : s.flag F.LANE_PRBS_CTL_CHK_EN n = true)
    (hl : s.flag F.LANE_PRBS_STATUS_CHK_LOCK n = false) (hrun : (s.lane n).chkRun = 63) :
    ∃ t, execPrbsCheckerLock n [0] s = .next t
      ∧ Wrote (s.putLane n { s.lane n with chkRun := 0, chkWin := [] }) t [(F.LANE_PRBS_STATUS_CHK_LOCK, n, 1)] :=
  ⟨_, (execPrbsCheckerLock_symbol s n 0 hn hm hen hl).trans (by rw [if_pos rfl, if_pos (by omega)]), Wrote.setF _ _ n 1 (by decide)⟩

theorem execPeriodicInjection_injects (s : State) (n : Nat) (hn : n < 1024) (hm : s.mode = 6) (hi : s.fld F.LANE_INJ_CFG_MODE n = 3) :
    execPeriodicInjection n s = .next (s.inject n 1) := by
  unfold execPeriodicInjection
  rw [if_pos ⟨hn, hm, hi⟩]

/-- A granted FIRE in Test injects one error, and FIRE reads 0 again. -/
theorem execLaneInjFire_injects (s : State) (n : Nat) (hn : n < 1024) (hm : s.mode = 6) (hi : s.fld F.LANE_INJ_CFG_MODE n = 1)
    (hw : HostMayWrite s (12 + 6 * (n / 64))) :
    ∃ t, execLaneInjFire n s = .next t ∧ Wrote (s.inject n 1) t [(F.LANE_INJ_CFG_FIRE, n, 0)] := by
  have hmode : (s.setF F.LANE_INJ_CFG_FIRE n 0).mode = s.mode := State.setF_mode _ _ _ _ (by
    have := R.LANE_INJ_CFG.base_le n
    have glb : R.GLB_MODE.key 0 = 0x10 := by decide
    simp only [R.LANE_INJ_CFG] at this
    simp only [F.GLB_MODE_MODE, F.LANE_INJ_CFG_FIRE, R.LANE_INJ_CFG, glb]
    omega)
  have hinj : (s.setF F.LANE_INJ_CFG_FIRE n 0).fld F.LANE_INJ_CFG_MODE n = 1 := by
    rw [State.fld_setF_other _ _ _ _ _ (by rfl) (by decide) (by decide), hi]
  have hfire : s.fire n = (s.setF F.LANE_INJ_CFG_FIRE n 0).inject n 1 := by
    unfold State.fire
    dsimp only
    rw [hmode, if_neg (by omega), hinj, if_pos rfl]
  refine ⟨_, ?_, Wrote.setF (s.inject n 1) F.LANE_INJ_CFG_FIRE n 0 (by decide)⟩
  unfold execLaneInjFire
  rw [if_pos hn, hw.writes (unitOfOffset_lane 0 (by rfl) (by decide) (by decide) n hn), hfire]
  rfl

/-- Settles O18: each signal of a lane and of its PCS by the fields it writes; an equalisation step code by code. -/
theorem lanesFollowTheirSignals : Obligations.LanesFollowTheirSignals := by
  unfold Obligations.LanesFollowTheirSignals
  refine ⟨fun s n hn => ⟨fun hen hm => ⟨execLaneTxPllLock_locks s n hn hen hm, execLaneCdrLock_locks s n hn hen hm,
        execLaneSignalLoss_cdr s n hn hen, execLaneSignalLoss_signal s n hn hen⟩,
      execLaneTempRefresh_hottest s, execLaneBandEval_follows s n hn, execLaneEqStep_steps s n hn⟩,
    fun s => ⟨fun p am skews _ hc hs hm hl => execPcsAlignment_aligned s p am skews hc hs hm hl,
      fun p syms cor unc _ hc hs hd => ⟨execFecWindowEnd_within s p syms cor unc hc hs hd, execFecWindowEnd_beyond s p syms cor unc hc hs hd⟩,
      fun n hn => ⟨fun hm hen hl => ⟨execPrbsCheckerLock_locks s n hn hm hen hl, fun hrun => ?_, fun e he => ?_⟩,
        execPeriodicInjection_injects s n hn, execLaneInjFire_injects s n hn⟩⟩⟩
  · exact (execPrbsCheckerLock_symbol s n 0 hn hm hen hl).trans (by rw [if_pos rfl, if_neg (by omega)])
  · exact (execPrbsCheckerLock_symbol s n e hn hm hen hl).trans (by rw [if_neg (by omega)])

end Sys2Proof.Machine

namespace Sys2Proof.Machine

/-! ### What a port that goes down leaves alone: the registers of lanes, PCS and Stitch links -/

/-- The registers of the quires but those of their MACs (R578). -/
def linkKey (a : Nat) : Bool := decide (0x10000000 ≤ a ∧ a < 0x20000000 ∧ a / 0x100000 % 16 ≠ 3)

/-- What these registers hold. -/
def linkRegs (t : Tab Word) : Nat → Option Word := fun k => if linkKey k then Tab.find? t k else none

theorem State.rd_of_linkRegs {s t : State} (h : linkRegs t.regs = linkRegs s.regs) (q : Reg) (j : Nat) (hk : linkKey (q.key j) = true) :
    t.rd q j = s.rd q j := by
  have hf := congrFun h (q.key j)
  unfold linkRegs at hf
  rw [if_pos hk, if_pos hk] at hf
  unfold State.rd
  rw [hf]

theorem State.wr_linkRegs_at (s : State) (r : Reg) (i v : Nat) (h : linkKey (r.key i) = false) : linkRegs (s.wr r i v).regs = linkRegs s.regs := by
  funext k
  unfold linkRegs State.wr
  split
  · next hk => exact regPut_find?_ne _ _ _ fun e => by rw [e, h] at hk; cases hk
  · rfl

theorem State.each_keeps_mem {α β : Type} (g : State → β) (l : List α) (f : α → State → State) (s : State)
    (h : ∀ a ∈ l, ∀ s, g (f a s) = g s) : g (s.each l f) = g s := by
  induction l generalizing s with
  | nil => rfl
  | cons a l ih => rw [State.each_cons, ih _ fun b hb => h b (List.mem_cons_of_mem _ hb), h a List.mem_cons_self]

@[simp] theorem State.each_linkRegs {α : Type} (s : State) (l : List α) (f : α → State → State) (h : ∀ a s, linkRegs (f a s).regs = linkRegs s.regs) :
    linkRegs (s.each l f).regs = linkRegs s.regs := State.each_keeps (fun s => linkRegs s.regs) l f s h

/-! #### Writes beyond the quires -/

theorem linkKey_high {a : Nat} (h : 0x20000000 ≤ a) : linkKey a = false := decide_eq_false (by omega)

theorem State.wr_linkRegs (s : State) (r : Reg) (i v : Nat) (h : 0x20000000 ≤ r.base) : linkRegs (s.wr r i v).regs = linkRegs s.regs :=
  s.wr_linkRegs_at r i v (linkKey_high (h.trans (r.base_le i)))

theorem State.setF_linkRegs (s : State) (f : Fld) (i v : Nat) (h : 0x20000000 ≤ f.reg.base) : linkRegs (s.setF f i v).regs = linkRegs s.regs :=
  s.wr_linkRegs _ i _ h

theorem State.inc_linkRegs (s : State) (f : Fld) (i : Nat) (h : 0x20000000 ≤ f.reg.base) : linkRegs (s.inc f i).regs = linkRegs s.regs :=
  s.wr_linkRegs _ i _ h

theorem State.setCounted_linkRegs (s : State) (b c : Fld) (i : Nat) (hb : 0x20000000 ≤ b.reg.base) (hc : 0x20000000 ≤ c.reg.base) :
    linkRegs (s.setCounted b c i).regs = linkRegs s.regs := (State.inc_linkRegs _ c i hc).trans (s.setF_linkRegs b i 1 hb)

theorem State.count64_linkRegs (s : State) (lo hi : Reg) (i n : Nat) (hl : 0x20000000 ≤ lo.base) (hh : 0x20000000 ≤ hi.base) :
    linkRegs (s.count64 lo hi i n).regs = linkRegs s.regs := (State.wr_linkRegs _ hi i _ hh).trans (s.wr_linkRegs lo i _ hl)

/-! #### The counters of the tally units -/

theorem linkKey_low {a : Nat} (h : a < 0x10000000) : linkKey a = false := decide_eq_false (by omega)

/-- A unit with counters is one of the 448, and has at most 48 of them. -/
theorem tlyUnitCounters_bound (u k : Nat) (h : k < tlyUnitCounters u) : u < 448 ∧ k < 48 := by
  by_cases hu : u < 448
  · refine ⟨hu, h.trans_le ?_⟩
    unfold tlyUnitCounters
    dsimp only
    (repeat' split) <;> try omega
    next hk => interval_cases (u / 32) <;> decide
  · exfalso
    unfold tlyUnitCounters at h
    dsimp only at h
    rw [if_neg (by omega), if_neg (by omega), if_neg (by omega)] at h
    omega

theorem linkKey_cnt (u k : Nat) (hu : u < 448) (hk : k < 48) : linkKey (R.TLY_CNT_SEL.key (k + 48 * u)) = false
    ∧ linkKey (R.TLY_CNT_LO.key (k + 48 * u)) = false ∧ linkKey (R.TLY_CNT_HI.key (k + 48 * u)) = false := by
  have sel : R.TLY_CNT_SEL.key (k + 48 * u) = 0x8100000 + ((k + 48 * u) % 48 * 0x10 + (k + 48 * u) / 48 * 0x400) := (rfl)
  have lo : R.TLY_CNT_LO.key (k + 48 * u) = 0x8100004 + ((k + 48 * u) % 48 * 0x10 + (k + 48 * u) / 48 * 0x400) := (rfl)
  have hi : R.TLY_CNT_HI.key (k + 48 * u) = 0x8100008 + ((k + 48 * u) % 48 * 0x10 + (k + 48 * u) / 48 * 0x400) := (rfl)
  exact ⟨linkKey_low (by omega), linkKey_low (by omega), linkKey_low (by omega)⟩

theorem State.addCnt_linkRegs (s : State) (u k n : Nat) (hu : u < 448) (hk : k < 48) : linkRegs (s.addCnt u k n).regs = linkRegs s.regs := by
  obtain ⟨hsel, hlo, hhi⟩ := linkKey_cnt u k hu hk
  unfold State.addCnt State.wr64
  dsimp only
  rw [State.wr_linkRegs_at _ _ _ _ hhi, State.wr_linkRegs_at _ _ _ _ hlo]
  split
  · exact State.wr_linkRegs_at _ _ _ _ hsel
  · rfl

@[simp] theorem State.unitEvent_linkRegs (s : State) (u code n : Nat) : linkRegs (s.unitEvent u code n).regs = linkRegs s.regs := by
  unfold State.unitEvent
  split
  · rfl
  · refine State.each_keeps_mem (fun s => linkRegs s.regs) _ _ s fun k hk s => ?_
    obtain ⟨hu, hk⟩ := tlyUnitCounters_bound u k (List.mem_range.1 hk)
    dsimp only
    split
    · exact s.addCnt_linkRegs u k _ hu hk
    · rfl

/-! #### Folios and descriptors -/

theorem State.putLink_regs (s : State) (f : Nat) (l : Link) : (s.putLink f l).regs = s.regs := (rfl)

theorem State.bankEvent_linkRegs (s : State) (f code : Nat) : linkRegs (s.bankEvent f code).regs = linkRegs s.regs := s.unitEvent_linkRegs _ code 1

theorem State.creditPool_linkRegs (s : State) (d p : Nat) : linkRegs (s.creditPool d p).regs = linkRegs s.regs := by
  unfold State.creditPool
  dsimp only
  (repeat' split) <;> exact State.setF_linkRegs _ _ _ _ (by decide)

@[simp] theorem State.freeFolio_linkRegs (s : State) (who f pool unit : Nat) : linkRegs (s.freeFolio who f pool unit).regs = linkRegs s.regs := by
  unfold State.freeFolio
  dsimp only
  (repeat' split) <;> simp (disch := decide) only [State.vaultStat, State.note_regs, State.setF_linkRegs, State.inc_linkRegs, State.setCounted_linkRegs,
    State.count64_linkRegs, State.putLink_regs, State.bankEvent_linkRegs, State.creditPool_linkRegs]

@[simp] theorem State.evalXoff_linkRegs (s : State) (d p : Nat) : linkRegs (s.evalXoff d p).regs = linkRegs s.regs := by
  unfold State.evalXoff
  dsimp only
  (repeat' split) <;> simp (disch := decide) only [State.poolStat, State.note_regs, State.setF_linkRegs, State.count64_linkRegs]

@[simp] theorem State.settleDie_linkRegs (s : State) (d : Nat) : linkRegs (s.settleDie d).regs = linkRegs s.regs := by
  unfold State.settleDie State.refreshDie
  dsimp only
  rw [State.each_linkRegs _ _ _ fun p s => s.evalXoff_linkRegs d p]
  split <;> simp (disch := decide) only [State.note_regs, State.setF_linkRegs]

@[simp] theorem State.freeDesc_linkRegs (s : State) (k : Nat) : linkRegs (s.freeDesc k).regs = linkRegs s.regs := by
  unfold State.freeDesc
  split
  · rfl
  · exact State.inc_linkRegs _ F.VLT_DIE_DESC_FREE_DESC _ (by decide)

@[simp] theorem State.releaseDesc_linkRegs (s : State) (who k : Nat) : linkRegs (s.releaseDesc who k).regs = linkRegs s.regs := by
  unfold State.releaseDesc
  split <;> simp

@[simp] theorem State.dropCopy_linkRegs (s : State) (n : Nat) : linkRegs (s.dropCopy n).regs = linkRegs s.regs := by
  unfold State.dropCopy
  split
  · rfl
  · dsimp only [State.putCopy]
    split <;> simp

/-! #### The MAC of a port -/

theorem linkKey_mac {q : Reg} (hq : q.dims = laneDims) (hb : 0x10300000 ≤ q.base ∧ q.base < 0x10301000) (n : Nat) : linkKey (q.key n) = false := by
  rw [Reg.key_lane hq]
  exact decide_eq_false (by omega)

/-- A register of an array of a MAC. -/
theorem linkKey_macArray {a b k p q : Nat} (h : a = b + (k + (p % 64 * 0x1000 + q * 0x1000000))) (hb : 0x10300000 ≤ b) (hk : b + k < 0x10301000) :
    linkKey a = false := decide_eq_false (by omega)

theorem linkKey_macStat (i : Nat) : linkKey (R.MAC_STAT_LO.key i) = false ∧ linkKey (R.MAC_STAT_HI.key i) = false := by
  have lo : R.MAC_STAT_LO.key i = 0x10300400 + (i % 48 * 8 + (i / 48 % 64 * 0x1000 + i / 48 / 64 * 0x1000000)) := (rfl)
  have hi : R.MAC_STAT_HI.key i = 0x10300404 + (i % 48 * 8 + (i / 48 % 64 * 0x1000 + i / 48 / 64 * 0x1000000)) := (rfl)
  exact ⟨linkKey_macArray lo (by decide) (by omega), linkKey_macArray hi (by decide) (by omega)⟩

theorem linkKey_macSat (i : Nat) : linkKey (R.MAC_STAT_SAT.key i) = false := by
  have key : R.MAC_STAT_SAT.key i = 0x10300380 + (i % 2 * 4 + (i / 2 % 64 * 0x1000 + i / 2 / 64 * 0x1000000)) := (rfl)
  exact linkKey_macArray key (by decide) (by omega)

theorem linkKey_pfcTimer (i : Nat) : linkKey (R.MAC_PFC_TIMER.key i) = false := by
  have key : R.MAC_PFC_TIMER.key i = 0x10300030 + (i % 8 * 4 + (i / 8 % 64 * 0x1000 + i / 8 / 64 * 0x1000000)) := (rfl)
  exact linkKey_macArray key (by decide) (by omega)

/-- A field of a MAC's register. -/
theorem State.setF_mac_linkRegs (s : State) (f : Fld) (i v : Nat) (hf : f.reg.dims = laneDims) (hb : 0x10300000 ≤ f.reg.base ∧ f.reg.base < 0x10301000) :
    linkRegs (s.setF f i v).regs = linkRegs s.regs := s.wr_linkRegs_at _ i _ (linkKey_mac hf hb i)

theorem State.setCounted_mac_linkRegs (s : State) (b c : Fld) (i : Nat)
    (hb : b.reg.dims = laneDims) (hbb : 0x10300000 ≤ b.reg.base ∧ b.reg.base < 0x10301000)
    (hc : c.reg.dims = laneDims) (hcb : 0x10300000 ≤ c.reg.base ∧ c.reg.base < 0x10301000) :
    linkRegs (s.setCounted b c i).regs = linkRegs s.regs :=
  (State.setF_mac_linkRegs _ c i _ hc hcb).trans (s.setF_mac_linkRegs b i 1 hb hbb)

@[simp] theorem State.macStat_linkRegs (s : State) (p k n : Nat) : linkRegs (s.macStat p k n).regs = linkRegs s.regs := by
  obtain ⟨hlo, hhi⟩ := linkKey_macStat (k + 48 * p)
  unfold State.macStat State.count64 State.wr64
  dsimp only
  rw [State.wr_linkRegs_at _ _ _ _ hhi, State.wr_linkRegs_at _ _ _ _ hlo]
  (repeat' split) <;> simp only [State.wr_linkRegs_at _ _ _ _ (linkKey_macSat _), State.unitEvent_linkRegs]

@[simp] theorem State.putMac_regs (s : State) (p : Nat) (m : Mac) : (s.putMac p m).regs = s.regs := (rfl)

@[simp] theorem State.endSending_linkRegs (s : State) (p : Nat) : linkRegs (s.endSending p).regs = linkRegs s.regs := by
  unfold State.endSending
  dsimp only
  (repeat' split) <;> simp

@[simp] theorem State.endPause_linkRegs (s : State) (p q : Nat) : linkRegs (s.endPause p q).regs = linkRegs s.regs := by
  unfold State.endPause
  dsimp only
  rw [State.setF_mac_linkRegs _ _ _ _ (by rfl) (by decide)]
  refine (State.wr_linkRegs_at _ F.MAC_PFC_TIMER_REMAINING.reg _ _ (linkKey_pfcTimer _)).trans ?_
  rw [State.putMac_regs]
  split <;> simp

@[simp] theorem State.setLive_linkRegs (s : State) (p : Nat) (on : Bool) : linkRegs (s.setLive p on).regs = linkRegs s.regs :=
  s.wr_linkRegs _ _ _ (by decide)

theorem State.portDown_linkRegs (s : State) (p : Nat) : linkRegs (s.portDown p).regs = linkRegs s.regs := by
  have pauses (s : State) : linkRegs (s.each (List.range 8) fun q s => s.endPause p q).regs = linkRegs s.regs :=
    s.each_linkRegs _ _ fun q s => s.endPause_linkRegs p q
  unfold State.portDown
  dsimp only
  (repeat' split) <;> simp (disch := decide) only [State.note_regs, State.setF_mac_linkRegs, State.setCounted_mac_linkRegs, State.putMac_regs,
    pauses, State.endSending_linkRegs, State.setLive_linkRegs]

theorem State.checkPort_linkRegs (s : State) (p : Nat) : linkRegs (s.checkPort p).regs = linkRegs s.regs := by
  have link := s.setF_mac_linkRegs F.MAC_STATUS_LINK p (b2n (s.portConfigured p && s.linkPresent p)) (by rfl) (by decide)
  unfold State.checkPort
  dsimp only
  split
  · exact link
  · exact (State.portDown_linkRegs _ p).trans link

theorem State.checkLanePort_linkRegs (s : State) (n : Nat) : linkRegs (s.checkLanePort n).regs = linkRegs s.regs := by
  unfold State.checkLanePort
  split
  · exact s.checkPort_linkRegs _
  · rfl

end Sys2Proof.Machine

namespace Sys2Proof.Machine

/-! ### The receiver of a Stitch lane -/

theorem State.setF_putStch (s : State) (n : Nat) (x : Stitch) (f : Fld) (i v : Nat) : (s.putStch n x).setF f i v = (s.setF f i v).putStch n x := (rfl)

theorem State.putStch_fld (s : State) (n : Nat) (x : Stitch) (f : Fld) (i : Nat) : (s.putStch n x).fld f i = s.fld f i := (rfl)

theorem State.setF_stch (s : State) (f : Fld) (i v n : Nat) : (s.setF f i v).stch n = s.stch n := (rfl)

/-- The count of wrong stuffed symbols. -/
def stuffWrite (s : State) (n stuff : Nat) : Fld × Nat × Nat :=
  (F.STCH_COUNT_C_STUFF_ERRORS, n, satBits 16 (s.fld F.STCH_COUNT_C_STUFF_ERRORS n + stuff))

/-- A block while the receiver hunts: wrong stuffed symbols are counted, and the header moves the run or the position. -/
theorem execStitchBlockRx_hunting (s : State) (n : Nat) (valid : Bool) (stuff : Nat) (hr : s.stitchRuns n = true)
    (hl : s.flag F.STCH_STATUS_BLOCK_LOCK n = false) :
    execStitchBlockRx n valid stuff s = .next ((if valid then
        if (s.stch n).run + 1 = 64 then (s.putStch n { s.stch n with run := 0, win := [] }).setAll [stuffWrite s n stuff, (F.STCH_STATUS_BLOCK_LOCK, n, 1)]
        else (s.putStch n { s.stch n with run := (s.stch n).run + 1 }).setAll [stuffWrite s n stuff]
      else (s.putStch n { s.stch n with run := 0, pos := ((s.stch n).pos + 1) % 129 }).setAll [stuffWrite s n stuff])) := by
  have hlock : (s.addSat F.STCH_COUNT_C_STUFF_ERRORS n stuff).flag F.STCH_STATUS_BLOCK_LOCK n = false := by
    unfold State.flag State.addSat
    rw [State.fld_setF_ne _ _ (Reg.key_ne_of_base (by rfl) (by decide) n)]
    exact hl
  have hcount : s.addSat F.STCH_COUNT_C_STUFF_ERRORS n stuff
      = s.setF F.STCH_COUNT_C_STUFF_ERRORS n (satBits 16 (s.fld F.STCH_COUNT_C_STUFF_ERRORS n + stuff)) := (rfl)
  unfold execStitchBlockRx
  simp only [hr, hlock, Bool.not_true, Bool.false_eq_true, if_false]
  simp only [hcount, stuffWrite, State.setF_stch, State.setAll_cons, State.setAll_nil, State.setF_putStch]

theorem execStitchBlockRx_locks (s : State) (n stuff : Nat) (hr : s.stitchRuns n = true) (hl : s.flag F.STCH_STATUS_BLOCK_LOCK n = false)
    (hrun : (s.stch n).run + 1 = 64) :
    ∃ t, execStitchBlockRx n true stuff s = .next t
      ∧ Wrote (s.putStch n { s.stch n with run := 0, win := [] }) t [stuffWrite s n stuff, (F.STCH_STATUS_BLOCK_LOCK, n, 1)] := by
  have hkey : R.STCH_COUNT_C.key n ≠ R.STCH_STATUS.key n := Reg.key_ne_of_base (by rfl) (by decide) n
  refine ⟨_, (execStitchBlockRx_hunting s n true stuff hr hl).trans (by rw [if_pos rfl, if_pos hrun]), Wrote.setAll _ _ ?_ ?_⟩
  · simp [stuffWrite, F.STCH_COUNT_C_STUFF_ERRORS, F.STCH_STATUS_BLOCK_LOCK]
  · simp [stuffWrite, Separate, F.STCH_COUNT_C_STUFF_ERRORS, F.STCH_STATUS_BLOCK_LOCK, hkey]

theorem stuffWrite_wrote (s t : State) (n stuff : Nat) : Wrote t (t.setAll [stuffWrite s n stuff]) [stuffWrite s n stuff] :=
  Wrote.setF t F.STCH_COUNT_C_STUFF_ERRORS n _ (by decide)

theorem execStitchBlockRx_valid (s : State) (n stuff : Nat) (hr : s.stitchRuns n = true) (hl : s.flag F.STCH_STATUS_BLOCK_LOCK n = false)
    (hrun : (s.stch n).run + 1 < 64) :
    ∃ t, execStitchBlockRx n true stuff s = .next t
      ∧ Wrote (s.putStch n { s.stch n with run := (s.stch n).run + 1 }) t [stuffWrite s n stuff] :=
  ⟨_, (execStitchBlockRx_hunting s n true stuff hr hl).trans (by rw [if_pos rfl, if_neg (by omega)]), stuffWrite_wrote s _ n stuff⟩

theorem execStitchBlockRx_invalid (s : State) (n stuff : Nat) (hr : s.stitchRuns n = true) (hl : s.flag F.STCH_STATUS_BLOCK_LOCK n = false) :
    ∃ t, execStitchBlockRx n false stuff s = .next t
      ∧ Wrote (s.putStch n { s.stch n with run := 0, pos := ((s.stch n).pos + 1) % 129 }) t [stuffWrite s n stuff] :=
  ⟨_, (execStitchBlockRx_hunting s n false stuff hr hl).trans (by rw [if_neg (by decide)]), stuffWrite_wrote s _ n stuff⟩

theorem execStitchControlBlockRx_bad (s : State) (n : Nat) (line c : List Byte) (hr : s.stitchRuns n = true)
    (hl : s.flag F.STCH_STATUS_BLOCK_LOCK n = true) (hv : ctlValid line c = false) :
    execStitchControlBlockRx n line c s = .next (s.putStch n { s.stch n with cur := (s.stch n).next, next := none, train := 0 }) := by
  unfold execStitchControlBlockRx
  dsimp only
  rw [hr, hl, hv, if_neg (by decide), if_pos (by decide)]

/-- A control block in signature lock that carries no acknowledge, NAK or training moves the sequence on. -/
theorem execStitchControlBlockRx_plain (s : State) (n : Nat) (line c : List Byte) (hr : s.stitchRuns n = true)
    (hl : s.flag F.STCH_STATUS_BLOCK_LOCK n = true) (hv : ctlValid line c = true) (hsig : s.flag F.STCH_STATUS_SIG_LOCK n = true)
    (ht : s.flag F.STCH_STATUS_RETRAINING n = false) (hnak : bit (leNat c) 33 = false) (htrain : bit (leNat c) 38 = false)
    (hack : bit (leNat c) 39 = false) :
    ∃ t, execStitchControlBlockRx n line c s = .next t
      ∧ Wrote (s.putStch n { s.stch n with cur := (s.stch n).next, next := some (ctlField c 88 24) }) t [(F.STCH_STATUS_SIG_LOCK, n, 1)] := by
  refine ⟨_, ?_, Wrote.setF _ F.STCH_STATUS_SIG_LOCK n 1 (by decide)⟩
  unfold execStitchControlBlockRx
  dsimp only
  rw [hr, hl, hv, hsig, ht, hnak, htrain, hack, if_neg (by decide), if_neg (by decide)]
  simp only [Bool.not_true, Bool.false_and, Bool.false_eq_true, if_false]
  rfl

theorem State.receiveBytes_status (s : State) (n : Nat) (data : List Byte) (resume : Option Nat) (f : Fld) (hf : f.reg = R.STCH_STATUS) :
    (s.receiveBytes n data resume).fld f n = s.fld f n := by
  unfold State.receiveBytes
  dsimp only
  rw [State.fld_setF_ne]
  · rfl
  · rw [hf]
    exact Reg.key_ne_of_base (by rfl) (by decide) n

/-- A numbered signature in order, on a link that is up. -/
theorem execStitchSignatureRx_inOrder (s : State) (n : Nat) (line c : List Byte) (hr : s.stitchRuns n = true)
    (hsig : s.flag F.STCH_STATUS_SIG_LOCK n = true) (ht : s.flag F.STCH_STATUS_RETRAINING n = false) (hnak : s.flag F.STCH_STATUS_NAK_PENDING n = false)
    (hv : ctlValid line c = true) (hty : ctlField c 0 8 = 0x1E) (hidle : bit (leNat c) 32 = false) (hcur : (s.stch n).cur = some (ctlField c 8 24))
    (hexp : s.fld F.STCH_RX_SEQ_EXPECT n = ctlField c 8 24) (hup : s.flag F.STCH_STATUS_LINK_UP n = true) :
    ∃ u, Wrote s u [(F.STCH_RX_SEQ_EXPECT, n, ctlField c 8 24 + 1)]
      ∧ execStitchSignatureRx n line c s
        = .next ((u.putStch n { s.stch n with trained := false }).receiveBytes n (scramble (ctlField c 8 24) line) none) := by
  refine ⟨_, Wrote.setF s F.STCH_RX_SEQ_EXPECT n _ (by decide), ?_⟩
  have hlink (x : Stitch) : (((s.setF F.STCH_RX_SEQ_EXPECT n (ctlField c 8 24 + 1)).putStch n x).receiveBytes n
      (scramble (ctlField c 8 24) line) none).flag F.STCH_STATUS_LINK_UP n = true := by
    unfold State.flag
    rw [State.receiveBytes_status _ _ _ _ _ (by rfl), State.putStch_fld, State.fld_setF_ne _ _ (Reg.key_ne_of_base (by rfl) (by decide) n)]
    exact hup
  unfold execStitchSignatureRx
  simp only [hr, hsig, ht, hnak, hv, hty, hidle, hcur, hexp, hlink, Bool.not_true, Bool.or_false, Bool.and_false, Bool.true_and, Bool.false_eq_true,
    Nat.reduceBEq, BEq.rfl, if_true, if_false]

/-- A signature that fails its check begins a NAK. -/
theorem execStitchSignatureRx_bad (s : State) (n : Nat) (line c : List Byte) (hr : s.stitchRuns n = true)
    (hsig : s.flag F.STCH_STATUS_SIG_LOCK n = true) (ht : s.flag F.STCH_STATUS_RETRAINING n = false) (hnak : s.flag F.STCH_STATUS_NAK_PENDING n = false)
    (cur : Nat) (hv : ctlValid line c = false) (hcur : (s.stch n).cur = some cur) :
    ∃ u, Wrote s u [(F.STCH_COUNT_A_SIG_CRC_ERRORS, n, satBits 16 (s.fld F.STCH_COUNT_A_SIG_CRC_ERRORS n + 1))]
      ∧ execStitchSignatureRx n line c s = .next (u.startNak n) := by
  refine ⟨s.inc F.STCH_COUNT_A_SIG_CRC_ERRORS n, Wrote.setF s _ n _ (by decide), ?_⟩
  unfold execStitchSignatureRx
  dsimp only
  rw [hr, hsig, ht, hnak, hv, hcur]
  simp only [Bool.not_true, Bool.false_and, Bool.or_false, Bool.false_eq_true, if_false]

/-! ### Its transmitter -/

theorem execStitchSignatureTx_training (s : State) (n : Nat) (hr : s.stitchRuns n = true) (htx : s.flag F.LANE_STATUS_TX_READY n = true)
    (ht : s.flag F.STCH_STATUS_RETRAINING n = true) :
    execStitchSignatureTx n s
      = .next (s.putStch n { s.stch n with line := scramble 0 (idleFill 992) ++ ctlBlock (0x2D + 2 ^ 38) (idleFill 992) }) := by
  unfold execStitchSignatureTx
  dsimp only
  rw [hr, htx, ht, if_neg (by decide), if_pos rfl]

/-- With room for another signature, and no NAK or acknowledge to carry, the transmitter numbers and keeps what it has been handed. -/
theorem execStitchSignatureTx_numbered (s : State) (n : Nat) (hr : s.stitchRuns n = true) (htx : s.flag F.LANE_STATUS_TX_READY n = true)
    (data : List Byte) (leads : List (Nat × Nat)) (rest : List (Nat × Bool × Bool × List Byte)) (ht : s.flag F.STCH_STATUS_RETRAINING n = false)
    (hnak : s.flag F.STCH_STATUS_NAK_PENDING n = false) (hup : s.flag F.STCH_STATUS_LINK_UP n = false) (hreplay : (s.stch n).replay = none)
    (hheld : (s.stch n).held.length < 64) (hfill : fillSig 200 992 (s.stch n).txq = (data, leads, rest)) :
    ∃ u x, Wrote s u [(F.STCH_TX_SEQ_NEXT, n, s.fld F.STCH_TX_SEQ_NEXT n + 1), (F.STCH_TX_SEQ_HELD, n, (s.stch n).held.length + 1)]
      ∧ execStitchSignatureTx n s = .next (u.putStch n x) ∧ x.txq = rest ∧ x.held = (s.stch n).held ++ [⟨s.fld F.STCH_TX_SEQ_NEXT n, data⟩]
      ∧ x.line = scramble (s.fld F.STCH_TX_SEQ_NEXT n) data
        ++ ctlBlock (0x1E + s.fld F.STCH_TX_SEQ_NEXT n * 2 ^ 8 + 0 + (s.fld F.STCH_TX_SEQ_NEXT n + 1) % 2 ^ 24 * 2 ^ 88) data
      ∧ x.stream = (s.stch n).stream ∧ x.inbox = (s.stch n).inbox := by
  refine ⟨_, { s.stch n with
      txq := rest
      held := (s.stch n).held ++ [⟨s.fld F.STCH_TX_SEQ_NEXT n, data⟩]
      sentFrames := (s.stch n).sentFrames
        ++ leads.map fun f => (f.1, s.fld F.STCH_TX_SEQ_NEXT n, (s.fld F.STCH_TX_SEQ_NEXT n + ceilDiv f.2 992) % 2 ^ 24)
      line := scramble (s.fld F.STCH_TX_SEQ_NEXT n) data
        ++ ctlBlock (0x1E + s.fld F.STCH_TX_SEQ_NEXT n * 2 ^ 8 + 0 + (s.fld F.STCH_TX_SEQ_NEXT n + 1) % 2 ^ 24 * 2 ^ 88) data },
    Wrote.setAll s _ ?_ ?_, ?_, rfl, rfl, rfl, rfl, rfl⟩
  · simp [F.STCH_TX_SEQ_NEXT, F.STCH_TX_SEQ_HELD]
  · simp [Separate, F.STCH_TX_SEQ_NEXT, F.STCH_TX_SEQ_HELD]
  · unfold execStitchSignatureTx
    simp only [hr, htx, ht, hnak, hup, hreplay, hfill, not_le.2 hheld, Bool.not_true, Bool.or_false, Bool.false_and, Bool.false_eq_true, if_false, Nat.add_zero,
      List.length_append, List.length_singleton, State.setF_putStch, State.setAll_cons, State.setAll_nil]

/-! ### Replay, retraining and STITCH_CONFIG -/

theorem execStitchNakTimeout_fails (s : State) (n : Nat) (hr : s.stitchRuns n = true) (hnak : s.flag F.STCH_STATUS_NAK_PENDING n = true)
    (hs : (s.stch n).nakSince.isSome = true) : execStitchNakTimeout n s = .next (s.replayFailed n) := by
  unfold execStitchNakTimeout
  rw [hr, hnak, hs, if_pos (by decide)]

theorem State.replayFailed_again (s : State) (n : Nat) (h : s.fld F.STCH_RX_SEQ_NAK_COUNT n < max 1 (s.fld F.STCH_CTL_REPLAY_LIMIT n)) :
    s.replayFailed n = (s.setF F.STCH_RX_SEQ_NAK_COUNT n (s.fld F.STCH_RX_SEQ_NAK_COUNT n + 1)).putStch n { s.stch n with nakSince := none, stream := [] } := by
  unfold State.replayFailed
  dsimp only
  rw [if_neg (by omega)]

theorem State.replayFailed_retrains (s : State) (n : Nat) (h : max 1 (s.fld F.STCH_CTL_REPLAY_LIMIT n) ≤ s.fld F.STCH_RX_SEQ_NAK_COUNT n) :
    s.replayFailed n = s.retrain n := by
  unfold State.replayFailed
  dsimp only
  rw [if_pos h]

theorem linkKey_stchStatus (n : Nat) (hn : n < 1024) : linkKey (R.STCH_STATUS.key n) = true := by
  rw [Reg.key_lane (by rfl)]
  have base : R.STCH_STATUS.base = 0x10200004 := (rfl)
  rw [base]
  exact decide_eq_true (by omega)

theorem State.checkLanePort_stchStatus (s : State) (n : Nat) (hn : n < 1024) (f : Fld) (hf : f.reg = R.STCH_STATUS) :
    (s.checkLanePort n).fld f n = s.fld f n := by
  unfold State.fld
  rw [hf, State.rd_of_linkRegs (s.checkLanePort_linkRegs n) _ _ (linkKey_stchStatus n hn)]

/-- A retrain sets RETRAINING, and nothing that it does afterwards clears it (R188). -/
theorem State.retrain_retraining (s : State) (n : Nat) (hn : n < 1024) : (s.retrain n).fld F.STCH_STATUS_RETRAINING n = 1 := by
  have keep (s : State) (f : Fld) (v : Nat) (hr : R.STCH_STATUS = f.reg)
      (h : F.STCH_STATUS_RETRAINING.lo + F.STCH_STATUS_RETRAINING.wd ≤ f.lo ∨ f.lo + f.wd ≤ F.STCH_STATUS_RETRAINING.lo) :
      (s.setF f n v).fld F.STCH_STATUS_RETRAINING n = s.fld F.STCH_STATUS_RETRAINING n := State.fld_setF_other s f _ n v hr (by decide) h
  unfold State.retrain
  dsimp only
  rw [State.checkLanePort_stchStatus _ n hn _ (by rfl), keep _ _ _ (by rfl) (by decide), State.note_fld, State.note_fld,
    State.setCounted_eq _ _ _ _ (by rfl) (by decide) (by decide), keep _ _ _ (by rfl) (by decide), keep _ _ _ (by rfl) (by decide),
    State.fld_wr_ne _ _ (Reg.key_ne_of_base (by rfl) (by decide) n), State.fld_wr_ne _ _ (Reg.key_ne_of_base (by rfl) (by decide) n),
    State.fld_wr_ne _ _ (Reg.key_ne_of_base (by rfl) (by decide) n), keep _ _ _ (by rfl) (by decide), State.fld_setF_same _ _ _ _ (by decide)]
  rfl

/-- A granted write of RETRAIN. -/
theorem execStchRetrainWrite_writes (s : State) (n : Nat) (hn : n < 1024) (hw : HostMayWrite s (12 + 6 * (n / 64) + 2)) :
    execStchRetrainWrite n s = .next (if s.stitchRuns n then s.retrain n else s.setF F.STCH_CTL_RETRAIN n 1) := by
  unfold execStchRetrainWrite
  rw [if_pos hn, hw.writes (unitOfOffset_lane 2 (by rfl) (by decide) (by decide) n hn)]
  rfl

theorem execStitchConfig_limits (s : State) (m : Nat) (r : Req) (h : Ready s m C.STITCH_CONFIG s.stitchConfigChecks r)
    (hre : r.on A.STITCH_CONFIG_RETRAIN = false) :
    Configures (execStitchConfig m s) s m r C.STITCH_CONFIG (w32 (s.rd R.STCH_STATUS r.index))
      [(F.STCH_CTL_REPLAY_LIMIT, r.index, r.arg A.STITCH_CONFIG_REPLAY_LIMIT), (F.STCH_CTL_NAK_TIMEOUT, r.index, r.arg A.STITCH_CONFIG_NAK_TIMEOUT)] := by
  have hkey : R.STCH_STATUS.key r.index ≠ R.STCH_CTL.key r.index := Reg.key_ne_of_base (by rfl) (by decide) _
  refine h.configures (h.mode_ne_zero (by rfl) (by decide)) ?_ (Wrote.setAll s _ ?_ ?_) ?_
  · unfold State.stitchConfigAct
    dsimp only
    rw [hre, if_neg (by decide), State.rd_setF_ne _ _ hkey, State.rd_setF_ne _ _ hkey]
    rfl
  · simp [F.STCH_CTL_REPLAY_LIMIT, F.STCH_CTL_NAK_TIMEOUT]
  · simp [Separate, F.STCH_CTL_REPLAY_LIMIT, F.STCH_CTL_NAK_TIMEOUT]
  · exact congrArg (·.2.2) ((State.setF_fixed _ F.STCH_CTL_NAK_TIMEOUT r.index _ (by decide)).trans
      (s.setF_fixed F.STCH_CTL_REPLAY_LIMIT r.index _ (by decide)))

/-- Settles O19: each part of a Stitch link by what it writes and keeps of the lane's Stitch state. -/
theorem stitchLanes : Obligations.StitchLanes := by
  unfold Obligations.StitchLanes
  refine ⟨fun s n hr => ⟨fun stuff hl => ⟨execStitchBlockRx_locks s n stuff hr hl, execStitchBlockRx_valid s n stuff hr hl,
        execStitchBlockRx_invalid s n stuff hr hl⟩,
      fun line c hl => ⟨execStitchControlBlockRx_bad s n line c hr hl, execStitchControlBlockRx_plain s n line c hr hl⟩⟩,
    fun s n hr => ⟨fun line c hsig ht hnak => ⟨execStitchSignatureRx_inOrder s n line c hr hsig ht hnak,
        execStitchSignatureRx_bad s n line c hr hsig ht hnak⟩,
      fun htx => ⟨execStitchSignatureTx_training s n hr htx, execStitchSignatureTx_numbered s n hr htx⟩⟩,
    fun s n => ⟨fun hr hnak hs => ⟨fun hc => ?_, fun hc => ?_⟩, fun hn hw => ⟨fun hr => ?_, fun hr => ?_⟩, execStitchConfig_limits s⟩⟩
  · exact ⟨_, Wrote.setF s F.STCH_RX_SEQ_NAK_COUNT n _ (by decide), (execStitchNakTimeout_fails s n hr hnak hs).trans (by rw [s.replayFailed_again n hc])⟩
  · exact (execStitchNakTimeout_fails s n hr hnak hs).trans (by rw [s.replayFailed_retrains n hc])
  · exact ⟨(execStchRetrainWrite_writes s n hn hw).trans (by rw [hr, if_pos rfl]), s.retrain_retraining n hn⟩
  · exact ⟨_, (execStchRetrainWrite_writes s n hn hw).trans (by rw [hr, if_neg (by decide)]), Wrote.setF s _ n 1 (by decide)⟩

end Sys2Proof.Machine

namespace Sys2Proof.Machine

/-! ### What counters, folios and a port that goes down leave alone -/

/-- Keys that hold every register that counts: the block counters of the tally units (R496) and the statistics of every MAC (R229). -/
def countKey (a : Nat) : Bool := decide ((0x8100000 ≤ a ∧ a < 0x10000000) ∨ 0x380 ≤ a % 0x1000)

/-- A part of the state that no count changes. -/
def CountApart {β : Type} (g : State → β) : Prop := ∀ s r i v, countKey (r.key i) = true → g (s.wr r i v) = g s

theorem countKey_cnt (u k : Nat) (hu : u < 448) (hk : k < 48) : countKey (R.TLY_CNT_SEL.key (k + 48 * u)) = true
    ∧ countKey (R.TLY_CNT_LO.key (k + 48 * u)) = true ∧ countKey (R.TLY_CNT_HI.key (k + 48 * u)) = true := by
  have sel : R.TLY_CNT_SEL.key (k + 48 * u) = 0x8100000 + ((k + 48 * u) % 48 * 0x10 + (k + 48 * u) / 48 * 0x400) := (rfl)
  have lo : R.TLY_CNT_LO.key (k + 48 * u) = 0x8100004 + ((k + 48 * u) % 48 * 0x10 + (k + 48 * u) / 48 * 0x400) := (rfl)
  have hi : R.TLY_CNT_HI.key (k + 48 * u) = 0x8100008 + ((k + 48 * u) % 48 * 0x10 + (k + 48 * u) / 48 * 0x400) := (rfl)
  exact ⟨decide_eq_true (by omega), decide_eq_true (by omega), decide_eq_true (by omega)⟩

theorem countKey_macStat (i j : Nat) : countKey (R.MAC_STAT_LO.key i) = true ∧ countKey (R.MAC_STAT_HI.key i) = true
    ∧ countKey (R.MAC_STAT_SAT.key j) = true := by
  have lo : R.MAC_STAT_LO.key i = 0x10300400 + (i % 48 * 8 + (i / 48 % 64 * 0x1000 + i / 48 / 64 * 0x1000000)) := (rfl)
  have hi : R.MAC_STAT_HI.key i = 0x10300404 + (i % 48 * 8 + (i / 48 % 64 * 0x1000 + i / 48 / 64 * 0x1000000)) := (rfl)
  have sat : R.MAC_STAT_SAT.key j = 0x10300380 + (j % 2 * 4 + (j / 2 % 64 * 0x1000 + j / 2 / 64 * 0x1000000)) := (rfl)
  exact ⟨decide_eq_true (by omega), decide_eq_true (by omega), decide_eq_true (by omega)⟩

theorem CountApart.addCnt {β : Type} {g : State → β} (h : CountApart g) (s : State) (u k n : Nat) (hu : u < 448) (hk : k < 48) :
    g (s.addCnt u k n) = g s := by
  obtain ⟨hsel, hlo, hhi⟩ := countKey_cnt u k hu hk
  unfold State.addCnt State.wr64
  dsimp only
  rw [h _ _ _ _ hhi, h _ _ _ _ hlo]
  split
  · exact h _ _ _ _ hsel
  · rfl

theorem CountApart.unitEvent {β : Type} {g : State → β} (h : CountApart g) (s : State) (u code n : Nat) : g (s.unitEvent u code n) = g s := by
  unfold State.unitEvent
  split
  · rfl
  · refine State.each_keeps_mem g _ _ s fun k hk s => ?_
    obtain ⟨hu, hk⟩ := tlyUnitCounters_bound u k (List.mem_range.1 hk)
    dsimp only
    split
    · exact h.addCnt s u k _ hu hk
    · rfl

theorem CountApart.macStat {β : Type} {g : State → β} (h : CountApart g) (s : State) (p k n : Nat) : g (s.macStat p k n) = g s := by
  obtain ⟨hlo, hhi, hsat⟩ := countKey_macStat (k + 48 * p) (k / 32 + 2 * p)
  unfold State.macStat State.count64 State.wr64
  dsimp only
  rw [h _ _ _ _ hhi, h _ _ _ _ hlo]
  (repeat' split) <;> simp only [h _ _ _ _ hsat, h.unitEvent]

theorem CountApart.rd {q : Reg} {j : Nat} (hk : countKey (q.key j) = false) : CountApart fun s => s.rd q j :=
  fun s _ _ v hc => s.rd_wr_ne v fun e => by rw [e, hc] at hk; cases hk

/-- A statistics counter of a port that advances leaves every register that does not count. -/
theorem State.macStat_rd (s : State) (p k n : Nat) (q : Reg) (j : Nat) (hk : countKey (q.key j) = false) : (s.macStat p k n).rd q j = s.rd q j :=
  (CountApart.rd hk).macStat s p k n

theorem State.macStat_fld (s : State) (p k n : Nat) (f : Fld) (j : Nat) (hk : countKey (f.reg.key j) = false) : (s.macStat p k n).fld f j = s.fld f j := by
  unfold State.fld
  rw [s.macStat_rd p k n _ _ hk]

/-- Keys that hold what a port that goes down writes beside MAC_STATUS, LDG_PORT_LIVE and MAC_PREEMPT_STATUS: counts, the pause timers, MAC_PFC_STATUS and
the registers of the vault. -/
def fallKey (a : Nat) : Bool := countKey a || decide ((0x28 ≤ a % 0x1000 ∧ a % 0x1000 < 0x50) ∨ 0x30000000 ≤ a)

/-- A part of the state that frames which are dropped, pauses that end and counts leave alone. -/
structure PortApart {β : Type} (g : State → β) : Prop where
  wr : ∀ s r i v, fallKey (r.key i) = true → g (s.wr r i v) = g s
  vlt : ∀ (s : State) x, g { s with vlt := x } = g s
  copies : ∀ (s : State) x, g { s with copies := x } = g s
  macs : ∀ (s : State) x, g { s with macs := x } = g s
  note : ∀ s a, g (s.note a) = g s

theorem PortApart.rd {q : Reg} {j : Nat} (hk : fallKey (q.key j) = false) : PortApart fun s => s.rd q j where
  wr s _ _ v hc := s.rd_wr_ne v fun e => by rw [e, hc] at hk; cases hk
  vlt _ _ := rfl
  copies _ _ := rfl
  macs _ _ := rfl
  note s a := s.note_rd a q j

theorem PortApart.queues : PortApart State.queues where
  wr _ _ _ _ _ := rfl
  vlt _ _ := rfl
  copies _ _ := rfl
  macs _ _ := rfl
  note := State.note_queues

section
variable {β : Type} {g : State → β} (h : PortApart g)
include h

theorem PortApart.count : CountApart g := fun s r i v hc => h.wr s r i v (by rw [fallKey, hc, Bool.true_or])

theorem PortApart.wr_vault (s : State) (r : Reg) (i v : Nat) (hb : 0x30000000 ≤ r.base) : g (s.wr r i v) = g s :=
  h.wr s r i v (by rw [fallKey, decide_eq_true (Or.inr (hb.trans (r.base_le i))), Bool.or_true])

theorem PortApart.setF_vault (s : State) (f : Fld) (i v : Nat) (hb : 0x30000000 ≤ f.reg.base) : g (s.setF f i v) = g s := h.wr_vault s _ i _ hb

theorem PortApart.inc_vault (s : State) (f : Fld) (i : Nat) (hb : 0x30000000 ≤ f.reg.base) : g (s.inc f i) = g s := h.wr_vault s _ i _ hb

theorem PortApart.setCounted_vault (s : State) (b c : Fld) (i : Nat) (hb : 0x30000000 ≤ b.reg.base) (hc : 0x30000000 ≤ c.reg.base) :
    g (s.setCounted b c i) = g s := (h.inc_vault _ c i hc).trans (h.setF_vault s b i 1 hb)

theorem PortApart.count64_vault (s : State) (lo hi : Reg) (i n : Nat) (hl : 0x30000000 ≤ lo.base) (hh : 0x30000000 ≤ hi.base) :
    g (s.count64 lo hi i n) = g s := (h.wr_vault _ hi i _ hh).trans (h.wr_vault s lo i _ hl)

theorem PortApart.freeFolio (s : State) (who f pool unit : Nat) : g (s.freeFolio who f pool unit) = g s := by
  unfold State.freeFolio State.creditPool State.bankEvent State.putLink State.vaultStat
  dsimp only
  (repeat' split) <;> simp (disch := decide) only [h.vlt, h.note, h.count.unitEvent, h.setF_vault, h.inc_vault, h.setCounted_vault, h.count64_vault]

theorem PortApart.evalXoff (s : State) (d p : Nat) : g (s.evalXoff d p) = g s := by
  unfold State.evalXoff State.poolStat
  dsimp only
  (repeat' split) <;> simp (disch := decide) only [h.vlt, h.note, h.setF_vault, h.count64_vault]

theorem PortApart.settleDie (s : State) (d : Nat) : g (s.settleDie d) = g s := by
  unfold State.settleDie State.refreshDie
  dsimp only
  rw [State.each_keeps g _ _ _ fun p s => h.evalXoff s d p]
  split <;> simp (disch := decide) only [h.note, h.setF_vault]

theorem PortApart.releaseDesc (s : State) (who k : Nat) : g (s.releaseDesc who k) = g s := by
  unfold State.releaseDesc
  split
  · rfl
  · rw [h.settleDie, h.settleDie]
    unfold State.freeDesc State.putDesc
    split
    · exact State.each_keeps g _ _ s fun f s => h.freeFolio s who f _ _
    · rw [h.inc_vault _ _ _ (by decide), h.vlt, h.vlt]
      exact State.each_keeps g _ _ s fun f s => h.freeFolio s who f _ _

theorem PortApart.dropCopy (s : State) (n : Nat) : g (s.dropCopy n) = g s := by
  unfold State.dropCopy State.putCopy
  split
  · rfl
  · dsimp only
    rw [h.copies]
    split
    · exact h.releaseDesc s 1 _
    · rfl

theorem PortApart.endSending (s : State) (p : Nat) : g (s.endSending p) = g s := by
  unfold State.endSending State.putMac
  dsimp only
  rw [h.macs]
  (repeat' split) <;> simp only [h.count.macStat, h.dropCopy]

theorem PortApart.endPause (s : State) (p q : Nat) : g (s.endPause p q) = g s := by
  have timer (i : Nat) : fallKey (R.MAC_PFC_TIMER.key i) = true := by
    have key : R.MAC_PFC_TIMER.key i = 0x10300030 + (i % 8 * 4 + (i / 8 % 64 * 0x1000 + i / 8 / 64 * 0x1000000)) := (rfl)
    rw [fallKey, decide_eq_true (.inl (by omega)), Bool.or_true]
  have status : fallKey (R.MAC_PFC_STATUS.key p) = true := by
    have key : R.MAC_PFC_STATUS.key p = 0x10300028 + (p % 64 * 0x1000 + p / 64 * 0x1000000) := (rfl)
    rw [fallKey, decide_eq_true (.inl (by omega)), Bool.or_true]
  have setF (s : State) (f : Fld) (i v : Nat) (hk : fallKey (f.reg.key i) = true) : g (s.setF f i v) = g s := h.wr s _ i _ hk
  unfold State.endPause State.putMac
  dsimp only
  rw [setF _ F.MAC_PFC_STATUS_PAUSED _ _ status, setF _ F.MAC_PFC_TIMER_REMAINING _ _ (timer _), h.macs]
  split
  · exact h.count.macStat s _ _ _
  · rfl

end

end Sys2Proof.Machine

namespace Sys2Proof.Machine

/-! ### The registers of a port -/

/-- Where the registers of a port's MAC lie behind those of port 0 (R584). -/
def macAt (p : Nat) : Nat := p % 64 * 0x1000 + p / 64 * 0x1000000

theorem Reg.key_mac {q : Reg} (hq : q.dims = laneDims) (p : Nat) : q.key p = q.base + macAt p := Reg.key_lane hq p

theorem macAt_mod (p : Nat) : macAt p % 0x1000 = 0 := by
  unfold macAt
  omega

theorem qmap_key (p w : Nat) (hw : w < 4) : R.MAC_PFC_QMAP.key (w + 4 * p) = 0x10300018 + 4 * w + macAt p := by
  have key : R.MAC_PFC_QMAP.key (w + 4 * p)
      = 0x10300018 + ((w + 4 * p) % 4 * 4 + ((w + 4 * p) / 4 % 64 * 0x1000 + (w + 4 * p) / 4 / 64 * 0x1000000)) := (rfl)
  rw [key, macAt]
  omega

theorem pfc_timer_key (p q : Nat) (hq : q < 8) : R.MAC_PFC_TIMER.key (q + 8 * p) = 0x10300030 + 4 * q + macAt p := by
  have key : R.MAC_PFC_TIMER.key (q + 8 * p)
      = 0x10300030 + ((q + 8 * p) % 8 * 4 + ((q + 8 * p) / 8 % 64 * 0x1000 + (q + 8 * p) / 8 / 64 * 0x1000000)) := (rfl)
  rw [key, macAt]
  omega

theorem port_live_key (p : Nat) : R.LDG_PORT_LIVE.key (p / 32) = 0x28000100 + p / 32 * 4 := (rfl)

theorem countKey_mac {q : Reg} (hq : q.dims = laneDims) (h : 0x10000000 ≤ q.base ∧ q.base % 0x1000 < 0x380) (p : Nat) : countKey (q.key p) = false := by
  have hm := macAt_mod p
  rw [Reg.key_mac hq]
  exact decide_eq_false (by omega)

theorem countKey_qmap (p w : Nat) (hw : w < 4) : countKey (R.MAC_PFC_QMAP.key (w + 4 * p)) = false := by
  have hm := macAt_mod p
  rw [qmap_key p w hw]
  exact decide_eq_false (by omega)

theorem fallKey_status (p : Nat) (hp : p < 1024) : fallKey (R.MAC_STATUS.key p) = false := by
  have key : R.MAC_STATUS.key p = 0x10300008 + (p % 64 * 0x1000 + p / 64 * 0x1000000) := (rfl)
  rw [fallKey, countKey_mac (by rfl) (by decide), Bool.false_or]
  exact decide_eq_false (by omega)

theorem fallKey_live (p : Nat) (hp : p < 1024) : fallKey (R.LDG_PORT_LIVE.key (p / 32)) = false := by
  rw [fallKey, countKey, port_live_key, Bool.or_eq_false_iff]
  exact ⟨decide_eq_false (by omega), decide_eq_false (by omega)⟩

theorem live_status_key (p : Nat) (hp : p < 1024) (q : Reg) (hq : q.dims = laneDims) (hb : q.base < 0x10400000) :
    R.LDG_PORT_LIVE.key (p / 32) ≠ q.key p := by
  rw [port_live_key, Reg.key_lane hq]
  omega

/-! ### A port that goes down -/

/-- OPER_UP has fallen, the frame in transmission is cut and no priority is paused (R206, R207). -/
def State.portStops (s : State) (p : Nat) : State :=
  (((s.setF F.MAC_STATUS_OPER_UP p 0).setLive p false).endSending p).each (List.range 8) fun q s => s.endPause p q

/-- A verification in progress ends (R208). -/
def State.verifyStops (s : State) (p : Nat) : State :=
  if s.fld F.MAC_PREEMPT_STATUS_STATE p = 1 then (s.setF F.MAC_PREEMPT_STATUS_STATE p 0).setF F.MAC_PREEMPT_STATUS_ATTEMPTS p 0 else s

/-- The fall is one more flap, and too many of them disable the port (R209). -/
def State.countFlaps (s : State) (p : Nat) : State :=
  let fl := recentFlaps s.now (s.mac p).flaps ++ [s.now]
  let s := (s.putMac p { s.mac p with flaps := fl }).setF F.MAC_STATUS_FLAPS_IN_WINDOW p (satBits 8 fl.length)
  if s.fld F.MAC_CFG2_FLAP_LIMIT p ≠ 0 ∧ s.fld F.MAC_CFG2_FLAP_LIMIT p < fl.length then
    (((s.setF F.MAC_STATUS_ERR_DISABLED p 1).setCounted F.MAC_STATUS_ERR_DIS_SET F.MAC_STATUS_ERR_DIS_COUNT p).note (E.MAC_PORT_EVENT p)).note
      (E.MAC_PORT_ERR_DISABLED (p / 64))
  else s

/-- A port that is up goes down in three parts, its fall counted between the second and the third. -/
theorem State.portDown_up (s : State) (p : Nat) (h : s.operUp p = true) : s.portDown p
    = ((((s.portStops p).verifyStops p).setCounted F.MAC_STATUS_DOWN F.MAC_STATUS_DOWN_COUNT p).note (E.MAC_PORT_EVENT p)).countFlaps p := by
  unfold State.portDown
  rw [h, if_neg (by decide)]
  rfl

theorem State.portDown_down (s : State) (p : Nat) (h : s.operUp p = false) : s.portDown p = s := by
  unfold State.portDown
  rw [h, if_pos (by decide)]

theorem PortApart.portStops {β : Type} {g : State → β} (h : PortApart g) (s : State) (p : Nat) :
    g (s.portStops p) = g ((s.setF F.MAC_STATUS_OPER_UP p 0).setLive p false) := by
  unfold State.portStops
  rw [State.each_keeps g _ _ _ fun q s => h.endPause s p q, h.endSending]

theorem State.verifyStops_rd (s : State) (p : Nat) (q : Reg) (j : Nat) (h : q.key j ≠ R.MAC_PREEMPT_STATUS.key p) : (s.verifyStops p).rd q j = s.rd q j := by
  unfold State.verifyStops
  split
  · rw [State.rd_setF_ne _ _ h, State.rd_setF_ne _ _ h]
  · rfl

theorem State.countFlaps_rd (s : State) (p : Nat) (q : Reg) (j : Nat) (h : q.key j ≠ R.MAC_STATUS.key p) :
    (s.countFlaps p).rd q j = s.rd q j := by
  have mac (m : Mac) : (s.putMac p m).rd q j = s.rd q j := (rfl)
  unfold State.countFlaps
  dsimp only
  split
  · rw [State.note_rd, State.note_rd, State.setCounted_eq _ _ _ _ (by rfl) (by decide) (by decide), State.rd_setF_ne _ _ h, State.rd_setF_ne _ _ h,
      State.rd_setF_ne _ _ h, State.rd_setF_ne _ _ h, mac]
  · rw [State.rd_setF_ne _ _ h, mac]

/-- The fields of MAC_STATUS that tell of flaps. -/
def flapFields : List Fld := [F.MAC_STATUS_FLAPS_IN_WINDOW, F.MAC_STATUS_ERR_DISABLED, F.MAC_STATUS_ERR_DIS_SET, F.MAC_STATUS_ERR_DIS_COUNT]

theorem State.countFlaps_status (s : State) (p : Nat) (f : Fld) (hr : f.reg = R.MAC_STATUS) (hw : f.lo + f.wd ≤ 32)
    (hf : ∀ e ∈ flapFields, f.lo + f.wd ≤ e.lo ∨ e.lo + e.wd ≤ f.lo) : (s.countFlaps p).fld f p = s.fld f p := by
  have mac (m : Mac) : (s.putMac p m).fld f p = s.fld f p := (rfl)
  simp only [flapFields, List.forall_mem_cons] at hf
  obtain ⟨h1, h2, h3, h4, -⟩ := hf
  unfold State.countFlaps
  dsimp only
  split
  · rw [State.note_fld, State.note_fld, State.setCounted_eq _ _ _ _ (by rfl) (by decide) (by decide), State.fld_setF_other _ _ f _ _ hr hw h4,
      State.fld_setF_other _ _ f _ _ hr hw h3, State.fld_setF_other _ _ f _ _ hr hw h2, State.fld_setF_other _ _ f _ _ hr hw h1, mac]
  · rw [State.fld_setF_other _ _ f _ _ hr hw h1, mac]

/-- Of MAC_STATUS a port that goes down writes OPER_UP, DOWN and its count, and the fields that tell of flaps. -/
theorem State.portDown_status (s : State) (p : Nat) (hp : p < 1024) (h : s.operUp p = true) (f : Fld) (hr : f.reg = R.MAC_STATUS) (hw : f.lo + f.wd ≤ 32)
    (hf : ∀ e ∈ flapFields, f.lo + f.wd ≤ e.lo ∨ e.lo + e.wd ≤ f.lo) :
    (s.portDown p).fld f p = ((s.setF F.MAC_STATUS_OPER_UP p 0).setCounted F.MAC_STATUS_DOWN F.MAC_STATUS_DOWN_COUNT p).fld f p := by
  have hrd : ((s.portStops p).verifyStops p).rd R.MAC_STATUS p = (s.setF F.MAC_STATUS_OPER_UP p 0).rd R.MAC_STATUS p := by
    rw [State.verifyStops_rd _ _ _ _ (Reg.key_ne_of_base (by rfl) (by decide) p), (PortApart.rd (fallKey_status p hp)).portStops]
    exact State.rd_wr_ne _ _ (live_status_key p hp _ (by rfl) (by decide)).symm
  have hset (t u : State) (e : Fld) (v : Nat) (he : e.reg = R.MAC_STATUS) (ht : t.rd R.MAC_STATUS p = u.rd R.MAC_STATUS p) :
      (t.setF e p v).rd R.MAC_STATUS p = (u.setF e p v).rd R.MAC_STATUS p := by
    obtain ⟨q, lo, wd⟩ := e
    subst he
    unfold State.setF
    rw [State.rd_wr_same, State.rd_wr_same, ht]
  rw [s.portDown_up p h, State.countFlaps_status _ _ _ hr hw hf, State.note_fld]
  have hcount : F.MAC_STATUS_DOWN_COUNT.reg = R.MAC_STATUS := (rfl)
  unfold State.setCounted State.inc State.addSat State.fld
  rw [hr, hcount, hset _ _ F.MAC_STATUS_DOWN_COUNT _ (by rfl) (hset _ _ F.MAC_STATUS_DOWN 1 (by rfl) hrd), hset _ _ F.MAC_STATUS_DOWN 1 (by rfl) hrd]

/-- A port that goes down is down. -/
theorem State.portDown_operUp (s : State) (p : Nat) (hp : p < 1024) : (s.portDown p).operUp p = false := by
  by_cases h : s.operUp p = true
  · unfold State.operUp State.flag
    rw [s.portDown_status p hp h _ (by rfl) (by decide) (by decide), State.setCounted_eq _ _ _ _ (by rfl) (by decide) (by decide),
      State.fld_setF_other _ _ _ _ _ (by rfl) (by decide) (by decide), State.fld_setF_other _ _ _ _ _ (by rfl) (by decide) (by decide),
      State.fld_setF_same _ _ _ _ (by decide)]
    rfl
  · rw [s.portDown_down p (by simpa using h)]
    simpa using h

theorem State.portDown_link (s : State) (p : Nat) (hp : p < 1024) : (s.portDown p).fld F.MAC_STATUS_LINK p = s.fld F.MAC_STATUS_LINK p := by
  by_cases h : s.operUp p = true
  · rw [s.portDown_status p hp h _ (by rfl) (by decide) (by decide), State.setCounted_eq _ _ _ _ (by rfl) (by decide) (by decide),
      State.fld_setF_other _ _ _ _ _ (by rfl) (by decide) (by decide), State.fld_setF_other _ _ _ _ _ (by rfl) (by decide) (by decide),
      State.fld_setF_other _ _ _ _ _ (by rfl) (by decide) (by decide)]
  · rw [s.portDown_down p (by simpa using h)]

/-- The fall of a port is marked and counted. -/
theorem State.portDown_counted (s : State) (p : Nat) (hp : p < 1024) (h : s.operUp p = true) : (s.portDown p).fld F.MAC_STATUS_DOWN p = 1
    ∧ (s.portDown p).fld F.MAC_STATUS_DOWN_COUNT p = satBits 8 (s.fld F.MAC_STATUS_DOWN_COUNT p + 1) := by
  rw [s.portDown_status p hp h F.MAC_STATUS_DOWN (by rfl) (by decide) (by decide),
    s.portDown_status p hp h F.MAC_STATUS_DOWN_COUNT (by rfl) (by decide) (by decide),
    State.setCounted_eq _ _ _ _ (by rfl) (by decide) (by decide)]
  constructor
  · rw [State.fld_setF_other _ _ _ _ _ (by rfl) (by decide) (by decide), State.fld_setF_same _ _ _ _ (by decide)]
    rfl
  · rw [State.fld_setF_same _ _ _ _ (by decide), State.fld_setF_other _ _ _ _ _ (by rfl) (by decide) (by decide)]
    exact Nat.mod_eq_of_lt (Nat.lt_succ_of_le (Nat.min_le_right _ _))

/-- Next-hop groups see a port that goes down as down (R313). -/
theorem State.portDown_live (s : State) (p : Nat) (hp : p < 1024) (h : s.operUp p = true) : (s.portDown p).live p = false := by
  have hstatus (q : Reg) (hq : q.dims = laneDims) (hb : q.base < 0x10400000) := live_status_key p hp q hq hb
  have hrd : (s.portDown p).rd R.LDG_PORT_LIVE (p / 32) = ((s.setF F.MAC_STATUS_OPER_UP p 0).setLive p false).rd R.LDG_PORT_LIVE (p / 32) := by
    rw [s.portDown_up p h, State.countFlaps_rd _ _ _ _ (hstatus _ (by rfl) (by decide)), State.note_rd, State.setCounted_eq _ _ _ _ (by rfl) (by decide) (by decide),
      State.rd_setF_ne _ _ (hstatus F.MAC_STATUS_DOWN_COUNT.reg (by rfl) (by decide)), State.rd_setF_ne _ _ (hstatus F.MAC_STATUS_DOWN.reg (by rfl) (by decide)),
      State.verifyStops_rd _ _ _ _ (hstatus _ (by rfl) (by decide)), (PortApart.rd (fallKey_live p hp)).portStops]
  unfold State.live
  rw [hrd, State.setLive, State.rd_wr_same, bit_putBits_one _ _ _ _ _ (by omega), if_pos rfl]

theorem State.verifyStops_queues (s : State) (p : Nat) : (s.verifyStops p).queues = s.queues := by
  unfold State.verifyStops
  split
  · rw [State.setF_queues, State.setF_queues]
  · rfl

theorem State.countFlaps_queues (s : State) (p : Nat) : (s.countFlaps p).queues = s.queues := by
  have mac (m : Mac) : (s.putMac p m).queues = s.queues := (rfl)
  unfold State.countFlaps
  dsimp only
  split
  · rw [State.note_queues, State.note_queues, State.setCounted_queues, State.setF_queues, State.setF_queues, mac]
  · rw [State.setF_queues, mac]

/-- A port that goes down leaves every egress queue as it is. -/
theorem State.portDown_queues (s : State) (p : Nat) : (s.portDown p).queues = s.queues := by
  by_cases h : s.operUp p = true
  · rw [s.portDown_up p h, State.countFlaps_queues, State.note_queues, State.setCounted_queues, State.verifyStops_queues, PortApart.queues.portStops,
      State.setLive, State.wr_queues, State.setF_queues]
  · rw [s.portDown_down p (by simpa using h)]

/-! ### A port whose conditions are checked -/

/-- The conditions of R203 do not turn on LINK. -/
theorem State.setLink_healthy (s : State) (p v : Nat) : (s.setF F.MAC_STATUS_LINK p v).portHealthy p = s.portHealthy p := by
  have key : R.MAC_STATUS.key p = 0x10300008 + (p % 64 * 0x1000 + p / 64 * 0x1000000) := (rfl)
  have mode : R.GLB_MODE.key 0 = 0x10 := by decide
  have status (f : Fld) (hr : f.reg = R.MAC_STATUS) (hw : f.lo + f.wd ≤ 32) (h : f.lo + f.wd ≤ 2 ∨ 3 ≤ f.lo) :
      (s.setF F.MAC_STATUS_LINK p v).flag f p = s.flag f p := by
    unfold State.flag
    rw [State.fld_setF_other _ _ _ _ _ hr hw h]
  have other (f : Fld) (hq : f.reg.dims = laneDims) (hb : f.reg.base ≠ R.MAC_STATUS.base) : (s.setF F.MAC_STATUS_LINK p v).fld f p = s.fld f p :=
    State.fld_setF_ne _ _ (Reg.key_ne_of_base hq hb p)
  have link : (s.setF F.MAC_STATUS_LINK p v).linkPresent p = s.linkPresent p := by
    unfold State.linkPresent State.speed State.flag
    rw [other F.MAC_CFG_SPEED (by rfl) (by decide), other F.STCH_STATUS_LINK_UP (by rfl) (by decide), other F.PCS_STATUS_ALIGNED (by rfl) (by decide)]
  unfold State.portHealthy State.portConfigured
  rw [link, State.setF_mode _ _ _ _ (by show R.GLB_MODE.key 0 ≠ R.MAC_STATUS.key p; omega), status F.MAC_STATUS_CONFIGURED (by rfl) (by decide) (by decide),
    status F.MAC_STATUS_ERR_DISABLED (by rfl) (by decide) (by decide), status F.MAC_STATUS_LOCAL_FAULT (by rfl) (by decide) (by decide),
    status F.MAC_STATUS_REMOTE_FAULT (by rfl) (by decide) (by decide)]

theorem State.checkPort_link (s : State) (p : Nat) (hp : p < 1024) : (s.checkPort p).fld F.MAC_STATUS_LINK p = b2n (s.portConfigured p && s.linkPresent p) := by
  have hset : (s.setF F.MAC_STATUS_LINK p (b2n (s.portConfigured p && s.linkPresent p))).fld F.MAC_STATUS_LINK p
      = b2n (s.portConfigured p && s.linkPresent p) := by
    rw [State.fld_setF_same _ _ _ _ (by decide)]
    cases s.portConfigured p && s.linkPresent p <;> rfl
  unfold State.checkPort
  dsimp only
  split
  · exact hset
  · exact (State.portDown_link _ p hp).trans hset

theorem State.checkPort_unhealthy (s : State) (p : Nat) (hp : p < 1024) (h : s.portHealthy p = false) : (s.checkPort p).operUp p = false := by
  unfold State.checkPort
  dsimp only
  rw [s.setLink_healthy p _, h, if_neg Bool.false_ne_true]
  exact State.portDown_operUp _ p hp

theorem State.checkPort_healthy (s : State) (p : Nat) (h : s.portHealthy p = true) : (s.checkPort p).operUp p = s.operUp p := by
  unfold State.checkPort State.operUp State.flag
  dsimp only
  rw [s.setLink_healthy p _, h, if_pos rfl, State.fld_setF_other _ _ _ _ _ (by rfl) (by decide) (by decide)]

theorem State.checkPort_queues (s : State) (p : Nat) : (s.checkPort p).queues = s.queues := by
  unfold State.checkPort
  dsimp only
  split
  · rfl
  · exact State.portDown_queues _ p

end Sys2Proof.Machine

namespace Sys2Proof.Machine

/-! ### Verification of preemption -/

/-- What a port's statistics leave of its preemption registers. -/
theorem State.macStat_preempt (s : State) (p k n : Nat) (f : Fld) (hf : f.reg = R.MAC_PREEMPT_CFG ∨ f.reg = R.MAC_PREEMPT_STATUS) :
    (s.macStat p k n).fld f p = s.fld f p := by
  refine s.macStat_fld p k n f p ?_
  obtain h | h := hf <;> rw [h]
  · exact countKey_mac (by rfl) (by decide) p
  · exact countKey_mac (by rfl) (by decide) p

/-- A verify or respond frame at an Ethernet port with preemption enabled. -/
theorem execPreemptVerifyRx_enabled (s : State) (p : Nat) (respond : Bool) (hc : s.portConfigured p = true) (h5 : s.speed p ≠ 5)
    (he : s.flag F.MAC_PREEMPT_CFG_ENABLE p = true) : execPreemptVerifyRx p respond s = .next
      (if respond then (if s.fld F.MAC_PREEMPT_STATUS_STATE p = 1 then (s.macStat p 14 1).setF F.MAC_PREEMPT_STATUS_STATE p 2 else s.macStat p 14 1)
        else (s.macStat p 14 1).putMac p { (s.macStat p 14 1).mac p with control := (3, []) }) := by
  have hen : (s.macStat p 14 1).flag F.MAC_PREEMPT_CFG_ENABLE p = true := by
    unfold State.flag at he ⊢
    rw [s.macStat_preempt p 14 1 _ (.inl rfl), he]
  unfold execPreemptVerifyRx
  dsimp only
  rw [hc, hen, s.macStat_preempt p 14 1 _ (.inr rfl), if_pos (by simpa using h5), if_neg (by decide)]

theorem execPreemptVerifyRx_respond (s : State) (p : Nat) (hc : s.portConfigured p = true) (h5 : s.speed p ≠ 5)
    (he : s.flag F.MAC_PREEMPT_CFG_ENABLE p = true) (hs : s.fld F.MAC_PREEMPT_STATUS_STATE p = 1) :
    ∃ t, execPreemptVerifyRx p true s = .next t ∧ Wrote (s.macStat p 14 1) t [(F.MAC_PREEMPT_STATUS_STATE, p, 2)] := by
  refine ⟨_, execPreemptVerifyRx_enabled s p true hc h5 he, ?_⟩
  rw [if_pos rfl, if_pos hs]
  exact Wrote.setF _ _ p 2 (by decide)

/-- An attempt below the limit fits its field. -/
theorem execPreemptVerifyTimer_again (s : State) (p : Nat) (hs : s.fld F.MAC_PREEMPT_STATUS_STATE p = 1)
    (hl : s.fld F.MAC_PREEMPT_STATUS_ATTEMPTS p < s.fld F.MAC_PREEMPT_CFG_VERIFY_LIMIT p) :
    ∃ u, Wrote s u [(F.MAC_PREEMPT_STATUS_ATTEMPTS, p, s.fld F.MAC_PREEMPT_STATUS_ATTEMPTS p + 1)]
      ∧ execPreemptVerifyTimer p s = .next (u.putMac p { s.mac p with control := (2, []) }) := by
  have hlimit : s.fld F.MAC_PREEMPT_CFG_VERIFY_LIMIT p < 2 ^ 4 := bits_lt _ _ _
  have hinc : s.inc F.MAC_PREEMPT_STATUS_ATTEMPTS p
      = s.setF F.MAC_PREEMPT_STATUS_ATTEMPTS p (s.fld F.MAC_PREEMPT_STATUS_ATTEMPTS p + 1) :=
    congrArg (s.setF F.MAC_PREEMPT_STATUS_ATTEMPTS p) (Nat.min_eq_left (by show _ ≤ 2 ^ 4 - 1; omega))
  refine ⟨_, Wrote.setF s F.MAC_PREEMPT_STATUS_ATTEMPTS p _ (by decide), ?_⟩
  unfold execPreemptVerifyTimer
  rw [if_pos hs, if_pos hl, hinc]

/-- At its limit verification has failed. -/
def State.verifyFailWrites (s : State) (p : Nat) : List (Fld × Nat × Nat) :=
  [(F.MAC_PREEMPT_STATUS_STATE, p, 3), (F.MAC_PREEMPT_STATUS_VERIFY_FAIL, p, 1),
    (F.MAC_PREEMPT_STATUS_FAIL_COUNT, p, satBits 8 (s.fld F.MAC_PREEMPT_STATUS_FAIL_COUNT p + 1))]

theorem execPreemptVerifyTimer_fails (s : State) (p : Nat) (hs : s.fld F.MAC_PREEMPT_STATUS_STATE p = 1)
    (hl : s.fld F.MAC_PREEMPT_CFG_VERIFY_LIMIT p ≤ s.fld F.MAC_PREEMPT_STATUS_ATTEMPTS p) :
    ∃ u, Wrote s u (s.verifyFailWrites p)
      ∧ execPreemptVerifyTimer p s = .next ((u.note (E.MAC_PORT_EVENT p)).note (E.MAC_PREEMPT_VERIFY_FAIL (p / 64))) := by
  have hset : (s.setF F.MAC_PREEMPT_STATUS_STATE p 3).setCounted F.MAC_PREEMPT_STATUS_VERIFY_FAIL F.MAC_PREEMPT_STATUS_FAIL_COUNT p
      = s.setAll (s.verifyFailWrites p) := by
    rw [State.setCounted_eq _ _ _ _ (by rfl) (by decide) (by decide), State.fld_setF_other _ _ _ _ _ (by rfl) (by decide) (by decide)]
    rfl
  refine ⟨_, Wrote.setAll s _ ?_ ?_, ?_⟩
  · simp [State.verifyFailWrites, F.MAC_PREEMPT_STATUS_STATE, F.MAC_PREEMPT_STATUS_VERIFY_FAIL, F.MAC_PREEMPT_STATUS_FAIL_COUNT]
  · simp [State.verifyFailWrites, Separate, F.MAC_PREEMPT_STATUS_STATE, F.MAC_PREEMPT_STATUS_VERIFY_FAIL, F.MAC_PREEMPT_STATUS_FAIL_COUNT]
  · unfold execPreemptVerifyTimer
    rw [if_pos hs, if_neg (by omega), hset]

/-! ### Links -/

theorem execFaultSignalRx_stores (s : State) (p : Nat) (loc rem : Bool) (hc : s.portConfigured p = true) (h5 : s.speed p ≠ 5) :
    ∃ u, Wrote s u [(F.MAC_STATUS_LOCAL_FAULT, p, b2n loc), (F.MAC_STATUS_REMOTE_FAULT, p, b2n rem)]
      ∧ execFaultSignalRx p loc rem s = .next ((if loc then u.putMac p { s.mac p with control := (4, []) }
          else if rem then u.putMac p { s.mac p with control := (5, []) } else u).checkPort p) := by
  refine ⟨_, Wrote.setAll s _ ?_ ?_, ?_⟩
  · simp [F.MAC_STATUS_LOCAL_FAULT, F.MAC_STATUS_REMOTE_FAULT]
  · simp [Separate, F.MAC_STATUS_LOCAL_FAULT, F.MAC_STATUS_REMOTE_FAULT]
  · unfold execFaultSignalRx
    rw [hc, if_pos (by simpa using h5)]
    rfl

theorem execPortLinkLoss_checks (s : State) (p : Nat) (hc : s.portConfigured p = true) : execPortLinkLoss p s = .next (s.checkPort p) := by
  unfold execPortLinkLoss
  rw [if_pos hc]

theorem execPortUpHoldExpire_up (s : State) (p : Nat) (hh : s.portHealthy p = true) (ha : s.flag F.MAC_CFG_ADMIN_UP p = true) (ho : s.operUp p = false) :
    ∃ u, Wrote s u [(F.MAC_STATUS_OPER_UP, p, 1), (F.MAC_STATUS_LINK, p, 1)]
      ∧ execPortUpHoldExpire p s = .next ((u.setLive p true).startVerify p) := by
  refine ⟨_, Wrote.setAll s _ ?_ ?_, ?_⟩
  · simp [F.MAC_STATUS_OPER_UP, F.MAC_STATUS_LINK]
  · simp [Separate, F.MAC_STATUS_OPER_UP, F.MAC_STATUS_LINK]
  · unfold execPortUpHoldExpire
    rw [hh, ha, ho, if_pos (by decide)]
    rfl

theorem execPortAdminDownDone_down (s : State) (p : Nat) (ho : s.operUp p = true) (ha : s.flag F.MAC_CFG_ADMIN_UP p = false)
    (hs : (s.mac p).sending = none) : execPortAdminDownDone p s = .next (s.portDown p) := by
  unfold execPortAdminDownDone
  rw [ho, ha, hs, if_pos (by decide)]

/-- Settles O22: verification by the one field it moves, a link by what a port that is checked or goes down leaves of MAC_STATUS. -/
theorem portsFollowTheirLinksAndPeers : Obligations.PortsFollowTheirLinksAndPeers := by
  unfold Obligations.PortsFollowTheirLinksAndPeers
  refine ⟨fun s p _ => ⟨fun hc h5 he => ⟨execPreemptVerifyRx_respond s p hc h5 he, _, rfl, execPreemptVerifyRx_enabled s p false hc h5 he⟩,
      fun hs => ⟨execPreemptVerifyTimer_again s p hs, execPreemptVerifyTimer_fails s p hs⟩⟩,
    fun s p hp => ⟨fun hc loc rem => execFaultSignalRx_stores s p loc rem hc, fun hc => ?_, execPortUpHoldExpire_up s p, fun ho ha hs => ?_⟩⟩
  · refine ⟨_, execPortLinkLoss_checks s p hc, ?_, s.checkPort_unhealthy p hp, s.checkPort_healthy p⟩
    rw [s.checkPort_link p hp, hc, Bool.true_and]
  · obtain ⟨hdown, hcount⟩ := s.portDown_counted p hp ho
    exact ⟨_, execPortAdminDownDone_down s p ho ha hs, s.portDown_operUp p hp, s.portDown_live p hp ho, hdown, hcount⟩

end Sys2Proof.Machine

namespace Sys2Proof.Machine

/-! ### Frames at the receive MAC -/

theorem State.macStat_mac (s : State) (p k n j : Nat) : (s.macStat p k n).mac j = s.mac j :=
  CountApart.macStat (g := fun t => t.mac j) (fun _ _ _ _ _ => rfl) s p k n

theorem State.setF_mac (s : State) (f : Fld) (i v p : Nat) : (s.setF f i v).mac p = s.mac p := (rfl)

/-- What a port's statistics leave of the registers that its own MAC has once. -/
theorem State.macStat_mac_fld (s : State) (p k n : Nat) (f : Fld) (hd : f.reg.dims = laneDims) (hb : 0x10000000 ≤ f.reg.base ∧ f.reg.base % 0x1000 < 0x380)
    (j : Nat) : (s.macStat p k n).fld f j = s.fld f j := s.macStat_fld p k n f j (countKey_mac hd hb j)

theorem State.macStat_maxFrame (s : State) (p k n j : Nat) : (s.macStat p k n).maxFrame j = s.maxFrame j :=
  congrArg (clamp 64 16383) (s.macStat_mac_fld p k n F.MAC_CFG_MAX_FRAME (by rfl) (by decide) j)

theorem State.macStat_speed (s : State) (p k n j : Nat) : (s.macStat p k n).speed j = s.speed j :=
  s.macStat_mac_fld p k n F.MAC_CFG_SPEED (by rfl) (by decide) j

theorem State.macStat_operUp (s : State) (p k n j : Nat) : (s.macStat p k n).operUp j = s.operUp j :=
  congrArg (· == 1) (s.macStat_mac_fld p k n F.MAC_STATUS_OPER_UP (by rfl) (by decide) j)

/-- A good frame shows none of the receive errors. -/
theorem rxVerdict_good (L maxFrame : Nat) (h : 64 ≤ L) (hm : L ≤ maxFrame) : rxVerdict true false false true L maxFrame = ⟨none, false, false⟩ := by
  unfold rxVerdict
  rw [if_neg (by decide), if_neg (by decide), if_neg (by omega), if_neg (by omega), if_neg (by decide), if_neg (by decide)]

theorem rxVerdict_runt (fcs : Bool) (L maxFrame : Nat) (h : L < 64) : rxVerdict true false false fcs L maxFrame = ⟨some 3, true, true⟩ := by
  unfold rxVerdict
  rw [if_neg (by decide), if_neg (by decide), if_pos h]

/-- A good frame as the front end takes it, before it has a number. -/
def State.wholeFrame (v : State) (p deskew : Nat) (bytes : List Byte) : Frame where
  id := 0
  port := p
  bytes := bytes
  bad := false
  stitchClass := none
  rxStamp := v.rxStampAt p deskew
  stale := v.staleLane p
  inject := none
  leadStamp := none
  trailers := if v.flag F.MRG_PORT_CFG_RECOGNISE p then countTrailers 16 (bytes.take (bytes.length - 4)) else 0

/-- A good frame that is no control frame is counted and handed to the front end. -/
theorem State.receive_good (s v : State) (p deskew : Nat) (bytes : List Byte) (h5 : s.speed p ≠ 5)
    (hv : v = ((s.macStat p 13 0).macStat p 0 1).macStat p 1 bytes.length) (ho : v.operUp p = true) (hf : fcsOk bytes = true) (h64 : 64 ≤ bytes.length)
    (hm : bytes.length ≤ s.maxFrame p) (hk : controlKind bytes = none) (hp : v.portPtp p bytes = none) :
    s.receive p true false 0 false false deskew bytes none none = v.admitFrame (p / 32) (v.wholeFrame p deskew bytes) := by
  have hmax : v.maxFrame p = s.maxFrame p := by rw [hv, State.macStat_maxFrame, State.macStat_maxFrame, State.macStat_maxFrame]
  have hspeed : (v.speed p == 5) = false := by
    rw [hv, State.macStat_speed, State.macStat_speed, State.macStat_speed]
    simpa using h5
  have htake : bytes.take (v.maxFrame p + 1) = bytes := List.take_of_length_le (by omega)
  have hverdict : rxVerdict true false false true bytes.length ((s.macStat p 13 0).maxFrame p) = ⟨none, false, false⟩ :=
    rxVerdict_good _ _ h64 (by rwa [State.macStat_maxFrame])
  unfold State.receive
  simp only [hf, Nat.lt_irrefl, decide_false, Bool.false_and, Bool.or_false, Bool.not_false, Bool.and_true, hverdict, Bool.false_eq_true, if_false, ← hv]
  simp only [ho, hspeed, hk, hp, htake, Bool.not_true, Bool.or_false, Bool.and_false, Bool.false_eq_true, if_false]
  rfl

theorem State.receive_runt (s : State) (p deskew : Nat) (bytes : List Byte) (h : bytes.length < 64) :
    s.receive p true false 0 false false deskew bytes none none = (s.macStat p 13 0).macStat p 3 1 := by
  unfold State.receive
  simp only [Nat.lt_irrefl, decide_false, Bool.false_and, Bool.or_false, rxVerdict_runt _ _ _ h, if_true]

theorem State.settleBacklog_prs (s : State) (i : Nat) : (s.settleBacklog i).prs = s.prs := by
  unfold State.settleBacklog
  rw [State.setF_prs, State.setF_prs]

theorem State.settleBacklog_stores (s : State) (i : Nat) : (s.settleBacklog i).queues = s.queues ∧ (s.settleBacklog i).vlt = s.vlt := by
  unfold State.settleBacklog
  rw [State.setF_queues, State.setF_queues, State.setF_vlt, State.setF_vlt]
  exact ⟨rfl, rfl⟩

/-- A frame for which the front end has room stands behind those that wait there, with the next number. -/
theorem State.admitFrame_room (s : State) (i : Nat) (f : Frame) (h : s.backlog i + f.bytes.length ≤ 65536) :
    (s.admitFrame i f).prs
      = { s.prs with nextFrame := s.prs.nextFrame + 1, fe := Tab.set [] s.prs.fe i (Tab.get [] s.prs.fe i ++ [{ f with id := s.prs.nextFrame }]) }
    ∧ (s.admitFrame i f).queues = s.queues ∧ (s.admitFrame i f).vlt = s.vlt := by
  have hroom : ¬ 65536 < State.backlog { s with prs := { s.prs with nextFrame := s.prs.nextFrame + 1 } } i + f.bytes.length := Nat.not_lt.2 h
  unfold State.admitFrame
  dsimp only
  rw [if_neg hroom, State.settleBacklog_prs]
  exact ⟨rfl, State.settleBacklog_stores _ i⟩

/-- A frame at an Ethernet port whose link is present. -/
theorem execMacRxFrame_ethernet (s : State) (p deskew : Nat) (bytes : List Byte) (hc : s.portConfigured p = true) (hm : bit 0x78 s.mode = true)
    (h5 : s.speed p ≠ 5) (hl : s.linkPresent p = true) : execMacRxFrame p true false 0 false deskew bytes s
      = .next (s.receive p true false 0 false false deskew bytes none none) := by
  unfold execMacRxFrame
  rw [hc, hm, hl, if_neg (by decide), if_neg h5, if_neg (by decide)]

theorem execMacRxFrame_good (s v : State) (p deskew : Nat) (bytes : List Byte) (hc : s.portConfigured p = true) (hmode : bit 0x78 s.mode = true)
    (h5 : s.speed p ≠ 5) (hl : s.linkPresent p = true) (hv : v = ((s.macStat p 13 0).macStat p 0 1).macStat p 1 bytes.length) (ho : v.operUp p = true)
    (hf : fcsOk bytes = true) (h64 : 64 ≤ bytes.length) (hm : bytes.length ≤ s.maxFrame p) (hk : controlKind bytes = none) (hp : v.portPtp p bytes = none)
    (hroom : v.backlog (p / 32) + bytes.length ≤ 65536) :
    ∃ t f, execMacRxFrame p true false 0 false deskew bytes s = .next t
      ∧ Tab.get [] t.prs.fe (p / 32) = Tab.get [] s.prs.fe (p / 32) ++ [f]
      ∧ f.port = p ∧ f.bytes = bytes ∧ f.bad = false ∧ f.stitchClass = none ∧ f.inject = none ∧ f.id = s.prs.nextFrame
      ∧ t.prs.nextFrame = s.prs.nextFrame + 1 ∧ t.queues = s.queues ∧ t.vlt = s.vlt := by
  have keep {β : Type} {g : State → β} (hg : CountApart g) : g v = g s := by rw [hv, hg.macStat, hg.macStat, hg.macStat]
  have hprs : v.prs = s.prs := keep fun _ _ _ _ _ => rfl
  have hqueues : v.queues = s.queues := keep fun _ _ _ _ _ => rfl
  have hvlt : v.vlt = s.vlt := keep fun _ _ _ _ _ => rfl
  obtain ⟨tprs, tqueues, tvlt⟩ := v.admitFrame_room (p / 32) (v.wholeFrame p deskew bytes) hroom
  refine ⟨_, { v.wholeFrame p deskew bytes with id := s.prs.nextFrame }, (execMacRxFrame_ethernet s p deskew bytes hc hmode h5 hl).trans
    (by rw [s.receive_good v p deskew bytes h5 hv ho hf h64 hm hk hp]), ?_, rfl, rfl, rfl, rfl, rfl, rfl, ?_, tqueues.trans hqueues, tvlt.trans hvlt⟩
  · rw [tprs, Tab.get_set_same, hprs]
  · rw [tprs, hprs]

/-! ### Pauses -/

theorem pfc_status_timer_key (p q : Nat) (hq : q < 8) : R.MAC_PFC_TIMER.key (q + 8 * p) ≠ R.MAC_PFC_STATUS.key p := by
  have hs : R.MAC_PFC_STATUS.key p = 0x10300028 + macAt p := Reg.key_mac (by rfl) p
  rw [pfc_timer_key p q hq, hs]
  omega

/-- Priority `q` of a port is paused, by a timer that stands at `time` and for the queues of a mask, where `on`, and else not. -/
structure PauseIs (t : State) (p q time mask : Nat) (on : Bool) : Prop where
  timer : t.fld F.MAC_PFC_TIMER_REMAINING (q + 8 * p) = time
  paused : bit (t.fld F.MAC_PFC_STATUS_PAUSED p) q = on
  queues : Tab.get 0 (t.mac p).paused q = mask

/-- The timer and the PAUSED bit of a priority written, its queues set before. -/
theorem PauseIs.written (s : State) (p q time mask : Nat) (on : Bool) (hq : q < 8) (ht : time < 2 ^ 16) (hm : Tab.get 0 (s.mac p).paused q = mask) :
    PauseIs ((s.setF F.MAC_PFC_TIMER_REMAINING (q + 8 * p) time).setF F.MAC_PFC_STATUS_PAUSED p (putBits (s.fld F.MAC_PFC_STATUS_PAUSED p) q 1 (b2n on)))
      p q time mask on where
  timer := by
    rw [State.fld_setF_ne _ _ (pfc_status_timer_key p q hq), State.fld_setF_same _ _ _ _ (by decide)]
    exact Nat.mod_eq_of_lt ht
  paused := by
    rw [State.fld_setF_same _ _ _ _ (by decide)]
    exact (bit_putBits_one _ 8 q q on hq).trans (if_pos rfl)
  queues := by rw [State.setF_mac, State.setF_mac, hm]

theorem State.endPause_ends (s : State) (p q : Nat) (hq : q < 8) : PauseIs (s.endPause p q) p q 0 0 false := by
  unfold State.endPause
  dsimp only
  refine PauseIs.written _ p q 0 0 false hq (by decide) ?_
  unfold State.mac State.putMac
  rw [Tab.get_set_same, Tab.get_set_same]

theorem idxs_one_bit : ∀ q < 8, (idxs 8 fun i => bit (2 ^ q) i) = [q] := by decide

/-- A PFC frame that names one priority. -/
theorem execPfcFrameRx_one (s : State) (p q : Nat) (times : List Nat) (hq : q < 8) (hc : s.portConfigured p = true) (h5 : s.speed p ≠ 5) :
    execPfcFrameRx p (2 ^ q) times s = .next (s.pfcPriority p q (times.getD q 0 % 65536)) := by
  unfold execPfcFrameRx
  rw [hc, if_pos (by simpa using h5), idxs_one_bit q hq]
  rfl

/-- An enabled priority of a port that is up, no storm on it: time 0 ends its pause, another time pauses the queues of its map. -/
theorem State.pfcPriority_enabled (s : State) (p q time : Nat) (hq : q < 8) (ho : s.operUp p = true) (hstorm : bit (s.fld F.MAC_PFC_STATUS_STORM p) q = false)
    (hen : bit (s.fld F.MAC_PFC_CFG_RX_EN p) q = true) (ht : time < 2 ^ 16) :
    PauseIs (s.pfcPriority p q time) p q time (if time = 0 then 0 else s.pfcMap p q) (decide (0 < time)) := by
  have hmap : (s.macStat p (24 + q) 1).pfcMap p q = s.pfcMap p q :=
    congrArg (bits · (16 * (q % 2)) 16) (s.macStat_rd p (24 + q) 1 R.MAC_PFC_QMAP _ (countKey_qmap p (q / 2) (by omega)))
  unfold State.pfcPriority
  dsimp only
  rw [State.macStat_operUp, ho, if_neg (by decide), s.macStat_mac_fld _ _ _ _ (by rfl) (by decide), hstorm, if_neg (by decide),
    s.macStat_mac_fld _ _ _ _ (by rfl) (by decide), hen, if_neg (by decide)]
  by_cases h0 : time = 0
  · rw [h0]
    exact State.endPause_ends _ p q hq
  · rw [if_neg h0, if_neg h0, hmap, decide_eq_true (Nat.pos_of_ne_zero h0)]
    refine PauseIs.written _ p q time _ true hq ht ?_
    unfold State.mac State.putMac
    rw [Tab.get_set_same, Tab.get_set_same]

theorem execPfcFrameRx_pauses (s : State) (p q time : Nat) (times : List Nat) (hq : q < 8) (hc : s.portConfigured p = true) (h5 : s.speed p ≠ 5)
    (ho : s.operUp p = true) (hstorm : bit (s.fld F.MAC_PFC_STATUS_STORM p) q = false) (hen : bit (s.fld F.MAC_PFC_CFG_RX_EN p) q = true)
    (hget : times.getD q 0 = time) (h0 : 0 < time) (h16 : time < 2 ^ 16) :
    ∃ t, execPfcFrameRx p (2 ^ q) times s = .next t ∧ t.fld F.MAC_PFC_TIMER_REMAINING (q + 8 * p) = time
      ∧ bit (t.fld F.MAC_PFC_STATUS_PAUSED p) q = true ∧ Tab.get 0 (t.mac p).paused q = s.pfcMap p q := by
  obtain ⟨htimer, hpaused, hqueues⟩ := s.pfcPriority_enabled p q time hq ho hstorm hen h16
  have hmod : time % 65536 = time := Nat.mod_eq_of_lt h16
  rw [if_neg (by omega)] at hqueues
  exact ⟨_, (execPfcFrameRx_one s p q times hq hc h5).trans (by rw [hget, hmod]), htimer, hpaused.trans (decide_eq_true h0), hqueues⟩

theorem execPfcFrameRx_resumes (s : State) (p q : Nat) (hq : q < 8) (hc : s.portConfigured p = true) (h5 : s.speed p ≠ 5)
    (ho : s.operUp p = true) (hstorm : bit (s.fld F.MAC_PFC_STATUS_STORM p) q = false) (hen : bit (s.fld F.MAC_PFC_CFG_RX_EN p) q = true) :
    ∃ t, execPfcFrameRx p (2 ^ q) [] s = .next t ∧ t.fld F.MAC_PFC_TIMER_REMAINING (q + 8 * p) = 0
      ∧ bit (t.fld F.MAC_PFC_STATUS_PAUSED p) q = false ∧ Tab.get 0 (t.mac p).paused q = 0 := by
  obtain ⟨htimer, hpaused, hqueues⟩ := s.pfcPriority_enabled p q 0 hq ho hstorm hen (by decide)
  exact ⟨_, execPfcFrameRx_one s p q [] hq hc h5, htimer, hpaused, hqueues⟩

theorem execPfcTimerExpire_ends (s : State) (p q : Nat) (hq : q < 8) (hp : bit (s.fld F.MAC_PFC_STATUS_PAUSED p) q = true) :
    ∃ t, execPfcTimerExpire p q s = .next t ∧ t.fld F.MAC_PFC_TIMER_REMAINING (q + 8 * p) = 0 ∧ bit (t.fld F.MAC_PFC_STATUS_PAUSED p) q = false
      ∧ Tab.get 0 (t.mac p).paused q = 0 ∧ t.queues = s.queues := by
  obtain ⟨htimer, hpaused, hqueues⟩ := s.endPause_ends p q hq
  refine ⟨_, ?_, htimer, hpaused, hqueues, PortApart.queues.endPause s p q⟩
  unfold execPfcTimerExpire
  rw [if_pos ⟨hq, hp⟩]

/-! ### Storms -/

/-- A storm's bit and its count. -/
def State.stormWrites (v : State) (p q : Nat) : List (Fld × Nat × Nat) :=
  [(⟨R.MAC_PFC_STATUS, 8 + q, 1⟩, p, 1), (F.MAC_PFC_STATUS_STORM_SET, p, 1),
    (F.MAC_PFC_STATUS_STORM_COUNT, p, satBits 8 (v.fld F.MAC_PFC_STATUS_STORM_COUNT p + 1))]

/-- One bit of STORM is a field of its own. -/
theorem State.setStorm (v : State) (p q x : Nat) (hq : q < 8) :
    v.setF F.MAC_PFC_STATUS_STORM p (putBits (v.fld F.MAC_PFC_STATUS_STORM p) q 1 x) = v.setF ⟨R.MAC_PFC_STATUS, 8 + q, 1⟩ p x :=
  v.setF_within R.MAC_PFC_STATUS 8 8 q 1 p x hq

theorem execPfcStormDetect_storm (s : State) (p q : Nat) (hq : q < 8) (hp : bit (s.fld F.MAC_PFC_STATUS_PAUSED p) q = true) :
    ∃ v u, v = s.endPause p q ∧ Wrote v u (v.stormWrites p q)
      ∧ execPfcStormDetect p q s = .next ((u.note (E.MAC_PORT_EVENT p)).note (E.MAC_PFC_STORM (p / 64))) := by
  refine ⟨_, _, rfl, Wrote.setAll _ _ ?_ ?_, ?_⟩
  · simp [State.stormWrites, F.MAC_PFC_STATUS_STORM_SET, F.MAC_PFC_STATUS_STORM_COUNT]
    omega
  · simp [State.stormWrites, Separate, F.MAC_PFC_STATUS_STORM_SET, F.MAC_PFC_STATUS_STORM_COUNT]
    omega
  · unfold execPfcStormDetect
    dsimp only
    rw [if_pos ⟨hq, hp⟩, State.setStorm _ p q 1 hq, State.setCounted_eq _ _ _ _ (by rfl) (by decide) (by decide),
      State.fld_setF_other _ _ F.MAC_PFC_STATUS_STORM_COUNT _ _ (by rfl) (by decide) (.inr (by show 8 + q + 1 ≤ 24; omega))]
    rfl

theorem execPfcStormRecover_clears (s : State) (p q : Nat) (hq : q < 8) (hs : bit (s.fld F.MAC_PFC_STATUS_STORM p) q = true) :
    ∃ t, execPfcStormRecover p q s = .next t ∧ Wrote s t [(⟨R.MAC_PFC_STATUS, 8 + q, 1⟩, p, 0)] := by
  refine ⟨_, ?_, Wrote.setF s _ p 0 (by show 8 + q + 1 ≤ 32; omega)⟩
  unfold execPfcStormRecover
  rw [if_pos ⟨hq, hs⟩, s.setStorm p q 0 hq]

/-! ### XOFF requests -/

theorem execPfcXoffChange_sends (s : State) (p q : Nat) (hq : q < 8) (hc : s.portConfigured p = true) (ho : s.operUp p = true)
    (ht : bit (s.fld F.MAC_PFC_CFG_TX_EN p) q = true) (h5 : s.speed p ≠ 5) (hx : s.xoffAsked p q ≠ s.flag F.MAC_PFC_TIMER_TX_XOFF (q + 8 * p)) :
    ∃ u, Wrote s u [(F.MAC_PFC_TIMER_TX_XOFF, q + 8 * p, b2n (s.xoffAsked p q))]
      ∧ execPfcXoffChange p q s = .next (u.sendPfc p q (if s.xoffAsked p q then s.fld F.MAC_PFC_CFG_TX_QUANTA p else 0)) := by
  refine ⟨_, Wrote.setF s _ _ _ (by decide), ?_⟩
  unfold execPfcXoffChange
  rw [if_pos (by simp [hc, ho, ht, h5, hq, hx])]

theorem execPfcRefreshTimer_sends (s : State) (p q : Nat) (hq : q < 8) (hc : s.portConfigured p = true) (ho : s.operUp p = true)
    (ht : bit (s.fld F.MAC_PFC_CFG_TX_EN p) q = true) (hx : s.flag F.MAC_PFC_TIMER_TX_XOFF (q + 8 * p) = true) :
    execPfcRefreshTimer p q s = .next (s.sendPfc p q (s.fld F.MAC_PFC_CFG_TX_QUANTA p)) := by
  unfold execPfcRefreshTimer
  rw [if_pos (by simp [hc, ho, ht, hq, hx])]

/-! ### The bytes of a PFC frame -/

theorem byteAt_append_left (l r : List Byte) (i : Nat) (h : i < l.length) : byteAt (l ++ r) i = byteAt l i := by
  unfold byteAt
  rw [List.getD_append _ _ _ _ h]

theorem byteAt_append_right (l r : List Byte) (i : Nat) : byteAt (l ++ r) (l.length + i) = byteAt r i := by
  unfold byteAt
  rw [List.getD_append_right _ _ _ _ (Nat.le_add_right _ _), Nat.add_sub_cancel_left]

theorem beAt_congr {l r : List Byte} {i j n : Nat} (h : ∀ k < n, byteAt l (i + k) = byteAt r (j + k)) : beAt l i n = beAt r j n :=
  List.foldl_ext _ _ _ fun a k hk => by rw [h k (List.mem_range.1 hk)]

theorem beAt_append_left (l r : List Byte) (i n : Nat) (h : i + n ≤ l.length) : beAt (l ++ r) i n = beAt l i n :=
  beAt_congr fun _ _ => byteAt_append_left l r _ (by omega)

theorem beAt_append_right (l r : List Byte) (i j n : Nat) (h : i = l.length + j) : beAt (l ++ r) i n = beAt r j n :=
  beAt_congr fun k _ => by rw [h, Nat.add_assoc, byteAt_append_right]

theorem beBytes_length (n v : Nat) : (beBytes n v).length = n := by
  unfold beBytes
  rw [List.length_reverse, leBytes_length]

theorem beAt_beBytes_two (v : Nat) : beAt (beBytes 2 v) 0 2 = v % 2 ^ 16 := by
  have hi : (BitVec.ofNat 8 (v / 256)).toNat = v / 256 % 256 := BitVec.toNat_ofNat _ _
  have lo : (BitVec.ofNat 8 v).toNat = v % 256 := BitVec.toNat_ofNat _ _
  show (0 * 256 + (BitVec.ofNat 8 (v / 256)).toNat) * 256 + (BitVec.ofNat 8 v).toNat = _
  rw [hi, lo]
  omega

/-- A list of 16-bit numbers as bytes, read back. -/
theorem beAt_flatMap_beBytes (f : Nat → Nat) (l r : List Nat) (a : Nat) :
    beAt ((l ++ a :: r).flatMap fun i => beBytes 2 (f i)) (2 * l.length) 2 = f a % 2 ^ 16 := by
  have hlen : (l.flatMap fun i => beBytes 2 (f i)).length = 2 * l.length := by
    rw [List.length_flatMap, List.map_congr_left fun i _ => beBytes_length 2 (f i), List.map_const', List.sum_replicate, smul_eq_mul, Nat.mul_comm]
  rw [List.flatMap_append, beAt_append_right _ _ _ 0 _ (by rw [hlen, Nat.add_zero]), List.flatMap_cons,
    beAt_append_left _ _ _ _ (by rw [beBytes_length]), beAt_beBytes_two]

/-- The addresses of a PFC frame. -/
def State.pfcAddresses (s : State) (p : Nat) : List Byte :=
  [0x01#8, 0x80#8, 0xC2#8, 0x00#8, 0x00#8, 0x01#8] ++ (w32 (s.rd R.MAC_SA_LO p) ++ leBytes 2 (s.fld F.MAC_SA_HI_ADDR p))

/-- Its type and opcode, and its pause times for the eight priorities. -/
def pfcType : List Byte := [0x88#8, 0x08#8, 0x01#8, 0x01#8]
def pfcTimes (q time : Nat) : List Byte := (List.range 8).flatMap fun i => beBytes 2 (if i = q then time else 0)

theorem State.sendPfc_control (s : State) (p q time : Nat) : ((s.sendPfc p q time).mac p).control
    = (1, withFcs (s.pfcAddresses p ++ pfcType ++ beBytes 2 (2 ^ q) ++ pfcTimes q time ++ List.replicate 26 0#8)) := by
  unfold State.sendPfc
  dsimp only
  rw [State.macStat_mac]
  unfold State.mac State.putMac
  rw [Tab.get_set_same]
  rfl

theorem beAt_pfcTimes (q time : Nat) (hq : q < 8) : beAt (pfcTimes q time) (2 * q) 2 = time % 2 ^ 16 := by
  have hrange : List.range 8 = List.range q ++ q :: List.range' (q + 1) (7 - q) := by
    interval_cases q <;> rfl
  have h := beAt_flatMap_beBytes (fun i => if i = q then time else 0) (List.range q) (List.range' (q + 1) (7 - q)) q
  rw [List.length_range, ← hrange] at h
  exact h.trans (by rw [if_pos rfl])

/-- What the MAC sends is a PFC frame, with the time of its priority. -/
theorem State.sendPfc_frame (s : State) (p q time : Nat) (hq : q < 8) : (((s.sendPfc p q time).mac p).control).1 = 1
    ∧ beAt (((s.sendPfc p q time).mac p).control).2 12 4 = 0x88080101
    ∧ beAt (((s.sendPfc p q time).mac p).control).2 (18 + 2 * q) 2 = time % 2 ^ 16 := by
  have haddr : (s.pfcAddresses p).length = 12 := by simp [State.pfcAddresses, w32, leBytes_length]
  have htype : pfcType.length = 4 := (rfl)
  have htimes : (pfcTimes q time).length = 16 := by simp [pfcTimes, beBytes_length]
  have hhead : (s.pfcAddresses p ++ pfcType ++ beBytes 2 (2 ^ q)).length = 18 := by simp [haddr, htype, beBytes_length]
  rw [State.sendPfc_control]
  unfold withFcs
  refine ⟨rfl, ?_, ?_⟩
  · rw [List.append_assoc, List.append_assoc, List.append_assoc, beAt_append_left _ _ _ _ (by rw [List.length_append, haddr, htype]),
      beAt_append_right _ _ _ 0 _ (by rw [haddr])]
    decide
  · rw [List.append_assoc _ _ (w32 _), List.append_assoc _ (pfcTimes q time), beAt_append_right _ _ _ (2 * q) _ (by rw [hhead]),
      beAt_append_left _ _ _ _ (by omega), beAt_pfcTimes q time hq]

/-- Settles O21: frames by the verdict on a good one and on a runt, pauses by the timer, the bit and the queues that a priority's frame leaves. -/
theorem framesAndPausesArrive : Obligations.FramesAndPausesArrive := by
  unfold Obligations.FramesAndPausesArrive
  refine ⟨fun s v p deskew bytes _ hc hm h5 hl => ⟨execMacRxFrame_good s v p deskew bytes hc hm h5 hl, fun hb => ?_⟩,
    fun s p q _ hq => ⟨fun hc h5 ho hs he => ⟨fun times time => execPfcFrameRx_pauses s p q time times hq hc h5 ho hs he,
        execPfcFrameRx_resumes s p q hq hc h5 ho hs he⟩,
      fun hp => ⟨execPfcTimerExpire_ends s p q hq hp, execPfcStormDetect_storm s p q hq hp⟩, execPfcStormRecover_clears s p q hq,
      fun hc ho ht => ⟨execPfcXoffChange_sends s p q hq hc ho ht, execPfcRefreshTimer_sends s p q hq hc ho ht⟩,
      fun time => s.sendPfc_frame p q time hq⟩⟩
  exact (execMacRxFrame_ethernet s p deskew bytes hc hm h5 hl).trans (by rw [s.receive_runt p deskew bytes hb])

end Sys2Proof.Machine

namespace Sys2Proof.Machine

/-! ### A port is created -/

/-- What one element of a list brings about, and the others keep, holds once all have been gone through. -/
theorem State.each_establishes {α : Type} [DecidableEq α] (P : State → Prop) (l : List α) (f : α → State → State) (a : α) (ha : a ∈ l)
    (hset : ∀ s, P (f a s)) (hkeep : ∀ b ∈ l, b ≠ a → ∀ s, P s → P (f b s)) (s : State) : P (s.each l f) := by
  have kept (k : List α) (hk : k ⊆ l) (s : State) (hs : P s) : P (s.each k f) := by
    induction k generalizing s with
    | nil => exact hs
    | cons b k ih =>
      refine ih (fun c hc => hk (List.mem_cons_of_mem _ hc)) _ ?_
      by_cases hb : b = a
      · rw [hb]
        exact hset s
      · exact hkeep b (hk List.mem_cons_self) hb s hs
  obtain ⟨k, r, rfl⟩ := List.append_of_mem ha
  have hsplit : s.each (k ++ a :: r) f = (f a (s.each k f)).each r f := by
    unfold State.each
    rw [List.foldl_append, List.foldl_cons]
  rw [hsplit]
  exact kept r (fun b hb => by simp [hb]) _ (hset _)

/-- What becomes of one lane of a new port. -/
def State.startLane (s : State) (n rate coding : Nat) : State :=
  (s.setAll [(F.LANE_CTL_RATE, n, rate), (F.LANE_CTL_CODING, n, coding), (F.LANE_CTL_ENABLE, n, 1)]).refreshTx n

theorem State.createPort_eq (s : State) (p speed : Nat) : s.createPort p speed
    = ((s.setF F.MAC_CFG_SPEED p speed).setF F.MAC_STATUS_CONFIGURED p 1).each (wantLanes p speed) fun n t =>
        t.startLane n (speedRate speed) (speedCoding speed) := (rfl)

theorem State.startLane_rd (s : State) (n rate coding : Nat) (q : Reg) (j : Nat) (hc : q.key j ≠ R.LANE_CTL.key n) (hs : q.key j ≠ R.LANE_STATUS.key n) :
    (s.startLane n rate coding).rd q j = s.rd q j := by
  unfold State.startLane State.refreshTx
  rw [State.rd_setF_ne _ _ hs, State.setAll_rd]
  simpa [F.LANE_CTL_RATE, F.LANE_CTL_CODING, F.LANE_CTL_ENABLE] using hc.symm

/-- The control fields of a lane that carries a port. -/
def LaneRuns (n rate coding : Nat) (t : State) : Prop :=
  t.fld F.LANE_CTL_ENABLE n = 1 ∧ t.fld F.LANE_CTL_RATE n = rate ∧ t.fld F.LANE_CTL_CODING n = coding

theorem State.startLane_runs (s : State) (n rate coding : Nat) (hr : rate < 2) (hc : coding < 2) : LaneRuns n rate coding (s.startLane n rate coding) := by
  have hw := Wrote.setAll s [(F.LANE_CTL_RATE, n, rate), (F.LANE_CTL_CODING, n, coding), (F.LANE_CTL_ENABLE, n, 1)]
    (by simp [F.LANE_CTL_RATE, F.LANE_CTL_CODING, F.LANE_CTL_ENABLE]) (by simp [Separate, F.LANE_CTL_RATE, F.LANE_CTL_CODING, F.LANE_CTL_ENABLE])
  have hkey : R.LANE_CTL.key n ≠ R.LANE_STATUS.key n := Reg.key_ne_of_base (by rfl) (by decide) n
  have hfld (f : Fld) (v : Nat) (hf : f.reg = R.LANE_CTL) (hv : v < 2 ^ f.wd)
      (hm : (f, n, v) ∈ [(F.LANE_CTL_RATE, n, rate), (F.LANE_CTL_CODING, n, coding), (F.LANE_CTL_ENABLE, n, 1)]) :
      (s.startLane n rate coding).fld f n = v := by
    unfold State.startLane State.refreshTx
    rw [State.fld_setF_ne _ _ (by rw [hf]; exact hkey), hw.fld f n v hm, Nat.mod_eq_of_lt hv]
  exact ⟨hfld _ _ (by rfl) (by decide) (by simp), hfld _ _ (by rfl) hr (by simp), hfld _ _ (by rfl) hc (by simp)⟩

theorem State.startLane_keeps (s : State) (n m rate coding : Nat) (h : m ≠ n) (hs : LaneRuns n rate coding s) :
    LaneRuns n rate coding (s.startLane m rate coding) := by
  have hrd : (s.startLane m rate coding).rd R.LANE_CTL n = s.rd R.LANE_CTL n := by
    refine s.startLane_rd m rate coding _ _ (Reg.key_lane_ne (by rfl) h.symm) ?_
    have ctl : R.LANE_CTL.key n = 0x10000000 + (n % 64 * 0x1000 + n / 64 * 0x1000000) := (rfl)
    have status : R.LANE_STATUS.key m = 0x10000004 + (m % 64 * 0x1000 + m / 64 * 0x1000000) := (rfl)
    omega
  have hfld (f : Fld) (hf : f.reg = R.LANE_CTL) : (s.startLane m rate coding).fld f n = s.fld f n := by
    unfold State.fld
    rw [hf, hrd]
  unfold LaneRuns
  rwa [hfld _ (by rfl), hfld _ (by rfl), hfld _ (by rfl)]

theorem speedRate_lt (speed : Nat) : speedRate speed < 2 := by
  unfold speedRate
  split <;> decide

theorem speedCoding_lt (speed : Nat) : speedCoding speed < 2 := by
  unfold speedCoding
  split <;> decide

theorem State.createPort_lanes (s : State) (p speed n : Nat) (h0 : p ≤ n) (h1 : n < p + speedLanes speed) :
    LaneRuns n (speedRate speed) (speedCoding speed) (s.createPort p speed) := by
  have hmem : n ∈ wantLanes p speed := List.mem_map.2 ⟨n - p, List.mem_range.2 (by omega), by omega⟩
  rw [State.createPort_eq]
  exact State.each_establishes (LaneRuns n (speedRate speed) (speedCoding speed)) _ _ n hmem
    (fun t => t.startLane_runs n _ _ (speedRate_lt speed) (speedCoding_lt speed))
    (fun m _ hm t ht => t.startLane_keeps n m _ _ hm ht) _

/-- Its lanes' fields are none of the port's own. -/
theorem State.createPort_rd (s : State) (p speed : Nat) (q : Reg) (hq : q.dims = laneDims) (hb : 0x10300000 ≤ q.base ∧ q.base < 0x10301000) :
    (s.createPort p speed).rd q p = ((s.setF F.MAC_CFG_SPEED p speed).setF F.MAC_STATUS_CONFIGURED p 1).rd q p := by
  rw [State.createPort_eq]
  refine State.each_rd _ _ _ q p fun n _ t => t.startLane_rd n _ _ q p ?_ ?_ <;>
    rw [Reg.key_lane hq, Reg.key_lane (by rfl)]
  · have ctl : R.LANE_CTL.base = 0x10000000 := (rfl)
    omega
  · have status : R.LANE_STATUS.base = 0x10000004 := (rfl)
    omega

theorem State.createPort_creates (s : State) (p speed : Nat) (hs : speed < 6) :
    (s.createPort p speed).portConfigured p = true ∧ (s.createPort p speed).speed p = speed := by
  have hkey : R.MAC_CFG.key p ≠ R.MAC_STATUS.key p := Reg.key_ne_of_base (by rfl) (by decide) p
  have hfld (f : Fld) (hq : f.reg.dims = laneDims) (hb : 0x10300000 ≤ f.reg.base ∧ f.reg.base < 0x10301000) : (s.createPort p speed).fld f p
      = ((s.setF F.MAC_CFG_SPEED p speed).setF F.MAC_STATUS_CONFIGURED p 1).fld f p := by
    unfold State.fld
    rw [s.createPort_rd p speed _ hq hb]
  unfold State.portConfigured State.flag State.speed
  rw [hfld _ (by rfl) (by decide), hfld _ (by rfl) (by decide), State.fld_setF_same _ _ _ _ (by decide), State.fld_setF_ne _ _ hkey,
    State.fld_setF_same _ _ _ _ (by decide)]
  exact ⟨rfl, Nat.mod_eq_of_lt (by show speed < 2 ^ 3; omega)⟩

/-! ### PORT_CONFIG -/

/-- A ready command that answers OK and keeps the queue, the identity and the mode. -/
theorem Ready.answered_ok {s u : State} {m : Nat} {c : Cmd} {checks : Req → Checks} {act : Req → Ans} {r : Req} {own : List Byte}
    (h : Ready s m c checks r) (h0 : s.mode ≠ 0) (ha : act r = .ok u own) (hf : (act r).state.fixed = s.fixed) :
    Answered u (s.runCmd m c checks act) m r 0 0 (respParams c r 0 own) := by
  rw [ha, Ans.ok_state] at hf
  exact h.answered h0 ha (congrArg (·.2.2) hf)

/-- The limits that PORT_CONFIG writes. -/
def portConfigWrites (p : Nat) (r : Req) : List (Fld × Nat × Nat) :=
  [(F.MAC_CFG_MAX_FRAME, p, r.arg A.PORT_CONFIG_MAX_FRAME), (F.MAC_CFG_LEN_OVERHEAD, p, r.arg A.PORT_CONFIG_LEN_OVERHEAD),
    (F.MAC_CFG2_UP_HOLD_US, p, r.arg A.PORT_CONFIG_UP_HOLD_US), (F.MAC_CFG2_FLAP_LIMIT, p, r.arg A.PORT_CONFIG_FLAP_LIMIT)]

theorem State.portConfigWrites_wrote (s : State) (p : Nat) (r : Req) : Wrote s (s.setAll (portConfigWrites p r)) (portConfigWrites p r) := by
  have hkey : R.MAC_CFG.key p ≠ R.MAC_CFG2.key p := Reg.key_ne_of_base (by rfl) (by decide) p
  refine Wrote.setAll s _ ?_ ?_ <;>
    simp [portConfigWrites, Separate, hkey, F.MAC_CFG_MAX_FRAME, F.MAC_CFG_LEN_OVERHEAD, F.MAC_CFG2_UP_HOLD_US, F.MAC_CFG2_FLAP_LIMIT]

theorem execPortConfig_ready (s : State) (m : Nat) (r : Req) (h : Ready s m C.PORT_CONFIG s.portConfigChecks r) :
    ∃ v u w t, execPortConfig m s = .next t
      ∧ v = (if s.portConfigured r.index then s else s.createPort r.index (r.arg A.PORT_CONFIG_SPEED))
      ∧ Wrote v u (portConfigWrites r.index r)
      ∧ w = (if r.on A.PORT_CONFIG_CLEAR_STATS then u.clearMacStats r.index else u).setAdmin r.index (r.on A.PORT_CONFIG_ADMIN_UP)
      ∧ Answered w t m r 0 0 (respParams C.PORT_CONFIG r 0 (w32 (w.rd R.MAC_CFG r.index) ++ w32 (w.rd R.MAC_STATUS r.index))) :=
  ⟨_, _, _, _, rfl, rfl, State.portConfigWrites_wrote _ _ r, rfl, h.answered_ok (h.mode_ne_zero (by rfl) (by decide)) (by rfl)
    (s.portConfigAct_fixed r)⟩

/-! ### PORT_DELETE -/

theorem State.stopLane_queues (s : State) (n : Nat) : (s.stopLane n).queues = s.queues := by
  have lose (t : State) (p : Nat) : (t.loseAlignment p).queues = t.queues := by
    unfold State.loseAlignment
    split
    · rw [State.checkPort_queues, State.note_queues, State.setCounted_queues, State.setF_queues]
    · rfl
  have lane (t : State) (x : Lane) : (t.putLane n x).queues = t.queues := (rfl)
  unfold State.stopLane State.refreshTx
  dsimp only
  split
  · rw [State.checkPort_queues, lose]
    simp only [State.setF_queues, lane]
  · simp only [State.setF_queues, lane]

/-- The frames of one queue of a port discarded. -/
def State.discardQueue (s : State) (p k : Nat) : State :=
  let t := s.each (Tab.get [] s.queues (16 * p + k)) fun d u => (u.releaseDesc 1 d).macStat p 18 1
  ({ t with queues := Tab.set [] t.queues (16 * p + k) [] }).resetRegs fun a => a == R.QSC_Q_DEPTH.key (16 * p + k) || a == R.QSC_Q_FRAMES.key (16 * p + k)

theorem State.discardQueues_eq (s : State) (p : Nat) : s.discardQueues p = s.each (List.range 16) fun k t => t.discardQueue p k := (rfl)

theorem State.discardQueue_queues (s : State) (p k : Nat) : (s.discardQueue p k).queues = Tab.set [] s.queues (16 * p + k) [] := by
  have drop (l : List Nat) : (s.each l fun d u => (u.releaseDesc 1 d).macStat p 18 1).queues = s.queues :=
    State.each_keeps State.queues _ _ s fun d u => by rw [PortApart.queues.count.macStat, PortApart.queues.releaseDesc]
  unfold State.discardQueue
  dsimp only
  rw [State.resetRegs_queues]
  dsimp only
  rw [drop]

/-- Every queue of the port is empty once its frames have been discarded. -/
theorem State.discardQueues_empty (s : State) (p k : Nat) (hk : k < 16) : Tab.get [] (s.discardQueues p).queues (16 * p + k) = [] := by
  rw [State.discardQueues_eq]
  refine State.each_establishes (fun t => Tab.get [] t.queues (16 * p + k) = []) _ _ k (List.mem_range.2 hk) (fun t => ?_) (fun j _ hj t ht => ?_) s
  · rw [State.discardQueue_queues, Tab.get_set_same]
  · rw [State.discardQueue_queues, Tab.get_set_ne _ _ _ (by omega), ht]

/-- The part with a port's queues and lanes cleared and its registers at reset. -/
def State.portDeleted (s : State) (p : Nat) : State :=
  ((((s.portDown p).discardQueues p).each (s.portLanes p) fun l t => (t.setF F.LANE_CTL_ENABLE l 0).stopLane l).putMac p {}).resetRegs fun a =>
    decide (R.MAC_CFG.key p ≤ a ∧ a < R.MAC_CFG.key p + 0x380)

theorem State.portDeleteAct_eq (s : State) (r : Req) : s.portDeleteAct r = .ok (s.portDeleted r.index)
    (w32 (((List.range 16).map fun k => (Tab.get [] s.queues (16 * r.index + k)).length).foldl (· + ·) 0)) := (rfl)

theorem State.portDeleted_rd (s : State) (p : Nat) (q : Reg) (j : Nat) (h0 : R.MAC_CFG.key p ≤ q.key j) (h1 : q.key j < R.MAC_CFG.key p + 0x380) :
    (s.portDeleted p).rd q j = q.rst j := by
  unfold State.portDeleted
  rw [State.resetRegs_rd, if_pos (by simp [h0, h1])]

/-- MAC_STATUS is among the registers that a deleted port leaves at reset. -/
theorem State.portDeleted_status (s : State) (p : Nat) : (s.portDeleted p).portConfigured p = false ∧ (s.portDeleted p).operUp p = false := by
  have cfg : R.MAC_CFG.key p = 0x10300000 + macAt p := Reg.key_mac (by rfl) p
  have status : R.MAC_STATUS.key p = 0x10300008 + macAt p := Reg.key_mac (by rfl) p
  have hrd : (s.portDeleted p).rd R.MAC_STATUS p = 0 := s.portDeleted_rd p _ _ (by omega) (by omega)
  have hflag (f : Fld) (hf : f.reg = R.MAC_STATUS) : (s.portDeleted p).flag f p = false := by
    unfold State.flag State.fld
    rw [hf, hrd]
    simp [bits]
  exact ⟨hflag _ (by rfl), hflag _ (by rfl)⟩

theorem State.portDeleted_queues (s : State) (p k : Nat) (hk : k < 16) : Tab.get [] (s.portDeleted p).queues (16 * p + k) = [] := by
  have mac (t : State) (x : Mac) : (t.putMac p x).queues = t.queues := (rfl)
  unfold State.portDeleted
  rw [State.resetRegs_queues, mac, State.each_queues _ _ _ fun l t => by rw [State.stopLane_queues, State.setF_queues]]
  exact State.discardQueues_empty _ p k hk

theorem execPortDelete_ready (s : State) (m : Nat) (r : Req) (h : Ready s m C.PORT_DELETE s.portDeleteChecks r) :
    ∃ t, execPortDelete m s = .next t ∧ Answered (s.portDeleted r.index) t m r 0 0 (respParams C.PORT_DELETE r 0
      (w32 (((List.range 16).map fun k => (Tab.get [] s.queues (16 * r.index + k)).length).foldl (· + ·) 0))) :=
  ⟨_, rfl, h.answered_ok (h.mode_ne_zero (by rfl) (by decide)) (s.portDeleteAct_eq r) (s.portDeleteAct_fixed r)⟩

/-! ### PFC_CONFIG -/

/-- The fields that PFC_CONFIG writes: enables and storms, the queue map, the source address. -/
def pfcEnableWrites (p : Nat) (r : Req) : List (Fld × Nat × Nat) :=
  [(F.MAC_PFC_CFG_RX_EN, p, r.arg A.PFC_CONFIG_RX_EN), (F.MAC_PFC_CFG_TX_EN, p, r.arg A.PFC_CONFIG_TX_EN),
    (F.MAC_PFC_CFG_TX_QUANTA, p, r.arg A.PFC_CONFIG_TX_QUANTA), (F.MAC_PFC_STORM_DETECT_MS, p, r.arg A.PFC_CONFIG_STORM_DETECT_MS),
    (F.MAC_PFC_STORM_ACTION, p, r.arg A.PFC_CONFIG_STORM_ACTION), (F.MAC_PFC_STORM_RECOVER_MS, p, r.arg A.PFC_CONFIG_STORM_RECOVER_MS)]

def pfcMapWrites (p : Nat) (r : Req) : List (Fld × Nat × Nat) :=
  (List.range 4).map fun w => (⟨R.MAC_PFC_QMAP, 0, 32⟩, w + 4 * p, r.arg (A.PFC_CONFIG_QMAP w))

def macSaWrites (p : Nat) (r : Req) : List (Fld × Nat × Nat) :=
  [(F.MAC_SA_LO_ADDR, p, r.arg A.PFC_CONFIG_MAC_SA_LO), (F.MAC_SA_HI_ADDR, p, r.arg A.PFC_CONFIG_MAC_SA_HI)]

def pfcConfigWrites (p : Nat) (r : Req) : List (Fld × Nat × Nat) := pfcEnableWrites p r ++ pfcMapWrites p r ++ macSaWrites p r

theorem pfc_config_keys (p : Nat) : R.MAC_PFC_CFG.key p = 0x10300010 + macAt p ∧ R.MAC_PFC_STORM.key p = 0x10300014 + macAt p
    ∧ R.MAC_PFC_QMAP.key (4 * p) = 0x10300018 + macAt p ∧ R.MAC_PFC_QMAP.key (1 + 4 * p) = 0x1030001C + macAt p
    ∧ R.MAC_PFC_QMAP.key (2 + 4 * p) = 0x10300020 + macAt p ∧ R.MAC_PFC_QMAP.key (3 + 4 * p) = 0x10300024 + macAt p
    ∧ R.MAC_PFC_STATUS.key p = 0x10300028 + macAt p ∧ R.MAC_SA_LO.key p = 0x10300058 + macAt p ∧ R.MAC_SA_HI.key p = 0x1030005C + macAt p := by
  have h0 := qmap_key p 0 (by decide)
  rw [Nat.zero_add] at h0
  exact ⟨Reg.key_mac (by rfl) p, Reg.key_mac (by rfl) p, h0, qmap_key p 1 (by decide), qmap_key p 2 (by decide), qmap_key p 3 (by decide),
    Reg.key_mac (by rfl) p, Reg.key_mac (by rfl) p, Reg.key_mac (by rfl) p⟩

theorem pfcMapWrites_eq (p : Nat) (r : Req) : pfcMapWrites p r = [(⟨R.MAC_PFC_QMAP, 0, 32⟩, 4 * p, r.arg (A.PFC_CONFIG_QMAP 0)),
    (⟨R.MAC_PFC_QMAP, 0, 32⟩, 1 + 4 * p, r.arg (A.PFC_CONFIG_QMAP 1)), (⟨R.MAC_PFC_QMAP, 0, 32⟩, 2 + 4 * p, r.arg (A.PFC_CONFIG_QMAP 2)),
    (⟨R.MAC_PFC_QMAP, 0, 32⟩, 3 + 4 * p, r.arg (A.PFC_CONFIG_QMAP 3))] := by
  simp [pfcMapWrites, List.range_succ]

theorem State.pfcConfigWrites_wrote (s : State) (p : Nat) (r : Req) : Wrote s (s.setAll (pfcConfigWrites p r)) (pfcConfigWrites p r) := by
  refine Wrote.setAll s _ ?_ ?_ <;>
    simp [pfcConfigWrites, pfcEnableWrites, pfcMapWrites_eq, macSaWrites, Separate, pfc_config_keys, F.MAC_PFC_CFG_RX_EN, F.MAC_PFC_CFG_TX_EN,
      F.MAC_PFC_CFG_TX_QUANTA, F.MAC_PFC_STORM_DETECT_MS, F.MAC_PFC_STORM_ACTION, F.MAC_PFC_STORM_RECOVER_MS, F.MAC_SA_LO_ADDR, F.MAC_SA_HI_ADDR]

/-- PFC_CONFIG leaves MAC_PFC_STATUS. -/
theorem State.pfcConfigWrites_status (s : State) (p : Nat) (r : Req) :
    (s.setAll (pfcConfigWrites p r)).rd R.MAC_PFC_STATUS p = s.rd R.MAC_PFC_STATUS p := by
  refine s.setAll_rd _ _ _ ?_
  simp [pfcConfigWrites, pfcEnableWrites, pfcMapWrites_eq, macSaWrites, pfc_config_keys, F.MAC_PFC_CFG_RX_EN, F.MAC_PFC_CFG_TX_EN,
    F.MAC_PFC_CFG_TX_QUANTA, F.MAC_PFC_STORM_DETECT_MS, F.MAC_PFC_STORM_ACTION, F.MAC_PFC_STORM_RECOVER_MS, F.MAC_SA_LO_ADDR, F.MAC_SA_HI_ADDR]

/-- The words that PFC_CONFIG writes whole are fields of 32 bits. -/
theorem State.pfcConfigWrites_words (s : State) (p : Nat) (r : Req) : s.setAll (pfcConfigWrites p r)
    = (((s.setAll (pfcEnableWrites p r)).each (List.range 4) fun w t => t.wr R.MAC_PFC_QMAP (w + 4 * p) (r.arg (A.PFC_CONFIG_QMAP w))).wr
        R.MAC_SA_LO p (r.arg A.PFC_CONFIG_MAC_SA_LO)).setF F.MAC_SA_HI_ADDR p (r.arg A.PFC_CONFIG_MAC_SA_HI) := by
  have hmap (t : State) : (t.each (List.range 4) fun w t => t.wr R.MAC_PFC_QMAP (w + 4 * p) (r.arg (A.PFC_CONFIG_QMAP w)))
      = t.setAll (pfcMapWrites p r) := by
    simp only [State.wr_eq_setF]
    exact t.each_setAll (List.range 4) fun w => [(⟨R.MAC_PFC_QMAP, 0, 32⟩, w + 4 * p, r.arg (A.PFC_CONFIG_QMAP w))]
  rw [hmap, State.wr_eq_setF, pfcConfigWrites, State.setAll_append, State.setAll_append]
  rfl

theorem State.pfcConfigAct_eq (s : State) (r : Req) : s.pfcConfigAct r = .ok (s.setAll (pfcConfigWrites r.index r))
    (w32 ((s.setAll (pfcConfigWrites r.index r)).rd R.MAC_PFC_CFG r.index) ++ w32 (s.rd R.MAC_PFC_STATUS r.index)) := by
  rw [← s.pfcConfigWrites_status, s.pfcConfigWrites_words]
  rfl

theorem execPfcConfig_ready (s : State) (m : Nat) (r : Req) (h : Ready s m C.PFC_CONFIG s.pfcConfigChecks r) :
    ∃ u t, execPfcConfig m s = .next t ∧ Wrote s u (pfcConfigWrites r.index r)
      ∧ Answered u t m r 0 0 (respParams C.PFC_CONFIG r 0 (w32 (u.rd R.MAC_PFC_CFG r.index) ++ w32 (s.rd R.MAC_PFC_STATUS r.index))) :=
  ⟨_, _, rfl, s.pfcConfigWrites_wrote _ r, h.answered_ok (h.mode_ne_zero (by rfl) (by decide)) (s.pfcConfigAct_eq r) (s.pfcConfigAct_fixed r)⟩

/-! ### PREEMPT_CONFIG -/

/-- The fields that PREEMPT_CONFIG writes. -/
def preemptConfigWrites (p : Nat) (r : Req) : List (Fld × Nat × Nat) :=
  [(F.MAC_PREEMPT_CFG_ENABLE, p, r.arg A.PREEMPT_CONFIG_ENABLE), (F.MAC_PREEMPT_CFG_VERIFY_DISABLE, p, r.arg A.PREEMPT_CONFIG_VERIFY_DISABLE),
    (F.MAC_PREEMPT_CFG_ADD_FRAG_SIZE, p, r.arg A.PREEMPT_CONFIG_ADD_FRAG_SIZE), (F.MAC_PREEMPT_CFG_VERIFY_MS, p, r.arg A.PREEMPT_CONFIG_VERIFY_MS),
    (F.MAC_PREEMPT_CFG_VERIFY_LIMIT, p, r.arg A.PREEMPT_CONFIG_VERIFY_LIMIT), (F.MAC_PREEMPT_CFG_EXPRESS_QMASK, p, r.arg A.PREEMPT_CONFIG_EXPRESS_QMASK)]

theorem State.preemptConfigWrites_wrote (s : State) (p : Nat) (r : Req) : Wrote s (s.setAll (preemptConfigWrites p r)) (preemptConfigWrites p r) := by
  refine Wrote.setAll s _ ?_ ?_ <;>
    simp [preemptConfigWrites, Separate, F.MAC_PREEMPT_CFG_ENABLE, F.MAC_PREEMPT_CFG_VERIFY_DISABLE, F.MAC_PREEMPT_CFG_ADD_FRAG_SIZE,
      F.MAC_PREEMPT_CFG_VERIFY_MS, F.MAC_PREEMPT_CFG_VERIFY_LIMIT, F.MAC_PREEMPT_CFG_EXPRESS_QMASK]

theorem State.preemptConfigAct_eq (s : State) (r : Req) : s.preemptConfigAct r = .ok ((s.setAll (preemptConfigWrites r.index r)).startVerify r.index)
    (w32 (((s.setAll (preemptConfigWrites r.index r)).startVerify r.index).rd R.MAC_PREEMPT_STATUS r.index)) := (rfl)

theorem execPreemptConfig_ready (s : State) (m : Nat) (r : Req) (h : Ready s m C.PREEMPT_CONFIG s.preemptConfigChecks r) :
    ∃ u t, execPreemptConfig m s = .next t ∧ Wrote s u (preemptConfigWrites r.index r)
      ∧ Answered (u.startVerify r.index) t m r 0 0
        (respParams C.PREEMPT_CONFIG r 0 (w32 ((u.startVerify r.index).rd R.MAC_PREEMPT_STATUS r.index))) :=
  ⟨_, _, rfl, s.preemptConfigWrites_wrote _ r, h.answered_ok (h.mode_ne_zero (by rfl) (by decide)) (s.preemptConfigAct_eq r)
    (s.preemptConfigAct_fixed r)⟩

/-- Settles O20: each command by the fields it writes, a new port by its lanes one after another, a deleted one by its queues and its registers at reset. -/
theorem portsAreConfigured : Obligations.PortsAreConfigured := by
  unfold Obligations.PortsAreConfigured
  refine ⟨fun s m r => ⟨fun h _ => execPortConfig_ready s m r h, fun p speed _ hs _ => ?_, fun h _ => ?_⟩,
    fun s m r _ => ⟨execPfcConfig_ready s m r, execPreemptConfig_ready s m r⟩⟩
  · obtain ⟨hconf, hspeed⟩ := s.createPort_creates p speed hs
    exact ⟨hconf, hspeed, s.createPort_lanes p speed⟩
  · obtain ⟨t, ht, hans⟩ := execPortDelete_ready s m r h
    obtain ⟨hconf, hup⟩ := s.portDeleted_status r.index
    exact ⟨_, t, ht, hconf, hup, fun x j => s.portDeleted_rd r.index x j, s.portDeleted_queues r.index, hans⟩

end Sys2Proof.Machine

namespace Sys2Proof.Machine

/-! ### Parameters that fail their check: PARSER_PORT and PUNT_CONFIG -/

/-- The first check that fails of a request which has passed all those before that of its parameters. -/
theorem Reaches.firstCheck {s : State} {m : Nat} {c : Cmd} {checks : Req → Checks} {r0 r : Req} {e : Nat × Nat} (h : Reaches s m c checks r0 r)
    (he : (checks r).args = some e) : s.firstCheck c (checks r) r0 false = some e := by
  obtain ⟨-, -, -, hformat, hmode, htarget⟩ := h
  unfold State.firstCheck
  rw [hformat]
  dsimp only
  rw [hmode, if_neg (by decide), htarget]
  dsimp only
  rw [he]

/-- A request whose parameters fail their check is answered with what that check gives, and does nothing. -/
theorem Reaches.answered {s : State} {m : Nat} {c : Cmd} {checks : Req → Checks} {r0 r : Req} {e : Nat × Nat} (h : Reaches s m c checks r0 r)
    (he : (checks r).args = some e) (act : Req → Ans) : Answered s (s.runCmd m c checks act) m r0 e.1 e.2 [] := by
  have hc := h.firstCheck he
  obtain ⟨hm, htakes, rfl, -⟩ := h
  exact State.runCmd_failed hm htakes hc

/-- The same of a parameter that is answered BAD_ARG, reason 1. -/
theorem Reaches.badArg {s : State} {m : Nat} {c : Cmd} {checks : Req → Checks} {r0 r : Req} {a : Arg} (h : Reaches s m c checks r0 r)
    (he : (checks r).args = Machine.badArg a 1) (act : Req → Ans) :
    ∃ t d, Host.Outcome.next (s.runCmd m c checks act) = (.next t : Host.Outcome State Fault Refusal) ∧ d % 65536 = 1 ∧ Answered s t m r0 0x0103 d [] :=
  ⟨_, a.off / 4 * 4 * 65536 + 1, rfl, by omega, h.answered he act⟩

theorem parserPort_filled_index (r : Req) : (filled C.PARSER_PORT [(A.PARSER_PORT_START_STATE, 0)] r).index = r.index := (rfl)

/-- The default of START_STATE, put in a second time, changes nothing. -/
theorem parserPort_filled_startState (r : Req) :
    (filled C.PARSER_PORT [(A.PARSER_PORT_START_STATE, 0)] (filled C.PARSER_PORT [(A.PARSER_PORT_START_STATE, 0)] r)).arg A.PARSER_PORT_START_STATE
      = (filled C.PARSER_PORT [(A.PARSER_PORT_START_STATE, 0)] r).arg A.PARSER_PORT_START_STATE := by
  have harg (q : Req) : (filled C.PARSER_PORT [(A.PARSER_PORT_START_STATE, 0)] q).arg A.PARSER_PORT_START_STATE
      = if q.expert then q.arg A.PARSER_PORT_START_STATE else 0 := by
    show bits (leNat (leBytes 4 (if q.expert then leNat q.params else putBits (leNat q.params) 8 8 0))) 8 8 = _
    rw [leNat_leBytes, show 256 ^ 4 = 2 ^ 32 from rfl, bits_mod_word _ _ _ (by decide)]
    split
    · rfl
    · rw [bits_putBits_same]
      rfl
  have hexpert : (filled C.PARSER_PORT [(A.PARSER_PORT_START_STATE, 0)] r).expert = r.expert := rfl
  rw [harg, hexpert, harg]
  split <;> rfl

/-- PARSER_PORT's parameters fail their check where START_STATE is no state a parse can start in (R258). -/
theorem State.parserPortChecks_args (s : State) (r0 r : Req) (hr : r = filled C.PARSER_PORT [(A.PARSER_PORT_START_STATE, 0)] r0)
    (h : r.arg A.PARSER_PORT_START_STATE = 0xFF
      ∨ bit (s.arrNat (prsDesc (r.index / 32) (s.activeBank (r.index / 32)) (r.arg A.PARSER_PORT_START_STATE)) 4) 31 = false) :
    (s.parserPortChecks r).args = badArg A.PARSER_PORT_START_STATE 1 := by
  have hstart : (filled C.PARSER_PORT [(A.PARSER_PORT_START_STATE, 0)] r).arg A.PARSER_PORT_START_STATE = r.arg A.PARSER_PORT_START_STATE := by
    rw [hr, parserPort_filled_startState]
  unfold State.parserPortChecks
  dsimp only
  rw [hstart, parserPort_filled_index, failIf, if_pos]
  obtain h | h := h <;> simp [h]

theorem State.puntConfigChecks_args (s : State) (r : Req) (h : r.arg A.PUNT_CONFIG_BURST = 0) :
    (s.puntConfigChecks r).args = badArg A.PUNT_CONFIG_BURST 1 := by
  unfold State.puntConfigChecks
  dsimp only
  rw [h]
  rfl

/-- Settles O29: each of the two parameters fails its command's own check, which is then the first to fail. -/
theorem badStartStatesAndBurstsAreAnswered : Obligations.BadStartStatesAndBurstsAreAnswered := by
  unfold Obligations.BadStartStatesAndBurstsAreAnswered
  intro s m r0 r
  refine ⟨fun h hstart => ?_, fun h hburst => h.badArg (s.puntConfigChecks_args r hburst) _⟩
  have ⟨_, _, hr, _⟩ := h
  exact h.badArg (s.parserPortChecks_args r0 r hr hstart) _

end Sys2Proof.Machine

namespace Sys2Proof.Machine

/-! ### The registers of a parser pipeline -/

/-- The instances of a register that each pipeline has: two a quire, 16 quires (R584). -/
def pipeDims : List (Nat × Nat) := [(2, 0x40000), (16, 0x1000000)]

theorem Reg.key_pipe {q : Reg} (hq : q.dims = pipeDims) (i : Nat) : q.key i = q.base + (i % 2 * 0x40000 + i / 2 * 0x1000000) := by
  unfold Reg.key
  rw [hq]
  rfl

/-- A register of the front part of a pipeline's block (R578). -/
structure PipeReg (q : Reg) : Prop where
  dims : q.dims = pipeDims
  low : 0x10480000 ≤ q.base
  high : q.base < 0x10481000

theorem PipeReg.cfg : PipeReg R.PRS_PIPE_CFG := ⟨rfl, by decide, by decide⟩
theorem PipeReg.status : PipeReg R.PRS_PIPE_STATUS := ⟨rfl, by decide, by decide⟩
theorem PipeReg.trace : PipeReg R.PRS_TRACE_CTL := ⟨rfl, by decide, by decide⟩

/-- Registers of two pipelines share no key. -/
theorem PipeReg.key_ne {q r : Reg} (hq : PipeReg q) (hr : PipeReg r) {i j : Nat} (h : i ≠ j) : q.key i ≠ r.key j := by
  obtain ⟨hqd, hql, hqh⟩ := hq
  obtain ⟨hrd, hrl, hrh⟩ := hr
  rw [Reg.key_pipe hqd, Reg.key_pipe hrd]
  omega

/-- The grant unit of a pipeline's registers is PRS of its quire (R112). -/
theorem PipeReg.unit {q : Reg} (hq : PipeReg q) (i : Nat) (hi : i < 32) : unitOfOffset (q.key i) = some (16 + 6 * (i / 2)) := by
  obtain ⟨hd, hl, hh⟩ := hq
  rw [Reg.key_pipe hd]
  have hblock : (q.base + (i % 2 * 0x40000 + i / 2 * 0x1000000)) / 0x1000000 = 0x10 + i / 2 := by omega
  have hsub : (q.base + (i % 2 * 0x40000 + i / 2 * 0x1000000)) / 0x100000 % 16 = 4 := by omega
  unfold unitOfOffset
  dsimp only
  rw [hblock, hsub, if_neg (by omega), if_neg (by omega), if_neg (by omega), if_neg (by omega), if_neg (by omega), if_pos (by omega),
    if_pos (by decide)]
  congr 1
  omega

/-- An answer leaves the registers of the pipelines. -/
theorem PipeReg.answerKey {q : Reg} (hq : PipeReg q) (m i : Nat) (hm : m < 8) (hi : i < 32) : answerKey m (q.key i) = false := by
  obtain ⟨hd, hl, hh⟩ := hq
  have status : R.MBX_STATUS.key m = 0x100010004 + m * 0x20 := (rfl)
  have last : R.MBX_LAST.key m = 0x100010008 + m * 0x20 := (rfl)
  have run : R.TLR_MBX_RUN.key m = 0x1000014 + m * 0x10 := (rfl)
  have head : R.TLR_HIST_HEAD.key 0 = 0x1000310 := by decide
  have misses : R.TLR_DEADLINE_MISSES.key 0 = 0x1000324 := by decide
  rw [Machine.answerKey, Reg.key_pipe hd]
  simp only [Bool.or_eq_false_iff, beq_eq_false_iff_ne, decide_eq_false_iff_not]
  omega

theorem pipe_cfg_status_key (i : Nat) : R.PRS_PIPE_CFG.key i ≠ R.PRS_PIPE_STATUS.key i := Reg.key_ne_of_base (by rfl) (by decide) i

/-! ### Host writes of SWAP and ARM -/

/-- A host write to a register whose unit is not granted is ignored and counted (R38). -/
theorem State.hostWrites_ungranted {s : State} {u off : Nat} (hg : s.granted u = false) (hu : unitOfOffset off = some u) (f : State → State) :
    s.hostWrites off f = s.ungranted off := by
  unfold State.hostWrites
  rw [hu]
  dsimp only
  rw [hg, Bool.false_and, Bool.false_and, if_neg (by decide)]

theorem State.ungranted_rd (s : State) (off : Nat) (q : Reg) (j : Nat) (hw : q.key j ≠ R.TLR_UNGRANTED_WRITES.key 0)
    (hl : q.key j ≠ R.TLR_UNGRANTED_LAST.key 0) : (s.ungranted off).rd q j = s.rd q j := by
  unfold State.ungranted State.inc State.addSat
  rw [State.note_rd, State.rd_setF_ne _ _ hl, State.rd_setF_ne _ _ hw]

theorem State.ungranted_offset (s : State) (off : Nat) (h : off < 2 ^ 32) : (s.ungranted off).fld F.TLR_UNGRANTED_LAST_OFFSET 0 = off := by
  unfold State.ungranted
  rw [State.note_fld, State.fld_setF_same _ _ _ _ (by decide)]
  exact Nat.mod_eq_of_lt h

theorem State.ungranted_arrays (s : State) (off : Nat) : (s.ungranted off).arrays = s.arrays := by
  rw [State.ungranted, State.note_arrays, State.setF_arrays, State.inc_arrays]

theorem State.ungranted_prs (s : State) (off : Nat) : (s.ungranted off).prs = s.prs := by
  rw [State.ungranted, State.note_prs, State.setF_prs, State.inc_prs]

/-- The fields that a bank swap writes (R253). -/
def State.swapWrites (s : State) (i : Nat) : List (Fld × Nat × Nat) :=
  [(F.PRS_PIPE_CFG_ACTIVE_BANK, i, 1 - s.activeBank i), (F.PRS_PIPE_CFG_SWAP, i, 0), (F.PRS_PIPE_STATUS_SWAPPED, i, 1),
    (F.PRS_PIPE_STATUS_SWAP_COUNT, i, satBits F.PRS_PIPE_STATUS_SWAP_COUNT.wd (s.fld F.PRS_PIPE_STATUS_SWAP_COUNT i + 1))]

theorem State.swapWrites_wrote (s : State) (i : Nat) : Wrote s (s.setAll (s.swapWrites i)) (s.swapWrites i) := by
  have hkey := pipe_cfg_status_key i
  refine Wrote.setAll s _ ?_ ?_ <;>
    simp [State.swapWrites, Separate, hkey, F.PRS_PIPE_CFG_ACTIVE_BANK, F.PRS_PIPE_CFG_SWAP, F.PRS_PIPE_STATUS_SWAPPED, F.PRS_PIPE_STATUS_SWAP_COUNT]

theorem State.swapBank_eq (s : State) (i : Nat) : s.swapBank i = (s.setAll (s.swapWrites i)).note (E.PRS_TABLE_SWAPPED (i / 2)) := by
  have hkey := (pipe_cfg_status_key i).symm
  unfold State.swapBank
  dsimp only
  rw [State.setCounted_eq _ _ _ _ (by rfl) (by decide) (by decide), State.fld_setF_ne _ _ hkey, State.fld_setF_ne _ _ hkey]
  rfl

theorem execPrsBankSwap_granted (s : State) (i : Nat) (hi : i < 32) (h : HostMayWrite s (16 + 6 * (i / 2))) :
    execPrsBankSwap i s = .next ((s.setAll (s.swapWrites i)).note (E.PRS_TABLE_SWAPPED (i / 2))) := by
  unfold execPrsBankSwap
  rw [if_pos hi, h.writes (PipeReg.cfg.unit i hi), s.swapBank_eq]

theorem execPrsBankSwap_ungranted (s : State) (i : Nat) (hi : i < 32) (h : s.granted (16 + 6 * (i / 2)) = false) :
    ∃ t, execPrsBankSwap i s = .next t ∧ t.activeBank i = s.activeBank i ∧ t.fld F.TLR_UNGRANTED_LAST_OFFSET 0 = R.PRS_PIPE_CFG.key i
      ∧ t.arrays = s.arrays ∧ t.prs = s.prs := by
  have key : R.PRS_PIPE_CFG.key i = 0x10480000 + (i % 2 * 0x40000 + i / 2 * 0x1000000) := (rfl)
  have writes : R.TLR_UNGRANTED_WRITES.key 0 < 0x10480000 := by decide
  have last : R.TLR_UNGRANTED_LAST.key 0 < 0x10480000 := by decide
  refine ⟨s.ungranted (R.PRS_PIPE_CFG.key i), ?_, ?_, s.ungranted_offset _ (by omega), s.ungranted_arrays _, s.ungranted_prs _⟩
  · unfold execPrsBankSwap
    rw [if_pos hi, State.hostWrites_ungranted h (PipeReg.cfg.unit i hi)]
  · unfold State.activeBank State.fld
    rw [s.ungranted_rd _ _ _ (by show R.PRS_PIPE_CFG.key i ≠ _; omega) (by show R.PRS_PIPE_CFG.key i ≠ _; omega)]

/-- The fields that arming a trace writes (R242). -/
def traceWrites (i : Nat) (portEn : Bool) (port : Nat) : List (Fld × Nat × Nat) :=
  [(F.PRS_TRACE_CTL_ARM, i, 1), (F.PRS_TRACE_CTL_DONE, i, 0), (F.PRS_TRACE_CTL_PORT_EN, i, b2n portEn), (F.PRS_TRACE_CTL_PORT, i, port)]

theorem execPrsTraceArm_granted (s : State) (i : Nat) (portEn : Bool) (port : Nat) (hi : i < 32) (h : HostMayWrite s (16 + 6 * (i / 2))) :
    ∃ t, execPrsTraceArm i portEn port s = .next t ∧ Wrote s t (traceWrites i portEn port) := by
  refine ⟨s.setAll (traceWrites i portEn port), ?_, Wrote.setAll s _ ?_ ?_⟩
  · unfold execPrsTraceArm
    rw [if_pos hi, h.writes (PipeReg.trace.unit i hi)]
    rfl
  · simp [traceWrites, F.PRS_TRACE_CTL_ARM, F.PRS_TRACE_CTL_DONE, F.PRS_TRACE_CTL_PORT_EN, F.PRS_TRACE_CTL_PORT]
  · simp [traceWrites, Separate, F.PRS_TRACE_CTL_ARM, F.PRS_TRACE_CTL_DONE, F.PRS_TRACE_CTL_PORT_EN, F.PRS_TRACE_CTL_PORT]

/-! ### A bank written from an image -/

/-- The descriptors and the transitions of a bank, as the image for it gives them, are the only bytes that its write changes (R251). -/
theorem State.writeBank_arrays (s : State) (i b : Nat) (img : List Byte) : (s.writeBank i b img).arrays
    = Tab.setList 0 (Tab.setList 0 s.arrays (prsDesc i b 0) ((img.drop 64).take 2048)) (prsTrans i b 0) ((img.drop 2112).take 32768) := (rfl)

theorem State.writeBank_parity (s : State) (i b : Nat) (img : List Byte) :
    (s.writeBank i b img).prs.parity = s.prs.parity.filter fun k => k != 2 * i + b := by
  unfold State.writeBank
  dsimp only
  rw [State.wr_prs, State.putArr_prs, State.putArr_prs]

/-- What a bank holds once a whole image has been written to it. -/
theorem State.writeBank_bank (s : State) (i b : Nat) (img : List Byte) (hb : b < 2) (hl : img.length = 34880) :
    (s.writeBank i b img).arr (prsDesc i b 0) 2048 = (img.drop 64).take 2048
      ∧ (s.writeBank i b img).arr (prsTrans i b 0) 32768 = img.drop 2112
      ∧ ∀ a, (a < prsDesc i b 0 ∨ prsDesc i b 0 + 2048 ≤ a) → (a < prsTrans i b 0 ∨ prsTrans i b 0 + 32768 ≤ a) →
        Tab.get 0 (s.writeBank i b img).arrays a = Tab.get 0 s.arrays a := by
  have hdesc : ((img.drop 64).take 2048).length = 2048 := by simp [hl]
  have htrans : (img.drop 2112).length = 32768 := by simp [hl]
  have hwhole : (img.drop 2112).take 32768 = img.drop 2112 := List.take_of_length_le htrans.le
  have hapart : prsDesc i b 0 + 2048 ≤ prsTrans i b 0 := by
    unfold prsDesc prsTrans
    omega
  unfold State.arr
  rw [s.writeBank_arrays, hwhole]
  refine ⟨?_, ?_, fun a hd ht => ?_⟩
  · have h := Tab.getList_setList_same 0 ((img.drop 64).take 2048) s.arrays (prsDesc i b 0)
    rw [hdesc] at h
    rw [Tab.getList_setList_ne _ _ _ _ _ _ (.inl hapart), h]
  · have h := Tab.getList_setList_same 0 (img.drop 2112) (Tab.setList 0 s.arrays (prsDesc i b 0) ((img.drop 64).take 2048)) (prsTrans i b 0)
    rwa [htrans] at h
  · rw [Tab.get_setList, if_neg (by omega), Tab.get_setList, if_neg (by omega)]

/-- Of one bank found with a parity error the Teller rewrites that bank, from its copy (R255). -/
theorem execParserParityRewrite_one (s : State) (i b : Nat) (hi : i < 32) (hb : b < 2) (hg : s.granted (16 + 6 * (i / 2)) = false)
    (hp : s.prs.parity = [2 * i + b]) : execParserParityRewrite i s = .next (s.writeBank i b (Tab.get [] s.prs.bankCopy (2 * i + b))) := by
  unfold execParserParityRewrite
  rw [if_pos ⟨hi, by rw [hg]; rfl⟩, State.each_cons, State.each_cons, State.each_nil]
  obtain rfl | rfl : b = 0 ∨ b = 1 := by omega
  · have hfound : s.prs.parity.contains (2 * i + 0) = true := by simp [hp]
    have hcleared : ((s.writeBank i 0 (Tab.get [] s.prs.bankCopy (2 * i + 0))).prs.parity.contains (2 * i + 1)) = false := by
      rw [State.writeBank_parity, hp]
      simp
    rw [if_pos hfound, hcleared, if_neg (by decide)]
  · have hother : s.prs.parity.contains (2 * i + 0) = false := by simp [hp]
    have hfound : s.prs.parity.contains (2 * i + 1) = true := by simp [hp]
    rw [hother, if_neg Bool.false_ne_true, if_pos hfound]

/-! ### PARSER_TABLE_LOAD -/

theorem Req.instances_one {r : Req} (h : r.all = false) (n : Nat) : r.instances n = [r.index] := by simp [Req.instances, h]

theorem maskOf_singleton (i : Nat) (h : i < 32) : maskOf 32 (fun k => [i].contains k) = 2 ^ i := by
  have hall : ∀ i < 32, maskOf 32 (fun k => [i].contains k) = 2 ^ i := by decide
  exact hall i h

section
variable {s : State} {r : Req} {img : List Byte}
  (hr : s.hostRead (r.arg64 A.PARSER_TABLE_LOAD_HOST_ADDR_LO A.PARSER_TABLE_LOAD_HOST_ADDR_HI) 34880 = some img) (hok : imageOk img = true)
  (hcrc : crc32 img = r.arg A.PARSER_TABLE_LOAD_IMAGE_CRC)
include hr hok hcrc

/-- A good image in Provisioned becomes the Teller's copy (R251). -/
theorem parserTableLoadAct_provisioned (note : Nat) (hm : s.mode = 2) :
    parserTableLoadAct r note s = .ok { s with prs := { s.prs with copy := img, fresh := true } } (w32 (leAt img 8 4) ++ w32 0 ++ w32 0) := by
  unfold parserTableLoadAct
  rw [hr]
  dsimp only
  rw [if_neg (by simp [hok, hcrc]), if_pos hm]

/-- Elsewhere it is written to the bank not in use of the pipeline named (R251). -/
theorem parserTableLoadAct_one (note : Nat) (hm : s.mode ≠ 2) (hall : r.all = false) (hi : r.index < 32)
    (hswap : r.on A.PARSER_TABLE_LOAD_SWAP = false) :
    parserTableLoadAct r note s = .ok (s.writeBank r.index (1 - s.activeBank r.index) img) (w32 (leAt img 8 4) ++ w32 (2 ^ r.index) ++ w32 0) := by
  unfold parserTableLoadAct
  rw [hr]
  dsimp only
  rw [if_neg (by simp [hok, hcrc]), if_neg hm, Req.instances_one hall, maskOf_singleton _ hi, State.each_cons, State.each_nil, hswap,
    if_neg (by decide), if_neg (by decide)]

end

/-! ### PARSER_CONFIG -/

/-- The fields of a pipeline that PARSER_CONFIG writes (R257). -/
def parserConfigWrites (r : Req) (i : Nat) : List (Fld × Nat × Nat) :=
  [(F.PRS_PIPE_CFG_DEPTH, i, r.arg A.PARSER_CONFIG_DEPTH), (F.PRS_PIPE_CFG_REACT_1, i, r.arg A.PARSER_CONFIG_REACT_1),
    (F.PRS_PIPE_CFG_REACT_2, i, r.arg A.PARSER_CONFIG_REACT_2), (F.PRS_PIPE_CFG_REACT_3, i, r.arg A.PARSER_CONFIG_REACT_3),
    (F.PRS_PIPE_CFG_REACT_4, i, r.arg A.PARSER_CONFIG_REACT_4)]

theorem parserConfigWrites_key (r : Req) (i : Nat) : ∀ e ∈ parserConfigWrites r i, e.1.reg = R.PRS_PIPE_CFG ∧ e.2.1 = i ∧ e.1.lo + e.1.wd ≤ 32 := by
  simp [parserConfigWrites, F.PRS_PIPE_CFG_DEPTH, F.PRS_PIPE_CFG_REACT_1, F.PRS_PIPE_CFG_REACT_2, F.PRS_PIPE_CFG_REACT_3, F.PRS_PIPE_CFG_REACT_4]

theorem parserConfigWrites_separate (r : Req) (i : Nat) : (parserConfigWrites r i).Pairwise Separate := by
  simp [parserConfigWrites, Separate, F.PRS_PIPE_CFG_DEPTH, F.PRS_PIPE_CFG_REACT_1, F.PRS_PIPE_CFG_REACT_2, F.PRS_PIPE_CFG_REACT_3,
    F.PRS_PIPE_CFG_REACT_4]

theorem Req.instances_nodup (r : Req) (n : Nat) : (r.instances n).Nodup := by
  unfold Req.instances
  split
  · exact List.nodup_range
  · exact List.nodup_singleton _

/-- The fields of any pipelines, each named once. -/
theorem State.parserConfigWrites_wrote (s : State) (r : Req) (l : List Nat) (hl : l.Nodup) :
    Wrote s (s.setAll (l.flatMap (parserConfigWrites r))) (l.flatMap (parserConfigWrites r)) := by
  refine Wrote.setAll s _ (fun e he => ?_) (List.pairwise_flatMap.2 ⟨fun i _ => parserConfigWrites_separate r i, hl.imp fun hij e he d hd => .inl ?_⟩)
  · obtain ⟨i, -, he⟩ := List.mem_flatMap.1 he
    exact (parserConfigWrites_key r i e he).2.2
  · obtain ⟨her, hei, -⟩ := parserConfigWrites_key r _ e he
    obtain ⟨hdr, hdi, -⟩ := parserConfigWrites_key r _ d hd
    rw [her, hei, hdr, hdi]
    exact PipeReg.cfg.key_ne PipeReg.cfg hij

/-- What PARSER_CONFIG does to one pipeline. -/
def State.configPipe (s : State) (r : Req) (i : Nat) : State :=
  if r.on A.PARSER_CONFIG_SWAP then (s.setAll (parserConfigWrites r i)).swapBank i else s.setAll (parserConfigWrites r i)

theorem State.parserConfigAct_eq (s : State) (r : Req) : s.parserConfigAct r = .ok (s.each (r.instances 32) fun i t => t.configPipe r i)
    (w32 ((s.each (r.instances 32) fun i t => t.configPipe r i).rd R.PRS_PIPE_CFG (if r.all then 0 else r.index))) := (rfl)

theorem execParserConfig_keepsBanks (s : State) (m : Nat) (r : Req) (h : Ready s m C.PARSER_CONFIG s.parserConfigChecks r)
    (hswap : r.on A.PARSER_CONFIG_SWAP = false) : ∃ u t, execParserConfig m s = .next t ∧ Wrote s u ((r.instances 32).flatMap (parserConfigWrites r))
      ∧ Answered u t m r 0 0 (respParams C.PARSER_CONFIG r 0 (w32 (u.rd R.PRS_PIPE_CFG (if r.all then 0 else r.index)))) := by
  have heach : (s.each (r.instances 32) fun i t => t.configPipe r i) = s.setAll ((r.instances 32).flatMap (parserConfigWrites r)) := by
    rw [← State.each_setAll]
    unfold State.configPipe
    rw [hswap]
    rfl
  have hans := h.answered_ok (h.mode_ne_zero (by rfl) (by decide)) (s.parserConfigAct_eq r) (s.parserConfigAct_fixed r)
  rw [heach] at hans
  exact ⟨_, _, rfl, s.parserConfigWrites_wrote r _ (r.instances_nodup 32), hans⟩

/-- The bank, the depth and SWAPPED of a pipeline. -/
def State.pipeView (s : State) (i : Nat) : Nat × Nat × Nat := (s.activeBank i, s.fld F.PRS_PIPE_CFG_DEPTH i, s.fld F.PRS_PIPE_STATUS_SWAPPED i)

theorem State.pipeView_congr {s t : State} {i : Nat} (hcfg : t.rd R.PRS_PIPE_CFG i = s.rd R.PRS_PIPE_CFG i)
    (hstatus : t.rd R.PRS_PIPE_STATUS i = s.rd R.PRS_PIPE_STATUS i) : t.pipeView i = s.pipeView i := by
  have hcfgs (f : Fld) (hf : f.reg = R.PRS_PIPE_CFG) : t.fld f i = s.fld f i := by
    unfold State.fld
    rw [hf, hcfg]
  have hswapped : t.fld F.PRS_PIPE_STATUS_SWAPPED i = s.fld F.PRS_PIPE_STATUS_SWAPPED i := congrArg (bits · _ _) hstatus
  unfold State.pipeView State.activeBank
  rw [hcfgs _ rfl, hcfgs _ rfl, hswapped]

/-- The pipeline itself swaps its banks and takes its depth. -/
theorem State.configPipe_same (s : State) (r : Req) (i : Nat) (hswap : r.on A.PARSER_CONFIG_SWAP = true) (hd : r.arg A.PARSER_CONFIG_DEPTH < 2 ^ 9) :
    (s.configPipe r i).pipeView i = (1 - s.activeBank i, r.arg A.PARSER_CONFIG_DEPTH, 1) := by
  have hw := s.parserConfigWrites_wrote r [i] (List.nodup_singleton i)
  rw [List.flatMap_singleton] at hw
  have hbank : (s.setAll (parserConfigWrites r i)).activeBank i = s.activeBank i :=
    hw.regs.keeps F.PRS_PIPE_CFG_ACTIVE_BANK i (by decide) (by
      simp [parserConfigWrites, Apart, F.PRS_PIPE_CFG_DEPTH, F.PRS_PIPE_CFG_REACT_1, F.PRS_PIPE_CFG_REACT_2, F.PRS_PIPE_CFG_REACT_3,
        F.PRS_PIPE_CFG_REACT_4, F.PRS_PIPE_CFG_ACTIVE_BANK])
  have hdepth := hw.fld F.PRS_PIPE_CFG_DEPTH i _ List.mem_cons_self
  have hv := (s.setAll (parserConfigWrites r i)).swapWrites_wrote i
  have hvbank := hv.fld F.PRS_PIPE_CFG_ACTIVE_BANK i _ List.mem_cons_self
  have hvswapped := hv.fld F.PRS_PIPE_STATUS_SWAPPED i 1 (by simp [State.swapWrites])
  have hvdepth := hv.regs.keeps F.PRS_PIPE_CFG_DEPTH i (by decide) (by
    simp [State.swapWrites, Apart, (pipe_cfg_status_key i).symm, F.PRS_PIPE_CFG_DEPTH, F.PRS_PIPE_CFG_ACTIVE_BANK, F.PRS_PIPE_CFG_SWAP,
      F.PRS_PIPE_STATUS_SWAPPED, F.PRS_PIPE_STATUS_SWAP_COUNT])
  unfold State.configPipe State.pipeView State.activeBank
  rw [if_pos hswap, State.swapBank_eq, State.note_fld, State.note_fld, State.note_fld, hvbank, hvswapped, hvdepth, hdepth, hbank,
    Nat.mod_eq_of_lt (show _ < 2 ^ F.PRS_PIPE_CFG_DEPTH.wd from hd), Nat.mod_eq_of_lt (by show 1 - s.activeBank i < 2 ^ 1; omega)]
  rfl

/-- Another pipeline stands as it was. -/
theorem State.configPipe_other (s : State) (r : Req) {i j : Nat} (h : j ≠ i) : (s.configPipe r j).pipeView i = s.pipeView i := by
  have hwrites (t : State) (q : Reg) (hq : PipeReg q) : (t.setAll (parserConfigWrites r j)).rd q i = t.rd q i :=
    t.setAll_rd _ _ _ fun e he => by
      obtain ⟨her, hei, -⟩ := parserConfigWrites_key r j e he
      rw [her, hei]
      exact PipeReg.cfg.key_ne hq h
  have hswap (t : State) (q : Reg) (hq : PipeReg q) : (t.swapBank j).rd q i = t.rd q i := by
    have hcfg := PipeReg.cfg.key_ne hq h
    have hstatus := PipeReg.status.key_ne hq h
    rw [State.swapBank_eq, State.note_rd]
    refine t.setAll_rd _ _ _ ?_
    simp [State.swapWrites, hcfg, hstatus, F.PRS_PIPE_CFG_ACTIVE_BANK, F.PRS_PIPE_CFG_SWAP, F.PRS_PIPE_STATUS_SWAPPED, F.PRS_PIPE_STATUS_SWAP_COUNT]
  have hrd (q : Reg) (hq : PipeReg q) : (s.configPipe r j).rd q i = s.rd q i := by
    unfold State.configPipe
    split
    · rw [hswap _ q hq, hwrites _ q hq]
    · rw [hwrites _ q hq]
  exact State.pipeView_congr (hrd _ PipeReg.cfg) (hrd _ PipeReg.status)

theorem State.each_append {α : Type} (s : State) (l k : List α) (f : α → State → State) : s.each (l ++ k) f = (s.each l f).each k f := by
  unfold State.each
  rw [List.foldl_append]

/-- What one element of a list makes of a part of the state, from another part, stands once all of them have been gone through, where the elements
before it leave the second part and those after it the first. -/
theorem State.each_at {α β γ : Type} (g : State → β) (out : State → γ) (v : β → γ) (l : List α) (hl : l.Nodup) (f : α → State → State) (a : α) (ha : a ∈ l)
    (hset : ∀ s, out (f a s) = v (g s)) (hin : ∀ b ∈ l, b ≠ a → ∀ s, g (f b s) = g s) (hout : ∀ b ∈ l, b ≠ a → ∀ s, out (f b s) = out s) (s : State) :
    out (s.each l f) = v (g s) := by
  obtain ⟨k, r, rfl⟩ := List.append_of_mem ha
  have hk (b : α) (hb : b ∈ k) : b ≠ a := (List.nodup_append.1 hl).2.2 b hb a List.mem_cons_self
  have hr (b : α) (hb : b ∈ r) : b ≠ a := fun e => (List.nodup_cons.1 (List.nodup_append.1 hl).2.1).1 (e ▸ hb)
  rw [State.each_append, State.each_cons, State.each_keeps_mem out _ _ _ fun b hb => hout b (by simp [hb]) (hr b hb), hset,
    State.each_keeps_mem g _ _ _ fun b hb => hin b (by simp [hb]) (hk b hb)]

theorem State.firstCheck_target {s : State} {c : Cmd} {k : Checks} {r : Req} {b : Bool} (h : s.firstCheck c k r b = none) : k.target = none := by
  unfold State.firstCheck at h
  split at h
  · cases h
  · split at h
    · cases h
    · split at h
      · cases h
      · assumption

theorem Ready.target {s : State} {m : Nat} {c : Cmd} {checks : Req → Checks} {r : Req} (h : Ready s m c checks r) : (checks r).target = none := by
  obtain ⟨_, r0, _, _, hc⟩ := h
  exact State.firstCheck_target hc

/-- A TARGET that passes its check names instances there are. -/
theorem Req.instances_lt {r : Req} {block kind n : Nat} {allOk : Bool} (h : targetError block kind n allOk r = none) : ∀ i ∈ r.instances n, i < n := by
  intro i hi
  unfold targetError at h
  unfold Req.instances at hi
  split at hi
  · exact List.mem_range.1 hi
  · next hall =>
    rw [if_neg hall] at h
    obtain rfl := List.mem_singleton.1 hi
    by_contra hlt
    rw [if_pos (by omega : n ≤ r.index)] at h
    split at h
    · cases h
    · split at h <;> cases h

/-- DEPTH passes its check only within the 256 bytes that a parse sees. -/
theorem Ready.parserDepth {s : State} {m : Nat} {r : Req} (h : Ready s m C.PARSER_CONFIG s.parserConfigChecks r) :
    r.arg A.PARSER_CONFIG_DEPTH ≤ 256 := by
  have hargs := h.args
  unfold State.parserConfigChecks Req.range at hargs
  dsimp only at hargs
  by_contra hgt
  rw [if_neg (by omega)] at hargs
  cases hargs

theorem execParserConfig_swaps (s : State) (m : Nat) (r : Req) (h : Ready s m C.PARSER_CONFIG s.parserConfigChecks r)
    (hswap : r.on A.PARSER_CONFIG_SWAP = true) : ∃ t, execParserConfig m s = .next t ∧ t.fld F.MBX_STATUS_BUSY m = 0
      ∧ ∀ i ∈ r.instances 32, t.activeBank i = 1 - s.activeBank i ∧ t.fld F.PRS_PIPE_CFG_DEPTH i = r.arg A.PARSER_CONFIG_DEPTH
        ∧ t.fld F.PRS_PIPE_STATUS_SWAPPED i = 1 := by
  have hans := h.answered_ok (h.mode_ne_zero (by rfl) (by decide)) (s.parserConfigAct_eq r) (s.parserConfigAct_fixed r)
  have hdepth := h.parserDepth
  refine ⟨_, rfl, hans.busy, fun i hi => ?_⟩
  have hlt : i < 32 := Req.instances_lt h.target i hi
  have hview := (State.pipeView_congr (hans.regs _ i (PipeReg.cfg.answerKey m i h.1 hlt)) (hans.regs _ i (PipeReg.status.answerKey m i h.1 hlt))).trans
    (State.each_at (fun s => s.activeBank i) (fun s => s.pipeView i) (fun b => (1 - b, r.arg A.PARSER_CONFIG_DEPTH, 1)) _ (r.instances_nodup 32)
      (fun i t => t.configPipe r i) i hi (fun t => t.configPipe_same r i hswap (by omega))
      (fun j _ hj t => congrArg Prod.fst (t.configPipe_other r hj)) (fun j _ hj t => t.configPipe_other r hj) s)
  exact ⟨congrArg (·.1) hview, congrArg (·.2.1) hview, congrArg (·.2.2) hview⟩

/-! ### PARSER_PORT, FLAT_PROFILE_SET and EXPRESS_FILTER_SET -/

/-- The fields that PARSER_PORT writes (R258). -/
def parserPortWrites (r : Req) : List (Fld × Nat × Nat) :=
  [(F.PRS_PORT_CFG_FALLBACK_PROFILE, r.index, r.arg A.PARSER_PORT_FALLBACK_PROFILE), (F.PRS_PORT_CFG_START_STATE, r.index, r.arg A.PARSER_PORT_START_STATE)]

theorem State.parserPortAct_eq (s : State) (r : Req) :
    s.parserPortAct r = .ok (s.setAll (parserPortWrites r)) (w32 ((s.setAll (parserPortWrites r)).rd R.PRS_PORT_CFG r.index)) := (rfl)

theorem execParserPort_ready (s : State) (m : Nat) (r : Req) (h : Ready s m C.PARSER_PORT s.parserPortChecks r) :
    ∃ u, Wrote s u (parserPortWrites r) ∧ ∃ t, execParserPort m s = .next t
      ∧ Answered u t m r 0 0 (respParams C.PARSER_PORT r 0 (w32 (u.rd R.PRS_PORT_CFG r.index))) := by
  refine ⟨_, Wrote.setAll s _ ?_ ?_, _, rfl, h.answered_ok (h.mode_ne_zero (by rfl) (by decide)) (s.parserPortAct_eq r) (s.parserPortAct_fixed r)⟩ <;>
    simp [parserPortWrites, Separate, F.PRS_PORT_CFG_FALLBACK_PROFILE, F.PRS_PORT_CFG_START_STATE]

theorem State.flatProfileSetAct_one (s : State) (r : Req) (h : r.all = false) :
    s.flatProfileSetAct r = .ok (s.putArr (prsFlat r.index (r.arg A.FLAT_PROFILE_SET_PROFILE)) (r.bytes A.FLAT_PROFILE_SET_MASK)) [] := by
  unfold State.flatProfileSetAct
  rw [Req.instances_one h, State.each_cons, State.each_nil]

theorem State.expressFilterSetAct_one (s : State) (r : Req) (ctl : Nat) (h : r.all = false)
    (hctl : ctl = 16 * r.arg A.EXPRESS_FILTER_SET_ENABLE + 256 * r.arg A.EXPRESS_FILTER_SET_PROFILE) :
    s.expressFilterSetAct r = .ok (s.putArr (prsExp r.index (r.arg A.EXPRESS_FILTER_SET_ENTRY)) (w32 ctl ++ w32 (r.arg A.EXPRESS_FILTER_SET_PORT_MASK)
      ++ r.bytes A.EXPRESS_FILTER_SET_VALUE ++ r.bytes A.EXPRESS_FILTER_SET_MASK)) (w32 ctl) := by
  unfold State.expressFilterSetAct
  dsimp only
  rw [Req.instances_one h, State.each_cons, State.each_nil, hctl]

/-- Settles O24: the registers by the fields that a granted write moves, a bank by the bytes that its image puts in place, each command by what it does to one
pipeline. -/
theorem theParserIsConfigured : Obligations.TheParserIsConfigured := by
  unfold Obligations.TheParserIsConfigured
  refine ⟨fun s i hi => ⟨fun h => ⟨_, s.swapWrites_wrote i, execPrsBankSwap_granted s i hi h⟩, execPrsBankSwap_ungranted s i hi,
      fun portEn port => execPrsTraceArm_granted s i portEn port hi, fun b img hg hb hp himg hl => ?_⟩,
    fun s => ⟨fun k q img h hr hok hcrc => ⟨fun hm => ?_, fun hm hall hi hswap => ?_⟩,
      fun m r h => ⟨execParserConfig_keepsBanks s m r h, execParserConfig_swaps s m r h⟩, execParserPort_ready s, fun m r h hall => ?_,
      fun m r ctl h hall hctl => ?_⟩⟩
  · refine ⟨_, execParserParityRewrite_one s i b hi hb hg hp, ?_, himg ▸ s.writeBank_bank i b _ hb (himg ▸ hl)⟩
    rw [State.writeBank_parity, hp]
    simp
  · exact ⟨_, congrArg Host.Outcome.next (h.completes (parserTableLoadAct_provisioned hr hok hcrc q.note hm) _ _),
      State.completeRec_completed _ k q 0 0 _⟩
  · exact ⟨_, congrArg Host.Outcome.next (h.completes (parserTableLoadAct_one hr hok hcrc q.note hm hall hi hswap) _ _),
      State.completeRec_completed _ k q 0 0 _⟩
  · exact ⟨_, rfl, h.answered_ok (h.mode_ne_zero (by rfl) (by decide)) (s.flatProfileSetAct_one r hall) (s.flatProfileSetAct_fixed r)⟩
  · exact ⟨_, rfl, h.answered_ok (h.mode_ne_zero (by rfl) (by decide)) (s.expressFilterSetAct_one r ctl hall hctl) (s.expressFilterSetAct_fixed r)⟩

end Sys2Proof.Machine

namespace Sys2Proof.Machine

/-! ### What the counts, the trace and the backlog of PARSE_FRAME leave alone -/

/-- Keys that hold every register PARSE_FRAME writes: counts (R493, R496), a pipeline's trace and its backlog (R527). The registers that say how a frame is
parsed stand elsewhere, each at the head of a block of 4 KB. -/
def parseKey (a : Nat) : Bool := countKey a || decide (0x4000000 ≤ a ∧ a % 0x1000 ≠ 0)

/-- A part of the state that none of them changes. -/
structure ParseApart {β : Type} (g : State → β) : Prop where
  wr : ∀ s r i v, parseKey (r.key i) = true → g (s.wr r i v) = g s
  feXoff : ∀ (s : State) x, g { s with feXoff := x } = g s

theorem parseKey_of_block {a : Nat} (h : 0x4000000 ≤ a ∧ a % 0x1000 ≠ 0) : parseKey a = true := by
  rw [parseKey, decide_eq_true h, Bool.or_true]

theorem PipeReg.parseKey {q : Reg} (hq : PipeReg q) (h0 : q.base ≠ 0x10480000) (i : Nat) : parseKey (q.key i) = true := by
  obtain ⟨hd, hl, hh⟩ := hq
  rw [Reg.key_pipe hd]
  exact parseKey_of_block (by omega)

theorem parseKey_prsStat (n : Nat) : parseKey (R.PRS_STAT_LO.key n) = true ∧ parseKey (R.PRS_STAT_HI.key n) = true := by
  have lo : R.PRS_STAT_LO.key n = 0x10480100 + (n % 16 * 8 + (n / 16 % 2 * 0x40000 + n / 16 / 2 * 0x1000000)) := (rfl)
  have hi : R.PRS_STAT_HI.key n = 0x10480104 + (n % 16 * 8 + (n / 16 % 2 * 0x40000 + n / 16 / 2 * 0x1000000)) := (rfl)
  exact ⟨parseKey_of_block (by omega), parseKey_of_block (by omega)⟩

theorem parseKey_traceRec (n : Nat) : parseKey (R.PRS_TRACE_REC.key n) = true := by
  have key : R.PRS_TRACE_REC.key n = 0x10480400 + (n % 32 * 4 + (n / 32 % 2 * 0x40000 + n / 32 / 2 * 0x1000000)) := (rfl)
  exact parseKey_of_block (by omega)

theorem parseKey_govPipe (i : Nat) : parseKey (R.GOV_PIPE_STATUS.key i) = true := by
  have key : R.GOV_PIPE_STATUS.key i = 0x4001904 + i * 0x10 := (rfl)
  exact parseKey_of_block (by omega)

section
variable {β : Type} {g : State → β} (h : ParseApart g)
include h

theorem ParseApart.setF (s : State) (f : Fld) (i v : Nat) (hk : parseKey (f.reg.key i) = true) : g (s.setF f i v) = g s := h.wr s _ i _ hk

theorem ParseApart.unitEvent (s : State) (u code n : Nat) : g (s.unitEvent u code n) = g s :=
  CountApart.unitEvent (fun s r i v hc => h.wr s r i v (by rw [parseKey, hc, Bool.true_or])) s u code n

theorem ParseApart.prsStat (s : State) (i k : Nat) : g (s.prsStat i k) = g s := by
  obtain ⟨hlo, hhi⟩ := parseKey_prsStat (k + 16 * i)
  have hsat : parseKey (R.PRS_STAT_SAT.key i) = true := PipeReg.parseKey ⟨rfl, by decide, by decide⟩ (by decide) i
  unfold State.prsStat State.count64 State.wr64
  dsimp only
  rw [h.wr _ _ _ _ hhi, h.wr _ _ _ _ hlo]
  (repeat' split) <;> simp only [h.wr _ _ _ _ hsat, h.unitEvent]

theorem ParseApart.settleBacklog (s : State) (i : Nat) : g (s.settleBacklog i) = g s := by
  unfold State.settleBacklog
  dsimp only
  rw [h.setF _ F.GOV_PIPE_STATUS_BACKLOG_KB _ _ (parseKey_govPipe i), h.setF _ F.GOV_PIPE_STATUS_ADMIT_XOFF _ _ (parseKey_govPipe i), h.feXoff]

theorem ParseApart.traceRecord (s : State) (i port : Nat) (rcd : List Byte) : g (s.traceRecord i port rcd) = g s := by
  have hctl : parseKey (R.PRS_TRACE_CTL.key i) = true := PipeReg.trace.parseKey (by decide) i
  unfold State.traceRecord
  split
  · rw [State.each_keeps g _ _ _ fun w s => h.wr s _ _ _ (parseKey_traceRec _), h.setF _ F.PRS_TRACE_CTL_DONE _ _ hctl,
      h.setF _ F.PRS_TRACE_CTL_ARM _ _ hctl]
  · rfl

end

theorem ParseApart.rd {q : Reg} {j : Nat} (hk : parseKey (q.key j) = false) : ParseApart fun s => s.rd q j where
  wr s _ _ v hc := s.rd_wr_ne v fun e => by rw [e, hc] at hk; cases hk
  feXoff _ _ := rfl

/-- The parser's stores and the others that frames move through. -/
def State.frames (s : State) : Prs × Tab (List Nat) × Tab (List Nat) × Vlt × Tab Byte × Tab (Option Copy) :=
  (s.prs, s.queues, s.hostqs, s.vlt, s.arrays, s.copies)

theorem ParseApart.frames : ParseApart State.frames := ⟨fun _ _ _ _ _ => rfl, fun _ _ => rfl⟩

/-- What the parse of a frame of port `p` in pipeline `i` reads: the mode, the pipeline's and the port's configuration and the arrays. -/
def State.parseConfig (s : State) (i p : Nat) : Nat × Nat × Nat × Tab Byte := (s.mode, s.rd R.PRS_PIPE_CFG i, s.rd R.PRS_PORT_CFG p, s.arrays)

theorem parseKey_pipeCfg (i : Nat) : parseKey (R.PRS_PIPE_CFG.key i) = false := by
  have key : R.PRS_PIPE_CFG.key i = 0x10480000 + (i % 2 * 0x40000 + i / 2 * 0x1000000) := (rfl)
  rw [parseKey, countKey, Bool.or_eq_false_iff]
  exact ⟨decide_eq_false (by omega), decide_eq_false (by omega)⟩

theorem parseKey_portCfg (p : Nat) : parseKey (R.PRS_PORT_CFG.key p) = false := by
  have key : R.PRS_PORT_CFG.key p = 0x10400000 + (p % 64 * 0x1000 + p / 64 * 0x1000000) := (rfl)
  rw [parseKey, countKey, Bool.or_eq_false_iff]
  exact ⟨decide_eq_false (by omega), decide_eq_false (by omega)⟩

theorem ParseApart.config (i p : Nat) : ParseApart fun s => s.parseConfig i p where
  wr s r k v hc := by
    unfold State.parseConfig State.mode State.fld
    rw [(ParseApart.rd (q := F.GLB_MODE_MODE.reg) (j := 0) (by decide)).wr s r k v hc, (ParseApart.rd (parseKey_pipeCfg i)).wr s r k v hc,
      (ParseApart.rd (parseKey_portCfg p)).wr s r k v hc, State.wr_arrays]
  feXoff _ _ := rfl

/-! ### The parse reads nothing else -/

section
variable {s t : State} {i p : Nat} (h : t.parseConfig i p = s.parseConfig i p)
include h

theorem State.arr_parse (a n : Nat) : t.arr a n = s.arr a n := congrArg (fun c : Nat × Nat × Nat × Tab Byte => Tab.getList 0 c.2.2.2 a n) h

theorem State.arrNat_parse (a n : Nat) : t.arrNat a n = s.arrNat a n := congrArg leNat (State.arr_parse h a n)

theorem State.fld_pipeCfg_parse (lo wd : Nat) : t.fld ⟨R.PRS_PIPE_CFG, lo, wd⟩ i = s.fld ⟨R.PRS_PIPE_CFG, lo, wd⟩ i :=
  congrArg (fun c : Nat × Nat × Nat × Tab Byte => bits c.2.1 lo wd) h

theorem State.fld_portCfg_parse (lo wd : Nat) : t.fld ⟨R.PRS_PORT_CFG, lo, wd⟩ p = s.fld ⟨R.PRS_PORT_CFG, lo, wd⟩ p :=
  congrArg (fun c : Nat × Nat × Nat × Tab Byte => bits c.2.2.1 lo wd) h

theorem State.activeBank_parse : t.activeBank i = s.activeBank i := State.fld_pipeCfg_parse h _ _

theorem State.fallback_parse : t.fld F.PRS_PORT_CFG_FALLBACK_PROFILE p = s.fld F.PRS_PORT_CFG_FALLBACK_PROFILE p := State.fld_portCfg_parse h _ _

theorem State.flatKey_parse (prof : Nat) (fr : List Byte) : t.flatKey i prof fr = s.flatKey i prof fr := by
  unfold State.flatKey
  rw [State.arr_parse h]

theorem State.lengthReaction_parse (k : Nat) : t.lengthReaction i k = s.lengthReaction i k := by
  have hcfg : t.rd R.PRS_PIPE_CFG i = s.rd R.PRS_PIPE_CFG i := congrArg (·.2.1) h
  unfold State.lengthReaction
  rw [hcfg]

theorem State.expressEntry_parse (fr : List Byte) : t.expressEntry i p fr = s.expressEntry i p fr := by
  have hmode : t.mode = s.mode := congrArg (·.1) h
  unfold State.expressEntry
  simp only [hmode, State.arrNat_parse h, State.arr_parse h]

theorem State.ladder_parse (fr : List Byte) (perr : Option Nat) : t.ladder i p fr perr = s.ladder i p fr perr := by
  have hdepth : t.fld F.PRS_PIPE_CFG_DEPTH i = s.fld F.PRS_PIPE_CFG_DEPTH i := State.fld_pipeCfg_parse h _ _
  have hstart : t.fld F.PRS_PORT_CFG_START_STATE p = s.fld F.PRS_PORT_CFG_START_STATE p := State.fld_portCfg_parse h _ _
  unfold State.ladder
  simp only [State.activeBank_parse h, hdepth, hstart, State.arrNat_parse h]

end

/-! ### A frame taken from its front end -/

/-- The oldest frame has left the front end of a pipeline and is counted (R235, R527). -/
def State.popFrame (s : State) (i : Nat) (rest : List Frame) : State :=
  (State.settleBacklog { s with prs := { s.prs with fe := Tab.set [] s.prs.fe i rest } } i).prsStat i 0

theorem State.popFrame_eq (s : State) (i : Nat) (rest : List Frame) :
    s.popFrame i rest = (State.settleBacklog { s with prs := { s.prs with fe := Tab.set [] s.prs.fe i rest } } i).prsStat i 0 := (rfl)

theorem State.popFrame_config (s : State) (i p : Nat) (rest : List Frame) : (s.popFrame i rest).parseConfig i p = s.parseConfig i p := by
  rw [s.popFrame_eq, (ParseApart.config i p).prsStat, (ParseApart.config i p).settleBacklog]
  rfl

theorem State.popFrame_frames (s : State) (i : Nat) (rest : List Frame) :
    (s.popFrame i rest).frames = ({ s.prs with fe := Tab.set [] s.prs.fe i rest }, s.frames.2) := by
  rw [s.popFrame_eq, ParseApart.frames.prsStat, ParseApart.frames.settleBacklog]
  rfl

/-- A record joins those on their way to the express slice or to the classifier. -/
def Prs.send (x : Prs) (i : Nat) (express : Bool) (p : Parsed) : Prs :=
  if express then { x with toExp := Tab.set [] x.toExp i (Tab.get [] x.toExp i ++ [p]) }
  else { x with toCls := Tab.set [] x.toCls i (Tab.get [] x.toCls i ++ [p]) }

theorem State.sendRecord_frames (s : State) (i : Nat) (express : Bool) (f : Frame) (rcd : List Byte) :
    (s.sendRecord i express f rcd).frames = (s.prs.send i express ⟨f, rcd⟩, s.frames.2) := by
  have hsend : (s.sendRecord i express f rcd).frames
      = ((s.traceRecord i f.port rcd).prs.send i express ⟨f, rcd⟩, (s.traceRecord i f.port rcd).frames.2) := by
    cases express <;> rfl
  rw [hsend, ParseApart.frames.traceRecord]
  exact congrArg (fun x : Prs => (x.send i express ⟨f, rcd⟩, s.frames.2)) (congrArg (·.1) (ParseApart.frames.traceRecord s i f.port rcd))

/-- A frame has left its front end and its record gone on; nothing else that frames move through has changed. -/
structure RecordSent (s t : State) (i : Nat) (rest : List Frame) (express : Bool) (p : Parsed) : Prop where
  frames : t.frames = (Prs.send { s.prs with fe := Tab.set [] s.prs.fe i rest } i express p, s.frames.2)

theorem RecordSent.intro {s u : State} {i : Nat} {f : Frame} {rest : List Frame} (hu : u.frames = (s.popFrame i rest).frames) (express : Bool)
    (rcd : List Byte) : RecordSent s (u.sendRecord i express f rcd) i rest express ⟨f, rcd⟩ where
  frames := by
    rw [s.popFrame_frames] at hu
    have hprs : u.prs = { s.prs with fe := Tab.set [] s.prs.fe i rest } := congrArg (·.1) hu
    rw [State.sendRecord_frames, hprs, hu]

section
variable {s t : State} {i : Nat} {rest : List Frame} {p : Parsed}

theorem RecordSent.prs {express : Bool} (h : RecordSent s t i rest express p) :
    t.prs = Prs.send { s.prs with fe := Tab.set [] s.prs.fe i rest } i express p := congrArg (·.1) h.frames

theorem RecordSent.kept {express : Bool} (h : RecordSent s t i rest express p) : t.queues = s.queues ∧ t.vlt = s.vlt ∧ t.arrays = s.arrays :=
  ⟨congrArg (·.2.1) h.frames, congrArg (·.2.2.2.1) h.frames, congrArg (·.2.2.2.2.1) h.frames⟩

theorem RecordSent.fe {express : Bool} (h : RecordSent s t i rest express p) : Tab.get [] t.prs.fe i = rest := by
  rw [h.prs]
  cases express <;> exact Tab.get_set_same _ _ _ _

theorem RecordSent.express (h : RecordSent s t i rest true p) :
    Tab.get [] t.prs.toExp i = Tab.get [] s.prs.toExp i ++ [p] ∧ t.prs.toCls = s.prs.toCls := by
  rw [h.prs]
  exact ⟨Tab.get_set_same _ _ _ _, rfl⟩

theorem RecordSent.classifier (h : RecordSent s t i rest false p) :
    Tab.get [] t.prs.toCls i = Tab.get [] s.prs.toCls i ++ [p] ∧ t.prs.toExp = s.prs.toExp ∧ t.prs.late = s.prs.late := by
  rw [h.prs]
  exact ⟨Tab.get_set_same _ _ _ _, rfl, rfl⟩

end

/-! ### The express path -/

/-- The flat record of a frame that an express entry names (R243, R244). -/
def State.expressRecord (s : State) (i e : Nat) (f : Frame) : List Byte :=
  makeRecord (s.flatKey i (bits (s.arrNat (prsExp i e) 4) 8 4) f.bytes) (List.replicate 16 0#8) 0 (65536 + 2 ^ 18 * s.activeBank i + 2 ^ 19)
    (0xFF + 2 ^ 20 * f.port) (bits (s.arrNat (prsExp i e) 4) 8 4 + 256 * e)

theorem execParseFrame_express {s : State} {i : Nat} {f : Frame} {rest : List Frame} {e : Nat} (hf : Tab.get [] s.prs.fe i = f :: rest)
    (he : s.expressEntry i f.port f.bytes = some e) (perr : Option Nat) (ended : Bool) :
    ∃ t, execParseFrame i perr ended s = .next t ∧ RecordSent s t i rest true ⟨f, s.expressRecord i e f⟩ := by
  have hcfg := s.popFrame_config i f.port rest
  refine ⟨_, ?_, RecordSent.intro (ParseApart.frames.prsStat (s.popFrame i rest) i 12) true _⟩
  unfold execParseFrame
  rw [hf]
  dsimp only
  simp only [← s.popFrame_eq i rest]
  rw [State.expressEntry_parse hcfg, he]
  dsimp only
  rw [State.flatKey_parse hcfg, State.arrNat_parse hcfg, State.activeBank_parse hcfg]
  rfl

/-! ### The ladder -/

/-- A parsed frame is counted: its clipped key, its rungs and its outcome (R235, R493). -/
def State.countParse (s : State) (i : Nat) (r : Rung) (oc : Nat × Nat) : State :=
  ((if r.clipped then s.prsStat i 13 else s).unitEvent (128 + i) 17 r.rung).prsStat i
    (if oc.1 = 0 then 1 else if oc.1 = 1 then 2 else if oc.1 = 3 then 3 else 3 + oc.2)

theorem ParseApart.countParse {β : Type} {g : State → β} (h : ParseApart g) (s : State) (i : Nat) (r : Rung) (oc : Nat × Nat) :
    g (s.countParse i r oc) = g s := by
  unfold State.countParse
  rw [h.prsStat, h.unitEvent]
  split
  · exact h.prsStat s i 13
  · rfl

/-- What becomes of a frame whose ladder has stopped, once it is counted (R242, R244, R247). -/
def State.parsed (s : State) (i : Nat) (f : Frame) (r : Rung) (oc : Nat × Nat) : State :=
  let react := if oc.1 = 2 then s.lengthReaction i oc.2 else 1
  let prof := s.fld F.PRS_PORT_CFG_FALLBACK_PROFILE f.port
  let flat := if oc.1 = 0 then none else some (prof, s.flatKey i prof f.bytes)
  let rcd := ladderRecord r oc.1 oc.2 (s.activeBank i) f.port flat
  if react = 0 then s.prsStat i 9
  else if react = 2 then ((s.prsStat i 10).traceRecord i f.port rcd).punt 4 f rcd 0 (f.rxStamp / 65536)
  else (if flat.isSome then s.prsStat i 11 else s).sendRecord i false f rcd

/-- A frame that has ended and reaches as far as its IP length, its ladder stopped without a parity error. -/
theorem execParseFrame_ladder {s : State} {i : Nat} {f : Frame} {rest : List Frame} {r : Rung} {oc : Nat × Nat} {perr : Option Nat}
    (hf : Tab.get [] s.prs.fe i = f :: rest) (he : s.expressEntry i f.port f.bytes = none) (hr : s.ladder i f.port f.bytes perr = r)
    (hoc : r.stopped = some oc) (hlen : r.pendingEnd ≤ f.bytes.length - 4) (hpar : oc ≠ (3, 2)) :
    execParseFrame i perr true s = .next (((s.popFrame i rest).countParse i r oc).parsed i f r oc) := by
  have hcfg := s.popFrame_config i f.port rest
  have hlong : decide (f.bytes.length - 4 < r.pendingEnd) = false := decide_eq_false (by omega)
  unfold execParseFrame
  rw [hf]
  dsimp only
  simp only [← s.popFrame_eq i rest]
  rw [State.expressEntry_parse hcfg, he]
  dsimp only
  simp only [State.ladder_parse hcfg, hr, hoc, hlong, Option.getD_some, Bool.and_false, Bool.false_eq_true, if_false, if_neg hpar]
  rfl

theorem State.parsed_complete (s : State) (i : Nat) (f : Frame) (r : Rung) :
    s.parsed i f r (0, 0) = s.sendRecord i false f (ladderRecord r 0 0 (s.activeBank i) f.port none) := by
  simp [State.parsed]

theorem State.parsed_partial (s : State) (i : Nat) (f : Frame) (r : Rung) (c : Nat) :
    s.parsed i f r (1, c) = (s.prsStat i 11).sendRecord i false f (ladderRecord r 1 c (s.activeBank i) f.port
      (some (s.fld F.PRS_PORT_CFG_FALLBACK_PROFILE f.port, s.flatKey i (s.fld F.PRS_PORT_CFG_FALLBACK_PROFILE f.port) f.bytes))) := by
  simp [State.parsed]

theorem State.parsed_dropped (s : State) (i : Nat) (f : Frame) (r : Rung) (k : Nat) (h : s.lengthReaction i k = 0) :
    s.parsed i f r (2, k) = s.prsStat i 9 := by
  unfold State.parsed
  dsimp only
  rw [if_pos rfl, h, if_pos rfl]

section
variable {s : State} {i : Nat} {f : Frame} {rest : List Frame} {r : Rung} {perr : Option Nat} (hf : Tab.get [] s.prs.fe i = f :: rest)
  (he : s.expressEntry i f.port f.bytes = none) (hr : s.ladder i f.port f.bytes perr = r) (hlen : r.pendingEnd ≤ f.bytes.length - 4)
include hf he hr hlen

/-- A ladder that ends complete sends its own record to the classifier. -/
theorem execParseFrame_complete (hs : r.stopped = some (0, 0)) : ∃ t, execParseFrame i perr true s = .next t
    ∧ RecordSent s t i rest false ⟨f, ladderRecord r 0 0 (s.activeBank i) f.port none⟩ := by
  have hcfg := ((ParseApart.config i f.port).countParse (s.popFrame i rest) i r (0, 0)).trans (s.popFrame_config i f.port rest)
  refine ⟨_, execParseFrame_ladder hf he hr hs hlen (by decide), ?_⟩
  rw [State.parsed_complete, State.activeBank_parse hcfg]
  exact RecordSent.intro (ParseApart.frames.countParse _ i r _) false _

/-- One that stops short of it sends the flat record of its port's fallback profile. -/
theorem execParseFrame_partial (c : Nat) (hs : r.stopped = some (1, c)) : ∃ t, execParseFrame i perr true s = .next t
    ∧ RecordSent s t i rest false ⟨f, ladderRecord r 1 c (s.activeBank i) f.port
        (some (s.fld F.PRS_PORT_CFG_FALLBACK_PROFILE f.port, s.flatKey i (s.fld F.PRS_PORT_CFG_FALLBACK_PROFILE f.port) f.bytes))⟩ := by
  have hcfg := ((ParseApart.config i f.port).countParse (s.popFrame i rest) i r (1, c)).trans (s.popFrame_config i f.port rest)
  refine ⟨_, execParseFrame_ladder hf he hr hs hlen (by simp), ?_⟩
  rw [State.parsed_partial, State.activeBank_parse hcfg, State.fallback_parse hcfg, State.flatKey_parse hcfg]
  exact RecordSent.intro ((ParseApart.frames.prsStat _ i 11).trans (ParseApart.frames.countParse _ i r _)) false _

/-- A length error whose reaction is 0 drops the frame (R247). -/
theorem execParseFrame_dropped (k : Nat) (hs : r.stopped = some (2, k)) (hreact : s.lengthReaction i k = 0) : ∃ t, execParseFrame i perr true s = .next t
    ∧ t.frames = ({ s.prs with fe := Tab.set [] s.prs.fe i rest }, s.frames.2) := by
  have hcfg := ((ParseApart.config i f.port).countParse (s.popFrame i rest) i r (2, k)).trans (s.popFrame_config i f.port rest)
  refine ⟨_, execParseFrame_ladder hf he hr hs hlen (by simp), ?_⟩
  rw [State.parsed_dropped _ _ _ _ _ ((State.lengthReaction_parse hcfg k).trans hreact), ParseApart.frames.prsStat, ParseApart.frames.countParse,
    State.popFrame_frames]

end

/-! ### A frame that ends after its record left -/

/-- A frame on its way to the classifier found bad, if it is the one named (R241). -/
def Parsed.markBad (id : Nat) (p : Parsed) : Parsed := if p.frame.id == id then { p with frame := { p.frame with bad := true } } else p

theorem Parsed.markBad_bad {id : Nat} {p : Parsed} (h : (p.markBad id).frame.id = id) : (p.markBad id).frame.bad = true := by
  unfold Parsed.markBad at h ⊢
  split at h
  · next hid => rw [if_pos hid]
  · next hid => exact absurd (beq_iff_eq.2 h) hid

theorem Parsed.markBad_bytes (id : Nat) (p : Parsed) : (p.markBad id).frame.bytes = p.frame.bytes := by
  unfold Parsed.markBad
  split <;> rfl

/-- The frame is no longer awaited, and is bad wherever it stands before the classifier. -/
def State.endLate (s : State) (id i : Nat) : State :=
  { s with prs := { s.prs with late := s.prs.late.filter fun e => e.1 != id,
                               toCls := Tab.set [] s.prs.toCls i ((Tab.get [] s.prs.toCls i).map (Parsed.markBad id)) } }

theorem execParseFrameEnd_late {s : State} {id i n : Nat} (h : s.prs.late.find? (fun e => e.1 == id) = some (id, i, n)) :
    execParseFrameEnd id s = .next (((s.endLate id i).markBad id).prsStat i 8) := by
  unfold execParseFrameEnd
  rw [h]
  rfl

/-- What then waits for the classifier is what waited, the frame's own entries bad. -/
theorem State.endLate_toCls (s : State) (id i : Nat) :
    Tab.get [] (s.endLate id i).prs.toCls i = (Tab.get [] s.prs.toCls i).map (Parsed.markBad id) := Tab.get_set_same _ _ _ _

/-- Every copy of the frame that went out before its end is stomped (R23). -/
theorem State.markBad_stomps (s : State) (id : Nat) (e : Nat × Option Copy) (he : e ∈ (s.markBad id).copies) (c : Copy) (hc : e.2 = some c)
    (hid : c.frameId = id) (hcut : c.cut = true) : c.stomp = true := by
  obtain ⟨⟨k, x⟩, -, rfl⟩ := List.mem_map.1 he
  obtain ⟨d, -, rfl⟩ := Option.map_eq_some_iff.1 hc
  by_cases hd : (d.frameId == id && d.cut) = true
  · rw [if_pos hd]
  · rw [if_neg hd] at hid hcut
    exact absurd (by rw [hid, hcut, beq_self_eq_true, Bool.true_and]) hd

theorem execParseFrameEnd_marks {s : State} {id i n : Nat} (h : s.prs.late.find? (fun e => e.1 == id) = some (id, i, n)) :
    ∃ t, execParseFrameEnd id s = .next t ∧ t.prs.late = s.prs.late.filter (fun e => e.1 != id)
      ∧ (∀ p ∈ Tab.get [] t.prs.toCls i, p.frame.id = id → p.frame.bad = true)
      ∧ (Tab.get [] t.prs.toCls i).map (fun p => p.frame.bytes) = (Tab.get [] s.prs.toCls i).map (fun p => p.frame.bytes)
      ∧ (∀ e ∈ t.copies, ∀ c, e.2 = some c → c.frameId = id → c.cut = true → c.stomp = true)
      ∧ t.queues = s.queues ∧ t.prs.fe = s.prs.fe ∧ t.arrays = s.arrays := by
  have hframes := ParseApart.frames.prsStat ((s.endLate id i).markBad id) i 8
  refine ⟨_, execParseFrameEnd_late h, ?_⟩
  generalize ((s.endLate id i).markBad id).prsStat i 8 = t at hframes ⊢
  have hprs : t.prs = (s.endLate id i).prs := congrArg (·.1) hframes
  have hcopies : t.copies = ((s.endLate id i).markBad id).copies := congrArg (·.2.2.2.2.2) hframes
  rw [hprs, hcopies, State.endLate_toCls]
  refine ⟨rfl, fun p hp hid => ?_, ?_, (s.endLate id i).markBad_stomps id, congrArg (·.2.1) hframes, rfl, congrArg (·.2.2.2.2.1) hframes⟩
  · obtain ⟨q, -, rfl⟩ := List.mem_map.1 hp
    exact Parsed.markBad_bad hid
  · rw [List.map_map]
    exact List.map_congr_left fun p _ => p.markBad_bytes id

/-! ### Punt buckets -/

theorem punt_keys (r : Nat) : R.DMA_PUNT_CFG.key r = 0x6800000 + r * 0x20 ∧ R.DMA_PUNT_CFG2.key r = 0x6800004 + r * 0x20
    ∧ R.DMA_PUNT_STATUS.key r = 0x6800008 + r * 0x20 := ⟨rfl, rfl, rfl⟩

theorem State.setPuntTokens_tokens (s : State) (r v : Nat) : (s.setPuntTokens r v).prs.puntTokens = Tab.set 0 s.prs.puntTokens r v := (rfl)

theorem State.setPuntTokens_rd (s : State) (r v : Nat) (q : Reg) (j : Nat) (h : q.key j ≠ R.DMA_PUNT_STATUS.key r) :
    (s.setPuntTokens r v).rd q j = s.rd q j := State.rd_setF_ne _ _ h

theorem State.setPuntTokens_shown (s : State) (r v : Nat) :
    (s.setPuntTokens r v).fld F.DMA_PUNT_STATUS_TOKENS r = v / 2 ^ 32 % 2 ^ F.DMA_PUNT_STATUS_TOKENS.wd := State.fld_setF_same _ _ _ _ (by decide)

/-- Tokens are shown in a register of their own, beside those that configure a bucket. -/
theorem State.setPuntTokens_config (s : State) (r v j : Nat) : (s.setPuntTokens r v).rd R.DMA_PUNT_CFG j = s.rd R.DMA_PUNT_CFG j
    ∧ (s.setPuntTokens r v).rd R.DMA_PUNT_CFG2 j = s.rd R.DMA_PUNT_CFG2 j := by
  obtain ⟨hcfg, hcfg2, -⟩ := punt_keys j
  obtain ⟨-, -, hstatus⟩ := punt_keys r
  exact ⟨s.setPuntTokens_rd r v _ _ (by omega), s.setPuntTokens_rd r v _ _ (by omega)⟩

/-- What a microsecond makes of a bucket's tokens (R248). -/
def State.refilled (s : State) (r : Nat) : Nat :=
  min (s.fld F.DMA_PUNT_CFG2_BURST r * 2 ^ 32) (Tab.get 0 s.prs.puntTokens r + s.fld F.DMA_PUNT_CFG_RATE r * 2 ^ 32 / 1000000)

/-- A bucket's tokens and how many whole frames of them TOKENS shows. -/
def State.puntTokensOf (s : State) (r : Nat) : Nat × Nat := (Tab.get 0 s.prs.puntTokens r, s.fld F.DMA_PUNT_STATUS_TOKENS r)

/-- One bucket refilled. -/
def State.refill (s : State) (r : Nat) : State := s.setPuntTokens r (s.refilled r)

theorem execPuntRefill_eq (s : State) : execPuntRefill s = .next (s.each (List.range 64) fun r t => t.refill r) := (rfl)

/-- So many tokens, and the whole frames of them that TOKENS shows. -/
def puntShown (v : Nat) : Nat × Nat := (v, v / 2 ^ 32 % 2 ^ F.DMA_PUNT_STATUS_TOKENS.wd)

theorem State.refill_same (s : State) (r : Nat) : (s.refill r).puntTokensOf r = puntShown (s.refilled r) := by
  unfold State.puntTokensOf State.refill puntShown
  rw [State.setPuntTokens_tokens, Tab.get_set_same, State.setPuntTokens_shown]

theorem State.setPuntTokens_other (s : State) {r j : Nat} (v : Nat) (h : j ≠ r) :
    (s.setPuntTokens j v).refilled r = s.refilled r ∧ (s.setPuntTokens j v).puntTokensOf r = s.puntTokensOf r := by
  obtain ⟨hcfg, hcfg2⟩ := s.setPuntTokens_config j v r
  obtain ⟨-, -, hr⟩ := punt_keys r
  obtain ⟨-, -, hj⟩ := punt_keys j
  have hstatus := s.setPuntTokens_rd j v R.DMA_PUNT_STATUS r (by omega)
  have htokens : Tab.get 0 (s.setPuntTokens j v).prs.puntTokens r = Tab.get 0 s.prs.puntTokens r := by
    rw [s.setPuntTokens_tokens, Tab.get_set_ne _ _ _ h.symm]
  unfold State.refilled State.puntTokensOf State.fld
  exact ⟨by rw [htokens, show F.DMA_PUNT_CFG2_BURST.reg = R.DMA_PUNT_CFG2 from rfl, show F.DMA_PUNT_CFG_RATE.reg = R.DMA_PUNT_CFG from rfl, hcfg, hcfg2],
    by rw [htokens, show F.DMA_PUNT_STATUS_TOKENS.reg = R.DMA_PUNT_STATUS from rfl, hstatus]⟩

/-- Every bucket gains what a microsecond gives it from what it held. -/
theorem State.refilled_tokens (s : State) (r : Nat) (hr : r < 64) :
    (s.each (List.range 64) fun r t => t.refill r).puntTokensOf r = puntShown (s.refilled r) :=
  State.each_at (fun s => s.refilled r) (fun s => s.puntTokensOf r) puntShown (List.range 64) List.nodup_range (fun r t => t.refill r) r (List.mem_range.2 hr)
    (fun t => t.refill_same r) (fun j _ hj t => (t.setPuntTokens_other (t.refilled j) hj).1)
    (fun j _ hj t => (t.setPuntTokens_other (t.refilled j) hj).2) s

/-- `t` is `s` but for registers and punt tokens. -/
def TokensSet (s t : State) : Prop := t = { s with regs := t.regs, prs := { s.prs with puntTokens := t.prs.puntTokens } }

theorem TokensSet.trans {s t u : State} (h : TokensSet s t) (g : TokensSet t u) : TokensSet s u := by
  unfold TokensSet at *
  rw [g, h]

theorem TokensSet.tokens (s : State) (x : Tab Nat) : TokensSet s { s with prs := { s.prs with puntTokens := x } } := (rfl)
theorem TokensSet.setF (s : State) (f : Fld) (i v : Nat) : TokensSet s (s.setF f i v) := (rfl)

theorem TokensSet.refill (s : State) (r : Nat) : TokensSet s (s.refill r) := by
  unfold State.refill State.setPuntTokens
  exact (TokensSet.tokens s _).trans (TokensSet.setF _ _ _ _)

theorem TokensSet.each (s : State) (l : List Nat) : TokensSet s (s.each l fun r t => t.refill r) := by
  induction l generalizing s with
  | nil => rfl
  | cons r l ih =>
    rw [State.each_cons]
    exact (TokensSet.refill s r).trans (ih _)

/-! ### PUNT_CONFIG -/

/-- The fields of a reason that PUNT_CONFIG writes (R260). -/
def puntConfigWrites (r : Req) (q : Nat) : List (Fld × Nat × Nat) :=
  [(F.DMA_PUNT_CFG_RATE, r.index, r.arg A.PUNT_CONFIG_RATE), (F.DMA_PUNT_CFG2_BURST, r.index, r.arg A.PUNT_CONFIG_BURST),
    (F.DMA_PUNT_CFG2_HOST_QUEUE, r.index, q)]

theorem State.puntConfigWrites_wrote (s : State) (r : Req) (q : Nat) : Wrote s (s.setAll (puntConfigWrites r q)) (puntConfigWrites r q) := by
  have hkey : R.DMA_PUNT_CFG.key r.index ≠ R.DMA_PUNT_CFG2.key r.index := Reg.key_ne_of_base (by rfl) (by decide) _
  refine Wrote.setAll s _ ?_ ?_ <;>
    simp [puntConfigWrites, Separate, hkey, F.DMA_PUNT_CFG_RATE, F.DMA_PUNT_CFG2_BURST, F.DMA_PUNT_CFG2_HOST_QUEUE]

theorem State.puntConfigAct_one (s : State) (r : Req) (q : Nat) (h : r.all = false)
    (hq : q = if r.expert then r.arg A.PUNT_CONFIG_HOST_QUEUE else r.index) :
    s.puntConfigAct r = .ok ((s.setAll (puntConfigWrites r q)).fillPunt r.index)
      (w32 ((s.setAll (puntConfigWrites r q)).rd R.DMA_PUNT_CFG r.index) ++ w32 ((s.setAll (puntConfigWrites r q)).rd R.DMA_PUNT_CFG2 r.index)) := by
  obtain ⟨hcfg, hcfg2⟩ := (s.setAll (puntConfigWrites r q)).setPuntTokens_config r.index
    ((s.setAll (puntConfigWrites r q)).fld F.DMA_PUNT_CFG2_BURST r.index * 2 ^ 32) r.index
  rw [← hcfg, ← hcfg2, hq]
  unfold State.puntConfigAct
  dsimp only
  rw [Req.instances_one h, h]
  rfl

theorem execPuntConfig_one (s : State) (m : Nat) (r : Req) (q : Nat) (h : Ready s m C.PUNT_CONFIG s.puntConfigChecks r) (hall : r.all = false)
    (hq : q = if r.expert then r.arg A.PUNT_CONFIG_HOST_QUEUE else r.index) : ∃ u t, execPuntConfig m s = .next t ∧ Wrote s u (puntConfigWrites r q)
      ∧ Answered (u.fillPunt r.index) t m r 0 0
        (respParams C.PUNT_CONFIG r 0 (w32 (u.rd R.DMA_PUNT_CFG r.index) ++ w32 (u.rd R.DMA_PUNT_CFG2 r.index))) :=
  ⟨_, _, rfl, s.puntConfigWrites_wrote r q, h.answered_ok (h.mode_ne_zero (by rfl) (by decide)) (s.puntConfigAct_one r q hall hq)
    (s.puntConfigAct_fixed r)⟩

/-- Settles O23: a parsed frame by the record that it sends or the lack of one, a late one by the marks that it leaves, the buckets one by one. -/
theorem parsedFramesAndPunts : Obligations.ParsedFramesAndPunts := by
  unfold Obligations.ParsedFramesAndPunts
  refine ⟨fun s i f tail perr _ _ hf => ⟨fun e ended he => ?_, fun he r hr => ⟨fun hs hlen => ?_, fun c hs hlen => ?_, fun k _ hs hlen hreact => ?_⟩⟩,
    fun s id i n h _ => execParseFrameEnd_marks h, fun s => ⟨?_, execPuntConfig_one s⟩⟩
  · obtain ⟨t, ht, hsent⟩ := execParseFrame_express hf he perr ended
    exact ⟨t, ht, hsent.fe, hsent.express.1, hsent.express.2, hsent.kept⟩
  · obtain ⟨t, ht, hsent⟩ := execParseFrame_complete hf he hr hlen hs
    obtain ⟨hcls, hexp, hlate⟩ := hsent.classifier
    exact ⟨t, ht, hsent.fe, hcls, hexp, hlate, hsent.kept⟩
  · obtain ⟨t, ht, hsent⟩ := execParseFrame_partial hf he hr hlen c hs
    obtain ⟨hcls, hexp, -⟩ := hsent.classifier
    exact ⟨t, ht, hsent.fe, hcls, hexp, hsent.kept⟩
  · obtain ⟨t, ht, hframes⟩ := execParseFrame_dropped hf he hr hlen k hs hreact
    have hprs : t.prs = { s.prs with fe := Tab.set [] s.prs.fe i tail } := congrArg (·.1) hframes
    exact ⟨t, ht, by rw [hprs, Tab.get_set_same], by rw [hprs], by rw [hprs], congrArg (·.2.1) hframes, congrArg (·.2.2.1) hframes,
      congrArg (·.2.2.2.1) hframes⟩
  · refine ⟨_, execPuntRefill_eq s, fun r hr => ?_, TokensSet.each s _⟩
    have htokens := s.refilled_tokens r hr
    generalize (s.each (List.range 64) fun r t => t.refill r) = t at htokens ⊢
    have hheld : Tab.get 0 t.prs.puntTokens r = s.refilled r := congrArg (·.1) htokens
    rw [hheld]
    exact ⟨rfl, congrArg (·.2) htokens⟩

end Sys2Proof.Machine

namespace Sys2Proof.Machine

/-! ### The registers of the classifier's tables -/

/-- A register that each table has stands 0x100 after that of the table before (R288). -/
theorem tableReg_key {q : Reg} {n : Nat} (hq : q.dims = [(n, 0x100)]) (t : Nat) : q.key t = q.base + 0x100 * t := by
  unfold Reg.key
  rw [hq, Nat.mul_comm]
  rfl

theorem tableMask_key (t w : Nat) (hw : w < 20) : R.CLS_TABLE_MASK.key (w + 20 * t) = 0x20010040 + 4 * w + 0x100 * t := by
  have key : R.CLS_TABLE_MASK.key (w + 20 * t) = 0x20010040 + ((w + 20 * t) % 20 * 4 + (w + 20 * t) / 20 * 0x100) := (rfl)
  rw [key]
  omega

theorem ternSelect_key (w : Nat) : R.CLS_TERN_SELECT.key w = 0x20014040 + w * 4 := (rfl)

/-! ### The statistics of a frame in step 5 -/

/-- The registers that only count as a frame is classified: the counters of the tally units (R496) and those of the classifier. -/
def statKey (a : Nat) : Bool := decide ((0x8100000 ≤ a ∧ a < 0x10000000) ∨ (0x20030000 ≤ a ∧ a < 0x20030200))

/-- `t` is `s` but for statistics: registers that only count, updates of the tally store, and the sampling counts of the ports. -/
structure Counted (s t : State) : Prop where
  regs : ∀ q j, statKey (q.key j) = false → t.rd q j = s.rd q j
  rest : t = { s with regs := t.regs, tly := t.tly, cls := { s.cls with sampled := t.cls.sampled } }

theorem Counted.refl (s : State) : Counted s s := ⟨fun _ _ _ => rfl, rfl⟩

theorem Counted.trans {s t u : State} (h : Counted s t) (g : Counted t u) : Counted s u where
  regs q j hk := (g.regs q j hk).trans (h.regs q j hk)
  rest := by rw [g.rest, h.rest]

theorem Counted.wr (s : State) (q : Reg) (i v : Nat) (hk : statKey (q.key i) = true) : Counted s (s.wr q i v) where
  regs r j hr := s.rd_wr_ne v fun e => by rw [e, hk] at hr; cases hr
  rest := rfl

theorem Counted.tally (s : State) (off n : Nat) : Counted s (s.tally off n) := ⟨fun _ _ _ => State.rd_congr (rfl) _ _, rfl⟩

theorem Counted.sampled (s : State) (x : Tab Nat) : Counted s { s with cls := { s.cls with sampled := x } } :=
  ⟨fun _ _ _ => State.rd_congr (rfl) _ _, rfl⟩

theorem Counted.each {α : Type} (l : List α) (f : α → State → State) (s : State) (h : ∀ a ∈ l, ∀ s, Counted s (f a s)) :
    Counted s (s.each l f) := by
  induction l generalizing s with
  | nil => exact Counted.refl s
  | cons a l ih =>
    rw [State.each_cons]
    exact (h a List.mem_cons_self s).trans (ih _ fun b hb => h b (List.mem_cons_of_mem _ hb))

theorem statKey_cnt (u k : Nat) (hu : u < 448) (hk : k < 48) : statKey (R.TLY_CNT_SEL.key (k + 48 * u)) = true
    ∧ statKey (R.TLY_CNT_LO.key (k + 48 * u)) = true ∧ statKey (R.TLY_CNT_HI.key (k + 48 * u)) = true := by
  have sel : R.TLY_CNT_SEL.key (k + 48 * u) = 0x8100000 + ((k + 48 * u) % 48 * 0x10 + (k + 48 * u) / 48 * 0x400) := (rfl)
  have lo : R.TLY_CNT_LO.key (k + 48 * u) = 0x8100004 + ((k + 48 * u) % 48 * 0x10 + (k + 48 * u) / 48 * 0x400) := (rfl)
  have hi : R.TLY_CNT_HI.key (k + 48 * u) = 0x8100008 + ((k + 48 * u) % 48 * 0x10 + (k + 48 * u) / 48 * 0x400) := (rfl)
  exact ⟨decide_eq_true (by omega), decide_eq_true (by omega), decide_eq_true (by omega)⟩

theorem Counted.addCnt (s : State) (u k n : Nat) (hu : u < 448) (hk : k < 48) : Counted s (s.addCnt u k n) := by
  obtain ⟨hsel, hlo, hhi⟩ := statKey_cnt u k hu hk
  unfold State.addCnt State.wr64
  dsimp only
  refine Counted.trans ?_ ((Counted.wr _ _ _ _ hlo).trans (Counted.wr _ _ _ _ hhi))
  split
  · exact Counted.wr _ _ _ _ hsel
  · exact Counted.refl s

theorem Counted.unitEvent (s : State) (u code n : Nat) : Counted s (s.unitEvent u code n) := by
  unfold State.unitEvent
  split
  · exact Counted.refl s
  · refine Counted.each _ _ s fun k hk s => ?_
    obtain ⟨hu, hk⟩ := tlyUnitCounters_bound u k (List.mem_range.1 hk)
    dsimp only
    split
    · exact Counted.addCnt s u k _ hu hk
    · exact Counted.refl s

theorem Counted.clsStat (s : State) (d k n : Nat) (hd : d < 2) (hk : k < 16) : Counted s (s.clsStat d k n) := by
  have lo : R.CLS_STAT_LO.key (k + 16 * d) = 0x20030000 + ((k + 16 * d) % 16 * 8 + (k + 16 * d) / 16 * 0x100) := (rfl)
  have hi : R.CLS_STAT_HI.key (k + 16 * d) = 0x20030004 + ((k + 16 * d) % 16 * 8 + (k + 16 * d) / 16 * 0x100) := (rfl)
  exact (Counted.wr _ _ _ _ (decide_eq_true (by omega))).trans (Counted.wr _ _ _ _ (decide_eq_true (by omega)))

theorem Counted.samplePort (s : State) (p : Nat) : Counted s (s.samplePort p).1 := by
  unfold State.samplePort
  dsimp only
  (repeat' split)
  · exact Counted.refl s
  · exact Counted.sampled s _
  · exact Counted.sampled s _

theorem Counted.ruleStats (s : State) (d L : Nat) (order : List Match) : Counted s (s.ruleStats d L order) :=
  Counted.each _ _ s fun _ _ s => (Counted.tally s _ _).trans (Counted.tally _ _ _)

/-! ### What counts leave as it is -/

section
variable {s t : State} (h : Counted s t)
include h

theorem Counted.fld (f : Fld) (j : Nat) (hk : statKey (f.reg.key j) = false) : t.fld f j = s.fld f j := by
  unfold State.fld
  rw [h.regs _ _ hk]

theorem Counted.flag (f : Fld) (j : Nat) (hk : statKey (f.reg.key j) = false) : t.flag f j = s.flag f j := by
  unfold State.flag
  rw [h.fld _ _ hk]

theorem Counted.arrays : t.arrays = s.arrays := by rw [h.rest]

theorem Counted.mode : t.mode = s.mode := h.fld F.GLB_MODE_MODE 0 (by decide)

end

/-- A register past the classifier's counters does not count. -/
theorem statKey_above {q : Reg} (hq : 0x20030200 ≤ q.base) (j : Nat) : statKey (q.key j) = false := by
  have key : q.key j = q.base + dimsAddr q.dims j := (rfl)
  exact decide_eq_false (by omega)

/-- A register set of the classifier that begins before its counters, all its instances too. -/
theorem statKey_below {q : Reg} {j : Nat} (h : 0x20000000 ≤ q.key j ∧ q.key j < 0x20030000) : statKey (q.key j) = false :=
  decide_eq_false (by omega)

theorem statKey_table {q : Reg} {n : Nat} (hq : q.dims = [(n, 0x100)]) (hb : 0x20010000 ≤ q.base ∧ q.base < 0x20010100) {t : Nat} (ht : t < 65) :
    statKey (q.key t) = false := by
  have key := tableReg_key hq t
  exact statKey_below (by omega)

theorem statKey_tableMask {t w : Nat} (ht : t < 65) (hw : w < 20) : statKey (R.CLS_TABLE_MASK.key (w + 20 * t)) = false := by
  have key := tableMask_key t w hw
  exact statKey_below (by omega)

theorem statKey_ternSelect {w : Nat} (hw : w < 10) : statKey (R.CLS_TERN_SELECT.key w) = false := by
  have key := ternSelect_key w
  exact statKey_below (by omega)

theorem statKey_portCfg {p : Nat} (hp : p < 1024) : statKey (R.CLS_PORT_CFG.key p) = false := by
  have key : R.CLS_PORT_CFG.key p = 0x20020000 + p * 4 := (rfl)
  exact statKey_below (by omega)

theorem statKey_drain {d p : Nat} (hd : d < 2) (hp : p < 256) : statKey (R.CLS_DRAIN.key (256 * d + p)) = false := by
  have key : R.CLS_DRAIN.key (256 * d + p) = 0x20001000 + (256 * d + p) * 4 := (rfl)
  exact statKey_below (by omega)

section
variable {s t : State} (h : Counted s t)
include h

theorem Counted.rule (d n : Nat) : t.rule d n = s.rule d n := by
  unfold State.rule State.arrNat State.arr
  rw [h.arrays]

theorem Counted.ruleSlots (d : Nat) : t.ruleSlots d = s.ruleSlots d := by
  unfold State.ruleSlots State.usedSlots
  simp only [h.arrays, h.rule]

theorem Counted.pos (x : Nat) : t.pos x = s.pos x := by
  unfold State.pos State.oldest
  rw [h.fld F.CLS_POSTING_OLDEST 0 (by decide)]

theorem Counted.validIn (v p : Nat) : t.validIn v p = s.validIn v p := by
  unfold State.validIn
  simp only [h.pos]

theorem Counted.dieCurrent (d : Nat) : t.dieCurrent d = s.dieCurrent d := by
  have hpost : t.cls.post = s.cls.post := by rw [h.rest]
  unfold State.dieCurrent State.current
  rw [hpost, h.fld F.CLS_POSTING_CURRENT 0 (by decide)]

theorem Counted.firstClass {f : Frame} (hp : f.port < 1024) : t.firstClass f = s.firstClass f := by
  unfold State.firstClass
  simp only [h.flag F.CLS_PORT_CFG_STITCH_CLASS _ (statKey_portCfg hp), h.fld F.CLS_PORT_CFG_DEFAULT_CLASS _ (statKey_portCfg hp)]

theorem Counted.counting (f : Frame) (rcd : List Byte) : t.counting f rcd = s.counting f rcd := by
  unfold State.counting
  simp only [h.mode, h.fld F.CTH_CFG_IP_SLOT 0 (by decide), h.fld F.CTH_CFG_UDP_SLOT 0 (by decide), h.fld F.CTH_CFG_UDP_PORT 0 (by decide),
    h.regs R.CTH_ADDR4 0 (by decide), h.regs R.CTH_ADDR6 _ (statKey_above (by decide) _)]

/-! ### What they leave of a table -/

theorem Counted.tableOn {k : Nat} (hk : k < 65) : t.tableOn k = s.tableOn k :=
  h.flag F.CLS_TABLE_CFG_ENABLE k (statKey_table (q := R.CLS_TABLE_CFG) (by rfl) (by decide) hk)

theorem Counted.tableWide {k : Nat} (hk : k < 65) : t.tableWide k = s.tableWide k :=
  h.flag F.CLS_TABLE_CFG_WIDTH k (statKey_table (q := R.CLS_TABLE_CFG) (by rfl) (by decide) hk)

theorem Counted.tableMask {k : Nat} (hk : k < 65) : t.tableMask k = s.tableMask k := by
  unfold State.tableMask
  refine List.foldl_ext _ _ _ fun a w hw => ?_
  rw [h.regs _ _ (statKey_tableMask hk (List.mem_range.1 hw))]

theorem Counted.bucketOf {k : Nat} (hk : k < 65) (v : Nat) : t.bucketOf k v = s.bucketOf k v := by
  have hcfg : statKey (R.CLS_TABLE_CFG.key k) = false := statKey_table (by rfl) (by decide) hk
  have hregion : statKey (R.CLS_TABLE_REGION.key k) = false := statKey_table (by rfl) (by decide) hk
  unfold State.bucketOf State.tableBase State.tableLog2
  rw [h.tableWide hk, h.fld F.CLS_TABLE_CFG_BUCKETS_LOG2 k hcfg, h.fld F.CLS_TABLE_REGION_BASE k hregion,
    h.regs R.CLS_TABLE_SEED k (statKey_table (by rfl) (by decide) hk)]

theorem Counted.hashMatch {k : Nat} (hk : k < 65) (d p key : Nat) (bad : List Nat) : t.hashMatch d k p key bad = s.hashMatch d k p key bad := by
  unfold State.hashMatch State.places State.ruleIs
  simp only [h.tableMask hk, h.bucketOf hk, h.tableWide hk, h.rule, h.validIn]

theorem Counted.ternKey (key : List Byte) : t.ternKey key = s.ternKey key := by
  unfold State.ternKey
  refine congrArg leNat (List.map_congr_left fun j hj => ?_)
  rw [h.regs _ _ (statKey_ternSelect (by have := List.mem_range.1 hj; omega))]

theorem Counted.ternMatch (d p : Nat) (key : List Byte) (bad : List Nat) : t.ternMatch d p key bad = s.ternMatch d p key bad := by
  unfold State.ternMatch State.ternMask State.ternValue State.arrNat State.arr
  simp only [h.ternKey, h.ruleSlots, h.arrays, h.rule, h.validIn]

theorem Counted.matches (d p : Nat) (rcd : List Byte) (bad : List Nat) : t.matches d p rcd bad = s.matches d p rcd bad := by
  unfold State.matches
  refine List.filterMap_congr fun k hk => ?_
  have hk := List.mem_range.1 hk
  have hcfg : statKey (R.CLS_TABLE_CFG.key k) = false := statKey_table (by rfl) (by decide) hk
  rw [h.tableOn hk, h.fld F.CLS_TABLE_CFG_KEY_SOURCE k hcfg, h.fld F.CLS_TABLE_CFG_PRIORITY k hcfg, h.ternMatch, h.hashMatch hk]

/-! ### What they leave of a port's profile and its marginalia -/

theorem Counted.profileOf (p : Nat) (rcd : List Byte) : t.profileOf p rcd = s.profileOf p rcd := by
  unfold State.profileOf
  rw [h.fld F.LDG_PORT_CFG_FLAT_PROFILE p (statKey_above (by decide) p), h.fld F.LDG_PORT_CFG_PROFILE p (statKey_above (by decide) p)]

theorem Counted.ruleSelects (d : Nat) (order : List Match) : t.ruleSelects d order = s.ruleSelects d order := by
  unfold State.ruleSelects
  simp only [h.regs R.MRG_RULE_SEL _ (statKey_above (by decide) _)]

end

/-! ### A frame in step 5 -/

/-- Frame `x` goes to the Counting House from pipeline `i`, in flight in posting `p` (R432). -/
def State.toCounting (s : State) (i p : Nat) (x : Parsed) : State :=
  { s.enterFlight (i / 16) p with cls := { s.cls with toCth := Tab.set [] s.cls.toCth i (Tab.get [] s.cls.toCth i ++ [(x, p)]) } }

/-- A forwarded frame goes on from pipeline `i` to enqueue, in flight in its posting. -/
def State.toEnqueue (s : State) (i : Nat) (r : Routed) : State :=
  { s.enterFlight (i / 16) r.posting with cls := { s.cls with toEnq := Tab.set [] s.cls.toEnq i (Tab.get [] s.cls.toEnq i ++ [r]) } }

theorem State.toCounting_regs (s : State) (i p : Nat) (x : Parsed) : (s.toCounting i p x).regs = (s.enterFlight (i / 16) p).regs := by
  unfold State.toCounting
  with_reducible rfl

theorem State.toCounting_prs (s : State) (i p : Nat) (x : Parsed) : (s.toCounting i p x).prs = s.prs := by
  unfold State.toCounting State.enterFlight
  with_reducible exact State.inc_prs _ _ _

theorem State.toCounting_cls (s : State) (i p : Nat) (x : Parsed) :
    (s.toCounting i p x).cls = { s.cls with toCth := Tab.set [] s.cls.toCth i (Tab.get [] s.cls.toCth i ++ [(x, p)]) } := by
  unfold State.toCounting
  with_reducible rfl

theorem State.toEnqueue_regs (s : State) (i : Nat) (r : Routed) : (s.toEnqueue i r).regs = (s.enterFlight (i / 16) r.posting).regs := by
  unfold State.toEnqueue
  with_reducible rfl

theorem State.toEnqueue_prs (s : State) (i : Nat) (r : Routed) : (s.toEnqueue i r).prs = s.prs := by
  unfold State.toEnqueue State.enterFlight
  with_reducible exact State.inc_prs _ _ _

theorem State.toEnqueue_cls (s : State) (i : Nat) (r : Routed) :
    (s.toEnqueue i r).cls = { s.cls with toEnq := Tab.set [] s.cls.toEnq i (Tab.get [] s.cls.toEnq i ++ [r]) } := by
  unfold State.toEnqueue
  with_reducible rfl

theorem State.toEnqueue_stores (s : State) (i : Nat) (r : Routed) :
    (s.toEnqueue i r).hostqs = s.hostqs ∧ (s.toEnqueue i r).vlt = s.vlt ∧ (s.toEnqueue i r).arrays = s.arrays := by
  unfold State.toEnqueue State.enterFlight
  with_reducible exact ⟨State.inc_hostqs _ _ _, State.inc_vlt _ _ _, State.inc_arrays _ _ _⟩

/-- The sampling of a port that has none picks no frame (R509). -/
theorem State.samplePort_off (s : State) (p : Nat) (h : s.fld F.MRG_PORT_CFG_SAMPLE_N p = 0) : s.samplePort p = (s, false) := if_pos h

theorem State.classify_counting (s : State) (i : Nat) (x : Parsed) (bad : List Nat) (e : Bool) (hi : i < 32)
    (h : s.counting x.frame x.record = true) : ∃ u, Counted s u ∧ s.classify i x bad e = u.toCounting i (s.dieCurrent (i / 16)) x := by
  have hu := (Counted.clsStat s (i / 16) 0 1 (by omega) (by decide)).trans (Counted.samplePort _ x.frame.port)
  refine ⟨_, hu, ?_⟩
  unfold State.classify
  dsimp only
  rw [hu.counting, if_pos h]
  rfl

/-- A frame for no-one in the Counting House goes through its rules. -/
theorem State.classify_rules (s : State) (i : Nat) (x : Parsed) (e : Bool) (hi : i < 32) (hp : x.frame.port < 1024)
    (hc : s.counting x.frame x.record = false) (hm : combiningOrder (s.matches (i / 16) (s.dieCurrent (i / 16)) x.record []) ≠ []) :
    ∃ u sel, Counted s u ∧ (s.fld F.MRG_PORT_CFG_SAMPLE_N x.frame.port = 0 → sel = false)
      ∧ s.classify i x [] e = u.classifyMatched i (s.dieCurrent (i / 16)) x
        (combiningOrder (s.matches (i / 16) (s.dieCurrent (i / 16)) x.record [])) (s.firstClass x.frame) sel e := by
  have hs := Counted.clsStat s (i / 16) 0 1 (by omega) (by decide)
  have hu := hs.trans (Counted.samplePort _ x.frame.port)
  refine ⟨_, ((s.clsStat (i / 16) 0 1).samplePort x.frame.port).2, hu, fun hn => ?_, ?_⟩
  · rw [State.samplePort_off _ _ ((hs.fld _ _ (statKey_above (by decide) _)).trans hn)]
  · unfold State.classify State.badRules
    dsimp only
    rw [hu.counting, if_neg (by rw [hc]; decide), State.each_nil, hu.matches, hu.firstClass hp, if_neg (by rwa [List.isEmpty_iff])]

/-- Where no rule of the order names a meter, its disposition follows on counts alone. -/
theorem State.classifyMatched_unmetered (s : State) (i p : Nat) (x : Parsed) (order : List Match) (cls0 : Nat) (sel e : Bool)
    (h : ∀ y ∈ order, ruleW y.rule 4 22 1 ≠ 1) :
    ∃ u, Counted s u ∧ s.classifyMatched i p x order cls0 sel e = u.dispose i p x order ((combined order 0 1 4).getD cls0)
      ((combined order 8 9 4).getD ((combined order 0 1 4).getD cls0)) sel ((combined order 5 6 2).getD 0, false) := by
  have hmeter : order.find? (fun m => ruleW m.rule 4 22 1 == 1) = none := List.find?_eq_none.2 fun y hy => by simpa using h y hy
  refine ⟨_, (Counted.ruleStats s (i / 16) x.frame.bytes.length order).trans (Counted.unitEvent _ (224 + i) 18 order.length), ?_⟩
  unfold State.classifyMatched
  rw [hmeter]
  rfl

/-- A rule that drops ends the frame's way with one count (R272). -/
theorem State.dispose_drop (s : State) (i p : Nat) (x : Parsed) (order : List Match) (cls queue colour : Nat) (sel : Bool) (y : Match)
    (hy : dispositionRule order = some y) (hd : ruleDisposition y.rule = 2) :
    s.dispose i p x order cls queue sel (colour, false) = s.clsStat (i / 16) 2 1 := by
  unfold State.dispose
  simp only [hy, if_pos hd, Bool.false_eq_true, if_false]

/-- Rules that forward, or of which none sets a disposition, send the frame to its lookups (R272). -/
theorem State.dispose_forward (s : State) (i p : Nat) (x : Parsed) (order : List Match) (cls queue colour : Nat) (sel : Bool)
    (h : ∀ y, dispositionRule order = some y → ruleDisposition y.rule = 1) :
    s.dispose i p x order cls queue sel (colour, false) = s.lookupFrame i p x.frame x.record cls colour queue
      (s.flag F.MRG_PORT_CFG_SEL_IN x.frame.port || sel || s.ruleSelects (i / 16) order) := by
  unfold State.dispose
  cases hr : dispositionRule order with
  | none => rfl
  | some y => simp [h y hr]

/-- A profile of which no lookup is on finds nothing (R301). -/
theorem State.runLookups_off (s : State) (p : Nat) (f : Frame) (pipe : Nat) (rcd : List Byte) (cls : Nat)
    (h : ∀ k, k < 4 → s.flag F.LDG_LOOKUP_CFG_ENABLE (k + 4 * p) = false) : s.runLookups p f pipe rcd cls = (s, {}) := by
  have hoff (k : Nat) (hk : k < 4) (a : Looked) : s.runLookup p k f pipe rcd cls a = (s, a) := if_pos (by rw [h k hk]; rfl)
  show [0, 1, 2, 3].foldl _ _ = _
  simp only [List.foldl_cons, List.foldl_nil, hoff 0 (by decide), hoff 1 (by decide), hoff 2 (by decide), hoff 3 (by decide)]

/-- A miss that names a port (R302). -/
theorem State.destination_missPort (s : State) (pipe p : Nat) (rcd : List Byte) (ha : s.fld F.LDG_PROFILE_CFG_MISS_ACTION p = 2)
    (hk : bits (s.rd R.LDG_PROFILE_MISS p) 30 2 = 0) : s.destination pipe p {} rcd
      = (s, .copies [(s.rd R.LDG_PROFILE_MISS p % 1024, bits (s.rd R.LDG_PROFILE_MISS p) 14 16)]) := by
  unfold State.destination State.resolveDest
  simp [ha, hk]

/-- What goes to enqueue of a frame whose profile has no lookup and whose miss names a port. -/
def missRouted (x : Parsed) (p miss cls colour queue : Nat) (marked : Bool) : Routed :=
  { frame := x.frame, record := x.record, cls := cls, colour := colour, queue := queue, posting := p
    egress := [(miss % 1024, bits miss 14 16)], annotate0 := 0, annotate1 := 0, marked := marked }

theorem State.lookupFrame_missPort (s : State) (i p : Nat) (x : Parsed) (cls colour queue : Nat) (marked : Bool) (prof : Nat)
    (hp : s.profileOf x.frame.port x.record = prof) (hoff : ∀ k, k < 4 → s.flag F.LDG_LOOKUP_CFG_ENABLE (k + 4 * prof) = false)
    (ha : s.fld F.LDG_PROFILE_CFG_MISS_ACTION prof = 2) (hk : bits (s.rd R.LDG_PROFILE_MISS prof) 30 2 = 0) :
    s.lookupFrame i p x.frame x.record cls colour queue marked
      = s.toEnqueue i (missRouted x p (s.rd R.LDG_PROFILE_MISS prof) cls colour queue marked) := by
  unfold State.lookupFrame
  dsimp only
  rw [hp, s.runLookups_off _ _ _ _ _ hoff]
  dsimp only
  rw [List.append_nil, State.destination_missPort _ _ _ _ ha hk]
  rfl

/-! ### CLASSIFY_FRAME -/

/-- The part once a record has left pipeline `i`'s way into step 5. -/
def State.toClassify (s : State) (i : Nat) (tail : List Parsed) : State := { s with prs := { s.prs with toCls := Tab.set [] s.prs.toCls i tail } }

/-- CLASSIFY_FRAME takes the oldest record of its pipeline, and classifies it in Service and Holdover alone (R270, R45). -/
theorem execClassifyFrame_takes (s : State) (i : Nat) (bad : List Nat) (e : Bool) (x : Parsed) (tail : List Parsed)
    (h : Tab.get [] s.prs.toCls i = x :: tail) : execClassifyFrame i bad e s
      = .next (if bit 0x30 s.mode then ((s.toClassify i tail).unitEvent (224 + i) 16 1).classify i x bad e else s.toClassify i tail) := by
  unfold execClassifyFrame
  rw [h]
  rfl

theorem execClassifyFrame_isolated (s : State) (i : Nat) (bad : List Nat) (e : Bool) (x : Parsed) (tail : List Parsed)
    (h : Tab.get [] s.prs.toCls i = x :: tail) (hm : bit 0x30 s.mode = false) : execClassifyFrame i bad e s
      = .next { s with prs := { s.prs with toCls := Tab.set [] s.prs.toCls i tail } } := by
  rw [execClassifyFrame_takes s i bad e x tail h, if_neg (by rw [hm]; decide)]
  rfl

/-- A frame's posting counts one more in flight on its die. -/
theorem State.enterFlight_fld (s : State) (d p : Nat) : (s.enterFlight d p).fld F.CLS_DRAIN_IN_FLIGHT (256 * d + p)
    = satBits F.CLS_DRAIN_IN_FLIGHT.wd (s.fld F.CLS_DRAIN_IN_FLIGHT (256 * d + p) + 1) := by
  unfold State.enterFlight State.inc State.addSat
  rw [State.fld_setF_same _ _ _ _ (by decide)]
  exact Nat.mod_eq_of_lt (by unfold satBits; have := Nat.two_pow_pos F.CLS_DRAIN_IN_FLIGHT.wd; omega)

section
variable {s : State} {i : Nat} {x : Parsed} {tail : List Parsed} (hi : i < 32) (hport : x.frame.port < 1024)
  (hx : Tab.get [] s.prs.toCls i = x :: tail) (hp : s.dieCurrent (i / 16) < 256) (hm : bit 0x30 s.mode = true)

/-- A part that differs by counts from the one a record has left stands there in its stores too. -/
theorem Counted.stores {u : State} (h : Counted (s.toClassify i tail) u) : Tab.get [] u.prs.toCls i = tail ∧ u.cls.toCth = s.cls.toCth
    ∧ u.cls.toEnq = s.cls.toEnq ∧ u.hostqs = s.hostqs ∧ u.vlt = s.vlt ∧ u.arrays = s.arrays := by
  rw [h.rest]
  exact ⟨Tab.get_set_same _ _ _ _, rfl, rfl, rfl, rfl, rfl⟩

/-- A part that then takes the frame into flight counts it once more than the first. -/
theorem Counted.enterFlight {u t : State} (h : Counted (s.toClassify i tail) u) {d p : Nat} (hd : d < 2) (hp : p < 256)
    (ht : t.regs = (u.enterFlight d p).regs) : t.fld F.CLS_DRAIN_IN_FLIGHT (256 * d + p)
      = satBits F.CLS_DRAIN_IN_FLIGHT.wd (s.fld F.CLS_DRAIN_IN_FLIGHT (256 * d + p) + 1) := by
  have hsame : u.fld F.CLS_DRAIN_IN_FLIGHT (256 * d + p) = s.fld F.CLS_DRAIN_IN_FLIGHT (256 * d + p) :=
    (h.fld _ _ (statKey_drain hd hp)).trans (State.fld_congr (rfl) _ _)
  rw [State.fld_congr ht, State.enterFlight_fld, hsame]

include hi hx hp hm in
theorem execClassifyFrame_counting (hc : s.counting x.frame x.record = true) : ∃ t, execClassifyFrame i [] false s = .next t
    ∧ Tab.get [] t.prs.toCls i = tail ∧ Tab.get [] t.cls.toCth i = Tab.get [] s.cls.toCth i ++ [(x, s.dieCurrent (i / 16))]
    ∧ t.cls.toEnq = s.cls.toEnq ∧ t.fld F.CLS_DRAIN_IN_FLIGHT (256 * (i / 16) + s.dieCurrent (i / 16))
      = satBits F.CLS_DRAIN_IN_FLIGHT.wd (s.fld F.CLS_DRAIN_IN_FLIGHT (256 * (i / 16) + s.dieCurrent (i / 16)) + 1) := by
  have hev := Counted.unitEvent (s.toClassify i tail) (224 + i) 16 1
  obtain ⟨u, hu, hcls⟩ := State.classify_counting _ i x [] false hi ((hev.counting x.frame x.record).trans hc)
  have hsu := hev.trans hu
  obtain ⟨htail, hcth, henq, -⟩ := hsu.stores
  refine ⟨u.toCounting i (s.dieCurrent (i / 16)) x, ?_, by rwa [State.toCounting_prs], ?_, by rwa [State.toCounting_cls],
    hsu.enterFlight (by omega) hp (State.toCounting_regs _ _ _ _)⟩
  · rw [execClassifyFrame_takes s i [] false x tail hx, if_pos hm, hcls, hev.dieCurrent]
    rfl
  · rw [State.toCounting_cls, ← hcth, Tab.get_set_same]

include hi hport hx hm in
/-- A frame that matches rules, none of which names a meter, goes where its disposition says on counts alone. -/
theorem execClassifyFrame_unmetered (hc : s.counting x.frame x.record = false) {order : List Match}
    (ho : combiningOrder (s.matches (i / 16) (s.dieCurrent (i / 16)) x.record []) = order) (hne : order ≠ [])
    (hr : ∀ y ∈ order, ruleW y.rule 4 22 1 ≠ 1) : ∃ u sel, Counted (s.toClassify i tail) u
      ∧ (s.fld F.MRG_PORT_CFG_SAMPLE_N x.frame.port = 0 → sel = false)
      ∧ execClassifyFrame i [] false s = .next (u.dispose i (s.dieCurrent (i / 16)) x order ((combined order 0 1 4).getD (s.firstClass x.frame))
        ((combined order 8 9 4).getD ((combined order 0 1 4).getD (s.firstClass x.frame))) sel ((combined order 5 6 2).getD 0, false)) := by
  have hev := Counted.unitEvent (s.toClassify i tail) (224 + i) 16 1
  have hdie : ((s.toClassify i tail).unitEvent (224 + i) 16 1).dieCurrent (i / 16) = s.dieCurrent (i / 16) := hev.dieCurrent _
  have hmatches := (hev.matches (i / 16) (s.dieCurrent (i / 16)) x.record []).trans (rfl : _ = s.matches _ _ _ _)
  obtain ⟨u, sel, hu, hsel, hcls⟩ := State.classify_rules _ i x false hi hport ((hev.counting x.frame x.record).trans hc)
    (by rwa [hdie, hmatches, ho])
  obtain ⟨v, hv, hdisp⟩ := u.classifyMatched_unmetered i (s.dieCurrent (i / 16)) x order (s.firstClass x.frame) sel false hr
  refine ⟨v, sel, hev.trans (hu.trans hv), fun hn => hsel ((hev.fld _ _ (statKey_above (by decide) _)).trans hn), ?_⟩
  rw [execClassifyFrame_takes s i [] false x tail hx, if_pos hm, hcls, hdie, hmatches, ho, hev.firstClass hport, ← hdisp]
  rfl

include hi hport hx hm in
theorem execClassifyFrame_drop (hc : s.counting x.frame x.record = false) {order : List Match}
    (ho : combiningOrder (s.matches (i / 16) (s.dieCurrent (i / 16)) x.record []) = order) (hne : order ≠ [])
    (hr : ∀ y ∈ order, ruleW y.rule 4 22 1 ≠ 1) {y : Match} (hy : dispositionRule order = some y) (hd : ruleDisposition y.rule = 2) :
    ∃ t, execClassifyFrame i [] false s = .next t ∧ Tab.get [] t.prs.toCls i = tail ∧ t.cls.toEnq = s.cls.toEnq ∧ t.hostqs = s.hostqs
      ∧ t.vlt = s.vlt ∧ t.arrays = s.arrays := by
  obtain ⟨u, sel, hu, -, hexec⟩ := execClassifyFrame_unmetered hi hport hx hm hc ho hne hr
  rw [State.dispose_drop _ _ _ _ _ _ _ _ _ y hy hd] at hexec
  obtain ⟨htail, -, hstores⟩ := (hu.trans (Counted.clsStat u (i / 16) 2 1 (by omega) (by decide))).stores
  exact ⟨_, hexec, htail, hstores⟩

include hi hport hx hp hm in
theorem execClassifyFrame_forward (hc : s.counting x.frame x.record = false) {order : List Match}
    (ho : combiningOrder (s.matches (i / 16) (s.dieCurrent (i / 16)) x.record []) = order) (hne : order ≠ [])
    (hr : ∀ y ∈ order, ruleW y.rule 4 22 1 ≠ 1) {prof miss : Nat} (hy : ∀ y, dispositionRule order = some y → ruleDisposition y.rule = 1)
    (hn : s.fld F.MRG_PORT_CFG_SAMPLE_N x.frame.port = 0) (hprof : s.profileOf x.frame.port x.record = prof)
    (hoff : ∀ k, k < 4 → s.flag F.LDG_LOOKUP_CFG_ENABLE (k + 4 * prof) = false) (ha : s.fld F.LDG_PROFILE_CFG_MISS_ACTION prof = 2)
    (hmiss : s.rd R.LDG_PROFILE_MISS prof = miss) (hk : bits miss 30 2 = 0) :
    ∃ t, execClassifyFrame i [] false s = .next t ∧ Tab.get [] t.prs.toCls i = tail
      ∧ (∃ r : Routed, Tab.get [] t.cls.toEnq i = Tab.get [] s.cls.toEnq i ++ [r] ∧ r.frame = x.frame ∧ r.record = x.record
        ∧ r.cls = (combined order 0 1 4).getD (s.firstClass x.frame) ∧ r.colour = (combined order 5 6 2).getD 0
        ∧ r.queue = (combined order 8 9 4).getD r.cls ∧ r.posting = s.dieCurrent (i / 16) ∧ r.egress = [(miss % 1024, bits miss 14 16)]
        ∧ r.marked = (s.flag F.MRG_PORT_CFG_SEL_IN x.frame.port || s.ruleSelects (i / 16) order))
      ∧ t.fld F.CLS_DRAIN_IN_FLIGHT (256 * (i / 16) + s.dieCurrent (i / 16))
        = satBits F.CLS_DRAIN_IN_FLIGHT.wd (s.fld F.CLS_DRAIN_IN_FLIGHT (256 * (i / 16) + s.dieCurrent (i / 16)) + 1)
      ∧ t.hostqs = s.hostqs ∧ t.vlt = s.vlt ∧ t.arrays = s.arrays := by
  obtain ⟨u, sel, hu, hsel, hexec⟩ := execClassifyFrame_unmetered hi hport hx hm hc ho hne hr
  have hmark : (u.flag F.MRG_PORT_CFG_SEL_IN x.frame.port || sel || u.ruleSelects (i / 16) order)
      = (s.flag F.MRG_PORT_CFG_SEL_IN x.frame.port || s.ruleSelects (i / 16) order) := by
    rw [hsel hn, Bool.or_false, hu.ruleSelects, hu.flag _ _ (statKey_above (by decide) _)]
    rfl
  have hword : u.rd R.LDG_PROFILE_MISS prof = miss := (hu.regs _ _ (statKey_above (by decide) _)).trans hmiss
  rw [State.dispose_forward _ _ _ _ _ _ _ _ _ hy, hmark, u.lookupFrame_missPort i _ x _ _ _ _ prof ((hu.profileOf _ _).trans hprof)
    (fun k h4 => (hu.flag _ _ (statKey_above (by decide) _)).trans (hoff k h4)) ((hu.fld _ _ (statKey_above (by decide) _)).trans ha)
    (by rw [hword, hk]), hword] at hexec
  obtain ⟨htail, -, henq, hrest⟩ := hu.stores
  have hput (r : Routed) : Tab.get [] (u.toEnqueue i r).cls.toEnq i = Tab.get [] s.cls.toEnq i ++ [r] := by
    rw [State.toEnqueue_cls, ← henq, Tab.get_set_same]
  have hkept (r : Routed) : (u.toEnqueue i r).hostqs = s.hostqs ∧ (u.toEnqueue i r).vlt = s.vlt ∧ (u.toEnqueue i r).arrays = s.arrays := by
    obtain ⟨hhostqs, hvlt, harrays⟩ := u.toEnqueue_stores i r
    rwa [hhostqs, hvlt, harrays]
  exact ⟨_, hexec, by rwa [State.toEnqueue_prs], ⟨_, hput _, rfl, rfl, rfl, rfl, rfl, rfl, rfl, rfl⟩,
    hu.enterFlight (by omega) hp (u.toEnqueue_regs _ _), hkept _⟩

end

/-! ### The classifier's configuration commands -/

/-- The fields of CLS_TABLE_CFG that a hash table and the ternary array both have (R288). -/
def tableCfgWrites (r : Req) : List (Fld × Nat × Nat) :=
  [(F.CLS_TABLE_CFG_ENABLE, r.index, r.arg A.CLS_TABLE_CONFIG_ENABLE), (F.CLS_TABLE_CFG_KEY_SOURCE, r.index,
    r.arg A.CLS_TABLE_CONFIG_KEY_SOURCE), (F.CLS_TABLE_CFG_PRIORITY, r.index, r.arg A.CLS_TABLE_CONFIG_PRIORITY)]

/-- The words that select the bytes of the ternary key (R267). -/
def ternSelectWrites (r : Req) : List (Fld × Nat × Nat) :=
  (List.range 10).map fun w => (⟨R.CLS_TERN_SELECT, 0, 32⟩, w, leAt r.params (12 + 4 * w) 4)

/-- What only a hash table has: its width, its buckets, its region and the seed of its hash (R264, R265). -/
def hashTableWrites (r : Req) : List (Fld × Nat × Nat) :=
  [(F.CLS_TABLE_CFG_WIDTH, r.index, r.arg A.CLS_TABLE_CONFIG_WIDTH), (F.CLS_TABLE_CFG_BUCKETS_LOG2, r.index,
      r.arg A.CLS_TABLE_CONFIG_BUCKETS_LOG2), (F.CLS_TABLE_REGION_BASE, r.index, r.arg A.CLS_TABLE_CONFIG_BASE),
      (⟨R.CLS_TABLE_SEED, 0, 32⟩, r.index, r.arg A.CLS_TABLE_CONFIG_SEED)]

/-- The words of the mask of a hash table (R265). -/
def tableMaskWrites (r : Req) : List (Fld × Nat × Nat) :=
  (List.range 20).map fun w => (⟨R.CLS_TABLE_MASK, 0, 32⟩, w + 20 * r.index, leAt r.params (12 + 4 * w) 4)

/-- The fields that CLS_TABLE_CONFIG writes (R288). -/
def clsTableWrites (r : Req) : List (Fld × Nat × Nat) :=
  tableCfgWrites r ++ if r.index = 64 then ternSelectWrites r else hashTableWrites r ++ tableMaskWrites r

/-- Words of one register set at instances that differ share no bit. -/
theorem wordWrites_separate (q : Reg) (n : Nat) (f v : Nat → Nat) (h : ∀ i j, i < j → j < n → q.key (f i) ≠ q.key (f j)) :
    ((List.range n).map fun w => ((⟨q, 0, 32⟩ : Fld), f w, v w)).Pairwise Separate :=
  List.pairwise_map.2 ((List.pairwise_lt_range (n := n)).imp_of_mem fun {i j} _ hj hlt => .inl (h i j hlt (List.mem_range.1 hj)))

theorem ternTableWrites_separate (r : Req) (h : r.index = 64) : (tableCfgWrites r ++ ternSelectWrites r).Pairwise Separate := by
  refine List.pairwise_append.2 ⟨?_, wordWrites_separate _ _ id _ fun i j hij _ => ?_, ?_⟩
  · simp [tableCfgWrites, Separate, F.CLS_TABLE_CFG_ENABLE, F.CLS_TABLE_CFG_KEY_SOURCE, F.CLS_TABLE_CFG_PRIORITY]
  · rw [id, id, ternSelect_key, ternSelect_key]
    omega
  · intro e he d hd
    obtain ⟨w, -, rfl⟩ := List.mem_map.1 hd
    have hkey : R.CLS_TABLE_CFG.key r.index ≠ R.CLS_TERN_SELECT.key w := by
      rw [h, tableReg_key (n := 65) (by rfl), ternSelect_key]
      show 0x20010000 + 0x100 * 64 ≠ _
      omega
    simp only [tableCfgWrites, List.mem_cons, List.not_mem_nil, or_false] at he
    obtain rfl | rfl | rfl := he <;> exact .inl hkey

theorem hashTableWrites_separate (r : Req) : (tableCfgWrites r ++ (hashTableWrites r ++ tableMaskWrites r)).Pairwise Separate := by
  have hcfg : R.CLS_TABLE_CFG.key r.index = 0x20010000 + 0x100 * r.index := tableReg_key (by rfl) _
  have hreg : R.CLS_TABLE_REGION.key r.index = 0x20010004 + 0x100 * r.index := tableReg_key (by rfl) _
  have hseed : R.CLS_TABLE_SEED.key r.index = 0x20010008 + 0x100 * r.index := tableReg_key (by rfl) _
  rw [← List.append_assoc]
  refine List.pairwise_append.2 ⟨?_, wordWrites_separate _ _ (· + 20 * r.index) _ fun i j hij hj => ?_, ?_⟩
  · simp [tableCfgWrites, hashTableWrites, Separate, hcfg, hreg, hseed, F.CLS_TABLE_CFG_ENABLE, F.CLS_TABLE_CFG_KEY_SOURCE, F.CLS_TABLE_CFG_PRIORITY,
      F.CLS_TABLE_CFG_WIDTH, F.CLS_TABLE_CFG_BUCKETS_LOG2, F.CLS_TABLE_REGION_BASE]
  · rw [tableMask_key _ _ (by omega), tableMask_key _ _ hj]
    omega
  · intro e he d hd
    obtain ⟨w, hw, rfl⟩ := List.mem_map.1 hd
    have hmask := tableMask_key r.index w (List.mem_range.1 hw)
    simp only [tableCfgWrites, hashTableWrites, List.mem_append, List.mem_cons, List.not_mem_nil, or_false] at he
    obtain (rfl | rfl | rfl) | rfl | rfl | rfl | rfl := he <;> refine .inl ?_ <;>
      simp only [hmask, hcfg, hreg, hseed, F.CLS_TABLE_CFG_ENABLE, F.CLS_TABLE_CFG_KEY_SOURCE, F.CLS_TABLE_CFG_PRIORITY,
        F.CLS_TABLE_CFG_WIDTH, F.CLS_TABLE_CFG_BUCKETS_LOG2, F.CLS_TABLE_REGION_BASE] <;> omega

theorem clsTableWrites_width (r : Req) : ∀ e ∈ clsTableWrites r, e.1.lo + e.1.wd ≤ 32 := by
  unfold clsTableWrites
  split <;> simp [tableCfgWrites, hashTableWrites, ternSelectWrites, tableMaskWrites, F.CLS_TABLE_CFG_ENABLE, F.CLS_TABLE_CFG_KEY_SOURCE,
    F.CLS_TABLE_CFG_PRIORITY, F.CLS_TABLE_CFG_WIDTH, F.CLS_TABLE_CFG_BUCKETS_LOG2, F.CLS_TABLE_REGION_BASE]

theorem State.clsTableWrites_wrote (s : State) (r : Req) : Wrote s (s.setAll (clsTableWrites r)) (clsTableWrites r) := by
  refine Wrote.setAll s _ (clsTableWrites_width r) ?_
  unfold clsTableWrites
  split
  · next h => exact ternTableWrites_separate r h
  · exact hashTableWrites_separate r

/-- Words of one register set written one after the other. -/
theorem State.each_wr (s : State) (q : Reg) (n : Nat) (f v : Nat → Nat) : (s.each (List.range n) fun w t => t.wr q (f w) (v w))
    = s.setAll ((List.range n).map fun w => (⟨q, 0, 32⟩, f w, v w)) := by
  simp only [State.wr_eq_setF]
  rw [List.map_eq_flatMap]
  exact s.each_setAll (List.range n) fun w => [(⟨q, 0, 32⟩, f w, v w)]

theorem State.clsTableConfigAct_eq (s : State) (r : Req) : s.clsTableConfigAct r = .ok (s.setAll (clsTableWrites r))
    (w32 ((s.setAll (clsTableWrites r)).rd R.CLS_TABLE_CFG r.index)
      ++ w32 (if r.index = 64 then 0 else (s.setAll (clsTableWrites r)).rd R.CLS_TABLE_REGION r.index)) := by
  unfold State.clsTableConfigAct clsTableWrites
  dsimp only
  split
  · next h =>
    rw [State.each_wr _ _ _ (fun w => w), State.setAll_append, h]
    simp only [tableCfgWrites, h]
    rfl
  · next h =>
    rw [State.each_wr _ _ _ (fun w => w + 20 * r.index), State.wr_eq_setF, State.setAll_append, State.setAll_append]
    rfl

theorem execClsTableConfig_ready (s : State) (m : Nat) (r : Req) (h : Ready s m C.CLS_TABLE_CONFIG s.clsTableConfigChecks r) :
    ∃ u t, execClsTableConfig m s = .next t ∧ Wrote s u (clsTableWrites r)
      ∧ Answered u t m r 0 0 (respParams C.CLS_TABLE_CONFIG r 0
        (w32 (u.rd R.CLS_TABLE_CFG r.index) ++ w32 (if r.index = 64 then 0 else u.rd R.CLS_TABLE_REGION r.index))) :=
  ⟨_, _, rfl, s.clsTableWrites_wrote r, h.answered_ok (h.mode_ne_zero (by rfl) (by decide)) (s.clsTableConfigAct_eq r)
    (s.clsTableConfigAct_fixed r)⟩

/-- The fields that CLS_PORT_CONFIG writes. -/
def clsPortWrites (r : Req) : List (Fld × Nat × Nat) :=
  [(F.CLS_PORT_CFG_DEFAULT_CLASS, r.index, r.arg A.CLS_PORT_CONFIG_DEFAULT_CLASS),
    (F.CLS_PORT_CFG_STITCH_CLASS, r.index, r.arg A.CLS_PORT_CONFIG_STITCH_CLASS)]

theorem execClsPortConfig_ready (s : State) (m : Nat) (r : Req) (h : Ready s m C.CLS_PORT_CONFIG s.clsPortConfigChecks r) :
    ∃ u t, execClsPortConfig m s = .next t ∧ Wrote s u (clsPortWrites r)
      ∧ Answered u t m r 0 0 (respParams C.CLS_PORT_CONFIG r 0 (w32 (u.rd R.CLS_PORT_CFG r.index))) := by
  refine ⟨s.setAll (clsPortWrites r), _, rfl, Wrote.setAll s _ ?_ ?_,
    h.answered_ok (h.mode_ne_zero (by rfl) (by decide)) (by rfl) (s.clsPortConfigAct_fixed r)⟩ <;>
    simp [clsPortWrites, Separate, F.CLS_PORT_CFG_DEFAULT_CLASS, F.CLS_PORT_CFG_STITCH_CLASS]

theorem execPostingConfig_ready (s : State) (m : Nat) (r : Req) (h : Ready s m C.POSTING_CONFIG s.postingConfigChecks r) :
    ∃ u t, execPostingConfig m s = .next t ∧ Wrote s u [(F.CLS_POST_CFG_DRAIN_WARN_US, 0, r.arg A.POSTING_CONFIG_DRAIN_WARN_US)]
      ∧ Answered u t m r 0 0 (respParams C.POSTING_CONFIG r 0 (w32 (u.rd R.CLS_POST_CFG 0))) :=
  ⟨_, _, rfl, Wrote.setF s _ _ _ (by decide), h.answered_ok (h.mode_ne_zero (by rfl) (by decide)) (by rfl) (s.postingConfigAct_fixed r)⟩

/-! ### METER_CONFIG -/

/-- A ready request has its parameters in full, the defaults in place (R106). -/
theorem Ready.params_length {s : State} {m : Nat} {c : Cmd} {checks : Req → Checks} {r : Req} (h : Ready s m c checks r) (hc : c.op ≠ 0x100) :
    r.params.length = c.full := by
  obtain ⟨_, r0, _, rfl, _⟩ := h
  unfold filled
  rw [if_neg hc]
  exact leBytes_length _ _

/-- METER_CONFIG has stored the meter's words, its tokens settled under the words before. -/
def State.meterStored (s : State) (r : Req) : State := (s.putMeter r.index (s.meterFill r.index)).putArr (meterAt r.index) (r.params.take 20)

theorem State.meterStored_flow (s : State) (r : Req) : (s.meterStored r).tim.flow = s.tim.flow := (rfl)

/-- The part once METER_CONFIG has written its meter. -/
def State.meterConfigured (s : State) (r : Req) : State :=
  (s.meterStored r).fillMeter r.index (r.arg A.METER_CONFIG_FILL)

theorem State.meterConfigAct_eq (s : State) (r : Req) : s.meterConfigAct r = .ok (s.meterConfigured r)
    (w32 (tokenWord ((s.meterConfigured r).meterFill r.index).c) ++ w32 (tokenWord ((s.meterConfigured r).meterFill r.index).e)) := (rfl)

theorem State.fillMeter_other (s : State) (m fill : Nat) {j : Nat} (h : j ≠ m) :
    Tab.get {} (s.fillMeter m fill).cls.meters j = Tab.get {} s.cls.meters j := Tab.get_set_ne _ _ _ h

theorem State.fillMeter_full (s : State) (m : Nat) : Tab.get {} (s.fillMeter m 1).cls.meters m
    = { c := ((s.meterCfg m).2.2.1 * meterUnit : Nat), e := ((s.meterCfg m).2.2.2.1 * meterUnit : Nat), flow := s.tim.flow } :=
  Tab.get_set_same _ _ _ _

theorem State.fillMeter_empty (s : State) (m : Nat) : Tab.get {} (s.fillMeter m 2).cls.meters m = { flow := s.tim.flow } :=
  Tab.get_set_same _ _ _ _

/-- The configuration of a meter is its words in the array, and its tokens leave them. -/
theorem State.fillMeter_meterCfg (s : State) (m fill j : Nat) : (s.fillMeter m fill).meterCfg j = s.meterCfg j := (rfl)

theorem State.meterConfigured_arrays (s : State) (r : Req) :
    (s.meterConfigured r).arrays = Tab.setList 0 s.arrays (meterAt r.index) (r.params.take 20) := (rfl)

theorem execMeterConfig_ready (s : State) (m : Nat) (r : Req) (h : Ready s m C.METER_CONFIG s.meterConfigChecks r) :
    ∃ u t, execMeterConfig m s = .next t ∧ u.regs = s.regs
      ∧ u.arr (meterAt r.index) 20 = r.params.take 20 ∧ (∀ j, j ≠ r.index → Tab.get {} u.cls.meters j = Tab.get {} s.cls.meters j)
      ∧ (∀ a, a < meterAt r.index ∨ meterAt r.index + 20 ≤ a → Tab.get 0 u.arrays a = Tab.get 0 s.arrays a)
      ∧ (r.arg A.METER_CONFIG_FILL = 1 → Tab.get {} u.cls.meters r.index
          = { c := ((u.meterCfg r.index).2.2.1 * meterUnit : Nat), e := ((u.meterCfg r.index).2.2.2.1 * meterUnit : Nat), flow := s.tim.flow })
      ∧ (r.arg A.METER_CONFIG_FILL = 2 → Tab.get {} u.cls.meters r.index = { flow := s.tim.flow })
      ∧ Answered u t m r 0 0 (respParams C.METER_CONFIG r 0 (w32 (tokenWord (u.meterFill r.index).c) ++ w32 (tokenWord (u.meterFill r.index).e))) := by
  have hlen : (r.params.take 20).length = 20 := by
    rw [List.length_take, h.params_length (by decide)]
    decide
  refine ⟨s.meterConfigured r, _, rfl, rfl, ?_, fun j hj => ?_, fun a ha => ?_, fun hf => ?_, fun hf => ?_,
    h.answered_ok (h.mode_ne_zero (by rfl) (by decide)) (s.meterConfigAct_eq r) (s.meterConfigAct_fixed r)⟩
  · have hsame := Tab.getList_setList_same 0 (r.params.take 20) s.arrays (meterAt r.index)
    rwa [hlen] at hsame
  · exact (State.fillMeter_other _ _ _ hj).trans (Tab.get_set_ne _ _ _ hj)
  · rw [s.meterConfigured_arrays, Tab.get_setList, hlen, if_neg (by omega)]
  · rw [State.meterConfigured, State.fillMeter_meterCfg, hf, State.fillMeter_full, s.meterStored_flow]
  · rw [State.meterConfigured, hf, State.fillMeter_empty, s.meterStored_flow]

/-- Settles O25: step 5 of a frame as the one disposition that follows on counts alone, the configuration commands by the fields they write. -/
theorem framesAreClassified : Obligations.FramesAreClassified := by
  unfold Obligations.FramesAreClassified
  refine ⟨fun s i x tail d p hi hport hx hd hp hlt => ?_, fun s m r => ⟨execClsTableConfig_ready s m r, execClsPortConfig_ready s m r,
    execPostingConfig_ready s m r, execMeterConfig_ready s m r⟩⟩
  subst hd hp
  refine ⟨fun hm bad e => execClassifyFrame_isolated s i bad e x tail hx hm, fun hm => ⟨execClassifyFrame_counting hi hx hlt hm,
    fun hc order ho hne hr => ⟨fun y hy hd => execClassifyFrame_drop hi hport hx hm hc ho hne hr hy hd, ?_⟩⟩⟩
  intro prof miss hy hn hprof hoff ha hmiss hk
  exact execClassifyFrame_forward hi hport hx hlt hm hc ho hne hr hy hn hprof hoff ha hmiss hk

end Sys2Proof.Machine

namespace Sys2Proof.Machine

/-! ### POST and the switch of the dies -/

theorem posting_time_key : R.CLS_POSTING.key 0 ≠ R.CLS_POST_TIME.key 0 := by decide

theorem execPost_waits (s : State) (m : Nat) (r0 r : Req) (ht : s.takes m C.POST = some r0) (hp : s.cls.post = none)
    (hc : s.firstCheck C.POST (s.postChecks r0) r0 false = none) (hr : r = filled C.POST [(A.POST_LEAD_NS, 1000)] r0) :
    ∃ u, Wrote s u [(F.CLS_POSTING_SWITCH_PENDING, 0, 1),
        (⟨R.CLS_POST_TIME, 0, 32⟩, 0, stampOf ((s.tim.net + 65536 * r.arg A.POST_LEAD_NS) % netModulus))]
      ∧ execPost m s = .next
        { u with cls := { s.cls with post := some { time := (s.tim.net + 65536 * r.arg A.POST_LEAD_NS) % netModulus, mbx := m } } } := by
  subst hr
  refine ⟨_, Wrote.setAll s _ ?_ ?_, ?_⟩
  · simp [F.CLS_POSTING_SWITCH_PENDING]
  · simp [Separate, F.CLS_POSTING_SWITCH_PENDING, posting_time_key]
  · unfold execPost
    rw [ht]
    simp only [hp, hc, State.wr_eq_setF, State.setAll_cons, State.setAll_nil, State.setF_cls, Option.isSome_none, Bool.false_eq_true, if_false]

/-- A field write leaves a field apart from it. -/
theorem State.fld_setF_apart (s : State) {g f : Fld} {i j : Nat} (v : Nat) (hf : f.lo + f.wd ≤ 32) (h : Apart (g, i, 0) f j) :
    (s.setF g i v).fld f j = s.fld f j := s.setF_keeps (g, i, v) f j hf h

/-- What the switch of a die does to CURRENT, which is West's, and to UNDRAINED (R278, R280). -/
def State.switchDie (s : State) (d : Nat) : State := if d = 0 then (s.setF F.CLS_POSTING_CURRENT 0 (s.current + 1)).settlePosting else s

/-- A switch leaves every field of CLS_POSTING but CURRENT and UNDRAINED. -/
theorem State.switchDie_fld (s : State) (d : Nat) {f : Fld} {j : Nat} (hf : f.lo + f.wd ≤ 32)
    (hc : Apart (F.CLS_POSTING_CURRENT, 0, 0) f j) (hu : Apart (F.CLS_POSTING_UNDRAINED, 0, 0) f j) : (s.switchDie d).fld f j = s.fld f j := by
  unfold State.switchDie State.settlePosting
  split
  · rw [State.fld_setF_apart _ _ hf hu, State.fld_setF_apart _ _ hf hc]
  · rfl

theorem State.switchDie_current (s : State) (d : Nat) : (s.switchDie d).current = if d = 0 then (s.current + 1) % 256 else s.current := by
  unfold State.switchDie State.settlePosting
  split
  · rw [State.current, State.fld_setF_other _ _ _ _ _ (by rfl) (by decide) (by decide), State.fld_setF_same _ _ _ _ (by decide)]
    rfl
  · rfl

theorem State.switchDie_oldest (s : State) (d : Nat) : (s.switchDie d).oldest = s.oldest :=
  s.switchDie_fld d (f := F.CLS_POSTING_OLDEST) (by decide) (.inr ⟨rfl, rfl, by decide⟩) (.inr ⟨rfl, rfl, by decide⟩)

theorem State.switchDie_tlr (s : State) (d : Nat) : (s.switchDie d).tlr = s.tlr := by
  unfold State.switchDie State.settlePosting
  split <;> simp only [State.setF_tlr]

theorem State.switchDie_cls (s : State) (d : Nat) : (s.switchDie d).cls = s.cls := by
  unfold State.switchDie State.settlePosting
  split <;> simp only [State.setF_cls]

theorem State.switchDie_arrays (s : State) (d : Nat) : (s.switchDie d).arrays = s.arrays := by
  unfold State.switchDie State.settlePosting
  split <;> simp only [State.setF_arrays]

/-- The part with a POST in progress. -/
def State.putPost (s : State) (p : Option Posting) : State := { s with cls := { s.cls with post := p } }

/-- The part at the end of a POST: its bit falls and it is raised (R285). -/
def State.endPost (s : State) : State :=
  let s := ((s.putPost none).setF F.CLS_POSTING_SWITCH_PENDING 0 0).note E.CLS_POST_DONE
  if s.fld F.CLS_POSTING_UNDRAINED 0 = 128 then s.note E.CLS_POSTING_FULL else s

/-- The mailbox of a POST answered (R285). -/
def State.answerPost (s : State) (p : Posting) : State :=
  match s.req? p.mbx with
  | some r0 =>
    let r := filled C.POST [(A.POST_LEAD_NS, 1000)] r0
    s.respond p.mbx r 0 0 (respParams C.POST r 0
      (w32 (s.current + 256 * s.fld F.CLS_POSTING_UNDRAINED 0) ++ w32 (stampOf p.time) ++ w32 s.oldest))
  | none => s

/-- POSTING_SWITCH of a die that has not switched: the first is noted, the second ends the POST (R280). -/
theorem execPostingSwitch_switches (s : State) (d : Nat) (p : Posting) (hd : d < 2) (h : s.cls.post = some p) (hs : bit p.switched d = false) :
    execPostingSwitch d s = .next (
      let q := { p with switched := p.switched + 2 ^ d }
      if q.switched ≠ 3 then (s.putPost (some q)).switchDie d else ((s.putPost (some q)).switchDie d).endPost.answerPost q) := by
  unfold execPostingSwitch
  rw [h]
  dsimp only
  rw [if_neg (by rw [hs]; simp; omega)]
  rfl

theorem State.endPost_regs (s : State) : s.endPost.regs = ((s.putPost none).setF F.CLS_POSTING_SWITCH_PENDING 0 0).regs := by
  unfold State.endPost
  dsimp only
  split <;> simp only [State.note_regs]

theorem State.endPost_tlr (s : State) : s.endPost.tlr = s.tlr := by
  unfold State.endPost
  dsimp only
  split <;> simp only [State.note_tlr, State.setF_tlr, State.putPost]

theorem State.endPost_cls (s : State) : s.endPost.cls = { s.cls with post := none } := by
  unfold State.endPost
  dsimp only
  split <;> simp only [State.note_cls, State.setF_cls, State.putPost]

theorem State.endPost_arrays (s : State) : s.endPost.arrays = s.arrays := by
  unfold State.endPost
  dsimp only
  split <;> simp only [State.note_arrays, State.setF_arrays, State.putPost]

theorem State.endPost_pending (s : State) : s.endPost.fld F.CLS_POSTING_SWITCH_PENDING 0 = 0 :=
  (State.fld_congr s.endPost_regs _ _).trans (State.fld_setF_same _ _ _ _ (by decide))

theorem State.endPost_fld (s : State) (f : Fld) (j : Nat) (hf : f.lo + f.wd ≤ 32) (h : Apart (F.CLS_POSTING_SWITCH_PENDING, 0, 0) f j) :
    s.endPost.fld f j = s.fld f j :=
  (State.fld_congr s.endPost_regs _ _).trans ((State.fld_setF_apart _ _ hf h).trans (State.fld_congr (rfl) _ _))

/-- An answer leaves the classifier and the arrays. -/
theorem State.answerPost_keeps (s : State) (p : Posting) (hm : p.mbx < 8) : (s.answerPost p).cls = s.cls ∧ (s.answerPost p).arrays = s.arrays
    ∧ ∀ f, f.reg = R.CLS_POSTING → (s.answerPost p).fld f 0 = s.fld f 0 := by
  unfold State.answerPost
  split
  · exact ⟨State.respond_cls _ _ _ _ _ _, State.respond_arrays _ _ _ _ _ _,
      fun f hf => State.respond_fld _ _ _ _ _ _ _ _ hm (.inr (by rw [hf]; decide))⟩
  · exact ⟨rfl, rfl, fun _ _ => rfl⟩

theorem State.answerPost_answers (s : State) (p : Posting) (r : Req) (hm : p.mbx < 8) (h : s.req? p.mbx = some r) :
    (s.answerPost p).fld F.MBX_STATUS_BUSY p.mbx = 0 ∧ (s.answerPost p).fld F.MBX_STATUS_RESP_VALID p.mbx = 1 := by
  unfold State.answerPost
  rw [h]
  exact ⟨State.respond_busy _ _ _ _ _ _ hm, State.respond_valid _ _ _ _ _ _ hm⟩

theorem execPostingSwitch_first (s : State) (d : Nat) (x : Posting) (hd : d < 2) (h : s.cls.post = some x) (h0 : x.switched = 0) :
    ∃ t, execPostingSwitch d s = .next t ∧ t.cls = { s.cls with post := some { x with switched := 2 ^ d } }
      ∧ t.current = (if d = 0 then (s.current + 1) % 256 else s.current) ∧ t.oldest = s.oldest ∧ t.tlr = s.tlr ∧ t.arrays = s.arrays := by
  have hexec := execPostingSwitch_switches s d x hd h (by rw [h0]; exact Nat.zero_testBit d)
  rw [h0, Nat.zero_add] at hexec
  dsimp only at hexec
  rw [if_pos (by interval_cases d <;> decide)] at hexec
  exact ⟨_, hexec, State.switchDie_cls _ _, State.switchDie_current _ _, State.switchDie_oldest _ _, State.switchDie_tlr _ _,
    State.switchDie_arrays _ _⟩

theorem execPostingSwitch_second (s : State) (d : Nat) (x : Posting) (hd : d < 2) (h : s.cls.post = some x) (h1 : x.switched = 2 ^ (1 - d))
    (hm : x.mbx < 8) : ∃ t, execPostingSwitch d s = .next t ∧ t.cls.post = none ∧ t.fld F.CLS_POSTING_SWITCH_PENDING 0 = 0
      ∧ t.current = (if d = 0 then (s.current + 1) % 256 else s.current) ∧ t.oldest = s.oldest ∧ t.arrays = s.arrays
      ∧ ∀ r, s.req? x.mbx = some r → t.fld F.MBX_STATUS_BUSY x.mbx = 0 ∧ t.fld F.MBX_STATUS_RESP_VALID x.mbx = 1 := by
  have hexec := execPostingSwitch_switches s d x hd h (by rw [h1]; interval_cases d <;> decide)
  rw [h1] at hexec
  dsimp only at hexec
  rw [if_neg (by interval_cases d <;> decide)] at hexec
  generalize hq : ({ x with switched := 2 ^ (1 - d) + 2 ^ d } : Posting) = q at hexec
  have hmbx : q.mbx = x.mbx := by rw [← hq]
  obtain ⟨hcls, harrays, hfld⟩ := State.answerPost_keeps ((s.putPost (some q)).switchDie d).endPost q (by rwa [hmbx])
  refine ⟨_, hexec, ?_, ?_, ?_, ?_, ?_, fun r hr => ?_⟩
  · rw [hcls, State.endPost_cls]
  · rw [hfld _ rfl, State.endPost_pending]
  · rw [State.current, hfld _ rfl, State.endPost_fld _ F.CLS_POSTING_CURRENT 0 (by decide) (.inr ⟨rfl, rfl, by decide⟩)]
    exact State.switchDie_current _ _
  · rw [State.oldest, hfld _ rfl, State.endPost_fld _ F.CLS_POSTING_OLDEST 0 (by decide) (.inr ⟨rfl, rfl, by decide⟩)]
    exact State.switchDie_oldest _ _
  · rw [harrays, State.endPost_arrays, State.switchDie_arrays]
    rfl
  · have hreq : ((s.putPost (some q)).switchDie d).endPost.req? q.mbx = some r := by
      rw [State.req?, State.endPost_tlr, State.switchDie_tlr, hmbx]
      exact hr
    have hans := State.answerPost_answers _ q r (by rwa [hmbx]) hreq
    rwa [hmbx] at hans

/-! ### The oldest posting -/

/-- The fields that POSTING_DRAINED writes (R278, R282). -/
def drainedWrites (s : State) : List (Fld × Nat × Nat) :=
  [(F.CLS_POSTING_LAST_LAST_DRAINED, 0, s.oldest), (F.CLS_POSTING_OLDEST, 0, (s.oldest + 1) % 256),
    (F.CLS_POSTING_UNDRAINED, 0, (s.current + 256 - (s.oldest + 1) % 256) % 256), (F.CLS_POSTING_STALLED, 0, 0), (F.CLS_POSTING_DRAINED, 0, 1),
    (F.CLS_POSTING_LAST_DRAINED_COUNT, 0, satBits F.CLS_POSTING_LAST_DRAINED_COUNT.wd (s.fld F.CLS_POSTING_LAST_DRAINED_COUNT 0 + 1))]

theorem posting_last_key : R.CLS_POSTING.key 0 ≠ R.CLS_POSTING_LAST.key 0 := by decide

theorem State.drainedWrites_wrote (s : State) : Wrote s (s.setAll (drainedWrites s)) (drainedWrites s) := by
  refine Wrote.setAll s _ ?_ ?_ <;>
    simp [drainedWrites, Separate, posting_last_key, posting_last_key.symm, F.CLS_POSTING_LAST_LAST_DRAINED, F.CLS_POSTING_OLDEST,
      F.CLS_POSTING_UNDRAINED, F.CLS_POSTING_STALLED, F.CLS_POSTING_DRAINED, F.CLS_POSTING_LAST_DRAINED_COUNT]

theorem State.drainedWrites_eq (s : State) : (((((s.setF F.CLS_POSTING_LAST_LAST_DRAINED 0 s.oldest).setF F.CLS_POSTING_OLDEST 0
      ((s.oldest + 1) % 256)).settlePosting).setF F.CLS_POSTING_STALLED 0 0).setCounted F.CLS_POSTING_DRAINED F.CLS_POSTING_LAST_DRAINED_COUNT 0)
    = s.setAll (drainedWrites s) := by
  have hcur : ((s.setF F.CLS_POSTING_LAST_LAST_DRAINED 0 s.oldest).setF F.CLS_POSTING_OLDEST 0 ((s.oldest + 1) % 256)).current = s.current := by
    unfold State.current
    rw [State.fld_setF_other _ _ _ _ _ (by rfl) (by decide) (by decide), State.fld_setF_ne _ _ posting_last_key]
  have hold : ((s.setF F.CLS_POSTING_LAST_LAST_DRAINED 0 s.oldest).setF F.CLS_POSTING_OLDEST 0 ((s.oldest + 1) % 256)).oldest
      = (s.oldest + 1) % 256 := by
    unfold State.oldest
    rw [State.fld_setF_same _ _ _ _ (by decide)]
    exact Nat.mod_mod _ _
  unfold State.setCounted State.inc State.addSat State.settlePosting
  rw [hcur, hold, State.fld_setF_ne _ _ posting_last_key.symm, State.fld_setF_ne _ _ posting_last_key.symm,
    State.fld_setF_ne _ _ posting_last_key.symm, State.fld_setF_ne _ _ posting_last_key.symm, State.fld_setF_other _ _ _ _ _ (by rfl) (by decide) (by decide)]
  rfl

/-- A posting is work for the Clerks of both dies (R283). -/
def bothWork (w : Tab (List Nat)) (x : Nat) : Tab (List Nat) :=
  let add := fun (t : Tab (List Nat)) (d : Nat) => Tab.set [] t d (Tab.get [] t d ++ [x])
  add (add w 0) 1

theorem get_bothWork (w : Tab (List Nat)) (x d : Nat) (hd : d < 2) : Tab.get [] (bothWork w x) d = Tab.get [] w d ++ [x] := by
  unfold bothWork
  dsimp only
  interval_cases d
  · rw [Tab.get_set_ne _ _ _ (by decide), Tab.get_set_same]
  · rw [Tab.get_set_same, Tab.get_set_ne _ _ _ (by decide)]

theorem execPostingDrained_drained (s : State) (h : s.drained = true) : ∃ u t, execPostingDrained s = .next t ∧ Wrote s u (drainedWrites s)
    ∧ (∀ d, d < 2 → Tab.get [] t.cls.work d = Tab.get [] s.cls.work d ++ [(s.oldest + 1) % 256])
    ∧ t = { u.note E.CLS_POSTING_DRAINED with cls := { s.cls with work := t.cls.work } } := by
  have hcls : ((s.setAll (drainedWrites s)).note E.CLS_POSTING_DRAINED).cls = s.cls := by
    rw [State.note_cls, s.drainedWrites_wrote.rest]
  refine ⟨s.setAll (drainedWrites s), { (s.setAll (drainedWrites s)).note E.CLS_POSTING_DRAINED with
    cls := { s.cls with work := bothWork s.cls.work ((s.oldest + 1) % 256) } }, ?_, s.drainedWrites_wrote, fun d hd => get_bothWork _ _ d hd, rfl⟩
  unfold execPostingDrained
  rw [h]
  dsimp only
  rw [s.drainedWrites_eq, hcls]
  rfl

theorem execPostingDrained_undrained (s : State) (h : s.drained = false) : execPostingDrained s = .next s := by
  unfold execPostingDrained
  rw [h]
  rfl

theorem execDrainStall_marks (s : State) (h : s.oldest ≠ s.current) (hs : s.flag F.CLS_POSTING_STALLED 0 = false) :
    ∃ u, Wrote s u [(F.CLS_POSTING_STALLED, 0, 1)] ∧ execDrainStall s = .next (u.note E.CLS_DRAIN_STALL) := by
  refine ⟨_, Wrote.setF s _ _ _ (by decide), ?_⟩
  unfold execDrainStall
  rw [if_neg (by rw [hs]; simpa using h)]

/-! ### Bits of a rule image -/

theorem bit_putBits_ne (v lo wd x i : Nat) (h : i < lo ∨ lo + wd ≤ i) : bit (putBits v lo wd x) i = bit v i := by
  unfold bit
  rw [putBits_testBit]
  obtain h | h := h
  · rw [if_pos h]
  · rw [if_neg (by omega), if_neg (by omega)]

theorem bit_putBits_zero (v i : Nat) : bit (putBits v i 1 0) i = false := by
  unfold bit
  rw [putBits_testBit, if_neg (by omega), if_pos (by omega), Nat.zero_testBit]

theorem putBits_putBits_same (v lo wd x : Nat) : putBits (putBits v lo wd x) lo wd x = putBits v lo wd x := by
  apply Nat.eq_of_testBit_eq
  intro i
  simp only [putBits_testBit]
  split
  · rfl
  · split <;> rfl

/-- Bits put below a bound keep a value below it. -/
theorem putBits_lt {v lo wd n : Nat} (x : Nat) (hv : v < 2 ^ n) (h : lo + wd ≤ n) : putBits v lo wd x < 2 ^ n := by
  refine Nat.lt_pow_two_of_testBit _ fun i hi => ?_
  rw [putBits_testBit, if_neg (by omega), if_neg (by omega)]
  exact Nat.testBit_lt_two_pow (hv.trans_le (Nat.pow_le_pow_right (by decide) hi))

/-- The birth of a rule stands in bits 192 to 200 of its image, its retirement in bits 208 to 216 (R268). -/
theorem ruleBorn_putBits (v lo wd x : Nat) (h : 201 ≤ lo) : ruleBorn (putBits v lo wd x) = ruleBorn v := by
  unfold ruleBorn ruleW
  rw [bit_putBits_ne _ _ _ _ _ (.inl (by omega)), bits_putBits_ne _ _ _ _ _ _ (.inl (by omega))]

theorem ruleRetired_putBits (v lo wd x : Nat) (h : 217 ≤ lo ∨ lo + wd ≤ 208) : ruleRetired (putBits v lo wd x) = ruleRetired v := by
  unfold ruleRetired ruleW
  rw [bit_putBits_ne _ _ _ _ _ (by omega), bits_putBits_ne _ _ _ _ _ _ (by omega)]

theorem ruleBorn_unmarked (v : Nat) : ruleBorn (putBits v (192 + 8) 1 0) = none := by
  unfold ruleBorn
  rw [bit_putBits_zero, if_neg (by decide)]

theorem ruleRetired_unmarked (v : Nat) : ruleRetired (putBits v (192 + 24) 1 0) = none := by
  unfold ruleRetired
  rw [bit_putBits_zero, if_neg (by decide)]

/-- What the Clerks make of a rule when OLDEST reaches posting `x` (R283). -/
def settledRule (x v : Nat) : Nat :=
  if ruleRetired v = some x then putBits v (192 + 25) 1 0 else if ruleBorn v = some x then putBits v (192 + 8) 1 0 else v

/-- What STAGE_CANCEL makes of a rule when posting `p` is the next (R290). -/
def cancelledRule (p v : Nat) : Nat :=
  if ruleBorn v = some p then putBits v (192 + 25) 1 0 else if ruleRetired v = some p then putBits v (192 + 24) 1 0 else v

theorem settledRule_lt {v : Nat} (x : Nat) (h : v < 2 ^ 256) : settledRule x v < 2 ^ 256 := by
  unfold settledRule
  split
  · exact putBits_lt _ h (by decide)
  · split
    · exact putBits_lt _ h (by decide)
    · exact h

theorem cancelledRule_lt {v : Nat} (p : Nat) (h : v < 2 ^ 256) : cancelledRule p v < 2 ^ 256 := by
  unfold cancelledRule
  split
  · exact putBits_lt _ h (by decide)
  · split
    · exact putBits_lt _ h (by decide)
    · exact h

/-- A settled rule has nothing more to settle. -/
theorem settledRule_settledRule (x v : Nat) : settledRule x (settledRule x v) = settledRule x v := by
  by_cases hr : ruleRetired v = some x
  · have hs : settledRule x v = putBits v (192 + 25) 1 0 := if_pos hr
    rw [hs, settledRule, ruleRetired_putBits _ _ _ _ (by decide), if_pos hr, putBits_putBits_same]
  · by_cases hb : ruleBorn v = some x
    · have hs : settledRule x v = putBits v (192 + 8) 1 0 := by rw [settledRule, if_neg hr, if_pos hb]
      rw [hs, settledRule, ruleRetired_putBits _ _ _ _ (by decide), if_neg hr, ruleBorn_unmarked, if_neg (by simp)]
    · have hs : settledRule x v = v := by rw [settledRule, if_neg hr, if_neg hb]
      rw [hs, hs]

theorem cancelledRule_cancelledRule (p v : Nat) : cancelledRule p (cancelledRule p v) = cancelledRule p v := by
  by_cases hb : ruleBorn v = some p
  · have hs : cancelledRule p v = putBits v (192 + 25) 1 0 := if_pos hb
    rw [hs, cancelledRule, ruleBorn_putBits _ _ _ _ (by decide), if_pos hb, putBits_putBits_same]
  · by_cases hr : ruleRetired v = some p
    · have hs : cancelledRule p v = putBits v (192 + 24) 1 0 := by rw [cancelledRule, if_neg hb, if_pos hr]
      rw [hs, cancelledRule, ruleBorn_putBits _ _ _ _ (by decide), if_neg hb, ruleRetired_unmarked, if_neg (by simp)]
    · have hs : cancelledRule p v = v := by rw [cancelledRule, if_neg hb, if_neg hr]
      rw [hs, hs]

/-! ### Rule slots -/

theorem leNat_lt (l : List Byte) : leNat l < 256 ^ l.length := by
  induction l with
  | nil => decide
  | cons b l ih =>
    have hb : b.toNat < 256 := b.isLt
    rw [leNat, List.length_cons, Nat.pow_succ]
    omega

theorem State.rule_lt (s : State) (d n : Nat) : s.rule d n < 2 ^ 256 := by
  have h := leNat_lt (s.arr (ruleAt d n) 32)
  rw [State.arr, Tab.getList, List.length_map, List.length_range] at h
  exact h

theorem State.rule_putRule_same (s : State) (d n : Nat) {v : Nat} (h : v < 2 ^ 256) : (s.putRule d n v).rule d n = v := by
  have harr := Tab.getList_setList_same 0 (leBytes 32 v) s.arrays (ruleAt d n)
  rw [leBytes_length] at harr
  unfold State.rule State.arrNat State.arr State.putRule State.putArr
  rw [harr, leNat_leBytes]
  exact Nat.mod_eq_of_lt h

/-- A rule slot at another place keeps what it holds. -/
theorem State.rule_putRule_apart (s : State) (d e n m v : Nat) (h : ruleAt e m + 32 ≤ ruleAt d n ∨ ruleAt d n + 32 ≤ ruleAt e m) :
    (s.putRule d n v).rule e m = s.rule e m := by
  unfold State.rule State.arrNat State.arr State.putRule State.putArr
  rw [Tab.getList_setList_ne _ _ _ _ _ _ (by rwa [leBytes_length])]

theorem State.rule_putRule_ne (s : State) (d v : Nat) {n m : Nat} (h : m ≠ n) : (s.putRule d n v).rule d m = s.rule d m :=
  s.rule_putRule_apart d d n m v (by unfold ruleAt; omega)

/-- The slots of one die end where those of the other begin. -/
theorem State.rule_putRule_die (s : State) (v : Nat) {d e n m : Nat} (h : d ≠ e) (hn : n < dieSlots) (hm : m < dieSlots) :
    (s.putRule d n v).rule e m = s.rule e m := by
  have hslots : dieSlots = 262144 := (rfl)
  exact s.rule_putRule_apart d e n m v (by unfold ruleAt; omega)

theorem State.usedSlots_lt {s : State} {d n : Nat} (h : n ∈ s.usedSlots d) : n < dieSlots := by
  have hslots : dieSlots = 262144 := (rfl)
  unfold State.usedSlots at h
  obtain ⟨e, -, he⟩ := List.mem_filterMap.1 h
  split at he
  · next hr =>
    obtain rfl := Option.some.inj he
    unfold ruleAt at hr ⊢
    omega
  · cases he

theorem State.ruleSlots_lt {s : State} {d n : Nat} (h : n ∈ s.ruleSlots d) : n < dieSlots := s.usedSlots_lt (List.mem_filter.1 h).1

/-- A list made of the keys of a table stands when a key that gives it nothing is written. -/
theorem Tab.filterMap_set {α β : Type} [DecidableEq α] (d : α) (t : Tab α) (k : Nat) (v : α) (g : Nat × α → Option β)
    (h : ∀ w, g (k, w) = none) : (Tab.set d t k v).filterMap g = t.filterMap g := by
  have hinsert : (Tab.insert t k v).filterMap g = t.filterMap g := by
    induction t with
    | nil => rw [Tab.insert, List.filterMap_cons, h]
    | cons e t ih =>
      obtain ⟨j, w⟩ := e
      unfold Tab.insert
      split
      · rw [List.filterMap_cons, h]
      · split
        · next hj => rw [List.filterMap_cons, List.filterMap_cons, h, hj, h]
        · rw [List.filterMap_cons, List.filterMap_cons, ih]
  have herase : (Tab.erase t k).filterMap g = t.filterMap g := by
    unfold Tab.erase
    rw [List.filterMap_filter]
    refine List.filterMap_congr fun e _ => ?_
    obtain ⟨j, w⟩ := e
    by_cases hj : j = k
    · rw [hj, h]
      simp
    · simp [hj]
  unfold Tab.set
  split
  · exact herase
  · exact hinsert

theorem Tab.filterMap_setList {α β : Type} [DecidableEq α] (d : α) (vs : List α) (t : Tab α) (k : Nat) (g : Nat × α → Option β)
    (h : ∀ j w, k ≤ j → j < k + vs.length → g (j, w) = none) : (Tab.setList d t k vs).filterMap g = t.filterMap g := by
  induction vs generalizing t k with
  | nil => rfl
  | cons v vs ih =>
    rw [List.length_cons] at h
    rw [Tab.setList, ih _ _ fun j w h1 h2 => h j w (by omega) (by omega), Tab.filterMap_set _ _ _ _ _ fun w => h k w (by omega) (by omega)]

/-- The rules of a die stand where a slot of the other is written. -/
theorem State.ruleSlots_putRule (s : State) (v : Nat) {d e n : Nat} (h : d ≠ e) (hn : n < dieSlots) :
    (s.putRule d n v).ruleSlots e = s.ruleSlots e := by
  have hslots : dieSlots = 262144 := (rfl)
  have hused : (s.putRule d n v).usedSlots e = s.usedSlots e := by
    refine Tab.filterMap_setList 0 _ _ _ _ fun j w h1 h2 => if_neg ?_
    rw [leBytes_length] at h2
    unfold ruleAt at h1 h2 ⊢
    omega
  unfold State.ruleSlots
  rw [hused]
  refine List.filter_congr fun m hm => ?_
  have hlt := s.usedSlots_lt hm
  rw [s.rule_putRule_die v h hn hlt, s.rule_putRule_die v h hn (by omega : m - 1 < dieSlots)]

/-! ### Updates of rules -/

/-- From `s` to `t` rule `n` of die `d` has become what `g` makes of it, and no other slot is written. -/
def RuleBecomes (g : Nat → Nat) (d n : Nat) (s t : State) : Prop := t = s ∧ g (s.rule d n) = s.rule d n ∨ t = s.putRule d n (g (s.rule d n))

section
variable {g : Nat → Nat} {d n : Nat} {s t : State} (h : RuleBecomes g d n s t)
include h

theorem RuleBecomes.same (hlt : ∀ v, v < 2 ^ 256 → g v < 2 ^ 256) : t.rule d n = g (s.rule d n) := by
  obtain ⟨rfl, hv⟩ | rfl := h
  · exact hv.symm
  · exact s.rule_putRule_same d n (hlt _ (s.rule_lt d n))

theorem RuleBecomes.other {m : Nat} (hm : m ≠ n) : t.rule d m = s.rule d m := by
  obtain ⟨rfl, -⟩ | rfl := h
  · rfl
  · exact s.rule_putRule_ne d _ hm

theorem RuleBecomes.die {e m : Nat} (he : d ≠ e) (hn : n < dieSlots) (hm : m < dieSlots) : t.rule e m = s.rule e m := by
  obtain ⟨rfl, -⟩ | rfl := h
  · rfl
  · exact s.rule_putRule_die _ he hn hm

theorem RuleBecomes.ruleSlots {e : Nat} (he : d ≠ e) (hn : n < dieSlots) : t.ruleSlots e = s.ruleSlots e := by
  obtain ⟨rfl, -⟩ | rfl := h
  · rfl
  · exact s.ruleSlots_putRule _ he hn

theorem RuleBecomes.regs : t.regs = s.regs := by
  obtain ⟨rfl, -⟩ | rfl := h <;> rfl

theorem RuleBecomes.cls : t.cls = s.cls := by
  obtain ⟨rfl, -⟩ | rfl := h <;> rfl

end

/-- Of rules updated one after another by what does no more the second time, each of the list has changed by it, once, and no other. -/
theorem State.each_rule {g : Nat → Nat} {d : Nat} {f : Nat → State → State} (hf : ∀ n s, RuleBecomes g d n s (f n s))
    (hlt : ∀ v, v < 2 ^ 256 → g v < 2 ^ 256) (hg : ∀ v, g (g v) = g v) (l : List Nat) (s : State) (n : Nat) :
    (s.each l f).rule d n = if n ∈ l then g (s.rule d n) else s.rule d n := by
  induction l generalizing s with
  | nil => rw [State.each_nil, if_neg List.not_mem_nil]
  | cons a l ih =>
    rw [State.each_cons, ih]
    by_cases ha : n = a
    · subst ha
      rw [(hf n s).same hlt, hg, if_pos List.mem_cons_self]
      split <;> rfl
    · rw [(hf a s).other ha]
      simp only [List.mem_cons, ha, false_or]

/-! ### The Clerks' work at a posting -/

/-- What a posting's work does to one rule. -/
def State.settleRule (d x n : Nat) (s : State) : State :=
  if ruleRetired (s.rule d n) = some x then s.clearRule d n
  else if ruleBorn (s.rule d n) = some x then s.putRule d n (putBits (s.rule d n) (192 + 8) 1 0)
  else s

theorem State.settleRule_becomes (d x n : Nat) (s : State) : RuleBecomes (settledRule x) d n s (s.settleRule d x n) := by
  unfold RuleBecomes State.settleRule State.clearRule settledRule
  split
  · exact .inr rfl
  · split
    · exact .inr rfl
    · exact .inl ⟨rfl, rfl⟩

theorem State.settleRules_eq (s : State) (d x : Nat) : s.settleRules d x = s.each (s.ruleSlots d) fun n t => t.settleRule d x n := (rfl)

theorem State.settleRules_rule (s : State) (d x n : Nat) :
    (s.settleRules d x).rule d n = if n ∈ s.ruleSlots d then settledRule x (s.rule d n) else s.rule d n :=
  State.each_rule (fun n t => t.settleRule_becomes d x n) (fun _ => settledRule_lt x) (settledRule_settledRule x) _ s n

theorem State.settleRules_regs (s : State) (d x : Nat) : (s.settleRules d x).regs = s.regs :=
  State.each_keeps State.regs _ _ _ fun n t => (t.settleRule_becomes d x n).regs

theorem State.settleRules_cls (s : State) (d x : Nat) : (s.settleRules d x).cls = s.cls :=
  State.each_keeps State.cls _ _ _ fun n t => (t.settleRule_becomes d x n).cls

theorem execClerkPostingWork_works (s : State) (d x : Nat) (tail : List Nat) (hw : Tab.get [] s.cls.work d = x :: tail)
    (hk : ∃ k, k < 4 ∧ s.fld F.CLRK_STATUS_STATE (4 * d + k) < 2) : ∃ t, execClerkPostingWork d s = .next t ∧ Tab.get [] t.cls.work d = tail
      ∧ t.regs = s.regs ∧ (∀ n ∈ s.ruleSlots d, t.rule d n = settledRule x (s.rule d n))
      ∧ ∀ n, n ∉ s.ruleSlots d → t.rule d n = s.rule d n := by
  obtain ⟨k, h4, hlt⟩ := hk
  have hruns : ((List.range 4).all fun k => 2 ≤ s.fld F.CLRK_STATUS_STATE (4 * d + k)) = false :=
    List.all_eq_false.2 ⟨k, List.mem_range.2 h4, by simpa using hlt⟩
  refine ⟨State.settleRules { s with cls := { s.cls with work := Tab.set [] s.cls.work d tail } } d x, ?_, ?_, State.settleRules_regs _ _ _,
    fun n hn => (State.settleRules_rule _ d x n).trans (if_pos hn), fun n hn => (State.settleRules_rule _ d x n).trans (if_neg hn)⟩
  · unfold execClerkPostingWork
    rw [hw]
    dsimp only
    rw [hruns]
    rfl
  · rw [State.settleRules_cls]
    exact Tab.get_set_same _ _ _ _

theorem execClerkPostingWork_parked (s : State) (d x : Nat) (tail : List Nat) (hw : Tab.get [] s.cls.work d = x :: tail)
    (hk : ∀ k, k < 4 → 2 ≤ s.fld F.CLRK_STATUS_STATE (4 * d + k)) : execClerkPostingWork d s = .next s := by
  have hparked : ((List.range 4).all fun k => 2 ≤ s.fld F.CLRK_STATUS_STATE (4 * d + k)) = true :=
    List.all_eq_true.2 fun k h4 => decide_eq_true (hk k (List.mem_range.1 h4))
  unfold execClerkPostingWork
  rw [hw]
  dsimp only
  rw [hparked]
  rfl

/-! ### STAGE_CANCEL -/

/-- What STAGE_CANCEL does to one rule when posting `p` is the next. -/
def State.cancelRule (d p n : Nat) (s : State) : State :=
  if ruleBorn (s.rule d n) = some p then s.clearRule d n
  else if ruleRetired (s.rule d n) = some p then s.putRule d n (putBits (s.rule d n) (192 + 24) 1 0)
  else s

theorem State.cancelRule_becomes (d p n : Nat) (s : State) : RuleBecomes (cancelledRule p) d n s (s.cancelRule d p n) := by
  unfold RuleBecomes State.cancelRule State.clearRule cancelledRule
  split
  · exact .inr rfl
  · split
    · exact .inr rfl
    · exact .inl ⟨rfl, rfl⟩

/-- The part once the staged rules of a die are cancelled; the count beside it does not enter. -/
theorem State.cancelDie_eq (s : State) (d : Nat) : (s.cancelDie d).1 = s.each (s.ruleSlots d) fun n t => t.cancelRule d s.nextPosting n := by
  unfold State.cancelDie State.each
  refine (List.foldl_hom Prod.fst fun a n => ?_).symm
  unfold State.cancelRule
  dsimp only
  split
  · rfl
  · split <;> rfl

theorem State.cancelDie_rule (s : State) (d n : Nat) :
    (s.cancelDie d).1.rule d n = if n ∈ s.ruleSlots d then cancelledRule s.nextPosting (s.rule d n) else s.rule d n := by
  rw [State.cancelDie_eq]
  exact State.each_rule (fun n t => t.cancelRule_becomes d _ n) (fun _ => cancelledRule_lt _) (cancelledRule_cancelledRule _) _ s n

theorem State.cancelDie_other (s : State) {d e n : Nat} (h : d ≠ e) (hn : n < dieSlots) : (s.cancelDie d).1.rule e n = s.rule e n := by
  rw [State.cancelDie_eq]
  exact State.each_keeps_mem (fun t => t.rule e n) _ _ s fun m hm t => (t.cancelRule_becomes d _ m).die h (s.ruleSlots_lt hm) hn

theorem State.cancelDie_ruleSlots (s : State) {d e : Nat} (h : d ≠ e) : (s.cancelDie d).1.ruleSlots e = s.ruleSlots e := by
  rw [State.cancelDie_eq]
  exact State.each_keeps_mem (fun t => t.ruleSlots e) _ _ s fun m hm t => (t.cancelRule_becomes d _ m).ruleSlots h (s.ruleSlots_lt hm)

theorem State.cancelDie_nextPosting (s : State) (d : Nat) : (s.cancelDie d).1.nextPosting = s.nextPosting := by
  have hregs : (s.cancelDie d).1.regs = s.regs := by
    rw [State.cancelDie_eq]
    exact State.each_keeps State.regs _ _ s fun n t => (t.cancelRule_becomes d _ n).regs
  unfold State.nextPosting State.current
  rw [State.fld_congr hregs]

/-- Each die's staged rules are cancelled, the other die's work beside them (R290). -/
theorem State.cancelDies_rule (s : State) {d n : Nat} (hd : d < 2) (hn : n ∈ s.ruleSlots d) :
    ((s.cancelDie 0).1.cancelDie 1).1.rule d n = cancelledRule s.nextPosting (s.rule d n) := by
  have hlt := s.ruleSlots_lt hn
  interval_cases d
  · rw [State.cancelDie_other _ (by decide) hlt, State.cancelDie_rule, if_pos hn]
  · rw [State.cancelDie_rule, State.cancelDie_ruleSlots _ (by decide), if_pos hn, State.cancelDie_nextPosting, State.cancelDie_other _ (by decide) hlt]

theorem Completed.arrays {u t : State} {k : Nat} {q : Rec} {st d : Nat} {ps : List Byte} (h : Completed u t k q st d ps) : t.arrays = u.arrays := by
  rw [h.rest]

theorem State.rule_congr {s t : State} (h : t.arrays = s.arrays) (d n : Nat) : t.rule d n = s.rule d n := by
  unfold State.rule State.arrNat State.arr
  rw [h]

theorem execStageCancel_cancels (s : State) (k : Nat) (q : Rec) (h : Running s k C.STAGE_CANCEL q) : ∃ t, execStageCancel (.record k) s = .next t
    ∧ (∀ d n, d < 2 → n ∈ s.ruleSlots d → t.rule d n = cancelledRule s.nextPosting (s.rule d n))
    ∧ ∃ x, t.rec? k = some x ∧ x.phase = 2 := by
  have hdone := State.completeRec_completed ((s.cancelDie 0).1.cancelDie 1).1 k q 0 0
    (respParams C.STAGE_CANCEL q.req 0 (w32 (satBits 18 ((s.cancelDie 0).2 + ((s.cancelDie 0).1.cancelDie 1).2))))
  exact ⟨_, congrArg Host.Outcome.next (h.completes (by rfl) _ _),
    fun d n hd hn => (State.rule_congr hdone.arrays d n).trans (s.cancelDies_rule hd hn), _, hdone.done, rfl⟩

/-! ### RULE_STAGE -/

/-- Reads that all answer give what they answer. -/
theorem mapM_eq_some_map {α β : Type} {f : α → Option β} {g : α → β} {l : List α} (h : ∀ a ∈ l, f a = some (g a)) :
    l.mapM f = some (l.map g) := by
  induction l with
  | nil => rfl
  | cons a l ih => rw [List.mapM_cons, h a List.mem_cons_self, ih fun b hb => h b (List.mem_cons_of_mem _ hb)]; rfl

/-- Host memory returns the bytes last written there. -/
theorem State.hostBytes_hostWrite (s : State) (a : Nat) (bs : List Byte) : (s.hostWrite a bs).hostBytes a bs.length = some bs := by
  have hget : ∀ i ∈ List.range bs.length, Tab.get none (s.hostWrite a bs).host (a + i) = some (bs.getD i 0) := by
    intro i hi
    have hlt := List.mem_range.1 hi
    rw [State.get_hostWrite, if_pos ⟨by omega, by omega⟩, Nat.add_sub_cancel_left]
    simp [hlt]
  rw [State.hostBytes, mapM_eq_some_map hget]
  exact congrArg some (List.ext_getElem (by simp) fun i h1 h2 => by simp [h2])

theorem byteAt_lt (l : List Byte) (i : Nat) : byteAt l i < 256 := (l.getD i 0).isLt

theorem leAt_succ (l : List Byte) (i n : Nat) : leAt l i (n + 1) = leAt l i n + byteAt l (i + n) * 256 ^ n := by
  rw [leAt, List.range_succ, List.foldl_append]
  rfl

theorem leAt_lt (l : List Byte) (i n : Nat) : leAt l i n < 256 ^ n := by
  induction n with
  | zero => exact Nat.zero_lt_one
  | succ n ih =>
    calc leAt l i (n + 1) = leAt l i n + byteAt l (i + n) * 256 ^ n := leAt_succ l i n
      _ < 256 ^ n + byteAt l (i + n) * 256 ^ n := Nat.add_lt_add_right ih _
      _ = (byteAt l (i + n) + 1) * 256 ^ n := by ring
      _ ≤ 256 * 256 ^ n := Nat.mul_le_mul_right _ (byteAt_lt l (i + n))
      _ = 256 ^ (n + 1) := Nat.pow_succ'.symm
/-- The image of a narrow rule of a hash table born at the next posting (R268). -/
def State.narrowImage (s : State) (c : Change) : Nat :=
  c.value % 2 ^ 128 + 2 ^ 128 * c.w4 + 2 ^ 160 * c.w5 + 2 ^ 192 * (s.nextPosting + 256 + 2 ^ 25) + 2 ^ 224 * c.w7

theorem State.narrowImage_lt (s : State) (l : List Byte) : s.narrowImage (changeOf l) < 2 ^ 256 := by
  have hp : s.nextPosting < 256 := Nat.mod_lt _ (by decide)
  have h4 : (changeOf l).w4 < 2 ^ 23 := bits_lt _ _ _
  have h5 : (changeOf l).w5 < 2 ^ 32 := leAt_lt _ _ 4
  have h7 : (changeOf l).w7 < 2 ^ 32 := leAt_lt _ _ 4
  unfold State.narrowImage
  omega

theorem State.bearRule_narrow (s : State) (c : Change) (d n : Nat) (ht : c.tern = false) (hw : s.tableWide c.table = false) :
    s.bearRule c d n = s.putRule d n (s.narrowImage c) := by
  unfold State.bearRule State.narrowImage
  simp [ht, hw, b2n]

theorem Change.dies_one (c : Change) {d : Nat} (hd : d < 2) (h : c.scope = 2 ^ d) : c.dies = [d] := by
  unfold Change.dies
  rw [h]
  interval_cases d <;> decide

/-- A record that adds a narrow rule to one die, where its bucket has a free place (R266, R284). -/
theorem State.applyChange_adds (s : State) (c : Change) (d n : Nat) (he : s.changeError c = none) (ho : c.op = 1) (hd : c.dies = [d])
    (hn : s.freePlace c d = some n) : s.applyChange c = (s.bearRule c d n, 0, 0, [(d, n)]) := by
  have hdie : s.changeDie c d = some (s.bearRule c d n, n) := by
    unfold State.changeDie
    dsimp only
    rw [if_pos ho, hn]
    rfl
  unfold State.applyChange
  rw [he]
  dsimp only
  rw [if_neg (by simp [ho]), hd]
  unfold State.changeDies
  rw [hdie]
  rfl

/-- One record alone that is applied is written back, with its slots (R289). -/
theorem State.stageRecords_one (s u : State) (addr : Nat) (cont : Bool) (l : List Byte) (slots : List (Nat × Nat)) (hl : s.hostRead addr 128 = some l)
    (ha : s.applyChange (changeOf l) = (u, 0, 0, slots)) : s.stageRecords addr cont 1 0 {}
      = (u.hostWrite (addr + 4) (w32 (slotWord slots 0) ++ w32 (slotWord slots 1) ++ w32 0), { applied := 1 }, true) := by
  unfold State.stageRecords
  rw [Nat.mul_zero, Nat.add_zero, hl]
  dsimp only
  rw [ha]
  dsimp only
  rw [if_pos rfl, State.stageRecords]

theorem ruleStageAct_one (s u : State) (r : Req) (note : Nat) (l : List Byte) (slots : List (Nat × Nat)) (hc : r.arg A.RULE_STAGE_COUNT = 1)
    (hl : s.hostRead (r.arg64 A.RULE_STAGE_HOST_ADDR_LO A.RULE_STAGE_HOST_ADDR_HI) 128 = some l) (ha : s.applyChange (changeOf l) = (u, 0, 0, slots)) :
    ruleStageAct r note s = .ok (u.hostWrite (r.arg64 A.RULE_STAGE_HOST_ADDR_LO A.RULE_STAGE_HOST_ADDR_HI + 4)
      (w32 (slotWord slots 0) ++ w32 (slotWord slots 1) ++ w32 0)) (w32 1 ++ w32 0 ++ w32 1) := by
  unfold ruleStageAct
  dsimp only
  rw [hc, s.stageRecords_one u _ _ l slots hl ha]
  rfl

theorem execRuleStage_adds (s : State) (k : Nat) (q : Rec) (l : List Byte) (c : Change) (d n addr : Nat) (h : Running s k C.RULE_STAGE q)
    (hc : q.req.arg A.RULE_STAGE_COUNT = 1) (haddr : addr = q.req.arg64 A.RULE_STAGE_HOST_ADDR_LO A.RULE_STAGE_HOST_ADDR_HI)
    (hl : s.hostRead addr 128 = some l) (hcl : changeOf l = c) (he : s.changeError c = none) (ho : c.op = 1) (ht : c.tern = false)
    (hw : s.tableWide c.table = false) (hd : d < 2) (hs : c.scope = 2 ^ d) (hn : s.freePlace c d = some n) :
    ∃ u t, execRuleStage (.record k) s = .next t ∧ u.rule d n = s.narrowImage c
      ∧ (∀ a, a < ruleAt d n ∨ ruleAt d n + 32 ≤ a → Tab.get 0 u.arrays a = Tab.get 0 s.arrays a) ∧ u.regs = s.regs
      ∧ u.hostBytes (addr + 4) 12 = some (w32 (slotWord [(d, n)] 0) ++ w32 (slotWord [(d, n)] 1) ++ w32 0)
      ∧ Completed u t k q 0 0 (respParams C.RULE_STAGE q.req 0 (w32 1 ++ w32 0 ++ w32 1)) := by
  subst haddr hcl
  have happly := s.applyChange_adds (changeOf l) d n he ho (Change.dies_one _ hd hs) hn
  rw [s.bearRule_narrow _ d n ht hw] at happly
  have hact := ruleStageAct_one s _ q.req q.note l _ hc hl happly
  generalize hu : State.hostWrite _ _ _ = u at hact
  refine ⟨u, _, congrArg Host.Outcome.next (h.completes hact _ _), ?_, fun a ha => ?_, ?_, ?_, State.completeRec_completed u k q 0 0 _⟩
  · rw [← hu, State.rule_congr (State.hostWrite_arrays _ _ _), s.rule_putRule_same d n (s.narrowImage_lt l)]
  · rw [← hu, State.hostWrite_arrays, State.putRule, State.get_putArr, leBytes_length, if_neg (by omega)]
  · rw [← hu, State.hostWrite_regs, State.putRule, State.putArr_regs]
  · rw [← hu]
    have hbytes := State.hostBytes_hostWrite (s.putRule d n (s.narrowImage (changeOf l)))
      (q.req.arg64 A.RULE_STAGE_HOST_ADDR_LO A.RULE_STAGE_HOST_ADDR_HI + 4) (w32 (slotWord [(d, n)] 0) ++ w32 (slotWord [(d, n)] 1) ++ w32 0)
    simpa only [List.length_append, w32_length] using hbytes

/-- Settles O26: a POST by the switch of each die, the rule store by what each update makes of its one slot, which no update changes twice. -/
theorem postingsAndStagedRules : Obligations.PostingsAndStagedRules := by
  unfold Obligations.PostingsAndStagedRules
  refine ⟨fun s => ⟨fun m r0 r _ ht hp hc hr => execPost_waits s m r0 r ht hp hc hr, fun d x hd hx => ⟨execPostingSwitch_first s d x hd hx,
    execPostingSwitch_second s d x hd hx⟩, fun h x hx => ?_, execPostingDrained_undrained s, execDrainStall_marks s⟩,
    fun s => ⟨fun d x tail _ hw => ⟨execClerkPostingWork_works s d x tail hw, execClerkPostingWork_parked s d x tail hw⟩,
      fun k q l c d n addr h hc haddr hl hcl he ho ht hw hd hs hn => execRuleStage_adds s k q l c d n addr h hc haddr hl hcl he ho ht hw hd hs hn,
      execStageCancel_cancels s⟩⟩
  subst hx
  exact execPostingDrained_drained s h

end Sys2Proof.Machine

namespace Sys2Proof.Machine

/-! ### The registers of a Clerk, and what a microword writes of them -/

theorem clrk_ctl_key (w : Nat) : R.CLRK_CTL.key w = 0x2c000000 + w * 0x10000 := (rfl)
theorem clrk_status_key (w : Nat) : R.CLRK_STATUS.key w = 0x2c000004 + w * 0x10000 := (rfl)
theorem clrk_pc_key (w : Nat) : R.CLRK_PC.key w = 0x2c000008 + w * 0x10000 := (rfl)
theorem clrk_cond_key (w : Nat) : R.CLRK_COND.key w = 0x2c00000c + w * 0x10000 := (rfl)
theorem clrk_queue_key (w : Nat) : R.CLRK_QUEUE.key w = 0x2c000010 + w * 0x10000 := (rfl)
theorem clrk_reg_key (i : Nat) : R.CLRK_REG.key i = 0x2c000100 + (i % 16 * 4 + i / 16 * 0x10000) := (rfl)
theorem clrk_path_key (i : Nat) : R.CLRK_PATH.key i = 0x2c000200 + (i % 32 * 4 + i / 32 * 0x10000) := (rfl)
theorem clrk_kr_key (i : Nat) : R.CLRK_KR.key i = 0x2c000500 + (i % 13 * 4 + i / 13 * 0x10000) := (rfl)

/-- The fields of a list of writes lie within their registers and share no bit with field `f` of the register numbered `i`. -/
def AllApart (l : List (Fld × Nat × Nat)) (f : Fld) (i : Nat) : Prop := ∀ e ∈ l, Separate e (f, i, 0) ∧ e.1.lo + e.1.wd ≤ 32

@[simp] theorem AllApart.nil (f : Fld) (i : Nat) : AllApart [] f i := by simp [AllApart]
@[simp] theorem AllApart.append (l k : List (Fld × Nat × Nat)) (f : Fld) (i : Nat) : AllApart (l ++ k) f i ↔ AllApart l f i ∧ AllApart k f i :=
  List.forall_mem_append
@[simp] theorem AllApart.cons (e : Fld × Nat × Nat) (l : List (Fld × Nat × Nat)) (f : Fld) (i : Nat) :
    AllApart (e :: l) f i ↔ (Separate e (f, i, 0) ∧ e.1.lo + e.1.wd ≤ 32) ∧ AllApart l f i :=
  List.forall_mem_cons

/-- A write of general register `n` lies apart from a field of another key. -/
theorem toG_apart (w n x : Nat) (f : Fld) (i : Nat) (h : R.CLRK_REG.key (n + 16 * w) ≠ f.reg.key i) : AllApart (toG w n x) f i := by
  unfold toG
  split
  · simp
  · exact fun e he => by
      obtain rfl := List.mem_singleton.1 he
      exact ⟨.inl h, show 0 + 32 ≤ 32 by decide⟩

@[simp] theorem toG_apart_cond (w n x k d : Nat) : AllApart (toG w n x) ⟨R.CLRK_COND, k, d⟩ w := by
  refine toG_apart _ _ _ _ _ ?_
  show R.CLRK_REG.key _ ≠ R.CLRK_COND.key _
  rw [clrk_reg_key, clrk_cond_key]
  omega

@[simp] theorem toG_apart_pc (w n x : Nat) : AllApart (toG w n x) F.CLRK_PC_PC w := by
  refine toG_apart _ _ _ _ _ ?_
  show R.CLRK_REG.key _ ≠ R.CLRK_PC.key _
  rw [clrk_reg_key, clrk_pc_key]
  omega

theorem toG_apart_reg (w x : Nat) {n m : Nat} (hn : n < 16) (hm : m < 16) (h : n ≠ m) : AllApart (toG w n x) F.CLRK_REG_VALUE (m + 16 * w) := by
  refine toG_apart _ _ _ _ _ ?_
  show R.CLRK_REG.key _ ≠ R.CLRK_REG.key _
  rw [clrk_reg_key, clrk_reg_key]
  omega

@[simp] theorem toFlag_apart_pc (w k : Nat) (b : Bool) (hk : k < 8) : AllApart (toFlag w k b) F.CLRK_PC_PC w := by
  intro e he
  obtain rfl := List.mem_singleton.1 he
  refine ⟨.inl ?_, show k + 1 ≤ 32 by omega⟩
  show R.CLRK_COND.key _ ≠ R.CLRK_PC.key _
  rw [clrk_cond_key, clrk_pc_key]
  omega

@[simp] theorem toFlag_apart_reg (w k m : Nat) (b : Bool) (hk : k < 8) : AllApart (toFlag w k b) F.CLRK_REG_VALUE (m + 16 * w) := by
  intro e he
  obtain rfl := List.mem_singleton.1 he
  refine ⟨.inl ?_, show k + 1 ≤ 32 by omega⟩
  show R.CLRK_COND.key _ ≠ R.CLRK_REG.key _
  rw [clrk_reg_key, clrk_cond_key]
  omega

theorem toFlag_apart_flag (w : Nat) (b : Bool) {k j : Nat} (hk : k < 8) (h : k ≠ j) : AllApart (toFlag w k b) ⟨R.CLRK_COND, j, 1⟩ w := by
  intro e he
  obtain rfl := List.mem_singleton.1 he
  refine ⟨.inr ⟨rfl, rfl, ?_⟩, show k + 1 ≤ 32 by omega⟩
  show j + 1 ≤ k ∨ k + 1 ≤ j
  omega

/-- A condition flag is a field of one bit. -/
theorem State.setFlag_eq (s : State) (w : Nat) {k : Nat} (b : Bool) (hk : k < 8) : s.setFlag w k b = s.setF ⟨R.CLRK_COND, k, 1⟩ w (b2n b) := by
  unfold State.setFlag State.setF State.fld
  show s.wr R.CLRK_COND w (putBits _ 0 8 (putBits (bits _ 0 8) k 1 _)) = s.wr R.CLRK_COND w _
  rw [putBits_putBits_within _ _ _ _ _ _ (by omega), Nat.zero_add]
  rfl

theorem State.setG_eq (s : State) (w x : Nat) {n : Nat} (hn : n ≠ 0) : s.setG w n x = s.setF F.CLRK_REG_VALUE (n + 16 * w) x := by
  unfold State.setG
  rw [if_neg hn, s.wr_congr _ _ (Nat.mod_mod _ _), s.wr_eq_setF]
  rfl

section
variable {s t : State} {l : List (Fld × Nat × Nat)} (h : Wrote s t l) (w : Nat)
include h

theorem Wrote.setG (n x : Nat) (ha : AllApart l F.CLRK_REG_VALUE (n + 16 * w)) : Wrote s (t.setG w n x) (l ++ toG w n x) := by
  by_cases hn : n = 0
  · rwa [toG, if_pos hn, List.append_nil, State.setG, if_pos hn]
  · rw [toG, if_neg hn, State.setG_eq _ _ _ hn]
    exact h.snoc _ _ _ (by decide) ha

theorem Wrote.setFlag {k : Nat} (b : Bool) (hk : k < 8) (ha : AllApart l ⟨R.CLRK_COND, k, 1⟩ w) : Wrote s (t.setFlag w k b) (l ++ toFlag w k b) := by
  rw [State.setFlag_eq _ _ _ hk]
  exact h.snoc _ _ _ (show k + 1 ≤ 32 by omega) ha

/-- A field that a list of writes leaves alone reads as before. -/
theorem Wrote.fld_apart {f : Fld} {i : Nat} (hf : f.lo + f.wd ≤ 32) (ha : AllApart l f i) : t.fld f i = s.fld f i :=
  h.regs.keeps f i hf fun e he => (ha e he).1

theorem Wrote.nextPc (ha : AllApart l F.CLRK_PC_PC w) : Wrote s (t.nextPc w) (l ++ toNext s w) := by
  unfold State.nextPc
  rw [h.fld_apart (by decide) ha]
  exact h.snoc _ _ _ (by decide) ha

end

theorem mwRd_lt (v : Nat) : mwRd v < 16 := bits_lt v _ _

/-- A Clerk that stands before a microword executes it. -/
theorem Executes.micro {s : State} {w op v : Nat} (h : Executes s w op v) (f : Nat → State → State) : s.micro w op f = .next (f v s) := by
  obtain ⟨hw, hrun, hwait, rfl, hop⟩ := h
  unfold State.micro
  rw [if_pos ⟨hw, hrun, by simp [hwait], hop⟩]

theorem State.rd_clrkReg_lt (s : State) (i : Nat) : s.rd R.CLRK_REG i < 2 ^ 32 := s.rd_lt _ _ (show 0 < 2 ^ 32 by decide)

theorem State.greg_lt (s : State) (w n : Nat) : s.greg w n < 2 ^ 32 := by
  unfold State.greg
  split
  · decide
  · exact s.rd_clrkReg_lt _

/-! ### The arithmetic microwords -/

/-- An arithmetic microword whose operation gives `x`. -/
theorem Executes.alu {s : State} {w op v : Nat} (h : Executes s w op v) {f : Nat → Nat → Nat} {x : Nat}
    (hx : f (s.greg w (mwRa v)) (s.second w v) % 2 ^ 32 = x) :
    ∃ t, s.alu w op f = .next t ∧ Wrote s t (toG w (mwRd v) x ++ toFlag w 1 (x == 0) ++ toNext s w) := by
  subst hx
  exact ⟨_, h.micro _, (((Wrote.nil s).setG w _ _ (by simp)).setFlag w _ (by decide) (by simp)).nextPc w (by simp)⟩

/-- A shift right by 32 or more gives 0 (log entry 75). -/
theorem shr_word (a b : Nat) (ha : a < 2 ^ 32) : (if 32 ≤ b then 0 else a >>> b) = a / 2 ^ b := by
  split
  · next hb => exact (Nat.div_eq_of_lt (ha.trans_le (Nat.pow_le_pow_right (by decide) hb))).symm
  · exact Nat.shiftRight_eq_div_pow a b

/-- A shift left by 32 or more gives 0 (log entry 75). -/
theorem shl_word (a b : Nat) : (if 32 ≤ b then 0 else a <<< b) % 2 ^ 32 = a * 2 ^ b % 2 ^ 32 := by
  split
  · next hb => exact (Nat.mod_eq_zero_of_dvd ((Nat.pow_dvd_pow 2 hb).mul_left a)).symm
  · rw [Nat.shiftLeft_eq]

theorem exec_arithmetic (s : State) (w v op : Nat) (i : Instr) (f : Nat → Nat → Nat)
    (hi : (op, i, f) ∈ ([(1, Instr.clrkAdd w, fun a b => a + b), (2, .clrkSub w, fun a b => a + 2 ^ 32 - b), (3, .clrkAnd w, fun a b => a &&& b),
      (4, .clrkOr w, fun a b => a ||| b), (5, .clrkXor w, fun a b => a ^^^ b), (6, .clrkShr w, fun a b => a / 2 ^ b),
      (7, .clrkShl w, fun a b => a * 2 ^ b)] : List (Nat × Instr × (Nat → Nat → Nat)))) (h : Executes s w op v) (x : Nat)
    (hx : x = f (s.greg w (mwRa v)) (s.second w v) % 2 ^ 32) :
    ∃ t, exec i s = .next t ∧ Wrote s t (toG w (mwRd v) x ++ toFlag w 1 (x == 0) ++ toNext s w) := by
  subst hx
  simp only [List.mem_cons, Prod.mk.injEq, List.not_mem_nil, or_false] at hi
  obtain ⟨rfl, rfl, rfl⟩ | ⟨rfl, rfl, rfl⟩ | ⟨rfl, rfl, rfl⟩ | ⟨rfl, rfl, rfl⟩ | ⟨rfl, rfl, rfl⟩ | ⟨rfl, rfl, rfl⟩ | ⟨rfl, rfl, rfl⟩ := hi
  · exact h.alu (f := fun a b => a + b) rfl
  · exact h.alu (f := fun a b => a + 2 ^ 32 - b) rfl
  · exact h.alu (f := fun a b => a &&& b) rfl
  · exact h.alu (f := fun a b => a ||| b) rfl
  · exact h.alu (f := fun a b => a ^^^ b) rfl
  · exact h.alu (f := fun a b => if 32 ≤ b then 0 else a >>> b) (congrArg (· % 2 ^ 32) (shr_word _ _ (s.greg_lt _ _)))
  · exact h.alu (f := fun a b => if 32 ≤ b then 0 else a <<< b) (shl_word _ _)

theorem execClrkDec_wrote (s : State) (w v : Nat) (h : Executes s w 8 v) (x : Nat) (hx : x = (s.greg w (mwRa v) + 2 ^ 32 - 1) % 2 ^ 32) :
    ∃ t, execClrkDec w s = .next t
      ∧ Wrote s t (toG w (mwRd v) x ++ toFlag w 1 (x == 0) ++ toFlag w 7 (s.greg w (mwRa v) == 0) ++ toNext s w) := by
  refine ⟨_, h.micro _, ?_⟩
  dsimp only
  rw [← hx]
  exact ((((Wrote.nil s).setG w _ _ (by simp)).setFlag w _ (by decide) (by simp)).setFlag w _ (by decide)
    (by simp [toFlag_apart_flag])).nextPc w (by simp)

theorem execClrkBclr_wrote (s : State) (w v : Nat) (h : Executes s w 9 v) (x : Nat)
    (hx : x = putBits (s.greg w (mwRa v)) (s.greg w (mwRb v) % 32) 1 0) :
    ∃ t, execClrkBclr w s = .next t ∧ Wrote s t (toG w (mwRd v) x ++ toFlag w 1 (x == 0) ++ toNext s w) := by
  subst hx
  exact ⟨_, h.micro _, (((Wrote.nil s).setG w _ _ (by simp)).setFlag w _ (by decide) (by simp)).nextPc w (by simp)⟩

theorem execClrkFfs_found (s : State) (w v : Nat) (h : Executes s w 0xA v) (i : Nat)
    (hi : lowest 32 (fun i => bit (s.greg w (mwRa v)) i) = some i) :
    ∃ t, execClrkFfs w s = .next t ∧ Wrote s t (toG w (mwRd v) i ++ toFlag w 1 false ++ toNext s w) := by
  refine ⟨_, h.micro _, ?_⟩
  rw [hi]
  exact (((Wrote.nil s).setG w _ _ (by simp)).setFlag w _ (by decide) (by simp)).nextPc w (by simp)

/-- A word of 0 has no lowest 1. -/
theorem lowest_bit_zero (n : Nat) : lowest n (fun i => bit 0 i) = none := by simp [lowest, bit]

/-! A free value taken first stands apart from what is written. -/

theorem State.tookFree_setG (s : State) (w n x : Nat) : s.tookFree.setG w n x = (s.setG w n x).tookFree := by
  unfold State.setG
  split <;> rfl
theorem State.tookFree_setF (s : State) (f : Fld) (i v : Nat) : s.tookFree.setF f i v = (s.setF f i v).tookFree := (rfl)
theorem State.tookFree_setFlag (s : State) (w k : Nat) (b : Bool) : s.tookFree.setFlag w k b = (s.setFlag w k b).tookFree := by
  unfold State.setFlag
  rw [State.tookFree_fld, State.tookFree_setF]
theorem State.tookFree_nextPc (s : State) (w : Nat) : s.tookFree.nextPc w = (s.nextPc w).tookFree := by
  unfold State.nextPc
  rw [State.tookFree_fld, State.tookFree_setF]

theorem Wrote.tookFree {s t : State} {l : List (Fld × Nat × Nat)} (h : Wrote s t l) : t.tookFree = { t with fresh := s.fresh + 1 } := by
  unfold State.tookFree
  rw [h.rest]

theorem execClrkFfs_zero (s : State) (w v : Nat) (h : Executes s w 0xA v) (h0 : s.greg w (mwRa v) = 0) :
    ∃ u x, Wrote s u (toG w (mwRd v) x ++ toFlag w 1 true ++ toNext s w) ∧ execClrkFfs w s = .next { u with fresh := s.fresh + 1 } := by
  have hu := (((Wrote.nil s).setG w (mwRd v) s.freeVal (by simp)).setFlag w true (k := 1) (by decide) (by simp)).nextPc w (by simp)
  refine ⟨_, _, hu, (h.micro _).trans ?_⟩
  rw [h0, lowest_bit_zero, ← hu.tookFree, ← State.tookFree_nextPc, ← State.tookFree_setFlag, ← State.tookFree_setG]

theorem lfsr_apart_reg (w m x : Nat) : AllApart [(F.CLRK_COND_LFSR, w, x)] F.CLRK_REG_VALUE (m + 16 * w) := by
  intro e he
  obtain rfl := List.mem_singleton.1 he
  refine ⟨.inl ?_, show 16 + 16 ≤ 32 by decide⟩
  show R.CLRK_COND.key _ ≠ R.CLRK_REG.key _
  rw [clrk_reg_key, clrk_cond_key]
  omega

theorem lfsr_apart_pc (w x : Nat) : AllApart [(F.CLRK_COND_LFSR, w, x)] F.CLRK_PC_PC w := by
  intro e he
  obtain rfl := List.mem_singleton.1 he
  refine ⟨.inl ?_, show 16 + 16 ≤ 32 by decide⟩
  show R.CLRK_COND.key _ ≠ R.CLRK_PC.key _
  rw [clrk_cond_key, clrk_pc_key]
  omega

theorem execClrkRnd_wrote (s : State) (w v : Nat) (h : Executes s w 0xB v) :
    ∃ u x, x < 65536 ∧ Wrote s u ([(F.CLRK_COND_LFSR, w, x)] ++ toG w (mwRd v) x ++ toNext s w)
      ∧ execClrkRnd w s = .next { u with fresh := s.fresh + 1 } := by
  have hu := ((Wrote.setF s F.CLRK_COND_LFSR w (s.freeVal % 65536) (by decide)).setG w (mwRd v) (s.freeVal % 65536)
    (lfsr_apart_reg w _ _)).nextPc w
    ((AllApart.append _ _ _ _).2 ⟨lfsr_apart_pc w _, toG_apart_pc w _ _⟩)
  refine ⟨_, _, Nat.mod_lt _ (by decide), hu, (h.micro _).trans ?_⟩
  rw [← hu.tookFree, ← State.tookFree_nextPc, ← State.tookFree_setG, ← State.tookFree_setF]

theorem execClrkNop_wrote (s : State) (w v : Nat) (h : Executes s w 0 v) : ∃ t, execClrkNop w s = .next t ∧ Wrote s t (toNext s w) :=
  ⟨_, h.micro _, (Wrote.nil s).nextPc w (by simp)⟩

theorem execClrkLdp_word (s : State) (w v : Nat) (h : Executes s w 0xC v) (x : Nat) (hx : (s.clerk w).words[mwImm v]? = some x) :
    ∃ t, execClrkLdp w s = .next t ∧ Wrote s t (toG w (mwRd v) x ++ toNext s w) := by
  refine ⟨_, h.micro _, ?_⟩
  rw [hx]
  exact ((Wrote.nil s).setG w _ _ (by simp)).nextPc w (by simp)

theorem execClrkLdp_undefined (s : State) (w v : Nat) (h : Executes s w 0xC v) (hx : (s.clerk w).words[mwImm v]? = none) :
    ∃ u x, Wrote s u (toG w (mwRd v) x ++ toNext s w) ∧ execClrkLdp w s = .next { u with fresh := s.fresh + 1 } := by
  have hu := ((Wrote.nil s).setG w (mwRd v) s.freeVal (by simp)).nextPc w (by simp)
  refine ⟨_, _, hu, (h.micro _).trans ?_⟩
  rw [hx, ← hu.tookFree, ← State.tookFree_nextPc, ← State.tookFree_setG]

/-! ### The microwords of control -/

theorem maskOf_four (p : Nat → Bool) : maskOf 4 p = b2n (p 0) + 2 * b2n (p 1) + 4 * b2n (p 2) + 8 * b2n (p 3) := by
  cases h0 : p 0 <;> cases h1 : p 1 <;> cases h2 : p 2 <;> cases h3 : p 3 <;>
    simp [maskOf, idxs, List.range_succ, h0, h1, h2, h3, b2n]

/-- One bit of a word as a number. -/
theorem bits_one (v i : Nat) : bits v i 1 = b2n (bit v i) := by
  rw [bits_eq, bit, Nat.testBit_eq_decide_div_mod_eq, b2n]
  split <;> simp_all

theorem execClrkMbr_wrote (s : State) (w v : Nat) (h : Executes s w 0x30 v) : ∃ t, execClrkMbr w s = .next t
    ∧ Wrote s t ((if bit v 0 then toG w 14 (s.fld F.CLRK_PC_PC w + 1) else []) ++ [(F.CLRK_PC_PC, w, bits v 13 13 |||
      maskOf 4 fun k => bits v (1 + 3 * k) 3 != 0 && bit (s.fld F.CLRK_COND_FLAGS w) (bits v (1 + 3 * k) 3))]) := by
  have hflag : ∀ k, (if bits v (1 + 3 * k) 3 = 0 then 0 else bits (s.fld F.CLRK_COND_FLAGS w) (bits v (1 + 3 * k) 3) 1)
      = b2n (bits v (1 + 3 * k) 3 != 0 && bit (s.fld F.CLRK_COND_FLAGS w) (bits v (1 + 3 * k) 3)) := fun k => by
    rw [bits_one]
    split <;> simp_all [b2n]
  refine ⟨_, h.micro _, ?_⟩
  rw [maskOf_four]
  dsimp only
  rw [hflag, hflag, hflag, hflag]
  split
  · exact ((Wrote.nil s).setG w 14 _ (by simp)).snoc F.CLRK_PC_PC w _ (by decide) (toG_apart_pc w 14 _)
  · exact Wrote.setF s _ _ _ (by decide)

theorem execClrkJr_wrote (s : State) (w v : Nat) (h : Executes s w 0x31 v) :
    ∃ t, execClrkJr w s = .next t ∧ Wrote s t [(F.CLRK_PC_PC, w, s.greg w (mwRa v))] :=
  ⟨_, h.micro _, Wrote.setF s _ _ _ (by decide)⟩

end Sys2Proof.Machine

namespace Sys2Proof.Machine

/-! ### The stores of a Clerk, and the counters of the Ledger -/

@[simp] theorem State.putClerk_clerk (s : State) (w : Nat) (c : Clerk) : (s.putClerk w c).clerk w = c := Tab.get_set_same _ _ _ _
@[simp] theorem State.putClerk_regs (s : State) (w : Nat) (c : Clerk) : (s.putClerk w c).regs = s.regs := (rfl)
@[simp] theorem State.putClerk_rd (s : State) (w : Nat) (c : Clerk) (q : Reg) (j : Nat) : (s.putClerk w c).rd q j = s.rd q j := (rfl)
@[simp] theorem State.putClerk_fld (s : State) (w : Nat) (c : Clerk) (f : Fld) (j : Nat) : (s.putClerk w c).fld f j = s.fld f j := (rfl)
@[simp] theorem State.putClerk_arrays (s : State) (w : Nat) (c : Clerk) : (s.putClerk w c).arrays = s.arrays := (rfl)
@[simp] theorem State.setF_clerk (s : State) (f : Fld) (i v w : Nat) : (s.setF f i v).clerk w = s.clerk w := (rfl)

theorem State.putClerk_setF (s : State) (w : Nat) (c : Clerk) (f : Fld) (i v : Nat) :
    (s.putClerk w c).setF f i v = (s.setF f i v).putClerk w c := (rfl)

/-- What the registers become is a matter of the register file alone. -/
theorem RegsBecome.of_regs {s t u : State} {l : List (Fld × Nat × Nat)} (h : RegsBecome s t l) (hr : u.regs = t.regs) : RegsBecome s u l where
  holds e he := (State.fld_congr hr _ _).trans (h.holds e he)
  keeps f j hf ha := (State.fld_congr hr _ _).trans (h.keeps f j hf ha)

section
variable (s : State) {lo hi : Reg} (i n : Nat)

theorem State.count64_rd {q : Reg} {j : Nat} (hlo : q.key j ≠ lo.key i) (hhi : q.key j ≠ hi.key i) : (s.count64 lo hi i n).rd q j = s.rd q j := by
  unfold State.count64 State.wr64
  rw [State.rd_wr_ne _ _ hhi, State.rd_wr_ne _ _ hlo]

theorem State.count64_fld {f : Fld} {j : Nat} (hlo : f.reg.key j ≠ lo.key i) (hhi : f.reg.key j ≠ hi.key i) :
    (s.count64 lo hi i n).fld f j = s.fld f j := by
  unfold State.fld
  rw [s.count64_rd _ _ hlo hhi]

theorem State.count64_rd64 (h : lo.key i ≠ hi.key i) : (s.count64 lo hi i n).rd64 lo hi i = min (s.rd64 lo hi i + n) (2 ^ 64 - 1) := by
  have hlt : min (s.rd64 lo hi i + n) (2 ^ 64 - 1) < 2 ^ 64 := (Nat.min_le_right _ _).trans_lt (by decide)
  unfold State.count64 State.wr64
  rw [State.rd64, State.rd_wr_ne _ _ h, State.rd_wr_same, State.rd_wr_same]
  omega

end

theorem ldg_stat_keys (g k : Nat) (_hk : k < 8) :
    R.LDG_STAT_LO.key (k + 8 * g) = 0x28006000 + 8 * k + 64 * g ∧ R.LDG_STAT_HI.key (k + 8 * g) = 0x28006004 + 8 * k + 64 * g := by
  have hlo : R.LDG_STAT_LO.key (k + 8 * g) = 0x28006000 + ((k + 8 * g) % 8 * 8 + (k + 8 * g) / 8 * 0x40) := (rfl)
  have hhi : R.LDG_STAT_HI.key (k + 8 * g) = 0x28006004 + ((k + 8 * g) % 8 * 8 + (k + 8 * g) / 8 * 0x40) := (rfl)
  rw [hlo, hhi]
  omega

theorem State.putClerk_nextPc (s : State) (w v : Nat) (c : Clerk) : (s.putClerk w c).nextPc v = (s.nextPc v).putClerk w c := by
  unfold State.nextPc
  rw [State.putClerk_fld, State.putClerk_setF]
@[simp] theorem State.putClerk_flag (s : State) (w : Nat) (c : Clerk) (f : Fld) (j : Nat) : (s.putClerk w c).flag f j = s.flag f j := by
  rw [State.flag, State.putClerk_fld, State.flag]
@[simp] theorem State.nextPc_arrays (s : State) (w : Nat) : (s.nextPc w).arrays = s.arrays := by
  rw [State.nextPc, State.setF_arrays]
@[simp] theorem State.nextPc_clerk (s : State) (v w : Nat) : (s.nextPc v).clerk w = s.clerk w := by
  rw [State.nextPc, State.setF_clerk]

theorem slotLedger_lt (v : Nat) : slotLedger v < 16 := bits_lt v _ _

@[simp] theorem State.ledgerStat_arrays (s : State) (g k : Nat) : (s.ledgerStat g k).arrays = s.arrays := by
  simp only [State.ledgerStat, State.count64, State.wr64, State.wr_arrays]

/-- A ledger's counters lie between 0x28006000 and 0x28006400. -/
theorem State.ledgerStat_fld (s : State) {g k : Nat} (hg : g < 16) (hk : k < 8) {f : Fld} {j : Nat}
    (h : f.reg.key j < 0x28006000 ∨ 0x28006400 ≤ f.reg.key j) : (s.ledgerStat g k).fld f j = s.fld f j := by
  obtain ⟨hlo, hhi⟩ := ldg_stat_keys g k hk
  exact s.count64_fld _ _ (by omega) (by omega)

theorem State.ledgerStat_rd (s : State) {g k : Nat} (hg : g < 16) (hk : k < 8) {q : Reg} {j : Nat}
    (h : q.key j < 0x28006000 ∨ 0x28006400 ≤ q.key j) : (s.ledgerStat g k).rd q j = s.rd q j := by
  obtain ⟨hlo, hhi⟩ := ldg_stat_keys g k hk
  exact s.count64_rd _ _ (by omega) (by omega)

theorem State.ledgerStat_counted (s : State) (g : Nat) {k : Nat} (hk : k < 8) :
    (s.ledgerStat g k).rd64 R.LDG_STAT_LO R.LDG_STAT_HI (k + 8 * g)
      = min (s.rd64 R.LDG_STAT_LO R.LDG_STAT_HI (k + 8 * g) + 1) (2 ^ 64 - 1) := by
  obtain ⟨hlo, hhi⟩ := ldg_stat_keys g k hk
  exact s.count64_rd64 _ _ (by omega)

theorem State.nextPc_pc (s : State) (w : Nat) : (s.nextPc w).fld F.CLRK_PC_PC w = (s.fld F.CLRK_PC_PC w + 1) % 8192 :=
  s.fld_setF_same _ _ _ (by decide)

theorem State.nextPc_rd (s : State) (w : Nat) {q : Reg} {j : Nat} (h : q.key j < 0x2c000000) : (s.nextPc w).rd q j = s.rd q j := by
  refine s.rd_setF_ne _ ?_
  show q.key j ≠ R.CLRK_PC.key w
  rw [clrk_pc_key]
  omega

theorem State.nextPc_fld (s : State) (w : Nat) {f : Fld} {j : Nat} (h : f.reg.key j < 0x2c000000) : (s.nextPc w).fld f j = s.fld f j :=
  congrArg (bits · f.lo f.wd) (s.nextPc_rd w h)

/-! ### CMT, RPT and DONE -/

theorem clrk_pc_fields_separate (w x y : Nat) : Separate (F.CLRK_PC_RESUME, w, x) (F.CLRK_PC_PC, w, y) :=
  .inr ⟨rfl, rfl, show 0 + 13 ≤ 16 ∨ 16 + 13 ≤ 0 by decide⟩

theorem execClrkCmt_commits (s : State) (w v : Nat) (cur : Cursor) (h : Executes s w 0x32 v) (hc : s.cursorNow w (mwImm v % 8192) = cur) :
    ∃ t, execClrkCmt w s = .next t
      ∧ RegsBecome s t ([(F.CLRK_PC_RESUME, w, mwImm v % 8192), (F.CLRK_PC_PC, w, s.fld F.CLRK_PC_PC w + 1)]
          ++ (if s.flag F.CLRK_CTL_HALT w then [(F.CLRK_STATUS_STATE, w, 3)] else []))
      ∧ (t.clerk w).last = cur ∧ (t.clerk w).first = some ((s.clerk w).first.getD cur) ∧ (t.clerk w).wrote = false ∧ t.arrays = s.arrays := by
  subst hc
  have hw : Wrote s ((s.setF F.CLRK_PC_RESUME w (mwImm v % 8192)).nextPc w) _ :=
    (Wrote.setF s F.CLRK_PC_RESUME w (mwImm v % 8192) (by decide)).nextPc w (by simpa using ⟨clrk_pc_fields_separate w _ 0, by decide⟩)
  have hs : AllApart ([(F.CLRK_PC_RESUME, w, mwImm v % 8192)] ++ toNext s w) F.CLRK_STATUS_STATE w := by
    have hne : R.CLRK_PC.key w ≠ R.CLRK_STATUS.key w := by
      rw [clrk_pc_key, clrk_status_key]
      omega
    simp only [toNext, AllApart.append, AllApart.cons, AllApart.nil, and_true]
    exact ⟨⟨.inl hne, by decide⟩, .inl hne, by decide⟩
  have hctl : ((s.setF F.CLRK_PC_RESUME w (mwImm v % 8192)).nextPc w).flag F.CLRK_CTL_HALT w = s.flag F.CLRK_CTL_HALT w := by
    have hne : R.CLRK_PC.key w ≠ R.CLRK_CTL.key w := by
      rw [clrk_pc_key, clrk_ctl_key]
      omega
    unfold State.flag
    rw [hw.fld_apart (by decide)]
    simp only [toNext, AllApart.append, AllApart.cons, AllApart.nil, and_true]
    exact ⟨⟨.inl hne, by decide⟩, .inl hne, by decide⟩
  refine ⟨_, h.micro _, ?_⟩
  dsimp only
  rw [State.putClerk_nextPc, State.putClerk_flag, hctl]
  split
  · rw [State.putClerk_setF]
    simp only [State.putClerk_clerk, State.putClerk_arrays, State.setF_arrays, State.nextPc_arrays, and_true]
    exact ((hw.snoc F.CLRK_STATUS_STATE w 3 (by decide) hs).regs.of_regs (State.putClerk_regs _ _ _)).of_regs (State.putClerk_regs _ _ _)
  · simp only [State.putClerk_clerk, State.putClerk_arrays, State.setF_arrays, State.nextPc_arrays, and_true]
    exact hw.regs.of_regs (State.putClerk_regs _ _ _)

theorem State.fld_inc_ne (s : State) {f g : Fld} {i j : Nat} (h : g.reg.key j ≠ f.reg.key i) : (s.inc f i).fld g j = s.fld g j := s.fld_setF_ne _ h

/-- What RPT 0 records and counts of an eviction (R307). -/
theorem State.reportEvict_records (s : State) (g b p : Nat) (hg : g < 16) (hb : b < 262144) (hp : p < 4) :
    (s.reportEvict g b p).fld F.LDG_STATUS_EVICT 0 = 1
      ∧ (s.reportEvict g b p).fld F.LDG_STATUS_EVICT_COUNT 0 = satBits 8 (s.fld F.LDG_STATUS_EVICT_COUNT 0 + 1)
      ∧ (s.reportEvict g b p).rd R.LDG_EVICT_LAST 0 = 4 * b + p + 2 ^ 24 * g
      ∧ ∀ w, (s.reportEvict g b p).fld F.CLRK_PC_PC w = s.fld F.CLRK_PC_PC w := by
  have hlow : ∀ q : Reg, q.key 0 < 0x28006000 → (s.reportEvict g b p).rd q 0
      = (((s.setF F.LDG_STATUS_EVICT 0 1).inc F.LDG_STATUS_EVICT_COUNT 0).wr R.LDG_EVICT_LAST 0 (4 * b + p + 2 ^ 24 * g)).rd q 0 := fun q hq => by
    rw [State.reportEvict, State.note_rd, State.ledgerStat_rd _ hg (by decide) (.inl hq)]
  have hcount : satBits 8 (s.fld F.LDG_STATUS_EVICT_COUNT 0 + 1) < 2 ^ 8 := (Nat.min_le_right _ _).trans_lt (by decide)
  have hother : (s.setF F.LDG_STATUS_EVICT 0 1).fld F.LDG_STATUS_EVICT_COUNT 0 = s.fld F.LDG_STATUS_EVICT_COUNT 0 :=
    s.fld_setF_other _ _ _ _ rfl (by decide) (by decide)
  refine ⟨?_, ?_, ?_, fun w => ?_⟩
  · rw [State.fld, hlow _ (by decide), State.rd_wr_ne _ _ (by decide)]
    exact (State.fld_setF_other _ F.LDG_STATUS_EVICT_COUNT F.LDG_STATUS_EVICT _ _ rfl (by decide) (by decide)).trans
      (s.fld_setF_same _ _ _ (by decide))
  · rw [State.fld, hlow _ (by decide), State.rd_wr_ne _ _ (by decide)]
    refine (State.fld_setF_same _ F.LDG_STATUS_EVICT_COUNT _ _ (by decide)).trans ?_
    rw [hother]
    exact Nat.mod_eq_of_lt hcount
  · rw [hlow _ (by decide), State.rd_wr_same]
    omega
  · have hpc : F.CLRK_PC_PC.reg.key w = 0x2c000008 + w * 0x10000 := clrk_pc_key w
    have hst : F.LDG_STATUS_EVICT.reg.key 0 = 0x28000010 := (rfl)
    have hlast : R.LDG_EVICT_LAST.key 0 = 0x28000018 := (rfl)
    rw [State.reportEvict, State.note_fld, State.ledgerStat_fld _ hg (by decide) (.inr (by omega)),
      State.fld_wr_ne _ _ (show F.CLRK_PC_PC.reg.key w ≠ R.LDG_EVICT_LAST.key 0 by omega)]
    have hne : F.CLRK_PC_PC.reg.key w ≠ F.LDG_STATUS_EVICT.reg.key 0 := by omega
    rw [State.fld_inc_ne (f := F.LDG_STATUS_EVICT_COUNT) _ hne, State.fld_setF_ne _ _ hne]

theorem State.reportEvict_arrays (s : State) (g b p : Nat) : (s.reportEvict g b p).arrays = s.arrays := by
  simp only [State.reportEvict, State.note_arrays, State.ledgerStat_arrays, State.wr_arrays, State.inc_arrays, State.setF_arrays]

theorem execClrkRpt_evicted (s : State) (w v n : Nat) (h : Executes s w 0x33 v)
    (hn : n = 4 * (s.greg w (mwRa v) % 262144) + s.greg w (mwRb v) % 4) (h0 : mwImm v = 0) :
    ∃ t, execClrkRpt w s = .next t ∧ t.fld F.LDG_STATUS_EVICT 0 = 1
      ∧ t.fld F.LDG_STATUS_EVICT_COUNT 0 = satBits 8 (s.fld F.LDG_STATUS_EVICT_COUNT 0 + 1)
      ∧ t.rd R.LDG_EVICT_LAST 0 = n + 2 ^ 24 * slotLedger (s.slot (w % 4) n) ∧ t.arrays = s.arrays
      ∧ t.fld F.CLRK_PC_PC w = (s.fld F.CLRK_PC_PC w + 1) % 8192 := by
  subst hn
  obtain ⟨hev, hcount, hlast, hpc⟩ := s.reportEvict_records (slotLedger (s.slot (w % 4) (4 * (s.greg w (mwRa v) % 262144) + s.greg w (mwRb v) % 4)))
    (s.greg w (mwRa v) % 262144) (s.greg w (mwRb v) % 4) (slotLedger_lt _) (Nat.mod_lt _ (by decide)) (Nat.mod_lt _ (by decide))
  refine ⟨_, h.micro _, ?_⟩
  dsimp only [State.atRegs]
  rw [if_pos h0, State.nextPc_fld _ _ (show F.LDG_STATUS_EVICT.reg.key 0 < 0x2c000000 by decide),
    State.nextPc_fld _ _ (show F.LDG_STATUS_EVICT_COUNT.reg.key 0 < 0x2c000000 by decide),
    State.nextPc_rd _ _ (show R.LDG_EVICT_LAST.key 0 < 0x2c000000 by decide), State.nextPc_pc, State.nextPc_arrays, hpc]
  exact ⟨hev, hcount, hlast, State.reportEvict_arrays _ _ _ _, rfl⟩

theorem execClrkRpt_aged (s : State) (w v g : Nat) (h : Executes s w 0x33 v) (h1 : mwImm v = 1)
    (hg : slotLedger ((s.imageOf w 0).getD (s.greg w (mwRb v) % 4) 0) = g) :
    ∃ t, execClrkRpt w s = .next t
      ∧ t.rd64 R.LDG_STAT_LO R.LDG_STAT_HI (5 + 8 * g) = min (s.rd64 R.LDG_STAT_LO R.LDG_STAT_HI (5 + 8 * g) + 1) (2 ^ 64 - 1)
      ∧ t.arrays = s.arrays ∧ t.fld F.CLRK_PC_PC w = (s.fld F.CLRK_PC_PC w + 1) % 8192 := by
  have hlt : g < 16 := hg ▸ slotLedger_lt _
  obtain ⟨hlo, hhi⟩ := ldg_stat_keys g 5 (by decide)
  refine ⟨_, h.micro _, ?_⟩
  dsimp only [State.atRegs]
  rw [if_neg (by omega), if_pos h1, hg]
  refine ⟨?_, rfl, ?_⟩
  · rw [State.rd64, State.nextPc_rd _ _ (by omega), State.nextPc_rd _ _ (by omega)]
    exact s.ledgerStat_counted g (by decide)
  · rw [State.nextPc_pc, State.ledgerStat_fld _ hlt (by decide) (.inr _)]
    show 0x28006400 ≤ R.CLRK_PC.key w
    rw [clrk_pc_key]
    omega

theorem execClrkRpt_other (s : State) (w v : Nat) (h : Executes s w 0x33 v) (h1 : 1 < mwImm v) :
    ∃ t, execClrkRpt w s = .next t ∧ Wrote s t (toNext s w) := by
  refine ⟨_, h.micro _, ?_⟩
  dsimp only
  rw [if_neg (by omega), if_neg (by omega)]
  exact (Wrote.nil s).nextPc w (by simp)

theorem execClrkDone_waits (s : State) (w v : Nat) (h : Executes s w 0x34 v) (hp : (s.clerk w).posted ≠ []) : execClrkDone w s = .next s := by
  refine (h.micro _).trans ?_
  rw [if_pos (by simpa using hp)]

/-- A Clerk whose HALT is 0 does not halt. -/
theorem State.haltIdle_running (s : State) (w : Nat) (h : s.flag F.CLRK_CTL_HALT w = false) : s.haltIdle w = s := by
  rw [State.haltIdle, h]
  rfl

theorem execClrkDone_idle (s : State) (w v : Nat) (h : Executes s w 0x34 v) (hp : (s.clerk w).posted = []) (hwk : (s.clerk w).work = none)
    (ho : (s.clerk w).overran = false) (hh : s.flag F.CLRK_CTL_HALT w = false) :
    ∃ t, execClrkDone w s = .next t ∧ RegsBecome s t [(F.CLRK_STATUS_STATE, w, 0)]
      ∧ t.clerk w = { s.clerk w with work := none, words := [], wrote := false, first := none, last := {}, urgent := 0 } ∧ t.arrays = s.arrays := by
  refine ⟨_, h.micro _, ?_⟩
  dsimp only
  rw [if_neg (by simp [hp]), hwk, ho]
  simp only [Bool.false_and, Bool.false_eq_true, if_false]
  rw [State.haltIdle_running]
  · exact ⟨(Wrote.setF s _ _ _ (by decide)).regs.of_regs rfl, State.putClerk_clerk _ _ _, rfl⟩
  · unfold State.flag at hh ⊢
    rw [State.putClerk_fld, State.fld_setF_ne]
    · exact hh
    · show R.CLRK_CTL.key w ≠ R.CLRK_STATUS.key w
      rw [clrk_ctl_key, clrk_status_key]
      omega

/-- Settles O32: each microword is read off the register fields it writes; reads and writes of the Clerk's registers lie at keys of their own. -/
theorem arithmeticAndControlMicrowords : Obligations.ArithmeticAndControlMicrowords := by
  unfold Obligations.ArithmeticAndControlMicrowords
  refine ⟨fun s w v => ⟨fun op i f hi h x hx => exec_arithmetic s w v op i f hi h x hx, execClrkDec_wrote s w v, execClrkBclr_wrote s w v,
      fun h => ⟨execClrkFfs_found s w v h, execClrkFfs_zero s w v h⟩, execClrkRnd_wrote s w v, execClrkNop_wrote s w v,
      fun h => ⟨execClrkLdp_word s w v h, execClrkLdp_undefined s w v h⟩⟩,
    fun s w v => ⟨execClrkMbr_wrote s w v, execClrkJr_wrote s w v, fun cur => execClrkCmt_commits s w v cur,
      fun n h hn => ⟨execClrkRpt_evicted s w v n h hn, fun g h1 hg => execClrkRpt_aged s w v g h h1 hg, execClrkRpt_other s w v h⟩,
      fun h => ⟨execClrkDone_waits s w v h, execClrkDone_idle s w v h⟩⟩⟩

end Sys2Proof.Machine

namespace Sys2Proof.Machine

/-! ### Whole registers and images -/

/-- The words of KR lie at keys of their own. -/
theorem clrk_kr_ne {i j : Nat} (h : i ≠ j) : R.CLRK_KR.key i ≠ R.CLRK_KR.key j := by
  rw [clrk_kr_key, clrk_kr_key]
  omega

theorem clrk_image_key (i : Nat) : R.CLRK_IMAGE.key i = 0x2c000400 + (i % 16 * 4 + (i / 16 % 4 * 0x40 + i / 16 / 4 * 0x10000)) := (rfl)

/-- The field of all bits of a register is the register. -/
theorem State.fld_word (s : State) (q : Reg) (i : Nat) (h : q.rst i < 2 ^ 32) : s.fld ⟨q, 0, 32⟩ i = s.rd q i := by
  unfold State.fld
  rw [bits_eq, Nat.pow_zero, Nat.div_one, Nat.mod_eq_of_lt (s.rd_lt _ _ h)]

/-- A write of a whole register on top of a list of writes. -/
theorem Wrote.wr {s t : State} {l : List (Fld × Nat × Nat)} (h : Wrote s t l) (q : Reg) (i v : Nat) (ha : AllApart l ⟨q, 0, 32⟩ i) :
    Wrote s (t.wr q i v) (l ++ [(⟨q, 0, 32⟩, i, v)]) := by
  rw [State.wr_eq_setF]
  exact h.snoc _ _ _ (show 0 + 32 ≤ 32 by decide) ha

theorem Wrote.clerk {s t : State} {l : List (Fld × Nat × Nat)} (h : Wrote s t l) (w : Nat) : t.clerk w = s.clerk w := by
  rw [h.rest]
  rfl

/-- Writes of registers of one set lie apart from the fields of another register. -/
theorem AllApart.words (q : Reg) (n : Nat) (f v : Nat → Nat) (g : Fld) (i : Nat) (h : ∀ k, k < n → q.key (f k) ≠ g.reg.key i) :
    AllApart ((List.range n).map fun k => ((⟨q, 0, 32⟩ : Fld), f k, v k)) g i := by
  intro e he
  obtain ⟨k, hk, rfl⟩ := List.mem_map.1 he
  exact ⟨.inl (h k (List.mem_range.1 hk)), show 0 + 32 ≤ 32 by decide⟩

/-- Words of one register set, at instances of different keys, written one after the other. -/
theorem Wrote.words (s : State) (q : Reg) (n : Nat) (f v : Nat → Nat) (h : ∀ i j, i < j → j < n → q.key (f i) ≠ q.key (f j)) :
    Wrote s (s.setAll ((List.range n).map fun k => (⟨q, 0, 32⟩, f k, v k))) ((List.range n).map fun k => (⟨q, 0, 32⟩, f k, v k)) := by
  refine Wrote.setAll s _ (fun e he => ?_) (wordWrites_separate q n f v h)
  obtain ⟨k, -, rfl⟩ := List.mem_map.1 he
  exact show 0 + 32 ≤ 32 by decide

/-! ### LDK and HASH -/

/-- What LDK writes of KR: its head, its RESULT and the words of its key (log entry 30 for the place of the flags). -/
def krWrites (s : State) (w : Nat) (l : Learn) : List (Fld × Nat × Nat) :=
  [(F.CLRK_KR_VALUE, 13 * w, l.ledger + 256 * s.ledgerSpan l.ledger + 65536 * (2 * b2n l.move)), (F.CLRK_KR_VALUE, 1 + 13 * w, l.result)]
    ++ (List.range 11).map fun k => (F.CLRK_KR_VALUE, 2 + k + 13 * w, leAt (padKey (s.keyBytes l.ledger) l.key) (4 * k) 4)

theorem State.krWrites_wrote (s : State) (w : Nat) (l : Learn) : Wrote s (s.setAll (krWrites s w l)) (krWrites s w l) := by
  refine Wrote.setAll s _ (fun e he => ?_) ?_
  · simp only [krWrites, List.mem_append, List.mem_cons, List.not_mem_nil, or_false, List.mem_map] at he
    obtain (rfl | rfl) | ⟨k, -, rfl⟩ := he <;> exact show 0 + 32 ≤ 32 by decide
  · have hhead : Separate (F.CLRK_KR_VALUE, 13 * w, l.ledger + 256 * s.ledgerSpan l.ledger + 65536 * (2 * b2n l.move))
        (F.CLRK_KR_VALUE, 1 + 13 * w, l.result) := .inl (clrk_kr_ne (show 13 * w ≠ 1 + 13 * w by omega))
    refine List.pairwise_append.2 ⟨by simpa using hhead, wordWrites_separate _ _ (fun k => 2 + k + 13 * w) _ fun i j hij _ => clrk_kr_ne (by omega), fun e he d hd => ?_⟩
    obtain ⟨k, -, rfl⟩ := List.mem_map.1 hd
    simp only [List.mem_cons, List.not_mem_nil, or_false] at he
    obtain rfl | rfl := he
    · exact .inl (clrk_kr_ne (i := 13 * w) (j := 2 + k + 13 * w) (by omega))
    · exact .inl (clrk_kr_ne (i := 1 + 13 * w) (j := 2 + k + 13 * w) (by omega))

theorem krWrites_apart_pc (s : State) (w : Nat) (l : Learn) : AllApart (krWrites s w l) F.CLRK_PC_PC w := by
  have hne : ∀ i, R.CLRK_KR.key i ≠ R.CLRK_PC.key w := fun i => by
    rw [clrk_kr_key, clrk_pc_key]
    omega
  refine (AllApart.append _ _ _ _).2 ⟨?_, AllApart.words _ _ (fun k => 2 + k + 13 * w) _ _ _ fun k _ => hne _⟩
  simp only [AllApart.cons, AllApart.nil, and_true]
  exact ⟨⟨.inl (hne _), show 0 + 32 ≤ 32 by decide⟩, .inl (hne _), show 0 + 32 ≤ 32 by decide⟩

theorem execClrkLdk_loads (s : State) (w v : Nat) (l : Learn) (h : Executes s w 0xD v) (hl : (s.clerk w).work = some l) :
    ∃ t, execClrkLdk w s = .next t ∧ Wrote s t (krWrites s w l ++ toNext s w) := by
  have hkr := s.krWrites_wrote w l
  rw [krWrites, State.setAll_append] at hkr
  refine ⟨_, h.micro _, ?_⟩
  rw [hl]
  dsimp only
  rw [State.each_wr _ _ _ (fun k => 2 + k + 13 * w), State.wr_eq_setF, State.wr_eq_setF]
  exact hkr.nextPc w (krWrites_apart_pc s w l)

theorem execClrkHash_buckets (s : State) (w v : Nat) (c : Nat × Nat) (h : Executes s w 0x10 v) (hc : s.candidates (s.krLedger w) (s.krKey w) = c) :
    ∃ t, execClrkHash w s = .next t ∧ Wrote s t (toG w 1 c.1 ++ toG w 2 c.2 ++ toNext s w) := by
  subst hc
  exact ⟨_, h.micro _, (((Wrote.nil s).setG w 1 _ (by simp)).setG w 2 _ (by simp [toG_apart_reg])).nextPc w (by simp)⟩

/-! ### RDB -/

theorem State.slot_lt (s : State) (r n : Nat) : s.slot r n < 2 ^ 128 := by
  have h := leNat_lt (s.arr (slotAt r n) 16)
  rw [State.arr, Tab.getList, List.length_map, List.length_range] at h
  exact h

/-- A value of 128 bits from its four words. -/
theorem words_whole {v : Nat} (hv : v < 2 ^ 128) : (List.range 4).foldl (fun a j => a + bits v (32 * j) 32 * 2 ^ (32 * j)) 0 = v := by
  have h1 : v % (2 ^ 32 * 2 ^ 32) = v % 2 ^ 32 + 2 ^ 32 * (v / 2 ^ 32 % 2 ^ 32) := Nat.mod_mul
  have h2 : v % (2 ^ 64 * 2 ^ 32) = v % 2 ^ 64 + 2 ^ 64 * (v / 2 ^ 64 % 2 ^ 32) := Nat.mod_mul
  have h3 : v % (2 ^ 96 * 2 ^ 32) = v % 2 ^ 96 + 2 ^ 96 * (v / 2 ^ 96 % 2 ^ 32) := Nat.mod_mul
  rw [← Nat.pow_add] at h1 h2 h3
  calc
    _ = v % 2 ^ 32 + 2 ^ 32 * (v / 2 ^ 32 % 2 ^ 32) + 2 ^ 64 * (v / 2 ^ 64 % 2 ^ 32) + 2 ^ 96 * (v / 2 ^ 96 % 2 ^ 32) := by
      simp [List.range_succ, bits_eq, Nat.mul_comm]
    _ = v % 2 ^ 128 := by rw [← h1, ← h2, ← h3]
    _ = v := Nat.mod_eq_of_lt hv

theorem State.clerkRead_whole (s : State) (w b : Nat) (h : (s.bucket (w % 4) b).all slotOk = true) : s.clerkRead w b = (s, s.bucket (w % 4) b) := by
  have hr : (List.range 8).map (fun k => (w % 4 + k) % 8) = w % 4 :: (List.range 7).map fun k => (w % 4 + (k + 1)) % 8 := by
    have hw : (w % 4 + 0) % 8 = w % 4 := by omega
    rw [List.range_succ_eq_map, List.map_cons, List.map_map, hw]
    rfl
  unfold State.clerkRead
  simp only [hr, List.find?_cons, List.takeWhile_cons, h, Bool.not_true, Bool.false_eq_true, if_false]
  rfl

/-- The words that loading an image of four slots writes. -/
def imageWrites (w k : Nat) (img : List Nat) : List (Fld × Nat × Nat) :=
  (List.range 16).map fun n => (⟨R.CLRK_IMAGE, 0, 32⟩, n + 16 * k + 64 * w, bits (img.getD (n / 4) 0) (32 * (n % 4)) 32)

theorem image_keys (w k i j : Nat) (hi : i < 16) (hj : j < 16) (h : i ≠ j) :
    R.CLRK_IMAGE.key (i + 16 * k + 64 * w) ≠ R.CLRK_IMAGE.key (j + 16 * k + 64 * w) := by
  rw [clrk_image_key, clrk_image_key]
  omega

theorem imageWrites_wrote (s : State) (w k : Nat) (img : List Nat) : Wrote s (s.setAll (imageWrites w k img)) (imageWrites w k img) :=
  Wrote.words s _ _ (fun n => n + 16 * k + 64 * w) _ fun i j hij hj => image_keys w k i j (by omega) hj (by omega)

theorem State.loadImage_four (s : State) (w k b : Nat) (img : List Nat) (h : img.length = 4) :
    s.loadImage w k b img = (s.setAll (imageWrites w k img)).putClerk w { s.clerk w with buckets := (s.clerk w).buckets.set k b } := by
  have hslot : ∀ (e : Nat × Nat) (t : State),
      (t.each (List.range 4) fun j t => t.wr R.CLRK_IMAGE (4 * e.2 + j + 16 * k + 64 * w) (bits e.1 (32 * j) 32))
        = t.setAll ((List.range 4).map fun j => (⟨R.CLRK_IMAGE, 0, 32⟩, 4 * e.2 + j + 16 * k + 64 * w, bits e.1 (32 * j) 32)) :=
    fun e t => t.each_wr R.CLRK_IMAGE 4 (fun j => 4 * e.2 + j + 16 * k + 64 * w) fun j => bits e.1 (32 * j) 32
  have hall : (img.zipIdx.flatMap fun e => (List.range 4).map fun j =>
      ((⟨R.CLRK_IMAGE, 0, 32⟩ : Fld), 4 * e.2 + j + 16 * k + 64 * w, bits e.1 (32 * j) 32)) = imageWrites w k img := by
    obtain ⟨x0, x1, x2, x3, rfl⟩ := List.length_eq_four.1 h
    rfl
  unfold State.loadImage
  simp only [hslot, State.each_setAll]
  rw [hall, (imageWrites_wrote s w k img).clerk]

theorem imageWrites_apart (w k : Nat) (img : List Nat) {f : Fld} {i : Nat} (h : ∀ n, R.CLRK_IMAGE.key n ≠ f.reg.key i) : AllApart (imageWrites w k img) f i :=
  AllApart.words _ _ (fun n => n + 16 * k + 64 * w) _ _ _ fun _ _ => h _

theorem imageWrites_word (s : State) (w k : Nat) (img : List Nat) {p j : Nat} (hp : p < 4) (hj : j < 4) :
    (s.setAll (imageWrites w k img)).rd R.CLRK_IMAGE (4 * p + j + 16 * k + 64 * w) = bits (img.getD p 0) (32 * j) 32 := by
  have hm : ((⟨R.CLRK_IMAGE, 0, 32⟩ : Fld), 4 * p + j + 16 * k + 64 * w, bits (img.getD p 0) (32 * j) 32) ∈ imageWrites w k img :=
    List.mem_map.2 ⟨4 * p + j, List.mem_range.2 (by omega), by rw [show (4 * p + j) / 4 = p by omega, show (4 * p + j) % 4 = j by omega]⟩
  have hf := (imageWrites_wrote s w k img).fld _ _ _ hm
  rw [State.fld_word _ _ _ (show 0 < 2 ^ 32 by decide)] at hf
  exact hf.trans (Nat.mod_eq_of_lt (bits_lt (img.getD p 0) (32 * j) 32))

/-- An image loaded reads as what was loaded. -/
theorem imageWrites_image (s : State) (w k : Nat) {img : List Nat} (h : img.length = 4) (hlt : ∀ x ∈ img, x < 2 ^ 128) :
    (s.setAll (imageWrites w k img)).imageOf w k = img := by
  unfold State.imageOf
  refine List.ext_getElem (by simp [h]) fun p hp hp' => ?_
  rw [List.getElem_map, List.getElem_range]
  refine Eq.trans ?_ (words_whole (hlt _ (List.getElem_mem hp')))
  refine List.foldl_ext _ _ _ fun a j hj => ?_
  rw [imageWrites_word s w k img (by omega) (List.mem_range.1 hj), List.getD_eq_getElem _ _ hp']

theorem State.bucket_length (s : State) (r b : Nat) : (s.bucket r b).length = 4 := by simp [State.bucket]

theorem execClrkRdb_waits (s : State) (w v b : Nat) (h : Executes s w 0x11 v) (hb : s.greg w (mwRa v) % 262144 = b)
    (hp : (s.clerk w).posted.contains b = true) : execClrkRdb w s = .next s := by
  refine (h.micro _).trans ?_
  rw [hb, if_pos hp]

theorem execClrkRdb_loads (s : State) (w v b : Nat) (h : Executes s w 0x11 v) (hb : s.greg w (mwRa v) % 262144 = b)
    (hp : (s.clerk w).posted.contains b = false) (hok : (s.bucket (w % 4) b).all slotOk = true) (hl : (s.clerk w).buckets.length = 4) :
    ∃ t, execClrkRdb w s = .next t ∧ t.imageOf w (mwRd v % 4) = s.bucket (w % 4) b ∧ t.imageBucket w (mwRd v % 4) = b ∧ t.arrays = s.arrays
      ∧ t.fld F.CLRK_PC_PC w = (s.fld F.CLRK_PC_PC w + 1) % 8192 ∧ ∀ n, t.greg w n = s.greg w n := by
  have hw := imageWrites_wrote s w (mwRd v % 4) (s.bucket (w % 4) b)
  have himg := imageWrites_image s w (mwRd v % 4) (s.bucket_length (w % 4) b) fun x hx => by
    obtain ⟨p, -, rfl⟩ := List.mem_map.1 hx
    exact s.slot_lt _ _
  have hpc : ∀ n, R.CLRK_IMAGE.key n ≠ R.CLRK_PC.key w := fun n => by
    rw [clrk_image_key, clrk_pc_key]
    omega
  have hreg : ∀ n m, R.CLRK_IMAGE.key n ≠ R.CLRK_REG.key m := fun n m => by
    rw [clrk_image_key, clrk_reg_key]
    omega
  have hpr : ∀ m, R.CLRK_REG.key m ≠ R.CLRK_PC.key w := fun m => by
    rw [clrk_pc_key, clrk_reg_key]
    omega
  refine ⟨_, h.micro _, ?_⟩
  simp only [hb, hp, Bool.false_eq_true, if_false]
  rw [s.clerkRead_whole w b hok, State.loadImage_four _ _ _ _ _ (s.bucket_length _ _), State.putClerk_nextPc]
  refine ⟨?_, ?_, ?_, ?_, fun n => ?_⟩
  · refine Eq.trans ?_ himg
    unfold State.imageOf State.nextPc
    simp only [State.putClerk_rd]
    refine List.map_congr_left fun p _ => congrArg₂ (fun f l => List.foldl f 0 l) (funext fun a => funext fun j => ?_) rfl
    rw [State.rd_setF_ne _ _ (hpc _)]
  · unfold State.imageBucket
    rw [State.putClerk_clerk]
    have hk : mwRd v % 4 < (s.clerk w).buckets.length := by
      rw [hl]
      exact Nat.mod_lt _ (by decide)
    simp [List.getD, hk]
  · rw [State.putClerk_arrays, State.nextPc_arrays, hw.rest]
  · rw [State.putClerk_fld, State.nextPc_pc, hw.fld_apart (by decide) (imageWrites_apart _ _ _ hpc)]
  · unfold State.greg State.nextPc
    rw [State.putClerk_rd, State.rd_setF_ne _ _ (hpr _), ← State.fld_word _ _ _ (show 0 < 2 ^ 32 by decide),
      hw.fld_apart (show 0 + 32 ≤ 32 by decide) (imageWrites_apart _ _ _ fun m => hreg m _), State.fld_word _ _ _ (show 0 < 2 ^ 32 by decide)]

end Sys2Proof.Machine

namespace Sys2Proof.Machine

/-! ### SCAN -/

/-- The place of KR's key is told in G10, G3 and G12. -/
theorem Wrote.foundKey (s : State) (w b p x : Nat) :
    Wrote s ((((s.setG w 10 b).setG w 3 p).setG w 12 x).setFlag w 2 true) (toG w 10 b ++ toG w 3 p ++ toG w 12 x ++ toFlag w 2 true) :=
  (((((Wrote.nil s).setG w 10 b (by simp)).setG w 3 p (by simp [toG_apart_reg])).setG w 12 x (by simp [toG_apart_reg])).setFlag w true
    (by decide) (by simp))

/-- A free place is told in G13 and G4. -/
theorem Wrote.foundRoom {s t : State} {l : List (Fld × Nat × Nat)} (h : Wrote s t l) (w b p : Nat) (hb : AllApart l F.CLRK_REG_VALUE (13 + 16 * w))
    (hp : AllApart l F.CLRK_REG_VALUE (4 + 16 * w)) (hf : AllApart l ⟨R.CLRK_COND, 3, 1⟩ w) :
    Wrote s (((t.setG w 13 b).setG w 4 p).setFlag w 3 true) (l ++ (toG w 13 b ++ toG w 4 p) ++ toFlag w 3 true) := by
  rw [← List.append_assoc]
  exact ((h.setG w 13 b hb).setG w 4 p (by simp [hp, toG_apart_reg])).setFlag w true (by decide) (by simp [hf])

/-- Where a search of KR's key or of free space in E0 and E1 has found a place: the place is told, and a flag says that there is one. -/
theorem execClrkScan_key (s : State) (w v : Nat) (look room : Option (Nat × Nat)) (h : Executes s w 0x12 v) (hm : mwImm v = 0) :
    [0, 1].findSome? (fun k => (findIn (s.imageOf w k) (s.krLedger w) (s.krSpan w) (s.keyBytes (s.krLedger w)) (s.krKey w)).map fun p => (k, p))
      = look →
    [0, 1].findSome? (fun k => (freeIn (s.imageOf w k) (s.krSpan w)).map fun p => (k, p)) = room →
    ∃ t, execClrkScan w s = .next t
      ∧ Wrote s t ((match look with
          | some (k, p) => toG w 10 (s.imageBucket w k) ++ toG w 3 p ++ toG w 12 ((s.imageOf w k).getD p 0 % 2 ^ 32)
          | none => [])
        ++ toFlag w 2 look.isSome
        ++ (match room with
          | some (k, p) => toG w 13 (s.imageBucket w k) ++ toG w 4 p
          | none => [])
        ++ toFlag w 3 room.isSome ++ toNext s w) := by
  intro hlook hroom
  refine ⟨_, h.micro _, ?_⟩
  simp only [hm, State.scanKey, hlook, hroom]
  rcases look with _ | ⟨i, p⟩ <;> rcases room with _ | ⟨j, q⟩
  · exact (((Wrote.nil s).setFlag w false (k := 2) (by decide) (by simp)).setFlag w false (k := 3) (by decide)
      (by simp [toFlag_apart_flag])).nextPc w (by simp)
  · exact (Wrote.foundRoom (((Wrote.nil s).setFlag w false (k := 2) (by decide) (by simp))) w _ q (by simp [toFlag_apart_reg])
      (by simp [toFlag_apart_reg]) (by simp [toFlag_apart_flag])).nextPc w (by simp)
  · exact ((Wrote.foundKey s w (s.imageBucket w i) p ((s.imageOf w i).getD p 0 % 2 ^ 32)).setFlag w false (k := 3) (by decide)
      (by simp [toFlag_apart_flag])).nextPc w (by simp)
  · exact ((Wrote.foundKey s w (s.imageBucket w i) p ((s.imageOf w i).getD p 0 % 2 ^ 32)).foundRoom w (s.imageBucket w j) q
      (by simp [toG_apart_reg, toFlag_apart_reg]) (by simp [toG_apart_reg, toFlag_apart_reg]) (by simp [toFlag_apart_flag])).nextPc w (by simp)

theorem execClrkScan_room (s : State) (w v : Nat) (o : Option Nat) (h : Executes s w 0x12 v) (hm : mwImm v = 1) :
    freeIn (s.imageOf w (mwRd v % 4)) (s.krSpan w) = o →
    ∃ t, execClrkScan w s = .next t ∧ Wrote s t ((match o with
        | some p => toG w 4 p
        | none => []) ++ toFlag w 3 o.isSome ++ toNext s w) := by
  intro ho
  refine ⟨_, h.micro _, ?_⟩
  simp only [hm, ho]
  cases o with
  | none => exact ((Wrote.nil s).setFlag w false (by decide) (by simp)).nextPc w (by simp)
  | some p => exact (((Wrote.nil s).setG w 4 p (by simp)).setFlag w true (by decide) (by simp)).nextPc w (by simp)

theorem execClrkScan_neverEvicts (s : State) (w v : Nat) (h : Executes s w 0x12 v) (hm : mwImm v = 3)
    (he : s.fld F.LDG_LEDGER_CFG_EVICT (s.krLedger w) = 2) :
    ∃ t, execClrkScan w s = .next t ∧ Wrote s t (toFlag w 4 false ++ toNext s w) := by
  refine ⟨_, h.micro _, ?_⟩
  simp only [hm, State.scanEvict, State.pickEvict, he, if_true]
  exact ((Wrote.nil s).setFlag w false (by decide) (by simp)).nextPc w (by simp)

/-- A condition flag is bit `k` of FLAGS. -/
theorem State.flags_bit (s : State) (w : Nat) {k : Nat} (hk : k < 8) : bit (s.fld F.CLRK_COND_FLAGS w) k = (s.fld ⟨R.CLRK_COND, k, 1⟩ w == 1) := by
  have hbit : bit (s.fld F.CLRK_COND_FLAGS w) k = bit (s.rd R.CLRK_COND w) k := by
    show (bits (s.rd R.CLRK_COND w) 0 8).testBit k = _
    rw [bits_testBit, decide_eq_true hk, Bool.true_and, Nat.zero_add]
    rfl
  rw [hbit]
  show _ = (bits (s.rd R.CLRK_COND w) k 1 == 1)
  rw [bits_one]
  cases bit (s.rd R.CLRK_COND w) k <;> rfl

section
variable {s t : State} {l : List (Fld × Nat × Nat)} (h : Wrote s t l) (w : Nat)
include h

theorem Wrote.flags_bit {k : Nat} (b : Bool) (hk : k < 8) (hm : toFlag w k b ⊆ l) : bit (t.fld F.CLRK_COND_FLAGS w) k = b := by
  rw [t.flags_bit w hk, h.fld _ _ _ (hm List.mem_cons_self)]
  cases b <;> rfl

theorem Wrote.greg {n x : Nat} (hn : n ≠ 0) (hx : x < 2 ^ 32) (hm : toG w n x ⊆ l) : t.greg w n = x := by
  rw [toG, if_neg hn] at hm
  rw [State.greg, if_neg hn, ← State.fld_word _ _ _ (show 0 < 2 ^ 32 by decide)]
  exact (h.fld F.CLRK_REG_VALUE _ _ (hm List.mem_cons_self)).trans (Nat.mod_eq_of_lt hx)

theorem Wrote.arrays : t.arrays = s.arrays := by
  rw [h.rest]

end

theorem State.tookFree_greg (s : State) (w n : Nat) : s.tookFree.greg w n = s.greg w n := by
  rw [State.greg, State.tookFree_rd, State.greg]

theorem victims_lt {img : List Nat} {span b p : Nat} {path : List (Nat × Nat)} (h : p ∈ victims img span b path) : p < 4 :=
  List.mem_range.1 (List.mem_filter.1 h).1

theorem State.pickRandom_nil {α : Type} (s : State) : s.pickRandom ([] : List α) = none := (rfl)

/-- One of a list that is not empty is picked, with a free value. -/
theorem State.pickRandom_some {α : Type} (s : State) {l : List α} (h : l ≠ []) : ∃ x ∈ l, s.pickRandom l = some (s.tookFree, x) := by
  have hlt : s.freeVal % l.length < l.length := Nat.mod_lt _ (List.length_pos_iff.2 h)
  refine ⟨_, List.getElem_mem hlt, ?_⟩
  rw [State.pickRandom, List.getElem?_eq_getElem hlt, Option.map_some]

theorem execClrkScan_victim (s : State) (w v : Nat) (l : List Nat) (h : Executes s w 0x12 v) (hm : mwImm v = 2)
    (hl : victims (s.imageOf w (mwRd v % 4)) (s.krSpan w) (s.imageBucket w (mwRd v % 4))
      (((List.range 32).map fun e => s.pathAt w e).take (s.greg w 11 % 33)) = l) :
    ∃ t, execClrkScan w s = .next t ∧ bit (t.fld F.CLRK_COND_FLAGS w) 4 = !l.isEmpty ∧ (l ≠ [] → t.greg w 5 ∈ l) ∧ t.arrays = s.arrays := by
  refine ⟨_, h.micro _, ?_⟩
  simp only [hm, State.scanVictim, hl]
  by_cases hn : l = []
  · have hu := ((Wrote.nil s).setFlag w false (k := 4) (by decide) (by simp)).nextPc w (by simp)
    rw [hn, State.pickRandom_nil, State.tookVictim]
    exact ⟨hu.flags_bit w false (by decide) (by simp), fun hc => absurd rfl hc, hu.arrays⟩
  · obtain ⟨p, hp, hpick⟩ := s.pickRandom_some hn
    have hu := (((Wrote.nil s).setG w 5 p (by simp)).setFlag w true (k := 4) (by decide) (by simp)).nextPc w (by simp)
    rw [hpick, State.tookVictim, State.tookFree_setG, State.tookFree_setFlag, State.tookFree_nextPc, State.tookFree_fld]
    refine ⟨?_, fun _ => ?_, hu.arrays⟩
    · rw [hu.flags_bit w true (by decide) (by simp)]
      simp [hn]
    · have hlt : p < 2 ^ 32 := (victims_lt (hl ▸ hp)).trans (by decide)
      rw [State.tookFree_greg, hu.greg (n := 5) w (by decide) hlt (by simp)]
      exact hp

/-! ### ALT, SCNA and AGEP, and the path -/

theorem execClrkAlt_other (s : State) (w v : Nat) (h : Executes s w 0x13 v) : ∃ t, execClrkAlt w s = .next t ∧ Wrote s t (toG w (mwRd v)
    (s.otherBucket (s.imageOf w (mwRa v % 4)) (s.imageBucket w (mwRa v % 4)) (s.greg w (mwRb v) % 4)) ++ toNext s w) :=
  ⟨_, h.micro _, ((Wrote.nil s).setG w _ _ (by simp)).nextPc w (by simp)⟩

theorem execClrkScna_mask (s : State) (w v : Nat) (h : Executes s w 0x14 v) : ∃ t, execClrkScna w s = .next t
    ∧ Wrote s t (toG w (mwRd v) (maskOf 4 fun p => s.ageable (s.imageOf w (mwRa v % 4)) p) ++ toNext s w) :=
  ⟨_, h.micro _, ((Wrote.nil s).setG w _ _ (by simp)).nextPc w (by simp)⟩

theorem execClrkAgep_next (s : State) (w v x lim : Nat) (h : Executes s w 0x15 v)
    (hx : (s.imageOf w (mwRa v % 4)).getD (s.greg w (mwRb v) % 4) 0 = x) (hlim : s.ageLimit (slotLedger x) = lim) :
    ∃ t, execClrkAgep w s = .next t
      ∧ Wrote s t (toG w (mwRd v) (min (slotAge x + 1) lim) ++ toFlag w 1 (decide (lim ≤ slotAge x + 1)) ++ toNext s w) := by
  subst hx hlim
  exact ⟨_, h.micro _, (((Wrote.nil s).setG w _ _ (by simp)).setFlag w _ (by decide) (by simp)).nextPc w (by simp)⟩

theorem execClrkPathw_writes (s : State) (w v : Nat) (h : Executes s w 0x16 v) : ∃ t, execClrkPathw w s = .next t
    ∧ Wrote s t ([(⟨R.CLRK_PATH, 0, 32⟩, s.greg w (mwRd v) % 32 + 32 * w,
      s.greg w (mwRa v) % 262144 + 2 ^ 18 * (s.greg w (mwRb v) % 4))] ++ toNext s w) := by
  refine ⟨_, h.micro _, ((Wrote.nil s).wr R.CLRK_PATH _ _ (by simp)).nextPc w ?_⟩
  simp only [List.nil_append, AllApart.cons, AllApart.nil, and_true]
  refine ⟨.inl ?_, show 0 + 32 ≤ 32 by decide⟩
  show R.CLRK_PATH.key _ ≠ R.CLRK_PC.key w
  rw [clrk_path_key, clrk_pc_key]
  omega

theorem execClrkPathr_reads (s : State) (w v : Nat) (h : Executes s w 0x17 v) : ∃ t, execClrkPathr w s = .next t
    ∧ Wrote s t (toG w (mwRd v) (s.fld F.CLRK_PATH_BUCKET (mwImm v % 32 + 32 * w))
      ++ toG w ((mwRd v + 1) % 16) (s.fld F.CLRK_PATH_POSITION (mwImm v % 32 + 32 * w)) ++ toNext s w) := by
  have hrd := mwRd_lt v
  have hne : mwRd v ≠ (mwRd v + 1) % 16 := by omega
  exact ⟨_, h.micro _, (((Wrote.nil s).setG w _ _ (by simp)).setG w ((mwRd v + 1) % 16) _
    (by simp [toG_apart_reg, hrd, hne, Nat.mod_lt])).nextPc w (by simp)⟩

/-- Settles O33: each microword is read off the register fields it writes; an image loaded reads as the bucket it was loaded from. -/
theorem keyAndImageMicrowords : Obligations.KeyAndImageMicrowords := by
  unfold Obligations.KeyAndImageMicrowords
  intro s w v
  refine ⟨execClrkLdk_loads s w v, execClrkHash_buckets s w v, fun b h hb => ⟨execClrkRdb_waits s w v b h hb, execClrkRdb_loads s w v b h hb⟩,
    fun h => ⟨fun look room => execClrkScan_key s w v look room h, fun o => execClrkScan_room s w v o h, fun l => execClrkScan_victim s w v l h,
      execClrkScan_neverEvicts s w v h⟩,
    execClrkAlt_other s w v, execClrkScna_mask s w v, execClrkAgep_next s w v, execClrkPathw_writes s w v, execClrkPathr_reads s w v⟩

end Sys2Proof.Machine

namespace Sys2Proof.Machine

/-! ### Slots of the ledger store -/

theorem State.slot_congr {s t : State} (h : t.arrays = s.arrays) (r n : Nat) : t.slot r n = s.slot r n := by
  unfold State.slot State.arrNat State.arr
  rw [h]

theorem State.slot_putSlot_same (s : State) (r n : Nat) {v : Nat} (h : v < 2 ^ 128) : (s.putSlot r n v).slot r n = v := by
  have harr := Tab.getList_setList_same 0 (leBytes 16 v) s.arrays (slotAt r n)
  rw [leBytes_length] at harr
  unfold State.slot State.arrNat State.arr State.putSlot State.putArr
  rw [harr, leNat_leBytes]
  exact Nat.mod_eq_of_lt h

/-- The slots of one replica end where those of the next begin. -/
theorem State.slot_putSlot_ne (s : State) {r k n i : Nat} (v : Nat) (hn : n < 2 ^ 20) (hi : i < 2 ^ 20) (h : k ≠ r ∨ i ≠ n) :
    (s.putSlot r n v).slot k i = s.slot k i := by
  have hap : slotAt k i + 16 ≤ slotAt r n ∨ slotAt r n + 16 ≤ slotAt k i := by
    unfold slotAt
    omega
  unfold State.slot State.arrNat State.arr State.putSlot State.putArr
  rw [Tab.getList_setList_ne _ _ _ _ _ _ (by rwa [leBytes_length])]

/-- From `s` to `t` only the ledger store differs, and there only the `n` slots from slot `a` of replica `r`. -/
structure PutIn (r a n : Nat) (s t : State) : Prop where
  rest : t = { s with arrays := t.arrays }
  kept : ∀ k i, i < 2 ^ 20 → k ≠ r ∨ i < a ∨ a + n ≤ i → t.slot k i = s.slot k i

theorem PutIn.refl (r a n : Nat) (s : State) : PutIn r a n s s := ⟨rfl, fun _ _ _ _ => rfl⟩

theorem PutIn.trans {r a n : Nat} {s t u : State} (h : PutIn r a n s t) (g : PutIn r a n t u) : PutIn r a n s u where
  rest := by rw [g.rest, h.rest]
  kept k i hi ho := (g.kept k i hi ho).trans (h.kept k i hi ho)

theorem PutIn.wider {r a n b m : Nat} {s t : State} (h : PutIn r a n s t) (hab : b ≤ a) (hnm : a + n ≤ b + m) : PutIn r b m s t where
  rest := h.rest
  kept k i hi ho := h.kept k i hi (by omega)

theorem PutIn.putSlot (s : State) (r v : Nat) {a n i : Nat} (ha : a ≤ i) (hn : i < a + n) (hi : i < 2 ^ 20) : PutIn r a n s (s.putSlot r i v) where
  rest := rfl
  kept _ _ hj ho := s.slot_putSlot_ne v hi hj (by omega)

theorem PutIn.each {α : Type} {r a n : Nat} (l : List α) (f : α → State → State) (h : ∀ x ∈ l, ∀ s, PutIn r a n s (f x s)) (s : State) :
    PutIn r a n s (s.each l f) := by
  induction l generalizing s with
  | nil => exact PutIn.refl r a n s
  | cons x l ih => exact (h x List.mem_cons_self s).trans (ih (fun y hy => h y (List.mem_cons_of_mem x hy)) _)

/-- What a function of the state tells is told by the slots of replica `k` alone. -/
def OfReplica {β : Type} (k : Nat) (g : State → β) : Prop := ∀ s t : State, (∀ i, i < 2 ^ 20 → t.slot k i = s.slot k i) → g t = g s

theorem mem_replicas {k : Nat} : k ∈ replicas ↔ k < 8 := by
  rw [show replicas = List.range 8 from rfl, List.mem_range]

section
variable {a n : Nat} {f : Nat → State → State} (hf : ∀ r s, PutIn r a n s (f r s))
include hf

/-- A change made replica by replica leaves everything but the ledger store. -/
theorem State.each_replicas_rest (s : State) : s.each replicas f = { s with arrays := (s.each replicas f).arrays } := by
  unfold State.each
  induction replicas generalizing s with
  | nil => rfl
  | cons r l ih => rw [List.foldl_cons, ih, (hf r s).rest]

theorem State.each_replicas_kept (s : State) : SlotsKept s (s.each replicas f) a n := fun k i _ hi ho =>
  State.each_keeps (fun s => s.slot k i) replicas f s fun r s => (hf r s).kept k i hi (.inr ho)

/-- What a change made replica by replica comes to in one of them is what it does to that replica. -/
theorem State.each_replica {β γ : Type} {k : Nat} (hk : k < 8) {g : State → β} {out : State → γ} {v : β → γ} (hg : OfReplica k g)
    (ho : OfReplica k out) (hset : ∀ s, out (f k s) = v (g s)) (s : State) : out (s.each replicas f) = v (g s) := by
  refine State.each_at g out v replicas (by decide) f k (mem_replicas.2 hk) hset ?_ ?_ s
  · exact fun r _ hr s => hg _ _ fun i hi => (hf r s).kept k i hi (.inl (Ne.symm hr))
  · exact fun r _ hr s => ho _ _ fun i hi => (hf r s).kept k i hi (.inl (Ne.symm hr))

end

theorem OfReplica.slot (k : Nat) {i : Nat} (hi : i < 2 ^ 20) : OfReplica k fun s => s.slot k i := fun _ _ h => h i hi

theorem OfReplica.map {β γ : Type} {k : Nat} {g : State → β} (h : OfReplica k g) (f : β → γ) : OfReplica k fun s => f (g s) :=
  fun s t ht => congrArg f (h s t ht)

theorem OfReplica.pair {β γ : Type} {k : Nat} {g : State → β} {f : State → γ} (h : OfReplica k g) (h' : OfReplica k f) :
    OfReplica k fun s => (g s, f s) := fun s t ht => Prod.ext (h s t ht) (h' s t ht)

theorem SlotsKept.trans {s t u : State} {a n : Nat} (h : SlotsKept s t a n) (g : SlotsKept t u a n) : SlotsKept s u a n :=
  fun k i hk hi ho => (g k i hk hi ho).trans (h k i hk hi ho)

theorem SlotsKept.of_arrays {s t u : State} {a n : Nat} (h : SlotsKept s t a n) (g : u.arrays = t.arrays) : SlotsKept s u a n :=
  fun k i hk hi ho => (State.slot_congr g k i).trans (h k i hk hi ho)

theorem SlotsKept.from_arrays {s t u : State} {a n : Nat} (h : SlotsKept t u a n) (g : t.arrays = s.arrays) : SlotsKept s u a n :=
  fun k i hk hi ho => (h k i hk hi ho).trans (State.slot_congr g k i)

theorem SlotsKept.wider {s t : State} {a n b m : Nat} (h : SlotsKept s t a n) (hab : b ≤ a) (hnm : a + n ≤ b + m) : SlotsKept s t b m :=
  fun k i hk hi ho => h k i hk hi (by omega)

/-! ### The bits of a slot -/

theorem putBits_div (v lo wd x : Nat) {n : Nat} (h : lo + wd ≤ n) : putBits v lo wd x / 2 ^ n = v / 2 ^ n := by
  apply Nat.eq_of_testBit_eq
  intro i
  rw [Nat.testBit_div_two_pow, Nat.testBit_div_two_pow, putBits_testBit, if_neg (by omega), if_neg (by omega)]

theorem bit_putBits_same (v i x : Nat) : bit (putBits v i 1 x) i = (x % 2 == 1) := by
  unfold bit
  rw [putBits_testBit, if_neg (by omega), if_pos (by omega), Nat.sub_self, Nat.testBit_zero]
  simp [Bool.beq_eq_decide_eq]

theorem bit_putBits_b2n (v i : Nat) (b : Bool) : bit (putBits v i 1 (b2n b)) i = b := by
  rw [bit_putBits_same]
  cases b <;> rfl

/-- Bits put back as they stand. -/
theorem noHit_putHit (v x : Nat) : noHit (putBits v 9 1 x) = noHit v := by
  unfold noHit
  apply Nat.eq_of_testBit_eq
  intro i
  simp only [putBits_testBit]
  split
  · rfl
  · split <;> rfl

theorem withParity_lt {v : Nat} (h : v < 2 ^ 128) : withParity v < 2 ^ 128 := putBits_lt _ h (by decide)

section
variable (v : Nat)

/-- PARITY is bit 31. -/
theorem bits_withParity {lo wd : Nat} (h : lo + wd ≤ 31 ∨ 32 ≤ lo) : bits (withParity v) lo wd = bits v lo wd := bits_putBits_ne _ _ _ _ _ _ h
theorem bit_withParity {i : Nat} (h : i ≠ 31) : bit (withParity v) i = bit v i := bit_putBits_ne _ _ _ _ _ (by omega)
theorem withParity_div {n : Nat} (h : 32 ≤ n) : withParity v / 2 ^ n = v / 2 ^ n := putBits_div _ _ _ _ h

theorem slotResult_withParity : slotResult (withParity v) = slotResult v := bits_withParity v (.inr (by decide))
theorem slotAge_withParity : slotAge (withParity v) = slotAge v := bits_withParity v (.inl (by decide))
theorem slotStatic_withParity : slotStatic (withParity v) = slotStatic v := bit_withParity v (by decide)
theorem slotHit_withParity : slotHit (withParity v) = slotHit v := bit_withParity v (by decide)

end

theorem spanSlots_le (span : Nat) : spanSlots span ≤ 4 := by
  unfold spanSlots
  rcases span with _ | _ | _ | n <;> simp

theorem spanSlots_pos (span : Nat) : 0 < spanSlots span := by
  unfold spanSlots
  rcases span with _ | _ | _ | n <;> simp

/-! ### STALE of a Clerk -/

/-- A write of a bucket tells a parked Clerk, and changes nothing else. -/
theorem State.touch_eq (s : State) (b : Nat) : s.touch b = s ∨ s.touch b = s.setF F.CLRK_STATUS_STALE (wardOf b) 1 := by
  unfold State.touch
  dsimp only
  split
  · exact .inr rfl
  · exact .inl rfl

theorem State.touch_arrays (s : State) (b : Nat) : (s.touch b).arrays = s.arrays := by
  obtain h | h := s.touch_eq b <;> rw [h]
  exact State.setF_arrays _ _ _ _

theorem State.touch_ldg (s : State) (b : Nat) : (s.touch b).ldg = s.ldg := by
  obtain h | h := s.touch_eq b <;> rw [h]
  exact State.setF_ldg _ _ _ _

theorem State.touch_slot (s : State) (b r n : Nat) : (s.touch b).slot r n = s.slot r n := State.slot_congr (s.touch_arrays b) r n

theorem State.touch_rd (s : State) (b : Nat) {q : Reg} {j : Nat} (h : ∀ w, q.key j ≠ R.CLRK_STATUS.key w) : (s.touch b).rd q j = s.rd q j := by
  obtain ht | ht := s.touch_eq b <;> rw [ht]
  exact s.rd_setF_ne _ (h _)

/-! ### Entries written, edited and erased in every replica -/

section
variable (s : State) (b p : Nat)

theorem State.editHead_step (g : Nat → Nat) (hn : 4 * b + p < 2 ^ 20) (r : Nat) (s : State) :
    PutIn r (4 * b + p) 1 s (s.putSlot r (4 * b + p) (withParity (g (s.slot r (4 * b + p))))) :=
  PutIn.putSlot s r _ (Nat.le_refl _) (Nat.lt_succ_self _) hn

theorem State.editHead_slot (g : Nat → Nat) (hn : 4 * b + p < 2 ^ 20) (hg : ∀ v, v < 2 ^ 128 → g v < 2 ^ 128) {k : Nat} (hk : k < 8) :
    (s.editHead b p g).slot k (4 * b + p) = withParity (g (s.slot k (4 * b + p))) := by
  refine (State.each_replica (State.editHead_step b p g hn) hk (g := fun s => s.slot k (4 * b + p)) (out := fun s => s.slot k (4 * b + p))
    (v := fun x => withParity (g x)) (OfReplica.slot k hn) (OfReplica.slot k hn) (fun s => ?_) (s.touch b)).trans ?_
  · exact s.slot_putSlot_same _ _ (withParity_lt (hg _ (s.slot_lt _ _)))
  · rw [s.touch_slot]

theorem State.editHead_kept (g : Nat → Nat) (hn : 4 * b + p < 2 ^ 20) : SlotsKept s (s.editHead b p g) (4 * b + p) 1 :=
  (State.each_replicas_kept (State.editHead_step b p g hn) (s.touch b)).from_arrays (s.touch_arrays b)

theorem State.editHead_rest (g : Nat → Nat) (hn : 4 * b + p < 2 ^ 20) :
    s.editHead b p g = { s.touch b with arrays := (s.editHead b p g).arrays } :=
  State.each_replicas_rest (State.editHead_step b p g hn) (s.touch b)

theorem State.eraseEntry_step (hn : 4 * b + p + 4 ≤ 2 ^ 20) (r : Nat) (s : State) :
    PutIn r (4 * b + p) 4 s (s.each (List.range (spanSlots (slotSpan (s.slot r (4 * b + p))))) fun k s => s.putSlot r (4 * b + p + k) 0) :=
  PutIn.each _ _ (fun k hk s => by
    have hlt := (List.mem_range.1 hk).trans_le (spanSlots_le _)
    exact PutIn.putSlot s r 0 (by omega) (by omega) (by omega)) s

theorem State.clearSlots_slot (s : State) (r : Nat) {n m j : Nat} (hn : n + 4 ≤ 2 ^ 20) (hm : m ≤ 4) (hj : j < 4) :
    (s.each (List.range m) fun k s => s.putSlot r (n + k) 0).slot r (n + j) = if j < m then 0 else s.slot r (n + j) := by
  induction m with
  | zero => rfl
  | succ m ih =>
    rw [List.range_succ, State.each_append, State.each_cons, State.each_nil]
    by_cases hjm : j = m
    · rw [hjm, State.slot_putSlot_same _ _ _ (Nat.two_pow_pos 128), if_pos (Nat.lt_succ_self m)]
    · rw [State.slot_putSlot_ne _ _ (by omega) (by omega) (.inr (by omega)), ih (by omega)]
      exact if_congr (by omega) rfl rfl

theorem State.eraseEntry_slot (hn : 4 * b + p + 4 ≤ 2 ^ 20) {k j : Nat} (hk : k < 8) (hj : j < spanSlots (slotSpan (s.slot k (4 * b + p)))) :
    (s.eraseEntry b p).slot k (4 * b + p + j) = 0 := by
  have hj4 := hj.trans_le (spanSlots_le _)
  have hi : 4 * b + p + j < 2 ^ 20 := by omega
  have hat : (s.eraseEntry b p).slot k (4 * b + p + j)
      = if j < spanSlots (slotSpan ((s.touch b).slot k (4 * b + p))) then 0 else (s.touch b).slot k (4 * b + p + j) := by
    refine State.each_replica (State.eraseEntry_step b p hn) hk (g := fun s => (s.slot k (4 * b + p), s.slot k (4 * b + p + j)))
      (out := fun s => s.slot k (4 * b + p + j)) (v := fun x => if j < spanSlots (slotSpan x.1) then 0 else x.2)
      ((OfReplica.slot k (by omega)).pair (OfReplica.slot k hi)) (OfReplica.slot k hi) (fun s => ?_) (s.touch b)
    exact s.clearSlots_slot k hn (spanSlots_le _) hj4
  rw [hat, s.touch_slot, if_pos hj]

theorem State.eraseEntry_kept (hn : 4 * b + p + 4 ≤ 2 ^ 20) : SlotsKept s (s.eraseEntry b p) (4 * b + p) 4 :=
  (State.each_replicas_kept (State.eraseEntry_step b p hn) (s.touch b)).from_arrays (s.touch_arrays b)

theorem State.eraseEntry_rest (hn : 4 * b + p + 4 ≤ 2 ^ 20) : s.eraseEntry b p = { s.touch b with arrays := (s.eraseEntry b p).arrays } :=
  State.each_replicas_rest (State.eraseEntry_step b p hn) (s.touch b)

end

end Sys2Proof.Machine

namespace Sys2Proof.Machine

/-! ### Slots written one after the other -/

/-- Slots of a list put from slot `m` of replica `r` on, each made of its value, its number and what stood there. -/
def State.putList (s : State) (r m : Nat) (F : Nat → Nat → Nat → Nat) (l : List Nat) : State :=
  s.each l.zipIdx fun e s => s.putSlot r (m + e.2) (F e.1 e.2 (s.slot r (m + e.2)))

section
variable {r m : Nat} {F : Nat → Nat → Nat → Nat} {l : List Nat} (hm : m + l.length ≤ 2 ^ 20)
include hm

theorem State.putList_step (s : State) : PutIn r m l.length s (s.putList r m F l) :=
  PutIn.each _ _ (fun e he s => by
    have hlt := List.snd_lt_of_mem_zipIdx he
    exact PutIn.putSlot s r _ (Nat.le_add_right _ _) (by omega) (by omega)) s

theorem State.putList_slot (s : State) {j x : Nat} (hx : l[j]? = some x) (hF : ∀ y, y < 2 ^ 128 → F x j y < 2 ^ 128) :
    (s.putList r m F l).slot r (m + j) = F x j (s.slot r (m + j)) := by
  obtain ⟨hj, -⟩ := List.getElem?_eq_some_iff.1 hx
  have hkeep : ∀ e ∈ l.zipIdx, e ≠ (x, j) → ∀ s : State, (s.putSlot r (m + e.2) (F e.1 e.2 (s.slot r (m + e.2)))).slot r (m + j) = s.slot r (m + j) :=
    fun e he hne s => by
      have hlt := List.snd_lt_of_mem_zipIdx he
      have hej : e.2 ≠ j := fun h => by
        have hex : l[e.2]? = some e.1 := List.mem_zipIdx_iff_getElem?.1 he
        rw [h, hx] at hex
        exact hne (Prod.ext (Option.some.inj hex).symm h)
      exact s.slot_putSlot_ne _ (by omega) (by omega) (.inr (by omega))
  have hset : ∀ s : State, (s.putSlot r (m + j) (F x j (s.slot r (m + j)))).slot r (m + j) = F x j (s.slot r (m + j)) :=
    fun s => s.slot_putSlot_same _ _ (hF _ (s.slot_lt _ _))
  have hnodup : l.zipIdx.Nodup := List.Nodup.of_map _ (List.nodup_zipIdx_map_snd l)
  have hmem : (x, j) ∈ l.zipIdx := List.mem_zipIdx_iff_getElem?.2 hx
  unfold State.putList
  exact State.each_at (fun s => s.slot r (m + j)) (fun s => s.slot r (m + j)) (F x j) l.zipIdx hnodup
    (fun e s => s.putSlot r (m + e.2) (F e.1 e.2 (s.slot r (m + e.2)))) (x, j) hmem hset hkeep hkeep s

end

/-! ### What the stores are told of an operation on the ledger store -/

/-- From `s` to `t` only the ledger store and STALE of the Clerks differ. -/
structure StoreOnly (s t : State) : Prop where
  ldg : t.ldg = s.ldg
  rd : ∀ q j, (∀ w, q.key j ≠ R.CLRK_STATUS.key w) → t.rd q j = s.rd q j

theorem StoreOnly.trans {s t u : State} (h : StoreOnly s t) (g : StoreOnly t u) : StoreOnly s u where
  ldg := g.ldg.trans h.ldg
  rd q j hk := (g.rd q j hk).trans (h.rd q j hk)

theorem StoreOnly.touch (s : State) (b : Nat) : StoreOnly s (s.touch b) := ⟨s.touch_ldg b, fun _ _ h => s.touch_rd b h⟩

theorem StoreOnly.of_rest {s t : State} (h : t = { s with arrays := t.arrays }) : StoreOnly s t where
  ldg := by rw [h]
  rd q j _ := State.rd_congr (by rw [h]) q j

theorem StoreOnly.fld {s t : State} (h : StoreOnly s t) {f : Fld} {j : Nat} (hk : ∀ w, f.reg.key j ≠ R.CLRK_STATUS.key w) : t.fld f j = s.fld f j :=
  congrArg (bits · f.lo f.wd) (h.rd _ _ hk)

theorem StoreOnly.clerk {s t : State} (h : StoreOnly s t) (w : Nat) : t.clerk w = s.clerk w := by
  rw [State.clerk, h.ldg, State.clerk]

theorem clrk_pc_ne_status (v w : Nat) : F.CLRK_PC_PC.reg.key v ≠ R.CLRK_STATUS.key w := by
  show R.CLRK_PC.key v ≠ _
  rw [clrk_pc_key, clrk_status_key]
  omega

theorem State.editHead_storeOnly (s : State) (b p : Nat) (g : Nat → Nat) (hn : 4 * b + p < 2 ^ 20) : StoreOnly s (s.editHead b p g) :=
  (StoreOnly.touch s b).trans (StoreOnly.of_rest (s.editHead_rest b p g hn))

theorem State.eraseEntry_storeOnly (s : State) (b p : Nat) (hn : 4 * b + p + 4 ≤ 2 ^ 20) : StoreOnly s (s.eraseEntry b p) :=
  (StoreOnly.touch s b).trans (StoreOnly.of_rest (s.eraseEntry_rest b p hn))

/-! ### An entry written -/

/-- What writing an entry makes of a place: HIT of the head's place is left as it is (R299). -/
def entryValue (x j old : Nat) : Nat := if j = 0 then putBits x 9 1 (bits old 9 1) else x

theorem entryValue_lt {x : Nat} (hx : x < 2 ^ 128) (j old : Nat) : entryValue x j old < 2 ^ 128 := by
  unfold entryValue
  split
  · exact putBits_lt _ hx (by decide)
  · exact hx

theorem noHit_entryValue (x j old : Nat) : noHit (entryValue x j old) = noHit x := by
  unfold entryValue
  split
  · exact noHit_putHit _ _
  · rfl

theorem State.writeEntry_eq (s : State) (b p : Nat) (slots : List Nat) :
    s.writeEntry b p slots = (s.touch b).each replicas fun r s => s.putList r (4 * b + p) entryValue slots := (rfl)

section
variable (s : State) {b p : Nat} {slots : List Nat} (hn : 4 * b + p + slots.length ≤ 2 ^ 20)
include hn

theorem State.writeEntry_slot (hlt : ∀ x ∈ slots, x < 2 ^ 128) {k j x : Nat} (hk : k < 8) (hx : slots[j]? = some x) :
    (s.writeEntry b p slots).slot k (4 * b + p + j) = entryValue x j (s.slot k (4 * b + p + j)) := by
  obtain ⟨hj, -⟩ := List.getElem?_eq_some_iff.1 hx
  have hi : 4 * b + p + j < 2 ^ 20 := by omega
  rw [s.writeEntry_eq, ← s.touch_slot b k]
  exact State.each_replica (fun r s => s.putList_step hn) hk (g := fun s => s.slot k (4 * b + p + j)) (out := fun s => s.slot k (4 * b + p + j))
    (v := entryValue x j) (OfReplica.slot k hi) (OfReplica.slot k hi)
    (fun s => s.putList_slot hn hx fun y _ => entryValue_lt (hlt x (List.mem_of_getElem? hx)) j y) (s.touch b)

theorem State.writeEntry_kept : SlotsKept s (s.writeEntry b p slots) (4 * b + p) slots.length := by
  rw [s.writeEntry_eq]
  exact (State.each_replicas_kept (fun r s => s.putList_step hn) (s.touch b)).from_arrays (s.touch_arrays b)

theorem State.writeEntry_storeOnly : StoreOnly s (s.writeEntry b p slots) := by
  rw [s.writeEntry_eq]
  exact (StoreOnly.touch s b).trans (StoreOnly.of_rest (State.each_replicas_rest (fun r s => s.putList_step hn) (s.touch b)))

end

theorem makeEntry_length (span g : Nat) (static : Bool) (age choice result : Nat) (key : List Byte) :
    (makeEntry span g static age choice result key).length = spanSlots span := by simp [makeEntry]

theorem leNat_take_lt (l : List Byte) (n : Nat) : leNat (l.take n) < 256 ^ n :=
  (leNat_lt _).trans_le (Nat.pow_le_pow_right (by decide) (by simp))

/-- An entry's slots are slots: 128 bits. -/
theorem makeEntry_lt {span g : Nat} (static : Bool) {choice result : Nat} (key : List Byte) (hspan : span < 4) (hg : g < 16) (hc : choice < 2)
    (hr : result < 2 ^ 32) : ∀ x ∈ makeEntry span g static 0 choice result key, x < 2 ^ 128 := by
  intro x hx
  obtain ⟨c, -, rfl⟩ := List.mem_map.1 hx
  refine withParity_lt ?_
  have hb : b2n static ≤ 1 := by cases static <;> decide
  have h8 := leNat_take_lt key 8
  have h12 := leNat_take_lt (key.drop (8 + 12 * (c - 1))) 12
  split <;> omega

/-! ### An entry copied, and one erased with its HIT merged -/

theorem imageEntry_bucket_head (s : State) (r b : Nat) {p : Nat} (hp : p < 4) : (imageEntry (s.bucket r b) p)[0]? = some (s.slot r (4 * b + p)) := by
  have hpos := spanSlots_pos (slotSpan ((s.bucket r b).getD p 0))
  rw [imageEntry, List.getElem?_take_of_lt hpos, List.getElem?_drop, Nat.add_zero, State.bucket, List.getElem?_map, List.getElem?_range hp]
  rfl

theorem imageEntry_length_le (img : List Nat) (p : Nat) : (imageEntry img p).length ≤ 4 := by
  rw [imageEntry, List.length_take]
  exact (Nat.min_le_left _ _).trans (spanSlots_le _)

/-- What copying an entry makes of a place of its new home, on side `ch`. -/
def copyValue (ch x j old : Nat) : Nat := if j = 0 then withParity (putBits (putBits x 14 1 ch) 9 1 (bits old 9 1)) else x

theorem copyValue_lt {x : Nat} (hx : x < 2 ^ 128) (ch old : Nat) : copyValue ch x 0 old < 2 ^ 128 :=
  withParity_lt (putBits_lt _ (putBits_lt _ hx (by decide)) (by decide))

/-- One replica's part of a copy. -/
def State.dupReplica (b p c q r : Nat) (s : State) : State :=
  s.putList r (4 * c + q) (copyValue (s.choiceOf (slotLedger ((imageEntry (s.bucket r b) p).headD 0)) (entryKey (imageEntry (s.bucket r b) p)) c))
    (imageEntry (s.bucket r b) p)

theorem State.dupEntry_eq (s : State) (b p c q : Nat) : s.dupEntry b p c q = ((s.touch b).touch c).each replicas (State.dupReplica b p c q) := (rfl)

theorem State.dupReplica_step {c q : Nat} (b p : Nat) (hn : 4 * c + q + 4 ≤ 2 ^ 20) (r : Nat) (s : State) :
    PutIn r (4 * c + q) 4 s (s.dupReplica b p c q r) := by
  have hle := imageEntry_length_le (s.bucket r b) p
  exact (s.putList_step (by omega)).wider (Nat.le_refl _) (by omega)

/-- RESULT, the key bytes and HIT of a head. -/
def headFacts (v : Nat) : Nat × Nat × Bool := (slotResult v, v / 2 ^ 64, slotHit v)

theorem headFacts_copyValue (ch x old : Nat) : headFacts (copyValue ch x 0 old) = (slotResult x, x / 2 ^ 64, slotHit old) := by
  unfold headFacts copyValue
  rw [if_pos rfl, slotResult_withParity, slotHit_withParity, withParity_div _ (by decide), putBits_div _ _ _ _ (by decide),
    putBits_div _ _ _ _ (by decide)]
  refine Prod.ext ?_ (Prod.ext rfl ?_)
  · exact (bits_putBits_ne _ _ _ _ _ _ (by decide)).trans (bits_putBits_ne _ _ _ _ _ _ (by decide))
  · show bit (putBits _ 9 1 (bits old 9 1)) 9 = bit old 9
    rw [bits_one, bit_putBits_b2n]

section
variable (s : State) {b p c q : Nat}

theorem State.dupEntry_head (hp : p < 4) (ha : 4 * b + p < 2 ^ 20) (hn : 4 * c + q + 4 ≤ 2 ^ 20) {k : Nat} (hk : k < 8) :
    headFacts ((s.dupEntry b p c q).slot k (4 * c + q))
      = (slotResult (s.slot k (4 * b + p)), s.slot k (4 * b + p) / 2 ^ 64, slotHit (s.slot k (4 * c + q))) := by
  have hc : 4 * c + q < 2 ^ 20 := by omega
  have hslot : ∀ r n, ((s.touch b).touch c).slot r n = s.slot r n := fun r n => by rw [State.touch_slot, State.touch_slot]
  rw [s.dupEntry_eq, ← hslot k (4 * b + p), ← hslot k (4 * c + q)]
  refine State.each_replica (State.dupReplica_step b p hn) hk (g := fun s => (s.slot k (4 * b + p), s.slot k (4 * c + q)))
    (out := fun s => headFacts (s.slot k (4 * c + q))) (v := fun x => (slotResult x.1, x.1 / 2 ^ 64, slotHit x.2))
    ((OfReplica.slot k ha).pair (OfReplica.slot k hc)) ((OfReplica.slot k hc).map headFacts) (fun s => ?_) _
  have hle := imageEntry_length_le (s.bucket k b) p
  have hput := s.putList_slot (r := k) (m := 4 * c + q) (l := imageEntry (s.bucket k b) p) (by omega) (imageEntry_bucket_head s k b hp)
    (F := copyValue (s.choiceOf (slotLedger ((imageEntry (s.bucket k b) p).headD 0)) (entryKey (imageEntry (s.bucket k b) p)) c))
    fun y _ => copyValue_lt (s.slot_lt _ _) _ _
  rw [Nat.add_zero] at hput
  rw [State.dupReplica, hput, headFacts_copyValue]

theorem State.dupEntry_kept (hn : 4 * c + q + 4 ≤ 2 ^ 20) : SlotsKept s (s.dupEntry b p c q) (4 * c + q) 4 := by
  rw [s.dupEntry_eq]
  exact (State.each_replicas_kept (State.dupReplica_step b p hn) _).from_arrays ((State.touch_arrays _ _).trans (s.touch_arrays b))

theorem State.dupEntry_storeOnly (hn : 4 * c + q + 4 ≤ 2 ^ 20) : StoreOnly s (s.dupEntry b p c q) := by
  rw [s.dupEntry_eq]
  exact ((StoreOnly.touch s b).trans (StoreOnly.touch _ c)).trans (StoreOnly.of_rest (State.each_replicas_rest (State.dupReplica_step b p hn) _))

end

/-- One replica's merge of the HIT of slot `a` into slot `c`. -/
def State.mergeHit (a c r : Nat) (s : State) : State := if slotHit (s.slot r a) then s.putSlot r c (putBits (s.slot r c) 9 1 1) else s

theorem State.mergeHit_step {c : Nat} (a : Nat) (hc : c < 2 ^ 20) (r : Nat) (s : State) : PutIn r c 1 s (s.mergeHit a c r) := by
  unfold State.mergeHit
  split
  · exact PutIn.putSlot s r _ (Nat.le_refl _) (Nat.lt_succ_self _) hc
  · exact PutIn.refl _ _ _ s

theorem State.eraseMoved_eq (s : State) (b p c q : Nat) :
    s.eraseMoved b p c q = (s.each replicas (State.mergeHit (4 * b + p) (4 * c + q))).eraseEntry b p := (rfl)

theorem State.mergeHit_head (s : State) {a c : Nat} (ha : a < 2 ^ 20) (hc : c < 2 ^ 20) {k : Nat} (hk : k < 8) :
    let t := s.each replicas (State.mergeHit a c)
    slotHit (t.slot k c) = (slotHit (s.slot k a) || slotHit (s.slot k c)) ∧ slotResult (t.slot k c) = slotResult (s.slot k c) := by
  have hat := State.each_replica (State.mergeHit_step a hc) hk (g := fun s => (s.slot k a, s.slot k c)) (out := fun s => s.slot k c)
    (v := fun x => if slotHit x.1 then putBits x.2 9 1 1 else x.2) ((OfReplica.slot k ha).pair (OfReplica.slot k hc)) (OfReplica.slot k hc)
    (fun s => by
      unfold State.mergeHit
      dsimp only
      split
      · exact s.slot_putSlot_same _ _ (putBits_lt _ (s.slot_lt _ _) (by decide))
      · rfl) s
  dsimp only at hat ⊢
  rw [hat]
  cases hhit : slotHit (s.slot k a)
  · exact ⟨(Bool.false_or _).symm, rfl⟩
  · exact ⟨(bit_putBits_b2n _ 9 true).trans (Bool.true_or _).symm, bits_putBits_ne _ _ _ _ _ _ (by decide)⟩

section
variable (s : State) {b p c q : Nat} (ha : 4 * b + p + 4 ≤ 2 ^ 20) (hc : 4 * c + q < 2 ^ 20)
include ha hc

theorem State.eraseMoved_slots (hap : 4 * c + q < 4 * b + p ∨ 4 * b + p + 4 ≤ 4 * c + q) {k : Nat} (hk : k < 8) :
    (∀ j, j < spanSlots (slotSpan (s.slot k (4 * b + p))) → (s.eraseMoved b p c q).slot k (4 * b + p + j) = 0)
      ∧ slotHit ((s.eraseMoved b p c q).slot k (4 * c + q)) = (slotHit (s.slot k (4 * b + p)) || slotHit (s.slot k (4 * c + q)))
      ∧ slotResult ((s.eraseMoved b p c q).slot k (4 * c + q)) = slotResult (s.slot k (4 * c + q)) := by
  have hmerge := s.mergeHit_head (a := 4 * b + p) (by omega) hc hk
  have hkept := State.each_replicas_kept (State.mergeHit_step (4 * b + p) hc) s k (4 * b + p) hk (by omega) (by omega)
  rw [s.eraseMoved_eq, State.eraseEntry_kept _ b p ha k (4 * c + q) hk hc hap]
  refine ⟨fun j hj => State.eraseEntry_slot _ b p ha hk ?_, hmerge⟩
  rwa [hkept]

theorem State.eraseMoved_storeOnly : StoreOnly s (s.eraseMoved b p c q) := by
  rw [s.eraseMoved_eq]
  exact (StoreOnly.of_rest (State.each_replicas_rest (State.mergeHit_step (4 * b + p) hc) s)).trans (State.eraseEntry_storeOnly _ b p ha)

end

end Sys2Proof.Machine

namespace Sys2Proof.Machine

/-! ### A replicated write issued -/

theorem State.putClerk_slot (s : State) (w : Nat) (c : Clerk) (r n : Nat) : (s.putClerk w c).slot r n = s.slot r n := State.slot_congr rfl r n
theorem State.nextPc_slot (s : State) (w r n : Nat) : (s.nextPc w).slot r n = s.slot r n := State.slot_congr (s.nextPc_arrays w) r n
theorem State.setFlag_arrays (s : State) (w k : Nat) (b : Bool) : (s.setFlag w k b).arrays = s.arrays := by rw [State.setFlag, State.setF_arrays]

theorem State.issued_arrays (s : State) (w b : Nat) (wait : Bool) : (s.issued w b wait).arrays = s.arrays := by
  rw [State.issued, State.putClerk_arrays]

/-- What a Clerk has issued and gone on from stands in the slots as it was written. -/
theorem State.issued_nextPc_arrays (s : State) (w b : Nat) (wait : Bool) : ((s.issued w b wait).nextPc w).arrays = s.arrays := by
  rw [State.nextPc_arrays, State.issued_arrays]

theorem State.issued_nextPc_slot (s : State) (w b : Nat) (wait : Bool) (k i : Nat) : ((s.issued w b wait).nextPc w).slot k i = s.slot k i :=
  State.slot_congr (s.issued_nextPc_arrays w b wait) k i

theorem State.setFlag_clerk (s : State) (w k : Nat) (b : Bool) (v : Nat) : (s.setFlag w k b).clerk v = s.clerk v := by
  rw [State.setFlag, State.setF_clerk]

theorem State.setFlag_slot (s : State) (w k : Nat) (b : Bool) (r i : Nat) : (s.setFlag w k b).slot r i = s.slot r i :=
  State.slot_congr (s.setFlag_arrays w k b) r i

theorem State.setFlag_pc (s : State) (w : Nat) {k : Nat} (b : Bool) (hk : k < 8) : (s.setFlag w k b).fld F.CLRK_PC_PC w = s.fld F.CLRK_PC_PC w :=
  ((Wrote.nil s).setFlag w b hk (by simp)).fld_apart (by decide) (by simp [hk])

/-- A Clerk that issues a write after an operation that leaves its stores and its PC. -/
theorem Issued.intro {s x : State} {w : Nat} (b : Nat) (wait : Bool) (hl : x.clerk w = s.clerk w) (hpc : x.fld F.CLRK_PC_PC w = s.fld F.CLRK_PC_PC w) :
    Issued s ((x.issued w b wait).nextPc w) w b wait := by
  unfold Issued
  rw [State.nextPc_clerk, State.nextPc_pc, State.issued, State.putClerk_clerk, State.putClerk_fld, hpc, hl]
  exact ⟨rfl, rfl, rfl, rfl⟩

theorem StoreOnly.issued {s x : State} (h : StoreOnly s x) (w b : Nat) (wait : Bool) : Issued s ((x.issued w b wait).nextPc w) w b wait :=
  Issued.intro b wait (h.clerk w) (h.fld (clrk_pc_ne_status w))

theorem Executes.word {s : State} {w op v : Nat} (h : Executes s w op v) : w < 8 := by
  obtain ⟨hw, -⟩ := h
  exact hw

/-- A place of 4 slots of a bucket stands below 2^20. -/
theorem place_lt {b p x y : Nat} (hb : b = x % 262144) (hp : p = y % 4) : 4 * b + p < 2 ^ 20 ∧ b < 262144 ∧ p < 4 := by omega

theorem State.atRegs_eq {s : State} {w v b p : Nat} (hb : b = s.greg w (mwRa v) % 262144) (hp : p = s.greg w (mwRb v) % 4) :
    s.atRegs w v = (b, p) := by
  rw [hb, hp]
  rfl

/-! ### WRR and UPD -/

theorem ledger_count_ne_pc {g : Nat} (w : Nat) (_hg : g < 16) : F.CLRK_PC_PC.reg.key w ≠ F.LDG_LEDGER_COUNT_VALUE.reg.key g := by
  have hc : R.LDG_LEDGER_COUNT.key g = 0x28001010 + g * 0x40 := (rfl)
  show R.CLRK_PC.key w ≠ R.LDG_LEDGER_COUNT.key g
  rw [clrk_pc_key, hc]
  omega

theorem State.addCount_pc (s : State) {g : Nat} (w : Nat) (hg : g < 16) : (s.addCount g).fld F.CLRK_PC_PC w = s.fld F.CLRK_PC_PC w :=
  s.fld_setF_ne _ (ledger_count_ne_pc w hg)
theorem State.subCount_pc (s : State) {g : Nat} (w : Nat) (hg : g < 16) : (s.subCount g).fld F.CLRK_PC_PC w = s.fld F.CLRK_PC_PC w :=
  s.fld_setF_ne _ (ledger_count_ne_pc w hg)
theorem State.addCount_clerk (s : State) (g w : Nat) : (s.addCount g).clerk w = s.clerk w := by
  rw [State.clerk, State.addCount, State.inc_ldg, State.clerk]
theorem State.subCount_clerk (s : State) (g w : Nat) : (s.subCount g).clerk w = s.clerk w := by
  rw [State.clerk, State.subCount, State.dec_ldg, State.clerk]
theorem State.addCount_arrays (s : State) (g : Nat) : (s.addCount g).arrays = s.arrays := s.inc_arrays _ _
theorem State.subCount_arrays (s : State) (g : Nat) : (s.subCount g).arrays = s.arrays := s.dec_arrays _ _

/-- The entry that a write goes over leaves its ledger's count. -/
def State.uncount (s : State) (old : Nat) : State := if bit old 0 && bit old 1 then s.subCount (slotLedger old) else s

theorem State.uncount_arrays (s : State) (old : Nat) : (s.uncount old).arrays = s.arrays := by
  unfold State.uncount
  split
  · exact s.subCount_arrays _
  · rfl
theorem State.uncount_clerk (s : State) (old w : Nat) : (s.uncount old).clerk w = s.clerk w := by
  unfold State.uncount
  split
  · exact s.subCount_clerk _ w
  · rfl
theorem State.uncount_pc (s : State) (old w : Nat) : (s.uncount old).fld F.CLRK_PC_PC w = s.fld F.CLRK_PC_PC w := by
  unfold State.uncount
  split
  · exact s.subCount_pc w (slotLedger_lt old)
  · rfl
theorem State.uncount_slot (s : State) (old k i : Nat) : (s.uncount old).slot k i = s.slot k i := State.slot_congr (s.uncount_arrays old) k i

theorem State.krLedger_lt (s : State) (w : Nat) : s.krLedger w < 16 := bits_lt _ _ _
theorem State.krResult_lt (s : State) (w : Nat) : s.krResult w < 2 ^ 32 := s.rd_lt _ _ (show 0 < 2 ^ 32 by decide)
theorem State.choiceOf_lt (s : State) (g : Nat) (key : List Byte) (b : Nat) : s.choiceOf g key b < 2 := by
  unfold State.choiceOf
  split <;> decide

/-- The entry that KR holds, as it stands in bucket `b`. -/
def State.krEntry (s : State) (w b : Nat) : List Nat :=
  makeEntry (s.krSpan w) (s.krLedger w) (bit (s.krFlags w) 0) 0 (s.choiceOf (s.krLedger w) (s.krKey w) b) (s.krResult w) (s.krKey w)

theorem execClrkWrr_writes (s : State) (w v b p n : Nat) (hb : b = s.greg w (mwRa v) % 262144) (hp : p = s.greg w (mwRb v) % 4) (hn : n = 4 * b + p)
    (h : Executes s w 0x20 v) (hal : p % spanSlots (s.krSpan w) = 0) (hspan : s.krSpan w < 3) : ∃ t, execClrkWrr w s = .next t
      ∧ (∀ k j x, k < 8 → (s.krEntry w b)[j]? = some x → noHit (t.slot k (n + j)) = noHit x)
      ∧ SlotsKept s t n (spanSlots (s.krSpan w)) ∧ Issued s t w b false := by
  subst hn
  obtain ⟨-, hb', hp'⟩ := place_lt hb hp
  have hlen : (s.krEntry w b).length = spanSlots (s.krSpan w) := makeEntry_length _ _ _ _ _ _ _
  have hfit : p + spanSlots (s.krSpan w) ≤ 4 := by
    revert hal
    have hcase : s.krSpan w = 0 ∨ s.krSpan w = 1 ∨ s.krSpan w = 2 := by omega
    obtain h0 | h1 | h2 := hcase
    · rw [h0, show spanSlots 0 = 1 from rfl]
      omega
    · rw [h1, show spanSlots 1 = 2 from rfl]
      omega
    · rw [h2, show spanSlots 2 = 4 from rfl]
      omega
  have hroom : 4 * b + p + (s.krEntry w b).length ≤ 2 ^ 20 := by omega
  have hlt : ∀ x ∈ s.krEntry w b, x < 2 ^ 128 :=
    makeEntry_lt _ _ (by omega) (s.krLedger_lt w) (s.choiceOf_lt _ _ _) (s.krResult_lt w)
  refine ⟨_, h.micro _, ?_⟩
  simp only [State.atRegs_eq hb hp]
  refine ⟨fun k j x hk hx => ?_, ?_, ?_⟩
  · rw [State.issued_nextPc_slot, State.slot_congr (State.addCount_arrays _ _)]
    exact (congrArg noHit (State.writeEntry_slot (s.uncount _) hroom hlt hk hx)).trans (noHit_entryValue _ _ _)
  · refine SlotsKept.of_arrays ?_ ((State.issued_nextPc_arrays _ _ _ _).trans (State.addCount_arrays _ _))
    rw [← hlen]
    exact (State.writeEntry_kept (s.uncount _) hroom).from_arrays (s.uncount_arrays _)
  · have hst := State.writeEntry_storeOnly (s.uncount (s.slot (w % 4) (4 * b + p))) hroom
    refine Issued.intro b false ?_ ?_
    · rw [State.addCount_clerk]
      exact (hst.clerk w).trans (s.uncount_clerk _ w)
    · rw [State.addCount_pc _ _ (s.krLedger_lt w)]
      exact (hst.fld (clrk_pc_ne_status w)).trans (s.uncount_pc _ w)

/-- A head edited in every replica, and the write issued. -/
theorem State.editHead_issued (s : State) (w : Nat) {b p : Nat} (g : Nat → Nat) (wait : Bool) (hn : 4 * b + p < 2 ^ 20)
    (hg : ∀ v, v < 2 ^ 128 → g v < 2 ^ 128) :
    (∀ k, k < 8 → (((s.editHead b p g).issued w b wait).nextPc w).slot k (4 * b + p) = withParity (g (s.slot k (4 * b + p))))
      ∧ SlotsKept s (((s.editHead b p g).issued w b wait).nextPc w) (4 * b + p) 1
      ∧ Issued s (((s.editHead b p g).issued w b wait).nextPc w) w b wait :=
  ⟨fun _ hk => (State.issued_nextPc_slot _ _ _ _ _ _).trans (s.editHead_slot b p g hn hg hk),
    (s.editHead_kept b p g hn).of_arrays (State.issued_nextPc_arrays _ _ _ _), (s.editHead_storeOnly b p g hn).issued w b wait⟩

theorem State.issued_setFlag (s : State) (w b k : Nat) (wait c : Bool) : (s.issued w b wait).setFlag w k c = (s.setFlag w k c).issued w b wait := by
  unfold State.issued State.setFlag
  rw [State.putClerk_fld, State.putClerk_setF, State.setF_clerk]

/-- The head of a station that has moved: RESULT replaced, STATIC as given, AGE 0 (R305). -/
def movedHead (result : Nat) (static : Bool) (v : Nat) : Nat := putBits (putBits (putBits v 32 32 result) 8 1 (b2n static)) 10 4 0

theorem movedHead_lt (result : Nat) (static : Bool) {v : Nat} (h : v < 2 ^ 128) : movedHead result static v < 2 ^ 128 :=
  putBits_lt _ (putBits_lt _ (putBits_lt _ h (by decide)) (by decide)) (by decide)

theorem movedHead_facts {result : Nat} (static : Bool) (v : Nat) (hr : result < 2 ^ 32) :
    slotResult (withParity (movedHead result static v)) = result ∧ slotAge (withParity (movedHead result static v)) = 0
      ∧ slotStatic (withParity (movedHead result static v)) = static ∧ withParity (movedHead result static v) / 2 ^ 64 = v / 2 ^ 64 := by
  rw [slotResult_withParity, slotAge_withParity, slotStatic_withParity, withParity_div _ (by decide)]
  unfold movedHead
  refine ⟨?_, bits_putBits_same _ _ _ _, ?_, ?_⟩
  · exact (bits_putBits_ne _ _ _ _ _ _ (by decide)).trans ((bits_putBits_ne _ _ _ _ _ _ (by decide)).trans
      ((bits_putBits_same _ _ _ _).trans (Nat.mod_eq_of_lt hr)))
  · exact (bit_putBits_ne _ _ _ _ _ (by decide)).trans (bit_putBits_b2n _ _ _)
  · rw [putBits_div _ _ _ _ (by decide), putBits_div _ _ _ _ (by decide), putBits_div _ _ _ _ (by decide)]

section
variable (s : State) (w v b p n : Nat) (hb : b = s.greg w (mwRa v) % 262144) (hp : p = s.greg w (mwRb v) % 4) (hn : n = 4 * b + p)
include hb hp hn

theorem execClrkUpd_moves (x : Nat) (h : Executes s w 0x21 v) (hx : s.slot (w % 4) n = x) (hask : bit (s.krFlags w) 1 = true)
    (hres : slotResult x ≠ s.krResult w) (hst : slotStatic x = false) : ∃ t, execClrkUpd w s = .next t
      ∧ (∀ k, k < 8 → slotResult (t.slot k n) = s.krResult w ∧ slotAge (t.slot k n) = 0 ∧ slotStatic (t.slot k n) = false
        ∧ t.slot k n / 2 ^ 64 = s.slot k n / 2 ^ 64)
      ∧ SlotsKept s t n 1 ∧ Issued s t w b false := by
  subst hn
  obtain ⟨hlt, -⟩ := place_lt hb hp
  refine ⟨_, h.micro _, ?_⟩
  simp only [State.atRegs_eq hb hp, hx]
  rw [if_pos (by simp [hask, hres, hst]), hst, State.issued_setFlag]
  have hslot : ∀ k, k < 8 → (s.editHead b p (movedHead (s.krResult w) false)).slot k (4 * b + p) = _ := fun k hk =>
    s.editHead_slot b p _ hlt (fun _ => movedHead_lt _ _) hk
  refine ⟨fun k hk => ?_, ?_, ?_⟩
  · rw [State.issued_nextPc_slot, State.setFlag_slot]
    refine (congrArg (fun y => slotResult y = s.krResult w ∧ slotAge y = 0 ∧ slotStatic y = false
      ∧ y / 2 ^ 64 = s.slot k (4 * b + p) / 2 ^ 64) (hslot k hk)).mpr ?_
    exact movedHead_facts false _ (s.krResult_lt w)
  · exact (s.editHead_kept b p _ hlt).of_arrays ((State.issued_nextPc_arrays _ _ _ _).trans (State.setFlag_arrays _ _ _ _))
  · have hstore := s.editHead_storeOnly b p (movedHead (s.krResult w) false) hlt
    refine Issued.intro b false ((State.setFlag_clerk _ _ _ _ _).trans (hstore.clerk w)) ?_
    rw [State.setFlag_pc _ _ _ (by decide)]
    exact hstore.fld (clrk_pc_ne_status w)

theorem execClrkUpd_same (x : Nat) (h : Executes s w 0x21 v) (hx : s.slot (w % 4) n = x)
    (ho : bit (s.krFlags w) 1 = false ∨ slotResult x = s.krResult w ∨ slotStatic x = true) :
    ∃ t, execClrkUpd w s = .next t ∧ Wrote s t (toFlag w 1 true ++ toNext s w) := by
  subst hn
  refine ⟨_, h.micro _, ?_⟩
  simp only [State.atRegs_eq hb hp, hx]
  rw [if_neg (by
    obtain ho | ho | ho := ho <;> simp [ho])]
  exact ((Wrote.nil s).setFlag w true (by decide) (by simp)).nextPc w (by simp)

/-! ### ERSB, HITS, AGEW, REFRESH, CDOOM and UNDOOM -/

theorem execClrkErsb_erases (h : Executes s w 0x24 v) (hroom : n + 4 ≤ 2 ^ 20) : ∃ t, execClrkErsb w s = .next t
    ∧ (∀ k j, k < 8 → j < spanSlots (slotSpan (s.slot k n)) → t.slot k (n + j) = 0) ∧ SlotsKept s t n 4 ∧ Issued s t w b true := by
  subst hn
  refine ⟨_, h.micro _, ?_⟩
  simp only [State.atRegs_eq hb hp]
  refine ⟨fun k j hk hj => ?_, ?_, ?_⟩
  · rw [State.issued_nextPc_slot]
    refine State.eraseEntry_slot (s.uncount _) b p hroom hk ?_
    rwa [State.uncount_slot]
  · exact ((State.eraseEntry_kept (s.uncount _) b p hroom).from_arrays (s.uncount_arrays _)).of_arrays (State.issued_nextPc_arrays _ _ _ _)
  · have hst := State.eraseEntry_storeOnly (s.uncount (s.slot (w % 4) (4 * b + p))) b p hroom
    exact Issued.intro b true ((hst.clerk w).trans (s.uncount_clerk _ w)) ((hst.fld (clrk_pc_ne_status w)).trans (s.uncount_pc _ w))

theorem execClrkHits_reads (h : Executes s w 0x25 v) : ∃ t, execClrkHits w s = .next t
    ∧ Wrote s t (toFlag w 5 (replicas.any fun k => slotHit (s.slot k n)) ++ toNext s w) := by
  subst hn
  refine ⟨_, h.micro _, ?_⟩
  simp only [State.atRegs_eq hb hp]
  exact ((Wrote.nil s).setFlag w _ (by decide) (by simp)).nextPc w (by simp)

theorem execClrkAgew_writes (h : Executes s w 0x26 v) : ∃ t, execClrkAgew w s = .next t
    ∧ (∀ k, k < 8 → slotAge (t.slot k n) = s.greg w (mwRd v) % 16) ∧ SlotsKept s t n 1 ∧ Issued s t w b (bit (mwImm v) 0) := by
  subst hn
  obtain ⟨hlt, -⟩ := place_lt hb hp
  obtain ⟨hslot, hrest⟩ := s.editHead_issued w (fun h => putBits h 10 4 (s.greg w (mwRd v))) (bit (mwImm v) 0) hlt
    fun v hv => putBits_lt _ hv (by decide)
  refine ⟨_, h.micro _, ?_⟩
  simp only [State.atRegs_eq hb hp]
  refine ⟨fun k hk => ?_, hrest⟩
  rw [hslot k hk, slotAge_withParity]
  exact bits_putBits_same _ _ _ _

theorem execClrkRefresh_clears (h : Executes s w 0x27 v) : ∃ t, execClrkRefresh w s = .next t
    ∧ (∀ k, k < 8 → slotAge (t.slot k n) = 0 ∧ slotHit (t.slot k n) = false) ∧ SlotsKept s t n 1 ∧ Issued s t w b false := by
  subst hn
  obtain ⟨hlt, -⟩ := place_lt hb hp
  obtain ⟨hslot, hrest⟩ := s.editHead_issued w (fun h => noHit (putBits h 10 4 0)) false hlt
    fun v hv => putBits_lt _ (putBits_lt _ hv (by decide)) (by decide)
  refine ⟨_, h.micro _, ?_⟩
  simp only [State.atRegs_eq hb hp]
  refine ⟨fun k hk => ?_, hrest⟩
  rw [hslot k hk, slotAge_withParity, slotHit_withParity]
  exact ⟨(bits_putBits_ne _ _ _ _ _ _ (by decide)).trans (bits_putBits_same _ _ _ _), bit_putBits_zero _ _⟩

theorem execClrkUndoom_clears (h : Executes s w 0x29 v) : ∃ t, execClrkUndoom w s = .next t
    ∧ (∀ k, k < 8 → bit (t.slot k n) 15 = false) ∧ SlotsKept s t n 1 ∧ Issued s t w b true := by
  subst hn
  obtain ⟨hlt, -⟩ := place_lt hb hp
  obtain ⟨hslot, hrest⟩ := s.editHead_issued w (fun h => putBits h 15 1 0) true hlt fun v hv => putBits_lt _ hv (by decide)
  refine ⟨_, h.micro _, ?_⟩
  simp only [State.atRegs_eq hb hp]
  refine ⟨fun k hk => ?_, hrest⟩
  rw [hslot k hk, bit_withParity _ (by decide)]
  exact bit_putBits_zero _ _

end

/-- One replica's part of a conditional doom, which it accepts where the state `s` before the write says so (R309). -/
def State.doomReplica (s : State) (n r : Nat) (t : State) : State :=
  if s.doomable r n then t.putSlot r n (withParity (putBits (t.slot r n) 15 1 1)) else t

theorem State.doomReplica_step (s : State) {n : Nat} (hn : n < 2 ^ 20) (r : Nat) (t : State) : PutIn r n 1 t (s.doomReplica n r t) := by
  unfold State.doomReplica
  split
  · exact PutIn.putSlot t r _ (Nat.le_refl _) (Nat.lt_succ_self _) hn
  · exact PutIn.refl _ _ _ t

theorem State.doomReplica_slot (s : State) {n k : Nat} (hn : n < 2 ^ 20) (hk : k < 8) :
    bit ((s.each replicas (s.doomReplica n)).slot k n) 15 = (bit (s.slot k n) 15 || s.doomable k n) := by
  have hat := State.each_replica (s.doomReplica_step hn) hk (g := fun t => t.slot k n) (out := fun t => t.slot k n)
    (v := fun x => if s.doomable k n then withParity (putBits x 15 1 1) else x) (OfReplica.slot k hn) (OfReplica.slot k hn)
    (fun t => by
      unfold State.doomReplica
      split
      · exact t.slot_putSlot_same _ _ (withParity_lt (putBits_lt _ (t.slot_lt _ _) (by decide)))
      · rfl) s
  rw [hat]
  split
  · next hd =>
    rw [bit_withParity _ (by decide), hd, Bool.or_true]
    exact bit_putBits_b2n _ 15 true
  · next hd => rw [Bool.eq_false_of_not_eq_true hd, Bool.or_false]

theorem execClrkCdoom_dooms (s : State) (w v b p n : Nat) (hb : b = s.greg w (mwRa v) % 262144) (hp : p = s.greg w (mwRb v) % 4) (hn : n = 4 * b + p)
    (h : Executes s w 0x28 v) : ∃ t, execClrkCdoom w s = .next t
      ∧ (∀ k, k < 8 → bit (t.slot k n) 15 = (bit (s.slot k n) 15 || s.doomable k n))
      ∧ bit (t.fld F.CLRK_COND_FLAGS w) 6 = replicas.all (fun k => s.doomable k n) ∧ SlotsKept s t n 1 ∧ Issued s t w b true := by
  subst hn
  obtain ⟨hlt, -⟩ := place_lt hb hp
  have hst := StoreOnly.of_rest (State.each_replicas_rest (s.doomReplica_step hlt) s)
  refine ⟨_, h.micro _, ?_⟩
  simp only [State.atRegs_eq hb hp]
  refine ⟨fun k hk => ?_, ?_, ?_, ?_⟩
  · rw [State.issued_nextPc_slot, State.setFlag_slot]
    exact s.doomReplica_slot hlt hk
  · rw [State.issued, State.putClerk_nextPc, State.putClerk_fld]
    exact (((Wrote.nil _).setFlag w _ (by decide) (by simp)).nextPc w (by simp)).flags_bit w _ (by decide) (by simp)
  · exact (State.each_replicas_kept (s.doomReplica_step hlt) s).of_arrays ((State.issued_nextPc_arrays _ _ _ _).trans (State.setFlag_arrays _ _ _ _))
  · refine Issued.intro b true ((State.setFlag_clerk _ _ _ _ _).trans (hst.clerk w)) ?_
    rw [State.setFlag_pc _ _ _ (by decide)]
    exact hst.fld (clrk_pc_ne_status w)

/-! ### DUP and ERS -/

theorem State.pathAt_position_lt (s : State) (w e : Nat) : (s.pathAt w e).2 < 4 := bits_lt _ _ _

theorem execClrkDup_copies (s : State) (w v : Nat) (a c : Nat × Nat) (ha : s.pathAt w (s.greg w (mwRd v)) = a)
    (hc : s.pathAt w (s.greg w (mwRd v) + 1) = c) (hna : 4 * a.1 + a.2 + 4 ≤ 2 ^ 20) (hnc : 4 * c.1 + c.2 + 4 ≤ 2 ^ 20) (h : Executes s w 0x22 v) :
    ∃ t, execClrkDup w s = .next t
      ∧ (∀ k, k < 8 → slotResult (t.slot k (4 * c.1 + c.2)) = slotResult (s.slot k (4 * a.1 + a.2))
        ∧ t.slot k (4 * c.1 + c.2) / 2 ^ 64 = s.slot k (4 * a.1 + a.2) / 2 ^ 64
        ∧ slotHit (t.slot k (4 * c.1 + c.2)) = slotHit (s.slot k (4 * c.1 + c.2)))
      ∧ SlotsKept s t (4 * c.1 + c.2) 4 ∧ Issued s t w c.1 true := by
  have hp : a.2 < 4 := ha ▸ s.pathAt_position_lt _ _
  refine ⟨_, h.micro _, ?_⟩
  simp only [ha, hc]
  refine ⟨fun k hk => ?_, (s.dupEntry_kept hnc).of_arrays (State.issued_nextPc_arrays _ _ _ _), (s.dupEntry_storeOnly hnc).issued w c.1 true⟩
  rw [State.issued_nextPc_slot]
  have hhead := s.dupEntry_head (b := a.1) (p := a.2) hp (by omega) hnc hk
  simpa only [headFacts, Prod.mk.injEq] using hhead

theorem execClrkErs_erases (s : State) (w v : Nat) (a c : Nat × Nat) (ha : s.pathAt w (s.greg w (mwRd v)) = a)
    (hc : s.pathAt w (s.greg w (mwRd v) + 1) = c) (hna : 4 * a.1 + a.2 + 4 ≤ 2 ^ 20) (hnc : 4 * c.1 + c.2 + 4 ≤ 2 ^ 20) (h : Executes s w 0x23 v)
    (hap : 4 * c.1 + c.2 < 4 * a.1 + a.2 ∨ 4 * a.1 + a.2 + 4 ≤ 4 * c.1 + c.2) :
    ∃ t, execClrkErs w s = .next t
      ∧ (∀ k, k < 8 → (∀ j, j < spanSlots (slotSpan (s.slot k (4 * a.1 + a.2))) → t.slot k (4 * a.1 + a.2 + j) = 0)
        ∧ slotHit (t.slot k (4 * c.1 + c.2)) = (slotHit (s.slot k (4 * a.1 + a.2)) || slotHit (s.slot k (4 * c.1 + c.2)))
        ∧ slotResult (t.slot k (4 * c.1 + c.2)) = slotResult (s.slot k (4 * c.1 + c.2)))
      ∧ Issued s t w a.1 true := by
  refine ⟨_, h.micro _, ?_⟩
  simp only [ha, hc]
  refine ⟨fun k hk => ?_, (s.eraseMoved_storeOnly hna (by omega)).issued w a.1 true⟩
  simp only [State.issued_nextPc_slot]
  exact s.eraseMoved_slots hna (by omega) hap hk

/-- Settles O34: a write made replica by replica does in each of them what it does to that replica's slots, and the Clerk is told of it. -/
theorem replicatedWriteMicrowords : Obligations.ReplicatedWriteMicrowords := by
  unfold Obligations.ReplicatedWriteMicrowords
  intro s w v b p n hb hp hn
  refine ⟨execClrkWrr_writes s w v b p n hb hp hn,
    fun x h hx => ⟨execClrkUpd_moves s w v b p n hb hp hn x h hx, execClrkUpd_same s w v b p n hb hp hn x h hx⟩,
    fun a c ha hc hna hnc _ => ⟨execClrkDup_copies s w v a c ha hc hna hnc, execClrkErs_erases s w v a c ha hc hna hnc⟩,
    execClrkErsb_erases s w v b p n hb hp hn, execClrkHits_reads s w v b p n hb hp hn, execClrkAgew_writes s w v b p n hb hp hn,
    execClrkRefresh_clears s w v b p n hb hp hn, execClrkCdoom_dooms s w v b p n hb hp hn, execClrkUndoom_clears s w v b p n hb hp hn⟩

end Sys2Proof.Machine

namespace Sys2Proof.Machine

/-! ### The registers of one Clerk lie apart -/

section
variable (w : Nat)

@[simp] theorem clrk_status_ne_pc : R.CLRK_STATUS.key w ≠ R.CLRK_PC.key w := Reg.key_ne_of_base (by rfl) (by decide) w
@[simp] theorem clrk_status_ne_queue : R.CLRK_STATUS.key w ≠ R.CLRK_QUEUE.key w := Reg.key_ne_of_base (by rfl) (by decide) w
@[simp] theorem clrk_status_ne_ctl : R.CLRK_STATUS.key w ≠ R.CLRK_CTL.key w := Reg.key_ne_of_base (by rfl) (by decide) w
@[simp] theorem clrk_pc_ne_queue : R.CLRK_PC.key w ≠ R.CLRK_QUEUE.key w := Reg.key_ne_of_base (by rfl) (by decide) w
@[simp] theorem clrk_queue_ne_status : R.CLRK_QUEUE.key w ≠ R.CLRK_STATUS.key w := (clrk_status_ne_queue w).symm
@[simp] theorem clrk_queue_ne_pc : R.CLRK_QUEUE.key w ≠ R.CLRK_PC.key w := (clrk_pc_ne_queue w).symm
@[simp] theorem clrk_queue_ne_ctl : R.CLRK_QUEUE.key w ≠ R.CLRK_CTL.key w := Reg.key_ne_of_base (by rfl) (by decide) w

end

/-- What reads only registers is the same of states with the same registers. -/
theorem State.candidates_congr {s t : State} (h : t.regs = s.regs) (g : Nat) (key : List Byte) : t.candidates g key = s.candidates g key := by
  have hrd : ∀ q j, t.rd q j = s.rd q j := State.rd_congr h
  have hfld : ∀ f j, t.fld f j = s.fld f j := State.fld_congr h
  have hspan : t.ledgerSpan g = s.ledgerSpan g := by rw [State.ledgerSpan, hfld, State.ledgerSpan]
  have hkb : t.keyBytes g = s.keyBytes g := by rw [State.keyBytes, hspan, hfld, State.keyBytes]
  have htype : ∀ g, t.ledgerType g = s.ledgerType g := fun g => hfld _ _
  have hgroup : t.groupLedger = s.groupLedger := by
    rw [State.groupLedger, State.groupLedger]
    simp only [htype]
  have hmax : ∀ g, t.maxEntries g = s.maxEntries g := fun g => by
    rw [State.maxEntries, State.maxEntries]
    simp only [hfld, htype]
  have hrows : t.hashRows = s.hashRows := by
    rw [State.hashRows, State.hashRows, State.groupRows, State.groupRows]
    simp only [hgroup, hmax]
  rw [State.candidates, State.candidates]
  simp only [hrd, hkb, hrows]

/-! ### Learn records -/

/-- The record that leaves those held for a frame's end. -/
def State.unheld (s : State) (l : Learn) : State := { s with ldg := { s.ldg with held := s.ldg.held.erase l } }

@[simp] theorem State.unheld_clerk (s : State) (l : Learn) (w : Nat) : (s.unheld l).clerk w = s.clerk w := (rfl)
@[simp] theorem State.unheld_mode (s : State) (l : Learn) : (s.unheld l).mode = s.mode := (rfl)
@[simp] theorem State.unheld_regs (s : State) (l : Learn) : (s.unheld l).regs = s.regs := (rfl)
@[simp] theorem State.unheld_arrays (s : State) (l : Learn) : (s.unheld l).arrays = s.arrays := (rfl)

theorem State.keyWard_congr {s t : State} (h : t.regs = s.regs) (g : Nat) (key : List Byte) : t.keyWard g key = s.keyWard g key := by
  have hfld : ∀ f j, t.fld f j = s.fld f j := State.fld_congr h
  rw [State.keyWard, State.keyWard, State.candidates_congr h]
  simp only [State.keyBytes, State.ledgerSpan, hfld]

theorem execLearnRelease_eq (s : State) (i : Nat) (l : Learn) (hl : s.ldg.held.find? (fun l => l.pipe == i) = some l) :
    execLearnRelease i s = .next (if l.bad then s.unheld l
      else if !bit 0x30 s.mode || decide (64 ≤ (s.clerk (s.keyWard l.ledger l.key)).learn.length) then (s.unheld l).learnDrop
      else (s.unheld l).setLearn (s.keyWard l.ledger l.key) ((s.clerk (s.keyWard l.ledger l.key)).learn ++ [l])) := by
  rw [← State.keyWard_congr (s.unheld_regs l)]
  unfold execLearnRelease
  rw [hl]
  rfl

theorem State.setLearn_regs (s : State) (w : Nat) (l : List Learn) : (s.setLearn w l).regs = (s.setF F.CLRK_QUEUE_LEARN_FILL w l.length).regs := by
  rw [State.setLearn, State.putClerk_setF, State.putClerk_regs]
theorem State.setLearn_clerk (s : State) (w : Nat) (l : List Learn) : (s.setLearn w l).clerk w = { s.clerk w with learn := l } := by
  rw [State.setLearn, State.setF_clerk, State.putClerk_clerk]
theorem State.setLearn_arrays (s : State) (w : Nat) (l : List Learn) : (s.setLearn w l).arrays = s.arrays := by
  rw [State.setLearn, State.setF_arrays, State.putClerk_arrays]

theorem execLearnRelease_bad (s : State) (i : Nat) (l : Learn) (hl : s.ldg.held.find? (fun l => l.pipe == i) = some l) (hb : l.bad = true) :
    execLearnRelease i s = .next { s with ldg := { s.ldg with held := s.ldg.held.erase l } } := by
  rw [execLearnRelease_eq s i l hl, if_pos hb]
  rfl

theorem execLearnRelease_joins (s : State) (i : Nat) (l : Learn) (w : Nat) (hl : s.ldg.held.find? (fun l => l.pipe == i) = some l)
    (hw : s.keyWard l.ledger l.key = w) (hb : l.bad = false) (hm : bit 0x30 s.mode = true) (hroom : (s.clerk w).learn.length < 64) :
    ∃ t, execLearnRelease i s = .next t ∧ (t.clerk w).learn = (s.clerk w).learn ++ [l] ∧ t.ldg.held = s.ldg.held.erase l
      ∧ RegsBecome s t [(F.CLRK_QUEUE_LEARN_FILL, w, (s.clerk w).learn.length + 1)] ∧ t.arrays = s.arrays := by
  have hgo : ¬(!bit 0x30 s.mode || decide (64 ≤ (s.clerk w).learn.length)) = true := by
    rw [hm]
    simp only [Bool.not_true, Bool.false_or, decide_eq_true_eq]
    omega
  refine ⟨_, execLearnRelease_eq s i l hl, ?_⟩
  rw [hw, if_neg (by simp [hb]), if_neg hgo, State.setLearn_clerk, State.setLearn_arrays]
  refine ⟨rfl, ?_, ?_, s.unheld_arrays l⟩
  · rw [State.setLearn, State.setF_ldg]
    rfl
  · have hw := (Wrote.setF s F.CLRK_QUEUE_LEARN_FILL w ((s.clerk w).learn.length + 1) (by decide)).regs
    refine hw.of_regs ?_
    rw [State.setLearn_regs, List.length_append]
    exact State.setF_regs_congr (s.unheld_regs l) _ _ _

/-! ### Routines started -/

theorem State.startRoutine_starts (s : State) (w k : Nat) (work : Option Learn) (words : List Nat) : ∃ u,
    Wrote s u [(F.CLRK_STATUS_STATE, w, 1), (F.CLRK_STATUS_ROUTINE, w, k), (F.CLRK_PC_PC, w, s.fld F.CLRK_ENTRY_ADDRESS k),
      (F.CLRK_PC_RESUME, w, s.fld F.CLRK_ENTRY_ADDRESS k)]
    ∧ s.startRoutine w k work words = u.putClerk w { s.clerk w with work := work, words := words, wrote := false, first := none
                                                                    last := u.cursorNow w (s.fld F.CLRK_ENTRY_ADDRESS k) } := by
  refine ⟨_, Wrote.setAll s _ (by simp [F.CLRK_STATUS_STATE, F.CLRK_STATUS_ROUTINE, F.CLRK_PC_PC, F.CLRK_PC_RESUME])
    (by simp [Separate, F.CLRK_STATUS_STATE, F.CLRK_STATUS_ROUTINE, F.CLRK_PC_PC, F.CLRK_PC_RESUME]), ?_⟩
  simp only [State.startRoutine, State.setAll_cons, State.setAll_nil, State.setF_clerk]

/-- What a routine that starts reads as. -/
theorem State.startRoutine_reads (s : State) (w k : Nat) (work : Option Learn) (words : List Nat) (hk : k < 16) :
    (s.startRoutine w k work words).clerkState w = 1 ∧ (s.startRoutine w k work words).fld F.CLRK_STATUS_ROUTINE w = k
      ∧ (s.startRoutine w k work words).fld F.CLRK_PC_PC w = s.fld F.CLRK_ENTRY_ADDRESS k ∧ (s.startRoutine w k work words).arrays = s.arrays := by
  obtain ⟨u, hu, ht⟩ := s.startRoutine_starts w k work words
  rw [ht, State.clerkState, State.putClerk_fld, State.putClerk_fld, State.putClerk_fld, State.putClerk_arrays]
  refine ⟨hu.fld _ _ _ List.mem_cons_self, ?_, ?_, hu.arrays⟩
  · exact (hu.fld F.CLRK_STATUS_ROUTINE w k (by simp)).trans (Nat.mod_eq_of_lt hk)
  · exact (hu.fld F.CLRK_PC_PC w (s.fld F.CLRK_ENTRY_ADDRESS k) (by simp)).trans (Nat.mod_eq_of_lt (bits_lt _ _ _))

end Sys2Proof.Machine

namespace Sys2Proof.Machine

theorem State.startRoutine_clerk (s : State) (w k : Nat) (work : Option Learn) (words : List Nat) :
    ((s.startRoutine w k work words).clerk w).work = work ∧ ((s.startRoutine w k work words).clerk w).words = words
      ∧ ((s.startRoutine w k work words).clerk w).learn = (s.clerk w).learn ∧ ((s.startRoutine w k work words).clerk w).due = (s.clerk w).due := by
  obtain ⟨u, -, ht⟩ := s.startRoutine_starts w k work words
  rw [ht, State.putClerk_clerk]
  exact ⟨rfl, rfl, rfl, rfl⟩

theorem State.startRoutine_queue (s : State) (w k : Nat) (work : Option Learn) (words : List Nat) :
    (s.startRoutine w k work words).fld F.CLRK_QUEUE_SWEEP_NEXT w = s.fld F.CLRK_QUEUE_SWEEP_NEXT w := by
  obtain ⟨u, hu, ht⟩ := s.startRoutine_starts w k work words
  rw [ht, State.putClerk_fld]
  exact hu.fld_apart (by decide) (by simp [Separate, F.CLRK_STATUS_STATE, F.CLRK_STATUS_ROUTINE, F.CLRK_PC_PC, F.CLRK_PC_RESUME, F.CLRK_QUEUE_SWEEP_NEXT])

/-! ### Work started -/

theorem State.clerkReady_open {s : State} {w : Nat} (hw : w < 8) (h : s.clerkReady w = true) : ¬(8 ≤ w ∨ (!s.clerkReady w) = true) := by
  rw [h]
  simp only [Bool.not_true, Bool.false_eq_true, or_false]
  omega

/-- The entry addresses lie above a Clerk's own registers. -/
theorem clrk_entry_ne_queue (w k : Nat) (hw : w < 8) : R.CLRK_ENTRY.key k ≠ R.CLRK_QUEUE.key w := by
  have hk : R.CLRK_ENTRY.key k = 0x2c080000 + k * 4 := (rfl)
  rw [hk, clrk_queue_key]
  omega

theorem execClerkWorkStart_learns (s : State) (w : Nat) (hw : w < 8) (hr : s.clerkReady w = true) (hs : (s.clerk w).scrub = []) (l : Learn)
    (tail : List Learn) (hl : (s.clerk w).learn = l :: tail) (hd : (s.clerk w).due < 1024) : ∃ t, execClerkWorkStart w s = .next t
      ∧ t.clerkState w = 1 ∧ t.fld F.CLRK_STATUS_ROUTINE w = (if l.move then 2 else 0) ∧ (t.clerk w).work = some l ∧ (t.clerk w).learn = tail
      ∧ t.fld F.CLRK_PC_PC w = s.fld F.CLRK_ENTRY_ADDRESS (if l.move then 2 else 0) ∧ t.arrays = s.arrays := by
  have hk : (if l.move = true then 2 else 0) < 16 := by split <;> decide
  have hgo : execClerkWorkStart w s = .next ((s.setLearn w tail).startRoutine w (if l.move then 2 else 0) (some l) []) := by
    unfold execClerkWorkStart
    rw [if_neg (State.clerkReady_open hw hr)]
    dsimp only
    rw [hs, hl]
    exact congrArg Host.Outcome.next (if_neg (by omega))
  obtain ⟨hst, hrt, hpc, harr⟩ := (s.setLearn w tail).startRoutine_reads w (if l.move then 2 else 0) (some l) [] hk
  obtain ⟨hwork, -, hlearn, -⟩ := (s.setLearn w tail).startRoutine_clerk w (if l.move then 2 else 0) (some l) []
  refine ⟨_, hgo, hst, hrt, hwork, ?_, ?_, harr.trans (s.setLearn_arrays w tail)⟩
  · rw [hlearn, State.setLearn_clerk]
  · rw [hpc, State.fld_congr (s.setLearn_regs w tail)]
    exact s.fld_setF_ne _ (clrk_entry_ne_queue w _ hw)

theorem State.settleQueue_wrote (s : State) (w : Nat) : Wrote s (s.settleQueue w) [(F.CLRK_QUEUE_WORK_FILL, w, min 127 (Tab.get [] s.cls.work (w / 4)).length),
    (F.CLRK_QUEUE_SWEEP_BEHIND, w, b2n (decide (1024 ≤ (s.clerk w).due)))] :=
  (Wrote.setF s F.CLRK_QUEUE_WORK_FILL w _ (by decide)).snoc F.CLRK_QUEUE_SWEEP_BEHIND w _ (by decide)
    (by simp [Separate, F.CLRK_QUEUE_WORK_FILL, F.CLRK_QUEUE_SWEEP_BEHIND])

/-- The sweep starts on its next bucket. -/
theorem State.startSweep_reads (s : State) (w : Nat) : (s.startSweep w).clerkState w = 1 ∧ (s.startSweep w).fld F.CLRK_STATUS_ROUTINE w = 3
    ∧ ((s.startSweep w).clerk w).words = [32768 * w + s.fld F.CLRK_QUEUE_SWEEP_NEXT w]
    ∧ (s.startSweep w).fld F.CLRK_QUEUE_SWEEP_NEXT w = (s.fld F.CLRK_QUEUE_SWEEP_NEXT w + 1) % 32768
    ∧ ((s.startSweep w).clerk w).due = (s.clerk w).due - 1 ∧ (s.startSweep w).arrays = s.arrays := by
  have hq := State.settleQueue_wrote ((s.putClerk w { s.clerk w with due := (s.clerk w).due - 1, swept := (s.clerk w).swept + 1 }).setF
    F.CLRK_QUEUE_SWEEP_NEXT w ((s.fld F.CLRK_QUEUE_SWEEP_NEXT w + 1) % 32768)) w
  rw [State.startSweep]
  dsimp only
  obtain ⟨hst, hrt, -, harr⟩ := State.startRoutine_reads (State.settleQueue ((s.putClerk w { s.clerk w with
    due := (s.clerk w).due - 1, swept := (s.clerk w).swept + 1 }).setF F.CLRK_QUEUE_SWEEP_NEXT w ((s.fld F.CLRK_QUEUE_SWEEP_NEXT w + 1) % 32768)) w) w 3 none
    [32768 * w + s.fld F.CLRK_QUEUE_SWEEP_NEXT w] (by decide)
  obtain ⟨-, hwords, -, hdue⟩ := State.startRoutine_clerk (State.settleQueue ((s.putClerk w { s.clerk w with
    due := (s.clerk w).due - 1, swept := (s.clerk w).swept + 1 }).setF F.CLRK_QUEUE_SWEEP_NEXT w ((s.fld F.CLRK_QUEUE_SWEEP_NEXT w + 1) % 32768)) w) w 3 none
    [32768 * w + s.fld F.CLRK_QUEUE_SWEEP_NEXT w]
  refine ⟨hst, hrt, hwords, ?_, ?_, ?_⟩
  · rw [State.startRoutine_queue, hq.fld_apart (by decide) (by simp [Separate, F.CLRK_QUEUE_WORK_FILL, F.CLRK_QUEUE_SWEEP_BEHIND, F.CLRK_QUEUE_SWEEP_NEXT]),
      State.fld_setF_same _ _ _ _ (by decide)]
    exact Nat.mod_mod _ _
  · rw [hdue, hq.clerk, State.setF_clerk, State.putClerk_clerk]
  · rw [harr, hq.arrays, State.setF_arrays, State.putClerk_arrays]

section
variable (s : State) (w : Nat) (hw : w < 8)
include hw

theorem execClerkWorkStart_sweeps (hr : s.clerkReady w = true) (hs : (s.clerk w).scrub = []) (hl : (s.clerk w).learn = []) (hd : 0 < (s.clerk w).due) :
    ∃ t, execClerkWorkStart w s = .next t
      ∧ t.clerkState w = 1 ∧ t.fld F.CLRK_STATUS_ROUTINE w = 3 ∧ (t.clerk w).words = [32768 * w + s.fld F.CLRK_QUEUE_SWEEP_NEXT w]
      ∧ t.fld F.CLRK_QUEUE_SWEEP_NEXT w = (s.fld F.CLRK_QUEUE_SWEEP_NEXT w + 1) % 32768 ∧ (t.clerk w).due = (s.clerk w).due - 1 ∧ t.arrays = s.arrays := by
  refine ⟨s.startSweep w, ?_, s.startSweep_reads w⟩
  unfold execClerkWorkStart
  rw [if_neg (State.clerkReady_open hw hr)]
  dsimp only
  rw [hs, hl]
  exact congrArg Host.Outcome.next (if_pos hd)

theorem execClerkWorkStart_none (hr : s.clerkReady w = true) (hs : (s.clerk w).scrub = []) (hl : (s.clerk w).learn = []) (hd : (s.clerk w).due = 0) :
    execClerkWorkStart w s = .next s := by
  unfold execClerkWorkStart
  rw [if_neg (State.clerkReady_open hw hr)]
  dsimp only
  rw [hs, hl]
  exact congrArg Host.Outcome.next (if_neg (by omega))

/-! ### The sweep -/

theorem execAgeSweepBucket_due (hm : bit 0x78 s.mode = true) (hleft : (s.clerk w).swept + (s.clerk w).due < 32768) (hr : s.clerkReady w = false) :
    ∃ t, execAgeSweepBucket w s = .next t ∧ (t.clerk w).due = (s.clerk w).due + 1 ∧ t.clerkState w = s.clerkState w ∧ t.arrays = s.arrays
      ∧ t.fld F.CLRK_QUEUE_SWEEP_BEHIND w = b2n (decide (1024 ≤ (s.clerk w).due + 1)) := by
  have hq := State.settleQueue_wrote (s.putClerk w { s.clerk w with due := (s.clerk w).due + 1 }) w
  have hclerk := hq.clerk w
  rw [State.putClerk_clerk] at hclerk
  have hfld : ∀ f : Fld, f.lo + f.wd ≤ 32 → R.CLRK_QUEUE.key w ≠ f.reg.key w →
      (State.settleQueue (s.putClerk w { s.clerk w with due := (s.clerk w).due + 1 }) w).fld f w = s.fld f w := fun f hf hne => by
    rw [hq.fld_apart hf (by simp [Separate, F.CLRK_QUEUE_WORK_FILL, F.CLRK_QUEUE_SWEEP_BEHIND, hne]), State.putClerk_fld]
  have hstate := hfld F.CLRK_STATUS_STATE (by decide) (clrk_queue_ne_status w)
  have hready : (State.settleQueue (s.putClerk w { s.clerk w with due := (s.clerk w).due + 1 }) w).clerkReady w = false := by
    rw [← hr, State.clerkReady, State.clerkReady, State.clerkState, State.clerkState, State.flag, State.flag, hclerk, hstate,
      hfld F.CLRK_CTL_HALT (by decide) (clrk_queue_ne_ctl w)]
  refine ⟨_, rfl, ?_⟩
  rw [if_neg (by simp only [hm, Bool.not_true, Bool.false_eq_true, false_or]; omega)]
  dsimp only
  rw [hready]
  simp only [Bool.false_and, Bool.false_eq_true, if_false]
  refine ⟨by rw [hclerk], hstate, by rw [hq.arrays, State.putClerk_arrays], ?_⟩
  have hb := hq.fld F.CLRK_QUEUE_SWEEP_BEHIND w _ (List.mem_cons_of_mem _ List.mem_cons_self)
  rw [State.putClerk_clerk] at hb
  rw [hb]
  exact Nat.mod_eq_of_lt (show b2n _ < 2 ^ 1 by cases decide (1024 ≤ (s.clerk w).due + 1) <;> decide)

theorem execAgeSweepPeriod_again (hm : bit 0x78 s.mode = true) (hdone : 32768 ≤ (s.clerk w).swept) (hst : s.clerkState w ≠ 1) :
    ∃ t, execAgeSweepPeriod w s = .next t ∧ Tab.get {} t.ldg.clerks w = { s.clerk w with swept := 0, due := 0, overran := false }
      ∧ RegsBecome s t [(F.CLRK_QUEUE_SWEEP_NEXT, w, 0)] := by
  refine ⟨_, rfl, ?_⟩
  rw [if_neg (by simp only [hm, Bool.not_true, Bool.false_eq_true, or_false]; omega), if_pos ⟨hdone, by simp [hst]⟩]
  refine ⟨?_, ?_⟩
  · exact (State.setF_clerk _ _ _ _ _).trans (State.putClerk_clerk _ _ _)
  · rw [State.newSweep, State.putClerk_setF]
    exact (Wrote.setF s _ _ _ (by decide)).regs.of_regs (State.putClerk_regs _ _ _)

end

/-- The counters of LDG_GSTAT lie between 0x28007000 and 0x28007040. -/
theorem State.ldgStat_rd (s : State) {k : Nat} (hk : k < 8) {q : Reg} {j : Nat} (h : q.key j < 0x28007000 ∨ 0x28007040 ≤ q.key j) :
    (s.ldgStat k).rd q j = s.rd q j := by
  have hlo : R.LDG_GSTAT_LO.key k = 0x28007000 + k * 8 := (rfl)
  have hhi : R.LDG_GSTAT_HI.key k = 0x28007004 + k * 8 := (rfl)
  exact s.count64_rd _ _ (by omega) (by omega)

theorem State.ldgStat_fld (s : State) {k : Nat} (hk : k < 8) {f : Fld} {j : Nat} (h : f.reg.key j < 0x28007000 ∨ 0x28007040 ≤ f.reg.key j) :
    (s.ldgStat k).fld f j = s.fld f j := congrArg (bits · f.lo f.wd) (s.ldgStat_rd hk h)

theorem execAgeSweepPeriod_overruns (s : State) (w : Nat) (hw : w < 8) (hm : bit 0x78 s.mode = true) (hleft : (s.clerk w).swept < 32768) :
    ∃ t, execAgeSweepPeriod w s = .next t ∧ (t.clerk w).overran = true ∧ t.fld F.LDG_STATUS_SWEEP_OVERRUN 0 = 1
      ∧ t.fld F.LDG_STATUS_COUNT_SWEEP_OVERRUN_COUNT 0 = satBits 8 (s.fld F.LDG_STATUS_COUNT_SWEEP_OVERRUN_COUNT 0 + 1) := by
  have hlt : satBits 8 (s.fld F.LDG_STATUS_COUNT_SWEEP_OVERRUN_COUNT 0 + 1) < 2 ^ 8 := (Nat.min_le_right _ _).trans_lt (by decide)
  have hne : F.LDG_STATUS_SWEEP_OVERRUN.reg.key 0 ≠ F.LDG_STATUS_COUNT_SWEEP_OVERRUN_COUNT.reg.key 0 := by decide
  refine ⟨_, rfl, ?_⟩
  rw [if_neg (by simp only [hm, Bool.not_true, Bool.false_eq_true, or_false]; omega), if_neg (by omega)]
  refine ⟨by rw [State.putClerk_clerk], ?_, ?_⟩
  · rw [State.putClerk_fld, State.note_fld, State.ldgStat_fld _ (by decide) (.inl (by decide)), State.fld_inc_ne _ hne,
      State.fld_setF_same _ _ _ _ (by decide)]
    rfl
  · rw [State.putClerk_fld, State.note_fld, State.ldgStat_fld _ (by decide) (.inl (by decide)), State.inc, State.addSat,
      State.fld_setF_same _ _ _ _ (by decide), State.fld_setF_ne _ _ hne.symm]
    exact Nat.mod_eq_of_lt hlt

theorem execClrkWriteComplete_takes (s : State) (w b : Nat) (tail : List Nat) (hp : (s.clerk w).posted = b :: tail) :
    ∃ t, execClrkWriteComplete w s = .next t ∧ (t.clerk w).posted = tail ∧ (t.clerk w).waiting = ((s.clerk w).waiting && !tail.isEmpty)
      ∧ t.regs = s.regs ∧ t.arrays = s.arrays := by
  unfold execClrkWriteComplete
  rw [hp]
  exact ⟨_, rfl, by rw [State.putClerk_clerk], by rw [State.putClerk_clerk], State.putClerk_regs _ _ _, State.putClerk_arrays _ _ _⟩

end Sys2Proof.Machine

namespace Sys2Proof.Machine

/-! ### Cursors -/

theorem State.setG_rd (s : State) (w n x : Nat) {q : Reg} {j : Nat} (h : q.key j ≠ R.CLRK_REG.key (n + 16 * w)) : (s.setG w n x).rd q j = s.rd q j := by
  unfold State.setG
  split
  · rfl
  · exact s.rd_wr_ne _ h

theorem State.setG_ldg (s : State) (w n x : Nat) : (s.setG w n x).ldg = s.ldg := by
  unfold State.setG
  split <;> rfl
theorem State.setG_arrays (s : State) (w n x : Nat) : (s.setG w n x).arrays = s.arrays := by
  unfold State.setG
  split <;> rfl

/-- The registers of a cursor loaded. -/
def State.loadRegs (s : State) (w : Nat) (l : List Nat) : State := s.each l.zipIdx fun e s => s.setG w e.2 e.1
/-- The path of a cursor loaded. -/
def State.loadPath (s : State) (w : Nat) (l : List Nat) : State := s.each l.zipIdx fun e s => s.wr R.CLRK_PATH (e.2 + 32 * w) e.1

theorem State.loadCursor_eq (s : State) (w : Nat) (c : Cursor) :
    s.loadCursor w c = ((s.loadRegs w c.regs).loadPath w c.path).setF F.CLRK_COND_FLAGS w c.flags := (rfl)

section
variable (s : State) (w : Nat) (l : List Nat)

theorem State.loadRegs_rd {q : Reg} {j : Nat} (h : ∀ n, n < l.length → q.key j ≠ R.CLRK_REG.key (n + 16 * w)) : (s.loadRegs w l).rd q j = s.rd q j :=
  State.each_rd _ _ _ _ _ fun _ he s => s.setG_rd _ _ _ (h _ (List.snd_lt_of_mem_zipIdx he))

theorem State.loadPath_rd {q : Reg} {j : Nat} (h : ∀ n, n < l.length → q.key j ≠ R.CLRK_PATH.key (n + 32 * w)) : (s.loadPath w l).rd q j = s.rd q j :=
  State.each_rd _ _ _ _ _ fun _ he s => s.rd_wr_ne _ (h _ (List.snd_lt_of_mem_zipIdx he))

/-- A register loaded reads as the cursor holds it. -/
theorem State.loadRegs_greg {n : Nat} (hn : n ≠ 0) (hl : n < l.length) : (s.loadRegs w l).greg w n = l.getD n 0 % 2 ^ 32 := by
  have hmem : (l[n], n) ∈ l.zipIdx := List.mem_zipIdx_iff_getElem?.2 (List.getElem?_eq_getElem hl)
  have hset : ∀ s : State, (s.setG w n l[n]).rd R.CLRK_REG (n + 16 * w) = l[n] % 2 ^ 32 := fun s => by
    rw [State.setG, if_neg hn, State.rd_wr_same, Nat.mod_mod]
  have hkeep : ∀ e ∈ l.zipIdx, e ≠ (l[n], n) → ∀ s : State, (s.setG w e.2 e.1).rd R.CLRK_REG (n + 16 * w) = s.rd R.CLRK_REG (n + 16 * w) :=
    fun e he hne s => s.setG_rd _ _ _ (by
      have hen : e.2 ≠ n := fun h => by
        have hex : l[e.2]? = some e.1 := List.mem_zipIdx_iff_getElem?.1 he
        rw [h, List.getElem?_eq_getElem hl] at hex
        exact hne (Prod.ext (Option.some.inj hex).symm h)
      rw [clrk_reg_key, clrk_reg_key]
      omega)
  rw [State.greg, if_neg hn, List.getD_eq_getElem _ _ hl]
  unfold State.loadRegs
  exact State.each_at (fun _ => ()) (fun s => s.rd R.CLRK_REG (n + 16 * w)) (fun _ => l[n] % 2 ^ 32) l.zipIdx
    (List.Nodup.of_map _ (List.nodup_zipIdx_map_snd l)) (fun e s => s.setG w e.2 e.1) (l[n], n) hmem hset (fun _ _ _ _ => rfl) hkeep s

end

section
variable (s : State) (w : Nat) (c : Cursor)

theorem State.loadCursor_ldg : (s.loadCursor w c).ldg = s.ldg := by
  rw [State.loadCursor_eq, State.setF_ldg]
  exact (State.each_keeps State.ldg _ _ _ fun _ _ => State.wr_ldg _ _ _ _).trans (State.each_keeps State.ldg _ _ _ fun _ _ => State.setG_ldg _ _ _ _)

theorem State.loadCursor_arrays : (s.loadCursor w c).arrays = s.arrays := by
  rw [State.loadCursor_eq, State.setF_arrays]
  exact (State.each_keeps State.arrays _ _ _ fun _ _ => State.wr_arrays _ _ _ _).trans
    (State.each_keeps State.arrays _ _ _ fun _ _ => State.setG_arrays _ _ _ _)

theorem State.loadCursor_rd {q : Reg} {j : Nat} (hr : ∀ n, n < c.regs.length → q.key j ≠ R.CLRK_REG.key (n + 16 * w))
    (hp : ∀ n, n < c.path.length → q.key j ≠ R.CLRK_PATH.key (n + 32 * w)) (hc : q.key j ≠ R.CLRK_COND.key w) :
    (s.loadCursor w c).rd q j = s.rd q j := by
  rw [State.loadCursor_eq, State.rd_setF_ne _ _ hc, State.loadPath_rd _ _ _ hp, State.loadRegs_rd _ _ _ hr]

/-- The control, status and program counter of a Clerk lie apart from what a cursor holds, however long its lists. -/
theorem State.loadCursor_low {f : Fld} (h : f.reg.key w = R.CLRK_CTL.key w ∨ f.reg.key w = R.CLRK_STATUS.key w ∨ f.reg.key w = R.CLRK_PC.key w) :
    (s.loadCursor w c).fld f w = s.fld f w := by
  refine congrArg (bits · f.lo f.wd) (s.loadCursor_rd w c (fun n _ => ?_) (fun n _ => ?_) ?_)
  · rw [clrk_ctl_key, clrk_status_key, clrk_pc_key] at h
    rw [clrk_reg_key]
    omega
  · rw [clrk_ctl_key, clrk_status_key, clrk_pc_key] at h
    rw [clrk_path_key]
    omega
  · rw [clrk_ctl_key, clrk_status_key, clrk_pc_key] at h
    rw [clrk_cond_key]
    omega

theorem State.loadCursor_greg (hl : c.regs.length = 16) {n : Nat} (h0 : n ≠ 0) (hn : n < 16) :
    (s.loadCursor w c).greg w n = c.regs.getD n 0 % 2 ^ 32 := by
  refine Eq.trans ?_ (s.loadRegs_greg w c.regs h0 (by omega))
  rw [State.loadCursor_eq, State.greg, State.greg, if_neg h0, if_neg h0, State.rd_setF_ne, State.loadPath_rd]
  · intro m _
    rw [clrk_reg_key, clrk_path_key]
    omega
  · show R.CLRK_REG.key _ ≠ R.CLRK_COND.key w
    rw [clrk_reg_key, clrk_cond_key]
    omega

end

/-! ### Parking -/

/-- What a Clerk that parks writes of its own registers beside its cursor's. -/
def parkWrites (s : State) (w : Nat) : List (Fld × Nat × Nat) :=
  [(F.CLRK_PC_RESUME, w, (s.clerk w).last.resume), (F.CLRK_STATUS_STATE, w, 2), (F.CLRK_PC_PC, w, (s.clerk w).last.resume), (F.CLRK_STATUS_PARKED, w, 1),
    (F.CLRK_STATUS_PARK_COUNT, w, satBits 8 (s.fld F.CLRK_STATUS_PARK_COUNT w + 1))]

theorem State.parkWrites_wrote (s t : State) (w : Nat) : Wrote t (t.setAll (parkWrites s w)) (parkWrites s w) := by
  refine Wrote.setAll t _ ?_ ?_ <;> simp [parkWrites, Separate, F.CLRK_PC_RESUME, F.CLRK_STATUS_STATE, F.CLRK_PC_PC, F.CLRK_STATUS_PARKED,
    F.CLRK_STATUS_PARK_COUNT, (clrk_status_ne_pc w).symm]

end Sys2Proof.Machine

namespace Sys2Proof.Machine

theorem satBits_lt (n v : Nat) : satBits n v < 2 ^ n := (Nat.min_le_right _ _).trans_lt (Nat.sub_lt (Nat.two_pow_pos n) Nat.one_pos)

/-- The state that a Clerk parks in. -/
def State.parked (s : State) (w : Nat) : State :=
  (((s.loadCursor w (s.clerk w).last).setAll (parkWrites s w)).putClerk w { s.clerk w with waiting := false }).note E.CLRK_PARKED

section
variable (s : State) (w : Nat) (hw : w < 8) (hrun : s.clerkState w = 1)
include hw hrun

theorem execClerkPark_eq (hu : (s.clerk w).urgent ≠ 0) (hwr : (s.clerk w).wrote = false) : execClerkPark w s = .next (s.parked w) := by
  have hcount : ((((s.loadCursor w (s.clerk w).last).setF F.CLRK_PC_RESUME w (s.clerk w).last.resume).setF F.CLRK_STATUS_STATE w 2).setF
      F.CLRK_PC_PC w (s.clerk w).last.resume).fld F.CLRK_STATUS_PARK_COUNT w = s.fld F.CLRK_STATUS_PARK_COUNT w := by
    rw [State.fld_setF_ne _ _ (show F.CLRK_STATUS_PARK_COUNT.reg.key w ≠ F.CLRK_PC_PC.reg.key w from clrk_status_ne_pc w),
      State.fld_setF_other _ F.CLRK_STATUS_STATE F.CLRK_STATUS_PARK_COUNT _ _ rfl (by decide) (by decide),
      State.fld_setF_ne _ _ (show F.CLRK_STATUS_PARK_COUNT.reg.key w ≠ F.CLRK_PC_RESUME.reg.key w from clrk_status_ne_pc w),
      State.loadCursor_low _ _ _ (.inr (.inl rfl))]
  unfold execClerkPark
  dsimp only
  rw [if_neg (by simp only [hrun, hwr, Bool.false_eq_true, or_false]; omega), State.parked]
  refine congrArg (fun t => Host.Outcome.next (State.note t E.CLRK_PARKED)) ?_
  rw [State.setCounted_eq _ F.CLRK_STATUS_PARKED F.CLRK_STATUS_PARK_COUNT _ rfl (by decide) (by decide), State.putClerk_fld, State.putClerk_setF, State.putClerk_setF, hcount]
  rfl

theorem execClerkPark_parks (hu : (s.clerk w).urgent ≠ 0) (hwr : (s.clerk w).wrote = false) : ∃ t, execClerkPark w s = .next t ∧ t.clerkState w = 2
    ∧ t.fld F.CLRK_PC_PC w = (s.clerk w).last.resume % 8192 ∧ t.fld F.CLRK_STATUS_PARKED w = 1
    ∧ t.fld F.CLRK_STATUS_PARK_COUNT w = satBits 8 (s.fld F.CLRK_STATUS_PARK_COUNT w + 1)
    ∧ ((s.clerk w).last.regs.length = 16 → (s.clerk w).last.path.length = 32 →
        ∀ n, n < 16 → n ≠ 0 → t.greg w n = (s.clerk w).last.regs.getD n 0 % 2 ^ 32)
    ∧ t.arrays = s.arrays := by
  have hp := s.parkWrites_wrote (s.loadCursor w (s.clerk w).last) w
  have hfld : ∀ f, (s.parked w).fld f w = ((s.loadCursor w (s.clerk w).last).setAll (parkWrites s w)).fld f w := fun f => by
    rw [State.parked, State.note_fld, State.putClerk_fld]
  refine ⟨_, execClerkPark_eq s w hw hrun hu hwr, ?_, ?_, ?_, ?_, fun hl _ n hn h0 => ?_, ?_⟩
  · exact (hfld _).trans (hp.fld F.CLRK_STATUS_STATE w 2 (by simp [parkWrites]))
  · exact (hfld _).trans (hp.fld F.CLRK_PC_PC w (s.clerk w).last.resume (by simp [parkWrites]))
  · exact (hfld _).trans (hp.fld F.CLRK_STATUS_PARKED w 1 (by simp [parkWrites]))
  · exact ((hfld _).trans (hp.fld F.CLRK_STATUS_PARK_COUNT w _ (List.getLast_mem (l := parkWrites s w) (by simp [parkWrites])))).trans
      (Nat.mod_eq_of_lt (satBits_lt 8 _))
  · rw [← s.loadCursor_greg w _ hl h0 hn, State.greg, State.greg, if_neg h0, if_neg h0, State.parked, State.note_rd, State.putClerk_rd,
      ← State.fld_word _ _ _ (show 0 < 2 ^ 32 by decide), ← State.fld_word _ _ _ (show 0 < 2 ^ 32 by decide)]
    refine hp.fld_keeps _ _ (show 0 + 32 ≤ 32 by decide) fun e he => ?_
    simp only [parkWrites, List.mem_cons, List.not_mem_nil, or_false] at he
    show e.1.reg.key e.2.1 ≠ R.CLRK_REG.key (n + 16 * w)
    have hpc : R.CLRK_PC.key w ≠ R.CLRK_REG.key (n + 16 * w) := by
      rw [clrk_pc_key, clrk_reg_key]
      omega
    have hst : R.CLRK_STATUS.key w ≠ R.CLRK_REG.key (n + 16 * w) := by
      rw [clrk_status_key, clrk_reg_key]
      omega
    obtain rfl | rfl | rfl | rfl | rfl := he
    · exact hpc
    · exact hst
    · exact hpc
    · exact hst
    · exact hst
  · rw [State.parked, State.note_arrays, State.putClerk_arrays, hp.arrays, State.loadCursor_arrays]

omit hw hrun in
theorem execClerkPark_runs (ho : (s.clerk w).urgent = 0 ∨ (s.clerk w).wrote = true) : execClerkPark w s = .next s := by
  unfold execClerkPark
  dsimp only
  rw [if_pos (.inr (.inr ho))]

end

/-! ### Resuming -/

/-- The cursor that a Clerk goes on from (R322). -/
def State.resumeCursor (s : State) (w : Nat) : Cursor :=
  if s.flag F.CLRK_STATUS_STALE w then (s.clerk w).first.getD (s.clerk w).last else (s.clerk w).last

/-- What a Clerk that goes on writes of its own registers beside its cursor's. -/
def resumeWrites (w : Nat) (c : Cursor) : List (Fld × Nat × Nat) :=
  [(F.CLRK_PC_PC, w, c.resume), (F.CLRK_PC_RESUME, w, c.resume), (F.CLRK_STATUS_STATE, w, 1), (F.CLRK_STATUS_STALE, w, 0)]

theorem State.resumeWrites_wrote (t : State) (w : Nat) (c : Cursor) : Wrote t (t.setAll (resumeWrites w c)) (resumeWrites w c) := by
  refine Wrote.setAll t _ ?_ ?_ <;> simp [resumeWrites, Separate, F.CLRK_PC_RESUME, F.CLRK_STATUS_STATE, F.CLRK_PC_PC, F.CLRK_STATUS_STALE,
    (clrk_status_ne_pc w).symm]

theorem State.resumeClerk_eq (s : State) (w : Nat) : s.resumeClerk w
    = ((s.loadCursor w (s.resumeCursor w)).setAll (resumeWrites w (s.resumeCursor w))).putClerk w
      { s.clerk w with last := s.resumeCursor w, urgent := 0, wrote := false, byHalt := false } := (rfl)

section
variable (s : State) (w : Nat)

theorem State.resumeClerk_reads : (s.resumeClerk w).clerkState w = 1 ∧ (s.resumeClerk w).fld F.CLRK_PC_PC w = (s.resumeCursor w).resume % 8192
    ∧ ((s.resumeClerk w).clerk w).urgent = 0 ∧ (s.resumeClerk w).arrays = s.arrays := by
  have hp := (s.loadCursor w (s.resumeCursor w)).resumeWrites_wrote w (s.resumeCursor w)
  rw [s.resumeClerk_eq, State.clerkState, State.putClerk_fld, State.putClerk_fld, State.putClerk_clerk, State.putClerk_arrays]
  exact ⟨hp.fld F.CLRK_STATUS_STATE w 1 (by simp [resumeWrites]), hp.fld F.CLRK_PC_PC w (s.resumeCursor w).resume (by simp [resumeWrites]), rfl,
    hp.arrays.trans (s.loadCursor_arrays w _)⟩

/-- The control register of a Clerk stands while the Clerk goes on. -/
theorem State.resumeClerk_ctl {f : Fld} (hf : f.reg = R.CLRK_CTL) (hwd : f.lo + f.wd ≤ 32) : (s.resumeClerk w).fld f w = s.fld f w := by
  have hp := (s.loadCursor w (s.resumeCursor w)).resumeWrites_wrote w (s.resumeCursor w)
  have hkey : f.reg.key w = R.CLRK_CTL.key w := by rw [hf]
  rw [s.resumeClerk_eq, State.putClerk_fld, hp.fld_keeps f w hwd fun e he => ?_, State.loadCursor_low _ _ _ (.inl hkey)]
  rw [hkey]
  have hpc : R.CLRK_PC.key w ≠ R.CLRK_CTL.key w := Reg.key_ne_of_base (by rfl) (by decide) w
  simp only [resumeWrites, List.mem_cons, List.not_mem_nil, or_false] at he
  obtain rfl | rfl | rfl | rfl := he
  · exact hpc
  · exact hpc
  · exact clrk_status_ne_ctl w
  · exact clrk_status_ne_ctl w

theorem execClerkResume_resumes (hw : w < 8) (hst : s.clerkState w = 2) (hu : (s.clerk w).urgent = 0) (hh : s.flag F.CLRK_CTL_HOLD_PARKED w = false)
    (hs : s.flag F.CLRK_STATUS_STALE w = false) : ∃ t, execClerkResume w s = .next t ∧ t.clerkState w = 1
      ∧ t.fld F.CLRK_PC_PC w = (s.clerk w).last.resume % 8192 ∧ (t.clerk w).urgent = 0 ∧ t.arrays = s.arrays := by
  have hread := s.resumeClerk_reads w
  rw [State.resumeCursor, hs, if_neg (by decide)] at hread
  refine ⟨s.resumeClerk w, ?_, hread⟩
  unfold execClerkResume
  rw [if_neg (by simp only [hst, hu, hh, ne_eq, not_true, Bool.false_eq_true, or_false]; omega)]

theorem execClerkResume_held (hh : s.flag F.CLRK_CTL_HOLD_PARKED w = true) : execClerkResume w s = .next s := by
  unfold execClerkResume
  rw [if_pos (.inr (.inr (.inr hh)))]

/-! ### Halting -/

theorem clrk_ctl_unit (hw : w < 8) : unitOfOffset (R.CLRK_CTL.key w) = some 7 := by
  have h : ∀ w, w < 8 → unitOfOffset (R.CLRK_CTL.key w) = some 7 := by decide
  exact h w hw

theorem State.haltIdle_reads (h : s.fld F.CLRK_CTL_HALT w = 1) : (s.haltIdle w).fld F.CLRK_CTL_HALT w = 1 ∧ (s.haltIdle w).arrays = s.arrays
    ∧ (s.haltIdle w).clerkState w = if s.clerkState w = 0 ∨ s.clerkState w = 2 then 3 else s.clerkState w := by
  have hflag : s.flag F.CLRK_CTL_HALT w = true := by rw [State.flag, h]; rfl
  unfold State.haltIdle
  by_cases hi : s.clerkState w = 0 ∨ s.clerkState w = 2
  · rw [if_pos (by simpa [hflag] using hi), if_pos hi, State.putClerk_fld, State.putClerk_arrays, State.setF_arrays, State.clerkState, State.putClerk_fld,
      State.fld_setF_ne _ _ (show F.CLRK_CTL_HALT.reg.key w ≠ F.CLRK_STATUS_STATE.reg.key w from (clrk_status_ne_ctl w).symm),
      State.fld_setF_same _ _ _ _ (by decide)]
    exact ⟨h, rfl, rfl⟩
  · rw [if_neg (by simpa [hflag] using hi), if_neg hi]
    exact ⟨h, rfl, rfl⟩

theorem execClrkHaltWrite_granted (hw : w < 8) (hg : HostMayWrite s 7) : ∃ t, execClrkHaltWrite w s = .next t ∧ t.fld F.CLRK_CTL_HALT w = 1
    ∧ t.arrays = s.arrays ∧ t.clerkState w = (if s.clerkState w = 0 ∨ s.clerkState w = 2 then 3 else s.clerkState w) := by
  have hst : (s.setF F.CLRK_CTL_HALT w 1).clerkState w = s.clerkState w := s.fld_setF_ne _ (clrk_status_ne_ctl w)
  obtain ⟨hhalt, harr, hstate⟩ := (s.setF F.CLRK_CTL_HALT w 1).haltIdle_reads w (s.fld_setF_same _ _ _ (by decide))
  rw [hst] at hstate
  refine ⟨_, ?_, hhalt, harr, hstate⟩
  unfold execClrkHaltWrite
  rw [if_pos hw, hg.writes (clrk_ctl_unit w hw)]

theorem execClrkHaltWrite_ungranted (hw : w < 8) (hg : s.granted 7 = false) : ∃ t, execClrkHaltWrite w s = .next t ∧ t.clerkState w = s.clerkState w
    ∧ t.fld F.CLRK_CTL_HALT w = s.fld F.CLRK_CTL_HALT w ∧ t.fld F.TLR_UNGRANTED_LAST_OFFSET 0 = R.CLRK_CTL.key w := by
  have hw0 : R.TLR_UNGRANTED_WRITES.key 0 < 0x2c000000 := by decide
  have hl0 : R.TLR_UNGRANTED_LAST.key 0 < 0x2c000000 := by decide
  have hkeep : ∀ f : Fld, 0x2c000000 ≤ f.reg.key w → (s.ungranted (R.CLRK_CTL.key w)).fld f w = s.fld f w := fun f hf =>
    congrArg (bits · f.lo f.wd) (s.ungranted_rd _ _ _ (by omega) (by omega))
  refine ⟨s.ungranted (R.CLRK_CTL.key w), ?_, hkeep _ ?_, hkeep _ ?_, s.ungranted_offset _ ?_⟩
  · unfold execClrkHaltWrite
    rw [if_pos hw, State.hostWrites_ungranted hg (clrk_ctl_unit w hw)]
  · show _ ≤ R.CLRK_STATUS.key w
    rw [clrk_status_key]
    omega
  · show _ ≤ R.CLRK_CTL.key w
    rw [clrk_ctl_key]
    omega
  · rw [clrk_ctl_key]
    omega

end

end Sys2Proof.Machine

namespace Sys2Proof.Machine

/-! ### Illegal microwords -/

/-- What a Clerk that meets an illegal microword writes of its status (R323). -/
def faultWrites (s : State) (w : Nat) : List (Fld × Nat × Nat) :=
  [(F.CLRK_STATUS_STATE, w, 3), (F.CLRK_STATUS_FAULT, w, 1), (F.CLRK_STATUS_FAULT_COUNT, w, satBits 8 (s.fld F.CLRK_STATUS_FAULT_COUNT w + 1))]

theorem State.faultWrites_wrote (s : State) (w : Nat) : Wrote s (s.setAll (faultWrites s w)) (faultWrites s w) := by
  refine Wrote.setAll s _ ?_ ?_ <;> simp [faultWrites, Separate, F.CLRK_STATUS_STATE, F.CLRK_STATUS_FAULT, F.CLRK_STATUS_FAULT_COUNT]

section
variable (s : State) (w : Nat) (hw : w < 8) (perr : Bool) (hrun : s.clerkState w = 1) (hwait : (s.clerk w).waiting = false)
include hw hrun hwait

theorem execClrkIllegal_eq (hi : mwDefined (mwOp (s.microword w)) = false ∨ perr = true) : execClrkIllegal w perr s
    = .next (((s.setAll (faultWrites s w)).putClerk w { s.clerk w with last := s.cursorNow w (s.fld F.CLRK_PC_PC w) }).note E.CLRK_FAULT) := by
  have hcount : (s.setF F.CLRK_STATUS_STATE w 3).fld F.CLRK_STATUS_FAULT_COUNT w = s.fld F.CLRK_STATUS_FAULT_COUNT w :=
    s.fld_setF_other F.CLRK_STATUS_STATE F.CLRK_STATUS_FAULT_COUNT _ _ rfl (by decide) (by decide)
  have hgo : (mwDefined (mwOp (s.microword w)) && !perr) = false := by
    obtain h | h := hi <;> simp [h]
  unfold execClrkIllegal
  dsimp only
  rw [if_neg (by simp only [hrun, hwait, hgo, ne_eq, not_true, Bool.false_eq_true, or_false]; omega)]
  refine congrArg (fun t => Host.Outcome.next (State.note t E.CLRK_FAULT)) ?_
  rw [State.setCounted_eq _ F.CLRK_STATUS_FAULT F.CLRK_STATUS_FAULT_COUNT _ rfl (by decide) (by decide), State.putClerk_fld, State.putClerk_setF,
    State.putClerk_setF, hcount]
  rfl

theorem execClrkIllegal_halts (hi : mwDefined (mwOp (s.microword w)) = false ∨ perr = true) : ∃ t, execClrkIllegal w perr s = .next t
    ∧ t.clerkState w = 3 ∧ t.fld F.CLRK_STATUS_FAULT w = 1 ∧ t.fld F.CLRK_STATUS_FAULT_COUNT w = satBits 8 (s.fld F.CLRK_STATUS_FAULT_COUNT w + 1)
    ∧ (t.clerk w).last = s.cursorNow w (s.fld F.CLRK_PC_PC w) ∧ t.arrays = s.arrays ∧ ∀ n, t.greg w n = s.greg w n := by
  have hp := s.faultWrites_wrote w
  refine ⟨_, execClrkIllegal_eq s w hw perr hrun hwait hi, ?_, ?_, ?_, ?_, ?_, fun n => ?_⟩
  · rw [State.clerkState, State.note_fld, State.putClerk_fld]
    exact hp.fld F.CLRK_STATUS_STATE w 3 (by simp [faultWrites])
  · rw [State.note_fld, State.putClerk_fld]
    exact hp.fld F.CLRK_STATUS_FAULT w 1 (by simp [faultWrites])
  · rw [State.note_fld, State.putClerk_fld]
    exact (hp.fld F.CLRK_STATUS_FAULT_COUNT w _ (List.getLast_mem (l := faultWrites s w) (by simp [faultWrites]))).trans
      (Nat.mod_eq_of_lt (satBits_lt 8 _))
  · rw [State.clerk, State.note_ldg]
    exact congrArg Clerk.last (State.putClerk_clerk _ _ _)
  · rw [State.note_arrays, State.putClerk_arrays, hp.arrays]
  · have hne : R.CLRK_STATUS.key w ≠ R.CLRK_REG.key (n + 16 * w) := by
      rw [clrk_status_key, clrk_reg_key]
      omega
    rw [State.greg, State.greg, State.note_rd, State.putClerk_rd, ← State.fld_word _ _ _ (show 0 < 2 ^ 32 by decide),
      hp.fld_keeps ⟨R.CLRK_REG, 0, 32⟩ _ (show 0 + 32 ≤ 32 by decide) fun e he => ?_, State.fld_word _ _ _ (show 0 < 2 ^ 32 by decide)]
    simp only [faultWrites, List.mem_cons, List.not_mem_nil, or_false] at he
    obtain rfl | rfl | rfl := he <;> exact hne

omit hw hrun hwait in
theorem execClrkIllegal_legal (hd : mwDefined (mwOp (s.microword w)) = true) (hp : perr = false) : execClrkIllegal w perr s = .next s := by
  unfold execClrkIllegal
  dsimp only
  rw [if_pos (.inr (.inr (.inr (by simp [hd, hp]))))]

end

/-! ### CLERK_CONTROL -/

/-- An answer on a mailbox stands apart from the registers of the units that hosts are granted. -/
theorem answerKey_unit {m k : Nat} (hm : m < 8) (hlo : 0x2000000 ≤ k) (hhi : k < 0x100000000) : answerKey m k = false := by
  have status : R.MBX_STATUS.key m = 0x100010004 + m * 0x20 := (rfl)
  have last : R.MBX_LAST.key m = 0x100010008 + m * 0x20 := (rfl)
  have run : R.TLR_MBX_RUN.key m = 0x1000014 + m * 0x10 := (rfl)
  have head : R.TLR_HIST_HEAD.key 0 = 0x1000310 := by decide
  have misses : R.TLR_DEADLINE_MISSES.key 0 = 0x1000324 := by decide
  simp only [answerKey, Bool.or_eq_false_iff, beq_eq_false_iff_ne, decide_eq_false_iff_not]
  omega

/-- A register of a unit reads after the answer as before it. -/
theorem Answered.unit_fld {u t : State} {m st d : Nat} {r : Req} {own : List Byte} (h : Answered u t m r st d own) (hm : m < 8) {f : Fld} {j : Nat}
    (hlo : 0x2000000 ≤ f.reg.key j) (hhi : f.reg.key j < 0x100000000) : t.fld f j = u.fld f j :=
  congrArg (bits · f.lo f.wd) (h.regs _ _ (answerKey_unit hm hlo hhi))

theorem Answered.ldg {u t : State} {m st d : Nat} {r : Req} {own : List Byte} (h : Answered u t m r st d own) : t.ldg = u.ldg := by rw [h.rest]
theorem Answered.arrays {u t : State} {m st d : Nat} {r : Req} {own : List Byte} (h : Answered u t m r st d own) : t.arrays = u.arrays := by rw [h.rest]

/-- What CLERK_CONTROL does to one Clerk. -/
def State.controlClerk (r : Req) (w : Nat) (t : State) : State :=
  let t := t.setF F.CLRK_CTL_HOLD_PARKED w (r.arg A.CLERK_CONTROL_HOLD_PARKED)
  if r.arg A.CLERK_CONTROL_ACTION = 1 then t.resumeClerk w
  else if r.arg A.CLERK_CONTROL_ACTION = 2 then t.discardCursor w
  else if r.arg A.CLERK_CONTROL_ACTION = 3 then
    let idle := (t.clerk w).byHalt && (t.clerk w).last.regs.isEmpty
    let t := (t.reloadStore w).setF F.CLRK_CTL_HALT w 0
    if idle then (t.setF F.CLRK_STATUS_STATE w 0).putClerk w { t.clerk w with byHalt := false } else t.resumeClerk w
  else t

theorem State.clerkControlAct_eq (s : State) (r : Req) : s.clerkControlAct r = .ok (s.each (r.instances 8) (State.controlClerk r))
    (w32 ((s.each (r.instances 8) (State.controlClerk r)).rd R.CLRK_STATUS (if r.all then 0 else r.index))) := (rfl)

/-- HOLD_PARKED of each Clerk addressed. -/
def holdWrites (r : Req) : List (Fld × Nat × Nat) := (r.instances 8).map fun k => (F.CLRK_CTL_HOLD_PARKED, k, r.arg A.CLERK_CONTROL_HOLD_PARKED)

theorem clrk_ctl_ne {i j : Nat} (h : i ≠ j) : R.CLRK_CTL.key i ≠ R.CLRK_CTL.key j := by
  rw [clrk_ctl_key, clrk_ctl_key]
  omega

theorem State.holdWrites_wrote (s : State) (r : Req) : Wrote s (s.setAll (holdWrites r)) (holdWrites r) := by
  refine Wrote.setAll s _ (fun e he => ?_) ?_
  · obtain ⟨k, -, rfl⟩ := List.mem_map.1 he
    exact show 0 + 1 ≤ 32 by decide
  · exact List.pairwise_map.2 ((Req.instances_nodup r 8).imp fun h => .inl (clrk_ctl_ne h))

theorem State.controlClerk_hold (s : State) (r : Req) (h : r.arg A.CLERK_CONTROL_ACTION = 0) :
    s.each (r.instances 8) (State.controlClerk r) = s.setAll (holdWrites r) := by
  have hone : State.controlClerk r = fun k t => t.setAll [(F.CLRK_CTL_HOLD_PARKED, k, r.arg A.CLERK_CONTROL_HOLD_PARKED)] := by
    funext k t
    unfold State.controlClerk
    rw [h]
    rfl
  rw [hone, State.each_setAll, holdWrites, List.map_eq_flatMap]

theorem execClerkControl_holds (s : State) (m : Nat) (r : Req) (h : Ready s m C.CLERK_CONTROL s.clerkControlChecks r)
    (ha : r.arg A.CLERK_CONTROL_ACTION = 0) : ∃ u t, execClerkControl m s = .next t
      ∧ Wrote s u ((r.instances 8).map fun k => (F.CLRK_CTL_HOLD_PARKED, k, r.arg A.CLERK_CONTROL_HOLD_PARKED))
      ∧ Answered u t m r 0 0 (respParams C.CLERK_CONTROL r 0 (w32 (s.rd R.CLRK_STATUS (if r.all then 0 else r.index)))) := by
  have hw := s.holdWrites_wrote r
  have hrd : ∀ i, (s.setAll (holdWrites r)).rd R.CLRK_STATUS i = s.rd R.CLRK_STATUS i := fun i => by
    refine s.setAll_rd _ _ _ fun e he => ?_
    obtain ⟨k, -, rfl⟩ := List.mem_map.1 he
    show R.CLRK_CTL.key k ≠ R.CLRK_STATUS.key i
    rw [clrk_status_key, clrk_ctl_key]
    omega
  refine ⟨_, _, rfl, hw, h.answered_ok (h.mode_ne_zero (by rfl) (by decide)) ?_ (s.clerkControlAct_fixed r)⟩
  rw [State.clerkControlAct_eq, s.controlClerk_hold r ha, hrd]

end Sys2Proof.Machine

namespace Sys2Proof.Machine

/-! ### The control store rewritten -/

theorem clrk_store_key (i : Nat) : R.CLRK_STORE.key i = 0x2c100000 + (i % 8192 * 4 + i / 8192 * 0x8000) := (rfl)

theorem clrk_store_ne {i j : Nat} (h : i ≠ j) : R.CLRK_STORE.key i ≠ R.CLRK_STORE.key j := by
  rw [clrk_store_key, clrk_store_key]
  omega

/-- One word of the control store written from the Teller's copy. -/
def State.reloadWord (w a : Nat) (s : State) : State := s.wr R.CLRK_STORE (a + 8192 * w) (leAt s.boot.clerk (4 * a) 4)

theorem State.reloadStore_eq (s : State) (w : Nat) : s.reloadStore w = s.each (List.range 8192) (State.reloadWord w) := (rfl)

section
variable (s : State) (w : Nat)

theorem State.reloadStore_word {a : Nat} (ha : a < 8192) : (s.reloadStore w).rd R.CLRK_STORE (a + 8192 * w) = leAt s.boot.clerk (4 * a) 4 := by
  rw [s.reloadStore_eq]
  refine State.each_at (fun s => s.boot) (fun s => s.rd R.CLRK_STORE (a + 8192 * w)) (fun b => leAt b.clerk (4 * a) 4) (List.range 8192)
    List.nodup_range (State.reloadWord w) a (List.mem_range.2 ha) (fun s => ?_) (fun _ _ _ s => s.wr_boot _ _ _) (fun b _ hb s => ?_) s
  · exact (s.rd_wr_same _ _ _).trans (Nat.mod_eq_of_lt (leAt_lt _ _ _))
  · exact s.rd_wr_ne _ (clrk_store_ne (by omega))

theorem State.reloadStore_rd {q : Reg} {j : Nat} (h : q.key j < 0x2c100000) : (s.reloadStore w).rd q j = s.rd q j := by
  rw [s.reloadStore_eq]
  refine State.each_rd _ _ _ _ _ fun a _ s => s.rd_wr_ne _ ?_
  rw [clrk_store_key]
  omega

theorem State.reloadStore_fld {f : Fld} {j : Nat} (h : f.reg.key j < 0x2c100000) : (s.reloadStore w).fld f j = s.fld f j :=
  congrArg (bits · f.lo f.wd) (s.reloadStore_rd w h)

theorem State.reloadStore_ldg : (s.reloadStore w).ldg = s.ldg := by
  rw [s.reloadStore_eq]
  exact State.each_keeps State.ldg _ _ _ fun _ s => s.wr_ldg _ _ _

theorem State.reloadStore_arrays : (s.reloadStore w).arrays = s.arrays := by
  rw [s.reloadStore_eq]
  exact State.each_keeps State.arrays _ _ _ fun _ s => s.wr_arrays _ _ _

end

/-! ### One Clerk under CLERK_CONTROL -/

theorem State.discardCursor_reads (s : State) (w : Nat) : (s.discardCursor w).clerkState w = 0 ∧ ((s.discardCursor w).clerk w).work = none
    ∧ (s.discardCursor w).fld F.CLRK_CTL_HOLD_PARKED w = s.fld F.CLRK_CTL_HOLD_PARKED w ∧ (s.discardCursor w).arrays = s.arrays := by
  have hne : F.CLRK_CTL_HOLD_PARKED.reg.key w ≠ F.CLRK_STATUS_STATE.reg.key w := (clrk_status_ne_ctl w).symm
  have hdrop : ∀ b : Bool, (if b then (s.ldgStat 0).note E.LDG_LEARN_DROP else s).fld F.CLRK_CTL_HOLD_PARKED w = s.fld F.CLRK_CTL_HOLD_PARKED w
      ∧ (if b then (s.ldgStat 0).note E.LDG_LEARN_DROP else s).arrays = s.arrays := fun b => by
    cases b
    · exact ⟨rfl, rfl⟩
    · refine ⟨(State.note_fld _ _ _ _).trans (s.ldgStat_fld (by decide) (.inr ?_)), (State.note_arrays _ _).trans (State.count64_arrays _ _ _ _ _)⟩
      show _ ≤ R.CLRK_CTL.key w
      rw [clrk_ctl_key]
      omega
  obtain ⟨hctl, harr⟩ := hdrop (s.clerk w).work.isSome
  unfold State.discardCursor
  dsimp only
  refine ⟨?_, ?_, ?_, ?_⟩
  · rw [State.clerkState, State.fld_setF_other _ F.CLRK_STATUS_STALE F.CLRK_STATUS_STATE _ _ rfl (by decide) (by decide),
      State.fld_setF_same _ _ _ _ (by decide)]
    rfl
  · rw [State.setF_clerk, State.setF_clerk, State.putClerk_clerk]
  · rw [State.fld_setF_ne _ _ (show F.CLRK_CTL_HOLD_PARKED.reg.key w ≠ F.CLRK_STATUS_STALE.reg.key w from hne), State.fld_setF_ne _ _ hne,
      State.putClerk_fld, hctl]
  · rw [State.setF_arrays, State.setF_arrays, State.putClerk_arrays, harr]

/-- The cursors that a Clerk keeps hold no more than the registers and the path of one Clerk. -/
def CursorsFit (s : State) (w : Nat) : Prop :=
  ∀ c, c = (s.clerk w).last ∨ (s.clerk w).first = some c → c.regs.length ≤ 16 ∧ c.path.length ≤ 32

theorem CursorsFit.resumeCursor {s : State} {w : Nat} (h : CursorsFit s w) :
    (s.resumeCursor w).regs.length ≤ 16 ∧ (s.resumeCursor w).path.length ≤ 32 := by
  refine h _ ?_
  unfold State.resumeCursor
  split
  · cases hf : (s.clerk w).first with
    | none => exact .inl rfl
    | some c => exact .inr rfl
  · exact .inl rfl

/-- The control stores lie above what a Clerk that goes on writes. -/
theorem State.resumeClerk_store (s : State) {w : Nat} (hw : w < 8) (h : CursorsFit s w) (i : Nat) :
    (s.resumeClerk w).rd R.CLRK_STORE i = s.rd R.CLRK_STORE i := by
  obtain ⟨hr, hp⟩ := h.resumeCursor
  have hwr := (s.loadCursor w (s.resumeCursor w)).resumeWrites_wrote w (s.resumeCursor w)
  have hkey := clrk_store_key i
  rw [s.resumeClerk_eq, State.putClerk_rd, ← State.fld_word _ _ _ (show 0 < 2 ^ 32 by decide),
    hwr.fld_keeps ⟨R.CLRK_STORE, 0, 32⟩ i (show 0 + 32 ≤ 32 by decide) fun e he => ?_, State.fld_word _ _ _ (show 0 < 2 ^ 32 by decide),
    s.loadCursor_rd w _ (fun n hn => ?_) (fun n hn => ?_) ?_]
  · rw [hkey, clrk_cond_key]
    omega
  · rw [hkey, clrk_reg_key]
    omega
  · rw [hkey, clrk_path_key]
    omega
  · have hpc : R.CLRK_PC.key w ≠ R.CLRK_STORE.key i := by
      rw [hkey, clrk_pc_key]
      omega
    have hst : R.CLRK_STATUS.key w ≠ R.CLRK_STORE.key i := by
      rw [hkey, clrk_status_key]
      omega
    simp only [resumeWrites, List.mem_cons, List.not_mem_nil, or_false] at he
    obtain rfl | rfl | rfl | rfl := he
    · exact hpc
    · exact hpc
    · exact hst
    · exact hst

/-- The restart of a halted Clerk: its control store rewritten and HALT cleared, idle or from its cursor (R330). -/
def State.restartClerk (s : State) (w : Nat) : State :=
  if (s.clerk w).byHalt && (s.clerk w).last.regs.isEmpty then
    (((s.reloadStore w).setF F.CLRK_CTL_HALT w 0).setF F.CLRK_STATUS_STATE w 0).putClerk w
      { ((s.reloadStore w).setF F.CLRK_CTL_HALT w 0).clerk w with byHalt := false }
  else ((s.reloadStore w).setF F.CLRK_CTL_HALT w 0).resumeClerk w

theorem State.restartClerk_reads (s : State) {w : Nat} (hw : w < 8) : ((s.restartClerk w).clerkState w = 0 ∨ (s.restartClerk w).clerkState w = 1)
    ∧ (s.restartClerk w).fld F.CLRK_CTL_HALT w = 0 ∧ (s.restartClerk w).fld F.CLRK_CTL_HOLD_PARKED w = s.fld F.CLRK_CTL_HOLD_PARKED w
    ∧ (s.restartClerk w).arrays = s.arrays
    ∧ (CursorsFit s w → ∀ a, a < 8192 → (s.restartClerk w).rd R.CLRK_STORE (a + 8192 * w) = leAt s.boot.clerk (4 * a) 4) := by
  have hctl : R.CLRK_CTL.key w < 0x2c100000 := by
    rw [clrk_ctl_key]
    omega
  have hhalt : ((s.reloadStore w).setF F.CLRK_CTL_HALT w 0).fld F.CLRK_CTL_HALT w = 0 := State.fld_setF_same _ _ _ _ (by decide)
  have hhold : ((s.reloadStore w).setF F.CLRK_CTL_HALT w 0).fld F.CLRK_CTL_HOLD_PARKED w = s.fld F.CLRK_CTL_HOLD_PARKED w :=
    (State.fld_setF_other _ F.CLRK_CTL_HALT F.CLRK_CTL_HOLD_PARKED _ _ rfl (by decide) (by decide)).trans (s.reloadStore_fld w hctl)
  have hstore : ∀ a, a < 8192 → ((s.reloadStore w).setF F.CLRK_CTL_HALT w 0).rd R.CLRK_STORE (a + 8192 * w) = leAt s.boot.clerk (4 * a) 4 :=
    fun a ha => by
      rw [State.rd_setF_ne, s.reloadStore_word w ha]
      show R.CLRK_STORE.key _ ≠ R.CLRK_CTL.key w
      rw [clrk_store_key]
      omega
  have hclerk : ((s.reloadStore w).setF F.CLRK_CTL_HALT w 0).clerk w = s.clerk w := by
    rw [State.setF_clerk, State.clerk, s.reloadStore_ldg, State.clerk]
  unfold State.restartClerk
  split
  · have hne : F.CLRK_CTL_HALT.reg.key w ≠ F.CLRK_STATUS_STATE.reg.key w := (clrk_status_ne_ctl w).symm
    refine ⟨.inl ?_, ?_, ?_, ?_, fun _ a ha => ?_⟩
    · rw [State.clerkState, State.putClerk_fld, State.fld_setF_same _ _ _ _ (by decide)]
      rfl
    · rw [State.putClerk_fld, State.fld_setF_ne _ _ hne, hhalt]
    · rw [State.putClerk_fld, State.fld_setF_ne _ _ (show F.CLRK_CTL_HOLD_PARKED.reg.key w ≠ F.CLRK_STATUS_STATE.reg.key w from hne), hhold]
    · rw [State.putClerk_arrays, State.setF_arrays, State.setF_arrays, s.reloadStore_arrays]
    · rw [State.putClerk_rd, State.rd_setF_ne, hstore a ha]
      show R.CLRK_STORE.key _ ≠ R.CLRK_STATUS.key w
      rw [clrk_store_key, clrk_status_key]
      omega
  · obtain ⟨hst, -, -, harr⟩ := ((s.reloadStore w).setF F.CLRK_CTL_HALT w 0).resumeClerk_reads w
    refine ⟨.inr hst, ?_, ?_, ?_, fun hfit a ha => ?_⟩
    · rw [State.resumeClerk_ctl _ _ rfl (by decide), hhalt]
    · rw [State.resumeClerk_ctl _ _ rfl (by decide), hhold]
    · rw [harr, State.setF_arrays, s.reloadStore_arrays]
    · rw [State.resumeClerk_store _ hw _ _, hstore a ha]
      unfold CursorsFit
      rwa [hclerk]

theorem State.controlClerk_eq (r : Req) (w : Nat) (t : State) : t.controlClerk r w
    = if r.arg A.CLERK_CONTROL_ACTION = 1 then (t.setF F.CLRK_CTL_HOLD_PARKED w (r.arg A.CLERK_CONTROL_HOLD_PARKED)).resumeClerk w
      else if r.arg A.CLERK_CONTROL_ACTION = 2 then (t.setF F.CLRK_CTL_HOLD_PARKED w (r.arg A.CLERK_CONTROL_HOLD_PARKED)).discardCursor w
      else if r.arg A.CLERK_CONTROL_ACTION = 3 then (t.setF F.CLRK_CTL_HOLD_PARKED w (r.arg A.CLERK_CONTROL_HOLD_PARKED)).restartClerk w
      else t.setF F.CLRK_CTL_HOLD_PARKED w (r.arg A.CLERK_CONTROL_HOLD_PARKED) := (rfl)

theorem Req.arg_lt (r : Req) (a : Arg) : r.arg a < 2 ^ a.wd := bits_lt _ _ _

/-- What CLERK_CONTROL brings about in one Clerk. -/
theorem State.controlClerk_reads (s : State) (r : Req) {w : Nat} (hw : w < 8) :
    (s.controlClerk r w).fld F.CLRK_CTL_HOLD_PARKED w = r.arg A.CLERK_CONTROL_HOLD_PARKED ∧ (s.controlClerk r w).arrays = s.arrays
      ∧ (r.arg A.CLERK_CONTROL_ACTION = 1 → (s.controlClerk r w).clerkState w = 1)
      ∧ (r.arg A.CLERK_CONTROL_ACTION = 2 → (s.controlClerk r w).clerkState w = 0 ∧ ((s.controlClerk r w).clerk w).work = none)
      ∧ (r.arg A.CLERK_CONTROL_ACTION = 3 → ((s.controlClerk r w).clerkState w = 0 ∨ (s.controlClerk r w).clerkState w = 1)
        ∧ (s.controlClerk r w).fld F.CLRK_CTL_HALT w = 0
        ∧ (CursorsFit s w → ∀ a, a < 8192 → (s.controlClerk r w).rd R.CLRK_STORE (a + 8192 * w) = leAt s.boot.clerk (4 * a) 4)) := by
  have hhold : (s.setF F.CLRK_CTL_HOLD_PARKED w (r.arg A.CLERK_CONTROL_HOLD_PARKED)).fld F.CLRK_CTL_HOLD_PARKED w = r.arg A.CLERK_CONTROL_HOLD_PARKED :=
    (s.fld_setF_same _ _ _ (by decide)).trans (Nat.mod_eq_of_lt (r.arg_lt A.CLERK_CONTROL_HOLD_PARKED))
  rw [State.controlClerk_eq]
  split
  · next h1 =>
    obtain ⟨hst, -, -, harr⟩ := (s.setF F.CLRK_CTL_HOLD_PARKED w (r.arg A.CLERK_CONTROL_HOLD_PARKED)).resumeClerk_reads w
    rw [State.resumeClerk_ctl _ _ rfl (by decide), harr]
    exact ⟨hhold, s.setF_arrays _ _ _, fun _ => hst, fun h => by omega, fun h => by omega⟩
  · next h1 =>
    split
    · next h2 =>
      obtain ⟨hst, hwk, hctl, harr⟩ := (s.setF F.CLRK_CTL_HOLD_PARKED w (r.arg A.CLERK_CONTROL_HOLD_PARKED)).discardCursor_reads w
      rw [hctl, harr]
      exact ⟨hhold, s.setF_arrays _ _ _, fun h => absurd h h1, fun _ => ⟨hst, hwk⟩, fun h => by omega⟩
    · next h2 =>
      split
      · next h3 =>
        obtain ⟨hst, hhalt, hctl, harr, hstore⟩ :=
          (s.setF F.CLRK_CTL_HOLD_PARKED w (r.arg A.CLERK_CONTROL_HOLD_PARKED)).restartClerk_reads hw
        rw [hctl, harr]
        exact ⟨hhold, s.setF_arrays _ _ _, fun h => absurd h h1, fun h => absurd h h2, fun _ => ⟨hst, hhalt, hstore⟩⟩
      · next h3 => exact ⟨hhold, s.setF_arrays _ _ _, fun h => absurd h h1, fun h => absurd h h2, fun h => absurd h h3⟩

theorem execClerkControl_one (s : State) (w m : Nat) (r : Req) (hw : w < 8) (h : Ready s m C.CLERK_CONTROL s.clerkControlChecks r) (hi : r.index = w) :
    ∃ t, execClerkControl m s = .next t ∧ t.fld F.MBX_STATUS_RESP_VALID m = 1
      ∧ t.fld F.CLRK_CTL_HOLD_PARKED w = r.arg A.CLERK_CONTROL_HOLD_PARKED ∧ t.arrays = s.arrays
      ∧ (r.arg A.CLERK_CONTROL_ACTION = 1 → t.clerkState w = 1)
      ∧ (r.arg A.CLERK_CONTROL_ACTION = 2 → t.clerkState w = 0 ∧ (t.clerk w).work = none)
      ∧ (r.arg A.CLERK_CONTROL_ACTION = 3 → (t.clerkState w = 0 ∨ t.clerkState w = 1) ∧ t.fld F.CLRK_CTL_HALT w = 0
        ∧ ((∀ c, c = (s.clerk w).last ∨ (s.clerk w).first = some c → c.regs.length ≤ 16 ∧ c.path.length ≤ 32) →
            ∀ a, a < 8192 → t.rd R.CLRK_STORE (a + 8192 * w) = leAt s.boot.clerk (4 * a) 4)) := by
  have hall : r.all = false := by
    rw [Req.all, hi]
    exact beq_false_of_ne (by omega)
  have hact : s.clerkControlAct r = .ok (s.controlClerk r w) (w32 ((s.controlClerk r w).rd R.CLRK_STATUS w)) := by
    rw [s.clerkControlAct_eq, Req.instances_one hall, hi, hall]
    rfl
  have hans := h.answered_ok (h.mode_ne_zero (by rfl) (by decide)) hact (s.clerkControlAct_fixed r)
  obtain ⟨hm, -⟩ := h
  have hrd : ∀ q j, 0x2c000000 ≤ q.key j → q.key j < 0x30000000 →
      (s.runCmd m C.CLERK_CONTROL s.clerkControlChecks s.clerkControlAct).rd q j = (s.controlClerk r w).rd q j := fun q j hlo hhi =>
    hans.regs _ _ (answerKey_unit hm (by omega) (by omega))
  have hctl : ∀ f : Fld, f.reg.key w = R.CLRK_CTL.key w ∨ f.reg.key w = R.CLRK_STATUS.key w →
      (s.runCmd m C.CLERK_CONTROL s.clerkControlChecks s.clerkControlAct).fld f w = (s.controlClerk r w).fld f w := fun f hf => by
    rw [clrk_ctl_key, clrk_status_key] at hf
    exact congrArg (bits · f.lo f.wd) (hrd _ _ (by omega) (by omega))
  have hstate := hctl F.CLRK_STATUS_STATE (.inr rfl)
  have hclerk : (s.runCmd m C.CLERK_CONTROL s.clerkControlChecks s.clerkControlAct).clerk w = (s.controlClerk r w).clerk w := by
    rw [State.clerk, hans.ldg, State.clerk]
  obtain ⟨hhold, harr, h1, h2, h3⟩ := s.controlClerk_reads r hw
  refine ⟨_, rfl, hans.valid, (hctl _ (.inl rfl)).trans hhold, hans.arrays.trans harr, fun ha => hstate.trans (h1 ha), fun ha => ?_, fun ha => ?_⟩
  · rw [hclerk]
    exact ⟨hstate.trans (h2 ha).1, (h2 ha).2⟩
  · obtain ⟨hst, hhalt, hstore⟩ := h3 ha
    refine ⟨?_, (hctl _ (.inl rfl)).trans hhalt, fun hfit a ha => ?_⟩
    · rw [State.clerkState, hstate]
      exact hst
    · rw [hrd _ _ (by rw [clrk_store_key]; omega) (by rw [clrk_store_key]; omega)]
      exact hstore hfit a ha

/-- Settles O31: a Clerk's cursor and routine are read off the registers of its own that each step writes, its queues off its store. -/
theorem clerksWorkParkAndResume : Obligations.ClerksWorkParkAndResume := by
  unfold Obligations.ClerksWorkParkAndResume
  refine ⟨fun s => ⟨fun i l w hl hw => ⟨execLearnRelease_bad s i l hl, execLearnRelease_joins s i l w hl hw⟩,
      fun w hw hr hs => ⟨execClerkWorkStart_learns s w hw hr hs, execClerkWorkStart_sweeps s w hw hr hs, execClerkWorkStart_none s w hw hr hs⟩,
      execAgeSweepBucket_due s, fun w hw hm => ⟨execAgeSweepPeriod_again s w hw hm, execAgeSweepPeriod_overruns s w hw hm⟩,
      execClrkWriteComplete_takes s⟩,
    fun s w hw => ⟨fun hrun => ⟨execClerkPark_parks s w hw hrun, execClerkPark_runs s w⟩,
      fun hst hu => ⟨execClerkResume_resumes s w hw hst hu, execClerkResume_held s w⟩, execClrkHaltWrite_granted s w hw,
      execClrkHaltWrite_ungranted s w hw,
      fun perr hrun hwait => ⟨execClrkIllegal_halts s w hw perr hrun hwait, execClrkIllegal_legal s w perr⟩,
      fun m r h => ⟨execClerkControl_holds s m r h, execClerkControl_one s w m r hw h⟩⟩⟩

end Sys2Proof.Machine

namespace Sys2Proof.Machine

/-! ### The registers of a ledger, of a lookup and of an audit slot -/

theorem Req.index_lt {r : Req} {block kind n : Nat} (h : targetError block kind n false r = none) : r.index < n := by
  unfold targetError at h
  split at h
  · cases h
  · split at h
    · cases h
    · split at h
      · cases h
      · split at h
        · cases h
        · omega

section
variable (i : Nat)

theorem ledger_cfg_key : R.LDG_LEDGER_CFG.key i = 0x28001000 + i * 0x40 := (rfl)
theorem ledger_max_key : R.LDG_LEDGER_MAX.key i = 0x28001004 + i * 0x40 := (rfl)
theorem ledger_seed0_key : R.LDG_LEDGER_SEED0.key i = 0x28001008 + i * 0x40 := (rfl)
theorem ledger_seed1_key : R.LDG_LEDGER_SEED1.key i = 0x2800100c + i * 0x40 := (rfl)
theorem ledger_count_key : R.LDG_LEDGER_COUNT.key i = 0x28001010 + i * 0x40 := (rfl)
theorem ledger_learn_key : R.LDG_LEDGER_LEARN.key i = 0x28001014 + i * 0x40 := (rfl)
theorem ledger_select_key : R.LDG_LEDGER_SELECT.key i = 0x28001020 + (i % 4 * 4 + i / 4 * 0x40) := (rfl)
theorem ledger_select4_key : R.LDG_LEDGER_SELECT4.key i = 0x28001030 + i * 0x40 := (rfl)
theorem lookup_cfg_key : R.LDG_LOOKUP_CFG.key i = 0x28002000 + (i % 4 * 0x40 + i / 4 * 0x100) := (rfl)
theorem lookup_select_key : R.LDG_LOOKUP_SELECT.key i = 0x28002004 + (i % 11 * 4 + (i / 11 % 4 * 0x40 + i / 11 / 4 * 0x100)) := (rfl)
theorem profile_cfg_key : R.LDG_PROFILE_CFG.key i = 0x28003000 + i * 8 := (rfl)
theorem profile_miss_key : R.LDG_PROFILE_MISS.key i = 0x28003004 + i * 8 := (rfl)
theorem audit_cfg_key : R.LDG_AUDIT_CFG.key i = 0x28005000 + i * 0x20 := (rfl)
theorem audit_status_key : R.LDG_AUDIT_STATUS.key i = 0x28005004 + i * 0x20 := (rfl)
theorem audit_addr_lo_key : R.LDG_AUDIT_ADDR_LO.key i = 0x28005008 + i * 0x20 := (rfl)
theorem audit_addr_hi_key : R.LDG_AUDIT_ADDR_HI.key i = 0x2800500c + i * 0x20 := (rfl)

end

/-! ### LEDGER_CONFIG -/

/-- What LEDGER_CONFIG writes of every ledger (R326). -/
def ledgerWrites (r : Req) (priv : Nat) : List (Fld × Nat × Nat) :=
  [(F.LDG_LEDGER_CFG_ENABLE, r.index, r.arg A.LEDGER_CONFIG_ENABLE), (F.LDG_LEDGER_CFG_TYPE, r.index, r.arg A.LEDGER_CONFIG_TYPE),
    (F.LDG_LEDGER_CFG_SPAN, r.index, r.arg A.LEDGER_CONFIG_SPAN), (F.LDG_LEDGER_CFG_KEY_BYTES, r.index, r.arg A.LEDGER_CONFIG_KEY_BYTES),
    (F.LDG_LEDGER_CFG_EVICT, r.index, r.arg A.LEDGER_CONFIG_EVICT), (F.LDG_LEDGER_CFG_AGE_EN, r.index, r.arg A.LEDGER_CONFIG_AGE_EN),
    (F.LDG_LEDGER_CFG_AGE_LIMIT, r.index, r.arg A.LEDGER_CONFIG_AGE_LIMIT), (F.LDG_LEDGER_CFG_PRIVILEGED, r.index, priv),
    (F.LDG_LEDGER_MAX_VALUE, r.index, r.arg A.LEDGER_CONFIG_MAX_ENTRIES), (F.LDG_LEDGER_SEED0_VALUE, r.index, r.arg A.LEDGER_CONFIG_SEED0),
    (F.LDG_LEDGER_SEED1_VALUE, r.index, r.arg A.LEDGER_CONFIG_SEED1), (F.LDG_LEDGER_LEARN_VALUE, r.index, r.arg A.LEDGER_CONFIG_LEARN_RESULT)]

/-- The select codes of an express ledger (R303). -/
def ledgerSelects (r : Req) : List (Fld × Nat × Nat) :=
  ((List.range 4).map fun w => (F.LDG_LEDGER_SELECT_VALUE, w + 4 * r.index, bits (r.arg A.LEDGER_CONFIG_SELECT) (32 * w) 32))
    ++ [(⟨R.LDG_LEDGER_SELECT4, 0, 32⟩, r.index, bits (r.arg A.LEDGER_CONFIG_SELECT) 128 24)]

/-- All that LEDGER_CONFIG writes of a ledger's own registers. -/
def ledgerConfigWrites (r : Req) (priv : Nat) : List (Fld × Nat × Nat) :=
  ledgerWrites r priv ++ (if r.arg A.LEDGER_CONFIG_TYPE = 2 then ledgerSelects r else [])

theorem ledgerWrites_wrote (s : State) (r : Req) (priv : Nat) : Wrote s (s.setAll (ledgerWrites r priv)) (ledgerWrites r priv) := by
  refine Wrote.setAll s _ ?_ ?_ <;>
    simp [ledgerWrites, Separate, F.LDG_LEDGER_CFG_ENABLE, F.LDG_LEDGER_CFG_TYPE, F.LDG_LEDGER_CFG_SPAN, F.LDG_LEDGER_CFG_KEY_BYTES,
      F.LDG_LEDGER_CFG_EVICT, F.LDG_LEDGER_CFG_AGE_EN, F.LDG_LEDGER_CFG_AGE_LIMIT, F.LDG_LEDGER_CFG_PRIVILEGED, F.LDG_LEDGER_MAX_VALUE,
      F.LDG_LEDGER_SEED0_VALUE, F.LDG_LEDGER_SEED1_VALUE, F.LDG_LEDGER_LEARN_VALUE, ledger_cfg_key, ledger_max_key, ledger_seed0_key,
      ledger_seed1_key, ledger_learn_key]

/-- Where the registers of a ledger that LEDGER_CONFIG always writes stand. -/
theorem ledgerWrites_keys (r : Req) (priv : Nat) : ∀ e ∈ ledgerWrites r priv, e.1.lo + e.1.wd ≤ 32
    ∧ 0x28001000 + r.index * 0x40 ≤ e.1.reg.key e.2.1 ∧ e.1.reg.key e.2.1 < 0x28001020 + r.index * 0x40
    ∧ e.1.reg.key e.2.1 ≠ 0x28001010 + r.index * 0x40 := by
  simp [ledgerWrites, F.LDG_LEDGER_CFG_ENABLE, F.LDG_LEDGER_CFG_TYPE, F.LDG_LEDGER_CFG_SPAN, F.LDG_LEDGER_CFG_KEY_BYTES,
    F.LDG_LEDGER_CFG_EVICT, F.LDG_LEDGER_CFG_AGE_EN, F.LDG_LEDGER_CFG_AGE_LIMIT, F.LDG_LEDGER_CFG_PRIVILEGED, F.LDG_LEDGER_MAX_VALUE,
    F.LDG_LEDGER_SEED0_VALUE, F.LDG_LEDGER_SEED1_VALUE, F.LDG_LEDGER_LEARN_VALUE, ledger_cfg_key, ledger_max_key, ledger_seed0_key,
    ledger_seed1_key, ledger_learn_key]

theorem ledgerSelects_keys (r : Req) : ∀ e ∈ ledgerSelects r, e.1.lo + e.1.wd ≤ 32
    ∧ 0x28001020 + r.index * 0x40 ≤ e.1.reg.key e.2.1 ∧ e.1.reg.key e.2.1 < 0x28001040 + r.index * 0x40 := by
  intro e he
  obtain he | he := List.mem_append.1 he
  · obtain ⟨w, hw, rfl⟩ := List.mem_map.1 he
    have hw := List.mem_range.1 hw
    refine ⟨by simp [F.LDG_LEDGER_SELECT_VALUE], ?_⟩
    dsimp only [F.LDG_LEDGER_SELECT_VALUE]
    rw [ledger_select_key]
    omega
  · rw [List.mem_singleton.1 he]
    dsimp only
    rw [ledger_select4_key]
    omega

theorem ledgerSelects_separate (r : Req) : (ledgerSelects r).Pairwise Separate := by
  refine List.pairwise_append.2 ⟨?_, List.pairwise_singleton _ _, fun e he d hd => ?_⟩
  · refine wordWrites_separate R.LDG_LEDGER_SELECT 4 (fun w => w + 4 * r.index) _ fun i j hij hj => ?_
    rw [ledger_select_key, ledger_select_key]
    omega
  · obtain ⟨w, hw, rfl⟩ := List.mem_map.1 he
    have hw := List.mem_range.1 hw
    rw [List.mem_singleton.1 hd]
    refine .inl ?_
    dsimp only [F.LDG_LEDGER_SELECT_VALUE]
    rw [ledger_select_key, ledger_select4_key]
    omega

theorem ledgerConfigWrites_keys (r : Req) (priv : Nat) : ∀ e ∈ ledgerConfigWrites r priv, e.1.lo + e.1.wd ≤ 32
    ∧ 0x28001000 + r.index * 0x40 ≤ e.1.reg.key e.2.1 ∧ e.1.reg.key e.2.1 < 0x28001040 + r.index * 0x40
    ∧ e.1.reg.key e.2.1 ≠ 0x28001010 + r.index * 0x40 := by
  intro e he
  obtain he | he := List.mem_append.1 he
  · obtain ⟨hw, hlo, hhi, hne⟩ := ledgerWrites_keys r priv e he
    exact ⟨hw, hlo, by omega, hne⟩
  · split at he
    · obtain ⟨hw, hlo, hhi⟩ := ledgerSelects_keys r e he
      exact ⟨hw, by omega, hhi, by omega⟩
    · cases he

theorem ledgerConfigWrites_wrote (s : State) (r : Req) (priv : Nat) :
    Wrote s (s.setAll (ledgerConfigWrites r priv)) (ledgerConfigWrites r priv) := by
  unfold ledgerConfigWrites
  split
  · rw [State.setAll_append]
    refine (ledgerWrites_wrote s r priv).trans (Wrote.setAll _ _ (fun e he => (ledgerSelects_keys r e he).1) (ledgerSelects_separate r))
      (fun e he => (ledgerWrites_keys r priv e he).1) fun e he d hd => .inl ?_
    obtain ⟨-, -, hhi, -⟩ := ledgerWrites_keys r priv e he
    obtain ⟨-, hlo, -⟩ := ledgerSelects_keys r d hd
    omega
  · rw [List.append_nil]
    exact ledgerWrites_wrote s r priv

/-- LEDGER_CONFIG writes a ledger's registers and then settles its audit slot. -/
theorem State.ledgerConfigAct_eq (s : State) (r : Req) (t : State)
    (ht : t = (s.setAll (ledgerConfigWrites r (r.arg A.LEDGER_CONFIG_PRIVILEGED))).settleAudit r.index) :
    s.ledgerConfigAct r = .ok t (w32 (t.rd R.LDG_LEDGER_CFG r.index) ++ w32 (t.rd R.LDG_LEDGER_COUNT r.index)) := by
  have hselect : F.LDG_LEDGER_SELECT_VALUE = ⟨R.LDG_LEDGER_SELECT, 0, 32⟩ := rfl
  subst ht
  unfold State.ledgerConfigAct ledgerConfigWrites
  rw [State.setAll_append]
  split
  · dsimp only
    rw [State.each_wr, ledgerSelects, State.setAll_append]
    simp only [State.wr_eq_setF, ledgerWrites, State.setAll_cons, State.setAll_nil, hselect]
    rfl
  · simp only [State.wr_eq_setF, ledgerWrites, State.setAll_cons, State.setAll_nil]
    rfl


/-- The audit slot of a ledger that is not privileged and holds none stays none. -/
theorem State.settleAudit_plain (s : State) (g : Nat) (hp : s.flag F.LDG_LEDGER_CFG_PRIVILEGED g = false) (hs : s.auditSlot g = none) :
    s.settleAudit g = s := by
  unfold State.auditSlot at hs
  unfold State.settleAudit
  dsimp only
  rw [hp, hs, if_neg Bool.false_ne_true]

/-- Audit slot `k` taken by ledger `g` (R315). -/
def State.takeAudit (s : State) (k g : Nat) : State :=
  { s with ldg := { s.ldg with audit := Tab.set none s.ldg.audit k (some g) } }.setAll [(F.LDG_AUDIT_CFG_LEDGER, k, g), (F.LDG_AUDIT_STATUS_LEDGER, k, g)]

theorem State.settleAudit_new (s : State) (g k : Nat) (hp : s.flag F.LDG_LEDGER_CFG_PRIVILEGED g = true) (hs : s.auditSlot g = none)
    (hk : lowest 4 (fun j => (Tab.get none s.ldg.audit j).isNone) = some k) : s.settleAudit g = s.takeAudit k g := by
  unfold State.auditSlot at hs
  unfold State.settleAudit State.takeAudit
  dsimp only
  rw [hp, hs, hk, if_pos rfl, State.setAll_cons, State.setAll_cons, State.setAll_nil]

/-- A ledger with no audit slot that takes a free one holds that one. -/
theorem State.takeAudit_slot (s : State) (g k : Nat) (hs : s.auditSlot g = none) (hk : k < 4) : (s.takeAudit k g).auditSlot g = some k := by
  have hget : ∀ j, Tab.get none (s.takeAudit k g).ldg.audit j = if j = k then some g else Tab.get none s.ldg.audit j :=
    fun j => Tab.get_set none s.ldg.audit k j (some g)
  unfold State.auditSlot lowest at hs ⊢
  rw [List.find?_range_eq_none] at hs
  rw [List.find?_range_eq_some]
  refine ⟨by rw [hget, if_pos rfl, beq_self_eq_true], List.mem_range.2 hk, fun j hj => ?_⟩
  rw [hget, if_neg (Nat.ne_of_lt hj)]
  exact hs j (by omega)

theorem lowest_lt {n k : Nat} {p : Nat → Bool} (h : lowest n p = some k) : k < n := List.mem_range.1 (List.mem_of_find?_eq_some h)

theorem State.takeAudit_rd (s : State) (k g : Nat) (q : Reg) (j : Nat) (hc : R.LDG_AUDIT_CFG.key k ≠ q.key j) (ht : R.LDG_AUDIT_STATUS.key k ≠ q.key j) :
    (s.takeAudit k g).rd q j = s.rd q j :=
  State.setAll_rd _ _ q j (List.forall_mem_cons.2 ⟨hc, List.forall_mem_singleton.2 ht⟩)

/-- The ledger an audit slot names once it is taken. -/
theorem State.takeAudit_ledger (s : State) (k g : Nat) (hg : g < 16) : (s.takeAudit k g).fld F.LDG_AUDIT_CFG_LEDGER k = g := by
  unfold State.takeAudit
  rw [State.setAll_cons, State.setAll_cons, State.setAll_nil,
    State.fld_setF_ne _ _ (show R.LDG_AUDIT_CFG.key k ≠ R.LDG_AUDIT_STATUS.key k by rw [audit_cfg_key, audit_status_key]; omega),
    State.fld_setF_same _ _ _ _ (show 4 + 4 ≤ 32 by decide)]
  exact Nat.mod_eq_of_lt hg

theorem State.ledgerConfig_index {s : State} {m : Nat} {r : Req} (h : Ready s m C.LEDGER_CONFIG s.ledgerConfigChecks r) : r.index < 16 :=
  Req.index_lt h.target

/-- PRIVILEGED of a ledger that LEDGER_CONFIG has written. -/
theorem ledgerConfigWrites_privileged (s : State) (r : Req) (v : Nat) (hv : v < 2) :
    (s.setAll (ledgerConfigWrites r v)).fld F.LDG_LEDGER_CFG_PRIVILEGED r.index = v :=
  ((ledgerConfigWrites_wrote s r v).fld F.LDG_LEDGER_CFG_PRIVILEGED r.index v (List.mem_append_left _ (by simp [ledgerWrites]))).trans (Nat.mod_eq_of_lt hv)

theorem ledgerConfigWrites_ldg (s : State) (r : Req) (v : Nat) : (s.setAll (ledgerConfigWrites r v)).ldg = s.ldg := by
  rw [(ledgerConfigWrites_wrote s r v).rest]

theorem ledgerConfigWrites_auditSlot (s : State) (r : Req) (v : Nat) : (s.setAll (ledgerConfigWrites r v)).auditSlot r.index = s.auditSlot r.index := by
  rw [State.auditSlot, ledgerConfigWrites_ldg, State.auditSlot]

theorem ledgerConfigWrites_count (s : State) (r : Req) (v : Nat) :
    (s.setAll (ledgerConfigWrites r v)).rd R.LDG_LEDGER_COUNT r.index = s.rd R.LDG_LEDGER_COUNT r.index := by
  refine State.setAll_rd _ _ _ _ fun e he => ?_
  rw [ledger_count_key]
  exact (ledgerConfigWrites_keys r v e he).2.2.2

/-- LEDGER_CONFIG of a ledger that stays plain writes its registers and answers them. -/
theorem execLedgerConfig_plain (s : State) (m : Nat) (r : Req) (h : Ready s m C.LEDGER_CONFIG s.ledgerConfigChecks r) (hs : s.auditSlot r.index = none)
    (hp : r.on A.LEDGER_CONFIG_PRIVILEGED = false) : ∃ u t, execLedgerConfig m s = .next t ∧ Wrote s u (ledgerConfigWrites r 0)
      ∧ Answered u t m r 0 0 (respParams C.LEDGER_CONFIG r 0 (w32 (u.rd R.LDG_LEDGER_CFG r.index) ++ w32 (s.rd R.LDG_LEDGER_COUNT r.index))) := by
  have hzero : r.arg A.LEDGER_CONFIG_PRIVILEGED = 0 := by
    have hlt : r.arg A.LEDGER_CONFIG_PRIVILEGED < 2 := Req.arg_lt r A.LEDGER_CONFIG_PRIVILEGED
    have hne : r.arg A.LEDGER_CONFIG_PRIVILEGED ≠ 1 := by simpa [Req.on] using hp
    omega
  have hsettled : s.setAll (ledgerConfigWrites r 0) = (s.setAll (ledgerConfigWrites r (r.arg A.LEDGER_CONFIG_PRIVILEGED))).settleAudit r.index := by
    rw [hzero, State.settleAudit_plain _ _ _ ((ledgerConfigWrites_auditSlot s r 0).trans hs)]
    rw [State.flag, ledgerConfigWrites_privileged s r 0 (by decide)]
    rfl
  have hact := s.ledgerConfigAct_eq r _ hsettled
  refine ⟨_, _, rfl, ledgerConfigWrites_wrote s r 0, ?_⟩
  rw [← ledgerConfigWrites_count s r 0]
  exact h.answered_ok (h.mode_ne_zero (by rfl) (by decide)) hact (s.ledgerConfigAct_fixed r)

/-- LEDGER_CONFIG of a ledger that becomes privileged gives it the lowest free audit slot (R315). -/
theorem execLedgerConfig_privileged (s : State) (m : Nat) (r : Req) (k : Nat) (h : Ready s m C.LEDGER_CONFIG s.ledgerConfigChecks r)
    (hs : s.auditSlot r.index = none) (hp : r.on A.LEDGER_CONFIG_PRIVILEGED = true)
    (hk : lowest 4 (fun j => (Tab.get none s.ldg.audit j).isNone) = some k) :
    ∃ t, execLedgerConfig m s = .next t ∧ t.auditSlot r.index = some k ∧ t.fld F.LDG_AUDIT_CFG_LEDGER k = r.index
      ∧ t.fld F.LDG_LEDGER_CFG_PRIVILEGED r.index = 1 ∧ t.fld F.MBX_STATUS_RESP_VALID m = 1 ∧ t.arrays = s.arrays := by
  have hg := State.ledgerConfig_index h
  have hk4 := lowest_lt hk
  have hone : r.arg A.LEDGER_CONFIG_PRIVILEGED = 1 := by simpa [Req.on] using hp
  have hpriv := ledgerConfigWrites_privileged s r 1 (by decide)
  have hslot := (ledgerConfigWrites_auditSlot s r 1).trans hs
  have harrays := (ledgerConfigWrites_wrote s r 1).arrays
  have hldg := ledgerConfigWrites_ldg s r 1
  generalize hu : s.setAll (ledgerConfigWrites r 1) = u at hpriv hslot harrays hldg
  have hsettled : u.takeAudit k r.index = (s.setAll (ledgerConfigWrites r (r.arg A.LEDGER_CONFIG_PRIVILEGED))).settleAudit r.index := by
    rw [hone, hu, State.settleAudit_new u r.index k (by rw [State.flag, hpriv]; rfl) hslot (by rw [hldg]; exact hk)]
  have hans := h.answered_ok (h.mode_ne_zero (by rfl) (by decide)) (s.ledgerConfigAct_eq r _ hsettled) (s.ledgerConfigAct_fixed r)
  have hm := h.1
  refine ⟨_, rfl, ?_, ?_, ?_, hans.valid, ?_⟩
  · rw [State.auditSlot, hans.ldg]
    exact u.takeAudit_slot r.index k hslot hk4
  · rw [hans.unit_fld hm (by show _ ≤ R.LDG_AUDIT_CFG.key k; rw [audit_cfg_key]; omega) (by show R.LDG_AUDIT_CFG.key k < _; rw [audit_cfg_key]; omega)]
    exact u.takeAudit_ledger k r.index hg
  · have hkey := ledger_cfg_key r.index
    rw [hans.unit_fld hm (by show _ ≤ R.LDG_LEDGER_CFG.key _; omega) (by show R.LDG_LEDGER_CFG.key _ < _; omega), ← hpriv]
    refine congrArg (bits · 28 1) (u.takeAudit_rd k r.index _ _ ?_ ?_)
    · rw [audit_cfg_key]; show _ ≠ R.LDG_LEDGER_CFG.key _; omega
    · rw [audit_status_key]; show _ ≠ R.LDG_LEDGER_CFG.key _; omega
  · rw [hans.arrays, ← harrays]
    rfl

end Sys2Proof.Machine

namespace Sys2Proof.Machine

/-! ### LEDGER_GLOBAL and LDG_PORT_CONFIG -/

/-- What LEDGER_GLOBAL writes (R309). -/
def globalWrites (r : Req) : List (Fld × Nat × Nat) :=
  [(F.LDG_GLOBAL_AGE_PERIOD_MS, 0, r.arg A.LEDGER_GLOBAL_AGE_PERIOD_MS), (F.LDG_GLOBAL_LEARN_EN, 0, r.arg A.LEDGER_GLOBAL_LEARN_EN),
    (⟨R.LDG_ECMP_SEED, 0, 32⟩, 0, r.arg A.LEDGER_GLOBAL_ECMP_SEED)]

theorem globalWrites_wrote (s : State) (r : Req) : Wrote s (s.setAll (globalWrites r)) (globalWrites r) := by
  have hkey : R.LDG_GLOBAL.key 0 ≠ R.LDG_ECMP_SEED.key 0 := by decide
  refine Wrote.setAll s _ ?_ ?_ <;> simp [globalWrites, Separate, F.LDG_GLOBAL_AGE_PERIOD_MS, F.LDG_GLOBAL_LEARN_EN, hkey]

theorem State.ledgerGlobalAct_eq (s : State) (r : Req) :
    s.ledgerGlobalAct r = .ok (s.setAll (globalWrites r)) (w32 ((s.setAll (globalWrites r)).rd R.LDG_GLOBAL 0)) := by
  simp only [State.ledgerGlobalAct, State.wr_eq_setF, globalWrites, State.setAll_cons, State.setAll_nil]

theorem execLedgerGlobal_writes (s : State) (m : Nat) (r : Req) (h : Ready s m C.LEDGER_GLOBAL s.ledgerGlobalChecks r) :
    ∃ u t, execLedgerGlobal m s = .next t ∧ Wrote s u (globalWrites r)
      ∧ Answered u t m r 0 0 (respParams C.LEDGER_GLOBAL r 0 (w32 (u.rd R.LDG_GLOBAL 0))) :=
  ⟨_, _, rfl, globalWrites_wrote s r, h.answered_ok (h.mode_ne_zero (by rfl) (by decide)) (s.ledgerGlobalAct_eq r) (s.ledgerGlobalAct_fixed r)⟩

/-- What LDG_PORT_CONFIG writes. -/
def ldgPortWrites (r : Req) : List (Fld × Nat × Nat) :=
  [(F.LDG_PORT_CFG_PROFILE, r.index, r.arg A.LDG_PORT_CONFIG_PROFILE), (F.LDG_PORT_CFG_FLAT_PROFILE, r.index, r.arg A.LDG_PORT_CONFIG_FLAT_PROFILE)]

theorem ldgPortWrites_wrote (s : State) (r : Req) : Wrote s (s.setAll (ldgPortWrites r)) (ldgPortWrites r) := by
  refine Wrote.setAll s _ ?_ ?_ <;> simp [ldgPortWrites, Separate, F.LDG_PORT_CFG_PROFILE, F.LDG_PORT_CFG_FLAT_PROFILE]

theorem State.ldgPortConfigAct_eq (s : State) (r : Req) :
    s.ldgPortConfigAct r = .ok (s.setAll (ldgPortWrites r)) (w32 ((s.setAll (ldgPortWrites r)).rd R.LDG_PORT_CFG r.index)) := by
  simp only [State.ldgPortConfigAct, ldgPortWrites, State.setAll_cons, State.setAll_nil]

theorem execLdgPortConfig_writes (s : State) (m : Nat) (r : Req) (h : Ready s m C.LDG_PORT_CONFIG s.ldgPortConfigChecks r) :
    ∃ u t, execLdgPortConfig m s = .next t ∧ Wrote s u (ldgPortWrites r)
      ∧ Answered u t m r 0 0 (respParams C.LDG_PORT_CONFIG r 0 (w32 (u.rd R.LDG_PORT_CFG r.index))) :=
  ⟨_, _, rfl, ldgPortWrites_wrote s r, h.answered_ok (h.mode_ne_zero (by rfl) (by decide)) (s.ldgPortConfigAct_eq r) (s.ldgPortConfigAct_fixed r)⟩

/-! ### LOOKUP_PROFILE -/

/-- What LOOKUP_PROFILE writes of a profile, its lookups apart (R327). -/
def profileWrites (r : Req) (slots : Nat) : List (Fld × Nat × Nat) :=
  [(F.LDG_PROFILE_CFG_MISS_ACTION, r.index, r.arg A.LOOKUP_PROFILE_MISS_ACTION), (F.LDG_PROFILE_CFG_GROUP_EN, r.index, r.arg A.LOOKUP_PROFILE_GROUP_EN),
    (F.LDG_PROFILE_CFG_MISS_REASON, r.index, r.arg A.LOOKUP_PROFILE_MISS_REASON), (F.LDG_PROFILE_CFG_SLOTS, r.index, slots),
    (F.LDG_PROFILE_CFG_READS, r.index, r.profileReads), (⟨R.LDG_PROFILE_MISS, 0, 32⟩, r.index, r.arg A.LOOKUP_PROFILE_MISS_RESULT)]

/-- What it writes of lookup `k`, its select codes apart. -/
def lookupFields (r : Req) (k : Nat) : List (Fld × Nat × Nat) :=
  [(F.LDG_LOOKUP_CFG_ENABLE, k + 4 * r.index, r.arg (A.LOOKUP_PROFILE_ENABLE k)), (F.LDG_LOOKUP_CFG_ROLE, k + 4 * r.index, r.arg (A.LOOKUP_PROFILE_ROLE k)),
    (F.LDG_LOOKUP_CFG_LEDGER, k + 4 * r.index, r.arg (A.LOOKUP_PROFILE_LEDGER k))]

/-- What it writes of lookup `k`. -/
def lookupWrites (r : Req) (k : Nat) : List (Fld × Nat × Nat) :=
  lookupFields r k ++ (List.range 11).map fun w => (⟨R.LDG_LOOKUP_SELECT, 0, 32⟩, w + 11 * (k + 4 * r.index), leAt r.params (12 + 48 * k + 4 * w) 4)

theorem lookupFields_keys (r : Req) (k : Nat) : ∀ e ∈ lookupFields r k, e.1.lo + e.1.wd ≤ 32
    ∧ e.1.reg.key e.2.1 = R.LDG_LOOKUP_CFG.key (k + 4 * r.index) := by
  simp [lookupFields, F.LDG_LOOKUP_CFG_ENABLE, F.LDG_LOOKUP_CFG_ROLE, F.LDG_LOOKUP_CFG_LEDGER]

/-- The registers of lookup `k` of a profile stand in a window of their own. -/
theorem lookupWrites_keys (r : Req) {k : Nat} (hk : k < 4) : ∀ e ∈ lookupWrites r k, e.1.lo + e.1.wd ≤ 32
    ∧ 0x28002000 + k * 0x40 + r.index * 0x100 ≤ e.1.reg.key e.2.1 ∧ e.1.reg.key e.2.1 < 0x28002040 + k * 0x40 + r.index * 0x100 := by
  intro e he
  obtain he | he := List.mem_append.1 he
  · obtain ⟨hw, hkey⟩ := lookupFields_keys r k e he
    rw [hkey, lookup_cfg_key]
    omega
  · obtain ⟨w, hw, rfl⟩ := List.mem_map.1 he
    have hw := List.mem_range.1 hw
    dsimp only
    rw [lookup_select_key]
    omega

theorem lookupWrites_separate (r : Req) {k : Nat} (hk : k < 4) : (lookupWrites r k).Pairwise Separate := by
  refine List.pairwise_append.2 ⟨?_, ?_, fun e he d hd => ?_⟩
  · simp [lookupFields, Separate, F.LDG_LOOKUP_CFG_ENABLE, F.LDG_LOOKUP_CFG_ROLE, F.LDG_LOOKUP_CFG_LEDGER]
  · refine wordWrites_separate R.LDG_LOOKUP_SELECT 11 (fun w => w + 11 * (k + 4 * r.index)) _ fun i j hij hj => ?_
    rw [lookup_select_key, lookup_select_key]
    omega
  · obtain ⟨w, hw, rfl⟩ := List.mem_map.1 hd
    have hw := List.mem_range.1 hw
    refine .inl ?_
    dsimp only
    rw [(lookupFields_keys r k e he).2, lookup_cfg_key, lookup_select_key]
    omega

theorem lookups_separate (r : Req) : ((List.range 4).flatMap (lookupWrites r)).Pairwise Separate := by
  refine List.pairwise_flatMap.2 ⟨fun k hk => lookupWrites_separate r (List.mem_range.1 hk), ?_⟩
  refine (List.pairwise_lt_range (n := 4)).imp_of_mem fun {k j} hk hj hlt e he d hd => .inl ?_
  obtain ⟨-, -, hhi⟩ := lookupWrites_keys r (List.mem_range.1 hk) e he
  obtain ⟨-, hlo, -⟩ := lookupWrites_keys r (List.mem_range.1 hj) d hd
  omega

theorem profileWrites_keys (r : Req) (slots : Nat) : ∀ e ∈ profileWrites r slots, e.1.lo + e.1.wd ≤ 32 ∧ 0x28003000 ≤ e.1.reg.key e.2.1 := by
  simp [profileWrites, F.LDG_PROFILE_CFG_MISS_ACTION, F.LDG_PROFILE_CFG_GROUP_EN, F.LDG_PROFILE_CFG_MISS_REASON, F.LDG_PROFILE_CFG_SLOTS,
    F.LDG_PROFILE_CFG_READS, profile_cfg_key, profile_miss_key]
  omega

theorem profileWrites_separate (r : Req) (slots : Nat) : (profileWrites r slots).Pairwise Separate := by
  simp [profileWrites, Separate, F.LDG_PROFILE_CFG_MISS_ACTION, F.LDG_PROFILE_CFG_GROUP_EN, F.LDG_PROFILE_CFG_MISS_REASON, F.LDG_PROFILE_CFG_SLOTS,
    F.LDG_PROFILE_CFG_READS, profile_cfg_key, profile_miss_key]

/-- All that LOOKUP_PROFILE writes. -/
def lookupProfileWrites (r : Req) (slots : Nat) : List (Fld × Nat × Nat) := profileWrites r slots ++ (List.range 4).flatMap (lookupWrites r)

theorem lookupProfileWrites_wrote (s : State) (r : Req) (slots : Nat) (hp : r.index < 16) :
    Wrote s (s.setAll (lookupProfileWrites r slots)) (lookupProfileWrites r slots) := by
  refine Wrote.setAll s _ (fun e he => ?_) (List.pairwise_append.2 ⟨profileWrites_separate r slots, lookups_separate r, fun e he d hd => .inl ?_⟩)
  · obtain he | he := List.mem_append.1 he
    · exact (profileWrites_keys r slots e he).1
    · obtain ⟨k, hk, he⟩ := List.mem_flatMap.1 he
      exact (lookupWrites_keys r (List.mem_range.1 hk) e he).1
  · obtain ⟨k, hk, hd⟩ := List.mem_flatMap.1 hd
    have hk := List.mem_range.1 hk
    obtain ⟨-, -, hhi⟩ := lookupWrites_keys r hk d hd
    obtain ⟨-, hlo⟩ := profileWrites_keys r slots e he
    omega

theorem State.setProfile_eq (s : State) (r : Req) (slots : Nat) : s.setProfile r.index slots r = s.setAll (profileWrites r slots) := by
  simp only [State.setProfile, State.wr_eq_setF, profileWrites, State.setAll_cons, State.setAll_nil]

theorem State.setProfileLookup_eq (s : State) (r : Req) (k : Nat) : s.setProfileLookup r.index k r = s.setAll (lookupWrites r k) := by
  unfold State.setProfileLookup lookupWrites
  dsimp only
  rw [State.each_wr, State.setAll_append, lookupFields, State.setAll_cons, State.setAll_cons, State.setAll_cons, State.setAll_nil]

theorem State.lookupProfileAct_eq (s : State) (r : Req) (slots : Nat) (hs : slots = if r.profileReads ≤ 4 then 1 else 2) :
    s.lookupProfileAct r = .ok (s.setAll (lookupProfileWrites r slots)) (w32 (slots + 256 * r.profileReads)) := by
  subst hs
  unfold State.lookupProfileAct
  dsimp only
  rw [State.setProfile_eq, lookupProfileWrites, State.setAll_append, ← State.each_setAll]
  simp only [State.setProfileLookup_eq]

theorem execLookupProfile_writes (s : State) (m : Nat) (r : Req) (slots : Nat) (h : Ready s m C.LOOKUP_PROFILE s.lookupProfileChecks r)
    (hs : slots = if r.profileReads ≤ 4 then 1 else 2) :
    Configures (execLookupProfile m s) s m r C.LOOKUP_PROFILE (w32 (slots + 256 * r.profileReads)) (lookupProfileWrites r slots) :=
  ⟨_, _, rfl, lookupProfileWrites_wrote s r slots (Req.index_lt h.target),
    h.answered_ok (h.mode_ne_zero (by rfl) (by decide)) (s.lookupProfileAct_eq r slots hs) (s.lookupProfileAct_fixed r)⟩

theorem audit_slot_key (i : Nat) : R.LDG_AUDIT_SLOT.key i = 0x28005010 + i * 0x20 := (rfl)

/-! ### AUDIT_CONFIG and the verdicts of a pass -/

/-- What AUDIT_CONFIG writes of audit slot `k` (R315). -/
def auditWrites (r : Req) (k : Nat) : List (Fld × Nat × Nat) :=
  [(F.LDG_AUDIT_CFG_ENABLE, k, r.arg A.AUDIT_CONFIG_ENABLE), (F.LDG_AUDIT_CFG_ACTION, k, r.arg A.AUDIT_CONFIG_ACTION),
    (F.LDG_AUDIT_CFG_PASS_MS, k, r.arg A.AUDIT_CONFIG_PASS_MS), (F.LDG_AUDIT_ADDR_LO_VALUE, k, r.arg A.AUDIT_CONFIG_HOST_ADDR_LO),
    (F.LDG_AUDIT_ADDR_HI_VALUE, k, r.arg A.AUDIT_CONFIG_HOST_ADDR_HI)]

theorem auditWrites_wrote (s : State) (r : Req) (k : Nat) : Wrote s (s.setAll (auditWrites r k)) (auditWrites r k) := by
  refine Wrote.setAll s _ ?_ ?_ <;>
    simp [auditWrites, Separate, F.LDG_AUDIT_CFG_ENABLE, F.LDG_AUDIT_CFG_ACTION, F.LDG_AUDIT_CFG_PASS_MS, F.LDG_AUDIT_ADDR_LO_VALUE,
      F.LDG_AUDIT_ADDR_HI_VALUE, audit_cfg_key, audit_addr_lo_key, audit_addr_hi_key]

theorem State.auditConfigAct_eq (s : State) (r : Req) (k : Nat) (hk : s.auditSlot r.index = some k) :
    s.auditConfigAct r = .ok (s.setAll (auditWrites r k)) (w32 (s.rd R.LDG_AUDIT_STATUS k)) := by
  have hstatus : (s.setAll (auditWrites r k)).rd R.LDG_AUDIT_STATUS k = s.rd R.LDG_AUDIT_STATUS k := by
    refine State.setAll_rd _ _ _ _ ?_
    simp [auditWrites, F.LDG_AUDIT_CFG_ENABLE, F.LDG_AUDIT_CFG_ACTION, F.LDG_AUDIT_CFG_PASS_MS, F.LDG_AUDIT_ADDR_LO_VALUE,
      F.LDG_AUDIT_ADDR_HI_VALUE, audit_cfg_key, audit_addr_lo_key, audit_addr_hi_key, audit_status_key]
  have hlist : s.setAll (auditWrites r k) = ((((s.setF F.LDG_AUDIT_CFG_ENABLE k (r.arg A.AUDIT_CONFIG_ENABLE)).setF F.LDG_AUDIT_CFG_ACTION k
      (r.arg A.AUDIT_CONFIG_ACTION)).setF F.LDG_AUDIT_CFG_PASS_MS k (r.arg A.AUDIT_CONFIG_PASS_MS)).wr R.LDG_AUDIT_ADDR_LO k
      (r.arg A.AUDIT_CONFIG_HOST_ADDR_LO)).wr R.LDG_AUDIT_ADDR_HI k (r.arg A.AUDIT_CONFIG_HOST_ADDR_HI) := by
    simp only [auditWrites, State.wr_eq_setF, State.setAll_cons, State.setAll_nil, F.LDG_AUDIT_ADDR_LO_VALUE, F.LDG_AUDIT_ADDR_HI_VALUE]
  rw [← hstatus, hlist, State.auditConfigAct, hk]

theorem execAuditConfig_writes (s : State) (m : Nat) (r : Req) (k : Nat) (h : Ready s m C.AUDIT_CONFIG s.auditConfigChecks r)
    (hk : s.auditSlot r.index = some k) :
    Configures (execAuditConfig m s) s m r C.AUDIT_CONFIG (w32 (s.rd R.LDG_AUDIT_STATUS k)) (auditWrites r k) :=
  ⟨_, _, rfl, auditWrites_wrote s r k,
    h.answered_ok (h.mode_ne_zero (by rfl) (by decide)) (s.auditConfigAct_eq r k hk) (s.auditConfigAct_fixed r)⟩

/-- A pass counted: DIGEST_BAD as found, PASSES one up, and the event of a pass (R315). -/
def State.countPass (s : State) (k : Nat) (off : Bool) : State :=
  ((s.setF F.LDG_AUDIT_STATUS_DIGEST_BAD k (b2n off)).inc F.LDG_AUDIT_STATUS_PASSES k).note E.LDG_AUDIT_PASS

/-- The `n` mismatches of a pass marked and counted (R316). -/
def State.countMismatch (s : State) (k n : Nat) : State :=
  if n = 0 then s else ((s.setF F.LDG_AUDIT_STATUS_MISMATCH k 1).addSat F.LDG_AUDIT_STATUS_MISMATCH_COUNT k n).note E.LDG_AUDIT_MISMATCH

/-- The slot of the last bad record, where a replica holds its key. -/
def State.nameMismatch (s : State) (k g : Nat) (bad : List Shadow) : State :=
  match bad.getLast? with
  | some x => match replicas.findSome? fun r => (s.copiesOf r g (padKey (s.keyBytes g) x.key)).head? with
    | some j => s.wr R.LDG_AUDIT_SLOT k j
    | none => s
  | none => s

/-- The digest of the entries of a ledger (R315). -/
def State.ledgerDigest (s : State) (g : Nat) : Nat :=
  (s.headsOf 0 g).foldl (fun a n => a ^^^ digestOf (entryKey (imageEntry (s.bucket 0 (n / 4)) (n % 4))) (slotResult (s.slot 0 n))) 0

theorem State.nameMismatch_cases (s : State) (k g : Nat) (bad : List Shadow) :
    s.nameMismatch k g bad = s ∨ ∃ j, s.nameMismatch k g bad = s.wr R.LDG_AUDIT_SLOT k j := by
  unfold State.nameMismatch
  split
  · split
    · next j _ => exact .inr ⟨j, rfl⟩
    · exact .inl rfl
  · exact .inl rfl

theorem State.nameMismatch_fld (s : State) (k g : Nat) (bad : List Shadow) (f : Fld) (h : f.reg.key k ≠ R.LDG_AUDIT_SLOT.key k) :
    (s.nameMismatch k g bad).fld f k = s.fld f k := by
  obtain he | ⟨j, he⟩ := s.nameMismatch_cases k g bad
  · rw [he]
  · rw [he, State.fld_wr_ne s j h]

theorem State.nameMismatch_arrays (s : State) (k g : Nat) (bad : List Shadow) : (s.nameMismatch k g bad).arrays = s.arrays := by
  obtain he | ⟨j, he⟩ := s.nameMismatch_cases k g bad
  · rw [he]
  · rw [he, State.wr_arrays]

/-- What counting a pass and its mismatches writes of the slot's status. -/
def mismatchWrites (s : State) (k n : Nat) : List (Fld × Nat × Nat) :=
  [(F.LDG_AUDIT_STATUS_DIGEST_BAD, k, 1),
    (F.LDG_AUDIT_STATUS_PASSES, k, satBits F.LDG_AUDIT_STATUS_PASSES.wd (s.fld F.LDG_AUDIT_STATUS_PASSES k + 1)),
    (F.LDG_AUDIT_STATUS_MISMATCH, k, 1),
    (F.LDG_AUDIT_STATUS_MISMATCH_COUNT, k, satBits F.LDG_AUDIT_STATUS_MISMATCH_COUNT.wd (s.fld F.LDG_AUDIT_STATUS_MISMATCH_COUNT k + n))]

theorem mismatchWrites_wrote (s : State) (k n : Nat) : Wrote s (s.setAll (mismatchWrites s k n)) (mismatchWrites s k n) := by
  refine Wrote.setAll s _ ?_ ?_ <;>
    simp [mismatchWrites, Separate, F.LDG_AUDIT_STATUS_DIGEST_BAD, F.LDG_AUDIT_STATUS_PASSES, F.LDG_AUDIT_STATUS_MISMATCH, F.LDG_AUDIT_STATUS_MISMATCH_COUNT]

/-- Counting a pass and its mismatches writes these fields and no other register. -/
theorem State.countMismatch_regs (s : State) (k n : Nat) (hn : n ≠ 0) :
    ((s.countPass k true).countMismatch k n).regs = (s.setAll (mismatchWrites s k n)).regs := by
  have hpasses : (s.setF F.LDG_AUDIT_STATUS_DIGEST_BAD k 1).fld F.LDG_AUDIT_STATUS_PASSES k = s.fld F.LDG_AUDIT_STATUS_PASSES k :=
    State.fld_setF_other _ F.LDG_AUDIT_STATUS_DIGEST_BAD F.LDG_AUDIT_STATUS_PASSES _ _ rfl (by decide) (by decide)
  have hcount (t : State) (v : Nat) : (t.setF F.LDG_AUDIT_STATUS_MISMATCH k v).fld F.LDG_AUDIT_STATUS_MISMATCH_COUNT k = t.fld F.LDG_AUDIT_STATUS_MISMATCH_COUNT k :=
    State.fld_setF_other _ F.LDG_AUDIT_STATUS_MISMATCH F.LDG_AUDIT_STATUS_MISMATCH_COUNT _ _ rfl (by decide) (by decide)
  have hpc (t : State) (v : Nat) : (t.setF F.LDG_AUDIT_STATUS_PASSES k v).fld F.LDG_AUDIT_STATUS_MISMATCH_COUNT k = t.fld F.LDG_AUDIT_STATUS_MISMATCH_COUNT k :=
    State.fld_setF_other _ F.LDG_AUDIT_STATUS_PASSES F.LDG_AUDIT_STATUS_MISMATCH_COUNT _ _ rfl (by decide) (by decide)
  have hdc (t : State) (v : Nat) : (t.setF F.LDG_AUDIT_STATUS_DIGEST_BAD k v).fld F.LDG_AUDIT_STATUS_MISMATCH_COUNT k = t.fld F.LDG_AUDIT_STATUS_MISMATCH_COUNT k :=
    State.fld_setF_other _ F.LDG_AUDIT_STATUS_DIGEST_BAD F.LDG_AUDIT_STATUS_MISMATCH_COUNT _ _ rfl (by decide) (by decide)
  have hpass : (s.countPass k true).regs = (s.setAll ((mismatchWrites s k n).take 2)).regs := by
    unfold State.countPass State.inc State.addSat
    rw [State.note_regs, show b2n true = 1 from rfl, hpasses]
    rfl
  have hfld : (s.countPass k true).fld F.LDG_AUDIT_STATUS_MISMATCH_COUNT k = s.fld F.LDG_AUDIT_STATUS_MISMATCH_COUNT k := by
    unfold State.countPass State.inc State.addSat
    rw [State.note_fld, hpc, hdc]
  rw [State.countMismatch, if_neg hn, State.note_regs, State.addSat, hcount, hfld,
    State.setF_regs_congr (State.setF_regs_congr hpass _ _ _)]
  rfl

theorem State.countMismatch_arrays (s : State) (k n : Nat) (off : Bool) : ((s.countPass k off).countMismatch k n).arrays = s.arrays := by
  have hpass : (s.countPass k off).arrays = s.arrays := by
    unfold State.countPass State.inc State.addSat
    rw [State.note_arrays, State.setF_arrays, State.setF_arrays]
  unfold State.countMismatch State.addSat
  split
  · exact hpass
  · rw [State.note_arrays, State.setF_arrays, State.setF_arrays, hpass]

section
variable {s : State} {k g count digest : Nat} {recs bad : List Shadow} (hg : Tab.get none s.ldg.audit k = some g)
  (hen : s.flag F.LDG_AUDIT_CFG_ENABLE k = true)
  (hsh : s.shadow (s.rd R.LDG_AUDIT_ADDR_LO k + 2 ^ 32 * s.rd R.LDG_AUDIT_ADDR_HI k) g = some (count, digest, recs))
  (hbad : bad = recs.filter fun x => !s.recordOk g x)
include hg hen hsh hbad

/-- A pass whose shadow arrives is counted, its mismatches are marked, and its bad records are rewritten where ACTION says so. -/
theorem execAuditPassStart_eq (off : Bool) (hoff : ((s.headsOf 0 g).length != count || s.ledgerDigest g != digest) = off) (t : State)
    (ht : t = ((s.countPass k off).countMismatch k (bad.length + b2n off)).nameMismatch k g bad) :
    execAuditPassStart k s = .next (if t.flag F.LDG_AUDIT_CFG_ACTION k then t.each bad fun x s => s.repairRecord g x else t) := by
  subst ht hoff hbad
  unfold execAuditPassStart
  rw [hg]
  dsimp only
  rw [hen, hsh]
  rfl

/-- A pass that finds ledger and shadow alike clears DIGEST_BAD and counts itself. -/
theorem execAuditPassStart_agrees (hnone : bad = []) (hlen : (s.headsOf 0 g).length = count) (hdig : s.ledgerDigest g = digest) :
    ∃ u, Wrote s u [(F.LDG_AUDIT_STATUS_DIGEST_BAD, k, 0),
        (F.LDG_AUDIT_STATUS_PASSES, k, satBits F.LDG_AUDIT_STATUS_PASSES.wd (s.fld F.LDG_AUDIT_STATUS_PASSES k + 1))]
      ∧ execAuditPassStart k s = .next (u.note E.LDG_AUDIT_PASS) := by
  have hpasses : (s.setF F.LDG_AUDIT_STATUS_DIGEST_BAD k 0).fld F.LDG_AUDIT_STATUS_PASSES k = s.fld F.LDG_AUDIT_STATUS_PASSES k :=
    State.fld_setF_other _ F.LDG_AUDIT_STATUS_DIGEST_BAD F.LDG_AUDIT_STATUS_PASSES _ _ rfl (by decide) (by decide)
  refine ⟨(s.setF F.LDG_AUDIT_STATUS_DIGEST_BAD k 0).inc F.LDG_AUDIT_STATUS_PASSES k, ?_, ?_⟩
  · rw [State.inc, State.addSat, hpasses]
    refine Wrote.setAll s [(F.LDG_AUDIT_STATUS_DIGEST_BAD, k, 0), (F.LDG_AUDIT_STATUS_PASSES, k, _)] ?_ ?_ <;>
      simp [Separate, F.LDG_AUDIT_STATUS_DIGEST_BAD, F.LDG_AUDIT_STATUS_PASSES]
  · rw [execAuditPassStart_eq hg hen hsh hbad false (by simp [hlen, hdig]) _ rfl, hnone]
    exact congrArg Host.Outcome.next (ite_self _)

/-- A pass whose digest differs marks and counts its mismatches, and with ACTION 0 leaves every entry. -/
theorem execAuditPassStart_differs (hdig : s.ledgerDigest g ≠ digest) (haction : s.flag F.LDG_AUDIT_CFG_ACTION k = false) :
    ∃ t, execAuditPassStart k s = .next t
      ∧ t.fld F.LDG_AUDIT_STATUS_DIGEST_BAD k = 1 ∧ t.fld F.LDG_AUDIT_STATUS_MISMATCH k = 1
      ∧ t.fld F.LDG_AUDIT_STATUS_MISMATCH_COUNT k = satBits F.LDG_AUDIT_STATUS_MISMATCH_COUNT.wd
          (s.fld F.LDG_AUDIT_STATUS_MISMATCH_COUNT k + (bad.length + 1))
      ∧ t.arrays = s.arrays := by
  have hw := mismatchWrites_wrote s k (bad.length + 1)
  have hslot : R.LDG_AUDIT_STATUS.key k ≠ R.LDG_AUDIT_SLOT.key k := by rw [audit_status_key, audit_slot_key]; omega
  have hkeep : R.LDG_AUDIT_CFG.key k ≠ R.LDG_AUDIT_SLOT.key k := by rw [audit_cfg_key, audit_slot_key]; omega
  have hcfg : ∀ e ∈ mismatchWrites s k (bad.length + 1), e.1.reg.key e.2.1 ≠ R.LDG_AUDIT_CFG.key k := by
    simp [mismatchWrites, F.LDG_AUDIT_STATUS_DIGEST_BAD, F.LDG_AUDIT_STATUS_PASSES, F.LDG_AUDIT_STATUS_MISMATCH, F.LDG_AUDIT_STATUS_MISMATCH_COUNT,
      audit_cfg_key, audit_status_key]
  have hregs := s.countMismatch_regs k (bad.length + 1) (Nat.succ_ne_zero _)
  have hflds (f : Fld) (hf : f.reg.key k ≠ R.LDG_AUDIT_SLOT.key k) :
      (((s.countPass k true).countMismatch k (bad.length + 1)).nameMismatch k g bad).fld f k = (s.setAll (mismatchWrites s k (bad.length + 1))).fld f k := by
    rw [State.nameMismatch_fld _ _ _ _ _ hf, State.fld_congr hregs]
  refine ⟨_, execAuditPassStart_eq hg hen hsh hbad true (by simp [hdig]) _ rfl, ?_⟩
  rw [show b2n true = 1 from rfl, State.flag, hflds _ hkeep, hw.fld_keeps F.LDG_AUDIT_CFG_ACTION k (by decide) hcfg, ← State.flag, haction, if_neg Bool.false_ne_true]
  refine ⟨?_, ?_, ?_, ?_⟩
  · rw [hflds _ hslot, hw.fld F.LDG_AUDIT_STATUS_DIGEST_BAD k 1 (by simp [mismatchWrites])]
    rfl
  · rw [hflds _ hslot, hw.fld F.LDG_AUDIT_STATUS_MISMATCH k 1 (by simp [mismatchWrites])]
    rfl
  · rw [hflds _ hslot, hw.fld F.LDG_AUDIT_STATUS_MISMATCH_COUNT k _ (List.getLast_mem (l := mismatchWrites s k (bad.length + 1)) (by simp [mismatchWrites]))]
    exact Nat.mod_eq_of_lt (satBits_lt _ _)
  · rw [State.nameMismatch_arrays, State.countMismatch_arrays]

end

/-- Settles O27: the ledger configuration commands write the fields their tables name and answer them, and a pass of an audit gives the verdict its shadow calls
for. -/
theorem ledgerConfigurationAndAudit : Obligations.LedgerConfigurationAndAudit := by
  unfold Obligations.LedgerConfigurationAndAudit
  refine ⟨fun s m r => ⟨fun h hs => ⟨execLedgerConfig_plain s m r h hs, fun k hp hk => execLedgerConfig_privileged s m r k h hs hp hk⟩,
    execLedgerGlobal_writes s m r, fun h slots hs => execLookupProfile_writes s m r slots h hs, execLdgPortConfig_writes s m r,
    fun k h hk => execAuditConfig_writes s m r k h hk⟩, ?_⟩
  intro s k g count digest recs bad d _ hg hen hsh hbad hd
  subst hd
  exact ⟨execAuditPassStart_agrees hg hen hsh hbad, execAuditPassStart_differs hg hen hsh hbad⟩

end Sys2Proof.Machine

namespace Sys2Proof.Machine

/-! ### Keys and candidate buckets -/

theorem padKey_getElem? (kb : Nat) (key : List Byte) (i : Nat) :
    (padKey kb key)[i]? = if i < 44 then some (if i < kb then key.getD i 0#8 else 0#8) else none := by
  unfold padKey
  rw [List.getElem?_take]
  split
  · rw [List.getElem?_append, List.length_take, List.getElem?_take, List.getD_eq_getElem?_getD]
    split
    · rw [if_pos (by omega), if_pos (by omega), List.getElem?_eq_getElem (by omega)]
      rfl
    · rw [List.getElem?_replicate, if_pos (by omega)]
      split
      · rw [List.getElem?_eq_none (by omega)]
        rfl
      · rfl
  · rfl

/-- A key that is padded is padded. -/
theorem padKey_padKey (kb : Nat) (key : List Byte) : padKey kb (padKey kb key) = padKey kb key := by
  refine List.ext_getElem? fun i => ?_
  rw [padKey_getElem?, padKey_getElem?, List.getD_eq_getElem?_getD, padKey_getElem?]
  split
  · split
    · rfl
    · rfl
  · rfl

theorem State.padKey_keyBytes (s : State) (g : Nat) (key : List Byte) :
    padKey (s.keyBytes g) (padKey (s.keyBytes g) key) = padKey (s.keyBytes g) key := padKey_padKey (s.keyBytes g) key

/-- The candidate buckets of a key stand in one ward. -/
theorem State.candidates_ward (s : State) (g : Nat) (key : List Byte) : ∃ w a0 a1, w < 8 ∧ a0 < 32768 ∧ a1 < 32768
    ∧ s.candidates g key = (32768 * w + a0, 32768 * w + a1) := by
  have hrow (h n : Nat) (hn : n ≤ 32768) : bits h 16 16 * n / 65536 < 32768 := by
    have hb : bits h 16 16 < 2 ^ 16 := bits_lt h 16 16
    refine Nat.div_lt_of_lt_mul ?_
    calc bits h 16 16 * n ≤ bits h 16 16 * 32768 := Nat.mul_le_mul_left _ hn
      _ < 65536 * 32768 := by omega
  have hn : s.hashRows ≤ 32768 := Nat.sub_le _ _
  unfold State.candidates
  dsimp only
  refine ⟨_, _, _, Nat.mod_lt _ (by decide), hrow _ _ hn, ?_, rfl⟩
  split
  · obtain h0 | hpos := Nat.eq_zero_or_pos s.hashRows
    · rw [h0]
      simp
    · exact Nat.lt_of_lt_of_le (Nat.mod_lt _ hpos) hn
  · exact hrow _ _ hn

theorem wardOf_row {w a : Nat} (ha : a < 32768) : wardOf (32768 * w + a) = w := by
  unfold wardOf
  omega

/-! ### Commands that need a ward's Clerk -/

/-- A command whose wards' Clerks are idle and have no urgent request answers as one that needs none. -/
theorem Ready.clerkAnswered {s u : State} {m : Nat} {c : Cmd} {checks : Req → Checks} {wards : Req → List Nat} {act : Req → Ans} {r : Req} {st d w : Nat}
    {own : List Byte} (h : Ready s m c checks r) (h0 : s.mode ≠ 0) (hw : wards r = [w]) (hidle : s.clerkState w = 0) (hu : (u.clerk w).urgent = 0)
    (ha : act r = .done u st d own) (hf : (act r).state.fixed = s.fixed) :
    Answered u (s.runClerkCmd m c checks wards act) m r st d (respParams c r st own) := by
  have hans (f : Req → Ans) (hact : f r = act r) : Answered u (s.runCmd m c checks f) m r st d (respParams c r st own) := by
    refine h.answered h0 (hact.trans ha) ?_
    rw [ha] at hf
    exact congrArg (·.2.2) hf
  obtain ⟨hm, r0, htake, rfl, hcheck⟩ := h
  unfold State.runClerkCmd
  rw [htake]
  dsimp only
  rw [hcheck, Option.isSome_none, if_neg Bool.false_ne_true, hw]
  simp only [List.any_cons, List.any_nil, hidle, Bool.or_false]
  rw [if_neg (by decide)]
  specialize hans (fun r => if ((0 : Nat) == 3) = true then Ans.fail s 1026 (41 * 2 ^ 24) else act r) (if_neg (by decide))
  rw [State.each_cons, State.each_nil, if_neg]
  · exact hans
  · rw [State.clerk, hans.ldg, ← State.clerk, hu]
    decide

/-! ### ENTRY_FIND -/

theorem maskOf_succ (n : Nat) (p : Nat → Bool) : maskOf (n + 1) p = maskOf n p + if p n then 2 ^ n else 0 := by
  unfold maskOf idxs
  rw [List.range_succ, List.filter_append, List.foldl_append, List.filter_singleton]
  cases p n <;> rfl

theorem maskOf_lt (n : Nat) (p : Nat → Bool) : maskOf n p < 2 ^ n := by
  induction n with
  | zero => exact Nat.one_pos
  | succ n ih =>
    rw [maskOf_succ, Nat.pow_succ]
    split <;> omega

theorem maskOf_bit (n : Nat) (p : Nat → Bool) {k : Nat} (hk : k < n) : bit (maskOf n p) k = p k := by
  induction n with
  | zero => omega
  | succ n ih =>
    rw [maskOf_succ]
    obtain hlt | rfl : k < n ∨ k = n := by omega
    · rw [← ih hlt]
      split
      · rw [bit, Nat.add_comm, Nat.testBit_two_pow_add_gt hlt, bit]
      · rfl
    · split
      · next hp => rw [bit, Nat.add_comm, Nat.testBit_two_pow_add_eq, Nat.testBit_lt_two_pow (maskOf_lt k p), hp]; rfl
      · next hp => rw [bit, Nat.add_zero, Nat.testBit_lt_two_pow (maskOf_lt k p), Bool.eq_false_iff.2 hp]

theorem State.keyWard_padKey (s : State) (g : Nat) (key : List Byte) :
    s.keyWard g (padKey (s.keyBytes g) key) = wardOf (s.candidates g (padKey (s.keyBytes g) key)).1 := by
  rw [State.keyWard, State.padKey_keyBytes]

section
variable {s : State} {m g w : Nat} {r : Req} {key : List Byte} (h : Ready s m C.ENTRY_FIND s.entryFindChecks r) (hg : g = r.index)
  (hkey : key = padKey (s.keyBytes g) (r.bytes A.ENTRY_FIND_KEY)) (hw : w = wardOf (s.candidates g key).1)
include h hg hkey hw

theorem execEntryFind_absent (hc : s.copiesOf (w % 4) g key = []) :
    ∃ t, execEntryFind m s = .next t ∧ Answered s t m r 0x0302 0 (respParams C.ENTRY_FIND r 0x0302 []) := by
  refine ⟨_, rfl, h.answered (h.mode_ne_zero (by rfl) (by decide)) ?_ rfl⟩
  subst hg hw hkey
  unfold State.entryFindAct
  dsimp only
  rw [State.keyWard_padKey, hc]
  rfl

theorem execEntryFind_found (n : Nat) (tail : List Nat) (hc : s.copiesOf (w % 4) g key = n :: tail) : ∃ agree hits : Nat,
    Reports (execEntryFind m s) s m r C.ENTRY_FIND (w32 ((n :: tail).length + 256 * agree + 65536 * hits) ++ w32 n
        ++ w32 (slotResult (s.slot (w % 4) n)) ++ w32 (s.slot (w % 4) n % 2 ^ 32) ++ w32 (s.rd R.LDG_LEDGER_COUNT g))
    ∧ (agree = 1 ↔ ∀ k ∈ replicas, s.copiesOf k g key = n :: tail ∧ ∀ j ∈ n :: tail, s.entryAt k j = s.entryAt (w % 4) j)
    ∧ ∀ k, k < 8 → bit hits k = (s.copiesOf k g key).any fun j => slotHit (s.slot k j) := by
  refine ⟨b2n (replicas.all fun k => s.copiesOf k g key == n :: tail && (n :: tail).all fun j => s.entryAt k j == s.entryAt (w % 4) j),
    maskOf 8 fun k => (s.copiesOf k g key).any fun j => slotHit (s.slot k j), h.reports (h.mode_ne_zero (by rfl) (by decide)) ?_, ?_,
    fun k hk => maskOf_bit 8 _ hk⟩
  · subst hg hw hkey
    unfold State.entryFindAct
    dsimp only
    rw [State.keyWard_padKey, hc]
  · rw [b2n, ite_eq_left_iff]
    simp only [Nat.zero_ne_one, imp_false, not_not, List.all_eq_true, Bool.and_eq_true, beq_iff_eq]

end

/-! ### ENTRY_BATCH -/

theorem execEntryBatch_waits (s : State) (k : Nat) (h : s.clerksRun = true) : execEntryBatch (.record k) s = .next s :=
  congrArg Host.Outcome.next (if_pos (by rw [h]; rfl))

/-- A batch of one record that is applied. -/
theorem execEntryBatch_one (s : State) (k : Nat) (q : Rec) (l : List Byte) (addr : Nat) (x : State × Entered) (h : Running s k C.ENTRY_BATCH q)
    (hc : q.req.arg A.ENTRY_BATCH_COUNT = 1) (haddr : addr = q.req.arg64 A.ENTRY_BATCH_HOST_ADDR_LO A.ENTRY_BATCH_HOST_ADDR_HI)
    (hrun : s.clerksRun = false) (hhalt : s.clerksHalted = false) (hl : s.hostRead addr 64 = some l) (hx : s.batchRecord l = x) (hst : x.2.status = 0) :
    ∃ t, execEntryBatch (.record k) s = .next t
      ∧ Completed (x.1.hostWrite (addr + 8) (w32 (x.2.outcome + 256 * x.2.moves) ++ w32 x.2.slot)) t k q 0 0
        (respParams C.ENTRY_BATCH q.req 0 (w32 1 ++ w32 0 ++ w32 1)) := by
  have hone : s.batchRecords addr (q.req.on A.ENTRY_BATCH_CONTINUE) 1 0 {}
      = (x.1.hostWrite (addr + 8) (w32 (x.2.outcome + 256 * x.2.moves) ++ w32 x.2.slot), { applied := 1 }, true) := by
    unfold State.batchRecords
    dsimp only
    rw [Nat.mul_zero, Nat.add_zero, hl]
    dsimp only
    rw [hx, hst, if_pos rfl]
    rfl
  have hact : entryBatchAct q.req q.note s = .ok (x.1.hostWrite (addr + 8) (w32 (x.2.outcome + 256 * x.2.moves) ++ w32 x.2.slot)) (w32 1 ++ w32 0 ++ w32 1) := by
    unfold entryBatchAct
    dsimp only
    rw [hhalt, if_neg Bool.false_ne_true, hc, ← haddr, hone]
    rfl
  refine ⟨_, congrArg Host.Outcome.next ((if_neg (by rw [hrun, Bool.false_and]; exact Bool.false_ne_true)).trans (h.completes hact _ _)), State.completeRec_completed _ k q 0 0 _⟩

end Sys2Proof.Machine

namespace Sys2Proof.Machine

/-! ### Parity and the head of an entry -/

theorem popCount_succ (n v : Nat) : popCount (n + 1) v = popCount n v + b2n (v.testBit n) := by
  unfold popCount idxs
  rw [List.range_succ, List.filter_append, List.length_append, List.filter_singleton]
  cases v.testBit n <;> rfl

/-- A bit that was 0 counts as it is set. -/
theorem popCount_change {x y k : Nat} (hx : x.testBit k = false) (hy : ∀ i, i ≠ k → y.testBit i = x.testBit i) (n : Nat) :
    popCount n y = popCount n x + if k < n then b2n (y.testBit k) else 0 := by
  induction n with
  | zero => rfl
  | succ n ih =>
    rw [popCount_succ, popCount_succ, ih]
    obtain rfl | hne := eq_or_ne n k
    · rw [hx, if_neg (Nat.lt_irrefl _), if_pos (Nat.lt_succ_self _)]
      rfl
    · rw [hy n hne, ite_congr (propext (by omega : k < n ↔ k < n + 1)) (fun _ => rfl) (fun _ => rfl)]
      omega

/-- A slot written with its parity passes the check. -/
theorem slotOk_withParity (v : Nat) : slotOk (withParity v) = true := by
  have hx : (noHit (putBits v 31 1 0)).testBit 31 = false := (bit_putBits_ne _ 9 1 0 31 (by omega)).trans (bit_putBits_zero v 31)
  have hy : ∀ i, i ≠ 31 → (noHit (withParity v)).testBit i = (noHit (putBits v 31 1 0)).testBit i := by
    intro i hi
    obtain rfl | h9 := eq_or_ne i 9
    · exact (bit_putBits_zero _ 9).trans (bit_putBits_zero _ 9).symm
    · refine (bit_putBits_ne _ 9 1 0 i (by omega)).trans (Eq.trans ?_ (bit_putBits_ne _ 9 1 0 i (by omega)).symm)
      exact (bit_withParity v hi).trans (bit_putBits_ne v 31 1 0 i (by omega)).symm
  have hself : (noHit (withParity v)).testBit 31 = (popCount 128 (noHit (putBits v 31 1 0)) % 2 % 2 == 1) :=
    (bit_putBits_ne _ 9 1 0 31 (by omega)).trans (bit_putBits_same v 31 _)
  unfold slotOk
  rw [popCount_change hx hy, if_pos (by decide), hself]
  obtain h | h := Nat.mod_two_eq_zero_or_one (popCount 128 (noHit (putBits v 31 1 0)))
  · rw [h, Nat.add_mod, h]; rfl
  · rw [h, Nat.add_mod, h]; rfl

theorem slotOk_entryValue (x j old : Nat) : slotOk (entryValue x j old) = slotOk x := by
  unfold slotOk
  rw [noHit_entryValue]

theorem bits_entryValue (x j old : Nat) {lo wd : Nat} (h : lo + wd ≤ 9 ∨ 10 ≤ lo) : bits (entryValue x j old) lo wd = bits x lo wd := by
  unfold entryValue
  split
  · exact bits_putBits_ne _ _ _ _ _ _ h
  · rfl

theorem bit_entryValue_zero (x j old : Nat) : bit (entryValue x j old) 0 = bit x 0 := by
  unfold entryValue
  split
  · exact bit_putBits_ne _ _ _ _ _ (by omega)
  · rfl

/-- The head of an entry that an insert makes (R295). -/
theorem makeEntry_head {span g result : Nat} (static : Bool) (key : List Byte) (hspan : span < 3) (hg : g < 16) (hr : result < 2 ^ 32) :
    ∃ x, (makeEntry span g static 0 0 result key)[0]? = some x ∧ slotResult x = result ∧ slotLedger x = g ∧ slotLive x = true := by
  have hb : b2n static ≤ 1 := by cases static <;> decide
  unfold makeEntry
  dsimp only
  rw [List.getElem?_map, List.getElem?_range (spanSlots_pos span)]
  refine ⟨_, rfl, ?_, ?_, ?_⟩
  · rw [slotResult_withParity, if_pos rfl, slotResult, bits]
    omega
  · rw [slotLedger, bits_withParity _ (by omega), if_pos rfl, bits]
    omega
  · rw [slotLive, slotOk_withParity, Bool.and_true, bit_withParity _ (by omega), if_pos rfl, bit, Nat.testBit_zero]
    simp only [decide_eq_true_eq]
    omega


/-! ### ENTRY_WRITE -/

theorem spanSlots_cases (span : Nat) : spanSlots span = 1 ∨ spanSlots span = 2 ∨ spanSlots span = 4 := by
  unfold spanSlots
  obtain h | h | h | h : span = 0 ∨ span = 1 ∨ span = 2 ∨ 3 ≤ span := by omega
  · exact .inl (by rw [h]; rfl)
  · exact .inr (.inl (by rw [h]; rfl))
  · exact .inr (.inr (by rw [h]; rfl))
  · exact .inl (List.getD_eq_default _ _ h)

theorem aligned_fits {p n : Nat} (hp : p < 4) (hn : n = 1 ∨ n = 2 ∨ n = 4) (ha : p % n = 0) : p + n ≤ 4 := by
  obtain rfl | rfl | rfl := hn <;> omega

/-- A free place has room for the entry in its bucket. -/
theorem freeIn_fits {img : List Nat} {span p : Nat} (h : freeIn img span = some p) : p + spanSlots span ≤ 4 := by
  have hlt := lowest_lt h
  unfold freeIn lowest at h
  obtain ⟨ha, -⟩ := List.find?_range_eq_some.1 h
  exact aligned_fits hlt (spanSlots_cases span) (beq_iff_eq.1 (Bool.and_eq_true_iff.1 ha).1)

theorem State.ledgerSpan_lt (s : State) (g : Nat) : s.ledgerSpan g < 3 := by
  have hlt : s.fld F.LDG_LEDGER_CFG_SPAN g < 4 := bits_lt _ _ _
  unfold State.ledgerSpan
  split <;> omega

theorem State.maxEntries_le (s : State) (g : Nat) : s.maxEntries g ≤ 1048576 := by
  unfold State.maxEntries clamp
  dsimp only
  split <;> omega

theorem State.ledgerStat_clerk (s : State) (g k w : Nat) : (s.ledgerStat g k).clerk w = s.clerk w := by
  rw [State.clerk, State.ledgerStat, State.count64_ldg, State.clerk]

/-- A new entry written, counted and told (R307). -/
def State.entered (s : State) (g b p : Nat) (slots : List Nat) : State := ((s.writeEntry b p slots).addCount g).ledgerStat g 2

/-- A new key goes into the lowest free place of its first bucket where there is one (R307). -/
theorem State.insertNew_placed (s : State) {g p w : Nat} {key : List Byte} {c : Nat × Nat} (result : Nat) (static : Bool) (hc : s.candidates g key = c)
    (hkey : padKey (s.keyBytes g) key = key) (hw : wardOf c.1 = w) (h0 : (s.bucket (w % 4) c.1).all slotOk = true)
    (h1 : (s.bucket (w % 4) c.2).all slotOk = true) (hmax : s.fld F.LDG_LEDGER_COUNT_VALUE g < s.maxEntries g)
    (hp : freeIn (s.bucket (w % 4) c.1) (s.ledgerSpan g) = some p) :
    s.insertNew g key result static = (s.entered g c.1 p (makeEntry (s.ledgerSpan g) g static 0 0 result key), .placed c.1 p 0) := by
  unfold State.insertNew State.entered
  dsimp only
  rw [hkey, hc, if_neg (Nat.not_le_of_lt hmax), hw, s.clerkRead_whole w c.1 h0]
  dsimp only
  rw [s.clerkRead_whole w c.2 h1, hp, if_pos rfl]

theorem State.enterEntry_whole (s : State) {g w : Nat} {key : List Byte} {c : Nat × Nat} (op result : Nat) (static : Bool) (bytes : List Byte)
    (hkey : key = padKey (s.keyBytes g) bytes) (hc : c = s.candidates g key) (hw : w = wardOf c.1) (h0 : (s.bucket (w % 4) c.1).all slotOk = true)
    (h1 : (s.bucket (w % 4) c.2).all slotOk = true) :
    s.enterEntry g op static result bytes = s.entryOn g op static result key (s.copiesOf (w % 4) g key) := by
  subst hkey hc hw
  unfold State.enterEntry
  dsimp only
  rw [s.clerkRead_whole _ _ h0]
  dsimp only
  rw [s.clerkRead_whole _ _ h1]

section
variable (s : State) {g b p : Nat} {slots : List Nat}

theorem State.entered_arrays : (s.entered g b p slots).arrays = (s.writeEntry b p slots).arrays := by
  rw [State.entered, State.ledgerStat_arrays, State.addCount_arrays]

theorem State.entered_slot (r n : Nat) : (s.entered g b p slots).slot r n = (s.writeEntry b p slots).slot r n := State.slot_congr s.entered_arrays r n

variable (hn : 4 * b + p + slots.length ≤ 2 ^ 20)
include hn

theorem State.entered_clerk (w : Nat) : (s.entered g b p slots).clerk w = s.clerk w := by
  rw [State.entered, State.ledgerStat_clerk, State.addCount_clerk, (s.writeEntry_storeOnly hn).clerk]

variable (hg : g < 16)
include hg

/-- An insert counts its entry. -/
theorem State.entered_count (hroom : s.fld F.LDG_LEDGER_COUNT_VALUE g < 1048576) :
    (s.entered g b p slots).fld F.LDG_LEDGER_COUNT_VALUE g = s.fld F.LDG_LEDGER_COUNT_VALUE g + 1 := by
  have hkey := ledger_count_key g
  have hstatus (w : Nat) : R.LDG_LEDGER_COUNT.key g ≠ R.CLRK_STATUS.key w := by rw [hkey, clrk_status_key]; omega
  rw [State.entered, State.ledgerStat_fld _ hg (by decide) (.inl (by show R.LDG_LEDGER_COUNT.key g < _; omega)), State.addCount, State.inc, State.addSat,
    State.fld_setF_same _ _ _ _ (by decide), (s.writeEntry_storeOnly hn).fld hstatus]
  show satBits 21 _ % 2 ^ 21 = _
  unfold satBits
  omega

end

/-- ENTRY_WRITE answers what its entry operation came to. -/
theorem State.entryWriteAct_ok {s : State} {r : Req} {u : State} {e : Entered}
    (hx : s.enterEntry r.index (r.arg A.ENTRY_WRITE_OP) (r.on A.ENTRY_WRITE_STATIC) (r.arg A.ENTRY_WRITE_RESULT) (r.bytes A.ENTRY_WRITE_KEY) = (u, e))
    (he : e.status = 0) : s.entryWriteAct r = .ok u (w32 (e.outcome + 256 * e.moves) ++ w32 e.slot) := by
  unfold State.entryWriteAct
  rw [hx]
  dsimp only
  rw [he, if_pos rfl]

section
variable {s : State} {m g w : Nat} {r : Req} {key : List Byte} {c : Nat × Nat} (h : Ready s m C.ENTRY_WRITE s.entryWriteChecks r) (hg : g = r.index)
  (hkey : key = padKey (s.keyBytes g) (r.bytes A.ENTRY_WRITE_KEY)) (hc : c = s.candidates g key) (hw : w = wardOf c.1) (hidle : s.clerkState w = 0)
  (hurg : (s.clerk w).urgent = 0) (h0 : (s.bucket (w % 4) c.1).all slotOk = true) (h1 : (s.bucket (w % 4) c.2).all slotOk = true)
include h hg hkey hc hw hidle hurg

theorem entryWrite_answered {u : State} {st d : Nat} {own : List Byte} (hu : u.clerk w = s.clerk w) (ha : s.entryWriteAct r = .done u st d own) :
    Answered u (s.runClerkCmd m C.ENTRY_WRITE s.entryWriteChecks s.entryWriteWards s.entryWriteAct) m r st d (respParams C.ENTRY_WRITE r st own) := by
  refine h.clerkAnswered (h.mode_ne_zero (by rfl) (by decide)) (w := w) ?_ hidle (by rw [hu, hurg]) ha (s.entryWriteAct_fixed r)
  subst hg hkey hc hw
  rfl

include h0 h1

/-- ENTRY_WRITE of a new key: the entry in the lowest free place of its first bucket in every replica (R307, R328). -/
theorem execEntryWrite_new (p : Nat) (hnone : s.copiesOf (w % 4) g key = []) (hop : r.arg A.ENTRY_WRITE_OP ≠ 3)
    (hmax : s.fld F.LDG_LEDGER_COUNT_VALUE g < s.maxEntries g) (hp : freeIn (s.bucket (w % 4) c.1) (s.ledgerSpan g) = some p) :
    ∃ u t, execEntryWrite m s = .next t
      ∧ (∀ k j v, k ∈ replicas → (makeEntry (s.ledgerSpan g) g (r.on A.ENTRY_WRITE_STATIC) 0 0 (r.arg A.ENTRY_WRITE_RESULT) key)[j]? = some v →
          noHit (u.slot k (4 * c.1 + p + j)) = noHit v)
      ∧ (∀ k, k ∈ replicas → slotResult (u.slot k (4 * c.1 + p)) = r.arg A.ENTRY_WRITE_RESULT ∧ slotLedger (u.slot k (4 * c.1 + p)) = g
        ∧ slotLive (u.slot k (4 * c.1 + p)) = true)
      ∧ (∀ k n, k ∈ replicas → n < 2 ^ 20 → n / 4 ≠ c.1 → u.slot k n = s.slot k n)
      ∧ u.fld F.LDG_LEDGER_COUNT_VALUE g = s.fld F.LDG_LEDGER_COUNT_VALUE g + 1
      ∧ Answered u t m r 0 0 (respParams C.ENTRY_WRITE r 0 (w32 0 ++ w32 (4 * c.1 + p))) := by
  have hg16 : g < 16 := hg ▸ Req.index_lt h.target
  have hr : r.arg A.ENTRY_WRITE_RESULT < 2 ^ 32 := Req.arg_lt r A.ENTRY_WRITE_RESULT
  have hspan := s.ledgerSpan_lt g
  have hfit := freeIn_fits hp
  have hbucket : c.1 < 2 ^ 18 := by
    obtain ⟨w, a0, a1, hw8, ha0, -, hcand⟩ := s.candidates_ward g key
    rw [hc, hcand]
    dsimp only
    omega
  obtain ⟨x, hx, hresult, hledger, hlive⟩ := makeEntry_head (r.on A.ENTRY_WRITE_STATIC) key hspan hg16 hr
  have hlt := makeEntry_lt (r.on A.ENTRY_WRITE_STATIC) key (Nat.lt_succ_of_lt hspan) hg16 (by decide : 0 < 2) hr
  have hlen := makeEntry_length (s.ledgerSpan g) g (r.on A.ENTRY_WRITE_STATIC) 0 0 (r.arg A.ENTRY_WRITE_RESULT) key
  have hins := s.insertNew_placed (r.arg A.ENTRY_WRITE_RESULT) (r.on A.ENTRY_WRITE_STATIC) hc.symm (by rw [hkey, State.padKey_keyBytes]) hw.symm h0 h1 hmax hp
  generalize makeEntry (s.ledgerSpan g) g (r.on A.ENTRY_WRITE_STATIC) 0 0 (r.arg A.ENTRY_WRITE_RESULT) key = slots at hx hlt hlen hins ⊢
  have hn : 4 * c.1 + p + slots.length ≤ 2 ^ 20 := by omega
  have hslot {k j v : Nat} (hk : k ∈ replicas) (hv : slots[j]? = some v) : (s.entered g c.1 p slots).slot k (4 * c.1 + p + j) = entryValue v j (s.slot k (4 * c.1 + p + j)) :=
    (s.entered_slot k _).trans (s.writeEntry_slot hn hlt (mem_replicas.1 hk) hv)
  have hact : s.enterEntry g (r.arg A.ENTRY_WRITE_OP) (r.on A.ENTRY_WRITE_STATIC) (r.arg A.ENTRY_WRITE_RESULT) (r.bytes A.ENTRY_WRITE_KEY)
      = (s.entered g c.1 p slots, ⟨0, 0, 0, 4 * c.1 + p⟩) := by
    rw [s.enterEntry_whole _ _ _ _ hkey hc hw h0 h1, hnone, State.entryOn, if_neg hop, hins]
    rfl
  rw [hg] at hact
  refine ⟨_, _, rfl, fun k j v hk hv => ?_, fun k hk => ?_, fun k n hk hn20 hout => ?_, ?_,
    entryWrite_answered h hg hkey hc hw hidle hurg (s.entered_clerk hn w) (hg ▸ State.entryWriteAct_ok hact rfl)⟩
  · rw [hslot hk hv, noHit_entryValue]
  · have hhead := hslot hk hx
    rw [Nat.add_zero] at hhead
    rw [hhead]
    exact ⟨(bits_entryValue _ _ _ (by omega)).trans hresult, (bits_entryValue _ _ _ (by omega)).trans hledger, by
      rw [slotLive, bit_entryValue_zero, slotOk_entryValue]; exact hlive⟩
  · exact (s.entered_slot k n).trans (s.writeEntry_kept hn k n (mem_replicas.1 hk) hn20 (by omega))
  · exact s.entered_count hn hg16 (Nat.lt_of_lt_of_le hmax (s.maxEntries_le g))

/-- ENTRY_WRITE that deletes a key that is not there. -/
theorem execEntryWrite_absent (hnone : s.copiesOf (w % 4) g key = []) (hop : r.arg A.ENTRY_WRITE_OP = 3) :
    ∃ t, execEntryWrite m s = .next t ∧ Answered s t m r 0x0302 0 (respParams C.ENTRY_WRITE r 0x0302 []) := by
  refine ⟨_, rfl, entryWrite_answered h hg hkey hc hw hidle hurg rfl ?_⟩
  have hact : s.enterEntry g (r.arg A.ENTRY_WRITE_OP) (r.on A.ENTRY_WRITE_STATIC) (r.arg A.ENTRY_WRITE_RESULT) (r.bytes A.ENTRY_WRITE_KEY)
      = (s, ⟨0x0302, 0, 0, 0⟩) := by
    rw [s.enterEntry_whole _ _ _ _ hkey hc hw h0 h1, hnone, State.entryOn, if_pos hop]
  rw [hg] at hact
  unfold State.entryWriteAct
  rw [hact]
  rfl

end

end Sys2Proof.Machine

namespace Sys2Proof.Machine

/-! ### Slots cleared -/

theorem slotAt_apart {r k n i : Nat} (h : slotAt r n ≠ slotAt k i) : slotAt k i + 16 ≤ slotAt r n ∨ slotAt r n + 16 ≤ slotAt k i := by
  unfold slotAt at h ⊢
  omega

theorem State.slot_putSlot_apart (s : State) {r k n i : Nat} (v : Nat) (h : slotAt r n ≠ slotAt k i) : (s.putSlot r n v).slot k i = s.slot k i := by
  unfold State.slot State.arrNat State.arr State.putSlot State.putArr
  rw [Tab.getList_setList_ne _ _ _ _ _ _ (by rw [leBytes_length]; exact slotAt_apart h)]

/-- From `s` to `t` only slots of the ledger store change, and those to 0. -/
structure Wipes (s t : State) : Prop where
  rest : t = { s with arrays := t.arrays }
  zero : ∀ k i, t.slot k i = 0 ∨ t.slot k i = s.slot k i

theorem Wipes.trans {s t u : State} (h : Wipes s t) (g : Wipes t u) : Wipes s u where
  rest := by rw [g.rest, h.rest]
  zero k i := by
    obtain hz | hz := g.zero k i
    · exact .inl hz
    · rw [hz]
      exact h.zero k i

/-- What is clear stays clear. -/
theorem Wipes.clear {s t : State} (h : Wipes s t) {k i : Nat} (hz : s.slot k i = 0) : t.slot k i = 0 := by
  obtain h0 | h0 := h.zero k i
  · exact h0
  · rw [h0, hz]

theorem Wipes.putSlot (s : State) (r n : Nat) : Wipes s (s.putSlot r n 0) where
  rest := rfl
  zero k i := by
    by_cases h : slotAt r n = slotAt k i
    · refine .inl ?_
      rw [State.slot, ← h]
      exact s.slot_putSlot_same r n (by decide)
    · exact .inr (s.slot_putSlot_apart 0 h)

theorem Wipes.each {α : Type} (f : α → State → State) (h : ∀ x s, Wipes s (f x s)) (l : List α) (s : State) : Wipes s (s.each l f) := by
  induction l generalizing s with
  | nil => exact ⟨rfl, fun _ _ => .inr rfl⟩
  | cons x l ih => exact (h x s).trans (ih (f x s))

/-- What one element of a list clears is clear once all have acted. -/
theorem Wipes.each_clear {α : Type} {f : α → State → State} (h : ∀ x s, Wipes s (f x s)) {x : α} {k i : Nat} (hx : ∀ s, (f x s).slot k i = 0) {l : List α}
    (hl : x ∈ l) (s : State) : (s.each l f).slot k i = 0 := by
  induction l generalizing s with
  | nil => cases hl
  | cons y l ih =>
    rw [State.each_cons]
    obtain rfl | hm := List.mem_cons.1 hl
    · exact (Wipes.each f h l _).clear (hx s)
    · exact ih hm (f y s)

/-- The entry at slot `n` of replica `r` cleared. -/
def State.wipe (n r : Nat) (s : State) : State := s.each (List.range (spanSlots (slotSpan (s.slot r n)))) fun k s => s.putSlot r (n + k) 0

theorem State.wipe_wipes (n r : Nat) (s : State) : Wipes s (s.wipe n r) := Wipes.each _ (fun k s => Wipes.putSlot s r (n + k)) _ s

theorem State.wipe_slot (s : State) (n r : Nat) {j : Nat} (hj : j < spanSlots (slotSpan (s.slot r n))) : (s.wipe n r).slot r (n + j) = 0 :=
  Wipes.each_clear (f := fun k s => s.putSlot r (n + k) 0) (fun k s => Wipes.putSlot s r (n + k))
    (fun s => s.slot_putSlot_same r (n + j) (by decide)) (List.mem_range.2 hj) s

theorem State.wipe_kept (s : State) {n r k i : Nat} (h : slotAt k i < slotAt r n ∨ slotAt r n + 16 * spanSlots (slotSpan (s.slot r n)) ≤ slotAt k i) :
    (s.wipe n r).slot k i = s.slot k i := by
  refine State.each_keeps_mem (fun s => s.slot k i) _ _ s fun j hj t => t.slot_putSlot_apart 0 ?_
  have hj := List.mem_range.1 hj
  unfold slotAt at h ⊢
  omega

section
variable (s : State) {n : Nat} (hn : n < 2 ^ 20)

theorem State.eraseEntry_eq (b p : Nat) : s.eraseEntry b p = (s.touch b).each replicas (State.wipe (4 * b + p)) := (rfl)

theorem State.eraseEntry_wipes (b p : Nat) : Wipes (s.touch b) (s.eraseEntry b p) := Wipes.each _ (State.wipe_wipes (4 * b + p)) replicas _

/-- A replica's head is found where it stood while the entry of another replica is cleared. -/
theorem State.wipe_head {r k : Nat} (h : r ≠ k) : (s.wipe n r).slot k n = s.slot k n := by
  have hle := spanSlots_le (slotSpan (s.slot r n))
  refine s.wipe_kept ?_
  unfold slotAt
  omega

theorem State.each_wipe_slot {l : List Nat} {k j : Nat} (hk : k ∈ l) (hj : j < spanSlots (slotSpan (s.slot k n))) :
    (s.each l (State.wipe n)).slot k (n + j) = 0 := by
  induction l generalizing s with
  | nil => cases hk
  | cons r l ih =>
    rw [State.each_cons]
    by_cases hr : r = k
    · subst hr
      exact (Wipes.each _ (State.wipe_wipes n) l _).clear (s.wipe_slot n r hj)
    · exact ih _ ((List.mem_cons.1 hk).resolve_left (Ne.symm hr)) (by rwa [s.wipe_head hr])

/-- An erased entry leaves no slot of it in any replica. -/
theorem State.eraseEntry_clear {k j : Nat} (hk : k ∈ replicas) (hj : j < spanSlots (slotSpan (s.slot k n))) :
    (s.eraseEntry (n / 4) (n % 4)).slot k (n + j) = 0 := by
  rw [s.eraseEntry_eq, Nat.div_add_mod]
  exact State.each_wipe_slot _ hk (by rwa [State.touch_slot])

include hn

/-- Replica 0 keeps its slots outside the entry cleared. -/
theorem State.each_wipe_kept (l : List Nat) {i : Nat} (hi : i < 2 ^ 20) (ho : i < n ∨ n + spanSlots (slotSpan (s.slot 0 n)) ≤ i) :
    (s.each l (State.wipe n)).slot 0 i = s.slot 0 i := by
  induction l generalizing s with
  | nil => rfl
  | cons r l ih =>
    have hstep : (s.wipe n r).slot 0 i = s.slot 0 i := by
      refine s.wipe_kept ?_
      obtain rfl | hr := Nat.eq_zero_or_pos r
      · unfold slotAt
        omega
      · unfold slotAt
        omega
    rw [State.each_cons, ih, hstep]
    obtain h | h := (s.wipe_wipes n r).zero 0 n
    · have hpos := spanSlots_pos (slotSpan (s.slot 0 n))
      rw [h, show spanSlots (slotSpan 0) = 1 from rfl]
      omega
    · rwa [h]

theorem State.eraseEntry_others {i : Nat} (hi : i < 2 ^ 20) (ho : i < n ∨ n + spanSlots (slotSpan (s.slot 0 n)) ≤ i) :
    (s.eraseEntry (n / 4) (n % 4)).slot 0 i = s.slot 0 i := by
  rw [s.eraseEntry_eq, Nat.div_add_mod, State.each_wipe_kept _ hn replicas hi (by rwa [State.touch_slot]), State.touch_slot]

end

theorem State.eraseEntry_clears (s : State) (b p : Nat) {k i : Nat} (h : s.slot k i = 0) : (s.eraseEntry b p).slot k i = 0 :=
  (s.eraseEntry_wipes b p).clear (by rwa [State.touch_slot])

theorem State.eraseEntry_store (s : State) (b p : Nat) : StoreOnly s (s.eraseEntry b p) :=
  (StoreOnly.touch s b).trans (StoreOnly.of_rest (s.eraseEntry_wipes b p).rest)

end Sys2Proof.Machine

namespace Sys2Proof.Machine

/-! ### ENTRY_WRITE of a delete -/

/-- An entry erased, taken from the count and told (R307, R321). -/
def State.dropEntry (s : State) (g k n : Nat) : State := ((s.eraseEntry (n / 4) (n % 4)).subCount g).ledgerStat g k

section
variable (s : State) (g k n : Nat)

theorem State.dropEntry_arrays : (s.dropEntry g k n).arrays = (s.eraseEntry (n / 4) (n % 4)).arrays := by
  rw [State.dropEntry, State.ledgerStat_arrays, State.subCount_arrays]

theorem State.dropEntry_slot (r i : Nat) : (s.dropEntry g k n).slot r i = (s.eraseEntry (n / 4) (n % 4)).slot r i := State.slot_congr (s.dropEntry_arrays g k n) r i

theorem State.dropEntry_clerk (w : Nat) : (s.dropEntry g k n).clerk w = s.clerk w := by
  rw [State.dropEntry, State.ledgerStat_clerk, State.subCount_clerk, (s.eraseEntry_store _ _).clerk]

theorem State.dropEntry_count (hg : g < 16) (hk : k < 8) : (s.dropEntry g k n).fld F.LDG_LEDGER_COUNT_VALUE g = s.fld F.LDG_LEDGER_COUNT_VALUE g - 1 := by
  have hkey := ledger_count_key g
  have hstatus (w : Nat) : R.LDG_LEDGER_COUNT.key g ≠ R.CLRK_STATUS.key w := by rw [hkey, clrk_status_key]; omega
  have hlt : s.fld F.LDG_LEDGER_COUNT_VALUE g < 2 ^ 21 := bits_lt _ _ _
  rw [State.dropEntry, State.ledgerStat_fld _ hg hk (.inl (by show R.LDG_LEDGER_COUNT.key g < _; omega)), State.subCount, State.dec,
    State.fld_setF_same _ _ _ _ (by decide), (s.eraseEntry_store _ _).fld hstatus]
  exact Nat.mod_eq_of_lt (Nat.lt_of_le_of_lt (Nat.sub_le _ _) hlt)

end

section
variable {s : State} {m g w : Nat} {r : Req} {key : List Byte} {c : Nat × Nat} (h : Ready s m C.ENTRY_WRITE s.entryWriteChecks r) (hg : g = r.index)
  (hkey : key = padKey (s.keyBytes g) (r.bytes A.ENTRY_WRITE_KEY)) (hc : c = s.candidates g key) (hw : w = wardOf c.1) (hidle : s.clerkState w = 0)
  (hurg : (s.clerk w).urgent = 0) (h0 : (s.bucket (w % 4) c.1).all slotOk = true) (h1 : (s.bucket (w % 4) c.2).all slotOk = true)
include h hg hkey hc hw hidle hurg h0 h1

/-- ENTRY_WRITE that deletes a key: its copy cleared in every replica (R321, R328). -/
theorem execEntryWrite_delete (n : Nat) (hcopy : s.copiesOf (w % 4) g key = [n]) (hop : r.arg A.ENTRY_WRITE_OP = 3) :
    ∃ u t, execEntryWrite m s = .next t
      ∧ (∀ k j, k ∈ replicas → j < spanSlots (slotSpan (s.slot k n)) → u.slot k (n + j) = 0)
      ∧ u.fld F.LDG_LEDGER_COUNT_VALUE g = s.fld F.LDG_LEDGER_COUNT_VALUE g - 1
      ∧ Answered u t m r 0 0 (respParams C.ENTRY_WRITE r 0 (w32 5 ++ w32 n)) := by
  have hg16 : g < 16 := hg ▸ Req.index_lt h.target
  have hact : s.enterEntry g (r.arg A.ENTRY_WRITE_OP) (r.on A.ENTRY_WRITE_STATIC) (r.arg A.ENTRY_WRITE_RESULT) (r.bytes A.ENTRY_WRITE_KEY)
      = (s.dropEntry g 4 n, ⟨0, 5, 0, n⟩) := by
    rw [s.enterEntry_whole _ _ _ _ hkey hc hw h0 h1, hcopy, State.entryOn, if_pos hop, State.deleteKey, State.each_cons, State.each_nil, State.dropEntry]
  rw [hg] at hact
  refine ⟨_, _, rfl, fun k j hk hj => ?_, s.dropEntry_count g 4 n hg16 (by decide),
    entryWrite_answered h hg hkey hc hw hidle hurg (s.dropEntry_clerk g 4 n w) (hg ▸ State.entryWriteAct_ok hact rfl)⟩
  rw [s.dropEntry_slot g 4 n]
  exact s.eraseEntry_clear hk hj

end

/-! ### GROUP_SET -/

theorem groupBucket_lt (n : Nat) : groupBucket n < 2 ^ 18 := by
  unfold groupBucket
  omega

theorem groupSlots_length (g p : Nat) : (groupSlots g p).length = 4 := by simp [groupSlots]

theorem groupSlots_lt {g : Nat} (p : Nat) (hg : g < 16) : ∀ x ∈ groupSlots g p, x < 2 ^ 128 := by
  intro x hx
  obtain ⟨k, -, rfl⟩ := List.mem_map.1 hx
  have hb : bits p (96 * k) 96 < 2 ^ 96 := bits_lt _ _ _
  refine withParity_lt ?_
  split <;> omega

/-- A group written and told as new or as changed (R329). -/
def State.grouped (s : State) (g b : Nat) (slots : List Nat) (fresh : Bool) : State :=
  if fresh then s.entered g b 0 slots else (s.writeEntry b 0 slots).ledgerStat g 3

section
variable (s : State) {g b : Nat} {slots : List Nat} (fresh : Bool)

theorem State.grouped_arrays : (s.grouped g b slots fresh).arrays = (s.writeEntry b 0 slots).arrays := by
  unfold State.grouped
  split
  · exact s.entered_arrays
  · exact State.ledgerStat_arrays _ _ _

variable (hn : 4 * b + 0 + slots.length ≤ 2 ^ 20) (hg : g < 16)
include hn

theorem State.grouped_clerk (w : Nat) : (s.grouped g b slots fresh).clerk w = s.clerk w := by
  unfold State.grouped
  split
  · exact s.entered_clerk hn w
  · rw [State.ledgerStat_clerk, (s.writeEntry_storeOnly hn).clerk]

include hg

/-- Whether a port is live does not depend on the groups written. -/
theorem State.grouped_live {p : Nat} (hp : p < 1024) : (s.grouped g b slots fresh).live p = s.live p := by
  have hkey : R.LDG_PORT_LIVE.key (p / 32) = 0x28000100 + p / 32 * 4 := (rfl)
  have hstat : R.LDG_PORT_LIVE.key (p / 32) < 0x28006000 ∨ 0x28006400 ≤ R.LDG_PORT_LIVE.key (p / 32) := .inl (by omega)
  have hwrite : (s.writeEntry b 0 slots).rd R.LDG_PORT_LIVE (p / 32) = s.rd R.LDG_PORT_LIVE (p / 32) :=
    (s.writeEntry_storeOnly hn).rd _ _ fun w => by rw [hkey, clrk_status_key]; omega
  unfold State.live State.grouped State.entered
  split
  · rw [State.ledgerStat_rd _ hg (by decide) hstat, State.addCount, State.inc, State.addSat,
      State.rd_setF_ne _ _ (by rw [hkey]; show _ ≠ R.LDG_LEDGER_COUNT.key g; rw [ledger_count_key]; omega), hwrite]
  · rw [State.ledgerStat_rd _ hg (by decide) hstat, hwrite]

end

theorem Req.member_lt (r : Req) (i : Nat) : r.member i < 1024 := bits_lt _ _ _

theorem maskOf_congr {n : Nat} {p q : Nat → Bool} (h : ∀ i, p i = q i) : maskOf n p = maskOf n q := congrArg (maskOf n) (funext h)

theorem execGroupSet_writes (s : State) (m : Nat) (r : Req) (g b : Nat) (h : Ready s m C.GROUP_SET s.groupSetChecks r) (hgl : s.groupLedger = some g)
    (hmax : r.index < s.maxEntries g) (hb : b = groupBucket r.index) (hidle : s.clerkState (r.index % 8) = 0) (hurg : (s.clerk (r.index % 8)).urgent = 0) :
    ∃ u t, execGroupSet m s = .next t
      ∧ (∀ k j, k ∈ replicas → j < 4 → noHit (u.slot k (4 * b + j)) = noHit ((groupSlots g (r.groupP r.index)).getD j 0))
      ∧ (∀ k n, k ∈ replicas → n < 2 ^ 20 → n / 4 ≠ b → u.slot k n = s.slot k n)
      ∧ Answered u t m r 0 0 (respParams C.GROUP_SET r 0 (w32 (maskOf (r.arg A.GROUP_SET_COUNT) fun i => s.live (r.member i)))) := by
  have hg : g < 16 := lowest_lt hgl
  have hb18 : b < 2 ^ 18 := hb ▸ groupBucket_lt r.index
  have hlen := groupSlots_length g (r.groupP r.index)
  have hlt := groupSlots_lt (r.groupP r.index) hg
  have hact : s.groupSetAct r = .ok (s.grouped g b (groupSlots g (r.groupP r.index)) !((s.bucket (r.index % 4) b).any fun v => bit v 0))
      (w32 (maskOf (r.arg A.GROUP_SET_COUNT)
        fun i => (s.grouped g b (groupSlots g (r.groupP r.index)) !((s.bucket (r.index % 4) b).any fun v => bit v 0)).live (r.member i))) := by
    subst hb
    unfold State.groupSetAct
    rw [hgl]
    dsimp only
    rw [if_neg (Nat.not_le_of_lt hmax)]
    rfl
  generalize (!((s.bucket (r.index % 4) b).any fun v => bit v 0)) = fresh at hact
  generalize groupSlots g (r.groupP r.index) = slots at hact hlen hlt ⊢
  have hn : 4 * b + 0 + slots.length ≤ 2 ^ 20 := by omega
  have hslots (k i : Nat) : (s.grouped g b slots fresh).slot k i = (s.writeEntry b 0 slots).slot k i := State.slot_congr (s.grouped_arrays fresh) k i
  rw [maskOf_congr fun i => s.grouped_live fresh hn hg (r.member_lt i)] at hact
  refine ⟨_, _, rfl, fun k j hk hj => ?_, fun k n hk hn20 hout => ?_,
    h.clerkAnswered (h.mode_ne_zero (by rfl) (by decide)) rfl hidle (by rw [s.grouped_clerk fresh hn, hurg]) hact (s.groupSetAct_fixed r)⟩
  · have hj' : j < slots.length := hlen ▸ hj
    have hw := s.writeEntry_slot hn hlt (mem_replicas.1 hk) (List.getElem?_eq_getElem hj')
    rw [Nat.add_zero] at hw
    rw [hslots, hw, noHit_entryValue, List.getD_eq_getElem _ _ hj']
  · exact (hslots k n).trans (s.writeEntry_kept hn k n (mem_replicas.1 hk) hn20 (by omega))

end Sys2Proof.Machine

namespace Sys2Proof.Machine

/-! ### LEDGER_FLUSH -/

theorem State.bucket_getD (s : State) (r n : Nat) : (s.bucket r (n / 4)).getD (n % 4) 0 = s.slot r n := by
  have hp : n % 4 < (s.bucket r (n / 4)).length := by rw [s.bucket_length]; exact Nat.mod_lt _ (by decide)
  rw [List.getD_eq_getElem _ _ hp]
  simp only [State.bucket, List.getElem_map, List.getElem_range, Nat.div_add_mod]

/-- An entry's head stands at slot `n` of replica 0, and no head within it (R298). -/
structure State.HeadAt (s : State) (n : Nat) : Prop where
  lt : n < 2 ^ 20
  head : bit (s.slot 0 n) 1 = true
  rest : ∀ j, 0 < j → j < spanSlots (slotSpan (s.slot 0 n)) → bit (s.slot 0 (n + j)) 1 = false

theorem State.headsOf_head (s : State) {g n : Nat} (h : n ∈ s.headsOf 0 g) : s.HeadAt n := by
  obtain ⟨hm, hf⟩ := List.mem_filter.1 h
  obtain ⟨e, -, he⟩ := List.mem_filterMap.1 hm
  obtain ⟨-, hwhole⟩ := Bool.and_eq_true_iff.1 hf
  unfold wholeAt at hwhole
  dsimp only at hwhole
  rw [s.bucket_getD] at hwhole
  simp only [Bool.and_eq_true, beq_iff_eq] at hwhole
  obtain ⟨⟨⟨-, hbit⟩, haligned⟩, htail⟩ := hwhole
  have hfit := aligned_fits (Nat.mod_lt n (by decide)) (spanSlots_cases (slotSpan (s.slot 0 n))) haligned
  refine ⟨?_, hbit, fun j hpos hj => ?_⟩
  · split at he
    · next hin =>
      obtain ⟨-, hhi, -⟩ := hin
      obtain rfl := Option.some.inj he
      unfold slotAt at hhi ⊢
      omega
    · cases he
  · have hget : (imageEntry (s.bucket 0 (n / 4)) (n % 4)).tail[j - 1]? = some (s.slot 0 (n + j)) := by
      rw [List.getElem?_tail, imageEntry, s.bucket_getD, List.getElem?_take_of_lt (by omega), List.getElem?_drop, State.bucket, List.getElem?_map,
        List.getElem?_range (by omega), Option.map_some]
      exact congrArg (fun i => some (s.slot 0 i)) (by omega)
    have hslot := List.all_eq_true.1 htail _ (List.mem_of_getElem? hget)
    simp only [Bool.and_eq_true, Bool.not_eq_true'] at hslot
    exact hslot.1.1.2

/-- Two entries share no slot. -/
theorem State.HeadAt.apart {s : State} {n m : Nat} (hn : s.HeadAt n) (hm : s.HeadAt m) (h : m ≠ n) : m < n ∨ n + spanSlots (slotSpan (s.slot 0 n)) ≤ m := by
  by_contra hin
  have hrest := hn.rest (m - n) (by omega) (by omega)
  rw [Nat.add_sub_cancel' (by omega), hm.head] at hrest
  cases hrest

/-- Slot after slot of the entry that stood at slot `n` is clear in replica 0. -/
def Cleared (s t : State) (n : Nat) : Prop := ∀ j, j < spanSlots (slotSpan (s.slot 0 n)) → t.slot 0 (n + j) = 0

/-- An entry of `s` that a flush has left as it stood, or erased because it is to be. -/
def Flushed (s t : State) (r : Req) (n : Nat) : Prop := t.slot 0 n = s.slot 0 n ∨ r.flushes (s.slot 0 n) = true ∧ Cleared s t n

/-- A flush at one head. -/
def flushStep (r : Req) (g : Nat) (x : State × Nat) (n : Nat) : State × Nat :=
  if r.flushes (x.1.slot 0 n) then (x.1.dropEntry g 4 n, x.2 + 1) else x

theorem State.flushLedger_eq (s : State) (r : Req) (a g : Nat) : s.flushLedger r a g = (s.headsOf 0 g).foldl (flushStep r g) (s, a) := (rfl)

section
variable {s : State} {r : Req} {g : Nat} {x : State × Nat}

theorem flushStep_clear {n m : Nat} (h : Cleared s x.1 m) : Cleared s (flushStep r g x n).1 m := by
  unfold flushStep
  split
  · exact fun j hj => (State.dropEntry_slot _ _ _ _ _ _).trans (State.eraseEntry_clears _ _ _ (h j hj))
  · exact h

/-- A flush at a head that is to go clears its entry. -/
theorem flushStep_clears {n : Nat} (h : Flushed s x.1 r n) (hr : r.flushes (s.slot 0 n) = true) : Cleared s (flushStep r g x n).1 n := by
  obtain heq | ⟨-, hc⟩ := h
  · intro j hj
    rw [flushStep, heq, if_pos hr]
    exact (State.dropEntry_slot _ _ _ _ _ _).trans (State.eraseEntry_clear _ (by decide) (by rwa [heq]))
  · exact flushStep_clear hc

theorem flushStep_flushed {n m : Nat} (hn : s.HeadAt n) (hm : s.HeadAt m) (h : Flushed s x.1 r n) (h' : Flushed s x.1 r m) :
    Flushed s (flushStep r g x n).1 r m := by
  obtain hkeep | ⟨hr, hc⟩ := h'
  · by_cases hx : r.flushes (x.1.slot 0 n) = true
    · obtain rfl | hne := eq_or_ne m n
      · have hr : r.flushes (s.slot 0 m) = true := hkeep ▸ hx
        exact .inr ⟨hr, flushStep_clears h hr⟩
      · refine .inl ?_
        rw [flushStep, if_pos hx, State.dropEntry_slot, State.eraseEntry_others _ hn.lt hm.lt, hkeep]
        obtain heq | ⟨-, hz⟩ := h
        · rw [heq]
          exact hn.apart hm hne
        · have hzero : x.1.slot 0 n = 0 := hz 0 (spanSlots_pos _)
          rw [hzero, show spanSlots (slotSpan 0) = 1 from rfl]
          omega
    · refine .inl ?_
      rw [flushStep, if_neg hx, hkeep]
  · exact .inr ⟨hr, flushStep_clear hc⟩

/-- A flush goes through the heads of a ledger: those it names are erased, the others stand. -/
theorem flushSteps_flushed {H : List Nat} (hH : ∀ n ∈ H, s.HeadAt n) (l : List Nat) (hl : l ⊆ H) (h : ∀ n ∈ H, Flushed s x.1 r n) :
    (∀ n ∈ H, Flushed s (l.foldl (flushStep r g) x).1 r n)
      ∧ ∀ n ∈ H, n ∈ l ∨ Cleared s x.1 n → r.flushes (s.slot 0 n) = true → Cleared s (l.foldl (flushStep r g) x).1 n := by
  induction l generalizing x with
  | nil => exact ⟨h, fun n _ hc _ => hc.resolve_left List.not_mem_nil⟩
  | cons n l ih =>
    obtain ⟨hnH, hlH⟩ := List.cons_subset.1 hl
    obtain ⟨hall, hdone⟩ := ih (x := flushStep r g x n) hlH fun m hm => flushStep_flushed (hH n hnH) (hH m hm) (h n hnH) (h m hm)
    refine ⟨hall, fun m hm hc hr => hdone m hm ?_ hr⟩
    obtain hin | hc := hc
    · obtain rfl | hin := List.mem_cons.1 hin
      · exact .inr (flushStep_clears (h m hm) hr)
      · exact .inl hin
    · exact .inr (flushStep_clear hc)

end

theorem State.flushLedger_flushes (s : State) (r : Req) (a g : Nat) :
    (∀ n ∈ s.headsOf 0 g, r.flushes (s.slot 0 n) = true → Cleared s (s.flushLedger r a g).1 n)
      ∧ ∀ n ∈ s.headsOf 0 g, r.flushes (s.slot 0 n) = false → (s.flushLedger r a g).1.slot 0 n = s.slot 0 n := by
  rw [s.flushLedger_eq]
  obtain ⟨hall, hdone⟩ := flushSteps_flushed (g := g) (x := (s, a)) (fun n hn => s.headsOf_head hn) _ (List.Subset.refl _) fun n _ => .inl (rfl : _ = s.slot 0 n)
  refine ⟨fun n hn => hdone n hn (.inl hn), fun n hn hr => (hall n hn).resolve_right fun hc => ?_⟩
  rw [hc.1] at hr
  cases hr

theorem State.freeClerks_arrays (s : State) : s.freeClerks.arrays = s.arrays := by
  refine State.each_keeps (fun s => s.arrays) _ _ s fun w t => ?_
  split <;> rfl

theorem State.discardCursor_arrays (s : State) (w : Nat) : (s.discardCursor w).arrays = s.arrays := by
  unfold State.discardCursor
  dsimp only
  rw [State.setF_arrays, State.setF_arrays, State.putClerk_arrays]
  split
  · rw [State.note_arrays, State.ldgStat, State.count64_arrays]
  · rfl

theorem State.discards_arrays (s : State) (gs l : List Nat) : (s.each l fun w t => if t.parkedIn gs w then t.discardCursor w else t).arrays = s.arrays := by
  refine State.each_keeps (fun s => s.arrays) _ _ s fun w t => ?_
  split
  · exact t.discardCursor_arrays w
  · rfl

theorem execLedgerFlush_flushes (s : State) (k : Nat) (q : Rec) (h : Running s k C.LEDGER_FLUSH q) (hrun : s.clerksRun = false)
    (hhalt : s.clerksHalted = false) (hall : q.req.all = false) : ∃ t, execLedgerFlush (.record k) s = .next t
      ∧ (∀ n ∈ s.headsOf 0 q.req.index, q.req.flushes (s.slot 0 n) = true → ∀ j, j < spanSlots (slotSpan (s.slot 0 n)) → t.slot 0 (n + j) = 0)
      ∧ (∀ n ∈ s.headsOf 0 q.req.index, q.req.flushes (s.slot 0 n) = false → t.slot 0 n = s.slot 0 n)
      ∧ ∃ x, t.rec? k = some x ∧ x.phase = 2 := by
  have hgs : s.flushed q.req = [q.req.index] := by rw [State.flushed, hall, if_neg Bool.false_ne_true]
  have hact : ∃ u own, ledgerFlushAct q.req q.note s = .ok u own ∧ u.arrays = (s.flushLedger q.req 0 q.req.index).1.arrays := by
    unfold ledgerFlushAct
    rw [hhalt, if_neg Bool.false_ne_true, hgs]
    exact ⟨_, _, rfl, by rw [State.freeClerks_arrays, State.discards_arrays]; rfl⟩
  obtain ⟨u, own, hact, harr⟩ := hact
  have hdone := State.completeRec_completed u k q 0 0 (respParams C.LEDGER_FLUSH q.req 0 own)
  have hslot (i : Nat) : (u.completeRec k q 0 0 (respParams C.LEDGER_FLUSH q.req 0 own)).slot 0 i = (s.flushLedger q.req 0 q.req.index).1.slot 0 i :=
    State.slot_congr (by rw [hdone.rest, harr]) 0 i
  obtain ⟨hgone, hkept⟩ := s.flushLedger_flushes q.req 0 q.req.index
  refine ⟨_, congrArg Host.Outcome.next ((if_neg (by rw [hrun, Bool.false_and]; exact Bool.false_ne_true)).trans (h.completes hact _ _)),
    fun n hn hr j hj => (hslot _).trans (hgone n hn hr j hj), fun n hn hr => (hslot n).trans (hkept n hn hr), _, hdone.done, rfl⟩

/-- Settles O28: the commands on the entries of a ledger and on its groups, by what their writes make of the buckets they touch and leave of the others. -/
theorem ledgersAreWritten : Obligations.LedgersAreWritten := by
  unfold Obligations.LedgersAreWritten
  refine ⟨fun s m r => ⟨fun g key c w h hg hkey hc hw hidle hurg h0 h1 =>
      ⟨execEntryWrite_new h hg hkey hc hw hidle hurg h0 h1, execEntryWrite_delete h hg hkey hc hw hidle hurg h0 h1,
        execEntryWrite_absent h hg hkey hc hw hidle hurg h0 h1⟩,
    fun g key w h hg hkey hw => ⟨execEntryFind_absent h hg hkey hw, execEntryFind_found h hg hkey hw⟩⟩,
    fun s => ⟨execGroupSet_writes s, fun k q l addr x h hc haddr => ⟨execEntryBatch_one s k q l addr x h hc haddr, execEntryBatch_waits s k⟩,
      execLedgerFlush_flushes s⟩⟩

end Sys2Proof.Machine
